-- ==== Sys2Proof/Word.lean ====
section
/-! DEFINITION. The word types of the DM-640: a 64-bit register or packet word and a byte (R9, R11). -/

namespace Sys2Proof

/-- A 64-bit register of the management window (R11). -/
abbrev Word := BitVec 64

/-- One byte of memory, of a payload or of a record (R9). -/
abbrev Byte := BitVec 8

end Sys2Proof
end

