-- ==== Sys2Proof/Machine/Tbl.lean ====
section
/-! DEFINITION. Sparse tables in one canonical form: keys strictly rising.  A table that has a default holds no
entry equal to it, so equal tables are equal data. -/

namespace Sys2Proof.Machine

/-- A sparse table: (key, value) pairs, keys strictly rising. -/
abbrev Tbl (α : Type) := List (Nat × α)

namespace Tbl

variable {α : Type}

/-- The entry at a key. -/
def get? : Tbl α → Nat → Option α
  | [], _ => none
  | (k', v) :: t, k => if k' = k then some v else get? t k

/-- The entry at a key, or the default. -/
def getD (t : Tbl α) (k : Nat) (d : α) : α := (get? t k).getD d

/-- Insert or replace. -/
def put : Tbl α → Nat → α → Tbl α
  | [], k, v => [(k, v)]
  | (k', v') :: t, k, v =>
    if k < k' then (k, v) :: (k', v') :: t
    else if k = k' then (k, v) :: t
    else (k', v') :: put t k v

/-- Remove a key. -/
def del (t : Tbl α) (k : Nat) : Tbl α := t.filter (fun e => e.1 != k)

/-- Store a value; a value equal to the default is held by listing nothing. -/
def store [DecidableEq α] (t : Tbl α) (k : Nat) (v d : α) : Tbl α :=
  if v = d then del t k else put t k v

/-- Change the entry at a key, if there is one. -/
def modify (t : Tbl α) (k : Nat) (f : α → α) : Tbl α :=
  t.map (fun e => if e.1 = k then (e.1, f e.2) else e)

/-- Keys strictly rising. -/
def sorted : Tbl α → Bool
  | [] => true
  | [_] => true
  | (k, _) :: (k', v) :: t => decide (k < k') && sorted ((k', v) :: t)

/-- The keys. -/
def keys (t : Tbl α) : List Nat := t.map Prod.fst

/-- The values. -/
def vals (t : Tbl α) : List α := t.map Prod.snd

/-- The least number of the range that is not a key. -/
def firstFree (t : Tbl α) (n : Nat) : Option Nat := (List.range n).find? (fun k => (get? t k).isNone)

end Tbl

end Sys2Proof.Machine
end

