-- ==== Sys2Proof/Machine/Bits.lean ====
section
/-! DEFINITION. Bit fields, little-endian byte strings and CRC-32C, shared by every chapter (R9, R10). -/

namespace Sys2Proof.Machine

/-- Bits [lo + width - 1 : lo] of a number (R9). -/
def bitsOf (v lo width : Nat) : Nat := v / 2 ^ lo % 2 ^ width

/-- `v` with bits [lo + width - 1 : lo] replaced by `x` (R9). -/
def withBits (v lo width x : Nat) : Nat :=
  v - bitsOf v lo width * 2 ^ lo + x % 2 ^ width * 2 ^ lo

/-- Bit `i` of a number. -/
def bitAt (v i : Nat) : Bool := v / 2 ^ i % 2 = 1

def setBit (v i : Nat) (b : Bool) : Nat := withBits v i 1 (if b then 1 else 0)

/-- The number a little-endian byte string spells (R10). -/
def leNat : List Byte → Nat
  | [] => 0
  | b :: bs => b.toNat + 256 * leNat bs

/-- The low `n` bytes of a number, little-endian (R10). -/
def natLe : (n v : Nat) → List Byte
  | 0, _ => []
  | n + 1, v => BitVec.ofNat 8 v :: natLe n (v / 256)

/-- The number a network-order byte string spells (R10, RoCEv2 headers). -/
def beNat (bs : List Byte) : Nat := leNat bs.reverse

/-- Bytes `lo` to `lo + n - 1` of a byte string, short where the string is. -/
def slice (bs : List Byte) (lo n : Nat) : List Byte := (bs.drop lo).take n

/-- The little-endian field of `n` bytes at byte `lo` of a descriptor, record or packet. -/
def field (bs : List Byte) (lo n : Nat) : Nat := leNat (slice bs lo n)

/-- Whether every byte of the string is zero. -/
def allZero (bs : List Byte) : Bool := bs.all (· == 0)

/-- `n` bytes of zero. -/
def zeros (n : Nat) : List Byte := List.replicate n 0

/-- The string cut or zero-filled to `n` bytes. -/
def padTo (n : Nat) (bs : List Byte) : List Byte := (bs ++ zeros n).take n

/-- One bit step of CRC-32C (Castagnoli polynomial, reflected 0x82F6_3B78). -/
def crcBit (c : Nat) : Nat :=
  if c % 2 = 1 then (c / 2) ^^^ 0x82F63B78 else c / 2

def crcByte (c : Nat) (b : Byte) : Nat :=
  crcBit (crcBit (crcBit (crcBit (crcBit (crcBit (crcBit (crcBit (c ^^^ b.toNat))))))))

/-- CRC-32C of a byte string (R139, R231, R399). -/
def crc32c (bs : List Byte) : Nat := (bs.foldl crcByte 0xFFFFFFFF) ^^^ 0xFFFFFFFF

/-- Ceiling division. -/
def ceilDiv (a b : Nat) : Nat := (a + b - 1) / b

/-- A counter of `width` bits that saturates at its maximum. -/
def satAdd (width v n : Nat) : Nat := min (v + n) (2 ^ width - 1)

/-- The two's complement value of the low `width` bits. -/
def toSigned (width v : Nat) : Int :=
  let x := v % 2 ^ width
  if x < 2 ^ (width - 1) then (x : Int) else (x : Int) - (2 ^ width : Nat)

/-- The low `width` bits of an integer. -/
def ofSigned (width : Nat) (i : Int) : Nat := (i % (2 ^ width : Nat)).toNat

/-- The bits set in the low `n` bits of a mask, in ascending order. -/
def bitsSet (n mask : Nat) : List Nat := (List.range n).filter (bitAt mask)

/-- The number of bits set in the low `n` bits of a mask. -/
def popCount (n mask : Nat) : Nat := (bitsSet n mask).length

/-- The mask of a list of bit positions. -/
def maskOf (l : List Nat) : Nat := l.foldl (fun m i => setBit m i true) 0

/-- Insert into an ordered list, after the entries it does not precede. -/
def insertBy {α : Type} (lt : α → α → Bool) (x : α) : List α → List α
  | [] => [x]
  | y :: l => if lt x y then x :: y :: l else y :: insertBy lt x l

/-- A list in the order of `lt`; equal entries keep their order. -/
def sortBy {α : Type} (lt : α → α → Bool) (l : List α) : List α := l.foldl (fun s x => insertBy lt x s) []

end Sys2Proof.Machine
end

