-- ==== Sys2Proof/Machine/Types.lean ====
section
/-! DEFINITION. The typed vocabulary of the commands and of the state: status codes, seats, channels, packets,
member, lane and queue states.  Fixed sets of names are inductive types with their encodings. -/

namespace Sys2Proof.Machine

/-- The status codes of R17 (spec/00). -/
inductive Status where
  | done | accepted
  | bounds | stateConflict | badDescriptor | quota
  | noXlate | revoked | keyMismatch | access
  | poison | doubleLoss | timeout | digestMismatch
  | short | busy
  | authFail | semNotHeld
  | internal
  deriving DecidableEq, Repr

/-- The 8-bit code of a status (R17). -/
def Status.code : Status → Nat
  | .done => 0x00 | .accepted => 0x01
  | .bounds => 0x10 | .stateConflict => 0x11 | .badDescriptor => 0x12 | .quota => 0x13
  | .noXlate => 0x20 | .revoked => 0x21 | .keyMismatch => 0x22 | .access => 0x23
  | .poison => 0x30 | .doubleLoss => 0x31 | .timeout => 0x32 | .digestMismatch => 0x33
  | .short => 0x40 | .busy => 0x41
  | .authFail => 0x50 | .semNotHeld => 0x51
  | .internal => 0xFF

/-- The status a code names; a reserved code is treated as `INTERNAL` (R17). -/
def Status.ofCode (c : Nat) : Status :=
  if c = 0x00 then .done else if c = 0x01 then .accepted
  else if c = 0x10 then .bounds else if c = 0x11 then .stateConflict
  else if c = 0x12 then .badDescriptor else if c = 0x13 then .quota
  else if c = 0x20 then .noXlate else if c = 0x21 then .revoked
  else if c = 0x22 then .keyMismatch else if c = 0x23 then .access
  else if c = 0x30 then .poison else if c = 0x31 then .doubleLoss
  else if c = 0x32 then .timeout else if c = 0x33 then .digestMismatch
  else if c = 0x40 then .short else if c = 0x41 then .busy
  else if c = 0x50 then .authFail else if c = 0x51 then .semNotHeld
  else .internal

/-- The two control seats (R78). -/
inductive SeatId where
  | a | b
  deriving DecidableEq, Repr

def SeatId.other : SeatId → SeatId
  | .a => .b | .b => .a

/-- Bank of a seat-relative register. -/
def SeatId.idx : SeatId → Nat
  | .a => 0 | .b => 1

/-- `CTL_SEM_n.OWNER` and `CTL_CHAN_n.SEAT`: 1 Seat A, 2 Seat B. -/
def SeatId.code : SeatId → Nat
  | .a => 1 | .b => 2

def SeatId.ofCode : Nat → Option SeatId
  | 1 => some .a | 2 => some .b | _ => none

/-- The three kinds of channel (R77): a queue pair of an own E-port, a queue pair of another member's E-port whose
accesses arrive on MGMT, and the I3C sideband. -/
inductive ChanId where
  | rdma (eport qpn : Nat)
  | forwarded (dev eport qpn : Nat)
  | i3c
  deriving DecidableEq, Repr

/-- The seat states of R84. -/
inductive SeatState where
  | unbound | bound | lost
  deriving DecidableEq, Repr

def SeatState.code : SeatState → Nat
  | .unbound => 0 | .bound => 1 | .lost => 2

/-- The member states of R24. -/
inductive MemberState where
  | absent | joining | active | spare | admitting | failed | retired
  deriving DecidableEq, Repr

def MemberState.code : MemberState → Nat
  | .absent => 0 | .joining => 1 | .active => 2 | .spare => 3 | .admitting => 4 | .failed => 5 | .retired => 6

def MemberState.ofCode : Nat → MemberState
  | 1 => .joining | 2 => .active | 3 => .spare | 4 => .admitting | 5 => .failed | 6 => .retired | _ => .absent

/-- The state of one lane of a port (R46, R255, R263). -/
inductive LaneState where
  | unused | training | up | down | held
  deriving DecidableEq, Repr

/-- The loader states of R66. -/
inductive SilState where
  | noImage | running | staging | verifying | checking | draining | applying
  deriving DecidableEq, Repr

def SilState.code : SilState → Nat
  | .noImage => 0 | .running => 1 | .staging => 2 | .verifying => 3 | .checking => 4 | .draining => 5 | .applying => 6

def SilState.ofCode : Nat → SilState
  | 1 => .running | 2 => .staging | 3 => .verifying | 4 => .checking | 5 => .draining | 6 => .applying | _ => .noImage

/-- The queue states of R129. -/
inductive QueueState where
  | disabled | enabled | stopping | error | sliceDrain | enabling
  deriving DecidableEq, Repr

def QueueState.code : QueueState → Nat
  | .disabled => 0 | .enabled => 1 | .stopping => 2 | .error => 3 | .sliceDrain => 4 | .enabling => 5

def QueueState.ofCode : Nat → QueueState
  | 1 => .enabled | 2 => .stopping | 3 => .error | 4 => .sliceDrain | 5 => .enabling | _ => .disabled

/-- The queue-pair states of R379. -/
inductive QpState where
  | reset | init | rtr | rts | error
  deriving DecidableEq, Repr

def QpState.code : QpState → Nat
  | .reset => 0 | .init => 1 | .rtr => 2 | .rts => 3 | .error => 4

def QpState.ofCode : Nat → QpState
  | 1 => .init | 2 => .rtr | 3 => .rts | 4 => .error | _ => .reset

/-- The states of a Quince core (R217). -/
inductive CoreState where
  | off | waking | idle | kernel | attend | resetting | faulted
  deriving DecidableEq, Repr

/-- The unit codes of the error record (R400). -/
inductive UnitCode where
  | ctl | sil | wq | jnl | xlt | tier | qnc | fab | sws | home | coll | emb | vs | eth | ras | sec | pwr | tst
  deriving DecidableEq, Repr

def UnitCode.code : UnitCode → Nat
  | .ctl => 0x01 | .sil => 0x02 | .wq => 0x03 | .jnl => 0x04 | .xlt => 0x05 | .tier => 0x06 | .qnc => 0x07
  | .fab => 0x08 | .sws => 0x09 | .home => 0x0A | .coll => 0x0B | .emb => 0x0C | .vs => 0x0D | .eth => 0x0E
  | .ras => 0x0F | .sec => 0x10 | .pwr => 0x11 | .tst => 0x12

/-- A fabric packet: header of R229 and payload sectors (R228).  `rsvd` collects every bit the header layout
calls zero or reserved; a packet with `rsvd` not 0 is malformed (R230).  `excess` is the switch core's own mark of a packet that a policer
admitted at the excess level (R320); it is not part of the packet's bytes. -/
structure Packet where
  op : Nat
  vc : Nat := 0
  tagged : Bool := false
  relayed : Bool := false
  noCombine : Bool := false
  combined : Bool := false
  pkey : Nat := 0xFFFF
  src : Nat := 0
  dst : Nat := 0
  size : Nat := 0
  poison : Nat := 0
  sectors : Nat := 0
  tag : Nat := 0
  epoch : Nat := 0
  addr : Nat := 0
  aux : Nat := 0
  status : Nat := 0
  atype : Nat := 0
  ctx : Nat := 0
  rsvd : Nat := 0
  payload : List Byte := []
  excess : Bool := false
  deriving DecidableEq, Repr

/-- The 32 B header (R229): every field at its bytes and bits.  `rsvd` holds the bits the layout calls zero: CTRL bit 7, SRC [7:6], DST [7:6],
SECT bit 7, CTX [15:13], from bit 0 up. -/
def Packet.header (p : Packet) : List Byte :=
  let bit (b : Bool) (k : Nat) : Nat := if b then 2 ^ k else 0
  natLe 1 p.op
    ++ natLe 1 (p.vc % 8 + bit p.tagged 3 + bit p.relayed 4 + bit p.noCombine 5 + bit p.combined 6 + bitsOf p.rsvd 0 1 * 128)
    ++ natLe 2 p.pkey ++ natLe 1 (p.src % 64 + bitsOf p.rsvd 1 2 * 64) ++ natLe 1 (p.dst % 64 + bitsOf p.rsvd 3 2 * 64)
    ++ natLe 1 p.size ++ natLe 1 (p.poison % 16 + p.sectors % 8 * 16 + bitsOf p.rsvd 5 1 * 128) ++ natLe 6 p.tag ++ natLe 2 p.epoch
    ++ natLe 8 p.addr ++ natLe 4 p.aux ++ natLe 1 p.status ++ natLe 1 p.atype ++ natLe 2 (p.ctx % 8192 + bitsOf p.rsvd 6 3 * 8192)

/-- The packet that 32 header bytes and a payload are (R228, R229). -/
def Packet.ofBytes (h payload : List Byte) : Packet :=
  let ctrl := field h 1 1
  { op := field h 0 1, vc := ctrl % 8, tagged := bitAt ctrl 3, relayed := bitAt ctrl 4, noCombine := bitAt ctrl 5, combined := bitAt ctrl 6,
    pkey := field h 2 2, src := field h 4 1 % 64, dst := field h 5 1 % 64, size := field h 6 1,
    poison := field h 7 1 % 16, sectors := bitsOf (field h 7 1) 4 3, tag := field h 8 6, epoch := field h 14 2, addr := field h 16 8,
    aux := field h 24 4, status := field h 28 1, atype := field h 29 1, ctx := field h 30 2 % 8192,
    rsvd := bitsOf ctrl 7 1 + bitsOf (field h 4 1) 6 2 * 2 + bitsOf (field h 5 1) 6 2 * 8 + bitsOf (field h 7 1) 7 1 * 32
      + bitsOf (field h 30 2) 13 3 * 64,
    payload := payload }

/-- The CRC-32C over header and payload (R231). -/
def Packet.crc (p : Packet) : Nat := crc32c (p.header ++ p.payload)

/-- The bytes of a packet on a link: header, payload and the 8 B tail of CRC and stomp code; a stomped packet carries the bitwise
complement of its CRC (R228, R231). -/
def Packet.wire (p : Packet) (stomp : Nat) : List Byte :=
  p.header ++ p.payload ++ natLe 4 (if stomp = 0 then p.crc else 0xFFFFFFFF - p.crc) ++ natLe 4 stomp

/-- The packet opcodes of R234 (the coherence opcodes are those of spec/09). -/
def opLOAD := 0x01
def opSTORE := 0x02
def opATOMIC := 0x03
def opREDUCE := 0x04
def opTILE_COMMIT := 0x05
def opMIRROR := 0x06
def opPARITY := 0x07
def opRETIRE := 0x08
def opFENCE_MARK := 0x09
def opAGENT_FENCE := 0x0A
def opTAG_RESET := 0x0B
def opBLOCK_READ := 0x0C
def opBLOCK_WRITE := 0x0D
def opWINDOW_READ := 0x20
def opWINDOW_WRITE := 0x21
def opHEARTBEAT := 0x22
def opMEMBER_DECLARE := 0x23
def opJOURNAL_CTRL := 0x24
def opXLT_CTRL := 0x25
def opRELAY_DRAIN := 0x26

/-- The virtual channels of R233. -/
def vcREQ := 0
def vcRSP := 1
def vcSNOOP := 2
def vcSCHED := 3
def vcBULK := 4
def vcMGMT := 5

/-- The fields of a DGA (R37): device number, tier window, byte offset. -/
def dgaDev (a : Nat) : Nat := bitsOf a 58 6
def dgaWin (a : Nat) : Nat := bitsOf a 56 2
def dgaOff (a : Nat) : Nat := bitsOf a 0 56
def mkDga (dev win off : Nat) : Nat := dev * 2 ^ 58 + win * 2 ^ 56 + off

/-- The part of a DGA that names a byte of this member's memory: window and offset. -/
def dgaCell (a : Nat) : Nat := a % 2 ^ 58

end Sys2Proof.Machine
end

