-- ==== Sys2Proof/Machine/Parts.lean ====
section
/-! DEFINITION. The structures the state is made of, for the domain, the control seats, the image loader, the work
queues, the journal, the fabric, Ethernet and recovery (spec/01, 02, 03, 04, 08, 14, 15).  What a register table of
spec/ names stands in the register file (`State.regs`); these structures hold the rest. -/

namespace Sys2Proof.Machine

/-! ### The domain (spec/01) -/

/-- The last heartbeat heard from a peer (R24, R34, R392). -/
structure Heard where
  bitmap : Nat
  time : Nat
  locked : Bool
  at_ : Nat
  deriving DecidableEq, Repr

/-- What a peer reports in its identity exchange (R25, R70, R179, R248, R419). -/
structure PeerInfo where
  identity : List Byte
  serial : Nat
  domainId : Nat
  t1Stacks : Nat
  ddrMask : Nat
  ddrGib : Nat
  flashMask : Nat
  dies : Nat
  windowsLost : Bool
  deriving DecidableEq, Repr

/-- The domain as this member sees it (spec/01): what the image in force says of it, heartbeats and identity exchanges heard, the
rebindings in force, the lanes, what this member reported of itself in its last exchange with each number; whether this member holds itself FAILED, whether its dedup windows were lost and its journalled tags
began anew at the last start, when it entered ACTIVE, and until when it sends no heartbeat (R248). -/
structure Dom where
  members : Nat
  spares : Nat
  eports : Nat
  aports : Nat
  width : Nat
  lossUs : Nat
  mgmtUs : Nat
  identities : Tbl (List Byte)
  spareRole : Tbl Bool
  heard : Tbl Heard
  peers : Tbl PeerInfo
  rebinds : List (Nat × Nat)
  lanes : Tbl LaneState
  reported : Tbl PeerInfo
  selfFailed : Bool
  windowsLost : Bool
  allTags : Bool
  activeAt : Nat
  hbQuietUntil : Nat
  deriving DecidableEq, Repr

/-! ### Control seats (spec/03) -/

/-- One seat: its state, identity digest and time of its last access (R84, R85). -/
structure Seat where
  state : SeatState
  identity : List Byte
  cred : Nat
  lastAccess : Nat
  deriving DecidableEq, Repr

/-- A bound channel entry (R80). -/
structure ChanEntry where
  chan : ChanId
  seat : SeatId
  deriving DecidableEq, Repr

/-- `CTL_CLAIM_STATUS` of one channel (R83). -/
structure ClaimOutcome where
  chan : ChanId
  status : Status
  reason : Nat
  seq : Nat
  deriving DecidableEq, Repr

/-- A claim buffer (R83): the channel, its nonce, the staged words, and when its 10 s period began. -/
structure ClaimBuf where
  chan : ChanId
  nonce : List Byte
  staged : Tbl Nat
  opened : Nat
  submitted : Bool
  deriving DecidableEq, Repr

/-- The seats' state (spec/03): both seats, the channel entries, claim outcomes and buffers, when each semaphore's lease ends, when each
register was last written by each seat (R91), the I3C target's dynamic address, pending reply, enabled events and last answer on the bus,
what the last window read returned, and whether the access that is being served has been refused. -/
structure Ctl where
  seatA : Seat
  seatB : Seat
  entries : Tbl ChanEntry
  outcomes : List ClaimOutcome
  bufs : Tbl ClaimBuf
  semExpiry : Tbl Nat
  lastWrite : Tbl Nat
  i3cAddr : Option Nat
  i3cReply : Option (List Byte)
  i3cEvents : Nat
  i3cOut : List Byte
  lastRead : Option (ChanId × List Byte)
  refused : Bool
  deriving DecidableEq, Repr

/-! ### The structure image (spec/02) -/

/-- A PARTITIONS entry (R56). -/
structure Partition where
  key : Nat
  classes : Nat
  bwClass : Nat
  deriving DecidableEq, Repr

/-- A SLICES entry (R58). -/
structure Slice where
  partition : Nat
  quince : Nat
  ddr : Nat
  aport : Nat
  flash : Nat
  queueBase : Nat
  queueCount : Nat
  ctxBase : Nat
  ctxCount : Nat
  dclassT1 : Nat
  dclassT2 : Nat
  dclassT3 : Nat
  deriving DecidableEq, Repr

/-- A TIERMAP entry of this member (R60). -/
structure TierRun where
  slice : Nat
  tier : Nat
  mirrored : Bool
  first : Nat
  count : Nat
  deriving DecidableEq, Repr

/-- The composition in force: what the apply step of R73 changes at once. -/
structure Composition where
  partitions : Tbl Partition
  slices : Tbl Slice
  runs : List TierRun
  deriving DecidableEq, Repr

/-- The loader (spec/02): the staging buffer by word; the image area of the serial NOR device; the full image in force and its runs by device
number; the length latched at COMMIT, the committing seat, whether the load came from NOR; the affected slices and since when they drain;
the composition; the partial images journalled here with SERIAL, BASE_SERIAL and bytes; whether the own ring must be fetched first. -/
structure Sil where
  staging : Tbl Nat
  nor : List Byte
  full : List Byte
  ringLost : Bool
  latched : Nat
  committer : Option SeatId
  fromNor : Bool
  affected : Nat
  drainStart : Nat
  lastChunk : Option Nat
  comp : Composition
  allRuns : List (Nat × TierRun)
  partials : List (Nat × Nat × List Byte)
  deriving DecidableEq, Repr

/-! ### Work queues and the journal (spec/04) -/

/-- What a queue holds beside its registers: the ring header's CQ words (R95), the ring and completion addresses as
pinned, the next index to fetch and the TAIL up to which slots are fetched, whether the next descriptor has been found held (R107), and a
doorbell held while the queue was not ENABLED (R97). -/
structure QueueX where
  cqHead : Nat
  cqTail : Nat
  cqNext : Nat
  next : Nat
  limit : Nat
  held : Bool
  heldBell : Option Nat
  fetching : Bool
  doorbellAt : Nat
  ringDga : Nat
  cqDga : Nat
  deriving DecidableEq, Repr

/-- A journal entry (R111). -/
structure JEntry where
  kind : Nat
  cqValid : Bool := false
  single : Bool := false
  carried : Bool := false
  queue : Nat := 0
  qseq : Nat := 0
  partition : Nat := 0
  jseq : Nat := 0
  tag : Nat := 0
  holder : Nat := 0xFF
  source : Nat := 0
  phase : Nat := 0
  tagCount : Nat := 0
  tagBase : Nat := 0
  cqIndex : Nat := 0
  acceptTime : Nat := 0
  body : List Byte := []
  deriving DecidableEq, Repr

/-- Entry kinds of R112. -/
def jkDESCRIPTOR := 1
def jkPHASE := 2
def jkRETIRE := 3
def jkQUEUE_CFG := 4
def jkPARTIAL_IMAGE := 5
def jkREBIND := 6
def jkPAD := 7
def jkCONTEXT_CFG := 8

/-- Where a request stands (R106, R118). -/
inductive WorkStage where
  | entered      -- DESCRIPTOR entry written, not yet accepted
  | waiting      -- accepted, waiting for its turn or its resources
  | committing   -- a PHASE entry written, not yet in effect
  | offered      -- HANDOFF sent, TAKEN not yet received
  | running
  | holding      -- outcome reached, RETIRE held for an earlier request (R102)
  | retiring     -- RETIRE written, not yet in effect
  deriving DecidableEq, Repr

/-- An extent that a descriptor references from its acceptance to its outcome, as it was when translated (R145, R146). -/
structure WorkRef where
  ext : Nat
  bytes : Nat
  dga : Nat
  cls : Nat
  deriving DecidableEq, Repr

/-- One request: an accepted descriptor, or one in acceptance (R106, R115 to R118).  A phase tag of another SOURCE stands in `tagBase`,
`nextTag` and `oldTags` with that SOURCE plus 1 above its 48 bits (R121).  `recovering` is the first phase whose commit ends the recovery of a
resumed request (R123); `guest` is the custodian that handed a phase off to this member (R119); `poisonAt` is where the request met poison, with
the place of the part that did (R406). -/
structure Work where
  tag : Nat
  origin : Nat
  queue : Nat
  qseq : Nat
  index : Nat
  desc : List Byte
  partition : Nat
  ctx : Nat
  stage : WorkStage
  phase : Nat
  holder : Nat
  source : Nat
  tagBase : Nat
  tagCount : Nat
  nextTag : Nat
  left : Nat
  status : Status
  result : Nat
  found : Option Nat
  targets : List Nat
  oldTags : List (Nat × Nat × List Nat)
  heardAt : Nat
  acceptIndex : Nat
  acceptTime : Nat
  replayed : Bool
  recovering : Option Nat
  lost : Bool
  guest : Option Nat
  refs : List WorkRef
  poisonAt : Option (Nat × Nat)
  deriving DecidableEq, Repr

/-- A phase this member holds for another member's custodian (R119). -/
structure HeldPhase where
  custodian : Nat
  tag : Nat
  phase : Nat
  entry : JEntry
  deriving DecidableEq, Repr

/-- An entry of a running ATOMIC_BATCH phase or DMA ATOMIC command (R249, R250): its index, the recorded DGA and CLASS, what it does, and
its status once it has one. -/
structure BatchEntry where
  index : Nat
  dga : Nat
  cls : Nat
  atype : Nat
  operand : Nat
  swap : Nat
  issued : Bool
  status : Option Status
  deriving DecidableEq, Repr

/-- An ATOMIC_BATCH that runs (R250): its phase's entries, the entry stores not yet answered, and the failures so far with the
first, and the references its entries hold from translation to response (R145), by entry index. -/
structure BatchRun where
  tag : Nat
  first : Nat
  entries : List BatchEntry
  stores : Nat
  fails : Nat
  firstFail : Option (Nat × Status)
  refs : List (Nat × Nat)
  deriving DecidableEq, Repr

/-- The journal (spec/04): the live entries of the own ring by JSEQ (entry JSEQ lies in slot JSEQ mod 2,097,152 of T1 granule 1,534), those that
wait to take effect, the entry being carried forward with its copy (R114); the mirror ring kept for `mirrorOf`, phases held for other
custodians, running batches, when the last orphan scan was, what the retention SRAM keeps; whether the own ring is still to be compared with
its mirror after a reset (R125); of each adopted queue, keyed origin x 16,384 + queue, the next completion index and CQ_TAIL (R124); and whether
the next entry for the mirror target may follow a gap in JSEQ (R108; log entry 24). -/
structure Jnl where
  ring : Tbl JEntry
  toEffect : List Nat
  mirror : Tbl JEntry
  mirrorOf : Nat
  mirrorHeld : Bool
  held : List HeldPhase
  batches : List BatchRun
  lastScan : Nat
  retentionJseq : Nat
  retentionTag : Nat
  carrying : Option (Nat × Nat)
  confirm : Bool
  adopted : Tbl (Nat × Nat)
  gap : Bool
  deriving DecidableEq, Repr

/-! ### Fabric (spec/08) -/

/-- A path from this member to a destination: the direct P-port, the partner second port, or a relay (R34). -/
inductive Path where
  | direct | second
  | relay (r : Nat)
  deriving DecidableEq, Repr

/-- What a memory transfer of the device is for; its continuation runs when every answer is in. -/
inductive XOwner where
  | none
  | completion (queue index : Nat) (final : Bool)
  | adopted (tag queue origin : Nat)
  | phaseLoad (tag : Nat)
  | phaseStore (tag : Nat)
  | phaseAtomic (tag entry : Nat)
  | batchPrep (tag : Nat)
  | batchRead (tag : Nat)
  | batchStore (tag : Nat)
  | sendSlots (queue qp psn tail : Nat)
  | dmaLoad (core ticket : Nat)
  | dmaStore (core ticket : Nat)
  | dmaAtomic (core ticket entry : Nat)
  | dmaStage (core ticket tile commit : Nat)
  | dmaCommit (core ticket tile : Nat)
  | rdmaRead (qp psn va len : Nat)
  | rdmaWrite (qp psn va len : Nat)
  | rdmaAtomic (qp psn va : Nat)
  | seatLoad (seat : SeatId)
  | seatStore (seat : SeatId)
  | tileLoad (tag tile : Nat)
  | tileStage (tag tile commit : Nat)
  | tileCommit (tag tile : Nat)
  | kernelImage (tag : Nat)
  | kernelArgs (tag : Nat)
  | attend (tag seq head chunk stage : Nat)
  | poolIndex (tag : Nat)
  | poolRows (src phase : Nat)
  | poolOut (tag : Nat)
  | search (tag stage query : Nat)
  | collSource (tag shard chunk : Nat)
  | collStore (tag : Nat) (request : Option Packet)
  | reconstruct (request : Packet) (pieces : List (Nat × List Byte))
  | rebuilt (request : Packet)
  | repair (request : Packet) (sectors : Nat)
  | lineFetch (event state : Nat)
  | parityUnit (cell n : Nat)
  | unitCopy (tier : Nat)
  | windowAccess (qp psn off len : Nat) (write : Bool)
  deriving DecidableEq, Repr

/-- Who waits for the answer of an outstanding request of the source retry buffer (R247). -/
inductive Waiter where
  | none
  | agent (port ident va size : Nat)
  | xfer (id off : Nat)
  | mirrored (request : Packet)
  | forwarded (request : Packet)
  | journal (jseq : Nat)
  | window (chan : ChanId) (off id : Nat)
  | mapOwner (seat : SeatId)
  | control (kind tag : Nat)
  | reduce (tag : Nat)
  | resync (cell n : Nat)
  | rebind (dev : Nat)
  deriving DecidableEq, Repr

/-- An entry of the source retry buffer (R247): every request from issue to its answer. -/
structure Request where
  pkt : Packet
  waiter : Waiter
  issued : Nat
  sent : Nat
  copies : Nat
  path : Path
  deriving DecidableEq, Repr

/-- A byte with the poison mark of the sector it came from. -/
abbrev MByte := Byte × Bool

/-- A transfer: the answers it still waits for, what the loads brought by offset and where the pieces with poison came from, and the first failure. -/
structure Xfer where
  id : Nat
  owner : XOwner
  left : Nat
  pieces : Tbl (List MByte)
  marks : Tbl Nat
  status : Status
  deriving DecidableEq, Repr

/-- An entry of a dedup window (R245). `forward` names the mirror target or parity holder the write was passed to; at such a holder `pieces` are the
addresses applied under the tag. -/
structure Dedup where
  src : Nat
  tag : Nat
  pending : Bool
  status : Nat
  result : List Byte
  waiting : List Packet
  forward : List Nat
  pieces : List Nat
  deriving DecidableEq, Repr

/-- A retirement that waits to be sent (R246). -/
structure Retirement where
  dst : Nat
  src : Nat
  tag : Nat
  drain : Bool
  deriving DecidableEq, Repr

/-- An unanswered drain marker (R258). -/
structure Marker where
  number : Nat
  dst : Nat
  vc : Nat
  path : Path
  deriving DecidableEq, Repr

/-- A fence that has not completed: the requests it waits for and the markers (R257, R260, R261). -/
structure Fence where
  agent : Option (Nat × Nat)
  work : Option Nat
  tags : List Nat
  markers : List Nat
  covered : Nat
  deriving DecidableEq, Repr

/-- A block buffer of R238. -/
structure BlockBuf where
  src : Nat
  tag : Nat
  addr : Nat
  pieces : Tbl (List Byte × Nat)
  first : Nat
  pkt : Packet
  deriving DecidableEq, Repr

/-- A combined load or atomic that is outstanding (R242, R243). -/
structure Combine where
  leader : Packet
  members : List Packet
  first : Nat
  deriving DecidableEq, Repr

/-- The link of one port (R251, R254, R263): sequence numbers, retry buffer, retries of the oldest frame as sender and of the next frame as receiver, recent authentication
failures by lane and time, credits held for transmission, credits returned to the other end and credits withheld by VC (64 B units; R316),
frames sent under the present key and when it was set plus 1 (0: no key), corrected code words below the register's unit, and the VC of the
last packet sent with the time at which its last byte leaves, in tenths of a ns (R328). -/
structure Link where
  txSeq : Nat
  rxSeq : Nat
  retryBuf : List (Nat × Packet)
  sameRetries : Nat
  rxRetries : Nat
  gcmFails : List (Nat × Nat)
  credits : Tbl Nat
  returned : Tbl Nat
  withheld : Tbl Nat
  frames : Nat
  keyed : Nat
  corrected : Nat
  sending : Option (Nat × Nat)
  deriving DecidableEq, Repr

/-- The fabric at this member (spec/08): the next tags, the source retry buffer and requests that wait at the source, answers not yet
delivered, dedup windows and the copy kept beside them, retirements, unanswered markers and the next number, the destinations, VCs and paths
that carried a request since their last drain (R258), fences, block buffers, links, transfers. -/
structure Fab where
  txTag : Nat
  jnlTag : Nat
  reqs : List Request
  waiting : List Request
  answers : List (Waiter × Packet)
  dedup : List Dedup
  dedupCopy : List Dedup
  retire : List Retirement
  markers : List Marker
  nextMarker : Nat
  used : List (Nat × Nat × Path)
  fences : List Fence
  blocks : List BlockBuf
  links : Tbl Link
  xfers : List Xfer
  nextXfer : Nat
  deriving DecidableEq, Repr

/-! ### Ethernet (spec/14) -/

/-- An Ethernet frame the device sends, at the level the spec fixes: the port, the queue pair and what it says. -/
inductive EthMsg where
  | ack (psn : Nat)
  | nak (psn : Nat) (remoteOperational : Bool) (invalid : Bool)
  | seqNak (psn : Nat)
  | rnrNak (psn : Nat)
  | readResponse (psn : Nat) (data : List Byte)
  | atomicAck (psn : Nat) (old : List Byte)
  | write (psn va rkey : Nat) (data : List Byte)
  | read (psn va rkey len : Nat)
  | cnp
  | pfc (priority quanta : Nat)
  | arpReply | neighbourAdvert | echoReply
  | delayReq
  deriving DecidableEq, Repr

/-- A request of a requesting queue pair that is not yet acknowledged (R380). -/
structure EthReq where
  psn : Nat
  msg : EthMsg
  sent : Nat
  tries : Nat
  owner : XOwner
  len : Nat
  deriving DecidableEq, Repr

/-- A DDR5 module as its SPD and training show it (R164). -/
structure Dimm where
  channel : Nat
  gib : Nat
  ecc : Bool
  lrdimm : Bool
  trains : Bool
  deriving DecidableEq, Repr

/-- What a start finds around the device (R21, R164, R165, R424, R427, R451, R465): the serial NOR device's firmware slots, PUF helper data
(none: no valid data) and structure image, whether the PUF reconstructs, the position straps, the reference clocks and LSR_EN, the DDR5
modules, the dies of each flash channel, and the T1 stacks that fail training. -/
structure StartInfo where
  slot0 : List Byte
  slot1 : List Byte
  helper : List Byte
  image : List Byte
  pufOk : Bool
  straps : Nat
  coreRef : Bool
  serdesRef : Bool
  lsrEn : Bool
  dimms : List Dimm
  flash : List (Nat × Nat)
  stacksFailed : List Nat
  deriving DecidableEq, Repr

/-- What the world supplies when a window write calls for it: what a start would find (for an L5 ordered by the write) and what the AT2 path
reads at the analogue node that the write connects. -/
structure WriteEnv where
  start : StartInfo
  reading : Nat
  deriving DecidableEq, Repr

/-- A request of a host that its queue pair has taken, until those before it are performed (R296): an RDMA WRITE or READ, an atomic or a SEND. -/
inductive HostReq where
  | write (psn va rkey : Nat) (data : List Byte) (env : WriteEnv)
  | read (psn va rkey len : Nat) (env : WriteEnv)
  | atomic (psn va rkey atype operand swap : Nat)
  | send (psn : Nat) (data : List Byte)
  deriving DecidableEq, Repr

/-- A queue pair (R378 to R380): the PSN it expects and the next it sends, its last atomics with their results, its own requests that are not yet
acknowledged, when its rate was last cut and a CNP last sent (R390), and requests of its host that wait, with the mark of a policer (R320). -/
structure Qp where
  expected : Nat
  next : Nat
  atomics : List (Nat × List Byte)
  outstanding : List EthReq
  lastCut : Nat
  lastCnp : Option Nat
  waiting : List (HostReq × Bool)
  deriving DecidableEq, Repr

/-- A registered memory region (R384) with the extents it covers, as they were resolved when it was registered (R150). -/
structure MemRegion where
  gen : Nat
  valid : Bool
  ctx : Nat
  va : Nat
  pages : Nat
  rights : Nat
  exts : List WorkRef
  deriving DecidableEq, Repr

/-- A checkpoint transfer of a seat (R387). -/
structure SeatXfer where
  push : Bool
  qp : Nat
  ctx : Nat
  rva : Nat
  rkey : Nat
  len : Nat
  dga : Nat
  cls : Nat
  ext : Nat
  sent : Nat
  done : Nat
  deriving DecidableEq, Repr

/-- A frame that waits at an E-port egress (R315): its priority, whether it is a BULK frame (R387), its bytes and when it came. -/
structure EthFrame where
  port : Nat
  prio : Nat
  qp : Nat
  bulk : Bool
  bytes : Nat
  at_ : Nat
  held : Bool
  msg : EthMsg
  deriving DecidableEq, Repr

/-- A frame that has left an E-port, with its CE mark (R390). -/
structure EthOut where
  port : Nat
  qp : Nat
  ce : Bool
  msg : EthMsg
  deriving DecidableEq, Repr

structure Eth where
  qps : Tbl Qp
  regions : Tbl MemRegion
  xferA : Option SeatXfer
  xferB : Option SeatXfer
  pauseUntil : Tbl Nat
  pausedSince : Tbl Nat
  wdEpisode : Tbl Bool
  ingress : Tbl Nat
  queue : List EthFrame
  tx : List EthOut
  goodSyncs : Nat
  lastSync : Nat
  timeOffset : Int
  recoverAt : Nat
  deriving DecidableEq, Repr

/-! ### Errors and recovery (spec/15) -/

/-- An error record (R399); COUNT, TIME, STEP and SEQ are set when it is written. -/
structure ErrRec where
  unit : UnitCode
  status : Status
  opcode : Nat := 0
  corrected : Bool := false
  addrVa : Bool := false
  ctx : Option Nat := none
  partition : Option Nat := none
  time : Nat := 0
  addr : Nat := 0
  syndrome : Nat := 0
  count : Nat := 1
  temp : Nat := 0
  device : Nat := 0
  index : Nat := 0xFF
  tag : Nat := 0
  step : Nat := 0
  seq : Nat := 0
  deriving DecidableEq, Repr

/-- A suspect of a quarantine (R409): its context and what ran. -/
structure Suspect where
  ctx : Nat
  tag : Nat
  unit : Nat
  attend : Bool
  deriving DecidableEq, Repr

/-- A reset that runs (R411, R416): its level and target, and whether a seat ordered it. -/
structure ResetRun where
  level : Nat
  target : Nat
  seat : Bool
  deriving DecidableEq, Repr

/-- Errors and recovery (spec/15): the log and the records still open for merging; the suspects of the quarantine still to run, the stopped
units of `ATTEND`, the core whose reset a quarantine awaits, the last unattributed hang by core and time; the resets that run; what ran
lately on each engine; the sentinels due and those to be run once more; the members that have not yet applied a rebinding, and one that
this member has received and not yet applied. -/
structure Ras where
  log : Tbl ErrRec
  recent : List (Nat × Nat)
  suspects : List Suspect
  stopped : List Suspect
  lastUnattributed : Option (Nat × Nat)
  running : List ResetRun
  history : List (Nat × Nat × Suspect)
  sentinelRerun : List Nat
  sentinelDue : List Nat
  rebindAcks : Nat
  rebindHold : Option Packet
  hungCore : Option Nat
  deriving DecidableEq, Repr

end Sys2Proof.Machine
end

