-- ==== Sys2Proof/Machine/PartsMem.lean ====
section
/-! DEFINITION. The structures of translation, memory and the tiers (spec/05, 06). -/

namespace Sys2Proof.Machine

/-- The states of an extent entry that is not empty (R134, R153). -/
inductive ExtState where
  | valid | withdrawing | revoking
  deriving DecidableEq, Repr

def ExtState.code : ExtState → Nat
  | .valid => 1 | .withdrawing => 2 | .revoking => 3

/-- An extent entry (R134). -/
structure Extent where
  ctx : Nat
  va : Nat
  pages : Nat
  dga : Nat
  partition : Nat
  rights : Nat
  cls : Nat
  alias_ : Bool
  state : ExtState
  pins : Nat
  refs : Nat
  deriving DecidableEq, Repr

/-- A claim or alias registration held at this member as owner (R135, R136). `cell` is window and offset. -/
structure Claim where
  dev : Nat
  ctx : Nat
  cell : Nat
  bytes : Nat
  partition : Nat
  cls : Nat
  alias_ : Bool
  revoking : Option (Nat × Nat)
  va : Nat
  armed : Nat
  disarmed : Nat
  scrubbing : Bool
  deriving DecidableEq, Repr

/-- A MAP whose outcome is not posted: it waits for its owner's answer (R140). -/
structure MapJob where
  ext : Extent
  owner : Nat
  tag : Nat
  deriving DecidableEq, Repr

/-- A shootdown of a context (R154): its extents, how many they were, when it began, whether its timeout has passed, and whether it still waits
to hear from owners what aliases their claims have (R153). -/
structure ShootJob where
  ctx : Nat
  targets : List (Nat × Nat)
  total : Nat
  started : Nat
  timedOut : Bool
  checking : Bool
  deriving DecidableEq, Repr

/-- A question to the owner of a claim, which aliases are registered on it, with the answer once it is in (R153, R157). -/
structure AliasAsk where
  dga : Nat
  answer : Option Nat
  deriving DecidableEq, Repr

/-- An ETC entry: context, span class, aligned span, and the way of its set that holds it (R148). -/
structure EtcEntry where
  ctx : Nat
  log2 : Nat
  span : Nat
  way : Nat
  deriving DecidableEq, Repr

/-- The record of a revocation this member takes part in (R159): who asked, the range, how many extents it moved, whether
its report is made, and at the owner the members still to report and the sum of their counts. -/
structure Revocation where
  member : Nat
  tag : Nat
  range : Nat × Nat
  partition : Nat
  count : Nat
  reportTo : Option Nat
  awaiting : List Nat
  joined : List (Nat × Nat)
  sum : Nat
  deriving DecidableEq, Repr

/-- A `REVOKE` of this member's custody (R158, R160): request tag, the named extent, whether it was moved, the claim's range once it is
known, whether the owner answered and holds a claim, its report, whether it is lost, and the members still to answer and to report. -/
structure RevokeRun where
  tag : Nat
  ctx : Nat
  va : Nat
  moved : Nat
  range : Option (Nat × Nat)
  answered : Bool
  noClaim : Bool
  report : Option Nat
  lost : Bool
  asked : List Nat
  awaiting : List Nat
  deriving DecidableEq, Repr

/-- The state of translation.  `dirty` and `counted` are what the step has changed in extent tables and is still to write to their areas: from
which VA of a context on, and how many entries have gone; or only the PINS and REFS of one entry (R134, R138). -/
structure Xlt where
  extents : List Extent
  claims : List Claim
  mapA : Option MapJob
  mapB : Option MapJob
  shootA : Option ShootJob
  shootB : Option ShootJob
  invalidating : List (Nat × Nat × ExtState)
  heldLookups : List (Nat × Packet)
  etc : List EtcEntry
  revs : List Revocation
  revokes : List RevokeRun
  heldCtx : List Nat
  recalls : List (Nat × Nat)
  dirty : List (Nat × Nat × Nat)
  counted : List (Nat × Nat)
  aliasAsks : List AliasAsk
  deriving DecidableEq, Repr

/-- The bytes of windows 0 to 2 of this member, keyed by window and offset (bits [57:0] of a DGA), with the data key each
byte was written under and the poisoned sectors.  A byte not listed reads as 0; a key not listed is 0, the initialised
content (R455). -/
structure Mem where
  bytes : List Host.Cell
  keys : Tbl Nat
  poison : Tbl Bool
  deriving DecidableEq, Repr

/-- A tile in a staging slot of this member (R172): its source, the low 15 bits of its commit's tag, and its pieces by number, each with its DGA. -/
structure StagedTile where
  src : Nat
  mark : Nat
  pkey : Nat
  pieces : Tbl (Nat × List Byte)
  deriving DecidableEq, Repr

/-- A write whose redundancy is not acknowledged (R178, R182, R293): the request, the lines it wrote and its result; the packets still to be sent
to the holder, how many are unanswered, and the first failure. -/
structure InFlight where
  pkt : Packet
  lines : List Nat
  data : List Byte
  todo : List Packet
  left : Nat
  status : Status
  deriving DecidableEq, Repr

/-- An answer held until the redundancy of the lines it reads is acknowledged (R293). -/
structure HeldAnswer where
  lines : List Nat
  pkt : Packet
  status : Status
  data : List Byte
  poison : Nat
  deriving DecidableEq, Repr

/-- Progress of an operation that runs unit by unit (R189, R473): the cell of the next unit, the end, and whether that unit is being copied. -/
structure UnitRun where
  kind : Nat
  cell : Nat
  stop : Nat
  busy : Bool
  deriving DecidableEq, Repr

/-- The state of the tiers.  `armedFor` are the armed pages whose parity this member holds: member, page, partition; `marks` the poisoned sectors
among what its parity covers: member and sector; `dies` the failed flash dies by channel; `ecc` the T1 units that failed in the last second with
their times; `lost` the granules with every copy gone by member and tier, `told` the claims a loss record names; `loaded` the load stages done. -/
structure Tier where
  staged : List StagedTile
  inFlight : List InFlight
  heldAnswers : List HeldAnswer
  heldRequests : List Packet
  degraded : List (Nat × Nat)
  armedFor : List (Nat × Nat × Nat)
  marks : List (Nat × Nat)
  runs : List UnitRun
  served : Tbl Nat
  dies : List (Nat × Nat)
  ecc : List (Nat × Nat)
  lost : List (Nat × Nat × Nat)
  told : List Nat
  loaded : Nat
  deriving DecidableEq, Repr

end Sys2Proof.Machine
end

