-- ==== Sys2Proof/Machine/PartsEngines.lean ====
section
/-! DEFINITION. The structures of the engines: Quince cores, the home agent, the switch core, Damson, Currant, Sloe, the
security processor, power and test (spec/07, 09, 11, 12, 13, 16, 17, 18). -/

namespace Sys2Proof.Machine

/-! ### Quince cores (spec/07) -/

/-- A command in an engine queue (R208). -/
structure EngCmd where
  ticket : Nat
  bytes : List Byte
  deriving DecidableEq, Repr

/-- An output of the array that a fault of the device spoils: in the first run of a pass (0) or its recomputation (1), the code that stands
for output `col` of streamed row `row`; output 128 is s.  A command of `ATTEND` has two products to a block. -/
structure ArrayFault where
  product : Nat
  pass : Nat
  run : Nat
  row : Nat
  col : Nat
  code : Nat
  deriving DecidableEq, Repr

/-- A DMA command that runs: the tile or entry it is at, that tile's DGA, class and extent on the domain side, its first failure or `POISON`,
whether its next lookup is held (R149), and the first of the tags it takes, one for each entry or commit (R216). -/
structure DmaRun where
  cmd : EngCmd
  tile : Nat
  dga : Nat
  cls : Nat
  va : Nat
  status : Status
  held : Bool
  tags : Nat
  deriving DecidableEq, Repr

/-- One Quince core: state of R217, test isolation (R471; 0 none, 1 isolating, 2 isolated), its three memories with their poison and the
key that tells defined content from undefined (R192, R193), the scalar core's registers and code length, the engine queues, the
tickets, the LR reservation, counters below their registers' units, and what it runs: a launch with the core's rank, how the kernel
leaves and how it ended, or a chunk of an `ATTEND` unit. -/
structure Core where
  state : CoreState
  isolation : Nat
  tile : Mem
  tileKey : Nat
  kwin : Mem
  near : Mem
  nearKey : Nat
  regs : Tbl Nat
  pc : Nat
  codeLen : Nat
  ticket : Nat
  statuses : List (Nat × Option Status)
  matrix : List EngCmd
  vector : List EngCmd
  dma : List EngCmd
  run : Option DmaRun
  resv : Option Nat
  cycle : Nat
  instret : Nat
  launch : Option Nat
  rank : Nat
  exiting : Option (Nat × Nat)
  ended : Option (Nat × Nat)
  attend : Option (Nat × Nat × Nat × Nat)
  since : Nat
  matCycles : Nat
  vecCycles : Nat
  readBytes : Nat
  writeBytes : Nat
  deriving DecidableEq, Repr

/-- A `KERNEL_LAUNCH` phase: its cores, whether they are granted to it, image and arguments as loaded,
whether the signatures are being verified, when the first core started, its budget and the kernel's identity (R213 to R216). -/
structure Launch where
  tag : Nat
  cores : List Nat
  granted : Bool
  image : List Byte
  args : List MByte
  verifying : Bool
  started : Option Nat
  budgetUs : Nat
  kernelId : Nat
  deriving DecidableEq, Repr

/-- A chunk of an `ATTEND` unit (R218 to R226): its sequence, head and place among the unit's chunks of 32,768 tokens, the entry of its
sequence, the core that runs it, how far it has come (0 waiting, 1 reading Q and its block table, 2 reading blocks, 3 all read, 4 the unit
written, 5 withheld by a quarantine, 6 computed), what it read, whether any of that is poisoned, and its result: the codes of m, l and the
accumulator, row by row. -/
structure AttUnit where
  tag : Nat
  seq : Nat
  head : Nat
  chunk : Nat
  entry : List Byte
  core : Option Nat
  stage : Nat
  q : List MByte
  table : List MByte
  blocks : Tbl (List MByte)
  bad : Bool
  part : List (Nat × Nat × List Nat)
  deriving DecidableEq, Repr

/-- An `ATTEND` request that runs: the sequences of its phase, whether their entries are read, its stores not answered, units computed so
far, failures so far, and the first failing unit with its status and address (R224). -/
structure AttRun where
  tag : Nat
  first : Nat
  count : Nat
  loaded : Bool
  stores : Nat
  computed : Nat
  fails : Nat
  firstFail : Option (Nat × Nat × Status × Nat)
  deriving DecidableEq, Repr

structure Qnc where
  cores : Tbl Core
  launches : List Launch
  units : List AttUnit
  attends : List AttRun
  digests : List (List Byte)
  kvBytes : Nat
  deriving DecidableEq, Repr

/-! ### Home agents (spec/09) -/

/-- Recorded state of a filter entry (R269). -/
inductive LineState where
  | s | f | x
  deriving DecidableEq, Repr

/-- A snoop filter entry (R269). `line` is ADDR / 64 of the line's DGA. -/
structure FilterEntry where
  agent : Nat
  ctx : Nat
  va : Nat
  line : Nat
  state : LineState
  deriving DecidableEq, Repr

/-- A snoop without its answer, or an awaited WRITEBACK (R282, R284). -/
structure Snoop where
  agent : Nat
  line : Nat
  tag : Nat
  op : Nat
  since : Nat
  writeback : Bool
  deriving DecidableEq, Repr

/-- An event at the home (R276, R277): a request packet or a recall, its lines, whether it has begun, its snoops and the
GRANT_ACK it waits for. -/
structure HomeEv where
  id : Nat
  pkt : Packet
  ecc : Nat
  recallOf : Option (Nat × Nat)
  lines : List Nat
  begun : Bool
  snoops : List Snoop
  grant : Option (Nat × Nat)
  forwarded : Bool
  deriving DecidableEq, Repr

/-- A drop that runs at this home (R287): who asked, the agent and whether lines held X are poisoned. -/
structure DropScan where
  pkt : Packet
  agent : Nat
  poison : Bool
  deriving DecidableEq, Repr

/-- A snoop at the attach device that its agent has not answered (R281, R282). -/
structure SnoopIn where
  pkt : Packet
  aport : Nat
  deriving DecidableEq, Repr

/-- The drop of this member's agent on an A-port (R287): whether the agent has answered its flush, members that have not answered the drop,
whether a seat ordered it. -/
structure AgentDrop where
  aport : Nat
  flushed : Bool
  poison : Bool
  started : Bool
  awaiting : List Nat
  byCommand : Bool
  since : Nat
  deriving DecidableEq, Repr

structure Home where
  filter : List FilterEntry
  events : List HomeEv
  nextEv : Nat
  scans : List DropScan
  snoopsIn : List SnoopIn
  answered : List (Nat × Nat × Packet)
  drops : List AgentDrop
  caching : List Nat
  rangeScans : List HomeEv
  deriving DecidableEq, Repr

/-! ### The switch core (spec/11) -/

/-- A packet in a virtual output queue of the switch core (R315): ingress and egress port, the packet, when it came, whether a
policer admitted it at the excess level, and whether a guard has held it. -/
structure Queued where
  ingress : Nat
  egress : Nat
  pkt : Packet
  at_ : Nat
  excess : Bool
  held : Bool
  deriving DecidableEq, Repr

/-- A shaper (R320): its configuration in force, its buckets in tenths of a byte, and when they were last filled. -/
structure Shaper where
  mode : Nat
  cir : Nat
  pir : Nat
  cbs : Nat
  pbs : Nat
  committed : Nat
  peak : Nat
  filled : Nat
  deriving DecidableEq, Repr

/-- A queue in an active list of an egress port (R318): its level, ingress port, VC and deficit. -/
structure DrrQ where
  egress : Nat
  level : Nat
  ingress : Nat
  vc : Nat
  deficit : Nat
  deriving DecidableEq, Repr

/-- The switch core. `delivered` holds packets at this member's endpoints, `sent` what has left its ports with the stomp code,
`entering` packets that wait at their sender for room in an ingress buffer (R316), `lastSeen` when an A-port, E-port or function of the device
last sent a request or took a response (R305), `stalls` since when an ingress withholds credits (R316);
`gateEnd` is the domain time at which the current gate entry ends. -/
structure Sws where
  voq : List Queued
  entering : List Queued
  delivered : List (Nat × Packet)
  sent : List (Nat × Packet × Nat)
  shapers : Tbl Shaper
  drr : List DrrQ
  combining : List Combine
  lastSeen : Tbl Nat
  stalls : Tbl Nat
  gateEnd : Nat
  holdoverFrom : Nat
  deriving DecidableEq, Repr

/-! ### Damson (spec/12) -/

/-- An element code with its poison mark. -/
abbrev MElem := Nat × Bool

/-- What a phase of a collective has taken (R338): a packet group with its first tag. Kinds: 0 GRANT to a rank with a limit,
1 CONTRIB of a chunk of a shard, 2 contributor DIGEST of a shard, 3 RESULT of a chunk of the own shard, 4 result DIGEST. -/
structure CollItem where
  kind : Nat
  a : Nat
  b : Nat
  tag : Nat
  deriving DecidableEq, Repr

/-- The running digest of a contribution to a shard (R340). -/
structure DigestAcc where
  d : Nat
  a : Nat
  w : Nat
  sat : Bool
  poison : Bool
  deriving DecidableEq, Repr

/-- A collective this member takes part in (R331 to R345), as participant and as reducer of its own shard: `limits` and `taken`
by shard, the reducer's grant limit and freed chunks, contributions by chunk and rank, reduced chunks, result acknowledgements
awaited by chunk, contributor records by rank, own source chunks, received results, and what its phase still owes. -/
structure CollRun where
  tag : Nat
  key : Nat
  id : Nat
  dcrc : Nat
  inst : Option Nat
  opened : Bool
  limits : Tbl Nat
  granters : List Nat
  taken : Tbl Nat
  granted : Nat
  freed : Nat
  resTaken : Nat
  resDigestTaken : Bool
  slots : Tbl (Tbl MElem)
  reduced : Tbl (List MElem)
  resLeft : Tbl Nat
  accs : Tbl DigestAcc
  records : Tbl (List Byte × Bool)
  source : Tbl (List MElem)
  recv : Tbl MElem
  recvRecords : Tbl (List Byte × Bool)
  checked : List Nat
  mismatched : List Nat
  untested : Nat
  poisoned : Nat
  todo : List CollItem
  outstanding : Nat
  stores : Nat
  sentContribs : Nat
  sentResults : Nat
  sentGrants : Nat
  lastHeard : Nat
  deriving DecidableEq, Repr

/-- A GRANT for a collective that has not started here: key, COLL_ID, sender, limit, DCRC. -/
structure EarlyGrant where
  key : Nat
  id : Nat
  src : Nat
  limit : Nat
  dcrc : Nat
  deriving DecidableEq, Repr

/-- An ABORT status kept for a collective that has not started here (R345). -/
structure EarlyAbort where
  key : Nat
  id : Nat
  status : Status
  at_ : Nat
  deriving DecidableEq, Repr

structure Coll where
  runs : List CollRun
  early : List EarlyGrant
  aborts : List EarlyAbort
  inBytes : Nat
  outBytes : Nat
  deriving DecidableEq, Repr

/-! ### Currant (spec/12) -/

/-- An installed version slot beyond its registers (R349): the shard's DGA, its extent and its rows' bytes. -/
structure Shard where
  dga : Nat
  cls : Nat
  ctx : Nat
  va : Nat
  deriving DecidableEq, Repr

/-- A (bag, row) pair with its count (R353). -/
structure PoolPair where
  bag : Nat
  row : Nat
  count : Nat
  deriving DecidableEq, Repr

/-- A POOL_REQ phase served here as owner (R354): requester, its PHASE_ID, table, slot, MODE, how many packets came and are
expected, the pairs so far, and the distinct rows once they are being fetched. -/
structure PoolServe where
  src : Nat
  phase : Nat
  table : Nat
  slot : Nat
  mode : Nat
  reqs : Nat
  seen : Nat
  pairs : List PoolPair
  wanted : List Nat
  deriving DecidableEq, Repr

/-- An `EMBED_POOL` batch of this member (R350 to R356): its table and pinned version slot, whether its indices are read, the
pairs not yet sent by bag of the batch, the pooled count and the partial of each bag, how many bags are to be written and how
the batch ends after them, the phase's first bag and bags, the answers and partial elements it awaits, and its tallies. -/
structure PoolRun where
  tag : Nat
  table : Nat
  slot : Nat
  phaseId : Nat
  loaded : Bool
  pairs : List PoolPair
  counts : Tbl Nat
  partials : Tbl (List (Nat × Bool))
  total : Nat
  ending : Option (Status × Nat)
  firstBag : Nat
  bags : Nat
  answers : Nat
  expected : Tbl Nat
  stores : Nat
  storing : Bool
  failed : Option Status
  skipped : Nat
  outPoison : Nat
  deriving DecidableEq, Repr

structure Emb where
  shards : Tbl Shard
  serves : List PoolServe
  runs : List PoolRun
  nextPhase : Nat
  dropped : Nat
  defaulted : Nat
  coalesced : Nat
  deriving DecidableEq, Repr

/-! ### Sloe (spec/13) -/

/-- A candidate of the merge stage (R368): distance code, the distance as an ordered integer, ID, list, attribute. -/
structure Candidate where
  score : Nat
  order : Int
  id : Nat
  list : Nat
  attr : Nat
  deriving DecidableEq, Repr

/-- A query of a running search phase (R367 to R371). -/
structure Query where
  index : Nat
  vec : List MByte
  lists : List Nat
  cands : List Candidate
  scanned : Nat
  skipped : Nat
  status : Status
  failAddr : Nat
  deriving DecidableEq, Repr

/-- A segment assigned to a Sloe (R367 step 3): its search, list and number, where it lies, its count and bitmap, its Sloe, the queries that
probe its list, and once it has been begun, when, and what has been read. -/
structure Segment where
  tag : Nat
  num : Nat
  list : Nat
  dga : Nat
  cls : Nat
  count : Nat
  tombDga : Nat
  tombCls : Nat
  hasTomb : Bool
  unit : Nat
  queries : List Nat
  begun : Option Nat
  data : Option (List MByte × List MByte)
  deriving DecidableEq, Repr

/-- A `SEARCH` phase that runs (R367). `stage`: 0 reading the header, 1 reading queries and centroids, 2 centroid step, 3 reading the
directory, 4 reading segment entries, 5 scanning, 6 to be merged, 7 results being stored. `refs` are the extents it references, `nextSeg`
numbers its segments. -/
structure SearchRun where
  tag : Nat
  header : List Byte
  first : Nat
  count : Nat
  queries : List Query
  cent : List MByte
  scales : List MByte
  norms : List MByte
  stage : Nat
  refs : List Nat
  nextSeg : Nat
  deriving DecidableEq, Repr

/-- Sloe: running phases, the segments waiting at the units in order, how the queries of earlier phases of a request ended (those not
`DONE`), and counts below the registers' units: scored, skipped and read by unit, candidates offered. -/
structure Vs where
  runs : List SearchRun
  segments : List Segment
  ended : Tbl (List (Nat × Status))
  scored : Tbl Nat
  skipped : Tbl Nat
  readBytes : Tbl Nat
  recon : Tbl Nat
  offered : Nat
  deriving DecidableEq, Repr

/-! ### Security, power and test (spec/16, 17, 18) -/

/-- An ACTIVE entry of the partition key table (R435): the 64 B data key and its check value. A partition with no entry has no key. -/
structure KeyEntry where
  key : List Byte
  kcv : Nat
  deriving DecidableEq, Repr

/-- Security (spec/16): the partition key table; the firmware slots, PUF helper data and trust-anchor entries as the serial NOR device and
the running firmware hold them; measurement registers (one not listed is 48 zero bytes) and the event log; each seat's last report,
the seats whose report is being formed, and each seat's import record. -/
structure Sec where
  keys : Tbl KeyEntry
  slot0 : List Byte
  slot1 : List Byte
  helper : List Byte
  anchors : List (List Byte)
  mrs : Tbl (List Byte)
  evlog : List (List Byte)
  reportA : List Byte
  reportB : List Byte
  forming : List SeatId
  importA : Tbl Nat
  importB : Tbl Nat
  deriving DecidableEq, Repr

/-- A wake that the slew governor has not granted (R445, R446): its priority, when it was requested, the island, what of it (0 the
island itself, 1 an optical engine, 2 a T1 stack, 3 a DDR5 channel, 4 a flash channel) and the instance, its step in units of 0.01 A,
and whether it was deferred. -/
structure Wake where
  prio : Nat
  asked : Nat
  island : Nat
  comp : Nat
  inst : Nat
  step : Nat
  deferred : Bool
  deriving DecidableEq, Repr

/-- The power unit (spec/17): whether the 52 V input is applied, the governor's 100 us history and pending wakes, when each island's
wake was granted, the last 1 ms adjustment of DUTY, how long the average has stayed above the cap with DUTY at its floor and whether
that episode is recorded, when the start began, whether it waits for a reference clock, the islands whose tests of a start or a reset have
not finished, those that failed tests since the start, and the tiers whose test and initialisation have not (bit 0 T1, bit 1 T2). -/
structure Pwr where
  on : Bool
  granted : List (Nat × Nat)
  pending : List Wake
  wakeAt : Tbl Nat
  lastAdjust : Nat
  floorMs : Nat
  floorRecorded : Bool
  startAt : Nat
  refWait : Bool
  testing : List Nat
  failed : List Nat
  memInit : Nat
  deriving DecidableEq, Repr

/-- What a link frame carries beside its packets: its link sequence number, the last frame the far end has received intact, a go-back request,
and credits returned by VC in 64 B units; how many code words of it were corrected, and what is wrong with it (1 uncorrectable code word,
2 authentication tag, 3 packet CRC). -/
structure Frame where
  seq : Nat
  ack : Option Nat
  retryFrom : Option Nat
  credits : Tbl Nat
  corrected : Nat
  fault : Nat
  deriving DecidableEq, Repr

/-- What the far end of a port sends in a key exchange: its identity public keys, the transcript, its two signatures over the transcript's
digest and, on an A-port, the agent's credential. -/
structure KeyMsg where
  ed : List Byte
  ml : List Byte
  transcript : List Byte
  sigEd : List Byte
  sigMl : List Byte
  credential : List Byte
  deriving DecidableEq, Repr

/-- Test access (spec/18): the data register that the current TAP instruction selects as last captured, the boundary cells as preloaded and
as captured, what drives the pins (0 functional, 1 the boundary cells, 2 released), the analogue mode and node the TAP has connected,
and the tests that run on the unit in test access. -/
structure Tst where
  dr : Nat
  preload : Nat
  captured : Nat
  drive : Nat
  probe : Option (Nat × Nat)
  tests : Nat
  deriving DecidableEq, Repr

end Sys2Proof.Machine
end

