-- ==== Sys2Proof/Syntax.lean ====
section
/-! DEFINITION. The commands of the DM-640: one constructor for each row of the table of operations and events, in the order of the
table.  A command is a write or read over a channel, a packet that reaches an endpoint, an event of a pin, or an end of something under way;
its operands say what the world supplies with it.  Operand ranges are those of `Instr.wf`. -/

namespace Sys2Proof

open Machine

/-- The rows of the table. -/
inductive Instr where
  /-- A window write to a register that has no row of its own is checked under R12, R79 and R15 and applied in order of arrival.
  (R90). -/
  | registerWrite (ch : ChanId) (off : Nat) (bs : List Byte) (env : WriteEnv)
  /-- A read of an RC field returns the accumulated value and returns the field to its reset value in the same step. (R14). -/
  | rcFieldRead (ch : ChanId) (off len : Nat)
  /-- Every 100 µs island 25 sends a heartbeat with its link-up bitmap, time and lock state to every peer on MGMT. (R24). -/
  | heartbeatTimer
  /-- A received heartbeat refreshes the sender's liveness, its link-up bitmap and time, and the relay choice is re-evaluated.
  (R34). -/
  | heartbeat (p : Packet)
  /-- The declarer has heard no heartbeat from a member for the member-loss timeout (or 40 s as fallback) and broadcasts its
  loss. (R26). -/
  | memberLossTimeout (d : Nat)
  /-- A received declaration sets the number FAILED, closes routing and triggers custody, redirection, drops and aborts. (R26).
  -/
  | memberDeclare (p : Packet)
  /-- An identity exchange with a peer verifies identity, SERIAL, DOMAIN_ID and P2 layout and moves its member state. (R25). -/
  | identityExchange (d : Nat) (peer : PeerInfo)
  /-- A lane finishes training and its announced position and lane number are checked against R29 and R30. (R46). -/
  | laneTrainingDone (port lane position number cls : Nat)
  /-- A lane is taken down for retraining; the port goes down with its last lane, the old path is declared dead and traffic re-
  routes. (R255). -/
  | laneDown (port lane : Nat)
  /-- A retraining lane comes back up and its port regains rate or returns up. (R32). -/
  | laneRetrainDone (port lane position number : Nat)
  /-- A remote management access with no response within the management timeout completes with TIMEOUT. (R41). -/
  | mgmtAccessTimeout (tag : Nat)
  /-- BEGIN_FULL in NO_IMAGE clears staging and enters STAGING. (R66). -/
  | silBeginFull (ch : ChanId)
  /-- BEGIN_PARTIAL in RUNNING clears staging and enters STAGING. (R66). -/
  | silBeginPartial (ch : ChanId)
  /-- COMMIT latches SIL_STAGE_LEN and starts verification of the staged image. (R66). -/
  | silCommit (ch : ChanId)
  /-- ABORT discards staging, or in DRAINING reopens the affected slices unchanged. (R66). -/
  | silAbort (ch : ChanId)
  /-- A write to the SIL aperture stores a word of the staging page, refused outside STAGING. (R65). -/
  | silApertureWrite (ch : ChanId) (word value : Nat)
  /-- Both image signatures have been verified or one fails, and the loader moves to CHECKING or records the refusal. (R53). -/
  | imageVerifyDone (internal : Bool)
  /-- The image checks complete; a full image applies, a partial image closes its affected slices and drains, or the refusal is
  recorded. (R76). -/
  | imageCheckDone (internal : Bool)
  /-- Every affected slice has drained and the partial image is journalled for its commit point. (R71). -/
  | sliceDrained
  /-- The drain timeout expires and the affected slices reopen unchanged with TIMEOUT recorded. (R75). -/
  | drainTimeout
  /-- The member's live ring arrives from the mirror after a T1-losing reset and journalled partial images are reapplied before
  join. (R69). -/
  | ringFetchDone (entries : List JEntry) (high : Nat)
  /-- The partner does not answer the ring fetch within the member-loss timeout and the member begins a new journal. (R69). -/
  | ringFetchTimeout
  /-- KEEPALIVE from a bound channel resets its seat's liveness timer. (R85). -/
  | keepalive (ch : ChanId)
  /-- RELEASE frees every semaphore and channel of the seat and makes it UNBOUND. (R84). -/
  | seatRelease (ch : ChanId)
  /-- CLAIM_BEGIN assigns a claim buffer and a fresh nonce to an unbound channel, or reports BUSY or STATE_CONFLICT. (R83). -/
  | claimBegin (ch : ChanId)
  /-- CLAIM_SUBMIT starts the checks of the staged claim record. (R83). -/
  | claimSubmit (ch : ChanId)
  /-- The claim checks finish within 5 ms; the channel binds to the seat or the refusal is reported, and the buffer is released.
  (R83). -/
  | claimCheckDone (buffer : Nat) (internal : Bool)
  /-- A claim buffer with no CLAIM_SUBMIT for 10 s is released with TIMEOUT and REASON 0x0B. (R83). -/
  | claimBufferTimeout (buffer : Nat)
  /-- A channel leaves its entry when its queue pair leaves RTS or its I3C address is reset, releasing any claim buffer. (R80).
  -/
  | channelClose (ch : ChanId)
  /-- A bound seat delivers no access for the liveness timeout and becomes LOST with an error record. (R85). -/
  | seatLivenessTimeout (seat : SeatId)
  /-- ACQUIRE takes a free semaphore with a lease, renews an owned one, or is refused BUSY. (R87). -/
  | semAcquire (ch : ChanId) (sem lease : Nat) (other : Option (ChanId × Nat))
  /-- RENEW extends the lease of a semaphore held by the seat, or is refused SEM_NOT_HELD. (R87). -/
  | semRenew (ch : ChanId) (sem lease : Nat)
  /-- RELEASE frees a semaphore held by the seat, or is refused SEM_NOT_HELD. (R87). -/
  | semRelease (ch : ChanId) (sem : Nat)
  /-- A semaphore's lease expires, clearing its owner and writing a record for semaphores 0 to 3. (R87). -/
  | semLeaseExpiry (sem : Nat)
  /-- A private write frame over I3C performs a window read or write, or is refused when malformed. (R92). -/
  | i3cWindowFrame (bs : List Byte) (env : WriteEnv)
  /-- A private read returns the status byte and data of the last read frame. (R92). -/
  | i3cPrivateRead
  /-- The device takes part in dynamic address assignment with its provisional ID carrying its position. (R92). -/
  | i3cEntdaa (addr : Nat)
  /-- RSTDAA resets the dynamic address, ending the sideband channel. (R80). -/
  | i3cRstdaa
  /-- SETDASA assigns the device a dynamic address from its static address. (R92). -/
  | i3cSetdasa (addr : Nat)
  /-- GETPID returns the 48-bit provisional ID. (R92). -/
  | i3cGetpid
  /-- GETBCR returns the bus characteristics register. (R92). -/
  | i3cGetbcr
  /-- GETDCR returns the device characteristics register. (R92). -/
  | i3cGetdcr
  /-- GETSTATUS returns the target status. (R92). -/
  | i3cGetstatus
  /-- ENEC enables target events. (R92). -/
  | i3cEnec (bits : Nat)
  /-- DISEC disables target events. (R92). -/
  | i3cDisec (bits : Nat)
  /-- Any other common command code is NACKed. (R92). -/
  | i3cCccUnsupported (code : Nat)
  /-- A DOORBELL store compares TAIL with HEAD and starts fetching slots, does nothing, or puts the queue in ERROR. (R97). -/
  | doorbell (queue word : Nat)
  /-- A CQ_HEAD store frees completion space or puts the queue in ERROR. (R98). -/
  | cqHeadStore (queue word : Nat)
  /-- A fetched descriptor is checked; it is refused with its final completion, held, or journalled and mirrored. (R103). -/
  | slotFetchDone (queue : Nat) (timedOut : Bool)
  /-- A mirror acknowledgement arrives; covered journal entries take effect: acceptance, phase commit, retirement, queue or
  context configuration. (R106). -/
  | mirrorAck (p : Packet)
  /-- The partner checks a mirrored journal entry's CRC, writes it in JSEQ order and acknowledges. (R113). -/
  | journalMirrorEntry (p : Packet)
  /-- A holder receives HANDOFF for a phase and starts it, or answers TAKEN for one it holds. (R119). -/
  | handoff (p : Packet)
  /-- The custodian receives TAKEN and marks the phase RUNNING. (R118). -/
  | taken (p : Packet)
  /-- The custodian receives HELD for a running phase. (R119). -/
  | held (p : Packet)
  /-- The custodian receives NOT_HELD and re-commits the phase with the same holder and tags. (R118). -/
  | notHeld (p : Packet)
  /-- A holder answers HOLD_QUERY with HELD or NOT_HELD. (R119). -/
  | holdQuery (p : Packet)
  /-- The custodian receives PHASE_DONE and commits the next PHASE or RETIRE. (R118). -/
  | phaseDone (p : Packet)
  /-- Once per hand-off timeout the orphan scan queries silent holders and reclaims phases. (R120). -/
  | orphanScan
  /-- ENABLE checks the queue configuration, pins its rings and journals QUEUE_CFG open. (R129). -/
  | queueEnable (ch : ChanId)
  /-- DISABLE stops fetching and moves the queue to STOPPING. (R129). -/
  | queueDisable (ch : ChanId)
  /-- CLEAR_ERROR resumes fetching at HEAD. (R129). -/
  | queueClearError (ch : ChanId)
  /-- MAP checks a staged extent and writes it, forwarding checks 5 to 7 to a remote owner. (R140). -/
  | map (ch : ChanId)
  /-- The owner's answer to a remote MAP arrives and the MAP completes. (R140). -/
  | mapOwnerAnswer (p : Packet)
  /-- A remote MAP has no owner answer within the management timeout and completes with TIMEOUT. (R140). -/
  | mapTimeout (seat : SeatId)
  /-- Writing ENABLE 1 checks the context and journals CONTEXT_CFG to enable it. (R137). -/
  | contextEnable (ch : ChanId)
  /-- Writing ENABLE 0 disables a context with no entries, journalling CONTEXT_CFG. (R137). -/
  | contextDisable (ch : ChanId)
  /-- UNMAP_RANGE moves whole extents of a range to WITHDRAWING, all or nothing. (R154). -/
  | unmapRange (ch : ChanId)
  /-- UNMAP_CONTEXT moves every extent of the context to WITHDRAWING. (R154). -/
  | unmapContext (ch : ChanId)
  /-- RELEASE_MEMBER drops the claims and aliases registered by a FAILED or RETIRED member. (R136). -/
  | releaseMember (ch : ChanId) (d : Nat)
  /-- ETC invalidation of an extent completes, its state change takes effect and held lookups resolve. (R149). -/
  | etcInvalidateDone (ctx va : Nat)
  /-- An ETC miss finishes walking the sorted extent table and fills the ETC. (R148). -/
  | etcMissWalk (ctx va : Nat)
  /-- A shootdown not complete within its timeout posts TIMEOUT and writes a record while the drain continues. (R156). -/
  | shootdownTimeout (seat : SeatId)
  /-- An owner receives a MAP check on XLT_CTRL, records the claim or alias and answers. (R140). -/
  | xltMapCheck (p : Packet)
  /-- A member receives REVOKE_RANGE and moves the extents over the claim to REVOKING or forwards it. (R158). -/
  | revokeRange (p : Packet)
  /-- A drained report arrives; the owner or custodian completes the revocation when all reports are in. (R158). -/
  | drainedReport (p : Packet)
  /-- A member answers a spare's XLT_CTRL query with its extents on the failed number. (R137). -/
  | registrationQuery (p : Packet)
  /-- A stack, channel or flash die fails and its offsets are served by protection class. (R166). -/
  | partFailure (tier part : Nat)
  /-- A waiting tile obtains a freed staging slot at the owner. (R172). -/
  | stagingSlotFree
  /-- A degraded granule's redundancy holder is ACTIVE and the owner resynchronises it unit by unit. (R473). -/
  | granuleResync (tier granule : Nat)
  /-- A 64 KiB unit of a P2 claim has been sent to the parity holder and is armed or disarmed. (R181). -/
  | armUnitDone (cell : Nat)
  /-- A 64 KiB unit is copied onto the spare and the frontier advances. (R189). -/
  | rebuildUnitCopy (tier : Nat)
  /-- A load stage of the spare completes. (R187). -/
  | rebuildStageDone (stage d : Nat) (entries : List JEntry) (claims : List Claim) (content : List (Nat × List Byte × Nat)) (lost : List (Nat × Nat))
  /-- qissue issues a command record and returns its ticket. (R207). -/
  | qissue (core : Nat)
  /-- qwait stalls until a ticket completes and returns its status. (R207). -/
  | qwait (core : Nat)
  /-- qpoll returns the status of a ticket or 0x100. (R207). -/
  | qpoll (core : Nat)
  /-- qfence stalls until every issued command of the named engines completes. (R207). -/
  | qfence (core : Nat)
  /-- qexit ends the kernel on the core with a status and result. (R214). -/
  | qexit (core : Nat)
  /-- qinfo returns a core, launch, partition, time or device item. (R207). -/
  | qinfo (core : Nat)
  /-- The scalar core executes an RV64IMAC instruction on T0. (R206). -/
  | scalarInstruction (core : Nat) (badSector : Option Nat) (parity : Bool)
  /-- The matrix engine runs a matrix multiply command in passes with checksum rows. (R200). -/
  | mma (core : Nat) (faults : List ArrayFault)
  /-- The vector engine computes z = x + y. (R203). -/
  | vectorAdd (core : Nat)
  /-- The vector engine computes z = x − y. (R203). -/
  | vectorSub (core : Nat)
  /-- The vector engine computes z = x × y. (R203). -/
  | vectorMul (core : Nat)
  /-- The vector engine computes z = x × y + z. (R203). -/
  | vectorFma (core : Nat)
  /-- The vector engine computes the elementwise maximum. (R203). -/
  | vectorMax (core : Nat)
  /-- The vector engine computes the elementwise minimum. (R203). -/
  | vectorMin (core : Nat)
  /-- The vector engine computes z = x × IMM + IMM2. (R203). -/
  | affine (core : Nat)
  /-- The vector engine computes 2 to the power x × IMM − IMM2. (R203). -/
  | exp2 (core : Nat)
  /-- The vector engine computes 1 / x. (R203). -/
  | rcp (core : Nat)
  /-- The vector engine computes 1 / √x. (R203). -/
  | rsqrt (core : Nat)
  /-- The vector engine computes log2(x). (R203). -/
  | log2 (core : Nat)
  /-- The vector engine computes the maximum of each row. (R203). -/
  | rowmax (core : Nat)
  /-- The vector engine computes the sum of each row. (R203). -/
  | rowsum (core : Nat)
  /-- The vector engine converts elements to OUT_ELEM, writing MX scales to Y. (R203). -/
  | convert (core : Nat)
  /-- The vector engine performs one online-softmax step per row, updating the row state. (R203). -/
  | softmaxStep (core : Nat)
  /-- The vector engine multiplies each row by its correction factor. (R203). -/
  | rescale (core : Nat)
  /-- The vector engine divides each row by its running sum and optionally writes log-sum-exp. (R203). -/
  | normalise (core : Nat)
  /-- The DMA engine moves tiles from domain memory to T0. (R204). -/
  | dmaLoad (core : Nat) (parity : Bool)
  /-- The DMA engine moves tiles from T0 to domain memory. (R204). -/
  | dmaStore (core : Nat) (parity : Bool)
  /-- The DMA engine publishes tiles from T0 with whole-tile visibility. (R204). -/
  | dmaPublish (core : Nat) (parity : Bool)
  /-- The DMA engine copies a packed tile within T0. (R204). -/
  | localCopy (core : Nat) (parity : Bool)
  /-- The DMA engine issues a list of atomic entries and writes results back. (R204). -/
  | dmaAtomic (core : Nat) (parity : Bool)
  /-- Kernel image signature verification completes and the cores start or the launch ends with AUTH_FAIL. (R211). -/
  | kernelVerifyDone (tag : Nat)
  /-- The launch budget expires and every core ends with CAUSE 0x08. (R215). -/
  | launchBudgetExpiry (tag : Nat)
  /-- A waking core's island is powered and clocks are stable 30 µs after grant; the core becomes IDLE. (R217). -/
  | coreWakeDone (core : Nat)
  /-- A core idle for QNC_IDLE_GATE.US powers down. (R217). -/
  | coreIdleGate (core : Nat)
  /-- FLUSH clears the verified-digest table. (R211). -/
  | kcacheFlush (ch : ChanId)
  /-- An ATTEND unit finishes on its core, writing its rows or failing. (R224). -/
  | attendUnitDone (core : Nat) (faults : List ArrayFault)
  /-- A packet header arrives at the switch core; format and key are checked, it is routed, combined, cut through or stomped.
  (R311). -/
  | packetForward (ingress lane : Nat) (p : Packet) (crc stomp fault : Nat)
  /-- At a packet boundary an egress port selects the next packet by level, gates, shapers and DRR. (R317). -/
  | egressArbitration (egress : Nat)
  /-- A link frame arrives; it is decrypted, checked and acknowledged or a go-back retry is requested, and credits are returned.
  (R254). -/
  | linkFrame (port lane : Nat) (frame : Frame)
  /-- An owner serves a LOAD request and returns the touched sectors with poison bits. (R235). -/
  | load (p : Packet) (ecc : Nat)
  /-- An owner applies a STORE request, mirrors or updates parity as needed, and acknowledges. (R236). -/
  | store (p : Packet) (ecc : Nat)
  /-- An owner applies an atomic indivisibly and returns the old value. (R240). -/
  | atomic (p : Packet) (ecc : Nat)
  /-- A REDUCE packet reaches Damson or Currant and is handled by its subkind. (R336). -/
  | reduce (p : Packet)
  /-- The owner holds overlapping requests, recalls cached lines and writes a staged tile whole. (R172). -/
  | tileCommit (p : Packet)
  /-- A mirror target applies a MIRROR write to the mirror position or journal mirror and records its tag. (R178). -/
  | mirror (p : Packet)
  /-- A parity holder applies a parity update and acknowledges. (R182). -/
  | parity (p : Packet)
  /-- A target removes retired tags from the dedup window and forwards retirements to mirror or parity holders. (R246). -/
  | retire (p : Packet)
  /-- The owner answers a drain marker after applying every earlier packet on that ingress and VC. (R258). -/
  | fenceMark (p : Packet)
  /-- An agent fence advances epochs and is answered when R257 holds. (R261). -/
  | agentFence (aport : Nat) (p : Packet)
  /-- A receiver drops dedup entries of the source's transaction tags, or all entries with ALL set. (R248). -/
  | tagReset (p : Packet)
  /-- An owner reads a window-2 block whole and answers with 16 responses. (R238). -/
  | blockRead (p : Packet) (ecc : Nat)
  /-- An owner collects a piece of a block write and writes the block once all 16 pieces have arrived. (R238). -/
  | blockWrite (p : Packet)
  /-- A block whose pieces have not all arrived within the fabric timeout is discarded unwritten. (R238). -/
  | blockAssemblyTimeout (src tag : Nat)
  /-- A forwarded management read is served at the target member. (R40). -/
  | windowRead (p : Packet)
  /-- A forwarded management write is served at the target member. (R40). -/
  | windowWrite (p : Packet) (env : WriteEnv)
  /-- A relay answers RELAY_DRAIN once it has forwarded every packet of the source to the destination. (R259). -/
  | relayDrain (p : Packet)
  /-- A response or acknowledgement reaches its source, ends the request and releases references and window slots. (R234). -/
  | response (p : Packet)
  /-- A request with no answer after the retry interval is re-sent under its original tag. (R247). -/
  | retryTimer (tag : Nat)
  /-- A request unanswered for the fabric timeout ends with TIMEOUT and a record. (R247). -/
  | fabricTimeout (tag : Nat)
  /-- Pending retirements are sent within 10 µs of delivery or when 256 are pending. (R246). -/
  | retireSend (d : Nat)
  /-- An agent request enters an A-port, is translated and forwarded or refused. (R265). -/
  | agentRequest (aport : Nat) (p : Packet)
  /-- RETRAIN retrains a lane of the selected port. (R255). -/
  | portRetrain (ch : ChanId) (lane : Nat)
  /-- HOLD_DOWN holds a lane of the selected port down. (R255). -/
  | portHoldDown (ch : ChanId) (lane : Nat)
  /-- RELEASE lets a held lane train again. (R255). -/
  | portRelease (ch : ChanId) (lane : Nat)
  /-- The home serves READ_SHARED, snooping as needed, and grants I, S, F or E. (R277). -/
  | readShared (p : Packet) (ecc : Nat)
  /-- The home serves READ_OWN, invalidating other holders, and grants E with data. (R277). -/
  | readOwn (p : Packet) (ecc : Nat)
  /-- The home serves UPGRADE, invalidating other holders, and grants E. (R277). -/
  | upgrade (p : Packet) (ecc : Nat)
  /-- The home writes back an M line from its holder and drops the entry. (R277). -/
  | writeback (p : Packet) (ecc : Nat)
  /-- An attach device passes SNP_INV to its agent or answers from its dedup copy. (R281). -/
  | snpInv (p : Packet)
  /-- An attach device passes SNP_SHARE to its agent. (R281). -/
  | snpShare (p : Packet)
  /-- An attach device asks its F holder to supply the line to another of its agents. (R279). -/
  | snpFwd (p : Packet)
  /-- An agent is told to write back and drop every line in scope. (R281). -/
  | agentFlush (aport owner : Nat) (every : Bool)
  /-- A home receives AGENT_DROP and starts a scan to drop, and optionally poison, the agent's entries. (R287). -/
  | agentDrop (p : Packet)
  /-- A home finishes the scan for an AGENT_DROP and answers. (R287). -/
  | agentDropScanDone (src tag : Nat)
  /-- An attach device receives AGENT_EXPEL, holds the A-port down, drains and drops with POISON. (R287). -/
  | agentExpel (p : Packet)
  /-- The home receives GRANT_ACK and the line leaves BUSY. (R274). -/
  | grantAck (p : Packet)
  /-- A snoop answer reaches the home, whose line data is written and whose record advances. (R282). -/
  | snoopAnswer (p : Packet)
  /-- A snoop, writeback or GRANT_ACK unanswered for the home timeout poisons or drops the entry and expels the agent. (R285).
  -/
  | homeTimeout (agent line : Nat)
  /-- FLUSH sends AGENT_FLUSH with ALL to an ATTACHED A-port agent. (R287). -/
  | aportFlush (ch : ChanId) (aport : Nat)
  /-- EXPEL holds the A-port down, drains and drops the agent with POISON. (R287). -/
  | aportExpel (ch : ChanId) (aport : Nat)
  /-- A gate entry begins at its domain time and opens and closes its gates. (R323). -/
  | gateEntryBegin
  /-- Holdover passes without lock; all gates open and the gate list is SUSPENDED. (R328). -/
  | gateHoldoverExpiry
  /-- APPLY checks the staged shaper values and applies them with the bucket effects of R321. (R321). -/
  | shaperApply (ch : ChanId)
  /-- LOAD copies the selected shaper's configuration into the seat's staging registers. (R329). -/
  | shaperLoad (ch : ChanId)
  /-- A reducer accumulates a contribution chunk and sends results when all contributions are in. (R337). -/
  | contrib (p : Packet)
  /-- A receiver writes a result chunk to its DST. (R337). -/
  | result (p : Packet)
  /-- A digest record arrives and the shard is tested. (R342). -/
  | digest (p : Packet)
  /-- A participant receives a chunk limit and checks the DCRC on the first grant. (R337). -/
  | grant (p : Packet)
  /-- A participant receives ABORT and ends the collective with the status. (R345). -/
  | collectiveAbort (p : Packet)
  /-- No REDUCE packet of a collective for COLL_TMO.MS ends it with TIMEOUT. (R345). -/
  | collectiveTimeout (key id : Nat)
  /-- An owner pools the requested rows and returns partials once REQS packets are served. (R354). -/
  | poolReq (p : Packet)
  /-- The origin combines partials and stores pooled bags. (R355). -/
  | poolPart (p : Packet)
  /-- A member records VER_DRAINED and frees a retiring version when all are in. (R349). -/
  | verDrained (p : Packet)
  /-- DEFINE checks the table configuration and moves it to DEFINED. (R348). -/
  | tableDefine (ch : ChanId)
  /-- DELETE moves a DEFINED table to UNDEFINED. (R349). -/
  | tableDelete (ch : ChanId)
  /-- INSTALL translates the shard and places a version in a free slot. (R349). -/
  | versionInstall (ch : ChanId)
  /-- COMMIT makes a version CURRENT and retires the former one. (R350). -/
  | versionCommit (ch : ChanId)
  /-- DISCARD frees an INSTALLED version slot. (R349). -/
  | versionDiscard (ch : ChanId)
  /-- The centroid step completes and segments are assigned to Sloe units. (R367). -/
  | centroidStepDone (tag : Nat)
  /-- A Sloe finishes scanning a segment and offers candidates to the merge stage. (R367). -/
  | segmentScanDone (unit : Nat)
  /-- A segment exceeds the scan timeout and its queries end with TIMEOUT. (R358). -/
  | segmentScanTimeout (unit : Nat)
  /-- An internal parity fault moves a Sloe to FAULTED and ends its segments. (R358). -/
  | sloeParityFault (unit : Nat)
  /-- The merge stage ranks and filters candidates and results are stored. (R369). -/
  | searchMergeDone (tag : Nat)
  /-- TO_INIT moves a queue pair from RESET to INIT. (R379). -/
  | qpToInit (ch : ChanId)
  /-- TO_RTR moves a queue pair to RTR or is refused. (R379). -/
  | qpToRtr (ch : ChanId)
  /-- TO_RTS moves a queue pair to RTS. (R379). -/
  | qpToRts (ch : ChanId)
  /-- TO_ERROR ends outstanding transfers and moves the queue pair to ERROR. (R379). -/
  | qpToError (ch : ChanId)
  /-- TO_RESET discards queue-pair state and frees its channel entry. (R379). -/
  | qpToReset (ch : ChanId)
  /-- A responder translates and applies an RDMA WRITE or NAKs it. (R381). -/
  | rdmaWrite (qp psn va rkey : Nat) (bs : List Byte) (ce : Bool) (env : WriteEnv)
  /-- A responder translates and serves an RDMA READ or NAKs it. (R381). -/
  | rdmaRead (qp psn va rkey len : Nat) (ce : Bool) (env : WriteEnv)
  /-- A responder applies a 64-bit atomic add or returns a recorded duplicate. (R381). -/
  | fetchAdd (qp psn va rkey operand : Nat) (ce : Bool)
  /-- A responder applies a 64-bit compare and swap or returns a recorded duplicate. (R381). -/
  | cmpSwap (qp psn va rkey compare swap : Nat) (ce : Bool)
  /-- A SEND writes descriptors into a submission queue ring and rings its doorbell, or is RNR NAKed. (R382). -/
  | send (qp psn : Nat) (bs : List Byte) (ce : Bool)
  /-- A requesting queue pair receives an ACK or NAK for its RDMA WRITE or READ. (R380). -/
  | roceAck (qp psn code : Nat) (data : List Byte)
  /-- A request's local acknowledgement timeout expires; it is retried or the queue pair fails with TIMEOUT. (R380). -/
  | qpAckTimeout (qp : Nat)
  /-- A received CNP cuts the rate of the requesting queue pair. (R390). -/
  | cnp (qp : Nat)
  /-- Each recovery interval, queue pairs without a recent cut raise their rate. (R390). -/
  | ccRecoverTimer
  /-- A received PFC frame pauses egress of its priority for its quanta. (R388). -/
  | pfcFrame (port prio quanta : Nat)
  /-- A lossless priority still above XOFF repeats its PFC pause at half the interval. (R388). -/
  | pfcXoffRefresh (port prio : Nat)
  /-- A priority paused for WD_MS has its frames discarded and a record is written. (R389). -/
  | pfcWatchdog (port prio : Nat)
  /-- The port answers ARP for its own address. (R376). -/
  | arpRequest (port hi lo : Nat)
  /-- The port answers IPv6 neighbour solicitation for its own address. (R376). -/
  | neighbourSolicitation (port hi lo : Nat)
  /-- The port answers ICMP echo for its own address. (R376). -/
  | icmpEcho (port hi lo bytes : Nat)
  /-- An unsupported frame or one failing ICRC is discarded and counted. (R377). -/
  | ethFrameDiscard (port : Nat) (icrc : Bool)
  /-- REGISTER pins covered extents and issues an RKEY. (R384). -/
  | mrRegister (ch : ChanId) (ctx rights : Nat)
  /-- DEREGISTER removes a region and releases its pins. (R384). -/
  | mrDeregister (ch : ChanId) (rkey : Nat)
  /-- PUSH starts a checkpoint transfer by RDMA WRITE. (R387). -/
  | xferPush (ch : ChanId) (rkey qp : Nat)
  /-- PULL starts a checkpoint transfer by RDMA READ. (R387). -/
  | xferPull (ch : ChanId) (rkey qp : Nat)
  /-- ABORT ends the seat's transfer with STATE_CONFLICT. (R387). -/
  | xferAbort (ch : ChanId)
  /-- A PTP message is time-stamped and the servo slews or steps the time base and updates lock. (R391). -/
  | ptpMessage (port ptpDomain : Nat) (offset : Int)
  /-- Three announce intervals without a master move the time base to HOLDOVER. (R391). -/
  | ptpAnnounceTimeout
  /-- A sentinel finishes and passes, is rerun, or faults the core. (R397). -/
  | sentinelDone (engine : Nat) (pass : Bool)
  /-- An engine without progress for CMD_MS hangs; the core resets and quarantine starts. (R407). -/
  | engineWatchdog (core engine last : Nat)
  /-- A quarantine run completes or hangs, naming a guilty context or moving to the next suspect. (R410). -/
  | quarantineRunDone (hung : Bool)
  /-- A write of RAS_LOG_CLEAR discards error-log records up to UPTO. (R402). -/
  | logClear (ch : ChanId) (upto : Nat)
  /-- L0 holds, invalidates and releases one context. (R413). -/
  | resetL0 (ch : ChanId) (ctx : Nat)
  /-- L1 resets one Quince core. (R411). -/
  | resetL1 (ch : ChanId) (core : Nat)
  /-- L2 retrains every lane of one port. (R411). -/
  | resetL2 (ch : ChanId) (port : Nat)
  /-- L3 resets one clock island. (R413). -/
  | resetL3 (ch : ChanId) (island : Nat) (pufOk : Bool)
  /-- L4 warm-resets every island but 25. (R411). -/
  | resetL4 (ch : ChanId)
  /-- L5 cold-resets the device, keeping memory in self-refresh when ordered by a seat. (R411). -/
  | resetL5 (ch : ChanId) (info : StartInfo)
  /-- A reset finishes and its outcome is posted. (R411). -/
  | resetComplete (level target : Nat) (pass : Bool)
  /-- START begins the admission of a spare for a failed number with its test. (R418). -/
  | admitStart (ch : ChanId) (failed spare : Nat)
  /-- ABORT abandons an admission before the swap. (R419). -/
  | admitAbort (ch : ChanId)
  /-- The spare's test and layout comparison complete and loading begins or the admission is abandoned. (R419). -/
  | admitTestDone (failed spare : Nat) (pass : Bool)
  /-- Stages 1 to 3 complete and the admission waits for a step boundary. (R419). -/
  | admitLoadDone
  /-- A spare silent for the management timeout abandons the admission with TIMEOUT. (R419). -/
  | admitSpareTimeout
  /-- A member receiving the custodian's rebinding drains requests to the failed number and swaps numbers. (R420). -/
  | rebindApply (p : Packet)
  /-- GENERATE starts forming a signed attestation report for the seat. (R431). -/
  | reportGenerate (ch : ChanId)
  /-- The attestation report is formed and its outcome posted. (R431). -/
  | reportReady (seat : SeatId)
  /-- INSTALL unwraps and installs a partition data key. (R437). -/
  | keyInstall (ch : ChanId)
  /-- DESTROY erases an unused partition data key. (R437). -/
  | keyDestroy (ch : ChanId)
  /-- A key-exchange message of a trained port is processed and link keys are established or the port is held down. (R432). -/
  | linkKeyExchange (port : Nat) (message : KeyMsg)
  /-- After 2^32 frames or 60 s the port ends rekey with a new exchange. (R433). -/
  | linkRekey (port : Nat) (message : KeyMsg)
  /-- The 52 V input is applied; ROM, firmware check, key derivation, self-test, image load and join follow. (R453). -/
  | coldStart (info : StartInfo)
  /-- T1 or T2 test and initialisation completes. (R455). -/
  | memInitDone (tier : Nat) (failed : List Nat)
  /-- An input dip of 1 ms or less is ridden through and counted. (R440). -/
  | inputDip (mv ns : Nat)
  /-- Input below 40 V for more than 1 ms or above 62 V for 100 µs stops the device. (R440). -/
  | inputLoss (mv ns : Nat)
  /-- Input between 60 V and 62 V writes a PWR record. (R440). -/
  | inputHigh (mv : Nat)
  /-- Each 1 ms the power average and temperature lower or raise DUTY. (R442). -/
  | dutyAdjust (avgW peakW vin iin : Nat) (temp : Int) (sensor : Nat)
  /-- Input current above 41.3 A for 20 µs drops DUTY to 8. (R443). -/
  | overcurrent
  /-- At 115 °C islands 1 to 24 stop, lasers turn off and islands go HELD. (R444). -/
  | thermalTrip (sensor : Nat)
  /-- The slew governor grants pending wakes in order while the 100 µs window allows. (R446). -/
  | governorGrant
  /-- A waking island's rails are good and its PLL locked; it becomes ON. (R452). -/
  | islandWakeDone (island : Nat)
  /-- An island in RESET finishes its tests and returns ON or goes OFF. (R452). -/
  | islandTestDone (island : Nat) (pass : Bool)
  /-- A reference clock lost for more than 10 µs stops its islands to HELD. (R451). -/
  | refclkLoss (serdes : Bool)
  /-- A start waiting 1 s for a reference clock writes a PWR record. (R451). -/
  | refclkWaitTimeout
  /-- RST_N low for 2 µs orders an L5 from the board reset contact. (R462). -/
  | boardReset (ns : Nat)
  /-- The rising edge of RST_N starts the device from the 18 ms row. (R462). -/
  | boardResetRelease (info : StartInfo)
  /-- LSR_EN falls; every laser turns off and every lane is held down. (R465). -/
  | laserInterlockDrop
  /-- LSR_EN rises and the lanes train again. (R465). -/
  | laserInterlockRise
  /-- UNLOCK moves test access to UNLOCKED. (R466). -/
  | testUnlock (ch : ChanId)
  /-- LOCK moves test access to LOCKED. (R466). -/
  | testLock (ch : ChanId)
  /-- HOLD stops islands 1 to 24 to HELD for boundary scan. (R466). -/
  | testHold (ch : ChanId)
  /-- A TAP reset selects IDCODE. (R467). -/
  | tapReset
  /-- EXTEST drives the boundary cells, or acts as SAMPLE outside HOLD and OPEN_ROM. (R467). -/
  | extest (pins preload : Nat)
  /-- SAMPLE/PRELOAD captures the pins. (R467). -/
  | samplePreload (pins preload : Nat)
  /-- IDCODE selects the identification register. (R468). -/
  | idcode
  /-- HIGHZ releases the outputs, or selects BYPASS when locked or unlocked. (R467). -/
  | highz
  /-- CLAMP holds the outputs, or selects BYPASS when locked or unlocked. (R467). -/
  | clamp
  /-- PROBE gives the TAP control of the analogue buses. (R470). -/
  | probe (mode node reading : Nat)
  /-- RUNBIST runs the BIST of every island and the lane loopback. (R467). -/
  | runbist (passed : Nat)
  /-- TSTWIN reads a window word at Update-DR for capture. (R468). -/
  | tstwin (off : Nat)
  /-- BYPASS selects the one-bit bypass register. (R467). -/
  | bypass
  /-- A write of TST_ABUS_CTRL connects or disconnects an analogue node. (R470). -/
  | abusSelect (ch : ChanId) (mode node reading : Nat)
  /-- ISOLATE takes a Quince core or Sloe unit out of grants. (R471). -/
  | unitIsolate (ch : ChanId) (unit : Nat)
  /-- An isolating unit becomes idle and is ISOLATED. (R471). -/
  | unitIdle
  /-- TEST runs the selected MBIST, LBIST and sentinel on the isolated unit. (R471). -/
  | unitTest (ch : ChanId) (unit tests : Nat)
  /-- The unit's tests finish with DONE or fault the unit. (R471). -/
  | unitTestDone (failed : Option Nat)
  /-- RELEASE returns the unit to grants. (R471). -/
  | unitRelease (ch : ChanId) (unit : Nat)
  /-- A holder running a phase sends HELD unprompted to the custodian at least once per hand-off timeout. (R119). -/
  | heldInterval
  /-- A resumed transaction that waits on a JOINING number for one member-loss timeout after the member entered ACTIVE is
  handled under R36. (R125). -/
  | joiningWaitTimeout
  /-- The scan of every filter set for a withdrawn or revoked extent of more than 4,096 lines ends, completing the recall if no
  snoop is outstanding. (R280). -/
  | recallScanDone (ctx va : Nat)
  /-- A shaper's peak or committed bucket fills enough for the head packet, so the queue wakes or changes level. (R320). -/
  | shaperBucketFill (shaper : Nat) (committed : Bool)
  /-- An ABORT status kept for a collective not yet started is discarded after twice COLL_TMO.MS. (R345). -/
  | abortStatusExpiry (key id : Nat)
  /-- The quanta of a received PFC pause run out and egress of that priority resumes. (R388). -/
  | pfcPauseExpiry (port prio : Nat)
  /-- A reference clock that was absent becomes present and stable, and a start waiting on it continues. (R451). -/
  | refclkStable (serdes : Bool)
  /-- An E-port's 400GbE link goes down or comes up, as shown in ETH_PORT_STATUS.LINK. (R376). -/
  | ethLinkChange (port : Nat) (up : Bool)
  deriving DecidableEq, Repr

end Sys2Proof
end

