-- ==== Sys2Proof/Config.lean ====
section
/-! DEFINITION. What one unit of the part fixes and what the spec leaves open: uninterpreted constants.
Nothing in Lean can evaluate an `opaque` constant of this file, so a claim holds for every value of it.
The assumption log names each (notes/assumptions). -/

namespace Sys2Proof.Config

/-- A value the spec leaves undefined, drawn under a fresh index (`State.free`).  Log entry 3. -/
opaque freeValue : Nat → Nat

/-- Free byte: what a byte of T0 reads as that has not been written since its content became undefined (R217). Log entry 4. -/
opaque undefinedByte : (content addr : Nat) → BitVec 8

/-- AES-256-XTS (R185) on the 16 B blocks of a data unit: the cipher of a key under the unit's tweak, the DGA of its first byte, at a
block of the unit.  Uninterpreted: the spec names the standard and does not restate it. Log entry 4. -/
opaque aesXts : (key tweak block : Nat) → Equiv.Perm (BitVec 128)

/-- SHA-384 (R54, R81, R428): 48 bytes.  Uninterpreted: the spec names the standard and does not restate it. Log entry 5. -/
opaque sha384 : List (BitVec 8) → List (BitVec 8)

/-- Ed25519 verification of a signature over a message under a public key (R52, R81). Log entry 5. -/
opaque ed25519Verify : (key msg sig : List (BitVec 8)) → Bool

/-- ML-DSA-65 verification with an empty context string unless one is given (R52, R81). Log entry 5. -/
opaque mldsaVerify : (key msg sig : List (BitVec 8)) → Bool

/-- Ed25519 signature by the unit's own key (R431). Log entry 5. -/
opaque ed25519Sign : (helper msg : List (BitVec 8)) → List (BitVec 8)

/-- ML-DSA-65 signature by the unit's own key (R431). Log entry 5. -/
opaque mldsaSign : (helper msg : List (BitVec 8)) → List (BitVec 8)

/-- HKDF-SHA-384 output of a given length (R432, R436). Log entry 5. -/
opaque hkdf : (secret info : List (BitVec 8)) → (len : Nat) → List (BitVec 8)

/-- ML-KEM-768 decapsulation under the unit's key: the shared secret of a ciphertext, none where it fails (R436, R437). Log entry 5. -/
opaque kemDecaps : (helper ct : List (BitVec 8)) → Option (List (BitVec 8))

/-- AES-256-GCM opening: plaintext, or none where the tag fails (R263, R436). Log entry 5. -/
opaque gcmOpen : (key nonce aad ct : List (BitVec 8)) → Option (List (BitVec 8))

/-- The unit's Ed25519 and ML-DSA-65 public keys and its ML-KEM-768 encapsulation key, derived from its PUF under the helper data of its
serial NOR device (R427, R428). Log entry 6. -/
opaque identityEd : (helper : List (BitVec 8)) → List (BitVec 8)
opaque identityMldsa : (helper : List (BitVec 8)) → List (BitVec 8)
opaque kemKey : (helper : List (BitVec 8)) → List (BitVec 8)

/-- Helper data that an enrolment generates (R427), by its draw. Log entry 6. -/
opaque enrolledHelper : Nat → List (BitVec 8)

/-- The two firmware-signing key pairs whose digests the mask ROM holds, and the digest of the ROM's code (R423, R425, R429). Log
entry 6. -/
opaque romEd : Nat → List (BitVec 8)
opaque romMldsa : Nat → List (BitVec 8)
opaque romDigest : List (BitVec 8)

/-- A fresh random byte string of the device's generator, by draw index and length (R83, R432). Log entry 7. -/
opaque random : (index len : Nat) → List (BitVec 8)

/-- Zovedy's manufacturer code, which the spec does not state (R92, R468). Log entry 8. -/
opaque manufacturer : Nat

/-- The I3C bus and device characteristics registers, which the spec does not state (R92). Log entry 8. -/
opaque i3cBcr : Nat
opaque i3cDcr : Nat

/-- The core-rail voltage in mV sampled for an error record, by its SEQ (R399). Log entry 9. -/
opaque vcoreMv : Nat → Nat

/-- Which NaN a floating-point operation gives, by format width (R196 says only that it is a NaN). Log entry 22. -/
opaque nanPayload : Nat → Nat

/-- The event digest by which a rebinding extends MR6 (R429): what it covers the spec does not say. Log entry 46. -/
opaque rebindEvent : (failed former : Nat) → List (BitVec 8)

/-- The hash of context, span class and span that chooses a set of the extent translation cache (R148). Log entry 21. -/
opaque etcHash : (ctx log2 span : Nat) → Nat

/-- The hash that chooses a snoop filter set (R269). Log entry 25. -/
opaque filterHash : Nat → Nat

end Sys2Proof.Config
end

