-- ==== Sys2Proof/Machine/Float.lean ====
section
/-! DEFINITION. Number formats and arithmetic of the engines (R167, R194 to R198, R239, R240): exact dyadic values, rounding
once to nearest even, MX blocks.  A sum whose order the spec leaves open (R198) is taken over a free tree of additions. -/

namespace Sys2Proof.Machine

/-- The value a code denotes: not a number, an infinity, or (-1)^neg m 2^e. -/
inductive Fl where
  | nan
  | inf (neg : Bool)
  | fin (neg : Bool) (m : Nat) (e : Int)
  deriving DecidableEq, Repr

/-- A binary format: exponent and mantissa bits, and whether its top exponent holds infinities and NaNs. -/
structure Fmt where
  exp : Nat
  man : Nat
  ieee : Bool
  deriving DecidableEq, Repr

def fp32 : Fmt := ⟨8, 23, true⟩
def fp16 : Fmt := ⟨5, 10, true⟩
def bf16 : Fmt := ⟨8, 7, true⟩
def e5m2 : Fmt := ⟨5, 2, true⟩
def e4m3 : Fmt := ⟨4, 3, false⟩
def e3m2 : Fmt := ⟨3, 2, false⟩
def e2m3 : Fmt := ⟨2, 3, false⟩
def e2m1 : Fmt := ⟨2, 1, false⟩

def Fmt.bias (f : Fmt) : Int := (2 ^ (f.exp - 1) : Nat) - 1

/-- Exponent of the least quantum. -/
def Fmt.qmin (f : Fmt) : Int := 1 - f.bias - f.man

/-- Width in bits. -/
def Fmt.width (f : Fmt) : Nat := 1 + f.exp + f.man

/-- The value of a code (R195, R196). -/
def Fmt.decode (f : Fmt) (x : Nat) : Fl :=
  let s := bitAt x (f.exp + f.man)
  let e := bitsOf x f.man f.exp
  let m := bitsOf x 0 f.man
  if f.ieee ∧ e = 2 ^ f.exp - 1 then (if m = 0 then .inf s else .nan)
  else if f = e4m3 ∧ e = 15 ∧ m = 7 then .nan
  else if e = 0 then .fin s m f.qmin
  else .fin s (m + 2 ^ f.man) (f.qmin + (e - 1 : Int))

/-- m 2^e as a multiple of 2^q, rounded to nearest even. -/
def roundQ (m : Nat) (e q : Int) : Nat :=
  if q ≤ e then m * 2 ^ (e - q).toNat
  else
    let k := (q - e).toNat
    let d := m / 2 ^ k
    let r := m % 2 ^ k
    if 2 * r > 2 ^ k ∨ (2 * r = 2 ^ k ∧ d % 2 = 1) then d + 1 else d

/-- Floor of log2 of a non-zero value m 2^e. -/
def flog2 (m : Nat) (e : Int) : Int := e + Nat.log2 m

/-- The magnitude code of m 2^e rounded once, unbounded above (a carry runs into the exponent). -/
def Fmt.magnitude (f : Fmt) (m : Nat) (e : Int) : Nat :=
  if m = 0 then 0
  else
    let q := max (flog2 m e - f.man) f.qmin
    (q - f.qmin).toNat * 2 ^ f.man + roundQ m e q

/-- The code of a NaN of a format: which one the spec does not state (log entry 22). -/
def Fmt.nanCode (f : Fmt) : Nat :=
  let p := Config.nanPayload f.width
  (2 ^ f.exp - 1) * 2 ^ f.man + (1 + p % (2 ^ f.man - 1)) + (p / 2 ^ f.man % 2) * 2 ^ (f.exp + f.man)

/-- Round a value once to nearest even into an IEEE-style format; overflow gives infinity (R196, R197). -/
def Fmt.encode (f : Fmt) : Fl → Nat
  | .nan => f.nanCode
  | .inf s => (2 ^ f.exp - 1) * 2 ^ f.man + (if s then 2 ^ (f.exp + f.man) else 0)
  | .fin s m e => min (f.magnitude m e) ((2 ^ f.exp - 1) * 2 ^ f.man) + (if s then 2 ^ (f.exp + f.man) else 0)

def Fl.isNan : Fl → Bool
  | .nan => true
  | _ => false

def Fl.isFin : Fl → Bool
  | .fin .. => true
  | _ => false

def Fl.isZero : Fl → Bool
  | .fin _ 0 _ => true
  | _ => false

def Fl.neg : Fl → Fl
  | .nan => .nan
  | .inf s => .inf !s
  | .fin s m e => .fin (!s) m e

def Fl.abs : Fl → Fl
  | .nan => .nan
  | .inf _ => .inf false
  | .fin _ m e => .fin false m e

def signed (s : Bool) (m : Nat) : Int := if s then -(m : Int) else m

/-- Exact sum; an exact zero sum of unequal signs is +0. -/
def Fl.add : Fl → Fl → Fl
  | .nan, _ => .nan
  | _, .nan => .nan
  | .inf s, .inf t => if s = t then .inf s else .nan
  | .inf s, .fin .. => .inf s
  | .fin .., .inf t => .inf t
  | .fin s m e, .fin t n f =>
    let g := min e f
    let v := signed s (m * 2 ^ (e - g).toNat) + signed t (n * 2 ^ (f - g).toNat)
    if v = 0 then .fin (s && t) 0 0 else .fin (decide (v < 0)) v.natAbs g

def Fl.sub (a b : Fl) : Fl := a.add b.neg

/-- Exact product. -/
def Fl.mul : Fl → Fl → Fl
  | .nan, _ => .nan
  | _, .nan => .nan
  | .inf s, .inf t => .inf (s != t)
  | .inf s, .fin t n _ => if n = 0 then .nan else .inf (s != t)
  | .fin s m _, .inf t => if m = 0 then .nan else .inf (s != t)
  | .fin s m e, .fin t n f => .fin (s != t) (m * n) (e + f)

/-- Whether a ≤ b, for values that are not NaN (-0 orders below +0, R240). -/
def Fl.le : Fl → Fl → Bool
  | .nan, _ => false
  | _, .nan => false
  | .inf true, _ => true
  | _, .inf false => true
  | .inf false, _ => false
  | _, .inf true => false
  | .fin s m e, .fin t n f =>
    if m = 0 ∧ n = 0 then s || !t
    else
      let g := min e f
      decide (signed s (m * 2 ^ (e - g).toNat) ≤ signed t (n * 2 ^ (f - g).toNat))

/-- minimumNumber and maximumNumber: a NaN operand yields the other (R240). -/
def Fl.minNum (a b : Fl) : Fl := if a.isNan then b else if b.isNan then a else if a.le b then a else b
def Fl.maxNum (a b : Fl) : Fl := if a.isNan then b else if b.isNan then a else if a.le b then b else a

/-- A value rounded to FP32. -/
def Fl.r32 (a : Fl) : Fl := fp32.decode (fp32.encode a)

/-- FP32 addition, rounded once. -/
def Fl.add32 (a b : Fl) : Fl := (a.add b).r32

/-- Quotient m 2^e / (n 2^f) with 64 bits beyond the operands and a sticky bit: enough that one rounding of it is the
rounding of the exact quotient. -/
def quotient (m : Nat) (e : Int) (n : Nat) (f : Int) : Nat × Int :=
  let k := Nat.log2 n + 64
  let d := m * 2 ^ k / n
  (2 * d + (if m * 2 ^ k % n = 0 then 0 else 1), e - f - k - 1)

/-- Quotient, the divisor not 0. -/
def Fl.div : Fl → Fl → Fl
  | .fin s m e, .fin t n f => if n = 0 then .nan else let q := quotient m e n f; .fin (s != t) q.1 q.2
  | .inf s, .fin t n _ => if n = 0 then .nan else .inf (s != t)
  | .fin s _ _, .inf t => .fin (s != t) 0 0
  | _, _ => .nan

/-- 1 / sqrt of a positive finite value, with sticky bits. -/
def Fl.rsqrt : Fl → Fl
  | .fin false m e =>
    if m = 0 then .nan
    else
      let (m, e) := if e % 2 = 0 then (m, e) else (2 * m, e - 1)
      let k := Nat.log2 m + 64
      let n := 2 ^ (2 * k) / m
      let r := Nat.sqrt n
      .fin false (2 * r + 1) (-e / 2 - k - 1)
  | .inf false => .fin false 0 0
  | _ => .nan

/-- The n-th square root of two step: the product over the fraction bits of x of 2^(2^-i), in 96-bit fixed point. -/
def exp2Frac : Nat → Nat → Nat → Nat → Nat
  | 0, _, _, acc => acc
  | n + 1, root, x, acc =>
    exp2Frac n (Nat.sqrt (root * 2 ^ 96)) (x * 2 % 2 ^ 64) (if x * 2 ≥ 2 ^ 64 then acc * root / 2 ^ 96 else acc)

/-- 2^x for a finite x to far beyond FP32 (R203 `EXP2`). -/
def Fl.exp2 : Fl → Fl
  | .nan => .nan
  | .inf s => if s then .fin false 0 0 else .inf false
  | .fin s m e =>
    if flog2 (max m 1) e > 20 then (if s then .fin false 0 0 else .inf false)
    else
      let v := signed s (m * 2 ^ (e + 64).toNat / 2 ^ (-(e + 64)).toNat)
      let i := v / 2 ^ 64
      let f := (v - i * 2 ^ 64).toNat
      .fin false (exp2Frac 64 (Nat.sqrt (2 * 2 ^ 192)) f (2 ^ 96)) (i - 96)

/-- Fraction bits of log2 by repeated squaring of a value in [1, 2) held in 96-bit fixed point. -/
def log2Frac : Nat → Nat → Nat → Nat
  | 0, _, acc => acc
  | n + 1, x, acc =>
    let y := x * x / 2 ^ 96
    if y ≥ 2 ^ 97 then log2Frac n (y / 2) (2 * acc + 1) else log2Frac n y (2 * acc)

/-- log2 of a positive finite value to far beyond FP32. -/
def Fl.log2 : Fl → Fl
  | .fin false m e =>
    if m = 0 then .nan
    else
      let k := Nat.log2 m
      let x := m * 2 ^ 96 / 2 ^ k
      let v : Int := (e + k) * 2 ^ 64 + log2Frac 64 x 0
      .fin (decide (v < 0)) v.natAbs (-64)
  | .inf false => .inf false
  | _ => .nan

/-- An FP32 result of stated accuracy: the rounded value moved by at most `ulps` codes, which the free value chooses (R203; log
entry 23).  Zeros, infinities and NaNs are not moved. -/
def ulpFree (free ulps code : Nat) : Nat :=
  let mag := code % 2 ^ 31
  if mag = 0 ∨ mag ≥ 0x7F800000 then code
  else code - mag + min (max (mag + free % (2 * ulps + 1) - ulps) 1) 0x7F7FFFFF

/-- Add a list in an order and grouping the free value chooses (R198): any two entries are taken and replaced by their FP32
sum until one is left. -/
def sumFree : Nat → Nat → List Fl → Fl
  | 0, _, l => l.headD (.fin false 0 0)
  | fuel + 1, c, l =>
    match l with
    | [] => .fin false 0 0
    | [x] => x
    | _ =>
      let i := c % l.length
      let a := l.getD i (.fin false 0 0)
      let rest := l.eraseIdx i
      let c := c / l.length
      let j := c % rest.length
      sumFree fuel (c / rest.length) (rest.set j (a.add32 (rest.getD j (.fin false 0 0))))

/-! ### Elements (R167, R194) -/

def elBF16 := 0x07
def elFP16 := 0x08
def elFP32 := 0x09
def elINT8 := 0x0A
def elINT32 := 0x0B

/-- Bits of one element; 0 for a reserved code. -/
def elemBits (el : Nat) : Nat :=
  if el = 1 ∨ el = 2 ∨ el = 6 ∨ el = elINT8 then 8
  else if el = 3 ∨ el = 4 then 6
  else if el = 5 then 4
  else if el = elBF16 ∨ el = elFP16 then 16
  else if el = elFP32 ∨ el = elINT32 then 32
  else 0

def isMx (el : Nat) : Bool := decide (1 ≤ el ∧ el ≤ 6)

/-- The value of an element code, without a block scale. -/
def elemValue (el x : Nat) : Fl :=
  if el = 1 then e4m3.decode x else if el = 2 then e5m2.decode x else if el = 3 then e3m2.decode x
  else if el = 4 then e2m3.decode x else if el = 5 then e2m1.decode x
  else if el = 6 then (let v := toSigned 8 x; .fin (decide (v < 0)) v.natAbs (-6))
  else if el = elBF16 then bf16.decode x else if el = elFP16 then fp16.decode x
  else if el = elFP32 then fp32.decode x
  else if el = elINT8 then (let v := toSigned 8 x; .fin (decide (v < 0)) v.natAbs 0)
  else (let v := toSigned 32 x; .fin (decide (v < 0)) v.natAbs 0)

/-- Element `i` of a packed row of bytes. -/
def elemAt (el : Nat) (bs : List Byte) (i : Nat) : Nat :=
  let b := elemBits el
  bitsOf (leNat (slice bs (i * b / 8) ((b + 14) / 8))) (i * b % 8) b

/-- Pack element codes (R167). -/
def packElems (el : Nat) (xs : List Nat) : List Byte :=
  let b := elemBits el
  natLe (ceilDiv (xs.length * b) 8) (xs.reverse.foldl (fun n x => n * 2 ^ b + x % 2 ^ b) 0)

/-- Round a value to an unscaled MX element, which saturates (R197); -2 is a value of MX-INT8 (R195). The code of a NaN is open (log entry 22). -/
def encodeMx (el : Nat) (x : Fl) : Nat :=
  let f := if el = 1 then e4m3 else if el = 2 then e5m2 else if el = 3 then e3m2 else if el = 4 then e2m3 else e2m1
  let top := if el = 1 then 0x7E else if el = 2 then 0x7B else if el = 3 then 0x1F else if el = 4 then 0x1F else 0x07
  match x with
  | .nan => Config.nanPayload (elemBits el) % 2 ^ elemBits el
  | .inf s => if el = 6 then (if s then 0x80 else 0x7F) else top + (if s then 2 ^ (f.exp + f.man) else 0)
  | .fin s m e =>
    if el = 6 then ofSigned 8 (max (-128) (min 127 (signed s (roundQ m e (-6)))))
    else min (f.magnitude m e) top + (if s then 2 ^ (f.exp + f.man) else 0)

/-- emax of the MX formats (R197). -/
def mxEmax (el : Nat) : Int := if el = 1 then 8 else if el = 2 then 15 else if el = 3 then 4 else if el = 4 then 2 else if el = 5 then 2 else 0

/-- The E8M0 scale byte of a block (R197). -/
def mxScale (el : Nat) (xs : List Fl) : Nat :=
  if xs.any Fl.isNan then 0xFF
  else if xs.any (fun x => !x.isFin) then 254
  else
    let amax : Fl := xs.foldl (fun (a x : Fl) => a.maxNum x.abs) (Fl.fin false 0 0)
    match amax with
    | .fin _ m e => if m = 0 then 0 else (max (-127) (min 127 (flog2 m e - mxEmax el)) + 127).toNat
    | _ => 254

/-- Scale a value by 2^k. -/
def Fl.scale (x : Fl) (k : Int) : Fl := match x with
  | .fin s m e => .fin s m (e + k)
  | y => y

/-- Convert a value to a non-MX element code (R197). -/
def encodeElem (el : Nat) (x : Fl) : Nat :=
  if el = elBF16 then bf16.encode x else if el = elFP16 then fp16.encode x else if el = elFP32 then fp32.encode x
  else match x with
    | .fin s m e => if el = elINT8 then ofSigned 8 (max (-128) (min 127 (signed s (roundQ m e 0)))) else ofSigned 32 (signed s (roundQ m e 0))
    | .inf s => if el = elINT8 then (if s then 0x80 else 0x7F) else (if s then 0x80000000 else 0x7FFFFFFF)
    | .nan => Config.nanPayload (elemBits el) % 2 ^ elemBits el

/-- Convert a block of values to MX: its scale byte and element codes; the codes of a block with a NaN are open (log entry 22). -/
def toMxBlock (el : Nat) (xs : List Fl) : Nat × List Nat :=
  let sc := mxScale el xs
  (sc, xs.map (fun x => encodeMx el (if sc = 0xFF then .nan else x.scale (127 - (sc : Int)))))

/-- The blocks of 32 of a list. -/
def blocks32 (xs : List Fl) : List (List Fl) := (List.range (ceilDiv xs.length 32)).map (fun b => (xs.drop (32 * b)).take 32)

/-- Sum of element products of one block, exact (R195). -/
def exactDot (a b : List Fl) : Fl := (List.zip a b).foldl (fun s p => s.add (p.1.mul p.2)) (.fin false 0 0)

/-- Terms of the dot product of two rows (R195, R196): for MX one a block, its exact sum scaled and rounded once; for other formats one an
element. -/
def dotTerms (mx : Bool) (a b : List Fl) (sa sb : List Nat) : List Fl :=
  if mx then
    (List.range (ceilDiv a.length 32)).map (fun i =>
      let xa := sa.getD i 127
      let xb := sb.getD i 127
      if xa = 0xFF ∨ xb = 0xFF then Fl.nan
      else ((exactDot ((a.drop (32 * i)).take 32) ((b.drop (32 * i)).take 32)).scale (xa + xb - 254 : Int)).r32)
  else (List.zip a b).map (fun p => (p.1.mul p.2).r32)

/-- Dot product of two rows, its terms added in a free order (R198). -/
def dotFree (free : Nat) (mx : Bool) (a b : List Fl) (sa sb : List Nat) : Fl :=
  let terms := dotTerms mx a b sa sb
  sumFree terms.length free terms

/-! ### Integer and atomic helpers (R239, R240) -/

/-- The new value an atomic writes, by type and operation. `none`: the pairing is reserved. -/
def atomicNew (atype old operand swap : Nat) : Option Nat :=
  let op := atype % 16
  let ty := atype / 16
  let fl (f : Fmt) : Option Nat :=
    let a := f.decode old
    let b := f.decode operand
    if op = 1 then some (f.encode (a.add b))
    else if op = 2 ∧ f = fp32 then some (f.encode (a.minNum b))
    else if op = 3 ∧ f = fp32 then some (f.encode (a.maxNum b))
    else none
  let int (w : Nat) (sgn : Bool) : Option Nat :=
    if op = 1 ∧ sgn then some ((old + operand) % 2 ^ w)
    else if op = 2 then some (if sgn then (if toSigned w old ≤ toSigned w operand then old else operand) else min old operand)
    else if op = 3 then some (if sgn then (if toSigned w old ≤ toSigned w operand then operand else old) else max old operand)
    else if op = 4 ∧ sgn then some (if old = operand then swap else old)
    else none
  if ty = 1 then int 32 true else if ty = 2 then int 64 true else if ty = 3 then int 32 false else if ty = 4 then int 64 false
  else if ty = 5 then fl fp32 else if ty = 6 then fl bf16
  else if ty = 7 ∧ op = 4 then some (if old = operand then swap else old)
  else none

/-- Operand size of an atomic type; 0 for a reserved one (R239). -/
def atomicSize (atype : Nat) : Nat :=
  let ty := atype / 16
  if ty = 1 ∨ ty = 3 ∨ ty = 5 then 4 else if ty = 2 ∨ ty = 4 then 8 else if ty = 6 then 2 else if ty = 7 then 16 else 0

end Sys2Proof.Machine
end

