-- ==== Sys2Proof/Machine/RegMap.lean ====
section
/-! DEFINITION. The register map of the management window: every register table of spec/ as data.
The access codes are those of R14, the block bases those of the table under "The management window across
the domain" (spec/01).  A field stands at bits [lo + width - 1 : lo] of its register; bits no field covers are
reserved (R13).  An offset no entry covers is a register made wholly of reserved bits (R13). -/

namespace Sys2Proof.Machine

/-- The access codes of R14 (spec/00). `rwl n` is writable only by the holder of semaphore `n` (R15, R86). -/
inductive Acc where
  | rw | ro | wo | w1c | rc
  | rwl (sem : Nat)
  deriving DecidableEq, Repr

/-- One field of a register: window offset of its (first) register, lowest bit, width, access and reset value. -/
structure Fld where
  off : Nat
  lo : Nat
  width : Nat
  acc : Acc
  reset : Nat
  deriving DecidableEq, Repr

/-- The same field of the register `i` words of 8 B further on (register arrays). -/
def Fld.at (f : Fld) (i : Nat) : Fld := { f with off := f.off + 8 * i }

/-- The same field in the block copy `i` of stride `st` (QNC n, VS n, 16 B arrays). -/
def Fld.step (f : Fld) (st i : Nat) : Fld := { f with off := f.off + st * i }

/-- Which copy of a register an access reaches: one per member, one per seat, one per channel, or the copy named
by the accessing seat's own selector register. -/
inductive Scope where
  | member | seat | chan
  | sel (selector : Fld)
  deriving DecidableEq, Repr

/-- A register (array) of the window. -/
structure RegDef where
  off : Nat
  stride : Nat
  count : Nat
  scope : Scope
  fields : List Fld
  deriving DecidableEq, Repr

/-! ### SIL (02_structure_image.md) -/

/-- `SIL_STATE.SLICE_MAP`. -/ def F.SIL_STATE_SLICE_MAP : Fld := ⟨0x10000, 16, 16, .ro, 0⟩
/-- `SIL_STATE.PARTIALS`. -/ def F.SIL_STATE_PARTIALS : Fld := ⟨0x10000, 8, 8, .ro, 0⟩
/-- `SIL_STATE.STATE`. -/ def F.SIL_STATE_STATE : Fld := ⟨0x10000, 0, 4, .ro, 0⟩
/-- `SIL_CMD.OP`. -/ def F.SIL_CMD_OP : Fld := ⟨0x10008, 0, 4, (.rwl 0), 0⟩
/-- `SIL_STAGE_PAGE.PAGE`. -/ def F.SIL_STAGE_PAGE_PAGE : Fld := ⟨0x10010, 0, 10, (.rwl 0), 0⟩
/-- `SIL_STAGE_LEN.LEN_64B`. -/ def F.SIL_STAGE_LEN_LEN_64B : Fld := ⟨0x10018, 0, 19, (.rwl 0), 0⟩
/-- `SIL_LOAD_STATUS.OFFSET`. -/ def F.SIL_LOAD_STATUS_OFFSET : Fld := ⟨0x10020, 32, 32, .ro, 0xffffffff⟩
/-- `SIL_LOAD_STATUS.SECTION`. -/ def F.SIL_LOAD_STATUS_SECTION : Fld := ⟨0x10020, 24, 8, .ro, 0xff⟩
/-- `SIL_LOAD_STATUS.REASON`. -/ def F.SIL_LOAD_STATUS_REASON : Fld := ⟨0x10020, 16, 8, .ro, 0⟩
/-- `SIL_LOAD_STATUS.STATUS`. -/ def F.SIL_LOAD_STATUS_STATUS : Fld := ⟨0x10020, 8, 8, .ro, 0⟩
/-- `SIL_LOAD_STATUS.SEQ`. -/ def F.SIL_LOAD_STATUS_SEQ : Fld := ⟨0x10020, 0, 8, .ro, 0⟩
/-- `SIL_FULL_SERIAL.SERIAL`. -/ def F.SIL_FULL_SERIAL_SERIAL : Fld := ⟨0x10028, 0, 64, .ro, 0⟩
/-- `SIL_APPLIED_SERIAL.SERIAL`. -/ def F.SIL_APPLIED_SERIAL_SERIAL : Fld := ⟨0x10030, 0, 64, .ro, 0⟩
/-- `SIL_DOMAIN_ID.DOMAIN_ID`. -/ def F.SIL_DOMAIN_ID_DOMAIN_ID : Fld := ⟨0x10038, 0, 64, .ro, 0⟩
/-- `SIL_DRAIN_CTRL.TIMEOUT_US`. -/ def F.SIL_DRAIN_CTRL_TIMEOUT_US : Fld := ⟨0x10040, 0, 32, (.rwl 0), 0xf4240⟩
/-- `SIL_COUNT.APPLIED`. -/ def F.SIL_COUNT_APPLIED : Fld := ⟨0x10048, 48, 16, .rc, 0⟩
/-- `SIL_COUNT.REFUSED`. -/ def F.SIL_COUNT_REFUSED : Fld := ⟨0x10048, 32, 16, .rc, 0⟩
/-- `SIL_COUNT.CMD_REFUSED`. -/ def F.SIL_COUNT_CMD_REFUSED : Fld := ⟨0x10048, 16, 16, .rc, 0⟩
/-- `SIL_COUNT.DRAIN_TIMEOUTS`. -/ def F.SIL_COUNT_DRAIN_TIMEOUTS : Fld := ⟨0x10048, 0, 16, .rc, 0⟩
/-- `SIL_SLICE.FLASH_CH`. -/ def F.SIL_SLICE_FLASH_CH : Fld := ⟨0x10100, 32, 24, .ro, 0⟩
/-- `SIL_SLICE.QUINCE`. -/ def F.SIL_SLICE_QUINCE : Fld := ⟨0x10100, 16, 16, .ro, 0⟩
/-- `SIL_SLICE.PARTITION`. -/ def F.SIL_SLICE_PARTITION : Fld := ⟨0x10100, 4, 12, .ro, 0⟩
/-- `SIL_SLICE.STATE`. -/ def F.SIL_SLICE_STATE : Fld := ⟨0x10100, 0, 3, .ro, 0⟩
/-- `SIL_SLICE_RES.DDR_CH`. -/ def F.SIL_SLICE_RES_DDR_CH : Fld := ⟨0x10200, 48, 16, .ro, 0⟩
/-- `SIL_SLICE_RES.APORT`. -/ def F.SIL_SLICE_RES_APORT : Fld := ⟨0x10200, 16, 32, .ro, 0⟩
/-- `SIL_SLICE_Q.QUEUE_BASE`. -/ def F.SIL_SLICE_Q_QUEUE_BASE : Fld := ⟨0x10300, 44, 14, .ro, 0⟩
/-- `SIL_SLICE_Q.QUEUE_COUNT`. -/ def F.SIL_SLICE_Q_QUEUE_COUNT : Fld := ⟨0x10300, 29, 15, .ro, 0⟩
/-- `SIL_SLICE_Q.CTX_COUNT`. -/ def F.SIL_SLICE_Q_CTX_COUNT : Fld := ⟨0x10300, 15, 14, .ro, 0⟩
/-- `SIL_SLICE_Q.CTX_BASE`. -/ def F.SIL_SLICE_Q_CTX_BASE : Fld := ⟨0x10300, 2, 13, .ro, 0⟩
/-- `SIL_APERTURE.DATA`. -/ def F.SIL_APERTURE_DATA : Fld := ⟨0x18000, 0, 64, (.rwl 0), 0⟩

/-! ### CTL (03_control_seats.md) -/

/-- `CTL_ID.PART`. -/ def F.CTL_ID_PART : Fld := ⟨0x0, 48, 16, .ro, 0x640⟩
/-- `CTL_ID.DEVNUM`. -/ def F.CTL_ID_DEVNUM : Fld := ⟨0x0, 8, 6, .ro, 0⟩
/-- `CTL_ID.POSITION`. -/ def F.CTL_ID_POSITION : Fld := ⟨0x0, 0, 6, .ro, 0⟩
/-- `CTL_SEAT_STATE.B_CHANNELS`. -/ def F.CTL_SEAT_STATE_B_CHANNELS : Fld := ⟨0x8, 44, 4, .ro, 0⟩
/-- `CTL_SEAT_STATE.B_STATE`. -/ def F.CTL_SEAT_STATE_B_STATE : Fld := ⟨0x8, 40, 2, .ro, 0⟩
/-- `CTL_SEAT_STATE.A_CHANNELS`. -/ def F.CTL_SEAT_STATE_A_CHANNELS : Fld := ⟨0x8, 36, 4, .ro, 0⟩
/-- `CTL_SEAT_STATE.A_STATE`. -/ def F.CTL_SEAT_STATE_A_STATE : Fld := ⟨0x8, 32, 2, .ro, 0⟩
/-- `CTL_SEAT_STATE.SELF`. -/ def F.CTL_SEAT_STATE_SELF : Fld := ⟨0x8, 0, 2, .ro, 0⟩
/-- `CTL_SEAT_CMD.OP`. -/ def F.CTL_SEAT_CMD_OP : Fld := ⟨0x10, 0, 4, .wo, 0⟩
/-- `CTL_SEAT_TIMEOUT.LIVENESS_MS`. -/ def F.CTL_SEAT_TIMEOUT_LIVENESS_MS : Fld := ⟨0x18, 0, 16, .rw, 0x3e8⟩
/-- `CTL_SEAT_ERR.OFFSET`. -/ def F.CTL_SEAT_ERR_OFFSET : Fld := ⟨0x20, 40, 24, .rc, 0⟩
/-- `CTL_SEAT_ERR.STATUS`. -/ def F.CTL_SEAT_ERR_STATUS : Fld := ⟨0x20, 32, 8, .rc, 0⟩
/-- `CTL_SEAT_ERR.CHANNEL`. -/ def F.CTL_SEAT_ERR_CHANNEL : Fld := ⟨0x20, 26, 6, .rc, 0⟩
/-- `CTL_SEAT_ERR.COUNT`. -/ def F.CTL_SEAT_ERR_COUNT : Fld := ⟨0x20, 0, 16, .rc, 0⟩
/-- `CTL_SEAT_ERR_A.OFFSET`. -/ def F.CTL_SEAT_ERR_A_OFFSET : Fld := ⟨0x28, 40, 24, .ro, 0⟩
/-- `CTL_SEAT_ERR_A.STATUS`. -/ def F.CTL_SEAT_ERR_A_STATUS : Fld := ⟨0x28, 32, 8, .ro, 0⟩
/-- `CTL_SEAT_ERR_A.CHANNEL`. -/ def F.CTL_SEAT_ERR_A_CHANNEL : Fld := ⟨0x28, 26, 6, .ro, 0⟩
/-- `CTL_SEAT_ERR_A.COUNT`. -/ def F.CTL_SEAT_ERR_A_COUNT : Fld := ⟨0x28, 0, 16, .ro, 0⟩
/-- `CTL_SEAT_ERR_B.OFFSET`. -/ def F.CTL_SEAT_ERR_B_OFFSET : Fld := ⟨0x30, 40, 24, .ro, 0⟩
/-- `CTL_SEAT_ERR_B.STATUS`. -/ def F.CTL_SEAT_ERR_B_STATUS : Fld := ⟨0x30, 32, 8, .ro, 0⟩
/-- `CTL_SEAT_ERR_B.CHANNEL`. -/ def F.CTL_SEAT_ERR_B_CHANNEL : Fld := ⟨0x30, 26, 6, .ro, 0⟩
/-- `CTL_SEAT_ERR_B.COUNT`. -/ def F.CTL_SEAT_ERR_B_COUNT : Fld := ⟨0x30, 0, 16, .ro, 0⟩
/-- `CTL_COLLIDE.OFFSET`. -/ def F.CTL_COLLIDE_OFFSET : Fld := ⟨0x38, 40, 24, .rc, 0⟩
/-- `CTL_COLLIDE.COUNT`. -/ def F.CTL_COLLIDE_COUNT : Fld := ⟨0x38, 0, 16, .rc, 0⟩
/-- `CTL_ID_DIGEST.DIGEST`. -/ def F.CTL_ID_DIGEST_DIGEST : Fld := ⟨0x40, 0, 64, .ro, 0⟩
/-- `CTL_CLAIM_NONCE.NONCE`. -/ def F.CTL_CLAIM_NONCE_NONCE : Fld := ⟨0x80, 0, 64, .ro, 0⟩
/-- `CTL_CLAIM_STATUS.STATUS`. -/ def F.CTL_CLAIM_STATUS_STATUS : Fld := ⟨0xA0, 40, 8, .ro, 0⟩
/-- `CTL_CLAIM_STATUS.REASON`. -/ def F.CTL_CLAIM_STATUS_REASON : Fld := ⟨0xA0, 32, 8, .ro, 0⟩
/-- `CTL_CLAIM_STATUS.SEQ`. -/ def F.CTL_CLAIM_STATUS_SEQ : Fld := ⟨0xA0, 0, 8, .ro, 0⟩
/-- `CTL_SEM_CMD.LEASE_MS`. -/ def F.CTL_SEM_CMD_LEASE_MS : Fld := ⟨0x100, 16, 16, .wo, 0⟩
/-- `CTL_SEM_CMD.SEM`. -/ def F.CTL_SEM_CMD_SEM : Fld := ⟨0x100, 8, 6, .wo, 0⟩
/-- `CTL_SEM_CMD.OP`. -/ def F.CTL_SEM_CMD_OP : Fld := ⟨0x100, 0, 2, .wo, 0⟩
/-- `CTL_SEAT_ID_A.DIGEST`. -/ def F.CTL_SEAT_ID_A_DIGEST : Fld := ⟨0x200, 0, 64, .ro, 0⟩
/-- `CTL_SEAT_ID_B.DIGEST`. -/ def F.CTL_SEAT_ID_B_DIGEST : Fld := ⟨0x240, 0, 64, .ro, 0⟩
/-- `CTL_SEAT_CRED_A.CRED_SERIAL`. -/ def F.CTL_SEAT_CRED_A_CRED_SERIAL : Fld := ⟨0x230, 0, 64, .ro, 0⟩
/-- `CTL_SEAT_CRED_B.CRED_SERIAL`. -/ def F.CTL_SEAT_CRED_B_CRED_SERIAL : Fld := ⟨0x270, 0, 64, .ro, 0⟩
/-- `CTL_CHAN.QPN`. -/ def F.CTL_CHAN_QPN : Fld := ⟨0x300, 40, 24, .ro, 0⟩
/-- `CTL_CHAN.ENTRY_DEV`. -/ def F.CTL_CHAN_ENTRY_DEV : Fld := ⟨0x300, 34, 6, .ro, 0⟩
/-- `CTL_CHAN.EPORT`. -/ def F.CTL_CHAN_EPORT : Fld := ⟨0x300, 32, 2, .ro, 0⟩
/-- `CTL_CHAN.KIND`. -/ def F.CTL_CHAN_KIND : Fld := ⟨0x300, 4, 2, .ro, 0⟩
/-- `CTL_CHAN.SEAT`. -/ def F.CTL_CHAN_SEAT : Fld := ⟨0x300, 0, 2, .ro, 0⟩
/-- `CTL_SEM.GEN`. -/ def F.CTL_SEM_GEN : Fld := ⟨0x1000, 48, 16, .ro, 0⟩
/-- `CTL_SEM.LEASE_MS`. -/ def F.CTL_SEM_LEASE_MS : Fld := ⟨0x1000, 32, 16, .ro, 0⟩
/-- `CTL_SEM.REMAIN_US`. -/ def F.CTL_SEM_REMAIN_US : Fld := ⟨0x1000, 6, 26, .ro, 0⟩
/-- `CTL_SEM.TIE`. -/ def F.CTL_SEM_TIE : Fld := ⟨0x1000, 4, 1, .ro, 0⟩
/-- `CTL_SEM.OWNER`. -/ def F.CTL_SEM_OWNER : Fld := ⟨0x1000, 0, 2, .ro, 0⟩
/-- `CTL_CLAIM_APERTURE.DATA`. -/ def F.CTL_CLAIM_APERTURE_DATA : Fld := ⟨0x4000, 0, 64, .rw, 0⟩

/-! ### WQ (04_work_queues_and_journal.md) -/

/-- `WQ_Q_SEL.QUEUE`. -/ def F.WQ_Q_SEL_QUEUE : Fld := ⟨0x20000, 0, 14, .rw, 0⟩
/-- `WQ_Q_CFG.CTX`. -/ def F.WQ_Q_CFG_CTX : Fld := ⟨0x20008, 16, 13, .rw, 0⟩
/-- `WQ_Q_CFG.CQ_KIND`. -/ def F.WQ_Q_CFG_CQ_KIND : Fld := ⟨0x20008, 8, 2, .rw, 0⟩
/-- `WQ_Q_CFG.LOG2_SLOTS`. -/ def F.WQ_Q_CFG_LOG2_SLOTS : Fld := ⟨0x20008, 0, 5, .rw, 6⟩
/-- `WQ_Q_RING.RING_VA`. -/ def F.WQ_Q_RING_RING_VA : Fld := ⟨0x20010, 0, 64, .rw, 0⟩
/-- `WQ_Q_CQ.CQ_ADDR`. -/ def F.WQ_Q_CQ_CQ_ADDR : Fld := ⟨0x20018, 0, 64, .rw, 0⟩
/-- `WQ_Q_CQ_KEY.RKEY`. -/ def F.WQ_Q_CQ_KEY_RKEY : Fld := ⟨0x20020, 0, 32, .rw, 0⟩
/-- `WQ_Q_CMD.OP`. -/ def F.WQ_Q_CMD_OP : Fld := ⟨0x20028, 0, 2, .wo, 0⟩
/-- `WQ_Q_STATUS.TAIL`. -/ def F.WQ_Q_STATUS_TAIL : Fld := ⟨0x20030, 32, 32, .ro, 0⟩
/-- `WQ_Q_STATUS.ERR_STATUS`. -/ def F.WQ_Q_STATUS_ERR_STATUS : Fld := ⟨0x20030, 24, 8, .ro, 0⟩
/-- `WQ_Q_STATUS.ERR_REASON`. -/ def F.WQ_Q_STATUS_ERR_REASON : Fld := ⟨0x20030, 16, 8, .ro, 0⟩
/-- `WQ_Q_STATUS.STATE`. -/ def F.WQ_Q_STATUS_STATE : Fld := ⟨0x20030, 0, 3, .ro, 0⟩
/-- `WQ_Q_PROGRESS.HEAD`. -/ def F.WQ_Q_PROGRESS_HEAD : Fld := ⟨0x20038, 32, 32, .ro, 0⟩
/-- `WQ_Q_PROGRESS.FINAL`. -/ def F.WQ_Q_PROGRESS_FINAL : Fld := ⟨0x20038, 0, 32, .ro, 0⟩
/-- `WQ_Q_REFUSE.BOUNDS`. -/ def F.WQ_Q_REFUSE_BOUNDS : Fld := ⟨0x20040, 48, 16, .rc, 0⟩
/-- `WQ_Q_REFUSE.STATE`. -/ def F.WQ_Q_REFUSE_STATE : Fld := ⟨0x20040, 32, 16, .rc, 0⟩
/-- `WQ_Q_REFUSE.BAD_DESC`. -/ def F.WQ_Q_REFUSE_BAD_DESC : Fld := ⟨0x20040, 16, 16, .rc, 0⟩
/-- `WQ_Q_REFUSE.QUOTA`. -/ def F.WQ_Q_REFUSE_QUOTA : Fld := ⟨0x20040, 0, 16, .rc, 0⟩
/-- `WQ_Q_XREFUSE.NO_XLATE`. -/ def F.WQ_Q_XREFUSE_NO_XLATE : Fld := ⟨0x20048, 48, 16, .rc, 0⟩
/-- `WQ_Q_XREFUSE.REVOKED`. -/ def F.WQ_Q_XREFUSE_REVOKED : Fld := ⟨0x20048, 32, 16, .rc, 0⟩
/-- `WQ_Q_XREFUSE.KEY`. -/ def F.WQ_Q_XREFUSE_KEY : Fld := ⟨0x20048, 16, 16, .rc, 0⟩
/-- `WQ_Q_XREFUSE.ACCESS`. -/ def F.WQ_Q_XREFUSE_ACCESS : Fld := ⟨0x20048, 0, 16, .rc, 0⟩
/-- `WQ_REFUSE_TOTAL.SUBMIT`. -/ def F.WQ_REFUSE_TOTAL_SUBMIT : Fld := ⟨0x20100, 32, 32, .rc, 0⟩
/-- `WQ_REFUSE_TOTAL.XLATE`. -/ def F.WQ_REFUSE_TOTAL_XLATE : Fld := ⟨0x20100, 0, 32, .rc, 0⟩
/-- `WQ_ERR.QUEUE`. -/ def F.WQ_ERR_QUEUE : Fld := ⟨0x20108, 50, 14, .rc, 0⟩
/-- `WQ_ERR.STATUS`. -/ def F.WQ_ERR_STATUS : Fld := ⟨0x20108, 42, 8, .rc, 0⟩
/-- `WQ_ERR.REASON`. -/ def F.WQ_ERR_REASON : Fld := ⟨0x20108, 34, 8, .rc, 0⟩
/-- `WQ_ERR.COUNT`. -/ def F.WQ_ERR_COUNT : Fld := ⟨0x20108, 0, 16, .rc, 0⟩
/-- `WQ_ENABLED.COUNT`. -/ def F.WQ_ENABLED_COUNT : Fld := ⟨0x20110, 0, 15, .ro, 0⟩

/-! ### JNL (04_work_queues_and_journal.md) -/

/-- `JNL_STATE.MIRROR_DEV`. -/ def F.JNL_STATE_MIRROR_DEV : Fld := ⟨0x30000, 58, 6, .ro, 0⟩
/-- `JNL_STATE.MIRROR_VALID`. -/ def F.JNL_STATE_MIRROR_VALID : Fld := ⟨0x30000, 57, 1, .ro, 0⟩
/-- `JNL_STATE.RECOVERING`. -/ def F.JNL_STATE_RECOVERING : Fld := ⟨0x30000, 2, 1, .ro, 1⟩
/-- `JNL_STATE.RING_FULL`. -/ def F.JNL_STATE_RING_FULL : Fld := ⟨0x30000, 1, 1, .ro, 0⟩
/-- `JNL_STATE.NO_MIRROR`. -/ def F.JNL_STATE_NO_MIRROR : Fld := ⟨0x30000, 0, 1, .ro, 1⟩
/-- `JNL_CUSTODY.DEVICES`. -/ def F.JNL_CUSTODY_DEVICES : Fld := ⟨0x30008, 0, 64, .ro, 0⟩
/-- `JNL_HEAD.JSEQ`. -/ def F.JNL_HEAD_JSEQ : Fld := ⟨0x30010, 0, 64, .ro, 0⟩
/-- `JNL_TAIL.JSEQ`. -/ def F.JNL_TAIL_JSEQ : Fld := ⟨0x30018, 0, 64, .ro, 0⟩
/-- `JNL_ACKED.JSEQ`. -/ def F.JNL_ACKED_JSEQ : Fld := ⟨0x30020, 0, 64, .ro, 0⟩
/-- `JNL_CTRL.HANDOFF_US`. -/ def F.JNL_CTRL_HANDOFF_US : Fld := ⟨0x30028, 0, 32, .rw, 0xc8⟩
/-- `JNL_COUNT.ACCEPTED`. -/ def F.JNL_COUNT_ACCEPTED : Fld := ⟨0x30030, 32, 32, .rc, 0⟩
/-- `JNL_COUNT.REPLAYS`. -/ def F.JNL_COUNT_REPLAYS : Fld := ⟨0x30030, 16, 16, .rc, 0⟩
/-- `JNL_COUNT.ORPHANS`. -/ def F.JNL_COUNT_ORPHANS : Fld := ⟨0x30030, 0, 16, .rc, 0⟩
/-- `JNL_LOSS.DOUBLE_LOSS`. -/ def F.JNL_LOSS_DOUBLE_LOSS : Fld := ⟨0x30038, 48, 16, .rc, 0⟩
/-- `JNL_LOSS.HOLDS`. -/ def F.JNL_LOSS_HOLDS : Fld := ⟨0x30038, 32, 16, .rc, 0⟩
/-- `JNL_LOSS.CARRIED`. -/ def F.JNL_LOSS_CARRIED : Fld := ⟨0x30038, 0, 32, .rc, 0⟩
/-- `JNL_LAT.MAX_NS`. -/ def F.JNL_LAT_MAX_NS : Fld := ⟨0x30040, 32, 32, .rc, 0⟩
/-- `JNL_LAT.LAST_NS`. -/ def F.JNL_LAT_LAST_NS : Fld := ⟨0x30040, 0, 32, .ro, 0⟩

/-! ### XLT (05_translation_and_extents.md) -/

/-- `XLT_CTX_SEL.CTX`. -/ def F.XLT_CTX_SEL_CTX : Fld := ⟨0x40000, 0, 13, .rw, 0⟩
/-- `XLT_CTX_CFG.PARTITION`. -/ def F.XLT_CTX_CFG_PARTITION : Fld := ⟨0x40008, 20, 12, .ro, 0⟩
/-- `XLT_CTX_CFG.LOG2_CAP`. -/ def F.XLT_CTX_CFG_LOG2_CAP : Fld := ⟨0x40008, 4, 5, .rw, 4⟩
/-- `XLT_CTX_CFG.MODE`. -/ def F.XLT_CTX_CFG_MODE : Fld := ⟨0x40008, 1, 1, .rw, 0⟩
/-- `XLT_CTX_CFG.ENABLE`. -/ def F.XLT_CTX_CFG_ENABLE : Fld := ⟨0x40008, 0, 1, .rw, 0⟩
/-- `XLT_CTX_TABLE.AREA`. -/ def F.XLT_CTX_TABLE_AREA : Fld := ⟨0x40010, 12, 27, .rw, 0⟩
/-- `XLT_CTX_HOST_BASE.HOST_BASE`. -/ def F.XLT_CTX_HOST_BASE_HOST_BASE : Fld := ⟨0x40018, 12, 36, .rw, 0⟩
/-- `XLT_CTX_LIMIT.PAGES`. -/ def F.XLT_CTX_LIMIT_PAGES : Fld := ⟨0x40020, 0, 36, .rw, 0⟩
/-- `XLT_CTX_DEV_BASE.DEV_BASE`. -/ def F.XLT_CTX_DEV_BASE_DEV_BASE : Fld := ⟨0x40028, 12, 44, .rw, 0⟩
/-- `XLT_CTX_STATUS.GEN`. -/ def F.XLT_CTX_STATUS_GEN : Fld := ⟨0x40030, 32, 32, .ro, 0⟩
/-- `XLT_CTX_STATUS.COUNT`. -/ def F.XLT_CTX_STATUS_COUNT : Fld := ⟨0x40030, 0, 17, .ro, 0⟩
/-- `XLT_CTX_SUM.SUM`. -/ def F.XLT_CTX_SUM_SUM : Fld := ⟨0x40038, 0, 64, .ro, 0⟩
/-- `XLT_CTX_FAULT.ADDR`. -/ def F.XLT_CTX_FAULT_ADDR : Fld := ⟨0x40040, 8, 56, .rc, 0⟩
/-- `XLT_CTX_FAULT.STATUS`. -/ def F.XLT_CTX_FAULT_STATUS : Fld := ⟨0x40040, 0, 8, .rc, 0⟩
/-- `XLT_CTX_FCOUNT.NO_XLATE`. -/ def F.XLT_CTX_FCOUNT_NO_XLATE : Fld := ⟨0x40048, 48, 16, .rc, 0⟩
/-- `XLT_CTX_FCOUNT.REVOKED`. -/ def F.XLT_CTX_FCOUNT_REVOKED : Fld := ⟨0x40048, 32, 16, .rc, 0⟩
/-- `XLT_CTX_FCOUNT.ACCESS`. -/ def F.XLT_CTX_FCOUNT_ACCESS : Fld := ⟨0x40048, 16, 16, .rc, 0⟩
/-- `XLT_CTX_FCOUNT.BOUNDS`. -/ def F.XLT_CTX_FCOUNT_BOUNDS : Fld := ⟨0x40048, 0, 16, .rc, 0⟩
/-- `XLT_MAP_VA.VA`. -/ def F.XLT_MAP_VA_VA : Fld := ⟨0x40100, 12, 44, .rw, 0⟩
/-- `XLT_MAP_LEN.PAGES`. -/ def F.XLT_MAP_LEN_PAGES : Fld := ⟨0x40108, 0, 37, .rw, 0⟩
/-- `XLT_MAP_DGA.DGA`. -/ def F.XLT_MAP_DGA_DGA : Fld := ⟨0x40110, 12, 52, .rw, 0⟩
/-- `XLT_MAP_ATTR.CLASS`. -/ def F.XLT_MAP_ATTR_CLASS : Fld := ⟨0x40118, 9, 2, .rw, 3⟩
/-- `XLT_MAP_ATTR.ALIAS`. -/ def F.XLT_MAP_ATTR_ALIAS : Fld := ⟨0x40118, 8, 1, .rw, 0⟩
/-- `XLT_MAP_ATTR.RIGHTS`. -/ def F.XLT_MAP_ATTR_RIGHTS : Fld := ⟨0x40118, 0, 4, .rw, 0⟩
/-- `XLT_MAP_CMD.OP`. -/ def F.XLT_MAP_CMD_OP : Fld := ⟨0x40120, 0, 2, .wo, 0⟩
/-- `XLT_SHOOT_VA.VA`. -/ def F.XLT_SHOOT_VA_VA : Fld := ⟨0x40128, 12, 44, .rw, 0⟩
/-- `XLT_SHOOT_LEN.PAGES`. -/ def F.XLT_SHOOT_LEN_PAGES : Fld := ⟨0x40130, 0, 37, .rw, 0⟩
/-- `XLT_SHOOT_CTRL.MEMBER`. -/ def F.XLT_SHOOT_CTRL_MEMBER : Fld := ⟨0x40138, 8, 6, .wo, 0⟩
/-- `XLT_SHOOT_CTRL.OP`. -/ def F.XLT_SHOOT_CTRL_OP : Fld := ⟨0x40138, 0, 3, .wo, 0⟩
/-- `XLT_MAP_STATUS.DETAIL`. -/ def F.XLT_MAP_STATUS_DETAIL : Fld := ⟨0x40140, 32, 32, .ro, 0⟩
/-- `XLT_MAP_STATUS.STATUS`. -/ def F.XLT_MAP_STATUS_STATUS : Fld := ⟨0x40140, 16, 8, .ro, 0⟩
/-- `XLT_MAP_STATUS.SEQ`. -/ def F.XLT_MAP_STATUS_SEQ : Fld := ⟨0x40140, 8, 8, .ro, 0⟩
/-- `XLT_MAP_STATUS.STATE`. -/ def F.XLT_MAP_STATUS_STATE : Fld := ⟨0x40140, 0, 2, .ro, 0⟩
/-- `XLT_SHOOT_STATUS.DETAIL`. -/ def F.XLT_SHOOT_STATUS_DETAIL : Fld := ⟨0x40148, 32, 32, .ro, 0⟩
/-- `XLT_SHOOT_STATUS.STATUS`. -/ def F.XLT_SHOOT_STATUS_STATUS : Fld := ⟨0x40148, 16, 8, .ro, 0⟩
/-- `XLT_SHOOT_STATUS.SEQ`. -/ def F.XLT_SHOOT_STATUS_SEQ : Fld := ⟨0x40148, 8, 8, .ro, 0⟩
/-- `XLT_SHOOT_STATUS.STATE`. -/ def F.XLT_SHOOT_STATUS_STATE : Fld := ⟨0x40148, 0, 2, .ro, 0⟩
/-- `XLT_SHOOT_TIMEOUT.US`. -/ def F.XLT_SHOOT_TIMEOUT_US : Fld := ⟨0x40150, 0, 32, .rw, 0x2710⟩
/-- `XLT_ETC_COUNT.MISSES`. -/ def F.XLT_ETC_COUNT_MISSES : Fld := ⟨0x40200, 32, 32, .rc, 0⟩
/-- `XLT_ETC_COUNT.INVALIDATED`. -/ def F.XLT_ETC_COUNT_INVALIDATED : Fld := ⟨0x40200, 0, 32, .rc, 0⟩
/-- `XLT_CLAIM_USE.ALIASES`. -/ def F.XLT_CLAIM_USE_ALIASES : Fld := ⟨0x40208, 32, 20, .ro, 0⟩
/-- `XLT_CLAIM_USE.CLAIMS`. -/ def F.XLT_CLAIM_USE_CLAIMS : Fld := ⟨0x40208, 0, 19, .ro, 0⟩

/-! ### TIER (06_memory_tiers.md) -/

/-- `TIER_T1_CFG.STACK_FAILED`. -/ def F.TIER_T1_CFG_STACK_FAILED : Fld := ⟨0x60000, 8, 8, .ro, 0⟩
/-- `TIER_T1_CFG.STACK_PRESENT`. -/ def F.TIER_T1_CFG_STACK_PRESENT : Fld := ⟨0x60000, 0, 8, .ro, 0xff⟩
/-- `TIER_T2_CFG.CH_FAILED`. -/ def F.TIER_T2_CFG_CH_FAILED : Fld := ⟨0x60008, 48, 16, .ro, 0⟩
/-- `TIER_T2_CFG.CH_POPULATED`. -/ def F.TIER_T2_CFG_CH_POPULATED : Fld := ⟨0x60008, 32, 16, .ro, 0⟩
/-- `TIER_T2_CFG.CH_GIB`. -/ def F.TIER_T2_CFG_CH_GIB : Fld := ⟨0x60008, 16, 9, .ro, 0⟩
/-- `TIER_T2_CFG.GRANULES`. -/ def F.TIER_T2_CFG_GRANULES : Fld := ⟨0x60008, 0, 13, .ro, 0⟩
/-- `TIER_T3_CFG.CH_FAILED`. -/ def F.TIER_T3_CFG_CH_FAILED : Fld := ⟨0x60010, 40, 24, .ro, 0⟩
/-- `TIER_T3_CFG.CH_POPULATED`. -/ def F.TIER_T3_CFG_CH_POPULATED : Fld := ⟨0x60010, 16, 24, .ro, 0⟩
/-- `TIER_T3_CFG.DIES`. -/ def F.TIER_T3_CFG_DIES : Fld := ⟨0x60010, 0, 6, .ro, 0⟩
/-- `TIER_T3_GRANULES.GRANULES`. -/ def F.TIER_T3_GRANULES_GRANULES : Fld := ⟨0x60018, 0, 18, .ro, 0⟩
/-- `TIER_P2_LAYOUT.T3_DATA`. -/ def F.TIER_P2_LAYOUT_T3_DATA : Fld := ⟨0x60020, 32, 18, .ro, 0⟩
/-- `TIER_P2_LAYOUT.T2_DATA`. -/ def F.TIER_P2_LAYOUT_T2_DATA : Fld := ⟨0x60020, 16, 13, .ro, 0⟩
/-- `TIER_P2_LAYOUT.P2_ENABLED`. -/ def F.TIER_P2_LAYOUT_P2_ENABLED : Fld := ⟨0x60020, 0, 1, .ro, 0⟩
/-- `TIER_PART_SEL.PARTITION`. -/ def F.TIER_PART_SEL_PARTITION : Fld := ⟨0x60100, 0, 12, .rw, 0⟩
/-- `TIER_PART_LIMIT_T1.LIMIT`. -/ def F.TIER_PART_LIMIT_T1_LIMIT : Fld := ⟨0x60108, 0, 64, .ro, 0⟩
/-- `TIER_PART_LIMIT_T2.LIMIT`. -/ def F.TIER_PART_LIMIT_T2_LIMIT : Fld := ⟨0x60110, 0, 64, .ro, 0⟩
/-- `TIER_PART_LIMIT_T3.LIMIT`. -/ def F.TIER_PART_LIMIT_T3_LIMIT : Fld := ⟨0x60118, 0, 64, .ro, 0⟩
/-- `TIER_PART_USED_T1.USED`. -/ def F.TIER_PART_USED_T1_USED : Fld := ⟨0x60120, 0, 64, .ro, 0⟩
/-- `TIER_PART_USED_T2.USED`. -/ def F.TIER_PART_USED_T2_USED : Fld := ⟨0x60128, 0, 64, .ro, 0⟩
/-- `TIER_PART_USED_T3.USED`. -/ def F.TIER_PART_USED_T3_USED : Fld := ⟨0x60130, 0, 64, .ro, 0⟩
/-- `TIER_BWC.MIB`. -/ def F.TIER_BWC_MIB : Fld := ⟨0x60200, 32, 32, .rc, 0⟩
/-- `TIER_BWC.WEIGHT`. -/ def F.TIER_BWC_WEIGHT : Fld := ⟨0x60200, 0, 8, .ro, 0x10⟩
/-- `TIER_REBUILD_CTRL.T3_MBPS`. -/ def F.TIER_REBUILD_CTRL_T3_MBPS : Fld := ⟨0x60300, 48, 16, .rw, 0xcb20⟩
/-- `TIER_REBUILD_CTRL.T2_MBPS`. -/ def F.TIER_REBUILD_CTRL_T2_MBPS : Fld := ⟨0x60300, 32, 16, .rw, 0x3200⟩
/-- `TIER_REBUILD_CTRL.T1_MBPS`. -/ def F.TIER_REBUILD_CTRL_T1_MBPS : Fld := ⟨0x60300, 16, 16, .rw, 0xe10⟩
/-- `TIER_REBUILD_CTRL.CLASS`. -/ def F.TIER_REBUILD_CTRL_CLASS : Fld := ⟨0x60300, 0, 3, .rw, 7⟩
/-- `TIER_REBUILD_STATUS.FOR_DEV`. -/ def F.TIER_REBUILD_STATUS_FOR_DEV : Fld := ⟨0x60308, 58, 6, .ro, 0⟩
/-- `TIER_REBUILD_STATUS.T3_FRONTIER`. -/ def F.TIER_REBUILD_STATUS_T3_FRONTIER : Fld := ⟨0x60308, 40, 18, .ro, 0⟩
/-- `TIER_REBUILD_STATUS.T2_FRONTIER`. -/ def F.TIER_REBUILD_STATUS_T2_FRONTIER : Fld := ⟨0x60308, 27, 13, .ro, 0⟩
/-- `TIER_REBUILD_STATUS.T1_FRONTIER`. -/ def F.TIER_REBUILD_STATUS_T1_FRONTIER : Fld := ⟨0x60308, 16, 11, .ro, 0⟩
/-- `TIER_REBUILD_STATUS.STATUS`. -/ def F.TIER_REBUILD_STATUS_STATUS : Fld := ⟨0x60308, 8, 8, .ro, 0⟩
/-- `TIER_REBUILD_STATUS.STATE`. -/ def F.TIER_REBUILD_STATUS_STATE : Fld := ⟨0x60308, 0, 3, .ro, 0⟩
/-- `TIER_REDUND.DEGRADED`. -/ def F.TIER_REDUND_DEGRADED : Fld := ⟨0x60310, 32, 32, .ro, 0⟩
/-- `TIER_REDUND.LOST`. -/ def F.TIER_REDUND_LOST : Fld := ⟨0x60310, 0, 32, .ro, 0⟩
/-- `TIER_ARM.ARMING`. -/ def F.TIER_ARM_ARMING : Fld := ⟨0x60318, 32, 32, .ro, 0⟩
/-- `TIER_ARM.SCRUBBING`. -/ def F.TIER_ARM_SCRUBBING : Fld := ⟨0x60318, 0, 32, .ro, 0⟩
/-- `TIER_PUBLISH.PUBLISHED`. -/ def F.TIER_PUBLISH_PUBLISHED : Fld := ⟨0x60320, 32, 32, .rc, 0⟩
/-- `TIER_PUBLISH.HELD`. -/ def F.TIER_PUBLISH_HELD : Fld := ⟨0x60320, 16, 16, .rc, 0⟩
/-- `TIER_PUBLISH.SLOTS_BUSY`. -/ def F.TIER_PUBLISH_SLOTS_BUSY : Fld := ⟨0x60320, 0, 6, .ro, 0⟩

/-! ### QNC (07_quince_cores.md) -/

/-- `QNC_STATE.QUEUE`. -/ def F.QNC_STATE_QUEUE : Fld := ⟨0x80000, 50, 14, .ro, 0⟩
/-- `QNC_STATE.SLICE`. -/ def F.QNC_STATE_SLICE : Fld := ⟨0x80000, 32, 4, .ro, 0⟩
/-- `QNC_STATE.PARTITION`. -/ def F.QNC_STATE_PARTITION : Fld := ⟨0x80000, 20, 12, .ro, 0⟩
/-- `QNC_STATE.STATE`. -/ def F.QNC_STATE_STATE : Fld := ⟨0x80000, 0, 4, .ro, 0⟩
/-- `QNC_KERNEL.KERNEL_ID`. -/ def F.QNC_KERNEL_KERNEL_ID : Fld := ⟨0x80008, 0, 64, .ro, 0⟩
/-- `QNC_SCALAR.TICKET`. -/ def F.QNC_SCALAR_TICKET : Fld := ⟨0x80010, 32, 32, .ro, 0⟩
/-- `QNC_SCALAR.PC`. -/ def F.QNC_SCALAR_PC : Fld := ⟨0x80010, 0, 18, .ro, 0⟩
/-- `QNC_FAULT.DETAIL`. -/ def F.QNC_FAULT_DETAIL : Fld := ⟨0x80018, 32, 32, .rc, 0⟩
/-- `QNC_FAULT.CAUSE`. -/ def F.QNC_FAULT_CAUSE : Fld := ⟨0x80018, 16, 8, .rc, 0⟩
/-- `QNC_FAULT.STATUS`. -/ def F.QNC_FAULT_STATUS : Fld := ⟨0x80018, 8, 8, .rc, 0⟩
/-- `QNC_FAULT.COUNT`. -/ def F.QNC_FAULT_COUNT : Fld := ⟨0x80018, 0, 8, .rc, 0⟩
/-- `QNC_CSUM.TRANSIENT`. -/ def F.QNC_CSUM_TRANSIENT : Fld := ⟨0x80020, 32, 32, .rc, 0⟩
/-- `QNC_CSUM.PERSISTENT`. -/ def F.QNC_CSUM_PERSISTENT : Fld := ⟨0x80020, 16, 16, .rc, 0⟩
/-- `QNC_CSUM_TOL.TOL`. -/ def F.QNC_CSUM_TOL_TOL : Fld := ⟨0x80028, 0, 5, .rw, 0xe⟩
/-- `QNC_BUSY.MATRIX_US`. -/ def F.QNC_BUSY_MATRIX_US : Fld := ⟨0x80030, 32, 32, .rc, 0⟩
/-- `QNC_BUSY.VECTOR_US`. -/ def F.QNC_BUSY_VECTOR_US : Fld := ⟨0x80030, 0, 32, .rc, 0⟩
/-- `QNC_DMA_BYTES.READ_MIB`. -/ def F.QNC_DMA_BYTES_READ_MIB : Fld := ⟨0x80038, 32, 32, .rc, 0⟩
/-- `QNC_DMA_BYTES.WRITE_MIB`. -/ def F.QNC_DMA_BYTES_WRITE_MIB : Fld := ⟨0x80038, 0, 32, .rc, 0⟩
/-- `QNC_IDLE_GATE.US`. -/ def F.QNC_IDLE_GATE_US : Fld := ⟨0x80040, 0, 32, .rw, 0x3e8⟩
/-- `QNC_WORK.UNITS`. -/ def F.QNC_WORK_UNITS : Fld := ⟨0x80048, 32, 32, .rc, 0⟩
/-- `QNC_WORK.LAUNCHES`. -/ def F.QNC_WORK_LAUNCHES : Fld := ⟨0x80048, 0, 32, .rc, 0⟩
/-- `QNC_KCACHE.HITS`. -/ def F.QNC_KCACHE_HITS : Fld := ⟨0x83000, 32, 32, .rc, 0⟩
/-- `QNC_KCACHE.MISSES`. -/ def F.QNC_KCACHE_MISSES : Fld := ⟨0x83000, 16, 16, .rc, 0⟩
/-- `QNC_KCACHE.ENTRIES`. -/ def F.QNC_KCACHE_ENTRIES : Fld := ⟨0x83000, 0, 9, .ro, 0⟩
/-- `QNC_KCACHE_CMD.FLUSH`. -/ def F.QNC_KCACHE_CMD_FLUSH : Fld := ⟨0x83008, 0, 1, (.rwl 1), 0⟩
/-- `QNC_ATTEND.KV_MIB`. -/ def F.QNC_ATTEND_KV_MIB : Fld := ⟨0x83010, 32, 32, .rc, 0⟩
/-- `QNC_ATTEND.UNITS`. -/ def F.QNC_ATTEND_UNITS : Fld := ⟨0x83010, 0, 32, .rc, 0⟩

/-! ### FAB (08_fabric_transactions.md) -/

/-- `FAB_MEMBER.RELAY`. -/ def F.FAB_MEMBER_RELAY : Fld := ⟨0xC0000, 58, 6, .ro, 0⟩
/-- `FAB_MEMBER.RELAYED`. -/ def F.FAB_MEMBER_RELAYED : Fld := ⟨0xC0000, 57, 1, .ro, 0⟩
/-- `FAB_MEMBER.EPOCH`. -/ def F.FAB_MEMBER_EPOCH : Fld := ⟨0xC0000, 32, 16, .ro, 0⟩
/-- `FAB_MEMBER.PPORT`. -/ def F.FAB_MEMBER_PPORT : Fld := ⟨0xC0000, 18, 6, .ro, 0x3f⟩
/-- `FAB_MEMBER.LANES_UP`. -/ def F.FAB_MEMBER_LANES_UP : Fld := ⟨0xC0000, 14, 4, .ro, 0⟩
/-- `FAB_MEMBER.POSITION`. -/ def F.FAB_MEMBER_POSITION : Fld := ⟨0xC0000, 8, 6, .ro, 0⟩
/-- `FAB_MEMBER.STATE`. -/ def F.FAB_MEMBER_STATE : Fld := ⟨0xC0000, 0, 3, .ro, 0⟩
/-- `FAB_PORT_SEL.PORT`. -/ def F.FAB_PORT_SEL_PORT : Fld := ⟨0xC0200, 0, 8, .rw, 0⟩
/-- `FAB_PORT_STATUS.PEER`. -/ def F.FAB_PORT_STATUS_PEER : Fld := ⟨0xC0208, 58, 6, .ro, 0⟩
/-- `FAB_PORT_STATUS.LANES_UP`. -/ def F.FAB_PORT_STATUS_LANES_UP : Fld := ⟨0xC0208, 48, 4, .ro, 0⟩
/-- `FAB_PORT_STATUS.WIDTH`. -/ def F.FAB_PORT_STATUS_WIDTH : Fld := ⟨0xC0208, 44, 4, .ro, 0⟩
/-- `FAB_PORT_STATUS.CLASS`. -/ def F.FAB_PORT_STATUS_CLASS : Fld := ⟨0xC0208, 32, 2, .ro, 0⟩
/-- `FAB_PORT_STATUS.STATE`. -/ def F.FAB_PORT_STATUS_STATE : Fld := ⟨0xC0208, 0, 3, .ro, 0⟩
/-- `FAB_PORT_ERR.CORRECTED`. -/ def F.FAB_PORT_ERR_CORRECTED : Fld := ⟨0xC0210, 48, 16, .rc, 0⟩
/-- `FAB_PORT_ERR.UNCORRECTED`. -/ def F.FAB_PORT_ERR_UNCORRECTED : Fld := ⟨0xC0210, 32, 16, .rc, 0⟩
/-- `FAB_PORT_ERR.RETRIES`. -/ def F.FAB_PORT_ERR_RETRIES : Fld := ⟨0xC0210, 16, 16, .rc, 0⟩
/-- `FAB_PORT_ERR.GCM_FAIL`. -/ def F.FAB_PORT_ERR_GCM_FAIL : Fld := ⟨0xC0210, 8, 8, .rc, 0⟩
/-- `FAB_PORT_ERR.STOMPED`. -/ def F.FAB_PORT_ERR_STOMPED : Fld := ⟨0xC0210, 0, 8, .rc, 0⟩
/-- `FAB_PORT_CMD.LANE`. -/ def F.FAB_PORT_CMD_LANE : Fld := ⟨0xC0218, 4, 2, .wo, 0⟩
/-- `FAB_PORT_CMD.OP`. -/ def F.FAB_PORT_CMD_OP : Fld := ⟨0xC0218, 0, 2, .wo, 0⟩
/-- `FAB_TMO.FABRIC_US`. -/ def F.FAB_TMO_FABRIC_US : Fld := ⟨0xC0300, 32, 32, .rw, 0x2710⟩
/-- `FAB_TMO.RETRY_US`. -/ def F.FAB_TMO_RETRY_US : Fld := ⟨0xC0300, 0, 16, .rw, 0x64⟩
/-- `FAB_E2E.WINDOW`. -/ def F.FAB_E2E_WINDOW : Fld := ⟨0xC0308, 0, 13, .rw, 0x400⟩
/-- `FAB_COMBINE.READS`. -/ def F.FAB_COMBINE_READS : Fld := ⟨0xC0310, 32, 32, .rc, 0⟩
/-- `FAB_COMBINE.ATOMICS`. -/ def F.FAB_COMBINE_ATOMICS : Fld := ⟨0xC0310, 1, 31, .rc, 0⟩
/-- `FAB_COMBINE.DISABLE`. -/ def F.FAB_COMBINE_DISABLE : Fld := ⟨0xC0310, 0, 1, .rw, 0⟩
/-- `FAB_DEDUP.HITS`. -/ def F.FAB_DEDUP_HITS : Fld := ⟨0xC0318, 40, 24, .rc, 0⟩
/-- `FAB_DEDUP.OVERFLOW`. -/ def F.FAB_DEDUP_OVERFLOW : Fld := ⟨0xC0318, 32, 8, .rc, 0⟩
/-- `FAB_DEDUP.IN_USE`. -/ def F.FAB_DEDUP_IN_USE : Fld := ⟨0xC0318, 0, 19, .ro, 0⟩
/-- `FAB_KEY_ERR.KEY`. -/ def F.FAB_KEY_ERR_KEY : Fld := ⟨0xC0320, 48, 16, .rc, 0⟩
/-- `FAB_KEY_ERR.PORT`. -/ def F.FAB_KEY_ERR_PORT : Fld := ⟨0xC0320, 40, 8, .rc, 0⟩
/-- `FAB_KEY_ERR.COUNT`. -/ def F.FAB_KEY_ERR_COUNT : Fld := ⟨0xC0320, 0, 32, .rc, 0⟩
/-- `FAB_FENCE.COMPLETED`. -/ def F.FAB_FENCE_COMPLETED : Fld := ⟨0xC0328, 32, 32, .rc, 0⟩
/-- `FAB_FENCE.MARKERS`. -/ def F.FAB_FENCE_MARKERS : Fld := ⟨0xC0328, 16, 16, .rc, 0⟩
/-- `FAB_FENCE.DEAD_PATHS`. -/ def F.FAB_FENCE_DEAD_PATHS : Fld := ⟨0xC0328, 0, 16, .rc, 0⟩
/-- `FAB_DROP.MALFORMED`. -/ def F.FAB_DROP_MALFORMED : Fld := ⟨0xC0330, 48, 16, .rc, 0⟩
/-- `FAB_DROP.CRC`. -/ def F.FAB_DROP_CRC : Fld := ⟨0xC0330, 32, 16, .rc, 0⟩
/-- `FAB_DROP.UNKNOWN_RSP`. -/ def F.FAB_DROP_UNKNOWN_RSP : Fld := ⟨0xC0330, 16, 16, .rc, 0⟩
/-- `FAB_DROP.TIMEOUTS`. -/ def F.FAB_DROP_TIMEOUTS : Fld := ⟨0xC0330, 0, 16, .rc, 0⟩

/-! ### HOME (09_coherence.md) -/

/-- `HOME_TMO.SNOOP_US`. -/ def F.HOME_TMO_SNOOP_US : Fld := ⟨0x100000, 0, 14, .rw, 0x32⟩
/-- `HOME_FILTER.ENTRIES`. -/ def F.HOME_FILTER_ENTRIES : Fld := ⟨0x100008, 32, 25, .ro, 0⟩
/-- `HOME_FILTER.BUSY`. -/ def F.HOME_FILTER_BUSY : Fld := ⟨0x100008, 0, 13, .ro, 0⟩
/-- `HOME_COUNT.SNOOPS`. -/ def F.HOME_COUNT_SNOOPS : Fld := ⟨0x100010, 32, 32, .rc, 0⟩
/-- `HOME_COUNT.OVERFLOW`. -/ def F.HOME_COUNT_OVERFLOW : Fld := ⟨0x100010, 16, 16, .rc, 0⟩
/-- `HOME_COUNT.FORWARDS`. -/ def F.HOME_COUNT_FORWARDS : Fld := ⟨0x100010, 0, 16, .rc, 0⟩
/-- `HOME_TIMEOUT_ERR.AGENT`. -/ def F.HOME_TIMEOUT_ERR_AGENT : Fld := ⟨0x100018, 53, 11, .rc, 0⟩
/-- `HOME_TIMEOUT_ERR.COUNT`. -/ def F.HOME_TIMEOUT_ERR_COUNT : Fld := ⟨0x100018, 0, 16, .rc, 0⟩
/-- `HOME_POISON.LINE`. -/ def F.HOME_POISON_LINE : Fld := ⟨0x100020, 6, 58, .rc, 0⟩
/-- `HOME_POISON.LINES`. -/ def F.HOME_POISON_LINES : Fld := ⟨0x100020, 0, 6, .rc, 0⟩
/-- `HOME_APORT.OUTSTANDING`. -/ def F.HOME_APORT_OUTSTANDING : Fld := ⟨0x100100, 48, 11, .ro, 0⟩
/-- `HOME_APORT.STATE`. -/ def F.HOME_APORT_STATE : Fld := ⟨0x100100, 0, 3, .ro, 0⟩
/-- `HOME_APORT_CMD.APORT`. -/ def F.HOME_APORT_CMD_APORT : Fld := ⟨0x100200, 8, 5, .wo, 0⟩
/-- `HOME_APORT_CMD.OP`. -/ def F.HOME_APORT_CMD_OP : Fld := ⟨0x100200, 0, 2, .wo, 0⟩
/-- `HOME_APORT_STATUS.STATUS`. -/ def F.HOME_APORT_STATUS_STATUS : Fld := ⟨0x100208, 16, 8, .ro, 0⟩
/-- `HOME_APORT_STATUS.SEQ`. -/ def F.HOME_APORT_STATUS_SEQ : Fld := ⟨0x100208, 8, 8, .ro, 0⟩
/-- `HOME_APORT_STATUS.APORT`. -/ def F.HOME_APORT_STATUS_APORT : Fld := ⟨0x100208, 0, 5, .ro, 0⟩

/-! ### SWS (11_switch_and_scheduling.md) -/

/-- `SWS_INFO.CAPACITY_GBPS`. -/ def F.SWS_INFO_CAPACITY_GBPS : Fld := ⟨0xE0000, 16, 16, .ro, 0x3840⟩
/-- `SWS_INFO.PORTS`. -/ def F.SWS_INFO_PORTS : Fld := ⟨0xE0000, 0, 7, .ro, 0x7c⟩
/-- `SWS_GATE_CFG.CYCLE_NS`. -/ def F.SWS_GATE_CFG_CYCLE_NS : Fld := ⟨0xE0008, 32, 32, .ro, 0⟩
/-- `SWS_GATE_CFG.ENTRIES`. -/ def F.SWS_GATE_CFG_ENTRIES : Fld := ⟨0xE0008, 16, 11, .ro, 0⟩
/-- `SWS_GATE_CFG.HOLDOVER_MS`. -/ def F.SWS_GATE_CFG_HOLDOVER_MS : Fld := ⟨0xE0008, 0, 14, (.rwl 0), 0x3e8⟩
/-- `SWS_GATE_STATUS.STEPS`. -/ def F.SWS_GATE_STATUS_STEPS : Fld := ⟨0xE0010, 48, 16, .rc, 0⟩
/-- `SWS_GATE_STATUS.SUSPENSIONS`. -/ def F.SWS_GATE_STATUS_SUSPENSIONS : Fld := ⟨0xE0010, 32, 16, .rc, 0⟩
/-- `SWS_GATE_STATUS.ENTRY`. -/ def F.SWS_GATE_STATUS_ENTRY : Fld := ⟨0xE0010, 16, 10, .ro, 0⟩
/-- `SWS_GATE_STATUS.STATE`. -/ def F.SWS_GATE_STATUS_STATE : Fld := ⟨0xE0010, 0, 2, .ro, 0⟩
/-- `SWS_ETH_GUARD.E3_NS`. -/ def F.SWS_ETH_GUARD_E3_NS : Fld := ⟨0xE0018, 24, 8, .ro, 0x54⟩
/-- `SWS_ETH_GUARD.E2_NS`. -/ def F.SWS_ETH_GUARD_E2_NS : Fld := ⟨0xE0018, 16, 8, .ro, 0x54⟩
/-- `SWS_ETH_GUARD.E1_NS`. -/ def F.SWS_ETH_GUARD_E1_NS : Fld := ⟨0xE0018, 8, 8, .ro, 0x54⟩
/-- `SWS_ETH_GUARD.E0_NS`. -/ def F.SWS_ETH_GUARD_E0_NS : Fld := ⟨0xE0018, 0, 8, .ro, 0x54⟩
/-- `SWS_SCHED.LATE`. -/ def F.SWS_SCHED_LATE : Fld := ⟨0xE0020, 32, 32, .rc, 0⟩
/-- `SWS_SCHED.GUARD_HOLDS`. -/ def F.SWS_SCHED_GUARD_HOLDS : Fld := ⟨0xE0020, 16, 16, .rc, 0⟩
/-- `SWS_SCHED.OVERRUN`. -/ def F.SWS_SCHED_OVERRUN : Fld := ⟨0xE0020, 0, 16, .rc, 0⟩
/-- `SWS_DROP.POLICED`. -/ def F.SWS_DROP_POLICED : Fld := ⟨0xE0028, 32, 32, .rc, 0⟩
/-- `SWS_PORT_SEL.PORT`. -/ def F.SWS_PORT_SEL_PORT : Fld := ⟨0xE0100, 0, 7, .rw, 0⟩
/-- `SWS_PORT_INFO.RATE_GBPS`. -/ def F.SWS_PORT_INFO_RATE_GBPS : Fld := ⟨0xE0108, 48, 16, .ro, 0⟩
/-- `SWS_PORT_INFO.GUARD_100PS`. -/ def F.SWS_PORT_INFO_GUARD_100PS : Fld := ⟨0xE0108, 40, 8, .ro, 0⟩
/-- `SWS_PORT_INFO.KIND`. -/ def F.SWS_PORT_INFO_KIND : Fld := ⟨0xE0108, 0, 3, .ro, 0⟩
/-- `SWS_DRR_QUANTUM.BULK`. -/ def F.SWS_DRR_QUANTUM_BULK : Fld := ⟨0xE0110, 32, 15, (.rwl 0), 0x20⟩
/-- `SWS_DRR_QUANTUM.SCHED`. -/ def F.SWS_DRR_QUANTUM_SCHED : Fld := ⟨0xE0110, 16, 15, (.rwl 0), 0x20⟩
/-- `SWS_DRR_QUANTUM.REQ`. -/ def F.SWS_DRR_QUANTUM_REQ : Fld := ⟨0xE0110, 0, 15, (.rwl 0), 0x20⟩
/-- `SWS_VOQ.BYTES`. -/ def F.SWS_VOQ_BYTES : Fld := ⟨0xE0118, 32, 32, .ro, 0⟩
/-- `SWS_VOQ.PEAK_BYTES`. -/ def F.SWS_VOQ_PEAK_BYTES : Fld := ⟨0xE0118, 0, 32, .rc, 0⟩
/-- `SWS_PORT_WAIT.MAX_NS`. -/ def F.SWS_PORT_WAIT_MAX_NS : Fld := ⟨0xE0120, 32, 32, .rc, 0⟩
/-- `SWS_PORT_WAIT.CREDIT_STALL_US`. -/ def F.SWS_PORT_WAIT_CREDIT_STALL_US : Fld := ⟨0xE0120, 0, 32, .rc, 0⟩
/-- `SWS_SHAPER_SEL.SHAPER`. -/ def F.SWS_SHAPER_SEL_SHAPER : Fld := ⟨0xE0200, 0, 10, .rw, 0⟩
/-- `SWS_SHAPER_RATE.PIR`. -/ def F.SWS_SHAPER_RATE_PIR : Fld := ⟨0xE0208, 32, 16, (.rwl 0), 0⟩
/-- `SWS_SHAPER_RATE.CIR`. -/ def F.SWS_SHAPER_RATE_CIR : Fld := ⟨0xE0208, 0, 16, (.rwl 0), 0⟩
/-- `SWS_SHAPER_BURST.MODE`. -/ def F.SWS_SHAPER_BURST_MODE : Fld := ⟨0xE0210, 56, 2, (.rwl 0), 0⟩
/-- `SWS_SHAPER_BURST.PBS`. -/ def F.SWS_SHAPER_BURST_PBS : Fld := ⟨0xE0210, 24, 24, (.rwl 0), 0⟩
/-- `SWS_SHAPER_BURST.CBS`. -/ def F.SWS_SHAPER_BURST_CBS : Fld := ⟨0xE0210, 0, 24, (.rwl 0), 0⟩
/-- `SWS_SHAPER_CMD.OP`. -/ def F.SWS_SHAPER_CMD_OP : Fld := ⟨0xE0218, 0, 2, (.rwl 0), 0⟩
/-- `SWS_SHAPER_STATUS.STATUS`. -/ def F.SWS_SHAPER_STATUS_STATUS : Fld := ⟨0xE0220, 16, 8, .ro, 0⟩
/-- `SWS_SHAPER_STATUS.SEQ`. -/ def F.SWS_SHAPER_STATUS_SEQ : Fld := ⟨0xE0220, 8, 8, .ro, 0⟩
/-- `SWS_SHAPER_STATUS.RESET`. -/ def F.SWS_SHAPER_STATUS_RESET : Fld := ⟨0xE0220, 0, 2, .ro, 0⟩
/-- `SWS_SHAPER_STATE.MODE`. -/ def F.SWS_SHAPER_STATE_MODE : Fld := ⟨0xE0228, 56, 2, .ro, 0⟩
/-- `SWS_SHAPER_STATE.P_TOKENS`. -/ def F.SWS_SHAPER_STATE_P_TOKENS : Fld := ⟨0xE0228, 24, 24, .ro, 0⟩
/-- `SWS_SHAPER_STATE.C_TOKENS`. -/ def F.SWS_SHAPER_STATE_C_TOKENS : Fld := ⟨0xE0228, 0, 24, .ro, 0⟩
/-- `SWS_SHAPER_COUNT.DROPPED`. -/ def F.SWS_SHAPER_COUNT_DROPPED : Fld := ⟨0xE0230, 32, 32, .rc, 0⟩
/-- `SWS_SHAPER_COUNT.EXCESS`. -/ def F.SWS_SHAPER_COUNT_EXCESS : Fld := ⟨0xE0230, 0, 32, .rc, 0⟩
/-- `SWS_GATE.DURATION_NS`. -/ def F.SWS_GATE_DURATION_NS : Fld := ⟨0xE1000, 32, 32, .ro, 0⟩
/-- `SWS_GATE.EXCLUSIVE`. -/ def F.SWS_GATE_EXCLUSIVE : Fld := ⟨0xE1000, 16, 1, .ro, 0⟩
/-- `SWS_GATE.ETH_BULK`. -/ def F.SWS_GATE_ETH_BULK : Fld := ⟨0xE1000, 8, 1, .ro, 0⟩
/-- `SWS_GATE.FABRIC_GATES`. -/ def F.SWS_GATE_FABRIC_GATES : Fld := ⟨0xE1000, 0, 6, .ro, 0⟩

/-! ### COLL (12_collectives_and_embeddings.md) -/

/-- `COLL_TMO.MS`. -/ def F.COLL_TMO_MS : Fld := ⟨0x120000, 0, 16, .rw, 0x3e8⟩
/-- `COLL_STATE.SLOTS_FREE`. -/ def F.COLL_STATE_SLOTS_FREE : Fld := ⟨0x120008, 16, 13, .ro, 0x1000⟩
/-- `COLL_STATE.OPEN`. -/ def F.COLL_STATE_OPEN : Fld := ⟨0x120008, 0, 9, .ro, 0⟩
/-- `COLL_COUNT.COMPLETED`. -/ def F.COLL_COUNT_COMPLETED : Fld := ⟨0x120010, 32, 32, .rc, 0⟩
/-- `COLL_COUNT.MISMATCH`. -/ def F.COLL_COUNT_MISMATCH : Fld := ⟨0x120010, 16, 16, .rc, 0⟩
/-- `COLL_COUNT.UNCHECKED`. -/ def F.COLL_COUNT_UNCHECKED : Fld := ⟨0x120010, 0, 16, .rc, 0⟩
/-- `COLL_ABORT.COLL_ID`. -/ def F.COLL_ABORT_COLL_ID : Fld := ⟨0x120018, 32, 32, .rc, 0⟩
/-- `COLL_ABORT.STATUS`. -/ def F.COLL_ABORT_STATUS : Fld := ⟨0x120018, 24, 8, .rc, 0⟩
/-- `COLL_ABORT.COUNT`. -/ def F.COLL_ABORT_COUNT : Fld := ⟨0x120018, 0, 16, .rc, 0⟩
/-- `COLL_MISMATCH.COLL_ID`. -/ def F.COLL_MISMATCH_COLL_ID : Fld := ⟨0x120020, 32, 32, .rc, 0⟩
/-- `COLL_MISMATCH.SHARD`. -/ def F.COLL_MISMATCH_SHARD : Fld := ⟨0x120020, 0, 6, .rc, 0⟩
/-- `COLL_BYTES.IN_MIB`. -/ def F.COLL_BYTES_IN_MIB : Fld := ⟨0x120028, 32, 32, .rc, 0⟩
/-- `COLL_BYTES.OUT_MIB`. -/ def F.COLL_BYTES_OUT_MIB : Fld := ⟨0x120028, 0, 32, .rc, 0⟩
/-- `COLL_INST.COLL_ID`. -/ def F.COLL_INST_COLL_ID : Fld := ⟨0x120100, 32, 32, .ro, 0⟩
/-- `COLL_INST.DONE_CHUNKS`. -/ def F.COLL_INST_DONE_CHUNKS : Fld := ⟨0x120100, 8, 24, .ro, 0⟩
/-- `COLL_INST.RANK`. -/ def F.COLL_INST_RANK : Fld := ⟨0x120100, 2, 6, .ro, 0⟩
/-- `COLL_INST.STATE`. -/ def F.COLL_INST_STATE : Fld := ⟨0x120100, 0, 2, .ro, 0⟩

/-! ### EMB (12_collectives_and_embeddings.md) -/

/-- `EMB_TBL_SEL.TABLE`. -/ def F.EMB_TBL_SEL_TABLE : Fld := ⟨0x130000, 0, 8, .rw, 0⟩
/-- `EMB_TBL_CFG.PARTITION`. -/ def F.EMB_TBL_CFG_PARTITION : Fld := ⟨0x130008, 32, 12, .rw, 0⟩
/-- `EMB_TBL_CFG.DIM`. -/ def F.EMB_TBL_CFG_DIM : Fld := ⟨0x130008, 16, 11, .rw, 0x10⟩
/-- `EMB_TBL_CFG.CODE`. -/ def F.EMB_TBL_CFG_CODE : Fld := ⟨0x130008, 8, 1, .rw, 0⟩
/-- `EMB_TBL_CFG.STATE`. -/ def F.EMB_TBL_CFG_STATE : Fld := ⟨0x130008, 0, 2, .ro, 0⟩
/-- `EMB_TBL_ROWS.VALUE`. -/ def F.EMB_TBL_ROWS_VALUE : Fld := ⟨0x130010, 0, 41, .rw, 0⟩
/-- `EMB_TBL_RPS.VALUE`. -/ def F.EMB_TBL_RPS_VALUE : Fld := ⟨0x130018, 0, 41, .rw, 0⟩
/-- `EMB_TBL_DEFAULT.VALUE`. -/ def F.EMB_TBL_DEFAULT_VALUE : Fld := ⟨0x130020, 0, 41, .rw, 0⟩
/-- `EMB_TBL_OWNERS.MEMBERS`. -/ def F.EMB_TBL_OWNERS_MEMBERS : Fld := ⟨0x130028, 0, 64, .rw, 0⟩
/-- `EMB_TBL_USERS.MEMBERS`. -/ def F.EMB_TBL_USERS_MEMBERS : Fld := ⟨0x130030, 0, 64, .rw, 0⟩
/-- `EMB_VER_STAGE.VERSION`. -/ def F.EMB_VER_STAGE_VERSION : Fld := ⟨0x130040, 32, 32, .rw, 0⟩
/-- `EMB_VER_STAGE.CTX`. -/ def F.EMB_VER_STAGE_CTX : Fld := ⟨0x130040, 0, 13, .rw, 0⟩
/-- `EMB_VER_VA.VA`. -/ def F.EMB_VER_VA_VA : Fld := ⟨0x130048, 6, 50, .rw, 0⟩
/-- `EMB_CMD.OP`. -/ def F.EMB_CMD_OP : Fld := ⟨0x130050, 0, 3, .wo, 0⟩
/-- `EMB_STATUS.SLOT`. -/ def F.EMB_STATUS_SLOT : Fld := ⟨0x130058, 24, 2, .ro, 0⟩
/-- `EMB_STATUS.STATUS`. -/ def F.EMB_STATUS_STATUS : Fld := ⟨0x130058, 16, 8, .ro, 0⟩
/-- `EMB_STATUS.SEQ`. -/ def F.EMB_STATUS_SEQ : Fld := ⟨0x130058, 8, 8, .ro, 0⟩
/-- `EMB_VER.VERSION`. -/ def F.EMB_VER_VERSION : Fld := ⟨0x130080, 32, 32, .ro, 0⟩
/-- `EMB_VER.PINS`. -/ def F.EMB_VER_PINS : Fld := ⟨0x130080, 8, 24, .ro, 0⟩
/-- `EMB_VER.STATE`. -/ def F.EMB_VER_STATE : Fld := ⟨0x130080, 0, 2, .ro, 0⟩
/-- `EMB_VER_DRAINED.MEMBERS`. -/ def F.EMB_VER_DRAINED_MEMBERS : Fld := ⟨0x1300A0, 0, 64, .ro, 0⟩
/-- `EMB_COUNT.BATCHES`. -/ def F.EMB_COUNT_BATCHES : Fld := ⟨0x130100, 32, 32, .rc, 0⟩
/-- `EMB_COUNT.DROPPED`. -/ def F.EMB_COUNT_DROPPED : Fld := ⟨0x130100, 16, 16, .rc, 0⟩
/-- `EMB_COUNT.DEFAULTED`. -/ def F.EMB_COUNT_DEFAULTED : Fld := ⟨0x130100, 0, 16, .rc, 0⟩
/-- `EMB_FETCH.ROWS`. -/ def F.EMB_FETCH_ROWS : Fld := ⟨0x130108, 32, 32, .rc, 0⟩
/-- `EMB_FETCH.COALESCED`. -/ def F.EMB_FETCH_COALESCED : Fld := ⟨0x130108, 0, 32, .rc, 0⟩

/-! ### VS (13_vector_search.md) -/

/-- `VS_STATE.SLICE`. -/ def F.VS_STATE_SLICE : Fld := ⟨0x140000, 40, 4, .ro, 0⟩
/-- `VS_STATE.PARTITION`. -/ def F.VS_STATE_PARTITION : Fld := ⟨0x140000, 28, 12, .ro, 0⟩
/-- `VS_STATE.SEGMENTS`. -/ def F.VS_STATE_SEGMENTS : Fld := ⟨0x140000, 4, 24, .ro, 0⟩
/-- `VS_STATE.STATE`. -/ def F.VS_STATE_STATE : Fld := ⟨0x140000, 0, 3, .ro, 0⟩
/-- `VS_COUNT.SCORED_K`. -/ def F.VS_COUNT_SCORED_K : Fld := ⟨0x140008, 32, 32, .rc, 0⟩
/-- `VS_COUNT.SKIPPED_K`. -/ def F.VS_COUNT_SKIPPED_K : Fld := ⟨0x140008, 0, 32, .rc, 0⟩
/-- `VS_BYTES.READ_MIB`. -/ def F.VS_BYTES_READ_MIB : Fld := ⟨0x140010, 32, 32, .rc, 0⟩
/-- `VS_BYTES.RECON_MIB`. -/ def F.VS_BYTES_RECON_MIB : Fld := ⟨0x140010, 0, 32, .rc, 0⟩
/-- `VS_ERR.ADDR`. -/ def F.VS_ERR_ADDR : Fld := ⟨0x140018, 8, 56, .rc, 0⟩
/-- `VS_ERR.STATUS`. -/ def F.VS_ERR_STATUS : Fld := ⟨0x140018, 0, 8, .rc, 0⟩
/-- `VS_CTRL.SCAN_TMO_MS`. -/ def F.VS_CTRL_SCAN_TMO_MS : Fld := ⟨0x14C000, 0, 14, .rw, 0x64⟩
/-- `VS_SEARCH.QUERIES`. -/ def F.VS_SEARCH_QUERIES : Fld := ⟨0x14C008, 32, 32, .rc, 0⟩
/-- `VS_SEARCH.SHORT`. -/ def F.VS_SEARCH_SHORT : Fld := ⟨0x14C008, 16, 16, .rc, 0⟩
/-- `VS_SEARCH.FAILED`. -/ def F.VS_SEARCH_FAILED : Fld := ⟨0x14C008, 0, 16, .rc, 0⟩
/-- `VS_MERGE.CANDIDATES_K`. -/ def F.VS_MERGE_CANDIDATES_K : Fld := ⟨0x14C010, 32, 32, .rc, 0⟩
/-- `VS_MERGE.SLOTS_BUSY`. -/ def F.VS_MERGE_SLOTS_BUSY : Fld := ⟨0x14C010, 0, 17, .ro, 0⟩

/-! ### ETH (14_ethernet_host.md) -/

/-- `ETH_PORT_CFG.MAC`. -/ def F.ETH_PORT_CFG_MAC : Fld := ⟨0x160000, 16, 48, .rw, 0⟩
/-- `ETH_PORT_CFG.LOSSLESS`. -/ def F.ETH_PORT_CFG_LOSSLESS : Fld := ⟨0x160000, 8, 8, .rw, 8⟩
/-- `ETH_PORT_CFG.PMTU`. -/ def F.ETH_PORT_CFG_PMTU : Fld := ⟨0x160000, 0, 3, .rw, 5⟩
/-- `ETH_PORT_GID_HI.GID`. -/ def F.ETH_PORT_GID_HI_GID : Fld := ⟨0x160040, 0, 64, .rw, 0⟩
/-- `ETH_PORT_GID_LO.GID`. -/ def F.ETH_PORT_GID_LO_GID : Fld := ⟨0x160048, 0, 64, .rw, 0⟩
/-- `ETH_PORT_STATUS.PAUSED`. -/ def F.ETH_PORT_STATUS_PAUSED : Fld := ⟨0x160080, 56, 8, .ro, 0⟩
/-- `ETH_PORT_STATUS.XOFF`. -/ def F.ETH_PORT_STATUS_XOFF : Fld := ⟨0x160080, 48, 8, .ro, 0⟩
/-- `ETH_PORT_STATUS.PTP`. -/ def F.ETH_PORT_STATUS_PTP : Fld := ⟨0x160080, 2, 2, .ro, 0⟩
/-- `ETH_PORT_STATUS.LINK`. -/ def F.ETH_PORT_STATUS_LINK : Fld := ⟨0x160080, 0, 2, .ro, 0⟩
/-- `ETH_PORT_COUNT.ICRC_FAIL`. -/ def F.ETH_PORT_COUNT_ICRC_FAIL : Fld := ⟨0x1600A0, 48, 16, .rc, 0⟩
/-- `ETH_PORT_COUNT.DISCARDED`. -/ def F.ETH_PORT_COUNT_DISCARDED : Fld := ⟨0x1600A0, 32, 16, .rc, 0⟩
/-- `ETH_PORT_COUNT.CNP_SENT`. -/ def F.ETH_PORT_COUNT_CNP_SENT : Fld := ⟨0x1600A0, 16, 16, .rc, 0⟩
/-- `ETH_PORT_COUNT.WD_DROPS`. -/ def F.ETH_PORT_COUNT_WD_DROPS : Fld := ⟨0x1600A0, 0, 16, .rc, 0⟩
/-- `ETH_PFC.QUANTA`. -/ def F.ETH_PFC_QUANTA : Fld := ⟨0x160100, 32, 16, .rw, 0xffff⟩
/-- `ETH_PFC.WD_MS`. -/ def F.ETH_PFC_WD_MS : Fld := ⟨0x160100, 16, 16, .rw, 0x64⟩
/-- `ETH_PFC.ECN_K_4K`. -/ def F.ETH_PFC_ECN_K_4K : Fld := ⟨0x160100, 8, 8, .rw, 0x20⟩
/-- `ETH_PFC.XOFF_KIB`. -/ def F.ETH_PFC_XOFF_KIB : Fld := ⟨0x160100, 0, 8, .rw, 0x40⟩
/-- `ETH_CC.MIN_RATE`. -/ def F.ETH_CC_MIN_RATE : Fld := ⟨0x160108, 48, 16, .rw, 0xa⟩
/-- `ETH_CC.ALPHA`. -/ def F.ETH_CC_ALPHA : Fld := ⟨0x160108, 40, 8, .rw, 0x80⟩
/-- `ETH_CC.AI_RATE`. -/ def F.ETH_CC_AI_RATE : Fld := ⟨0x160108, 24, 16, .rw, 0x32⟩
/-- `ETH_CC.RECOVER_US`. -/ def F.ETH_CC_RECOVER_US : Fld := ⟨0x160108, 12, 12, .rw, 0x37⟩
/-- `ETH_CC.CNP_GAP_US`. -/ def F.ETH_CC_CNP_GAP_US : Fld := ⟨0x160108, 0, 12, .rw, 0x32⟩
/-- `ETH_QP_SEL.QP`. -/ def F.ETH_QP_SEL_QP : Fld := ⟨0x160200, 0, 14, .rw, 0⟩
/-- `ETH_QP_CFG.DEST_QPN`. -/ def F.ETH_QP_CFG_DEST_QPN : Fld := ⟨0x160208, 40, 24, .rw, 0⟩
/-- `ETH_QP_CFG.TIMEOUT`. -/ def F.ETH_QP_CFG_TIMEOUT : Fld := ⟨0x160208, 35, 5, .rw, 0xe⟩
/-- `ETH_QP_CFG.RETRY`. -/ def F.ETH_QP_CFG_RETRY : Fld := ⟨0x160208, 32, 3, .rw, 7⟩
/-- `ETH_QP_CFG.PCP`. -/ def F.ETH_QP_CFG_PCP : Fld := ⟨0x160208, 29, 3, .rw, 3⟩
/-- `ETH_QP_CFG.DSCP`. -/ def F.ETH_QP_CFG_DSCP : Fld := ⟨0x160208, 23, 6, .rw, 0x1a⟩
/-- `ETH_QP_CFG.PORT`. -/ def F.ETH_QP_CFG_PORT : Fld := ⟨0x160208, 21, 2, .rw, 0⟩
/-- `ETH_QP_CFG.SEND_EN`. -/ def F.ETH_QP_CFG_SEND_EN : Fld := ⟨0x160208, 14, 1, .rw, 0⟩
/-- `ETH_QP_CFG.SEND_QUEUE`. -/ def F.ETH_QP_CFG_SEND_QUEUE : Fld := ⟨0x160208, 0, 14, .rw, 0⟩
/-- `ETH_QP_HOP.NEXT_MAC`. -/ def F.ETH_QP_HOP_NEXT_MAC : Fld := ⟨0x160210, 16, 48, .rw, 0⟩
/-- `ETH_QP_HOP.VLAN_EN`. -/ def F.ETH_QP_HOP_VLAN_EN : Fld := ⟨0x160210, 15, 1, .rw, 0⟩
/-- `ETH_QP_HOP.VLAN`. -/ def F.ETH_QP_HOP_VLAN : Fld := ⟨0x160210, 0, 12, .rw, 0⟩
/-- `ETH_QP_DGID_HI.GID`. -/ def F.ETH_QP_DGID_HI_GID : Fld := ⟨0x160218, 0, 64, .rw, 0⟩
/-- `ETH_QP_DGID_LO.GID`. -/ def F.ETH_QP_DGID_LO_GID : Fld := ⟨0x160220, 0, 64, .rw, 0⟩
/-- `ETH_QP_PSN.RQ_PSN`. -/ def F.ETH_QP_PSN_RQ_PSN : Fld := ⟨0x160228, 24, 24, .rw, 0⟩
/-- `ETH_QP_PSN.SQ_PSN`. -/ def F.ETH_QP_PSN_SQ_PSN : Fld := ⟨0x160228, 0, 24, .rw, 0⟩
/-- `ETH_QP_CMD.OP`. -/ def F.ETH_QP_CMD_OP : Fld := ⟨0x160230, 0, 3, .wo, 0⟩
/-- `ETH_QP_STATUS.QPN`. -/ def F.ETH_QP_STATUS_QPN : Fld := ⟨0x160238, 40, 24, .ro, 0⟩
/-- `ETH_QP_STATUS.LAST_STATUS`. -/ def F.ETH_QP_STATUS_LAST_STATUS : Fld := ⟨0x160238, 32, 8, .ro, 0⟩
/-- `ETH_QP_STATUS.RATE`. -/ def F.ETH_QP_STATUS_RATE : Fld := ⟨0x160238, 16, 16, .ro, 0xfa0⟩
/-- `ETH_QP_STATUS.STATE`. -/ def F.ETH_QP_STATUS_STATE : Fld := ⟨0x160238, 0, 3, .ro, 0⟩
/-- `ETH_MR_VA.VALUE`. -/ def F.ETH_MR_VA_VALUE : Fld := ⟨0x160300, 0, 64, .rw, 0⟩
/-- `ETH_MR_LEN.VALUE`. -/ def F.ETH_MR_LEN_VALUE : Fld := ⟨0x160308, 0, 64, .rw, 0⟩
/-- `ETH_MR_CMD.RKEY`. -/ def F.ETH_MR_CMD_RKEY : Fld := ⟨0x160310, 32, 32, .wo, 0⟩
/-- `ETH_MR_CMD.CTX`. -/ def F.ETH_MR_CMD_CTX : Fld := ⟨0x160310, 16, 13, .wo, 0⟩
/-- `ETH_MR_CMD.RIGHTS`. -/ def F.ETH_MR_CMD_RIGHTS : Fld := ⟨0x160310, 8, 3, .wo, 0⟩
/-- `ETH_MR_CMD.OP`. -/ def F.ETH_MR_CMD_OP : Fld := ⟨0x160310, 0, 2, .wo, 0⟩
/-- `ETH_MR_STATUS.RKEY`. -/ def F.ETH_MR_STATUS_RKEY : Fld := ⟨0x160318, 32, 32, .ro, 0⟩
/-- `ETH_MR_STATUS.STATUS`. -/ def F.ETH_MR_STATUS_STATUS : Fld := ⟨0x160318, 16, 8, .ro, 0⟩
/-- `ETH_MR_STATUS.SEQ`. -/ def F.ETH_MR_STATUS_SEQ : Fld := ⟨0x160318, 8, 8, .ro, 0⟩
/-- `ETH_XFER_LVA.VALUE`. -/ def F.ETH_XFER_LVA_VALUE : Fld := ⟨0x160400, 0, 64, .rw, 0⟩
/-- `ETH_XFER_RVA.VALUE`. -/ def F.ETH_XFER_RVA_VALUE : Fld := ⟨0x160408, 0, 64, .rw, 0⟩
/-- `ETH_XFER_LEN.VALUE`. -/ def F.ETH_XFER_LEN_VALUE : Fld := ⟨0x160410, 0, 64, .rw, 0⟩
/-- `ETH_XFER_CMD.RKEY`. -/ def F.ETH_XFER_CMD_RKEY : Fld := ⟨0x160418, 32, 32, .wo, 0⟩
/-- `ETH_XFER_CMD.QP`. -/ def F.ETH_XFER_CMD_QP : Fld := ⟨0x160418, 16, 14, .wo, 0⟩
/-- `ETH_XFER_CMD.OP`. -/ def F.ETH_XFER_CMD_OP : Fld := ⟨0x160418, 0, 2, .wo, 0⟩
/-- `ETH_XFER_STATUS.DONE_BYTES`. -/ def F.ETH_XFER_STATUS_DONE_BYTES : Fld := ⟨0x160420, 24, 40, .ro, 0⟩
/-- `ETH_XFER_STATUS.STATUS`. -/ def F.ETH_XFER_STATUS_STATUS : Fld := ⟨0x160420, 16, 8, .ro, 0⟩
/-- `ETH_XFER_STATUS.SEQ`. -/ def F.ETH_XFER_STATUS_SEQ : Fld := ⟨0x160420, 8, 8, .ro, 0⟩
/-- `ETH_XFER_STATUS.BUSY`. -/ def F.ETH_XFER_STATUS_BUSY : Fld := ⟨0x160420, 0, 1, .ro, 0⟩
/-- `ETH_PTP_CFG.DOMAIN`. -/ def F.ETH_PTP_CFG_DOMAIN : Fld := ⟨0x160500, 16, 8, .rw, 0⟩
/-- `ETH_PTP_CFG.PORTS`. -/ def F.ETH_PTP_CFG_PORTS : Fld := ⟨0x160500, 0, 4, .rw, 0xf⟩
/-- `ETH_PTP_STATUS.OFFSET_NS`. -/ def F.ETH_PTP_STATUS_OFFSET_NS : Fld := ⟨0x160508, 32, 32, .ro, 0⟩
/-- `ETH_PTP_STATUS.STEPS`. -/ def F.ETH_PTP_STATUS_STEPS : Fld := ⟨0x160508, 24, 8, .rc, 0⟩
/-- `ETH_PTP_STATUS.SOURCE_DEV`. -/ def F.ETH_PTP_STATUS_SOURCE_DEV : Fld := ⟨0x160508, 18, 6, .ro, 0⟩
/-- `ETH_PTP_STATUS.SOURCE`. -/ def F.ETH_PTP_STATUS_SOURCE : Fld := ⟨0x160508, 16, 2, .ro, 0⟩
/-- `ETH_PTP_STATUS.PORT`. -/ def F.ETH_PTP_STATUS_PORT : Fld := ⟨0x160508, 2, 2, .ro, 0⟩
/-- `ETH_PTP_STATUS.LOCK`. -/ def F.ETH_PTP_STATUS_LOCK : Fld := ⟨0x160508, 0, 2, .ro, 0⟩
/-- `ETH_TIME.NS`. -/ def F.ETH_TIME_NS : Fld := ⟨0x160510, 0, 64, .ro, 0⟩

/-! ### RAS (15_reliability_and_recovery.md) -/

/-- `RAS_LOG_PTR.HEAD`. -/ def F.RAS_LOG_PTR_HEAD : Fld := ⟨0x180000, 32, 32, .ro, 0⟩
/-- `RAS_LOG_PTR.TAIL`. -/ def F.RAS_LOG_PTR_TAIL : Fld := ⟨0x180000, 0, 32, .ro, 0⟩
/-- `RAS_LOG_STAT.LOST`. -/ def F.RAS_LOG_STAT_LOST : Fld := ⟨0x180008, 32, 32, .rc, 0⟩
/-- `RAS_LOG_STAT.HELD`. -/ def F.RAS_LOG_STAT_HELD : Fld := ⟨0x180008, 0, 15, .ro, 0⟩
/-- `RAS_LOG_SEL.SEQ`. -/ def F.RAS_LOG_SEL_SEQ : Fld := ⟨0x180010, 0, 32, .rw, 0⟩
/-- `RAS_LOG_REC.DATA`. -/ def F.RAS_LOG_REC_DATA : Fld := ⟨0x180018, 0, 64, .ro, 0⟩
/-- `RAS_LOG_CLEAR.UPTO`. -/ def F.RAS_LOG_CLEAR_UPTO : Fld := ⟨0x180060, 0, 32, (.rwl 2), 0⟩
/-- `RAS_STEP.COUNT`. -/ def F.RAS_STEP_COUNT : Fld := ⟨0x180100, 16, 48, .ro, 0⟩
/-- `RAS_STEP_JOB.JOB`. -/ def F.RAS_STEP_JOB_JOB : Fld := ⟨0x180108, 0, 32, .ro, 0⟩
/-- `RAS_STEP_NUM.STEP`. -/ def F.RAS_STEP_NUM_STEP : Fld := ⟨0x180110, 0, 64, .ro, 0⟩
/-- `RAS_SENTINEL.PASSED`. -/ def F.RAS_SENTINEL_PASSED : Fld := ⟨0x180118, 32, 32, .rc, 0⟩
/-- `RAS_SENTINEL.TRANSIENT`. -/ def F.RAS_SENTINEL_TRANSIENT : Fld := ⟨0x180118, 16, 16, .rc, 0⟩
/-- `RAS_SENTINEL.PERSISTENT`. -/ def F.RAS_SENTINEL_PERSISTENT : Fld := ⟨0x180118, 8, 8, .rc, 0⟩
/-- `RAS_SENTINEL.NEXT`. -/ def F.RAS_SENTINEL_NEXT : Fld := ⟨0x180118, 0, 5, .ro, 0⟩
/-- `RAS_WDOG.CMD_MS`. -/ def F.RAS_WDOG_CMD_MS : Fld := ⟨0x180120, 0, 14, .rw, 0x32⟩
/-- `RAS_HANG.HANGS`. -/ def F.RAS_HANG_HANGS : Fld := ⟨0x180128, 32, 32, .rc, 0⟩
/-- `RAS_HANG.GUILTY`. -/ def F.RAS_HANG_GUILTY : Fld := ⟨0x180128, 16, 16, .rc, 0⟩
/-- `RAS_HANG.UNATTRIBUTED`. -/ def F.RAS_HANG_UNATTRIBUTED : Fld := ⟨0x180128, 0, 16, .rc, 0⟩
/-- `RAS_QUAR.GUILTY_VALID`. -/ def F.RAS_QUAR_GUILTY_VALID : Fld := ⟨0x180130, 63, 1, .ro, 0⟩
/-- `RAS_QUAR.GUILTY_CTX`. -/ def F.RAS_QUAR_GUILTY_CTX : Fld := ⟨0x180130, 50, 13, .ro, 0⟩
/-- `RAS_QUAR.CORE`. -/ def F.RAS_QUAR_CORE : Fld := ⟨0x180130, 32, 4, .ro, 0⟩
/-- `RAS_QUAR.LEFT`. -/ def F.RAS_QUAR_LEFT : Fld := ⟨0x180130, 16, 4, .ro, 0⟩
/-- `RAS_QUAR.STATE`. -/ def F.RAS_QUAR_STATE : Fld := ⟨0x180130, 0, 2, .ro, 0⟩
/-- `RAS_CTX_POISON.CTX`. -/ def F.RAS_CTX_POISON_CTX : Fld := ⟨0x180138, 51, 13, .rc, 0⟩
/-- `RAS_CTX_POISON.VALID`. -/ def F.RAS_CTX_POISON_VALID : Fld := ⟨0x180138, 50, 1, .rc, 0⟩
/-- `RAS_CTX_POISON.COUNT`. -/ def F.RAS_CTX_POISON_COUNT : Fld := ⟨0x180138, 0, 32, .rc, 0⟩
/-- `RAS_ECC.CORRECTED`. -/ def F.RAS_ECC_CORRECTED : Fld := ⟨0x180140, 32, 32, .rc, 0⟩
/-- `RAS_ECC.REPAIRED`. -/ def F.RAS_ECC_REPAIRED : Fld := ⟨0x180140, 16, 16, .rc, 0⟩
/-- `RAS_ECC.UNCORRECTED`. -/ def F.RAS_ECC_UNCORRECTED : Fld := ⟨0x180140, 0, 16, .rc, 0⟩
/-- `RAS_RESET_CMD.TARGET`. -/ def F.RAS_RESET_CMD_TARGET : Fld := ⟨0x180200, 16, 13, .wo, 0⟩
/-- `RAS_RESET_CMD.OP`. -/ def F.RAS_RESET_CMD_OP : Fld := ⟨0x180200, 0, 3, .wo, 0⟩
/-- `RAS_RESET_DEEP.ISLAND`. -/ def F.RAS_RESET_DEEP_ISLAND : Fld := ⟨0x180208, 16, 5, (.rwl 0), 0⟩
/-- `RAS_RESET_DEEP.OP`. -/ def F.RAS_RESET_DEEP_OP : Fld := ⟨0x180208, 0, 3, (.rwl 0), 0⟩
/-- `RAS_RESET_STATUS.STATUS`. -/ def F.RAS_RESET_STATUS_STATUS : Fld := ⟨0x180210, 40, 8, .ro, 0⟩
/-- `RAS_RESET_STATUS.SEQ`. -/ def F.RAS_RESET_STATUS_SEQ : Fld := ⟨0x180210, 32, 8, .ro, 0⟩
/-- `RAS_RESET_STATUS.TARGET`. -/ def F.RAS_RESET_STATUS_TARGET : Fld := ⟨0x180210, 16, 13, .ro, 0⟩
/-- `RAS_RESET_STATUS.LEVEL`. -/ def F.RAS_RESET_STATUS_LEVEL : Fld := ⟨0x180210, 8, 3, .ro, 0⟩
/-- `RAS_RESET_STATUS.RUNNING`. -/ def F.RAS_RESET_STATUS_RUNNING : Fld := ⟨0x180210, 0, 1, .ro, 0⟩
/-- `RAS_RESET_CAUSE.DEDUP_LOST`. -/ def F.RAS_RESET_CAUSE_DEDUP_LOST : Fld := ⟨0x180218, 16, 1, .ro, 0⟩
/-- `RAS_RESET_CAUSE.CAUSE`. -/ def F.RAS_RESET_CAUSE_CAUSE : Fld := ⟨0x180218, 0, 8, .ro, 0⟩
/-- `RAS_ADMIT_CMD.SPARE_DEV`. -/ def F.RAS_ADMIT_CMD_SPARE_DEV : Fld := ⟨0x180300, 56, 6, (.rwl 0), 0⟩
/-- `RAS_ADMIT_CMD.FAILED_DEV`. -/ def F.RAS_ADMIT_CMD_FAILED_DEV : Fld := ⟨0x180300, 48, 6, (.rwl 0), 0⟩
/-- `RAS_ADMIT_CMD.OP`. -/ def F.RAS_ADMIT_CMD_OP : Fld := ⟨0x180300, 0, 2, (.rwl 0), 0⟩
/-- `RAS_ADMIT_STATUS.SPARE_DEV`. -/ def F.RAS_ADMIT_STATUS_SPARE_DEV : Fld := ⟨0x180308, 56, 6, .ro, 0⟩
/-- `RAS_ADMIT_STATUS.FAILED_DEV`. -/ def F.RAS_ADMIT_STATUS_FAILED_DEV : Fld := ⟨0x180308, 48, 6, .ro, 0⟩
/-- `RAS_ADMIT_STATUS.STATUS`. -/ def F.RAS_ADMIT_STATUS_STATUS : Fld := ⟨0x180308, 16, 8, .ro, 0⟩
/-- `RAS_ADMIT_STATUS.SEQ`. -/ def F.RAS_ADMIT_STATUS_SEQ : Fld := ⟨0x180308, 8, 8, .ro, 0⟩
/-- `RAS_ADMIT_STATUS.STATE`. -/ def F.RAS_ADMIT_STATUS_STATE : Fld := ⟨0x180308, 0, 3, .ro, 0⟩
/-- `RAS_REBIND.FORMER_DEV`. -/ def F.RAS_REBIND_FORMER_DEV : Fld := ⟨0x180310, 56, 6, .ro, 0⟩
/-- `RAS_REBIND.FAILED_DEV`. -/ def F.RAS_REBIND_FAILED_DEV : Fld := ⟨0x180310, 48, 6, .ro, 0⟩
/-- `RAS_REBIND.COUNT`. -/ def F.RAS_REBIND_COUNT : Fld := ⟨0x180310, 0, 16, .ro, 0⟩
/-- `RAS_LOSS.DEV_A`. -/ def F.RAS_LOSS_DEV_A : Fld := ⟨0x180318, 58, 6, .rc, 0⟩
/-- `RAS_LOSS.DEV_B`. -/ def F.RAS_LOSS_DEV_B : Fld := ⟨0x180318, 52, 6, .rc, 0⟩
/-- `RAS_LOSS.COUNT`. -/ def F.RAS_LOSS_COUNT : Fld := ⟨0x180318, 0, 16, .rc, 0⟩
/-- `RAS_ENGINE.LAST_PASS`. -/ def F.RAS_ENGINE_LAST_PASS : Fld := ⟨0x180400, 16, 48, .ro, 0⟩
/-- `RAS_ENGINE.STATE`. -/ def F.RAS_ENGINE_STATE : Fld := ⟨0x180400, 0, 2, .ro, 0⟩

/-! ### SEC (16_security.md) -/

/-- `SEC_STATE.ENROLLED`. -/ def F.SEC_STATE_ENROLLED : Fld := ⟨0x1A0000, 7, 1, .ro, 0⟩
/-- `SEC_STATE.FW_SLOT`. -/ def F.SEC_STATE_FW_SLOT : Fld := ⟨0x1A0000, 6, 1, .ro, 0⟩
/-- `SEC_STATE.PUF`. -/ def F.SEC_STATE_PUF : Fld := ⟨0x1A0000, 4, 2, .ro, 0⟩
/-- `SEC_STATE.FW`. -/ def F.SEC_STATE_FW : Fld := ⟨0x1A0000, 0, 2, .ro, 0⟩
/-- `SEC_FW_VERSION.VERSION`. -/ def F.SEC_FW_VERSION_VERSION : Fld := ⟨0x1A0008, 0, 64, .ro, 0⟩
/-- `SEC_ID_ED.KEY`. -/ def F.SEC_ID_ED_KEY : Fld := ⟨0x1A0010, 0, 64, .ro, 0⟩
/-- `SEC_REPORT_NONCE.NONCE`. -/ def F.SEC_REPORT_NONCE_NONCE : Fld := ⟨0x1A0100, 0, 64, .rw, 0⟩
/-- `SEC_REPORT_CMD.GENERATE`. -/ def F.SEC_REPORT_CMD_GENERATE : Fld := ⟨0x1A0120, 0, 1, .wo, 0⟩
/-- `SEC_REPORT_STATUS.STATUS`. -/ def F.SEC_REPORT_STATUS_STATUS : Fld := ⟨0x1A0128, 16, 8, .ro, 0⟩
/-- `SEC_REPORT_STATUS.SEQ`. -/ def F.SEC_REPORT_STATUS_SEQ : Fld := ⟨0x1A0128, 8, 8, .ro, 0⟩
/-- `SEC_REPORT_STATUS.BUSY`. -/ def F.SEC_REPORT_STATUS_BUSY : Fld := ⟨0x1A0128, 0, 1, .ro, 0⟩
/-- `SEC_KEY_SEL.PARTITION`. -/ def F.SEC_KEY_SEL_PARTITION : Fld := ⟨0x1A0200, 0, 12, .rw, 0⟩
/-- `SEC_KEY_CMD.OP`. -/ def F.SEC_KEY_CMD_OP : Fld := ⟨0x1A0208, 0, 2, (.rwl 1), 0⟩
/-- `SEC_KEY_STATUS.PARTITION`. -/ def F.SEC_KEY_STATUS_PARTITION : Fld := ⟨0x1A0210, 32, 12, .ro, 0⟩
/-- `SEC_KEY_STATUS.STATUS`. -/ def F.SEC_KEY_STATUS_STATUS : Fld := ⟨0x1A0210, 16, 8, .ro, 0⟩
/-- `SEC_KEY_STATUS.SEQ`. -/ def F.SEC_KEY_STATUS_SEQ : Fld := ⟨0x1A0210, 8, 8, .ro, 0⟩
/-- `SEC_KEY_INFO.KCV`. -/ def F.SEC_KEY_INFO_KCV : Fld := ⟨0x1A0218, 0, 64, .ro, 0⟩
/-- `SEC_KEY_COUNT.ACTIVE`. -/ def F.SEC_KEY_COUNT_ACTIVE : Fld := ⟨0x1A0220, 0, 13, .ro, 0⟩
/-- `SEC_LINK.REKEYS`. -/ def F.SEC_LINK_REKEYS : Fld := ⟨0x1A0300, 32, 32, .rc, 0⟩
/-- `SEC_LINK.EXCHANGES`. -/ def F.SEC_LINK_EXCHANGES : Fld := ⟨0x1A0300, 16, 16, .rc, 0⟩
/-- `SEC_LINK.AUTH_FAIL`. -/ def F.SEC_LINK_AUTH_FAIL : Fld := ⟨0x1A0300, 0, 16, .rc, 0⟩
/-- `SEC_EVLOG_PTR.OVERFLOW`. -/ def F.SEC_EVLOG_PTR_OVERFLOW : Fld := ⟨0x1A0400, 0, 1, .ro, 0⟩
/-- `SEC_EVLOG_SEL.ENTRY`. -/ def F.SEC_EVLOG_SEL_ENTRY : Fld := ⟨0x1A0410, 0, 12, .rw, 0⟩
/-- `SEC_EVLOG_REC.DATA`. -/ def F.SEC_EVLOG_REC_DATA : Fld := ⟨0x1A0418, 0, 64, .ro, 0⟩
/-- `SEC_MLDSA_PUB.DATA`. -/ def F.SEC_MLDSA_PUB_DATA : Fld := ⟨0x1A1000, 0, 64, .ro, 0⟩
/-- `SEC_KEM_EK.DATA`. -/ def F.SEC_KEM_EK_DATA : Fld := ⟨0x1A2000, 0, 64, .ro, 0⟩
/-- `SEC_REPORT.DATA`. -/ def F.SEC_REPORT_DATA : Fld := ⟨0x1A4000, 0, 64, .ro, 0⟩
/-- `SEC_IMPORT.DATA`. -/ def F.SEC_IMPORT_DATA : Fld := ⟨0x1A6000, 0, 64, (.rwl 1), 0⟩
/-- `SEC_EVLOG_COUNT.ENTRIES`. -/ def F.SEC_EVLOG_COUNT_ENTRIES : Fld := ⟨0x1A0408, 0, 13, .ro, 0⟩

/-! ### PWR (17_power_clocks_startup.md) -/

/-- `PWR_INPUT.VIN_MV`. -/ def F.PWR_INPUT_VIN_MV : Fld := ⟨0x1C0000, 48, 16, .ro, 0⟩
/-- `PWR_INPUT.IIN_MA`. -/ def F.PWR_INPUT_IIN_MA : Fld := ⟨0x1C0000, 32, 16, .ro, 0⟩
/-- `PWR_INPUT.PIN_W`. -/ def F.PWR_INPUT_PIN_W : Fld := ⟨0x1C0000, 8, 12, .ro, 0⟩
/-- `PWR_INPUT.DIPS`. -/ def F.PWR_INPUT_DIPS : Fld := ⟨0x1C0000, 0, 8, .rc, 0⟩
/-- `PWR_PEAK.PEAK_W`. -/ def F.PWR_PEAK_PEAK_W : Fld := ⟨0x1C0008, 48, 16, .rc, 0⟩
/-- `PWR_PEAK.PEAK_IIN_MA`. -/ def F.PWR_PEAK_PEAK_IIN_MA : Fld := ⟨0x1C0008, 32, 16, .rc, 0⟩
/-- `PWR_PEAK.MIN_VIN_MV`. -/ def F.PWR_PEAK_MIN_VIN_MV : Fld := ⟨0x1C0008, 16, 16, .rc, 0xffff⟩
/-- `PWR_LIMIT.CAP_W`. -/ def F.PWR_LIMIT_CAP_W : Fld := ⟨0x1C0010, 32, 12, (.rwl 3), 0x578⟩
/-- `PWR_LIMIT.RATE_CA`. -/ def F.PWR_LIMIT_RATE_CA : Fld := ⟨0x1C0010, 0, 12, (.rwl 3), 0x320⟩
/-- `PWR_THERM.TEMP`. -/ def F.PWR_THERM_TEMP : Fld := ⟨0x1C0018, 48, 16, .ro, 0⟩
/-- `PWR_THERM.PEAK_TEMP`. -/ def F.PWR_THERM_PEAK_TEMP : Fld := ⟨0x1C0018, 32, 16, .rc, 0⟩
/-- `PWR_THERM.SENSOR`. -/ def F.PWR_THERM_SENSOR : Fld := ⟨0x1C0018, 16, 5, .ro, 0⟩
/-- `PWR_THERM.THROTTLE_C`. -/ def F.PWR_THERM_THROTTLE_C : Fld := ⟨0x1C0018, 0, 7, (.rwl 3), 0x64⟩
/-- `PWR_THROTTLE.THROTTLED_MS`. -/ def F.PWR_THROTTLE_THROTTLED_MS : Fld := ⟨0x1C0020, 32, 32, .rc, 0⟩
/-- `PWR_THROTTLE.CAUSE`. -/ def F.PWR_THROTTLE_CAUSE : Fld := ⟨0x1C0020, 8, 3, .ro, 0⟩
/-- `PWR_THROTTLE.DUTY`. -/ def F.PWR_THROTTLE_DUTY : Fld := ⟨0x1C0020, 0, 5, .ro, 0x10⟩
/-- `PWR_GOV.DEFERRED`. -/ def F.PWR_GOV_DEFERRED : Fld := ⟨0x1C0028, 48, 16, .rc, 0⟩
/-- `PWR_GOV.MAX_WAIT_US`. -/ def F.PWR_GOV_MAX_WAIT_US : Fld := ⟨0x1C0028, 32, 16, .rc, 0⟩
/-- `PWR_GOV.PENDING`. -/ def F.PWR_GOV_PENDING : Fld := ⟨0x1C0028, 24, 8, .ro, 0⟩
/-- `PWR_GOV.WINDOW_CA`. -/ def F.PWR_GOV_WINDOW_CA : Fld := ⟨0x1C0028, 0, 12, .ro, 0⟩
/-- `PWR_REFCLK.CORE_LOSSES`. -/ def F.PWR_REFCLK_CORE_LOSSES : Fld := ⟨0x1C0030, 24, 8, .rc, 0⟩
/-- `PWR_REFCLK.SERDES_LOSSES`. -/ def F.PWR_REFCLK_SERDES_LOSSES : Fld := ⟨0x1C0030, 16, 8, .rc, 0⟩
/-- `PWR_REFCLK.SERDES_OK`. -/ def F.PWR_REFCLK_SERDES_OK : Fld := ⟨0x1C0030, 1, 1, .ro, 0⟩
/-- `PWR_REFCLK.CORE_OK`. -/ def F.PWR_REFCLK_CORE_OK : Fld := ⟨0x1C0030, 0, 1, .ro, 0⟩
/-- `PWR_START.LAST_MS`. -/ def F.PWR_START_LAST_MS : Fld := ⟨0x1C0038, 32, 32, .ro, 0⟩
/-- `PWR_START.PHASE`. -/ def F.PWR_START_PHASE : Fld := ⟨0x1C0038, 0, 4, .ro, 0⟩
/-- `PWR_BIST.PASSED`. -/ def F.PWR_BIST_PASSED : Fld := ⟨0x1C0040, 16, 24, .ro, 0⟩
/-- `PWR_BIST.NEXT`. -/ def F.PWR_BIST_NEXT : Fld := ⟨0x1C0040, 8, 2, .ro, 0⟩
/-- `PWR_ISLAND.CLOCK_MHZ`. -/ def F.PWR_ISLAND_CLOCK_MHZ : Fld := ⟨0x1C0100, 48, 16, .ro, 0⟩
/-- `PWR_ISLAND.STEP_CA`. -/ def F.PWR_ISLAND_STEP_CA : Fld := ⟨0x1C0100, 32, 16, .ro, 0⟩
/-- `PWR_ISLAND.WAKES`. -/ def F.PWR_ISLAND_WAKES : Fld := ⟨0x1C0100, 16, 16, .rc, 0⟩
/-- `PWR_ISLAND.STATE`. -/ def F.PWR_ISLAND_STATE : Fld := ⟨0x1C0100, 0, 3, .ro, 0⟩
/-- `PWR_COMP.OPTICAL`. -/ def F.PWR_COMP_OPTICAL : Fld := ⟨0x1C0200, 56, 8, .ro, 0⟩
/-- `PWR_COMP.FLASH_CH`. -/ def F.PWR_COMP_FLASH_CH : Fld := ⟨0x1C0200, 32, 24, .ro, 0⟩
/-- `PWR_COMP.DDR_CH`. -/ def F.PWR_COMP_DDR_CH : Fld := ⟨0x1C0200, 16, 16, .ro, 0⟩
/-- `PWR_COMP.T1_STACK`. -/ def F.PWR_COMP_T1_STACK : Fld := ⟨0x1C0200, 0, 8, .ro, 0⟩

/-! ### TST (18_pins_and_test.md) -/

/-- `TST_STATE.TAP_INSTR`. -/ def F.TST_STATE_TAP_INSTR : Fld := ⟨0x1E0000, 8, 8, .ro, 2⟩
/-- `TST_STATE.ACCESS`. -/ def F.TST_STATE_ACCESS : Fld := ⟨0x1E0000, 0, 2, .ro, 0⟩
/-- `TST_IDCODE.VERSION`. -/ def F.TST_IDCODE_VERSION : Fld := ⟨0x1E0008, 28, 4, .ro, 1⟩
/-- `TST_IDCODE.PART`. -/ def F.TST_IDCODE_PART : Fld := ⟨0x1E0008, 12, 16, .ro, 0x640⟩
/-- `TST_IDCODE.MANUF`. -/ def F.TST_IDCODE_MANUF : Fld := ⟨0x1E0008, 1, 11, .ro, 0⟩
/-- `TST_IDCODE.ONE`. -/ def F.TST_IDCODE_ONE : Fld := ⟨0x1E0008, 0, 1, .ro, 1⟩
/-- `TST_CTRL.OP`. -/ def F.TST_CTRL_OP : Fld := ⟨0x1E0010, 0, 2, (.rwl 0), 0⟩
/-- `TST_UNIT_CMD.UNIT`. -/ def F.TST_UNIT_CMD_UNIT : Fld := ⟨0x1E0018, 16, 6, (.rwl 0), 0⟩
/-- `TST_UNIT_CMD.TESTS`. -/ def F.TST_UNIT_CMD_TESTS : Fld := ⟨0x1E0018, 8, 3, (.rwl 0), 0⟩
/-- `TST_UNIT_CMD.OP`. -/ def F.TST_UNIT_CMD_OP : Fld := ⟨0x1E0018, 0, 2, (.rwl 0), 0⟩
/-- `TST_UNIT_STATUS.UNIT`. -/ def F.TST_UNIT_STATUS_UNIT : Fld := ⟨0x1E0020, 48, 6, .ro, 0⟩
/-- `TST_UNIT_STATUS.RESULT`. -/ def F.TST_UNIT_STATUS_RESULT : Fld := ⟨0x1E0020, 32, 3, .ro, 0⟩
/-- `TST_UNIT_STATUS.STATUS`. -/ def F.TST_UNIT_STATUS_STATUS : Fld := ⟨0x1E0020, 16, 8, .ro, 0⟩
/-- `TST_UNIT_STATUS.SEQ`. -/ def F.TST_UNIT_STATUS_SEQ : Fld := ⟨0x1E0020, 8, 8, .ro, 0⟩
/-- `TST_UNIT_STATUS.STATE`. -/ def F.TST_UNIT_STATUS_STATE : Fld := ⟨0x1E0020, 0, 2, .ro, 0⟩
/-- `TST_ABUS_CTRL.MODE`. -/ def F.TST_ABUS_CTRL_MODE : Fld := ⟨0x1E0028, 16, 2, .rw, 0⟩
/-- `TST_ABUS_CTRL.NODE`. -/ def F.TST_ABUS_CTRL_NODE : Fld := ⟨0x1E0028, 0, 10, .rw, 0⟩
/-- `TST_ABUS_VALUE.VALID`. -/ def F.TST_ABUS_VALUE_VALID : Fld := ⟨0x1E0030, 16, 1, .ro, 0⟩
/-- `TST_ABUS_VALUE.VALUE`. -/ def F.TST_ABUS_VALUE_VALUE : Fld := ⟨0x1E0030, 0, 16, .ro, 0⟩
/-- `TST_PINS.LSR_DROPS`. -/ def F.TST_PINS_LSR_DROPS : Fld := ⟨0x1E0038, 32, 32, .rc, 0⟩
/-- `TST_PINS.THERMTRIP_N`. -/ def F.TST_PINS_THERMTRIP_N : Fld := ⟨0x1E0038, 12, 1, .ro, 1⟩
/-- `TST_PINS.FAULT_N`. -/ def F.TST_PINS_FAULT_N : Fld := ⟨0x1E0038, 11, 1, .ro, 1⟩
/-- `TST_PINS.UP_N`. -/ def F.TST_PINS_UP_N : Fld := ⟨0x1E0038, 10, 1, .ro, 1⟩
/-- `TST_PINS.LSR_EN`. -/ def F.TST_PINS_LSR_EN : Fld := ⟨0x1E0038, 9, 1, .ro, 0⟩
/-- `TST_PINS.RST_N`. -/ def F.TST_PINS_RST_N : Fld := ⟨0x1E0038, 8, 1, .ro, 1⟩
/-- `TST_PINS.POS`. -/ def F.TST_PINS_POS : Fld := ⟨0x1E0038, 0, 6, .ro, 0⟩
/-- `TST_LASER.POWERED`. -/ def F.TST_LASER_POWERED : Fld := ⟨0x1E0100, 16, 1, .ro, 0⟩
/-- `TST_LASER.ON`. -/ def F.TST_LASER_ON : Fld := ⟨0x1E0100, 0, 16, .ro, 0⟩

/-! ### The registers -/

def R.SIL_STATE : RegDef := ⟨0x10000, 8, 1, .member, [F.SIL_STATE_SLICE_MAP, F.SIL_STATE_PARTIALS, F.SIL_STATE_STATE]⟩
def R.SIL_CMD : RegDef := ⟨0x10008, 8, 1, .member, [F.SIL_CMD_OP]⟩
def R.SIL_STAGE_PAGE : RegDef := ⟨0x10010, 8, 1, .member, [F.SIL_STAGE_PAGE_PAGE]⟩
def R.SIL_STAGE_LEN : RegDef := ⟨0x10018, 8, 1, .member, [F.SIL_STAGE_LEN_LEN_64B]⟩
def R.SIL_LOAD_STATUS : RegDef := ⟨0x10020, 8, 1, .member, [F.SIL_LOAD_STATUS_OFFSET, F.SIL_LOAD_STATUS_SECTION,
  F.SIL_LOAD_STATUS_REASON, F.SIL_LOAD_STATUS_STATUS, F.SIL_LOAD_STATUS_SEQ]⟩
def R.SIL_FULL_SERIAL : RegDef := ⟨0x10028, 8, 1, .member, [F.SIL_FULL_SERIAL_SERIAL]⟩
def R.SIL_APPLIED_SERIAL : RegDef := ⟨0x10030, 8, 1, .member, [F.SIL_APPLIED_SERIAL_SERIAL]⟩
def R.SIL_DOMAIN_ID : RegDef := ⟨0x10038, 8, 1, .member, [F.SIL_DOMAIN_ID_DOMAIN_ID]⟩
def R.SIL_DRAIN_CTRL : RegDef := ⟨0x10040, 8, 1, .member, [F.SIL_DRAIN_CTRL_TIMEOUT_US]⟩
def R.SIL_COUNT : RegDef := ⟨0x10048, 8, 1, .member, [F.SIL_COUNT_APPLIED, F.SIL_COUNT_REFUSED,
  F.SIL_COUNT_CMD_REFUSED, F.SIL_COUNT_DRAIN_TIMEOUTS]⟩
def R.SIL_SLICE : RegDef := ⟨0x10100, 8, 16, .member, [F.SIL_SLICE_FLASH_CH, F.SIL_SLICE_QUINCE,
  F.SIL_SLICE_PARTITION, F.SIL_SLICE_STATE]⟩
def R.SIL_SLICE_RES : RegDef := ⟨0x10200, 8, 16, .member, [F.SIL_SLICE_RES_DDR_CH, F.SIL_SLICE_RES_APORT]⟩
def R.SIL_SLICE_Q : RegDef := ⟨0x10300, 8, 16, .member, [F.SIL_SLICE_Q_QUEUE_BASE, F.SIL_SLICE_Q_QUEUE_COUNT,
  F.SIL_SLICE_Q_CTX_COUNT, F.SIL_SLICE_Q_CTX_BASE]⟩
def R.SIL_APERTURE : RegDef := ⟨0x18000, 8, 4096, .member, [F.SIL_APERTURE_DATA]⟩

/-- The registers of block SIL. -/
def regsSil : List RegDef :=
  [R.SIL_STATE, R.SIL_CMD, R.SIL_STAGE_PAGE, R.SIL_STAGE_LEN, R.SIL_LOAD_STATUS, R.SIL_FULL_SERIAL,
   R.SIL_APPLIED_SERIAL, R.SIL_DOMAIN_ID, R.SIL_DRAIN_CTRL, R.SIL_COUNT, R.SIL_SLICE, R.SIL_SLICE_RES,
   R.SIL_SLICE_Q, R.SIL_APERTURE]

def R.CTL_ID : RegDef := ⟨0x0, 8, 1, .member, [F.CTL_ID_PART, F.CTL_ID_DEVNUM, F.CTL_ID_POSITION]⟩
def R.CTL_SEAT_STATE : RegDef := ⟨0x8, 8, 1, .member, [F.CTL_SEAT_STATE_B_CHANNELS, F.CTL_SEAT_STATE_B_STATE,
  F.CTL_SEAT_STATE_A_CHANNELS, F.CTL_SEAT_STATE_A_STATE, F.CTL_SEAT_STATE_SELF]⟩
def R.CTL_SEAT_CMD : RegDef := ⟨0x10, 8, 1, .member, [F.CTL_SEAT_CMD_OP]⟩
def R.CTL_SEAT_TIMEOUT : RegDef := ⟨0x18, 8, 1, .member, [F.CTL_SEAT_TIMEOUT_LIVENESS_MS]⟩
def R.CTL_SEAT_ERR : RegDef := ⟨0x20, 8, 1, .seat, [F.CTL_SEAT_ERR_OFFSET, F.CTL_SEAT_ERR_STATUS,
  F.CTL_SEAT_ERR_CHANNEL, F.CTL_SEAT_ERR_COUNT]⟩
def R.CTL_SEAT_ERR_A : RegDef := ⟨0x28, 8, 1, .member, [F.CTL_SEAT_ERR_A_OFFSET, F.CTL_SEAT_ERR_A_STATUS,
  F.CTL_SEAT_ERR_A_CHANNEL, F.CTL_SEAT_ERR_A_COUNT]⟩
def R.CTL_SEAT_ERR_B : RegDef := ⟨0x30, 8, 1, .member, [F.CTL_SEAT_ERR_B_OFFSET, F.CTL_SEAT_ERR_B_STATUS,
  F.CTL_SEAT_ERR_B_CHANNEL, F.CTL_SEAT_ERR_B_COUNT]⟩
def R.CTL_COLLIDE : RegDef := ⟨0x38, 8, 1, .member, [F.CTL_COLLIDE_OFFSET, F.CTL_COLLIDE_COUNT]⟩
def R.CTL_ID_DIGEST : RegDef := ⟨0x40, 8, 6, .member, [F.CTL_ID_DIGEST_DIGEST]⟩
def R.CTL_CLAIM_NONCE : RegDef := ⟨0x80, 8, 4, .chan, [F.CTL_CLAIM_NONCE_NONCE]⟩
def R.CTL_CLAIM_STATUS : RegDef := ⟨0xA0, 8, 1, .chan, [F.CTL_CLAIM_STATUS_STATUS, F.CTL_CLAIM_STATUS_REASON,
  F.CTL_CLAIM_STATUS_SEQ]⟩
def R.CTL_SEM_CMD : RegDef := ⟨0x100, 8, 1, .member, [F.CTL_SEM_CMD_LEASE_MS, F.CTL_SEM_CMD_SEM, F.CTL_SEM_CMD_OP]⟩
def R.CTL_SEAT_ID_A : RegDef := ⟨0x200, 8, 6, .member, [F.CTL_SEAT_ID_A_DIGEST]⟩
def R.CTL_SEAT_ID_B : RegDef := ⟨0x240, 8, 6, .member, [F.CTL_SEAT_ID_B_DIGEST]⟩
def R.CTL_SEAT_CRED_A : RegDef := ⟨0x230, 8, 1, .member, [F.CTL_SEAT_CRED_A_CRED_SERIAL]⟩
def R.CTL_SEAT_CRED_B : RegDef := ⟨0x270, 8, 1, .member, [F.CTL_SEAT_CRED_B_CRED_SERIAL]⟩
def R.CTL_CHAN : RegDef := ⟨0x300, 8, 16, .member, [F.CTL_CHAN_QPN, F.CTL_CHAN_ENTRY_DEV, F.CTL_CHAN_EPORT,
  F.CTL_CHAN_KIND, F.CTL_CHAN_SEAT]⟩
def R.CTL_SEM : RegDef := ⟨0x1000, 8, 64, .member, [F.CTL_SEM_GEN, F.CTL_SEM_LEASE_MS, F.CTL_SEM_REMAIN_US,
  F.CTL_SEM_TIE, F.CTL_SEM_OWNER]⟩
def R.CTL_CLAIM_APERTURE : RegDef := ⟨0x4000, 8, 1104, .chan, [F.CTL_CLAIM_APERTURE_DATA]⟩

/-- The registers of block CTL. -/
def regsCtl : List RegDef :=
  [R.CTL_ID, R.CTL_SEAT_STATE, R.CTL_SEAT_CMD, R.CTL_SEAT_TIMEOUT, R.CTL_SEAT_ERR, R.CTL_SEAT_ERR_A,
   R.CTL_SEAT_ERR_B, R.CTL_COLLIDE, R.CTL_ID_DIGEST, R.CTL_CLAIM_NONCE, R.CTL_CLAIM_STATUS, R.CTL_SEM_CMD,
   R.CTL_SEAT_ID_A, R.CTL_SEAT_ID_B, R.CTL_SEAT_CRED_A, R.CTL_SEAT_CRED_B, R.CTL_CHAN, R.CTL_SEM,
   R.CTL_CLAIM_APERTURE]

def R.WQ_Q_SEL : RegDef := ⟨0x20000, 8, 1, .seat, [F.WQ_Q_SEL_QUEUE]⟩
def R.WQ_Q_CFG : RegDef := ⟨0x20008, 8, 1, .sel F.WQ_Q_SEL_QUEUE, [F.WQ_Q_CFG_CTX, F.WQ_Q_CFG_CQ_KIND,
  F.WQ_Q_CFG_LOG2_SLOTS]⟩
def R.WQ_Q_RING : RegDef := ⟨0x20010, 8, 1, .sel F.WQ_Q_SEL_QUEUE, [F.WQ_Q_RING_RING_VA]⟩
def R.WQ_Q_CQ : RegDef := ⟨0x20018, 8, 1, .sel F.WQ_Q_SEL_QUEUE, [F.WQ_Q_CQ_CQ_ADDR]⟩
def R.WQ_Q_CQ_KEY : RegDef := ⟨0x20020, 8, 1, .sel F.WQ_Q_SEL_QUEUE, [F.WQ_Q_CQ_KEY_RKEY]⟩
def R.WQ_Q_CMD : RegDef := ⟨0x20028, 8, 1, .sel F.WQ_Q_SEL_QUEUE, [F.WQ_Q_CMD_OP]⟩
def R.WQ_Q_STATUS : RegDef := ⟨0x20030, 8, 1, .sel F.WQ_Q_SEL_QUEUE, [F.WQ_Q_STATUS_TAIL, F.WQ_Q_STATUS_ERR_STATUS,
  F.WQ_Q_STATUS_ERR_REASON, F.WQ_Q_STATUS_STATE]⟩
def R.WQ_Q_PROGRESS : RegDef := ⟨0x20038, 8, 1, .sel F.WQ_Q_SEL_QUEUE, [F.WQ_Q_PROGRESS_HEAD, F.WQ_Q_PROGRESS_FINAL]⟩
def R.WQ_Q_REFUSE : RegDef := ⟨0x20040, 8, 1, .sel F.WQ_Q_SEL_QUEUE, [F.WQ_Q_REFUSE_BOUNDS, F.WQ_Q_REFUSE_STATE,
  F.WQ_Q_REFUSE_BAD_DESC, F.WQ_Q_REFUSE_QUOTA]⟩
def R.WQ_Q_XREFUSE : RegDef := ⟨0x20048, 8, 1, .sel F.WQ_Q_SEL_QUEUE, [F.WQ_Q_XREFUSE_NO_XLATE,
  F.WQ_Q_XREFUSE_REVOKED, F.WQ_Q_XREFUSE_KEY, F.WQ_Q_XREFUSE_ACCESS]⟩
def R.WQ_REFUSE_TOTAL : RegDef := ⟨0x20100, 8, 1, .member, [F.WQ_REFUSE_TOTAL_SUBMIT, F.WQ_REFUSE_TOTAL_XLATE]⟩
def R.WQ_ERR : RegDef := ⟨0x20108, 8, 1, .member, [F.WQ_ERR_QUEUE, F.WQ_ERR_STATUS, F.WQ_ERR_REASON, F.WQ_ERR_COUNT]⟩
def R.WQ_ENABLED : RegDef := ⟨0x20110, 8, 1, .member, [F.WQ_ENABLED_COUNT]⟩

/-- The registers of block WQ. -/
def regsWq : List RegDef :=
  [R.WQ_Q_SEL, R.WQ_Q_CFG, R.WQ_Q_RING, R.WQ_Q_CQ, R.WQ_Q_CQ_KEY, R.WQ_Q_CMD, R.WQ_Q_STATUS, R.WQ_Q_PROGRESS,
   R.WQ_Q_REFUSE, R.WQ_Q_XREFUSE, R.WQ_REFUSE_TOTAL, R.WQ_ERR, R.WQ_ENABLED]

def R.JNL_STATE : RegDef := ⟨0x30000, 8, 1, .member, [F.JNL_STATE_MIRROR_DEV, F.JNL_STATE_MIRROR_VALID,
  F.JNL_STATE_RECOVERING, F.JNL_STATE_RING_FULL, F.JNL_STATE_NO_MIRROR]⟩
def R.JNL_CUSTODY : RegDef := ⟨0x30008, 8, 1, .member, [F.JNL_CUSTODY_DEVICES]⟩
def R.JNL_HEAD : RegDef := ⟨0x30010, 8, 1, .member, [F.JNL_HEAD_JSEQ]⟩
def R.JNL_TAIL : RegDef := ⟨0x30018, 8, 1, .member, [F.JNL_TAIL_JSEQ]⟩
def R.JNL_ACKED : RegDef := ⟨0x30020, 8, 1, .member, [F.JNL_ACKED_JSEQ]⟩
def R.JNL_CTRL : RegDef := ⟨0x30028, 8, 1, .member, [F.JNL_CTRL_HANDOFF_US]⟩
def R.JNL_COUNT : RegDef := ⟨0x30030, 8, 1, .member, [F.JNL_COUNT_ACCEPTED, F.JNL_COUNT_REPLAYS, F.JNL_COUNT_ORPHANS]⟩
def R.JNL_LOSS : RegDef := ⟨0x30038, 8, 1, .member, [F.JNL_LOSS_DOUBLE_LOSS, F.JNL_LOSS_HOLDS, F.JNL_LOSS_CARRIED]⟩
def R.JNL_LAT : RegDef := ⟨0x30040, 8, 1, .member, [F.JNL_LAT_MAX_NS, F.JNL_LAT_LAST_NS]⟩

/-- The registers of block JNL. -/
def regsJnl : List RegDef :=
  [R.JNL_STATE, R.JNL_CUSTODY, R.JNL_HEAD, R.JNL_TAIL, R.JNL_ACKED, R.JNL_CTRL, R.JNL_COUNT, R.JNL_LOSS,
   R.JNL_LAT]

def R.XLT_CTX_SEL : RegDef := ⟨0x40000, 8, 1, .seat, [F.XLT_CTX_SEL_CTX]⟩
def R.XLT_CTX_CFG : RegDef := ⟨0x40008, 8, 1, .sel F.XLT_CTX_SEL_CTX, [F.XLT_CTX_CFG_PARTITION,
  F.XLT_CTX_CFG_LOG2_CAP, F.XLT_CTX_CFG_MODE, F.XLT_CTX_CFG_ENABLE]⟩
def R.XLT_CTX_TABLE : RegDef := ⟨0x40010, 8, 1, .sel F.XLT_CTX_SEL_CTX, [F.XLT_CTX_TABLE_AREA]⟩
def R.XLT_CTX_HOST_BASE : RegDef := ⟨0x40018, 8, 1, .sel F.XLT_CTX_SEL_CTX, [F.XLT_CTX_HOST_BASE_HOST_BASE]⟩
def R.XLT_CTX_LIMIT : RegDef := ⟨0x40020, 8, 1, .sel F.XLT_CTX_SEL_CTX, [F.XLT_CTX_LIMIT_PAGES]⟩
def R.XLT_CTX_DEV_BASE : RegDef := ⟨0x40028, 8, 1, .sel F.XLT_CTX_SEL_CTX, [F.XLT_CTX_DEV_BASE_DEV_BASE]⟩
def R.XLT_CTX_STATUS : RegDef := ⟨0x40030, 8, 1, .sel F.XLT_CTX_SEL_CTX, [F.XLT_CTX_STATUS_GEN,
  F.XLT_CTX_STATUS_COUNT]⟩
def R.XLT_CTX_SUM : RegDef := ⟨0x40038, 8, 1, .sel F.XLT_CTX_SEL_CTX, [F.XLT_CTX_SUM_SUM]⟩
def R.XLT_CTX_FAULT : RegDef := ⟨0x40040, 8, 1, .sel F.XLT_CTX_SEL_CTX, [F.XLT_CTX_FAULT_ADDR,
  F.XLT_CTX_FAULT_STATUS]⟩
def R.XLT_CTX_FCOUNT : RegDef := ⟨0x40048, 8, 1, .sel F.XLT_CTX_SEL_CTX, [F.XLT_CTX_FCOUNT_NO_XLATE,
  F.XLT_CTX_FCOUNT_REVOKED, F.XLT_CTX_FCOUNT_ACCESS, F.XLT_CTX_FCOUNT_BOUNDS]⟩
def R.XLT_MAP_VA : RegDef := ⟨0x40100, 8, 1, .seat, [F.XLT_MAP_VA_VA]⟩
def R.XLT_MAP_LEN : RegDef := ⟨0x40108, 8, 1, .seat, [F.XLT_MAP_LEN_PAGES]⟩
def R.XLT_MAP_DGA : RegDef := ⟨0x40110, 8, 1, .seat, [F.XLT_MAP_DGA_DGA]⟩
def R.XLT_MAP_ATTR : RegDef := ⟨0x40118, 8, 1, .seat, [F.XLT_MAP_ATTR_CLASS, F.XLT_MAP_ATTR_ALIAS,
  F.XLT_MAP_ATTR_RIGHTS]⟩
def R.XLT_MAP_CMD : RegDef := ⟨0x40120, 8, 1, .seat, [F.XLT_MAP_CMD_OP]⟩
def R.XLT_SHOOT_VA : RegDef := ⟨0x40128, 8, 1, .seat, [F.XLT_SHOOT_VA_VA]⟩
def R.XLT_SHOOT_LEN : RegDef := ⟨0x40130, 8, 1, .seat, [F.XLT_SHOOT_LEN_PAGES]⟩
def R.XLT_SHOOT_CTRL : RegDef := ⟨0x40138, 8, 1, .seat, [F.XLT_SHOOT_CTRL_MEMBER, F.XLT_SHOOT_CTRL_OP]⟩
def R.XLT_MAP_STATUS : RegDef := ⟨0x40140, 8, 1, .seat, [F.XLT_MAP_STATUS_DETAIL, F.XLT_MAP_STATUS_STATUS,
  F.XLT_MAP_STATUS_SEQ, F.XLT_MAP_STATUS_STATE]⟩
def R.XLT_SHOOT_STATUS : RegDef := ⟨0x40148, 8, 1, .seat, [F.XLT_SHOOT_STATUS_DETAIL, F.XLT_SHOOT_STATUS_STATUS,
  F.XLT_SHOOT_STATUS_SEQ, F.XLT_SHOOT_STATUS_STATE]⟩
def R.XLT_SHOOT_TIMEOUT : RegDef := ⟨0x40150, 8, 1, .member, [F.XLT_SHOOT_TIMEOUT_US]⟩
def R.XLT_ETC_COUNT : RegDef := ⟨0x40200, 8, 1, .member, [F.XLT_ETC_COUNT_MISSES, F.XLT_ETC_COUNT_INVALIDATED]⟩
def R.XLT_CLAIM_USE : RegDef := ⟨0x40208, 8, 1, .member, [F.XLT_CLAIM_USE_ALIASES, F.XLT_CLAIM_USE_CLAIMS]⟩

/-- The registers of block XLT. -/
def regsXlt : List RegDef :=
  [R.XLT_CTX_SEL, R.XLT_CTX_CFG, R.XLT_CTX_TABLE, R.XLT_CTX_HOST_BASE, R.XLT_CTX_LIMIT, R.XLT_CTX_DEV_BASE,
   R.XLT_CTX_STATUS, R.XLT_CTX_SUM, R.XLT_CTX_FAULT, R.XLT_CTX_FCOUNT, R.XLT_MAP_VA, R.XLT_MAP_LEN,
   R.XLT_MAP_DGA, R.XLT_MAP_ATTR, R.XLT_MAP_CMD, R.XLT_SHOOT_VA, R.XLT_SHOOT_LEN, R.XLT_SHOOT_CTRL,
   R.XLT_MAP_STATUS, R.XLT_SHOOT_STATUS, R.XLT_SHOOT_TIMEOUT, R.XLT_ETC_COUNT, R.XLT_CLAIM_USE]

def R.TIER_T1_CFG : RegDef := ⟨0x60000, 8, 1, .member, [F.TIER_T1_CFG_STACK_FAILED, F.TIER_T1_CFG_STACK_PRESENT]⟩
def R.TIER_T2_CFG : RegDef := ⟨0x60008, 8, 1, .member, [F.TIER_T2_CFG_CH_FAILED, F.TIER_T2_CFG_CH_POPULATED,
  F.TIER_T2_CFG_CH_GIB, F.TIER_T2_CFG_GRANULES]⟩
def R.TIER_T3_CFG : RegDef := ⟨0x60010, 8, 1, .member, [F.TIER_T3_CFG_CH_FAILED, F.TIER_T3_CFG_CH_POPULATED,
  F.TIER_T3_CFG_DIES]⟩
def R.TIER_T3_GRANULES : RegDef := ⟨0x60018, 8, 1, .member, [F.TIER_T3_GRANULES_GRANULES]⟩
def R.TIER_P2_LAYOUT : RegDef := ⟨0x60020, 8, 1, .member, [F.TIER_P2_LAYOUT_T3_DATA, F.TIER_P2_LAYOUT_T2_DATA,
  F.TIER_P2_LAYOUT_P2_ENABLED]⟩
def R.TIER_PART_SEL : RegDef := ⟨0x60100, 8, 1, .seat, [F.TIER_PART_SEL_PARTITION]⟩
def R.TIER_PART_LIMIT_T1 : RegDef := ⟨0x60108, 8, 1, .sel F.TIER_PART_SEL_PARTITION, [F.TIER_PART_LIMIT_T1_LIMIT]⟩
def R.TIER_PART_LIMIT_T2 : RegDef := ⟨0x60110, 8, 1, .sel F.TIER_PART_SEL_PARTITION, [F.TIER_PART_LIMIT_T2_LIMIT]⟩
def R.TIER_PART_LIMIT_T3 : RegDef := ⟨0x60118, 8, 1, .sel F.TIER_PART_SEL_PARTITION, [F.TIER_PART_LIMIT_T3_LIMIT]⟩
def R.TIER_PART_USED_T1 : RegDef := ⟨0x60120, 8, 1, .sel F.TIER_PART_SEL_PARTITION, [F.TIER_PART_USED_T1_USED]⟩
def R.TIER_PART_USED_T2 : RegDef := ⟨0x60128, 8, 1, .sel F.TIER_PART_SEL_PARTITION, [F.TIER_PART_USED_T2_USED]⟩
def R.TIER_PART_USED_T3 : RegDef := ⟨0x60130, 8, 1, .sel F.TIER_PART_SEL_PARTITION, [F.TIER_PART_USED_T3_USED]⟩
def R.TIER_BWC : RegDef := ⟨0x60200, 8, 8, .member, [F.TIER_BWC_MIB, F.TIER_BWC_WEIGHT]⟩
def R.TIER_REBUILD_CTRL : RegDef := ⟨0x60300, 8, 1, .member, [F.TIER_REBUILD_CTRL_T3_MBPS,
  F.TIER_REBUILD_CTRL_T2_MBPS, F.TIER_REBUILD_CTRL_T1_MBPS, F.TIER_REBUILD_CTRL_CLASS]⟩
def R.TIER_REBUILD_STATUS : RegDef := ⟨0x60308, 8, 1, .member, [F.TIER_REBUILD_STATUS_FOR_DEV,
  F.TIER_REBUILD_STATUS_T3_FRONTIER, F.TIER_REBUILD_STATUS_T2_FRONTIER, F.TIER_REBUILD_STATUS_T1_FRONTIER,
  F.TIER_REBUILD_STATUS_STATUS, F.TIER_REBUILD_STATUS_STATE]⟩
def R.TIER_REDUND : RegDef := ⟨0x60310, 8, 1, .member, [F.TIER_REDUND_DEGRADED, F.TIER_REDUND_LOST]⟩
def R.TIER_ARM : RegDef := ⟨0x60318, 8, 1, .member, [F.TIER_ARM_ARMING, F.TIER_ARM_SCRUBBING]⟩
def R.TIER_PUBLISH : RegDef := ⟨0x60320, 8, 1, .member, [F.TIER_PUBLISH_PUBLISHED, F.TIER_PUBLISH_HELD,
  F.TIER_PUBLISH_SLOTS_BUSY]⟩

/-- The registers of block TIER. -/
def regsTier : List RegDef :=
  [R.TIER_T1_CFG, R.TIER_T2_CFG, R.TIER_T3_CFG, R.TIER_T3_GRANULES, R.TIER_P2_LAYOUT, R.TIER_PART_SEL,
   R.TIER_PART_LIMIT_T1, R.TIER_PART_LIMIT_T2, R.TIER_PART_LIMIT_T3, R.TIER_PART_USED_T1,
   R.TIER_PART_USED_T2, R.TIER_PART_USED_T3, R.TIER_BWC, R.TIER_REBUILD_CTRL, R.TIER_REBUILD_STATUS,
   R.TIER_REDUND, R.TIER_ARM, R.TIER_PUBLISH]

def R.QNC_STATE : RegDef := ⟨0x80000, 16384, 16, .member, [F.QNC_STATE_QUEUE, F.QNC_STATE_SLICE,
  F.QNC_STATE_PARTITION, F.QNC_STATE_STATE]⟩
def R.QNC_KERNEL : RegDef := ⟨0x80008, 16384, 16, .member, [F.QNC_KERNEL_KERNEL_ID]⟩
def R.QNC_SCALAR : RegDef := ⟨0x80010, 16384, 16, .member, [F.QNC_SCALAR_TICKET, F.QNC_SCALAR_PC]⟩
def R.QNC_FAULT : RegDef := ⟨0x80018, 16384, 16, .member, [F.QNC_FAULT_DETAIL, F.QNC_FAULT_CAUSE,
  F.QNC_FAULT_STATUS, F.QNC_FAULT_COUNT]⟩
def R.QNC_CSUM : RegDef := ⟨0x80020, 16384, 16, .member, [F.QNC_CSUM_TRANSIENT, F.QNC_CSUM_PERSISTENT]⟩
def R.QNC_CSUM_TOL : RegDef := ⟨0x80028, 16384, 16, .member, [F.QNC_CSUM_TOL_TOL]⟩
def R.QNC_BUSY : RegDef := ⟨0x80030, 16384, 16, .member, [F.QNC_BUSY_MATRIX_US, F.QNC_BUSY_VECTOR_US]⟩
def R.QNC_DMA_BYTES : RegDef := ⟨0x80038, 16384, 16, .member, [F.QNC_DMA_BYTES_READ_MIB, F.QNC_DMA_BYTES_WRITE_MIB]⟩
def R.QNC_IDLE_GATE : RegDef := ⟨0x80040, 16384, 16, .member, [F.QNC_IDLE_GATE_US]⟩
def R.QNC_WORK : RegDef := ⟨0x80048, 16384, 16, .member, [F.QNC_WORK_UNITS, F.QNC_WORK_LAUNCHES]⟩
def R.QNC_KCACHE : RegDef := ⟨0x83000, 8, 1, .member, [F.QNC_KCACHE_HITS, F.QNC_KCACHE_MISSES, F.QNC_KCACHE_ENTRIES]⟩
def R.QNC_KCACHE_CMD : RegDef := ⟨0x83008, 8, 1, .member, [F.QNC_KCACHE_CMD_FLUSH]⟩
def R.QNC_ATTEND : RegDef := ⟨0x83010, 8, 1, .member, [F.QNC_ATTEND_KV_MIB, F.QNC_ATTEND_UNITS]⟩

/-- The registers of block QNC. -/
def regsQnc : List RegDef :=
  [R.QNC_STATE, R.QNC_KERNEL, R.QNC_SCALAR, R.QNC_FAULT, R.QNC_CSUM, R.QNC_CSUM_TOL, R.QNC_BUSY,
   R.QNC_DMA_BYTES, R.QNC_IDLE_GATE, R.QNC_WORK, R.QNC_KCACHE, R.QNC_KCACHE_CMD, R.QNC_ATTEND]

def R.FAB_MEMBER : RegDef := ⟨0xC0000, 8, 64, .member, [F.FAB_MEMBER_RELAY, F.FAB_MEMBER_RELAYED,
  F.FAB_MEMBER_EPOCH, F.FAB_MEMBER_PPORT, F.FAB_MEMBER_LANES_UP, F.FAB_MEMBER_POSITION, F.FAB_MEMBER_STATE]⟩
def R.FAB_PORT_SEL : RegDef := ⟨0xC0200, 8, 1, .seat, [F.FAB_PORT_SEL_PORT]⟩
def R.FAB_PORT_STATUS : RegDef := ⟨0xC0208, 8, 1, .sel F.FAB_PORT_SEL_PORT, [F.FAB_PORT_STATUS_PEER,
  F.FAB_PORT_STATUS_LANES_UP, F.FAB_PORT_STATUS_WIDTH, F.FAB_PORT_STATUS_CLASS, F.FAB_PORT_STATUS_STATE]⟩
def R.FAB_PORT_ERR : RegDef := ⟨0xC0210, 8, 1, .sel F.FAB_PORT_SEL_PORT, [F.FAB_PORT_ERR_CORRECTED,
  F.FAB_PORT_ERR_UNCORRECTED, F.FAB_PORT_ERR_RETRIES, F.FAB_PORT_ERR_GCM_FAIL, F.FAB_PORT_ERR_STOMPED]⟩
def R.FAB_PORT_CMD : RegDef := ⟨0xC0218, 8, 1, .sel F.FAB_PORT_SEL_PORT, [F.FAB_PORT_CMD_LANE, F.FAB_PORT_CMD_OP]⟩
def R.FAB_TMO : RegDef := ⟨0xC0300, 8, 1, .member, [F.FAB_TMO_FABRIC_US, F.FAB_TMO_RETRY_US]⟩
def R.FAB_E2E : RegDef := ⟨0xC0308, 8, 1, .member, [F.FAB_E2E_WINDOW]⟩
def R.FAB_COMBINE : RegDef := ⟨0xC0310, 8, 1, .member, [F.FAB_COMBINE_READS, F.FAB_COMBINE_ATOMICS,
  F.FAB_COMBINE_DISABLE]⟩
def R.FAB_DEDUP : RegDef := ⟨0xC0318, 8, 1, .member, [F.FAB_DEDUP_HITS, F.FAB_DEDUP_OVERFLOW, F.FAB_DEDUP_IN_USE]⟩
def R.FAB_KEY_ERR : RegDef := ⟨0xC0320, 8, 1, .member, [F.FAB_KEY_ERR_KEY, F.FAB_KEY_ERR_PORT, F.FAB_KEY_ERR_COUNT]⟩
def R.FAB_FENCE : RegDef := ⟨0xC0328, 8, 1, .member, [F.FAB_FENCE_COMPLETED, F.FAB_FENCE_MARKERS,
  F.FAB_FENCE_DEAD_PATHS]⟩
def R.FAB_DROP : RegDef := ⟨0xC0330, 8, 1, .member, [F.FAB_DROP_MALFORMED, F.FAB_DROP_CRC, F.FAB_DROP_UNKNOWN_RSP,
  F.FAB_DROP_TIMEOUTS]⟩

/-- The registers of block FAB. -/
def regsFab : List RegDef :=
  [R.FAB_MEMBER, R.FAB_PORT_SEL, R.FAB_PORT_STATUS, R.FAB_PORT_ERR, R.FAB_PORT_CMD, R.FAB_TMO, R.FAB_E2E,
   R.FAB_COMBINE, R.FAB_DEDUP, R.FAB_KEY_ERR, R.FAB_FENCE, R.FAB_DROP]

def R.HOME_TMO : RegDef := ⟨0x100000, 8, 1, .member, [F.HOME_TMO_SNOOP_US]⟩
def R.HOME_FILTER : RegDef := ⟨0x100008, 8, 1, .member, [F.HOME_FILTER_ENTRIES, F.HOME_FILTER_BUSY]⟩
def R.HOME_COUNT : RegDef := ⟨0x100010, 8, 1, .member, [F.HOME_COUNT_SNOOPS, F.HOME_COUNT_OVERFLOW,
  F.HOME_COUNT_FORWARDS]⟩
def R.HOME_TIMEOUT_ERR : RegDef := ⟨0x100018, 8, 1, .member, [F.HOME_TIMEOUT_ERR_AGENT, F.HOME_TIMEOUT_ERR_COUNT]⟩
def R.HOME_POISON : RegDef := ⟨0x100020, 8, 1, .member, [F.HOME_POISON_LINE, F.HOME_POISON_LINES]⟩
def R.HOME_APORT : RegDef := ⟨0x100100, 8, 32, .member, [F.HOME_APORT_OUTSTANDING, F.HOME_APORT_STATE]⟩
def R.HOME_APORT_CMD : RegDef := ⟨0x100200, 8, 1, .member, [F.HOME_APORT_CMD_APORT, F.HOME_APORT_CMD_OP]⟩
def R.HOME_APORT_STATUS : RegDef := ⟨0x100208, 8, 1, .member, [F.HOME_APORT_STATUS_STATUS, F.HOME_APORT_STATUS_SEQ,
  F.HOME_APORT_STATUS_APORT]⟩

/-- The registers of block HOME. -/
def regsHome : List RegDef :=
  [R.HOME_TMO, R.HOME_FILTER, R.HOME_COUNT, R.HOME_TIMEOUT_ERR, R.HOME_POISON, R.HOME_APORT,
   R.HOME_APORT_CMD, R.HOME_APORT_STATUS]

def R.SWS_INFO : RegDef := ⟨0xE0000, 8, 1, .member, [F.SWS_INFO_CAPACITY_GBPS, F.SWS_INFO_PORTS]⟩
def R.SWS_GATE_CFG : RegDef := ⟨0xE0008, 8, 1, .member, [F.SWS_GATE_CFG_CYCLE_NS, F.SWS_GATE_CFG_ENTRIES,
  F.SWS_GATE_CFG_HOLDOVER_MS]⟩
def R.SWS_GATE_STATUS : RegDef := ⟨0xE0010, 8, 1, .member, [F.SWS_GATE_STATUS_STEPS, F.SWS_GATE_STATUS_SUSPENSIONS,
  F.SWS_GATE_STATUS_ENTRY, F.SWS_GATE_STATUS_STATE]⟩
def R.SWS_ETH_GUARD : RegDef := ⟨0xE0018, 8, 1, .member, [F.SWS_ETH_GUARD_E3_NS, F.SWS_ETH_GUARD_E2_NS,
  F.SWS_ETH_GUARD_E1_NS, F.SWS_ETH_GUARD_E0_NS]⟩
def R.SWS_SCHED : RegDef := ⟨0xE0020, 8, 1, .member, [F.SWS_SCHED_LATE, F.SWS_SCHED_GUARD_HOLDS, F.SWS_SCHED_OVERRUN]⟩
def R.SWS_DROP : RegDef := ⟨0xE0028, 8, 1, .member, [F.SWS_DROP_POLICED]⟩
def R.SWS_PORT_SEL : RegDef := ⟨0xE0100, 8, 1, .seat, [F.SWS_PORT_SEL_PORT]⟩
def R.SWS_PORT_INFO : RegDef := ⟨0xE0108, 8, 1, .sel F.SWS_PORT_SEL_PORT, [F.SWS_PORT_INFO_RATE_GBPS,
  F.SWS_PORT_INFO_GUARD_100PS, F.SWS_PORT_INFO_KIND]⟩
def R.SWS_DRR_QUANTUM : RegDef := ⟨0xE0110, 8, 1, .sel F.SWS_PORT_SEL_PORT, [F.SWS_DRR_QUANTUM_BULK,
  F.SWS_DRR_QUANTUM_SCHED, F.SWS_DRR_QUANTUM_REQ]⟩
def R.SWS_VOQ : RegDef := ⟨0xE0118, 8, 1, .sel F.SWS_PORT_SEL_PORT, [F.SWS_VOQ_BYTES, F.SWS_VOQ_PEAK_BYTES]⟩
def R.SWS_PORT_WAIT : RegDef := ⟨0xE0120, 8, 1, .sel F.SWS_PORT_SEL_PORT, [F.SWS_PORT_WAIT_MAX_NS,
  F.SWS_PORT_WAIT_CREDIT_STALL_US]⟩
def R.SWS_SHAPER_SEL : RegDef := ⟨0xE0200, 8, 1, .seat, [F.SWS_SHAPER_SEL_SHAPER]⟩
def R.SWS_SHAPER_RATE : RegDef := ⟨0xE0208, 8, 1, .seat, [F.SWS_SHAPER_RATE_PIR, F.SWS_SHAPER_RATE_CIR]⟩
def R.SWS_SHAPER_BURST : RegDef := ⟨0xE0210, 8, 1, .seat, [F.SWS_SHAPER_BURST_MODE, F.SWS_SHAPER_BURST_PBS,
  F.SWS_SHAPER_BURST_CBS]⟩
def R.SWS_SHAPER_CMD : RegDef := ⟨0xE0218, 8, 1, .member, [F.SWS_SHAPER_CMD_OP]⟩
def R.SWS_SHAPER_STATUS : RegDef := ⟨0xE0220, 8, 1, .seat, [F.SWS_SHAPER_STATUS_STATUS, F.SWS_SHAPER_STATUS_SEQ,
  F.SWS_SHAPER_STATUS_RESET]⟩
def R.SWS_SHAPER_STATE : RegDef := ⟨0xE0228, 8, 1, .sel F.SWS_SHAPER_SEL_SHAPER, [F.SWS_SHAPER_STATE_MODE,
  F.SWS_SHAPER_STATE_P_TOKENS, F.SWS_SHAPER_STATE_C_TOKENS]⟩
def R.SWS_SHAPER_COUNT : RegDef := ⟨0xE0230, 8, 1, .sel F.SWS_SHAPER_SEL_SHAPER, [F.SWS_SHAPER_COUNT_DROPPED,
  F.SWS_SHAPER_COUNT_EXCESS]⟩
def R.SWS_GATE : RegDef := ⟨0xE1000, 8, 1024, .member, [F.SWS_GATE_DURATION_NS, F.SWS_GATE_EXCLUSIVE,
  F.SWS_GATE_ETH_BULK, F.SWS_GATE_FABRIC_GATES]⟩

/-- The registers of block SWS. -/
def regsSws : List RegDef :=
  [R.SWS_INFO, R.SWS_GATE_CFG, R.SWS_GATE_STATUS, R.SWS_ETH_GUARD, R.SWS_SCHED, R.SWS_DROP, R.SWS_PORT_SEL,
   R.SWS_PORT_INFO, R.SWS_DRR_QUANTUM, R.SWS_VOQ, R.SWS_PORT_WAIT, R.SWS_SHAPER_SEL, R.SWS_SHAPER_RATE,
   R.SWS_SHAPER_BURST, R.SWS_SHAPER_CMD, R.SWS_SHAPER_STATUS, R.SWS_SHAPER_STATE, R.SWS_SHAPER_COUNT,
   R.SWS_GATE]

def R.COLL_TMO : RegDef := ⟨0x120000, 8, 1, .member, [F.COLL_TMO_MS]⟩
def R.COLL_STATE : RegDef := ⟨0x120008, 8, 1, .member, [F.COLL_STATE_SLOTS_FREE, F.COLL_STATE_OPEN]⟩
def R.COLL_COUNT : RegDef := ⟨0x120010, 8, 1, .member, [F.COLL_COUNT_COMPLETED, F.COLL_COUNT_MISMATCH,
  F.COLL_COUNT_UNCHECKED]⟩
def R.COLL_ABORT : RegDef := ⟨0x120018, 8, 1, .member, [F.COLL_ABORT_COLL_ID, F.COLL_ABORT_STATUS,
  F.COLL_ABORT_COUNT]⟩
def R.COLL_MISMATCH : RegDef := ⟨0x120020, 8, 1, .member, [F.COLL_MISMATCH_COLL_ID, F.COLL_MISMATCH_SHARD]⟩
def R.COLL_BYTES : RegDef := ⟨0x120028, 8, 1, .member, [F.COLL_BYTES_IN_MIB, F.COLL_BYTES_OUT_MIB]⟩
def R.COLL_INST : RegDef := ⟨0x120100, 8, 256, .member, [F.COLL_INST_COLL_ID, F.COLL_INST_DONE_CHUNKS,
  F.COLL_INST_RANK, F.COLL_INST_STATE]⟩

/-- The registers of block COLL. -/
def regsColl : List RegDef :=
  [R.COLL_TMO, R.COLL_STATE, R.COLL_COUNT, R.COLL_ABORT, R.COLL_MISMATCH, R.COLL_BYTES, R.COLL_INST]

def R.EMB_TBL_SEL : RegDef := ⟨0x130000, 8, 1, .seat, [F.EMB_TBL_SEL_TABLE]⟩
def R.EMB_TBL_CFG : RegDef := ⟨0x130008, 8, 1, .sel F.EMB_TBL_SEL_TABLE, [F.EMB_TBL_CFG_PARTITION,
  F.EMB_TBL_CFG_DIM, F.EMB_TBL_CFG_CODE, F.EMB_TBL_CFG_STATE]⟩
def R.EMB_TBL_ROWS : RegDef := ⟨0x130010, 8, 1, .sel F.EMB_TBL_SEL_TABLE, [F.EMB_TBL_ROWS_VALUE]⟩
def R.EMB_TBL_RPS : RegDef := ⟨0x130018, 8, 1, .sel F.EMB_TBL_SEL_TABLE, [F.EMB_TBL_RPS_VALUE]⟩
def R.EMB_TBL_DEFAULT : RegDef := ⟨0x130020, 8, 1, .sel F.EMB_TBL_SEL_TABLE, [F.EMB_TBL_DEFAULT_VALUE]⟩
def R.EMB_TBL_OWNERS : RegDef := ⟨0x130028, 8, 1, .sel F.EMB_TBL_SEL_TABLE, [F.EMB_TBL_OWNERS_MEMBERS]⟩
def R.EMB_TBL_USERS : RegDef := ⟨0x130030, 8, 1, .sel F.EMB_TBL_SEL_TABLE, [F.EMB_TBL_USERS_MEMBERS]⟩
def R.EMB_VER_STAGE : RegDef := ⟨0x130040, 8, 1, .seat, [F.EMB_VER_STAGE_VERSION, F.EMB_VER_STAGE_CTX]⟩
def R.EMB_VER_VA : RegDef := ⟨0x130048, 8, 1, .seat, [F.EMB_VER_VA_VA]⟩
def R.EMB_CMD : RegDef := ⟨0x130050, 8, 1, .member, [F.EMB_CMD_OP]⟩
def R.EMB_STATUS : RegDef := ⟨0x130058, 8, 1, .seat, [F.EMB_STATUS_SLOT, F.EMB_STATUS_STATUS, F.EMB_STATUS_SEQ]⟩
def R.EMB_VER : RegDef := ⟨0x130080, 8, 4, .sel F.EMB_TBL_SEL_TABLE, [F.EMB_VER_VERSION, F.EMB_VER_PINS,
  F.EMB_VER_STATE]⟩
def R.EMB_VER_DRAINED : RegDef := ⟨0x1300A0, 8, 4, .sel F.EMB_TBL_SEL_TABLE, [F.EMB_VER_DRAINED_MEMBERS]⟩
def R.EMB_COUNT : RegDef := ⟨0x130100, 8, 1, .member, [F.EMB_COUNT_BATCHES, F.EMB_COUNT_DROPPED,
  F.EMB_COUNT_DEFAULTED]⟩
def R.EMB_FETCH : RegDef := ⟨0x130108, 8, 1, .member, [F.EMB_FETCH_ROWS, F.EMB_FETCH_COALESCED]⟩

/-- The registers of block EMB. -/
def regsEmb : List RegDef :=
  [R.EMB_TBL_SEL, R.EMB_TBL_CFG, R.EMB_TBL_ROWS, R.EMB_TBL_RPS, R.EMB_TBL_DEFAULT, R.EMB_TBL_OWNERS,
   R.EMB_TBL_USERS, R.EMB_VER_STAGE, R.EMB_VER_VA, R.EMB_CMD, R.EMB_STATUS, R.EMB_VER, R.EMB_VER_DRAINED,
   R.EMB_COUNT, R.EMB_FETCH]

def R.VS_STATE : RegDef := ⟨0x140000, 2048, 24, .member, [F.VS_STATE_SLICE, F.VS_STATE_PARTITION,
  F.VS_STATE_SEGMENTS, F.VS_STATE_STATE]⟩
def R.VS_COUNT : RegDef := ⟨0x140008, 2048, 24, .member, [F.VS_COUNT_SCORED_K, F.VS_COUNT_SKIPPED_K]⟩
def R.VS_BYTES : RegDef := ⟨0x140010, 2048, 24, .member, [F.VS_BYTES_READ_MIB, F.VS_BYTES_RECON_MIB]⟩
def R.VS_ERR : RegDef := ⟨0x140018, 2048, 24, .member, [F.VS_ERR_ADDR, F.VS_ERR_STATUS]⟩
def R.VS_CTRL : RegDef := ⟨0x14C000, 8, 1, .member, [F.VS_CTRL_SCAN_TMO_MS]⟩
def R.VS_SEARCH : RegDef := ⟨0x14C008, 8, 1, .member, [F.VS_SEARCH_QUERIES, F.VS_SEARCH_SHORT, F.VS_SEARCH_FAILED]⟩
def R.VS_MERGE : RegDef := ⟨0x14C010, 8, 1, .member, [F.VS_MERGE_CANDIDATES_K, F.VS_MERGE_SLOTS_BUSY]⟩

/-- The registers of block VS. -/
def regsVs : List RegDef :=
  [R.VS_STATE, R.VS_COUNT, R.VS_BYTES, R.VS_ERR, R.VS_CTRL, R.VS_SEARCH, R.VS_MERGE]

def R.ETH_PORT_CFG : RegDef := ⟨0x160000, 8, 4, .member, [F.ETH_PORT_CFG_MAC, F.ETH_PORT_CFG_LOSSLESS,
  F.ETH_PORT_CFG_PMTU]⟩
def R.ETH_PORT_GID_HI : RegDef := ⟨0x160040, 16, 4, .member, [F.ETH_PORT_GID_HI_GID]⟩
def R.ETH_PORT_GID_LO : RegDef := ⟨0x160048, 16, 4, .member, [F.ETH_PORT_GID_LO_GID]⟩
def R.ETH_PORT_STATUS : RegDef := ⟨0x160080, 8, 4, .member, [F.ETH_PORT_STATUS_PAUSED, F.ETH_PORT_STATUS_XOFF,
  F.ETH_PORT_STATUS_PTP, F.ETH_PORT_STATUS_LINK]⟩
def R.ETH_PORT_COUNT : RegDef := ⟨0x1600A0, 8, 4, .member, [F.ETH_PORT_COUNT_ICRC_FAIL, F.ETH_PORT_COUNT_DISCARDED,
  F.ETH_PORT_COUNT_CNP_SENT, F.ETH_PORT_COUNT_WD_DROPS]⟩
def R.ETH_PFC : RegDef := ⟨0x160100, 8, 1, .member, [F.ETH_PFC_QUANTA, F.ETH_PFC_WD_MS, F.ETH_PFC_ECN_K_4K,
  F.ETH_PFC_XOFF_KIB]⟩
def R.ETH_CC : RegDef := ⟨0x160108, 8, 1, .member, [F.ETH_CC_MIN_RATE, F.ETH_CC_ALPHA, F.ETH_CC_AI_RATE,
  F.ETH_CC_RECOVER_US, F.ETH_CC_CNP_GAP_US]⟩
def R.ETH_QP_SEL : RegDef := ⟨0x160200, 8, 1, .seat, [F.ETH_QP_SEL_QP]⟩
def R.ETH_QP_CFG : RegDef := ⟨0x160208, 8, 1, .sel F.ETH_QP_SEL_QP, [F.ETH_QP_CFG_DEST_QPN, F.ETH_QP_CFG_TIMEOUT,
  F.ETH_QP_CFG_RETRY, F.ETH_QP_CFG_PCP, F.ETH_QP_CFG_DSCP, F.ETH_QP_CFG_PORT, F.ETH_QP_CFG_SEND_EN,
  F.ETH_QP_CFG_SEND_QUEUE]⟩
def R.ETH_QP_HOP : RegDef := ⟨0x160210, 8, 1, .sel F.ETH_QP_SEL_QP, [F.ETH_QP_HOP_NEXT_MAC, F.ETH_QP_HOP_VLAN_EN,
  F.ETH_QP_HOP_VLAN]⟩
def R.ETH_QP_DGID_HI : RegDef := ⟨0x160218, 8, 1, .sel F.ETH_QP_SEL_QP, [F.ETH_QP_DGID_HI_GID]⟩
def R.ETH_QP_DGID_LO : RegDef := ⟨0x160220, 8, 1, .sel F.ETH_QP_SEL_QP, [F.ETH_QP_DGID_LO_GID]⟩
def R.ETH_QP_PSN : RegDef := ⟨0x160228, 8, 1, .sel F.ETH_QP_SEL_QP, [F.ETH_QP_PSN_RQ_PSN, F.ETH_QP_PSN_SQ_PSN]⟩
def R.ETH_QP_CMD : RegDef := ⟨0x160230, 8, 1, .sel F.ETH_QP_SEL_QP, [F.ETH_QP_CMD_OP]⟩
def R.ETH_QP_STATUS : RegDef := ⟨0x160238, 8, 1, .sel F.ETH_QP_SEL_QP, [F.ETH_QP_STATUS_QPN,
  F.ETH_QP_STATUS_LAST_STATUS, F.ETH_QP_STATUS_RATE, F.ETH_QP_STATUS_STATE]⟩
def R.ETH_MR_VA : RegDef := ⟨0x160300, 8, 1, .seat, [F.ETH_MR_VA_VALUE]⟩
def R.ETH_MR_LEN : RegDef := ⟨0x160308, 8, 1, .seat, [F.ETH_MR_LEN_VALUE]⟩
def R.ETH_MR_CMD : RegDef := ⟨0x160310, 8, 1, .member, [F.ETH_MR_CMD_RKEY, F.ETH_MR_CMD_CTX, F.ETH_MR_CMD_RIGHTS,
  F.ETH_MR_CMD_OP]⟩
def R.ETH_MR_STATUS : RegDef := ⟨0x160318, 8, 1, .seat, [F.ETH_MR_STATUS_RKEY, F.ETH_MR_STATUS_STATUS,
  F.ETH_MR_STATUS_SEQ]⟩
def R.ETH_XFER_LVA : RegDef := ⟨0x160400, 8, 1, .seat, [F.ETH_XFER_LVA_VALUE]⟩
def R.ETH_XFER_RVA : RegDef := ⟨0x160408, 8, 1, .seat, [F.ETH_XFER_RVA_VALUE]⟩
def R.ETH_XFER_LEN : RegDef := ⟨0x160410, 8, 1, .seat, [F.ETH_XFER_LEN_VALUE]⟩
def R.ETH_XFER_CMD : RegDef := ⟨0x160418, 8, 1, .member, [F.ETH_XFER_CMD_RKEY, F.ETH_XFER_CMD_QP, F.ETH_XFER_CMD_OP]⟩
def R.ETH_XFER_STATUS : RegDef := ⟨0x160420, 8, 1, .seat, [F.ETH_XFER_STATUS_DONE_BYTES, F.ETH_XFER_STATUS_STATUS,
  F.ETH_XFER_STATUS_SEQ, F.ETH_XFER_STATUS_BUSY]⟩
def R.ETH_PTP_CFG : RegDef := ⟨0x160500, 8, 1, .member, [F.ETH_PTP_CFG_DOMAIN, F.ETH_PTP_CFG_PORTS]⟩
def R.ETH_PTP_STATUS : RegDef := ⟨0x160508, 8, 1, .member, [F.ETH_PTP_STATUS_OFFSET_NS, F.ETH_PTP_STATUS_STEPS,
  F.ETH_PTP_STATUS_SOURCE_DEV, F.ETH_PTP_STATUS_SOURCE, F.ETH_PTP_STATUS_PORT, F.ETH_PTP_STATUS_LOCK]⟩
def R.ETH_TIME : RegDef := ⟨0x160510, 8, 1, .member, [F.ETH_TIME_NS]⟩

/-- The registers of block ETH. -/
def regsEth : List RegDef :=
  [R.ETH_PORT_CFG, R.ETH_PORT_GID_HI, R.ETH_PORT_GID_LO, R.ETH_PORT_STATUS, R.ETH_PORT_COUNT, R.ETH_PFC,
   R.ETH_CC, R.ETH_QP_SEL, R.ETH_QP_CFG, R.ETH_QP_HOP, R.ETH_QP_DGID_HI, R.ETH_QP_DGID_LO, R.ETH_QP_PSN,
   R.ETH_QP_CMD, R.ETH_QP_STATUS, R.ETH_MR_VA, R.ETH_MR_LEN, R.ETH_MR_CMD, R.ETH_MR_STATUS, R.ETH_XFER_LVA,
   R.ETH_XFER_RVA, R.ETH_XFER_LEN, R.ETH_XFER_CMD, R.ETH_XFER_STATUS, R.ETH_PTP_CFG, R.ETH_PTP_STATUS,
   R.ETH_TIME]

def R.RAS_LOG_PTR : RegDef := ⟨0x180000, 8, 1, .member, [F.RAS_LOG_PTR_HEAD, F.RAS_LOG_PTR_TAIL]⟩
def R.RAS_LOG_STAT : RegDef := ⟨0x180008, 8, 1, .member, [F.RAS_LOG_STAT_LOST, F.RAS_LOG_STAT_HELD]⟩
def R.RAS_LOG_SEL : RegDef := ⟨0x180010, 8, 1, .seat, [F.RAS_LOG_SEL_SEQ]⟩
def R.RAS_LOG_REC : RegDef := ⟨0x180018, 8, 8, .seat, [F.RAS_LOG_REC_DATA]⟩
def R.RAS_LOG_CLEAR : RegDef := ⟨0x180060, 8, 1, .member, [F.RAS_LOG_CLEAR_UPTO]⟩
def R.RAS_STEP : RegDef := ⟨0x180100, 8, 1, .member, [F.RAS_STEP_COUNT]⟩
def R.RAS_STEP_JOB : RegDef := ⟨0x180108, 8, 1, .member, [F.RAS_STEP_JOB_JOB]⟩
def R.RAS_STEP_NUM : RegDef := ⟨0x180110, 8, 1, .member, [F.RAS_STEP_NUM_STEP]⟩
def R.RAS_SENTINEL : RegDef := ⟨0x180118, 8, 1, .member, [F.RAS_SENTINEL_PASSED, F.RAS_SENTINEL_TRANSIENT,
  F.RAS_SENTINEL_PERSISTENT, F.RAS_SENTINEL_NEXT]⟩
def R.RAS_WDOG : RegDef := ⟨0x180120, 8, 1, .member, [F.RAS_WDOG_CMD_MS]⟩
def R.RAS_HANG : RegDef := ⟨0x180128, 8, 1, .member, [F.RAS_HANG_HANGS, F.RAS_HANG_GUILTY, F.RAS_HANG_UNATTRIBUTED]⟩
def R.RAS_QUAR : RegDef := ⟨0x180130, 8, 1, .member, [F.RAS_QUAR_GUILTY_VALID, F.RAS_QUAR_GUILTY_CTX,
  F.RAS_QUAR_CORE, F.RAS_QUAR_LEFT, F.RAS_QUAR_STATE]⟩
def R.RAS_CTX_POISON : RegDef := ⟨0x180138, 8, 1, .member, [F.RAS_CTX_POISON_CTX, F.RAS_CTX_POISON_VALID,
  F.RAS_CTX_POISON_COUNT]⟩
def R.RAS_ECC : RegDef := ⟨0x180140, 8, 1, .member, [F.RAS_ECC_CORRECTED, F.RAS_ECC_REPAIRED, F.RAS_ECC_UNCORRECTED]⟩
def R.RAS_RESET_CMD : RegDef := ⟨0x180200, 8, 1, .member, [F.RAS_RESET_CMD_TARGET, F.RAS_RESET_CMD_OP]⟩
def R.RAS_RESET_DEEP : RegDef := ⟨0x180208, 8, 1, .member, [F.RAS_RESET_DEEP_ISLAND, F.RAS_RESET_DEEP_OP]⟩
def R.RAS_RESET_STATUS : RegDef := ⟨0x180210, 8, 1, .member, [F.RAS_RESET_STATUS_STATUS, F.RAS_RESET_STATUS_SEQ,
  F.RAS_RESET_STATUS_TARGET, F.RAS_RESET_STATUS_LEVEL, F.RAS_RESET_STATUS_RUNNING]⟩
def R.RAS_RESET_CAUSE : RegDef := ⟨0x180218, 8, 1, .member, [F.RAS_RESET_CAUSE_DEDUP_LOST, F.RAS_RESET_CAUSE_CAUSE]⟩
def R.RAS_ADMIT_CMD : RegDef := ⟨0x180300, 8, 1, .member, [F.RAS_ADMIT_CMD_SPARE_DEV, F.RAS_ADMIT_CMD_FAILED_DEV,
  F.RAS_ADMIT_CMD_OP]⟩
def R.RAS_ADMIT_STATUS : RegDef := ⟨0x180308, 8, 1, .member, [F.RAS_ADMIT_STATUS_SPARE_DEV,
  F.RAS_ADMIT_STATUS_FAILED_DEV, F.RAS_ADMIT_STATUS_STATUS, F.RAS_ADMIT_STATUS_SEQ, F.RAS_ADMIT_STATUS_STATE]⟩
def R.RAS_REBIND : RegDef := ⟨0x180310, 8, 1, .member, [F.RAS_REBIND_FORMER_DEV, F.RAS_REBIND_FAILED_DEV,
  F.RAS_REBIND_COUNT]⟩
def R.RAS_LOSS : RegDef := ⟨0x180318, 8, 1, .member, [F.RAS_LOSS_DEV_A, F.RAS_LOSS_DEV_B, F.RAS_LOSS_COUNT]⟩
def R.RAS_ENGINE : RegDef := ⟨0x180400, 8, 32, .member, [F.RAS_ENGINE_LAST_PASS, F.RAS_ENGINE_STATE]⟩

/-- The registers of block RAS. -/
def regsRas : List RegDef :=
  [R.RAS_LOG_PTR, R.RAS_LOG_STAT, R.RAS_LOG_SEL, R.RAS_LOG_REC, R.RAS_LOG_CLEAR, R.RAS_STEP, R.RAS_STEP_JOB,
   R.RAS_STEP_NUM, R.RAS_SENTINEL, R.RAS_WDOG, R.RAS_HANG, R.RAS_QUAR, R.RAS_CTX_POISON, R.RAS_ECC,
   R.RAS_RESET_CMD, R.RAS_RESET_DEEP, R.RAS_RESET_STATUS, R.RAS_RESET_CAUSE, R.RAS_ADMIT_CMD,
   R.RAS_ADMIT_STATUS, R.RAS_REBIND, R.RAS_LOSS, R.RAS_ENGINE]

def R.SEC_STATE : RegDef := ⟨0x1A0000, 8, 1, .member, [F.SEC_STATE_ENROLLED, F.SEC_STATE_FW_SLOT, F.SEC_STATE_PUF,
  F.SEC_STATE_FW]⟩
def R.SEC_FW_VERSION : RegDef := ⟨0x1A0008, 8, 1, .member, [F.SEC_FW_VERSION_VERSION]⟩
def R.SEC_ID_ED : RegDef := ⟨0x1A0010, 8, 4, .member, [F.SEC_ID_ED_KEY]⟩
def R.SEC_REPORT_NONCE : RegDef := ⟨0x1A0100, 8, 4, .seat, [F.SEC_REPORT_NONCE_NONCE]⟩
def R.SEC_REPORT_CMD : RegDef := ⟨0x1A0120, 8, 1, .member, [F.SEC_REPORT_CMD_GENERATE]⟩
def R.SEC_REPORT_STATUS : RegDef := ⟨0x1A0128, 8, 1, .seat, [F.SEC_REPORT_STATUS_STATUS, F.SEC_REPORT_STATUS_SEQ,
  F.SEC_REPORT_STATUS_BUSY]⟩
def R.SEC_KEY_SEL : RegDef := ⟨0x1A0200, 8, 1, .seat, [F.SEC_KEY_SEL_PARTITION]⟩
def R.SEC_KEY_CMD : RegDef := ⟨0x1A0208, 8, 1, .member, [F.SEC_KEY_CMD_OP]⟩
def R.SEC_KEY_STATUS : RegDef := ⟨0x1A0210, 8, 1, .seat, [F.SEC_KEY_STATUS_PARTITION, F.SEC_KEY_STATUS_STATUS,
  F.SEC_KEY_STATUS_SEQ]⟩
def R.SEC_KEY_INFO : RegDef := ⟨0x1A0218, 8, 1, .sel F.SEC_KEY_SEL_PARTITION, [F.SEC_KEY_INFO_KCV]⟩
def R.SEC_KEY_COUNT : RegDef := ⟨0x1A0220, 8, 1, .member, [F.SEC_KEY_COUNT_ACTIVE]⟩
def R.SEC_LINK : RegDef := ⟨0x1A0300, 8, 1, .member, [F.SEC_LINK_REKEYS, F.SEC_LINK_EXCHANGES, F.SEC_LINK_AUTH_FAIL]⟩
def R.SEC_EVLOG_PTR : RegDef := ⟨0x1A0400, 8, 1, .member, [F.SEC_EVLOG_PTR_OVERFLOW]⟩
def R.SEC_EVLOG_SEL : RegDef := ⟨0x1A0410, 8, 1, .seat, [F.SEC_EVLOG_SEL_ENTRY]⟩
def R.SEC_EVLOG_REC : RegDef := ⟨0x1A0418, 8, 8, .seat, [F.SEC_EVLOG_REC_DATA]⟩
def R.SEC_MLDSA_PUB : RegDef := ⟨0x1A1000, 8, 244, .member, [F.SEC_MLDSA_PUB_DATA]⟩
def R.SEC_KEM_EK : RegDef := ⟨0x1A2000, 8, 148, .member, [F.SEC_KEM_EK_DATA]⟩
def R.SEC_REPORT : RegDef := ⟨0x1A4000, 8, 496, .seat, [F.SEC_REPORT_DATA]⟩
def R.SEC_IMPORT : RegDef := ⟨0x1A6000, 8, 160, .seat, [F.SEC_IMPORT_DATA]⟩
def R.SEC_EVLOG_COUNT : RegDef := ⟨0x1A0408, 8, 1, .member, [F.SEC_EVLOG_COUNT_ENTRIES]⟩

/-- The registers of block SEC. -/
def regsSec : List RegDef :=
  [R.SEC_STATE, R.SEC_FW_VERSION, R.SEC_ID_ED, R.SEC_REPORT_NONCE, R.SEC_REPORT_CMD, R.SEC_REPORT_STATUS,
   R.SEC_KEY_SEL, R.SEC_KEY_CMD, R.SEC_KEY_STATUS, R.SEC_KEY_INFO, R.SEC_KEY_COUNT, R.SEC_LINK,
   R.SEC_EVLOG_PTR, R.SEC_EVLOG_SEL, R.SEC_EVLOG_REC, R.SEC_MLDSA_PUB, R.SEC_KEM_EK, R.SEC_REPORT,
   R.SEC_IMPORT, R.SEC_EVLOG_COUNT]

def R.PWR_INPUT : RegDef := ⟨0x1C0000, 8, 1, .member, [F.PWR_INPUT_VIN_MV, F.PWR_INPUT_IIN_MA, F.PWR_INPUT_PIN_W,
  F.PWR_INPUT_DIPS]⟩
def R.PWR_PEAK : RegDef := ⟨0x1C0008, 8, 1, .member, [F.PWR_PEAK_PEAK_W, F.PWR_PEAK_PEAK_IIN_MA,
  F.PWR_PEAK_MIN_VIN_MV]⟩
def R.PWR_LIMIT : RegDef := ⟨0x1C0010, 8, 1, .member, [F.PWR_LIMIT_CAP_W, F.PWR_LIMIT_RATE_CA]⟩
def R.PWR_THERM : RegDef := ⟨0x1C0018, 8, 1, .member, [F.PWR_THERM_TEMP, F.PWR_THERM_PEAK_TEMP, F.PWR_THERM_SENSOR,
  F.PWR_THERM_THROTTLE_C]⟩
def R.PWR_THROTTLE : RegDef := ⟨0x1C0020, 8, 1, .member, [F.PWR_THROTTLE_THROTTLED_MS, F.PWR_THROTTLE_CAUSE,
  F.PWR_THROTTLE_DUTY]⟩
def R.PWR_GOV : RegDef := ⟨0x1C0028, 8, 1, .member, [F.PWR_GOV_DEFERRED, F.PWR_GOV_MAX_WAIT_US, F.PWR_GOV_PENDING,
  F.PWR_GOV_WINDOW_CA]⟩
def R.PWR_REFCLK : RegDef := ⟨0x1C0030, 8, 1, .member, [F.PWR_REFCLK_CORE_LOSSES, F.PWR_REFCLK_SERDES_LOSSES,
  F.PWR_REFCLK_SERDES_OK, F.PWR_REFCLK_CORE_OK]⟩
def R.PWR_START : RegDef := ⟨0x1C0038, 8, 1, .member, [F.PWR_START_LAST_MS, F.PWR_START_PHASE]⟩
def R.PWR_BIST : RegDef := ⟨0x1C0040, 8, 1, .member, [F.PWR_BIST_PASSED, F.PWR_BIST_NEXT]⟩
def R.PWR_ISLAND : RegDef := ⟨0x1C0100, 8, 25, .member, [F.PWR_ISLAND_CLOCK_MHZ, F.PWR_ISLAND_STEP_CA,
  F.PWR_ISLAND_WAKES, F.PWR_ISLAND_STATE]⟩
def R.PWR_COMP : RegDef := ⟨0x1C0200, 8, 1, .member, [F.PWR_COMP_OPTICAL, F.PWR_COMP_FLASH_CH, F.PWR_COMP_DDR_CH,
  F.PWR_COMP_T1_STACK]⟩

/-- The registers of block PWR. -/
def regsPwr : List RegDef :=
  [R.PWR_INPUT, R.PWR_PEAK, R.PWR_LIMIT, R.PWR_THERM, R.PWR_THROTTLE, R.PWR_GOV, R.PWR_REFCLK, R.PWR_START,
   R.PWR_BIST, R.PWR_ISLAND, R.PWR_COMP]

def R.TST_STATE : RegDef := ⟨0x1E0000, 8, 1, .member, [F.TST_STATE_TAP_INSTR, F.TST_STATE_ACCESS]⟩
def R.TST_IDCODE : RegDef := ⟨0x1E0008, 8, 1, .member, [F.TST_IDCODE_VERSION, F.TST_IDCODE_PART, F.TST_IDCODE_MANUF,
  F.TST_IDCODE_ONE]⟩
def R.TST_CTRL : RegDef := ⟨0x1E0010, 8, 1, .member, [F.TST_CTRL_OP]⟩
def R.TST_UNIT_CMD : RegDef := ⟨0x1E0018, 8, 1, .member, [F.TST_UNIT_CMD_UNIT, F.TST_UNIT_CMD_TESTS,
  F.TST_UNIT_CMD_OP]⟩
def R.TST_UNIT_STATUS : RegDef := ⟨0x1E0020, 8, 1, .member, [F.TST_UNIT_STATUS_UNIT, F.TST_UNIT_STATUS_RESULT,
  F.TST_UNIT_STATUS_STATUS, F.TST_UNIT_STATUS_SEQ, F.TST_UNIT_STATUS_STATE]⟩
def R.TST_ABUS_CTRL : RegDef := ⟨0x1E0028, 8, 1, .member, [F.TST_ABUS_CTRL_MODE, F.TST_ABUS_CTRL_NODE]⟩
def R.TST_ABUS_VALUE : RegDef := ⟨0x1E0030, 8, 1, .member, [F.TST_ABUS_VALUE_VALID, F.TST_ABUS_VALUE_VALUE]⟩
def R.TST_PINS : RegDef := ⟨0x1E0038, 8, 1, .member, [F.TST_PINS_LSR_DROPS, F.TST_PINS_THERMTRIP_N,
  F.TST_PINS_FAULT_N, F.TST_PINS_UP_N, F.TST_PINS_LSR_EN, F.TST_PINS_RST_N, F.TST_PINS_POS]⟩
def R.TST_LASER : RegDef := ⟨0x1E0100, 8, 8, .member, [F.TST_LASER_POWERED, F.TST_LASER_ON]⟩

/-- The registers of block TST. -/
def regsTst : List RegDef :=
  [R.TST_STATE, R.TST_IDCODE, R.TST_CTRL, R.TST_UNIT_CMD, R.TST_UNIT_STATUS, R.TST_ABUS_CTRL,
   R.TST_ABUS_VALUE, R.TST_PINS, R.TST_LASER]

/-- Every register of the window. -/
def regMap : List RegDef :=
  regsSil ++ regsCtl ++ regsWq ++ regsJnl ++ regsXlt ++ regsTier ++ regsQnc ++ regsFab ++ regsHome ++
  regsSws ++ regsColl ++ regsEmb ++ regsVs ++ regsEth ++ regsRas ++ regsSec ++ regsPwr ++ regsTst

/-- The identification register: `TST_IDCODE`, with the manufacturer code of the I3C provisional ID. -/
def idcode : Nat :=
  F.TST_IDCODE_VERSION.reset * 2 ^ 28 + F.TST_IDCODE_PART.reset * 2 ^ 12 + Config.manufacturer % 2 ^ 11 * 2 + 1

end Sys2Proof.Machine
end

