-- ==== Sys2Proof/Machine/State.lean ====
section
/-! DEFINITION. The state of the DM-640, the reasons a step can stop, and the state after reset.
Plain data: every register of the window stands in `regs`, keyed by bank, offset and field; the rest is typed. -/

namespace Sys2Proof.Machine

/-- No command of this model faults: the spec gives every row an effect, a refusal with a status, or no effect. The type is
closed and its one constructor is never raised (safe: nothing can be concluded from it). -/
inductive Fault where
  /-- Raised by nobody. -/
  | never
  deriving DecidableEq, Repr

/-- Reasons to refuse a command outside the machine. -/
inductive Refusal where
  /-- Raised only by an arm of the dispatcher that has no meaning yet (safe: nothing is proved of it). -/
  | notModelled (mnemonic : String)
  deriving DecidableEq, Repr

structure State where
  now : Nat
  free : Nat
  regs : Tbl Nat
  mem : Mem
  dom : Dom
  ctl : Ctl
  sil : Sil
  qx : Tbl QueueX
  works : List Work
  jnl : Jnl
  xlt : Xlt
  tier : Tier
  fab : Fab
  eth : Eth
  ras : Ras
  qnc : Qnc
  home : Home
  sws : Sws
  coll : Coll
  emb : Emb
  vs : Vs
  sec : Sec
  pwr : Pwr
  tst : Tst
  pending : List Instr
  deriving DecidableEq, Repr

/-! ### After reset

`State.reset` is the member at the moment its 52 V input reaches 40 V (R453): nothing stored, every register at the reset value its table
gives, no firmware running.  `COLD_START` is the start itself. -/

/-- Registers whose reset value is not that of their field everywhere: the member numbers' positions (R23), the own bit of `JNL_CUSTODY` for
device number 0, and the test access state before firmware runs (R466). -/
def resetRegs : Tbl Nat :=
  [(F.JNL_CUSTODY_DEVICES.off * 64 + F.JNL_CUSTODY_DEVICES.lo, 1)]
    ++ (List.range 63).map (fun n => ((F.FAB_MEMBER_POSITION.off + 8 * (n + 1)) * 64 + F.FAB_MEMBER_POSITION.lo, n + 1))
    ++ [(F.TST_STATE_ACCESS.off * 64 + F.TST_STATE_ACCESS.lo, 3)]

def emptyMem : Mem := ⟨[], [], []⟩

/-- The member-loss and management timeouts have the defaults of R26 and R41 until an image sets them (R20). -/
def resetDom : Dom :=
  { members := 0, spares := 0, eports := 0, aports := 0, width := 0, lossUs := 5000, mgmtUs := 2000, identities := [], spareRole := [], heard := [],
    peers := [], rebinds := [], lanes := [], reported := [], selfFailed := false, windowsLost := false, allTags := false, activeAt := 0, hbQuietUntil := 0 }

def resetCtl : Ctl :=
  { seatA := ⟨.unbound, [], 0, 0⟩, seatB := ⟨.unbound, [], 0, 0⟩, entries := [], outcomes := [], bufs := [], semExpiry := [], lastWrite := [],
    i3cAddr := none, i3cReply := none, i3cEvents := 0, i3cOut := [], lastRead := none, refused := false }

def resetSil : Sil :=
  { staging := [], nor := [], full := [], ringLost := true, latched := 0, committer := none, fromNor := false, affected := 0, drainStart := 0,
    lastChunk := none, comp := ⟨[], [], []⟩, allRuns := [], partials := [] }

def resetJnl : Jnl :=
  { ring := [], toEffect := [], mirror := [], mirrorOf := 0, mirrorHeld := false, held := [], batches := [], lastScan := 0,
    retentionJseq := 0, retentionTag := 0, carrying := none, confirm := false, adopted := [], gap := false }

def resetXlt : Xlt :=
  { extents := [], claims := [], mapA := none, mapB := none, shootA := none, shootB := none, invalidating := [], heldLookups := [], etc := [],
    revs := [], revokes := [], heldCtx := [], recalls := [], dirty := [], counted := [], aliasAsks := [] }

def resetTier : Tier :=
  { staged := [], inFlight := [], heldAnswers := [], heldRequests := [], degraded := [], armedFor := [], marks := [], runs := [], served := [],
    dies := [], ecc := [], lost := [], told := [], loaded := 0 }

/-- `txTag` and `jnlTag` are the next tags of the two counters (R244). -/
def resetFab : Fab :=
  { txTag := 0x800000000000, jnlTag := 1, reqs := [], waiting := [], answers := [], dedup := [], dedupCopy := [], retire := [], markers := [],
    nextMarker := 0, used := [], fences := [], blocks := [], links := [], xfers := [], nextXfer := 0 }

def resetEth : Eth :=
  { qps := [], regions := [], xferA := none, xferB := none, pauseUntil := [], pausedSince := [], wdEpisode := [], ingress := [], queue := [],
    tx := [], goodSyncs := 0, lastSync := 0, timeOffset := 0, recoverAt := 0 }

def resetRas : Ras :=
  { log := [], recent := [], suspects := [], stopped := [], lastUnattributed := none, running := [], history := [], sentinelRerun := [],
    sentinelDue := [], rebindAcks := 0, rebindHold := none, hungCore := none }

def resetQnc : Qnc :=
  { cores := [], launches := [], units := [], attends := [], digests := [], kvBytes := 0 }

def resetHome : Home :=
  { filter := [], events := [], nextEv := 0, scans := [], snoopsIn := [], answered := [], drops := [], caching := [], rangeScans := [] }

def resetSws : Sws :=
  { voq := [], entering := [], delivered := [], sent := [], shapers := [], drr := [], combining := [], lastSeen := [], stalls := [],
    gateEnd := 0, holdoverFrom := 0 }

def resetColl : Coll := { runs := [], early := [], aborts := [], inBytes := 0, outBytes := 0 }

def resetEmb : Emb := { shards := [], serves := [], runs := [], nextPhase := 0, dropped := 0, defaulted := 0, coalesced := 0 }

def resetVs : Vs :=
  { runs := [], segments := [], ended := [], scored := [], skipped := [], readBytes := [], recon := [], offered := 0 }

def resetSec : Sec :=
  { keys := [], slot0 := [], slot1 := [], helper := [], anchors := [], mrs := [], evlog := [], reportA := [], reportB := [], forming := [],
    importA := [], importB := [] }

def resetPwr : Pwr :=
  { on := true, granted := [], pending := [], wakeAt := [], lastAdjust := 0, floorMs := 0, floorRecorded := false, startAt := 0,
    refWait := false, testing := [], failed := [], memInit := 0 }

/-- The TAP selects IDCODE (R467): the data register holds `TST_IDCODE`. -/
def resetTst : Tst := { dr := idcode, preload := 0, captured := 0, drive := 0, probe := none, tests := 0 }

def State.reset : State :=
  { now := 0, free := 0, regs := resetRegs, mem := emptyMem, dom := resetDom, ctl := resetCtl, sil := resetSil, qx := [], works := [],
    jnl := resetJnl, xlt := resetXlt, tier := resetTier, fab := resetFab, eth := resetEth, ras := resetRas, qnc := resetQnc, home := resetHome,
    sws := resetSws, coll := resetColl, emb := resetEmb, vs := resetVs, sec := resetSec, pwr := resetPwr, tst := resetTst, pending := [] }

end Sys2Proof.Machine
end

