-- ==== Sys2Proof/Machine/Flags.lean ====
section
/-! DEFINITION. Fields of the register file: reading, writing, saturating counters, latches and sequence numbers.
Every register of the window has one home, `State.regs`; a field not listed there holds its reset value (R14). -/

namespace Sys2Proof.Machine

/-- The key of a field: bank (seat, channel, queue, context, port ...), register offset and lowest bit. -/
def Fld.key (f : Fld) (bank : Nat) : Nat := (bank * 2 ^ 24 + f.off) * 64 + f.lo

/-- The value of a field in a bank. -/
def State.fld (s : State) (f : Fld) (bank : Nat := 0) : Nat := s.regs.getD (f.key bank) f.reset

/-- Set a field, cut to its width. -/
def State.setF (s : State) (f : Fld) (v : Nat) (bank : Nat := 0) : State :=
  { s with regs := s.regs.store (f.key bank) (v % 2 ^ f.width) f.reset }

/-- Count `n` events in a saturating counter. -/
def State.count (s : State) (f : Fld) (n : Nat := 1) (bank : Nat := 0) : State :=
  s.setF f (satAdd f.width (s.fld f bank) n) bank

/-- A level that rises and falls (entries in use, granules degraded). -/
def State.addF (s : State) (f : Fld) (n : Nat) (bank : Nat := 0) : State := s.setF f (s.fld f bank + n) bank

def State.subF (s : State) (f : Fld) (n : Nat) (bank : Nat := 0) : State := s.setF f (s.fld f bank - n) bank

/-- Advance a modulo sequence field by one. -/
def State.bumpSeq (s : State) (f : Fld) (bank : Nat := 0) : State := s.setF f (s.fld f bank + 1) bank

/-- Track a maximum. -/
def State.trackMax (s : State) (f : Fld) (v : Nat) (bank : Nat := 0) : State :=
  if s.fld f bank < v then s.setF f (min v (2 ^ f.width - 1)) bank else s

/-- Return a field to its reset value (R14 RC). -/
def State.clearF (s : State) (f : Fld) (bank : Nat := 0) : State := s.setF f f.reset bank

/-- One bit of a bit-map field. -/
def State.fldBit (s : State) (f : Fld) (i : Nat) (bank : Nat := 0) : Bool := bitAt (s.fld f bank) i

def State.setFldBit (s : State) (f : Fld) (i : Nat) (b : Bool) (bank : Nat := 0) : State :=
  s.setF f (setBit (s.fld f bank) i b) bank

/-- A fresh index for a free value or a random draw; the counter advances. -/
def State.draw (s : State) : Nat × State := (s.free, { s with free := s.free + 1 })

end Sys2Proof.Machine
end

