-- ==== Sys2Proof/Machine/Ops.lean ====
section
/-! DEFINITION. Operations every chapter shares: the clock, the error log (R399 to R402), reports of refused accesses,
the membership table, and the bytes of memory. -/

namespace Sys2Proof.Machine

/-! ### Time -/

def nsPerUs := 1000
def nsPerMs := 1000000

/-- Domain time in ns: the island-25 clock shifted by the servo's offset (R391, R393). -/
def State.domainTime (s : State) : Nat := ((s.now : Int) + s.eth.timeOffset).toNat

/-- Time has reached at least `t` (a timer that expires implies that its deadline has come). -/
def State.reach (s : State) (t : Nat) : State := { s with now := max s.now t }

/-! ### The member -/

/-- The device number in force (R23). -/
def State.devnum (s : State) : Nat := s.fld F.CTL_ID_DEVNUM

def State.position (s : State) : Nat := s.fld F.CTL_ID_POSITION

/-- The state of a device number in the membership table (R24). -/
def State.memberState (s : State) (d : Nat) : MemberState := .ofCode (s.fld (F.FAB_MEMBER_STATE.at d))

/-- Whether a number is this member's own. -/
def State.isSelf (s : State) (d : Nat) : Bool := d == s.devnum

/-- The numbers in a given state. -/
def State.membersIn (s : State) (m : MemberState) : List Nat := (List.range 64).filter (fun d => s.memberState d == m)

/-- The journal partner of a number (R31): n XOR 1, but in a domain with exactly one spare the three highest active numbers
form a ring. -/
def partnerOf (members spares n : Nat) : Nat :=
  if spares = 1 ∧ n + 4 = members then n + 1
  else if spares = 1 ∧ n + 3 = members then n + 1
  else if spares = 1 ∧ n + 2 = members then n - 2
  else n ^^^ 1

def State.partner (s : State) (n : Nat) : Nat := partnerOf s.dom.members s.dom.spares n

/-- The member whose journal partner is `n` (R31). -/
def partnerOfInv (members spares n : Nat) : Nat :=
  if spares = 1 ∧ n + 4 = members then n + 2
  else if spares = 1 ∧ n + 3 = members then n - 1
  else if spares = 1 ∧ n + 2 = members then n - 1
  else n ^^^ 1

/-! ### The error log -/

/-- Two records that R401 merges. -/
def ErrRec.same (a b : ErrRec) : Bool :=
  a.unit == b.unit && a.status == b.status && a.opcode == b.opcode && a.index == b.index && a.ctx == b.ctx
    && a.addr == b.addr

/-- The log sequence number of a record written less than 1 ms ago that this record merges with, among the 16 most recent
distinct ones (R401). -/
def State.mergeSeq (s : State) (r : ErrRec) : Option Nat :=
  (s.ras.recent.find? (fun e => decide (s.now < e.2 + nsPerMs) &&
    (match s.ras.log.get? e.1 with | some r' => r'.same r | none => false))).map Prod.fst

/-- Latch the two device numbers of a `DOUBLE_LOSS` record (R422): the first since the last read. -/
def State.noteLoss (s : State) (r : ErrRec) : State :=
  if r.status ≠ .doubleLoss then s
  else
    let s := if s.fld F.RAS_LOSS_COUNT = 0 then
        (s.setF F.RAS_LOSS_DEV_A (if r.index = 0xFF then dgaDev r.addr else r.index)).setF F.RAS_LOSS_DEV_B (r.syndrome % 64)
      else s
    s.count F.RAS_LOSS_COUNT

/-- Write an error record (R399, R401, R402): merged with an equal recent one, or given the next SEQ; a full log of 16,384
records loses its oldest. -/
def State.logErr (s : State) (r : ErrRec) : State :=
  match s.mergeSeq r with
  | some q =>
    { s with ras.log := s.ras.log.modify q (fun r' => { r' with count := min (r'.count + 1) 0xFFFFFFFF }) }
  | none =>
    let s := s.noteLoss r
    let q := s.fld F.RAS_LOG_PTR_HEAD
    let r := { r with time := s.domainTime, temp := s.fld F.PWR_THERM_TEMP, device := s.devnum,
                      step := s.fld F.RAS_STEP_COUNT, seq := q, count := 1 }
    let full := decide (s.fld F.RAS_LOG_STAT_HELD = 16384)
    let s := if full then
        ({ s with ras.log := s.ras.log.del (s.fld F.RAS_LOG_PTR_TAIL) }.bumpSeq F.RAS_LOG_PTR_TAIL).count F.RAS_LOG_STAT_LOST
      else s.addF F.RAS_LOG_STAT_HELD 1
    let s := { s with ras.log := s.ras.log.put q r, ras.recent := ((q, s.now) :: s.ras.recent).take 16 }
    s.bumpSeq F.RAS_LOG_PTR_HEAD

/-- The 64 bytes of a record (R399); VCORE is the sampled core-rail voltage. -/
def ErrRec.bytes (r : ErrRec) : List Byte :=
  let body := natLe 1 r.unit.code ++ natLe 1 r.status.code ++ natLe 1 r.opcode
    ++ natLe 1 ((if r.corrected then 1 else 0) + (if r.addrVa then 2 else 0) + (if r.count > 1 then 4 else 0))
    ++ natLe 2 (match r.ctx with | some c => c + 0x8000 | none => 0)
    ++ natLe 2 (match r.partition with | some p => p + 0x8000 | none => 0)
    ++ natLe 8 r.time ++ natLe 8 r.addr ++ natLe 8 r.syndrome ++ natLe 4 r.count
    ++ natLe 2 r.temp ++ natLe 2 (Config.vcoreMv r.seq) ++ natLe 1 r.device ++ natLe 1 r.index
    ++ natLe 6 r.tag ++ natLe 8 r.step ++ natLe 4 r.seq
  body ++ natLe 4 (crc32c body)

/-- The member-state transition of R25: the table entry changes and a FAB record names the number (R472). -/
def State.setMember (s : State) (d : Nat) (m : MemberState) (st : Status) : State :=
  let old := s.memberState d
  (s.setF (F.FAB_MEMBER_STATE.at d) m.code).logErr
    { unit := .fab, status := st, index := d, syndrome := m.code + old.code * 256 }

/-! ### Reports of refused accesses -/

/-- Latch a refusal in `CTL_SEAT_ERR` of a seat: the first since the last read keeps its offset, status and channel entry. -/
def State.seatErr (s : State) (seat : SeatId) (entry off : Nat) (st : Status) : State :=
  let b := seat.idx
  let s := if s.fld F.CTL_SEAT_ERR_COUNT b = 0 then
      ((s.setF F.CTL_SEAT_ERR_OFFSET off b).setF F.CTL_SEAT_ERR_STATUS st.code b).setF F.CTL_SEAT_ERR_CHANNEL entry b
    else s
  { s.count F.CTL_SEAT_ERR_COUNT 1 b with ctl.refused := true }

/-- The channel entry that holds a channel (R80). -/
def Ctl.entryOf (c : Ctl) (ch : ChanId) : Option (Nat × ChanEntry) := c.entries.find? (fun e => e.2.chan == ch)

/-- The seat a channel is bound to on this member (R77). -/
def State.seatOf (s : State) (ch : ChanId) : Option SeatId := (s.ctl.entryOf ch).map (fun e => e.2.seat)

/-- Post an outcome in a channel's `CTL_CLAIM_STATUS`; SEQ advances (R83). -/
def State.claimOutcome (s : State) (ch : ChanId) (st : Status) (reason : Nat) : State :=
  match s.ctl.outcomes.find? (fun o => o.chan == ch) with
  | some _ =>
    { s with ctl.outcomes := s.ctl.outcomes.map (fun o =>
        if o.chan == ch then { o with status := st, reason := reason, seq := (o.seq + 1) % 256 } else o) }
  | none => { s with ctl.outcomes := s.ctl.outcomes ++ [⟨ch, st, reason, 1⟩] }

/-- Report a refused access where R12, R15, R79 put it: the seat's error register for a bound channel, else the channel's
claim status with the given REASON. -/
def State.refuse (s : State) (ch : ChanId) (off : Nat) (st : Status) (reason : Nat := 0x0D) : State :=
  match s.ctl.entryOf ch with
  | some (n, e) => s.seatErr e.seat n off st
  | none => s.claimOutcome ch st reason

/-! ### Semaphores -/

/-- The seat that holds a semaphore whose lease has not expired (R15, R87, R88). -/
def State.semHolder (s : State) (n : Nat) : Option SeatId :=
  match SeatId.ofCode (s.fld (F.CTL_SEM_OWNER.at n)) with
  | some x => if s.now < s.ctl.semExpiry.getD n 0 then some x else none
  | none => none

/-! ### Memory -/

/-- The byte held for a cell: plaintext where the cell has the name of a key, else ciphertext; an unlisted byte is 0 (R455). -/
def Mem.raw (m : Mem) (a : Nat) : Byte := Tbl.getD m.bytes a 0

/-- The name of a data key as a member uses it: it fixes the key and the device number that the tweak of R185 is taken from. 0 names no key. -/
def keyName (key dev : Nat) : Nat := 2 * (64 * key + dev % 64) + 1

/-- The data unit of a cell (R185): the 4 KiB block of T3, the 64 B sector of T1 and T2. -/
def dataUnit (a : Nat) : Nat := if a / 2 ^ 56 = 2 then 4096 else 64

/-- The cipher of the 16 B block that holds a cell, under a key's name (R185). -/
def cipherOf (name a : Nat) : Equiv.Perm (BitVec 128) :=
  Config.aesXts (2 * (name / 128) + name % 2) (name / 2 % 64 * 2 ^ 58 + a / dataUnit a * dataUnit a) (a % dataUnit a / 16)

def toBlock (bs : List Byte) : BitVec 128 := .ofNat 128 (leNat bs)
def ofBlock (b : BitVec 128) : List Byte := natLe 16 b.toNat

/-- The ciphertext of the 16 B block that holds a cell. -/
def Mem.cipherBlock (m : Mem) (a : Nat) : BitVec 128 :=
  let bs := (List.range 16).map (fun i => m.raw (a / 16 * 16 + i))
  let name := m.keys.getD a 0
  if name = 0 then toBlock bs else cipherOf name a (toBlock bs)

/-- A byte read under a key's name (R185): what was written under it, else what the ciphertext there decrypts to (R186, R455). Under no key (0)
the ciphertext itself. -/
def Mem.read (m : Mem) (key a : Nat) : Byte :=
  if m.keys.getD a 0 = key then m.raw a
  else
    let c := m.cipherBlock a
    (ofBlock (if key = 0 then c else (cipherOf key a).symm c)).getD (a % 16) 0

/-- Hold a byte under a key's name. -/
def Mem.write (m : Mem) (key a : Nat) (b : Byte) : Mem :=
  { m with bytes := Tbl.store m.bytes a b 0, keys := m.keys.store a key 0 }

def Mem.readN (m : Mem) (key a : Nat) : Nat → List Byte
  | 0 => []
  | n + 1 => m.read key a :: m.readN key (a + 1) n

def Mem.writeN (m : Mem) (key a : Nat) : List Byte → Mem
  | [] => m
  | b :: bs => (m.write key a b).writeN key (a + 1) bs

/-- Whether the 64 B sector of a cell is poisoned (R403). -/
def Mem.poisoned (m : Mem) (a : Nat) : Bool := m.poison.getD (a / 64) false

def Mem.setPoison (m : Mem) (a : Nat) (p : Bool) : Mem := { m with poison := m.poison.store (a / 64) p false }

/-- Poison every sector a range touches. -/
def Mem.poisonRange (m : Mem) (a n : Nat) : Mem :=
  (List.range (if n = 0 then 0 else (a + n - 1) / 64 - a / 64 + 1)).foldl
    (fun m k => m.setPoison ((a / 64 + k) * 64) true) m

/-- The canonical form of memory: rising addresses, no byte equal to what an unlisted byte reads as, likewise keys and
poison marks. -/
def Mem.wf (m : Mem) : Bool :=
  Tbl.sorted m.bytes && m.keys.sorted && m.poison.sorted
    && m.bytes.all (fun e => e.2 != 0) && m.keys.all (fun e => e.2 != 0) && m.poison.all (fun e => e.2)

/-- The 16 B block of a cell is held under a key's name: what it read as under that key is written there. -/
def Mem.rename (m : Mem) (key a : Nat) : Mem :=
  if m.keys.getD a 0 = key then m else m.writeN key (a / 16 * 16) (m.readN key (a / 16 * 16) 16)

/-- Put `bs` at `a` under a key's name: the rest of a block that it covers in part stays what it was under that key. -/
def Mem.put (m : Mem) (key a : Nat) (bs : List Byte) : Mem :=
  let m := if a % 16 ≠ 0 then m.rename key a else m
  let m := if (a + bs.length) % 16 ≠ 0 then m.rename key (a + bs.length) else m
  m.writeN key a bs

/-- Write `bs` at `a` with R405's rule: a sector marked poisoned in the data is left poisoned, and a write of unpoisoned data
that covers a whole sector clears its mark; other sectors keep theirs. `pmask` bit k is payload sector k from `a / 64`. -/
def Mem.store (m : Mem) (key a : Nat) (bs : List Byte) (pmask : Nat) : Mem :=
  let n := bs.length
  let m := m.put key a bs
  (List.range (if n = 0 then 0 else (a + n - 1) / 64 - a / 64 + 1)).foldl (fun m k =>
    let sec := (a / 64 + k) * 64
    if bitAt pmask k then m.setPoison sec true
    else if a ≤ sec ∧ sec + 64 ≤ a + n then m.setPoison sec false
    else m) m

/-- The poison marks of the sectors a range touches, bit k the sector of `a / 64 + k`. -/
def Mem.poisonMask (m : Mem) (a n : Nat) : Nat :=
  maskOf ((List.range (if n = 0 then 0 else (a + n - 1) / 64 - a / 64 + 1)).filter
    (fun k => m.poisoned ((a / 64 + k) * 64)))

end Sys2Proof.Machine
end

