-- ==== Sys2Proof/Machine/Control.lean ====
section
/-! DEFINITION. Channels, claims, seats and the semaphore bank (spec/03, R77 to R93). -/

namespace Sys2Proof.Machine

/-- KIND of a trust-anchor entry (R426). -/
def anchorImage := 1
def anchorSeat := 2
def anchorKernel := 3
def anchorAgent := 4

/-- Whether a signature verifies under one key of some trust-anchor entry of a KIND, and whether both do under one entry (R426). -/
def State.edVerifies (s : State) (kind : Nat) (msg sig : List Byte) : Bool :=
  s.sec.anchors.any (fun a => field a 0 1 == kind && Config.ed25519Verify (slice a 16 32) msg sig)

def State.bothVerify (s : State) (kind : Nat) (msg ed ml : List Byte) : Bool :=
  s.sec.anchors.any (fun a => field a 0 1 == kind && Config.ed25519Verify (slice a 16 32) msg ed
    && Config.mldsaVerify (slice a 48 1952) msg ml)

/-! ### Measurements (R429, R430) -/

/-- Measurement register `r`. -/
def State.mr (s : State) (r : Nat) : List Byte := (s.sec.mrs.get? r).getD (zeros 48)

/-- Extend a measurement register by an event digest and log the event; a full log only notes that it overflowed (R429, R430). -/
def State.extendMr (s : State) (r kind : Nat) (e : List Byte) : State :=
  let s : State := { s with sec.mrs := s.sec.mrs.put r (Config.sha384 (s.mr r ++ e)) }
  if s.sec.evlog.length ≥ 4096 then s.setF F.SEC_EVLOG_PTR_OVERFLOW 1
  else
    let rec_ := natLe 1 r ++ natLe 1 kind ++ zeros 6 ++ padTo 48 e ++ natLe 8 s.domainTime
    let s : State := { s with sec.evlog := s.sec.evlog ++ [rec_] }
    s.setF F.SEC_EVLOG_COUNT_ENTRIES s.sec.evlog.length

/-- Whether the boot firmware has verified (R83, R93, R425); a member whose key derivation has failed serves no more than the ROM does (R427). -/
def State.fwVerified (s : State) : Bool := s.fld F.SEC_STATE_FW == 1 && s.fld F.SEC_STATE_PUF != 2

def State.seat (s : State) : SeatId → Seat
  | .a => s.ctl.seatA | .b => s.ctl.seatB

def State.setSeat (s : State) (x : SeatId) (v : Seat) : State :=
  match x with
  | .a => { s with ctl.seatA := v }
  | .b => { s with ctl.seatB := v }

/-- The number of channel entries a seat holds (R80). -/
def Ctl.channelsOf (c : Ctl) (x : SeatId) : Nat := (c.entries.filter (fun e => e.2.seat == x)).length

/-- Every access a bound channel delivers to the window restarts its seat's liveness period (R85). -/
def State.touch (s : State) (ch : ChanId) : State :=
  match s.seatOf ch with
  | some x => s.setSeat x { s.seat x with lastAccess := s.now }
  | none => s

/-- Run a seat's command written to the register at `off`: an unbound channel is refused under R79, a bound one restarts its
seat's liveness period (R85). -/
def State.asSeat (s : State) (ch : ChanId) (f : SeatId → Nat → State → State) : State :=
  match s.ctl.entryOf ch with
  | some (n, e) => f e.seat n (s.touch ch)
  | none => s.claimOutcome ch .access (reason := 0x0C)

/-- Note that a seat's write of a register at `off` has taken effect; one less than 1 ms after the other seat's is a collision (R91). -/
def State.noteWrite (s : State) (x : SeatId) (off : Nat) : State :=
  let s := match s.ctl.lastWrite.get? (2 * off + x.other.idx) with
    | some t => if s.now < t + nsPerMs then
        (if s.fld F.CTL_COLLIDE_COUNT = 0 then s.setF F.CTL_COLLIDE_OFFSET off else s).count F.CTL_COLLIDE_COUNT else s
    | none => s
  { s with ctl.lastWrite := s.ctl.lastWrite.put (2 * off + x.idx) s.now }

/-- The words of `SEC_IMPORT`: a seat-relative register, which the other seat cannot write (R91). -/
def isImport (off : Nat) : Bool := decide (F.SEC_IMPORT_DATA.off ≤ off ∧ off < F.SEC_IMPORT_DATA.off + 1280)

/-- Run a seat's command written to the RWL register at `off` (R15, R89): a seat without the semaphore is refused; a command that is
not refused counts as a write of the register (R91). -/
def State.asHolder (s : State) (ch : ChanId) (off sem : Nat) (f : SeatId → Nat → State → State) : State :=
  s.asSeat ch (fun x entry s =>
    if s.semHolder sem ≠ some x then s.seatErr x entry off .semNotHeld
    else
      let s := f x entry { s with ctl.refused := false }
      if s.ctl.refused || isImport off then s else s.noteWrite x off)

/-! ### Semaphores -/

def offSemCmd := 0x0100

/-- The lease of a semaphore has run out: clear OWNER; semaphores 0 to 3 write a CTL record (R87, R472). -/
def State.semExpire (s : State) (n : Nat) : State :=
  let o := s.fld (F.CTL_SEM_OWNER.at n)
  if o ≠ 0 ∧ s.ctl.semExpiry.getD n 0 ≤ s.now then
    let s := { s.setF (F.CTL_SEM_OWNER.at n) 0 with ctl.semExpiry := s.ctl.semExpiry.del n }
    if n < 4 then s.logErr { unit := .ctl, status := .timeout, index := n, syndrome := o } else s
  else s

/-- Give a free semaphore to a seat (R87). -/
def State.semGrant (s : State) (n : Nat) (x : SeatId) (lease : Nat) : State :=
  let s := (s.setF (F.CTL_SEM_OWNER.at n) x.code).bumpSeq (F.CTL_SEM_GEN.at n)
  { s.setF (F.CTL_SEM_LEASE_MS.at n) lease with ctl.semExpiry := s.ctl.semExpiry.put n (s.now + lease * nsPerMs) }

/-- Extend a lease; GEN is unchanged (R87). -/
def State.semExtend (s : State) (n lease : Nat) : State :=
  { s.setF (F.CTL_SEM_LEASE_MS.at n) lease with ctl.semExpiry := s.ctl.semExpiry.put n (s.now + lease * nsPerMs) }

/-- The refusal of a lease outside 1 to 60,000 ms (R87). -/
def leaseFault (lease : Nat) : Option Status :=
  if lease = 0 then some .badDescriptor else if lease > 60000 then some .bounds else none

/-- ACQUIRE by one seat (R87, R88). -/
def State.semAcquireBy (s : State) (x : SeatId) (entry n lease : Nat) : State :=
  match leaseFault lease with
  | some st => s.seatErr x entry offSemCmd st
  | none =>
    let s := s.semExpire n
    match s.semHolder n with
    | none => s.semGrant n x lease
    | some y => if y = x then s.semExtend n lease else s.seatErr x entry offSemCmd .busy

/-- ACQUIRE by both seats in one arbiter cycle: the seat TIE names wins a free semaphore, TIE passes to the other, the loser
is refused `BUSY` (R87). `e` and `l` are each seat's channel entry and lease. -/
def State.semAcquireTie (s : State) (n : Nat) (eA lA eB lB : Nat) : State :=
  let s := s.semExpire n
  if s.semHolder n = none ∧ leaseFault lA = none ∧ leaseFault lB = none then
    if s.fld (F.CTL_SEM_TIE.at n) = 0 then
      ((s.semGrant n .a lA).setF (F.CTL_SEM_TIE.at n) 1).seatErr .b eB offSemCmd .busy
    else
      ((s.semGrant n .b lB).setF (F.CTL_SEM_TIE.at n) 0).seatErr .a eA offSemCmd .busy
  else (s.semAcquireBy .a eA n lA).semAcquireBy .b eB n lB

/-- RENEW (R87, R88). -/
def State.semRenewBy (s : State) (x : SeatId) (entry n lease : Nat) : State :=
  match leaseFault lease with
  | some st => s.seatErr x entry offSemCmd st
  | none =>
    let s := s.semExpire n
    if s.semHolder n = some x then s.semExtend n lease else s.seatErr x entry offSemCmd .semNotHeld

/-- Clear OWNER of a semaphore (R87). -/
def State.semFree (s : State) (n : Nat) : State :=
  { s.setF (F.CTL_SEM_OWNER.at n) 0 with ctl.semExpiry := s.ctl.semExpiry.del n }

/-- RELEASE (R87). -/
def State.semReleaseBy (s : State) (x : SeatId) (entry n : Nat) : State :=
  let s := s.semExpire n
  if s.semHolder n = some x then s.semFree n else s.seatErr x entry offSemCmd .semNotHeld

/-- A bound channel's write of CTL_SEM_CMD, field by field (R87). -/
def State.semCmd (s : State) (x : SeatId) (entry op n lease : Nat) : State :=
  if op = 1 then s.semAcquireBy x entry n lease
  else if op = 2 then s.semRenewBy x entry n lease
  else if op = 3 then s.semReleaseBy x entry n
  else s

/-! ### Channels and seats -/

/-- Drop the claim buffer of a channel without an outcome (R80). -/
def Ctl.dropBuf (c : Ctl) (ch : ChanId) : Ctl := { c with bufs := c.bufs.filter (fun e => e.2.chan != ch) }

/-- A seat passes to LOST: its entries are freed, its leases run on, a CTL record is written (R84, R85). -/
def State.seatLost (s : State) (x : SeatId) : State :=
  let s := s.setSeat x { s.seat x with state := .lost }
  let s := { s with ctl.entries := s.ctl.entries.filter (fun e => e.2.seat != x) }
  s.logErr { unit := .ctl, status := .timeout, index := x.idx }

/-- A channel ends (R80): its entry, its claim buffer and its claim status go; a BOUND seat that loses its last channel is
LOST (R84). -/
def State.closeChannel (s : State) (ch : ChanId) : State :=
  let seat := s.seatOf ch
  let s := { s with ctl := { (s.ctl.dropBuf ch) with
              entries := s.ctl.entries.filter (fun e => e.2.chan != ch),
              outcomes := s.ctl.outcomes.filter (fun o => o.chan != ch) } }
  match seat with
  | some x => if (s.seat x).state = .bound ∧ s.ctl.channelsOf x = 0 then s.seatLost x else s
  | none => s

def noSeat : Seat := ⟨.unbound, [], 0, 0⟩

/-- RELEASE of a seat (R84): every semaphore and channel of the seat is freed and the seat is UNBOUND. -/
def State.releaseSeat (s : State) (x : SeatId) : State :=
  let held := (List.range 64).filter (fun n => s.fld (F.CTL_SEM_OWNER.at n) == x.code)
  let s := held.foldl (fun s n => (s.semExpire n).semFree n) s
  let chans := (s.ctl.entries.filter (fun e => e.2.seat == x)).map (fun e => e.2.chan)
  let s := { s with ctl := chans.foldl Ctl.dropBuf s.ctl }
  ({ s with ctl.entries := s.ctl.entries.filter (fun e => e.2.seat != x) }).setSeat x noSeat

/-- Liveness timeout (R84, R85). -/
def State.livenessTimeout (s : State) (x : SeatId) : State :=
  if (s.seat x).state = .bound then
    (s.reach ((s.seat x).lastAccess + s.fld F.CTL_SEAT_TIMEOUT_LIVENESS_MS * nsPerMs)).seatLost x
  else s

/-- The reset of seats, channels, claim buffers and semaphores (R93). -/
def State.clearSeats (s : State) : State :=
  let s := (List.range 64).foldl (fun s n =>
    (((((s.clearF (F.CTL_SEM_OWNER.at n)).clearF (F.CTL_SEM_GEN.at n)).clearF (F.CTL_SEM_LEASE_MS.at n)).clearF
      (F.CTL_SEM_TIE.at n)))) s
  { s with ctl := { s.ctl with seatA := noSeat, seatB := noSeat, entries := [], bufs := [], outcomes := [],
                               semExpiry := [], lastWrite := [] } }

/-! ### Claims -/

def claimPeriod := 10000000000

/-- CLAIM_BEGIN (R83). -/
def State.claimBegin (s : State) (ch : ChanId) : State :=
  if (s.seatOf ch).isSome ∨ !s.fwVerified then s.claimOutcome ch .stateConflict 0x09
  else
    let (i, s') := s.draw
    let fresh : ClaimBuf := ⟨ch, Config.random i 32, [], s.now, false⟩
    match s.ctl.bufs.find? (fun e => e.2.chan == ch) with
    | some (k, _) => { s' with ctl.bufs := s'.ctl.bufs.put k fresh }
    | none =>
      match s.ctl.bufs.firstFree 4 with
      | some k => { s' with ctl.bufs := s'.ctl.bufs.put k fresh }
      | none => s.claimOutcome ch .busy 0x08

/-- CLAIM_SUBMIT (R83): the record's check begins, or the refusal is posted.  A second one while the check runs has no effect and no report, the
model's choice (log entry 26). -/
def State.claimSubmit (s : State) (ch : ChanId) : State :=
  if (s.seatOf ch).isSome ∨ !s.fwVerified then s.claimOutcome ch .stateConflict 0x09
  else
    match s.ctl.bufs.find? (fun e => e.2.chan == ch) with
    | some (k, b) => { s with ctl.bufs := s.ctl.bufs.put k { b with submitted := true } }
    | none => s.claimOutcome ch .stateConflict 0x09

/-- The 8,832 bytes staged in a claim buffer (R81). -/
def ClaimBuf.bytes (b : ClaimBuf) : List Byte := (List.range 1104).flatMap (fun i => natLe 8 (b.staged.getD i 0))

/-- The member's own identity digest (R54, R428). -/
def State.ownIdentity (s : State) : List Byte := Config.sha384 (Config.identityEd s.sec.helper ++ Config.identityMldsa s.sec.helper)

/-- The possession message of R82. -/
def State.possession (s : State) (nonce rec_ : List Byte) : List Byte := nonce ++ Config.sha384 (rec_.take 2048) ++ s.ownIdentity

/-- Whether a seat holds a semaphore whose lease has not expired. -/
def State.holdsLease (s : State) (x : SeatId) : Bool := (List.range 64).any (fun n => s.semHolder n == some x)

/-- The first failing check of a claim record, in the order of R83; none: the claim succeeds. -/
def State.claimFault (s : State) (b : ClaimBuf) : Option (Status × Nat) :=
  let rec_ := b.bytes
  let seatByte := field rec_ 0 1
  let x := if seatByte = 1 then SeatId.b else SeatId.a
  let ed := slice rec_ 64 32
  let ml := slice rec_ 96 1952
  let ident := Config.sha384 (ed ++ ml)
  let st := s.seat x
  let other := s.seat x.other
  if seatByte > 1 ∨ !allZero (slice rec_ 1 7) ∨ !allZero (slice rec_ 24 40) ∨ !allZero (slice rec_ 5421 19)
      ∨ !allZero (slice rec_ 8813 19) ∨ field rec_ 8 8 = 0 then some (.badDescriptor, 0x01)
  else if !s.edVerifies anchorSeat (rec_.take 2048) (slice rec_ 2048 64) then
    some (.authFail, 0x02)
  else if !s.bothVerify anchorSeat (rec_.take 2048) (slice rec_ 2048 64) (slice rec_ 2112 3309) then
    some (.authFail, 0x03)
  else if !Config.ed25519Verify ed (s.possession b.nonce rec_) (slice rec_ 5440 64) then some (.authFail, 0x04)
  else if !Config.mldsaVerify ml (s.possession b.nonce rec_) (slice rec_ 5504 3309) then some (.authFail, 0x05)
  else if (st.state = .bound ∧ st.identity ≠ ident) ∨ (other.state ≠ .unbound ∧ other.identity = ident) then
    some (.stateConflict, 0x06)
  else if st.state = .lost ∧ st.identity ≠ ident ∧ s.holdsLease x then some (.busy, 0x07)
  else if s.ctl.channelsOf x ≥ 8 ∨ s.ctl.entries.length ≥ 16 then some (.busy, 0x08)
  else if (s.seatOf b.chan).isSome ∨ !s.fwVerified then some (.stateConflict, 0x09)
  else if field rec_ 16 8 ≠ 0 ∧ field rec_ 16 8 ≠ s.fld F.SIL_DOMAIN_ID_DOMAIN_ID then some (.stateConflict, 0x0A)
  else none

/-- Bind a channel to a seat under an identity (R84): CRED_SERIAL is recorded with a new identity. -/
def State.bindChannel (s : State) (ch : ChanId) (x : SeatId) (ident : List Byte) (cred : Nat) : State :=
  let s := match s.ctl.entries.firstFree 16 with
    | some n => { s with ctl.entries := s.ctl.entries.put n ⟨ch, x⟩ }
    | none => s
  let known := (s.seat x).state ≠ .unbound ∧ (s.seat x).identity = ident
  s.setSeat x ⟨.bound, ident, if known then (s.seat x).cred else cred, s.now⟩

/-- The check of a submitted claim record completes (R83): the outcome is posted and the buffer released. -/
def State.claimCheck (s : State) (k : Nat) (internal : Bool) : State :=
  match s.ctl.bufs.get? k with
  | some b =>
    if b.submitted then
      let fault := if internal then some (.internal, 0xFF) else s.claimFault b
      let s' := { s with ctl.bufs := s.ctl.bufs.del k }
      match fault with
      | some (st, r) => s'.claimOutcome b.chan st r
      | none =>
        let rec_ := b.bytes
        let x := if field rec_ 0 1 = 1 then SeatId.b else SeatId.a
        let s' := s'.bindChannel b.chan x (Config.sha384 (slice rec_ 64 32 ++ slice rec_ 96 1952)) (field rec_ 8 8)
        let ident := Config.sha384 (slice rec_ 64 32 ++ slice rec_ 96 1952)
        let s' := s'.extendMr 6 0 (Config.sha384 (ident ++ natLe 1 x.idx))
        s'.claimOutcome b.chan .done 0x00
    else s
  | none => s

/-- The 10 s of a claim buffer pass without CLAIM_SUBMIT (R83). -/
def State.claimTimeout (s : State) (k : Nat) : State :=
  match s.ctl.bufs.get? k with
  | some b =>
    if b.submitted then s
    else
      let s := s.reach (b.opened + claimPeriod)
      ({ s with ctl.bufs := s.ctl.bufs.del k }).claimOutcome b.chan .timeout 0x0B
  | none => s

/-- A write of `CTL_SEAT_CMD` (R79, R84, R85).  A reserved OP is refused with `BAD_DESCRIPTOR`; that an unbound channel's refusal carries REASON
0x01, and that its OP 0 passes without report, is the model's choice (log entry 51): R83 lists no REASON for the first, R79 does not name the
second. -/
def State.seatCmd (s : State) (ch : ChanId) (op : Nat) : State :=
  if op = 3 then (s.touch ch).claimBegin ch
  else if op = 4 then (s.touch ch).claimSubmit ch
  else if op = 1 then s.asSeat ch (fun _ _ s => s)
  else if op = 2 then s.asSeat ch (fun x _ s => s.releaseSeat x)
  else if op = 0 then s.touch ch
  else (s.touch ch).refuse ch 0x10 .badDescriptor 0x01

/-! ### The I3C target (R92) -/

/-- The 48-bit provisional ID: manufacturer code in bits [47:33], part code in bits [32:6], position in bits [5:0].
Log entry 8. -/
def State.provisionalId (s : State) : Nat := Config.manufacturer % 2 ^ 15 * 2 ^ 33 + 0x0640 * 2 ^ 6 + s.position

/-- The answer the device drives on the bus to a CCC; no byte: it does not answer. -/
def State.i3cAnswer (s : State) (bs : List Byte) : State :=
  { s with ctl.i3cOut := if s.ctl.i3cAddr.isSome then bs else [] }

/-- The I3C controller resets the dynamic address: the sideband channel ends (R80). -/
def State.i3cReset (s : State) : State :=
  { s.closeChannel .i3c with ctl.i3cAddr := none, ctl.i3cReply := none }

end Sys2Proof.Machine
end

