-- ==== Sys2Proof/Machine/Fabric.lean ====
section
/-! DEFINITION. Packets, tags, dedup windows, the source retry buffer, paths, fences and port checks
(spec/08 R228 to R266, R474; spec/01 R33 to R36). -/

namespace Sys2Proof.Machine

/-! ### Partitions, slices and data keys -/

/-- The slice whose context range holds a context (R58, R131). -/
def State.sliceOfCtx (s : State) (c : Nat) : Option (Nat × Slice) :=
  s.sil.comp.slices.find? (fun e => decide (e.2.ctxBase ≤ c ∧ c < e.2.ctxBase + e.2.ctxCount))

def State.sliceOfQueue (s : State) (q : Nat) : Option (Nat × Slice) :=
  s.sil.comp.slices.find? (fun e => decide (e.2.queueBase ≤ q ∧ q < e.2.queueBase + e.2.queueCount))

def State.sliceOfAport (s : State) (a : Nat) : Option (Nat × Slice) :=
  s.sil.comp.slices.find? (fun e => bitAt e.2.aport a)

def State.sliceOfCore (s : State) (n : Nat) : Option (Nat × Slice) :=
  s.sil.comp.slices.find? (fun e => bitAt e.2.quince n)

def State.sliceOfFlash (s : State) (n : Nat) : Option (Nat × Slice) :=
  s.sil.comp.slices.find? (fun e => bitAt e.2.flash n)

/-- The partition of a context: that of its slice (R131); 0 for a context in no slice. -/
def State.partOfCtx (s : State) (c : Nat) : Nat := match s.sliceOfCtx c with | some e => e.2.partition | none => 0

/-- The 16-bit key of a partition in this member's PARTITIONS table (R56). -/
def State.keyOf (s : State) (part : Nat) : Nat := match s.sil.comp.partitions.get? part with | some p => p.key | none => 0

/-- The partition index a key belongs to. -/
def State.partOfKey (s : State) (k : Nat) : Option Nat := (s.sil.comp.partitions.find? (fun e => e.2.key == k)).map Prod.fst

/-- Bytes of one granule of a tier: 256 MiB in T1, 1 GiB in T2 and T3 (R161). -/
def granuleBytes (tier : Nat) : Nat := if tier = 1 then 2 ^ 28 else 2 ^ 30

/-- Tier of a window: window 0 is T1, 1 is T2, 2 is T3 (R37). -/
def tierOfWin (w : Nat) : Nat := w + 1

/-- The run that maps a granule of a tier of this member (R60). -/
def State.runOf (s : State) (tier g : Nat) : Option TierRun :=
  s.sil.comp.runs.find? (fun r => r.tier == tier && decide (r.first ≤ g ∧ g < r.first + r.count))

/-- The run that maps the granule of a cell (window and offset). -/
def State.runOfCell (s : State) (cell : Nat) : Option TierRun :=
  let w := cell / 2 ^ 56
  s.runOf (tierOfWin w) (cell % 2 ^ 56 / granuleBytes (tierOfWin w))

/-- The partition whose slice holds a cell's granule (R185, R262). -/
def State.partOfCell (s : State) (cell : Nat) : Option Nat :=
  match s.runOfCell cell with
  | some r => (s.sil.comp.slices.get? r.slice).map (fun x => x.partition)
  | none => none

/-- The name under which bytes are kept that a partition's data key encrypts for an owner (R185, R435); none while no key is ACTIVE. -/
def State.dataKeyAs (s : State) (part dev : Nat) : Option Nat :=
  (s.sec.keys.get? part).map (fun k => keyName (leNat k.key) dev)

/-- The same for this member's own bytes. -/
def State.dataKey (s : State) (part : Nat) : Option Nat := s.dataKeyAs part s.devnum

/-- The name of the device key that encrypts the Medlar rings (R185). -/
def deviceKey := 2

/-- Populated bytes of windows 0 to 2 (R37, R38, R164, R165). -/
def State.populated (s : State) (w : Nat) : Nat :=
  if w = 0 then 0x6000000000
  else if w = 1 then s.fld F.TIER_T2_CFG_GRANULES * 2 ^ 30
  else if w = 2 then s.fld F.TIER_T3_GRANULES_GRANULES * 2 ^ 30
  else 0x1000000

/-! ### Packet format (R230, R233, R234) -/

/-- The virtual channels an opcode's row permits (R234, R281). -/
def vcAllowed (op vc : Nat) : Bool :=
  if op = 0x01 ∨ op = 0x02 ∨ op = 0x09 then vc = 0 ∨ vc = 3 ∨ vc = 4
  else if op = 0x04 then vc = 0 ∨ vc = 3
  else if op = 0x03 ∨ op = 0x05 ∨ op = 0x08 ∨ op = 0x0A then vc = 0
  else if op = 0x06 ∨ op = 0x07 ∨ op = 0x0C ∨ op = 0x0D then vc = 0 ∨ vc = 4
  else if op = 0x0B ∨ (0x20 ≤ op ∧ op ≤ 0x26) then vc = 5
  else if 0x10 ≤ op ∧ op ≤ 0x15 then vc = 2
  else if op = 0x16 then vc = 1
  else if op = 0x8B ∨ (0xA0 ≤ op ∧ op ≤ 0xA6) then vc = 5
  else if 0x80 ≤ op then vc = 1
  else false

/-- The opcodes the tables of R234 and R281 list; a response to a reserved request is reserved, and so is one to GRANT_ACK,
which has none. -/
def opKnown (op : Nat) : Bool :=
  let r := op % 0x80
  decide ((1 ≤ r ∧ r ≤ 0x0D) ∨ (0x10 ≤ r ∧ r ≤ 0x16) ∨ (0x20 ≤ r ∧ r ≤ 0x26)) && op != 0x96

/-- The sectors an access of SIZE + 1 bytes at ADDR touches (R235). -/
def sectorsOf (addr size : Nat) : Nat := (addr % 64 + size) / 64 + 1

/-- Whether SECTORS agrees with what OP and SIZE require. -/
def sectorsOk (p : Packet) : Bool :=
  if p.op = 0x02 ∨ p.op = 0x21 then p.sectors = sectorsOf p.addr p.size
  else if p.op = 0x81 ∨ p.op = 0xA0 then p.sectors = 0 ∨ p.sectors = sectorsOf p.addr p.size
  else if p.op = 0x03 ∨ p.op = 0x22 ∨ p.op = 0x25 then p.sectors = 1
  else if p.op = 0x06 ∨ p.op = 0x07 then 1 ≤ p.sectors ∧ p.sectors ≤ 4
  else if p.op = 0x0D then p.sectors = 4
  else if p.op = 0x08 then p.sectors ≤ 1
  else if p.op = 0x01 ∨ p.op = 0x05 ∨ p.op = 0x09 ∨ p.op = 0x0A ∨ p.op = 0x0B ∨ p.op = 0x0C ∨ p.op = 0x20
      ∨ p.op = 0x23 ∨ p.op = 0x24 ∨ p.op = 0x26 ∨ (0x10 ≤ p.op ∧ p.op ≤ 0x16) then p.sectors = 0
  else if p.op = 0x83 ∨ p.op = 0xA4 ∨ p.op = 0xA5 ∨ (0x90 ≤ p.op ∧ p.op ≤ 0x92) then p.sectors ≤ 1
  else if p.op = 0x8C then p.sectors = 0 ∨ p.sectors = 4
  else if p.op = 0x04 ∨ p.op = 0x87 then p.sectors ≤ 4
  else p.sectors = 0

/-- Whether AUX is zero where its opcode defines nothing, and no reserved value where it does (R234, R238, R246, R258, R281, R336).  LOAD,
STORE, TILE_COMMIT, MIRROR, PARITY, the window accesses, XLT_CTRL and RELAY_DRAIN carry what log entries 19, 20 and 24 lay out; an answer
carries the AUX of its request. -/
def auxOk (p : Packet) : Bool :=
  if p.op = 0x03 ∨ p.op = 0x0A ∨ p.op = 0x0C ∨ p.op = 0x16 ∨ p.op = 0x22 then p.aux = 0
  else if p.op = 0x04 then p.aux / 8 % 32 = 0 ∧ p.aux < 65536
  else if p.op = 0x08 then (if p.sectors = 0 then 1 ≤ p.aux ∧ p.aux ≤ 4096 else p.aux = 0)
  else if p.op = 0x0B then p.aux ≤ 1
  else if p.op = 0x0D then p.aux < 16
  else if p.op = 0x10 ∨ p.op = 0x11 ∨ p.op = 0x15 then p.aux < 32
  else if p.op = 0x12 then p.aux / 1024 % 64 = 0
  else if p.op = 0x13 then p.aux < 128
  else if p.op = 0x14 then p.aux < 4096
  else if p.op = 0x23 then p.aux < 64
  else if p.op = 0x24 then 1 ≤ p.aux % 256 ∧ p.aux % 256 ≤ 6
  else true

def Packet.isRequest (p : Packet) : Bool := decide (p.op < 0x80)

/-- Whether a packet asks for a response (R234, R281): RETIRE, HEARTBEAT, MEMBER_DECLARE and GRANT_ACK have none. -/
def Packet.asks (p : Packet) : Bool :=
  p.isRequest && p.op != opRETIRE && p.op != opHEARTBEAT && p.op != opMEMBER_DECLARE && p.op != 0x16

/-- R230: a packet that is not acted on. -/
def Packet.malformed (p : Packet) : Bool :=
  p.rsvd != 0 || !opKnown p.op || !vcAllowed p.op p.vc || !sectorsOk p || decide (p.src ≥ 64) || decide (p.dst ≥ 64)
    || (p.isRequest && p.status != 0) || (p.op % 0x80 != opATOMIC && p.atype != 0) || !auxOk p

/-- A warm or cold reset of the device runs (R411). -/
def State.deepReset (s : State) : Bool := s.ras.running.any (fun r => decide (4 ≤ r.level))

/-! ### Ports, paths and sending -/

/-- Port codes of the FAB registers: P-port 0x00 to 0x3E, partner second port 0x3F, A-port 0x40 to 0x5F. -/
def portSecond := 0x3F
def aportCode (a : Nat) : Nat := 0x40 + a

/-! The switch core's internal ports (R308). -/
def portQuince (n : Nat) : Nat := 100 + n
def portEth (n : Nat) : Nat := 96 + n
def portT1 := 116
def portT2 := 117
def portT3 := 118
def portCurrant := 119
def portDamson := 120
def portQueue := 121
def portHome := 122
def portMgmt := 123

/-- The endpoint of this member that a request's opcode and window name (R311). -/
def endpointOf (p : Packet) : Nat :=
  let op := p.op % 0x80
  if op = opRETIRE ∨ op = opJOURNAL_CTRL ∨ (op = opMIRROR ∧ p.aux % 2 = 1) then portQueue
  else if 0x10 ≤ op ∧ op < 0x20 then portHome
  else if op = opREDUCE then (if p.aux % 8 ≥ 5 then portCurrant else portDamson)
  else if op = opTAG_RESET ∨ 0x20 ≤ op then portMgmt
  else if dgaWin p.addr = 0 then portT1 else if dgaWin p.addr = 1 then portT2 else if dgaWin p.addr = 2 then portT3
  else portMgmt

/-- Whether a port is up: it has a lane up (R255). -/
def State.portUp (s : State) (port : Nat) : Bool := s.fld F.FAB_PORT_STATUS_LANES_UP port != 0

/-- The P-port that reaches number `d` directly (R29). -/
def State.pportTo (s : State) (d : Nat) : Nat := s.fld (F.FAB_MEMBER_PPORT.at d)

/-- Path in use towards a number (R34). -/
def State.pathTo (s : State) (d : Nat) : Path :=
  if s.fld (F.FAB_MEMBER_RELAYED.at d) = 1 then .relay (s.fld (F.FAB_MEMBER_RELAY.at d)) else .direct

/-- Medlar mirror traffic (R30, R108): journal entries copied to the mirror target, and their acknowledgements. -/
def Packet.isMirrorTraffic (p : Packet) : Bool := p.op % 0x80 == opMIRROR && p.aux % 2 == 1

/-- What the partner second port carries (R30). -/
def Packet.onSecond (p : Packet) : Bool := p.vc == vcMGMT || p.isMirrorTraffic

/-- The path of a packet (R30, R34, R108): mirror and MGMT traffic to the position at the far end of the partner second port leaves there while
the direct P-port is down. While both are up the direct one is used, the model's choice (log entry 36). -/
def State.pathOf (s : State) (p : Packet) : Path :=
  if p.onSecond && s.fld (F.FAB_MEMBER_POSITION.at p.dst) == s.position ^^^ 1 && !s.portUp (s.pportTo p.dst) && s.portUp portSecond then .second
  else s.pathTo p.dst

/-- The port a path leaves on. -/
def State.pathPort (s : State) (d : Nat) : Path → Nat
  | .direct => s.pportTo d
  | .second => portSecond
  | .relay r => s.pportTo r

/-- Length of a packet: header, payload, tail (R228). -/
def Packet.bytes (p : Packet) : Nat := 40 + 64 * p.sectors

def isAport (port : Nat) : Bool := decide (0x40 ≤ port ∧ port < 0x60)

/-- Whether two byte ranges of the domain meet. -/
def rangesMeet (a n b m : Nat) : Bool := decide (a < b + m ∧ b < a + n)

/-- Whether a packet may be combined at all (R242, R243, R305): an uncached load of an agent or a device function, not one that entered as RDMA
READ; an ADD, MIN or MAX atomic.  What arrives on a P-port is not, since its answer need not come back this way (log entry 19). -/
def combinable (ingress : Nat) (p : Packet) : Bool :=
  !p.noCombine && !p.combined && ((p.op == opLOAD && p.aux % 16 == 0 && (isAport ingress || decide (100 ≤ ingress)))
    || (p.op == opATOMIC && decide (64 ≤ ingress ∧ 1 ≤ p.atype % 16 ∧ p.atype % 16 ≤ 3)))

/-- The port of the function that waits for an answer (R308). -/
def State.functionPort (s : State) (w : Waiter) : Nat :=
  match w with
  | .agent a _ _ _ => a
  | .window .. | .mapOwner _ | .rebind _ => portMgmt
  | .forwarded p | .mirrored p => endpointOf p
  | .reduce _ => portDamson
  | .xfer id _ =>
    match s.fab.xfers.find? (fun x => x.id == id) with
    | some x =>
      match x.owner with
      | .dmaLoad c _ | .dmaStore c _ | .dmaAtomic c _ _ | .dmaStage c _ _ _ | .dmaCommit c _ _ => portQuince c
      | .rdmaRead q _ _ _ | .rdmaWrite q _ _ _ | .rdmaAtomic q _ _ | .sendSlots _ q _ _ => portEth (s.fld F.ETH_QP_CFG_PORT q)
      | .seatLoad x | .seatStore x =>
        match (match x with | .a => s.eth.xferA | .b => s.eth.xferB) with
        | some j => portEth (s.fld F.ETH_QP_CFG_PORT j.qp)
        | none => portQueue
      | .poolIndex _ | .poolRows .. | .poolOut _ => portCurrant
      | .collSource .. | .collStore .. => portDamson
      | .search .. => portT3
      | .reconstruct p _ | .rebuilt p | .repair p _ => endpointOf p
      | .lineFetch .. => portHome
      | _ => portQueue
    | none => portQueue
  | _ => portQueue

/-- The earlier request a packet is combined with (R242, R243, R305): same owner, address, size, key and type, less than 64 ns
old and outstanding, its requester without an unacknowledged write to the bytes, and no acquire.  An atomic leader must still
wait in its VOQ. -/
def State.combineWith (s : State) (ingress : Nat) (p : Packet) : Option Combine :=
  if !combinable ingress p ∨ s.fld F.FAB_COMBINE_DISABLE = 1 then none
  else s.sws.combining.find? (fun c =>
    let l := c.leader
    l.op == p.op && l.dst == p.dst && l.addr == p.addr && l.size == p.size && l.pkey == p.pkey && l.atype == p.atype
      && decide (s.now < c.first + 64) && s.fab.reqs.any (fun r => r.pkt.tag == l.tag)
      && (p.op == opLOAD || s.sws.voq.any (fun q => q.pkt.tag == l.tag && q.pkt.op == opATOMIC))
      && !s.fab.reqs.any (fun r => (r.pkt.op == opSTORE || (r.pkt.op == opATOMIC && r.pkt.tag != p.tag))
            && s.functionPort r.waiter == ingress
            && rangesMeet r.pkt.addr (r.pkt.size + 1) p.addr (p.size + 1))
      && (match s.sws.lastSeen.get? ingress with | some t => decide (t < c.first) | none => true))

/-- Combine a packet with its leader: the leader goes on with COMBINED set, an atomic with the folded operand. -/
def State.combine (s : State) (c : Combine) (p : Packet) : State :=
  let n := p.size + 1
  let fold (l : Packet) : Packet :=
    if p.op = opATOMIC then
      let v := (atomicNew p.atype (leNat (l.payload.take n)) (leNat (p.payload.take n)) 0).getD 0
      { l with combined := true, payload := padTo 64 (natLe n v) }
    else { l with combined := true }
  let s : State := { s with
    fab.reqs := s.fab.reqs.map (fun r => if r.pkt.tag == c.leader.tag && r.pkt.op == p.op then { r with pkt := fold r.pkt } else r),
    sws.combining := s.sws.combining.map (fun d => if d == c then { d with members := d.members ++ [p] } else d),
    sws.voq := s.sws.voq.map (fun q => if q.pkt.tag == c.leader.tag && q.pkt.op == p.op then { q with pkt := fold q.pkt } else q) }
  if p.op = opLOAD then s.count F.FAB_COMBINE_READS else s.count F.FAB_COMBINE_ATOMICS

/-- Whether a request travels inside another's packet: it is never sent itself (R243). -/
def State.ridesAlong (s : State) (tag : Nat) : Bool := s.sws.combining.any (fun c => c.members.any (fun m => m.tag == tag))

def State.portWidth (s : State) (port : Nat) : Nat := s.fld F.FAB_PORT_STATUS_WIDTH port

/-- Bytes of an ingress buffer (R314). -/
def State.bufferBytes (s : State) (port : Nat) : Nat :=
  if port < 96 then 65536 * s.portWidth port else if port < 100 then 262144 else 131072

def gNONE := 0
def gRUNNING := 1
def gHOLDOVER := 2
def gSUSPENDED := 3

/-- Whether the gate list governs the gates (R328). -/
def State.gated (s : State) : Bool :=
  let st := s.fld F.SWS_GATE_STATUS_STATE
  st == gRUNNING || st == gHOLDOVER

def State.gateLen (s : State) : Nat := s.fld F.SWS_GATE_CFG_ENTRIES
def State.gateMask (s : State) (i : Nat) : Nat := s.fld (F.SWS_GATE_FABRIC_GATES.at i)

/-- Bytes of an ingress buffer reserved for a VC (R233, R314). -/
def State.vcReserve (s : State) (port vc : Nat) : Nat :=
  if vc = vcRSP then 2048
  else if vc = vcSCHED then
    (if port < 96 ∧ (List.range s.gateLen).any (fun i => bitAt (s.gateMask i) vcSCHED) then 8192 * s.portWidth port else 0)
  else 1024

/-- Bytes of the largest packet (R319). -/
def largestPacket : Nat := 296

/-- Whether an ingress buffer can hold `n` more bytes of a VC (R251, R314): in its reserved space, else in the shared rest, which SCHED never
uses while a gate list runs. -/
def State.roomFor (s : State) (port vc n : Nat) : Bool :=
  let used (v : Nat) := s.sws.voq.foldl (fun m q => if q.ingress = port ∧ q.pkt.vc = v then m + q.pkt.bytes else m) 0
  let past (v : Nat) := used v + (if v = vc then n else 0) - s.vcReserve port v
  let shared := s.bufferBytes port - (List.range 6).foldl (fun m v => m + s.vcReserve port v) 0
  past vc == 0 || (!(vc == vcSCHED && s.gated) && decide ((List.range 6).foldl (fun m v => m + past v) 0 ≤ shared))

/-- A packet enters the VOQ of its ingress and egress ports (R315), or is combined with an earlier one (R242). -/
def State.enterVoq (s : State) (ingress egress : Nat) (p : Packet) : State :=
  let with_ := s.combineWith ingress p
  let s : State := if 64 ≤ ingress ∧ p.op < 0x80 then { s with sws.lastSeen := s.sws.lastSeen.put ingress s.now } else s
  match with_ with
  | some c => s.combine c p
  | none =>
    let live := s.sws.combining.filter (fun c => !c.members.isEmpty || decide (s.now < c.first + 64))
    let s : State := { s with sws.voq := s.sws.voq ++ [⟨ingress, egress, p, s.now, p.excess, false⟩],
                              sws.combining := if combinable ingress p then live ++ [⟨p, [], s.now⟩] else live }
    let s := s.addF F.SWS_VOQ_BYTES p.bytes ingress
    s.trackMax F.SWS_VOQ_PEAK_BYTES (s.fld F.SWS_VOQ_BYTES ingress) ingress

/-- Hand a packet to the switch core; while the ingress buffer has no room for it, it waits at its sender, and what follows it on its VC behind it
(R316). -/
def State.enqueue (s : State) (ingress egress : Nat) (p : Packet) : State :=
  if s.sws.entering.any (fun q => q.ingress == ingress && q.pkt.vc == p.vc) ∨ !s.roomFor ingress p.vc p.bytes then
    { s with sws.entering := s.sws.entering ++ [⟨ingress, egress, p, s.now, p.excess, false⟩] }
  else s.enterVoq ingress egress p

/-- The ingress port of a packet of this member: the function that issued it, or for an answer the endpoint that served it. -/
def State.sourcePort (s : State) (p : Packet) : Nat :=
  if p.op ≥ 0x80 then endpointOf p
  else match s.fab.reqs.find? (fun r => r.pkt.tag == p.tag && r.pkt.op == p.op) with
    | some r => s.functionPort r.waiter
    | none => if p.vc = vcMGMT then portMgmt else if p.vc = vcSNOOP then portHome else portQueue

/-- Where a packet for this member goes: a request to its endpoint, an answer to the function that waits for it. -/
def State.homePort (s : State) (p : Packet) : Nat :=
  if p.op < 0x80 ∨ (0x90 ≤ p.op ∧ p.op < 0xA0) then endpointOf p
  else match s.fab.reqs.find? (fun r => r.pkt.tag == p.tag && r.pkt.op + 0x80 == p.op) with
    | some r => match s.functionPort r.waiter with | a => if 0x40 ≤ a ∧ a < 0x60 then portQueue else a
    | none => portQueue

/-- The member that an answer to a number reaches: that of a FAILED one its custodian, which replays its phases under its SOURCE (R121;
log entry 34). -/
def State.answeredAt (s : State) (p : Packet) : Nat :=
  if p.op ≥ 0x80 && s.memberState p.dst == .failed && !s.isSelf p.dst then partnerOf s.dom.members s.dom.spares p.dst else p.dst

/-- The egress port of a packet (R33, R34, R311). -/
def State.egressOf (s : State) (p : Packet) : Nat :=
  let d := s.answeredAt p
  if s.isSelf d then s.homePort p else s.pathPort d (s.pathOf { p with dst := d })

/-- Whether two ports are joined by the near path of the memory interconnect (R310). -/
def nearPath (a b : Nat) : Bool :=
  let engine (x : Nat) : Bool := decide ((100 ≤ x ∧ x < 116) ∨ x = 118 ∨ x = 119 ∨ x = 121)
  let memory (x : Nat) : Bool := decide (116 ≤ x ∧ x ≤ 118)
  (engine a && memory b) || (memory a && engine b)

/-- A packet reaches an endpoint of this member, where it waits for the step that serves it. -/
def State.deliver (s : State) (port : Nat) (p : Packet) : State := { s with sws.delivered := s.sws.delivered ++ [(port, p)] }

/-- Send a packet of a device function towards its destination: over the near path to the own memory, else through the switch
core. -/
def State.send (s : State) (p : Packet) : State :=
  let i := s.sourcePort p
  let e := s.egressOf p
  if s.isSelf (s.answeredAt p) ∧ nearPath i e then s.deliver e p else s.enqueue i e p

/-- The current epoch towards a destination (R256). -/
def State.epochOf (s : State) (d : Nat) : Nat := s.fld (F.FAB_MEMBER_EPOCH.at d)

/-- Advance the epoch of a destination, modulo 65,536 (R256). -/
def State.bumpEpoch (s : State) (d : Nat) : State := s.bumpSeq (F.FAB_MEMBER_EPOCH.at d)

/-- Whether a response answers a request (R234, R247): its opcode and tag, the SRC it went out under, and, of a mirrored write or a parity
packet, whose tag is that of the write, the range and the write's source. -/
def Request.answeredBy (r : Request) (rsp : Packet) : Bool :=
  r.pkt.tag == rsp.tag && r.pkt.op + 0x80 == rsp.op && r.pkt.src == rsp.dst
    && !((r.pkt.op == opMIRROR || r.pkt.op == opPARITY) && !r.pkt.isMirrorTraffic && (r.pkt.addr != rsp.addr || r.pkt.aux != rsp.aux))

/-! ### Tags (R244) -/

def txTagFirst := 0x800000000000
def txTagLast := 0xFFFFFFFFFFFE
def jnlTagLast := 0x7FFFFFFFFFFF

/-- Draw a transaction tag. -/
def State.drawTag (s : State) : Nat × State :=
  let t := s.fab.txTag
  (t, { s with fab.txTag := if t ≥ txTagLast then txTagFirst else t + 1 })

/-- Whether a tag range meets a tag held by a live entry of the journal. -/
def State.tagsHeld (s : State) (base n : Nat) : Option Nat :=
  (s.works.find? (fun w => decide (base ≤ w.tag ∧ w.tag < base + n)
      || decide (w.tagCount ≠ 0 ∧ w.tagBase < base + n ∧ base < w.tagBase + w.tagCount))).map
    (fun w => max (w.tag + 1) (w.tagBase + w.tagCount))

/-- The first free range of `n` tags of the journalled counter, skipping tags held by live entries; each skipped request
costs one unit of fuel. -/
def State.jnlRange (s : State) (n : Nat) : Nat → Nat → Nat
  | 0, base => base
  | fuel + 1, base =>
    let base := if base + n > jnlTagLast + 1 ∨ base = 0 then 1 else base
    match s.tagsHeld base n with
    | some b => s.jnlRange n fuel b
    | none => base

/-- Draw `n` consecutive journalled tags; the retention SRAM keeps the high-water mark (R244). -/
def State.drawJnlTags (s : State) (n : Nat) : Nat × State :=
  let base := s.jnlRange n (2 * s.works.length + 2) s.fab.jnlTag
  (base, { s with fab.jnlTag := if base + n > jnlTagLast then 1 else base + n,
                  jnl.retentionTag := max s.jnl.retentionTag (base + n - 1) })

/-! ### Issuing requests (R247, R252, R36) -/

/-- Whether a packet counts in the REQ (0) or in the BULK (1) window of R252; SCHED counts in neither (R327). -/
def windowClass (vc : Nat) : Nat := if vc = vcBULK then 1 else if vc = vcSCHED then 2 else 0

/-- Requests outstanding to a destination in the window class of a VC. -/
def State.outstanding (s : State) (d vc : Nat) : Nat :=
  (s.fab.reqs.filter (fun r => r.pkt.dst == d && windowClass r.pkt.vc == windowClass vc
    && !(r.pkt.op == opBLOCK_WRITE && decide (r.pkt.aux % 16 ≠ 0)))).length

/-- A tag as a phase of this member knows it: that of another SOURCE with the SOURCE plus 1 above its 48 bits (R121). -/
def State.innerTag (s : State) (src tag : Nat) : Nat := if s.isSelf src then tag else tag + 2 ^ 48 * (src + 1)

/-- The SOURCE of a phase tag. -/
def State.tagSource (s : State) (t : Nat) : Nat := if t < 2 ^ 48 then s.devnum else t / 2 ^ 48 - 1

/-- Tags at the target of a packet that this member has not retired (R117): outstanding, waiting for their RETIRE, of earlier phases, and of
running phases as far as they have been used; of the packet's own phase, those before its tag. -/
def State.unretired (s : State) (p : Packet) : Nat :=
  let d := p.dst
  let t := s.innerTag p.src p.tag
  let flying (lo hi : Nat) : Nat :=
    (s.fab.reqs.filter (fun r => let u := s.innerTag r.pkt.src r.pkt.tag; decide (lo ≤ u ∧ u < hi))).length
  let used (w : Work) : Nat :=
    if w.targets.contains d then
      let hi := if w.tagBase ≤ t ∧ t < w.tagBase + w.tagCount then t else w.nextTag
      (hi - w.tagBase) - flying w.tagBase hi
    else 0
  let old (w : Work) : Nat := w.oldTags.foldl (fun n o => if o.2.2.contains d then n + o.2.1 else n) 0
  (s.fab.reqs.filter (fun r => r.pkt.dst == d && r.pkt.tagged)).length + (s.fab.retire.filter (fun r => r.dst == d)).length
    + s.works.foldl (fun n w => n + used w + old w) 0

/-- A packet that accesses memory of its DGA's owner. -/
def Packet.onMemory (p : Packet) : Bool :=
  p.op == opLOAD || p.op == opSTORE || p.op == opATOMIC || p.op == opBLOCK_READ || p.op == opBLOCK_WRITE || p.op == opTILE_COMMIT

/-- Whether a request names memory of the number whose rebinding this member has received and not yet applied (R420). -/
def State.rebindHeld (s : State) (p : Packet) : Bool :=
  match s.ras.rebindHold with
  | some q => p.onMemory && dgaDev p.addr == field q.payload 22 1 % 64
  | none => false

/-- Whether a request must wait at its source: held for a rebinding (R420), beyond the end-to-end window (R252), or a tagged one with 4,096 unretired
tags at its target (R117). -/
def State.mustWait (s : State) (p : Packet) : Bool :=
  s.rebindHeld p || p.vc != vcMGMT && ((p.vc != vcSCHED && decide (s.outstanding p.dst p.vc ≥ s.fld F.FAB_E2E_WINDOW))
    || (p.tagged && decide (s.unretired p ≥ 4096)))

/-- A path carries a request on REQ, SCHED or BULK: it is not drained until a marker has followed (R258). -/
def State.noteUse (s : State) (d vc : Nat) (path : Path) : State :=
  if (vc = vcREQ ∨ vc = vcSCHED ∨ vc = vcBULK) ∧ !s.isSelf d ∧ !s.fab.used.contains (d, vc, path) then
    { s with fab.used := s.fab.used ++ [(d, vc, path)] }
  else s

/-- Put a request on the fabric: it enters the source retry buffer and the switch core, or waits at the source. -/
def State.launch (s : State) (p : Packet) (w : Waiter) : State :=
  let path := s.pathOf p
  if s.mustWait p then { s with fab.waiting := s.fab.waiting ++ [⟨p, w, s.now, s.now, 0, path⟩] }
  else (({ s with fab.reqs := s.fab.reqs ++ [Request.mk p w s.now s.now 1 path] } : State).noteUse p.dst p.vc path).send p

/-- Issue a request of this member: SRC, EPOCH and, unless a phase tag is given, a transaction tag are filled in (R244,
R256); a phase tag of another SOURCE goes out under that SOURCE (R121). -/
def State.issue (s : State) (p : Packet) (w : Waiter) : State :=
  let (t, s) := if p.tag = 0 then s.drawTag else (p.tag, s)
  s.launch { p with src := s.tagSource t, tag := t % 2 ^ 48, epoch := s.epochOf p.dst } w

/-- A request that ends without leaving: its answer waits to be delivered to its waiter. -/
def State.answerNow (s : State) (w : Waiter) (p : Packet) (st : Status) : State :=
  { s with fab.answers := s.fab.answers ++ [(w, { p with op := p.op + 0x80, status := st.code, sectors := 0, payload := [] })] }

/-- How a request to a number in a given state and window is handled at its source (R36): a refusal, or the number that
serves it.  A FAILED number is served by its redundancy holder (R183), which `holder` names for the range's class. -/
def State.targetOf (s : State) (d w : Nat) (holder : Option Nat) : Except Status Nat :=
  match s.memberState d with
  | .active => .ok d
  | .absent => .error .noXlate
  | .joining => .error .stateConflict
  | .spare | .admitting => if w = 3 then .ok d else .error .access
  | .failed =>
    if w = 3 then .error .timeout
    else match holder with
      | some h => .ok h
      | none => .error .poison
  | .retired => if w = 3 then .ok d else .error .access

/-- Release requests that wait at the source, oldest first, as windows open (R252). -/
def State.releaseWaiting (s : State) : State :=
  let ws := s.fab.waiting
  ws.foldl (fun s r =>
    if s.mustWait r.pkt then { s with fab.waiting := s.fab.waiting ++ [r] }
    else
      let path := s.pathOf r.pkt
      (({ s with fab.reqs := s.fab.reqs ++ [{ r with sent := s.now, copies := 1, path := path }] } : State).noteUse r.pkt.dst r.pkt.vc path).send r.pkt)
    { s with fab.waiting := [] }

/-! ### Answering requests and dedup windows (R234, R245) -/

/-- The response to a request (R234): OP plus 0x80 on RSP, or on MGMT for an MGMT request. -/
def State.respond (s : State) (p : Packet) (st : Status) (payload : List Byte := []) (poison : Nat := 0) : State :=
  s.send { p with op := p.op + 0x80, vc := if p.vc = vcMGMT then vcMGMT else vcRSP, tagged := false, relayed := false,
                  noCombine := false, src := s.devnum, dst := p.src, status := st.code, atype := 0, rsvd := 0,
                  payload := padTo (64 * ceilDiv payload.length 64) payload, sectors := ceilDiv payload.length 64, poison := poison }

/-- A member that holds itself FAILED refuses every request that reaches it (R27, R474). -/
def State.unlessFailed (s : State) (p : Packet) (f : State → State) : State :=
  if s.dom.selfFailed && p.asks then s.respond p .stateConflict else f s

/-- The window entry of a source and tag. -/
def Fab.dedupOf (f : Fab) (src tag : Nat) : Option Dedup := f.dedup.find? (fun e => e.src == src && e.tag == tag)

/-- Record a request at once, marked pending (R245). -/
def State.dedupEnter (s : State) (src tag : Nat) : State :=
  ({ s with fab.dedup := s.fab.dedup ++ [Dedup.mk src tag true 0 [] [] [] []] }).addF F.FAB_DEDUP_IN_USE 1

/-- Serve a request through the dedup window of its source (R245): a recorded one is answered from the window, a pending
duplicate waits, a 4,097th entry is refused `BUSY`, and any other is recorded and applied. -/
def State.dedup (s : State) (p : Packet) (apply : State → State) : State :=
  if !p.tagged then apply s
  else match s.fab.dedupOf p.src p.tag with
    | some e =>
      if e.pending then
        { s with fab.dedup := s.fab.dedup.map (fun e' =>
            if e'.src == p.src && e'.tag == p.tag then { e' with waiting := e'.waiting ++ [p] } else e') }
      else (s.count F.FAB_DEDUP_HITS).respond p (.ofCode e.status) e.result
    | none =>
      if (s.fab.dedup.filter (fun e => e.src == p.src)).length ≥ 4096 then
        (s.count F.FAB_DEDUP_OVERFLOW).respond p .busy
      else apply (s.dedupEnter p.src p.tag)

/-- The outcome of a request is known: the window entry takes it, and the request and every duplicate that waits are answered
(R245).  A write that the home makes itself (OP 0, which no request has) has nobody to answer. -/
def State.finish (s : State) (p : Packet) (st : Status) (payload : List Byte := []) (poison : Nat := 0) : State :=
  if p.op = 0 then s
  else if !p.tagged then s.respond p st payload poison
  else
    let waiting := match s.fab.dedupOf p.src p.tag with | some e => e.waiting | none => []
    let s : State := { s with fab.dedup := s.fab.dedup.map (fun e =>
        if e.src == p.src && e.tag == p.tag then { e with pending := false, status := st.code, result := payload, waiting := [] }
        else e) }
    (p :: waiting).foldl (fun s q => s.respond q st payload poison) s

/-- Record in the window of the original source the tag and result of a write passed on by its owner (R245). -/
def State.dedupRecord (s : State) (src tag : Nat) (st : Status) (result : List Byte) (pieces : List Nat) : State :=
  match s.fab.dedupOf src tag with
  | some _ => s
  | none => ({ s with fab.dedup := s.fab.dedup ++ [Dedup.mk src tag false st.code result [] [] pieces] }).addF F.FAB_DEDUP_IN_USE 1

/-- A write of a source was passed to a member, to which its retirement is to be forwarded (R245). -/
def State.noteForward (s : State) (src tag dst : Nat) : State :=
  { s with fab.dedup := s.fab.dedup.map (fun e => if e.src == src && e.tag == tag then { e with forward := e.forward ++ [dst] } else e) }

/-- Drop every window entry that satisfies a test (R246, R248). -/
def State.dedupDrop (s : State) (f : Dedup → Bool) : State :=
  let kept := s.fab.dedup.filter (fun e => !f e)
  ({ s with fab.dedup := kept }).setF F.FAB_DEDUP_IN_USE kept.length

/-! ### Retirement (R246, R117) -/

/-- A tag may be retired at a target; `drain` holds it until every path that carried a copy is drained (R246). -/
def State.retireTag (s : State) (dst tag : Nat) (drain : Bool) : State :=
  { s with fab.retire := s.fab.retire ++ [⟨dst, s.tagSource tag, tag % 2 ^ 48, drain⟩] }

/-- The tags a RETIRE packet names: a run, or the set bits of its payload (R246). -/
def Packet.retired (p : Packet) (tag : Nat) : Bool :=
  if p.sectors = 0 then decide (p.tag ≤ tag ∧ tag < p.tag + p.aux)
  else decide (p.tag ≤ tag ∧ tag < p.tag + 512) && bitAt (leNat p.payload) (tag - p.tag)

/-- Send the retirements that wait for one destination, as one RETIRE of a bit map per 512 tags (R246). -/
def State.sendRetirements (s : State) (dst : Nat) : State :=
  let (mine, rest) := s.fab.retire.partition (fun r => r.dst == dst && !r.drain)
  match mine with
  | [] => s
  | _ =>
    let bases := (mine.map (fun r => (r.src, r.tag / 512 * 512))).dedup
    bases.foldl (fun s b =>
      let mask := maskOf ((mine.filter (fun r => (r.src, r.tag / 512 * 512) == b)).map (fun r => r.tag - b.2))
      (s.noteUse dst vcREQ (s.pathTo dst)).send { op := opRETIRE, vc := vcREQ, src := b.1, dst := dst, tag := b.2, sectors := 1, payload := natLe 64 mask })
      { s with fab.retire := rest }

/-! ### Drain markers and dead paths (R256 to R259) -/

/-- The VCs of REQ, SCHED and BULK that carried a request to `d` on a path since its last drain (R258). -/
def State.vcsOn (s : State) (d : Nat) (path : Path) : List Nat :=
  [vcREQ, vcSCHED, vcBULK].filter (fun vc => s.fab.used.contains (d, vc, path))

/-- Send a FENCE_MARK down a path on one VC (R258). -/
def State.sendMarker (s : State) (d vc : Nat) (path : Path) : State :=
  let n := s.fab.nextMarker
  let p : Packet := { op := opFENCE_MARK, vc := vc, src := s.devnum, dst := d, epoch := s.epochOf d, aux := n, tag := n }
  let s : State := { s with fab.nextMarker := n + 1, fab.markers := s.fab.markers ++ [⟨n, d, vc, path⟩],
                            fab.used := s.fab.used.filter (· != (d, vc, path)) }
  (s.count F.FAB_FENCE_MARKERS).enqueue portQueue (s.pathPort d path) p

/-- Re-send an outstanding request over the current path under its original tag and epoch (R247, R259). -/
def State.resend (s : State) (r : Request) : State :=
  let path := s.pathOf r.pkt
  if s.ridesAlong r.pkt.tag then s
  else
  let s : State := { s with fab.reqs := s.fab.reqs.map (fun q =>
      if q.pkt.tag == r.pkt.tag && q.pkt.src == r.pkt.src then { q with sent := s.now, copies := q.copies + 1, path := path } else q) }
  (s.noteUse r.pkt.dst r.pkt.vc path).send r.pkt

/-- The old path to `d` is dead (R259): its markers are not waited for and every unanswered request to `d` is re-sent. -/
def State.pathDead (s : State) (d : Nat) (path : Path) : State :=
  let s := s.count F.FAB_FENCE_DEAD_PATHS
  let s : State := { s with fab.markers := s.fab.markers.filter (fun m => !(m.dst == d && m.path == path)),
                            fab.used := s.fab.used.filter (fun u => !(u.1 == d && u.2.2 == path)) }
  (s.fab.reqs.filter (fun r => r.pkt.dst == d)).foldl State.resend s

/-- The relay that qualifies for number `d` (R34): the lowest ACTIVE number other than this member and `d` whose P-port from
here is up and whose latest heartbeat shows its P-port to `d` up. -/
def State.relayFor (s : State) (d : Nat) : Option Nat :=
  (List.range 64).find? (fun r => !s.isSelf r && r != d && s.memberState r == .active && s.portUp (s.pportTo r)
    && (match s.dom.heard.get? r with | some h => bitAt h.bitmap d | none => false))

/-- Choose the path towards `d` from the present ports and heartbeats (R34); a change is a re-route: the epoch advances
(R256), the old path is marked if it is still alive and declared dead if its P-port is down (R258, R259). -/
def State.reroute (s : State) (d : Nat) : State :=
  let old := s.pathTo d
  let new : Path := if s.portUp (s.pportTo d) then .direct
    else match s.relayFor d with | some r => .relay r | none => old
  if new = old then s
  else
    let s := if s.portUp (s.pathPort d old) then (s.vcsOn d old).foldl (fun s vc => s.sendMarker d vc old) s else s
    let dead := !s.portUp (s.pathPort d old)
    let s := match new with
      | .relay r => (s.setF (F.FAB_MEMBER_RELAYED.at d) 1).setF (F.FAB_MEMBER_RELAY.at d) r
      | _ => (s.setF (F.FAB_MEMBER_RELAYED.at d) 0).setF (F.FAB_MEMBER_RELAY.at d) 0
    let s := s.bumpEpoch d
    if dead then
      match old with
      | .relay r => s.issue { op := opRELAY_DRAIN, vc := vcMGMT, dst := r, aux := d } (.control opRELAY_DRAIN (d + 64 * r))
      | _ => s.pathDead d old
    else s

/-! ### Checks of a request at a port and at its owner (R262, R474) -/

/-- Count a partition-key failure; the first since the last read latches its port and key (R262). -/
def State.keyError (s : State) (port key : Nat) : State :=
  let s := if s.fld F.FAB_KEY_ERR_COUNT = 0 then (s.setF F.FAB_KEY_ERR_KEY key).setF F.FAB_KEY_ERR_PORT port else s
  s.count F.FAB_KEY_ERR_COUNT

/-- Opcodes of device traffic, which carry PKEY 0xFFFF and no other key (R262). -/
def deviceOp (op : Nat) : Bool :=
  let r := op % 0x80
  decide ((6 ≤ r ∧ r ≤ 9) ∨ r = 0x0B ∨ (0x20 ≤ r ∧ r ≤ 0x26))

/-- The key check of an ingress port (R262). -/
def State.portKeyOk (s : State) (port : Nat) (p : Packet) : Bool :=
  if 0x40 ≤ port ∧ port < 0x60 then
    match s.sliceOfAport (port - 0x40) with
    | some (_, sl) => p.pkey == s.keyOf sl.partition && decide (sl.ctxBase ≤ p.ctx ∧ p.ctx < sl.ctxBase + sl.ctxCount)
    | none => false
  else if deviceOp p.op then p.pkey == 0xFFFF
  else (s.partOfKey p.pkey).isSome

/-- Whether a cell is a mirror position this member holds for its partner's MIRRORED granule (R177). -/
def State.isMirrorPos (s : State) (cell : Nat) : Bool :=
  let tier := tierOfWin (cell / 2 ^ 56)
  let g := cell % 2 ^ 56 / granuleBytes tier
  let origin := partnerOfInv s.dom.members s.dom.spares s.devnum
  s.sil.allRuns.any (fun e => e.1 == origin && e.2.tier == tier && e.2.mirrored
    && decide (e.2.first ≤ g ∧ g < e.2.first + e.2.count))

/-- The window rule of R38 and R238 for a request. -/
def windowOk (p : Packet) : Bool :=
  let w := dgaWin p.addr
  if p.op = opBLOCK_READ ∨ p.op = opBLOCK_WRITE then w == 2 && p.addr % 4096 == 0 && p.size == 255
  else decide (w < 2)

/-- The checks of the owner endpoint, in the order of R474: steps 3 to 7. -/
def State.ownerFault (s : State) (p : Packet) : Option Status :=
  let cell := dgaCell p.addr
  if s.dom.selfFailed then some .stateConflict
  else if !windowOk p then some .access
  else if dgaOff p.addr + p.size ≥ s.populated (dgaWin p.addr) then some .bounds
  else match s.partOfCell cell with
    | none => some .keyMismatch
    | some part =>
      if s.keyOf part ≠ p.pkey then some .keyMismatch
      else if (s.dataKey part).isNone then some .stateConflict
      else none

/-- The data key of the partition that owns a cell (0 when none). -/
def State.keyFor (s : State) (cell : Nat) : Nat :=
  match s.partOfCell cell with
  | some part => (s.dataKey part).getD 0
  | none => 0

end Sys2Proof.Machine
end

