-- ==== Sys2Proof/Machine/Translate.lean ====
section
/-! DEFINITION. Contexts, extents, claims, translation, MAP, shootdown and revocation (spec/05, R131 to R160). -/

namespace Sys2Proof.Machine

def pageBytes := 4096

/-- Rights bits of an extent (R134). -/
def rREAD := 1
def rWRITE := 2
def rATOMIC := 4
def rCACHE := 8

def Extent.len (e : Extent) : Nat := e.pages * pageBytes

/-- Whether a virtual range [va, va + n) meets the extent. -/
def Extent.meets (e : Extent) (va n : Nat) : Bool := decide (e.va < va + n ∧ va < e.va + e.len)

def Extent.holds (e : Extent) (va : Nat) : Bool := decide (e.va ≤ va ∧ va < e.va + e.len)

/-- Whether the extent's DGA range meets [dga, dga + n). -/
def Extent.meetsDga (e : Extent) (dga n : Nat) : Bool := decide (e.dga < dga + n ∧ dga < e.dga + e.len)

def State.ctxEnabled (s : State) (c : Nat) : Bool := s.fld F.XLT_CTX_CFG_ENABLE c == 1

def State.compat (s : State) (c : Nat) : Bool := s.fld F.XLT_CTX_CFG_MODE c == 1

def State.hostBase (s : State) (c : Nat) : Nat := s.fld F.XLT_CTX_HOST_BASE_HOST_BASE c * pageBytes
def State.ctxLimit (s : State) (c : Nat) : Nat := s.fld F.XLT_CTX_LIMIT_PAGES c * pageBytes
def State.devBase (s : State) (c : Nat) : Nat := s.fld F.XLT_CTX_DEV_BASE_DEV_BASE c * pageBytes

/-- The extents of a context. -/
def State.extentsOf (s : State) (c : Nat) : List Extent := s.xlt.extents.filter (fun e => e.ctx == c)

/-- Conversion of an address a compatibility-mode context issues (R141); native mode issues it as it is. -/
def State.convert (s : State) (c va n : Nat) : Except (Status × Nat) Nat :=
  if !s.compat c then .ok va
  else if va ≥ 2 ^ 48 then .error (.noXlate, va)
  else if va < s.hostBase c ∨ va ≥ s.hostBase c + s.ctxLimit c then .error (.noXlate, va)
  else if va + n > s.hostBase c + s.ctxLimit c then .error (.noXlate, s.hostBase c + s.ctxLimit c)
  else .ok (va - s.hostBase c + s.devBase c)

/-- An address as the context sees it (R142). -/
def State.reported (s : State) (c va : Nat) : Nat := if s.compat c then va + s.hostBase c - s.devBase c else va

/-- The extent that serves lookups of an address: VALID or REVOKING (a WITHDRAWING extent is out of lookups, R153). -/
def lookupExtent (es : List Extent) (va : Nat) : Option Extent :=
  es.find? (fun e => e.holds va && e.state != .withdrawing)

/-- Walk a range extent by extent: the first unmapped byte, or the extents that hold it, first byte's first (R144). -/
def walkRange (es : List Extent) (stop : Nat) : Nat → Nat → Except Nat (List Extent)
  | 0, _ => .ok []
  | fuel + 1, va =>
    match lookupExtent es va with
    | none => .error va
    | some e =>
      if stop ≤ e.va + e.len then .ok [e]
      else match walkRange es stop fuel (e.va + e.len) with
        | .error b => .error b
        | .ok r => .ok (e :: r)

/-- A translated range: its DGA and the extent that holds it. -/
structure Xlated where
  dga : Nat
  ext : Extent
  deriving DecidableEq, Repr

/-- Translation of one whole range in the order of R144; R39 and R132 come first.  A fault carries its status and the address
reported, in the context's view (R142). -/
def State.translateAt (s : State) (c v n right : Nat) : Except (Status × Nat) Xlated :=
  if !s.ctxEnabled c then .error (.access, v)
  else if v ≥ 2 ^ 56 then .error (.noXlate, s.reported c v)
  else
    let es := s.extentsOf c
    match walkRange es (v + n) (es.length + 1) v with
    | .error b => .error (.noXlate, s.reported c b)
    | .ok hit =>
      match hit with
      | [] => .error (.noXlate, s.reported c v)
      | e :: rest =>
        if (e :: rest).any (fun x => x.state == .revoking) then .error (.revoked, s.reported c v)
        else if !rest.isEmpty then .error (.bounds, s.reported c v)
        else if e.rights &&& right ≠ right then .error (.access, s.reported c v)
        else .ok ⟨e.dga + (v - e.va), e⟩

/-- Translation of a range at an address the context issues: conversion first (R141, R143). -/
def State.translate (s : State) (c va n right : Nat) : Except (Status × Nat) Xlated :=
  if !s.ctxEnabled c then .error (.access, va)
  else match s.convert c va n with
    | .error f => .error f
    | .ok v => s.translateAt c v n right

/-- Whether a lookup of the range must be held: an ETC invalidation of one of its extents is in progress (R149). -/
def State.lookupHeld (s : State) (c va n : Nat) : Bool :=
  match s.convert c va n with
  | .error _ => false
  | .ok v => s.xlt.heldCtx.contains c
      || s.xlt.invalidating.any (fun t => t.1 == c && (s.extentsOf c).any (fun e => e.va == t.2.1 && e.meets v n))

/-- Whether a lookup of a context may have to be held: an ETC invalidation of one of its extents, or its reset, is in progress.  What an engine
looks up for a phase waits for it to end (R149). -/
def State.ctxHeld (s : State) (c : Nat) : Bool := s.xlt.heldCtx.contains c || s.xlt.invalidating.any (fun t => t.1 == c)

/-- Count a translation fault and latch the first since the last read (R147). -/
def State.noteFault (s : State) (c : Nat) (st : Status) (addr : Nat) : State :=
  let s := if s.fld F.XLT_CTX_FAULT_STATUS c = 0 then
      (s.setF F.XLT_CTX_FAULT_ADDR addr c).setF F.XLT_CTX_FAULT_STATUS st.code c else s
  match st with
  | .noXlate => s.count F.XLT_CTX_FCOUNT_NO_XLATE 1 c
  | .revoked => s.count F.XLT_CTX_FCOUNT_REVOKED 1 c
  | .access => s.count F.XLT_CTX_FCOUNT_ACCESS 1 c
  | .bounds => s.count F.XLT_CTX_FCOUNT_BOUNDS 1 c
  | _ => s

/-- Change the extent of a context that starts at `va`. -/
def State.modExtent (s : State) (c va : Nat) (f : Extent → Extent) : State :=
  { s with xlt.extents := s.xlt.extents.map (fun e => if e.ctx == c && e.va == va then f e else e) }

/-- The PINS and REFS of an extent's entry have changed: they are written with the step's settling (R134). -/
def State.recounted (s : State) (c va : Nat) : State :=
  if s.xlt.counted.contains (c, va) then s else { s with xlt.counted := s.xlt.counted ++ [(c, va)] }

/-- Take one reference in the same step as the lookup (R145). -/
def State.takeRef (s : State) (c va : Nat) : State := (s.modExtent c va (fun e => { e with refs := e.refs + 1 })).recounted c va

def State.takePin (s : State) (c va : Nat) : State := (s.modExtent c va (fun e => { e with pins := e.pins + 1 })).recounted c va

/-! ### The device's extent table (R134, R138, R139) -/

/-- The 64 bytes of an extent entry (R134). -/
def Extent.bytes (e : Extent) : List Byte :=
  let head := natLe 8 e.va ++ natLe 8 e.pages ++ natLe 8 e.dga ++ natLe 2 e.ctx ++ natLe 2 e.partition
    ++ natLe 1 e.rights ++ natLe 1 e.cls ++ natLe 1 (if e.alias_ then 1 else 0)
  head ++ natLe 1 e.state.code ++ natLe 4 e.pins ++ natLe 4 e.refs ++ zeros 20 ++ natLe 4 (crc32c head)

def Extent.crc (e : Extent) : Nat := crc32c (e.bytes.take 31)

/-- T1 offset of a context's table area (R138). -/
def State.tableArea (s : State) (c : Nat) : Nat := s.fld F.XLT_CTX_TABLE_AREA c * pageBytes

/-- Insert an extent in ascending order of context and VA_START (R138). -/
def insertExtent (e : Extent) : List Extent → List Extent
  | [] => [e]
  | x :: xs => if e.ctx < x.ctx ∨ (e.ctx = x.ctx ∧ e.va < x.va) then e :: x :: xs else x :: insertExtent e xs

/-- Show a context's count and checksum of VALID entries (R139). -/
def State.showTable (s : State) (c : Nat) : State :=
  let valid := (s.extentsOf c).filter (fun e => e.state == .valid)
  let s := s.setF F.XLT_CTX_STATUS_COUNT valid.length c
  s.setF F.XLT_CTX_SUM_SUM (valid.foldl (fun n e => n + e.crc) 0) c

/-- A context's table has changed from the entry at `va` on, `gone` entries fewer (R138, R139): its area is written with the step's settling. -/
def State.refreshTable (s : State) (c va gone : Nat) : State :=
  let old := s.xlt.dirty.filter (fun d => d.1 == c)
  let d := old.foldl (fun (d : Nat × Nat × Nat) o => (c, min d.2.1 o.2.1, d.2.2 + o.2.2)) (c, va, gone)
  { s.showTable c with xlt.dirty := s.xlt.dirty.filter (fun d => d.1 != c) ++ [d] }

/-- The entries of a table area, up to the first that is empty (R134, R138). -/
def tableEntries (m : Mem) (key area : Nat) : Nat → List Extent
  | 0 => []
  | n + 1 =>
    let b := m.readN key area 64
    if field b 31 1 = 0 then []
    else
      let e : Extent :=
        { ctx := field b 24 2, va := field b 0 8, pages := field b 8 8, dga := field b 16 8, partition := field b 26 2,
          rights := field b 28 1, cls := field b 29 1, alias_ := field b 30 1 == 1,
          state := if field b 31 1 = 1 then .valid else if field b 31 1 = 2 then .withdrawing else .revoking, pins := 0, refs := 0 }
      e :: tableEntries m key (area + 64) n

/-- Take a context's extents from its table area, as a spare does for the number it is admitted for (R137). -/
def State.loadTable (s : State) (c : Nat) : State :=
  let area := s.tableArea c
  let es := tableEntries s.mem (s.keyFor area) area (2 ^ min 16 (s.fld F.XLT_CTX_CFG_LOG2_CAP c))
  let s : State := { s with xlt.extents := es.foldl (fun t e => insertExtent e t) (s.xlt.extents.filter (fun e => e.ctx != c)) }
  s.showTable c

/-- One more MAP or shootdown of the context is complete (R139). -/
def State.bumpGen (s : State) (c : Nat) : State := s.bumpSeq F.XLT_CTX_STATUS_GEN c

/-! ### Claims at their owner (R135, R136) -/

def Claim.meets (k : Claim) (cell n : Nat) : Bool := decide (k.cell < cell + n ∧ cell < k.cell + k.bytes)

def Claim.covers (k : Claim) (cell n : Nat) : Bool := decide (k.cell ≤ cell ∧ cell + n ≤ k.cell + k.bytes)

/-- The quota and use registers of a tier. -/
def limitF (tier : Nat) : Fld :=
  if tier = 1 then F.TIER_PART_LIMIT_T1_LIMIT else if tier = 2 then F.TIER_PART_LIMIT_T2_LIMIT else F.TIER_PART_LIMIT_T3_LIMIT

def usedF (tier : Nat) : Fld :=
  if tier = 1 then F.TIER_PART_USED_T1_USED else if tier = 2 then F.TIER_PART_USED_T2_USED else F.TIER_PART_USED_T3_USED

def cellTier (cell : Nat) : Nat := tierOfWin (cell / 2 ^ 56)

/-- Show the numbers of claims and aliases (R136). -/
def State.refreshClaims (s : State) : State :=
  let a := (s.xlt.claims.filter (fun k => k.alias_)).length
  (s.setF F.XLT_CLAIM_USE_ALIASES a).setF F.XLT_CLAIM_USE_CLAIMS (s.xlt.claims.length - a)

/-- The granules a range of cells touches. -/
def granulesOf (cell n : Nat) : List Nat :=
  let b := granuleBytes (cellTier cell)
  let first := cell % 2 ^ 56 / b
  (List.range ((cell % 2 ^ 56 + n - 1) / b - first + 1)).map (fun i => first + i)

/-- Whether a range meets the table area of an enabled context of this member (R138). -/
def State.meetsTable (s : State) (cell n : Nat) : Bool :=
  cell / 2 ^ 56 == 0 && s.sil.comp.slices.any (fun e =>
    (List.range e.2.ctxCount).any (fun i =>
      let c := e.2.ctxBase + i
      s.ctxEnabled c && (let a := s.tableArea c
        decide (a < cell + n ∧ cell < a + 64 * 2 ^ s.fld F.XLT_CTX_CFG_LOG2_CAP c))))

/-- Checks 5 (size) and 7 to 11 of R140 made at the owner, in order; the class the extent takes when they pass. -/
def State.ownerMapCheck (s : State) (part cell n cls : Nat) (isAlias : Bool) : Except Status Nat :=
  if cell % 2 ^ 56 + n > s.populated (cell / 2 ^ 56) then .error .bounds
  else
    let tier := cellTier cell
    let gs := granulesOf cell n
    let cover := s.xlt.claims.find? (fun k => !k.alias_ && k.partition == part && k.covers cell n)
    if gs.any (fun g => s.partOfCell (cell / 2 ^ 56 * 2 ^ 56 + g * granuleBytes tier) != some part) then .error .keyMismatch
    else if !isAlias && cls == 1
        && gs.any (fun g => (match s.runOf tier g with | some r => !r.mirrored | none => true)) then .error .access
    else if s.meetsTable cell n then .error .access
    else if !isAlias && s.xlt.claims.any (fun k => !k.alias_ && k.meets cell n) then .error .stateConflict
    else if isAlias && cover.isNone then .error .access
    else if isAlias && (match cover with | some k => k.revoking.isSome | none => false) then .error .revoked
    else if !isAlias && decide (s.fld (usedF tier) part + n > s.fld (limitF tier) part) then .error .quota
    else if isAlias && decide (s.fld F.XLT_CLAIM_USE_ALIASES ≥ 524288) then .error .busy
    else if !isAlias && decide (s.fld F.XLT_CLAIM_USE_CLAIMS ≥ 262144) then .error .busy
    else .ok (match cover with | some k => if isAlias then k.cls else cls | none => cls)

/-- Record a claim with its quota charge, or an alias (R135). -/
def State.addClaim (s : State) (k : Claim) : State :=
  let s : State := { s with xlt.claims := s.xlt.claims ++ [k] }
  let s := if k.alias_ then s else s.addF (usedF (cellTier k.cell)) k.bytes k.partition
  let s := if !k.alias_ && k.cls == 2 then s.addF F.TIER_ARM_ARMING 1 else s
  s.refreshClaims

/-- Record a claim or alias unless it is there already (R137). -/
def State.recordClaim (s : State) (k : Claim) : State :=
  if s.xlt.claims.any (fun c => c.dev == k.dev && c.ctx == k.ctx && c.va == k.va && c.cell == k.cell && c.alias_ == k.alias_) then s
  else s.addClaim k

/-- Release a claim or alias; a P2 claim is disarmed before its range is free (R135, R181). -/
def State.dropClaims (s : State) (f : Claim → Bool) : State :=
  let gone := s.xlt.claims.filter (fun k => f k && !k.scrubbing)
  let s : State := { s with xlt.claims := s.xlt.claims.filterMap (fun k =>
      if f k && !k.scrubbing then (if !k.alias_ && k.cls == 2 && decide (k.armed ≠ 0) then some { k with scrubbing := true } else none)
      else some k) }
  let s := gone.foldl (fun s k => if k.alias_ then s else s.subF (usedF (cellTier k.cell)) k.bytes k.partition) s
  let p2 := gone.filter (fun k => !k.alias_ && k.cls == 2)
  let s := s.subF F.TIER_ARM_ARMING (p2.filter (fun k => decide (65536 * k.armed < k.bytes))).length
  let s := s.addF F.TIER_ARM_SCRUBBING (p2.filter (fun k => decide (k.armed ≠ 0))).length
  let held (g : Nat × Nat × Nat) : Bool := !s.isSelf g.1 || s.xlt.claims.any (fun k => !k.alias_ && cellTier k.cell == g.2.1
    && decide (k.cell % 2 ^ 56 / granuleBytes g.2.1 ≤ g.2.2 ∧ g.2.2 ≤ (k.cell + k.bytes - 1) % 2 ^ 56 / granuleBytes g.2.1))
  let s : State := { s with tier.lost := s.tier.lost.filter held,
                            tier.told := s.tier.told.filter (fun a => !gone.any (fun k => !k.alias_ && mkDga s.devnum 0 0 + k.cell == a)) }
  s.refreshClaims

/-- The aliases registered on the claim of an extent's range. -/
def State.aliasesOn (s : State) (cell n : Nat) : Nat :=
  (s.xlt.claims.filter (fun k => k.alias_ && k.meets cell n)).length

/-! ### XLT_CTRL packets (R234; layout beyond R159: log entry 20) -/

def xcMAP := 1
def xcRELEASE := 2
def xcREVOKE := 3
def xcDRAINED := 4
def xcQUERY := 5
def xcALIASES := 7

/-- What an XLT_CTRL packet carries: bytes 0 to 5 the request's tag, byte 6 the accepting member (R159); then the kind's
fields. -/
structure XltMsg where
  tag : Nat := 0
  member : Nat := 0
  role : Nat := 0
  cell : Nat := 0
  bytes : Nat := 0
  ctx : Nat := 0
  partition : Nat := 0
  cls : Nat := 0
  isAlias : Bool := false
  count : Nat := 0
  va : Nat := 0
  deriving DecidableEq, Repr

def XltMsg.encode (m : XltMsg) : List Byte :=
  natLe 6 m.tag ++ natLe 1 m.member ++ natLe 1 m.role ++ natLe 8 m.cell ++ natLe 8 m.bytes ++ natLe 2 m.ctx
    ++ natLe 2 m.partition ++ natLe 1 m.cls ++ natLe 1 (if m.isAlias then 1 else 0) ++ natLe 2 0 ++ natLe 8 m.count
    ++ natLe 8 m.va ++ zeros 16

def XltMsg.decode (b : List Byte) : XltMsg :=
  { tag := field b 0 6, member := field b 6 1, role := field b 7 1, cell := field b 8 8, bytes := field b 16 8,
    ctx := field b 24 2, partition := field b 26 2, cls := field b 28 1, isAlias := field b 29 1 == 1,
    count := field b 32 8, va := field b 40 8 }

/-- Send an XLT_CTRL request. -/
def State.xltSend (s : State) (dst kind : Nat) (m : XltMsg) (w : Waiter) : State :=
  s.issue { op := opXLT_CTRL, vc := vcMGMT, tagged := true, dst := dst, aux := kind, sectors := 1, size := 63,
            payload := m.encode } w

/-! ### MAP (R140) -/

def State.mapJob (s : State) : SeatId → Option MapJob
  | .a => s.xlt.mapA | .b => s.xlt.mapB

def State.setMapJob (s : State) (x : SeatId) (j : Option MapJob) : State :=
  match x with
  | .a => { s with xlt.mapA := j }
  | .b => { s with xlt.mapB := j }

/-- Status states of `XLT_MAP_STATUS.STATE`: 0 IDLE, 1 busy. -/
def State.mapOutcome (s : State) (x : SeatId) (st : Status) (detail : Nat) : State :=
  let b := x.idx
  let s := (((s.setF F.XLT_MAP_STATUS_STATUS st.code b).setF F.XLT_MAP_STATUS_DETAIL detail b).bumpSeq F.XLT_MAP_STATUS_SEQ b)
  (s.setF F.XLT_MAP_STATUS_STATE 0 b).setMapJob x none

/-- The slice default class of a tier (R58). -/
def Slice.dclass (sl : Slice) (tier : Nat) : Nat :=
  if tier = 1 then sl.dclassT1 else if tier = 2 then sl.dclassT2 else sl.dclassT3

/-- The extent the staging registers of a seat describe. -/
def State.stagedExtent (s : State) (x : SeatId) : Extent :=
  let b := x.idx
  let c := s.fld F.XLT_CTX_SEL_CTX b
  let dga := s.fld F.XLT_MAP_DGA_DGA b * pageBytes
  let cls := s.fld F.XLT_MAP_ATTR_CLASS b
  let isAlias := s.fld F.XLT_MAP_ATTR_ALIAS b == 1
  let cls := if cls = 3 ∧ !isAlias then
      (match s.sliceOfCtx c with | some (_, sl) => sl.dclass (tierOfWin (dgaWin dga)) | none => 0) else cls
  { ctx := c, va := s.fld F.XLT_MAP_VA_VA b * pageBytes, pages := s.fld F.XLT_MAP_LEN_PAGES b, dga := dga,
    partition := s.partOfCtx c, rights := s.fld F.XLT_MAP_ATTR_RIGHTS b, cls := cls, alias_ := isAlias, state := .valid,
    pins := 0, refs := 0 }

/-- Whether a CONTEXT_CFG entry of a context waits to take effect. -/
def State.contextChanging (s : State) (c : Nat) : Bool :=
  s.jnl.ring.any (fun e => e.2.kind == jkCONTEXT_CFG && e.2.queue == c && s.jnl.toEffect.contains e.1)

/-- Checks 1 to 6 of R140, in order; the size check of a remote owner's window is made there.  A context whose disable is journalled and has
not taken effect takes no extent (R132; log entry 56). -/
def State.mapFault (s : State) (x : SeatId) (e : Extent) : Option Status :=
  let b := x.idx
  let raw := s.fld F.XLT_MAP_ATTR_CLASS b
  let w := dgaWin e.dga
  let classes := match s.sil.comp.partitions.get? e.partition with | some p => p.classes | none => 0
  if e.pages = 0 ∨ e.rights % 8 = 0 ∨ (e.alias_ ∧ raw ≠ 3) ∨ (raw = 2 ∧ w = 0) ∨ (e.rights ≥ 8 ∧ w = 2) then some .badDescriptor
  else if !s.ctxEnabled e.ctx ∨ s.contextChanging e.ctx ∨ (s.mapJob x).isSome then some .stateConflict
  else if (s.extentsOf e.ctx).any (fun f => f.meets e.va e.len) then some .stateConflict
  else if w = 3 ∨ (!e.alias_ ∧ !bitAt classes e.cls) then some .access
  else if e.va + e.len > 2 ^ 56 ∨ e.len > 2 ^ 48 ∨ dgaOff e.dga + e.len > 2 ^ 56
      ∨ (s.isSelf (dgaDev e.dga) ∧ dgaOff e.dga + e.len > s.populated w) then some .bounds
  else if s.memberState (dgaDev e.dga) ≠ .active then some .stateConflict
  else none

/-- The index of an entry in its context's table. -/
def State.entryIndex (s : State) (e : Extent) : Nat := ((s.extentsOf e.ctx).filter (fun f => decide (f.va < e.va))).length

/-- The owner has recorded the claim: enter the extent, or undo it when the context's table is full (check 11).  An extent that the other seat
has entered since check 3 and that it overlaps refuses it as check 3 does: no two extents overlap (R133; log entry 56). -/
def State.mapFinish (s : State) (x : SeatId) (e : Extent) (undo : State → State) : State :=
  if (s.extentsOf e.ctx).any (fun f => f.meets e.va e.len) then (undo s).mapOutcome x .stateConflict 0
  else if (s.extentsOf e.ctx).length ≥ 2 ^ s.fld F.XLT_CTX_CFG_LOG2_CAP e.ctx then (undo s).mapOutcome x .busy 0
  else
    let s : State := { s with xlt.extents := insertExtent e s.xlt.extents }
    ((s.refreshTable e.ctx e.va 0).bumpGen e.ctx).mapOutcome x .done (s.entryIndex e)

/-- The claim record of an extent. -/
def claimOf (e : Extent) (dev : Nat) : Claim :=
  ⟨dev, e.ctx, dgaCell e.dga, e.len, e.partition, e.cls, e.alias_, none, e.va, 0, 0, false⟩

/-- MAP of a seat (R140): refused, made at once on this member, or sent to its owner. -/
def State.mapCmd (s : State) (x : SeatId) : State :=
  let e := s.stagedExtent x
  match s.mapFault x e with
  | some st =>
    if (s.mapJob x).isSome then
      ((s.setF F.XLT_MAP_STATUS_STATUS st.code x.idx).bumpSeq F.XLT_MAP_STATUS_SEQ x.idx)
    else s.mapOutcome x st 0
  | none =>
    let owner := dgaDev e.dga
    if s.isSelf owner then
      match s.ownerMapCheck e.partition (dgaCell e.dga) e.len e.cls e.alias_ with
      | .error st => s.mapOutcome x st 0
      | .ok cls =>
        let e := { e with cls := cls }
        let k := claimOf e s.devnum
        (s.addClaim k).mapFinish x e (fun s => s.dropClaims (fun k' => k' == k))
    else
      let (t, s) := s.drawTag
      let s := (s.setMapJob x (some ⟨e, owner, t⟩)).setF F.XLT_MAP_STATUS_STATE 1 x.idx
      s.issue { op := opXLT_CTRL, vc := vcMGMT, tagged := true, dst := owner, tag := t, aux := xcMAP, sectors := 1, size := 63,
                payload := ({ cell := dgaCell e.dga, bytes := e.len, ctx := e.ctx, partition := e.partition, cls := e.cls,
                              isAlias := e.alias_, va := e.va : XltMsg }).encode } (.mapOwner x)

/-- Whether a claim or alias is the one an extent made, and may go with it: a claim that is being revoked goes when every report is in
(R158). -/
def Claim.releasedBy (k : Claim) (dev ctx cell bytes va : Nat) (isAlias : Bool) : Bool :=
  k.dev == dev && k.ctx == ctx && k.cell == cell && k.bytes == bytes && k.va == va && k.alias_ == isAlias && (k.alias_ || k.revoking.isNone)

/-- The owner's side of a MAP check, alias registration or release sent by another member (R135, R140).  A spare being loaded records what the
members' extents name without checks (R137). -/
def State.xltServe (s : State) (p : Packet) : State :=
  let m := XltMsg.decode p.payload
  let claim (cls : Nat) : Claim := ⟨p.src, m.ctx, m.cell, m.bytes, m.partition, cls, m.isAlias, none, m.va, 0, 0, false⟩
  s.dedup p (fun s =>
    if p.aux = xcMAP then
      if s.fld F.TIER_REBUILD_STATUS_STATE = 1 then (s.recordClaim (claim m.cls)).finish p .done (natLe 16 m.cls)
      else match s.ownerMapCheck m.partition m.cell m.bytes m.cls m.isAlias with
        | .error st => s.finish p st
        | .ok cls => (s.addClaim (claim cls)).finish p .done (natLe 16 cls)
    else if p.aux = xcRELEASE then
      (s.dropClaims (fun k => k.releasedBy p.src m.ctx m.cell m.bytes m.va m.isAlias)).finish p .done
    else if p.aux = xcALIASES then s.finish p .done (natLe 8 (s.aliasesOn m.cell m.bytes))
    else if p.aux = xcQUERY ∧ m.role = 3 then
      let dga := mkDga m.count 0 0 + m.cell
      match s.xlt.extents.find? (fun e => !e.alias_ && e.partition == m.partition && e.meetsDga dga m.bytes) with
      | some e => s.finish p .done (natLe 8 e.dga ++ natLe 8 e.len)
      | none => s.finish p .done
    else s.finish p .badDescriptor)

/-- Ask the owner to release a claim or alias (R153): at once on this member, else by XLT_CTRL. -/
def State.releaseClaim (s : State) (e : Extent) : State :=
  let owner := dgaDev e.dga
  if s.isSelf owner then
    s.dropClaims (fun k => k.releasedBy s.devnum e.ctx (dgaCell e.dga) e.len e.va e.alias_)
  else if s.memberState owner = .active then
    s.xltSend owner xcRELEASE { cell := dgaCell e.dga, bytes := e.len, ctx := e.ctx, isAlias := e.alias_, va := e.va } .none
  else s

/-- The owner's answer to a remote MAP (R140). -/
def State.mapAnswer (s : State) (x : SeatId) (tag : Nat) (st : Status) (cls : Nat) : State :=
  match s.mapJob x with
  | some j =>
    if j.tag = tag then
      if st = .done then s.mapFinish x { j.ext with cls := cls } (fun s => s.releaseClaim j.ext) else s.mapOutcome x st 0
    else s
  | none => s

/-- No answer from the owner within the management timeout (R140, R41). -/
def State.mapTimedOut (s : State) (x : SeatId) : State :=
  match s.mapJob x with
  | some j =>
    let s : State := { s with fab.reqs := s.fab.reqs.filter (fun r => !(r.pkt.tag == j.tag)) }
    (s.releaseClaim j.ext).mapOutcome x .timeout 0
  | none => s

/-! ### Contexts (R132, R137) -/

/-- The checks of a context's enable, in the order of `XLT_CTX_CFG.ENABLE`. -/
def State.enableFault (s : State) (c : Nat) : Option Status :=
  let t := s.fld F.XLT_CTX_CFG_LOG2_CAP c
  let area := s.tableArea c
  match s.sliceOfCtx c with
  | none => some .access
  | some (n, _) =>
    if t < 4 ∨ t > 16 then some .badDescriptor
    else if (granulesOf area (64 * 2 ^ t)).any (fun g =>
        (match s.runOf 1 g with | some r => !(r.slice == n && r.mirrored) | none => true)) then some .access
    else if s.compat c ∧ s.fld F.XLT_CTX_LIMIT_PAGES c = 0 then some .badDescriptor
    else if s.compat c ∧ (s.hostBase c + s.ctxLimit c > 2 ^ 48 ∨ s.devBase c + s.ctxLimit c > 2 ^ 56) then some .bounds
    else none

/-- Whether a MAP of the context is outstanding. -/
def State.mapOutstanding (s : State) (c : Nat) : Bool :=
  [s.xlt.mapA, s.xlt.mapB].any (fun j => match j with | some j => j.ext.ctx == c | none => false)

/-! ### Extent states (R149, R153) -/

/-- Begin a state change of an extent: its ETC entries are being invalidated and lookups of it are held (R149). -/
def State.beginChange (s : State) (c va : Nat) (next : ExtState) : State :=
  { s with xlt.invalidating := s.xlt.invalidating ++ [(c, va, next)] }

/-- The extent a shootdown or REVOKE may move: VALID and not already in transition. -/
def State.isSettled (s : State) (e : Extent) : Bool :=
  e.state == .valid && !s.xlt.invalidating.any (fun t => t.1 == e.ctx && t.2.1 == e.va)

/-- Whether an extent on its way out has become empty: no reference, no pin, no recall outstanding (R153). -/
def State.isEmpty (s : State) (e : Extent) : Bool :=
  e.state != .valid && e.refs == 0 && e.pins == 0 && !s.xlt.recalls.contains (e.ctx, e.va)

def State.shootJob (s : State) : SeatId → Option ShootJob
  | .a => s.xlt.shootA | .b => s.xlt.shootB

def State.setShootJob (s : State) (x : SeatId) (j : Option ShootJob) : State :=
  match x with
  | .a => { s with xlt.shootA := j }
  | .b => { s with xlt.shootB := j }

/-- Post an outcome in `XLT_SHOOT_STATUS`: SEQ advances; STATE and DETAIL are kept while a shootdown is outstanding (R154). -/
def State.shootRefuse (s : State) (x : SeatId) (st : Status) : State :=
  (s.setF F.XLT_SHOOT_STATUS_STATUS st.code x.idx).bumpSeq F.XLT_SHOOT_STATUS_SEQ x.idx

def State.shootDone (s : State) (x : SeatId) (detail : Nat) : State :=
  let b := x.idx
  ((((s.setF F.XLT_SHOOT_STATUS_STATUS 0 b).setF F.XLT_SHOOT_STATUS_DETAIL detail b).bumpSeq F.XLT_SHOOT_STATUS_SEQ b).setF
    F.XLT_SHOOT_STATUS_STATE 0 b).setShootJob x none

/-- A seat's shootdown whose extents have all become empty completes with `DONE`, and the context's GEN advances (R139, R154). -/
def State.shootSettle (s : State) (x : SeatId) : State :=
  match s.shootJob x with
  | some j =>
    if !j.checking && j.targets.all (fun t => !s.xlt.extents.any (fun e => e.ctx == t.1 && e.va == t.2)) then
      (s.bumpGen j.ctx).shootDone x j.total
    else s
  | none => s

/-- A seat's shootdown whose extents have all passed to WITHDRAWING shows DRAINING (R154). -/
def State.shootShow (s : State) (x : SeatId) : State :=
  match s.shootJob x with
  | some j =>
    if !j.checking && !j.targets.any (fun t => s.xlt.invalidating.any (fun u => u.1 == t.1 && u.2.1 == t.2)) then
      s.setF F.XLT_SHOOT_STATUS_STATE 2 x.idx
    else s
  | none => s

/-- A revocation this member takes part in whose extents are all empty reports (R158): to the owner, or at the owner once every
member has reported, to the custodian, releasing the claim; the claim of a member that is FAILED stays (R160). -/
def State.revSettle (s : State) (r : Revocation) : State :=
  let mine := s.xlt.extents.any (fun e => e.partition == r.partition && e.meetsDga r.range.1 r.range.2)
  if mine ∨ !r.awaiting.isEmpty then s
  else match r.reportTo with
    | none => s
    | some d =>
      let s : State := { s with xlt.revs := s.xlt.revs.map (fun q => if q == r then { q with reportTo := none } else q) }
      let owner := s.isSelf (dgaDev r.range.1)
      let kept (k : Claim) : Bool := s.memberState k.dev == .failed || s.memberState k.dev == .retired
      let mine (k : Claim) : Bool := k.meets (dgaCell r.range.1) r.range.2 && k.revoking.isSome
      let s : State := if owner then
          let s := s.dropClaims (fun k => mine k && !kept k)
          { s with xlt.claims := s.xlt.claims.map (fun k => if mine k && !k.scrubbing then { k with revoking := none } else k) }
        else s
      let msg (d t c : Nat) (s : State) : State :=
        if s.isSelf d then
          { s with xlt.revs := s.xlt.revs.map (fun q => if q.member == d && q.tag == t && q.reportTo == none && q != r then
              { q with sum := q.sum + c, awaiting := [] } else q),
                   fab.answers := s.fab.answers ++ [(Waiter.control xcDRAINED t,
                     { op := opXLT_CTRL + 0x80, aux := xcDRAINED, src := s.devnum, tag := t, payload := natLe 8 c })] }
        else s.xltSend d xcDRAINED { tag := t, member := r.member, count := c, role := if owner then 1 else 0 } .none
      let s := msg d r.tag (r.count + r.sum) s
      r.joined.foldl (fun s j => msg j.1 j.2 0 s) s

/-- Clear every extent that has become empty, releasing its claim; shootdowns and revocations it completes follow (R153,
R154, R158).  This is the step EXTENT_EMPTY of spec/95. -/
def State.sweepExtents (s : State) : State :=
  let gone := s.xlt.extents.filter (fun e => s.isEmpty e)
  match gone with
  | [] => s
  | _ =>
    let s := gone.foldl (fun s e =>
      let s : State := { s with xlt.extents := s.xlt.extents.filter (fun f => !(f.ctx == e.ctx && f.va == e.va)) }
      (s.refreshTable e.ctx e.va 1).releaseClaim e) s
    let s := (s.shootSettle .a).shootSettle .b
    s.xlt.revs.foldl State.revSettle s

/-- Release one reference of the extent that holds `va` (R145). -/
def State.dropRef (s : State) (c va : Nat) : State :=
  ((s.modExtent c va (fun e => { e with refs := e.refs - 1 })).recounted c va).sweepExtents

/-- Release one pin (R151). -/
def State.dropPin (s : State) (c va : Nat) : State :=
  ((s.modExtent c va (fun e => { e with pins := e.pins - 1 })).recounted c va).sweepExtents

/-- The invalidation of an extent's ETC entries completes and its state change takes effect (R149, R153); an extent agents may
cache is recalled before it can become empty. -/
def State.changeTakesEffect (s : State) (c va : Nat) : State :=
  match s.xlt.invalidating.find? (fun t => t.1 == c && t.2.1 == va), s.xlt.extents.find? (fun e => e.ctx == c && e.va == va) with
  | some t, some e =>
    let n := (s.xlt.etc.filter (fun x => x.ctx == c && e.meets (x.span * 2 ^ x.log2) (2 ^ x.log2))).length
    let s := s.count F.XLT_ETC_COUNT_INVALIDATED n
    let s : State := { s with
      xlt.etc := s.xlt.etc.filter (fun x => !(x.ctx == c && e.meets (x.span * 2 ^ x.log2) (2 ^ x.log2))),
      xlt.invalidating := s.xlt.invalidating.filter (fun u => !(u.1 == c && u.2.1 == va)) }
    let s := s.modExtent c va (fun e => { e with state := t.2.2 })
    let s : State := if e.rights ≥ 8 then { s with xlt.recalls := s.xlt.recalls ++ [(c, va)] } else s
    (((s.refreshTable c va 0).shootShow .a).shootShow .b)
  | _, _ => { s with xlt.invalidating := s.xlt.invalidating.filter (fun u => !(u.1 == c && u.2.1 == va)) }

/-! ### Shootdown (R154 to R156) -/

/-- How many aliases the claim of an extent has, as far as this member knows: an alias's claim is not asked of, this member's own claims are
counted, another owner's answer is taken; none while that answer is awaited.  An owner that is not ACTIVE has none to answer (log entry 56). -/
def State.aliasesKnown (s : State) (e : Extent) : Option Nat :=
  if e.alias_ then some 0
  else if s.isSelf (dgaDev e.dga) then some (s.aliasesOn (dgaCell e.dga) e.len)
  else if s.memberState (dgaDev e.dga) ≠ .active then some 0
  else match s.xlt.aliasAsks.find? (fun a => a.dga == e.dga) with
    | some a => a.answer
    | none => none

/-- Ask the owner of an extent's claim for its aliases, unless it is asked already (R153, R157). -/
def State.askAliases (s : State) (e : Extent) : State :=
  if (s.aliasesKnown e).isSome || s.xlt.aliasAsks.any (fun a => a.dga == e.dga) then s
  else ({ s with xlt.aliasAsks := s.xlt.aliasAsks ++ [⟨e.dga, none⟩] } : State).xltSend (dgaDev e.dga) xcALIASES
    { cell := dgaCell e.dga, bytes := e.len, partition := e.partition } (.control xcALIASES e.dga)

/-- The owner's answer to that question. -/
def State.aliasesAnswered (s : State) (dga n : Nat) : State :=
  { s with xlt.aliasAsks := s.xlt.aliasAsks.map (fun a => if a.dga == dga then { a with answer := some n } else a) }

/-- An answer that has been used: the next question is asked afresh. -/
def State.aliasesUsed (s : State) (e : Extent) : State :=
  { s with xlt.aliasAsks := s.xlt.aliasAsks.filter (fun a => !(a.dga == e.dga && a.answer.isSome)) }

/-- The refusal of a shootdown of these extents, if any (R152, R153): all or nothing. -/
def State.shootFault (s : State) (es : List Extent) : Option Status :=
  if es.any (fun e => !s.isSettled e) then some .stateConflict
  else if es.any (fun e => decide (e.pins ≠ 0) || decide ((s.aliasesKnown e).getD 0 ≠ 0)) then some .busy
  else none

/-- An accepted shootdown: its extents pass to WITHDRAWING once their ETC entries are invalidated (R149, R154). -/
def State.shootBegin (s : State) (x : SeatId) (c started : Nat) (late : Bool) (es : List Extent) : State :=
  let s := es.foldl (fun s e => (s.aliasesUsed e).beginChange e.ctx e.va .withdrawing) s
  (s.setShootJob x (some ⟨c, es.map (fun e => (e.ctx, e.va)), es.length, started, late, false⟩)).shootSettle x

/-- Start a shootdown of a list of extents of a context (R154): BUSY while owners are asked for aliases, then DRAINING. -/
def State.shootStart (s : State) (x : SeatId) (c : Nat) (es : List Extent) : State :=
  if (s.shootJob x).isSome then s.shootRefuse x .stateConflict
  else match s.shootFault es with
    | some st => s.shootRefuse x st
    | none =>
      let s := s.setF F.XLT_SHOOT_STATUS_STATE 1 x.idx
      if es.all (fun e => (s.aliasesKnown e).isSome) then s.shootBegin x c s.now false es
      else es.foldl State.askAliases (s.setShootJob x (some ⟨c, es.map (fun e => (e.ctx, e.va)), es.length, s.now, false, true⟩))

/-- A shootdown that waited for the owners of its extents' claims goes on once all have answered. -/
def State.shootCheck (s : State) (x : SeatId) : State :=
  match s.shootJob x with
  | some j =>
    let es := (s.extentsOf j.ctx).filter (fun e => j.targets.any (fun t => t.2 == e.va))
    if !j.checking || !es.all (fun e => (s.aliasesKnown e).isSome) then s
    else match s.shootFault es with
      | some st =>
        let s := es.foldl State.aliasesUsed s
        ((s.setShootJob x none).setF F.XLT_SHOOT_STATUS_STATE 0 x.idx).shootRefuse x st
      | none => s.shootBegin x j.ctx j.started j.timedOut es
  | none => s

/-- UNMAP_RANGE: a range that cuts an extent is refused `BAD_DESCRIPTOR` (R154). -/
def State.unmapRange (s : State) (x : SeatId) : State :=
  let c := s.fld F.XLT_CTX_SEL_CTX x.idx
  let va := s.fld F.XLT_SHOOT_VA_VA x.idx * pageBytes
  let n := s.fld F.XLT_SHOOT_LEN_PAGES x.idx * pageBytes
  let es := (s.extentsOf c).filter (fun e => e.meets va n)
  if (s.shootJob x).isSome then s.shootRefuse x .stateConflict
  else if n = 0 then s.shootRefuse x .badDescriptor
  else if es.any (fun e => decide (e.va < va ∨ va + n < e.va + e.len)) then s.shootRefuse x .badDescriptor
  else s.shootStart x c es

/-- UNMAP_CONTEXT (R154). -/
def State.unmapContext (s : State) (x : SeatId) : State :=
  let c := s.fld F.XLT_CTX_SEL_CTX x.idx
  s.shootStart x c (s.extentsOf c)

/-- RELEASE_MEMBER: drop every claim and alias registered here by a FAILED or RETIRED member (R136). -/
def State.releaseMember (s : State) (x : SeatId) (d : Nat) : State :=
  if (s.shootJob x).isSome then s.shootRefuse x .stateConflict
  else if s.memberState d ≠ .failed ∧ s.memberState d ≠ .retired then s.shootRefuse x .stateConflict
  else
    let n := (s.xlt.claims.filter (fun k => k.dev == d && !k.scrubbing)).length
    (s.dropClaims (fun k => k.dev == d)).shootDone x n

/-- The shootdown timeout passes while a shootdown drains (R156): a first outcome, and an XLT record that names the first extent still
referenced, or the first still there when none is. -/
def State.shootTimedOut (s : State) (x : SeatId) : State :=
  match s.shootJob x with
  | some j =>
    if j.timedOut then s
    else
      let s := s.reach (j.started + s.fld F.XLT_SHOOT_TIMEOUT_US * nsPerUs)
      let s := (s.shootRefuse x .timeout).setShootJob x (some { j with timedOut := true })
      let there (used : Bool) (t : Nat × Nat) : Bool :=
        s.xlt.extents.any (fun e => e.ctx == t.1 && e.va == t.2 && (!used || decide (e.refs ≠ 0)))
      match (j.targets.find? (there true)).or (j.targets.find? (there false)) with
      | some t => s.logErr { unit := .xlt, status := .timeout, ctx := some t.1, partition := some (s.partOfCtx t.1),
                             addrVa := true, addr := s.reported t.1 t.2 }
      | none => s
  | none => s

/-! ### Revocation at owners and members (R158 to R160) -/

/-- Move every settled extent of a partition over a range to REVOKING; how many moved. -/
def State.revokeHere (s : State) (part dga n : Nat) : Nat × State :=
  let es := s.xlt.extents.filter (fun e => e.partition == part && e.meetsDga dga n && s.isSettled e)
  (es.length, es.foldl (fun s e => s.beginChange e.ctx e.va .revoking) s)

/-- A REVOKE_RANGE packet arrives (R158, R159).  Role 0: from the custodian to the owner; role 1: from the owner to a member;
role 2: from the custodian of a revocation whose owner is FAILED (R160). -/
def State.revokeServe (s : State) (p : Packet) : State :=
  let m := XltMsg.decode p.payload
  s.dedup p (fun s =>
    match s.xlt.revs.find? (fun r => r.member == m.member && r.tag == m.tag) with
    | some r =>
      if m.role = 0 then
        let s : State := { s with xlt.revs := s.xlt.revs.map (fun q => if q == r then { q with reportTo := q.reportTo.map (fun _ => p.src) } else q) }
        s.finish p .done (natLe 8 r.range.1 ++ natLe 8 r.range.2 ++ (if r.reportTo.isNone then natLe 8 (r.count + r.sum) else []))
      else if m.role = 2 ∧ r.reportTo ≠ some p.src then
        let dga := mkDga m.count 0 0 + m.cell
        let (n, s) := s.revokeHere m.partition dga m.bytes
        let r' := { r with range := (dga, m.bytes), count := r.count + n, reportTo := some p.src, awaiting := [] }
        let s : State := { s with xlt.revs := s.xlt.revs.map (fun q => if q == r then r' else q) }
        (s.finish p .done (natLe 8 r'.count)).revSettle r'
      else s.finish p .done (natLe 8 r.count)
    | none =>
      let self := s.devnum
      if m.role = 0 then
        match s.xlt.claims.find? (fun k => !k.alias_ && k.covers m.cell m.bytes) with
        | none => s.finish p .done (natLe 8 0)
        | some k =>
          let range := (mkDga self 0 0 + k.cell, k.bytes)
          match k.revoking with
          | some (om, ot) =>
            let s : State := { s with xlt.revs := s.xlt.revs.map (fun r => if r.member == om && r.tag == ot then
                { r with joined := r.joined.filter (· != (p.src, m.tag)) ++ [(p.src, m.tag)] } else r) }
            s.finish p .done (natLe 8 range.1 ++ natLe 8 range.2)
          | none =>
            let s : State := { s with xlt.claims := s.xlt.claims.map (fun k' =>
                if k' == k then { k' with revoking := some (m.member, m.tag) } else k') }
            let others := (((s.xlt.claims.filter (fun k' => k'.meets k.cell k.bytes)).map (fun k' => k'.dev)).dedup).filter
              (fun d => !s.isSelf d && s.memberState d == .active)
            let (n, s) := s.revokeHere k.partition range.1 range.2
            let rev : Revocation := ⟨m.member, m.tag, range, k.partition, n, some p.src, others, [], 0⟩
            let s : State := { s with xlt.revs := s.xlt.revs ++ [rev] }
            let s := others.foldl (fun s d => s.xltSend d xcREVOKE
              { m with role := 1, cell := k.cell, bytes := k.bytes, partition := k.partition, count := self } .none) s
            (s.finish p .done (natLe 8 range.1 ++ natLe 8 range.2)).revSettle rev
      else
        let dga := mkDga (if m.role = 1 then p.src else m.count) 0 0 + m.cell
        let (n, s) := s.revokeHere m.partition dga m.bytes
        let rev : Revocation := ⟨m.member, m.tag, (dga, m.bytes), m.partition, n, some p.src, [], [], 0⟩
        let s : State := { s with xlt.revs := s.xlt.revs ++ [rev] }
        (s.finish p .done (natLe 8 n)).revSettle rev)

/-- A drained report arrives (R158): at the owner from a member, or at the custodian from the owner. -/
def State.drainedServe (s : State) (p : Packet) : State :=
  let m := XltMsg.decode p.payload
  s.dedup p (fun s =>
    let s := s.finish p .done
    match s.xlt.revs.find? (fun r => r.member == m.member && r.tag == m.tag && r.awaiting.contains p.src) with
    | some r =>
      let r' := { r with awaiting := r.awaiting.filter (· != p.src), sum := r.sum + m.count }
      let s : State := { s with xlt.revs := s.xlt.revs.map (fun q => if q == r then r' else q) }
      s.revSettle r'
    | none =>
      { s with fab.answers := s.fab.answers ++ [(.control xcDRAINED m.tag,
                 { op := opXLT_CTRL + 0x80, aux := xcDRAINED, src := p.src, tag := m.tag, payload := natLe 8 m.count })] })

/-- A spare admitted for number `d` asks for the registrations held at `d` (R137): answer with the extents of this member's
contexts that lie on `d`, one message each, claims before aliases. -/
def State.registrationServe (s : State) (p : Packet) (d : Nat) : State :=
  let on := s.xlt.extents.filter (fun e => dgaDev e.dga == d)
  let es := on.filter (fun e => !e.alias_) ++ on.filter (fun e => e.alias_)
  let s := s.finish p .done (natLe 8 es.length)
  es.foldl (fun s e => s.xltSend p.src xcMAP
    { cell := dgaCell e.dga, bytes := e.len, ctx := e.ctx, partition := e.partition, cls := e.cls, isAlias := e.alias_,
      va := e.va } .none) s

/-! ### The extent translation cache (R148) -/

def spanLogs : List Nat := [48, 42, 36, 30, 26, 21, 16, 12]

/-- The set of its class that a span falls in: a class has 512 sets of 16 ways. The hash is the part's own (log entry 21). -/
def etcSet (c log2 span : Nat) : Nat := Config.etcHash c log2 span % 512

/-- Put a span into its set: into a free way, else in place of the one that the replacement gives up, which the spec leaves open (pseudo-LRU;
log entry 21). -/
def State.etcPut (s : State) (c log2 span : Nat) : State :=
  let here (x : EtcEntry) : Bool := x.log2 == log2 && etcSet x.ctx x.log2 x.span == etcSet c log2 span
  let used := s.xlt.etc.filter here
  if used.any (fun x => x.ctx == c && x.span == span) then s
  else match (List.range 16).find? (fun w => !used.any (fun x => x.way == w)) with
    | some w => { s with xlt.etc := s.xlt.etc ++ [⟨c, log2, span, w⟩] }
    | none =>
      let (i, s) := s.draw
      let w := Config.freeValue i % 16
      { s with xlt.etc := s.xlt.etc.filter (fun x => !(here x && x.way == w)) ++ [⟨c, log2, span, w⟩] }

/-- Fill the ETC for an address: the aligned span of the largest class that lies wholly inside its VALID extent (R148, R149). -/
def State.etcFill (s : State) (c va : Nat) : State :=
  let s := s.count F.XLT_ETC_COUNT_MISSES
  match s.convert c va 1 with
  | .error _ => s
  | .ok v =>
    match (s.extentsOf c).find? (fun e => e.holds v && s.isSettled e) with
    | none => s
    | some e =>
      match spanLogs.find? (fun k => decide (e.va ≤ v / 2 ^ k * 2 ^ k ∧ v / 2 ^ k * 2 ^ k + 2 ^ k ≤ e.va + e.len)) with
      | none => s
      | some k => s.etcPut c k (v / 2 ^ k)

/-- A lookup of an address: it hits in the ETC, or misses and fills it (R148). -/
def State.etcLook (s : State) (c va : Nat) : State :=
  let hit : Bool := match s.convert c va 1 with
    | .ok v => s.xlt.etc.any (fun e => e.ctx == c && e.span == v / 2 ^ e.log2)
    | .error _ => false
  if hit then s else s.etcFill c va

/-- L0 of a context (R413): its ETC entries go, its poison latch and fault fields clear, held requests are released. -/
def State.resetContext (s : State) (c : Nat) : State :=
  let n := (s.xlt.etc.filter (fun x => x.ctx == c)).length
  let s := s.count F.XLT_ETC_COUNT_INVALIDATED n
  let s : State := { s with xlt.etc := s.xlt.etc.filter (fun x => x.ctx != c) }
  let s := if s.fld F.RAS_CTX_POISON_VALID = 1 ∧ s.fld F.RAS_CTX_POISON_CTX = c then
      (s.clearF F.RAS_CTX_POISON_VALID).clearF F.RAS_CTX_POISON_CTX else s
  (s.clearF F.XLT_CTX_FAULT_ADDR c).clearF F.XLT_CTX_FAULT_STATUS c

end Sys2Proof.Machine
end

