-- ==== Sys2Proof/Machine/Journal.lean ====
section
/-! DEFINITION. The Medlar journal, submission queues, completions and descriptor checks
(spec/04 R94 to R116, R127 to R130). -/

namespace Sys2Proof.Machine

/-! ### Journal entries (R110 to R114) -/

def ringEntries := 2097152

/-- The 128 bytes of an entry (R111). -/
def JEntry.bytes (e : JEntry) : List Byte :=
  let head := natLe 1 e.kind
    ++ natLe 1 ((if e.cqValid then 1 else 0) + (if e.single then 2 else 0) + (if e.carried then 4 else 0))
    ++ natLe 2 e.queue ++ natLe 2 e.qseq ++ natLe 2 e.partition ++ natLe 8 e.jseq ++ natLe 6 e.tag
    ++ natLe 1 e.holder ++ natLe 1 e.source ++ natLe 4 e.phase ++ natLe 2 e.tagCount ++ zeros 2
    ++ natLe 6 e.tagBase ++ zeros 2 ++ natLe 4 e.cqIndex ++ natLe 8 e.acceptTime ++ zeros 8
  let body := padTo 64 e.body
  head ++ natLe 4 (crc32c (head ++ body)) ++ body

/-- The entry 128 bytes spell; none when the CRC fails (R111, R113). -/
def JEntry.decode (b : List Byte) : Option JEntry :=
  if field b 60 4 = crc32c (b.take 60 ++ slice b 64 64) then
    some { kind := field b 0 1, cqValid := bitAt (field b 1 1) 0, single := bitAt (field b 1 1) 1,
           carried := bitAt (field b 1 1) 2, queue := field b 2 2, qseq := field b 4 2, partition := field b 6 2,
           jseq := field b 8 8, tag := field b 16 6, holder := field b 22 1, source := field b 23 1,
           phase := field b 24 4, tagCount := field b 28 2, tagBase := field b 32 6, cqIndex := field b 40 4,
           acceptTime := field b 44 8, body := slice b 64 64 }
  else none

def State.noMirror (s : State) : Bool := s.fld F.JNL_STATE_NO_MIRROR == 1
def State.recovering (s : State) : Bool := s.fld F.JNL_STATE_RECOVERING == 1
def State.ringFull (s : State) : Bool := s.fld F.JNL_STATE_RING_FULL == 1

/-- Acceptance is held back while any condition of R107 holds. -/
def State.acceptHeld (s : State) : Bool := s.noMirror || s.recovering || s.ringFull

/-- The slot of an entry in a ring: granule 1,534 holds the own ring, 1,535 the mirror (R110). -/
def entryCell (mirror : Bool) (jseq : Nat) : Nat := (if mirror then 1535 else 1534) * 2 ^ 28 + 128 * (jseq % ringEntries)

/-- Whether an entry of a ring can be read: neither of its sectors is poisoned. -/
def State.entryReadable (s : State) (mirror : Bool) (jseq : Nat) : Bool :=
  let c := entryCell mirror jseq
  !s.mem.poisoned c && !s.mem.poisoned (c + 64)

/-- Free entries of the own ring: the slots that the next entries take before they reach the oldest live one (R110, R114). -/
def State.freeEntries (s : State) : Nat :=
  match s.jnl.ring with
  | (j, _) :: _ => ringEntries - (s.fld F.JNL_HEAD_JSEQ - j)
  | [] => ringEntries

/-- Show RING_FULL (R107); an entry into a hold counts in JNL_LOSS.HOLDS. -/
def State.refreshRing (s : State) : State :=
  let full := decide (s.freeEntries < 8192)
  let s := if full && !s.ringFull then s.count F.JNL_LOSS_HOLDS else s
  let s := s.setF F.JNL_STATE_RING_FULL (if full then 1 else 0)
  s.setF F.JNL_TAIL_JSEQ (match s.jnl.ring with | (j, _) :: _ => j | [] => s.fld F.JNL_HEAD_JSEQ)

/-- Entry kinds that may be written with SINGLE while NO_MIRROR holds (R112). -/
def singleKind (e : JEntry) : Bool := e.kind == jkPHASE || e.kind == jkRETIRE || e.kind == jkPAD || e.carried

/-- The MIRROR packet that carries an entry to the mirror target (R108, R234). -/
def State.mirrorEntry (s : State) (e : JEntry) : State :=
  s.issue { op := opMIRROR, vc := vcREQ, tagged := true, dst := s.fld F.JNL_STATE_MIRROR_DEV, aux := if s.noMirror || s.jnl.gap then 3 else 1, sectors := 2,
            size := 127, addr := e.jseq, payload := e.bytes } (.journal e.jseq)

/-- Whether the live entries are being copied to a mirror target that is to take the mirror (R108). -/
def State.copying (s : State) : Bool := s.noMirror && (s.fab.reqs ++ s.fab.waiting).any (fun r => match r.waiter with | .journal _ => true | _ => false)

/-- Write an entry to the own ring under the next JSEQ and send it to the mirror target (R106, R110, R112). -/
def State.journalWrite (s : State) (e : JEntry) : State :=
  let j := s.fld F.JNL_HEAD_JSEQ
  let e := { e with jseq := j, single := s.noMirror && singleKind e }
  let s : State := { s with jnl.ring := s.jnl.ring.put j e, jnl.toEffect := s.jnl.toEffect ++ [j], jnl.retentionJseq := j }
  let s := (s.bumpSeq F.JNL_HEAD_JSEQ).refreshRing
  if s.noMirror && !s.copying then s
  else if s.noMirror then s.mirrorEntry e
  else { s.mirrorEntry e with jnl.gap := false }

/-- Whether two entries say the same thing of the same subject, so that the later one, in effect, takes the place of the earlier. -/
def JEntry.sameAs (e f : JEntry) : Bool :=
  e.kind == f.kind && (if e.kind = jkQUEUE_CFG ∨ e.kind = jkCONTEXT_CFG then e.queue == f.queue
    else if e.kind = jkREBIND then e.body == f.body else e.tag == f.tag && (e.kind == jkDESCRIPTOR || e.phase == f.phase))

/-- Whether a chunk belongs to a partial image whose last chunk is not yet in effect (R72). -/
def State.chunkPending (s : State) (e : JEntry) : Bool :=
  match s.sil.lastChunk with
  | some k => decide (e.jseq ≤ k) && (match s.jnl.ring.get? k with | some l => l.tag == e.tag | none => false)
  | none => false

/-- Whether an entry is live (R114): it waits to take effect, or it is the last in effect of a request, queue, context, partial image or
rebinding that it belongs to. -/
def State.isLive (s : State) (e : JEntry) : Bool :=
  s.jnl.toEffect.contains e.jseq ||
  (!s.jnl.ring.any (fun f => e.sameAs f.2 && decide (e.jseq < f.1) && !s.jnl.toEffect.contains f.1) &&
   (if e.kind = jkDESCRIPTOR then s.works.any (fun w => w.tag == e.tag)
    else if e.kind = jkPHASE then s.works.any (fun w => w.tag == e.tag && w.phase == e.phase)
    else if e.kind = jkQUEUE_CFG then
      QueueState.ofCode (s.fld F.WQ_Q_STATUS_STATE e.queue) != .disabled && field e.body 40 1 == 1
    else if e.kind = jkCONTEXT_CFG then s.ctxEnabled e.queue
    else if e.kind = jkPARTIAL_IMAGE then s.sil.partials.any (fun q => q.1 % 2 ^ 48 == e.tag) || s.chunkPending e
    else if e.kind = jkREBIND then s.dom.rebinds.contains (field e.body 0 2, field e.body 2 2)
    else false))

/-- Free the entries that are no longer live (R114). -/
def State.pruneRing (s : State) : State :=
  ({ s with jnl.ring := s.jnl.ring.filter (fun e => s.isLive e.2) }).refreshRing

/-- CARRY_FORWARD (R114): when fewer than 262,144 free entries remain, copy the oldest live entry to the head with CARRIED set, one
entry at a time; its old slot is freed by the copy's mirror acknowledgement. -/
def State.carryForward (s : State) : State :=
  if s.freeEntries < 262144 ∧ s.jnl.carrying.isNone then
    match s.jnl.ring with
    | (j, e) :: _ =>
      if s.jnl.toEffect.contains j then s
      else
        let s := (s.journalWrite { e with carried := true }).count F.JNL_LOSS_CARRIED
        { s with jnl.carrying := some (j, s.fld F.JNL_HEAD_JSEQ - 1) }
    | [] => s
  else s

/-- A carried copy is in effect: the slot of the original is free (R114). -/
def State.carriedEffect (s : State) (e : JEntry) : State :=
  match s.jnl.carrying with
  | some (j, k) => if k = e.jseq then { s with jnl.ring := s.jnl.ring.del j, jnl.carrying := none }.refreshRing else s
  | none => s

/-! ### Queues (R94 to R98, R129) -/

def emptyQueue : QueueX := ⟨0, 0, 0, 0, 0, false, none, false, 0, 0, 0⟩

def State.queue (s : State) (q : Nat) : QueueX := s.qx.getD q emptyQueue

def State.setQueue (s : State) (q : Nat) (x : QueueX) : State := { s with qx := s.qx.store q x emptyQueue }

def State.queueState (s : State) (q : Nat) : QueueState := .ofCode (s.fld F.WQ_Q_STATUS_STATE q)

/-- Move a queue to a state; `WQ_ENABLED` counts the queues that are not DISABLED. -/
def State.setQueueState (s : State) (q : Nat) (st : QueueState) : State :=
  let old := s.queueState q
  let s := s.setF F.WQ_Q_STATUS_STATE st.code q
  if old = .disabled ∧ st ≠ .disabled then s.addF F.WQ_ENABLED_COUNT 1
  else if old ≠ .disabled ∧ st = .disabled then s.subF F.WQ_ENABLED_COUNT 1
  else s

def State.queueCtx (s : State) (q : Nat) : Nat := s.fld F.WQ_Q_CFG_CTX q

/-- log2 of the slots of a queue (R94). -/
def State.queueK (s : State) (q : Nat) : Nat := s.fld F.WQ_Q_CFG_LOG2_SLOTS q

def State.queueHead (s : State) (q : Nat) : Nat := s.fld F.WQ_Q_PROGRESS_HEAD q

def mod32 (n : Nat) : Nat := n % 2 ^ 32

/-- a - b modulo 2^32. -/
def diff32 (a b : Nat) : Nat := (a + 2 ^ 32 - b % 2 ^ 32) % 2 ^ 32

/-- The requests of a queue of this member, in queue order. -/
def State.worksOf (s : State) (q : Nat) : List Work := s.works.filter (fun w => w.queue == q && s.isSelf w.origin)

def State.modWork (s : State) (t : Nat) (f : Work → Work) : State :=
  { s with works := s.works.map (fun w => if w.tag == t then f w else w) }

/-- Note the DGA of the first poisoned byte that part `order` of a request met: what R406 names when the request ends with `POISON`. -/
def State.notePoison (s : State) (t order : Nat) (dga : Option Nat) : State :=
  match dga with
  | none => s
  | some a => s.modWork t (fun w => match w.poisonAt with
    | some (o, _) => if order < o then { w with poisonAt := some (order, a) } else w
    | none => { w with poisonAt := some (order, a) })

/-- The queue enters ERROR (R129): fetching stops, WQ_ERR latches the first, a WQ record is written. -/
def State.queueError (s : State) (q reason : Nat) (st : Status) : State :=
  if s.queueState q = .enabled then
    let s := (s.setQueueState q .error).setQueue q { s.queue q with fetching := false }
    let s := (s.setF F.WQ_Q_STATUS_ERR_STATUS st.code q).setF F.WQ_Q_STATUS_ERR_REASON reason q
    let s := if s.fld F.WQ_ERR_COUNT = 0 then
        ((s.setF F.WQ_ERR_QUEUE q).setF F.WQ_ERR_STATUS st.code).setF F.WQ_ERR_REASON reason else s
    (s.count F.WQ_ERR_COUNT).logErr
      { unit := .wq, status := st, ctx := some (s.queueCtx q), partition := some (s.partOfCtx (s.queueCtx q)),
        syndrome := reason, addr := q }
  else s

/-- Write the device's words of the ring header, HEAD and CQ_TAIL (R95). -/
def State.writeHeader (s : State) (q : Nat) : State :=
  let x := s.queue q
  let a := dgaCell x.ringDga
  let m := s.mem.store (s.keyFor a) (a + 8) (natLe 8 (s.queueHead q)) 0
  { s with mem := m.store (s.keyFor a) (a + 24) (natLe 8 x.cqTail) 0 }

/-- DOORBELL (R97): the written TAIL is compared with HEAD modulo 2^32. -/
def State.doorbell (s : State) (q word : Nat) : State :=
  match s.queueState q with
  | .enabled =>
    let tail := mod32 word
    let s := s.setF F.WQ_Q_STATUS_TAIL tail q
    if word ≥ 2 ^ 32 then s.queueError q 0x02 .badDescriptor
    else
      let d := diff32 tail (s.queueHead q)
      if d = 0 then s
      else if d > 2 ^ s.queueK q then s.queueError q 0x01 .badDescriptor
      else s.setQueue q { s.queue q with fetching := true, limit := tail, doorbellAt := s.now }
  | .disabled => s
  | _ => s.setQueue q { s.queue q with heldBell := some word }

/-- Whether every slot up to TAIL - 1 has been fetched (R97). -/
def State.allFetched (s : State) (q : Nat) : Bool :=
  let x := s.queue q
  decide (diff32 x.limit (s.queueHead q) ≤ diff32 x.next (s.queueHead q))

/-- A queue has returned to ENABLED (R97, R129): it fetches again from where it stopped, and a doorbell held meanwhile is acted on. -/
def State.actHeldBell (s : State) (q : Nat) : State :=
  let x := s.queue q
  let s := s.setQueue q { x with fetching := !s.allFetched q, heldBell := none }
  match x.heldBell with
  | some w => s.doorbell q w
  | none => s

/-- Whether a slice is closed by a partial image that drains (R71). -/
def State.sliceClosed (s : State) (n : Nat) : Bool := s.fld F.SIL_STATE_STATE == SilState.draining.code && bitAt s.sil.affected n

/-- A queue enters SLICE_DRAIN (R71, R107, R129): fetches under way end in refusals; a descriptor that is held stays in its slot. -/
def State.queueDrains (s : State) (q : Nat) : State :=
  let x := s.queue q
  (s.setQueueState q .sliceDrain).setQueue q { x with fetching := x.fetching && !x.held, held := false }

/-- A queue becomes ENABLED, or stands in SLICE_DRAIN while its slice drains (R71, R129). -/
def State.queueReady (s : State) (q : Nat) : State :=
  if (match s.sliceOfQueue q with | some e => s.sliceClosed e.1 | none => false) then s.queueDrains q
  else (s.setQueueState q .enabled).actHeldBell q

/-- CQ_HEAD store (R98). -/
def State.cqHeadStore (s : State) (q word : Nat) : State :=
  let x := s.queue q
  if s.queueState q = .disabled then s
  else if word ≥ 2 ^ 32 then s.queueError q 0x07 .badDescriptor
  else if diff32 x.cqTail word > 2 ^ (s.queueK q + 1) then s.queueError q 0x06 .badDescriptor
  else s.setQueue q { x with cqHead := word }

/-- A final completion of a queue on its way to the completion ring. -/
def XOwner.finalOf (o : XOwner) (q : Nat) : Bool := match o with | .completion r _ f => r == q && f | _ => false

/-- Final completions of a queue that are not yet written (R98). -/
def State.finalsInFlight (s : State) (q : Nat) : Nat :=
  s.fab.xfers.countP (fun x => x.owner.finalOf q)
    + (s.eth.qps.vals.flatMap (fun x => x.outstanding)).countP (fun r => r.owner.finalOf q)

/-- Whether the completion ring has room for the next descriptor (R98): CQ_TAIL - CQ_HEAD, and two for each descriptor consumed whose final
completion is not written, leave two entries. -/
def State.cqRoom (s : State) (q : Nat) : Bool :=
  let x := s.queue q
  decide (diff32 x.cqTail x.cqHead + 2 * ((s.worksOf q).length + s.finalsInFlight q) + 2 ≤ 2 ^ (s.queueK q + 1))

/-! ### Completions (R101, R102) -/

/-- The 32 bytes of a completion (R101). `index` gives PASS: 1 on odd passes of the ring. -/
def completionBytes (status opcode qseq queue index log2 custodian tag result time : Nat) (final replayed : Bool) : List Byte :=
  natLe 1 status ++ natLe 1 opcode ++ natLe 2 qseq ++ natLe 2 queue
    ++ natLe 1 ((if index / 2 ^ (log2 + 1) % 2 = 0 then 1 else 0) + (if final then 2 else 0) + (if replayed then 4 else 0))
    ++ natLe 1 custodian ++ natLe 6 tag ++ zeros 2 ++ natLe 8 result ++ natLe 8 time

/-- Register a transfer of the device; it is known by its number. -/
def State.newXfer (s : State) (o : XOwner) (left : Nat) : Nat × State :=
  let id := s.fab.nextXfer
  (id, { s with fab.nextXfer := id + 1, fab.xfers := s.fab.xfers ++ [⟨id, o, left, [], [], .done⟩] })

/-- The payload sectors of a store of `bs` at `a` (R235): bytes outside the access are sent as zero. -/
def storePayload (a : Nat) (bs : List Byte) : List Byte :=
  padTo (64 * sectorsOf a (bs.length - 1)) (zeros (a % 64) ++ bs)

/-- Cut [a, a + n) at 256 B boundaries (R235). -/
def cut256 (a : Nat) : Nat → Nat → List (Nat × Nat)
  | 0, _ => []
  | fuel + 1, n =>
    if n = 0 then [] else
      let k := min n (256 - a % 256)
      (a, k) :: cut256 (a + k) fuel (n - k)

/-- A store of this member's own function to a DGA, tagged. -/
def State.issueStore (s : State) (dst dga pkey ctx tag vc : Nat) (bs : List Byte) (poison : Nat) (w : Waiter) : State :=
  s.issue { op := opSTORE, vc := vc, tagged := true, pkey := pkey, dst := dst, addr := dga, size := bs.length - 1,
            sectors := sectorsOf dga (bs.length - 1), poison := poison, ctx := ctx, tag := tag,
            payload := storePayload dga bs } w

def freshQp : Qp := ⟨0, 0, [], [], 0, none, []⟩
def State.qpx (s : State) (qp : Nat) : Qp := s.eth.qps.getD qp freshQp
def State.setQpx (s : State) (qp : Nat) (x : Qp) : State := { s with eth.qps := s.eth.qps.store qp x freshQp }

/-- Queue a frame at the egress of a queue pair's E-port; a port without a MAC address sends none (R377), and while the PFC watchdog discards its
priority it goes no further (R389). -/
def State.ethEmit (s : State) (qp : Nat) (bulk : Bool) (bytes : Nat) (m : EthMsg) : State :=
  let port := s.fld F.ETH_QP_CFG_PORT qp
  let prio := s.fld F.ETH_QP_CFG_PCP qp
  if s.fld (F.ETH_PORT_CFG_MAC.at port) = 0 then s
  else if s.eth.wdEpisode.getD (port * 8 + prio) false then s.count (F.ETH_PORT_COUNT_WD_DROPS.at port)
  else { s with eth.queue := s.eth.queue ++ [⟨port, prio, qp, bulk, bytes + 102, s.now, false, m⟩] }

/-- An RDMA WRITE of a requesting queue pair (R386, R387): it takes the queue pair's next PSN and waits for its
acknowledgement. -/
def State.ethWrite (s : State) (qp va rkey : Nat) (bs : List Byte) (o : XOwner) : State :=
  let x := s.qpx qp
  let m : EthMsg := .write x.next va rkey bs
  let x := { x with next := (x.next + 1) % 2 ^ 24, outstanding := x.outstanding ++ [⟨x.next, m, s.now, 0, o, bs.length⟩] }
  (s.setQpx qp x).ethEmit qp (match o with | .seatLoad _ => true | _ => false) bs.length m

/-- Post a completion at an index of a queue's completion ring (R98, R102): a store for a domain ring, an RDMA WRITE for an
RDMA ring (R386). -/
def State.postCompletion (s : State) (q index : Nat) (bs : List Byte) (final : Bool) : State :=
  let k := s.queueK q
  let slot := index % 2 ^ (k + 1)
  let c := s.queueCtx q
  if s.fld F.WQ_Q_CFG_CQ_KIND q = 1 then
    s.ethWrite c (s.fld F.WQ_Q_CQ_CQ_ADDR q + 32 * slot) (s.fld F.WQ_Q_CQ_KEY_RKEY q) bs (.completion q index final)
  else
    let dga := (s.queue q).cqDga + 32 * slot
    let (id, s) := s.newXfer (.completion q index final) 1
    s.issueStore (dgaDev dga) dga (s.keyOf (s.partOfCtx c)) c 0 vcREQ bs 0 (.xfer id 0)

/-- A completion's write has been answered (R98): its index counts in CQ_TAIL; a failed write puts the queue in ERROR. -/
def State.completionWritten (s : State) (q : Nat) (st : Status) : State :=
  let x := s.queue q
  let s := (s.setQueue q { x with cqTail := mod32 (x.cqTail + 1) }).writeHeader q
  if st = .done then s else s.queueError q 0x05 st

/-- Count a refusal at submission (R103). -/
def State.countRefusal (s : State) (q : Nat) (st : Status) : State :=
  match st with
  | .bounds => (s.count F.WQ_Q_REFUSE_BOUNDS 1 q).count F.WQ_REFUSE_TOTAL_SUBMIT
  | .stateConflict => (s.count F.WQ_Q_REFUSE_STATE 1 q).count F.WQ_REFUSE_TOTAL_SUBMIT
  | .badDescriptor => (s.count F.WQ_Q_REFUSE_BAD_DESC 1 q).count F.WQ_REFUSE_TOTAL_SUBMIT
  | .quota => (s.count F.WQ_Q_REFUSE_QUOTA 1 q).count F.WQ_REFUSE_TOTAL_SUBMIT
  | .noXlate => (s.count F.WQ_Q_XREFUSE_NO_XLATE 1 q).count F.WQ_REFUSE_TOTAL_XLATE
  | .revoked => (s.count F.WQ_Q_XREFUSE_REVOKED 1 q).count F.WQ_REFUSE_TOTAL_XLATE
  | .access => (s.count F.WQ_Q_XREFUSE_ACCESS 1 q).count F.WQ_REFUSE_TOTAL_XLATE
  | _ => s

def Work.opcode (w : Work) : Nat := field w.desc 0 1
def Work.noAck (w : Work) : Bool := bitAt (field w.desc 1 1) 0
def Work.noDone (w : Work) : Bool := bitAt (field w.desc 1 1) 1
def Work.overlap (w : Work) : Bool := bitAt (field w.desc 1 1) 2

def refusedTag := 0xFFFFFFFFFFFF

/-- HEAD passes every descriptor that is accepted or refused, in order (R97, R103, R106). -/
def State.advanceHead (s : State) (q : Nat) : Nat → State
  | 0 => s
  | fuel + 1 =>
    let h := s.queueHead q
    if (s.worksOf q).any (fun w => w.index == h && w.stage != .entered) then
      ((s.setF F.WQ_Q_PROGRESS_HEAD (mod32 (h + 1)) q).writeHeader q).advanceHead q fuel
    else s

/-- A final completion of an own queue is posted at an index; `WQ_Q_PROGRESS.FINAL` counts it (R102). -/
def State.postFinal (s : State) (q index : Nat) (bs : List Byte) : State :=
  (s.postCompletion q index bs true).setF F.WQ_Q_PROGRESS_FINAL (mod32 (s.fld F.WQ_Q_PROGRESS_FINAL q + 1)) q

/-- Whether every earlier descriptor of the queue has posted or written its final outcome (R102). -/
def State.earlierGone (s : State) (w : Work) : Bool :=
  !(s.works.any (fun v => v.queue == w.queue && v.origin == w.origin && v.stage != .retiring
      && decide (diff32 w.index v.index ≠ 0 ∧ diff32 w.index v.index < 2 ^ 31)))

/-- A refused descriptor whose final completion is due: every earlier descriptor of the queue has posted its own (R102, R103). -/
def State.dueRefusal (s : State) (q : Nat) : Option Work :=
  (s.worksOf q).find? (fun w => w.stage == .holding && w.tag == refusedTag
    && !(s.worksOf q).any (fun v => decide (diff32 w.index v.index ≠ 0 ∧ diff32 w.index v.index < 2 ^ 31)))

/-- Post the final completion of a refused descriptor: it takes the next index and carries the time of its posting (R101). -/
def State.postRefusal (s : State) (w : Work) : State :=
  let q := w.queue
  let x := s.queue q
  let i := x.cqNext
  let s := (s.setQueue q { x with cqNext := mod32 (i + 1) }).postFinal q i
    (completionBytes w.status.code w.opcode w.qseq q i (s.queueK q) s.devnum w.tag w.result s.domainTime true w.replayed)
  { s with works := s.works.filter (fun v => !(v == w)) }

/-- Post every refusal that is due, in queue order. -/
def State.postRefusals (s : State) (q : Nat) : Nat → State
  | 0 => s
  | fuel + 1 => match s.dueRefusal q with | some w => (s.postRefusal w).postRefusals q fuel | none => s

/-- The body of a QUEUE_CFG entry (R112). -/
def queueCfgBody (ring cq rkey cfg openFlag : Nat) : List Byte :=
  natLe 8 cfg ++ natLe 8 ring ++ natLe 8 cq ++ natLe 8 rkey ++ zeros 8 ++ natLe 1 openFlag ++ zeros 23

/-- The body of a queue's QUEUE_CFG entry (R112). -/
def State.queueCfg (s : State) (q openFlag : Nat) : JEntry :=
  { kind := jkQUEUE_CFG, queue := q, partition := s.partOfCtx (s.queueCtx q),
    body := queueCfgBody (s.fld F.WQ_Q_RING_RING_VA q) (s.fld F.WQ_Q_CQ_CQ_ADDR q) (s.fld F.WQ_Q_CQ_KEY_RKEY q)
      (s.queueCtx q * 2 ^ 16 + s.fld F.WQ_Q_CFG_CQ_KIND q * 2 ^ 8 + s.queueK q) openFlag }

/-- Release the standing pins of a queue's ring and domain completion ring (R151). -/
def State.unpinQueue (s : State) (q : Nat) : State :=
  let c := s.queueCtx q
  let drop (s : State) (va : Nat) : State :=
    match (match s.convert c va 1 with | .ok v => (s.extentsOf c).find? (fun (e : Extent) => e.holds v) | .error _ => none) with
    | some e => s.dropPin c e.va
    | none => s
  let s := drop s (s.fld F.WQ_Q_RING_RING_VA q)
  if s.fld F.WQ_Q_CFG_CQ_KIND q = 0 then drop s (s.fld F.WQ_Q_CQ_CQ_ADDR q) else s

/-- Whether a QUEUE_CFG entry of a queue waits to take effect. -/
def State.queueChanging (s : State) (q : Nat) : Bool :=
  s.jnl.ring.any (fun e => e.2.kind == jkQUEUE_CFG && e.2.queue == q && s.jnl.toEffect.contains e.1)

/-- A queue in STOPPING whose last final completion is posted unpins and journals QUEUE_CFG closed (R129). -/
def State.stopIfDrained (s : State) (q : Nat) : State :=
  if s.queueState q = .stopping ∧ (s.worksOf q).isEmpty ∧ !s.queueChanging q then
    (s.unpinQueue q).journalWrite (s.queueCfg q 0)
  else s

/-- The checks of ENABLE in the order of R130, with the ring's and the completion ring's translations. -/
def State.enableQueueCheck (s : State) (q : Nat) : Except Status (Xlated × Option Xlated) :=
  let k := s.queueK q
  let c := s.queueCtx q
  let ring := s.fld F.WQ_Q_RING_RING_VA q
  let cq := s.fld F.WQ_Q_CQ_CQ_ADDR q
  let kind := s.fld F.WQ_Q_CFG_CQ_KIND q
  if k < 6 ∨ k > 16 ∨ kind ≥ 2 ∨ ring % 4096 ≠ 0 ∨ (kind = 0 ∧ cq % 64 ≠ 0) then .error .badDescriptor
  else match s.sliceOfQueue q with
    | none => .error .access
    | some (_, sl) =>
      if !(sl.ctxBase ≤ c ∧ c < sl.ctxBase + sl.ctxCount) then .error .access
      else
        let first (va : Nat) (bad : Nat → Bool) : Bool := match s.translate c va 1 0 with | .ok x => bad x.dga | .error _ => false
        let r := s.translate c ring (64 * (2 ^ k + 1)) rREAD
        let y := if kind = 1 then none else some (s.translate c cq (32 * 2 ^ (k + 1)) rWRITE)
        let fails : List Status := (match r with | .error (st, _) => [st] | .ok _ => [])
          ++ (match y with | some (.error (st, _)) => [st] | _ => [])
        if fails.contains .access || first ring (fun a => !(s.isSelf (dgaDev a) && dgaWin a == 0))
            || (kind == 0 && first cq (fun a => dgaWin a == 2)) then .error .access
        else match fails.find? (· != .bounds), r, y with
          | some st, _, _ => .error st
          | none, .ok x, none => .ok (x, none)
          | none, .ok x, some (.ok z) => .ok (x, some z)
          | none, _, _ => .error .bounds

/-- ENABLE (R129, R130): pins are taken, the header zeroed and QUEUE_CFG journalled; the queue is ENABLING until it takes
effect. -/
def State.queueEnable (s : State) (x : SeatId) (entry : Nat) : State :=
  let q := s.fld F.WQ_Q_SEL_QUEUE x.idx
  if s.queueState q ≠ .disabled then (s.count F.WQ_Q_REFUSE_STATE 1 q).seatErr x entry 0x20028 .stateConflict
  else match s.enableQueueCheck q with
    | .error st => s.seatErr x entry 0x20028 st
    | .ok (r, y) =>
      let c := s.queueCtx q
      let s := s.takePin c r.ext.va
      let s := match y with | some y => s.takePin c y.ext.va | none => s
      let s := s.setQueue q { emptyQueue with ringDga := r.dga, cqDga := (match y with | some y => y.dga | none => 0) }
      let a := dgaCell r.dga
      let s : State := { s with mem := s.mem.store (s.keyFor a) a (zeros 64) 0 }
      let s := ((s.setF F.WQ_Q_PROGRESS_HEAD 0 q).setF F.WQ_Q_PROGRESS_FINAL 0 q).setF F.WQ_Q_STATUS_TAIL 0 q
      (s.setQueueState q .enabling).journalWrite (s.queueCfg q 1)

/-- DISABLE (R129). -/
def State.queueDisable (s : State) (x : SeatId) (entry : Nat) : State :=
  let q := s.fld F.WQ_Q_SEL_QUEUE x.idx
  match s.queueState q with
  | .enabled | .error =>
    let s := (s.setQueue q { s.queue q with fetching := false, held := false }).setQueueState q .stopping
    s.stopIfDrained q
  | _ => (s.count F.WQ_Q_REFUSE_STATE 1 q).seatErr x entry 0x20028 .stateConflict

/-- CLEAR_ERROR (R129): fetching resumes at HEAD, past the descriptors that are entered, or refused behind one, and that HEAD has yet to
pass. -/
def State.queueClearError (s : State) (x : SeatId) (entry : Nat) : State :=
  let q := s.fld F.WQ_Q_SEL_QUEUE x.idx
  match s.queueState q with
  | .error =>
    let h := s.queueHead q
    let next := mod32 (h + (s.worksOf q).countP (fun w => decide (diff32 w.index h < 2 ^ 31)))
    (s.setQueue q { s.queue q with next := next }).queueReady q
  | _ => (s.count F.WQ_Q_REFUSE_STATE 1 q).seatErr x entry 0x20028 .stateConflict

/-- A QUEUE_CFG entry takes effect (R112, R129). -/
def State.queueCfgEffect (s : State) (e : JEntry) : State :=
  let q := e.queue
  if field e.body 40 1 = 1 then
    if s.queueState q = .enabling then s.queueReady q else s
  else s.setQueueState q .disabled

/-- A slice enters DRAINING, or returns to RUNNING: its queues follow (R129). -/
def State.drainQueues (s : State) (sl : Slice) (drain : Bool) : State :=
  (s.qx.keys.filter (fun q => decide (sl.queueBase ≤ q ∧ q < sl.queueBase + sl.queueCount))).foldl (fun s q =>
    match s.queueState q, drain with
    | .enabled, true => s.queueDrains q
    | .sliceDrain, false => (s.setQueueState q .enabled).actHeldBell q
    | _, _ => s) s

/-! ### FILL, COPY and COMPARE (R127, R128) -/

def dFILL := 0x01
def dCOPY := 0x02
def dCOMPARE := 0x03
def dTILE_MOVE := 0x10
def dTILE_PUBLISH := 0x11
def dATOMIC_BATCH := 0x20
def dEMBED_POOL := 0x30
def dSEARCH := 0x31
def dCOLLECTIVE := 0x32
def dKERNEL_LAUNCH := 0x40
def dATTEND := 0x41
def dSTEP := 0x50
def dFENCE := 0x51
def dREVOKE := 0x52

/-- A refusal at submission: the status and what RESULT holds, the unmapped address or the offending field's byte offset
(R101, R103); for a translation fault the address it reports as well (R147). -/
structure DescFault where
  status : Status
  result : Nat
  addr : Option Nat := none
  deriving DecidableEq, Repr

abbrev DescCheck := Option DescFault

/-- The first failure of a list, each `some` when it fails. -/
def firstFault : List DescCheck → DescCheck
  | [] => none
  | none :: r => firstFault r
  | some f :: _ => some f

def faultIf (b : Bool) (st : Status) (res : Nat) : DescCheck := if b then some { status := st, result := res } else none

/-- The failure of a referenced range (steps 4 and 5 of R103): NO_XLATE reports the first unmapped address, the others the byte
offset of the field. -/
def State.rangeFault (s : State) (c va n right off : Nat) : DescCheck :=
  match s.translate c va n right with
  | .ok _ => none
  | .error (st, a) => some ⟨st, if st = .noXlate then a else off, some a⟩

/-- Step 3 for a range: the state of the member it addresses (R36, R105). -/
def State.rangeStateFault (s : State) (c va n right off : Nat) : DescCheck :=
  match s.translate c va n right with
  | .ok x => match s.memberState (dgaDev x.dga) with
    | .joining => some { status := .stateConflict, result := off }
    | _ => none
  | .error _ => none

/-- A range in window 2 must be whole 4 KiB blocks (R38). -/
def State.rangeBlockFault (s : State) (c va n right off : Nat) : DescCheck :=
  match s.translate c va n right with
  | .ok x => faultIf (dgaWin x.dga == 2 && (x.dga % 4096 != 0 || n % 4096 != 0)) .access off
  | .error _ => none

/-- Steps 4 and 5 for a range that window 2 serves in whole blocks only. -/
def State.rangeAllFault (s : State) (c va n right off : Nat) : DescCheck :=
  (s.rangeFault c va n right off).or (s.rangeBlockFault c va n right off)

/-- BOUNDS ranks after every other failure of step 4 (R103 steps 4 and 5). -/
def boundsLast (fs : List DescCheck) : DescCheck :=
  match firstFault (fs.map (fun f => match f with | some x => if x.status = .bounds then none else some x | none => none)) with
  | some f => some f
  | none => firstFault fs

/-- Whether two ranges overlap, virtually or after translation (R128). -/
def State.overlapDga (s : State) (c a b n : Nat) : Bool :=
  decide (a < b + n ∧ b < a + n) ||
  (match s.translate c a n 0, s.translate c b n 0 with
   | .ok x, .ok y => decide (x.dga < y.dga + n ∧ y.dga < x.dga + n)
   | _, _ => false)

/-- Checks of FILL, COPY and COMPARE in the order of R103. -/
def State.checkData (s : State) (c : Nat) (d : List Byte) : DescCheck :=
  let op := field d 0 1
  let a := field d 8 8
  let b := field d 16 8
  let n := field d 24 8
  let ra := if op = dCOMPARE then rREAD else rWRITE
  let two := op != dFILL
  match firstFault [faultIf (!allZero (slice d 4 4)) .badDescriptor 4, faultIf (!allZero (slice d 32 32)) .badDescriptor 32] with
  | some f => some f
  | none =>
    match firstFault [faultIf (op == dCOPY && s.overlapDga c a b n && n != 0) .badDescriptor 8, faultIf (n == 0) .badDescriptor 24] with
    | some f => some f
    | none =>
      match firstFault [s.rangeStateFault c a n ra 8, if two then s.rangeStateFault c b n rREAD 16 else none] with
      | some f => some f
      | none =>
        boundsLast [s.rangeAllFault c a n ra 8, if two then s.rangeAllFault c b n rREAD 16 else none]

/-! ### Fetching and accepting (R103 to R106) -/

/-- Opcodes R99 lists. -/
def opcodeKnown (op : Nat) : Bool :=
  [dFILL, dCOPY, dCOMPARE, dTILE_MOVE, dTILE_PUBLISH, dATOMIC_BATCH, dEMBED_POOL, dSEARCH, dCOLLECTIVE, dKERNEL_LAUNCH,
   dATTEND, dSTEP, dFENCE, dREVOKE].contains op

/-- Step 1 of R103 shared by every opcode: reserved opcode, reserved flags, queue sequence. -/
def commonFault (d : List Byte) (index : Nat) : DescCheck :=
  firstFault [faultIf (!opcodeKnown (field d 0 1)) .badDescriptor 0, faultIf (decide (field d 1 1 ≥ 8)) .badDescriptor 1,
    faultIf (field d 2 2 != index % 65536) .badDescriptor 2]

/-- The addresses of a descriptor's ranges: each range lies in the extent of its first byte, which the descriptor references
from acceptance to its outcome (R145). -/
def State.descVas (s : State) (d : List Byte) : List Nat :=
  let op := field d 0 1
  let opt (off : Nat) : List Nat := if field d off 8 = 0 then [] else [field d off 8]
  if op = dFILL then [field d 8 8]
  else if op = dCOPY ∨ op = dCOMPARE then [field d 8 8, field d 16 8]
  else if op = dTILE_MOVE ∨ op = dTILE_PUBLISH then [field d 8 8, field d 16 8] ++ opt 40
  else if op = dATOMIC_BATCH then [field d 8 8]
  else if op = dEMBED_POOL then [field d 8 8, field d 16 8, field d 24 8]
  else if op = dSEARCH then [field d 8 8, field d 24 8]
  else if op = dCOLLECTIVE then
    [field d 8 8] ++ (if field d 4 1 = 2 ∧ field d 48 1 ≠ s.devnum then [] else [field d 16 8]) ++ opt 56
  else if op = dKERNEL_LAUNCH then [field d 8 8, field d 24 8]
  else if op = dATTEND then [field d 8 8, field d 16 8] ++ (if bitAt (field d 7 1) 0 then [field d 24 8] else []) ++ [field d 32 8]
  else []

/-- The extents that a descriptor's ranges touch, each once for each range, whatever has befallen them since acceptance (R145). -/
def State.refExtents (s : State) (c : Nat) (vas : List Nat) : List WorkRef :=
  vas.filterMap (fun va => match s.convert c va 1 with
    | .ok v => ((s.extentsOf c).find? (fun e => e.holds v)).map (fun e => ⟨e.va, e.len, e.dga, e.cls⟩)
    | .error _ => none)

/-- The journalled configuration of a lost member's context (R112, R146). -/
def State.lostCtx (s : State) (c : Nat) : Option JEntry :=
  ((s.jnl.mirror.filter (fun e => e.2.kind == jkCONTEXT_CFG && e.2.queue == c)).getLast?).map Prod.snd

/-- An address a lost member's context issued, converted under its journalled configuration (R141). -/
def State.lostConvert (s : State) (c va n : Nat) : Option Nat :=
  match s.lostCtx c with
  | none => none
  | some e =>
    if field e.body 0 8 / 2 % 2 = 0 then some va
    else
      let base := field e.body 16 8
      let len := field e.body 24 8 * pageBytes
      if va < base ∨ base + len < va + n then none else some (va - base + field e.body 32 8)

/-- The extent entries found in a context's table area of a member whose journal this one keeps: in its mirror positions. An extent that a
request references is there until the request ends, though its state be WITHDRAWING or REVOKING by then (R145, R146). -/
def State.lostExtents (s : State) (area n key : Nat) : List Extent :=
  tableEntries s.mem key area n

/-- The extent of a lost member's context that holds a converted address. -/
def State.lostExtent (s : State) (c v : Nat) : Option Extent :=
  match s.lostCtx c with
  | none => none
  | some e =>
    let key := (s.dataKey e.partition).getD 0
    (s.lostExtents (field e.body 8 8) (2 ^ min 16 (field e.body 0 8 / 16 % 32)) key).find? (fun x => x.holds v)

/-- Translate through a lost member's context (R146): DGA and class. -/
def State.lostTranslate (s : State) (c va : Nat) : Option (Nat × Nat) :=
  match s.lostConvert c va 1 with
  | none => none
  | some v => (s.lostExtent c v).map (fun x => (x.dga + (v - x.va), x.cls))

/-- The extents of a lost member's request, as its contexts hold them (R146). -/
def State.lostRefs (s : State) (c : Nat) (vas : List Nat) : List WorkRef :=
  vas.filterMap (fun va => match s.lostConvert c va 1 with
    | none => none
    | some v => (s.lostExtent c v).map (fun x => ⟨x.va, x.len, x.dga, x.cls⟩))

/-- An address of a request as its context converts it (R141): a lost member's context under its journalled configuration. -/
def State.workConvert (s : State) (w : Work) (va n : Nat) : Option Nat :=
  if s.isSelf w.origin then (match s.convert w.ctx va (max n 1) with | .ok v => some v | .error _ => none)
  else s.lostConvert w.ctx va (max n 1)

/-- The reference of a request that holds `n` bytes from a converted address: of several, the one that begins nearest below it. -/
def Work.refAt (w : Work) (v n : Nat) : Option WorkRef :=
  (w.refs.filter (fun r => decide (r.ext ≤ v ∧ v + n ≤ r.ext + r.bytes))).foldl (fun b r => match b with
    | some x => if x.ext < r.ext then some r else some x
    | none => some r) none

/-- The DGA and class of an address of a request, through the extents it references (R145). -/
def State.workDga (s : State) (w : Work) (va n : Nat) : Option (Nat × Nat) :=
  match s.workConvert w va n with
  | none => none
  | some v => (w.refAt v n).map (fun r => (r.dga + (v - r.ext), r.cls))

/-- Bytes of a recorded range: a BODY names its first byte only (R146). -/
def openRange := 2 ^ 57

/-- The DGAs of a request's ranges as its PHASE entries record them (R112, R146; log entry 20): three DGAs of 8 bytes, a word of the opcode's,
and the classes, two bits for each. -/
def State.rangeBody (s : State) (w : Work) (word : Nat) : List Byte :=
  let rs := ((s.descVas w.desc).take 3).map (fun va => (s.workDga w va 1).getD (0, 0))
  padTo 24 (rs.flatMap (fun r => natLe 8 r.1)) ++ natLe 8 word
    ++ natLe 1 (rs.zipIdx.foldl (fun n x => n + x.1.2 % 4 * 4 ^ x.2) 0)

/-- The word of the opcode's in a BODY. -/
def bodyWord (body : List Byte) : Nat := field body 24 8

/-- The ranges that the BODY of a lost member's PHASE entry records, as what the request references (R146, R226). `ATTEND` records no class: it
is that of the extent in the lost member's table area (log entry 20). -/
def State.bodyRefs (s : State) (c : Nat) (d body : List Byte) : List WorkRef :=
  let ref (va dga cls : Nat) : List WorkRef := match s.lostConvert c va 1 with | some v => [⟨v, openRange, dga, cls⟩] | none => []
  if field d 0 1 = dATTEND then
    let cls (v : Nat) : Nat := match s.lostExtent c v with | some e => e.cls | none => 0
    let at_ (va : Nat) : Nat := (s.lostConvert c va 1).getD 0
    [⟨field body 0 8, field body 48 5 * pageBytes, field body 8 8, cls (field body 0 8)⟩,
     ⟨field body 16 8, field body 53 5 * pageBytes, field body 24 8, cls (field body 16 8)⟩]
      ++ ref (field d 16 8) (field body 32 8) (cls (at_ (field d 16 8)))
      ++ (if bitAt (field d 7 1) 0 then ref (field d 24 8) (field body 40 8) (cls (at_ (field d 24 8))) else [])
  else ((s.descVas d).take 3).zipIdx.flatMap (fun x => ref x.1 (field body (8 * x.2) 8) (field body 32 1 / 4 ^ x.2 % 4))

def blankWork : Work :=
  ⟨0, 0, 0, 0, 0, [], 0, 0, .entered, 0, 0xFF, 0, 0, 0, 0, 0, .done, 0, none, [], [], 0, 0, 0, false, none, false, none, [], none⟩

/-- The extent a REVOKE names: the one of CTX that starts at VA, converted as the context issues it (R157). -/
def State.revokeNamed (s : State) (d : List Byte) : Option Extent :=
  let c := field d 4 2
  match s.convert c (field d 8 8) 1 with
  | .error _ => none
  | .ok v => (s.extentsOf c).find? (fun e => e.va == v)

/-- A descriptor is refused at submission (R103): counted, consumed, and its final completion follows the earlier ones. -/
def State.refuseDesc (s : State) (q index : Nat) (d : List Byte) (f : DescFault) : State :=
  let c := s.queueCtx q
  let s := s.countRefusal q f.status
  let w := { blankWork with
             tag := refusedTag, origin := s.devnum, queue := q, qseq := index % 65536, index := index, desc := d,
             ctx := c, partition := s.partOfCtx c, stage := .holding, status := f.status, result := f.result }
  let s : State := { s with works := s.works ++ [w] }
  let s := s.advanceHead q (s.works.length + 1)
  s.postRefusals q (s.works.length + 1)

/-- A descriptor passes its checks: the DESCRIPTOR entry, its request tag and completion index are fixed (R102, R106). -/
def State.enterDesc (s : State) (q index : Nat) (d : List Byte) : State :=
  let c := s.queueCtx q
  let x := s.queue q
  let (t, s) := s.drawJnlTags 1
  let noAck := bitAt (field d 1 1) 0
  let named := if field d 0 1 = dREVOKE then s.revokeNamed d else none
  let w := { blankWork with
             found := named.map (fun e => e.dga), result := (match named with | some e => e.pages | none => 0),
             tag := t, origin := s.devnum, queue := q, qseq := index % 65536, index := index, desc := d, ctx := c,
             partition := s.partOfCtx c, stage := .entered, source := s.devnum, holder := s.devnum, acceptIndex := x.cqNext,
             acceptTime := s.domainTime, refs := s.refExtents c (s.descVas d) }
  let s : State := { s with works := s.works ++ [w] }
  let s := (s.descVas d).foldl (fun s va => s.etcLook c va) s
  let s := w.refs.foldl (fun s r => s.takeRef c r.ext) s
  let s := s.setQueue q { x with next := mod32 (index + 1), cqNext := if noAck then x.cqNext else mod32 (x.cqNext + 1) }
  s.journalWrite {
                   kind := jkDESCRIPTOR, cqValid := !noAck, queue := q, qseq := index % 65536, partition := s.partOfCtx c,
                   tag := t, source := s.devnum, cqIndex := x.cqNext, acceptTime := s.domainTime, body := d }

/-- Whether a check of a descriptor rests on an extent whose state change is under way: the first byte of a range lies in it, or the check would
come out otherwise without it (R149). -/
def State.checkHeld (s : State) (c : Nat) (d : List Byte) (check : State → Nat → List Byte → DescCheck) : Bool :=
  (s.descVas d).any (fun va => s.lookupHeld c va 1)
    || s.xlt.invalidating.any (fun t => t.1 == c &&
        check ({ s with xlt.extents := s.xlt.extents.filter (fun e => !(e.ctx == c && e.va == t.2.1)) } : State) c d != check s c d)

/-- The extent of a `REVOKE` whose claim's aliases are still to be asked of its owner before the descriptor can be checked (R157). -/
def State.askFirst (s : State) (d : List Byte) : Option Extent :=
  if field d 0 1 = dREVOKE ∧ field d 6 1 = 0 then (s.revokeNamed d).filter (fun e => (s.aliasesKnown e).isNone) else none

/-- A slot read completes (R97, R103): the descriptor is refused, held under R107, or entered.  `check` is the opcode's own
check (the descriptor table of R99).  A refusal for a translation fault counts in the context's fault registers (R147), one with `BOUNDS` as
well: the spec leaves open whether R18 forbids that (DESIGN CHOICE, log entry 55). -/
def State.slotFetch (s : State) (q : Nat) (timedOut : Bool) (check : State → Nat → List Byte → DescCheck) : State :=
  let x := s.queue q
  let st := s.queueState q
  if !((st = .enabled ∨ st = .sliceDrain) ∧ x.fetching) then s
  else if s.allFetched q then s.setQueue q { x with fetching := false }
  else if !s.cqRoom q then s
  else if timedOut then s.queueError q 0x04 .timeout
  else
    let a := dgaCell x.ringDga + 64 * (x.next % 2 ^ s.queueK q + 1)
    if s.mem.poisoned a then s.queueError q 0x03 .poison
    else
      let d := s.mem.readN (s.keyFor a) a 64
      let c := s.queueCtx q
      let held := s.checkHeld c d check
      let used (s : State) : State := if field d 0 1 = dREVOKE then (match s.revokeNamed d with | some e => s.aliasesUsed e | none => s) else s
      let late := faultIf (st == .sliceDrain || s.dom.selfFailed) .stateConflict 0
      let fault : DescCheck := match commonFault d x.next with
        | some f => some f
        | none => match check s c d with
          | some f => if f.status = .badDescriptor then some f else (match late with | some l => some l | none => some f)
          | none => late
      match fault with
      | some f =>
        if held ∧ f.status ≠ .badDescriptor then s
        else
          let s := match f.addr with | some a => s.noteFault c f.status a | none => s
          ((used s).setQueue q { x with next := mod32 (x.next + 1), held := false }).refuseDesc q x.next d f
      | none =>
        if held then s
        else match s.askFirst d with
          | some e => s.askAliases e
          | none =>
            if s.acceptHeld then s.setQueue q { x with held := true }
            else ((used s).setQueue q { x with held := false }).enterDesc q x.next d

/-- A DESCRIPTOR entry takes effect: acceptance (R106).  HEAD passes the descriptor and `ACCEPTED` is posted. -/
def State.accept (s : State) (t : Nat) : State :=
  match s.works.find? (fun w => w.tag == t && w.stage == .entered) with
  | some w =>
    let q := w.queue
    let s := s.modWork t (fun w => { w with stage := .waiting })
    let s := s.advanceHead q (s.works.length + 1)
    let s := if w.noAck then s else s.postCompletion q w.acceptIndex
      (completionBytes 1 w.opcode w.qseq q w.acceptIndex (s.queueK q) s.devnum t 0 w.acceptTime false false) false
    let lat := s.now - (s.queue q).doorbellAt
    let s := (s.setF F.JNL_LAT_LAST_NS lat).trackMax F.JNL_LAT_MAX_NS lat
    s.count F.JNL_COUNT_ACCEPTED
  | none => s

end Sys2Proof.Machine
end

