-- ==== Sys2Proof/Machine/Tiers.lean ====
section
/-! DEFINITION. Protection classes, parity geometry, failed parts, redundancy holders, and transfers of the device's own
functions (spec/06 R163 to R190; R36, R235, R236, R238). -/

namespace Sys2Proof.Machine

/-! ### Where a cell lies (R163 to R166) -/

/-- The stack, channel or flash channel that holds a cell (R163, R164, R165). -/
def State.partOf (s : State) (cell : Nat) : Nat :=
  let o := cell % 2 ^ 56
  let kth (pop n k : Nat) : Nat := (bitsSet n pop).getD k n
  if cell / 2 ^ 56 = 0 then (o / 4096 % 8) ^^^ (o / 2 ^ 28 % 8)
  else if cell / 2 ^ 56 = 1 then kth (s.fld F.TIER_T2_CFG_CH_POPULATED) 16 (o / max 1 (s.fld F.TIER_T2_CFG_CH_GIB * 2 ^ 30))
  else kth (s.fld F.TIER_T3_CFG_CH_POPULATED) 24 (o / max 1 (s.fld F.TIER_T3_CFG_DIES * 216 * 2 ^ 30))

/-- The flash die on its channel that holds a cell of T3 (R165). -/
def State.dieOf (s : State) (cell : Nat) : Nat :=
  let n := max 1 (s.fld F.TIER_T3_CFG_DIES)
  cell % 2 ^ 56 % (n * 216 * 2 ^ 30) / 4096 % n

/-- Whether the stack, channel or flash die that holds a cell counts as failed (R166). -/
def State.partFailed (s : State) (cell : Nat) : Bool :=
  if cell / 2 ^ 56 = 2 then s.tier.dies.contains (s.partOf cell, s.dieOf cell)
  else s.fldBit (if cell / 2 ^ 56 = 0 then F.TIER_T1_CFG_STACK_FAILED else F.TIER_T2_CFG_CH_FAILED) (s.partOf cell)

/-- Kinds of runs that go unit by unit: the rebuild onto this spare (R189), the copy of a P1 granule to its mirror, and at an owner how far the
parity holder has recomputed the parity of one of its P2 granules (R473). -/
def runREBUILD := 1
def runMIRROR := 2
def runPARITY := 3

def unitBytes := 65536

/-- Where stage 4 of a rebuild onto this member stands in a tier: the offset of the next 64 KiB unit (R189). -/
def State.rebuildFront (s : State) (tier : Nat) : Nat :=
  match s.tier.runs.find? (fun r => r.kind == runREBUILD && tierOfWin (r.cell / 2 ^ 56) == tier) with
  | some r => r.cell % 2 ^ 56
  | none => 2 ^ 56

/-- Whether this member's own copy of a cell is not there to serve it: its part has failed (R166), or the rebuild onto this member has
not reached its unit (R189). -/
def State.notServed (s : State) (cell : Nat) : Bool :=
  s.partFailed cell || (s.fld F.TIER_REBUILD_STATUS_STATE == 2 && decide (s.rebuildFront (tierOfWin (cell / 2 ^ 56)) ≤ cell % 2 ^ 56))

/-! ### Claims and classes -/

/-- The claim that covers a cell. -/
def State.claimAt (s : State) (cell : Nat) : Option Claim :=
  s.xlt.claims.find? (fun k => !k.alias_ && decide (k.cell ≤ cell ∧ cell < k.cell + k.bytes))

/-- Whether a P2 claim's unit is armed (R181). -/
def Claim.armedAt (k : Claim) (cell : Nat) : Bool :=
  let u := (cell - k.cell) / 65536
  k.cls == 2 && decide (k.disarmed ≤ u ∧ u < k.armed)

/-- The protection in force at a cell: 1 mirrored P1, 2 armed P2, else 0 (R177 to R182). -/
def State.protection (s : State) (cell : Nat) : Nat :=
  match s.claimAt cell with
  | some k => if k.cls = 1 then 1 else if k.armedAt cell then 2 else 0
  | none =>
    match s.runOfCell cell with
    | some r => if r.mirrored && s.meetsTable cell 1 then 1 else 0
    | none => 0

/-! ### Parity geometry (R179, R180) -/

/-- D of a tier. -/
def State.p2Data (s : State) (tier : Nat) : Nat :=
  if tier = 2 then s.fld F.TIER_P2_LAYOUT_T2_DATA else if tier = 3 then s.fld F.TIER_P2_LAYOUT_T3_DATA else 0

/-- The slot that holds the parity of granule `g` of a member. -/
def parityIndex (dev g : Nat) : Nat := (dev % 8 + 8 - g % 7 + 7) % 8

/-- The member that holds that parity. -/
def parityHolder (dev g : Nat) : Nat := dev / 8 * 8 + parityIndex dev g

/-- The granule of the parity at its holder. -/
def State.parityGranule (s : State) (tier g : Nat) : Nat := s.p2Data tier + g / 7

/-- The other data granules of the stripe of granule `g` of a member: (member, granule). -/
def stripeOthers (dev g : Nat) : List (Nat × Nat) :=
  let i := parityIndex dev g
  ((List.range 8).filter (fun t => t != i && t != dev % 8)).map (fun t =>
    (dev / 8 * 8 + t, 7 * (g / 7) + (t + 16 - i - 1) % 8))

/-- Split a cell into its granule and the offset in it, and build one. -/
def cellGranule (cell : Nat) : Nat := cell % 2 ^ 56 / granuleBytes (cellTier cell)
def cellAt (tier g off : Nat) : Nat := (tier - 1) * 2 ^ 56 + g * granuleBytes tier + off
def cellOff (cell : Nat) : Nat := cell % 2 ^ 56 % granuleBytes (cellTier cell)

/-- The redundancy holder of a range of a member, by class (R177, R180, R183). -/
def State.holderOf (s : State) (dga cls : Nat) : Option Nat :=
  if cls = 1 then some (s.partner (dgaDev dga))
  else if cls = 2 then some (parityHolder (dgaDev dga) (cellGranule (dgaCell dga)))
  else none

/-- The number that serves a request to an address under R36: the owner, or for a FAILED owner its redundancy holder. -/
def State.route (s : State) (dga cls : Nat) : Except Status Nat :=
  s.targetOf (dgaDev dga) (dgaWin dga) ((s.holderOf dga cls).filter (fun h => s.memberState h != .failed))

/-! ### Degraded granules (R184) -/

/-- A granule of this owner is left with reduced redundancy. -/
def State.degrade (s : State) (cell : Nat) : State :=
  let k := (cellTier cell, cellGranule cell)
  if s.tier.degraded.contains k then s
  else
    let s : State := { s with tier.degraded := s.tier.degraded ++ [k] }
    (s.addF F.TIER_REDUND_DEGRADED 1).logErr
      { unit := .tier, status := .internal, addr := mkDga s.devnum 0 0 + cellAt k.1 k.2 0 }

/-- The table areas of enabled contexts as ranges of class P1: they are mirrored (R138, R177). -/
def State.tableRanges (s : State) : List Claim :=
  s.sil.comp.slices.flatMap (fun e =>
    (((List.range e.2.ctxCount).map (e.2.ctxBase + ·)).filter s.ctxEnabled).map (fun c =>
      { dev := s.devnum, ctx := c, cell := s.tableArea c, bytes := 64 * 2 ^ s.fld F.XLT_CTX_CFG_LOG2_CAP c, partition := e.2.partition, cls := 1,
        alias_ := false, revoking := none, va := 0, armed := 0, disarmed := 0, scrubbing := false }))

/-- The ranges of this owner that have redundancy: P1 and P2 claims, and table areas (R177, R179). -/
def State.guardedRanges (s : State) : List Claim :=
  s.xlt.claims.filter (fun k => !k.alias_ && decide (1 ≤ k.cls)) ++ s.tableRanges

/-- A granule of a member has lost every copy: it is counted once (R184). -/
def State.granuleLost (s : State) (dev tier g : Nat) : State :=
  if s.tier.lost.contains (dev, tier, g) then s
  else ({ s with tier.lost := s.tier.lost ++ [(dev, tier, g)] } : State).addF F.TIER_REDUND_LOST 1

/-- The record of a claim that lost data with every copy: one names its first DGA and the other member (R184). -/
def State.tellLoss (s : State) (dga other : Nat) : State :=
  if s.tier.told.contains dga then s
  else ({ s with tier.told := s.tier.told ++ [dga] } : State).logErr { unit := .tier, status := .doubleLoss, addr := dga, syndrome := other }

/-- The report of a range whose copies are all gone (R184): each granule is counted, each claim it meets recorded. -/
def State.lossReport (s : State) (cell n : Nat) : State :=
  let s := (granulesOf cell n).foldl (fun s g => s.granuleLost s.devnum (cellTier cell) g) s
  (s.guardedRanges.filter (fun k => k.meets cell n)).foldl (fun s k =>
    let dga := mkDga s.devnum 0 0 + k.cell
    s.tellLoss dga ((s.holderOf (mkDga s.devnum 0 0 + max cell k.cell) k.cls).getD s.devnum)) s

/-- Both copies are gone (R184): the range is poisoned and the claims reported. -/
def State.doubleLoss (s : State) (cell n : Nat) : State :=
  ({ s with mem := s.mem.poisonRange cell n } : State).lossReport cell n

/-! ### Failed parts (R166, R184) -/

/-- The part of a range in one of its granules: first cell and bytes. -/
def Claim.inGranule (k : Claim) (tier g : Nat) : Nat × Nat :=
  let lo := max k.cell (cellAt tier g 0)
  let hi := min (k.cell + k.bytes) (cellAt tier (g + 1) 0)
  (lo, hi - lo)

/-- A redundant range of this owner has lost its own copy in a granule on the parts that satisfy a test: it counts as degraded, and when its
mirror target or another member of its stripe is FAILED the data is lost. -/
def State.ownCopyLost (s : State) (k : Claim) (g : Nat) (gone : Nat → Bool) : State :=
  let (lo, n) := k.inGranule (cellTier k.cell) g
  let pages := ((List.range (ceilDiv n 4096)).map (fun i => lo + 4096 * i)).filter gone
  if pages.isEmpty then s
  else
    let s := s.degrade lo
    let others := if k.cls = 1 then [s.partner s.devnum] else parityHolder s.devnum g :: (stripeOthers s.devnum g).map Prod.fst
    if others.any (fun h => s.memberState h == .failed) then pages.foldl (fun s c => s.doubleLoss c 4096) s else s

/-- A stack, channel or flash die (`part` 64 × channel + die) counts as failed (R166): it is shown and recorded, and its offsets are served by
class from then on. -/
def State.partFailure (s : State) (tier part : Nat) : State :=
  let (f, n) := if tier = 1 then (F.TIER_T1_CFG_STACK_FAILED, 8) else if tier = 2 then (F.TIER_T2_CFG_CH_FAILED, 16)
    else (F.TIER_T3_CFG_CH_FAILED, 24)
  let i := if tier = 3 then part / 64 else part
  let known := if tier = 3 then decide (s.fld F.TIER_T3_CFG_DIES ≤ part % 64) || s.tier.dies.contains (i, part % 64) else s.fldBit f i
  if tier = 0 ∨ 3 < tier ∨ n ≤ i ∨ known then s
  else
    let s : State := if tier = 3 then { s with tier.dies := s.tier.dies ++ [(i, part % 64)] } else s
    let s := (s.setFldBit f i true).logErr { unit := .tier, status := .internal, index := i, addr := mkDga s.devnum (tier - 1) 0,
                                             syndrome := if tier = 3 then part % 64 else 0 }
    let gone (c : Nat) : Bool := s.partOf c == i && (tier != 3 || s.dieOf c == part % 64)
    (s.guardedRanges.filter (fun k => cellTier k.cell == tier)).foldl (fun s k =>
      (granulesOf k.cell k.bytes).foldl (fun s g => s.ownCopyLost k g gone) s) s

/-- Uncorrectable errors on T1 sectors: a stack that returns them on more than 1,024 units in 1 s counts as failed (R166). -/
def State.noteEcc (s : State) (cells : List Nat) : State :=
  let cells := cells.filter (fun c => c / 2 ^ 56 == 0)
  let old := s.tier.ecc.filter (fun e => decide (s.now < e.2 + 1000000000) && !cells.contains e.1)
  let s : State := { s with tier.ecc := old ++ cells.dedup.map (fun c => (c, s.now)) }
  ((cells.map s.partOf).dedup).foldl (fun s i =>
    if 1024 < (s.tier.ecc.filter (fun e => s.partOf e.1 == i)).length then s.partFailure 1 i else s) s

/-! ### Transfers of device functions -/

/-- Change a transfer. -/
def State.modXfer (s : State) (id : Nat) (f : Xfer → Xfer) : State :=
  { s with fab.xfers := s.fab.xfers.map (fun x => if x.id == id then f x else x) }

/-- Add `n` answers to wait for. -/
def State.xferWait (s : State) (id n : Nat) : State := s.modXfer id (fun x => { x with left := x.left + n })

/-- The device functions' partition key of a context. -/
def State.ctxKey (s : State) (c : Nat) : Nat := s.keyOf (s.partOfCtx c)

/-- A request of a transfer that ends at its source: its answer is delivered like any other. -/
def State.xferEnd (s : State) (id off : Nat) (p : Packet) (st : Status) : State := s.answerNow (.xfer id off) p st

/-- Whether a range lies in window 2 and is not whole 4 KiB blocks: no transfer moves it (R38). -/
def partBlocks (dga n : Nat) : Bool := dgaWin dga == 2 && (dga % 4096 != 0 || n % 4096 != 0)

/-- Add the loads of [dga, dga + n) to a transfer; bytes land at `off`.  Window 2 moves by whole blocks (R38, R238). -/
def State.addLoad (s : State) (id off ctx cls dga n vc : Nat) : State :=
  let p : Packet := { op := opLOAD, vc := vc, pkey := s.ctxKey ctx, ctx := ctx, addr := dga }
  if n = 0 then s
  else if partBlocks dga n then (s.xferWait id 1).xferEnd id off { p with size := n - 1 } .access
  else match s.route dga cls with
    | .error st => (s.xferWait id 1).xferEnd id off { p with size := n - 1 } st
    | .ok d =>
      if dgaWin dga = 2 then
        (List.range (ceilDiv n 4096)).foldl (fun s k =>
          (s.xferWait id 16).issue { p with op := opBLOCK_READ, vc := if vc = vcBULK then vcBULK else vcREQ, dst := d,
                                            addr := dga + 4096 * k, size := 255 } (.xfer id (off + 4096 * k))) s
      else
        (cut256 dga (n / 256 + 2) n).foldl (fun s c =>
          (s.xferWait id 1).issue { p with dst := d, addr := c.1, size := c.2 - 1 } (.xfer id (off + (c.1 - dga)))) s

/-- The poison bits of the sectors of a store of marked bytes at an address. -/
def markMask (a : Nat) (bs : List MByte) : Nat :=
  maskOf (((List.range bs.length).filter (fun i => (bs.getD i (0, false)).2)).map (fun i => (a % 64 + i) / 64))

def plain (bs : List MByte) : List Byte := bs.map Prod.fst
def unmarked (bs : List Byte) : List MByte := bs.map (fun b => (b, false))

/-- Add the stores of marked bytes at `dga` to a transfer.  `tag k` is the tag of the k-th store of 256 B or less; 0 draws a
transaction tag. `tagged` is clear only for a kernel's stores (R216). -/
def State.addStore (s : State) (id ctx cls dga : Nat) (bs : List MByte) (vc : Nat) (tagged : Bool) (tag : Nat → Nat) : State :=
  let n := bs.length
  let p : Packet := { op := opSTORE, vc := vc, pkey := s.ctxKey ctx, ctx := ctx, addr := dga, tagged := tagged }
  if n = 0 then s
  else if partBlocks dga n then (s.xferWait id 1).xferEnd id 0 p .access
  else match s.route dga cls with
    | .error st => (s.xferWait id 1).xferEnd id 0 p st
    | .ok d =>
      if dgaWin dga = 2 then
        (List.range (ceilDiv n 4096)).foldl (fun s k =>
          let (t, s) := if tag k = 0 then s.drawTag else (tag k, s)
          (List.range 16).foldl (fun s j =>
            let piece := (bs.drop (4096 * k + 256 * j)).take 256
            (if j = 0 then s.xferWait id 1 else s).issue
              { p with op := opBLOCK_WRITE, vc := if vc = vcBULK then vcBULK else vcREQ, tagged := true, dst := d, tag := t,
                       addr := dga + 4096 * k, size := 255, sectors := 4, aux := j, poison := markMask 0 piece,
                       payload := padTo 256 (plain piece) } (if j = 0 then .xfer id 0 else .none)) s) s
      else
        ((cut256 dga (n / 256 + 2) n).zipIdx).foldl (fun s ck =>
          let c := ck.1
          let piece := (bs.drop (c.1 - dga)).take c.2
          (s.xferWait id 1).issue
            { p with dst := d, addr := c.1, size := c.2 - 1, sectors := sectorsOf c.1 (c.2 - 1), tag := tag ck.2,
                     poison := markMask c.1 piece, payload := storePayload c.1 (plain piece) } (.xfer id 0)) s

/-- Start a transfer that loads one range. -/
def State.loadFor (s : State) (o : XOwner) (ctx cls dga n vc : Nat) : State :=
  let (id, s) := s.newXfer o 0
  s.addLoad id 0 ctx cls dga n vc

/-- Start a transfer that stores one range. -/
def State.storeFor (s : State) (o : XOwner) (ctx cls dga : Nat) (bs : List MByte) (vc : Nat) (tag : Nat → Nat) : State :=
  let (id, s) := s.newXfer o 0
  s.addStore id ctx cls dga bs vc true tag

/-- What a transfer's loads brought, in order of offset. -/
def Xfer.data (x : Xfer) : List MByte := (x.pieces.map Prod.snd).flatten

/-- A piece arrives; one with poison keeps where it came from. -/
def Xfer.put (x : Xfer) (off dga : Nat) (bs : List MByte) : Xfer :=
  { x with pieces := x.pieces.put off bs, marks := if bs.any (fun b => b.2) then x.marks.put off dga else x.marks }

/-- The DGA of the first poisoned byte among positions `lo` to `hi` - 1 of what a transfer's loads brought. -/
def Xfer.poisonDga (x : Xfer) (lo hi : Nat) : Option Nat :=
  (x.pieces.foldl (fun (a : Nat × Option Nat) p =>
    (a.1 + p.2.length, a.2.or (match p.2.zipIdx.find? (fun b => b.1.2 && decide (lo ≤ a.1 + b.2 ∧ a.1 + b.2 < hi)) with
      | some b => (x.marks.get? p.1).map (· + b.2)
      | none => none))) (0, none)).2

/-- The bytes of a load response that answer its request, with the poison marks of their sectors; a load answered `POISON`
delivers every byte poisoned (R236). -/
def loadBytes (req rsp : Packet) : List MByte :=
  if rsp.status = Status.poison.code ∧ rsp.payload.isEmpty then List.replicate (req.size + 1) (0, true)
  else ((slice rsp.payload (req.addr % 64) (req.size + 1)).zipIdx).map (fun b =>
    (b.1, bitAt rsp.poison ((req.addr % 64 + b.2) / 64)))

/-- A member's bytes for parity say whether they are armed: their CTX is the partition + 1, or 0 (R181; log entry 24).  The holder of their
parity keeps the page as armed or not. -/
def State.notePage (s : State) (req rsp : Packet) : State :=
  let page := dgaCell req.addr / 4096
  let here := parityHolder (dgaDev req.addr) (cellGranule (dgaCell req.addr)) == s.devnum
  if req.op ≠ opPARITY ∨ !bitAt req.aux 8 ∨ bitAt req.aux 12 ∨ bitAt req.aux 13 ∨ !here ∨ rsp.status ≠ 0 then s
  else
    let rest := s.tier.armedFor.filter (fun a => !(a.1 == dgaDev req.addr && a.2.1 == page))
    { s with tier.armedFor := if rsp.ctx = 0 then rest else rest ++ [(dgaDev req.addr, page, rsp.ctx - 1)] }

/-- The answer to one request of a transfer: its data, and for the first failure its status. -/
def State.xferAnswer (s : State) (id off : Nat) (req rsp : Packet) : State :=
  let st := Status.ofCode rsp.status
  let lost := st = .poison ∧ (req.op = opLOAD ∨ req.op = opBLOCK_READ)
  let s := s.notePage req rsp
  s.modXfer id (fun x =>
    let x := if st = .done ∨ lost then x else if x.status = .done then { x with status := st } else x
    if (req.op = opLOAD ∨ (req.op = opPARITY ∧ bitAt req.aux 8)) ∧ (st = .done ∨ lost) then { x.put off req.addr (loadBytes req rsp) with left := x.left - 1 }
    else if req.op = opBLOCK_READ then
      let missing := (List.range 16).filter (fun k => (x.pieces.get? (off + 256 * k)).isNone)
      if st = .done then
        if !missing.contains (rsp.aux % 16) then x
        else
          let bs : List MByte := (rsp.payload.zipIdx).map (fun b => (b.1, bitAt rsp.poison (b.2 / 64)))
          { x.put (off + 256 * (rsp.aux % 16)) (req.addr + 256 * (rsp.aux % 16)) bs with left := x.left - 1 }
      else
        let bad : List MByte := List.replicate 256 (0, true)
        let x := { x with left := x.left - missing.length }
        if lost then missing.foldl (fun x k => x.put (off + 256 * k) (req.addr + 256 * k) bad) x else x
    else if req.op = opATOMIC ∧ st = .done then
      { x with left := x.left - 1, pieces := x.pieces.put off ((slice rsp.payload 0 (req.size + 1)).map (fun b => (b, false))) }
    else { x with left := x.left - 1 })

end Sys2Proof.Machine
end

