-- ==== Sys2Proof/Machine/Serve.lean ====
section
/-! DEFINITION. How an owner, mirror target or parity holder serves a request to its memory once the home agent has cleared
the way (spec/06 R171 to R184; spec/08 R235 to R241; spec/15 R403 to R405).  The fields of MIRROR and PARITY that R234 leaves
open are those of log entry 24. -/

namespace Sys2Proof.Machine

/-! ### Checks of loads, stores and atomics -/

/-- Whether an access crosses a 256 B boundary (R235). -/
def crosses256 (addr size : Nat) : Bool := decide (addr % 256 + size ≥ 256)

/-- The fault of an atomic's operands (R239, R240). -/
def atomicFault (p : Packet) : Bool :=
  let n := atomicSize p.atype
  n == 0 || decide (p.size + 1 ≠ n) || decide (p.addr % n ≠ 0) || (atomicNew p.atype 0 0 0).isNone

/-- Bandwidth class of a partition (R175). -/
def State.partClass (s : State) (part : Nat) : Nat := match s.sil.comp.partitions.get? part with | some x => x.bwClass | none => 0

/-- Bandwidth class of a key's partition (R175). -/
def State.bwClass (s : State) (key : Nat) : Nat :=
  match s.partOfKey key with
  | some part => s.partClass part
  | none => 0

/-- The name of the key under which a request reads and writes: its partition's data key with the tweak of the member it addresses (R185,
R186). -/
def State.accessKey? (s : State) (p : Packet) : Option Nat := (s.partOfKey p.pkey).bind (fun part => s.dataKeyAs part (dgaDev p.addr))

def State.accessKey (s : State) (p : Packet) : Nat := (s.accessKey? p).getD 0

/-- Bytes served to a bandwidth class; `TIER_BWC_n.MIB` counts whole MiB (R175). -/
def State.serveBytes (s : State) (cls n : Nat) : State :=
  let v := s.tier.served.getD cls 0 + n
  let s : State := { s with tier.served := s.tier.served.store cls (v % 2 ^ 20) 0 }
  if v ≥ 2 ^ 20 then s.count (F.TIER_BWC_MIB.at cls) (v / 2 ^ 20) else s

/-! ### Redundancy of a write (R178, R182) -/

def auxSource (aux : Nat) : Nat := bitsOf aux 1 6
/-- The write's result follows the data in a sector of its own (R245). -/
def auxResult (aux : Nat) : Bool := bitAt aux 7
/-- A PARITY that asks for data: a member's armed bytes, or with bit 12 what is stored at the address, or with bit 13 what its parity holder
reconstructs; bit 14 marks the reading of a unit whose parity is recomputed. -/
def auxRead (aux : Nat) : Bool := bitAt aux 8
def auxArm (aux : Nat) : Bool := bitAt aux 9
def auxDisarm (aux : Nat) : Bool := bitAt aux 10
/-- Traffic of rebuild, arming and scrubbing: its class is in bits [30:28] (R176). -/
def auxDevice (aux : Nat) : Bool := bitAt aux 11
def auxStored (aux : Nat) : Bool := bitAt aux 12
def auxRebuilt (aux : Nat) : Bool := bitAt aux 13
def auxRecompute (aux : Nat) : Bool := bitAt aux 14
/-- The end of a unit's recomputation; bit 14 says that it is whole (R473). -/
def auxRelease (aux : Nat) : Bool := bitAt aux 15
def auxPartition (aux : Nat) : Nat := bitsOf aux 16 12

/-- The class that a MIRROR or PARITY is served in: that of the write that caused it, or of the rebuild (R176). -/
def State.auxClass (s : State) (aux : Nat) : Nat := if auxDevice aux then bitsOf aux 28 3 else s.partClass (auxPartition aux)

/-- AUX of this member's rebuild, arming and scrubbing traffic (R176). -/
def State.deviceAux (s : State) : Nat := 2 * s.devnum + 2048 + 2 ^ 28 * s.fld F.TIER_REBUILD_CTRL_CLASS

def xorBytes (a b : List Byte) : List Byte := (List.zip a b).map (fun p => p.1 ^^^ p.2)

/-- The bytes of the whole sectors that a MIRROR or PARITY carries, and the result after them. -/
def carried (p : Packet) : List Byte := padTo (64 * sectorsOf p.addr p.size) p.payload
def carriedResult (p : Packet) : List Byte := if auxResult p.aux then slice p.payload (64 * sectorsOf p.addr p.size) 64 else []

/-- The MIRROR or PARITY that protects a write of this owner to [cell, cell + n), with memory as it was `before`: the ciphertext of the written
sectors, or its change (R178, R182, R186); none while its holder takes none. -/
def State.protectPacket (s : State) (p : Packet) (before : Mem) (cell n : Nat) (result : List Byte) : Option Packet :=
  let cls := s.protection cell
  let dga := mkDga s.devnum 0 0 + cell
  let k := sectorsOf cell (n - 1)
  let a := cell / 64 * 64
  match s.holderOf dga cls with
  | none => none
  | some h =>
    if s.memberState h ≠ .active then none
    else
      let new := s.mem.readN 0 a (64 * k)
      some { op := if cls = 1 then opMIRROR else opPARITY, vc := if p.vc = vcBULK then vcBULK else vcREQ, tagged := true, dst := h, addr := dga,
             size := n - 1, sectors := k + (if result.isEmpty then 0 else 1), tag := p.tag, poison := s.mem.poisonMask cell n,
             aux := 2 * p.src + (if result.isEmpty then 0 else 128) + (s.partOfCell cell).getD 0 * 65536,
             payload := (if cls = 1 then new else xorBytes (before.readN 0 a (64 * k)) new) ++ (if result.isEmpty then [] else padTo 64 result) }

/-- Answer a request now, or hold the answer while the redundancy of a line it reads is unacknowledged (R293). -/
def State.answerSafe (s : State) (lines : List Nat) (p : Packet) (st : Status) (data : List Byte) (poison : Nat) : State :=
  if s.tier.inFlight.any (fun w => w.lines.any lines.contains) then
    { s with tier.heldAnswers := s.tier.heldAnswers ++ [⟨lines, p, st, data, poison⟩] }
  else s.finish p st data poison

/-- Release the answers whose lines no unacknowledged write holds (R293). -/
def State.releaseAnswers (s : State) : State :=
  let blocked (h : HeldAnswer) : Bool := s.tier.inFlight.any (fun w => w.lines.any h.lines.contains)
  let go := s.tier.heldAnswers.filter (fun h => !blocked h)
  go.foldl (fun s h => s.finish h.pkt h.status h.data h.poison)
    { s with tier.heldAnswers := s.tier.heldAnswers.filter blocked }

/-- The lines of an access. -/
def linesOf (addr size : Nat) : List Nat := (List.range (sectorsOf addr size)).map (fun k => addr / 64 + k)

/-- One packet of a write's redundancy is answered (R178). With the last of them the request takes `DONE`, or the first status other than it
that the holder gave, which leaves the granule degraded; answers that waited for it follow (R293). -/
def State.protected_ (s : State) (p : Packet) (st : Status) : State :=
  match s.tier.inFlight.find? (fun w => w.pkt == p) with
  | none => s
  | some w =>
    let s := if st = .done then s else s.degrade (dgaCell p.addr)
    let w' := { w with left := w.left - 1, status := if w.status = .done then st else w.status }
    if w'.left ≠ 0 then { s with tier.inFlight := s.tier.inFlight.map (fun v => if v == w then w' else v) }
    else
      let s : State := { s with tier.inFlight := s.tier.inFlight.filter (fun v => !(v == w)) }
      (s.finish p w'.status (if w'.status = .done then w.data else [])).releaseAnswers

/-- The redundancy holder of a write was declared lost (R178): the write is acknowledged on the owner's copy alone. -/
def State.unprotected (s : State) (p : Packet) : State :=
  ((s.degrade (dgaCell p.addr)).protected_ p .done)

/-- Whether a write's redundancy may be sent: no earlier write to one of its sectors is unacknowledged, so that the holder applies them in this
owner's order (R178). -/
def State.mirrorReady_ (s : State) (w : InFlight) : Bool :=
  !w.todo.isEmpty && !(s.tier.inFlight.takeWhile (fun v => v != w)).any (fun v => v.lines.any w.lines.contains)

/-- Send the redundancy of the writes that wait for no earlier one; one whose holder is ACTIVE no more goes without (R178). -/
def State.sendMirrors (s : State) : State :=
  (s.tier.inFlight.filter s.mirrorReady_).foldl (fun s w =>
    let s : State := { s with tier.inFlight := s.tier.inFlight.map (fun v => if v == w then { w with todo := [] } else v) }
    w.todo.foldl (fun s m =>
      if s.memberState m.dst = .active then (s.noteForward w.pkt.src w.pkt.tag m.dst).issue m (.mirrored w.pkt)
      else s.unprotected w.pkt) s) s

/-- A write is in place: its redundancy is sent, and the answer waits for it (R178, R182); where there is none, or its holder takes none, the
write is answered, and a granule that should have some is degraded. `parts` are the ranges written, of 256 B or less. -/
def State.protectWrite (s : State) (p : Packet) (before : Mem) (lines : List Nat) (parts : List (Nat × Nat)) (result : List Byte)
    (atomic : Bool) : State :=
  let msgs := parts.map (fun c => (c.1, s.protectPacket p before c.1 c.2 result))
  let s := msgs.foldl (fun s m => if m.2.isSome || s.protection m.1 == 0 then s else s.degrade m.1) s
  let todo := msgs.filterMap Prod.snd
  if todo.isEmpty then s.answerSafe (if atomic then lines else []) p .done result 0
  else ({ s with tier.inFlight := s.tier.inFlight ++ [⟨p, lines, result, todo, todo.length, .done⟩] } : State).sendMirrors

/-- Apply a write at its owner and pass it to its redundancy (R178, R182). -/
def State.ownerWrite (s : State) (p : Packet) (cell : Nat) (new : List Byte) (pmask : Nat) (result : List Byte)
    (atomic : Bool) : State :=
  let before := s.mem
  let s : State := { s with mem := s.mem.store (s.keyFor cell) cell new pmask }
  (s.serveBytes (s.bwClass p.pkey) new.length).protectWrite p before (linesOf p.addr p.size) [(cell, new.length)] result atomic

/-! ### Extent tables in memory (R134, R138) -/

/-- A write of the member itself (OP 0): it has redundancy like any other, and nobody is answered. -/
def State.deviceWrite (s : State) (cell : Nat) (bs : List Byte) : State :=
  (cut256 cell (bs.length / 256 + 2) bs.length).foldl (fun s c =>
    let (t, s) := s.drawTag
    let p : Packet := { op := 0, vc := vcREQ, src := s.devnum, dst := s.devnum, tag := t, pkey := 0xFFFF, addr := mkDga s.devnum 0 0 + c.1,
                        size := c.2 - 1 }
    s.ownerWrite p c.1 ((bs.drop (c.1 - cell)).take c.2) 0 [] false) s

/-- What has changed in the tables of enabled contexts goes to their areas: the entries from the first that changed on, and zeros for those
that have gone; PINS and REFS alone go to this member's own copy (R134, R138; log entry 56). -/
def State.writeTables (s : State) : State :=
  let dirty := s.xlt.dirty.filter (fun d => s.ctxEnabled d.1)
  let counted := s.xlt.counted.filter (fun e => s.ctxEnabled e.1 && !dirty.any (fun d => d.1 == e.1 && decide (d.2.1 ≤ e.2)))
  let before (c va : Nat) : Nat := ((s.extentsOf c).filter (fun e => decide (e.va < va))).length
  let s : State := { s with xlt.dirty := [], xlt.counted := [] }
  let s := dirty.foldl (fun s d =>
    let i := before d.1 d.2.1
    let room := 64 * 2 ^ s.fld F.XLT_CTX_CFG_LOG2_CAP d.1 - 64 * i
    let bs := (((s.extentsOf d.1).drop i).flatMap Extent.bytes ++ zeros (64 * max 1 d.2.2)).take room
    s.deviceWrite (s.tableArea d.1 + 64 * i) bs) s
  counted.foldl (fun s c =>
    match (s.extentsOf c.1).find? (fun e => e.va == c.2) with
    | some e =>
      let a := s.tableArea c.1 + 64 * before c.1 c.2
      { s with mem := s.mem.store (s.keyFor a) a e.bytes 0 }
    | none => s) s

/-! ### Serving from redundancy (R183) -/

/-- Forward a request to a redundancy holder under a tag of this member; its answer goes to the requester. -/
def State.forwardTo (s : State) (p : Packet) (h : Nat) : State :=
  s.issue { p with dst := h, tag := 0, noCombine := true, combined := false } (.forwarded p)

/-- Forward a line that an agent gives back to the holder of its redundancy as a store (R183). -/
def State.forwardLine (s : State) (p : Packet) (h : Nat) : State :=
  s.issue { p with op := opSTORE, tagged := true, dst := h, tag := 0, aux := 0, noCombine := true, combined := false } (.forwarded p)

/-- Take a line that an agent gives back: at its owner, or where the owner's copy is not there at the redundancy holder (R183). -/
def State.takeLine (s : State) (p : Packet) : State :=
  let cell := dgaCell p.addr
  if s.notServed cell then
    match s.holderOf p.addr (s.protection cell) with
    | some h => s.forwardLine p h
    | none => s.finish p .poison
  else s.ownerWrite p cell (padTo 64 (slice p.payload (p.addr % 64) (p.size + 1))) p.poison [] false

/-- The sectors that some ranges of addresses touch, as ranges of whole sectors within 256 B each. -/
def sectorRuns (ranges : List (Nat × Nat)) : List (Nat × Nat) :=
  let ls := (ranges.flatMap (fun r => if r.2 = 0 then [] else (List.range (sectorsOf r.1 (r.2 - 1))).map (fun k => r.1 / 64 + k))).dedup
  ((ls.map (· / 4)).dedup).map (fun b =>
    let mine := ls.filter (fun l => l / 4 == b)
    let lo := mine.foldl min (mine.headD 0)
    let hi := mine.foldl max 0
    (64 * lo, 64 * (hi - lo + 1)))

/-- A PARITY that asks a member for bytes (log entry 24). -/
def parityRead (dst dga n aux : Nat) : Packet :=
  { op := opPARITY, vc := vcREQ, tagged := true, dst := dst, addr := dga, size := n - 1, sectors := sectorsOf dga (n - 1), aux := aux + 256,
    payload := zeros (64 * sectorsOf dga (n - 1)) }

/-- Ask a member for part of what a transfer waits for; one that is not ACTIVE gives nothing. -/
def State.askPart (s : State) (id off : Nat) (p : Packet) : State :=
  if s.memberState p.dst = .active then (s.xferWait id 1).issue p (.xfer id off) else (s.xferWait id 1).xferEnd id off p .poison

/-- Where a member's bytes of a range are kept in a transfer that reads a stripe. -/
def stripeOff (member dga : Nat) : Nat := member * 2 ^ 64 + dga

/-- Ask the other members of a stripe for their bytes of some sector ranges of one member (R181); what waits goes on once they are in. -/
def State.askStripe (s : State) (o : XOwner) (runs : List (Nat × Nat)) : State :=
  let (id, s) := s.newXfer o 0
  runs.foldl (fun s r =>
    let cell := dgaCell r.1
    (stripeOthers (dgaDev r.1) (cellGranule cell)).foldl (fun s e =>
      let a := mkDga e.1 0 0 + cellAt (cellTier cell) e.2 (cellOff cell)
      s.askPart id (stripeOff (e.1 % 8) r.1) (parityRead e.1 a r.2 (2 * s.devnum))) s) s

/-- The parity bytes this member holds for a range of another member. -/
def State.parityCell (s : State) (dga : Nat) : Nat :=
  let cell := dgaCell dga
  cellAt (cellTier cell) (s.parityGranule (cellTier cell) (cellGranule cell)) (cellOff cell)

def xorMarked (a b : List MByte) : List MByte := (List.zip a b).map (fun q => (q.1.1 ^^^ q.2.1, q.1.2 || q.2.2))

/-- The reconstructed ciphertext of a sector range: the parity XOR the other members' bytes (R182, R183).  It is poisoned where the lost copy was,
or where a contribution is (R405). -/
def State.reconstructed (s : State) (r : Nat × Nat) (x : Xfer) : List MByte :=
  let own : List MByte := ((s.mem.readN 0 (s.parityCell r.1) r.2).zipIdx).map (fun b =>
    (b.1, s.tier.marks.contains (dgaDev r.1, dgaCell (r.1 + b.2) / 64)))
  (List.range 8).foldl (fun acc m => match x.pieces.get? (stripeOff m r.1) with
    | some bs => xorMarked acc bs
    | none => acc) own

/-- Reconstructed ranges as memory that holds their ciphertext and marks. -/
def State.reconstructedMem (s : State) (runs : List (Nat × Nat)) (x : Xfer) : Mem :=
  runs.foldl (fun m r =>
    let bs := s.reconstructed r x
    m.store 0 (dgaCell r.1) (plain bs) (markMask 0 bs)) ⟨[], [], []⟩

/-- The sectors of a range take the poison marks of what is stored there for a member, in the marks of its parity (R405). -/
def State.markParity (s : State) (dev cell : Nat) (poison : List Bool) : State :=
  { s with tier.marks := (poison.zipIdx).foldl (fun ms b =>
      let e := (dev, cell / 64 + b.2)
      if b.1 then (if ms.contains e then ms else ms ++ [e]) else ms.filter (· != e)) s.tier.marks }

/-- A sector range of the parity held for a member changes with its ciphertext (R182). -/
def State.changeParity (s : State) (dga : Nat) (delta : List Byte) (poison : List Bool) : State :=
  let c := s.parityCell (dga / 64 * 64)
  let s : State := { s with mem := s.mem.store 0 c (xorBytes (s.mem.readN 0 c delta.length) delta) (s.mem.poisonMask c delta.length) }
  s.markParity (dgaDev dga) (dgaCell dga) poison

/-- Whether this member serves a FAILED owner's cell from its mirror (R177, R183). -/
def State.mirrorServes (s : State) (dga : Nat) : Bool :=
  s.partner (dgaDev dga) == s.devnum && s.isMirrorPos (dgaCell dga) && !s.notServed (dgaCell dga)

/-- Whether it holds the armed unit's parity (R181). -/
def State.parityServes (s : State) (dga : Nat) : Bool :=
  s.tier.armedFor.any (fun a => a.1 == dgaDev dga && a.2.1 == dgaCell dga / 4096) && !s.notServed (s.parityCell dga)

/-- The sector ranges that a request covers: of its pieces where it is a whole tile or block. -/
def Packet.cover (p : Packet) (pieces : List (Nat × List Byte)) : List (Nat × Nat) :=
  if pieces.isEmpty then sectorRuns [(p.addr, if p.op = opBLOCK_READ then 4096 else p.size + 1)]
  else sectorRuns (pieces.map (fun e => (e.1, e.2.length)))

/-- Whether a request to a range of cells waits for a unit that is being copied: a rebuild's holds every request (R189), arming, scrubbing and
resynchronisation hold writes (R181, R473). -/
def State.unitHeld (s : State) (write : Bool) (cell n : Nat) : Bool :=
  let meets (c m : Nat) : Bool := decide (c < cell + n ∧ cell < c + m)
  s.tier.runs.any (fun r => r.busy && (write || r.kind == runREBUILD) && meets r.cell (min unitBytes (r.stop - r.cell)))
    || (write && (s.fab.reqs ++ s.fab.waiting).any (fun r => match r.waiter with | .resync c m => meets c m | _ => false))

/-! ### Loads (R235, R236, R404) -/

/-- Error record of a poisoned sector found by an access (R403). -/
def State.poisonRecord (s : State) (cell : Nat) : State :=
  s.logErr { unit := .tier, status := .poison, addr := mkDga s.devnum 0 0 + cell,
             partition := s.partOfCell cell }

/-- A sector or block whose ECC fails uncorrectably and that no copy repairs is poisoned, counted and recorded (R403). -/
def State.eccPoison (s : State) (cell : Nat) (sectors : List Nat) : State :=
  let s : State := { s with mem := sectors.foldl (fun m k => m.setPoison (cell + 64 * k) true) s.mem }
  (s.count F.RAS_ECC_UNCORRECTED).poisonRecord cell

/-- Bytes a request covers: a block request a whole 4 KiB block (R238). -/
def Packet.span (p : Packet) : Nat := if p.op = opBLOCK_READ ∨ p.op = opBLOCK_WRITE then 4096 else p.size + 1

/-- Answer a BLOCK_READ: 16 responses, each with its four sectors and their poison bits (R238). -/
def State.blockAnswer (s : State) (p : Packet) (bs : List Byte) (mask : Nat) : State :=
  (List.range 16).foldl (fun s k =>
    s.respond { p with aux := k } .done (slice bs (256 * k) 256) (bitsOf mask (4 * k) 4)) s

/-- Answer a load from this member's own bytes. -/
def State.readOwn_ (s : State) (p : Packet) (key cell : Nat) : State :=
  let n := p.size + 1
  let bs := s.mem.readN key cell n
  let s := s.serveBytes (s.bwClass p.pkey) n
  s.answerSafe (linesOf p.addr p.size) p .done (storePayload p.addr bs) (s.mem.poisonMask cell n)

/-- Serve an uncached load.  `ecc` marks the touched sectors whose ECC fails uncorrectably (R403, R404). -/
def State.serveLoad (s : State) (p : Packet) (ecc : Nat) : State :=
  let cell := dgaCell p.addr
  let own := s.isSelf (dgaDev p.addr)
  let key := s.accessKey p
  if crosses256 p.addr p.size then s.finish p .badDescriptor
  else if !own then
    if s.mirrorServes p.addr then s.readOwn_ p key cell
    else if s.parityServes p.addr then s.askStripe (.reconstruct p []) (p.cover [])
    else s.finish p .poison
  else if s.notServed cell then
    match s.holderOf p.addr (s.protection cell) with
    | some h => s.forwardTo p h
    | none => s.finish p .poison
  else
    let bad := (List.range (sectorsOf p.addr p.size)).filter (bitAt ecc)
    let s := if bad.isEmpty then s else s.noteEcc (bad.map (fun k => cell / 64 * 64 + 64 * k))
    if bad.isEmpty then s.readOwn_ p key cell
    else match s.holderOf p.addr (s.protection cell) with
      | some h =>
        let (id, s) := s.newXfer (.repair p ecc) 1
        let a := p.addr / 64 * 64
        s.issue { p with op := opLOAD, dst := h, tag := 0, addr := a, size := 64 * sectorsOf p.addr p.size - 1, noCombine := true,
                         aux := 0, sectors := 0, payload := [] } (.xfer id 0)
      | none =>
        let s := bad.foldl (fun s k => s.eccPoison ((cell / 64 + k) * 64) [0]) s
        s.readOwn_ p key cell

/-- The repair of R404 has its data: the bad sectors are rewritten, or poisoned where the repair failed too. -/
def State.repaired (s : State) (p : Packet) (ecc : Nat) (x : Xfer) : State :=
  let cell := dgaCell p.addr / 64 * 64
  let bs := x.data
  let good (k : Nat) : Bool := x.status == .done && ((bs.drop (64 * k)).take 64).length == 64 && ((bs.drop (64 * k)).take 64).all (fun b => !b.2)
  let fix (s : State) (k : Nat) : State :=
    { s with mem := s.mem.store (s.keyFor (cell + 64 * k)) (cell + 64 * k) (plain ((bs.drop (64 * k)).take 64)) 0 }
  let note (s : State) (c : Nat) : State :=
    (s.count F.RAS_ECC_REPAIRED).logErr { unit := .tier, status := .done, corrected := true, addr := mkDga s.devnum 0 0 + c }
  if p.op = opBLOCK_READ then
    let bad := bitsSet 64 ecc
    let s := if bad.all good then note (bad.foldl fix s) cell else (bad.filter good).foldl fix s
    let s := if bad.all good then s else s.eccPoison cell (bad.filter (fun k => !good k))
    let s := s.serveBytes (s.bwClass p.pkey) 4096
    s.blockAnswer p (s.mem.readN (s.keyFor cell) cell 4096) (s.mem.poisonMask cell 4096)
  else
    let bad := (List.range (sectorsOf p.addr p.size)).filter (bitAt ecc)
    let s := bad.foldl (fun s k =>
      if good k then note (fix s k) (cell + 64 * k) else s.eccPoison (cell + 64 * k) [0]) s
    s.readOwn_ p (s.keyFor cell) (dgaCell p.addr)

/-! ### Stores and atomics (R236, R239 to R241) -/

/-- The bytes a store's payload carries for its access. -/
def accessBytes (p : Packet) : List Byte := slice p.payload (p.addr % 64) (p.size + 1)

/-- Apply a write at a redundancy holder for a FAILED owner (R183): to the mirror alone. -/
def State.mirrorWrite (s : State) (p : Packet) (new : List Byte) (result : List Byte) : State :=
  (({ s with mem := s.mem.store (s.accessKey p) (dgaCell p.addr) new p.poison } : State).serveBytes (s.bwClass p.pkey) new.length).finish p
    .done result

/-- The queue, not DISABLED, whose ring header a range of cells touches, and the header's cell (R95, R96). -/
def State.headerAt (s : State) (cell n : Nat) : Option (Nat × Nat) :=
  match s.qx.find? (fun e => s.queueState e.1 != .disabled && decide (dgaCell e.2.ringDga < cell + n ∧ cell < dgaCell e.2.ringDga + 64)) with
  | some e => some (e.1, dgaCell e.2.ringDga)
  | none => none

/-- Whether a line is the ring header of an enabled queue, which is served uncached (R96, R273). -/
def State.headerLine (s : State) (addr : Nat) : Bool :=
  s.isSelf (dgaDev addr) && (s.headerAt (dgaCell addr / 64 * 64) 64).isSome

/-- Serve an uncached store. A store that touches a queue's ring header is a doorbell, a CQ_HEAD store, or refused (R96). -/
def State.serveStore (s : State) (p : Packet) : State :=
  let cell := dgaCell p.addr
  let bs := accessBytes p
  if crosses256 p.addr p.size then s.finish p .badDescriptor
  else if !s.isSelf (dgaDev p.addr) then
    if s.mirrorServes p.addr then s.mirrorWrite p bs []
    else if s.parityServes p.addr then s.askStripe (.reconstruct p []) (p.cover [])
    else s.finish p .poison
  else if s.notServed cell then
    match s.holderOf p.addr (s.protection cell) with
    | some h => s.forwardTo p h
    | none => s.finish p .poison
  else match s.headerAt cell (p.size + 1) with
    | some (q, hdr) =>
      if p.size = 7 ∧ cell = hdr then (s.ownerWrite p cell bs p.poison [] false).doorbell q (leNat bs)
      else if p.size = 7 ∧ cell = hdr + 16 then (s.ownerWrite p cell bs p.poison [] false).cqHeadStore q (leNat bs)
      else s.finish p .access
    | none => s.ownerWrite p cell bs p.poison [] false

/-- The new bytes of an atomic on an old value; the payload holds the operand and, for CAS, the swap value (R240). -/
def atomicBytes (p : Packet) (old : List Byte) : List Byte :=
  let n := p.size + 1
  natLe n ((atomicNew p.atype (leNat old) (leNat (p.payload.take n)) (leNat (slice p.payload 16 n))).getD 0)

def State.serveAtomic (s : State) (p : Packet) : State :=
  let cell := dgaCell p.addr
  let n := p.size + 1
  let key := s.accessKey p
  if atomicFault p then s.finish p .badDescriptor
  else if !s.isSelf (dgaDev p.addr) then
    if s.mirrorServes p.addr then
      if s.mem.poisoned cell ∨ p.poison ≠ 0 then s.finish p .poison
      else
        let old := s.mem.readN key cell n
        s.mirrorWrite { p with poison := 0 } (atomicBytes p old) (padTo 64 old)
    else if s.parityServes p.addr then s.askStripe (.reconstruct p []) (p.cover [])
    else s.finish p .poison
  else if s.notServed cell then
    match s.holderOf p.addr (s.protection cell) with
    | some h => s.forwardTo p h
    | none => s.finish p .poison
  else if (s.headerAt cell n).isSome then s.finish p .access
  else if s.mem.poisoned cell ∨ p.poison ≠ 0 then s.answerSafe (linesOf p.addr p.size) p .poison [] 0
  else
    let old := s.mem.readN key cell n
    s.ownerWrite p cell (atomicBytes p old) 0 (padTo 64 old) true

/-- The first armed page of the run of armed pages of a member's partition that holds a page: a claim's first, once it is armed whole. -/
def Tier.armedStart (t : Tier) (dev part : Nat) : Nat → Nat → Nat
  | 0, page => page
  | fuel + 1, page => if page != 0 && t.armedFor.contains (dev, page - 1, part) then t.armedStart dev part fuel (page - 1) else page

/-- A reconstruction has failed.  Where a contribution is lost two members of the stripe are (R184): the granule is counted and the claim recorded
once, the range is poisoned, and the request is answered with `POISON`; any other failure answers it. -/
def State.doubleLossAnswer (s : State) (p : Packet) (pieces : List (Nat × List Byte)) (st : Status) : State :=
  if st ≠ .poison then s.finish p st
  else
  let cell := dgaCell p.addr
  let dev := dgaDev p.addr
  let other := ((stripeOthers dev (cellGranule cell)).find? (fun m => s.memberState m.1 == .failed)).map Prod.fst
  let part := match s.tier.armedFor.find? (fun a => a.1 == dev && a.2.1 == cell / 4096) with | some a => a.2.2 | none => 0
  let first := s.tier.armedStart dev part s.tier.armedFor.length (cell / 4096)
  let s := (s.granuleLost dev (cellTier cell) (cellGranule cell)).tellLoss (mkDga dev 0 0 + 4096 * first) (other.getD s.devnum)
  let s := (p.cover pieces).foldl (fun s r => s.markParity dev (dgaCell r.1) (List.replicate (r.2 / 64) true)) s
  s.finish p .poison

/-- The poison bits of a piece of a whole tile or block among those of the request. -/
def pieceMask (p : Packet) (a : Nat) : Nat := if p.addr ≤ a then p.poison / 2 ^ (a / 64 - p.addr / 64) else 0

/-- The stripe's bytes are in for a request to a FAILED owner's armed unit (R183): a read gets what they decrypt to, a write changes the parity by
the reconstructed old ciphertext XOR the new. -/
def State.serveReconstructed (s : State) (p : Packet) (pieces : List (Nat × List Byte)) (x : Xfer) : State :=
  let runs := p.cover pieces
  let m := s.reconstructedMem runs x
  let cell := dgaCell p.addr
  let key := s.accessKey p
  let n := p.size + 1
  let change (s : State) (m' : Mem) (len : Nat) (result : List Byte) : State :=
    let s := runs.foldl (fun s r =>
      let c := dgaCell r.1
      s.changeParity r.1 (xorBytes (m.readN 0 c r.2) (m'.readN 0 c r.2)) ((List.range (r.2 / 64)).map (fun k => m'.poisoned (c + 64 * k)))) s
    (s.serveBytes (s.bwClass p.pkey) len).finish p .done result
  if x.status ≠ .done then s.doubleLossAnswer p pieces x.status
  else if !pieces.isEmpty then
    change s (pieces.foldl (fun m e => m.store key (dgaCell e.1) e.2 (pieceMask p e.1)) m) ((pieces.map (fun e => e.2.length)).sum) []
  else if p.op = opLOAD then
    (s.serveBytes (s.bwClass p.pkey) n).finish p .done (storePayload p.addr (m.readN key cell n)) (m.poisonMask cell n)
  else if p.op = opBLOCK_READ then (s.serveBytes (s.bwClass p.pkey) 4096).blockAnswer p (m.readN key cell 4096) (m.poisonMask cell 4096)
  else if p.op = opSTORE then change s (m.store key cell (accessBytes p) p.poison) n []
  else if m.poisoned cell ∨ p.poison ≠ 0 then s.finish p .poison
  else
    let old := m.readN key cell n
    change s (m.store key cell (atomicBytes p old) 0) n (padTo 64 old)

/-! ### MIRROR and PARITY (R178, R181, R182, R245) -/

/-- A MIRROR or PARITY is applied once for each tag and address, and the tag recorded under the write's source with its result (R245). -/
def State.applyOnce (s : State) (p : Packet) (apply : State → State) : State :=
  let src := auxSource p.aux
  match s.fab.dedupOf src p.tag with
  | some e =>
    if e.pieces.contains p.addr ∨ e.pieces.isEmpty then (s.count F.FAB_DEDUP_HITS).respond p .done
    else
      let s := (apply s).serveBytes (s.auxClass p.aux) (carried p).length
      ({ s with fab.dedup := s.fab.dedup.map (fun d =>
          if d.src == src && d.tag == p.tag then { d with pieces := d.pieces ++ [p.addr] } else d) } : State).respond p .done
  | none =>
    let s := (apply s).serveBytes (s.auxClass p.aux) (carried p).length
    (s.dedupRecord src p.tag .done (carriedResult p) [p.addr]).respond p .done

/-- A mirror target writes a data MIRROR's ciphertext to its mirror position (R178, R186). -/
def State.mirrorApply (s : State) (p : Packet) : State :=
  s.applyOnce p (fun s => { s with mem := s.mem.store 0 (dgaCell p.addr / 64 * 64) (carried p) p.poison })

/-- A member answers a PARITY that asks for data (R182): the ciphertext of its armed P2 bytes, zero for others, and in CTX whether they are
armed; or what it stores, or reconstructs for a rebuild (R187). What it cannot read it answers with `POISON`. -/
def State.parityAnswer (s : State) (p : Packet) : State :=
  let cell := dgaCell p.addr / 64 * 64
  let n := 64 * sectorsOf p.addr p.size
  let s := s.serveBytes (s.auxClass p.aux) n
  if auxRebuilt p.aux then
    if s.parityServes p.addr then s.askStripe (.rebuilt p) (sectorRuns [(p.addr, p.size + 1)]) else s.respond p .poison
  else if s.notServed cell then s.respond p .poison
  else if auxStored p.aux then s.respond p .done (s.mem.readN 0 cell n) (s.mem.poisonMask cell n)
  else match s.claimAt cell with
    | some k =>
      if k.armedAt cell then s.respond { p with ctx := k.partition + 1 } .done (s.mem.readN 0 cell n) (s.mem.poisonMask cell n)
      else s.respond { p with ctx := 0 } .done (zeros n)
    | none => s.respond { p with ctx := 0 } .done (zeros n)

/-- A lost member's ciphertext has been reconstructed for its rebuild. -/
def State.rebuiltAnswer (s : State) (p : Packet) (x : Xfer) : State :=
  if x.status ≠ .done then s.doubleLossAnswer p [] x.status
  else
    let m := s.reconstructedMem (sectorRuns [(p.addr, p.size + 1)]) x
    let cell := dgaCell p.addr / 64 * 64
    let n := 64 * sectorsOf p.addr p.size
    s.respond p .done (m.readN 0 cell n) (m.poisonMask cell n)

/-- The redundancy of a granule of this owner is whole again (R473). -/
def State.undegrade (s : State) (tier g : Nat) : State :=
  if s.tier.degraded.contains (tier, g) then
    ({ s with tier.degraded := s.tier.degraded.filter (· != (tier, g)),
              tier.lost := s.tier.lost.filter (· != (s.devnum, tier, g)) } : State).subF F.TIER_REDUND_DEGRADED 1
  else s

/-- The parity holder begins or ends the recomputation over one unit of this owner (R473): writes to the unit are held in between, and the
granule counts as whole after its last unit. -/
def State.unitRecomputing (s : State) (cell : Nat) : State :=
  let c := cell / unitBytes * unitBytes
  if s.tier.runs.any (fun r => r.kind == runPARITY && r.cell == c) then s
  else { s with tier.runs := s.tier.runs ++ [⟨runPARITY, c, c + unitBytes, true⟩] }

def State.unitRecomputed (s : State) (cell : Nat) (whole : Bool) : State :=
  let c := cell / unitBytes * unitBytes
  let s : State := { s with tier.runs := s.tier.runs.filter (fun r => !(r.kind == runPARITY && r.cell == c)) }
  if whole && decide (cellOff c + unitBytes ≥ granuleBytes (cellTier c)) then s.undegrade (cellTier c) (cellGranule c) else s

/-- A parity holder applies a delta, arms or disarms a page, or a member answers a read for reconstruction (R181, R182). -/
def State.parityApply (s : State) (p : Packet) : State :=
  if auxRead p.aux then (if auxRecompute p.aux then s.unitRecomputing (dgaCell p.addr) else s).parityAnswer p
  else if auxRelease p.aux then (s.unitRecomputed (dgaCell p.addr) (auxRecompute p.aux)).respond p .done
  else
    let poison := (List.range (sectorsOf p.addr p.size)).map (bitAt p.poison)
    s.applyOnce p (fun s =>
      let s := s.changeParity p.addr (carried p) (if auxDisarm p.aux then poison.map (fun _ => false) else poison)
      let page := (dgaDev p.addr, dgaCell p.addr / 4096, auxPartition p.aux)
      if auxArm p.aux ∧ (p.addr + p.size + 1) % 4096 = 0 then { s with tier.armedFor := s.tier.armedFor ++ [page] }
      else if auxDisarm p.aux then { s with tier.armedFor := s.tier.armedFor.filter (· != page) } else s)

/-! ### Tile staging and commit (R172, R173) -/

/-- A staging store: AUX bit 31 set, bits [23:8] the piece index, bits [7:0] and [30:24] the low bits of the commit's tag (log entry 24). -/
def isStaging (p : Packet) : Bool := p.op == opSTORE && bitAt p.aux 31
def stageMark (p : Packet) : Nat := p.aux % 256 + 256 * bitsOf p.aux 24 7
def stagingAux (tag k : Nat) : Nat := 2 ^ 31 + tag % 256 + 256 * (k % 65536) + 2 ^ 24 * (tag / 256 % 128)

/-- A piece of a tile reaches a staging slot of the owner, or waits while no slot is free (R172). -/
def State.stagePiece (s : State) (p : Packet) : State :=
  let k := bitsOf p.aux 8 16
  match s.tier.staged.find? (fun t => t.src == p.src && t.mark == stageMark p) with
  | some t =>
    ({ s with tier.staged := s.tier.staged.map (fun u => if u == t then { t with pieces := t.pieces.put k (p.addr, accessBytes p) } else u)
        } : State).finish p .done
  | none =>
    if s.tier.staged.length ≥ 32 then { s with tier.heldRequests := s.tier.heldRequests ++ [p] }
    else
      let s : State := { s with tier.staged := s.tier.staged ++ [⟨p.src, stageMark p, p.pkey, [(k, (p.addr, accessBytes p))]⟩] }
      (s.setF F.TIER_PUBLISH_SLOTS_BUSY s.tier.staged.length).finish p .done

/-- The staged tile a commit names. -/
def State.stagedFor (s : State) (p : Packet) : Option StagedTile :=
  s.tier.staged.find? (fun t => t.src == p.src && t.mark == p.tag % 2 ^ 15)

/-- Write a whole tile or block (R172, R238): its redundancy follows piece by piece; a range that is lost is written at its redundancy
holder (R183), which a member with a failed part sends it to. `put e` is the request that carries a piece there. -/
def State.writeWhole (s : State) (p : Packet) (pieces : List (Nat × List Byte)) (put : Nat × List Byte → Packet) : State :=
  let cell := dgaCell p.addr
  let total := (pieces.map (fun e => e.2.length)).sum
  let store (s : State) (key : Nat) : State :=
    let s : State := { s with mem := pieces.foldl (fun m e => m.store key (dgaCell e.1) e.2 (pieceMask p e.1)) s.mem }
    s.serveBytes (s.bwClass p.pkey) total
  if !s.isSelf (dgaDev p.addr) then
    if s.mirrorServes p.addr then (store s (s.accessKey p)).finish p .done
    else if s.parityServes p.addr then s.askStripe (.reconstruct p pieces) (p.cover pieces)
    else s.finish p .poison
  else
    let lines := (pieces.flatMap (fun e => linesOf e.1 (e.2.length - 1))).dedup
    if s.notServed cell then
      match s.holderOf p.addr (s.protection cell) with
      | none => s.finish p .poison
      | some h =>
        let (t, s) := s.drawTag
        let todo := pieces.map (fun e => let q := put e; { q with dst := h, tag := if q.op = opBLOCK_WRITE then t else 0 })
        let waits := if todo.any (fun q => q.op == opBLOCK_WRITE) then 1 else todo.length
        let s : State := { s with tier.inFlight := s.tier.inFlight ++ [⟨p, lines, [], [], waits, .done⟩] }
        (todo.zipIdx).foldl (fun s q => s.issue q.1 (if q.1.op ≠ opBLOCK_WRITE ∨ q.2 = 0 then .mirrored p else .none)) s
    else
      let before := s.mem
      let parts := pieces.flatMap (fun e => (cut256 (dgaCell e.1) (e.2.length / 256 + 2) e.2.length))
      (store s (s.keyFor cell)).protectWrite p before lines parts [] false

/-- The commit writes every sector of the tile at once and frees the slot (R172); over a ring header it has no effect (R96). -/
def State.commitTile (s : State) (p : Packet) : State :=
  match s.stagedFor p with
  | none => s.finish p .stateConflict
  | some t =>
    let s : State := { s with tier.staged := s.tier.staged.filter (fun u => !(u == t)) }
    let s := s.setF F.TIER_PUBLISH_SLOTS_BUSY s.tier.staged.length
    let pieces := t.pieces.vals
    if s.isSelf (dgaDev p.addr) && pieces.any (fun e => (s.headerAt (dgaCell e.1) e.2.length).isSome) then s.finish p .access
    else (s.count F.TIER_PUBLISH_PUBLISHED).writeWhole { p with poison := 0 } pieces (fun e =>
      { op := opSTORE, tagged := true, pkey := p.pkey, ctx := p.ctx, noCombine := true, addr := e.1, size := e.2.length - 1,
        sectors := sectorsOf e.1 (e.2.length - 1), payload := storePayload e.1 e.2 })

/-! ### Block requests (R238) -/

/-- BLOCK_READ: 16 responses of 256 B, or one refusal. `ecc` as for a load, over the block's 64 sectors. -/
def State.blockRead (s : State) (p : Packet) (ecc : Nat) : State :=
  let cell := dgaCell p.addr
  let key := s.accessKey p
  let own (s : State) : State :=
    let s := s.serveBytes (s.bwClass p.pkey) 4096
    s.blockAnswer p (s.mem.readN key cell 4096) (s.mem.poisonMask cell 4096)
  if !s.isSelf (dgaDev p.addr) then
    if s.mirrorServes p.addr then own s
    else if s.parityServes p.addr then s.askStripe (.reconstruct p []) (p.cover [])
    else s.respond p .poison
  else if s.unitHeld false cell 4096 then { s with tier.heldRequests := s.tier.heldRequests ++ [p] }
  else if s.notServed cell then
    match s.holderOf p.addr (s.protection cell) with
    | some h => s.issue { p with dst := h, tag := 0 } (.forwarded p)
    | none => s.respond p .poison
  else
    let bad := bitsSet 64 ecc
    if bad.isEmpty then own s
    else match s.holderOf p.addr (s.protection cell) with
      | some h =>
        let (id, s) := s.newXfer (.repair p ecc) 16
        s.issue { p with dst := h, tag := 0 } (.xfer id 0)
      | none => own (s.eccPoison cell bad)

/-- BLOCK_WRITE: collect a piece; the 16th writes the block whole and is answered once. -/
def State.blockWrite (s : State) (p : Packet) : State :=
  let k := p.aux % 16
  let put (s : State) : State :=
    let b := match s.fab.blocks.find? (fun b => b.src == p.src && b.tag == p.tag) with
      | some b => b
      | none => ⟨p.src, p.tag, p.addr, [], s.now, p⟩
    let b := if (b.pieces.get? k).isSome then b else { b with pieces := b.pieces.put k (p.payload, p.poison) }
    let rest := s.fab.blocks.filter (fun b => !(b.src == p.src && b.tag == p.tag))
    if b.pieces.length < 16 then { s with fab.blocks := rest ++ [b] }
    else
      let mask := (b.pieces.vals.zipIdx).foldl (fun m q => m + q.1.2 % 16 * 2 ^ (4 * q.2)) 0
      let pieces := (b.pieces.vals.zipIdx).map (fun q => (p.addr + 256 * q.2, padTo 256 q.1.1))
      ({ s with fab.blocks := rest } : State).writeWhole { b.pkt with poison := mask, size := 4095 } pieces (fun e =>
        { op := opBLOCK_WRITE, tagged := true, pkey := p.pkey, ctx := p.ctx, addr := p.addr, size := 255, sectors := 4,
          aux := (e.1 - p.addr) / 256, poison := bitsOf mask (4 * ((e.1 - p.addr) / 256)) 4, payload := e.2 })
  let open_ := s.fab.blocks.any (fun b => b.src == p.src && b.tag == p.tag)
  if s.isSelf (dgaDev p.addr) && s.unitHeld true (dgaCell p.addr) 4096 then { s with tier.heldRequests := s.tier.heldRequests ++ [p] }
  else match s.fab.dedupOf p.src p.tag with
  | some e => if e.pending && open_ then put s else s.dedup p (fun s => s)
  | none =>
    if s.fab.blocks.length ≥ 256 then { s with tier.heldRequests := s.tier.heldRequests ++ [p] }
    else s.dedup p put

/-- A block whose pieces have not all come within the fabric timeout is discarded unwritten (R238). -/
def State.blockTimeout (s : State) (src tag : Nat) : State :=
  match s.fab.blocks.find? (fun b => b.src == src && b.tag == tag) with
  | some b =>
    let s := s.reach (b.first + s.fld F.FAB_TMO_FABRIC_US * nsPerUs)
    ({ s with fab.blocks := s.fab.blocks.filter (fun c => !(c == b)) } : State).dedupDrop (fun e => e.src == src && e.tag == tag)
  | none => s

end Sys2Proof.Machine
end

