-- ==== Sys2Proof/Machine/Home.lean ====
section
/-! DEFINITION. The home agent and the attach device (spec/09 R267 to R288; spec/08 R261, R264, R265). What a coherent
request carries beyond R271 on its way to the home is in log entry 24. -/

namespace Sys2Proof.Machine

/-! ### Ending requests (R234, R246, R247) -/

/-- Whether a request goes under the tag of the write it protects, which that write's source retires (R245). -/
def Request.lentTag (r : Request) : Bool :=
  match r.waiter with
  | .mirrored p => p.op != 0 && (r.pkt.op == opMIRROR || r.pkt.op == opPARITY)
  | _ => false

/-- Remove the request a response answers; a tagged transaction's tag may then be retired (R246).  A BLOCK_READ ends with its
last piece. -/
def State.endRequest (s : State) (rsp : Packet) : Option Request × State :=
  match s.fab.reqs.find? (fun r => r.answeredBy rsp) with
  | none => (none, s.count F.FAB_DROP_UNKNOWN_RSP)
  | some r =>
    if rsp.op = opBLOCK_READ + 0x80 ∧ rsp.status = 0 ∧ rsp.aux % 16 ≠ 15 then (some r, s)
    else
      let s : State := { s with fab.reqs := s.fab.reqs.filter (fun q => !q.answeredBy rsp) }
      let s := if r.copies > 1 ∧ r.pkt.tagged then s.sendMarker r.pkt.dst r.pkt.vc (s.pathTo r.pkt.dst) else s
      let s := if r.pkt.tagged ∧ txTagFirst ≤ r.pkt.tag ∧ !r.lentTag then s.retireTag r.pkt.dst r.pkt.tag (decide (r.copies > 1)) else s
      (some r, s.releaseWaiting)

/-! ### Consumption of poison (R406) -/

def State.consumePoison (s : State) (ctx opcode dga : Nat) : State :=
  let s := (s.count F.RAS_CTX_POISON_COUNT).logErr
    { unit := .ras, status := .poison, opcode := opcode, ctx := some ctx, partition := some (s.partOfCtx ctx), addr := dga }
  if s.fld F.RAS_CTX_POISON_VALID = 1 then s
  else (s.setF F.RAS_CTX_POISON_VALID 1).setF F.RAS_CTX_POISON_CTX ctx

/-! ### The snoop filter (R269, R270, R278) -/

/-- Sets are chosen by a hash the spec does not state (log entry 25). -/
def filterSet (line : Nat) : Nat := Config.filterHash line % 1048576

def Home.entriesAt (h : Home) (line : Nat) : List FilterEntry := h.filter.filter (fun e => e.line == line)

def Home.entryFor (h : Home) (agent line : Nat) : Option FilterEntry :=
  h.filter.find? (fun e => e.agent == agent && e.line == line)

def State.showFilter (s : State) : State := s.setF F.HOME_FILTER_ENTRIES s.home.filter.length

def State.dropEntry (s : State) (agent line : Nat) : State :=
  ({ s with home.filter := s.home.filter.filter (fun e => !(e.agent == agent && e.line == line)) } : State).showFilter

def State.putEntry (s : State) (e : FilterEntry) : State :=
  let s := s.dropEntry e.agent e.line
  ({ s with home.filter := s.home.filter ++ [e] } : State).showFilter

def State.setEntryState (s : State) (agent line : Nat) (st : LineState) : State :=
  { s with home.filter := s.home.filter.map (fun e => if e.agent == agent && e.line == line then { e with state := st } else e) }

/-- Whether the set of a line is full (16 ways). -/
def Home.setFull (h : Home) (line : Nat) : Bool :=
  decide ((h.filter.filter (fun e => filterSet e.line == filterSet line)).length ≥ 16)

/-- Poison a line (R285 to R288). -/
def State.poisonLine (s : State) (line : Nat) : State :=
  let s : State := { s with mem := s.mem.setPoison (dgaCell (line * 64)) true }
  let s := if s.fld F.HOME_POISON_LINES = 0 then s.setF F.HOME_POISON_LINE line else s
  s.count F.HOME_POISON_LINES

/-! ### Kinds of request (R271, R277) -/

/-- Coherent kind of a LOAD or STORE; 0 uncached. -/
def cohKind (p : Packet) : Nat := if (p.op = opLOAD ∨ p.op = opSTORE) ∧ !isStaging p then p.aux % 16 else 0

def kREAD_SHARED := 1
def kREAD_OWN := 2
def kUPGRADE := 3
def kWRITEBACK := 4

/-- The place of a coherent request's address among those of its context that name the same line (R269; AUX bits [7:4] and [15:14], log entry
24), and the bits that hold it. -/
def vaRank (p : Packet) : Nat := bitsOf p.aux 4 4 + 16 * bitsOf p.aux 14 2
def vaRankBits (r : Nat) : Nat := r % 16 * 16 + r / 16 % 4 * 2 ^ 14

/-- The line address as the agent issued it, or would have without a host view (R269): by the claims recorded here for its context. -/
def State.lineVa (s : State) (p : Packet) : Nat :=
  let cell := dgaCell p.addr
  let ks := s.xlt.claims.filter (fun k => k.dev == p.src && k.ctx == p.ctx && decide (k.cell ≤ cell ∧ cell < k.cell + k.bytes))
  let vas := sortBy (fun a b => decide (a < b)) (ks.map (fun k => k.va + (cell - k.cell)))
  (vas.getD (vaRank p) (vas.headD p.addr)) / 64 * 64

/-- The agent of a forwarded coherent request: 32 × attach device + A-port (R267; AUX bits [12:8], log entry 24). -/
def agentOf (p : Packet) : Nat := 32 * p.src + bitsOf p.aux 8 5
def noCacheBit (p : Packet) : Bool := bitAt p.aux 13
def identOf (p : Packet) : Nat := bitsOf p.aux 16 16

/-- Whether a request writes its lines (R277). -/
def isWrite (p : Packet) : Bool :=
  (p.op == opSTORE && cohKind p == 0) || p.op == opATOMIC || p.op == opTILE_COMMIT || p.op == opMIRROR || p.op == opPARITY

/-- Whether a READ_SHARED is granted I (R273, R288). -/
def State.grantsI (s : State) (p : Packet) : Bool :=
  noCacheBit p || !s.isSelf (dgaDev p.addr) || s.mem.poisoned (dgaCell p.addr) || s.headerLine p.addr

/-- Whether a coherent load is served without leaving a copy: a READ_SHARED granted I, and any kind that names the ring header of an enabled
queue (R96, R273; of READ_OWN and UPGRADE log entry 37). -/
def State.uncachedKind (s : State) (p : Packet) : Bool :=
  p.op == opLOAD && ((cohKind p == kREAD_SHARED && s.grantsI p) || (cohKind p != 0 && s.headerLine p.addr))

/-- In a recall, in place of a context: every entry of the line is recalled (R413). -/
def everyCtx := 8192

/-- The snoops an event needs: the entries to snoop and with what (R277). -/
def State.snoopsFor (s : State) (ev : HomeEv) : List (FilterEntry × Nat) :=
  let p := ev.pkt
  let es := ev.lines.flatMap s.home.entriesAt
  let me := agentOf p
  let others := es.filter (fun e => e.agent != me)
  match ev.recallOf with
  | some (c, _) => (es.filter (fun e => c == everyCtx || (e.ctx == c && e.agent / 32 == p.src))).map (fun e => (e, 0x10))
  | none =>
    if isWrite p then es.map (fun e => (e, 0x10))
    else if (p.op = opLOAD ∧ cohKind p = 0) ∨ s.uncachedKind p then
      (es.filter (fun e => e.state == .x)).map (fun e => (e, 0x11))
    else
      let stale := (es.filter (fun e => e.agent == me && (e.ctx != p.ctx || e.va != s.lineVa p))).map (fun e => (e, 0x10))
      if p.op = opLOAD ∧ cohKind p = kREAD_SHARED then
        stale ++ (match others.find? (fun e => e.state == .x) with
          | some e => [(e, 0x11)]
          | none => match others.find? (fun e => e.state == .f && e.agent / 32 == p.src) with
            | some e => [(e, 0x12)]
            | none => [])
      else if p.op = opLOAD ∧ (cohKind p = kREAD_OWN ∨ cohKind p = kUPGRADE) then stale ++ others.map (fun e => (e, 0x10))
      else []

/-! ### Events of a line (R276) -/

def State.modEv (s : State) (id : Nat) (f : HomeEv → HomeEv) : State :=
  { s with home.events := s.home.events.map (fun e => if e.id == id then f e else e) }

def State.showBusy (s : State) : State :=
  s.setF F.HOME_FILTER_BUSY ((s.home.events.filter (fun e => e.begun)).flatMap (fun e => e.lines)).length

def State.endEv (s : State) (id : Nat) : State :=
  ({ s with home.events := s.home.events.filter (fun e => !(e.id == id)) } : State).showBusy

/-- Whether a request waits for a unit that is being copied (R181, R189, R473), or as a read for a recomputation for the parity of earlier writes
to be acknowledged. -/
def State.unitWaits (s : State) (ev : HomeEv) : Bool :=
  let p := ev.pkt
  if ev.recallOf.isSome then false
  else if p.op = opPARITY then auxRead p.aux && auxRecompute p.aux && s.tier.inFlight.any (fun w => w.lines.any ev.lines.contains)
  else (s.isSelf (dgaDev p.addr) || p.op == opMIRROR) && ev.lines.any (fun l => s.unitHeld (p.op != opLOAD) (dgaCell (64 * l)) 64)

/-- Whether an event's grant takes a new entry of a full set, and the entries of the set that may be recalled for it: those whose line is not BUSY
(R278). -/
def State.needsWay (s : State) (ev : HomeEv) : Bool :=
  ev.recallOf.isNone && ev.pkt.op == opLOAD && cohKind ev.pkt != 0 && !s.uncachedKind ev.pkt && s.isSelf (dgaDev ev.pkt.addr)
    && s.home.setFull (ev.pkt.addr / 64) && (s.home.entryFor (agentOf ev.pkt) (ev.pkt.addr / 64)).isNone
def State.victims (s : State) (ev : HomeEv) : List FilterEntry :=
  let busy := (s.home.events.filter (fun e => e.begun && e.id != ev.id)).flatMap (fun e => e.lines)
  s.home.filter.filter (fun e => filterSet e.line == filterSet (ev.pkt.addr / 64) && !busy.contains e.line)

/-- Whether an earlier event holds a line of this one, it waits for a unit, or every way of its set is of a BUSY line. -/
def State.evBlocked (s : State) (ev : HomeEv) : Bool :=
  s.home.events.any (fun e => decide (e.id < ev.id) && e.lines.any ev.lines.contains) || s.unitWaits ev
    || (s.needsWay ev && (s.victims ev).isEmpty)

/-- Send one snoop of an event (R282). -/
def State.sendSnoop (s : State) (id : Nat) (e : FilterEntry) (op : Nat) (p : Packet) : State :=
  let (t, s) := s.drawTag
  let key := match s.partOfCell (dgaCell (e.line * 64)) with | some part => s.keyOf part | none => p.pkey
  let aux := e.agent % 32 + (if op = 0x12 then agentOf p % 32 * 32 + identOf p * 65536 else 0)
  let s := (s.modEv id (fun ev => { ev with snoops := ev.snoops ++ [⟨e.agent, e.line, t, op, s.now, false⟩] })).count
    F.HOME_COUNT_SNOOPS
  s.issue { op := op, vc := vcSNOOP, tagged := true, pkey := key, dst := e.agent / 32, addr := e.va, ctx := e.ctx, aux := aux,
            tag := t } .none

/-- A grant's response: it carries the state and the owner (R273, R274). -/
def grantRsp (p : Packet) (st : Nat) : Packet := { p with aux := st + 256 * dgaDev p.addr }

/-- A grant that is kept takes its filter entry and makes the line wait for its GRANT_ACK (R274); one that leaves no copy ends its event. -/
def State.grantKept (s : State) (ev : HomeEv) (st : Nat) : State :=
  let p := ev.pkt
  let line := p.addr / 64
  if st = 0 then s.endEv ev.id
  else
    let ls : LineState := if st = 1 then .s else if st = 2 then .f else .x
    (s.putEntry ⟨agentOf p, p.ctx, s.lineVa p, line, ls⟩).modEv ev.id (fun e => { e with grant := some (agentOf p, s.now) })

/-- Grant a line with its bytes.  They are held back while the redundancy of the line is unacknowledged (R293). -/
def State.grantWith (s : State) (ev : HomeEv) (st : Nat) (bs : List Byte) (poison : Nat) : State :=
  ((s.serveBytes (s.bwClass ev.pkt.pkey) 64).answerSafe [ev.pkt.addr / 64] (grantRsp ev.pkt st) .done bs poison).grantKept ev st

/-- A coherent request that gets no data: it is answered, and no copy is left. -/
def State.grantRefused (s : State) (ev : HomeEv) (status : Status) : State := (s.respond (grantRsp ev.pkt 0) status).endEv ev.id

/-- Grant a line to an agent (R273, R274).  A line whose copy is not there is served as R183 lays down: fetched from the holder of its redundancy,
or for a FAILED owner from this member's mirror or its parity. -/
def State.grant (s : State) (ev : HomeEv) (st : Nat) (withData : Bool) : State :=
  let p := ev.pkt
  let cell := dgaCell p.addr
  let here (s : State) : State := s.grantWith ev st (s.mem.readN (s.accessKey p) cell 64) (s.mem.poisonMask cell 64)
  if !withData then (s.respond (grantRsp p st) .done).grantKept ev st
  else if (s.accessKey? p).isNone then s.grantRefused ev .stateConflict
  else if !s.isSelf (dgaDev p.addr) then
    if s.mirrorServes p.addr then here s
    else if s.parityServes p.addr then (s.askStripe (.reconstruct (grantRsp p 0) []) (p.cover [])).endEv ev.id
    else s.grantRefused ev .poison
  else if s.notServed cell then
    match s.holderOf p.addr (s.protection cell) with
    | none => s.grantRefused ev .poison
    | some h =>
      let (id, s) := s.newXfer (.lineFetch ev.id st) 1
      s.issue { p with dst := h, tag := 0, aux := 0, noCombine := true, combined := false } (.xfer id 0)
  else here s

/-- The line of a grant has come from the holder of its redundancy (R183). -/
def State.lineFetched (s : State) (id st : Nat) (x : Xfer) : State :=
  match s.home.events.find? (fun e => e.id == id) with
  | none => s
  | some ev => if x.status = .done then s.grantWith ev st (plain x.data) (markMask ev.pkt.addr x.data) else s.grantRefused ev x.status

/-- Before a new entry is written into a full set the home recalls another entry of the set whose line is not BUSY (R278), or waits for one;
which one is the least recently used the spec leaves to the part (log entry 25). -/
def State.evictFor (s : State) (ev : HomeEv) : Option State :=
  if s.needsWay ev then
    match s.victims ev with
    | [] => some (s.modEv ev.id (fun e => { e with begun := false })).showBusy
    | e :: es =>
      let (i, s) := s.draw
      let victim := (e :: es).getD (Config.freeValue i % (es.length + 1)) e
      some ((s.count F.HOME_COUNT_OVERFLOW).sendSnoop ev.id victim 0x10 ev.pkt)
  else none

/-- A recall is complete (R153, R280). -/
def State.recallDone (s : State) (ev : HomeEv) (c va : Nat) : State :=
  if c = everyCtx then s
  else if ev.pkt.op = opXLT_CTRL then s.finish ev.pkt .done
  else ({ s with xlt.recalls := s.xlt.recalls.filter (fun r => !(r == (c, va))) } : State).sweepExtents

/-- Every snoop of an event is answered: perform it (R277). -/
def State.homePerform (s : State) (ev : HomeEv) : State :=
  let p := ev.pkt
  let line := p.addr / 64
  let me := agentOf p
  match ev.recallOf with
  | some (c, va) => (s.endEv ev.id).recallDone ev c va
  | none =>
    if p.op = opPARITY ∧ s.unitWaits ev then (s.modEv ev.id (fun e => { e with begun := false })).showBusy
    else if cohKind p = 0 ∨ p.op ≠ opLOAD ∧ p.op ≠ opSTORE then
      let s := s.endEv ev.id
      if p.op = opLOAD then s.serveLoad p ev.ecc
      else if p.op = opSTORE then s.serveStore p
      else if p.op = opATOMIC then s.serveAtomic p
      else if p.op = opTILE_COMMIT then s.commitTile p
      else if p.op = opMIRROR then s.mirrorApply p
      else s.parityApply p
    else if p.op = opSTORE then
      match s.home.entryFor me line with
      | some e =>
        if s.headerLine p.addr then ((s.endEv ev.id).dropEntry me line).finish p .access
        else if e.state = .x then ((s.endEv ev.id).dropEntry me line).takeLine p
        else (s.endEv ev.id).finish p .access
      | none => (s.endEv ev.id).finish p .access
    else if s.uncachedKind p then s.grant ev 0 true
    else match s.evictFor ev with
      | some s => s
      | none =>
        let others := (s.home.entriesAt line).filter (fun e => e.agent != me)
        if ev.forwarded then s.grantKept ev 1
        else if cohKind p = kREAD_SHARED then
          if others.isEmpty then s.grant ev 3 true
          else if others.any (fun e => e.state == .f) then s.grant ev 1 true
          else s.grant ev 2 true
        else s.grant ev 3 (!(cohKind p == kUPGRADE && (s.home.entryFor me line).isSome))

/-- Begin an event: its snoops go out, or it is performed. -/
def State.homeBegin (s : State) (ev : HomeEv) : State :=
  let need := s.snoopsFor ev
  let s := (s.modEv ev.id (fun e => { e with begun := true })).showBusy
  match need with
  | [] => s.homePerform { ev with begun := true }
  | _ => need.foldl (fun s n => s.sendSnoop ev.id n.1 n.2 ev.pkt) s

/-- Begin every event that may, in order of arrival (R276); at most 4,096 lines are BUSY. -/
def State.homePump (s : State) : Nat → State
  | 0 => s
  | fuel + 1 =>
    match s.home.events.find? (fun e => !e.begun && !s.evBlocked e && decide (s.fld F.HOME_FILTER_BUSY + e.lines.length ≤ 4096)) with
    | some ev => (s.homeBegin ev).homePump fuel
    | none => s

def State.pump (s : State) : State := s.homePump (s.home.events.length + 1)

/-- A request reaches the home: it takes its place in the order of its lines. -/
def State.homeEnter (s : State) (p : Packet) (ecc : Nat) (lines : List Nat) : State :=
  let id := s.home.nextEv
  let ev : HomeEv := ⟨id, p, ecc, none, lines, false, [], none, false⟩
  let s := if s.home.events.any (fun e => e.begun && e.pkt.op == opTILE_COMMIT && e.lines.any lines.contains) then
      s.count F.TIER_PUBLISH_HELD else s
  ({ s with home.nextEv := id + 1, home.events := s.home.events ++ [ev] } : State).pump

/-! ### Snooped lines (R277, R284) -/


/-- Write the line an answer brought, with its redundancy (R277); the write is the home's own (OP 0) and nobody is answered.  A ring header
takes no such write (R96). -/
def State.writeLine (s : State) (line : Nat) (p : Packet) : State :=
  let a := line * 64
  if s.headerLine a then s
  else
    s.takeLine { p with op := 0, addr := a, size := 63, tagged := false, dst := s.devnum, src := s.devnum, vc := vcREQ, aux := 0, sectors := 1 }

/-- The event that waits for a snoop. -/
def State.evOfSnoop (s : State) (tag : Nat) : Option (HomeEv × Snoop) :=
  s.home.events.findSome? (fun e => (e.snoops.find? (fun n => n.tag == tag)).map (fun n => (e, n)))

/-- A snoop of an event is settled; the event is performed once none is left. -/
def State.snoopSettled (s : State) (id tag : Nat) : State :=
  let s := s.modEv id (fun e => { e with snoops := e.snoops.filter (fun n => !(n.tag == tag)) })
  match s.home.events.find? (fun e => e.id == id) with
  | some ev => if ev.snoops.isEmpty then (s.homePerform ev).pump else s
  | none => s.pump

/-- A WRITEBACK that a snooped line waits for (R284): the home takes the line from it and answers it. -/
def State.writebackAwaited (s : State) (p : Packet) : Option State :=
  let me := agentOf p
  match s.home.events.findSome? (fun e => (e.snoops.find? (fun n => n.writeback && n.agent == me && n.line == p.addr / 64)).map
      (fun n => (e, n))) with
  | some (ev, n) =>
    if s.headerLine p.addr then some (((s.dropEntry me n.line).finish p .access).snoopSettled ev.id n.tag)
    else some (((s.dropEntry me n.line).takeLine p).snoopSettled ev.id n.tag)
  | none => none

/-- The checks of a coherent request at the home of a number that is not ACTIVE (R288). -/
def State.homeFault (s : State) (p : Packet) : Option Status :=
  if (cohKind p = kREAD_OWN ∨ cohKind p = kUPGRADE) ∧ p.op = opLOAD ∧ !s.isSelf (dgaDev p.addr) then some .access
  else if p.op = opSTORE ∧ cohKind p = kWRITEBACK ∧ !s.isSelf (dgaDev p.addr) then none
  else none

/-- A load, store, atomic, coherent request, tile commit, MIRROR or PARITY reaches its owner endpoint (R474, R245, R276). -/
def State.homeArrive (s : State) (p : Packet) (ecc : Nat) : State :=
  if p.malformed then s.respond p .badDescriptor
  else
    let lines := if p.op = opTILE_COMMIT then
        (match s.stagedFor p with
          | some t => (t.pieces.vals.flatMap (fun e => linesOf e.1 (e.2.length - 1))).dedup
          | none => [p.addr / 64])
      else linesOf p.addr p.size
    let device := p.op == opMIRROR || p.op == opPARITY
    let fault := if device then (if s.dom.selfFailed then some Status.stateConflict else none)
      else if s.isSelf (dgaDev p.addr) then s.ownerFault p
      else if s.dom.selfFailed ∨ (s.accessKey? p).isNone then some .stateConflict else none
    match fault with
    | some st => (if st = .keyMismatch then s.keyError (endpointOf p) p.pkey else s).respond p st
    | none =>
      if device then s.homeEnter p ecc lines
      else if isStaging p then s.dedup p (fun s => s.stagePiece p)
      else match s.homeFault p with
        | some st => s.dedup p (fun s => s.finish p st)
        | none =>
          if p.op = opSTORE ∧ cohKind p = kWRITEBACK ∧ !s.isSelf (dgaDev p.addr) then
            s.dedup p (fun s => s.homeEnter { p with aux := 0 } ecc lines)
          else s.dedup p (fun s =>
            if 2 ≤ dgaWin p.addr then s.finish p .access
            else if p.op = opSTORE ∧ cohKind p = kWRITEBACK then (s.writebackAwaited p).getD (s.homeEnter p ecc lines)
            else s.homeEnter p ecc lines)

/-! ### Answers, acknowledgements and timeouts (R274, R277, R279, R282, R284, R285) -/

/-- SNOOP_ANSWER (R277, R279, R282, R284). -/
def State.snoopAnswer (s : State) (p : Packet) : State :=
  let (_, s) := s.endRequest p
  match s.evOfSnoop p.tag with
  | none => s
  | some (ev, n) =>
    let held := p.aux % 8
    let wb := bitAt p.aux 3
    let wasX : Bool := match s.home.entryFor n.agent n.line with | some e => e.state == .x | none => false
    if held = 0 ∧ wb ∧ wasX then
      let s := s.modEv ev.id (fun e =>
        { e with snoops := e.snoops.map (fun m => if m.tag == p.tag then { m with writeback := true, since := s.now } else m) })
      match s.home.events.find? (fun e => !e.begun && e.pkt.op == opSTORE && cohKind e.pkt == kWRITEBACK && agentOf e.pkt == n.agent
          && e.pkt.addr / 64 == n.line) with
      | some w => ((s.endEv w.id).writebackAwaited w.pkt).getD s
      | none => s
    else
      let s := if p.sectors = 1 ∧ held = 4 then s.writeLine n.line p else s
      let s := if n.op = 0x10 then s.dropEntry n.agent n.line
        else if n.op = 0x11 then s.setEntryState n.agent n.line .f
        else if held = 2 ∧ p.sectors = 1 then (s.modEv ev.id (fun e => { e with forwarded := true })).count F.HOME_COUNT_FORWARDS
        else if held = 0 then s.dropEntry n.agent n.line
        else s.setEntryState n.agent n.line .s
      s.snoopSettled ev.id p.tag

/-- GRANT_ACK reaches the home (R274): the line leaves BUSY. -/
def State.grantAck (s : State) (p : Packet) : State :=
  match s.home.events.find? (fun e => e.grant.isSome && e.pkt.tag == p.tag && e.pkt.src == p.src) with
  | some ev => (s.endEv ev.id).pump
  | none => s

/-- Expel an agent from its A-port (R285). -/
def State.sendExpel (s : State) (agent line : Nat) : State :=
  let key := match s.partOfCell (dgaCell (line * 64)) with | some part => s.keyOf part | none => 0
  s.issue { op := 0x15, vc := vcSNOOP, tagged := true, pkey := key, dst := agent / 32, aux := agent % 32 } .none

/-- A home timeout of an agent on a line (R285): poison or drop its entry, record it, expel the agent; the event proceeds. -/
def State.homeTimedOut (s : State) (agent line : Nat) : State :=
  let waits := s.home.events.findSome? (fun e =>
    match e.snoops.find? (fun n => n.agent == agent && n.line == line) with
    | some n => some (e, some n, n.since)
    | none => match e.grant with
      | some (a, t) => if a == agent && e.pkt.addr / 64 == line then some (e, none, t) else none
      | none => none)
  match waits with
  | none => s
  | some (ev, n, since) =>
    let s := s.reach (since + s.fld F.HOME_TMO_SNOOP_US * nsPerUs)
    let wasX : Bool := match s.home.entryFor agent line with | some e => e.state == .x | none => false
    let s := if wasX then s.poisonLine line else s
    let s := s.dropEntry agent line
    let s := if s.fld F.HOME_TIMEOUT_ERR_COUNT = 0 then s.setF F.HOME_TIMEOUT_ERR_AGENT agent else s
    let s := (s.count F.HOME_TIMEOUT_ERR_COUNT).logErr
      { unit := .home, status := .timeout, syndrome := agent, addr := line * 64 }
    let s := s.sendExpel agent line
    match n with
    | some n =>
      let s : State := { s with fab.reqs := s.fab.reqs.filter (fun r => !(r.pkt.tag == n.tag)) }
      (s.retireTag (agent / 32) n.tag true).snoopSettled ev.id n.tag
    | none => (s.endEv ev.id).pump

/-! ### Recalls of extents (R153, R280) -/

def xcRECALL := 6

/-- The filter entries of one context and attach device over a range of a member's cells. -/
def State.recallLines (s : State) (dev c dga n : Nat) : List Nat :=
  ((s.home.filter.filter (fun e => e.ctx == c && e.agent / 32 == dev && decide (dga ≤ e.line * 64 ∧ e.line * 64 < dga + n))).map
    (fun e => e.line)).dedup

/-- Start a recall at this owner; a range of more than 4,096 lines waits for its scan. -/
def State.recallHere (s : State) (p : Packet) (c va dga n : Nat) : State :=
  let id := s.home.nextEv
  let ev : HomeEv := ⟨id, p, 0, some (c, va), s.recallLines p.src c dga n, false, [], none, false⟩
  let s : State := { s with home.nextEv := id + 1 }
  if n / 64 > 4096 then { s with home.rangeScans := s.home.rangeScans ++ [{ ev with pkt := { p with addr := dga, aux := n } }] }
  else ({ s with home.events := s.home.events ++ [ev] } : State).pump

/-- Ask the owner of an extent on its way out to recall the agents' copies. -/
def State.startRecall (s : State) (c va : Nat) : State :=
  match s.xlt.extents.find? (fun e => e.ctx == c && e.va == va) with
  | some e =>
    let owner := dgaDev e.dga
    if s.isSelf owner then s.recallHere { op := opLOAD, src := s.devnum } c va e.dga e.len
    else s.xltSend owner xcRECALL { cell := dgaCell e.dga, bytes := e.len, ctx := c, va := va } (.control xcRECALL (c * 2 ^ 56 + va))
  | none => s

/-- The owner's side of a remote recall. -/
def State.recallServe (s : State) (p : Packet) : State :=
  let m := XltMsg.decode p.payload
  s.dedup p (fun s => s.recallHere p m.ctx m.va (mkDga s.devnum 0 0 + m.cell) m.bytes)

/-- Every filter entry is recalled before the home agent is reset (R413). -/
def State.recallAll (s : State) : State :=
  let lines := (s.home.filter.map (fun e => e.line)).dedup
  (lines.foldl (fun (s : State) l =>
    let id := s.home.nextEv
    let ev : HomeEv := ⟨id, { op := opLOAD, src := s.devnum, addr := l * 64 }, 0, some (everyCtx, l), [l], false, [], none, false⟩
    { s with home.nextEv := id + 1, home.events := s.home.events ++ [ev] }) s).pump

/-- RECALL_SCAN_DONE (R280): the scan of every set for a long range ends. -/
def State.recallScanDone (s : State) (c va : Nat) : State :=
  match s.home.rangeScans.find? (fun e => e.recallOf == some (c, va)) with
  | some ev =>
    let s : State := { s with home.rangeScans := s.home.rangeScans.filter (fun e => !(e == ev)) }
    let ev := { ev with lines := s.recallLines ev.pkt.src c ev.pkt.addr ev.pkt.aux, id := s.home.nextEv }
    ({ s with home.nextEv := s.home.nextEv + 1, home.events := s.home.events ++ [ev] } : State).pump
  | none => s

/-! ### The attach device (R265, R279, R281 to R283, R287) -/

/-- The states of `HOME_APORT_n.STATE`. -/
def apNONE := 0
def apATTACHED := 1
def apFLUSHING := 2
def apCLEAN := 3
def apPOISON := 4
def apEXPELLED := 5

def State.aportState (s : State) (a : Nat) : Nat := s.fld (F.HOME_APORT_STATE.at a)
def State.setAport (s : State) (a st : Nat) : State := s.setF (F.HOME_APORT_STATE.at a) st

/-- Send a packet to the agent of an A-port (R282: SRC, DST and EPOCH zero). -/
def State.toAgent (s : State) (a : Nat) (p : Packet) : State :=
  s.enqueue portHome (aportCode a) { p with src := 0, dst := 0, epoch := 0 }

/-- A snoop reaches the attach device: delivered to its agent once, or answered from the kept answer (R283). -/
def State.attachSnoop (s : State) (p : Packet) : State :=
  match s.home.answered.find? (fun x => x.1 == p.src && x.2.1 == p.tag) with
  | some x => s.send x.2.2
  | none =>
    if s.home.snoopsIn.any (fun x => x.pkt.src == p.src && x.pkt.tag == p.tag) then s
    else
      let a := p.aux % 32
      let s : State := { s with home.snoopsIn := s.home.snoopsIn ++ [⟨p, a⟩] }
      s.toAgent a { p with addr := s.reported p.ctx p.addr }

/-- Give an agent the answer to one of its requests (R265): its identifier and its own address; poison delivered to an agent
is consumed (R406). -/
def State.answerAgent (s : State) (port ident va : Nat) (rsp : Packet) : State :=
  let first := match (List.range 4).find? (fun k => bitAt rsp.poison k) with | some k => max rsp.addr (64 * (rsp.addr / 64 + k)) | none => rsp.addr
  let s := if rsp.poison ≠ 0 ∨ rsp.status = Status.poison.code then s.consumePoison rsp.ctx (rsp.op - 0x80) first else s
  s.toAgent (port - 0x40) { rsp with tag := ident, addr := va, vc := vcRSP, tagged := false }

/-- Release one reference of the extent that holds an address a context issued (R145). -/
def State.releaseAt (s : State) (c va : Nat) : State :=
  match s.convert c va 1 with
  | .error _ => s
  | .ok v => match (s.extentsOf c).find? (fun (e : Extent) => e.holds v && decide (e.refs ≠ 0)) with
    | some e => s.dropRef c e.va
    | none => s

/-- Requests of an A-port that are outstanding. -/
def State.aportReqs (s : State) (a : Nat) : List Request :=
  (s.fab.reqs ++ s.fab.waiting).filter (fun r => match r.waiter with | .agent q _ _ _ => q == aportCode a | _ => false)

def State.showOutstanding (s : State) (a : Nat) : State :=
  s.setF (F.HOME_APORT_OUTSTANDING.at a) (s.aportReqs a).length

/-- Start AGENT_DROP once an A-port's requests are drained (R287). -/
def State.tryDrop (s : State) (a : Nat) : State :=
  match s.home.drops.find? (fun d => d.aport == a && !d.started) with
  | some d =>
    if (s.aportState a = apFLUSHING ∧ !d.flushed) ∨ !(s.aportReqs a).isEmpty then s
    else
      let s := if s.aportState a = apFLUSHING then s.setAport a apCLEAN else s
      let ms := s.membersIn .active
      let key := match s.sliceOfAport a with | some (_, sl) => s.keyOf sl.partition | none => 0
      let s : State := { s with home.drops := s.home.drops.map (fun e =>
        if e == d then { d with started := true, awaiting := ms } else e) }
      let aux := 32 * s.devnum + a + (if d.poison then 2048 else 0)
      ms.foldl (fun s m =>
        s.issue { op := 0x14, vc := vcSNOOP, tagged := true, pkey := key, dst := m, aux := aux } (.control 0x14 a)) s
  | none => s

/-- Post the outcome of a seat's FLUSH or EXPEL. -/
def State.aportOutcome (s : State) (a : Nat) : State :=
  ((s.setF F.HOME_APORT_STATUS_STATUS 0).setF F.HOME_APORT_STATUS_APORT a).bumpSeq F.HOME_APORT_STATUS_SEQ

/-- A drop is complete when every member still ACTIVE has answered (R287). -/
def State.dropSettle (s : State) (a : Nat) : State :=
  match s.home.drops.find? (fun d => d.aport == a && d.started) with
  | some d =>
    if d.awaiting.isEmpty then
      let s : State := { s with home.drops := s.home.drops.filter (fun e => !(e == d)) }
      let s := if d.poison then
          (s.setAport a apEXPELLED).logErr { unit := .home, status := .timeout, index := a, syndrome := 32 * s.devnum + a }
        else s.setAport a (if (s.sliceOfAport a).isSome then apATTACHED else apNONE)
      if d.byCommand then s.aportOutcome a else s
    else s
  | none => s

/-- A member's answer to AGENT_DROP, or a member that is waited for no longer. -/
def State.dropAnswered (s : State) (a m : Nat) : State :=
  ({ s with home.drops := s.home.drops.map (fun d => if d.aport == a then { d with awaiting := d.awaiting.filter (· != m) } else d) } :
    State).dropSettle a

/-- FLUSH of an A-port's agent (R287): AGENT_FLUSH with ALL. -/
def State.flushAport (s : State) (a : Nat) (byCommand : Bool) : State :=
  let s : State := { s with home.drops := s.home.drops ++ [⟨a, false, false, false, [], byCommand, s.now⟩] }
  (s.setAport a apFLUSHING).toAgent a { op := 0x13, vc := vcSNOOP, aux := 64, tag := 64, pkey := (match s.sliceOfAport a with
    | some (_, sl) => s.keyOf sl.partition | none => 0) }

/-- The agent's answer to a flush: that to one with ALL, whose tag is 64 (log entry 25), is followed by the drop once the port is drained. -/
def State.flushAnswered (s : State) (a tag : Nat) : State :=
  if s.aportState a = apFLUSHING ∧ tag = 64 then
    ({ s with home.drops := s.home.drops.map (fun d => if d.aport == a && !d.started then { d with flushed := true } else d) } : State).tryDrop a
  else s

/-- EXPEL of an A-port's agent (R287): the A-port is held down, drained, and dropped with POISON. -/
def State.expelAport (s : State) (a : Nat) (byCommand : Bool) (hold : State → State) : State :=
  if s.aportState a = apATTACHED ∨ s.aportState a = apFLUSHING then
    let s : State := { s with home.drops := s.home.drops.filter (fun d => !(d.aport == a)) ++ [⟨a, true, true, false, [], byCommand, s.now⟩] }
    (hold (s.setAport a apPOISON)).tryDrop a
  else s

/-- AGENT_DROP reaches a home: its scan begins (R287). -/
def State.agentDrop (s : State) (p : Packet) : State :=
  s.dedup p (fun s => { s with home.scans := s.home.scans ++ [⟨p, p.aux % 2048, bitAt p.aux 11⟩] })

/-- Drop every entry of the agents that satisfy a test, poisoning the lines held X; how many and which first. -/
def State.dropAgents (s : State) (f : Nat → Bool) (poison : Bool) : Nat × Option Nat × State :=
  let xs := (s.home.filter.filter (fun e => f e.agent && e.state == .x)).map (fun e => e.line)
  let s := if poison then xs.foldl State.poisonLine s else s
  let s : State := { s with home.filter := s.home.filter.filter (fun e => !f e.agent) }
  (if poison then xs.length else 0, xs.head?, s.showFilter)

/-- AGENT_DROP_SCAN_DONE (R287): the scan ends and is answered. -/
def State.dropScanDone (s : State) (src tag : Nat) : State :=
  match s.home.scans.find? (fun d => d.pkt.src == src && d.pkt.tag == tag) with
  | some d =>
    let s : State := { s with home.scans := s.home.scans.filter (fun e => !(e == d)) }
    let (_, _, s) := s.dropAgents (· == d.agent) d.poison
    s.finish d.pkt .done
  | none => s

/-! ### Fences (R256, R257, R261) -/

/-- Whether a fence has completed (R257). -/
def State.fenceDone (s : State) (f : Fence) : Bool :=
  !(s.fab.reqs ++ s.fab.waiting).any (fun r => f.tags.contains r.pkt.tag) && !s.fab.markers.any (fun m => f.markers.contains m.number)

/-- Answer the agents' fences that have completed. -/
def State.settleFences (s : State) : State :=
  let go := s.fab.fences.filter (fun f => f.agent.isSome && s.fenceDone f)
  go.foldl (fun s f => match f.agent with
    | some (port, ident) => (s.count F.FAB_FENCE_COMPLETED).toAgent (port - 0x40) { op := opAGENT_FENCE + 0x80, vc := vcRSP, tag := ident }
    | none => s) { s with fab.fences := s.fab.fences.filter (fun f => !(f.agent.isSome && s.fenceDone f)) }

/-- AGENT_FENCE (R261). -/
def State.agentFence (s : State) (a : Nat) (p : Packet) : State :=
  let port := aportCode a
  let mine := s.fab.fences.filter (fun f => match f.agent with | some (q, _) => q == port | none => false)
  if mine.length ≥ 16 then s.toAgent a { p with op := opAGENT_FENCE + 0x80, vc := vcRSP, status := Status.busy.code }
  else
    let tags := (s.aportReqs a).map (fun r => r.pkt.tag)
    let s := (s.membersIn .active).foldl State.bumpEpoch s
    let s : State := { s with fab.fences := s.fab.fences ++ [⟨some (port, p.tag % 65536), none, tags, s.fab.markers.map (fun m => m.number), 0⟩] }
    s.settleFences

/-! ### Requests of agents (R262, R264, R265, R271, R272) -/


/-- Whether a request of an agent must be held: its lookup waits for an ETC invalidation (R149), its A-port has 1,024 requests
outstanding (R265), an earlier request of the port is held, or a write of the agent to the unit is unanswered on another path
(R297). -/
def State.agentHeld (s : State) (a : Nat) (p : Packet) : Bool :=
  s.lookupHeld p.ctx p.addr (p.size + 1) || decide ((s.aportReqs a).length ≥ 1024)
    || s.xlt.heldLookups.any (fun h => h.1 == a)
    || (s.aportReqs a).any (fun r => (r.pkt.op == opSTORE || r.pkt.op == opATOMIC) && r.path != s.pathTo r.pkt.dst
        && (match r.waiter with | .agent _ _ va n => decide (va / 64 ≤ (p.addr + p.size) / 64 ∧ p.addr / 64 ≤ (va + n) / 64) | _ => false))

/-- The refusal of an agent request before translation. -/
def State.agentFault (s : State) (a : Nat) (p : Packet) : Option Status :=
  let k := cohKind p
  if p.malformed then some .badDescriptor
  else if !s.portKeyOk (aportCode a) p then some .keyMismatch
  else if !(p.op == opLOAD || p.op == opSTORE || p.op == opATOMIC || p.op == opAGENT_FENCE) then some .access
  else if k ≠ 0 ∧ !s.home.caching.contains a then some .access
  else if k ≠ 0 ∧ !((p.op == opLOAD && decide (k ≤ 3)) || (p.op == opSTORE && k == 4)) then some .badDescriptor
  else if p.aux / 16 ≠ 0 then some .badDescriptor
  else if k ≠ 0 ∧ (p.size ≠ 63 ∨ p.addr % 64 ≠ 0) then some .badDescriptor
  else if k ≠ 0 ∧ s.aportState a ≠ apATTACHED then some .stateConflict
  else if (match s.sliceOfAport a with | some (n, _) => s.sliceClosed n | none => false) then some .stateConflict
  else none

/-- Refuse an agent request at its home device. -/
def State.refuseAgent (s : State) (a : Nat) (p : Packet) (st : Status) : State :=
  let s := if st = .keyMismatch then s.keyError (aportCode a) p.pkey else s
  s.toAgent a { p with op := p.op + 0x80, vc := vcRSP, status := st.code, payload := [], sectors := 0, tagged := false }

/-- Rights a request needs (R134, R272). -/
def agentRight (p : Packet) : Nat :=
  let k := cohKind p
  if p.op = opATOMIC then rATOMIC
  else if k = kREAD_OWN ∨ k = kUPGRADE ∨ k = kWRITEBACK then rREAD + rWRITE + rCACHE
  else if p.op = opSTORE then rWRITE else rREAD

/-- An agent request that its A-port has admitted (R265): refused, held, or translated and forwarded. -/
def State.agentServe (s : State) (a : Nat) (p : Packet) : State :=
  match s.agentFault a p with
  | some st => s.refuseAgent a p st
  | none =>
    if p.op = opAGENT_FENCE then
      if s.xlt.heldLookups.any (fun h => h.1 == a) then { s with xlt.heldLookups := s.xlt.heldLookups ++ [(a, p)] }
      else s.agentFence a p
    else if s.agentHeld a p then { s with xlt.heldLookups := s.xlt.heldLookups ++ [(a, p)] }
    else match s.translate p.ctx p.addr (p.size + 1) (agentRight p) with
      | .error (st, addr) => (s.noteFault p.ctx st addr).refuseAgent a p st
      | .ok x =>
        match s.route x.dga x.ext.cls with
        | .error st => (if st = .poison then s.consumePoison p.ctx p.op x.dga else s).refuseAgent a p st
        | .ok d =>
          let k := cohKind p
          let s := s.takeRef p.ctx x.ext.va
          let s := s.etcLook p.ctx p.addr
          let rank := ((s.extentsOf p.ctx).filter (fun e => decide (e.va < x.ext.va ∧ e.dga ≤ x.dga ∧ x.dga < e.dga + e.len))).length
          let aux := if k = 0 then 0 else k + vaRankBits rank + a * 256 + (if x.ext.rights / 8 % 2 = 0 then 2 ^ 13 else 0) + p.tag % 65536 * 65536
          (s.issue { p with dst := d, addr := x.dga, tag := 0, tagged := p.op != opLOAD, aux := aux }
            (.agent (aportCode a) (p.tag % 65536) p.addr p.size)).showOutstanding a

/-- Try again the agent requests that were held, in order. -/
def State.retryHeld (s : State) : State :=
  let held := s.xlt.heldLookups
  held.foldl (fun s h => s.agentServe h.1 h.2) { s with xlt.heldLookups := [] }

/-- The agent's answer to a snoop, at its A-port (R279, R282, R283): kept, forwarded to the home; the line of a forward is
delivered to the requesting agent as its fill. -/
def State.agentAnswer (s : State) (a : Nat) (p : Packet) : State :=
  if p.op = 0x93 then s.flushAnswered a p.tag
  else match s.home.snoopsIn.find? (fun x => x.aport == a && x.pkt.tag == p.tag && x.pkt.op + 0x80 == p.op) with
  | none => s.count F.FAB_DROP_UNKNOWN_RSP
  | some x =>
    let ans := { p with src := s.devnum, dst := x.pkt.src, vc := vcRSP }
    let s : State := { s with home.snoopsIn := s.home.snoopsIn.filter (fun y => !(y == x)),
                              home.answered := s.home.answered ++ [(x.pkt.src, p.tag, ans)] }
    let s := s.enqueue (aportCode a) (s.egressOf ans) ans
    if p.op = 0x92 ∧ p.aux % 8 = 2 ∧ p.sectors = 1 then
      let ra := bitsOf x.pkt.aux 5 5
      let ident := bitsOf x.pkt.aux 16 16
      match s.fab.reqs.find? (fun r => match r.waiter with | .agent q i _ _ => q == aportCode ra && i == ident | _ => false) with
      | some r =>
        let va := match r.waiter with | .agent _ _ va _ => va | _ => 0
        let s : State := { s with fab.reqs := s.fab.reqs.filter (fun q => !(q == r)) }
        let fill : Packet := { r.pkt with
          op := opLOAD + 0x80, aux := 1 + 256 * dgaDev r.pkt.addr, payload := p.payload, sectors := 1, poison := p.poison }
        let s := (s.answerAgent (aportCode ra) ident va fill).releaseAt r.pkt.ctx va
        (s.send { op := 0x16, vc := vcRSP, src := s.devnum, dst := x.pkt.src, tag := r.pkt.tag, pkey := x.pkt.pkey }).showOutstanding ra
      | none => s
    else s

end Sys2Proof.Machine
end

