-- ==== Sys2Proof/Machine/Works.lean ====
section
/-! DEFINITION. Requests from acceptance to their end: phases, outcomes, RETIRE and final completions, custody of a lost
member's journal (spec/04 R115 to R126). -/

namespace Sys2Proof.Machine

def State.workOf (s : State) (t : Nat) : Option Work := s.works.find? (fun w => w.tag == t && w.stage != .entered && t != refusedTag)

/-- Whether a request has reached its final outcome. -/
def Work.final (w : Work) : Bool := w.stage == .holding || w.stage == .retiring

/-- Requests of the same queue and origin that come before one. -/
def State.earlierOf (s : State) (w : Work) : List Work :=
  s.works.filter (fun v => v.queue == w.queue && v.origin == w.origin
    && decide (diff32 w.index v.index ≠ 0 ∧ diff32 w.index v.index < 2 ^ 31))

/-- Whether a request may start (R115): every earlier one of its queue has reached its final outcome, or it has OVERLAP and every
earlier one has started. -/
def State.mayStart (s : State) (w : Work) : Bool :=
  if w.overlap then (s.earlierOf w).all (fun v => v.final || v.stage != .waiting || decide (v.phase ≠ 0))
  else (s.earlierOf w).all Work.final

/-! ### Outcomes and RETIRE (R102, R118) -/

/-- The queue configuration of a request: slots and completion ring of the own queue, or those of a lost member's QUEUE_CFG
entry (R124): log2 of the slots, kind, completion address, context. -/
def State.cqOf (s : State) (w : Work) : Nat × Nat × Nat × Nat :=
  if s.isSelf w.origin then (s.queueK w.queue, s.fld F.WQ_Q_CFG_CQ_KIND w.queue, s.fld F.WQ_Q_CQ_CQ_ADDR w.queue, s.queueCtx w.queue)
  else match (s.jnl.mirror.filter (fun e => e.2.kind == jkQUEUE_CFG && e.2.queue == w.queue && field e.2.body 40 1 == 1)).getLast? with
    | some e => let cfg := field e.2.body 0 8; (cfg % 256, cfg / 256 % 256, field e.2.body 16 8, cfg / 65536)
    | none => (6, 0, 0, w.ctx)

/-- The name of an adopted queue in `Jnl.adopted`. -/
def adoptedKey (origin queue : Nat) : Nat := origin * 16384 + queue

/-- The next completion index of a request's queue: of an adopted queue, the one after those its journal entries record (R124). -/
def State.nextIndex (s : State) (w : Work) : Nat :=
  if s.isSelf w.origin then (s.queue w.queue).cqNext else (s.jnl.adopted.getD (adoptedKey w.origin w.queue) (0, 0)).1

/-- A completion index of a request's queue is assigned. -/
def State.takeIndex (s : State) (w : Work) : State :=
  if s.isSelf w.origin then s.setQueue w.queue { s.queue w.queue with cqNext := mod32 ((s.queue w.queue).cqNext + 1) }
  else
    let k := adoptedKey w.origin w.queue
    let a := s.jnl.adopted.getD k (0, 0)
    { s with jnl.adopted := s.jnl.adopted.put k (mod32 (a.1 + 1), a.2) }

/-- Bytes of the final completion of a request at an index, fixed when its RETIRE entry is written. -/
def State.finalBytes (s : State) (w : Work) (index : Nat) : List Byte :=
  completionBytes w.status.code w.opcode w.qseq w.queue index (s.cqOf w).1 s.devnum w.tag w.result s.domainTime true w.replayed

/-- Write RETIRE for a request whose outcome is held, once every earlier one of its queue has written its own (R102). -/
def State.tryRetire (s : State) (w : Work) : State :=
  let ahead := (s.earlierOf w).any (fun v => v.stage != .retiring)
  if w.stage ≠ .holding ∨ w.tag = refusedTag ∨ ahead then s
  else
    let silent := w.status = .done ∧ w.noDone
    let i := s.nextIndex w
    let body := s.finalBytes w i
    let s := if silent then s else s.takeIndex w
    let s := s.modWork w.tag (fun v => { v with stage := .retiring })
    s.journalWrite {
      kind := jkRETIRE, cqValid := !silent, queue := w.queue, qseq := w.qseq, partition := w.partition, tag := w.tag,
      source := w.source, cqIndex := i, phase := w.phase, body := body ++ zeros 32 }

/-- Write every RETIRE of a queue that may be written and post every refusal that is due, in queue order (R102). -/
def State.retireQueue (s : State) (q : Nat) : Nat → State
  | 0 => s
  | fuel + 1 =>
    match s.dueRefusal q with
    | some w => (s.postRefusal w).retireQueue q fuel
    | none =>
      match s.works.find? (fun w => w.queue == q && w.stage == .holding && w.tag != refusedTag && w.guest.isNone
          && !(s.earlierOf w).any (fun v => v.stage != .retiring)) with
      | some w => (s.tryRetire w).retireQueue q fuel
      | none => s

/-- Send a JOURNAL_CTRL message (R118, R234): its kind, the request tag and, in AUX, the phase and how a phase that is done left the request
(log entry 20). -/
def State.jnlCtrl (s : State) (dst kind t phase : Nat) (left : Nat := 0) : State :=
  s.issue { op := opJOURNAL_CTRL, vc := vcMGMT, tagged := true, dst := dst, aux := kind + 256 * (phase % 65536) + 2 ^ 24 * left, addr := t % 2 ^ 48 } .none

def jcHANDOFF := 1
def jcTAKEN := 2
def jcHELD := 3
def jcNOT_HELD := 4
def jcHOLD_QUERY := 5
def jcPHASE_DONE := 6

/-- A phase held for another member's custodian is dropped (R119). -/
def State.dropHeld (s : State) (custodian t : Nat) : State :=
  let gone := (s.works.filter (fun w => w.guest == some custodian && w.tag % 2 ^ 48 == t % 2 ^ 48)).map (fun w => w.tag)
  { s with works := s.works.filter (fun w => !gone.contains w.tag)
           jnl.batches := s.jnl.batches.filter (fun b => !gone.contains b.tag)
           jnl.held := s.jnl.held.filter (fun h => !(h.custodian == custodian && h.tag == t % 2 ^ 48)) }

/-- A phase held for another member's custodian is over: PHASE_DONE tells whether the request has further phases (0), is `DONE` (1) or ended
with another status (R118; log entry 20). -/
def State.guestDone (s : State) (w : Work) (custodian left : Nat) : State :=
  (s.dropHeld custodian w.tag).jnlCtrl custodian jcPHASE_DONE w.tag w.phase left

/-- A request reaches its final outcome. -/
def State.outcome (s : State) (t : Nat) (st : Status) (result : Nat) : State :=
  match s.workOf t with
  | some w =>
    if w.final then s
    else match w.guest with
      | some c => s.guestDone w c (if st = .done then 1 else st.code)
      | none =>
        (s.modWork t (fun w => { w with stage := .holding, status := st, result := result })).retireQueue w.queue (s.works.length + 1)
  | none => s

/-- Address a later phase: phase `k` of the request is over and the next waits for its commit (R116). -/
def State.phaseOver (s : State) (t : Nat) : State :=
  match (s.workOf t).bind (fun w => w.guest.map (fun c => (w, c))) with
  | some (w, c) => s.guestDone w c 0
  | none =>
    s.modWork t (fun w => { w with stage := .waiting, phase := w.phase + 1, oldTags := w.oldTags ++ [(w.tagBase, w.tagCount, w.targets)],
                                   targets := [], tagCount := 0 })

/-- Retire the tags of a request's earlier phases at the members they were sent to (R117). -/
def State.retireTags (s : State) (w : Work) (all : Bool) : State :=
  let sets := w.oldTags ++ (if all then [(w.tagBase, w.tagCount, w.targets)] else [])
  let s := sets.foldl (fun s t => t.2.2.foldl (fun s d =>
      (List.range t.2.1).foldl (fun s k => s.retireTag d (t.1 + k) (s.fab.markers.any (fun m => m.dst == d))) s) s) s
  s.modWork w.tag (fun w => { w with oldTags := [] })

/-- Commit the next phase of a request (R116): its PHASE entry with `n` tags. -/
def State.commitPhase (s : State) (t n : Nat) (body : List Byte) : State :=
  match s.workOf t with
  | some w =>
    let (base, s) := if n = 0 then (0, s) else s.drawJnlTags n
    let s := s.modWork t (fun w => { w with stage := .committing, holder := s.devnum, source := s.devnum, tagBase := base, tagCount := n,
                                            nextTag := base, left := 0, targets := [] })
    s.journalWrite {
      kind := jkPHASE, queue := w.queue, qseq := w.qseq, partition := w.partition, tag := t, holder := s.devnum,
      source := s.devnum, phase := w.phase, tagCount := n, tagBase := base, body := body }
  | none => s

/-- Re-commit a phase with the same SOURCE and tags (R118). -/
def State.recommit (s : State) (t holder : Nat) : State :=
  match s.workOf t with
  | some w =>
    if w.lost then s.outcome t .doubleLoss 0
    else
    let s := s.modWork t (fun w => { w with stage := .committing, holder := holder })
    let kept (r : Tbl JEntry) (t : Nat) := (r.filter (fun e => e.2.kind == jkPHASE && e.2.tag == t && e.2.phase == w.phase)).getLast?
    let body := match (kept s.jnl.ring t).or (if s.isSelf w.origin then none else kept s.jnl.mirror (t % 2 ^ 48)) with
      | some e => e.2.body
      | none => []
    (s.count F.JNL_COUNT_REPLAYS).journalWrite {
      kind := jkPHASE, queue := w.queue, qseq := w.qseq, partition := w.partition, tag := t, holder := holder,
      source := w.source, phase := w.phase, tagCount := w.tagCount, tagBase := w.tagBase % 2 ^ 48, body := body }
  | none => s

/-- A phase is reclaimed: re-committed under its SOURCE and tags, counted and recorded (R118, R120). -/
def State.reclaim (s : State) (w : Work) (holder : Nat) : State :=
  ((s.recommit w.tag holder).count F.JNL_COUNT_ORPHANS).logErr { unit := .jnl, status := .timeout, tag := w.tag % 2 ^ 48, index := w.holder }

/-- The next tag of a running phase, with the member it goes to noted (R116, R117). -/
def State.phaseTag (s : State) (t d : Nat) : Nat × State :=
  match s.workOf t with
  | some w => (w.nextTag, s.modWork t (fun w => { w with nextTag := w.nextTag + 1,
                                                         targets := if w.targets.contains d then w.targets else w.targets ++ [d] }))
  | none => (0, s)

/-- Store marked bytes for a running phase under its tags. -/
def State.phaseStore (s : State) (t id ctx cls dga : Nat) (bs : List MByte) (vc : Nat) : State :=
  match s.workOf t with
  | some w =>
    let n := if dgaWin dga = 2 then ceilDiv bs.length 4096 else (cut256 dga (bs.length / 256 + 2) bs.length).length
    let d := match s.route dga cls with | .ok d => d | .error _ => dgaDev dga
    let base := w.nextTag
    let s := s.addStore id ctx cls dga bs vc true (fun k => base + k)
    s.modWork t (fun w => { w with nextTag := base + n, targets := if w.targets.contains d then w.targets else w.targets ++ [d] })
  | none => s


/-! ### Completions for a lost member's queues (R124, R146) -/

/-- A completion of an adopted queue has been written, or has failed, which is recorded (R124): either way its index counts in the ring's
CQ_TAIL, which is stored in the header. -/
def State.adoptedWritten (s : State) (tag queue origin : Nat) (st : Status) : State :=
  let k := adoptedKey origin queue
  let a := s.jnl.adopted.getD k (0, 0)
  let tail := mod32 (a.2 + 1)
  let s : State := { s with jnl.adopted := s.jnl.adopted.put k (a.1, tail) }
  let s := if st = .done then s else s.logErr { unit := .jnl, status := st, tag := tag % 2 ^ 48, addr := queue }
  match (s.jnl.mirror.filter (fun e => e.2.kind == jkQUEUE_CFG && e.2.queue == queue)).getLast? with
  | none => s
  | some e =>
    let c := field e.2.body 0 8 / 65536
    match s.lostTranslate c (field e.2.body 8 8 + 24) with
    | some (dga, cls) => s.storeFor .none c cls dga (unmarked (natLe 8 tail)) vcREQ (fun _ => 0)
    | none => s

/-- Post a completion of an adopted queue at an index (R124): a store translated through the lost member's context; an RDMA ring cannot be
reached. -/
def State.postAdopted (s : State) (w : Work) (index : Nat) (bs : List Byte) : State :=
  let (k, kind, cq, c) := s.cqOf w
  let fail (s : State) (st : Status) : State := s.adoptedWritten w.tag w.queue w.origin st
  if kind = 1 then fail s .stateConflict
  else match s.lostTranslate c (cq + 32 * (index % 2 ^ (k + 1))) with
    | none => fail s .noXlate
    | some (dga, cls) => s.storeFor (.adopted w.tag w.queue w.origin) w.ctx cls dga (unmarked bs) vcREQ (fun _ => 0)

/-- A RETIRE entry takes effect (R118): the final completion is posted, tags and references are released, the request is gone; an adopted one
leaves the mirror ring as well. -/
def State.retireEffect (s : State) (e : JEntry) : State :=
  match s.works.find? (fun w => w.tag == e.tag && w.stage == .retiring) with
  | some w =>
    let q := w.queue
    let own := s.isSelf w.origin
    let s := if own then
        let s := if e.cqValid then s.postFinal q e.cqIndex (e.body.take 32) else s
        if w.status = .keyMismatch then s.count F.WQ_Q_XREFUSE_KEY 1 q else s
      else if e.cqValid then s.postAdopted w e.cqIndex (e.body.take 32) else s
    let s := s.retireTags w true
    let s := if w.status = .poison then s.consumePoison w.ctx w.opcode (match w.poisonAt with | some x => x.2 | none => 0) else s
    let s := if own then w.refs.foldl (fun s r => s.dropRef w.ctx r.ext) s else s
    let s : State := { s with
      works := s.works.filter (fun v => !(v.tag == w.tag))
      xlt.revs := if own && w.opcode == dREVOKE then s.xlt.revs.filter (fun r => !(s.isSelf r.member && r.tag == w.tag)) else s.xlt.revs
      jnl.mirror := if own then s.jnl.mirror else s.jnl.mirror.filter (fun x => !(x.2.tag == w.tag % 2 ^ 48 && x.2.queue == q)) }
    (s.retireQueue q (s.works.length + 1)).stopIfDrained q
  | none => s

/-! ### Hand-off (R118 to R120) -/

/-- A message of a holder about a phase reaches the custodian. -/
def State.holderSays (s : State) (src t : Nat) (f : Work → Work) : State :=
  s.modWork t (fun w => if w.holder = src ∧ (w.stage = .offered ∨ w.stage = .running) then f { w with heardAt := s.now } else w)

/-- HOLD_QUERY (R119). -/
def State.holdQuery (s : State) (p : Packet) : State :=
  let t := p.addr
  let phase := p.aux / 256 % 65536
  let s := s.dedup p (fun s => s.finish p .done)
  let has := s.jnl.held.any (fun h => h.custodian == p.src && h.tag == t && h.phase == phase)
  s.jnlCtrl p.src (if has then jcHELD else jcNOT_HELD) t phase

/-- TAKEN, HELD, NOT_HELD and PHASE_DONE at the custodian (R118, R119). -/
def State.takenMsg (s : State) (p : Packet) : State :=
  (s.dedup p (fun s => s.finish p .done)).holderSays p.src p.addr (fun w => { w with stage := .running })

def State.heldMsg (s : State) (p : Packet) : State :=
  (s.dedup p (fun s => s.finish p .done)).holderSays p.src p.addr (fun w => w)

def State.notHeldMsg (s : State) (p : Packet) : State :=
  let s := s.dedup p (fun s => s.finish p .done)
  match s.workOf p.addr with
  | some w => if w.holder = p.src ∧ p.src ≠ s.devnum ∧ (w.stage = .offered ∨ w.stage = .running) then s.reclaim w w.holder else s
  | none => s

/-- PHASE_DONE at the custodian (R118): the next phase is committed, or the request retires. The message brings no RESULT: `FILL` and `COPY` have
theirs by definition, any other is a free value (log entry 20). -/
def State.phaseDoneMsg (s : State) (p : Packet) : State :=
  let s := s.dedup p (fun s => s.finish p .done)
  match s.workOf p.addr with
  | some w =>
    if w.holder ≠ p.src ∨ w.phase % 65536 ≠ p.aux / 256 % 65536 ∨ ¬(w.stage = .offered ∨ w.stage = .running) then s
    else
      let left := p.aux / 2 ^ 24
      if left = 0 then s.phaseOver w.tag
      else if left ≠ 1 then s.outcome w.tag (.ofCode left) 0
      else if w.opcode = dFILL ∨ w.opcode = dCOPY then s.outcome w.tag .done (field w.desc 24 8)
      else
        let (k, s) := s.draw
        s.outcome w.tag .done (Config.freeValue k % 2 ^ 64)
  | none => s

/-- The hand-off timeout in ns (R120). -/
def State.handoffNs (s : State) : Nat := s.fld F.JNL_CTRL_HANDOFF_US * nsPerUs

/-- A holder whose message is due sends HELD unprompted (R119). -/
def State.heldInterval (s : State) : State :=
  s.jnl.held.foldl (fun s h => s.jnlCtrl h.custodian jcHELD h.tag h.phase) s

/-- The orphan scan (R118, R120): it queries holders silent for twice the hand-off timeout, and reclaims the phases of FAILED
holders for this member. -/
def State.orphanScan (s : State) : State :=
  let s := s.reach (s.jnl.lastScan + s.handoffNs)
  let s : State := { s with jnl.lastScan := s.now }
  let open_ := s.works.filter (fun w => (w.stage == .offered || w.stage == .running) && w.holder != s.devnum && w.holder != 0xFF)
  open_.foldl (fun s w =>
    if s.memberState w.holder = .failed then s.reclaim w s.devnum
    else if w.heardAt + 2 * s.handoffNs ≤ s.now then s.jnlCtrl w.holder jcHOLD_QUERY w.tag w.phase
    else s) s

/-! ### The mirror ring (R113) -/

/-- JOURNAL_MIRROR_ENTRY (R113): the CRC is checked, the entry written in JSEQ order, the highest written JSEQ acknowledged.  An entry
0 begins the mirror afresh (R110); a copied live entry (AUX bit 1, R108; log entry 24) may leave a gap below it. -/
def State.mirrorServe (s : State) (p : Packet) : State :=
  match JEntry.decode p.payload with
  | none => s.logErr { unit := .jnl, status := .internal, index := p.src, tag := p.tag }
  | some e =>
    let last := match s.jnl.mirror.getLast? with | some x => x.1 | none => 0
    let old := s.jnl.mirror
    let other : Bool := !s.jnl.mirrorHeld || s.jnl.mirrorOf != p.src
    let afresh : Bool := old.isEmpty || other || (e.jseq == 0 && !(old.get? 0 == some e))
    if afresh ∨ e.jseq = last + 1 ∨ (bitAt p.aux 1 ∧ (old.get? e.jseq).isNone) then
      let kept : Tbl JEntry := if afresh then [] else old
      let ring := kept.put e.jseq e
      let ring := if ring.length > ringEntries then ring.drop 1 else ring
      let s : State := { s with jnl.mirror := ring, jnl.mirrorOf := p.src, jnl.mirrorHeld := true }
      let s := if (e.kind = jkPHASE ∧ e.holder ≠ s.devnum) ∨ e.kind = jkRETIRE then s.dropHeld p.src e.tag else s
      s.respond { p with addr := e.jseq } .done
    else if e.jseq ≤ last then s.respond { p with addr := if bitAt p.aux 1 then e.jseq else last } .done
    else s

/-! ### Custody (R123, R124, R126) -/

/-- The unretired requests of a ring: descriptor, latest PHASE, and whether an entry of the request cannot be read. -/
def liveRequests (ring : Tbl JEntry) (readable : Nat → Bool) : List (JEntry × Option JEntry × Bool) :=
  (ring.filter (fun e => e.2.kind == jkDESCRIPTOR && !ring.any (fun r => r.2.tag == e.2.tag
      && ((r.2.kind == jkRETIRE && readable r.1) || (r.2.kind == jkDESCRIPTOR && decide (e.1 < r.1)))))).map (fun e =>
    let ph := (ring.filter (fun f => f.2.kind == jkPHASE && f.2.tag == e.2.tag)).getLast?
    (e.2, ph.map Prod.snd, !readable e.1 || ph.any (fun p => !readable p.1) || ring.any (fun r => r.2.tag == e.2.tag && r.2.kind == jkRETIRE)))

/-- Whether a descriptor was accepted after another of its queue. -/
def JEntry.after (a b : JEntry) : Bool :=
  decide (b.acceptTime < a.acceptTime) || (a.acceptTime == b.acceptTime
    && decide (0 < (a.qseq + 65536 - b.qseq) % 65536 ∧ (a.qseq + 65536 - b.qseq) % 65536 < 32768))

/-- The consumption index of an unretired request, modulo 2^32: the last one below `top` with its queue sequence. -/
def indexBelow (top qseq : Nat) : Nat := mod32 (top + 2 ^ 32 - 1 - (top + 2 ^ 32 - 1 - qseq) % 65536)

/-- The index past the newest unretired descriptor of a queue in a ring; a lost member's queue counts from its queue sequences. -/
def ringTop (ring : Tbl JEntry) (q : Nat) : Nat :=
  let ds := (ring.map Prod.snd).filter (fun e => e.kind == jkDESCRIPTOR && e.queue == q)
  match ds with
  | [] => 0
  | d :: ds => (ds.foldl (fun n e => if e.after n then e else n) d).qseq + 2 ^ 17 + 1

/-- The name of a request in this member's custody: its tag, kept apart from the own ones when the request is another member's. -/
def State.custodyTag (s : State) (origin t : Nat) : Nat := if s.isSelf origin then t else t + 2 ^ 48 * (origin + 1)

/-- A request resumed from its journal entries (R121, R123, R125, R146). -/
def State.resumed (s : State) (origin : Nat) (e : JEntry) (ph : Option JEntry) (index : Nat) : Work :=
  let own := s.isSelf origin
  let ctx := if own then s.queueCtx e.queue
    else match (s.jnl.mirror.filter (fun q => q.2.kind == jkQUEUE_CFG && q.2.queue == e.queue)).getLast? with
      | some q => field q.2.body 0 8 / 65536
      | none => 0
  let vas := s.descVas e.body
  let op := field e.body 0 1
  let w := { blankWork with
    tag := s.custodyTag origin e.tag, origin := origin, queue := e.queue, qseq := e.qseq, index := index, desc := e.body, partition := e.partition,
    ctx := ctx, acceptIndex := e.cqIndex, acceptTime := e.acceptTime, replayed := !own, holder := s.devnum }
  match ph with
  | none => { w with stage := .waiting, source := s.devnum, recovering := some 0, refs := if own then s.refExtents ctx vas else s.lostRefs ctx vas }
  | some p =>
    let base := s.innerTag p.source p.tagBase
    { w with
      stage := .committing, phase := p.phase, source := p.source, tagBase := base, tagCount := p.tagCount, nextTag := base,
      recovering := some (p.phase + 1), refs := if own then s.refExtents ctx vas else s.bodyRefs ctx e.body p.body,
      found := if op = dREVOKE then some (field p.body 0 8) else none,
      result := if op = dREVOKE then field p.body 8 8 else if op = dTILE_MOVE then bodyWord p.body else 0 }

/-- The failures of an ATOMIC_BATCH so far, as its PHASE BODY carries them after the range: their number, and the index and status of the
first (log entry 20). -/
def BatchRun.tally (b : BatchRun) : List Byte :=
  natLe 4 b.fails ++ (match b.firstFail with | some (i, st) => natLe 4 i ++ natLe 1 st.code | none => zeros 5)

/-- A batch that runs again from a PHASE entry's BODY: with the failures it carries. -/
def tallyRun (tag : Nat) (body : List Byte) : BatchRun :=
  let st := field body 41 1
  ⟨tag, 0, [], 0, field body 33 4, if st = 0 then none else some (field body 37 4, .ofCode st), []⟩

/-- A resumed request is among those this member carries. -/
def State.addResumed (s : State) (w : Work) (ph : Option JEntry) : State :=
  let s : State := { s with works := s.works ++ [w] }
  match ph with
  | some p => if w.opcode = dATOMIC_BATCH then { s with jnl.batches := s.jnl.batches ++ [tallyRun w.tag p.body] } else s
  | none => s

/-- A request an entry of which is unreadable in both copies (R126): its final completion carries `DOUBLE_LOSS` and a TAG of all ones. -/
def State.lostRequest (s : State) (w : Work) : State :=
  let top := s.works.foldl (fun n v => max n (v.tag / 2 ^ 48 + 1)) 200
  let t := refusedTag + 2 ^ 48 * top
  let s : State := { s with
    works := s.works ++ [{ w with tag := t, stage := .waiting, recovering := none }]
    jnl.mirror := if s.isSelf w.origin then s.jnl.mirror else s.jnl.mirror.filter (fun x => !(x.2.tag == w.tag % 2 ^ 48 && x.2.queue == w.queue)) }
  (s.outcome t .doubleLoss 0).count F.JNL_LOSS_DOUBLE_LOSS

/-- Opcodes that no custodian but the queue's member runs (R122). -/
def notElsewhere (op : Nat) : Bool := op == dKERNEL_LAUNCH || op == dCOLLECTIVE || op == dEMBED_POOL || op == dSEARCH

/-- The completion of the newest mirrored entry of a lost member's queue that has one is written again with identical bytes; later ones follow it
(R124). -/
def State.rewriteNewest (s : State) (d q : Nat) : State :=
  let es := (s.jnl.mirror.filter (fun e => e.2.cqValid && e.2.queue == q && s.entryReadable true e.1)).map Prod.snd
  let k := adoptedKey d q
  match es with
  | [] => { s with jnl.adopted := s.jnl.adopted.put k (0, 0) }
  | e :: es =>
    let e := es.foldl (fun n f => if 0 < diff32 f.cqIndex n.cqIndex ∧ diff32 f.cqIndex n.cqIndex < 2 ^ 31 then f else n) e
    let w := { blankWork with tag := e.tag, origin := d, queue := q }
    let (log2, _, _, c) := s.cqOf w
    let bs := if e.kind = jkRETIRE then e.body.take 32
      else completionBytes 1 (field e.body 0 1) e.qseq q e.cqIndex log2 d e.tag 0 e.acceptTime false false
    ({ s with jnl.adopted := s.jnl.adopted.put k (mod32 (e.cqIndex + 1), e.cqIndex) } : State).postAdopted { w with ctx := c } e.cqIndex bs

/-- The queues that a ring's latest QUEUE_CFG entries leave open. -/
def openQueues (ring : Tbl JEntry) : List Nat :=
  ring.foldl (fun l e => if e.2.kind = jkQUEUE_CFG then
      l.filter (· != e.2.queue) ++ (if field e.2.body 40 1 = 1 then [e.2.queue] else []) else l) []

/-- Both copies of a member's journal are lost (R126). -/
def State.journalLost (s : State) (d : Nat) : State :=
  (s.count F.JNL_LOSS_DOUBLE_LOSS).logErr { unit := .jnl, status := .doubleLoss, index := d, syndrome := s.devnum }

/-- Take custody of a lost member's journal (R123); with no mirror of it here both copies are lost (R126). -/
def State.takeCustody (s : State) (d : Nat) : State :=
  let s := (s.setF F.JNL_STATE_RECOVERING 1).setFldBit F.JNL_CUSTODY_DEVICES d true
  if !s.jnl.mirrorHeld ∨ s.jnl.mirrorOf ≠ d then s.journalLost d
  else
    let ring := s.jnl.mirror
    let s := (openQueues ring).foldl (fun s q => s.rewriteNewest d q) s
    (liveRequests ring (s.entryReadable true)).foldl (fun s x =>
      let w := s.resumed d x.1 x.2.1 (indexBelow (ringTop ring x.1.queue) x.1.qseq)
      if x.2.2 then s.lostRequest w
      else
        let s := s.addResumed w x.2.1
        if notElsewhere w.opcode then s.outcome w.tag .stateConflict 0
        else if x.2.1.isSome then s.recommit w.tag s.devnum
        else s) s

/-- A full image load ends the custody of an adopted journal (R123): its unretired requests retire with `STATE_CONFLICT`, or both copies are
lost. -/
def State.endCustody (s : State) (d : Nat) : State :=
  let ring := s.jnl.mirror
  let s := if !s.jnl.mirrorHeld ∨ s.jnl.mirrorOf ≠ d then s.journalLost d
    else (liveRequests ring (s.entryReadable true)).foldl (fun s x =>
      let w := { s.resumed d x.1 none (indexBelow (ringTop ring x.1.queue) x.1.qseq) with recovering := none }
      if x.2.2 then s.lostRequest w else (s.addResumed w none).outcome w.tag .stateConflict 0) s
  s.setFldBit F.JNL_CUSTODY_DEVICES d false

/-- End every custody but the own one (R123). -/
def State.endCustodies (s : State) : State :=
  ((bitsSet 64 (s.fld F.JNL_CUSTODY_DEVICES)).filter (fun d => !s.isSelf d)).foldl State.endCustody s

/-- Whether the own ring is there, compared with its mirror where a reset asks for it (R69, R125). -/
def State.ringThere (s : State) : Bool := !s.sil.ringLost && !s.jnl.confirm && s.fld F.SIL_FULL_SERIAL_SERIAL != 0

/-- RECOVERING ends when every resumed request has committed a later phase or retired (R123, R125). -/
def State.recoverSettle (s : State) : State :=
  if s.recovering ∧ s.ringThere ∧ !s.works.any (fun w => w.recovering.isSome) then s.setF F.JNL_STATE_RECOVERING 0 else s

/-- Both copies of a ring are lost (R125): a new journal begins. -/
def State.newJournal (s : State) : State :=
  let s : State := { s with jnl.ring := [], jnl.toEffect := [], jnl.carrying := none, jnl.confirm := false,
                            works := s.works.filter (fun w => !s.isSelf w.origin),
                            fab.jnlTag := 1, jnl.retentionTag := 0, dom.allTags := true }
  let s := (s.setF F.JNL_HEAD_JSEQ 0).setF F.JNL_TAIL_JSEQ 0
  let s := (s.setF F.JNL_ACKED_JSEQ 0).count F.JNL_LOSS_DOUBLE_LOSS
  let s := s.logErr { unit := .jnl, status := .doubleLoss, index := s.devnum, syndrome := s.partner s.devnum }
  (s.membersIn .active).foldl (fun s d => s.issue { op := opTAG_RESET, vc := vcMGMT, dst := d, aux := 1 } .none) s

/-! ### Phases held for other custodians (R119) -/

/-- The name of a request of which this member holds a phase for its custodian. -/
def guestTag (custodian t : Nat) : Nat := t % 2 ^ 48 + 2 ^ 48 * (custodian + 65)

/-- The descriptor and PHASE entry of a request in the mirror ring kept for its custodian. -/
def State.mirroredPhase (s : State) (custodian t phase : Nat) : Option (JEntry × JEntry) :=
  if !s.jnl.mirrorHeld ∨ s.jnl.mirrorOf ≠ custodian then none
  else
    let last (f : JEntry → Bool) : Option JEntry := ((s.jnl.mirror.map Prod.snd).filter f).getLast?
    match last (fun e => e.kind == jkDESCRIPTOR && e.tag == t),
          last (fun e => e.kind == jkPHASE && e.tag == t && e.phase % 65536 == phase && s.isSelf e.holder) with
    | some d, some p => some (d, p)
    | _, _ => none

/-- HANDOFF reaches a holder (R119): TAKEN; a phase already held is not restarted.  The holder knows the request from the mirror ring; one that
it cannot read there, and one that only the queue's member runs (R122), it holds without running it (log entry 34). -/
def State.handoff (s : State) (p : Packet) : State :=
  let t := p.addr
  let phase := p.aux / 256 % 65536
  let s := s.dedup p (fun s => s.finish p .done)
  let s : State := if s.jnl.held.any (fun h => h.custodian == p.src && h.tag == t && h.phase == phase) then s
    else
      let s := s.dropHeld p.src t
      let known := s.mirroredPhase p.src t phase
      let entry := match known with | some x => x.2 | none => { kind := jkPHASE, tag := t, phase := phase, holder := s.devnum, source := p.src }
      let s : State := { s with jnl.held := s.jnl.held ++ [⟨p.src, t, phase, entry⟩] }
      match known with
      | some x =>
        let w := { s.resumed p.src x.1 (some x.2) x.1.qseq with
                   tag := guestTag p.src t, guest := some p.src, recovering := none, replayed := false, stage := .offered, heardAt := s.now }
        if notElsewhere w.opcode then s else s.addResumed w (some x.2)
      | none => s
  s.jnlCtrl p.src jcTAKEN t phase

end Sys2Proof.Machine
end

