-- ==== Sys2Proof/Machine/Switch.lean ====
section
/-! DEFINITION. The switch core: ports, shapers and policers, the gate list, egress arbitration by deficit round robin, and the
arrival of packets (spec/11 R308 to R329, spec/08 R230 to R232, R262). -/

namespace Sys2Proof.Machine

/-! ### Ports (R308) -/

/-- `SWS_PORT_INFO.KIND`. -/
def portKind (port : Nat) : Nat :=
  if port ≤ 62 then 0 else if port = 63 then 1 else if port < 96 then 2 else if port < 100 then 3 else if port < 116 then 4 else 5

def isFabric (port : Nat) : Bool := decide (port < 96)


/-- Rate of a port per direction in GB/s; 0 for a port not in use. -/
def State.portRate (s : State) (port : Nat) : Nat :=
  if port < 96 then 50 * popCount 4 (s.fld F.FAB_PORT_STATUS_LANES_UP port)
  else if port < 100 then 50 else if port < 116 then 250
  else if port = 116 then 1600 else if port = 117 then 800 else if port = 118 then 100 else if port = 119 then 400
  else if port = 120 then 600 else if port = 121 then 200 else if port < 124 then 50 else 0

/-- Nominal rate shown in `SWS_PORT_INFO.RATE_GBPS`. -/
def State.portRateShown (s : State) (port : Nat) : Nat := if port < 96 then 50 * s.portWidth port else s.portRate port

/-- The fabric guard in units of 100 ps (R325). -/
def State.portGuard (s : State) (port : Nat) : Nat :=
  if port < 96 then
    (match s.portWidth port with | 1 => 64 | 2 => 32 | 3 => 22 | 4 => 16 | _ => 0)
  else 0


/-! ### Shapers (R320, R321) -/

def blankShaper : Shaper := ⟨0, 0, 0, 0, 0, 0, 0, 0⟩
def shaperIndex (ingress vc : Nat) : Nat := ingress * 8 + vc
def State.shaper (s : State) (n : Nat) : Shaper := s.sws.shapers.getD n blankShaper
def State.setShaper (s : State) (n : Nat) (x : Shaper) : State :=
  { s with sws.shapers := s.sws.shapers.store n x blankShaper }

/-- The buckets at a time: CIR and PIR units of 100 MB/s are tenths of a byte per ns. -/
def Shaper.fillTo (x : Shaper) (now : Nat) : Shaper :=
  if x.mode = 0 then { x with filled := now }
  else
    let dt := now - x.filled
    { x with committed := min (x.cbs * 10) (x.committed + x.cir * dt), peak := min (x.pbs * 10) (x.peak + x.pir * dt), filled := now }

/-- The level a shaper gives the packet at the head of a queue: none while it waits, else whether it is in excess (R320). -/
def Shaper.verdict (x : Shaper) (bytes : Nat) : Option Bool :=
  if x.mode = 0 then some false
  else if x.peak < bytes * 10 then none
  else some (decide (x.committed < bytes * 10))

def Shaper.charge (x : Shaper) (bytes : Nat) (excess : Bool) : Shaper :=
  if x.mode = 0 then x
  else { x with peak := x.peak - bytes * 10, committed := if excess then x.committed else x.committed - bytes * 10 }

/-- Apply a configuration to a shaper (R321); the second component is `SWS_SHAPER_STATUS.RESET`. -/
def Shaper.apply (x : Shaper) (now mode cir pir cbs pbs : Nat) : Shaper × Nat :=
  let same := decide (x.mode = mode ∧ x.cir = cir ∧ x.pir = pir ∧ x.cbs = cbs ∧ x.pbs = pbs)
  if same then (x.fillTo now, 0)
  else if x.mode = 0 ∧ mode ≠ 0 then (⟨mode, cir, pir, cbs, pbs, cbs * 10, pbs * 10, now⟩, 2)
  else (⟨mode, cir, pir, cbs, pbs, 0, 0, now⟩, 1)

/-- Every enabled shaper starts full (R321, at an L4 or L5 reset or a full image load). -/
def State.fillShapers (s : State) : State :=
  { s with sws.shapers := s.sws.shapers.map (fun e =>
      if e.2.mode = 0 then e else (e.1, { e.2 with committed := e.2.cbs * 10, peak := e.2.pbs * 10, filled := s.now })) }

/-- Whether shaper configuration values are in the ranges of R329. -/
def shaperRangesOk (cir pir cbs pbs : Nat) : Bool :=
  decide (1 ≤ pir ∧ pir ≤ 65535 ∧ cir ≤ pir ∧ ((cir = 0 ∧ cbs = 0) ∨ (cir ≠ 0 ∧ 320 ≤ cbs)) ∧ 320 ≤ pbs)

/-- APPLY of a seat (R321, `SWS_SHAPER_CMD`). -/
def State.shaperApply (s : State) (x : SeatId) : State :=
  let b := x.idx
  let n := s.fld F.SWS_SHAPER_SEL_SHAPER b
  let mode := s.fld F.SWS_SHAPER_BURST_MODE b
  let cir := s.fld F.SWS_SHAPER_RATE_CIR b
  let pir := s.fld F.SWS_SHAPER_RATE_PIR b
  let cbs := s.fld F.SWS_SHAPER_BURST_CBS b
  let pbs := s.fld F.SWS_SHAPER_BURST_PBS b
  let port := n / 8
  let st := if mode = 3 then Status.badDescriptor
    else if !shaperRangesOk cir pir cbs pbs then .bounds
    else if mode = 2 ∧ !(64 ≤ port ∧ port ≤ 99) then .access
    else .done
  let s := (s.setF F.SWS_SHAPER_STATUS_STATUS st.code b).bumpSeq F.SWS_SHAPER_STATUS_SEQ b
  if st ≠ .done then s.setF F.SWS_SHAPER_STATUS_RESET 0 b
  else
    let r := ((s.shaper n).fillTo s.now).apply s.now mode cir pir cbs pbs
    (s.setShaper n r.1).setF F.SWS_SHAPER_STATUS_RESET r.2 b

/-- LOAD: the shaper's configuration goes to the seat's staging registers (R329). -/
def State.shaperLoad (s : State) (x : SeatId) : State :=
  let b := x.idx
  let c := s.shaper (s.fld F.SWS_SHAPER_SEL_SHAPER b)
  let s := (s.setF F.SWS_SHAPER_RATE_CIR c.cir b).setF F.SWS_SHAPER_RATE_PIR c.pir b
  ((s.setF F.SWS_SHAPER_BURST_MODE c.mode b).setF F.SWS_SHAPER_BURST_CBS c.cbs b).setF F.SWS_SHAPER_BURST_PBS c.pbs b

/-- A policer's decision at ingress (R320, R322): none discards, else whether the packet is admitted in excess. -/
def State.police (s : State) (ingress vc bytes : Nat) : Option Bool × State :=
  let n := shaperIndex ingress vc
  let x := (s.shaper n).fillTo s.now
  if x.mode ≠ 2 then (some false, s)
  else match x.verdict bytes with
    | none => (none, ((s.setShaper n x).count F.SWS_SHAPER_COUNT_DROPPED 1 n).count F.SWS_DROP_POLICED)
    | some e =>
      let s := s.setShaper n (x.charge bytes e)
      (some e, if e then s.count F.SWS_SHAPER_COUNT_EXCESS 1 n else s)

/-- A policer's decision on packets that arrive one after another: whether every one is admitted, and any of them in excess. -/
def State.policeAll (s : State) (ingress vc : Nat) (bytes : List Nat) : Option Bool × State :=
  bytes.foldl (fun r n =>
    let (d, s) := r.2.police ingress vc n
    ((match r.1, d with | some a, some b => some (a || b) | _, _ => none), s)) (some false, s)

/-! ### The gate list (R323, R324, R328) -/


def State.gateEntry (s : State) : Nat := s.fld F.SWS_GATE_STATUS_ENTRY

def State.gateNextEntry (s : State) : Nat := (s.gateEntry + 1) % max 1 s.gateLen

/-- Whether a VC's gate is open at a fabric egress. -/
def State.gateOpen (s : State) (egress vc : Nat) : Bool := !s.gated || !isFabric egress || bitAt (s.gateMask s.gateEntry) vc

/-- Whether SCHED is exclusive now. -/
def State.exclusiveNow (s : State) : Bool := s.gated && s.fld (F.SWS_GATE_EXCLUSIVE.at s.gateEntry) == 1

/-- Whether the Ethernet BULK gate is open. -/
def State.ethBulkOpen (s : State) : Bool := !s.gated || s.fld (F.SWS_GATE_ETH_BULK.at s.gateEntry) == 1

/-- The entry that holds an offset in the cycle, and where it ends. -/
def State.gateAt (s : State) (off : Nat) : Nat → Nat → Nat → Nat × Nat
  | 0, i, e => (i, e)
  | fuel + 1, i, e =>
    let stop := e + s.fld (F.SWS_GATE_DURATION_NS.at i)
    if off < stop then (i, stop) else s.gateAt off fuel (i + 1) stop

/-- Begin the entry that holds the present domain time. -/
def State.gateStart (s : State) : State :=
  let cycle := s.fld F.SWS_GATE_CFG_CYCLE_NS
  if cycle = 0 then s
  else
    let t := s.domainTime
    let (i, e) := s.gateAt (t % cycle) s.gateLen 0 0
    { s.setF F.SWS_GATE_STATUS_ENTRY i with sws.gateEnd := t - t % cycle + e }

/-- SCHED packets that wait at a fabric egress while their gate closes are late (R327). -/
def State.countLate (s : State) (before after : Nat) : State :=
  if bitAt before vcSCHED ∧ !bitAt after vcSCHED then
    s.count F.SWS_SCHED_LATE (s.sws.voq.filter (fun q => q.pkt.vc == vcSCHED && isFabric q.egress)).length
  else s

/-- GATE_ENTRY_BEGIN (R323): the current entry ends and its successor begins at its domain time. -/
def State.gateEntryBegin (s : State) : State :=
  if !s.gated then s
  else
    let s := s.reach (s.now + (s.sws.gateEnd - s.domainTime))
    let i := s.gateNextEntry
    let s := s.countLate (s.gateMask s.gateEntry) (s.gateMask i)
    let s := s.setF F.SWS_GATE_STATUS_ENTRY i
    { s with sws.gateEnd := s.sws.gateEnd + s.fld (F.SWS_GATE_DURATION_NS.at i) }

/-- Whether the time base counts as locked for R328. -/
def State.timeLocked (s : State) : Bool := s.fld F.ETH_PTP_STATUS_LOCK == 1

/-- The time base gains lock (R328). -/
def State.gateLockGained (s : State) : State :=
  let st := s.fld F.SWS_GATE_STATUS_STATE
  if st = gHOLDOVER then s.setF F.SWS_GATE_STATUS_STATE gRUNNING
  else if st = gSUSPENDED then (s.setF F.SWS_GATE_STATUS_STATE gRUNNING).gateStart
  else s

/-- The time base loses lock (R328). -/
def State.gateLockLost (s : State) : State :=
  if s.fld F.SWS_GATE_STATUS_STATE = gRUNNING then { s.setF F.SWS_GATE_STATUS_STATE gHOLDOVER with sws.holdoverFrom := s.now } else s

/-- GATE_HOLDOVER_EXPIRY (R328). -/
def State.gateHoldoverExpiry (s : State) : State :=
  if s.fld F.SWS_GATE_STATUS_STATE = gHOLDOVER then
    let s := s.reach (s.sws.holdoverFrom + s.fld F.SWS_GATE_CFG_HOLDOVER_MS * nsPerMs)
    ((s.setF F.SWS_GATE_STATUS_STATE gSUSPENDED).count F.SWS_GATE_STATUS_SUSPENSIONS).logErr { unit := .sws, status := .timeout }
  else s


/-- A full image's gate list is in force (R323, R328). -/
def State.gateInstall (s : State) (entries : List (Nat × Nat × Bool × Bool)) : State :=
  let s := (List.range 1024).foldl (fun s i =>
    ((((s.clearF (F.SWS_GATE_DURATION_NS.at i)).clearF (F.SWS_GATE_FABRIC_GATES.at i)).clearF (F.SWS_GATE_ETH_BULK.at i)).clearF
      (F.SWS_GATE_EXCLUSIVE.at i))) s
  let s := (entries.zipIdx).foldl (fun s e =>
    let i := e.2
    let (d, m, b, x) := e.1
    (((s.setF (F.SWS_GATE_DURATION_NS.at i) d).setF (F.SWS_GATE_FABRIC_GATES.at i) m).setF (F.SWS_GATE_ETH_BULK.at i)
      (if b then 1 else 0)).setF (F.SWS_GATE_EXCLUSIVE.at i) (if x then 1 else 0)) s
  let s := (s.setF F.SWS_GATE_CFG_ENTRIES entries.length).setF F.SWS_GATE_CFG_CYCLE_NS (entries.foldl (fun n e => n + e.1) 0)
  if entries.isEmpty then (s.setF F.SWS_GATE_STATUS_STATE gNONE).setF F.SWS_GATE_STATUS_ENTRY 0
  else if s.timeLocked then (s.setF F.SWS_GATE_STATUS_STATE gRUNNING).gateStart
  else s.setF F.SWS_GATE_STATUS_STATE gSUSPENDED

/-! ### Egress arbitration (R317 to R320, R325) -/

def State.link (s : State) (port : Nat) : Link := s.fab.links.getD port ⟨0, 0, [], 0, 0, [], [], [], [], 0, 0, 0, none⟩
def State.setLink (s : State) (port : Nat) (l : Link) : State := { s with fab.links := s.fab.links.put port l }

/-- Domain time has stepped by more than 1 µs (R328).  A packet that is still being sent on a port and ends after its gate of the entry that
holds the new time has closed completes as an overrun. -/
def State.gateTimeStep (s : State) : State :=
  if !s.gated then s
  else
    let s := s.gateStart.count F.SWS_GATE_STATUS_STEPS
    let shut (vc i : Nat) (port : Nat) : Bool :=
      if isFabric port then !bitAt (s.gateMask i) vc else vc == vcBULK && s.fld (F.SWS_GATE_ETH_BULK.at i) == 0
    let late (e : Nat × Link) : Bool :=
      match e.2.sending with
      | some (vc, stop) => decide (s.now * 10 < stop) && (shut vc s.gateEntry e.1
          || (shut vc s.gateNextEntry e.1 && decide ((s.now + (s.sws.gateEnd - s.domainTime)) * 10 < stop)))
      | none => false
    let n := (s.fab.links.filter late).length
    if n = 0 then s else s.count F.SWS_SCHED_OVERRUN n

/-- Credits of a packet in 64 B units (R251). -/
def Packet.credits (p : Packet) : Nat := ceilDiv p.bytes 64

/-- Whether the link of an egress can take a packet: the port is up, its link keys are established (R432) and the credits for its whole
length are held (R251). -/
def State.linkReady (s : State) (egress : Nat) (p : Packet) : Bool :=
  if isFabric egress then s.portUp egress && (s.link egress).keyed != 0 && decide (p.credits ≤ (s.link egress).credits.getD p.vc 0) else true

/-- The packets at the head of their VOQs towards an egress, in order of arrival. -/
def voqHeads : List Queued → List Queued → List Queued
  | [], _ => []
  | q :: rest, seen =>
    if seen.any (fun h => h.ingress == q.ingress && h.egress == q.egress && h.pkt.vc == q.pkt.vc) then voqHeads rest seen
    else q :: voqHeads rest (q :: seen)

/-- Whether a guard holds a packet at a fabric egress now (R325). -/
def State.guardHolds (s : State) (q : Queued) : Bool :=
  let p := q.pkt
  let near := decide ((s.sws.gateEnd - s.domainTime) * 10 ≤ s.portGuard q.egress)
  let next := s.gateNextEntry
  s.gated && isFabric q.egress && near && (
    (p.vc == vcSCHED && !bitAt (s.gateMask next) vcSCHED)
    || ((p.vc == vcREQ || p.vc == vcBULK) && s.fld (F.SWS_GATE_EXCLUSIVE.at next) == 1)
    || (p.vc == vcBULK && !bitAt (s.gateMask next) vcBULK))

/-- The level at which the head of a DRR queue is eligible, if it is (R317, R320, R325). -/
def State.levelOf (s : State) (q : Queued) : Option Nat :=
  let p := q.pkt
  if !s.linkReady q.egress p ∨ !s.gateOpen q.egress p.vc ∨ s.guardHolds q then none
  else
    let x := (s.shaper (shaperIndex q.ingress p.vc)).fillTo s.now
    let excess := if x.mode = 2 then some q.excess else x.verdict p.bytes
    match excess with
    | none => none
    | some e =>
      if p.vc = vcSCHED then some (if s.exclusiveNow ∧ isFabric q.egress then 4 else 5)
      else some (if e then 6 else 5)

/-- The quantum of a DRR queue in bytes (R319). -/
def State.quantum (s : State) (ingress vc : Nat) : Nat :=
  64 * (if vc = vcBULK then s.fld F.SWS_DRR_QUANTUM_BULK ingress else if vc = vcSCHED then s.fld F.SWS_DRR_QUANTUM_SCHED ingress
    else s.fld F.SWS_DRR_QUANTUM_REQ ingress)

def shapedVc (vc : Nat) : Bool := vc == vcREQ || vc == vcSCHED || vc == vcBULK

/-- Bring the active lists up to date (R318): a queue that is no longer eligible at its level leaves its list, and one that has
become eligible wakes at the tail with one quantum. -/
def State.refreshDrr (s : State) : State :=
  let heads := (voqHeads s.sws.voq []).filter (fun q => shapedVc q.pkt.vc)
  let live := heads.filterMap (fun q => (s.levelOf q).map (fun l => (q, l)))
  let kept := s.sws.drr.filter (fun d => live.any (fun e => e.1.egress == d.egress && e.1.ingress == d.ingress
    && e.1.pkt.vc == d.vc && e.2 == d.level))
  let woken := (live.filter (fun e => !kept.any (fun d => e.1.egress == d.egress && e.1.ingress == d.ingress
    && e.1.pkt.vc == d.vc))).map (fun e => (DrrQ.mk e.1.egress e.2 e.1.ingress e.1.pkt.vc (s.quantum e.1.ingress e.1.pkt.vc)))
  { s with sws.drr := kept ++ woken }

/-- The queue that deficit round robin picks in a list (R318), with the list as it then stands. -/
def State.drrPick (s : State) (heads : List Queued) : Nat → List DrrQ → Option (Queued × List DrrQ)
  | 0, _ => none
  | _, [] => none
  | fuel + 1, d :: rest =>
    match heads.find? (fun q => q.ingress == d.ingress && q.pkt.vc == d.vc) with
    | none => s.drrPick heads fuel rest
    | some q =>
      if q.pkt.bytes ≤ d.deficit then some (q, d :: rest)
      else s.drrPick heads fuel (rest ++ [{ d with deficit := d.deficit + s.quantum d.ingress d.vc }])


/-- Packets that a guard holds are counted once each. -/
def State.countGuards (s : State) (egress : Nat) : State :=
  let hold (q : Queued) : Bool := q.egress == egress && !q.held && s.guardHolds q
  let n := ((voqHeads s.sws.voq []).filter hold).length
  if n = 0 then s
  else
    let s : State := { s with sws.voq := s.sws.voq.map (fun q => if hold q then { q with held := true } else q) }
    s.count F.SWS_SCHED_GUARD_HOLDS n

/-- An ingress buffer has room again, or has none (R316): credits withheld are returned where a VC has room again, and the period in which the
port withholds credits of a VC, or takes no packet of it from the function behind it, is added up. -/
def State.stallCheck (s : State) (port : Nat) : State :=
  let s : State := if isFabric port then
      let l := s.link port
      let free := l.withheld.filter (fun e => s.roomFor port e.1 largestPacket)
      if free.isEmpty then s
      else s.setLink port { l with
        withheld := l.withheld.filter (fun e => !s.roomFor port e.1 largestPacket),
        returned := free.foldl (fun (t : Tbl Nat) e => t.put e.1 (t.getD e.1 0 + e.2)) l.returned }
    else s
  let full := s.sws.voq.any (fun q => q.ingress == port && !s.roomFor port q.pkt.vc largestPacket)
  match s.sws.stalls.get? port, full with
  | none, true => { s with sws.stalls := s.sws.stalls.put port s.now }
  | some t, false =>
    ({ s with sws.stalls := s.sws.stalls.filter (fun e => e.1 != port) } : State).count F.SWS_PORT_WAIT_CREDIT_STALL_US
      ((s.now - t) / nsPerUs) port
  | _, _ => s

/-- Credits of a packet that has left its ingress buffer go back to the transmitter, or are withheld while the buffer cannot hold another packet of
the VC (R251, R316). -/
def State.returnCredits (s : State) (ingress vc n : Nat) : State :=
  if isFabric ingress then
    let l := s.link ingress
    if s.roomFor ingress vc largestPacket then s.setLink ingress { l with returned := l.returned.put vc (l.returned.getD vc 0 + n) }
    else s.setLink ingress { l with withheld := l.withheld.put vc (l.withheld.getD vc 0 + n) }
  else s

/-- Packets that wait at their sender enter their ingress buffer as soon as it has room for them, those of one VC of a port in order (R316). -/
def State.enterWaiting (s : State) : State :=
  let s := s.sws.entering.foldl (fun s q =>
    let before := s.sws.entering.takeWhile (fun x => x != q)
    if before.any (fun x => x.ingress == q.ingress && x.pkt.vc == q.pkt.vc) ∨ !s.roomFor q.ingress q.pkt.vc q.pkt.bytes then s
    else ({ s with sws.entering := before ++ (s.sws.entering.drop (before.length + 1)) } : State).enterVoq q.ingress q.egress q.pkt) s
  ((s.sws.voq.map Queued.ingress ++ s.sws.stalls.keys).eraseDups).foldl State.stallCheck s

/-- A frame leaves on a link: it stays in the link retry buffer until it is acknowledged (R254). -/
def State.linkSend (s : State) (port : Nat) (p : Packet) (stomp : Nat) : State :=
  let l := s.link port
  let s := s.setLink port { l with
    txSeq := (l.txSeq + 1) % 4096, retryBuf := l.retryBuf ++ [(l.txSeq, p)], frames := l.frames + 1,
    sending := some (p.vc, s.now * 10 + ceilDiv (p.bytes * 10) (max 1 (s.portRate port))),
    credits := l.credits.put p.vc (l.credits.getD p.vc 0 - p.credits) }
  { s with sws.sent := s.sws.sent ++ [(port, p, stomp)] }

/-- Remove the first packet of a VOQ. -/
def dropQueued (q : Queued) : List Queued → List Queued
  | [] => []
  | x :: xs => if x = q then xs else x :: dropQueued q xs

/-- A packet leaves through an egress port: to a link, or to an endpoint of this member. -/
def State.transmit (s : State) (q : Queued) : State :=
  let n := q.pkt.bytes
  let k := shaperIndex q.ingress q.pkt.vc
  let x := (s.shaper k).fillTo s.now
  let s := if shapedVc q.pkt.vc ∧ x.mode = 1 then
      (match x.verdict n with
        | some true => (s.setShaper k (x.charge n true)).count F.SWS_SHAPER_COUNT_EXCESS 1 k
        | _ => s.setShaper k (x.charge n false))
    else s
  let s : State := { s with sws.voq := dropQueued q s.sws.voq }
  let s := (s.subF F.SWS_VOQ_BYTES n q.ingress).trackMax F.SWS_PORT_WAIT_MAX_NS (s.now - q.at_) q.egress
  let s := s.returnCredits q.ingress q.pkt.vc q.pkt.credits
  let s : State := if 64 ≤ q.egress ∧ q.pkt.op ≥ 0x80 then { s with sws.lastSeen := s.sws.lastSeen.put q.egress s.now } else s
  if isFabric q.egress then s.linkSend q.egress q.pkt 0 else s.deliver q.egress q.pkt

/-- After a packet of `n` bytes has left a DRR queue (R318). -/
def afterSend (egress level : Nat) (d : DrrQ) (n : Nat) (all list : List DrrQ) : List DrrQ :=
  (all.filter (fun e => !(e.egress == egress && e.level == level)))
    ++ list.map (fun e => if e.ingress == d.ingress && e.vc == d.vc then { e with deficit := d.deficit - n } else e)

/-- Serve one level of an egress port. -/
def State.serveLevel (s : State) (egress level : Nat) (heads : List Queued) : Option State :=
  let list := s.sws.drr.filter (fun d => d.egress == egress && d.level == level)
  match s.drrPick heads (2 * list.length + 2) list with
  | some (q, d :: rest) =>
    let s := s.transmit q
    some { s with sws.drr := afterSend egress level d q.pkt.bytes s.sws.drr (d :: rest) }
  | _ => none

/-- EGRESS_ARBITRATION at an internal or fabric port (R317): MGMT, RSP and SNOOP oldest first, then the DRR levels. -/
def State.arbitrate (s : State) (egress : Nat) : State :=
  let s := (s.countGuards egress).refreshDrr
  let heads := (voqHeads s.sws.voq []).filter (fun q => q.egress == egress && s.linkReady egress q.pkt && !s.guardHolds q)
  let first (vc : Nat) := heads.find? (fun q => q.pkt.vc == vc)
  match first vcMGMT with
  | some q => (s.transmit q).refreshDrr
  | none =>
    match first vcRSP with
    | some q => (s.transmit q).refreshDrr
    | none =>
      match first vcSNOOP with
      | some q => (s.transmit q).refreshDrr
      | none =>
        match s.serveLevel egress 4 heads with
        | some s => s.refreshDrr
        | none => match s.serveLevel egress 5 heads with
          | some s => s.refreshDrr
          | none => match s.serveLevel egress 6 heads with
            | some s => s.refreshDrr
            | none => s

/-- SHAPER_BUCKET_FILL (R320): a shaper's buckets have filled enough for the packet at the head of one of its queues; time goes on
to the moment at which the bucket named holds it. -/
def State.shaperFill (s : State) (n : Nat) (committed : Bool) : State :=
  let x := (s.shaper n).fillTo s.now
  let head := (voqHeads s.sws.voq []).find? (fun q => shaperIndex q.ingress q.pkt.vc == n)
  match head with
  | none => s
  | some q =>
    let need := q.pkt.bytes * 10
    let wait := if committed then (if x.cir = 0 then 0 else ceilDiv (need - x.committed) x.cir)
      else (if x.pir = 0 then 0 else ceilDiv (need - x.peak) x.pir)
    let s := s.reach (s.now + wait)
    (s.setShaper n (x.fillTo s.now)).refreshDrr

/-! ### Lanes of a port (R32, R35, R255) -/

/-- The key of a lane in the lane table. -/
def laneKey (port lane : Nat) : Nat := port * 4 + lane

def State.laneState (s : State) (port lane : Nat) : LaneState := s.dom.lanes.getD (laneKey port lane) .unused

/-- Show a port's state and lanes (`FAB_PORT_STATUS`). -/
def State.showPort (s : State) (port : Nat) : State :=
  let w := s.portWidth port
  let lanes := (List.range w).map (fun k => s.laneState port k)
  let up := maskOf ((List.range w).filter (fun k => s.laneState port k == .up))
  let st := if w = 0 then 0
    else if lanes.all (· == .up) then 2
    else if lanes.any (· == .up) then 3
    else if lanes.any (· == .training) then 1
    else if lanes.all (· == .held) then 5
    else if lanes.all (· == .unused) then 0
    else 4
  (s.setF F.FAB_PORT_STATUS_LANES_UP up port).setF F.FAB_PORT_STATUS_STATE st port

/-- The number a P-port reaches directly. -/
def State.peerOf (s : State) (port : Nat) : Option Nat := (List.range 64).find? (fun d => s.memberState d != .absent && s.pportTo d == port)

/-- Set a lane's state and show what follows from it. -/
def State.setLane (s : State) (port lane : Nat) (l : LaneState) : State :=
  let s := ({ s with dom.lanes := s.dom.lanes.put (laneKey port lane) l }).showPort port
  match s.peerOf port with
  | some d => s.setF (F.FAB_MEMBER_LANES_UP.at d) (s.fld F.FAB_PORT_STATUS_LANES_UP port)
  | none => s

/-- The FAB record of a lane or port event (R255, R472): 1 lane down, 2 port down, 3 port up, 4 lane held. -/
def State.linkRecord (s : State) (port lane event : Nat) (st : Status := .timeout) : State :=
  s.logErr { unit := .fab, status := st, index := port,
             syndrome := event + lane * 256 + s.fld F.FAB_PORT_STATUS_PEER port * 65536 }

/-- A port has lost its last lane (R255): frames not acknowledged are gone at the receiver; every path over it is dead and
re-routed. -/
def State.portDown (s : State) (port : Nat) : State :=
  let s := s.linkRecord port 0 2
  let l := s.link port
  let s := s.setLink port { l with credits := [], returned := [], withheld := [], retryBuf := [], txSeq := 0, rxSeq := 0, keyed := 0, frames := 0 }
  (List.range 64).foldl (fun s d =>
    if !s.isSelf d ∧ s.memberState d ≠ .absent ∧ s.pathPort d (s.pathTo d) = port then
      let old := s.pathTo d
      let s := s.reroute d
      if s.pathTo d = old then s.pathDead d old else s
    else if port = portSecond ∧ s.fab.reqs.any (fun r => r.pkt.dst == d && r.path == .second) then s.pathDead d .second
    else s) s

/-- Take a lane out of service with the state it goes to. -/
def State.laneOut (s : State) (port lane : Nat) (l : LaneState) : State :=
  if lane < s.portWidth port ∧ s.laneState port lane ≠ l then
    let was := s.laneState port lane
    let s := s.setLane port lane l
    if was = .up then
      let s := s.linkRecord port lane 1
      if s.portUp port then s else s.portDown port
    else s
  else s

/-- LANE_DOWN (R255): the lane is taken down and retrains. -/
def State.laneDown (s : State) (port lane : Nat) : State :=
  if s.laneState port lane = .up then s.laneOut port lane .training else s


/-- A lane comes up (R32, R255): its port regains rate, or is up again with the credits reserved for each VC. -/
def State.laneUp (s : State) (port lane : Nat) : State :=
  let wasUp := s.portUp port
  let s := s.setLane port lane .up
  if wasUp then s
  else
    let l := s.link port
    let s := s.setLink port { l with credits := (List.range 6).map (fun v => (v, s.vcReserve port v / 64)) }
    let s := s.linkRecord port lane 3
    match s.peerOf port with
    | some d => s.reroute d
    | none => s

/-! ### Arrival (R230 to R232, R262, R311 to R313) -/

/-- Whether a packet may be cut through (R312). -/
def State.cutThrough (s : State) (ingress egress : Nat) : Bool :=
  decide (s.portRate egress ≤ s.portRate ingress) && !(decide (96 ≤ ingress ∧ ingress < 100)) && isFabric egress
    && !s.sws.voq.any (fun q => q.egress == egress)

/-- Put an arriving packet into its VOQ. -/
def State.admitPacket (s : State) (ingress egress : Nat) (p : Packet) : State := s.enqueue ingress egress p

/-- PACKET_FORWARD (R311): a packet arrives on a port.  `crc` and `stomp` are its tail, `fault` what the link found wrong with it
(2 FEC, 3 GCM, 4 port down before its tail), `lane` the lane it came on.  What is faulty is discarded (R232); a packet that was being cut
through has its copy stomped (R231).  One that goes no further here gives its credits back (R251). -/
def State.packetForward (s : State) (ingress lane : Nat) (p : Packet) (crc stomp fault : Nat) : State :=
  let p := { p with vc := p.vc % 8, excess := false }
  let d := s.answeredAt p
  let relayed := !s.isSelf d
  let egress := if relayed then s.pathPort d (s.pathTo d) else s.homePort p
  if stomp ≠ 0 then
    ((s.count F.FAB_PORT_ERR_STOMPED 1 ingress).count F.FAB_DROP_CRC).returnCredits ingress p.vc p.credits
  else if fault ≠ 0 ∨ crc ≠ p.crc then
    let s := if fault = 0 then s.count F.FAB_DROP_CRC else s
    if relayed ∧ s.cutThrough ingress egress ∧ s.linkReady egress p then
      s.linkSend egress p (if fault = 0 ∨ fault = 4 then 1 else min fault 3)
    else s
  else if isAport ingress ∧ p.op < 0x80 then s
  else if s.memberState p.src = .absent ∧ !isAport ingress then
    (s.laneOut ingress lane .held).linkRecord ingress lane 4 .authFail
  else if relayed ∧ !p.malformed ∧ (ingress ≠ portSecond ∨ p.onSecond) ∧ s.portKeyOk ingress p ∧ p.op % 0x80 ≠ opHEARTBEAT
      ∧ p.op % 0x80 ≠ opMEMBER_DECLARE then
    s.admitPacket ingress egress { p with relayed := true }
  else
    let s := s.returnCredits ingress p.vc p.credits
    if p.malformed then
      if p.isRequest then s.respond p .badDescriptor else s.count F.FAB_DROP_MALFORMED
    else if ingress = portSecond ∧ !p.onSecond then s.count F.FAB_DROP_MALFORMED
    else if !s.portKeyOk ingress p then
      let s := s.keyError ingress p.pkey
      if p.isRequest then s.respond p .keyMismatch else s
    else if relayed then s.linkSend egress { p with relayed := true } 0
    else if p.op % 0x80 = opHEARTBEAT ∨ p.op % 0x80 = opMEMBER_DECLARE then s.deliver portMgmt p
    else s.deliver egress p

/-- An agent request enters an A-port: one that is not refused passes the policer of its channel, which ends it with `BUSY` where it discards it
(R320, R322). -/
def State.agentRequest (s : State) (a : Nat) (p : Packet) : State :=
  if (s.agentFault a p).isSome ∨ !shapedVc p.vc then s.agentServe a { p with excess := false }
  else match s.police (aportCode a) p.vc p.bytes with
    | (none, s) => s.refuseAgent a p .busy
    | (some e, s) => s.agentServe a { p with excess := e }

end Sys2Proof.Machine
end

