-- ==== Sys2Proof/Machine/Ethernet.lean ====
section
/-! DEFINITION. The Ethernet host attachment: queue pairs, requests from hosts, memory regions, checkpoint transfers,
congestion and time (spec/14). -/

namespace Sys2Proof.Machine

/-! ### Ports and queue pairs (R376 to R380) -/

/-- The first window queue pair (R378). -/
def windowQp := 8192

/-- QPN of a queue pair index. -/
def qpnOf (qp : Nat) : Nat := 0x1000 + qp

def State.qpState (s : State) (qp : Nat) : QpState := .ofCode (s.fld F.ETH_QP_STATUS_STATE qp)
def State.setQpState (s : State) (qp : Nat) (st : QpState) : State := s.setF F.ETH_QP_STATUS_STATE st.code qp
def State.qpPort (s : State) (qp : Nat) : Nat := s.fld F.ETH_QP_CFG_PORT qp

/-- Whether a port is enabled for a kind of queue pair (R377). -/
def State.ethPortOn (s : State) (port : Nat) (window : Bool) : Bool :=
  if s.fld F.SIL_FULL_SERIAL_SERIAL = 0 then window && s.fwVerified else bitAt s.dom.eports port

/-- Whether a queue pair takes requests of its peer (R379, R377). -/
def State.qpAccepts (s : State) (qp : Nat) : Bool :=
  (s.qpState qp == .rtr || s.qpState qp == .rts) && s.ethPortOn (s.qpPort qp) (decide (qp ≥ windowQp))
    && s.fld (F.ETH_PORT_CFG_MAC.at (s.qpPort qp)) != 0 && !(decide (qp ≥ windowQp) && s.deepReset)

/-- Path MTU of a port in bytes (R380). -/
def State.pmtu (s : State) (port : Nat) : Nat := 2 ^ (7 + s.fld (F.ETH_PORT_CFG_PMTU.at port))

/-- PSNs that a message of `n` bytes takes. -/
def State.psnsOf (s : State) (qp n : Nat) : Nat := max 1 (ceilDiv n (s.pmtu (s.qpPort qp)))

/-- The error record of unit ETH (R379, R387). -/
def State.ethRecord (s : State) (qp : Nat) (st : Status) : State :=
  if qp < windowQp then
    s.logErr { unit := .eth, status := st, ctx := some qp, partition := some (s.partOfCtx qp), addr := qp }
  else s.logErr { unit := .eth, status := st, addr := qp }

/-! ### PFC ingress accounting (R388) -/

def prioKey (port prio : Nat) : Nat := port * 8 + prio

/-- Bytes of a lossless priority enter (`+`) or leave the ingress buffer of a port: XOFF is sent at the threshold, and quanta 0 once
the bytes have fallen 16 KiB below it. -/
def State.ethIngress (s : State) (port prio bytes : Nat) (enter : Bool) : State :=
  let k := prioKey port prio
  let b := s.eth.ingress.getD k 0
  let b := if enter then b + bytes else b - bytes
  let s : State := { s with eth.ingress := s.eth.ingress.store k b 0 }
  let xoff := s.fld F.ETH_PFC_XOFF_KIB * 1024
  let on := s.fldBit (F.ETH_PORT_STATUS_XOFF.at port) prio
  if !s.fldBit (F.ETH_PORT_CFG_LOSSLESS.at port) prio then s
  else if !on ∧ b ≥ xoff then
    { s.setFldBit (F.ETH_PORT_STATUS_XOFF.at port) prio true with
      eth.tx := s.eth.tx ++ [⟨port, 0, false, .pfc prio (s.fld F.ETH_PFC_QUANTA)⟩] }
  else if on ∧ b ≤ xoff - 16384 then
    { s.setFldBit (F.ETH_PORT_STATUS_XOFF.at port) prio false with eth.tx := s.eth.tx ++ [⟨port, 0, false, .pfc prio 0⟩] }
  else s

/-! ### Checkpoint transfers (R387): outcomes -/

def State.seatXfer (s : State) : SeatId → Option SeatXfer
  | .a => s.eth.xferA | .b => s.eth.xferB
def State.setSeatXfer (s : State) (x : SeatId) (j : Option SeatXfer) : State :=
  match x with
  | .a => { s with eth.xferA := j }
  | .b => { s with eth.xferB := j }

/-- Post an outcome in `ETH_XFER_STATUS`. -/
def State.xferPost (s : State) (x : SeatId) (st : Status) : State :=
  (s.setF F.ETH_XFER_STATUS_STATUS st.code x.idx).bumpSeq F.ETH_XFER_STATUS_SEQ x.idx

/-- The seat's transfer ends: its pin is released; every outcome but `DONE` and an ABORT writes a record. -/
def State.xferFinish (s : State) (x : SeatId) (st : Status) (record : Bool) : State :=
  match s.seatXfer x with
  | none => s
  | some j =>
    let s := (s.setSeatXfer x none).setF F.ETH_XFER_STATUS_BUSY 0 x.idx
    let s := (s.dropPin j.ctx j.ext).xferPost x st
    if st ≠ .done ∧ record then s.ethRecord j.qp st else s

/-! ### Leaving RTR or RTS (R379) -/

/-- A request of this member over a queue pair ends with a status: a completion write or a chunk of a checkpoint transfer. -/
def State.ethReqFailed (s : State) (o : XOwner) (st : Status) : State :=
  match o with
  | .completion q _ _ => s.completionWritten q st
  | .seatLoad x | .seatStore x => s.xferFinish x st true
  | _ => s

/-- End what the queue pair has outstanding with a status. -/
def State.qpEnd (s : State) (qp : Nat) (st : Status) : State :=
  let x := s.qpx qp
  let s := s.setQpx qp { x with outstanding := [], waiting := [] }
  let s := x.outstanding.foldl (fun s r => s.ethReqFailed r.owner st) s
  let own (y : SeatId) (s : State) : State := match s.seatXfer y with
    | some j => if j.qp = qp then s.xferFinish y st true else s
    | none => s
  own .b (own .a s)

/-- A queue pair leaves RTR or RTS: outstanding transfers end, RDMA-kind rings of its context put their queues in ERROR, and the
channel of a window queue pair ends (R379, R80). -/
def State.qpLeave (s : State) (qp : Nat) (next : QpState) : State :=
  let old := s.qpState qp
  let s := (s.setQpState qp next).qpEnd qp .stateConflict
  let s := if old = .rts ∧ qp < windowQp then
      (s.qx.keys.filter (fun q => s.queueCtx q == qp && s.fld F.WQ_Q_CFG_CQ_KIND q == 1)).foldl
        (fun s q => s.queueError q 0x05 .stateConflict) s
    else s
  if old = .rts ∧ qp ≥ windowQp then s.closeChannel (.rdma (s.qpPort qp) (qpnOf qp)) else s

/-- The queue pair fails with a status (R379): an ETH record, ERROR. -/
def State.qpFail (s : State) (qp : Nat) (st : Status) : State :=
  ((s.setF F.ETH_QP_STATUS_LAST_STATUS st.code qp).ethRecord qp st).qpLeave qp .error

/-- The NAK that carries a device status (R381). -/
def nakFor (psn : Nat) (st : Status) : EthMsg :=
  .nak psn (st == .poison || st == .timeout || st == .doubleLoss || st == .stateConflict || st == .internal || st == .busy)
    (st == .badDescriptor)

/-- A request fails: its NAK is sent and the queue pair is in ERROR (R381). -/
def State.rdmaFail (s : State) (qp psn : Nat) (st : Status) : State :=
  (s.ethEmit qp false 0 (nakFor psn st)).qpFail qp st

/-! ### `ETH_QP_CMD` (R379) -/

def offQpCmd := 0x160230

def State.qpToInit (s : State) (x : SeatId) (entry : Nat) : State :=
  let qp := s.fld F.ETH_QP_SEL_QP x.idx
  if s.qpState qp = .reset ∧ (qp ≥ windowQp ∨ (s.ctxEnabled qp ∧ s.ethPortOn (s.qpPort qp) false)) then s.setQpState qp .init
  else s.seatErr x entry offQpCmd .stateConflict

def State.qpToRtr (s : State) (x : SeatId) (entry : Nat) : State :=
  let qp := s.fld F.ETH_QP_SEL_QP x.idx
  if s.qpState qp ≠ .init ∨ !s.ethPortOn (s.qpPort qp) (decide (qp ≥ windowQp)) then s.seatErr x entry offQpCmd .stateConflict
  else if s.fld F.ETH_QP_CFG_SEND_EN qp = 1 ∧ s.queueCtx (s.fld F.ETH_QP_CFG_SEND_QUEUE qp) ≠ qp then
    s.seatErr x entry offQpCmd .access
  else (s.setQpx qp { freshQp with expected := s.fld F.ETH_QP_PSN_RQ_PSN qp, next := s.fld F.ETH_QP_PSN_SQ_PSN qp }).setQpState qp .rtr

def State.qpToRts (s : State) (x : SeatId) (entry : Nat) : State :=
  let qp := s.fld F.ETH_QP_SEL_QP x.idx
  if s.qpState qp = .rtr then (s.setQpState qp .rts).setF F.ETH_QP_STATUS_RATE 4000 qp
  else s.seatErr x entry offQpCmd .stateConflict

def State.qpToError (s : State) (x : SeatId) (entry : Nat) : State :=
  let qp := s.fld F.ETH_QP_SEL_QP x.idx
  if s.qpState qp = .init ∨ s.qpState qp = .rtr ∨ s.qpState qp = .rts then s.qpLeave qp .error
  else s.seatErr x entry offQpCmd .stateConflict

def State.qpToReset (s : State) (x : SeatId) : State :=
  let qp := s.fld F.ETH_QP_SEL_QP x.idx
  let s := s.qpLeave qp .reset
  let s := s.setQpx qp freshQp
  ((s.setF F.ETH_QP_STATUS_LAST_STATUS 0 qp).clearF F.ETH_QP_STATUS_RATE qp).closeChannel (.rdma (s.qpPort qp) (qpnOf qp))

/-! ### Requests from hosts (R381, R383) -/

/-- Whether a request of a queue pair's host is being performed. -/
def State.qpBusy (s : State) (qp : Nat) : Bool :=
  s.fab.xfers.any (fun x => match x.owner with
    | .rdmaRead q _ _ _ | .rdmaWrite q _ _ _ | .rdmaAtomic q _ _ | .sendSlots _ q _ _ | .windowAccess q _ _ _ _ => q == qp
    | _ => false)

/-- Take a request of a queue pair's host: it is performed at once, or waits while an earlier one is not yet performed (R296). -/
def State.hostTake (s : State) (qp : Nat) (r : HostReq) (go : State → State) : State :=
  let x := s.qpx qp
  if s.qpBusy qp ∨ !x.waiting.isEmpty then s.setQpx qp { x with waiting := x.waiting ++ [(r, false)] } else go s

/-- A request at a responding queue pair, by its PSN: the next one is taken, one ahead is answered with a sequence NAK, an
earlier one is a duplicate (RoCEv2; log entry 30). -/
def State.rdmaIn (s : State) (qp psn n : Nat) (r : HostReq) (go onDup : State → State) : State :=
  if !s.qpAccepts qp then s
  else
    let x := s.qpx qp
    let d := (psn + 2 ^ 24 - x.expected) % 2 ^ 24
    if d = 0 then (s.setQpx qp { x with expected := (psn + n) % 2 ^ 24 }).hostTake qp r go
    else if d < 2 ^ 23 then s.ethEmit qp false 0 (.seqNak x.expected)
    else onDup s

/-- The CNP of a packet that arrived with CE marked, at most one per queue pair in each CNP_GAP_US (R390). -/
def State.sendCnp (s : State) (qp : Nat) (ce : Bool) : State :=
  let x := s.qpx qp
  let due : Bool := match x.lastCnp with | some t => decide (t + s.fld F.ETH_CC_CNP_GAP_US * nsPerUs ≤ s.now) | none => true
  if ce ∧ due then
    ((s.setQpx qp { x with lastCnp := some s.now }).ethEmit qp false 0 .cnp).count (F.ETH_PORT_COUNT_CNP_SENT.at (s.qpPort qp))
  else s

/-- The checks of a request that names a range (R381, R384, R144): the region, then the range in the extents recorded when it was registered,
which its pins keep working even while they are revoked (R150, R152); window 2 by whole blocks.  A fault of the translation comes with its
address (R147). -/
def State.regionCheck (s : State) (qp va rkey n right : Nat) : Except (Status × Option Nat) Xlated :=
  match s.eth.regions.get? (rkey % 65536) with
  | none => .error (.access, none)
  | some r =>
    if !r.valid ∨ r.gen ≠ rkey / 65536 ∨ r.ctx ≠ qp ∨ r.rights &&& right ≠ right then .error (.access, none)
    else match s.convert qp va n with
      | .error (st, a) => .error (st, some a)
      | .ok v =>
        if !(r.va ≤ v ∧ v + n ≤ r.va + r.pages * pageBytes) then .error (.bounds, none)
        else match r.exts.find? (fun x => decide (x.ext ≤ v ∧ v < x.ext + x.bytes)) with
          | none => .error (.noXlate, some va)
          | some x =>
            match s.xlt.extents.find? (fun e => e.ctx == qp && e.va == x.ext) with
            | none => .error (.noXlate, some va)
            | some e =>
              let dga := x.dga + (v - x.ext)
              if x.ext + x.bytes < v + n then .error (.bounds, some va)
              else if e.rights &&& right ≠ right then .error (.access, some va)
              else if dgaWin dga = 2 ∧ (dga % 4096 ≠ 0 ∨ n % 4096 ≠ 0) then .error (.access, none)
              else .ok ⟨dga, e⟩

/-- A request that fails these checks. -/
def State.regionFail (s : State) (qp psn : Nat) (f : Status × Option Nat) : State :=
  (match f.2 with | some a => s.noteFault qp f.1 a | none => s).rdmaFail qp psn f.1

/-- Perform an RDMA WRITE on a partner context's queue pair. -/
def State.hostWrite (s : State) (qp psn va rkey : Nat) (bs : List Byte) : State :=
  if bs.isEmpty then s.ethEmit qp false 0 (.ack psn)
  else match s.regionCheck qp va rkey bs.length rWRITE with
    | .error f => s.regionFail qp psn f
    | .ok x =>
      let s := (s.takeRef qp x.ext.va).ethIngress (s.qpPort qp) (s.fld F.ETH_QP_CFG_PCP qp) bs.length true
      s.storeFor (.rdmaWrite qp psn va bs.length) qp x.ext.cls x.dga (unmarked bs) vcREQ (fun _ => 0)

/-- RDMA WRITE on a partner context's queue pair. -/
def State.rdmaWritePartner (s : State) (qp psn va rkey : Nat) (bs : List Byte) (env : WriteEnv) : State :=
  s.rdmaIn qp psn (s.psnsOf qp bs.length) (.write psn va rkey bs env) (fun s => s.hostWrite qp psn va rkey bs)
    (fun s => s.ethEmit qp false 0 (.ack psn))

/-- The stores of an RDMA WRITE are complete (R383). -/
def State.rdmaWriteDone (s : State) (qp psn va len : Nat) (st : Status) : State :=
  let s := s.ethIngress (s.qpPort qp) (s.fld F.ETH_QP_CFG_PCP qp) len false
  let s := s.releaseAt qp va
  if st = .done then s.ethEmit qp false 0 (.ack psn) else s.rdmaFail qp psn st

/-- Perform an RDMA READ on a partner context's queue pair. -/
def State.hostRead (s : State) (qp psn va rkey len : Nat) : State :=
  if len = 0 then s.ethEmit qp false 0 (.readResponse psn [])
  else match s.regionCheck qp va rkey len rREAD with
    | .error f => s.regionFail qp psn f
    | .ok x => (s.takeRef qp x.ext.va).loadFor (.rdmaRead qp psn va len) qp x.ext.cls x.dga len vcREQ

/-- RDMA READ on a partner context's queue pair; a duplicate is executed again. -/
def State.rdmaReadPartner (s : State) (qp psn va rkey len : Nat) (env : WriteEnv) : State :=
  let r : HostReq := .read psn va rkey len env
  let go (s : State) : State := s.hostRead qp psn va rkey len
  s.rdmaIn qp psn (s.psnsOf qp len) r go (fun s => s.hostTake qp r go)

/-- The loads of an RDMA READ are in: responses in PMTU packets, up to the first packet with a poisoned sector, whose PSN carries a
remote-operational-error NAK instead. -/
def State.rdmaReadDone (s : State) (qp psn va len : Nat) (x : Xfer) : State :=
  let s := s.releaseAt qp va
  let st := x.status
  let data := x.data
  if st ≠ .done then s.rdmaFail qp psn st
  else
    let m := s.pmtu (s.qpPort qp)
    let packets := (List.range (ceilDiv len m)).map (fun k => (k, (data.drop (m * k)).take m))
    let good := packets.takeWhile (fun p => !p.2.any (fun b => b.2))
    let s := good.foldl (fun s p => s.ethEmit qp false p.2.length (.readResponse ((psn + p.1) % 2 ^ 24) (plain p.2))) s
    if good.length = packets.length then s
    else
      let s := s.consumePoison qp 0 ((x.poisonDga 0 len).getD 0)
      s.rdmaFail qp ((psn + good.length) % 2 ^ 24) .poison

/-- Perform a FETCH_ADD or CMP_SWAP. -/
def State.hostAtomic (s : State) (qp psn va rkey atype operand swap : Nat) : State :=
  if qp ≥ windowQp then s.rdmaFail qp psn .badDescriptor
  else match s.regionCheck qp va rkey 8 rATOMIC with
    | .error f => s.regionFail qp psn f
    | .ok x =>
      if x.dga % 8 ≠ 0 then s.rdmaFail qp psn .access
      else
        let s := s.takeRef qp x.ext.va
        let (id, s) := s.newXfer (.rdmaAtomic qp psn va) 1
        let p : Packet := { op := opATOMIC, vc := vcREQ, tagged := true, pkey := s.ctxKey qp, ctx := qp,
                            addr := x.dga, size := 7, sectors := 1, atype := atype,
                            payload := padTo 64 (natLe 8 operand ++ zeros 8 ++ natLe 8 swap) }
        match s.route x.dga x.ext.cls with
        | .error st => s.xferEnd id 0 p st
        | .ok d => s.issue { p with dst := d } (.xfer id 0)

/-- FETCH_ADD or CMP_SWAP; a duplicate returns the recorded result (R381). -/
def State.rdmaAtomic (s : State) (qp psn va rkey atype operand swap : Nat) : State :=
  s.rdmaIn qp psn 1 (.atomic psn va rkey atype operand swap) (fun s => s.hostAtomic qp psn va rkey atype operand swap)
    (fun s => match (s.qpx qp).atomics.find? (fun a => a.1 == psn) with
      | some a => s.ethEmit qp false 8 (.atomicAck psn a.2)
      | none => s)

/-- The atomic is answered: its result is kept among the last 64. -/
def State.rdmaAtomicDone (s : State) (qp psn va : Nat) (old : List Byte) (st : Status) : State :=
  let s := s.releaseAt qp va
  if st ≠ .done then s.rdmaFail qp psn st
  else
    let x := s.qpx qp
    (s.setQpx qp { x with atomics := ((psn, old) :: x.atomics).take 64 }).ethEmit qp false 8 (.atomicAck psn old)

/-! ### SEND (R382) -/

/-- TAIL of a queue as SENDs see it: that of the last SEND still being written, else the last doorbell. -/
def State.sendTail (s : State) (q : Nat) : Nat :=
  let inFlight := s.fab.xfers.filterMap (fun x => match x.owner with
    | .sendSlots q' _ _ tail => if q' = q then some tail else none
    | _ => none)
  match inFlight.getLast? with
  | some t => t
  | none => match (s.queue q).heldBell with | some w => mod32 w | none => s.fld F.WQ_Q_STATUS_TAIL q

/-- The DGA of a queue's ring: as pinned, or for a DISABLED queue through its context now. -/
def State.ringBase (s : State) (q : Nat) : Except Status Nat :=
  if s.queueState q = .disabled then
    match s.translate (s.queueCtx q) (s.fld F.WQ_Q_RING_RING_VA q) (64 * (2 ^ s.queueK q + 1)) rWRITE with
    | .ok x => .ok x.dga
    | .error (st, _) => .error st
  else .ok (s.queue q).ringDga

/-- Perform a SEND (R382): descriptors go into the slots of the queue's ring, then its doorbell is rung.  One that the ring has no room for is
answered with an RNR NAK and leaves the expected PSN as it was; what came behind it is for its requester to send again. -/
def State.hostSend (s : State) (qp psn : Nat) (bs : List Byte) : State :=
  let q := s.fld F.ETH_QP_CFG_SEND_QUEUE qp
  let n := bs.length / 64
  let k := s.queueK q
  let tail := s.sendTail q
  if qp ≥ windowQp ∨ s.fld F.ETH_QP_CFG_SEND_EN qp = 0 ∨ bs.length % 64 ≠ 0 ∨ bs.length = 0 ∨ bs.length > 4096 then
    s.rdmaFail qp psn .badDescriptor
  else if diff32 (mod32 (tail + n)) (s.queueHead q) > 2 ^ k then
    (s.setQpx qp { s.qpx qp with expected := psn, waiting := [] }).ethEmit qp false 0 (.rnrNak psn)
  else match s.ringBase q with
    | .error st => s.rdmaFail qp psn st
    | .ok base =>
      let (id, s) := s.newXfer (.sendSlots q qp psn (mod32 (tail + n))) 0
      (List.range n).foldl (fun s i =>
        s.addStore id qp 0 (base + 64 * ((tail + i) % 2 ^ k + 1)) (unmarked (slice bs (64 * i) 64)) vcREQ true (fun _ => 0)) s

/-- SEND (R382). -/
def State.sendIn (s : State) (qp psn : Nat) (bs : List Byte) : State :=
  s.rdmaIn qp psn (s.psnsOf qp bs.length) (.send psn bs) (fun s => s.hostSend qp psn bs) (fun s => s.ethEmit qp false 0 (.ack psn))

/-- Store a word into a queue's DOORBELL, which acts under R97. -/
def State.doorbellStore (s : State) (q base word : Nat) : State :=
  let a := dgaCell base
  ({ s with mem := s.mem.store (s.keyFor a) a (natLe 8 word) 0 } : State).doorbell q word

/-- The slots of a SEND are written. -/
def State.sendDone (s : State) (q qp psn tail : Nat) (st : Status) : State :=
  if st ≠ .done then s.rdmaFail qp psn st
  else match s.ringBase q with
    | .error st => s.rdmaFail qp psn st
    | .ok base => (s.doorbellStore q base tail).ethEmit qp false 0 (.ack psn)

/-- Requests that enter at a port in excess keep that mark where they wait (R320). -/
def State.markExcess (s : State) (port voq waiting : Nat) : State :=
  { s with
    sws.voq := (s.sws.voq.zipIdx).map (fun q =>
      if voq ≤ q.2 ∧ q.1.ingress = port then { q.1 with excess := true, pkt := { q.1.pkt with excess := true } } else q.1),
    fab.waiting := (s.fab.waiting.zipIdx).map (fun r =>
      if waiting ≤ r.2 ∧ s.functionPort r.1.waiter = port then { r.1 with pkt := { r.1.pkt with excess := true } } else r.1) }

/-- Perform with `f` the first request that waits at a queue pair, if none before it is still being performed. -/
def State.hostNext (s : State) (qp : Nat) (f : State → HostReq → State) : State :=
  let x := s.qpx qp
  match x.waiting with
  | [] => s
  | (r, excess) :: rest =>
    if s.qpBusy qp then s
    else
      let s := s.setQpx qp { x with waiting := rest }
      let t := f s r
      if excess then t.markExcess (portEth (s.qpPort qp)) s.sws.voq.length s.fab.waiting.length else t

/-- Perform a request on a partner context's queue pair. -/
def State.hostPerform (s : State) (qp : Nat) : HostReq → State
  | .write psn va rkey bs _ => s.hostWrite qp psn va rkey bs
  | .read psn va rkey len _ => s.hostRead qp psn va rkey len
  | .atomic psn va rkey atype operand swap => s.hostAtomic qp psn va rkey atype operand swap
  | .send psn bs => s.hostSend qp psn bs

/-- The queue pairs at which a request of the host waits and none is being performed. -/
def State.hostReady (s : State) : List Nat :=
  ((s.eth.qps.filter (fun e => !e.2.waiting.isEmpty)).map Prod.fst).filter (fun q => !s.qpBusy q)

/-- The next request of every partner context's queue pair that waits is performed. -/
def State.hostPump (s : State) : State :=
  (s.hostReady.filter (fun q => decide (q < windowQp))).foldl (fun s q => s.hostNext q (fun s r => s.hostPerform q r)) s

/-! ### Memory regions (R384) -/

/-- The extents of a context that a range covers whole, or why it does not. -/
def State.regionExtents (s : State) (c va n : Nat) : Except Status (List Extent) :=
  let es := s.extentsOf c
  let hit := es.filter (fun e => e.meets va n)
  if hit.any (fun e => e.state == .withdrawing) then .error .noXlate
  else if hit.any (fun e => e.state == .revoking) then .error .revoked
  else match walkRange es (va + n) (es.length + 1) va with
    | .error _ => .error .bounds
    | .ok _ => if hit.any (fun e => decide (e.va < va ∨ va + n < e.va + e.len)) then .error .bounds else .ok hit

def State.mrOutcome (s : State) (x : SeatId) (st : Status) (rkey : Nat) : State :=
  ((s.setF F.ETH_MR_STATUS_STATUS st.code x.idx).setF F.ETH_MR_STATUS_RKEY rkey x.idx).bumpSeq F.ETH_MR_STATUS_SEQ x.idx

/-- REGISTER. -/
def State.mrRegister (s : State) (x : SeatId) (c rights : Nat) : State :=
  let va := s.fld F.ETH_MR_VA_VALUE x.idx
  let pages := s.fld F.ETH_MR_LEN_VALUE x.idx
  if rights % 8 = 0 ∨ va % 4096 ≠ 0 ∨ va ≥ 2 ^ 56 ∨ pages = 0 ∨ pages ≥ 2 ^ 37 then s.mrOutcome x .badDescriptor 0
  else if c ≥ 8192 ∨ !s.ctxEnabled c then s.mrOutcome x .access 0
  else if va + pages * pageBytes > 2 ^ 56 then s.mrOutcome x .bounds 0
  else match s.regionExtents c va (pages * pageBytes) with
    | .error st => s.mrOutcome x st 0
    | .ok es =>
      match (List.range 65536).find? (fun i => match s.eth.regions.get? i with | some r => !r.valid | none => true) with
      | none => s.mrOutcome x .busy 0
      | some i =>
        let g := ((match s.eth.regions.get? i with | some r => r.gen | none => 0) + 1) % 65536
        let g := if g = 0 ∧ i = 0 then 1 else g
        let s : State := { s with eth.regions := s.eth.regions.put i ⟨g, true, c, va, pages, rights % 8, es.map (fun e => ⟨e.va, e.len, e.dga, e.cls⟩)⟩ }
        (es.foldl (fun s e => s.takePin c e.va) s).mrOutcome x .done (g * 65536 + i)

/-- DEREGISTER. -/
def State.mrDeregister (s : State) (x : SeatId) (rkey : Nat) : State :=
  match s.eth.regions.get? (rkey % 65536) with
  | some r =>
    if r.valid ∧ r.gen = rkey / 65536 then
      let s : State := { s with eth.regions := s.eth.regions.put (rkey % 65536) { r with valid := false } }
      (r.exts.foldl (fun s e => s.dropPin r.ctx e.ext) s).mrOutcome x .done rkey
    else s.mrOutcome x .badDescriptor rkey
  | none => s.mrOutcome x .badDescriptor rkey

/-! ### Requests of the device (R380, R386, R387) -/

/-- An RDMA READ of a requesting queue pair. -/
def State.ethRead (s : State) (qp va rkey len : Nat) (o : XOwner) : State :=
  let x := s.qpx qp
  let m : EthMsg := .read x.next va rkey len
  let x := { x with next := (x.next + s.psnsOf qp len) % 2 ^ 24, outstanding := x.outstanding ++ [⟨x.next, m, s.now, 0, o, len⟩] }
  (s.setQpx qp x).ethEmit qp true 0 m

/-- Bytes a checkpoint transfer moves at once. -/
def State.xferChunk (s : State) (j : SeatXfer) : Nat :=
  min (j.len - j.sent) (if dgaWin j.dga = 2 then 4096 else s.pmtu (s.qpPort j.qp))

/-- The next chunk of a seat's transfer, or its end. -/
def State.xferStep (s : State) (x : SeatId) : State :=
  match s.seatXfer x with
  | none => s
  | some j =>
    if j.done ≥ j.len then s.xferFinish x .done true
    else
      let n := s.xferChunk j
      if j.push then s.loadFor (.seatLoad x) j.ctx j.cls (j.dga + j.sent) n vcBULK
      else (s.setSeatXfer x (some { j with sent := j.sent + n })).ethRead j.qp (j.rva + j.sent) j.rkey n (.seatStore x)

/-- A chunk has been acknowledged. -/
def State.xferAdvance (s : State) (x : SeatId) (n : Nat) : State :=
  match s.seatXfer x with
  | none => s
  | some j =>
    let s := s.setSeatXfer x (some { j with done := j.done + n })
    (s.setF F.ETH_XFER_STATUS_DONE_BYTES (j.done + n) x.idx).xferStep x

/-- The local bytes of a PUSH chunk are read: they go out up to the first poisoned sector, at which the transfer ends. -/
def State.xferLoaded (s : State) (x : SeatId) (data : List MByte) (st : Status) : State :=
  match s.seatXfer x with
  | none => s
  | some j =>
    let good := data.takeWhile (fun b => !b.2)
    if st ≠ .done then s.xferFinish x st true
    else if good.isEmpty then s.xferFinish x .poison true
    else (s.setSeatXfer x (some { j with sent := j.sent + good.length })).ethWrite j.qp (j.rva + j.sent) j.rkey (plain good) (.seatLoad x)

/-- The bytes of a PULL chunk are stored. -/
def State.xferStored (s : State) (x : SeatId) (st : Status) : State :=
  match s.seatXfer x with
  | none => s
  | some j => if st = .done then s.xferAdvance x (j.sent - j.done) else s.xferFinish x st true

/-- PUSH or PULL (R387). -/
def State.xferSubmit (s : State) (x : SeatId) (push : Bool) (rkey qp : Nat) : State :=
  let b := x.idx
  let lva := s.fld F.ETH_XFER_LVA_VALUE b
  let rva := s.fld F.ETH_XFER_RVA_VALUE b
  let len := s.fld F.ETH_XFER_LEN_VALUE b
  let refuse (st : Status) : State := (s.xferPost x st).ethRecord qp st
  if len = 0 ∨ len ≥ 2 ^ 40 then refuse .badDescriptor
  else if (s.seatXfer x).isSome ∨ s.qpState qp ≠ .rts then refuse .stateConflict
  else match s.translateAt qp lva len (if push then rREAD else rWRITE) with
    | .error (st, _) => refuse st
    | .ok t =>
      if dgaWin t.dga = 2 ∧ (t.dga % 4096 ≠ 0 ∨ len % 4096 ≠ 0) then refuse .access
      else
        let j : SeatXfer := ⟨push, qp, qp, rva, rkey, len, t.dga, t.ext.cls, t.ext.va, 0, 0⟩
        let s := ((s.takePin qp t.ext.va).setSeatXfer x (some j)).setF F.ETH_XFER_STATUS_BUSY 1 b
        (s.setF F.ETH_XFER_STATUS_DONE_BYTES 0 b).xferStep x

/-- A PUSH or PULL command, which names a queue pair of a partner context. -/
def State.xferCommand (s : State) (x : SeatId) (entry : Nat) (push : Bool) (rkey qp : Nat) : State :=
  if qp ≥ windowQp then s.seatErr x entry 0x160418 .bounds else s.xferSubmit x push rkey qp

/-- ABORT. -/
def State.xferAbort (s : State) (x : SeatId) : State :=
  match s.seatXfer x with
  | none => s.xferPost x .stateConflict
  | some j =>
    let q := s.qpx j.qp
    let mine (r : EthReq) : Bool := match r.owner with | .seatLoad y | .seatStore y => y == x | _ => false
    let s := s.setQpx j.qp { q with outstanding := q.outstanding.filter (fun r => !mine r) }
    s.xferFinish x .stateConflict false

/-- A request of the device is acknowledged, a READ with its data. -/
def State.ethReqDone (s : State) (r : EthReq) (data : List Byte) : State :=
  match r.owner with
  | .completion q _ _ => s.completionWritten q .done
  | .seatLoad x => s.xferAdvance x r.len
  | .seatStore x =>
    match s.seatXfer x with
    | some j => s.storeFor (.seatStore x) j.ctx j.cls (j.dga + j.done) (unmarked (data.take r.len)) vcBULK (fun _ => 0)
    | none => s
  | _ => s

/-- Whether a PSN is at or before another. -/
def psnLe (a b : Nat) : Bool := decide ((b + 2 ^ 24 - a) % 2 ^ 24 < 2 ^ 23)

/-- The requests an acknowledgement of `psn` covers: writes up to it, and a read whose response it is (R380). -/
def covered (psn : Nat) (hasData : Bool) : List EthReq → List EthReq
  | [] => []
  | r :: rest =>
    let isRead := match r.msg with | .read .. => true | _ => false
    if psnLe r.psn psn then
      if isRead then (if r.psn = psn ∧ hasData then [r] else [])
      else r :: covered psn hasData rest
    else []

/-- Send again every unacknowledged request (go-back-N, R380), or fail when the oldest has been retried RETRY times. -/
def State.qpRetry (s : State) (qp : Nat) : State :=
  let x := s.qpx qp
  match x.outstanding with
  | [] => s
  | r :: _ =>
    if r.tries ≥ s.fld F.ETH_QP_CFG_RETRY qp then
      ((s.setQpx qp { x with outstanding := x.outstanding.drop 1 }).ethReqFailed r.owner .timeout).qpFail qp .timeout
    else
      let x : Qp := { x with outstanding := x.outstanding.map (fun (r : EthReq) => { r with tries := r.tries + 1, sent := s.now }) }
      x.outstanding.foldl (fun (s : State) (r : EthReq) => s.ethEmit qp (match r.owner with | .seatLoad _ | .seatStore _ => true | _ => false)
        (match r.msg with | .write _ _ _ d => d.length | _ => 0) r.msg) (s.setQpx qp x)

/-- ROCE_ACK (R380): `code` 0 acknowledges, 1 is a remote access error, 2 a sequence NAK, any other another NAK. -/
def State.roceAck (s : State) (qp psn code : Nat) (data : List Byte) : State :=
  let x := s.qpx qp
  if s.qpState qp ≠ .rts then s
  else if code = 0 then
    let done := covered psn (!data.isEmpty) x.outstanding
    let s := s.setQpx qp { x with outstanding := x.outstanding.drop done.length }
    done.foldl (fun s r => s.ethReqDone r data) s
  else if code = 2 then s.qpRetry qp
  else match x.outstanding.find? (fun r => r.psn == psn) with
    | none => s
    | some r =>
      let st := if code = 1 then Status.access else .timeout
      ((s.setQpx qp { x with outstanding := x.outstanding.filter (fun y => !(y == r)) }).ethReqFailed r.owner st).qpFail qp st

/-- QP_ACK_TIMEOUT (R380). -/
def State.qpAckTimeout (s : State) (qp : Nat) : State :=
  match (s.qpx qp).outstanding with
  | [] => s
  | r :: _ => (s.reach (r.sent + 4096 * 2 ^ s.fld F.ETH_QP_CFG_TIMEOUT qp)).qpRetry qp

/-! ### Congestion (R388 to R390) -/

/-- CNP (R390): the rate is cut by alpha / 2, at least to the minimum; how a fraction of a unit is rounded the spec does not say
(log entry 31). -/
def State.cnpIn (s : State) (qp : Nat) : State :=
  let r := s.fld F.ETH_QP_STATUS_RATE qp * (512 - s.fld F.ETH_CC_ALPHA)
  let (i, s) := s.draw
  let cut := r / 512 + (if r % 512 = 0 then 0 else Config.freeValue i % 2)
  (s.setF F.ETH_QP_STATUS_RATE (max cut (s.fld F.ETH_CC_MIN_RATE)) qp).setQpx qp { s.qpx qp with lastCut := s.now }

/-- CC_RECOVER_TIMER (R390). -/
def State.ccRecover (s : State) : State :=
  let gap := s.fld F.ETH_CC_RECOVER_US * nsPerUs
  let s := s.reach (s.eth.recoverAt + gap)
  let s : State := { s with eth.recoverAt := s.now }
  s.eth.qps.foldl (fun s e =>
    if e.2.lastCut + gap ≤ s.now then
      s.setF F.ETH_QP_STATUS_RATE (min 4000 (s.fld F.ETH_QP_STATUS_RATE e.1 + s.fld F.ETH_CC_AI_RATE)) e.1
    else s) s

/-- ns of a number of pause quanta of 512 bit times at 400 Gb/s. -/
def quantaNs (q : Nat) : Nat := ceilDiv (q * 128) 100

/-- The pause of a priority ends. -/
def State.unpause (s : State) (port prio : Nat) : State :=
  let k := prioKey port prio
  { s.setFldBit (F.ETH_PORT_STATUS_PAUSED.at port) prio false with
    eth.pauseUntil := s.eth.pauseUntil.del k, eth.pausedSince := s.eth.pausedSince.del k, eth.wdEpisode := s.eth.wdEpisode.del k }

/-- PFC_FRAME (R388): egress of the priority pauses for the quanta received. -/
def State.pfcFrame (s : State) (port prio quanta : Nat) : State :=
  let k := prioKey port prio
  if quanta = 0 then s.unpause port prio
  else
    let since := s.eth.pausedSince.getD k s.now
    { s.setFldBit (F.ETH_PORT_STATUS_PAUSED.at port) prio true with
      eth.pauseUntil := s.eth.pauseUntil.put k (s.now + quantaNs quanta), eth.pausedSince := s.eth.pausedSince.put k since }

/-- PFC_PAUSE_EXPIRY (R388). -/
def State.pfcExpiry (s : State) (port prio : Nat) : State :=
  match s.eth.pauseUntil.get? (prioKey port prio) with
  | some t => (s.reach t).unpause port prio
  | none => s

/-- PFC_XOFF_REFRESH (R388). -/
def State.pfcRefresh (s : State) (port prio : Nat) : State :=
  if s.fldBit (F.ETH_PORT_STATUS_XOFF.at port) prio then
    { s.reach (s.now + quantaNs (s.fld F.ETH_PFC_QUANTA) / 2) with
      eth.tx := s.eth.tx ++ [⟨port, 0, false, .pfc prio (s.fld F.ETH_PFC_QUANTA)⟩] }
  else s

/-- PFC_WATCHDOG (R389): a priority paused for WD_MS has its frames discarded until the pause ends. -/
def State.pfcWatchdog (s : State) (port prio : Nat) : State :=
  let k := prioKey port prio
  match s.eth.pausedSince.get? k with
  | none => s
  | some t =>
    let s := s.reach (t + s.fld F.ETH_PFC_WD_MS * nsPerMs)
    let mine (f : EthFrame) : Bool := f.port == port && f.prio == prio
    let n := (s.eth.queue.filter mine).length
    let first := !s.eth.wdEpisode.getD k false
    let s : State := { s with eth.queue := s.eth.queue.filter (fun f => !mine f), eth.wdEpisode := s.eth.wdEpisode.put k true }
    let s := s.count (F.ETH_PORT_COUNT_WD_DROPS.at port) n
    if first then s.logErr { unit := .eth, status := .timeout, index := port, syndrome := prio } else s

/-- The Ethernet guard band of a port in ns (R326). -/
def State.ethGuard (s : State) (port : Nat) : Nat :=
  if port = 0 then s.fld F.SWS_ETH_GUARD_E0_NS else if port = 1 then s.fld F.SWS_ETH_GUARD_E1_NS
  else if port = 2 then s.fld F.SWS_ETH_GUARD_E2_NS else s.fld F.SWS_ETH_GUARD_E3_NS

/-- Whether the guard band holds BULK frames at a port now (R326). -/
def State.ethGuardHolds (s : State) (port : Nat) : Bool :=
  s.gated && s.ethBulkOpen && s.fld (F.SWS_GATE_ETH_BULK.at s.gateNextEntry) == 0
    && decide (s.sws.gateEnd - s.domainTime ≤ s.ethGuard port)

/-- EGRESS_ARBITRATION at an E-port (R317, R324, R326, R388, R390): the oldest frame whose priority is not paused leaves, a BULK frame, which
level 5 of R317 serves, only where no other waits and its gate is open, marked CE while too many bytes of its priority wait. -/
def State.ethArbitrate (s : State) (port : Nat) : State :=
  let guard := s.ethGuardHolds port
  let newly := s.eth.queue.filter (fun f => f.port == port && f.bulk && !f.held && guard)
  let s : State := if newly.isEmpty then s else
    ({ s with eth.queue := s.eth.queue.map (fun f => if f.port == port && f.bulk && guard then { f with held := true } else f) } : State).count
      F.SWS_SCHED_GUARD_HOLDS newly.length
  let ready (f : EthFrame) : Bool := f.port == port && !s.fldBit (F.ETH_PORT_STATUS_PAUSED.at port) f.prio
  match (s.eth.queue.find? (fun f => ready f && !f.bulk)).orElse
      (fun _ => s.eth.queue.find? (fun f => ready f && f.bulk && s.ethBulkOpen && !guard)) with
  | none => s
  | some f =>
    let waiting := (s.eth.queue.filter (fun g => g.port == port && g.prio == f.prio)).foldl (fun n g => n + g.bytes) 0
    let ect := match f.msg with | .arpReply | .neighbourAdvert | .echoReply | .delayReq | .pfc _ _ => false | _ => true
    let ce := ect && decide (waiting > s.fld F.ETH_PFC_ECN_K_4K * 4096)
    let rec drop : List EthFrame → List EthFrame
      | [] => []
      | g :: gs => if g = f then gs else g :: drop gs
    let s := s.setLink (portEth port) { s.link (portEth port) with
      sending := some (if f.bulk then vcBULK else vcRSP, s.now * 10 + ceilDiv (f.bytes * 10) (s.portRate (portEth port))) }
    { s with eth.queue := drop s.eth.queue, eth.tx := s.eth.tx ++ [⟨port, f.qp, ce, f.msg⟩] }

/-! ### Time (R391 to R393) -/

/-- The time base is moved: stepped, or slewed by at most 200 ppm of the time since the last message; how far the servo slews the
spec leaves open (log entry 31). -/
def State.correctTime (s : State) (offset : Int) : State :=
  let s := s.setF F.ETH_PTP_STATUS_OFFSET_NS (ofSigned 32 offset)
  if offset.natAbs > 1000 then
    let s : State := { s with eth.timeOffset := s.eth.timeOffset - offset, eth.lastSync := s.now }
    (s.count F.ETH_PTP_STATUS_STEPS).gateTimeStep
  else
    let bound := min offset.natAbs ((s.now - s.eth.lastSync) / 5000)
    let (i, s) := s.draw
    let d : Int := (Config.freeValue i % (bound + 1) : Nat)
    { s with eth.timeOffset := if offset < 0 then s.eth.timeOffset + d else s.eth.timeOffset - d, eth.lastSync := s.now }

/-- The time base becomes LOCKED, or leaves LOCKED. -/
def State.setLock (s : State) (lock : Bool) : State :=
  if lock then
    if s.timeLocked then s else (s.setF F.ETH_PTP_STATUS_LOCK 1).gateLockGained
  else if s.timeLocked then (s.setF F.ETH_PTP_STATUS_LOCK 2).gateLockLost
  else s

/-- Whether the time base is locked to a master on an E-port of this member (R391). -/
def State.portLocked (s : State) : Bool := s.fld F.ETH_PTP_STATUS_SOURCE == 1 && s.timeLocked

/-- PTP_MESSAGE (R391): a Sync of the chosen master on an E-port, of the PTP domain configured, gives an offset in ns (this clock minus the
master's).  While time comes from another member (R392) the Sync messages only count, until the sixteenth makes the E-port the source. -/
def State.ptpMessage (s : State) (port ptpDomain : Nat) (offset : Int) : State :=
  if !s.fldBit F.ETH_PTP_CFG_PORTS port ∨ ptpDomain ≠ s.fld F.ETH_PTP_CFG_DOMAIN then s
  else
    let s := s.setF (F.ETH_PORT_STATUS_PTP.at port) 2
    let s : State := { s with eth.tx := s.eth.tx ++ [⟨port, 0, false, .delayReq⟩] }
    if s.fld F.ETH_PTP_STATUS_SOURCE = 2 ∧ (100 < offset.natAbs ∨ s.eth.goodSyncs < 15) then
      { s with eth.goodSyncs := if offset.natAbs ≤ 100 then s.eth.goodSyncs + 1 else 0 }
    else
    let s := (s.setF F.ETH_PTP_STATUS_SOURCE 1).setF F.ETH_PTP_STATUS_PORT port
    let s := s.correctTime offset
    if offset.natAbs > 1000 then ({ s with eth.goodSyncs := 0 } : State).setLock false
    else if offset.natAbs ≤ 100 then
      let s : State := { s with eth.goodSyncs := s.eth.goodSyncs + 1 }
      if s.eth.goodSyncs ≥ 16 then s.setLock true else s
    else { s with eth.goodSyncs := 0 }

/-- PTP_ANNOUNCE_TIMEOUT (R391). -/
def State.ptpAnnounceTimeout (s : State) : State :=
  if s.fld F.ETH_PTP_STATUS_SOURCE = 1 then
    let s := s.setF (F.ETH_PORT_STATUS_PTP.at (s.fld F.ETH_PTP_STATUS_PORT)) 1
    (({ s with eth.goodSyncs := 0 } : State).setF F.ETH_PTP_STATUS_SOURCE 0).setLock false
  else { s with eth.goodSyncs := 0 }

/-- Whether a member takes its time from this heartbeat (R392): it has no locked E-port of its own, and the sender is the lowest
locked member with a direct P-port. -/
def State.takesTimeFrom (s : State) (d : Nat) : Bool :=
  !s.portLocked && s.portUp (s.pportTo d)
    && !(List.range d).any (fun e => s.portUp (s.pportTo e) && (match s.dom.heard.get? e with | some h => h.locked | none => false))

/-- The member that supplies time is no longer locked, or is lost: the time base runs on its own until another source is found. -/
def State.sourceGone (s : State) (d : Nat) : State :=
  if s.fld F.ETH_PTP_STATUS_SOURCE = 2 ∧ s.fld F.ETH_PTP_STATUS_SOURCE_DEV = d then
    (s.setF F.ETH_PTP_STATUS_SOURCE 0).setLock false
  else s

/-- Time taken from a locked member's heartbeat; within 50 ns of its source (log entry 31). -/
def State.timeFrom (s : State) (d time : Nat) : State :=
  let (i, s) := s.draw
  let err : Int := (Config.freeValue i % 101 : Nat) - 50
  let offset : Int := (s.domainTime : Int) - time + err
  let s := ((s.setF F.ETH_PTP_STATUS_SOURCE 2).setF F.ETH_PTP_STATUS_SOURCE_DEV d).correctTime offset
  s.setLock true

/-- ETH_LINK_CHANGE (R376): `ETH_PORT_STATUS.LINK` shows the link; a disabled port stays DISABLED. -/
def State.ethLink (s : State) (port : Nat) (up : Bool) : State :=
  if s.ethPortOn port true then s.setF (F.ETH_PORT_STATUS_LINK.at port) (if up then 2 else 1)
  else s.setF (F.ETH_PORT_STATUS_LINK.at port) 0

end Sys2Proof.Machine
end

