-- ==== Sys2Proof/Machine/Damson.lean ====
section
/-! DEFINITION. Damson collectives: shards, grants, contributions, reduction, linear digests and aborts (spec/12 R331 to R346). -/

namespace Sys2Proof.Machine

/-! ### The descriptor (R331, R332, R334) -/

def collKind (d : List Byte) : Nat := field d 4 1
def collOp (d : List Byte) : Nat := field d 5 1
def collElem (d : List Byte) : Nat := field d 6 1
def collSched (d : List Byte) : Bool := bitAt (field d 7 1) 0
def collCount (d : List Byte) : Nat := field d 32 4
def collId (d : List Byte) : Nat := field d 36 4
def collSeed (d : List Byte) : Nat := field d 40 8
def collRoot (d : List Byte) : Nat := field d 48 1
def collDscale (d : List Byte) : Int := toSigned 8 (field d 49 1)
def collMembers (d : List Byte) : List Nat := bitsSet 64 (field d 24 8)
def collP (d : List Byte) : Nat := (collMembers d).length
def collRank (d : List Byte) (dev : Nat) : Nat := ((collMembers d).filter (fun m => decide (m < dev))).length
def collDcrc (d : List Byte) : Nat := crc32c (slice d 4 4 ++ slice d 24 32)

/-- Bytes of one element. -/
def collBytes (d : List Byte) : Nat := elemBits (collElem d) / 8

/-- The shard size S. -/
def shardSize (d : List Byte) : Nat := 1024 * ceilDiv (collCount d) (1024 * max 1 (collP d))
def shardFirst (d : List Byte) (k : Nat) : Nat := k * shardSize d
def shardLen (d : List Byte) (k : Nat) : Nat := min ((k + 1) * shardSize d) (collCount d) - shardFirst d k
def shardChunks (d : List Byte) (k : Nat) : Nat := ceilDiv (shardLen d k) 1024
def chunkFirst (d : List Byte) (k c : Nat) : Nat := shardFirst d k + 1024 * c
def chunkLen (d : List Byte) (k c : Nat) : Nat := min 1024 (shardLen d k - 1024 * c)
/-- REDUCE packets that carry `n` elements. -/
def collPackets (d : List Byte) (n : Nat) : Nat := ceilDiv (n * collBytes d) 256

/-- The members that receive the result of shard k (R332). -/
def collReceivers (d : List Byte) (k : Nat) : List Nat :=
  if collKind d = 1 then ((collMembers d).drop k).take 1
  else if collKind d = 2 then [collRoot d]
  else collMembers d

/-- Byte offset in DST of an element of the vector at a participant. -/
def dstOff (d : List Byte) (rank i : Nat) : Nat := (if collKind d = 1 then i - shardFirst d rank else i) * collBytes d

/-- Elements that DST holds at a participant (R332). -/
def dstElems (d : List Byte) (dev : Nat) : Nat :=
  if collKind d = 1 then shardLen d (collRank d dev) else if collKind d = 2 then (if collRoot d = dev then collCount d else 0)
  else collCount d

/-- Bytes of the result records that a participant receives, one for each shard that is not empty (R335, R337). -/
def digestBytes (d : List Byte) (dev : Nat) : Nat :=
  64 * ((List.range (collP d)).filter (fun k => (collReceivers d k).contains dev && shardLen d k != 0)).length

/-- The checks of R335, steps 2 to 5. -/
def State.checkColl (s : State) (c : Nat) (d : List Byte) : DescCheck :=
  let el := collElem d
  let me := s.devnum
  let members := collMembers d
  let src := field d 8 8
  let dst := field d 16 8
  let dig := field d 56 8
  let n := collCount d * collBytes d
  let m := dstElems d me * collBytes d
  let key := s.ctxKey c
  match firstFault [
      faultIf (collKind d ≥ 3) .badDescriptor 4, faultIf (collOp d ≥ 3) .badDescriptor 5,
      faultIf (!(el == elBF16 || el == elFP16 || el == elFP32 || el == elINT32)) .badDescriptor 6,
      faultIf (field d 7 1 ≥ 2) .badDescriptor 7, faultIf (src % 64 ≠ 0) .badDescriptor 8,
      faultIf (dst % 64 ≠ 0 || (collKind d == 2 && collRoot d != me && dst != 0) || (dst != src && m != 0 && rangesMeet src n dst m))
        .badDescriptor 16,
      faultIf (members.length < 2 || !members.contains me) .badDescriptor 24,
      faultIf (collCount d == 0) .badDescriptor 32, faultIf (collId d == 0) .badDescriptor 36,
      faultIf (if collKind d = 2 then !members.contains (collRoot d) else collRoot d != 0) .badDescriptor 48,
      faultIf (el == elINT32 && field d 49 1 != 0) .badDescriptor 49,
      faultIf (!allZero (slice d 50 6)) .badDescriptor 50, faultIf (dig % 64 ≠ 0) .badDescriptor 56] with
  | some f => some f
  | none =>
    match firstFault [
        faultIf (members.any (fun q => s.memberState q != .active)) .stateConflict 24,
        faultIf (s.coll.runs.any (fun r => r.key == key && r.id == collId d)) .stateConflict 36,
        faultIf (collSched d && s.fld F.SWS_GATE_STATUS_STATE == gNONE) .stateConflict 7,
        s.rangeStateFault c src n rREAD 8, if m = 0 then none else s.rangeStateFault c dst m rWRITE 16] with
    | some f => some f
    | none => boundsLast [s.rangeAllFault c src n rREAD 8, if m = 0 then none else s.rangeAllFault c dst m rWRITE 16,
        if dig = 0 ∨ digestBytes d me = 0 then none else s.rangeAllFault c dig (digestBytes d me) rWRITE 56]

/-! ### Linear digests (R340 to R342) -/

def m64 (n : Nat) : Nat := n % 2 ^ 64

/-- The weight of element i. -/
def digestWeight (seed i : Nat) : Nat :=
  let z := m64 ((seed ^^^ m64 i) + 0x9E3779B97F4A7C15)
  let z := m64 ((z ^^^ (z >>> 30)) * 0xBF58476D1CE4E5B9)
  let z := m64 ((z ^^^ (z >>> 27)) * 0x94D049BB133111EB)
  let z := z ^^^ (z >>> 31)
  (z >>> 48) ||| 1

/-- A value times 2^k rounded half to even. -/
def roundScaled (v : Fl) (k : Int) : Option Int :=
  match v with
  | .fin s m e => some (signed s (roundQ m (e + k) 0))
  | .inf s => some (if s then -(2 ^ 60) else 2 ^ 60)
  | .nan => none

/-- `fix` of R340: the fixed-point value and whether it saturated. -/
def digestFix (el : Nat) (dscale : Int) (x : Nat) : Int × Bool :=
  if el = elINT32 then (toSigned 32 x, false)
  else match roundScaled (elemValue el x) dscale with
    | none => (0, true)
    | some v => if v > 2 ^ 47 - 1 then (2 ^ 47 - 1, true) else if v < -(2 ^ 47 - 1) then (-(2 ^ 47 - 1), true) else (v, false)

def emptyAcc : DigestAcc := ⟨0, 0, 0, false, false⟩

/-- Add element i to a digest. -/
def DigestAcc.add (acc : DigestAcc) (seed el : Nat) (dscale : Int) (i : Nat) (x : MElem) : DigestAcc :=
  let w := digestWeight seed i
  let (v, sat) := digestFix el dscale x.1
  { d := ofSigned 64 (toSigned 64 acc.d + w * v), a := min (acc.a + w * v.natAbs) (2 ^ 64 - 1), w := m64 (acc.w + w),
    sat := acc.sat || sat, poison := acc.poison || x.2 }

/-- Add a run of elements from index `i`. -/
def DigestAcc.addAll (acc : DigestAcc) (seed el : Nat) (dscale : Int) (i : Nat) : List MElem → DigestAcc
  | [] => acc
  | x :: xs => (acc.add seed el dscale i x).addAll seed el dscale (i + 1) xs

/-- The digest of a run of elements of a collective's vector. -/
def digestOf (d : List Byte) (acc : DigestAcc) (first : Nat) (xs : List MElem) : DigestAcc :=
  acc.addAll (collSeed d) (collElem d) (collDscale d) first xs

/-- A digest record (R341). -/
def digestRecord (d : List Byte) (dval sumd auxd w shard flags : Nat) : List Byte :=
  natLe 8 dval ++ natLe 8 sumd ++ natLe 8 auxd ++ natLe 8 (w % 2 ^ 48) ++ natLe 4 shard ++ natLe 1 (collP d) ++ natLe 1 flags
    ++ zeros 2 ++ natLe 4 (collDcrc d) ++ natLe 4 (collId d) ++ natLe 8 (collSeed d) ++ zeros 8

/-- The contributor record of a shard; POISON clears the sums (R344). -/
def contributorRecord (d : List Byte) (k : Nat) (acc : DigestAcc) : List Byte :=
  if acc.poison then digestRecord d 0 0 0 acc.w k ((if acc.sat then 1 else 0) + 2)
  else digestRecord d acc.d 0 acc.a acc.w k (if acc.sat then 1 else 0)

def flSAT := 1
def flPOISON := 2
def flMISMATCH := 4
def flUNCHECKED := 8

/-- The guard exponent G of R342. -/
def digestG (el : Nat) : Nat := if el = elFP32 then 23 else if el = elFP16 then 10 else 7

/-- Whether a shard passes the test of R342 with digest D. -/
def shardPasses (d : List Byte) (dval sumd auxd w : Nat) : Bool :=
  let delta := toSigned 64 (ofSigned 64 ((dval : Int) - sumd))
  let p := collP d
  if collOp d = 0 then
    if collElem d = elINT32 then ofSigned 32 delta == 0
    else decide (delta.natAbs ≤ (p + 1) * ceilDiv w 2 + (p + 1) * (auxd / 2 ^ digestG (collElem d)))
  else if collOp d = 2 then decide (toSigned 64 auxd ≤ toSigned 64 dval)
  else decide (toSigned 64 dval ≤ toSigned 64 auxd)

/-- The result record of a shard at its reducer: the sums over the contributors' records, and the test. -/
def resultRecord (d : List Byte) (k : Nat) (acc : DigestAcc) (recs : List (List Byte)) : List Byte :=
  let flags := recs.map (fun r => field r 37 1)
  let sat := acc.sat || flags.any (fun f => bitAt f 0)
  let poison := acc.poison || flags.any (fun f => bitAt f 1)
  let ds := recs.map (fun r => toSigned 64 (field r 0 8))
  let as_ := recs.map (fun r => field r 16 8)
  let sumd := m64 ((recs.map (fun r => field r 0 8)).foldl (· + ·) 0)
  let auxd := if collOp d = 0 then min (as_.foldl (· + ·) 0) (2 ^ 64 - 1)
    else match ds with
      | [] => 0
      | x :: xs => ofSigned 64 (xs.foldl (fun m y => if collOp d = 2 then max m y else min m y) x)
  let unchecked := if collOp d = 0 then collElem d != elINT32 && auxd == 2 ^ 64 - 1
    else decide (acc.a ≥ 2 ^ 63) || as_.any (fun a => decide (a ≥ 2 ^ 63))
  let base := (if sat then flSAT else 0) + (if poison then flPOISON else 0) + (if unchecked then flUNCHECKED else 0) + 16
  if poison then digestRecord d 0 0 0 acc.w k base
  else
    let bad := !sat && !unchecked && !shardPasses d acc.d sumd auxd acc.w
    digestRecord d acc.d sumd auxd acc.w k (base + if bad then flMISMATCH else 0)

/-! ### Runs and instances (R333, R338) -/

def State.collRun (s : State) (tag : Nat) : Option CollRun := s.coll.runs.find? (fun r => r.tag == tag)
def State.modColl (s : State) (tag : Nat) (f : CollRun → CollRun) : State :=
  { s with coll.runs := s.coll.runs.map (fun r => if r.tag == tag then f r else r) }

/-- The run of a collective by its partition key and COLL_ID. -/
def State.collFor (s : State) (key id : Nat) : Option CollRun := s.coll.runs.find? (fun r => r.key == key && r.id == id)

/-- Open waiting instances, in the order of their first-phase commits, while 16 slots are free (R333). -/
def State.collOpen (s : State) : State :=
  s.coll.runs.foldl (fun s r =>
    match r.inst with
    | some i =>
      if !r.opened ∧ s.fld F.COLL_STATE_SLOTS_FREE ≥ 16 then
        let s := (s.subF F.COLL_STATE_SLOTS_FREE 16).addF F.COLL_STATE_OPEN 1
        (s.setF (F.COLL_INST_STATE.at i) 2).modColl r.tag (fun r => { r with opened := true })
      else s
    | none =>
      match (List.range 256).find? (fun i => s.fld (F.COLL_INST_STATE.at i) == 0) with
      | none => s
      | some i =>
        let ready := s.fld F.COLL_STATE_SLOTS_FREE ≥ 16
        let s := ((s.setF (F.COLL_INST_COLL_ID.at i) r.id).setF (F.COLL_INST_DONE_CHUNKS.at i) 0)
        let s := if ready then ((s.subF F.COLL_STATE_SLOTS_FREE 16).addF F.COLL_STATE_OPEN 1).setF (F.COLL_INST_STATE.at i) 2
          else s.setF (F.COLL_INST_STATE.at i) 1
        let s := match s.workOf r.tag with
          | some w => s.setF (F.COLL_INST_RANK.at i) (collRank w.desc s.devnum)
          | none => s
        s.modColl r.tag (fun r => { r with inst := some i, opened := decide ready })) s

/-- An instance ends: its slots and entry are free. -/
def State.collClose (s : State) (tag : Nat) : State :=
  match s.collRun tag with
  | none => s
  | some r =>
    let s : State := { s with coll.runs := s.coll.runs.filter (fun x => x.tag != tag) }
    let s := match r.inst with
      | some i =>
        let s := if r.opened then (s.addF F.COLL_STATE_SLOTS_FREE 16).subF F.COLL_STATE_OPEN 1 else s
        ((s.setF (F.COLL_INST_STATE.at i) 0).setF (F.COLL_INST_COLL_ID.at i) 0).setF (F.COLL_INST_DONE_CHUNKS.at i) 0
      | none => s
    (s.count F.COLL_COUNT_COMPLETED).collOpen

/-- A REDUCE packet of a collective. -/
def collPacket (d : List Byte) (key ctx sub dst tag low aux : Nat) (payload : List Byte) (poison : Nat) : Packet :=
  { op := opREDUCE, vc := if collSched d then vcSCHED else vcREQ, tagged := true, pkey := key, dst := dst, tag := tag, ctx := ctx,
    addr := collId d * 2 ^ 32 + low, aux := sub + 256 * aux, size := payload.length - 1,
    sectors := ceilDiv payload.length 64, payload := padTo (64 * ceilDiv payload.length 64) payload, poison := poison }

/-- Latch and count an abort (`COLL_ABORT`). -/
def State.collNoteAbort (s : State) (id : Nat) (st : Status) : State :=
  let s := if s.fld F.COLL_ABORT_COUNT = 0 then (s.setF F.COLL_ABORT_COLL_ID id).setF F.COLL_ABORT_STATUS st.code else s
  s.count F.COLL_ABORT_COUNT

/-- Send ABORT of a descriptor's collective to every other participant (R345). -/
def State.collSendAborts (s : State) (d : List Byte) (key ctx : Nat) (st : Status) : State :=
  ((collMembers d).filter (fun m => !s.isSelf m && s.memberState m == .active)).foldl
    (fun s m => s.issue { collPacket d key ctx 4 m 0 0 st.code [] 0 with sectors := 0, size := 0 } .none) s

/-- A custodian retires a COLLECTIVE: ABORT with `STATE_CONFLICT` goes to every participant (R346). -/
def State.collLost (s : State) (w : Work) : State :=
  if w.opcode = dCOLLECTIVE then
    (s.collSendAborts w.desc (s.keyOf w.partition) w.ctx .stateConflict).count F.COLL_COUNT_COMPLETED
  else s

/-- A collective ends early at this participant (R345). -/
def State.collEnd (s : State) (tag : Nat) (st : Status) : State :=
  match s.collRun tag with
  | none => s
  | some r => ((s.collNoteAbort r.id st).collClose tag).outcome tag st 0

/-- This member detects the cause: ABORT goes to every participant, and the record is written where R345 says. -/
def State.collAbort (s : State) (tag : Nat) (st : Status) (record : Bool) : State :=
  match s.workOf tag with
  | none => s
  | some w =>
    let s := s.collSendAborts w.desc (s.ctxKey w.ctx) w.ctx st
    let s := if record then s.logErr { unit := .coll, status := st, ctx := some w.ctx, partition := some w.partition, addr := collId w.desc } else s
    s.collEnd tag st

/-! ### Planning a phase (R337, R338) -/

/-- Participants other than this member, by rank. -/
def collOthers (d : List Byte) (me : Nat) : List Nat := (List.range (collP d)).filter (fun r => r != collRank d me)

/-- The member of a rank. -/
def collMember (d : List Byte) (rank : Nat) : Nat := (collMembers d).getD rank 0

/-- GRANTs owed: the first, or a limit that rose by 4 or reached the last chunk. -/
def CollRun.owedLimit (r : CollRun) (d : List Byte) (me : Nat) : Option Nat :=
  let n := shardChunks d (collRank d me)
  let limit := min (16 + r.freed) n
  if !r.opened then none
  else if r.sentGrants = 0 ∨ r.granted + 4 ≤ limit ∨ (limit = n ∧ r.granted < n) then some limit else none

/-- The limit up to which a participant may contribute to shard k: its grant, or for the own shard the own limit. -/
def CollRun.limitOf (r : CollRun) (d : List Byte) (me k : Nat) : Nat :=
  if k = collRank d me then r.granted else r.limits.getD k 0

/-- The next chunk to contribute: lowest chunk index, then shards in ascending rank from after the own one. -/
def CollRun.nextContrib (r : CollRun) (d : List Byte) (me : Nat) : Option (Nat × Nat) :=
  let rank := collRank d me
  let p := collP d
  let order := (List.range p).map (fun j => (rank + 1 + j) % p)
  let open_ := order.filter (fun k => decide (r.taken.getD k 0 < min (r.limitOf d me k) (shardChunks d k)))
  match (open_.map (fun k => r.taken.getD k 0)).min? with
  | none => none
  | some c => (open_.find? (fun k => r.taken.getD k 0 == c)).map (fun k => (k, c))

/-- Take contributions while their tags fit. -/
def CollRun.takeContribs (d : List Byte) (me : Nat) : Nat → Nat → CollRun → List CollItem → CollRun × List CollItem × Nat
  | 0, n, r, l => (r, l, n)
  | fuel + 1, n, r, l =>
    match r.nextContrib d me with
    | none => (r, l, n)
    | some (k, c) =>
      let own := k == collRank d me
      let cost := if own then 0 else collPackets d (chunkLen d k c)
      let last := decide (c + 1 = shardChunks d k)
      let dcost := if own ∨ !last then 0 else 1
      if n + cost + dcost > 4096 then (r, l, n)
      else
        let l := l ++ [⟨1, k, c, n⟩] ++ (if last then [⟨2, k, 0, n + cost⟩] else [])
        CollRun.takeContribs d me fuel (n + cost + dcost) { r with taken := r.taken.put k (c + 1) } l

/-- Take results of chunks granted to every participant while their tags fit. -/
def CollRun.takeResults (d : List Byte) (me : Nat) : Nat → Nat → CollRun → List CollItem → CollRun × List CollItem × Nat
  | 0, n, r, l => (r, l, n)
  | fuel + 1, n, r, l =>
    let k := collRank d me
    let dests := ((collReceivers d k).filter (· != me)).length
    let chunks := shardChunks d k
    if r.resTaken < min r.granted chunks then
      let cost := dests * collPackets d (chunkLen d k r.resTaken)
      if n + cost > 4096 then (r, l, n)
      else CollRun.takeResults d me fuel (n + cost) { r with resTaken := r.resTaken + 1 } (l ++ [⟨3, r.resTaken, 0, n⟩])
    else if 0 < chunks ∧ r.resTaken = chunks ∧ !r.resDigestTaken then
      if n + dests > 4096 then (r, l, n) else ({ r with resDigestTaken := true }, l ++ [⟨4, 0, 0, n⟩], n + dests)
    else (r, l, n)

/-- What the next phase takes: the run with its items, and the tags they need. -/
def CollRun.plan (r : CollRun) (d : List Byte) (me : Nat) : CollRun × List CollItem × Nat :=
  let (r, grants, n) := match r.owedLimit d me with
    | some limit =>
      let items := ((collOthers d me).zipIdx).map (fun (e : Nat × Nat) => CollItem.mk 0 e.1 limit e.2)
      ({ r with granted := limit, sentGrants := r.sentGrants + items.length }, items, items.length)
    | none => (r, [], 0)
  let before := n
  let (r, contribs, n) := r.takeContribs d me (4096 + collP d) n []
  let mid := n
  let (r, results, n) := r.takeResults d me 4097 n []
  ({ r with sentContribs := r.sentContribs + (mid - before), sentResults := r.sentResults + (n - mid) }, grants ++ contribs ++ results, n)

/-- The PHASE BODY of R338. -/
def CollRun.body (r : CollRun) : List Byte :=
  natLe 8 r.sentContribs ++ natLe 8 r.sentResults ++ natLe 4 r.sentGrants ++ natLe 2 (r.inst.getD 0) ++ zeros 42

/-! ### Accumulation (R339, R344) -/

/-- The reduction of one element's contributions, rounded once to ELEM; the order of a floating-point sum is free (R198). -/
def reduceElem (d : List Byte) (free : Nat) (xs : List Nat) : Nat :=
  let el := collElem d
  if el = elINT32 then
    match xs with
    | [] => 0
    | x :: rest =>
      if collOp d = 0 then rest.foldl (fun a b => (a + b) % 2 ^ 32) x
      else rest.foldl (fun a b => (atomicNew (0x10 + (if collOp d = 1 then 2 else 3)) a b 0).getD 0) x
  else
    let vs := xs.map (elemValue el)
    if collOp d = 0 then encodeElem el (sumFree vs.length free vs)
    else match vs with
      | [] => 0
      | v :: rest => encodeElem el (rest.foldl (fun a b => if collOp d = 1 then a.minNum b else a.maxNum b) v)

/-- Whether every contribution of a chunk is in. -/
def chunkFull (d : List Byte) (k c : Nat) (slot : Tbl MElem) : Bool := decide (slot.length = collP d * chunkLen d k c)

/-- The rounded chunk: an accumulator group of 16 with a poisoned contribution is poisoned. -/
def reduceChunk (d : List Byte) (k c free : Nat) (slot : Tbl MElem) : List MElem :=
  let n := chunkLen d k c
  let p := collP d
  let at_ (i : Nat) : List MElem := (List.range p).filterMap (fun r => slot.get? (r * 1024 + i))
  let bad := (List.range (ceilDiv n 16)).map (fun g => (List.range 16).any (fun j => decide (16 * g + j < n) && (at_ (16 * g + j)).any (fun x => x.2)))
  (List.range n).map (fun i => (reduceElem d (Config.freeValue (free + i)) ((at_ i).map Prod.fst), bad.getD (i / 16) false))

/-- Marked elements of packed bytes. -/
def elemsOf (el : Nat) (bs : List MByte) : List MElem :=
  let k := elemBits el / 8
  (List.range (bs.length / max 1 k)).map (fun i =>
    let part := (bs.drop (k * i)).take k
    (leNat (plain part), part.any (fun b => b.2)))

/-- Packed bytes of marked elements; every byte carries the mark of its 64 B sector. -/
def bytesOfElems (el : Nat) (xs : List MElem) : List MByte :=
  let k := elemBits el / 8
  let per := 64 / max 1 k
  (xs.zipIdx).flatMap (fun e =>
    let sec := e.2 / per
    let bad := ((xs.drop (sec * per)).take per).any (fun x => x.2)
    (natLe k e.1.1).map (fun b => (b, bad)))

/-- Put contributions of a rank into a chunk's slot from a position on; a full chunk is reduced. -/
def State.collAccumulate (s : State) (tag rank c pos : Nat) (xs : List MElem) : State :=
  match s.collRun tag, s.workOf tag with
  | some r, some w =>
    let k := collRank w.desc s.devnum
    let slot := (xs.zipIdx).foldl (fun t e => Tbl.put t (rank * 1024 + pos + e.2) e.1) (r.slots.getD c [])
    if chunkFull w.desc k c slot then
      let red := reduceChunk w.desc k c s.free slot
      ({ s with free := s.free + red.length } : State).modColl tag (fun r => { r with slots := r.slots.del c, reduced := r.reduced.put c red })
    else s.modColl tag (fun r => { r with slots := r.slots.put c slot })
  | _, _ => s

/-- Bytes of traffic in MiB counters. -/
def State.collIn (s : State) (n : Nat) : State :=
  let t := s.coll.inBytes + n
  ({ s with coll.inBytes := t % 2 ^ 20 } : State).count F.COLL_BYTES_IN_MIB (t / 2 ^ 20)
def State.collOut (s : State) (n : Nat) : State :=
  let t := s.coll.outBytes + n
  ({ s with coll.outBytes := t % 2 ^ 20 } : State).count F.COLL_BYTES_OUT_MIB (t / 2 ^ 20)

/-! ### Receiving results (R337 step 5, R342, R343) -/

/-- Write elements of a result to DST, for a request or for the own copy. -/
def State.collStoreResult (s : State) (tag first : Nat) (xs : List MElem) (request : Option Packet) : State :=
  match s.workOf tag with
  | none => s
  | some w =>
    let d := w.desc
    let s := s.modColl tag (fun r => { r with recv := (xs.zipIdx).foldl (fun t e => Tbl.put t (first + e.2) e.1) r.recv,
                                               stores := r.stores + 1 })
    let bs := bytesOfElems (collElem d) xs
    let va := field d 16 8 + dstOff d (collRank d s.devnum) first
    match s.workDga w va bs.length with
    | none => s
    | some (dga, cls) =>
      let s := s.modColl tag (fun r => { r with poisoned := r.poisoned + popCount 64 (markMask dga bs) })
      (s.collOut bs.length).storeFor (.collStore tag request) w.ctx cls dga bs vcREQ (fun _ => 0)

/-- Note a mismatching shard (`COLL_MISMATCH`, R343). -/
def State.collNoteMismatch (s : State) (tag id k : Nat) : State :=
  let s := if s.fld F.COLL_COUNT_MISMATCH = 0 then (s.setF F.COLL_MISMATCH_COLL_ID id).setF F.COLL_MISMATCH_SHARD k else s
  (s.count F.COLL_COUNT_MISMATCH).modColl tag (fun r => { r with mismatched := if r.mismatched.contains k then r.mismatched else r.mismatched ++ [k] })

def State.collMismatchRecord (s : State) (w : Work) (k : Nat) : State :=
  s.logErr { unit := .coll, status := .digestMismatch, ctx := some w.ctx, partition := some w.partition, addr := collId w.desc, syndrome := k }

/-- Store the result record of a shard at DIGESTS; one with POISON is written as a poisoned sector (R343, R344). -/
def State.collStoreRecord (s : State) (w : Work) (k : Nat) (rec_ : List Byte) : State :=
  let base := field w.desc 56 8
  if base = 0 then s
  else match s.workDga w (base + (if collKind w.desc = 1 then 0 else 64 * k)) 64 with
    | none => s
    | some (dga, cls) =>
      let s := s.modColl w.tag (fun r => { r with stores := r.stores + 1 })
      s.storeFor (.collStore w.tag none) w.ctx cls dga (rec_.map (fun b => (b, bitAt (field rec_ 37 1) 1))) vcREQ (fun _ => 0)

/-- Check the shards whose result and record are whole (R342, R343). -/
def State.collCheckShards (s : State) (tag : Nat) : State :=
  match s.workOf tag with
  | none => s
  | some w =>
    let d := w.desc
    (List.range (collP d)).foldl (fun s k =>
      match s.collRun tag with
      | none => s
      | some r =>
        match r.recvRecords.get? k with
        | none => s
        | some (rec_, _) =>
          let first := shardFirst d k
          let xs := (List.range (shardLen d k)).filterMap (fun i => r.recv.get? (first + i))
          if r.checked.contains k ∨ xs.length < shardLen d k then s
          else
            let s := s.modColl tag (fun r => { r with checked := r.checked ++ [k] })
            let acc := digestOf d emptyAcc first xs
            let fl := field rec_ 37 1
            let untested := bitAt fl 0 || bitAt fl 1 || bitAt fl 3 || acc.poison
            let fails := !untested && !shardPasses d acc.d (field rec_ 8 8) (field rec_ 16 8) (field rec_ 24 8)
            let s := if untested then (s.count F.COLL_COUNT_UNCHECKED).modColl tag (fun r => { r with untested := r.untested + 1 }) else s
            let s := if fails && k != collRank d s.devnum then s.collMismatchRecord w k else s
            let bad := fails || bitAt fl 2
            let s := if bad then s.collNoteMismatch tag (collId d) k else s
            let rec_ := if bad then rec_.set 37 (BitVec.ofNat 8 (fl ||| flMISMATCH)) else rec_
            s.collStoreRecord w k rec_) s

/-! ### Sending what a phase took -/

/-- Send one packet of the phase. -/
def State.collSend (s : State) (tag : Nat) (p : Packet) : State :=
  let s := s.modWork tag (fun w => { w with targets := if w.targets.contains p.dst then w.targets else w.targets ++ [p.dst] })
  let s := s.modColl tag (fun r => { r with outstanding := r.outstanding + 1, lastHeard := s.now })
  s.issue p (.reduce tag)

/-- Send elements as packets of 256 B to a member under consecutive tags. -/
def State.collSendElems (s : State) (tag : Nat) (w : Work) (sub dst base first : Nat) (xs : List MElem) : State :=
  let per := 256 / max 1 (collBytes w.desc)
  (List.range (ceilDiv xs.length per)).foldl (fun s j =>
    let bs := bytesOfElems (collElem w.desc) ((xs.drop (per * j)).take per)
    s.collSend tag (collPacket w.desc (s.ctxKey w.ctx) w.ctx sub dst (base + j) (first + per * j) 0 (plain bs) (markMask 0 bs))) s

/-- Whether an item can be sent now, and the state once it has been. -/
def State.collItem (s : State) (w : Work) (r : CollRun) (it : CollItem) : Option State :=
  let d := w.desc
  let me := s.devnum
  let rank := collRank d me
  let tag := w.tag
  let key := s.ctxKey w.ctx
  if it.kind = 0 then
    some (s.collSend tag (collPacket d key w.ctx 3 (collMember d it.a) it.tag it.b 0 (padTo 64 (natLe 4 r.dcrc)) 0))
  else if it.kind = 1 then
    match r.source.get? (it.a * 2 ^ 32 + it.b) with
    | none => none
    | some xs =>
      let first := chunkFirst d it.a it.b
      let s := s.modColl tag (fun r => { r with source := r.source.del (it.a * 2 ^ 32 + it.b),
                                                accs := r.accs.put it.a (digestOf d (r.accs.getD it.a emptyAcc) first xs) })
      if it.a = rank then some (s.collAccumulate tag rank it.b 0 xs)
      else some (s.collSendElems tag w 0 (collMember d it.a) it.tag first xs)
  else if it.kind = 2 then
    if r.todo.any (fun x => x.kind == 1 && x.a == it.a) then none
    else
      let rec_ := contributorRecord d it.a (r.accs.getD it.a emptyAcc)
      if it.a = rank then some (s.modColl tag (fun r => { r with records := r.records.put rank (rec_, false) }))
      else some (s.collSend tag (collPacket d key w.ctx 2 (collMember d it.a) it.tag it.a 0 rec_ 0))
  else if it.kind = 3 then
    match r.reduced.get? it.a with
    | none => none
    | some xs =>
      let first := chunkFirst d rank it.a
      let dests := (collReceivers d rank).filter (· != me)
      let per := collPackets d xs.length
      let s := (dests.zipIdx).foldl (fun s e => s.collSendElems tag w 1 e.1 (it.tag + e.2 * per) first xs) s
      let s := s.modColl tag (fun r => { r with resLeft := r.resLeft.put it.a (dests.length * per) })
      let s := if (collReceivers d rank).contains me then s.collStoreResult tag first xs none else s
      some (s.collOut (dests.length * xs.length * collBytes d))
  else
    let n := shardChunks d rank
    if !((List.range n).all (fun c => (r.reduced.get? c).isSome)) ∨ r.records.length < collP d ∨ r.todo.any (fun x => x.kind == 3) then none
    else
      let xs := (List.range n).flatMap (fun c => r.reduced.getD c [])
      let rec_ := resultRecord d rank (digestOf d emptyAcc (shardFirst d rank) xs) (r.records.vals.map Prod.fst)
      let fl := field rec_ 37 1
      let s := if bitAt fl 2 then s.collMismatchRecord w rank else s
      let dests := (collReceivers d rank).filter (· != me)
      let s := (dests.zipIdx).foldl (fun s e => s.collSend tag (collPacket d key w.ctx 2 e.1 (it.tag + e.2) rank 0 rec_ 0)) s
      let s := s.modColl tag (fun r => { r with
                 recvRecords := if (collReceivers d rank).contains me then r.recvRecords.put rank (rec_, false) else r.recvRecords })
      let s := if (collReceivers d rank).contains me then s
        else
          let s := if bitAt fl 2 then s.count F.COLL_COUNT_MISMATCH else s
          if bitAt fl 0 || bitAt fl 1 || bitAt fl 3 then s.count F.COLL_COUNT_UNCHECKED else s
      some s

/-- Chunks of the own shard whose results are all acknowledged free their slots, in order (R337 step 4). -/
def State.collFree (s : State) (tag : Nat) : Nat → State
  | 0 => s
  | fuel + 1 =>
    match s.collRun tag with
    | none => s
    | some r =>
      match r.resLeft.get? r.freed with
      | some 0 =>
        let s := match r.inst with | some i => s.setF (F.COLL_INST_DONE_CHUNKS.at i) (r.freed + 1) | none => s
        (s.modColl tag (fun r => { r with freed := r.freed + 1 })).collFree tag fuel
      | _ => s

/-- Send every item of the phase that is ready. -/
def State.collPump (s : State) (tag : Nat) : Nat → State
  | 0 => s
  | fuel + 1 =>
    match s.workOf tag, s.collRun tag with
    | some w, some r =>
      if w.stage ≠ .running then s
      else
        let step := r.todo.findSome? (fun it => (s.collItem w { r with todo := r.todo.filter (fun x => !(x == it)) } it).map (fun t => (it, t)))
        match step with
        | none => s
        | some (it, t) => (t.modColl tag (fun r => { r with todo := r.todo.filter (fun x => !(x == it)) })).collPump tag fuel
    | _, _ => s

/-- Whether the participant owes nothing more and every result shard it receives is written and checked (R337). -/
def CollRun.finished (r : CollRun) (d : List Byte) (me : Nat) : Bool :=
  let rank := collRank d me
  r.todo.isEmpty && r.outstanding == 0 && r.stores == 0
    && (List.range (collP d)).all (fun k => r.taken.getD k 0 == shardChunks d k)
    && r.resTaken == shardChunks d rank && (r.resDigestTaken || shardChunks d rank == 0)
    && (List.range (collP d)).all (fun k => !(collReceivers d k).contains me || shardChunks d k == 0 || r.checked.contains k)
    && r.opened

/-- The final outcome of a collective (R343, R344). -/
def State.collFinish (s : State) (w : Work) (r : CollRun) : State :=
  let s := s.collClose w.tag
  match r.mismatched.min? with
  | some k => s.outcome w.tag .digestMismatch (k + 2 ^ 32 * r.mismatched.length)
  | none => s.outcome w.tag .done (min r.poisoned (2 ^ 32 - 1) + 2 ^ 32 * min r.untested 0xFFFF)

/-- Commit the next phase with what can be taken, or end, or wait. -/
def State.collNext (s : State) (tag : Nat) : State :=
  match s.workOf tag, s.collRun tag with
  | some w, some r =>
    if w.stage ≠ .waiting then s
    else if r.finished w.desc s.devnum then s.collFinish w r
    else
      let body := r.body
      let (r', items, n) := r.plan w.desc s.devnum
      if items.isEmpty ∧ w.phase ≠ 0 then s
      else
        let s := (s.modColl tag (fun _ => r')).commitPhase tag n body
        match s.workOf tag with
        | some w => s.modColl tag (fun r => { r with todo := items.map (fun i => { i with tag := w.tagBase + i.tag }) })
        | none => s
  | _, _ => s

/-- A COLLECTIVE starts (R333, R345): its first phase is committed, or the ABORT kept for it ends it. -/
def State.collStart (s : State) (w : Work) : State :=
  let d := w.desc
  let key := s.ctxKey w.ctx
  let id := collId d
  match s.coll.aborts.find? (fun a => a.key == key && a.id == id) with
  | some a =>
    ((({ s with coll.aborts := s.coll.aborts.filter (fun x => !(x == a)) } : State).collNoteAbort id a.status).count F.COLL_COUNT_COMPLETED).outcome
      w.tag a.status 0
  | none =>
    let early := s.coll.early.filter (fun g => g.key == key && g.id == id)
    let r : CollRun := ⟨w.tag, key, id, collDcrc d, none, false, [], [], [], 0, 0, 0, false, [], [], [], [], [], [], [], [], [],
                        [], 0, 0, [], 0, 0, 0, 0, 0, s.now⟩
    let r := early.foldl (fun r g => { r with limits := r.limits.put (collRank d g.src) g.limit, granters := r.granters ++ [g.src] }) r
    let s : State := { s with coll.runs := s.coll.runs ++ [r], coll.early := s.coll.early.filter (fun g => !(g.key == key && g.id == id)) }
    if early.any (fun g => g.dcrc != r.dcrc) then s.collAbort w.tag .badDescriptor true
    else s.collOpen.collNext w.tag

/-- A phase of a COLLECTIVE is in effect: its source chunks are read and its packets go out. -/
def State.collPhase (s : State) (tag : Nat) : State :=
  match s.workOf tag, s.collRun tag with
  | some w, some r =>
    let d := w.desc
    let s := (r.todo.filter (fun i => i.kind == 1)).foldl (fun s i =>
      let n := chunkLen d i.a i.b * collBytes d
      match s.workDga w (field d 8 8 + chunkFirst d i.a i.b * collBytes d) n with
      | some (dga, cls) => s.loadFor (.collSource tag i.a i.b) w.ctx cls dga n vcREQ
      | none => s) s
    s.collPump tag (r.todo.length + 1)
  | _, _ => s

/-- The phase of a collective is over when nothing of it is owed; the next one is planned. -/
def State.collSettle (s : State) (tag : Nat) : State :=
  match s.collRun tag with
  | none => s
  | some r =>
    let s := s.collPump tag (r.todo.length + 1)
    let s := (s.collFree tag (r.resTaken + 1)).collCheckShards tag
    match s.workOf tag, s.collRun tag with
    | some w, some r =>
      let s := if w.stage = .running ∧ r.todo.isEmpty ∧ r.outstanding = 0 ∧ r.stores = 0 then s.phaseOver tag else s
      s.collNext tag
    | _, _ => s

/-- Source bytes of a chunk are in. -/
def State.collSourceDone (s : State) (tag k c : Nat) (data : List MByte) (st : Status) : State :=
  match s.workOf tag with
  | none => s
  | some w =>
    if st ≠ .done then s.collAbort tag st true
    else s.modColl tag (fun r => { r with source := r.source.put (k * 2 ^ 32 + c) (elemsOf (collElem w.desc) data) })

/-- A result write is answered; the reducer's RESULT is then acknowledged. -/
def State.collStored (s : State) (tag : Nat) (request : Option Packet) (st : Status) : State :=
  let s := s.modColl tag (fun r => { r with stores := r.stores - 1 })
  match request with
  | some p => s.finish p st
  | none => if st = .done then s else s.collAbort tag st true

/-- A packet of a collective is answered (R337, R345). -/
def State.collAnswered (s : State) (tag : Nat) (req : Packet) (st : Status) : State :=
  match s.workOf tag, s.collRun tag with
  | some w, some _ =>
    let s := s.modColl tag (fun r => { r with outstanding := r.outstanding - 1, lastHeard := s.now })
    if st ≠ .done then s.collAbort tag st (st = .timeout)
    else if req.aux % 8 = 1 then
      let c := (req.addr % 2 ^ 32 - shardFirst w.desc (collRank w.desc s.devnum)) / 1024
      s.modColl tag (fun r => { r with resLeft := r.resLeft.modify c (fun n => n - 1) })
    else s
  | _, _ => s

/-! ### Arriving REDUCE packets (R336, R337) -/

/-- The elements a CONTRIB or RESULT packet carries. -/
def packetElems (el : Nat) (p : Packet) : List MElem :=
  elemsOf el ((((p.payload.take (p.size + 1)).zipIdx).map (fun b => (b.1, bitAt p.poison (b.2 / 64)))))

/-- Serve a packet for a collective that runs here; one that is not held is answered `STATE_CONFLICT` (R345). -/
def State.collServe (s : State) (p : Packet) (f : State → CollRun → Work → State) : State :=
  s.dedup p (fun s =>
    match s.collFor p.pkey (p.addr / 2 ^ 32) with
    | some r =>
      match s.workOf r.tag with
      | some w => f (s.modColl r.tag (fun r => { r with lastHeard := s.now })) r w
      | none => s.finish p .stateConflict
    | none => s.finish p .stateConflict)

/-- CONTRIB (R337 step 4). -/
def State.contribIn (s : State) (p : Packet) : State :=
  s.collServe p (fun s r w =>
    if !r.opened then s.finish p .stateConflict
    else
      let d := w.desc
      let k := collRank d s.devnum
      let i := p.addr % 2 ^ 32 - shardFirst d k
      let xs := packetElems (collElem d) p
      ((s.collIn (p.size + 1)).collAccumulate r.tag (collRank d p.src) (i / 1024) (i % 1024) xs).finish p .done)

/-- RESULT (R337 step 5): answered once it is written. -/
def State.resultIn (s : State) (p : Packet) : State :=
  s.collServe p (fun s r w => s.collStoreResult r.tag (p.addr % 2 ^ 32) (packetElems (collElem w.desc) p) (some p))

/-- DIGEST: a contributor's record, or the result record of a shard (R341). -/
def State.digestIn (s : State) (p : Packet) : State :=
  s.collServe p (fun s r w =>
    let rec_ := p.payload.take 64
    let s := if bitAt (field rec_ 37 1) 4 then
        s.modColl r.tag (fun r => { r with recvRecords := r.recvRecords.put (p.addr % 2 ^ 32) (rec_, false) })
      else s.modColl r.tag (fun r => { r with records := r.records.put (collRank w.desc p.src) (rec_, false) })
    s.finish p .done)

/-- GRANT (R337): the chunk limit of the sender's shard; the first one carries its DCRC, which is compared. -/
def State.grantIn (s : State) (p : Packet) : State :=
  s.dedup p (fun s =>
    let id := p.addr / 2 ^ 32
    let limit := p.addr % 2 ^ 32
    let dcrc := field p.payload 0 4
    match s.collFor p.pkey id with
    | some r =>
      match s.workOf r.tag with
      | some w =>
        let s := s.finish p .done
        if !r.granters.contains p.src ∧ dcrc ≠ r.dcrc then s.collAbort r.tag .badDescriptor true
        else s.modColl r.tag (fun r => { r with limits := r.limits.put (collRank w.desc p.src) limit,
                                                granters := if r.granters.contains p.src then r.granters else r.granters ++ [p.src],
                                                lastHeard := s.now })
      | none => s.finish p .stateConflict
    | none =>
      let kept := s.coll.early.filter (fun g => !(g.key == p.pkey && g.id == id && g.src == p.src))
      ({ s with coll.early := kept ++ [⟨p.pkey, id, p.src, limit, dcrc⟩] } : State).finish p .done)

/-- ABORT (R345): the collective ends with its status, or the status is kept. -/
def State.collAbortIn (s : State) (p : Packet) : State :=
  s.dedup p (fun s =>
    let id := p.addr / 2 ^ 32
    let st := Status.ofCode (bitsOf p.aux 8 8)
    let s := s.finish p .done
    match s.collFor p.pkey id with
    | some r => s.collEnd r.tag st
    | none => { s with coll.aborts := s.coll.aborts ++ [⟨p.pkey, id, st, s.now⟩] })

/-- ABORT_STATUS_EXPIRY (R345). -/
def State.abortExpiry (s : State) (key id : Nat) : State :=
  match s.coll.aborts.find? (fun a => a.key == key && a.id == id) with
  | some a =>
    let s := s.reach (a.at_ + 2 * s.fld F.COLL_TMO_MS * nsPerMs)
    { s with coll.aborts := s.coll.aborts.filter (fun x => !(x == a)) }
  | none => s

/-- COLLECTIVE_TIMEOUT (R345). -/
def State.collTimeout (s : State) (key id : Nat) : State :=
  match s.collFor key id with
  | some r => (s.reach (r.lastHeard + s.fld F.COLL_TMO_MS * nsPerMs)).collAbort r.tag .timeout true
  | none => s

/-- A member becomes FAILED: the collectives it takes part in end (R345). -/
def State.collMemberLost (s : State) (m : Nat) : State :=
  s.coll.runs.foldl (fun s r =>
    match s.workOf r.tag with
    | some w => if (collMembers w.desc).contains m then s.collAbort r.tag .stateConflict r.opened else s
    | none => s) s

/-- L3 of island 17 (R345): every collective of this member ends. -/
def State.collReset (s : State) : State :=
  let s := s.coll.runs.foldl (fun s r => s.collAbort r.tag .stateConflict true) s
  { s with coll.early := [], coll.aborts := [] }

end Sys2Proof.Machine
end

