-- ==== Sys2Proof/Machine/Currant.lean ====
section
/-! DEFINITION. Currant embedding pools: tables and their versions, coalescing, owners' partials and pooled output
(spec/12 R347 to R356). -/

namespace Sys2Proof.Machine

/-! ### Tables (R347, R348) -/

def State.tblPartition (s : State) (t : Nat) : Nat := s.fld F.EMB_TBL_CFG_PARTITION t
def State.tblDim (s : State) (t : Nat) : Nat := s.fld F.EMB_TBL_CFG_DIM t
def State.tblRows (s : State) (t : Nat) : Nat := s.fld F.EMB_TBL_ROWS_VALUE t
def State.tblRps (s : State) (t : Nat) : Nat := s.fld F.EMB_TBL_RPS_VALUE t
def State.tblOwners (s : State) (t : Nat) : List Nat := bitsSet 64 (s.fld F.EMB_TBL_OWNERS_MEMBERS t)
def State.tblUsers (s : State) (t : Nat) : List Nat := bitsSet 64 (s.fld F.EMB_TBL_USERS_MEMBERS t)
def State.tblInt4 (s : State) (t : Nat) : Bool := s.fld F.EMB_TBL_CFG_CODE t == 1

/-- Bytes of a row, and bytes of a row before the next begins (R347). -/
def State.tblRowLen (s : State) (t : Nat) : Nat := 4 + (if s.tblInt4 t then ceilDiv (s.tblDim t) 2 else s.tblDim t)
def State.tblStride (s : State) (t : Nat) : Nat := 16 * ceilDiv (s.tblRowLen t) 16

/-- The rank of an owner, and the owner of a row. -/
def State.ownerRank (s : State) (t d : Nat) : Nat := ((s.tblOwners t).filter (fun m => decide (m < d))).length
def State.rowOwner (s : State) (t r : Nat) : Nat := (s.tblOwners t).getD (r / max 1 (s.tblRps t)) 0

/-- Rows of the shard of a rank. -/
def State.shardRows (s : State) (t rank : Nat) : Nat := min ((rank + 1) * s.tblRps t) (s.tblRows t) - rank * s.tblRps t

/-- The rules of R348. -/
def State.tableOk (s : State) (t : Nat) : Bool :=
  let owners := s.tblOwners t
  let users := s.tblUsers t
  decide (16 ≤ s.tblDim t ∧ s.tblDim t ≤ 1024 ∧ s.tblDim t % 16 = 0 ∧ 1 ≤ s.tblRows t ∧ s.tblRows t ≤ 2 ^ 40
    ∧ s.tblRows t ≤ s.tblRps t * owners.length ∧ s.fld F.EMB_TBL_DEFAULT_VALUE t < s.tblRows t)
    && owners.all (fun d => users.contains d) && users.contains s.devnum

/-- The outcome of an EMB_CMD of a seat. -/
def State.embOutcome (s : State) (x : SeatId) (st : Status) (slot : Nat) : State :=
  ((s.setF F.EMB_STATUS_STATUS st.code x.idx).setF F.EMB_STATUS_SLOT slot x.idx).bumpSeq F.EMB_STATUS_SEQ x.idx

def tbUNDEFINED := 0
def tbDEFINED := 1
def tbACTIVE := 2

/-- TABLE_DEFINE (R348). -/
def State.tableDefine (s : State) (x : SeatId) : State :=
  let t := s.fld F.EMB_TBL_SEL_TABLE x.idx
  if s.fld F.EMB_TBL_CFG_STATE t ≠ tbUNDEFINED then s.embOutcome x .stateConflict 0
  else if !s.tableOk t then s.embOutcome x .badDescriptor 0
  else (s.setF F.EMB_TBL_CFG_STATE tbDEFINED t).embOutcome x .done 0

/-- TABLE_DELETE: only a table with no slot in use (R349). -/
def State.tableDelete (s : State) (x : SeatId) : State :=
  let t := s.fld F.EMB_TBL_SEL_TABLE x.idx
  if s.fld F.EMB_TBL_CFG_STATE t ≠ tbDEFINED then s.embOutcome x .stateConflict 0
  else (s.setF F.EMB_TBL_CFG_STATE tbUNDEFINED t).embOutcome x .done 0

/-! ### Version slots (R349, R350) -/

def vFREE := 0
def vINSTALLED := 1
def vCURRENT := 2
def vRETIRING := 3

def State.slotState (s : State) (t n : Nat) : Nat := s.fld (F.EMB_VER_STATE.at n) t
def State.slotVersion (s : State) (t n : Nat) : Nat := s.fld (F.EMB_VER_VERSION.at n) t
def State.slotPins (s : State) (t n : Nat) : Nat := s.fld (F.EMB_VER_PINS.at n) t

/-- The slots of a table in a state. -/
def State.slotsIn (s : State) (t st : Nat) : List Nat := (List.range 4).filter (fun n => s.slotState t n == st)

/-- The slot in use that holds a version. -/
def State.slotOf (s : State) (t v : Nat) : Option Nat :=
  (List.range 4).find? (fun n => s.slotState t n != vFREE && s.slotVersion t n == v)

/-- DEFINED or ACTIVE, as any slot is in use. -/
def State.refreshTblState (s : State) (t : Nat) : State :=
  s.setF F.EMB_TBL_CFG_STATE (if (s.slotsIn t vFREE).length = 4 then tbDEFINED else tbACTIVE) t

/-- A slot becomes FREE and its reference is released. -/
def State.freeSlot (s : State) (t n : Nat) : State :=
  let s := match s.emb.shards.get? (t * 4 + n) with
    | some sh => s.dropRef sh.ctx sh.va
    | none => s
  let s : State := { s with emb.shards := s.emb.shards.del (t * 4 + n) }
  let s := (s.setF (F.EMB_VER_STATE.at n) vFREE t).setF (F.EMB_VER_VERSION.at n) 0 t
  (s.setF (F.EMB_VER_DRAINED_MEMBERS.at n) 0 t).refreshTblState t

/-- A RETIRING slot whose pins are 0 reports VER_DRAINED once, and is FREE once every user that is not FAILED has. -/
def State.sweepSlot (s : State) (t n : Nat) : State :=
  if s.slotState t n ≠ vRETIRING ∨ s.slotPins t n ≠ 0 then s
  else
    let v := s.slotVersion t n
    let s := if s.fldBit (F.EMB_VER_DRAINED_MEMBERS.at n) s.devnum t then s
      else
        let s := s.setFldBit (F.EMB_VER_DRAINED_MEMBERS.at n) s.devnum true t
        ((s.tblUsers t).filter (fun m => !s.isSelf m && s.memberState m != .failed)).foldl (fun s m =>
          s.issue { op := opREDUCE, vc := vcREQ, tagged := true, pkey := s.keyOf (s.tblPartition t), dst := m,
                    addr := v * 2 ^ 32, aux := 7 + 256 * t } .none) s
    if (s.tblUsers t).all (fun m => s.memberState m == .failed || s.fldBit (F.EMB_VER_DRAINED_MEMBERS.at n) m t) then s.freeSlot t n
    else s

def State.sweepSlots (s : State) : State :=
  (List.range 256).foldl (fun s t =>
    if s.fld F.EMB_TBL_CFG_STATE t = tbACTIVE then (List.range 4).foldl (fun s n => s.sweepSlot t n) s else s) s

/-- The refusal of an INSTALL, or the shard translated: none where this member holds no rows.  Rows are read by loads, which window 2 does not take
(R38). -/
def State.installCheck (s : State) (x : SeatId) (t : Nat) : Except Status (Option (Nat × Xlated)) :=
  let v := s.fld F.EMB_VER_STAGE_VERSION x.idx
  let c := s.fld F.EMB_VER_STAGE_CTX x.idx
  if s.fld F.EMB_TBL_CFG_STATE t = tbUNDEFINED then .error .stateConflict
  else if v = 0 then .error .badDescriptor
  else if (List.range 4).any (fun n => s.slotState t n != vFREE && decide (v ≤ s.slotVersion t n)) then .error .stateConflict
  else if (s.slotsIn t vFREE).isEmpty then .error .busy
  else if s.sliceOfCtx c = none ∨ s.partOfCtx c ≠ s.tblPartition t then .error .access
  else
    let rows := if (s.tblOwners t).contains s.devnum then s.shardRows t (s.ownerRank t s.devnum) else 0
    if rows = 0 then .ok none
    else match s.translate c (s.fld F.EMB_VER_VA_VA x.idx * 64) (rows * s.tblStride t) rREAD with
      | .error e => .error e.1
      | .ok xl => if dgaWin xl.dga = 2 then .error .access else .ok (some (c, xl))

/-- VERSION_INSTALL (R349). -/
def State.versionInstall (s : State) (x : SeatId) : State :=
  let t := s.fld F.EMB_TBL_SEL_TABLE x.idx
  match s.installCheck x t with
  | .error st => s.embOutcome x st 0
  | .ok shard =>
    let n := (s.slotsIn t vFREE).headD 0
    let s := match shard with
      | some (c, xl) =>
        let s : State := { s with emb.shards := s.emb.shards.put (t * 4 + n) ⟨xl.dga, xl.ext.cls, c, xl.ext.va⟩ }
        s.takeRef c xl.ext.va
      | none => s
    let s := (s.setF (F.EMB_VER_VERSION.at n) (s.fld F.EMB_VER_STAGE_VERSION x.idx) t).setF (F.EMB_VER_STATE.at n) vINSTALLED t
    (s.refreshTblState t).embOutcome x .done n

/-- VERSION_COMMIT (R349, R350): the version becomes CURRENT and the former one RETIRING, in one step. -/
def State.versionCommit (s : State) (x : SeatId) : State :=
  let t := s.fld F.EMB_TBL_SEL_TABLE x.idx
  let v := s.fld F.EMB_VER_STAGE_VERSION x.idx
  if v = 0 then s.embOutcome x .badDescriptor 0
  else match s.slotOf t v with
    | none => s.embOutcome x .stateConflict 0
    | some n =>
      let cur := (s.slotsIn t vCURRENT).head?
      let later := match cur with | some c => decide (s.slotVersion t c < v) | none => true
      if s.slotState t n ≠ vINSTALLED ∨ !later then s.embOutcome x .stateConflict n
      else
        let s := match cur with | some c => s.setF (F.EMB_VER_STATE.at c) vRETIRING t | none => s
        ((s.setF (F.EMB_VER_STATE.at n) vCURRENT t).embOutcome x .done n).sweepSlots

/-- VERSION_DISCARD (R349). -/
def State.versionDiscard (s : State) (x : SeatId) : State :=
  let t := s.fld F.EMB_TBL_SEL_TABLE x.idx
  let v := s.fld F.EMB_VER_STAGE_VERSION x.idx
  if v = 0 then s.embOutcome x .badDescriptor 0
  else match s.slotOf t v with
    | none => s.embOutcome x .stateConflict 0
    | some n =>
      if s.slotState t n ≠ vINSTALLED then s.embOutcome x .stateConflict n
      else (s.freeSlot t n).embOutcome x .done n

/-- A reserved EMB_CMD operation. -/
def State.embReserved (s : State) (x : SeatId) : State := s.embOutcome x .badDescriptor 0

/-- VER_DRAINED of another member (R349). -/
def State.verDrained (s : State) (p : Packet) : State :=
  s.dedup p (fun s =>
    let t := bitsOf p.aux 8 8
    if p.pkey ≠ s.keyOf (s.tblPartition t) then (s.keyError portCurrant p.pkey).finish p .keyMismatch
    else
      let s := match s.slotOf t (p.addr / 2 ^ 32) with
        | some n => s.setFldBit (F.EMB_VER_DRAINED_MEMBERS.at n) p.src true t
        | none => s
      (s.finish p .done).sweepSlots)

/-! ### The descriptor (R351, R352) -/

def poolTable (d : List Byte) : Nat := field d 4 1
def poolMode (d : List Byte) : Nat := field d 5 1
def poolElem (d : List Byte) : Nat := field d 6 1
def poolBags (d : List Byte) : Nat := field d 32 4
def poolIndices (d : List Byte) : Nat := field d 36 4

/-- Bytes of one pooled vector in OUT. -/
def State.poolOutBytes (s : State) (d : List Byte) : Nat := s.tblDim (poolTable d) * (elemBits (poolElem d) / 8)

/-- The checks of R352. -/
def State.checkPool (s : State) (c : Nat) (d : List Byte) : DescCheck :=
  let t := poolTable d
  let ni := 8 * poolIndices d
  let no := 4 * (poolBags d + 1)
  let nout := poolBags d * s.poolOutBytes d
  match firstFault [
      faultIf (poolMode d ≥ 3) .badDescriptor 5, faultIf (!(poolElem d == elBF16 || poolElem d == elFP32)) .badDescriptor 6,
      faultIf (field d 7 1 ≠ 0) .badDescriptor 7, faultIf (field d 8 8 % 8 ≠ 0) .badDescriptor 8,
      faultIf (field d 16 8 % 4 ≠ 0) .badDescriptor 16, faultIf (field d 24 8 % 64 ≠ 0) .badDescriptor 24,
      faultIf (poolBags d == 0) .badDescriptor 32, faultIf (poolIndices d == 0) .badDescriptor 36,
      faultIf (!allZero (slice d 40 24)) .badDescriptor 40] with
  | some f => some f
  | none =>
    match firstFault [
        faultIf ((s.slotsIn t vCURRENT).isEmpty || s.tblPartition t != s.partOfCtx c) .stateConflict 4,
        s.rangeStateFault c (field d 8 8) ni rREAD 8, s.rangeStateFault c (field d 16 8) no rREAD 16,
        s.rangeStateFault c (field d 24 8) nout rWRITE 24] with
    | some f => some f
    | none => boundsLast [s.rangeAllFault c (field d 8 8) ni rREAD 8, s.rangeAllFault c (field d 16 8) no rREAD 16,
        s.rangeAllFault c (field d 24 8) nout rWRITE 24]

/-! ### Rows and partials (R347, R354) -/

/-- The FP32 values of a row's elements. -/
def rowValues (dim : Nat) (int4 : Bool) (bs : List Byte) : List Fl :=
  let scale := fp16.decode (field bs 0 2)
  let offset := fp16.decode (field bs 2 2)
  (List.range dim).map (fun j =>
    let v := if int4 then toSigned 4 (field bs (4 + j / 2) 1 / 16 ^ (j % 2)) else toSigned 8 (field bs (4 + j) 1)
    ((scale.mul (.fin (decide (v < 0)) v.natAbs 0)).add offset).r32)

/-- The partial of a bag over its rows with their counts: COUNT x row added in FP32, in an order the spec leaves open (R198), or the
elementwise maximum. -/
def poolPartial (mode dim free : Nat) (rows : List (List Fl × Nat)) : List Nat :=
  (List.range dim).map (fun j =>
    let xs := rows.map (fun r => (r.1.getD j .nan, r.2))
    if mode = 2 then
      match xs with
      | [] => 0
      | x :: rest => fp32.encode (rest.foldl (fun a y => a.maxNum y.1) x.1)
    else
      let terms := xs.map (fun x => (x.1.mul (.fin false x.2 0)).r32)
      fp32.encode (sumFree terms.length (Config.freeValue (free + j)) terms))

/-- The distinct rows of a phase, ascending. -/
def distinctRows (ps : List PoolPair) : List Nat :=
  (ps.foldl (fun (t : Tbl Unit) p => t.put p.row ()) []).keys

/-- The bags of a phase, ascending. -/
def distinctBags (ps : List PoolPair) : List Nat :=
  (ps.foldl (fun (t : Tbl Unit) p => t.put p.bag ()) []).keys

def State.poolServeOf (s : State) (src phase : Nat) : Option PoolServe :=
  s.emb.serves.find? (fun v => v.src == src && v.phase == phase)

/-- Every packet of a phase is served: each distinct row is fetched once, through the recorded DGA. -/
def State.poolFetch (s : State) (v : PoolServe) : State :=
  let rows := distinctRows v.pairs
  let s : State := { s with emb.serves := s.emb.serves.map (fun x =>
    if x.src == v.src && x.phase == v.phase then { x with wanted := rows } else x) }
  match s.emb.shards.get? (v.table * 4 + v.slot) with
  | none => s
  | some sh =>
    let first := s.ownerRank v.table s.devnum * s.tblRps v.table
    let stride := s.tblStride v.table
    let (id, s) := s.newXfer (.poolRows v.src v.phase) 0
    (rows.zipIdx).foldl (fun s r => s.addLoad id (r.2 * stride) sh.ctx sh.cls (sh.dga + (r.1 - first) * stride) stride vcREQ)
      (s.count F.EMB_FETCH_ROWS rows.length)

/-- The pairs a POOL_REQ carries. -/
def packetPairs (p : Packet) : List PoolPair :=
  (List.range (min 15 (field p.payload 12 1))).map (fun i =>
    ⟨field p.payload (16 + 16 * i + 8) 4, field p.payload (16 + 16 * i) 8, field p.payload (16 + 16 * i + 12) 4⟩)

/-- POOL_REQ at the owner (R354). -/
def State.poolReq (s : State) (p : Packet) : State :=
  s.dedup p (fun s =>
    let t := bitsOf p.aux 8 8
    let phase := field p.payload 4 4
    if p.pkey ≠ s.keyOf (s.tblPartition t) then (s.keyError portCurrant p.pkey).finish p .keyMismatch
    else match s.slotOf t (field p.payload 0 4) with
      | none => s.finish p .stateConflict
      | some n =>
        let v := (s.poolServeOf p.src phase).getD ⟨p.src, phase, t, n, field p.payload 13 1, field p.payload 8 4, 0, [], []⟩
        let v := { v with seen := v.seen + 1, pairs := v.pairs ++ packetPairs p }
        let s : State := { s with emb.serves := s.emb.serves.filter (fun x => !(x.src == p.src && x.phase == phase)) ++ [v] }
        let s := s.finish p .done
        if v.seen < v.reqs then s else s.poolFetch v)

/-- The rows of a served phase are in: the partials of every bag it touched go back as POOL_PART packets. -/
def State.poolRowsDone (s : State) (src phase : Nat) (x : Xfer) : State :=
  match s.poolServeOf src phase with
  | none => s
  | some v =>
    let s : State := { s with emb.serves := s.emb.serves.filter (fun y => !(y == v)) }
    let dim := s.tblDim v.table
    let stride := s.tblStride v.table
    let data := x.data
    let failed := x.status != .done
    let rows := (v.wanted.zipIdx).map (fun r =>
      let bs := (data.drop (r.2 * stride)).take (s.tblRowLen v.table)
      (r.1, rowValues dim (s.tblInt4 v.table) (plain bs), failed || bs.any (fun b => b.2)))
    (distinctBags v.pairs).foldl (fun s bag =>
      let mine := (v.pairs.filter (fun q => q.bag == bag)).filterMap (fun q => (rows.find? (fun r => r.1 == q.row)).map (fun r => (r.2.1, q.count, r.2.2)))
      let bad := mine.any (fun r => r.2.2)
      let vals := poolPartial v.mode dim s.free (mine.map (fun r => (r.1, r.2.1)))
      let s : State := { s with free := s.free + dim }
      (List.range (ceilDiv dim 64)).foldl (fun s j =>
        let part := (vals.drop (64 * j)).take 64
        let bytes := part.flatMap (natLe 4)
        s.issue { op := opREDUCE, vc := vcREQ, tagged := true, pkey := s.keyOf (s.tblPartition v.table), dst := src,
                  addr := phase * 2 ^ 32 + (bag * dim + 64 * j) % 2 ^ 32, aux := 6, size := bytes.length - 1,
                  sectors := ceilDiv bytes.length 64, payload := padTo (64 * ceilDiv bytes.length 64) bytes,
                  poison := if bad then 2 ^ ceilDiv bytes.length 64 - 1 else 0 } .none) s) s

/-! ### The hash stage (R353, R356) -/

/-- How an index is resolved: its row, or none when it is dropped; and whether it was missing or invalid. -/
def State.resolveIndex (s : State) (t i : Nat) : Option Nat × Bool :=
  if i < s.tblRows t then (some i, false)
  else if s.dom.members ≤ 16 then (none, true)
  else (some (s.fld F.EMB_TBL_DEFAULT_VALUE t), true)

/-- Coalesce a bag's rows into pairs in runs of at most 4,194,304 distinct rows. -/
def coalesce (bag : Nat) : List Nat → Tbl Nat → List PoolPair
  | [], acc => acc.map (fun e => ⟨bag, e.1, e.2⟩)
  | r :: rs, acc =>
    match acc.get? r with
    | some n => coalesce bag rs (acc.put r (n + 1))
    | none =>
      if acc.length = 4194304 then acc.map (fun e => ⟨bag, e.1, e.2⟩) ++ coalesce bag rs [(r, 1)]
      else coalesce bag rs (acc.put r 1)

/-- What the hash stage makes of one bag: its first failure, or its rows. -/
structure BagRead where
  fault : Option Status
  rows : List Nat
  skipped : Nat
  deriving DecidableEq, Repr

/-- Read the bag `b`: offsets b and b + 1 are checked as they are read, then its indices (R352, R356). -/
def State.readBag (s : State) (t nidx b : Nat) (last : Bool) (offs idx : List MByte) : BagRead :=
  let o (k : Nat) := leNat (plain ((offs.drop (4 * k)).take 4))
  let badByte (l : List MByte) := l.any (fun m => m.2)
  let lo := o b
  let hi := o (b + 1)
  let mine := (idx.drop (8 * lo)).take (8 * (hi - lo))
  if badByte ((offs.drop (4 * b)).take 8) then ⟨some .poison, [], 0⟩
  else if (b = 0 ∧ lo ≠ 0) ∨ hi < lo ∨ hi > nidx ∨ (last ∧ hi ≠ nidx) then ⟨some .badDescriptor, [], 0⟩
  else if badByte mine then ⟨some .poison, [], 0⟩
  else
    let rs := (List.range (hi - lo)).map (fun k => s.resolveIndex t (leNat (plain ((mine.drop (8 * k)).take 8))))
    ⟨none, rs.filterMap Prod.fst, (rs.filter (fun r => r.2)).length⟩

/-- What the hash stage has found so far: pairs, pooled counts by bag, indices skipped, occurrences, the bags of closed segments and
the pairs of the open one, and the failure that ends the batch. -/
structure HashAcc where
  pairs : List PoolPair
  counts : Tbl Nat
  skipped : Nat
  pooled : Nat
  closed : Nat
  openPairs : Nat
  ending : Option (Status × Nat)
  deriving DecidableEq, Repr

/-- Read every bag in order until one fails; a segment closes before the bag that would take it beyond 4,194,304 pairs. -/
def State.hashBags (s : State) (t nidx bags : Nat) (offs idx : List MByte) : HashAcc :=
  (List.range bags).foldl (fun (h : HashAcc) b =>
    if h.ending.isSome then h
    else
      let r := s.readBag t nidx b (decide (b + 1 = bags)) offs idx
      match r.fault with
      | some st => { h with ending := some (st, b) }
      | none =>
        let ps := coalesce b r.rows []
        let cut := decide (h.openPairs + ps.length > 4194304)
        { h with pairs := h.pairs ++ ps, counts := h.counts.put b r.rows.length, skipped := h.skipped + r.skipped,
                 pooled := h.pooled + r.rows.length, closed := if cut then b else h.closed,
                 openPairs := if cut then ps.length else h.openPairs + ps.length })
    ⟨[], [], 0, 0, 0, 0, none⟩

/-! ### The origin (R350, R353 to R356) -/

def State.poolRun (s : State) (tag : Nat) : Option PoolRun := s.emb.runs.find? (fun r => r.tag == tag)
def State.modPool (s : State) (tag : Nat) (f : PoolRun → PoolRun) : State :=
  { s with emb.runs := s.emb.runs.map (fun r => if r.tag == tag then f r else r) }

/-- A counter kept in units of 2^10: the whole units, and what is left over. -/
def kiloCount (rest n : Nat) : Nat × Nat := ((rest + n) / 1024, (rest + n) % 1024)

/-- The batch ends. -/
def State.poolEnd (s : State) (tag : Nat) (st : Status) (result : Nat) : State :=
  (s.count F.EMB_COUNT_BATCHES).outcome tag st result

/-- Bags whose output fits one phase of 2,048 stores. -/
def State.bagsPerPhase (s : State) (d : List Byte) : Nat := 2048 / max 1 (s.poolOutBytes d / 256 + 2)

/-- Commit the next phase: at most 2,048 POOL_REQ packets and 2,048 stores (R355). -/
def State.poolCommit (s : State) (w : Work) (r : PoolRun) : State :=
  let bags := min (s.bagsPerPhase w.desc) (r.total - r.firstBag)
  let id := s.emb.nextPhase
  let s : State := { s with emb.nextPhase := (id + 1) % 2 ^ 32 }
  let s := s.modPool w.tag (fun r => { r with phaseId := id, bags := bags, answers := 0, expected := [], stores := 0, storing := false })
  s.commitPhase w.tag 4096 (natLe 4 (s.slotVersion r.table r.slot) ++ natLe 4 id ++ natLe 4 r.firstBag ++ natLe 4 bags ++ zeros 48)

/-- EMBED_POOL starts (R350): admission pins the version that is CURRENT, and its first phase is committed. -/
def State.poolStart (s : State) (w : Work) : State :=
  let t := poolTable w.desc
  match (s.slotsIn t vCURRENT).head? with
  | none => s.poolEnd w.tag .stateConflict 0
  | some n =>
    let s := s.addF (F.EMB_VER_PINS.at n) 1 t
    let r : PoolRun := ⟨w.tag, t, n, 0, false, [], [], [], poolBags w.desc, none, 0, 0, 0, [], 0, false, none, 0, 0⟩
    ({ s with emb.runs := s.emb.runs ++ [r] } : State).poolCommit w r

/-- Pairs a phase takes: of its bags, as many as surely fit 2,048 packets of 15 for at most 64 owners. -/
def phasePairLimit := (2048 - 64) * 15

/-- Send the POOL_REQ packets of the phase, ordered by owner and then row. -/
def State.poolSend (s : State) (w : Work) (r : PoolRun) : State :=
  let t := r.table
  let inPhase := r.pairs.filter (fun q => decide (q.bag < r.firstBag + r.bags))
  let taken := inPhase.take phasePairLimit
  let rest := inPhase.drop phasePairLimit ++ r.pairs.filter (fun q => decide (r.firstBag + r.bags ≤ q.bag))
  let s := s.modPool w.tag (fun r => { r with pairs := rest })
  (s.tblOwners t).foldl (fun s d =>
    let mine := sortBy (fun (a b : PoolPair) => decide (a.row < b.row)) (taken.filter (fun q => s.rowOwner t q.row == d))
    let n := ceilDiv mine.length 15
    let bags := (distinctBags mine).length
    if n = 0 then s
    else if s.memberState d ≠ .active then s.modPool w.tag (fun r => { r with failed := r.failed.or (some .stateConflict) })
    else
      let s := s.modPool w.tag (fun r => { r with answers := r.answers + n, expected := r.expected.put d (bags * s.tblDim t) })
      (List.range n).foldl (fun s j =>
        let part := (mine.drop (15 * j)).take 15
        let bytes := natLe 4 (s.slotVersion t r.slot) ++ natLe 4 r.phaseId ++ natLe 4 n ++ natLe 1 part.length ++ natLe 1 (poolMode w.desc)
          ++ zeros 2 ++ part.flatMap (fun q => natLe 8 q.row ++ natLe 4 (q.bag - r.firstBag) ++ natLe 4 q.count)
        let (tag, s) := s.phaseTag w.tag d
        s.issue { op := opREDUCE, vc := vcREQ, tagged := true, pkey := s.ctxKey w.ctx, dst := d, tag := tag, ctx := w.ctx, aux := 5 + 256 * t,
                  size := bytes.length - 1, sectors := ceilDiv bytes.length 64,
                  payload := padTo (64 * ceilDiv bytes.length 64) bytes } (.reduce w.tag)) s) s

/-- A phase of EMBED_POOL is in effect: the first reads its indices, a later one sends its pairs. -/
def State.poolPhase (s : State) (tag : Nat) : State :=
  match s.workOf tag, s.poolRun tag with
  | some w, some r =>
    if r.loaded then s.poolSend w r
    else
      let no := 4 * (poolBags w.desc + 1)
      let ni := 8 * poolIndices w.desc
      match s.workDga w (field w.desc 16 8) no, s.workDga w (field w.desc 8 8) ni with
      | some (od, oc), some (xd, xc) =>
        let (id, s) := s.newXfer (.poolIndex tag) 0
        (s.addLoad id 0 w.ctx oc od no vcREQ).addLoad id (2 ^ 40) w.ctx xc xd ni vcREQ
      | _, _ => s.poolEnd tag .noXlate 0
  | _, _ => s

/-- Offsets and indices are in: the hash stage resolves and coalesces them (R353). -/
def State.poolIndexDone (s : State) (tag : Nat) (x : Xfer) : State :=
  match s.workOf tag, s.poolRun tag with
  | some w, some r =>
    if x.status ≠ .done then s.poolEnd tag x.status 0
    else
      let no := 4 * (poolBags w.desc + 1)
      let data := x.data
      let h := s.hashBags r.table (poolIndices w.desc) (poolBags w.desc) (data.take no) (data.drop no)
      let narrow := decide (s.dom.members ≤ 16)
      let (dr, dl) := kiloCount s.emb.dropped (if narrow then h.skipped else 0)
      let (er, el) := kiloCount s.emb.defaulted (if narrow then 0 else h.skipped)
      let (cr, cl) := kiloCount s.emb.coalesced (h.pooled - h.pairs.length)
      let s : State := { s with emb.dropped := dl, emb.defaulted := el, emb.coalesced := cl }
      let s := ((s.count F.EMB_COUNT_DROPPED dr).count F.EMB_COUNT_DEFAULTED er).count F.EMB_FETCH_COALESCED cr
      let total := if h.ending.isSome then h.closed else poolBags w.desc
      let s := match h.ending with
        | some (.poison, b) =>
          let o (k : Nat) := leNat (plain ((data.drop (4 * k)).take 4))
          s.notePoison tag 0 ((x.poisonDga (4 * b) (4 * b + 8)).or (x.poisonDga (no + 8 * o b) (no + 8 * o (b + 1))))
        | _ => s
      let s := s.modPool tag (fun r => { r with
        loaded := true, pairs := h.pairs.filter (fun q => decide (q.bag < total)), counts := h.counts, total := total,
        ending := h.ending, skipped := h.skipped, bags := min r.bags total })
      match s.poolRun tag with
      | some r => s.poolSend w r
      | none => s
  | _, _ => s

/-- Combine a partial of a bag with what the origin holds. -/
def combinePart (mode : Nat) (old new : List (Nat × Bool)) : List (Nat × Bool) :=
  if old.isEmpty then new
  else (List.zip old new).map (fun p =>
    let a := fp32.decode p.1.1
    let b := fp32.decode p.2.1
    (fp32.encode (if mode = 2 then a.maxNum b else a.add b), p.1.2 || p.2.2))

/-- POOL_PART at the origin (R355). Elements of one owner's partial are gathered under the owner until its bag is whole. -/
def State.poolPart (s : State) (p : Packet) : State :=
  s.dedup p (fun s =>
    match s.emb.runs.find? (fun r => r.phaseId == p.addr / 2 ^ 32 && (r.expected.get? p.src).isSome && r.failed == none) with
    | none => s.finish p .stateConflict
    | some r =>
      if p.pkey ≠ s.keyOf (s.tblPartition r.table) then (s.keyError portCurrant p.pkey).finish p .keyMismatch
      else
        let dim := max 1 (s.tblDim r.table)
        let first := p.addr % 2 ^ 32
        let bag := r.firstBag + first / dim
        let xs := packetElems elFP32 p
        let mode := match s.workOf r.tag with | some w => poolMode w.desc | none => 0
        let s := s.modPool r.tag (fun r =>
          let held := r.partials.getD bag []
          let at_ := first % dim
          let old := (held.drop at_).take xs.length
          let padded := held ++ List.replicate (at_ - held.length) (0, false)
          { r with partials := r.partials.put bag (padded.take at_ ++ combinePart mode old xs ++ held.drop (at_ + xs.length)),
                   expected := r.expected.modify p.src (fun n => n - xs.length) })
        s.finish p .done)

/-- A POOL_REQ is answered; a refusal ends the batch (R350). -/
def State.poolAnswered (s : State) (tag : Nat) (st : Status) : State :=
  s.modPool tag (fun r => { r with answers := r.answers - 1, failed := if st = .done then r.failed else r.failed.or (some st) })

/-- The output of a bag, in OUT_ELEM: its combined partials, divided for MEAN; zeros with no pooled index. -/
def State.bagOutput (s : State) (d : List Byte) (r : PoolRun) (bag : Nat) : List MElem :=
  let n := r.counts.getD bag 0
  if n = 0 then List.replicate (s.tblDim r.table) (0, false)
  else (r.partials.getD bag []).map (fun x =>
    let v := fp32.decode x.1
    let v := if poolMode d = 1 then (v.div (.fin false n 0)).r32 else v
    (encodeElem (poolElem d) v, x.2))

/-- Write the bags of the phase whose pairs are all pooled. -/
def State.poolStore (s : State) (w : Work) (r : PoolRun) : State :=
  let stop := match r.pairs with | q :: _ => min q.bag (r.firstBag + r.bags) | [] => r.firstBag + r.bags
  let bytes := s.poolOutBytes w.desc
  let s := s.modPool w.tag (fun r => { r with storing := true, firstBag := stop, bags := r.firstBag + r.bags - stop })
  if stop ≤ r.firstBag then s
  else
    let (id, s) := s.newXfer (.poolOut w.tag) 0
    let s := s.modPool w.tag (fun r => { r with stores := 1 })
    (List.range (stop - r.firstBag)).foldl (fun s k =>
      let bag := r.firstBag + k
      let bs := bytesOfElems (poolElem w.desc) (s.bagOutput w.desc r bag)
      match s.workDga w (field w.desc 24 8 + bag * bytes) bytes with
      | some (dga, cls) =>
        let s := s.modPool w.tag (fun r => { r with outPoison := r.outPoison + popCount 64 (markMask dga bs), partials := r.partials.del bag })
        s.phaseStore w.tag id w.ctx cls dga bs vcREQ
      | none => s) s

/-- The output stores of a phase are answered. -/
def State.poolOutDone (s : State) (tag : Nat) (st : Status) : State :=
  s.modPool tag (fun r => { r with stores := 0, failed := if st = .done then r.failed else r.failed.or (some st) })

/-- Advance a batch: partials all in, output written, next phase, end. -/
def State.poolSettle (s : State) (tag : Nat) : State :=
  match s.workOf tag, s.poolRun tag with
  | some w, some r =>
    if w.stage = .waiting then s.poolCommit w r
    else if w.stage ≠ .running ∨ !r.loaded ∨ r.answers ≠ 0 then s
    else match r.failed with
      | some st => if r.stores = 0 then s.poolEnd tag st 0 else s
      | none =>
        if r.expected.any (fun e => e.2 != 0) ∨ r.stores ≠ 0 then s
        else if !r.storing then s.poolStore w r
        else if r.firstBag < r.total then s.phaseOver tag
        else match r.ending with
          | some (st, bag) => s.poolEnd tag st bag
          | none => s.poolEnd tag .done (min r.skipped 0xFFFFFFFF + 2 ^ 32 * min r.outPoison 0xFFFFFFFF)
  | _, _ => s

/-- A batch whose request is gone releases its pin (R350). -/
def State.poolRelease (s : State) : State :=
  s.emb.runs.foldl (fun s r =>
    if s.works.any (fun w => w.tag == r.tag) then s
    else
      let s := s.subF (F.EMB_VER_PINS.at r.slot) 1 r.table
      ({ s with emb.runs := s.emb.runs.filter (fun x => x.tag != r.tag) } : State).sweepSlots) s

/-- A member is lost: batches that await it end, its own phases are forgotten, and versions no longer wait for it. -/
def State.poolMemberLost (s : State) (m : Nat) : State :=
  let s : State := { s with
    emb.serves := s.emb.serves.filter (fun v => v.src != m),
    emb.runs := s.emb.runs.map (fun r => match r.expected.get? m with
      | some 0 => r
      | some _ => { r with expected := r.expected.put m 0, failed := r.failed.or (some .stateConflict) }
      | none => r) }
  s.sweepSlots

/-- L3 of island 19 (R346): every batch of this member ends with `STATE_CONFLICT`. -/
def State.poolReset (s : State) : State :=
  let s := s.emb.runs.foldl (fun s r => s.poolEnd r.tag .stateConflict 0) s
  { s with emb.serves := [] }

end Sys2Proof.Machine
end

