-- ==== Sys2Proof/Machine/Power.lean ====
section
/-! DEFINITION. The 52 V input, throttling, temperature, the slew governor, clock islands and their references
(spec/17 R439 to R452). -/

namespace Sys2Proof.Machine

/-! ### Islands (R445, R449, R452) -/

def isOFF := 0
def isPENDING := 1
def isWAKING := 2
def isON := 3
def isRESET := 4
def isHELD := 5

def State.islandState (s : State) (n : Nat) : Nat := if n = 25 then isON else s.fld (F.PWR_ISLAND_STATE.at (n - 1))
def State.setIsland (s : State) (n st : Nat) : State := if n = 25 then s else s.setF (F.PWR_ISLAND_STATE.at (n - 1)) st

/-- Whether an island serves: island 25 always does while the input is present. -/
def State.islandOn (s : State) (n : Nat) : Bool := s.islandState n == isON

/-- The step of an island's own wake, in units of 0.01 A (R445). -/
def islandStep (n : Nat) : Nat :=
  if n ≤ 16 then 35 else if n = 17 then 227 else if n = 18 then 62 else if n = 19 then 83 else if n = 20 then 45
  else if n = 21 then 26 else if n = 22 then 28 else if n = 23 then 37 else if n = 24 then 93 else 0

/-- The clock of an island in MHz (R449). -/
def islandMhz (n : Nat) : Nat :=
  if n ≤ 16 then 800 else if n = 17 then 1600 else if n = 18 then 1200 else if n = 19 then 1000 else if n = 20 then 1600
  else if n = 21 then 1600 else if n = 22 then 800 else if n = 23 then 1600 else if n = 24 then 1000 else 400

/-- The priority of an island's wake. -/
def islandPrio (n : Nat) : Nat :=
  if n ≤ 16 then 5 else if n = 17 ∨ n = 18 ∨ n = 23 then 0 else if n = 20 ∨ n = 21 then 1 else if n = 19 then 2 else if n = 22 then 3 else 4

/-- The step of a part of an island: an optical engine, a T1 stack, a DDR5 channel, a flash channel. -/
def compStep (comp : Nat) : Nat := if comp = 1 then 60 else if comp = 2 then 59 else if comp = 3 then 10 else 4
def compIsland (comp : Nat) : Nat := if comp = 1 then 23 else if comp = 2 then 20 else if comp = 3 then 21 else 22

/-- The `PWR_COMP` field of a kind of part. -/
def compF (comp : Nat) : Fld :=
  if comp = 1 then F.PWR_COMP_OPTICAL else if comp = 2 then F.PWR_COMP_T1_STACK else if comp = 3 then F.PWR_COMP_DDR_CH
  else F.PWR_COMP_FLASH_CH

/-! ### The slew governor (R446 to R448) -/

/-- Whether a wake is served before another: priority, request order, island, instance. -/
def Wake.before (a b : Wake) : Bool :=
  if a.prio ≠ b.prio then decide (a.prio < b.prio)
  else if a.asked ≠ b.asked then decide (a.asked < b.asked)
  else if a.island ≠ b.island then decide (a.island < b.island)
  else decide (a.comp * 64 + a.inst ≤ b.comp * 64 + b.inst)

def insertWake (w : Wake) : List Wake → List Wake
  | [] => [w]
  | v :: l => if v.before w then v :: insertWake w l else w :: v :: l

/-- Show the governor's registers. -/
def State.showGov (s : State) : State :=
  let recent := s.pwr.granted.filter (fun g => decide (s.now < g.1 + 100 * nsPerUs))
  (s.setF F.PWR_GOV_PENDING s.pwr.pending.length).setF F.PWR_GOV_WINDOW_CA ((recent.map Prod.snd).foldl (· + ·) 0)

/-- Whether a core is out of service: FAULTED, or its island failed its tests and stays OFF until the next start (R217, R452). -/
def State.coreOut (s : State) (n : Nat) : Bool :=
  s.pwr.failed.contains (n + 1) || (match s.qnc.cores.get? n with | some k => k.state == .faulted | none => false)

/-- Ask the governor for a wake of an island that has not failed its tests, or of a part of an island that is ON. -/
def State.askWake (s : State) (island comp inst : Nat) : State :=
  let dup := s.pwr.pending.any (fun w => w.island == island && w.comp == comp && w.inst == inst)
  let st := s.islandState island
  let ok := if comp = 0 then (st == isOFF || st == isRESET) && !s.pwr.failed.contains island else s.islandOn island && !s.fldBit (compF comp) inst
  if dup ∨ !ok then s
  else
    let w : Wake := ⟨islandPrio island, s.now, island, comp, inst, if comp = 0 then islandStep island else compStep comp, false⟩
    let s := if comp = 0 ∧ st = isOFF then s.setIsland island isPENDING else s
    ({ s with pwr.pending := insertWake w s.pwr.pending } : State).showGov

/-- Withdraw the pending wakes of an island (R447). -/
def State.withdrawWake (s : State) (island : Nat) : State :=
  let s := if s.islandState island = isPENDING then s.setIsland island isOFF else s
  ({ s with pwr.pending := s.pwr.pending.filter (fun w => w.island != island) } : State).showGov

/-- The grants of the last 100 us at a time. -/
def windowSum (g : List (Nat × Nat)) (t : Nat) : Nat :=
  ((g.filter (fun e => decide (t < e.1 + 100 * nsPerUs))).map Prod.snd).foldl (· + ·) 0

/-- The earliest time from `t` at which a step fits the window: the present, or when enough old grants have left it. -/
def fitsAt (g : List (Nat × Nat)) (rate step t : Nat) : Nat :=
  let times := sortBy (fun (a b : Nat) => decide (a < b)) (t :: (g.map (fun e => e.1 + 100 * nsPerUs)).filter (fun x => decide (t < x)))
  (times.find? (fun x => decide (windowSum g x + step ≤ rate))).getD t

/-- Grant one wake: the island's rails ramp, or the part is powered; a Sloe of a slice is then IDLE (R358). -/
def State.grantWake (s : State) (w : Wake) : State :=
  let s : State := { s with pwr.pending := s.pwr.pending.filter (fun v => !(v == w)), pwr.granted := s.pwr.granted ++ [(s.now, w.step)] }
  let s := if w.deferred then s.trackMax F.PWR_GOV_MAX_WAIT_US (min 0xFFFF ((s.now - w.asked) / nsPerUs)) else s
  if w.comp = 0 then
    let s := (if s.islandState w.island = isPENDING then s.setIsland w.island isWAKING else s).count (F.PWR_ISLAND_WAKES.at (w.island - 1))
    { s with pwr.wakeAt := s.pwr.wakeAt.put w.island s.now }
  else
    let s := s.setFldBit (compF w.comp) w.inst true
    if w.comp = 4 ∧ (s.sliceOfFlash w.inst).isSome ∧ s.fld (F.VS_STATE_STATE.step 0x800 w.inst) = 0 then
      s.setF (F.VS_STATE_STATE.step 0x800 w.inst) 1
    else s

/-- One pass of the governor at the present time: grants in order while they fit; those left are deferred. -/
def State.grantPass (s : State) : Nat → State
  | 0 => s
  | fuel + 1 =>
    match s.pwr.pending with
    | [] => s
    | w :: _ =>
      if windowSum s.pwr.granted s.now + w.step ≤ s.fld F.PWR_LIMIT_RATE_CA then (s.grantWake w).grantPass fuel
      else
        let fresh := (s.pwr.pending.filter (fun v => !v.deferred)).length
        let s := s.count F.PWR_GOV_DEFERRED fresh
        { s with pwr.pending := s.pwr.pending.map (fun v => { v with deferred := true }) }

/-- GOVERNOR_GRANT (R446): pending wakes are granted in order, at the earliest time the window of 100 us allows the first. -/
def State.governorGrant (s : State) : State :=
  match s.pwr.pending with
  | [] => s.showGov
  | w :: _ =>
    let t := fitsAt s.pwr.granted (s.fld F.PWR_LIMIT_RATE_CA) w.step s.now
    let s := if t > s.now then s.grantPass 1 else s
    let s := s.reach t
    let s : State := { s with pwr.granted := s.pwr.granted.filter (fun g => decide (s.now < g.1 + 100 * nsPerUs)) }
    (s.grantPass (s.pwr.pending.length + 1)).showGov

/-- ISLAND_WAKE_DONE for islands 17 to 24 (R452): 30 us after its grant. -/
def State.islandWakeDone (s : State) (n : Nat) : State :=
  if n < 17 ∨ 24 < n ∨ s.islandState n ≠ isWAKING then s
  else (s.reach (s.pwr.wakeAt.getD n 0 + 30 * nsPerUs)).setIsland n isON

/-- Stop an island: thermal trip, loss of its reference, HOLD (R452). -/
def State.holdIsland (s : State) (n : Nat) : State :=
  if s.islandState n = isOFF ∨ n = 25 then s else (s.withdrawWake n).setIsland n isHELD

/-! ### Input, power and temperature (R439 to R444) -/

def causeCAP := 0
def causeCURRENT := 1
def causeTHERMAL := 2

/-- INPUT_DIP (R440). -/
def State.inputDip (s : State) (mv : Nat) : State :=
  let s := s.count F.PWR_INPUT_DIPS
  if mv < s.fld F.PWR_PEAK_MIN_VIN_MV then s.setF F.PWR_PEAK_MIN_VIN_MV mv else s

/-- INPUT_HIGH (R440): operation continues and a record is written. -/
def State.inputHigh (s : State) (mv : Nat) : State :=
  if mv ≤ 60000 ∨ 62000 < mv then s
  else (s.setF F.PWR_INPUT_VIN_MV mv).logErr { unit := .pwr, status := .internal, syndrome := mv }

/-- A temperature in units of 0.125 degrees, signed. -/
def tempCode (t : Int) : Nat := ofSigned 16 t

/-- Measurements are shown, with their peaks since the last read. -/
def State.measure (s : State) (avgW peakW vin iin : Nat) (temp : Int) (sensor : Nat) : State :=
  let s := ((s.setF F.PWR_INPUT_PIN_W avgW).setF F.PWR_INPUT_VIN_MV vin).setF F.PWR_INPUT_IIN_MA iin
  let s := (s.trackMax F.PWR_PEAK_PEAK_W peakW).trackMax F.PWR_PEAK_PEAK_IIN_MA iin
  let s := if vin < s.fld F.PWR_PEAK_MIN_VIN_MV then s.setF F.PWR_PEAK_MIN_VIN_MV vin else s
  let s := (s.setF F.PWR_THERM_TEMP (tempCode temp)).setF F.PWR_THERM_SENSOR sensor
  if toSigned 16 (s.fld F.PWR_THERM_PEAK_TEMP) < temp then s.setF F.PWR_THERM_PEAK_TEMP (tempCode temp) else s

/-- DUTY_ADJUST (R442, R444): each 1 ms DUTY falls by 1 to 4 at the least while the average is above the cap or the hottest sensor is
at the threshold, and rises by 1 to 16 at the most once both allow it. -/
def State.dutyAdjust (s : State) (avgW peakW vin iin : Nat) (temp : Int) (sensor : Nat) : State :=
  let s := (s.reach (s.pwr.lastAdjust + nsPerMs)).measure avgW peakW vin iin temp sensor
  let s : State := { s with pwr.lastAdjust := s.now }
  let cap := s.fld F.PWR_LIMIT_CAP_W
  let th : Int := 8 * s.fld F.PWR_THERM_THROTTLE_C
  let above := decide (cap < avgW)
  let low := decide (100 * avgW < 98 * cap)
  let hot := decide (th ≤ temp) || (s.fldBit F.PWR_THROTTLE_CAUSE causeTHERMAL && decide (th - 24 < temp))
  let duty := s.fld F.PWR_THROTTLE_DUTY
  let duty' := if above || decide (th ≤ temp) then (if 4 < duty then duty - 1 else duty)
    else if low && !hot then min 16 (duty + 1) else duty
  let s := if duty < 16 then s.count F.PWR_THROTTLE_THROTTLED_MS else s
  let s := s.setF F.PWR_THROTTLE_DUTY duty'
  let s := if above then s.setFldBit F.PWR_THROTTLE_CAUSE causeCAP true else if low then s.setFldBit F.PWR_THROTTLE_CAUSE causeCAP false else s
  let s := s.setFldBit F.PWR_THROTTLE_CAUSE causeTHERMAL hot
  let s := if duty' = 16 then s.setFldBit F.PWR_THROTTLE_CAUSE causeCURRENT false else s
  if above ∧ duty' = 4 then
    let ms := s.pwr.floorMs + 1
    let s : State := { s with pwr.floorMs := ms }
    if ms ≥ 100 ∧ !s.pwr.floorRecorded then
      ({ s with pwr.floorRecorded := true } : State).logErr { unit := .pwr, status := .timeout }
    else s
  else { s with pwr.floorMs := 0, pwr.floorRecorded := false }

/-- OVERCURRENT (R443). -/
def State.overcurrent (s : State) : State :=
  let s := s.setF F.PWR_THROTTLE_DUTY (min 8 (s.fld F.PWR_THROTTLE_DUTY))
  (s.setFldBit F.PWR_THROTTLE_CAUSE causeCURRENT true).logErr { unit := .pwr, status := .internal }

/-- THERMAL_TRIP (R444): islands 1 to 24 stop and are HELD, lasers are off. -/
def State.thermalTrip (s : State) (sensor : Nat) : State :=
  let s := (s.setF F.PWR_THERM_TEMP (tempCode (115 * 8))).setF F.PWR_THERM_SENSOR sensor
  let s := if toSigned 16 (s.fld F.PWR_THERM_PEAK_TEMP) < 920 then s.setF F.PWR_THERM_PEAK_TEMP 920 else s
  let s := (List.range 24).foldl (fun s k => s.holdIsland (k + 1)) s
  let s := (s.setF F.TST_PINS_THERMTRIP_N 0).setF F.PWR_START_PHASE 8
  s.logErr { unit := .pwr, status := .internal, index := sensor }

/-! ### Reference clocks (R451) -/

/-- REFCLK_LOSS: the islands the reference feeds are HELD. -/
def State.refclkLoss (s : State) (serdes : Bool) : State :=
  let s := if serdes then (s.setF F.PWR_REFCLK_SERDES_OK 0).count F.PWR_REFCLK_SERDES_LOSSES
    else (s.setF F.PWR_REFCLK_CORE_OK 0).count F.PWR_REFCLK_CORE_LOSSES
  let s := if serdes then (s.holdIsland 23).holdIsland 24 else (List.range 22).foldl (fun s k => s.holdIsland (k + 1)) s
  let s := if (List.range 24).any (fun k => s.islandState (k + 1) == isHELD) then s.setF F.PWR_START_PHASE 8 else s
  s.logErr { unit := .pwr, status := .internal }

/-- REFCLK_WAIT_TIMEOUT: a start has waited 1 s for a reference. -/
def State.refclkWait (s : State) : State :=
  if s.pwr.refWait then s.logErr { unit := .pwr, status := .timeout } else s

/-- Request islands 17 to 24 in the order of R417. -/
def State.wakeIslands (s : State) : State := [23, 17, 18, 20, 21, 19, 22, 24].foldl (fun s n => s.askWake n 0 0) s

end Sys2Proof.Machine
end

