-- ==== Sys2Proof/Machine/Tiles.lean ====
section
/-! DEFINITION. Tile geometry and packing, `TILE_MOVE` and `TILE_PUBLISH` (spec/06 R167 to R173). -/

namespace Sys2Proof.Machine

/-! ### Geometry (R167, R168, R170) -/

/-- A tile side: layout, element code, rows and columns. -/
structure TileShape where
  layout : Nat
  elem : Nat
  rows : Nat
  cols : Nat
  deriving DecidableEq, Repr

/-- Bytes of one line: a row of layouts 0 and 2, a column of layout 1. -/
def TileShape.lineBytes (t : TileShape) : Nat := (if t.layout = 1 then t.rows else t.cols) * elemBits t.elem / 8
def TileShape.lines (t : TileShape) : Nat := if t.layout = 1 then t.cols else t.rows
/-- Bytes of a row's scales. -/
def TileShape.scaleBytes (t : TileShape) : Nat := if t.layout = 2 then t.cols / 32 else 0
/-- Packed element area, padded to 64 B. -/
def TileShape.area (t : TileShape) : Nat := 64 * ceilDiv (t.rows * t.cols * elemBits t.elem / 8) 64
/-- The tile size. -/
def TileShape.size (t : TileShape) : Nat := t.area + 64 * ceilDiv (t.rows * t.scaleBytes) 64

/-- The rules of R168 on element, layouts and size. -/
def tileOk (src dst : TileShape) : Bool :=
  elemBits src.elem != 0
    && (if isMx src.elem then src.layout == 2 && dst.layout == 2 && src.cols % 32 == 0 else decide (src.layout < 2 ∧ dst.layout < 2))
    && decide (4096 ≤ dst.size ∧ dst.size ≤ 65536)

/-- Mark every byte of a line that shares an element of `bits` bits with a marked byte: an element of 6 bits can lie in two sectors (R171). -/
def straddle (bits : Nat) (line : List MByte) : List MByte :=
  if bits % 8 = 0 ∨ 8 % bits = 0 then line
  else
    let marked (e : Nat) : Bool := (List.range (((e + 1) * bits - 1) / 8 - e * bits / 8 + 1)).any (fun k => (line.getD (e * bits / 8 + k) (0, false)).2)
    (line.zipIdx).map (fun b => (b.1.1, b.1.2 ||
      (List.range ((8 * b.2 + 7) / bits - 8 * b.2 / bits + 1)).any (fun k => marked (8 * b.2 / bits + k))))

/-- Mark the elements that a marked scale governs: a block of 32 elements takes 4 x bits bytes (R171). -/
def govern (elem : Nat) (line scales : List MByte) : List MByte :=
  ((straddle (elemBits elem) line).zipIdx).map (fun b => (b.1.1, b.1.2 || (scales.getD (b.2 / (4 * elemBits elem)) (0, false)).2))

/-- Transpose lines of `e`-byte elements: line j of the result collects element j of every line. -/
def transposeLines (e n : Nat) (ls : List (List MByte)) : List (List MByte) :=
  (List.range n).map (fun j => ls.flatMap (fun l => (l.drop (j * e)).take e))

/-- Pack lines of one side into the packed form of the other (R167). -/
def packTile (src dst : TileShape) (ls scales : List (List MByte)) : List MByte :=
  let pad (bs : List MByte) : List MByte := bs ++ List.replicate ((64 - bs.length % 64) % 64) (0, false)
  if src.layout = 2 then pad (((List.zip ls scales).map (fun p => govern src.elem p.1 p.2)).flatten) ++ pad scales.flatten
  else pad ((if src.layout = dst.layout then ls else transposeLines (elemBits src.elem / 8) dst.lines ls).flatten)

/-- Cut a list into pieces of a length. -/
def chunksOf (n : Nat) : Nat → List MByte → List (List MByte)
  | 0, _ => []
  | k + 1, bs => bs.take n :: chunksOf n k (bs.drop n)

/-- The lines, and for layout 2 the scale lines, of a packed tile, as the side `dst` lays them out. -/
def unpackTile (src dst : TileShape) (bs : List MByte) : List (List MByte) × List (List MByte) :=
  let ls := chunksOf src.lineBytes src.lines bs
  let scales := chunksOf src.scaleBytes src.rows (bs.drop src.area)
  if src.layout = 2 then ((List.zip ls scales).map (fun p => govern src.elem p.1 p.2), scales)
  else (if src.layout = dst.layout then ls else transposeLines (elemBits src.elem / 8) dst.lines ls, [])

/-- Where a strided side of tile `i` begins: its first line, and its first scale row. -/
def tileFirst (t : TileShape) (base stride i : Nat) : Nat := base + i * t.lines * stride
def scaleFirst (t : TileShape) (base stride i : Nat) : Nat := base + i * t.rows * stride

/-- Add the loads of one strided tile to a transfer: lines from offset 0, scales from offset 2^40. -/
def State.loadTile (s : State) (id ctx cls dga scls sdga : Nat) (t : TileShape) (stride sstride : Nat) : State :=
  if dgaWin dga = 2 then s.addLoad id 0 ctx cls dga t.size vcREQ
  else
    let s := (List.range t.lines).foldl (fun s r => s.addLoad id (r * t.lineBytes) ctx cls (dga + r * stride) t.lineBytes vcREQ) s
    if t.layout = 2 then
      (List.range t.rows).foldl (fun s r => s.addLoad id (2 ^ 40 + r * t.scaleBytes) ctx scls (sdga + r * sstride) t.scaleBytes vcREQ) s
    else s

/-- The lines and scale lines a tile's loads brought. -/
def tileLines (t : TileShape) (window2 : Bool) (bs : List MByte) : List (List MByte) × List (List MByte) :=
  (chunksOf t.lineBytes t.lines bs,
   chunksOf t.scaleBytes (if t.layout = 2 then t.rows else 0) (bs.drop (if window2 then t.area else t.lines * t.lineBytes)))

/-! ### TILE_MOVE and TILE_PUBLISH (R169 to R173) -/

def tileSrc (d : List Byte) : TileShape := ⟨field d 4 1, field d 6 1, field d 24 2, field d 26 2⟩
def tileDst (d : List Byte) : TileShape := { tileSrc d with layout := field d 5 1 }
def tileCount (d : List Byte) : Nat := field d 28 2
def tileStride (d : List Byte) : Nat := field d 32 4
def tileScaleStride (d : List Byte) : Nat := field d 36 4

/-- Bytes of the source element range, of the source scale range and of the destination range. -/
def tileSrcBytes (d : List Byte) : Nat :=
  let t := tileSrc d
  (tileCount d * t.lines - 1) * tileStride d + t.lineBytes
def tileScaleBytes (d : List Byte) : Nat :=
  let t := tileSrc d
  if t.layout = 2 then (tileCount d * t.rows - 1) * tileScaleStride d + t.scaleBytes else 0
def tileDstBytes (d : List Byte) : Nat := tileCount d * (tileDst d).size

/-- The rule of R170 for a side in window 2, for every tile: whole aligned 4 KiB blocks from a packed source.  Elements and scales advance by
their own pitches, so that only the scales of tile 0 can follow its elements. -/
def State.tileBlockFault (s : State) (c : Nat) (d : List Byte) : DescCheck :=
  let t := tileSrc d
  let packed := decide (tileStride d = t.lineBytes) && (t.layout != 2 ||
    (decide (tileScaleStride d = t.scaleBytes ∧ field d 40 8 = field d 8 8 + t.area ∧ tileCount d = 1)))
  let bad (va right step : Nat) : Bool := match s.translate c va 1 right with
    | .ok x => dgaWin x.dga == 2 && !(decide ((tileDst d).size % 4096 = 0 ∧ x.dga % 4096 = 0 ∧ (tileCount d = 1 ∨ step % 4096 = 0)) && packed)
    | .error _ => false
  firstFault [faultIf (bad (field d 8 8) rREAD (t.lines * tileStride d)) .access 8, faultIf (bad (field d 16 8) rWRITE 0) .access 16]

/-- The checks of TILE_MOVE and TILE_PUBLISH in the order of R103. -/
def State.checkTile (s : State) (c : Nat) (d : List Byte) : DescCheck :=
  let t := tileSrc d
  let mx := decide (t.layout = 2)
  let src := field d 8 8
  let dst := field d 16 8
  let sc := field d 40 8
  match firstFault [
      faultIf (t.layout ≥ 3) .badDescriptor 4, faultIf (field d 5 1 ≥ 3) .badDescriptor 5, faultIf (elemBits t.elem == 0) .badDescriptor 6,
      faultIf (field d 7 1 ≠ 0) .badDescriptor 7, faultIf (dst % 64 ≠ 0) .badDescriptor 16,
      faultIf (t.rows == 0) .badDescriptor 24, faultIf (t.cols == 0) .badDescriptor 26, faultIf (tileCount d == 0) .badDescriptor 28,
      faultIf (field d 30 2 ≠ 0) .badDescriptor 30, faultIf (!tileOk t (tileDst d)) .badDescriptor 4,
      faultIf (tileStride d < t.lineBytes) .badDescriptor 32,
      faultIf (if mx then decide (tileScaleStride d < t.scaleBytes) else tileScaleStride d != 0) .badDescriptor 36,
      faultIf (!mx && sc != 0) .badDescriptor 40, faultIf (!allZero (slice d 48 16)) .badDescriptor 48] with
  | some f => some f
  | none =>
    let n := tileSrcBytes d
    let m := tileDstBytes d
    let k := tileScaleBytes d
    match firstFault [s.rangeStateFault c src n rREAD 8, s.rangeStateFault c dst m rWRITE 16,
        if mx then s.rangeStateFault c sc k rREAD 40 else none] with
    | some f => some f
    | none =>
      match boundsLast [s.rangeFault c src n rREAD 8, s.rangeFault c dst m rWRITE 16, if mx then s.rangeFault c sc k rREAD 40 else none] with
      | some f => some f
      | none =>
        let outside : Bool := match s.translate c dst 1 rWRITE with | .ok x => decide (dgaWin x.dga ≥ 2) | .error _ => false
        firstFault [faultIf (field d 0 1 == dTILE_PUBLISH && outside) .access 16, s.tileBlockFault c d]

/-- Tiles of one phase: 16 of a TILE_MOVE, 15 of a TILE_PUBLISH (R171). -/
def tilesPerPhase (d : List Byte) : Nat := if field d 0 1 = dTILE_PUBLISH then 15 else 16

/-- The end of the tiles of a phase. -/
def tileStop (w : Work) : Nat := min (tileCount w.desc) ((w.phase + 1) * tilesPerPhase w.desc)

/-- Tags a phase takes: every store of 256 B or less, and each commit, takes one. -/
def State.tilePlan (s : State) (w : Work) : State :=
  let per := ceilDiv (tileDst w.desc).size 256 + 1
  s.commitPhase w.tag ((tileStop w - w.phase * tilesPerPhase w.desc) * per) (s.rangeBody w w.result)

/-- Read tile `i` of a request. -/
def State.tileRead (s : State) (w : Work) (i : Nat) : State :=
  let t := tileSrc w.desc
  let src := tileFirst t (field w.desc 8 8) (tileStride w.desc) i
  let sc := scaleFirst t (field w.desc 40 8) (tileScaleStride w.desc) i
  match s.workDga w src 1 with
  | none => s.outcome w.tag .noXlate 0
  | some (dga, cls) =>
    let (scls, sdga) := match s.workDga w sc 1 with | some (a, c) => (c, a) | none => (0, 0)
    let (id, s) := s.newXfer (.tileLoad w.tag i) 0
    s.loadTile id w.ctx cls dga scls sdga t (tileStride w.desc) (tileScaleStride w.desc)

/-- A tile of the running phase is written or published: the next tile, phase or the outcome. -/
def State.tileNext (s : State) (w : Work) (i : Nat) : State :=
  if i + 1 < tileStop w then s.tileRead w (i + 1)
  else if i + 1 < tileCount w.desc then s.phaseOver w.tag
  else s.outcome w.tag .done (tileCount w.desc + (if w.opcode = dTILE_MOVE then 2 ^ 32 * w.result else 0))

/-- The phase of a TILE_MOVE or TILE_PUBLISH is in effect. -/
def State.tilePhase (s : State) (tag : Nat) : State :=
  match s.workOf tag with
  | some w => s.tileRead w (w.phase * tilesPerPhase w.desc)
  | none => s

/-- Stage the pieces of a tile at its owner, under the mark of its commit's tag (R172; log entry 24). -/
def State.stageTile (s : State) (id ctx pkey dst commit : Nat) (pieces : List (Nat × List Byte)) (tagged : Bool) (draw : State → Nat × State) :
    State :=
  (pieces.zipIdx).foldl (fun s e =>
    let (t, s) := draw s
    (s.xferWait id 1).issue { op := opSTORE, vc := vcREQ, tagged := tagged, pkey := pkey, dst := dst, tag := t, ctx := ctx, addr := e.1.1,
                              aux := stagingAux commit e.2, size := e.1.2.length - 1, sectors := sectorsOf e.1.1 (e.1.2.length - 1),
                              payload := storePayload e.1.1 e.1.2 } (.xfer id 0)) s

/-- Bytes at an address cut into pieces of 256 B or less. -/
def cutBytes (dga : Nat) (bs : List Byte) : List (Nat × List Byte) :=
  (cut256 dga (bs.length / 256 + 2) bs.length).map (fun c => (c.1, (bs.drop (c.1 - dga)).take c.2))

/-- A tile has been read: it is written packed, staged, or ends the request (R171 to R173). -/
def State.tileLoaded (s : State) (tag i : Nat) (x : Xfer) : State :=
  match s.workOf tag with
  | none => s
  | some w =>
    let t := tileSrc w.desc
    if x.status ≠ .done then s.outcome tag x.status 0
    else
      let w2 := (match s.workDga w (tileFirst t (field w.desc 8 8) (tileStride w.desc) i) 1 with | some a => dgaWin a.1 == 2 | none => false)
      let ls := tileLines t w2 x.data
      let bs := packTile t (tileDst w.desc) ls.1 ls.2
      match s.workDga w (field w.desc 16 8 + i * (tileDst w.desc).size) bs.length with
      | none => s.outcome tag .noXlate 0
      | some (dga, cls) =>
        if w.opcode = dTILE_MOVE then
          let bad := popCount 1024 (markMask dga bs)
          let s := s.modWork tag (fun w => { w with result := w.result + bad })
          let (id, s) := s.newXfer (.phaseStore tag) 0
          (s.modWork tag (fun w => { w with found := some i })).phaseStore tag id w.ctx cls dga bs vcREQ
        else if x.data.any (fun b => b.2) then (s.notePoison tag 0 (x.poisonDga 0 x.data.length)).outcome tag .poison i
        else match s.route dga cls with
          | .error st => s.outcome tag st 0
          | .ok dst =>
            let (commit, s) := s.phaseTag tag dst
            let (id, s) := s.newXfer (.tileStage tag i commit) 0
            s.stageTile id w.ctx (s.ctxKey w.ctx) dst commit (cutBytes dga (plain bs)) true (fun s => s.phaseTag tag dst)

/-- Every piece of a tile is staged: it is committed under its own tag (R172). -/
def State.tileStaged (s : State) (tag i commit : Nat) (st : Status) : State :=
  match s.workOf tag with
  | none => s
  | some w =>
    if st ≠ .done then s.outcome tag st 0
    else match s.workDga w (field w.desc 16 8 + i * (tileDst w.desc).size) 1 with
      | none => s.outcome tag .noXlate 0
      | some (dga, cls) =>
        match s.route dga cls with
        | .error st => s.outcome tag st 0
        | .ok dst =>
          let (id, s) := s.newXfer (.tileCommit tag i) 1
          s.issue { op := opTILE_COMMIT, vc := vcREQ, tagged := true, pkey := s.ctxKey w.ctx, dst := dst, tag := commit, ctx := w.ctx, addr := dga } (.xfer id 0)

/-- A commit is answered. -/
def State.tileCommitted (s : State) (tag i : Nat) (st : Status) : State :=
  match s.workOf tag with
  | none => s
  | some w => if st ≠ .done then s.outcome tag st 0 else s.tileNext w i

end Sys2Proof.Machine
end

