-- ==== Sys2Proof/Machine/Phases.lean ====
section
/-! DEFINITION. The phases of `FILL`, `COPY`, `COMPARE`, `ATOMIC_BATCH`, `FENCE`, `STEP` and `REVOKE`
(spec/04 R127, R128; spec/05 R157 to R160; spec/08 R249, R250, R257, R260; spec/15 R394, R395). -/

namespace Sys2Proof.Machine

/-! ### FILL, COPY, COMPARE (R127, R128) -/

def dataVa (d : List Byte) : Nat := field d 8 8
def dataLen (d : List Byte) : Nat := field d 24 8

/-- First byte of phase `k`: phases break at the 1 MiB-aligned virtual addresses of the first range. -/
def dataFirst (d : List Byte) (k : Nat) : Nat :=
  if k = 0 then 0 else min (dataLen d) ((dataVa d / 2 ^ 20 + k) * 2 ^ 20 - dataVa d)

/-- Stores of 256 B or less, or blocks of window 2, that write a range. -/
def storesOf (dga n : Nat) : Nat := if dgaWin dga = 2 then ceilDiv n 4096 else (cut256 dga (n / 256 + 2) n).length

/-- The first difference found so far, as a COMPARE carries it in its PHASE BODY. -/
def noDifference := 2 ^ 64 - 1

/-- Commit the next phase of a data request. -/
def State.dataPlan (s : State) (w : Work) : State :=
  let d := w.desc
  let first := dataFirst d w.phase
  let n := dataFirst d (w.phase + 1) - first
  match s.workDga w (dataVa d + first) n with
  | none => s.outcome w.tag .noXlate 0
  | some (dga, _) =>
    s.commitPhase w.tag (if w.opcode = dCOMPARE then 0 else storesOf dga n) (s.rangeBody w (if w.opcode = dCOMPARE then noDifference else 0))

/-- Write bytes of the phase's range. -/
def State.dataStore (s : State) (w : Work) (bs : List MByte) : State :=
  match s.workDga w (dataVa w.desc + dataFirst w.desc w.phase) bs.length with
  | none => s.outcome w.tag .noXlate 0
  | some (dga, cls) =>
    let (id, s) := s.newXfer (.phaseStore w.tag) 0
    s.phaseStore w.tag id w.ctx cls dga bs vcREQ

/-- The phase of a data request is in effect: FILL writes its pattern, the others read. -/
def State.dataPhase (s : State) (tag : Nat) : State :=
  match s.workOf tag with
  | none => s
  | some w =>
    let d := w.desc
    let first := dataFirst d w.phase
    let n := dataFirst d (w.phase + 1) - first
    if w.opcode = dFILL then
      let pat := slice d 16 8
      s.dataStore w ((List.range n).map (fun i => (pat.getD ((first + i) % 8) 0, false)))
    else
      let (id, s) := s.newXfer (.phaseLoad tag) 0
      let load (s : State) (off va : Nat) : State := match s.workDga w va n with
        | some (dga, cls) => s.addLoad id off w.ctx cls dga n vcREQ
        | none => s
      if w.opcode = dCOPY then load s 0 (field d 16 8 + first)
      else load (load s 0 (dataVa d + first)) (2 ^ 40) (field d 16 8 + first)

/-- A data phase has ended well: the next one, or `DONE`. -/
def State.dataOver (s : State) (w : Work) (result : Nat) : State :=
  if dataFirst w.desc (w.phase + 1) = dataLen w.desc then s.outcome w.tag .done result else s.phaseOver w.tag

/-- The reads of a COPY or COMPARE phase are in. -/
def State.dataLoaded (s : State) (tag : Nat) (x : Xfer) : State :=
  match s.workOf tag with
  | none => s
  | some w =>
    let first := dataFirst w.desc w.phase
    let n := dataFirst w.desc (w.phase + 1) - first
    if x.status ≠ .done then s.outcome tag x.status 0
    else if w.opcode = dCOPY then s.dataStore w x.data
    else
      let ab := List.zip (x.data.take n) (x.data.drop n)
      match ab.findIdx? (fun p => p.1.2 || p.2.2 || p.1.1 != p.2.1) with
      | some i =>
        let p := ab.getD i ((0, false), (0, false))
        let s := s.notePoison tag 0 ((x.poisonDga i (i + 1)).or (x.poisonDga (n + i) (n + i + 1)))
        s.outcome tag (if p.1.2 ∨ p.2.2 then .poison else .done) (first + i)
      | none => s.dataOver w noDifference

/-- The stores of a phase of FILL, COPY or TILE_MOVE are answered. -/
def State.dataStored (s : State) (tag : Nat) (st : Status) : State :=
  match s.workOf tag with
  | none => s
  | some w =>
    if st ≠ .done then s.outcome tag st 0
    else if w.opcode = dTILE_MOVE then s.tileNext w (w.found.getD 0)
    else s.dataOver w (dataLen w.desc)

/-! ### ATOMIC_BATCH (R249, R250) -/

def batchCount (d : List Byte) : Nat := field d 16 4

def State.checkBatch (s : State) (c : Nat) (d : List Byte) : DescCheck :=
  let n := 64 * batchCount d
  match firstFault [faultIf (field d 4 4 ≠ 0) .badDescriptor 4, faultIf (field d 8 8 % 64 ≠ 0) .badDescriptor 8,
      faultIf (batchCount d == 0) .badDescriptor 16, faultIf (!allZero (slice d 20 44)) .badDescriptor 20] with
  | some f => some f
  | none =>
    match s.rangeStateFault c (field d 8 8) n (rREAD + rWRITE) 8 with
    | some f => some f
    | none => s.rangeAllFault c (field d 8 8) n (rREAD + rWRITE) 8

/-- First entry and number of entries of a phase. -/
def batchFirst (w : Work) : Nat := 4096 * w.phase
def batchN (w : Work) : Nat := min 4096 (batchCount w.desc - batchFirst w)

def State.batchRun (s : State) (tag : Nat) : Option BatchRun := s.jnl.batches.find? (fun b => b.tag == tag)
def State.modBatch (s : State) (tag : Nat) (f : BatchRun → BatchRun) : State :=
  { s with jnl.batches := s.jnl.batches.map (fun b => if b.tag == tag then f b else b) }

def blankBatch (tag : Nat) : BatchRun := ⟨tag, 0, [], 0, 0, none, []⟩

/-- The run of a request, made where there is none. -/
def State.batchOpen (s : State) (tag : Nat) : State :=
  if (s.batchRun tag).isSome then s else { s with jnl.batches := s.jnl.batches ++ [blankBatch tag] }

/-- Release the references of entries for which `f` holds: their responses are in, or they issue nothing (R145). -/
def State.batchDrop (s : State) (w : Work) (f : Nat → Bool) : State :=
  match s.batchRun w.tag with
  | none => s
  | some b =>
    let s := s.modBatch w.tag (fun b => { b with refs := b.refs.filter (fun r => !f r.1) })
    (b.refs.filter (fun r => f r.1)).foldl (fun s r => s.dropRef w.ctx r.2) s

/-- Read the entries of the phase. -/
def State.batchLoad (s : State) (w : Work) (o : XOwner) : State :=
  match s.workDga w (field w.desc 8 8 + 64 * batchFirst w) (64 * batchN w) with
  | none => s.outcome w.tag .noXlate 0
  | some (dga, cls) => s.loadFor o w.ctx cls dga (64 * batchN w) vcREQ

/-- Bytes a transfer brought at an offset, none where a read failed. -/
def Xfer.at_ (x : Xfer) (off n : Nat) : Option (List MByte) :=
  (x.pieces.find? (fun p => decide (p.1 ≤ off ∧ off + n ≤ p.1 + p.2.length))).map (fun p => (p.2.drop (off - p.1)).take n)

/-- The operand size, and whether the entry breaks R239 or R240. -/
def entryFault (b : List Byte) (dga : Nat) : Bool :=
  let n := atomicSize (field b 16 1)
  n == 0 || decide (dga % max 1 n ≠ 0) || (atomicNew (field b 16 1) 0 0 0).isNone

/-- The checks of an entry before its phase is committed (R250 steps 1 to 5): its status, with the address of a translation fault (R147), or
where it translates to. -/
def State.entryCheck (s : State) (w : Work) (e : Option (List MByte)) (st : Status) : Except (Status × Option Nat) Xlated :=
  match e with
  | none => .error (st, none)
  | some m =>
    let b := plain m
    if m.any (fun x => x.2) then .error (.poison, none)
    else if !allZero (slice b 19 13) ∨ (field b 16 1 % 16 ≠ 4 ∧ !allZero (slice b 48 16)) then .error (.badDescriptor, none)
    else match s.translate w.ctx (field b 0 8) (max 1 (atomicSize (field b 16 1))) rATOMIC with
      | .error f => .error (f.1, some f.2)
      | .ok x => if entryFault b x.dga then .error (.badDescriptor, none) else .ok x

/-- Store bytes into an entry of the list. -/
def State.entryStore (s : State) (w : Work) (id index off : Nat) (bs : List Byte) : State :=
  match s.workDga w (field w.desc 8 8 + 64 * index + off) bs.length with
  | some (dga, cls) => s.addStore id w.ctx cls dga (unmarked bs) vcREQ true (fun _ => 0)
  | none => s

/-- ATOMIC_BATCH: before a phase is committed its entries are read. -/
def State.batchPlan (s : State) (w : Work) : State :=
  (s.modWork w.tag (fun w => { w with stage := .running })).batchLoad w (.batchPrep w.tag)

/-- The entries are read: each is checked and translated, and its outcome written into it. -/
def State.batchPrepared (s : State) (tag : Nat) (x : Xfer) : State :=
  match s.workOf tag with
  | none => s
  | some w =>
    let first := batchFirst w
    let s := s.batchOpen tag
    let (id, s) := s.newXfer (.batchStore tag) 0
    (List.range (batchN w)).foldl (fun s i =>
      match s.entryCheck w (x.at_ (64 * i) 64) x.status with
      | .error (st, va) =>
        let s := match va with | some a => s.noteFault w.ctx st a | none => s
        s.entryStore w id (first + i) 17 (natLe 1 st.code)
      | .ok y =>
        let s := (s.takeRef w.ctx y.ext.va).modBatch tag (fun b => { b with refs := b.refs ++ [(first + i, y.ext.va)] })
        (s.entryStore w id (first + i) 8 (natLe 8 y.dga)).entryStore w id (first + i) 17 (natLe 1 0 ++ natLe 1 y.ext.cls)) s

/-- The prepared entries are written: the phase is committed with one tag for each. -/
def State.batchCommit (s : State) (tag : Nat) : State :=
  match s.workOf tag with
  | none => s
  | some w =>
    let s := s.batchOpen tag
    let b := (s.batchRun tag).getD (blankBatch tag)
    s.commitPhase tag (batchN w) (s.rangeBody w (batchFirst w + 2 ^ 32 * batchN w) ++ b.tally)

/-- The phase is in effect: its entries are read as recorded. -/
def State.batchPhase (s : State) (tag : Nat) : State :=
  match s.workOf tag with
  | none => s
  | some w =>
    (s.batchOpen tag).batchLoad w (.batchRead tag)

/-- A recorded entry: a failure it already holds, or what it will do. -/
def recordedEntry (i : Nat) (e : Option (List MByte)) (st : Status) : BatchEntry :=
  match e with
  | none => ⟨i, 0, 0, 0, 0, 0, false, some st⟩
  | some m =>
    let b := plain m
    let n := atomicSize (field b 16 1)
    let dga := field b 8 8
    let old := Status.ofCode (field b 17 1)
    let st? : Option Status := if m.any (fun x => x.2) then some .poison
      else if old ≠ .done then some old else if dga = 0 then some .badDescriptor else none
    ⟨i, dga, field b 18 1 % 4, field b 16 1, field b 32 n, field b 48 n, false, st?⟩

/-- Issue every entry that no earlier unanswered entry on the same 64 B line holds back. -/
def State.batchIssue (s : State) (w : Work) (b : BatchRun) : State :=
  b.entries.foldl (fun s e =>
    if e.issued ∨ e.status.isSome then s
    else if (s.batchRun w.tag).any (fun r => r.entries.any (fun f => decide (f.index < e.index) && f.dga / 64 == e.dga / 64 && f.status.isNone)) then s
    else
      let n := atomicSize e.atype
      let (id, s) := s.newXfer (.phaseAtomic w.tag e.index) 0
      let s := s.modBatch w.tag (fun r => { r with entries := r.entries.map (fun f => if f.index == e.index then { f with issued := true } else f) })
      let tag := w.tagBase + (e.index - b.first)
      let p : Packet := { op := opATOMIC, vc := vcREQ, tagged := true, pkey := s.ctxKey w.ctx, tag := tag, ctx := w.ctx, addr := e.dga, size := n - 1,
                          atype := e.atype, sectors := 1, noCombine := true, payload := padTo 64 (padTo 16 (natLe n e.operand) ++ natLe n e.swap) }
      match s.route e.dga e.cls with
      | .error st => (s.xferWait id 1).xferEnd id 0 p st
      | .ok d =>
        let s := s.modWork w.tag (fun w => { w with targets := if w.targets.contains d then w.targets else w.targets ++ [d] })
        (s.xferWait id 1).issue { p with dst := d } (.xfer id 0)) s

/-- The recorded entries are read. -/
def State.batchLoaded (s : State) (tag : Nat) (x : Xfer) : State :=
  match s.workOf tag with
  | none => s
  | some w =>
    let first := batchFirst w
    let es := (List.range (batchN w)).map (fun i => recordedEntry (first + i) (x.at_ (64 * i) 64) x.status)
    let s := s.modBatch tag (fun b => { b with first := first, entries := es })
    let s := es.foldl (fun s e => if e.status = some .poison then s.notePoison tag e.index
      ((x.poisonDga (64 * (e.index - first)) (64 * (e.index - first) + 64)).or ((s.workDga w (field w.desc 8 8 + 64 * e.index) 64).map Prod.fst)) else s) s
    match s.batchRun tag with
    | some b => s.batchIssue w b
    | none => s

/-- An entry is answered: its STATUS, and on `DONE` the old value, are written into it. -/
def State.batchAnswered (s : State) (tag index : Nat) (x : Xfer) : State :=
  match s.workOf tag, s.batchRun tag with
  | some w, some _ =>
    let st := x.status
    let s := s.modBatch tag (fun r => { r with stores := r.stores + 1, entries := r.entries.map (fun f => if f.index == index then { f with status := some st } else f) })
    let s := s.batchDrop w (· == index)
    let s := if st = .poison then s.notePoison tag index (((s.batchRun tag).bind (fun r => r.entries.find? (fun f => f.index == index))).map (fun e => e.dga)) else s
    let (id, s) := s.newXfer (.batchStore tag) 0
    let s := s.entryStore w id index 17 (natLe 1 st.code)
    let s := if st = .done then s.entryStore w id index 32 (plain x.data) else s
    match s.batchRun tag with
    | some b => s.batchIssue w b
    | none => s
  | _, _ => s

/-- Whether a request has a committed phase running: the entries of an ATOMIC_BATCH are read. -/
def BatchRun.active (b : BatchRun) : Bool := !b.entries.isEmpty

/-- The stores of an entry are answered; a phase whose entries are all answered and written is over (R250). -/
def State.batchStored (s : State) (tag : Nat) : State :=
  match s.workOf tag, s.batchRun tag with
  | some w, some b =>
    if !b.active then s.batchCommit tag
    else
      let s := s.modBatch tag (fun r => { r with stores := r.stores - 1 })
      if b.stores ≠ 1 ∨ b.entries.any (fun e => e.status.isNone) then s
      else s.modWork w.tag id
  | some _, none => s.batchCommit tag
  | _, _ => s

/-- A phase of ATOMIC_BATCH whose entries are all answered ends: the next phase, or the outcome. -/
def State.batchSettle (s : State) (tag : Nat) : State :=
  match s.workOf tag, s.batchRun tag with
  | some w, some b =>
    if w.stage ≠ .running ∨ !b.active ∨ b.stores ≠ 0 ∨ b.entries.any (fun e => e.status.isNone) then s
    else
      let bad := b.entries.filter (fun e => e.status != some .done)
      let fails := b.fails + bad.length
      let firstFail := b.firstFail.or ((bad.head?).map (fun e => (e.index, e.status.getD .internal)))
      let s := (s.batchDrop w (fun _ => true)).modBatch tag (fun r => { r with entries := [], fails := fails, firstFail := firstFail })
      if batchFirst w + batchN w < batchCount w.desc then s.phaseOver tag
      else
        let s : State := { s with jnl.batches := s.jnl.batches.filter (fun r => r.tag != tag) }
        match firstFail with
        | none => s.outcome tag .done (batchCount w.desc)
        | some (i, st) => s.outcome tag st (i + 2 ^ 32 * min fails 0xFFFFFFFF)
  | _, _ => s

/-! ### FENCE and STEP (R257, R260, R394, R395) -/

def State.checkFence (s : State) (_c : Nat) (d : List Byte) : DescCheck :=
  let scope := field d 4 1
  let dev := field d 5 1
  match firstFault [faultIf (scope ≥ 2) .badDescriptor 4, faultIf (dev ≥ 64 || (scope == 0 && dev != 0)) .badDescriptor 5,
      faultIf (!allZero (slice d 6 58)) .badDescriptor 6] with
  | some f => some f
  | none => faultIf (scope == 1 && (s.memberState dev == .absent || s.memberState dev == .joining)) .stateConflict 5

def checkStep (_s : State) (_c : Nat) (d : List Byte) : DescCheck :=
  firstFault [faultIf (field d 4 1 ≥ 2) .badDescriptor 4, faultIf (!allZero (slice d 5 3)) .badDescriptor 5,
    faultIf (field d 8 4 == 0) .badDescriptor 8, faultIf (field d 12 4 ≠ 0) .badDescriptor 12,
    faultIf (!allZero (slice d 24 40)) .badDescriptor 24]

/-- Destinations a FENCE, or a STEP with BOUNDARY, covers. -/
def State.fenceDests (s : State) (w : Work) : List Nat :=
  if w.opcode = dFENCE ∧ field w.desc 4 1 = 1 then [field w.desc 5 1] else s.membersIn .active

/-- A FENCE phase is in effect: epochs advance, and every request of the partition issued so far is covered. -/
def State.fencePhase (s : State) (w : Work) : State :=
  let dests := s.fenceDests w
  let key := s.keyOf w.partition
  let covered := (s.fab.reqs ++ s.fab.waiting).filter (fun r => dests.contains r.pkt.dst && r.pkt.pkey == key)
  let s := dests.foldl State.bumpEpoch s
  let marks := (s.fab.markers.filter (fun m => dests.contains m.dst)).map (fun m => m.number)
  { s with fab.fences := s.fab.fences ++ [⟨none, some w.tag, covered.map (fun r => r.pkt.tag), marks, dests.length⟩] }

def adIDLE := 0
def adTESTING := 1
def adLOADING := 2
def adREADY := 3
def adSWAPPING := 4
def adREBUILDING := 5
def adDONE := 6
def adABANDONED := 7

/-- Move an admission to a state (R419): SEQ advances. -/
def State.admitState (s : State) (st : Nat) : State := (s.setF F.RAS_ADMIT_STATUS_STATE st).bumpSeq F.RAS_ADMIT_STATUS_SEQ

/-- The swap begins at a step boundary of the custodian (R419, R420): the REBIND entry is journalled. -/
def State.admitSwap (s : State) : State :=
  if s.fld F.RAS_ADMIT_STATUS_STATE ≠ adREADY then s
  else ({ s.admitState adSWAPPING with ras.rebindAcks := 2 ^ 64 } : State).journalWrite
    { kind := jkREBIND, body := natLe 2 (s.fld F.RAS_ADMIT_STATUS_FAILED_DEV) ++ natLe 2 (s.fld F.RAS_ADMIT_STATUS_SPARE_DEV) ++ zeros 60 }

/-- The sentinel of engine c mod 32 is due when the step counter reaches c (R396): not on a core out of service. -/
def State.sentinelDue (s : State) (c : Nat) : State :=
  let e := c % 32
  let s := s.setF F.RAS_SENTINEL_NEXT ((c + 1) % 32)
  let out : Bool := s.coreOut (e / 2) || (match s.qnc.cores.get? (e / 2) with | some k => k.state == .resetting | none => false)
  if (out || s.ras.sentinelDue.contains e) = true then s else { s with ras.sentinelDue := s.ras.sentinelDue ++ [e] }

/-- What the final outcome of a STEP does to the counter and the sentinels, and its completion (R395). -/
def State.stepDone (s : State) (w : Work) : State :=
  if !s.isSelf w.origin then s.outcome w.tag .done 0
  else
    let c := (s.fld F.RAS_STEP_COUNT + 1) % 2 ^ 48
    let s := ((s.setF F.RAS_STEP_COUNT c).setF F.RAS_STEP_JOB_JOB (field w.desc 8 4)).setF F.RAS_STEP_NUM_STEP (field w.desc 16 8)
    (s.sentinelDue c).outcome w.tag .done c

/-- A STEP reaches its final outcome (R395); one with BOUNDARY, an adopted one too, is the boundary at which an admission that is ready swaps
(R419). -/
def State.stepOutcome (s : State) (w : Work) : State :=
  let s := s.stepDone w
  if field w.desc 4 1 = 1 then s.admitSwap else s

/-- A FENCE or STEP phase is in effect. -/
def State.fenceOrStep (s : State) (tag : Nat) : State :=
  match s.workOf tag with
  | none => s
  | some w =>
    if w.opcode = dSTEP ∧ field w.desc 4 1 = 0 then s.stepOutcome w
    else if s.isSelf w.origin then s.fencePhase w
    else if (s.earlierOf w).all Work.final then (if w.opcode = dSTEP then s.stepOutcome w else s.outcome tag .done 0)
    else s

/-- Complete the fences of requests (R257). -/
def State.settleWorkFences (s : State) : State :=
  let go := s.fab.fences.filter (fun f => f.work.isSome && s.fenceDone f)
  let s : State := { s with fab.fences := s.fab.fences.filter (fun f => !(f.work.isSome && s.fenceDone f)) }
  go.foldl (fun s f =>
    match s.workOf (f.work.getD 0) with
    | some w =>
      let s := s.count F.FAB_FENCE_COMPLETED
      if w.opcode = dSTEP then s.stepOutcome w else s.outcome w.tag .done f.covered
    | none => s) s

/-! ### REVOKE (R157 to R160) -/

def revokeScope (d : List Byte) : Nat := field d 6 1

/-- The checks of R157. -/
def State.checkRevoke (s : State) (c : Nat) (d : List Byte) : DescCheck :=
  let x := field d 4 2
  match firstFault [faultIf (x ≥ 8192) .badDescriptor 4, faultIf (revokeScope d ≥ 2) .badDescriptor 6, faultIf (field d 7 1 ≠ 0) .badDescriptor 7,
      faultIf (!allZero (slice d 16 48)) .badDescriptor 16] with
  | some f => some f
  | none =>
    let outside := (s.sliceOfCtx x).map Prod.fst != (s.sliceOfCtx c).map Prod.fst || s.partOfCtx x != s.partOfCtx c
    if outside then some { status := .access, result := 4 }
    else match s.revokeNamed d with
      | none => some { status := .noXlate, result := field d 8 8, addr := some (field d 8 8) }
      | some e =>
        if e.state ≠ .valid ∨ !s.isSettled e then some { status := .stateConflict, result := 8 }
        else if revokeScope d = 0 ∧ (s.aliasesKnown e).getD 0 ≠ 0 then some { status := .stateConflict, result := 6 }
        else none

def State.revokeRun (s : State) (tag : Nat) : Option RevokeRun := s.xlt.revokes.find? (fun r => r.tag == tag || r.tag % 2 ^ 48 == tag)
def State.modRevoke (s : State) (tag : Nat) (f : RevokeRun → RevokeRun) : State :=
  { s with xlt.revokes := s.xlt.revokes.map (fun r => if r.tag == tag || r.tag % 2 ^ 48 == tag then f r else r) }

/-- The range of the named extent as recorded at submission. -/
def Work.revokeRange (w : Work) : Nat × Nat := (w.found.getD 0, w.result * pageBytes)

/-- The message that names a revocation to a member: the request's own tag, and the member whose queue accepted it (R159). -/
def Work.revokeMsg (w : Work) (role dev cell bytes : Nat) : XltMsg :=
  { tag := w.tag, member := w.origin, role := role, cell := cell, bytes := bytes, partition := w.partition, count := dev }

/-- The owner of a revocation is lost: every ACTIVE member is told the claim's range and reports to this custodian (R160). -/
def State.revokeTell (s : State) (w : Work) (range : Nat × Nat) : State :=
  let all := s.membersIn .active
  let s := s.modRevoke w.tag (fun r => { r with range := some range, awaiting := all, asked := [] })
  all.foldl (fun s d => s.xltSend d xcREVOKE (w.revokeMsg 2 (dgaDev range.1) (dgaCell range.1) range.2) .none) s

/-- A revocation goes on without its owner (R160): by the range the owner gave, else by that of the claiming extent some member holds. -/
def State.revokeOrphan (s : State) (w : Work) (r : RevokeRun) : State :=
  let owner := dgaDev w.revokeRange.1
  let s := s.modRevoke r.tag (fun r => { r with lost := true })
  let s := if w.phase = 0 ∧ w.stage = .running then s.phaseOver r.tag else s
  match r.range with
  | some range => s.revokeTell w range
  | none =>
    let all := s.membersIn .active
    let s := s.modRevoke r.tag (fun r => { r with asked := all })
    all.foldl (fun s d => s.xltSend d xcQUERY (w.revokeMsg 3 owner (dgaCell w.revokeRange.1) w.revokeRange.2) (.control xcQUERY r.tag)) s

/-- Send REVOKE_RANGE to the owner of the claim, or go on without one that is lost already (R158, R160). -/
def State.revokeAsk (s : State) (w : Work) (r : RevokeRun) : State :=
  let owner := dgaDev w.revokeRange.1
  if s.memberState owner = .failed ∨ s.memberState owner = .retired then s.revokeOrphan w r
  else s.xltSend owner xcREVOKE (w.revokeMsg 0 0 (dgaCell w.revokeRange.1) w.revokeRange.2) (.control xcREVOKE w.tag)

/-- Phase 0 of a REVOKE (R158). -/
def State.revokePhase0 (s : State) (w : Work) : State :=
  let d := w.desc
  let c := field d 4 2
  let named := (s.revokeNamed d).filter (fun e => e.dga == w.revokeRange.1 && e.pages == w.result)
  let run (moved : Nat) (va : Nat) : RevokeRun := ⟨w.tag, c, va, moved, none, false, false, none, false, [], []⟩
  let go (s : State) (r : RevokeRun) : State :=
    let s : State := { s with xlt.revokes := s.xlt.revokes.filter (fun q => q.tag != w.tag) ++ [r] }
    if revokeScope d = 0 then s.phaseOver w.tag else s.revokeAsk w r
  match named with
  | none => if revokeScope d = 0 then s.outcome w.tag .done 0 else go s (run 0 0)
  | some e =>
    if e.pins ≠ 0 then s.outcome w.tag .busy 0
    else if e.state ≠ .valid ∨ !s.isSettled e then s.outcome w.tag .stateConflict 0
    else go (s.beginChange e.ctx e.va .revoking) (run 1 e.va)

/-- Phase 1 replayed after this member has lost what it knew of the revocation: the owner is asked again. -/
def State.revokeAgain (s : State) (w : Work) : State :=
  let c := field w.desc 4 2
  let va := match s.convert c (field w.desc 8 8) 1 with | .ok v => v | .error _ => 0
  let r : RevokeRun := ⟨w.tag, c, va, 1, none, false, false, none, false, [], []⟩
  let s : State := { s with xlt.revokes := s.xlt.revokes ++ [r] }
  if revokeScope w.desc = 0 then s else s.revokeAsk w r

/-- A phase of a REVOKE is in effect. -/
def State.revokePhase (s : State) (tag : Nat) : State :=
  match s.workOf tag with
  | some w =>
    if w.phase = 0 then s.revokePhase0 w
    else if (s.revokeRun tag).isSome then s
    else s.revokeAgain w
  | none => s

/-- The owner has answered REVOKE_RANGE: the claim's range, or that it holds none (R158); a repeated answer carries the report as well where the
owner has made it (R159). -/
def State.revokeAnswered (s : State) (tag : Nat) (st : Status) (bs : List Byte) : State :=
  match s.workOf tag with
  | none => s
  | some w =>
    let s := s.modRevoke tag (fun r => { r with
      answered := true, noClaim := decide (bs.length ≤ 8) || st != .done,
      range := if bs.length > 8 ∧ st = .done then some (field bs 0 8, field bs 8 8) else r.range,
      report := if bs.length > 16 ∧ st = .done then some (field bs 16 8) else r.report })
    if w.phase = 0 ∧ w.stage = .running then s.phaseOver tag else s

/-- A drained report reaches the custodian (R158), or the report of one member when the owner is lost (R160). -/
def State.revokeReported (s : State) (src tag n : Nat) : State :=
  s.modRevoke tag (fun r => { r with
    report := if r.lost then some (r.report.getD 0 + n) else some n, awaiting := r.awaiting.filter (· != src) })


/-- A member becomes FAILED: revocations whose owner it was go on without it, others no longer wait for it (R160). -/
def State.revokeMemberLost (s : State) (m : Nat) : State :=
  let before := s.xlt.revokes
  let s : State := { s with xlt.revs := s.xlt.revs.map (fun r => { r with awaiting := r.awaiting.filter (· != m) }),
                            xlt.revokes := s.xlt.revokes.map (fun r => { r with awaiting := r.awaiting.filter (· != m), asked := r.asked.filter (· != m) }) }
  let s := s.xlt.revs.foldl State.revSettle s
  before.foldl (fun s r =>
    match s.workOf r.tag with
    | none => s
    | some w =>
      if revokeScope w.desc = 0 then s
      else if r.lost then (if r.asked = [m] then s.revokeTell w (r.range.getD w.revokeRange) else s)
      else if dgaDev w.revokeRange.1 ≠ m ∨ r.report.isSome ∨ r.noClaim then s
      else s.revokeOrphan w r) s

/-- A member has answered which claiming extent covers the named range (R160). -/
def State.revokeQueried (s : State) (src tag : Nat) (bs : List Byte) : State :=
  match s.workOf tag, s.revokeRun tag with
  | some w, some r =>
    let asked := r.asked.filter (· != src)
    let range := r.range.or (if bs.length ≥ 16 then some (field bs 0 8, field bs 8 8) else none)
    let s := s.modRevoke tag (fun r => { r with asked := asked, range := range })
    if asked.isEmpty ∧ !r.asked.isEmpty then s.revokeTell w (range.getD w.revokeRange) else s
  | _, _ => s

/-- A REVOKE in phase 1 ends once every extent concerned is empty (R158, R160). -/
def State.revokeSettle (s : State) (tag : Nat) : State :=
  match s.workOf tag, s.revokeRun tag with
  | some w, some r =>
    let gone := r.moved = 0 ∨ !s.xlt.extents.any (fun e => e.ctx == r.ctx && e.va == r.va && e.state == .revoking)
    if w.stage ≠ .running ∨ w.phase = 0 ∨ !gone ∨ s.xlt.invalidating.any (fun t => t.1 == r.ctx && t.2.1 == r.va) then s
    else
      let fin (st : Status) (n : Nat) : State :=
        ({ s with xlt.revokes := s.xlt.revokes.filter (fun q => q.tag != tag) } : State).outcome tag st n
      if revokeScope w.desc = 0 then fin .done r.moved
      else if r.lost then (if r.awaiting.isEmpty ∧ r.asked.isEmpty ∧ r.range.isSome then fin .stateConflict 0 else s)
      else match r.report with
        | some n => fin .done (r.moved + n)
        | none => if r.noClaim then fin .done r.moved else s
  | _, _ => s

end Sys2Proof.Machine
end

