-- ==== Sys2Proof/Machine/Scalar.lean ====
section
/-! DEFINITION. The scalar core of a Quince core: local memory, RV64IMAC with Zicsr, the engine-command instructions and traps
(spec/07 R191 to R193, R206 to R209, R214). -/

namespace Sys2Proof.Machine

/-! ### Local memory (R192, R193) -/

/-- The regions of the local address space. -/
inductive LocalRegion where
  | tile | window | near
  deriving DecidableEq, Repr

def kwinBase := 0x007C0000
def kwinEnd := 0x00800000
def nearBase := 0x01000000
def nearEnd := 0x01A00000

/-- The region that holds [a, a + n) whole. -/
def regionOf (a n : Nat) : Option LocalRegion :=
  if a + n ≤ kwinBase then some .tile
  else if kwinBase ≤ a ∧ a + n ≤ kwinEnd then some .window
  else if nearBase ≤ a ∧ a + n ≤ nearEnd then some .near
  else none

/-- Whether an engine may use a range: the tile area or the near region. -/
def engineRange (a n : Nat) : Bool := regionOf a n == some .tile || regionOf a n == some .near

def Core.memOf (k : Core) : LocalRegion → Mem
  | .tile => k.tile | .window => k.kwin | .near => k.near
def Core.keyOf (k : Core) : LocalRegion → Nat
  | .tile => k.tileKey | .window => 0 | .near => k.nearKey
def Core.setMem (k : Core) (m : Mem) : LocalRegion → Core
  | .tile => { k with tile := m } | .window => { k with kwin := m } | .near => { k with near := m }

/-- A byte of T0, which holds no ciphertext: what was written since its content last became undefined (R217). -/
def Mem.local_ (m : Mem) (content a : Nat) : Byte := if m.keys.getD a 0 = content then m.raw a else Config.undefinedByte content a

/-- The bytes of a range of one region with the marks of their sectors. -/
def Core.read (k : Core) (a n : Nat) : List MByte :=
  match regionOf a n with
  | some r => (List.range n).map (fun i => ((k.memOf r).local_ (k.keyOf r) (a + i), (k.memOf r).poisoned (a + i)))
  | none => []

/-- Write marked bytes to a range of one region (R193): a whole sector takes the marks of its data, a sector written in part stays poisoned
or becomes so.  The reservation on a sector written ends. -/
def Core.write (k : Core) (a : Nat) (bs : List MByte) : Core :=
  match regionOf a bs.length with
  | some r =>
    let m := (k.memOf r).writeN (k.keyOf r) a (plain bs)
    let n := bs.length
    let secs := if n = 0 then [] else (List.range ((a + n - 1) / 64 - a / 64 + 1)).map (fun i => a / 64 + i)
    let m := secs.foldl (fun (m : Mem) s =>
      let bad := (List.range 64).any (fun j => decide (a ≤ 64 * s + j) && (bs.getD (64 * s + j - a) (0, false)).2)
      if bad then m.setPoison (64 * s) true
      else if a ≤ 64 * s ∧ 64 * s + 64 ≤ a + n then m.setPoison (64 * s) false
      else m) m
    let k := k.setMem m r
    match k.resv with
    | some v => if secs.contains v then { k with resv := none } else k
    | none => k
  | none => k

/-! ### Cores of the member -/

/-- Content keys of a core's memories: a fresh key makes content undefined. -/
def freshKey (k : Nat) : Nat := 2 ^ 62 + k

def blankMem : Mem := ⟨[], [], []⟩

/-- A core as it stands before its island is first powered. -/
def blankCore (n : Nat) : Core :=
  { state := .off, isolation := 0, tile := blankMem, tileKey := freshKey n, kwin := blankMem, near := blankMem, nearKey := freshKey (16 + n),
    regs := [], pc := 0, codeLen := 0, ticket := 0, statuses := [], matrix := [], vector := [], dma := [], run := none, resv := none,
    cycle := 0, instret := 0, launch := none, rank := 0, exiting := none, ended := none, attend := none, since := 0, matCycles := 0,
    vecCycles := 0, readBytes := 0, writeBytes := 0 }

def State.core (s : State) (n : Nat) : Core := s.qnc.cores.getD n (blankCore n)
def State.setCore (s : State) (n : Nat) (k : Core) : State := { s with qnc.cores := s.qnc.cores.store n k (blankCore n) }

/-- Bank offset of a register of core `n` (0x4000 apart). -/
def Fld.core (f : Fld) (n : Nat) : Fld := f.step 0x4000 n

/-- Content of the near region becomes undefined (R471). -/
def State.loseNear (s : State) (n : Nat) : State :=
  let (k, s) := s.draw
  s.setCore n { s.core n with near := blankMem, nearKey := freshKey (65 + 2 * k) }

/-- Content of the tile store becomes undefined (R217). -/
def State.loseTile (s : State) (n : Nat) : State :=
  let (k, s) := s.draw
  s.setCore n { s.core n with tile := blankMem, kwin := blankMem, tileKey := freshKey (64 + 2 * k) }

/-! ### Instruction fetch (R206) and the compressed encodings -/

/-- Rebuild a 32-bit encoding from its fields. -/
def encI (op f3 rd rs1 imm : Nat) : Nat := op + rd * 2 ^ 7 + f3 * 2 ^ 12 + rs1 * 2 ^ 15 + imm % 4096 * 2 ^ 20
def encR (op f3 f7 rd rs1 rs2 : Nat) : Nat := op + rd * 2 ^ 7 + f3 * 2 ^ 12 + rs1 * 2 ^ 15 + rs2 * 2 ^ 20 + f7 * 2 ^ 25
def encS (op f3 rs1 rs2 imm : Nat) : Nat :=
  op + imm % 32 * 2 ^ 7 + f3 * 2 ^ 12 + rs1 * 2 ^ 15 + rs2 * 2 ^ 20 + imm / 32 % 128 * 2 ^ 25
def encB (f3 rs1 rs2 imm : Nat) : Nat :=
  0x63 + bitsOf imm 11 1 * 2 ^ 7 + bitsOf imm 1 4 * 2 ^ 8 + f3 * 2 ^ 12 + rs1 * 2 ^ 15 + rs2 * 2 ^ 20 + bitsOf imm 5 6 * 2 ^ 25 + bitsOf imm 12 1 * 2 ^ 31
def encJ (rd imm : Nat) : Nat :=
  0x6F + rd * 2 ^ 7 + bitsOf imm 12 8 * 2 ^ 12 + bitsOf imm 11 1 * 2 ^ 20 + bitsOf imm 1 10 * 2 ^ 21 + bitsOf imm 20 1 * 2 ^ 31

/-- Sign-extend the low `w` bits to 64. -/
def sext64 (w v : Nat) : Nat := ofSigned 64 (toSigned w v)

/-- The 6-bit immediate of the CI formats, sign-extended to 12 bits. -/
def ciImm (h : Nat) : Nat := ofSigned 12 (toSigned 6 (bitsOf h 2 5 + 32 * bitsOf h 12 1))

/-- Quadrant 0 of the compressed set. -/
def expandC0 (h : Nat) : Option Nat :=
  let rd := 8 + bitsOf h 2 3
  let rs := 8 + bitsOf h 7 3
  let w := bitsOf h 10 3 * 8 + bitsOf h 6 1 * 4 + bitsOf h 5 1 * 64
  let d := bitsOf h 10 3 * 8 + bitsOf h 5 2 * 64
  match bitsOf h 13 3 with
  | 0 =>
    let imm := bitsOf h 11 2 * 16 + bitsOf h 7 4 * 64 + bitsOf h 6 1 * 4 + bitsOf h 5 1 * 8
    if imm = 0 then none else some (encI 0x13 0 rd 2 imm)
  | 2 => some (encI 0x03 2 rd rs w)
  | 3 => some (encI 0x03 3 rd rs d)
  | 6 => some (encS 0x23 2 rs rd w)
  | 7 => some (encS 0x23 3 rs rd d)
  | _ => none

/-- Quadrant 1. -/
def expandC1 (h : Nat) : Option Nat :=
  let rd := bitsOf h 7 5
  let rp := 8 + bitsOf h 7 3
  let r2 := 8 + bitsOf h 2 3
  let sh := bitsOf h 2 5 + 32 * bitsOf h 12 1
  match bitsOf h 13 3 with
  | 0 => some (encI 0x13 0 rd rd (ciImm h))
  | 1 => if rd = 0 then none else some (encI 0x1B 0 rd rd (ciImm h))
  | 2 => some (encI 0x13 0 rd 0 (ciImm h))
  | 3 =>
    if rd = 2 then
      let imm := bitsOf h 6 1 * 16 + bitsOf h 2 1 * 32 + bitsOf h 5 1 * 64 + bitsOf h 3 2 * 128 + bitsOf h 12 1 * 512
      if imm = 0 then none else some (encI 0x13 0 2 2 (ofSigned 12 (toSigned 10 imm)))
    else if sh = 0 then none else some (0x37 + rd * 2 ^ 7 + ofSigned 20 (toSigned 6 sh) * 2 ^ 12)
  | 4 =>
    match bitsOf h 10 2 with
    | 0 => some (encI 0x13 5 rp rp sh)
    | 1 => some (encI 0x13 5 rp rp (sh + 0x400))
    | 2 => some (encI 0x13 7 rp rp (ciImm h))
    | _ =>
      if bitAt h 12 then
        (match bitsOf h 5 2 with | 0 => some (encR 0x3B 0 0x20 rp rp r2) | 1 => some (encR 0x3B 0 0 rp rp r2) | _ => none)
      else
        (match bitsOf h 5 2 with
         | 0 => some (encR 0x33 0 0x20 rp rp r2) | 1 => some (encR 0x33 4 0 rp rp r2)
         | 2 => some (encR 0x33 6 0 rp rp r2) | _ => some (encR 0x33 7 0 rp rp r2))
  | 5 =>
    let imm := bitsOf h 3 3 * 2 + bitsOf h 11 1 * 16 + bitsOf h 2 1 * 32 + bitsOf h 7 1 * 64 + bitsOf h 6 1 * 128 + bitsOf h 9 2 * 256
      + bitsOf h 8 1 * 1024 + bitsOf h 12 1 * 2048
    some (encJ 0 (ofSigned 21 (toSigned 12 imm)))
  | n =>
    let imm := bitsOf h 3 2 * 2 + bitsOf h 10 2 * 8 + bitsOf h 2 1 * 32 + bitsOf h 5 2 * 64 + bitsOf h 12 1 * 256
    some (encB (n - 6) rp 0 (ofSigned 13 (toSigned 9 imm)))

/-- Quadrant 2. -/
def expandC2 (h : Nat) : Option Nat :=
  let rd := bitsOf h 7 5
  let r2 := bitsOf h 2 5
  match bitsOf h 13 3 with
  | 0 => some (encI 0x13 1 rd rd (r2 + 32 * bitsOf h 12 1))
  | 2 => if rd = 0 then none else some (encI 0x03 2 rd 2 (bitsOf h 12 1 * 32 + bitsOf h 4 3 * 4 + bitsOf h 2 2 * 64))
  | 3 => if rd = 0 then none else some (encI 0x03 3 rd 2 (bitsOf h 12 1 * 32 + bitsOf h 5 2 * 8 + bitsOf h 2 3 * 64))
  | 4 =>
    if bitAt h 12 then
      if rd = 0 ∧ r2 = 0 then some 0x00100073
      else if r2 = 0 then some (encI 0x67 0 1 rd 0)
      else some (encR 0x33 0 0 rd rd r2)
    else if r2 = 0 then (if rd = 0 then none else some (encI 0x67 0 0 rd 0))
    else some (encR 0x33 0 0 rd 0 r2)
  | 6 => some (encS 0x23 2 2 r2 (bitsOf h 9 4 * 4 + bitsOf h 7 2 * 64))
  | 7 => some (encS 0x23 3 2 r2 (bitsOf h 10 3 * 8 + bitsOf h 7 3 * 64))
  | _ => none

/-- A compressed instruction as the base instruction it stands for; none when it is reserved, or of F or D. -/
def expandC (h : Nat) : Option Nat := if h % 4 = 0 then expandC0 h else if h % 4 = 1 then expandC1 h else if h % 4 = 2 then expandC2 h else none

/-- Fetch at pc: the instruction as 32 bits (none: illegal) and its length; `none` where it is not in the code area. -/
def Core.fetch (k : Core) : Option (Option Nat × Nat) :=
  let inCode (n : Nat) : Bool := decide (kwinBase ≤ k.pc ∧ k.pc + n ≤ kwinBase + k.codeLen)
  if !inCode 2 then none
  else
    let h := leNat (plain (k.read k.pc 2))
    if h % 4 ≠ 3 then some (expandC h, 2)
    else if !inCode 4 then none
    else some (some (leNat (plain (k.read k.pc 4))), 4)

/-! ### Registers, loads and stores -/

def Core.reg (k : Core) (i : Nat) : Nat := if i = 0 then 0 else k.regs.getD i 0
/-- x0 discards writes. -/
def Core.setReg (k : Core) (i v : Nat) : Core := if i = 0 then k else { k with regs := k.regs.store i (v % 2 ^ 64) 0 }

def cIllegal := 1
def cFetch := 2
def cLoad := 3
def cStore := 4
def cEcall := 5
def cEbreak := 6
def cPoison := 7
def cBudget := 8
def cCsum := 9
def cWatchdog := 0x0A
def cReset := 0x0B
def cPersistent := 0x0C

/-- The status of a trap cause (R209). -/
def causeStatus (c : Nat) : Status :=
  if c = 1 ∨ c = 5 ∨ c = 6 then .badDescriptor else if c = 2 ∨ c = 3 ∨ c = 4 then .access else if c = 7 then .poison
  else if c = 8 ∨ c = 0x0A then .timeout else if c = 0x0B then .stateConflict else .internal

/-- A scalar load of n bytes: misaligned ones are performed within one region (R206). -/
def Core.load (k : Core) (a n : Nat) : Except Nat Nat :=
  if (regionOf a n).isNone then .error cLoad
  else
    let bs := k.read a n
    if bs.any (fun b => b.2) then .error cPoison else .ok (leNat (plain bs))

/-- Whether a scalar store may go to a range: not into the code area. -/
def Core.storable (k : Core) (a n : Nat) : Bool :=
  (regionOf a n).isSome && !(decide (a < kwinBase + k.codeLen ∧ kwinBase < a + n))

def Core.store (k : Core) (a n v : Nat) : Except Nat Core :=
  if k.storable a n then .ok (k.write a (unmarked (natLe n v))) else .error cStore

/-! ### Execution (R206) -/

def w64 (n : Nat) : Nat := n % 2 ^ 64
def s64 (n : Nat) : Int := toSigned 64 n
def s32 (n : Nat) : Int := toSigned 32 n

/-- Integer operations of OP and OP-IMM. -/
def aluOp (f3 alt a b : Nat) : Nat :=
  match f3 with
  | 0 => if alt = 1 then w64 (a + 2 ^ 64 - b) else w64 (a + b)
  | 1 => w64 (a * 2 ^ (b % 64))
  | 2 => if s64 a < s64 b then 1 else 0
  | 3 => if a < b then 1 else 0
  | 4 => a ^^^ b
  | 5 => if alt = 1 then ofSigned 64 (s64 a / 2 ^ (b % 64)) else a / 2 ^ (b % 64)
  | 6 => a ||| b
  | _ => a &&& b

/-- The word operations. -/
def aluOpW (f3 alt a b : Nat) : Nat :=
  let a := a % 2 ^ 32
  let b := b % 2 ^ 32
  sext64 32 (match f3 with
    | 0 => if alt = 1 then a + 2 ^ 32 - b else a + b
    | 1 => a * 2 ^ (b % 32)
    | _ => if alt = 1 then ofSigned 32 (s32 a / 2 ^ (b % 32)) else a / 2 ^ (b % 32))

/-- M on `w` bits, with the division corners of the RISC-V standard. -/
def mulDiv (w f3 a b : Nat) : Nat :=
  let a := a % 2 ^ w
  let b := b % 2 ^ w
  let sa := toSigned w a
  let sb := toSigned w b
  match f3 with
  | 0 => a * b % 2 ^ w
  | 1 => ofSigned w (sa * sb / 2 ^ w)
  | 2 => ofSigned w (sa * b / 2 ^ w)
  | 3 => a * b / 2 ^ w
  | 4 => if b = 0 then 2 ^ w - 1 else ofSigned w (Int.tdiv sa sb)
  | 5 => if b = 0 then 2 ^ w - 1 else a / b
  | 6 => if b = 0 then a else ofSigned w (Int.tmod sa sb)
  | _ => if b = 0 then a else a % b

/-- The value an AMO writes, on `w` bits. -/
def amoOp (f5 w old b : Nat) : Option Nat :=
  let b := b % 2 ^ w
  if f5 = 1 then some b
  else if f5 = 0 then some ((old + b) % 2 ^ w)
  else if f5 = 4 then some (old ^^^ b)
  else if f5 = 12 then some (old &&& b)
  else if f5 = 8 then some (old ||| b)
  else if f5 = 16 then some (if toSigned w old ≤ toSigned w b then old else b)
  else if f5 = 20 then some (if toSigned w old ≤ toSigned w b then b else old)
  else if f5 = 24 then some (min old b)
  else if f5 = 28 then some (max old b)
  else none

/-- LR, SC and AMO act on T0, the tile store and the near region, naturally aligned (R161, R206). -/
def amoRange (a n : Nat) : Bool := a % n == 0 && (regionOf a n).isSome

def Core.atomic (k : Core) (ins : Nat) : Except Nat Core :=
  let rd := bitsOf ins 7 5
  let f3 := bitsOf ins 12 3
  let rs2 := bitsOf ins 20 5
  let f5 := bitsOf ins 27 5
  let a := k.reg (bitsOf ins 15 5)
  let n := if f3 = 2 then 4 else 8
  if f3 ≠ 2 ∧ f3 ≠ 3 then .error cIllegal
  else if f5 = 2 then
    if rs2 ≠ 0 then .error cIllegal
    else if !amoRange a n then .error cLoad
    else match k.load a n with
      | .error c => .error c
      | .ok v => .ok { k.setReg rd (sext64 (8 * n) v) with resv := some (a / 64) }
  else if f5 = 3 then
    if !amoRange a n ∨ !k.storable a n then .error cStore
    else if k.resv = some (a / 64) then
      match k.store a n (k.reg rs2) with
      | .error c => .error c
      | .ok k => .ok { k.setReg rd 0 with resv := none }
    else .ok { k.setReg rd 1 with resv := none }
  else match amoOp f5 (8 * n) 0 0 with
    | none => .error cIllegal
    | some _ =>
      if !amoRange a n ∨ !k.storable a n then .error cStore
      else match k.load a n with
        | .error c => .error c
        | .ok old =>
          match k.store a n ((amoOp f5 (8 * n) old (k.reg rs2)).getD 0) with
          | .error c => .error c
          | .ok k => .ok (k.setReg rd (sext64 (8 * n) old))

/-- The effect of one instruction that is not one of R207, without the pc: the core with its next pc, or a trap cause.  `time` is
the domain time. -/
def Core.execute (k : Core) (ins len time : Nat) : Except Nat Core :=
  let rd := bitsOf ins 7 5
  let f3 := bitsOf ins 12 3
  let rs1 := bitsOf ins 15 5
  let rs2 := bitsOf ins 20 5
  let f7 := bitsOf ins 25 7
  let a := k.reg rs1
  let b := k.reg rs2
  let immI := sext64 12 (bitsOf ins 20 12)
  let immS := sext64 12 (bitsOf ins 7 5 + 32 * f7)
  let next (k : Core) : Except Nat Core := .ok { k with pc := w64 (k.pc + len) }
  let jump (k : Core) (t : Nat) : Except Nat Core := .ok { k with pc := w64 t }
  match ins % 128 with
  | 0x37 => next (k.setReg rd (sext64 32 (ins / 4096 * 4096)))
  | 0x17 => next (k.setReg rd (w64 (k.pc + sext64 32 (ins / 4096 * 4096))))
  | 0x6F =>
    let imm := bitsOf ins 21 10 * 2 + bitsOf ins 20 1 * 2 ^ 11 + bitsOf ins 12 8 * 2 ^ 12 + bitsOf ins 31 1 * 2 ^ 20
    jump (k.setReg rd (k.pc + len)) (k.pc + sext64 21 imm)
  | 0x67 => if f3 ≠ 0 then .error cIllegal else jump (k.setReg rd (k.pc + len)) (w64 (a + immI) / 2 * 2)
  | 0x63 =>
    let imm := bitsOf ins 8 4 * 2 + bitsOf ins 25 6 * 2 ^ 5 + bitsOf ins 7 1 * 2 ^ 11 + bitsOf ins 31 1 * 2 ^ 12
    let taken : Option Bool := match f3 with
      | 0 => some (a == b) | 1 => some (a != b) | 4 => some (decide (s64 a < s64 b)) | 5 => some (decide (s64 b ≤ s64 a))
      | 6 => some (decide (a < b)) | 7 => some (decide (b ≤ a)) | _ => none
    match taken with
    | none => .error cIllegal
    | some true => jump k (k.pc + sext64 13 imm)
    | some false => next k
  | 0x03 =>
    if f3 = 7 then .error cIllegal
    else
      let n := 2 ^ (f3 % 4)
      match k.load (w64 (a + immI)) n with
      | .error c => .error c
      | .ok v => next (k.setReg rd (if f3 < 4 then sext64 (8 * n) v else v))
  | 0x23 =>
    if f3 ≥ 4 then .error cIllegal
    else match k.store (w64 (a + immS)) (2 ^ f3) b with
      | .error c => .error c
      | .ok k => next k
  | 0x13 =>
    if f3 = 1 ∧ f7 / 2 ≠ 0 then .error cIllegal
    else if f3 = 5 ∧ f7 / 2 ≠ 0 ∧ f7 / 2 ≠ 0x10 then .error cIllegal
    else next (k.setReg rd (aluOp f3 (if f3 = 5 ∧ f7 / 2 = 0x10 then 1 else 0) a (if f3 = 1 ∨ f3 = 5 then bitsOf ins 20 6 else immI)))
  | 0x1B =>
    if f3 = 0 then next (k.setReg rd (aluOpW 0 0 a immI))
    else if f3 = 1 ∧ f7 = 0 then next (k.setReg rd (aluOpW 1 0 a rs2))
    else if f3 = 5 ∧ (f7 = 0 ∨ f7 = 0x20) then next (k.setReg rd (aluOpW 5 (if f7 = 0x20 then 1 else 0) a rs2))
    else .error cIllegal
  | 0x33 =>
    if f7 = 1 then next (k.setReg rd (mulDiv 64 f3 a b))
    else if f7 = 0 then next (k.setReg rd (aluOp f3 0 a b))
    else if f7 = 0x20 ∧ (f3 = 0 ∨ f3 = 5) then next (k.setReg rd (aluOp f3 1 a b))
    else .error cIllegal
  | 0x3B =>
    if f7 = 1 ∧ (f3 = 0 ∨ f3 ≥ 4) then next (k.setReg rd (sext64 32 (mulDiv 32 f3 a b)))
    else if f7 = 0 ∧ (f3 = 0 ∨ f3 = 1 ∨ f3 = 5) then next (k.setReg rd (aluOpW f3 0 a b))
    else if f7 = 0x20 ∧ (f3 = 0 ∨ f3 = 5) then next (k.setReg rd (aluOpW f3 1 a b))
    else .error cIllegal
  | 0x0F => if f3 = 0 then next k else .error cIllegal
  | 0x2F => match k.atomic ins with
    | .error c => .error c
    | .ok k => next k
  | 0x73 =>
    let csr := bitsOf ins 20 12
    if f3 = 0 then (if ins = 0x00000073 then .error cEcall else if ins = 0x00100073 then .error cEbreak else .error cIllegal)
    else if f3 = 4 ∨ f3 % 4 = 1 ∨ rs1 ≠ 0 then .error cIllegal
    else if csr = 0xC00 then next (k.setReg rd k.cycle)
    else if csr = 0xC01 then next (k.setReg rd time)
    else if csr = 0xC02 then next (k.setReg rd k.instret)
    else .error cIllegal
  | _ => .error cIllegal

/-- The instruction of R207 an encoding is: its funct3. -/
def qFunct (ins : Nat) : Option Nat := if ins % 128 = 0x0B ∧ bitsOf ins 25 7 = 0 ∧ bitsOf ins 12 3 < 6 then some (bitsOf ins 12 3) else none

/-! ### Traps and exits (R209, R214) -/

/-- The kernel-window offset of the pc. -/
def Core.pcOff (k : Core) : Nat := (k.pc + 2 ^ 64 - kwinBase) % 2 ^ 64

/-- Latch a trap in `QNC_FAULT`: the first since the last read keeps its cause, status and offset. -/
def State.noteTrap (s : State) (n cause detail : Nat) : State :=
  let s := if s.fld (F.QNC_FAULT_COUNT.core n) = 0 then
      ((s.setF (F.QNC_FAULT_DETAIL.core n) detail).setF (F.QNC_FAULT_CAUSE.core n) cause).setF (F.QNC_FAULT_STATUS.core n) (causeStatus cause).code
    else s
  s.count (F.QNC_FAULT_COUNT.core n)

/-- TRAP (R209): the kernel on the core ends with the status of the cause, RESULT the faulting offset.  A kernel that is already leaving meets
no more traps of its own, but a cause that stops the core (0x09 to 0x0C) ends its part with the status of that cause (R217). -/
def State.coreTrap (s : State) (n cause : Nat) : State :=
  let k := s.core n
  if k.launch.isNone ∨ k.ended.isSome ∨ (k.exiting.isSome ∧ cause < 9) then s
  else
    let s := match k.launch.bind s.workOf with
      | some w => if cause = cPoison then s.consumePoison w.ctx w.opcode 0 else s
      | none => s
    (s.noteTrap n cause k.pcOff).setCore n { k with exiting := some ((causeStatus cause).code, k.pcOff) }

/-- Whether the scalar core of `n` executes: a kernel runs on it and has not left. -/
def State.scalarRuns (s : State) (n : Nat) : Bool :=
  let k := s.core n
  k.state == .kernel && k.launch.isSome && k.exiting.isNone && k.ended.isNone

/-- SCALAR_INSTRUCTION (R206): the next instruction of a core, unless it is one of R207. The cycle counter advances by an amount the
spec leaves open (log entry 23). -/
def State.scalarInstruction (s : State) (n : Nat) : State :=
  if !s.scalarRuns n then s
  else
    let k := s.core n
    match k.fetch with
    | none => s.coreTrap n cFetch
    | some (none, _) => s.coreTrap n cIllegal
    | some (some ins, len) =>
      if (qFunct ins).isSome then s
      else
        let (d, s) := s.draw
        let k := { k with cycle := w64 (k.cycle + 1 + Config.freeValue d) }
        match k.execute ins len s.domainTime with
        | .error c => s.coreTrap n c
        | .ok k => s.setCore n { k with instret := w64 (k.instret + 1) }

/-! ### The instructions of R207 -/

/-- The instruction at the pc of a running scalar core, if it is the one with a given funct3. -/
def State.atQ (s : State) (n f3 : Nat) : Option (Nat × Nat) :=
  if !s.scalarRuns n then none
  else match (s.core n).fetch with
    | some (some ins, len) => if qFunct ins = some f3 then some (ins, len) else none
    | _ => none

/-- A completed instruction of R207: rd and the pc. -/
def Core.retire (k : Core) (len rd v : Nat) : Core := { k.setReg rd v with pc := w64 (k.pc + len), instret := w64 (k.instret + 1) }

/-- A core has completed an instruction of R207; its cycle counter advances by a free amount (log entry 23). -/
def State.retired (s : State) (n : Nat) (k : Core) : State :=
  let (d, s) := s.draw
  s.setCore n { k with cycle := w64 (k.cycle + 1 + Config.freeValue d) }

/-- Whether a ticket's command still waits or runs. -/
def Core.ticketOpen (k : Core) (t : Nat) : Bool :=
  (k.matrix ++ k.vector ++ k.dma).any (fun c => c.ticket == t) || (match k.run with | some r => r.cmd.ticket == t | none => false)

/-- What `qwait` and `qpoll` see of a ticket: its status, none while it has not completed (R208). -/
def Core.ticketStatus (k : Core) (t : Nat) : Option Status :=
  if t = 0 ∨ k.ticket < t ∨ t + 1024 ≤ k.ticket then some .stateConflict
  else match k.statuses.find? (fun e => e.1 == t) with
    | some e => e.2
    | none => some .stateConflict

/-- A ticket is issued: the statuses of the newest 1,024 are kept. -/
def Core.issueTicket (k : Core) : Core :=
  { k with ticket := k.ticket + 1, statuses := (k.statuses ++ [(k.ticket + 1, none)]).drop (k.statuses.length + 1 - 1024) }

/-- A command completes. -/
def Core.complete (k : Core) (t : Nat) (st : Status) : Core :=
  { k with statuses := k.statuses.map (fun e => if e.1 == t then (t, some st) else e) }

/-- Whether a record is malformed in what R208 names: a reserved ENGINE or OP, or a reserved field not zero. -/
def recordMalformed (b : List Byte) : Bool :=
  let e := field b 0 1
  let op := field b 1 1
  let z (o n : Nat) : Bool := !allZero (slice b o n)
  if e = 0 then decide (op ≠ 1 ∨ field b 2 2 ≥ 2) || z 11 1 || z 30 2 || z 56 8
  else if e = 1 then decide (op = 0 ∨ op > 0x11 ∨ field b 2 2 ≠ 0) || z 10 2 || z 38 26
  else if e = 2 then decide (op = 0 ∨ op > 5 ∨ field b 2 2 ≠ 0) || z 11 1 || z 30 2 || z 48 16 || (op == 4 && z 20 4)
  else true

def Core.queueOf (k : Core) (e : Nat) : List EngCmd := if e = 0 then k.matrix else if e = 1 then k.vector else k.dma
def Core.setQueue (k : Core) (e : Nat) (q : List EngCmd) : Core :=
  if e = 0 then { k with matrix := q } else if e = 1 then { k with vector := q } else { k with dma := q }

/-- QISSUE (R207, R208): a record that cannot be read traps as the scalar load it is. -/
def State.qissue (s : State) (n : Nat) : State :=
  match s.atQ n 0 with
  | none => s
  | some (ins, len) =>
    let k := s.core n
    let a := k.reg (bitsOf ins 15 5)
    let bs := k.read a 64
    if a % 64 ≠ 0 ∨ (regionOf a 64).isNone then s.coreTrap n cLoad
    else if bs.any (fun b => b.2) then s.coreTrap n cPoison
    else
      let b := plain bs
      let e := field b 0 1
      if recordMalformed b then
        let k := k.issueTicket
        s.retired n ((k.complete k.ticket .badDescriptor).retire len (bitsOf ins 7 5) k.ticket)
      else if (k.queueOf e).length ≥ 64 then s
      else
        let k := k.issueTicket
        s.retired n ((k.setQueue e (k.queueOf e ++ [⟨k.ticket, b⟩])).retire len (bitsOf ins 7 5) k.ticket)

/-- QWAIT: stalls until the ticket has completed. -/
def State.qwait (s : State) (n : Nat) : State :=
  match s.atQ n 1 with
  | none => s
  | some (ins, len) =>
    let k := s.core n
    match k.ticketStatus (k.reg (bitsOf ins 15 5)) with
    | none => s
    | some st => s.retired n (k.retire len (bitsOf ins 7 5) st.code)

/-- QPOLL. -/
def State.qpoll (s : State) (n : Nat) : State :=
  match s.atQ n 2 with
  | none => s
  | some (ins, len) =>
    let k := s.core n
    let v := match k.ticketStatus (k.reg (bitsOf ins 15 5)) with | none => 0x100 | some st => st.code
    s.retired n (k.retire len (bitsOf ins 7 5) v)

/-- Whether the engines of a mask have nothing issued and not completed. -/
def Core.quiet (k : Core) (mask : Nat) : Bool :=
  (!bitAt mask 0 || k.matrix.isEmpty) && (!bitAt mask 1 || k.vector.isEmpty) && (!bitAt mask 2 || (k.dma.isEmpty && k.run.isNone))

/-- QFENCE. -/
def State.qfence (s : State) (n : Nat) : State :=
  match s.atQ n 3 with
  | none => s
  | some (ins, len) =>
    let k := s.core n
    if k.quiet (k.reg (bitsOf ins 15 5)) then s.retired n (k.retire len 0 0) else s

/-- QEXIT (R214): the kernel on the core leaves with a status and a result. -/
def State.qexit (s : State) (n : Nat) : State :=
  match s.atQ n 4 with
  | none => s
  | some (ins, len) =>
    let k := s.core n
    let v := (k.reg (bitsOf ins 15 5) % 256, k.reg (bitsOf ins 20 5))
    s.retired n { k.retire len 0 0 with exiting := some v }

/-- QINFO. -/
def State.qinfo (s : State) (n : Nat) : State :=
  match s.atQ n 5 with
  | none => s
  | some (ins, len) =>
    let k := s.core n
    let l := (s.qnc.launches.find? (fun l => some l.tag == k.launch))
    let item := k.reg (bitsOf ins 15 5)
    let v := if item = 0 then n
      else if item = 1 then (match l with | some l => l.cores.length | none => 0)
      else if item = 2 then k.rank
      else if item = 3 then (match l with | some l => l.args.length | none => 0)
      else if item = 4 then (match s.sliceOfCore n with | some e => e.2.partition | none => 0)
      else if item = 5 then w64 s.domainTime
      else if item = 6 then s.devnum else 0
    s.retired n (k.retire len (bitsOf ins 7 5) v)

end Sys2Proof.Machine
end

