-- ==== Sys2Proof/Machine/Engines.lean ====
section
/-! DEFINITION. The matrix, vector and DMA engines of a Quince core (spec/07 R193 to R205, R208, R216). -/

namespace Sys2Proof.Machine

/-! ### Commands (R208) -/

/-- The command at the head of an engine's queue, if the engine serves a kernel, no sentinel is due ahead of it (R396), and the ticket it
waits for has completed. -/
def State.engineHead (s : State) (n e : Nat) : Option EngCmd :=
  let k := s.core n
  let sentinel := e < 2 ∧ s.ras.sentinelDue.contains (2 * n + e)
  if k.state ≠ .kernel ∨ k.launch.isNone ∨ (e = 2 ∧ k.run.isSome) ∨ sentinel then none
  else match k.queueOf e with
    | c :: _ =>
      let t := field c.bytes 4 4
      if t ≠ 0 ∧ (k.ticketOpen t ∨ k.ticket < t) then none else some c
    | [] => none

/-- Note that a command of a request ran on an engine (R409): the latest time for each request, 3 engines to a core. -/
def State.ranOn (s : State) (n e : Nat) (x : Suspect) : State :=
  let keep := s.ras.history.filter (fun h => !(h.2.1 == 3 * n + e && h.2.2 == x) && decide (s.now < h.1 + 10000 * nsPerMs))
  { s with ras.history := keep ++ [(s.now, 3 * n + e, x)] }

/-- The suspect a kernel's command is. -/
def State.kernelSuspect (s : State) (n : Nat) : Suspect :=
  let t := (s.core n).launch.getD 0
  ⟨match s.workOf t with | some w => w.ctx | none => 0, t, 0, false⟩

/-- Take a completed command off its queue. -/
def Core.endCommand (k : Core) (e : Nat) (c : EngCmd) (st : Status) : Core :=
  (k.setQueue e ((k.queueOf e).filter (fun x => x.ticket != c.ticket))).complete c.ticket st

/-- A counter kept in larger units than what it counts: whole units, and what is left. -/
def unitsOf (per rest n : Nat) : Nat × Nat := ((rest + n) / per, (rest + n) % per)

/-! ### Products of the array (R200, R201) -/

/-- A row of the array: element values and, for MX, the scale bytes of its blocks. -/
abbrev ArrayRow := List Fl × List Nat

/-- The `n` elements of a row from element `k`. -/
def rowCut (r : ArrayRow) (k n : Nat) : ArrayRow := ((r.1.drop k).take n, (r.2.drop (k / 32)).take (ceilDiv n 32))

/-- The values of a row with the scales of its blocks applied. -/
def rowDecoded (mx : Bool) (r : ArrayRow) : List Fl :=
  if mx then (r.1.zipIdx).map (fun x => let c := r.2.getD (x.2 / 32) 127; if c = 0xFF then Fl.nan else x.1.scale ((c : Int) - 127)) else r.1

/-- The checksum row of a stationary block: the FP32 sum of its rows, element by element (R200). -/
def checksumRow (free : Nat) (mx : Bool) (bs : List ArrayRow) : List Fl :=
  let rows := bs.map (rowDecoded mx)
  (List.range (rows.headD []).length).map (fun k =>
    sumFree bs.length (Config.freeValue (free + k)) (rows.map (fun r => (r.getD k (.fin false 0 0)).r32)))

/-- What a streamed row produces in a pass: its outputs, and the checksum output s. -/
def passRow (free : Nat) (mx : Bool) (a : ArrayRow) (bs : List ArrayRow) (sums : List Fl) : List Fl × Fl :=
  let products := (List.zip (rowDecoded mx a) sums).map (fun p => (p.1.mul p.2).r32)
  ((bs.zipIdx).map (fun b => dotFree (Config.freeValue (free + b.2)) mx a.1 b.1.1 a.2 b.1.2),
   sumFree products.length (Config.freeValue (free + 128)) products)

/-- Whether s and the sum of a row's outputs mismatch (R201); a row that is not all finite is not checked. -/
def rowMismatch (tol : Nat) (row : List Fl × Fl) : Bool :=
  let zero := Fl.fin false 0 0
  let d := (row.2.sub (row.1.foldl Fl.add zero)).abs
  let bound := (row.2.abs.add (row.1.foldl (fun t c => t.add c.abs) zero)).scale (-(tol : Int))
  row.1.all Fl.isFin && row.2.isFin && !d.le bound && !d.le (.fin false 1 (-120))

/-- One run of a pass: the rows' outputs, with the faults that befall them. -/
def passRun (free : Nat) (mx : Bool) (faults : List ArrayFault) (rows bs : List ArrayRow) : List (List Fl × Fl) :=
  let sums := checksumRow (free + 129 * rows.length) mx bs
  (rows.zipIdx).map (fun a =>
    let o := passRow (free + 129 * a.2) mx a.1 bs sums
    (faults.filter (fun f => f.row == a.2)).foldl (fun o f =>
      if f.col = 128 then (o.1, fp32.decode f.code) else (o.1.set f.col (fp32.decode f.code), o.2)) o)

/-- A product of streamed and stationary rows: the outputs of each pass in order, how many passes were recomputed to a match, and whether
one mismatched again (R201). -/
structure ArrayProduct where
  passes : List (List (List Fl))
  transient : Nat
  failed : Bool

/-- Free values a product takes. -/
def productFree (rows cols k kpass : Nat) : Nat := 2 * (ceilDiv cols 128 * ceilDiv k kpass) * (129 * rows + kpass) + rows * cols

/-- The passes of a product, ⌈N / 128⌉ x ⌈K / K_pass⌉ of them, each recomputed once on a mismatch (R200, R201). -/
def arrayProduct (tol kpass k free : Nat) (mx : Bool) (faults : List ArrayFault) (rows bs : List ArrayRow) : ArrayProduct :=
  let deep := ceilDiv k kpass
  let size := 129 * rows.length + kpass
  (List.range (ceilDiv bs.length 128 * deep)).foldl (fun p i =>
    if p.failed then p
    else
      let block := ((bs.drop (128 * (i / deep))).take 128).map (fun b => rowCut b (kpass * (i % deep)) kpass)
      let cut := rows.map (fun a => rowCut a (kpass * (i % deep)) kpass)
      let run (r : Nat) := passRun (free + (2 * i + r) * size) mx (faults.filter (fun f => f.pass == i && f.run == r)) cut block
      let bad (o : List (List Fl × Fl)) : Bool := o.any (rowMismatch tol)
      if bad (run 0) then { passes := p.passes ++ [(run 1).map Prod.fst], transient := p.transient + (if bad (run 1) then 0 else 1), failed := bad (run 1) }
      else { p with passes := p.passes ++ [(run 0).map Prod.fst] }) ⟨[], 0, false⟩

/-- Element (i, j) of a product: the passes' sums, with `more` added in, in a free order (R198). -/
def ArrayProduct.value (p : ArrayProduct) (free deep i j : Nat) (more : List Fl) : Fl :=
  let parts := (List.range deep).map (fun q => ((p.passes.getD (j / 128 * deep + q) []).getD i []).getD (j % 128) (.fin false 0 0)) ++ more
  sumFree parts.length (Config.freeValue free) parts

/-! ### The matrix engine (R194, R199 to R201) -/

def isFp6 (el : Nat) : Bool := el == 3 || el == 4
def isFp8or (el : Nat) : Bool := el == 1 || el == 2 || el == 6

/-- K_pass and L of an operand pair (R200); none for any other pairing. -/
def mmaPair (a b : Nat) : Option (Nat × Nat) :=
  if a = 5 ∧ b = 5 then some (256, 16)
  else if isMx a ∧ isMx b ∧ (isFp8or a || isFp8or b) then some (128, 16)
  else if isFp6 a ∧ isFp6 b then some (128, 12)
  else if a = b ∧ (a = elBF16 ∨ a = elFP16) then some (64, 16)
  else none

/-- Local bytes of a packed row of n elements. -/
def rowBytes (el n : Nat) : Nat := ceilDiv (n * elemBits el) 8

/-- Whether a strided set of rows lies in one engine region. -/
def rowsOk (a rows stride bytes : Nat) : Bool := engineRange a ((rows - 1) * stride + bytes)

/-- The element codes of a row with their marks. -/
def Core.rowElems (k : Core) (el a n : Nat) : List MElem :=
  let bs := k.read a (rowBytes el n)
  let b := elemBits el
  (List.range n).map (fun i => (elemAt el (plain bs) i, ((bs.drop (i * b / 8)).take ((i * b % 8 + b + 7) / 8)).any (fun x => x.2)))

/-- The bytes of packed marked elements: a byte carries the marks of the elements it holds. -/
def packMarked (el : Nat) (xs : List MElem) : List MByte :=
  let bs := packElems el (xs.map Prod.fst)
  let b := max 1 (elemBits el)
  (bs.zipIdx).map (fun y => (y.1, ((xs.drop (8 * y.2 / b)).take ((8 * y.2 + 7) / b - 8 * y.2 / b + 1)).any (fun x => x.2)))

/-- Fields of a matrix record. -/
structure Mma where
  ea : Nat
  eb : Nat
  ec : Nat
  a : Nat
  b : Nat
  c : Nat
  m : Nat
  n : Nat
  k : Nat
  sa : Nat
  sb : Nat
  da : Nat
  db : Nat
  dc : Nat
  ds : Nat
  acc : Bool
  deriving DecidableEq, Repr

def Mma.of (b : List Byte) : Mma :=
  { ea := field b 8 1, eb := field b 9 1, ec := field b 10 1, a := field b 12 4, b := field b 16 4, c := field b 20 4, m := field b 24 2,
    n := field b 26 2, k := field b 28 2, sa := field b 32 4, sb := field b 36 4, da := field b 40 4, db := field b 44 4,
    dc := field b 48 4, ds := field b 52 4, acc := bitAt (field b 2 2) 0 }

/-- The refusal of a matrix command. -/
def Mma.fault (r : Mma) : Option Status :=
  let mx := isMx r.ea
  if (mmaPair r.ea r.eb).isNone ∨ !(r.ec == elBF16 || r.ec == elFP16 || r.ec == elFP32) ∨ (r.acc ∧ r.ec ≠ elFP32)
      ∨ r.m = 0 ∨ r.m > 2048 ∨ r.n = 0 ∨ r.n > 2048 ∨ r.k < 32 ∨ r.k > 2048 ∨ r.k % 32 ≠ 0 ∨ r.da < rowBytes r.ea r.k
      ∨ (!mx ∧ (r.sa ≠ 0 ∨ r.sb ≠ 0 ∨ r.ds ≠ 0)) ∨ (mx ∧ r.ds < r.k / 32) then some .badDescriptor
  else if !(rowsOk r.a r.m r.da (rowBytes r.ea r.k) && rowsOk r.b r.n r.db (rowBytes r.eb r.k) && rowsOk r.c r.m r.dc (rowBytes r.ec r.n)
      && (!mx || (rowsOk r.sa r.m r.ds (r.k / 32) && rowsOk r.sb r.n r.ds (r.k / 32)))) then some .access
  else none

/-- One operand row: values, scales, and whether any of it is marked. -/
def Core.mmaRow (k : Core) (el a sc n : Nat) : List Fl × List Nat × Bool :=
  let xs := k.rowElems el a n
  let ss := if isMx el then k.read sc (n / 32) else []
  (xs.map (fun x => elemValue el x.1), (plain ss).map BitVec.toNat, xs.any (fun x => x.2) || ss.any (fun x => x.2))

/-- Operand rows of a matrix command with their marks. -/
def Core.mmaRows (k : Core) (el a sc d ds rows n : Nat) : List (ArrayRow × Bool) :=
  (List.range rows).map (fun i => let r := k.mmaRow el (a + i * d) (sc + i * ds) n; ((r.1, r.2.1), r.2.2))

/-- K_pass of a matrix command. -/
def Mma.kpass (r : Mma) : Nat := ((mmaPair r.ea r.eb).getD (64, 16)).1

/-- The product a matrix command forms. `free` chooses the order of the additions (R198). -/
def Core.mmaProduct (k : Core) (r : Mma) (tol free : Nat) (faults : List ArrayFault) : ArrayProduct :=
  arrayProduct tol r.kpass r.k free (isMx r.ea) faults ((k.mmaRows r.ea r.a r.sa r.da r.ds r.m r.k).map Prod.fst)
    ((k.mmaRows r.eb r.b r.sb r.db r.ds r.n r.k).map Prod.fst)

/-- C of a matrix command row by row: element codes with their marks. -/
def Core.mmaResult (k : Core) (r : Mma) (p : ArrayProduct) (free : Nat) : List (List MElem) :=
  let am := (k.mmaRows r.ea r.a r.sa r.da r.ds r.m r.k).map Prod.snd
  let bm := (k.mmaRows r.eb r.b r.sb r.db r.ds r.n r.k).map Prod.snd
  (List.range r.m).map (fun i =>
    let old := if r.acc then k.rowElems elFP32 (r.c + i * r.dc) r.n else []
    (List.range r.n).map (fun j =>
      let o := old.getD j (0, false)
      let v := p.value (free + i * r.n + j) (ceilDiv r.k r.kpass) i j (if r.acc then [fp32.decode o.1] else [])
      (encodeElem r.ec v, am.getD i false || bm.getD j false || o.2)))

/-! ### The vector engine (R202, R203) -/

/-- Fields of a vector record. -/
structure Vec where
  op : Nat
  el : Nat
  out : Nat
  x : Nat
  y : Nat
  z : Nat
  count : Nat
  imm : Nat
  imm2 : Nat
  rows : Nat
  deriving DecidableEq, Repr

def Vec.of (b : List Byte) : Vec :=
  ⟨field b 1 1, field b 8 1, field b 9 1, field b 12 4, field b 16 4, field b 20 4, field b 24 4, field b 28 4, field b 32 4, field b 36 2⟩

def vADD := 0x01
def vSUB := 0x02
def vMUL := 0x03
def vFMA := 0x04
def vMAX := 0x05
def vMIN := 0x06
def vAFFINE := 0x07
def vEXP2 := 0x08
def vRCP := 0x09
def vRSQRT := 0x0A
def vLOG2 := 0x0B
def vROWMAX := 0x0C
def vROWSUM := 0x0D
def vCONVERT := 0x0E
def vSOFTMAX := 0x0F
def vRESCALE := 0x10
def vNORMALISE := 0x11

def isInt (el : Nat) : Bool := el == elINT8 || el == elINT32
def isFloat (el : Nat) : Bool := el == elBF16 || el == elFP16 || el == elFP32

/-- Whether an operation views its data by rows. -/
def rowOp (op : Nat) : Bool := decide (op = vROWMAX ∨ op = vROWSUM ∨ op ≥ vSOFTMAX)

/-- Elements per row. -/
def Vec.width (v : Vec) : Nat := v.count / max 1 v.rows

/-- Elements of the result at Z. -/
def Vec.outCount (v : Vec) : Nat := if v.op = vROWMAX ∨ v.op = vROWSUM then v.rows else v.count

/-- Ranges the operation touches: address and bytes. -/
def Vec.ranges (v : Vec) : List (Nat × Nat) :=
  let x := if v.op = vRESCALE then [] else [(v.x, rowBytes v.el v.count)]
  let y := if v.op ≤ vMIN then (if v.op = vFMA ∨ v.op ≤ vMIN then [(v.y, rowBytes v.el v.count)] else [])
    else if v.op ≥ vSOFTMAX then [(v.y, 12 * v.rows)]
    else if v.op = vCONVERT ∧ (isMx v.el || isMx v.out) then [(v.y, ceilDiv v.count 32)] else []
  let lse := if v.op = vNORMALISE ∧ v.imm2 ≠ 0 then [(v.x + 4 * v.count, 4 * v.rows)] else []
  x ++ y ++ [(v.z, rowBytes v.out v.outCount)] ++ lse

/-- The refusal of a vector command (R194, R202, R203). -/
def Vec.fault (v : Vec) : Option Status :=
  let codes := if v.op = vCONVERT then elemBits v.el != 0 && elemBits v.out != 0 && (!(isInt v.el || isInt v.out) || v.el == v.out)
    else if isInt v.el || isInt v.out then v.el == v.out && (v.op ≤ vMUL || v.op == vMAX || v.op == vMIN || v.op == vROWMAX || v.op == vROWSUM)
    else isFloat v.el && isFloat v.out
  let rowsBad := if rowOp v.op then v.rows == 0 || v.count % max 1 v.rows != 0 else v.rows != 0
  if !codes ∨ rowsBad ∨ v.count = 0 ∨ v.count > 2097152 then some .badDescriptor
  else if !v.ranges.all (fun r => engineRange r.1 r.2) then some .access
  else none

/-- Whether a value is one from which an accuracy is stated: zero or normal in FP32, or infinite. -/
def Fl.accurate : Fl → Bool
  | .fin _ m e => m = 0 || decide (-126 ≤ flog2 m e)
  | .inf _ => true
  | .nan => true

/-- Whether an accuracy is stated for a result of these operands: none is subnormal and the function is defined on them, or one is a NaN, which
gives a NaN (R196, R203). -/
def stated (operands : List Fl) (defined : Bool) : Bool := operands.any Fl.isNan || (operands.all Fl.accurate && defined)

/-- An FP32 result of a stated accuracy in ulp, from the value it approximates; an overflow gives an infinity whatever the operands (R196), and
where the spec states no accuracy the result is free (log entry 23). -/
def approx (free ulps : Nat) (known : Bool) (v : Fl) : Fl :=
  if v.isNan ∧ known then .nan
  else if known ∨ (!v.isNan ∧ !v.r32.isFin) then fp32.decode (ulpFree free ulps (fp32.encode v))
  else fp32.decode (free % 2 ^ 32)

/-- The larger and the smaller, a NaN when either is one (R196). -/
def flMax (a b : Fl) : Fl := if a.isNan ∨ b.isNan then .nan else a.maxNum b
def flMin (a b : Fl) : Fl := if a.isNan ∨ b.isNan then .nan else a.minNum b

/-- A positive value that is not zero. -/
def Fl.positive : Fl → Bool
  | .fin s m _ => !s && m != 0
  | .inf s => !s
  | .nan => true

/-- An element operation on values. -/
def vecFloat (op free : Nat) (imm imm2 x y z : Fl) : Fl :=
  if op = vADD then x.add y else if op = vSUB then x.sub y else if op = vMUL then x.mul y
  else if op = vFMA then (x.mul y).add z
  else if op = vMAX then flMax x y else if op = vMIN then flMin x y
  else if op = vAFFINE then (x.mul imm).add imm2
  else if op = vEXP2 then approx free 2 (stated [x, imm, imm2] true) (((x.mul imm).sub imm2).exp2)
  else if op = vRCP then approx free 1 (stated [x] (!x.isZero)) ((Fl.fin false 1 0).div x)
  else if op = vRSQRT then approx free 2 (stated [x] x.positive) x.rsqrt
  else if op = vLOG2 then approx free 2 (stated [x] x.positive) x.log2
  else x

/-- An integer operation: INT8 saturates, INT32 wraps. -/
def intFit (el : Nat) (v : Int) : Nat := if el = elINT8 then ofSigned 8 (max (-128) (min 127 v)) else ofSigned 32 v

def vecInt (op el x y : Nat) : Nat :=
  let w := elemBits el
  let a := toSigned w x
  let b := toSigned w y
  intFit el (if op = vADD then a + b else if op = vSUB then a - b else if op = vMUL then a * b else if op = vMAX then max a b else min a b)

/-- The values and marks of packed elements with block scales where the code is MX. -/
def Core.vecIn (k : Core) (el a sc n : Nat) : List (Fl × Bool) :=
  let xs := k.rowElems el a n
  if isMx el then
    let ss := k.read sc (ceilDiv n 32)
    (xs.zipIdx).map (fun x =>
      let b := ss.getD (x.2 / 32) (0, false)
      (if b.1 = 0xFF then Fl.nan else (elemValue el x.1.1).scale ((b.1.toNat : Int) - 127), x.1.2 || b.2))
  else xs.map (fun x => (elemValue el x.1, x.2))

/-- Results of an operation: (address, bytes) to write, in order. -/
abbrev VecOut := List (Nat × List MByte)

/-- Element operations and CONVERT. -/
def Core.vecElems (k : Core) (v : Vec) (free : Nat) : VecOut :=
  let f (i : Nat) : Nat := Config.freeValue (free + i)
  if v.op = vCONVERT then
    let xs := k.vecIn v.el v.x v.y v.count
    if isMx v.out then
      let blocks := (List.range (ceilDiv v.count 32)).map (fun b => (xs.drop (32 * b)).take 32)
      let out := blocks.map (fun b => (toMxBlock v.out (b.map Prod.fst), b.any (fun x => x.2)))
      [(v.z, packMarked v.out (out.flatMap (fun o => o.1.2.map (fun c => (c, o.2))))),
       (v.y, out.map (fun o => (BitVec.ofNat 8 o.1.1, o.2)))]
    else [(v.z, packMarked v.out (xs.map (fun x => (encodeElem v.out x.1, x.2))))]
  else
    let xs := k.rowElems v.el v.x v.count
    let ys := if v.op ≤ vMIN then k.rowElems v.el v.y v.count else []
    let zs := if v.op = vFMA then k.rowElems v.out v.z v.count else []
    let imm := fp32.decode v.imm
    let imm2 := fp32.decode v.imm2
    [(v.z, packMarked v.out ((xs.zipIdx).map (fun x =>
      let y := ys.getD x.2 (0, false)
      let z := zs.getD x.2 (0, false)
      let c := if isInt v.el then vecInt v.op v.el x.1.1 y.1
        else encodeElem v.out (vecFloat v.op (f x.2) imm imm2 (elemValue v.el x.1.1) (elemValue v.el y.1) (elemValue v.out z.1))
      (c, x.1.2 || y.2 || z.2))))]

/-- One row's m, l, f with whether any of it is marked. -/
def Core.rowState (k : Core) (y r : Nat) : Fl × Fl × Fl × Bool :=
  let bs := k.read (y + 12 * r) 12
  let b := plain bs
  (fp32.decode (field b 0 4), fp32.decode (field b 4 4), fp32.decode (field b 8 4), bs.any (fun x => x.2))

def fl32 (x : Fl) : List Byte := natLe 4 (fp32.encode x)

/-- SOFTMAX_STEP of one row: z, m, l, f.  m' takes the product of IMM with the row's largest element. -/
def softmaxRow (free : Nat) (imm m l : Fl) (xs : List Fl) : List Fl × Fl × Fl × Fl :=
  let f (i : Nat) : Nat := Config.freeValue (free + i)
  let px := xs.map (fun x => imm.mul x)
  if px.all (fun x => decide (x = .inf true)) then (xs.map (fun _ => .fin false 0 0), m, l, .fin false 1 0)
  else
    let sure := stated (imm :: m :: xs) true
    let m' := flMax m (approx (f 0) 2 sure (imm.mul (xs.foldl flMax (.inf true))))
    let zs := (px.zipIdx).map (fun x => approx (f (4 + x.2)) 2 sure ((x.1.sub m').exp2))
    let fc := approx (f 1) 2 sure ((m.sub m').exp2)
    let l' := approx (f 2) 2 (stated (imm :: m :: l :: xs) true) ((l.mul fc).add (sumFree zs.length (f 3) zs))
    (zs, m', l', fc)

/-- ln 2 to 64 bits. -/
def ln2 : Fl := .fin false 0xB17217F7D1CF79AC (-64)

/-- Row operations. -/
def Core.vecRows (k : Core) (v : Vec) (free : Nat) : VecOut :=
  let w := v.width
  let row (el a r : Nat) : List MElem := k.rowElems el (a + rowBytes el (r * w)) w
  let val (el : Nat) (xs : List MElem) : List Fl := xs.map (fun x => elemValue el x.1)
  let marked (xs : List MElem) : Bool := xs.any (fun x => x.2)
  let rs := List.range v.rows
  let f (i : Nat) : Nat := Config.freeValue (free + i)
  if v.op = vROWMAX ∨ v.op = vROWSUM then
    [(v.z, packMarked v.out (rs.map (fun r =>
      let xs := k.rowElems v.el v.x v.count
      let xs := (xs.drop (r * w)).take w
      let c := if isInt v.el then
          let is := xs.map (fun x => toSigned (elemBits v.el) x.1)
          intFit v.el (if v.op = vROWMAX then is.foldl max (is.headD 0) else is.foldl (· + ·) 0)
        else encodeElem v.out (if v.op = vROWMAX then (val v.el xs).foldl flMax (.inf true) else sumFree w (f r) (val v.el xs))
      (c, marked xs))))]
  else if v.op = vSOFTMAX then
    let all := rs.map (fun r =>
      let xs := row v.el v.x r
      let st := k.rowState v.y r
      (softmaxRow (free + r * (w + 8)) (fp32.decode v.imm) st.1 st.2.1 (val v.el xs), marked xs || st.2.2.2))
    [(v.z, packMarked v.out (all.flatMap (fun a => a.1.1.map (fun z => (encodeElem v.out z, a.2))))),
     (v.y, all.flatMap (fun a => (fl32 a.1.2.1 ++ fl32 a.1.2.2.1 ++ fl32 a.1.2.2.2).map (fun b => (b, a.2))))]
  else if v.op = vRESCALE then
    [(v.z, packMarked v.out (rs.flatMap (fun r =>
      let st := k.rowState v.y r
      (row v.out v.z r).map (fun z => (encodeElem v.out ((elemValue v.out z.1).mul st.2.2.1), z.2 || st.2.2.2)))))]
  else
    let outs := rs.map (fun r =>
      let st := k.rowState v.y r
      let xs := row v.el v.x r
      let ok (x : Fl) : Bool := stated [x, st.2.1] (!st.2.1.isZero)
      ((xs.zipIdx).map (fun x =>
          let a := elemValue v.el x.1.1
          (encodeElem v.out (approx (f (r * (w + 1) + x.2)) 2 (ok a) (a.div st.2.1)), x.1.2 || st.2.2.2)),
       (approx (f (r * (w + 1) + w)) 2 (stated [st.1, st.2.1] st.2.1.positive) ((st.1.add st.2.1.log2).mul ln2), st.2.2.2)))
    [(v.z, packMarked v.out (outs.flatMap Prod.fst))]
      ++ (if v.imm2 = 0 then [] else [(v.x + 4 * v.count, outs.flatMap (fun o => (fl32 o.2.1).map (fun b => (b, o.2.2))))])

/-- Elements per cycle (R203). -/
def vecRate (op el : Nat) : Nat :=
  let slow := decide (op = vEXP2 ∨ op = vRCP ∨ op = vRSQRT ∨ op = vLOG2 ∨ op = vSOFTMAX ∨ op = vNORMALISE)
  if slow then 256 else if el = elBF16 ∨ el = elFP16 then 1024 else 512

/-- A vector command (R203): acts when the command at the head of the vector queue has this operation. -/
def State.vectorOp (s : State) (n op : Nat) : State :=
  match s.engineHead n 1 with
  | none => s
  | some c =>
    let v := Vec.of c.bytes
    if v.op ≠ op then s
    else match v.fault with
      | some st => s.setCore n ((s.core n).endCommand 1 c st)
      | none =>
        let base := s.free
        let s : State := { s with free := s.free + v.count * 2 + v.rows * 8 + 8 }
        let k := s.core n
        let outs := if rowOp op then k.vecRows v base else k.vecElems v base
        let bad := outs.any (fun o => o.2.any (fun b => b.2))
        let k := outs.foldl (fun (k : Core) o => k.write o.1 o.2) k
        let u := unitsOf 800 k.vecCycles (ceilDiv v.count (vecRate op v.el))
        let s := s.count (F.QNC_BUSY_VECTOR_US.core n) u.1
        (s.ranOn n 1 (s.kernelSuspect n)).setCore n (({ k with vecCycles := u.2 } : Core).endCommand 1 c (if bad then .poison else .done))

/-! ### The DMA engine (R204, R205) -/

/-- Bytes the DMA engine read and wrote (`QNC_DMA_BYTES`). -/
def State.dmaBytes (s : State) (n rd wr : Nat) : State :=
  let k := s.core n
  let r := unitsOf (2 ^ 20) k.readBytes rd
  let w := unitsOf (2 ^ 20) k.writeBytes wr
  let s := (s.count (F.QNC_DMA_BYTES_READ_MIB.core n) r.1).count (F.QNC_DMA_BYTES_WRITE_MIB.core n) w.1
  s.setCore n { s.core n with readBytes := r.2, writeBytes := w.2 }

/-- The source and destination shapes of a DMA record. -/
def dmaSrc (b : List Byte) : TileShape := ⟨field b 8 1, field b 10 1, field b 24 2, field b 26 2⟩
def dmaDst (b : List Byte) : TileShape := { dmaSrc b with layout := field b 9 1 }
def dmaLocal (b : List Byte) : Nat := field b 12 4
def dmaVa (b : List Byte) : Nat := field b 16 8
def dmaCount (b : List Byte) : Nat := field b 28 2

/-- The domain side's shape: the source of a LOAD, the destination of a STORE. -/
def dmaDomain (b : List Byte) : TileShape := if field b 1 1 = 1 then dmaSrc b else dmaDst b

/-- The context and partition key of the work a core runs (R204). -/
def State.coreCtx (s : State) (n : Nat) : Nat :=
  match (s.core n).launch with
  | some t => (match s.workOf t with | some w => w.ctx | none => 0)
  | none => 0

/-- The refusal of a DMA record, before any tile moves. -/
def dmaFault (b : List Byte) : Option Status :=
  let op := field b 1 1
  let src := dmaSrc b
  let dst := dmaDst b
  let dom := dmaDomain b
  if op = 5 then
    if dmaCount b = 0 then some .badDescriptor else if !engineRange (dmaLocal b) (64 * dmaCount b) then some .access else none
  else
    let bad := src.layout ≥ 3 ∨ dst.layout ≥ 3 ∨ src.rows = 0 ∨ src.cols = 0 ∨ dmaCount b = 0 ∨ !tileOk src dst
    let strided := 1 ≤ op ∧ op ≤ 3
    let strides := strided ∧ (field b 32 4 < dom.lineBytes ∨ (dom.layout = 2 ∧ field b 36 4 < dom.scaleBytes)
      ∨ (dom.layout ≠ 2 ∧ (field b 36 4 ≠ 0 ∨ field b 40 8 ≠ 0)))
    if bad ∨ strides then some .badDescriptor
    else if !engineRange (dmaLocal b) (dmaCount b * dst.size) ∨ (op = 4 ∧ !engineRange (field b 16 4) (dmaCount b * dst.size)) then some .access
    else none

/-- The DMA command on a core ends. -/
def State.dmaEnd (s : State) (n : Nat) (st : Status) : State :=
  let k := s.core n
  match k.run with
  | some r =>
    let st := if st = .done then r.status else st
    (s.ranOn n 2 (s.kernelSuspect n)).setCore n ({ k with run := none }.complete r.cmd.ticket st)
  | none => s

/-- Note the first failure, or poison, of the command that runs. -/
def State.dmaNote (s : State) (n : Nat) (st : Status) : State :=
  let k := s.core n
  s.setCore n { k with run := k.run.map (fun r => if r.status = .done then { r with status := st } else r) }

/-- Where a tile's range of the domain side translates, with a reference taken on each range (R145, R204): the element range, and the
scale range of layout 2. -/
def State.dmaTranslate (s : State) (c va n right : Nat) : Except (Status × Option Nat) Xlated :=
  match s.translate c va n right with
  | .error f => .error (f.1, some f.2)
  | .ok x => .ok x

/-- A DMA command fails at a tile's ranges; a translation fault counts in its context (R147). -/
def State.dmaFail (s : State) (n : Nat) (f : Status × Option Nat) : State :=
  (match f.2 with | some a => s.noteFault (s.coreCtx n) f.1 a | none => s).dmaEnd n f.1

/-- Bytes of one tile's element range and of its scale range on the strided side. -/
def tileSpan (t : TileShape) (stride : Nat) : Nat := (t.lines - 1) * stride + t.lineBytes
def scaleSpan (t : TileShape) (stride : Nat) : Nat := if t.layout = 2 then (t.rows - 1) * stride + t.scaleBytes else 0

/-- Whether the strided side of tile `i` that lies in window 2 breaks R170. -/
def dmaBlockBad (b : List Byte) (i dga : Nat) : Bool :=
  let t := dmaDomain b
  dgaWin dga == 2 && !(decide (t.size % 4096 = 0 ∧ dga % 4096 = 0 ∧ field b 32 4 = t.lineBytes)
    && (t.layout != 2 || decide (field b 36 4 = t.scaleBytes
      ∧ scaleFirst t (field b 40 8) (field b 36 4) i = tileFirst t (dmaVa b) (field b 32 4) i + t.area)))

/-- The translated sides of tile `i`: element DGA and class, scale DGA and class. -/
def State.dmaSides (s : State) (n : Nat) (b : List Byte) (i right : Nat) : Except (Status × Option Nat) (Xlated × Option Xlated) :=
  let t := dmaDomain b
  let c := s.coreCtx n
  match s.dmaTranslate c (tileFirst t (dmaVa b) (field b 32 4) i) (tileSpan t (field b 32 4)) right with
  | .error st => .error st
  | .ok x =>
    if dmaBlockBad b i x.dga then .error (.access, none)
    else if t.layout = 2 then
      match s.dmaTranslate c (scaleFirst t (field b 40 8) (field b 36 4) i) (scaleSpan t (field b 36 4)) right with
      | .error st => .error st
      | .ok y => .ok (x, some y)
    else .ok (x, none)

/-- References of a tile taken and released around its transfer (R145). -/
def State.dmaRefs (s : State) (n : Nat) (b : List Byte) (i : Nat) (take : Bool) : State :=
  let t := dmaDomain b
  let c := s.coreCtx n
  let one (s : State) (va : Nat) : State :=
    match s.convert c va 1 with
    | .error _ => s
    | .ok v =>
      match (s.extentsOf c).find? (fun e => e.holds v) with
      | some e => if take then s.takeRef c e.va else s.dropRef c e.va
      | none => s
  let s := if take then s.etcLook c (tileFirst t (dmaVa b) (field b 32 4) i) else s
  let s := one s (tileFirst t (dmaVa b) (field b 32 4) i)
  if t.layout = 2 then one s (scaleFirst t (field b 40 8) (field b 36 4) i) else s

/-- Store lines of one tile to its strided side, untagged (R216). -/
def State.storeTile (s : State) (id ctx : Nat) (t : TileShape) (stride sstride : Nat) (x : Xlated) (y : Option Xlated)
    (ls scales : List (List MByte)) : State :=
  if dgaWin x.dga = 2 then s.addStore id ctx x.ext.cls x.dga (ls.flatten ++ scales.flatten) vcREQ false (fun _ => 0)
  else
    let s := (ls.zipIdx).foldl (fun s l => s.addStore id ctx x.ext.cls (x.dga + l.2 * stride) l.1 vcREQ false (fun _ => 0)) s
    match y with
    | some y => if t.layout = 2 then (scales.zipIdx).foldl (fun s l => s.addStore id ctx y.ext.cls (y.dga + l.2 * sstride) l.1 vcREQ false (fun _ => 0)) s else s
    | none => s

/-- The packed tile `i` in T0. -/
def State.localTile (s : State) (n : Nat) (b : List Byte) (i : Nat) : List MByte :=
  (s.core n).read (dmaLocal b + i * (dmaSrc b).size) (dmaSrc b).size

/-- Free tags of a launch's phase. -/
def State.launchTagsLeft (s : State) (t : Nat) : Nat :=
  match s.workOf t with
  | some w => w.tagBase + w.tagCount - w.nextTag
  | none => 0

/-- The tags of an ATOMIC or PUBLISH command, one for each entry or commit, are taken when it starts (R216). -/
def State.launchTakes (s : State) (t n : Nat) : State := s.modWork t (fun w => { w with nextTag := w.nextTag + n })

/-- The tag of entry or tile `i` of the command a core runs, the target noted with the phase. -/
def State.launchTag (s : State) (n i dst : Nat) : Nat × State :=
  let k := s.core n
  ((match k.run with | some r => r.tags | none => 0) + i,
   s.modWork (k.launch.getD 0) (fun w => { w with targets := if w.targets.contains dst then w.targets else w.targets ++ [dst] }))

/-- Record where the tile or entry under way lies on the domain side. -/
def State.dmaPlace (s : State) (n : Nat) (x : Xlated) : State :=
  let k := s.core n
  s.setCore n { k with run := k.run.map (fun r => { r with dga := x.dga, cls := x.ext.cls, va := x.ext.va }) }

/-- Entry `i` of a DMA ATOMIC: a faulty one takes its status, any other is issued under a tag of the phase; it references its operand's extent
until it is answered (R145). -/
def State.dmaEntry (s : State) (n : Nat) (c : EngCmd) (i : Nat) : State :=
  let a := dmaLocal c.bytes + 64 * i
  let bs := (s.core n).read a 64
  let b := plain bs
  let fail (s : State) (st : Status) : State := (s.setCore n ((s.core n).write (a + 17) (unmarked (natLe 1 st.code)))).dmaNote n st
  let ctx := s.coreCtx n
  if bs.any (fun x => x.2) then fail s .poison
  else if !allZero (slice b 19 13) ∨ (field b 16 1 % 16 ≠ 4 ∧ !allZero (slice b 48 16)) then fail s .badDescriptor
  else match s.translate ctx (field b 0 8) (max 1 (atomicSize (field b 16 1))) rATOMIC with
    | .error f => fail (s.noteFault ctx f.1 f.2) f.1
    | .ok x =>
      if entryFault b x.dga then fail s .badDescriptor
      else
        let m := atomicSize (field b 16 1)
        let s := ((s.dmaPlace n x).etcLook ctx (field b 0 8)).takeRef ctx x.ext.va
        let (id, s) := s.newXfer (.dmaAtomic n c.ticket i) 0
        let p : Packet := { op := opATOMIC, vc := vcREQ, tagged := true, pkey := s.ctxKey ctx, ctx := ctx, addr := x.dga, size := m - 1,
                            atype := field b 16 1, sectors := 1, noCombine := true,
                            payload := padTo 64 (padTo 16 (slice b 32 m) ++ slice b 48 m) }
        match s.route x.dga x.ext.cls with
        | .error st => (s.xferWait id 1).xferEnd id 0 p st
        | .ok d =>
          let (tag, s) := s.launchTag n i d
          (s.xferWait id 1).issue { p with dst := d, tag := tag } (.xfer id 0)

/-- Whether the transfer of entry `i` of a core's command is under way. -/
def State.dmaWaits (s : State) (n ticket i : Nat) : Bool := s.fab.xfers.any (fun x => decide (x.owner = .dmaAtomic n ticket i))

/-- Whether a lookup of tile or entry `i` must be held (R149). -/
def State.dmaHeld (s : State) (n : Nat) (b : List Byte) (i : Nat) : Bool :=
  let t := dmaDomain b
  let c := s.coreCtx n
  if field b 1 1 = 5 then
    let e := plain ((s.core n).read (dmaLocal b + 64 * i) 64)
    s.lookupHeld c (field e 0 8) (max 1 (atomicSize (field e 16 1)))
  else
    s.lookupHeld c (tileFirst t (dmaVa b) (field b 32 4) i) (tileSpan t (field b 32 4))
      || (t.layout == 2 && s.lookupHeld c (scaleFirst t (field b 40 8) (field b 36 4) i) (scaleSpan t (field b 36 4)))

/-- The command that runs is at tile or entry `i`, its lookup held or not. -/
def State.dmaAt (s : State) (n i : Nat) (held : Bool) : State :=
  s.setCore n { s.core n with run := (s.core n).run.map (fun r => { r with tile := i, held := held }) }

/-- Go through the entries of a DMA ATOMIC from `i`, until one is issued or held, or all are done. -/
def State.dmaEntries (s : State) (n : Nat) (c : EngCmd) : Nat → Nat → State
  | 0, _ => s
  | fuel + 1, i =>
    if i ≥ dmaCount c.bytes then s.dmaEnd n .done
    else if s.dmaHeld n c.bytes i then s.dmaAt n i true
    else
      let s := s.dmaAt n i false
      let t := s.dmaEntry n c i
      if t.dmaWaits n c.ticket i then t else t.dmaEntries n c fuel (i + 1)


/-- Begin tile `i` of the command that runs, or end it. -/
def State.dmaTile (s : State) (n : Nat) (c : EngCmd) (i : Nat) : State :=
  let b := c.bytes
  let op := field b 1 1
  let ctx := s.coreCtx n
  let size := (dmaDst b).size
  let s := s.dmaAt n i false
  if i ≥ dmaCount b then s.dmaEnd n .done
  else if s.dmaHeld n b i then s.dmaAt n i true
  else if op = 1 then
    match s.dmaSides n b i rREAD with
    | .error f => s.dmaFail n f
    | .ok (x, y) =>
      let s := (s.dmaPlace n x).dmaRefs n b i true
      let (id, s) := s.newXfer (.dmaLoad n c.ticket) 0
      let (scls, sdga) := match y with | some y => (y.ext.cls, y.dga) | none => (0, 0)
      s.loadTile id ctx x.ext.cls x.dga scls sdga (dmaSrc b) (field b 32 4) (field b 36 4)
  else if op = 2 then
    match s.dmaSides n b i rWRITE with
    | .error f => s.dmaFail n f
    | .ok (x, y) =>
      let bs := s.localTile n b i
      let s := if bs.any (fun m => m.2) then s.dmaNote n .poison else s
      let s := s.dmaRefs n b i true
      let (id, s) := s.newXfer (.dmaStore n c.ticket) 0
      let ls := unpackTile (dmaSrc b) (dmaDst b) bs
      (s.dmaBytes n 0 size).storeTile id ctx (dmaDst b) (field b 32 4) (field b 36 4) x y ls.1 ls.2
  else
    -- PUBLISH: staged at its owner, then committed under one tag (R172, R204, R216); scales of another owner log entry 57
    let bs := s.localTile n b i
    if bs.any (fun m => m.2) then s.dmaEnd n .poison
    else match s.dmaSides n b i rWRITE with
      | .error f => s.dmaFail n f
      | .ok (x, y) =>
        let apart := match y with | some y => dgaDev y.dga != dgaDev x.dga || decide (dgaWin y.dga ≥ 2) | none => false
        if dgaWin x.dga ≥ 2 ∨ apart = true then s.dmaEnd n .access
        else match s.route x.dga x.ext.cls with
          | .error st => s.dmaEnd n st
          | .ok d =>
            let ls := unpackTile (dmaSrc b) (dmaDst b) bs
            let lines := (ls.1.zipIdx).flatMap (fun l => cutBytes (x.dga + l.2 * field b 32 4) (plain l.1))
            let scales := match y with
              | some y => (ls.2.zipIdx).flatMap (fun l => cutBytes (y.dga + l.2 * field b 36 4) (plain l.1))
              | none => []
            let s := (s.dmaPlace n x).dmaRefs n b i true
            let (commit, s) := s.launchTag n i d
            let (id, s) := s.newXfer (.dmaStage n c.ticket i commit) 0
            (s.dmaBytes n 0 size).stageTile id ctx (s.ctxKey ctx) d commit (lines ++ scales) false State.drawTag

/-- Start the DMA command at the head of the queue if it has this OP (R204). -/
def State.dmaStart (s : State) (n op : Nat) : State :=
  match s.engineHead n 2 with
  | none => s
  | some c =>
    let b := c.bytes
    if field b 1 1 ≠ op then s
    else
      let k := s.core n
      let t := k.launch.getD 0
      let short := (op = 3 ∨ op = 5) ∧ s.launchTagsLeft t < dmaCount b
      match dmaFault b with
      | some st => s.setCore n (k.endCommand 2 c st)
      | none =>
        if short then s.setCore n (k.endCommand 2 c .bounds)
        else
          let first := match s.workOf t with | some w => w.nextTag | none => 0
          let s := if op = 3 ∨ op = 5 then s.launchTakes t (dmaCount b) else s
          let s := s.setCore n { k with dma := k.dma.filter (fun x => x.ticket != c.ticket), run := some ⟨c, 0, 0, 0, 0, .done, false, first⟩ }
          if op = 5 then s.dmaEntries n c (dmaCount b + 1) 0 else s.dmaTile n c 0

/-- The command of a core goes on where its lookup was held. -/
def State.dmaResume (s : State) (n : Nat) : State :=
  match (s.core n).run with
  | some r =>
    if !r.held then s
    else if field r.cmd.bytes 1 1 = 5 then s.dmaEntries n r.cmd (dmaCount r.cmd.bytes + 1) r.tile
    else s.dmaTile n r.cmd r.tile
  | none => s

/-- LOCAL_COPY (R204): packed tiles within T0. -/
def State.localCopy (s : State) (n : Nat) : State :=
  match s.engineHead n 2 with
  | none => s
  | some c =>
    let b := c.bytes
    if field b 1 1 ≠ 4 then s
    else match dmaFault b with
      | some st => s.setCore n ((s.core n).endCommand 2 c st)
      | none =>
        let bs := (List.range (dmaCount b)).map (fun i => s.localTile n b i)
        let k := (bs.zipIdx).foldl (fun (k : Core) t =>
          let ls := unpackTile (dmaSrc b) (dmaDst b) t.1
          k.write (field b 16 4 + t.2 * (dmaDst b).size) (packTile (dmaDst b) (dmaDst b) ls.1 ls.2)) (s.core n)
        (s.ranOn n 2 (s.kernelSuspect n)).setCore n (k.endCommand 2 c (if bs.any (fun t => t.any (fun m => m.2)) then .poison else .done))

/-- The command of a core's DMA engine, if it is the one of a ticket. -/
def State.dmaRunning (s : State) (n ticket : Nat) : Option DmaRun := (s.core n).run.filter (fun r => r.cmd.ticket == ticket)

/-- A tile has been read: it is packed into T0, and the next begins; a failure ends the command and the tile does not move. -/
def State.dmaLoaded (s : State) (n ticket : Nat) (x : Xfer) : State :=
  match s.dmaRunning n ticket with
  | none => s
  | some r =>
    let b := r.cmd.bytes
    let s := s.dmaRefs n b r.tile false
    if x.status ≠ .done then s.dmaEnd n x.status
    else
      let ls := tileLines (dmaSrc b) (dgaWin r.dga == 2) x.data
      let bs := packTile (dmaSrc b) (dmaDst b) ls.1 ls.2
      let s := if bs.any (fun m => m.2) then s.dmaNote n .poison else s
      let s := (s.setCore n ((s.core n).write (dmaLocal b + r.tile * (dmaDst b).size) bs)).dmaBytes n x.data.length 0
      s.dmaTile n r.cmd (r.tile + 1)

/-- A tile's stores are answered. -/
def State.dmaStored (s : State) (n ticket : Nat) (st : Status) : State :=
  match s.dmaRunning n ticket with
  | none => s
  | some r =>
    let s := s.dmaRefs n r.cmd.bytes r.tile false
    if st ≠ .done then s.dmaEnd n st else s.dmaTile n r.cmd (r.tile + 1)

/-- Every piece of a published tile is staged: it is committed under a tag of the launch's phase (R172, R216). -/
def State.dmaStaged (s : State) (n ticket i commit : Nat) (st : Status) : State :=
  match s.dmaRunning n ticket with
  | none => s
  | some r =>
    let ctx := s.coreCtx n
    if st ≠ .done then (s.dmaRefs n r.cmd.bytes i false).dmaEnd n st
    else match s.route r.dga r.cls with
      | .error st => (s.dmaRefs n r.cmd.bytes i false).dmaEnd n st
      | .ok d =>
        let (id, s) := s.newXfer (.dmaCommit n ticket i) 1
        s.issue { op := opTILE_COMMIT, vc := vcREQ, tagged := true, pkey := s.ctxKey ctx, dst := d, tag := commit, ctx := ctx, addr := r.dga } (.xfer id 0)

/-- A commit of a PUBLISH is answered. -/
def State.dmaCommitted (s : State) (n ticket i : Nat) (st : Status) : State :=
  match s.dmaRunning n ticket with
  | none => s
  | some r =>
    let s := s.dmaRefs n r.cmd.bytes i false
    if st ≠ .done then s.dmaEnd n st else s.dmaTile n r.cmd (i + 1)

/-- An atomic entry is answered: its STATUS and old value go into the entry, and the next begins (R204). -/
def State.dmaAtomicDone (s : State) (n ticket i : Nat) (x : Xfer) : State :=
  match s.dmaRunning n ticket with
  | none => s
  | some r =>
    let a := dmaLocal r.cmd.bytes + 64 * i
    let s := s.dropRef (s.coreCtx n) r.va
    let k := (s.core n).write (a + 17) (unmarked (natLe 1 x.status.code))
    let k := if x.status = .done then k.write (a + 32) (unmarked (plain x.data)) else k
    let s := s.setCore n k
    let s := if x.status = .done then s else s.dmaNote n x.status
    s.dmaEntries n r.cmd (dmaCount r.cmd.bytes + 1) (i + 1)

/-! ### Stopping a core (R217) -/

/-- The DMA command under way is abandoned: the references of its tile are released. -/
def State.dmaAbort (s : State) (n : Nat) : State :=
  match (s.core n).run with
  | some r =>
    let op := field r.cmd.bytes 1 1
    if r.held ∨ (op = 5 ∧ !s.dmaWaits n r.cmd.ticket r.tile) then s
    else if op = 5 then s.dropRef (s.coreCtx n) r.va
    else s.dmaRefs n r.cmd.bytes r.tile false
  | none => s

/-- The units of `ATTEND` a core runs wait again for a core of the slice (R217). -/
def State.unitsBack (s : State) (n : Nat) : State :=
  { s with qnc.units := s.qnc.units.map (fun u => if u.core = some n ∧ u.stage < 4 then { u with core := none, stage := 0 } else u) }

/-- A core stops with a cause: its launch part ends, engine queues, scalar state and window are cleared, its unit goes back. -/
def State.stopCore (s : State) (n cause : Nat) (next : CoreState) : State :=
  let s := ((s.coreTrap n cause).dmaAbort n).unitsBack n
  let k := s.core n
  let left := if k.launch.isSome then some ((causeStatus cause).code, k.pcOff) else none
  s.setCore n { k with state := next, matrix := [], vector := [], dma := [], run := none, resv := none, exiting := none,
                       ended := k.ended.or left, kwin := blankMem, regs := [], attend := none, since := s.now }

/-- A core enters FAULTED. -/
def State.faultCore (s : State) (n cause : Nat) : State := s.stopCore n cause .faulted

/-- An ECC or parity fault of the DMA engine or scalar core (R398). -/
def State.parityFault (s : State) (n : Nat) : State :=
  (s.logErr { unit := .qnc, status := .internal, index := n }).faultCore n cPersistent

/-! ### MMA with its checksum rows -/

/-- Passes recomputed to a match count (R201); a persistent mismatch counts, is recorded and takes the core to FAULTED. -/
def State.csumCount (s : State) (n transient : Nat) (failed : Bool) : State :=
  let s := s.count (F.QNC_CSUM_TRANSIENT.core n) transient
  if failed then
    ((s.count (F.QNC_CSUM_PERSISTENT.core n)).logErr { unit := .qnc, status := .internal, index := n }).faultCore n cCsum
  else s

/-- MMA (R200, R201): `faults` are the outputs that a fault of the array spoils. -/
def State.mma (s : State) (n : Nat) (faults : List ArrayFault) : State :=
  match s.engineHead n 0 with
  | none => s
  | some c =>
    let r := Mma.of c.bytes
    match r.fault with
    | some st => s.setCore n ((s.core n).endCommand 0 c st)
    | none =>
      let base := s.free
      let size := productFree r.m r.n r.k r.kpass
      let p := (s.core n).mmaProduct r (s.fld (F.QNC_CSUM_TOL_TOL.core n)) base faults
      let s := ({ s with free := s.free + size } : State).csumCount n p.transient p.failed
      if p.failed then s
      else
        let k := s.core n
        let rows := k.mmaResult r p (base + size - r.m * r.n)
        let bad := rows.any (fun row => row.any (fun x => x.2))
        let k := (rows.zipIdx).foldl (fun (k : Core) row => k.write (r.c + row.2 * r.dc) (packMarked r.ec row.1)) k
        let (kp, l) := (mmaPair r.ea r.eb).getD (64, 16)
        let u := unitsOf 800 k.matCycles ((ceilDiv r.n 128 * ceilDiv r.k kp + p.transient) * max l r.m + 24)
        let s := s.count (F.QNC_BUSY_MATRIX_US.core n) u.1
        (s.ranOn n 0 (s.kernelSuspect n)).setCore n (({ k with matCycles := u.2 } : Core).endCommand 0 c (if bad then .poison else .done))

end Sys2Proof.Machine
end

