-- ==== Sys2Proof/Machine/Launch.lean ====
section
/-! DEFINITION. Kernel images, `KERNEL_LAUNCH`, core states and the granting of cores (spec/07 R210 to R218). -/

namespace Sys2Proof.Machine

/-! ### Submission (R212, R213) -/

def launchCores (d : List Byte) : List Nat := bitsSet 16 (field d 4 2)
def launchTags := 4096

/-- The checks of KERNEL_LAUNCH in the order of R103. -/
def State.checkLaunch (s : State) (c : Nat) (d : List Byte) : DescCheck :=
  let img := field d 8 8
  let imgLen := field d 16 4
  let args := field d 24 8
  let argLen := field d 32 4
  let cores := launchCores d
  match firstFault [faultIf cores.isEmpty .badDescriptor 4, faultIf (field d 6 2 ≠ 0) .badDescriptor 6, faultIf (img % 64 ≠ 0) .badDescriptor 8,
      faultIf (imgLen == 0) .badDescriptor 16, faultIf (field d 20 4 == 0) .badDescriptor 20, faultIf (argLen == 0) .badDescriptor 32,
      faultIf (!allZero (slice d 36 28)) .badDescriptor 36] with
  | some f => some f
  | none =>
    let out := cores.any (fun n => s.coreOut n || (s.core n).state == .resetting)
    match firstFault [faultIf out .stateConflict 4, s.rangeStateFault c img imgLen rREAD 8, s.rangeStateFault c args argLen rREAD 24] with
    | some f => some f
    | none =>
      let sl := (s.sliceOfCtx c).map Prod.fst
      match faultIf (cores.any (fun n => (s.sliceOfCore n).map Prod.fst != sl)) .access 4 with
      | some f => some f
      | none => boundsLast [s.rangeAllFault c img imgLen rREAD 8, s.rangeAllFault c args argLen rREAD 24, faultIf (argLen > 1048576) .bounds 32]

/-- Commit the one phase of a launch, with its 4,096 tags (R216). -/
def State.launchPlan (s : State) (w : Work) : State := s.commitPhase w.tag launchTags (zeros 64)

/-- The phase is in effect: the launch takes its place in the grant order (R218). -/
def State.launchPhase (s : State) (tag : Nat) : State :=
  match s.workOf tag with
  | none => s
  | some w =>
    let l : Launch := { tag := tag, cores := launchCores w.desc, granted := false, image := [], args := [], verifying := false, started := none,
                        budgetUs := field w.desc 20 4, kernelId := 0 }
    { s with qnc.launches := s.qnc.launches.filter (fun x => x.tag != tag) ++ [l] }

def State.modLaunch (s : State) (tag : Nat) (f : Launch → Launch) : State :=
  { s with qnc.launches := s.qnc.launches.map (fun l => if l.tag == tag then f l else l) }

/-- A launch is over: its cores are free again. -/
def State.launchEnd (s : State) (tag : Nat) (st : Status) (result : Nat) : State :=
  let s := (List.range 16).foldl (fun s n =>
    if (s.core n).launch = some tag then
      s.setCore n { s.core n with launch := none, ended := none, exiting := none, since := s.now }
    else s) s
  ({ s with qnc.launches := s.qnc.launches.filter (fun l => l.tag != tag) } : State).outcome tag st result

/-! ### Images (R210, R211) -/

def imgCode (b : List Byte) : Nat := field b 8 4
def imgData (b : List Byte) : Nat := field b 12 4
def imgBss (b : List Byte) : Nat := field b 16 4
def imgEntry (b : List Byte) : Nat := field b 20 4
def imgStack (b : List Byte) : Nat := field b 24 4
def imgSigned (b : List Byte) : Nat := field b 40 4

/-- Whether an image has the form of R210. -/
def imageOk (b : List Byte) : Bool :=
  decide (field b 0 4 = 0x4E524B44 ∧ field b 4 2 = 1 ∧ field b 6 1 = 1 ∧ field b 7 1 = 0 ∧ imgCode b % 64 = 0 ∧ 64 ≤ imgCode b
    ∧ imgData b % 64 = 0 ∧ imgBss b % 64 = 0 ∧ imgEntry b % 2 = 0 ∧ imgEntry b < imgCode b ∧ imgStack b % 64 = 0 ∧ 4096 ≤ imgStack b
    ∧ field b 28 4 = 0 ∧ imgSigned b = 64 + imgCode b + imgData b ∧ imgCode b + imgData b + imgBss b + imgStack b ≤ 262144
    ∧ b.length = imgSigned b + 3392) && allZero (slice b 44 20)

/-- Whether both signatures of an image verify against the kernel-signing keys (R211, R52). -/
def State.imageSigned (s : State) (b : List Byte) : Bool :=
  let n := imgSigned b
  s.bothVerify anchorKernel (b.take n) (slice b n 64) (slice b (n + 64) 3309)

/-- Start the kernel on its cores (R213): one that has stopped since it was granted has ended its part (R217). -/
def State.launchStart (s : State) (l : Launch) : State :=
  let b := l.image
  let s := ((l.cores.zipIdx).filter (fun c => (s.core c.1).state == .idle && (s.core c.1).ended.isNone)).foldl (fun s c =>
    let k := s.core c.1
    let (d, s) := s.draw
    let (e, s) := s.draw
    let k := { k with state := .kernel, kwin := blankMem, codeLen := imgCode b, pc := kwinBase + imgEntry b, ticket := 0, statuses := [],
                      matrix := [], vector := [], dma := [], run := none, resv := none, rank := c.2, exiting := none, ended := none,
                      cycle := w64 (Config.freeValue d), instret := w64 (Config.freeValue e),
                      regs := [] }
    let k := (k.write 0 l.args).write kwinBase (unmarked (slice b 64 (imgCode b + imgData b)))
    let k := (((k.setReg 10 0).setReg 11 l.args.length).setReg 12 c.2).setReg 13 l.cores.length
    s.setCore c.1 (k.setReg 2 kwinEnd)) s
  s.modLaunch l.tag (fun l => { l with verifying := false, started := some s.now, kernelId := field b 32 8 })

/-- The arguments are in: the image is checked, and started when its digest is known, else verified (R211). -/
def State.launchCheck (s : State) (l : Launch) : State :=
  if !imageOk l.image then s.launchEnd l.tag .badDescriptor 0
  else if s.qnc.digests.contains (Config.sha384 l.image) then (s.count F.QNC_KCACHE_HITS).launchStart l
  else (s.count F.QNC_KCACHE_MISSES).modLaunch l.tag (fun l => { l with verifying := true })

/-- Read a range of a launch's descriptor. -/
def State.launchLoad (s : State) (tag : Nat) (o : XOwner) (voff loff : Nat) : State :=
  match s.workOf tag with
  | none => s
  | some w =>
    match s.workDga w (field w.desc voff 8) (field w.desc loff 4) with
    | none => s.launchEnd tag .noXlate 0
    | some (dga, cls) => s.loadFor o w.ctx cls dga (field w.desc loff 4) vcREQ

/-- The image is copied. One with a poisoned sector ends the launch with `POISON`. -/
def State.launchImage (s : State) (tag : Nat) (x : Xfer) : State :=
  if !s.qnc.launches.any (fun l => l.tag == tag) then s
  else if x.status ≠ .done then s.launchEnd tag x.status 0
  else if x.data.any (fun b => b.2) then (s.notePoison tag 0 (x.poisonDga 0 x.data.length)).launchEnd tag .poison 0
  else (s.modLaunch tag (fun l => { l with image := plain x.data })).launchLoad tag (.kernelArgs tag) 24 32

def State.launchArgs (s : State) (tag : Nat) (x : Xfer) : State :=
  if !s.qnc.launches.any (fun l => l.tag == tag) then s
  else if x.status ≠ .done then s.launchEnd tag x.status 0
  else
    let s := s.modLaunch tag (fun l => { l with args := x.data })
    match s.qnc.launches.find? (fun l => l.tag == tag) with
    | some l => s.launchCheck l
    | none => s

/-- KERNEL_VERIFY_DONE (R211, R213): the image is entered in the digest table and its cores start, or the launch ends. -/
def State.kernelVerifyDone (s : State) (tag : Nat) : State :=
  match s.qnc.launches.find? (fun l => l.tag == tag && l.verifying) with
  | none => s
  | some l =>
    if s.imageSigned l.image then
      let ds := s.qnc.digests ++ [Config.sha384 l.image]
      let ds := ds.drop (ds.length - 256)
      let s := ({ s with qnc.digests := ds } : State).extendMr 5 5 (Config.sha384 l.image)
      (s.setF F.QNC_KCACHE_ENTRIES ds.length).launchStart l
    else
      let w := s.workOf tag
      (s.logErr { unit := .qnc, status := .authFail, opcode := dKERNEL_LAUNCH, ctx := w.map (fun w => w.ctx), tag := tag }).launchEnd tag .authFail 0

/-- KCACHE_FLUSH (R211). -/
def State.kcacheFlush (s : State) : State := ({ s with qnc.digests := [] } : State).setF F.QNC_KCACHE_ENTRIES 0

/-- LAUNCH_BUDGET_EXPIRY (R215): every core of the launch that still executes traps with CAUSE 0x08. -/
def State.budgetExpiry (s : State) (tag : Nat) : State :=
  match s.qnc.launches.find? (fun l => l.tag == tag && l.started.isSome) with
  | none => s
  | some l =>
    let s := s.reach (l.started.getD 0 + l.budgetUs * nsPerUs)
    l.cores.foldl (fun s n => if s.scalarRuns n then s.coreTrap n cBudget else s) s

/-! ### The end of a launch (R214) -/

/-- A core that is leaving and whose commands have all completed has ended its part: it is IDLE, held by the launch. -/
def State.coreEnds (s : State) (n : Nat) : State :=
  let k := s.core n
  match k.exiting with
  | some v =>
    if k.state = .kernel ∧ k.quiet 7 then
      (s.setCore n { k with exiting := none, ended := some v, state := .idle, regs := [], codeLen := 0, resv := none }).count (F.QNC_WORK_LAUNCHES.core n)
    else s
  | none => s

/-- The outcome of a launch whose cores have all ended. -/
def launchOutcome (ends : List (Nat × Nat)) : Status × Nat :=
  match ends.find? (fun e => e.1 != 0) with
  | none => (.done, (ends.headD (0, 0)).2)
  | some e => (if Status.ofCode e.1 = .accepted then .internal else Status.ofCode e.1, e.2)

/-- Launches whose selected cores have all ended are over. -/
def State.settleLaunches (s : State) : State :=
  let s := (List.range 16).foldl State.coreEnds s
  s.qnc.launches.foldl (fun s l =>
    let ends := l.cores.filterMap (fun n => if (s.core n).launch = some l.tag then (s.core n).ended else none)
    if l.granted ∧ ends.length = l.cores.length then
      let o := launchOutcome ends
      s.launchEnd l.tag o.1 o.2
    else s) s

/-! ### Core states and grants (R217, R218) -/

/-- Whether a core may be granted to work at all. -/
def State.grantable (s : State) (n : Nat) : Bool :=
  let k := s.core n
  (s.sliceOfCore n).isSome && !s.pwr.failed.contains (n + 1) && k.isolation == 0 && k.launch.isNone && k.attend.isNone
    && !(s.fld F.RAS_QUAR_STATE == 1 && s.fld F.RAS_QUAR_CORE == n)

/-- Ask for the wake of an OFF core to which work is granted. -/
def State.wakeCore (s : State) (n : Nat) : State :=
  let k := s.core n
  if k.state = .off ∧ s.islandState (n + 1) = isOFF then (s.setCore n { k with state := .waking }).askWake (n + 1) 0 0
  else s

/-- CORE_WAKE_DONE (R217): 30 us after the grant of its wake the core is IDLE. -/
def State.coreWakeDone (s : State) (n : Nat) : State :=
  if n ≥ 16 ∨ s.islandState (n + 1) ≠ isWAKING then s
  else
    let s := (s.reach (s.pwr.wakeAt.getD (n + 1) 0 + 30 * nsPerUs)).setIsland (n + 1) isON
    let k := s.core n
    if k.state = .waking then s.setCore n { k with state := .idle, since := s.now } else s

/-- CORE_IDLE_GATE (R217): a core idle for the gating time powers down; its tile store is lost. -/
def State.coreIdleGate (s : State) (n : Nat) : State :=
  let k := s.core n
  let busy := (s.fld F.RAS_QUAR_STATE = 1 ∧ s.fld F.RAS_QUAR_CORE = n) ∨ k.isolation ≠ 0
  if n ≥ 16 ∨ k.state ≠ .idle ∨ k.launch.isSome ∨ busy then s
  else
    let s := s.reach (k.since + s.fld (F.QNC_IDLE_GATE_US.core n) * nsPerUs)
    ((s.setCore n { k with state := .off }).loseTile n).setIsland (n + 1) isOFF

/-- Cores of the slice an `ATTEND` request may use: the queue's slice, or for another member's request the slices here of its partition
(R226). -/
def State.attendCores (s : State) (w : Work) : List Nat :=
  (List.range 16).filter (fun n => match s.sliceOfCore n with
    | some e => if s.isSelf w.origin then some e.1 == (s.sliceOfCtx w.ctx).map Prod.fst else e.2.partition == w.partition
    | none => false)

/-- Grant a launch its cores: they are taken, and its image is copied. -/
def State.grantLaunch (s : State) (l : Launch) : State :=
  let s := l.cores.foldl (fun s n => s.setCore n { s.core n with launch := some l.tag, ended := none, exiting := none }) s
  (s.modLaunch l.tag (fun l => { l with granted := true })).launchLoad l.tag (.kernelImage l.tag) 8 16

/-- What a grant pass knows: cores held back by a launch at the head of its slice's order, the slices whose head still waits, and cores
already being woken for a unit. -/
structure GrantPass where
  state : State
  blocked : List Nat
  headed : List (Option Nat)
  waking : List Nat

/-- The slice of some cores. -/
def State.sliceOfCores (s : State) (cores : List Nat) : Option Nat := (s.sliceOfCore (cores.headD 16)).map Prod.fst

/-- A launch in its turn: granted when all its cores are IDLE, else those that are OFF are woken; at the head of its slice's order it holds
its cores back from later work, elsewhere it blocks nothing. -/
def GrantPass.launch (g : GrantPass) (l : Launch) : GrantPass :=
  let s := g.state
  let free (n : Nat) : Bool := s.grantable n && !g.blocked.contains n
  let slice := s.sliceOfCores l.cores
  if l.cores.all (fun n => free n && (s.core n).state == .idle) then { g with state := s.grantLaunch l }
  else { g with state := l.cores.foldl (fun s n => if free n then s.wakeCore n else s) s, headed := g.headed ++ [slice],
                blocked := if g.headed.contains slice then g.blocked else g.blocked ++ l.cores }

end Sys2Proof.Machine
end

