-- ==== Sys2Proof/Machine/Attend.lean ====
section
/-! DEFINITION. `ATTEND`: submission, phases, units and their results, and the grant pass over launches and units
(spec/07 R218 to R227). -/

namespace Sys2Proof.Machine

/-! ### The descriptor (R220 to R222) -/

def attKv (d : List Byte) : Nat := field d 4 1
def attQe (d : List Byte) : Nat := field d 5 1
def attOe (d : List Byte) : Nat := field d 6 1
def attLse (d : List Byte) : Bool := bitAt (field d 7 1) 0
def attCausal (d : List Byte) : Bool := bitAt (field d 7 1) 1
def attSeqs (d : List Byte) : Nat := field d 40 2
def attDim (d : List Byte) : Nat := field d 42 2
def attGroup (d : List Byte) : Nat := field d 44 1
def attQtok (d : List Byte) : Nat := field d 45 1
def attBlock (d : List Byte) : Nat := field d 46 2
def attHeads (d : List Byte) : Nat := field d 52 2

/-- Rows of one unit, and R_s of a sequence. -/
def attRows (d : List Byte) : Nat := attGroup d * attQtok d
def attRs (d : List Byte) : Nat := attHeads d * attRows d
def attOutBytes (d : List Byte) : Nat := attDim d * (elemBits (attOe d) / 8)
def attSeqBytes (d : List Byte) : Nat := attRs d * attOutBytes d + (if attLse d then 4 * attRs d else 0)

def attLayout (d : List Byte) : Nat := if isMx (attKv d) then 2 else 0
def attK (d : List Byte) : TileShape := ⟨attLayout d, attKv d, attBlock d, attDim d⟩
def attV (d : List Byte) : TileShape := ⟨attLayout d, attKv d, attDim d, attBlock d⟩
def attBlockBytes (d : List Byte) : Nat := (attK d).size + (attV d).size

/-- The checks of R223. -/
def State.checkAttend (s : State) (c : Nat) (d : List Byte) : DescCheck :=
  let scale := fp32.decode (field d 48 4)
  let tileBad (t : TileShape) : Bool := t.size < 4096 || t.size > 65536
  let qcode (e : Nat) : Bool := e == 7 || e == 8 || e == 9
  match firstFault [
      faultIf (attKv d == 0 || attKv d > 8) .badDescriptor 4, faultIf (!qcode (attQe d)) .badDescriptor 5, faultIf (!qcode (attOe d)) .badDescriptor 6,
      faultIf (field d 7 1 ≥ 4) .badDescriptor 7, faultIf (field d 8 8 % 64 ≠ 0) .badDescriptor 8, faultIf (field d 16 8 % 64 ≠ 0) .badDescriptor 16,
      faultIf (field d 24 8 % 64 ≠ 0 || (attLse d && field d 24 8 == 0) || (!attLse d && field d 24 8 != 0)) .badDescriptor 24,
      faultIf (attSeqs d == 0) .badDescriptor 40, faultIf (attDim d < 32 || attDim d > 256 || attDim d % 32 != 0) .badDescriptor 42,
      faultIf (attGroup d == 0 || attGroup d > 128) .badDescriptor 44,
      faultIf (attQtok d == 0 || attQtok d > 16 || attRows d > 128) .badDescriptor 45,
      faultIf (attBlock d < 32 || attBlock d > 1024 || attBlock d % 32 != 0) .badDescriptor 46,
      faultIf (!(scale.isFin && scale.positive)) .badDescriptor 48, faultIf (attHeads d == 0 || attHeads d > 256) .badDescriptor 52,
      faultIf (!allZero (slice d 54 10)) .badDescriptor 54, faultIf (tileBad (attK d) || tileBad (attV d)) .badDescriptor 46,
      faultIf (attSeqBytes d > 1048576) .badDescriptor 40] with
  | some f => some f
  | none =>
    let n := 32 * attSeqs d
    let out := attSeqs d * attRs d * attOutBytes d
    let lse := 4 * attSeqs d * attRs d
    let sl := (s.sliceOfCtx c).map Prod.fst
    let cores := (List.range 16).filter (fun k => (s.sliceOfCore k).map Prod.fst == sl && !s.coreOut k)
    match firstFault [faultIf (sl.isNone || cores.isEmpty) .stateConflict 0, s.rangeStateFault c (field d 8 8) n rREAD 8,
        s.rangeStateFault c (field d 16 8) out rWRITE 16, if attLse d then s.rangeStateFault c (field d 24 8) lse rWRITE 24 else none,
        s.rangeStateFault c (field d 32 8) 1 rREAD 32] with
    | some f => some f
    | none =>
      match boundsLast [s.rangeAllFault c (field d 8 8) n rREAD 8, s.rangeAllFault c (field d 16 8) out rWRITE 16,
          if attLse d then s.rangeAllFault c (field d 24 8) lse rWRITE 24 else none, s.rangeFault c (field d 32 8) 1 rREAD 32] with
      | some f => some f
      | none =>
        let w2 : Bool := match s.translate c (field d 32 8) 1 rREAD with | .ok x => decide (dgaWin x.dga ≥ 2) | .error _ => false
        faultIf w2 .access 32

/-! ### Phases (R226) -/

/-- Sequences of a phase, and its first one. -/
def attPer (d : List Byte) : Nat := max 1 (1048576 / max 1 (attSeqBytes d))
def attFirst (w : Work) : Nat := attPer w.desc * w.phase
def attCount (w : Work) : Nat := min (attPer w.desc) (attSeqs w.desc - attFirst w)

/-- Output range of a unit: its virtual address and bytes. -/
def attOutVa (d : List Byte) (s h : Nat) : Nat := field d 16 8 + (s * attRs d + h * attRows d) * attOutBytes d
def attOutLen (d : List Byte) : Nat := attRows d * attOutBytes d
def attLseVa (d : List Byte) (s h : Nat) : Nat := field d 24 8 + 4 * (s * attRs d + h * attRows d)

/-- Tags a unit's stores take. -/
def State.unitTags (s : State) (w : Work) (sq h : Nat) : Nat :=
  let d := w.desc
  let n (va len : Nat) : Nat := match s.workDga w va len with | some x => storesOf x.1 len | none => 0
  n (attOutVa d sq h) (attOutLen d) + (if attLse d then n (attLseVa d sq h) (4 * attRows d) else 0)

/-- The units of a phase in order. -/
def attUnits (w : Work) : List (Nat × Nat) :=
  (List.range (attCount w)).flatMap (fun i => (List.range (attHeads w.desc)).map (fun h => (attFirst w + i, h)))

/-- The first tag of a unit's stores within its phase: fixed by its place, so that a replay uses the same (R121, R226). -/
def State.unitTagBase (s : State) (w : Work) (sq h : Nat) : Nat :=
  ((attUnits w).takeWhile (fun u => !(u.1 == sq && u.2 == h))).foldl (fun n u => n + s.unitTags w u.1 u.2) w.tagBase

/-- The extent a request references at an address: its VA_START, DGA_BASE, bytes and class. -/
def State.workRef (s : State) (w : Work) (va : Nat) : Option WorkRef :=
  match s.workConvert w va 1 with
  | some v => w.refAt v 1
  | none => none

/-- Commit the next phase, with the body of R226. -/
def State.attendPlan (s : State) (w : Work) : State :=
  let d := w.desc
  let ref (va : Nat) : WorkRef := (s.workRef w va).getD ⟨0, 0, 0, 0⟩
  let a := ref (field d 8 8)
  let k := ref (field d 32 8)
  let dga (va : Nat) : Nat := match s.workDga w va 1 with | some x => x.1 | none => 0
  let n := (attUnits w).foldl (fun n u => n + s.unitTags w u.1 u.2) 0
  let body := natLe 8 a.ext ++ natLe 8 a.dga ++ natLe 8 k.ext ++ natLe 8 k.dga ++ natLe 8 (dga (field d 16 8))
    ++ natLe 8 (if attLse d then dga (field d 24 8) else 0) ++ natLe 5 (a.bytes / pageBytes) ++ natLe 5 (k.bytes / pageBytes)
    ++ natLe 2 (attFirst w) ++ natLe 2 (attCount w) ++ zeros 2
  s.commitPhase w.tag n body

def State.attRun (s : State) (tag : Nat) : Option AttRun := s.qnc.attends.find? (fun r => r.tag == tag)
def State.modAtt (s : State) (tag : Nat) (f : AttRun → AttRun) : State :=
  { s with qnc.attends := s.qnc.attends.map (fun r => if r.tag == tag then f r else r) }
/-- Whether an entry is a chunk of a unit. -/
def AttUnit.of (u : AttUnit) (tag sq h : Nat) : Bool := u.tag == tag && u.seq == sq && u.head == h
def State.modChunk (s : State) (tag sq h c : Nat) (f : AttUnit → AttUnit) : State :=
  { s with qnc.units := s.qnc.units.map (fun u => if u.of tag sq h && u.chunk == c then f u else u) }
def State.chunkOf (s : State) (tag sq h c : Nat) : Option AttUnit := s.qnc.units.find? (fun u => u.of tag sq h && u.chunk == c)

/-- The number that names a chunk among the work of a request (R409): its sequence, head and place. -/
def AttUnit.name (u : AttUnit) : Nat := u.seq + 2 ^ 16 * u.head + 2 ^ 24 * u.chunk
def State.namedUnit (s : State) (tag name : Nat) : Option AttUnit := s.chunkOf tag (name % 2 ^ 16) (name / 2 ^ 16 % 2 ^ 8) (name / 2 ^ 24)

/-- The request is over: the outcome of R224. -/
def State.attendEnd (s : State) (tag : Nat) (st : Status) (result : Nat) : State :=
  ({ s with qnc.attends := s.qnc.attends.filter (fun r => r.tag != tag), qnc.units := s.qnc.units.filter (fun u => u.tag != tag) } : State).outcome
    tag st result

/-- The phase is in effect: its sequence entries are read; a custodian with no core for it retires the request. -/
def State.attendPhase (s : State) (tag : Nat) : State :=
  match s.workOf tag with
  | none => s
  | some w =>
    if !s.isSelf w.origin ∧ (s.attendCores w).isEmpty then s.attendEnd tag .access 0
    else
      let old := s.attRun tag
      let r : AttRun := { tag := tag, first := attFirst w, count := attCount w, loaded := false, stores := 0,
                          computed := (match old with | some o => o.computed | none => 0), fails := (match old with | some o => o.fails | none => 0),
                          firstFail := (match old with | some o => o.firstFail | none => none) }
      let s : State := { s with qnc.attends := s.qnc.attends.filter (fun x => x.tag != tag) ++ [r],
                                qnc.units := s.qnc.units.filter (fun u => u.tag != tag) }
      match s.workDga w (field w.desc 8 8 + 32 * attFirst w) (32 * attCount w) with
      | none => s.attendEnd tag .noXlate 0
      | some (dga, cls) => s.loadFor (.attend tag 0 0 0 0) w.ctx cls dga (32 * attCount w) vcREQ

/-! ### Checks of entries (R224) -/

/-- A range that must lie in the extent named by an address of the descriptor: none, or the failure with its address. -/
def State.attRangeFault (s : State) (w : Work) (voff va n : Nat) : Option (Status × Nat) :=
  let inside : Bool := match s.workDga w va n, s.workRef w (field w.desc voff 8) with
    | some (dga, _), some r => decide (r.dga ≤ dga ∧ dga + n ≤ r.dga + r.bytes)
    | _, _ => false
  if inside then none
  else if !s.isSelf w.origin then some (.bounds, 0)
  else match s.translate w.ctx va n 0 with
    | .error (.noXlate, a) => some (.noXlate, a)
    | _ => some (.bounds, 0)

def attNblk (d e : List Byte) : Nat := ceilDiv (field e 16 4) (attBlock d)

/-- Tokens of a chunk (R223). -/
def chunkTokens := 32768

/-- The tokens of a chunk of a sequence, from the first up to the last exclusive, and the blocks that hold them. -/
def chunkFrom (u : AttUnit) : Nat := chunkTokens * u.chunk
def chunkTo (u : AttUnit) : Nat := min (field u.entry 16 4) (chunkTokens * (u.chunk + 1))
def firstBlock (d : List Byte) (u : AttUnit) : Nat := chunkFrom u / attBlock d
def chunkBlocks (d : List Byte) (u : AttUnit) : Nat := ceilDiv (chunkTo u) (attBlock d) - firstBlock d u

/-- The failure of a sequence entry. -/
def State.attSeqFault (s : State) (w : Work) (e : List Byte) : Option (Status × Nat) :=
  let d := w.desc
  let len := field e 16 4
  if len = 0 ∨ len < attQtok d ∨ !allZero (slice e 20 12) then some (.badDescriptor, 0)
  else
    let q := s.attRangeFault w 8 (field e 0 8) (attRs d * attDim d * (elemBits (attQe d) / 8))
    q.or (s.attRangeFault w 8 (field e 8 8) (8 * attHeads d * attNblk d e))

/-- Note a failed or poisoned unit; the first in (sequence, head) order is kept. -/
def State.attNoteFail (s : State) (tag sq h : Nat) (st : Status) (va : Nat) : State :=
  s.modAtt tag (fun r =>
    let first := match r.firstFail with
      | some (s', h', x) => if s' < sq ∨ (s' = sq ∧ h' ≤ h) then some (s', h', x) else some (sq, h, st, va)
      | none => some (sq, h, st, va)
    { r with fails := r.fails + 1, firstFail := first })

/-- The sequence entries of the phase are read: each is checked, and the units of those that pass wait for cores. -/
def State.attTable (s : State) (tag : Nat) (x : Xfer) : State :=
  match s.workOf tag, s.attRun tag with
  | some w, some r =>
    if r.loaded then s
    else if x.status ≠ .done then s.attendEnd tag x.status 0
    else
      let s := s.modAtt tag (fun r => { r with loaded := true })
      (List.range r.count).foldl (fun s i =>
        let m := (x.data.drop (32 * i)).take 32
        let e := plain m
        let sq := r.first + i
        let bad := if m.any (fun b => b.2) then some (Status.poison, 0) else s.attSeqFault w e
        let s := s.notePoison tag (2 ^ 16 * sq) (x.poisonDga (32 * i) (32 * i + 32))
        (List.range (attHeads w.desc)).foldl (fun s h =>
          match bad with
          | some (st, va) => s.attNoteFail tag sq h st va
          | none => { s with qnc.units := s.qnc.units ++ (List.range (ceilDiv (field e 16 4) chunkTokens)).map (fun c =>
              (⟨tag, sq, h, c, e, none, 0, [], [], [], false, []⟩ : AttUnit)) }) s) s
  | _, _ => s

/-! ### A unit's reads -/

/-- Free the core of a chunk. -/
def State.unitCoreFree (s : State) (u : AttUnit) : State :=
  match u.core with
  | some n =>
    let k := s.core n
    if k.state = .attend then s.setCore n { k with state := .idle, attend := none, since := s.now } else s
  | none => s

/-- A unit fails: it writes nothing, and the cores of its chunks are free. -/
def State.unitFails (s : State) (u : AttUnit) (st : Status) (va : Nat) : State :=
  let s := ((s.qnc.units.filter (fun v => v.of u.tag u.seq u.head)).foldl State.unitCoreFree s).attNoteFail u.tag u.seq u.head st va
  { s with qnc.units := s.qnc.units.filter (fun v => !v.of u.tag u.seq u.head) }

/-- A chunk starts on a core: the unit's rows of Q and the chunk's part of the block table are read. -/
def State.unitStart (s : State) (u : AttUnit) (n : Nat) : State :=
  match s.workOf u.tag with
  | none => s
  | some w =>
    let d := w.desc
    let s := s.setCore n { s.core n with state := .attend, attend := some (u.tag, u.seq, u.head, u.chunk) }
    let s := s.modChunk u.tag u.seq u.head u.chunk (fun v => { v with core := some n, stage := 1 })
    let qn := attRows d * attDim d * (elemBits (attQe d) / 8)
    let nb := chunkBlocks d u
    match s.workDga w (field u.entry 0 8 + u.head * qn) qn,
        s.workDga w (field u.entry 8 8 + 8 * (u.head * attNblk d u.entry + firstBlock d u)) (8 * nb) with
    | some q, some t =>
      let (id, s) := s.newXfer (.attend u.tag u.seq u.head u.chunk 1) 0
      (s.addLoad id 0 w.ctx q.2 q.1 qn vcREQ).addLoad id (2 ^ 40) w.ctx t.2 t.1 (8 * nb) vcREQ
    | _, _ => s.unitFails u .bounds 0

/-- The bytes a transfer brought in a window of offsets. -/
def Xfer.window (x : Xfer) (lo hi : Nat) : List MByte := ((x.pieces.filter (fun p => decide (lo ≤ p.1 ∧ p.1 < hi))).map Prod.snd).flatten

/-- The block addresses of a part of a table with their places in it; an entry of a poisoned sector names no block (R225). -/
def blockVas (t : List MByte) : List (Nat × Nat) :=
  ((List.range (t.length / 8)).filter (fun b => !((t.drop (8 * b)).take 8).any (fun m => m.2))).map (fun b => (field (plain t) (8 * b) 8, b))

/-- The failure of a block entry, in the order of the table. -/
def State.attBlockFault (s : State) (w : Work) (vas : List (Nat × Nat)) : Option (Status × Nat) :=
  (vas.map (fun v => if v.1 % 64 ≠ 0 then some (Status.badDescriptor, 0) else s.attRangeFault w 32 v.1 (attBlockBytes w.desc))).findSome? id

/-- Q and the block table are in: the block entries are checked and the blocks read. -/
def State.attQ (s : State) (u : AttUnit) (x : Xfer) : State :=
  match s.workOf u.tag with
  | none => s
  | some w =>
    if x.status ≠ .done then s.unitFails u x.status 0
    else
      let q := x.window 0 (2 ^ 40)
      let t := x.window (2 ^ 40) (2 ^ 41)
      let s := s.notePoison u.tag (2 ^ 16 * u.seq + u.head) (x.poisonDga 0 x.data.length)
      match s.attBlockFault w (blockVas t) with
      | some (st, va) => s.unitFails u st va
      | none =>
        let s := s.modChunk u.tag u.seq u.head u.chunk (fun v => { v with stage := 2, q := q, table := t })
        let (id, s) := s.newXfer (.attend u.tag u.seq u.head u.chunk 2) 0
        (blockVas t).foldl (fun s b =>
          match s.workDga w b.1 (attBlockBytes w.desc) with
          | some (dga, cls) => s.addLoad id (b.2 * 2 ^ 20) w.ctx cls dga (attBlockBytes w.desc) vcREQ
          | none => s) s

/-! ### The computation (R219, R223, R225) -/

/-- A row of values quantised before a matrix product: the values and, for MX, the block scales. -/
def attQuant (kv : Nat) (xs : List Fl) : List Fl × List Nat :=
  if isMx kv then
    let bs := (blocks32 xs).map (toMxBlock 1)
    (bs.flatMap (fun b => b.2.map (elemValue 1)), bs.map Prod.fst)
  else (xs.map (fun x => elemValue kv (encodeElem kv x)), [])

/-- Row `r` of a packed tile and its scales, as they lie in memory. -/
def tileLine (t : TileShape) (bs : List MByte) (r : Nat) : List MByte × List MByte :=
  ((bs.drop (r * t.lineBytes)).take t.lineBytes, (bs.drop (t.area + r * t.scaleBytes)).take t.scaleBytes)

/-- The values and scales of row `r` of a packed tile. -/
def tileRow (t : TileShape) (bs : List MByte) (r : Nat) : ArrayRow :=
  let l := tileLine t bs r
  ((List.range t.cols).map (fun c => elemValue t.elem (elemAt t.elem (plain l.1) c)), (plain l.2).map BitVec.toNat)

/-- Whether any of the `n` elements from element `i` of a row, or a scale that governs one, is poisoned. -/
def tileMarked (t : TileShape) (bs : List MByte) (r i n : Nat) : Bool :=
  let b := elemBits t.elem
  let l := tileLine t bs r
  decide (n ≠ 0) && (((l.1.take (ceilDiv ((i + n) * b) 8)).drop (i * b / 8)).any (fun x => x.2)
    || ((l.2.take (ceilDiv (i + n) 32)).drop (i / 32)).any (fun x => x.2))

/-- The first of the chunk's tokens in a block, and how many there are. -/
def chunkIn (d : List Byte) (u : AttUnit) (b : Nat) : Nat × Nat :=
  let lo := max (chunkFrom u) (b * attBlock d)
  (lo - b * attBlock d, min (chunkTo u) ((b + 1) * attBlock d) - lo)

/-- Whether a chunk poisons its unit (R225): by Q, its block-table entries, or data of its tokens. -/
def chunkPoisoned (d : List Byte) (u : AttUnit) : Bool :=
  u.q.any (fun b => b.2) || u.table.any (fun b => b.2) ||
    u.blocks.any (fun b =>
      let (i, n) := chunkIn d u b.1
      let v := b.2.drop (attK d).size
      (List.range n).any (fun j => tileMarked (attK d) b.2 (i + j) 0 (attDim d))
        || (List.range (attDim d)).any (fun r => tileMarked (attV d) v r i n))

/-- The blocks are in. -/
def State.attBlocks (s : State) (u : AttUnit) (x : Xfer) : State :=
  match s.workOf u.tag with
  | none => s
  | some w =>
    if x.status ≠ .done then s.unitFails u x.status 0
    else
      let vas := blockVas u.table
      let n := vas.length * attBlockBytes w.desc
      let kv := unitsOf (2 ^ 20) s.qnc.kvBytes n
      let s := match u.core with | some c => s.dmaBytes c n 0 | none => s
      let s : State := { s with qnc.kvBytes := kv.2 }
      let blocks := vas.map (fun b => (firstBlock w.desc u + b.2, x.window (b.2 * 2 ^ 20) ((b.2 + 1) * 2 ^ 20)))
      let s := if chunkPoisoned w.desc { u with blocks := blocks } then s.notePoison u.tag (2 ^ 16 * u.seq + u.head) (x.poisonDga 0 x.data.length) else s
      (s.count F.QNC_ATTEND_KV_MIB kv.1).modChunk u.tag u.seq u.head u.chunk (fun v => { v with
        stage := 3, blocks := blocks })

/-- An answer to a read of ATTEND. Reads of a chunk that has left its core in between are dropped. -/
def State.attLoaded (s : State) (tag sq h chunk stage : Nat) (x : Xfer) : State :=
  if stage = 0 then s.attTable tag x
  else match s.chunkOf tag sq h chunk with
    | some u => if u.stage ≠ stage ∨ u.core.isNone then s else if stage = 1 then s.attQ u x else s.attBlocks u x
    | none => s

/-- log2(e) to 64 bits. -/
def log2e : Fl := .fin false 0xB8AA3B295C17F0BC (-63)

/-- One row's running maximum, sum and accumulator. -/
structure AttAcc where
  m : Fl
  l : Fl
  acc : List Fl

/-- What a chunk has come to: its rows, the passes recomputed to a match, and whether one mismatched again. -/
structure AttState where
  rows : List AttAcc
  transient : Nat
  failed : Bool

/-- K_pass of the products of a unit: E4M3 with the MX codes, else the format with itself (R200, R223). -/
def attKpass (d : List Byte) : Nat := if isMx (attKv d) then 128 else 64

/-- Free values the two products and the row steps of one block take. -/
def attScoreFree (d : List Byte) : Nat := productFree (attRows d) (attBlock d) (attDim d) (attKpass d)
def attSumFree (d : List Byte) : Nat := productFree (attRows d) (attDim d) (attBlock d) (attKpass d)
def attRowFree (d : List Byte) : Nat := 2 * attBlock d + attDim d + 3
def attBlockFree (d : List Byte) : Nat := attScoreFree d + attSumFree d + attRows d * attRowFree d

/-- One row of a block (R219): with its scores and a running state, the weights p, the factor f, and m and l; none where no score lies above
minus infinity. -/
def attRow (free : Nat) (sc : List Fl) (a : AttAcc) : Option (List Fl × Fl × Fl × Fl) :=
  let f (i : Nat) : Nat := Config.freeValue (free + i)
  if sc.all (fun x => decide (x = .inf true)) then none
  else
    let m := flMax a.m (sc.foldl flMax (.inf true))
    let ps := (sc.zipIdx).map (fun x => approx (f (3 + x.2)) 2 true ((x.1.sub m).exp2))
    let fc := approx (f 0) 2 true ((a.m.sub m).exp2)
    some (ps, fc, m, approx (f 1) 2 true ((a.l.mul fc).add (sumFree ps.length (f 2) ps)))

/-- One block for every row (R219): `rows` are the quantised query rows with the last token each may attend to.  Tokens of the block outside
the chunk belong to another one. -/
def attStep (d : List Byte) (u : AttUnit) (tol free b : Nat) (faults : List ArrayFault) (rows : List (ArrayRow × Nat)) (k v : List ArrayRow)
    (x : AttState) : AttState :=
  if x.failed then x
  else
    let mx := isMx (attKv d)
    let kp := attKpass d
    let dim := attDim d
    let bt := attBlock d
    let fs (n : Nat) := faults.filter (fun f => f.product == 2 * b + n)
    let p := arrayProduct tol kp dim free mx (fs 0) (rows.map Prod.fst) k
    let base := free + attScoreFree d + attSumFree d
    let g (i j : Nat) : Nat := base + i * attRowFree d + j
    let scale := (fp32.decode (field d 48 4)).mul log2e
    let steps := (List.zip rows x.rows).zipIdx.map (fun r =>
      let sc := (List.range bt).map (fun j =>
        let tok := b * bt + j
        if tok > r.1.1.2 ∨ tok < chunkFrom u ∨ chunkTo u ≤ tok then Fl.inf true
        else approx (Config.freeValue (g r.2 j)) 2 true
          ((p.value (free + attScoreFree d - rows.length * bt + r.2 * bt + j) (ceilDiv dim kp) r.2 j []).mul scale))
      attRow (g r.2 bt) sc r.1.2)
    let ps := steps.map (fun t => attQuant (attKv d) (match t with | some y => y.1 | none => List.replicate bt (.fin false 0 0)))
    let q := arrayProduct tol kp bt (free + attScoreFree d) mx (fs 1) ps v
    { rows := (List.zip x.rows steps).zipIdx.map (fun r => match r.1.2 with
        | none => r.1.1
        | some (_, fc, m, l) => { m := m, l := l, acc := (r.1.1.acc.zipIdx).map (fun a =>
            approx (Config.freeValue (g r.2 (2 * bt + 3 + a.2))) 2 true
              ((a.1.mul fc).add (q.value (base - rows.length * dim + r.2 * dim + a.2) (ceilDiv bt kp) r.2 a.2 []))) }),
      transient := x.transient + p.transient + (if p.failed then 0 else q.transient), failed := p.failed || q.failed }

/-- A list in an order the free value chooses (R198: the order of blocks and chunks is open). -/
def permute : Nat → Nat → List Nat → List Nat
  | 0, _, l => l
  | fuel + 1, c, l =>
    match l with
    | [] => []
    | _ => let i := c % l.length; l.getD i 0 :: permute fuel (c / l.length) (l.eraseIdx i)

/-- What a chunk computes (R219): the running state of each row over its blocks, in an order the free value chooses. -/
def chunkResult (d : List Byte) (u : AttUnit) (tol free : Nat) (faults : List ArrayFault) : AttState :=
  let dim := attDim d
  let qe := attQe d
  let len := field u.entry 16 4
  let order := permute u.blocks.length (Config.freeValue free) (List.range u.blocks.length)
  let rows := (List.range (attRows d)).map (fun i =>
    let xs := (List.range dim).map (fun c => elemValue qe (elemAt qe (plain u.q) (i * dim + c)))
    (attQuant (attKv d) xs, if attCausal d then len - attQtok d + i / attGroup d else len - 1))
  let start : AttState := ⟨List.replicate (attRows d) ⟨.inf true, .fin false 0 0, List.replicate dim (.fin false 0 0)⟩, 0, false⟩
  order.foldl (fun x i =>
    match u.blocks[i]? with
    | some (b, bs) =>
      let v := bs.drop (attK d).size
      attStep d u tol (free + 1 + i * attBlockFree d) b faults rows ((List.range (attBlock d)).map (tileRow (attK d) bs))
        ((List.range dim).map (tileRow (attV d) v)) x
    | none => x) start

/-- The codes of a row's state, and the state they stand for. -/
def AttAcc.codes (a : AttAcc) : Nat × Nat × List Nat := (fp32.encode a.m, fp32.encode a.l, a.acc.map fp32.encode)
def AttAcc.ofCodes (c : Nat × Nat × List Nat) : AttAcc := ⟨fp32.decode c.1, fp32.decode c.2.1, c.2.2.map fp32.decode⟩

/-- The states of one row in the chunks of a unit merged through m and l (R223). -/
def mergeRow (dim free : Nat) (parts : List AttAcc) : AttAcc :=
  let f (i : Nat) : Nat := Config.freeValue (free + i)
  match parts.filter (fun a => decide (a.m ≠ .inf true)) with
  | [] => parts.headD ⟨.inf true, .fin false 0 0, List.replicate dim (.fin false 0 0)⟩
  | [a] => a
  | ps =>
    let m := ps.foldl (fun m a => flMax m a.m) (.inf true)
    let ws := (ps.zipIdx).map (fun a => approx (f a.2) 2 true ((a.1.m.sub m).exp2))
    let sum (j : Nat) (xs : List Fl) : Fl := approx (f (ps.length + 2 * j)) 2 true
      (sumFree xs.length (f (ps.length + 2 * j + 1)) ((List.zip xs ws).map (fun x => (x.1.mul x.2).r32)))
    { m := m, l := sum 0 (ps.map AttAcc.l), acc := (List.range dim).map (fun c => sum (c + 1) (ps.map (fun a => a.acc.getD c (.fin false 0 0)))) }

/-- Free values the end of a unit of some chunks takes. -/
def unitFree (d : List Byte) (chunks : Nat) : Nat := attRows d * (3 * attDim d + chunks + 3)

/-- Output element codes of a unit row by row, and its log-sum-exp values, from the results of its chunks (R219). -/
def unitResult (d : List Byte) (parts : List (List (Nat × Nat × List Nat))) (free : Nat) : List (List Nat) × List Nat :=
  let dim := attDim d
  let rows := (List.range (attRows d)).map (fun i =>
    let base := free + i * (3 * dim + parts.length + 3)
    let a := mergeRow dim base ((parts.filterMap (fun p => p[i]?)).map AttAcc.ofCodes)
    let g (j : Nat) : Nat := Config.freeValue (base + parts.length + 2 * dim + 2 + j)
    (a.acc.zipIdx.map (fun x => encodeElem (attOe d) (approx (g x.2) 2 (!a.l.isZero) (x.1.div a.l))),
     fp32.encode (approx (g dim) 2 a.l.positive ((a.m.add a.l.log2).mul ln2))))
  (rows.map Prod.fst, rows.map Prod.snd)

/-- Store marked bytes of a unit under the tags fixed for it. -/
def State.unitStore (s : State) (w : Work) (id va base : Nat) (bs : List MByte) : State :=
  match s.workDga w va bs.length with
  | none => s
  | some (dga, cls) =>
    let t := match s.route dga cls with | .ok t => t | .error _ => dgaDev dga
    let s := s.addStore id w.ctx cls dga bs vcREQ true (fun k => base + k)
    s.modWork w.tag (fun w => { w with targets := if w.targets.contains t then w.targets else w.targets ++ [t] })

/-- Every chunk of a unit is computed: its rows are merged and stored (R223 to R225). -/
def State.unitWritten (s : State) (w : Work) (sq h : Nat) : State :=
  let d := w.desc
  let us := s.qnc.units.filter (fun v => v.of w.tag sq h)
  let bad := us.any (fun v => v.bad)
  let base := s.free
  let s : State := { s with free := base + unitFree d us.length }
  let res := unitResult d (us.map (fun v => v.part)) base
  let mark (bs : List Byte) : List MByte := bs.map (fun b => (b, bad))
  let tags := s.unitTagBase w sq h
  let (id, s) := s.newXfer (.attend w.tag sq h 0 4) 0
  let s := s.unitStore w id (attOutVa d sq h) tags (mark (packElems (attOe d) res.1.flatten))
  let outTags := match s.workDga w (attOutVa d sq h) (attOutLen d) with | some x => storesOf x.1 (attOutLen d) | none => 0
  let s := if attLse d then s.unitStore w id (attLseVa d sq h) (tags + outTags) (mark (res.2.flatMap (natLe 4))) else s
  let s := s.modAtt w.tag (fun r => { r with stores := r.stores + 1, computed := r.computed + (if bad then 0 else 1) })
  let s : State := { s with qnc.units := (s.qnc.units.filter (fun v => !v.of w.tag sq h || v.chunk == 0)).map (fun v =>
    if v.of w.tag sq h then { v with stage := 4 } else v) }
  (if bad then s.attNoteFail w.tag sq h .poison 0 else s).count F.QNC_ATTEND_UNITS

/-- ATTEND_UNIT_DONE (R219, R223 to R225): the chunk on a core, its reads complete and no sentinel due, is computed and its core is free; the
last chunk of a unit writes the unit's rows.  A persistent mismatch of its products takes the core to FAULTED (R201), and the chunk waits
for another. -/
def State.attendUnitDone (s : State) (n : Nat) (faults : List ArrayFault) : State :=
  let k := s.core n
  let due := s.ras.sentinelDue.contains (2 * n) || s.ras.sentinelDue.contains (2 * n + 1)
  match k.attend with
  | none => s
  | some (tag, sq, h, c) =>
    match s.chunkOf tag sq h c, s.workOf tag with
    | some u, some w =>
      if k.state ≠ .attend ∨ u.stage ≠ 3 ∨ due then s
      else
        let base := s.free
        let s : State := { s with free := base + 1 + u.blocks.length * attBlockFree w.desc }
        let res := chunkResult w.desc u (s.fld (F.QNC_CSUM_TOL_TOL.core n)) base faults
        let s := s.csumCount n res.transient res.failed
        if res.failed then s
        else
          let s := s.modChunk tag sq h c (fun v => { v with stage := 6, core := none, q := [], table := [], blocks := [],
                                                            bad := chunkPoisoned w.desc u, part := res.rows.map AttAcc.codes })
          let s := s.count (F.QNC_WORK_UNITS.core n)
          let x : Suspect := ⟨w.ctx, tag, u.name, true⟩
          let s := (((s.ranOn n 0 x).ranOn n 1 x).ranOn n 2 x).unitCoreFree u
          if (s.qnc.units.filter (fun v => v.of tag sq h)).all (fun v => v.stage == 6) then s.unitWritten w sq h else s
    | _, _ => s

/-- The stores of a unit are answered; a store that fails fails the unit. -/
def State.attStored (s : State) (tag sq h : Nat) (st : Status) : State :=
  let s := s.modAtt tag (fun r => { r with stores := r.stores - 1 })
  let s : State := { s with qnc.units := s.qnc.units.filter (fun v => !v.of tag sq h) }
  if st = .done then s else s.attNoteFail tag sq h st 0

/-- A phase whose units are all done ends (R224, R226). -/
def State.settleAttend (s : State) (tag : Nat) : State :=
  match s.workOf tag, s.attRun tag with
  | some w, some r =>
    if w.stage ≠ .running ∨ !r.loaded ∨ r.stores ≠ 0 ∨ s.qnc.units.any (fun u => u.tag == tag) then s
    else if attFirst w + attCount w < attSeqs w.desc then (s.modAtt tag (fun r => { r with loaded := false })).phaseOver tag
    else match r.firstFail with
      | none => s.attendEnd tag .done r.computed
      | some (sq, h, st, va) =>
        s.attendEnd tag st (if st = .noXlate then va else sq + 2 ^ 32 * h + 2 ^ 48 * min r.fails 0xFFFF)
  | _, _ => s

/-! ### The grant pass (R218) -/

/-- A chunk in its turn: it takes an IDLE core of its slice, or a core of it is woken. -/
def GrantPass.unit (g : GrantPass) (u : AttUnit) : GrantPass :=
  let s := g.state
  match s.workOf u.tag with
  | none => g
  | some w =>
    let all := s.attendCores w
    let cores := all.filter (fun n => s.grantable n && !g.blocked.contains n)
    match cores.find? (fun n => (s.core n).state == .idle) with
    | some n => { g with state := s.unitStart u n }
    | none =>
      let g := { g with headed := g.headed ++ [s.sliceOfCores all] }
      match cores.find? (fun n => (s.core n).state == .waking && !g.waking.contains n) with
      | some n => { g with waking := g.waking ++ [n] }
      | none =>
        match cores.find? (fun n => (s.core n).state == .off) with
        | some n => { g with state := s.wakeCore n, waking := g.waking ++ [n] }
        | none => g

/-- Grant cores to waiting launches and units in JSEQ order (R218). -/
def State.grantCores (s : State) : State :=
  let ls := (s.qnc.launches.filter (fun l => !l.granted)).map (fun l => (l.tag % 2 ^ 48, some l, (none : Option AttUnit)))
  let us := (s.qnc.units.filter (fun u => u.core.isNone && u.stage == 0)).map (fun u => (u.tag % 2 ^ 48, (none : Option Launch), some u))
  let all := sortBy (fun a b => decide (a.1 < b.1)) (ls ++ us)
  (all.foldl (fun g x =>
    match x.2.1, x.2.2 with
    | some l, _ => g.launch l
    | _, some u => g.unit u
    | _, _ => g) (⟨s, [], [], []⟩ : GrantPass)).state

end Sys2Proof.Machine
end

