-- ==== Sys2Proof/Machine/Sloe.lean ====
section
/-! DEFINITION. Sloe vector search: submission, the centroid step, segments and their scan, merge, filter and results
(spec/13 R357 to R375). -/

namespace Sys2Proof.Machine

/-! ### The descriptor (R365, R366) -/

def seMetric (d : List Byte) : Nat := field d 4 1
def seFilter (d : List Byte) : Bool := bitAt (field d 5 1) 0
def seNq (d : List Byte) : Nat := field d 6 2
def seK (d : List Byte) : Nat := field d 32 2 + 1
def seNprobe (d : List Byte) : Nat := field d 34 2 + 1
def seOver (d : List Byte) : Nat := field d 36 1 + 1
def seM (d : List Byte) : Nat := seK d * seOver d
def seStride (d : List Byte) : Nat := 64 + 64 * ceilDiv (seK d) 4

/-- The checks of R366. -/
def State.checkSearch (s : State) (c : Nat) (d : List Byte) : DescCheck :=
  match firstFault [
      faultIf (seMetric d ≥ 3) .badDescriptor 4, faultIf (field d 5 1 ≥ 2) .badDescriptor 5, faultIf (seNq d == 0) .badDescriptor 6,
      faultIf (field d 8 8 % 64 ≠ 0) .badDescriptor 8, faultIf (field d 24 8 % 64 ≠ 0) .badDescriptor 24,
      faultIf (field d 32 2 ≥ 1024 || seM d > 4096) .badDescriptor 32, faultIf (field d 34 2 ≥ 1024) .badDescriptor 34,
      faultIf (field d 36 1 ≥ 16 || (!seFilter d && field d 36 1 != 0)) .badDescriptor 36, faultIf (!allZero (slice d 37 3)) .badDescriptor 37,
      faultIf (!seFilter d && field d 40 8 != 0) .badDescriptor 40, faultIf (!seFilter d && field d 48 8 != 0) .badDescriptor 48,
      faultIf (!allZero (slice d 56 8)) .badDescriptor 56] with
  | some f => some f
  | none =>
    let sl := (s.sliceOfCtx c).map Prod.fst
    let cores := (List.range 16).filter (fun k => (s.sliceOfCore k).map Prod.fst == sl && !s.coreOut k)
    let n := seNq d * seStride d
    match firstFault [faultIf (sl.isNone || cores.isEmpty) .stateConflict 0, s.rangeStateFault c (field d 8 8) 64 rREAD 8,
        s.rangeStateFault c (field d 24 8) n rWRITE 24] with
    | some f => some f
    | none =>
      match boundsLast [s.rangeFault c (field d 8 8) 64 rREAD 8, s.rangeAllFault c (field d 24 8) n rWRITE 24] with
      | some f => some f
      | none =>
        let bad : Bool := match s.translate c (field d 8 8) 64 rREAD with
          | .ok x => !s.isSelf (dgaDev x.dga) || decide (dgaWin x.dga ≥ 2) | .error _ => false
        faultIf bad .access 8

/-! ### Phases (R367) -/

/-- Queries of the longest run that meets the limits of R367. -/
def sePer (d : List Byte) : Nat := max 1 (min 1024 (min (65536 / max 1 (seM d)) (1048576 / seStride d)))
def seRegion (d : List Byte) (i : Nat) : Nat := field d 24 8 + i * seStride d

/-- Tags of one query's result stores. -/
def State.queryTags (s : State) (w : Work) (i : Nat) : Nat :=
  match s.workDga w (seRegion w.desc i) (seStride w.desc) with
  | some x => storesOf x.1 (seStride w.desc)
  | none => 0

/-- Queries of the phase that begins at a query: what is left of its run of `sePer` queries, cut where 4,096 tags no longer cover the stores
(R116). -/
def State.sePiece (s : State) (w : Work) (first : Nat) : Nat :=
  let stop := min (seNq w.desc) ((first / sePer w.desc + 1) * sePer w.desc)
  ((List.range (stop - first)).foldl (fun (a : Nat × Nat × Bool) k =>
    let t := s.queryTags w (first + k)
    if a.2.2 || decide (a.2.1 + t > 4096) then (a.1, a.2.1, true) else (a.1 + 1, a.2.1 + t, false)) (0, 0, false)).1

/-- The first query of a phase. -/
def State.seFrom (s : State) (w : Work) : Nat → Nat
  | 0 => 0
  | p + 1 => s.seFrom w p + max 1 (s.sePiece w (s.seFrom w p))

def State.seFirst (s : State) (w : Work) : Nat := s.seFrom w w.phase
def State.seCount (s : State) (w : Work) : Nat := s.sePiece w (s.seFirst w)

/-- The first tag of a query's stores in a phase that begins at query `first`. -/
def State.queryTagBase (s : State) (w : Work) (first i : Nat) : Nat :=
  (List.range (i - first)).foldl (fun n k => n + s.queryTags w (first + k)) w.tagBase

def State.searchPlan (s : State) (w : Work) : State :=
  let first := s.seFirst w
  let count := s.seCount w
  let n := (List.range count).foldl (fun n k => n + s.queryTags w (first + k)) 0
  let dga := match s.workDga w (seRegion w.desc first) 1 with | some x => x.1 | none => 0
  s.commitPhase w.tag n (natLe 4 first ++ natLe 2 count ++ zeros 2 ++ natLe 8 dga ++ zeros 48)

def State.searchRun (s : State) (tag : Nat) : Option SearchRun := s.vs.runs.find? (fun r => r.tag == tag)
def State.modSearch (s : State) (tag : Nat) (f : SearchRun → SearchRun) : State :=
  { s with vs.runs := s.vs.runs.map (fun r => if r.tag == tag then f r else r) }

/-- Fail the queries that satisfy a test and have not failed yet. -/
def SearchRun.failWhere (r : SearchRun) (f : Query → Bool) (st : Status) (addr : Nat) : SearchRun :=
  { r with queries := r.queries.map (fun q => if f q && q.status == .done then { q with status := st, failAddr := if st = .noXlate then addr else 0 } else q) }

/-- The phase is in effect: the header is read. -/
def State.searchPhase (s : State) (tag : Nat) : State :=
  match s.workOf tag with
  | none => s
  | some w =>
    let first := s.seFirst w
    let count := s.seCount w
    let qs := (List.range count).map (fun i => (⟨first + i, [], [], [], 0, 0, .done, 0⟩ : Query))
    let r : SearchRun := ⟨tag, [], first, count, qs, [], [], [], 0, [], 0⟩
    let s : State := { s with vs.runs := s.vs.runs.filter (fun x => x.tag != tag) ++ [r], vs.segments := s.vs.segments.filter (fun x => x.tag != tag) }
    match s.workDga w (field w.desc 8 8) 64 with
    | none => s.modSearch tag (fun r => { r.failWhere (fun _ => true) .noXlate (field w.desc 8 8) with stage := 6 })
    | some (dga, cls) => s.loadFor (.search tag 0 0) w.ctx cls dga 64 vcREQ

/-! ### The header (R360, R364) -/

def hdElem (h : List Byte) : Nat := field h 4 1
def hdCelem (h : List Byte) : Nat := field h 5 1
def hdDim (h : List Byte) : Nat := 32 * (field h 6 1 + 1)
def hdNlist (h : List Byte) : Nat := field h 8 3 + 1
def hdCent (h : List Byte) : Nat := field h 16 8
def hdCscale (h : List Byte) : Nat := field h 24 8
def hdCnorm (h : List Byte) : Nat := field h 32 8
def hdDir (h : List Byte) : Nat := field h 40 8
def hdSegs (h : List Byte) : Nat := field h 48 8
def vecBytes (h : List Byte) : Nat := hdDim h * (elemBits (hdElem h) / 8)
def centBytes (h : List Byte) : Nat := hdDim h * (elemBits (hdCelem h) / 8)

/-- Whether a header breaks R360 or R364. -/
def headerBad (h : List Byte) (metric : Nat) : Bool :=
  let e := hdElem h
  let c := hdCelem h
  field h 0 4 != 0x46564944 || !(e == 1 || e == 2 || e == 7 || e == 8 || e == 0x0A) || !(c == 1 || c == 6 || c == 7 || c == 8)
    || decide (field h 6 1 ≥ 64) || field h 7 1 != 0 || !allZero (slice h 11 5) || hdCent h % 64 != 0 || (!isMx c && hdCscale h != 0)
    || hdCnorm h % 4 != 0 || hdDir h % 16 != 0 || hdSegs h % 32 != 0 || !allZero (slice h 56 8) || (metric != 0 && hdCnorm h == 0)

/-- Translate a range of the index: on this member, in window 0 or 1, or in window 2 for a segment (R359). -/
def State.indexRange (s : State) (c va n : Nat) (flash : Bool) : Except (Status × Nat) Xlated :=
  match s.translate c va n rREAD with
  | .error f => .error f
  | .ok x => if !s.isSelf (dgaDev x.dga) ∨ (flash != (dgaWin x.dga == 2)) ∨ dgaWin x.dga > 2 then .error (.access, va) else .ok x

/-- Hold a reference on an extent for the phase (R367). -/
def State.searchRef (s : State) (tag c : Nat) (x : Xlated) : State :=
  (s.takeRef c x.ext.va).modSearch tag (fun r => { r with refs := r.refs ++ [x.ext.va] })

/-- End every query of the phase. -/
def State.searchFailAll (s : State) (tag : Nat) (st : Status) (addr : Nat) : State :=
  s.modSearch tag (fun r => { r.failWhere (fun _ => true) st addr with stage := 6 })

/-- The header is in: it is checked, the index's DRAM ranges and the query rows are translated and read (R367 step 1). -/
def State.searchHeader (s : State) (w : Work) (r : SearchRun) (x : Xfer) : State :=
  let tag := w.tag
  let h := plain x.data
  let d := w.desc
  if x.status ≠ .done then s.searchFailAll tag x.status (field d 8 8)
  else if x.data.any (fun b => b.2) then s.searchFailAll tag .poison 0
  else if headerBad h (seMetric d) then s.searchFailAll tag .badDescriptor 0
  else
    let s := s.modSearch tag (fun r => { r with header := h })
    let nl := hdNlist h
    let ranges := [(2 ^ 40, hdCent h, nl * centBytes h)]
      ++ (if isMx (hdCelem h) then [(2 ^ 41, hdCscale h, nl * (hdDim h / 32))] else [])
      ++ (if hdCnorm h ≠ 0 then [(2 ^ 42, hdCnorm h, 4 * nl)] else []) ++ [(0, hdDir h, 16 * nl), (0, hdSegs h, 32)]
    match (ranges.map (fun r => match s.indexRange w.ctx r.2.1 r.2.2 false with | .error f => some f | .ok _ => none)).findSome? id with
    | some (st, va) => s.searchFailAll tag st va
    | none =>
      let (id, s) := s.newXfer (.search tag 1 0) 0
      let s := ranges.foldl (fun s r =>
        match s.indexRange w.ctx r.2.1 r.2.2 false with
        | .ok x =>
          let s := s.searchRef tag w.ctx x
          if r.1 = 0 then s else s.addLoad id r.1 w.ctx x.ext.cls x.dga r.2.2 vcREQ
        | .error _ => s) s
      let s := (List.range r.count).foldl (fun s i =>
        let va := field d 16 8 + (r.first + i) * vecBytes h
        match s.translate w.ctx va (vecBytes h) rREAD with
        | .error (st, a) => s.modSearch tag (fun x => x.failWhere (fun q => q.index == r.first + i) st a)
        | .ok x => (s.searchRef tag w.ctx x).addLoad id (i * 2 ^ 20) w.ctx x.ext.cls x.dga (vecBytes h) vcREQ) s
      s.modSearch tag (fun r => { r with stage := 1 })

/-- Queries and centroids are in. A read that failed ends every query of the phase. -/
def State.searchLoaded1 (s : State) (w : Work) (x : Xfer) : State :=
  if x.status ≠ .done then s.searchFailAll w.tag x.status 0
  else
    let cent := x.window (2 ^ 40) (2 ^ 41)
    let sc := x.window (2 ^ 41) (2 ^ 42)
    let nm := x.window (2 ^ 42) (2 ^ 43)
    let s := s.modSearch w.tag (fun r =>
      let r : SearchRun := {
        r with cent := cent, scales := sc, norms := nm, stage := 2,
               queries := r.queries.map (fun q => { q with vec := x.window ((q.index - r.first) * 2 ^ 20) ((q.index - r.first + 1) * 2 ^ 20) }) }
      r.failWhere (fun q => q.vec.any (fun b => b.2)) .poison 0)
    if (cent ++ sc ++ nm).any (fun b => b.2) then s.searchFailAll w.tag .poison 0 else s

/-! ### The centroid step (R364, R367 step 2) -/

/-- An FP32 code as an integer that orders as its value does. -/
def orderCode (c : Nat) : Int := if c ≥ 2 ^ 31 then -((c - 2 ^ 31 : Nat) : Int) else (c : Int)

/-- Elements of a row of the query type. -/
def rowVals (el : Nat) (bs : List MByte) (n : Nat) : List Fl := (List.range n).map (fun i => elemValue el (elemAt el (plain bs) i))

/-- The centroid score of a list for a query, as an ordered integer; none for a list that is never chosen. -/
def centroidScore (h : List Byte) (metric free : Nat) (r : SearchRun) (qv : List Fl × List Nat) (l : Nat) : Option Int :=
  let ce := hdCelem h
  let dim := hdDim h
  let row := (r.cent.drop (l * centBytes h)).take (centBytes h)
  let sc := ((r.scales.drop (l * (dim / 32))).take (dim / 32)).map (fun b => b.1.toNat)
  let dot := dotFree (Config.freeValue (free + l)) (isMx ce) qv.1 (rowVals ce row dim) qv.2 sc
  let norm := fp32.decode (field (plain r.norms) (4 * l) 4)
  let code (x : Fl) : Option Int := some (orderCode (fp32.encode x))
  if metric = 0 then code dot.neg
  else if metric = 1 then (if norm.isZero then none else code ((dot.neg.mul norm.rsqrt).r32))
  else code (norm.sub ((Fl.fin false 2 0).mul dot))

/-- The lists a query probes: the smallest scores, ties by the lower list number. -/
def probeLists (h : List Byte) (metric nprobe free : Nat) (r : SearchRun) (q : Query) : List Nat :=
  let xs := rowVals (hdElem h) q.vec (hdDim h)
  let qv := if isMx (hdCelem h) then attQuant 1 xs else (xs.map (fun x => elemValue (hdCelem h) (encodeElem (hdCelem h) x)), [])
  let scored := (List.range (hdNlist h)).filterMap (fun l => (centroidScore h metric free r qv l).map (fun c => (c, l)))
  ((sortBy (fun (a b : Int × Nat) => decide (a.1 < b.1)) scored).take (min nprobe (hdNlist h))).map Prod.snd

/-- An IDLE core of the slice runs the centroid step. -/
def State.searchCore (s : State) (w : Work) : Option Nat :=
  (s.attendCores w).find? (fun n => s.grantable n && (s.core n).state == .idle)

/-- Wake a core for a centroid step when the slice has none IDLE. -/
def State.searchWake (s : State) : State :=
  (s.vs.runs.filter (fun r => r.stage == 2)).foldl (fun s r =>
    match s.workOf r.tag with
    | some w =>
      let cores := (s.attendCores w).filter s.grantable
      if (s.searchCore w).isSome ∨ cores.any (fun n => (s.core n).state == .waking) then s
      else match cores.find? (fun n => (s.core n).state == .off) with
        | some n => s.wakeCore n
        | none => s
    | none => s) s

/-- CENTROID_STEP_DONE (R367 steps 2 and 3): the lists of every query are chosen and their directory entries read. -/
def State.centroidStepDone (s : State) (tag : Nat) : State :=
  match s.workOf tag, s.searchRun tag with
  | some w, some r =>
    if r.stage ≠ 2 ∨ (s.searchCore w).isNone then s
    else
      let h := r.header
      let base := s.free
      let s : State := { s with free := s.free + r.count * hdNlist h }
      let qs := r.queries.map (fun q =>
        if q.status = .done then { q with lists := probeLists h (seMetric w.desc) (seNprobe w.desc) (base + (q.index - r.first) * hdNlist h) r q } else q)
      let s := s.modSearch tag (fun r => { r with queries := qs, stage := 3 })
      let lists := (qs.flatMap (fun q => q.lists)).dedup
      let (id, s) := s.newXfer (.search tag 3 0) 0
      lists.foldl (fun s l =>
        match s.indexRange w.ctx (hdDir h + 16 * l) 16 false with
        | .ok x => s.addLoad id (l * 64) w.ctx x.ext.cls x.dga 16 vcREQ
        | .error _ => s) s
  | _, _ => s

/-- Queries that probe a list. -/
def probing (l : Nat) (q : Query) : Bool := q.lists.contains l

/-- The distinct lists still probed by a query that has not failed. -/
def SearchRun.liveLists (r : SearchRun) : List Nat := ((r.queries.filter (fun q => q.status == .done)).flatMap (fun q => q.lists)).dedup

/-- Directory entries are in: the segment entries of every list are read. -/
def State.searchDirs (s : State) (w : Work) (x : Xfer) : State :=
  match s.searchRun w.tag with
  | none => s
  | some r0 =>
    let h := r0.header
    let (id, s) := s.newXfer (.search w.tag 4 0) 0
    let s := s.modSearch w.tag (fun r => { r with stage := 4 })
    r0.liveLists.foldl (fun s l =>
      let bad (s : State) (st : Status) : State := s.modSearch w.tag (fun r => r.failWhere (probing l) st 0)
      match x.at_ (64 * l) 16 with
      | none => bad s (if x.status = .done then .internal else x.status)
      | some m =>
        let e := plain m
        let n := field e 4 4
        if m.any (fun b => b.2) then bad s .poison
        else if !allZero (slice e 8 8) then bad s .badDescriptor
        else if n = 0 then s
        else match s.indexRange w.ctx (hdSegs h + 32 * field e 0 4) (32 * n) false with
          | .error (st, va) => s.modSearch w.tag (fun r => r.failWhere (fun _ => true) st va)
          | .ok y => (s.searchRef w.tag w.ctx y).addLoad id (l * 2 ^ 40) w.ctx y.ext.cls y.dga (32 * n) vcREQ) s

/-! ### Segments (R361, R362, R367 step 3) -/

def segVectors (h : List Byte) (count : Nat) : Nat := 4096 * ceilDiv (count * vecBytes h) 4096
def segBytes (h : List Byte) (count : Nat) : Nat := segVectors h count + 4096 * ceilDiv (16 * count) 4096

/-- The states of `VS_STATE.STATE`. -/
def slOFF := 0
def slIDLE := 1
def slSCAN := 2
def slFAULTED := 3

def Fld.sloe (f : Fld) (n : Nat) : Fld := f.step 0x800 n
def State.sloeState (s : State) (n : Nat) : Nat := s.fld (F.VS_STATE_STATE.sloe n)
def State.setSloe (s : State) (n st : Nat) : State := s.setF (F.VS_STATE_STATE.sloe n) st

/-- Show how many segments wait at a Sloe. -/
def State.showSegments (s : State) (n : Nat) : State := s.setF (F.VS_STATE_SEGMENTS.sloe n) (s.vs.segments.filter (fun g => g.unit == n)).length

/-- Latch an error of a Sloe: the first since the last read. -/
def State.sloeErr (s : State) (n dga : Nat) (st : Status) : State :=
  if s.fld (F.VS_ERR_STATUS.sloe n) ≠ 0 then s
  else (s.setF (F.VS_ERR_ADDR.sloe n) (dga / 256)).setF (F.VS_ERR_STATUS.sloe n) st.code

/-- Whether a Sloe is in test access; it then begins no segment (R471). -/
def State.sloeTested (s : State) (n : Nat) : Bool := s.fld F.TST_UNIT_STATUS_STATE != 0 && s.fld F.TST_UNIT_STATUS_UNIT == 16 + n

/-- Begin reading the first segment of a Sloe's queue. -/
def State.sloeBegin (s : State) (n : Nat) : State :=
  match s.vs.segments.find? (fun g => g.unit == n) with
  | none => if s.sloeState n = slSCAN then s.setSloe n slIDLE else s
  | some g =>
    if g.begun.isSome ∨ s.sloeState n = slFAULTED then s
    else if s.sloeTested n then (if s.sloeState n = slSCAN then s.setSloe n slIDLE else s)
    else match s.searchRun g.tag, s.workOf g.tag with
      | some r, some w =>
        let s := s.setSloe n slSCAN
        let s : State := { s with vs.segments := s.vs.segments.map (fun x => if x.tag == g.tag && x.num == g.num then { x with begun := some s.now } else x) }
        let (id, s) := s.newXfer (.search g.tag 5 g.num) 0
        let s := s.addLoad id 0 w.ctx g.cls g.dga (segBytes r.header g.count) vcREQ
        if g.hasTomb then s.addLoad id (2 ^ 50) w.ctx g.tombCls g.tombDga (ceilDiv g.count 8) vcREQ else s
      | _, _ => s

/-- End the queries of a segment with a status, and the segment. -/
def State.segmentFails (s : State) (g : Segment) (st : Status) : State :=
  let s := s.modSearch g.tag (fun r => r.failWhere (fun q => g.queries.contains q.index) st 0)
  let s : State := { s with vs.segments := s.vs.segments.filter (fun x => !(x.tag == g.tag && x.num == g.num)) }
  (s.sloeErr g.unit g.dga st).showSegments g.unit

/-- A phase whose segments have all ended goes on to the merge. -/
def State.searchAdvance (s : State) (tag : Nat) : State :=
  if s.vs.segments.any (fun g => g.tag == tag) then s
  else s.modSearch tag (fun r => if r.stage = 5 then { r with stage := 6 } else r)

/-- Where a segment lies: its one extent and one flash channel (R362). -/
def State.segmentPlace (s : State) (c va n : Nat) : Except (Status × Nat) Xlated :=
  match s.indexRange c va n true with
  | .error f => .error f
  | .ok x =>
    if s.partOf (dgaCell x.dga) ≠ s.partOf (dgaCell x.dga + n - 1) ∨ x.ext.va + x.ext.len < va + n then .error (.bounds, va) else .ok x

/-- Assign a segment entry of a list to the Sloe of its channel. -/
def State.assign (s : State) (w : Work) (h : List Byte) (l : Nat) (m : List MByte) : State :=
  let e := plain m
  let count := field e 8 4
  let tomb := field e 16 8
  let bad (s : State) (st : Status) (va : Nat) : State := s.modSearch w.tag (fun r => r.failWhere (probing l) st va)
  if m.any (fun b => b.2) then bad s .poison 0
  else if count = 0 ∨ field e 0 8 % 4096 ≠ 0 ∨ tomb % 8 ≠ 0 ∨ !allZero (slice e 12 4) ∨ !allZero (slice e 24 8) then bad s .badDescriptor 0
  else match s.segmentPlace w.ctx (field e 0 8) (segBytes h count) with
    | .error (st, va) => bad s st va
    | .ok x =>
      let t : Except (Status × Nat) (Option Xlated) := if tomb = 0 then .ok none else
        match s.indexRange w.ctx tomb (ceilDiv count 8) false with | .ok y => .ok (some y) | .error f => .error f
      match t with
      | .error (st, va) => bad s st va
      | .ok y =>
        let s := s.searchRef w.tag w.ctx x
        let s := match y with | some y => s.searchRef w.tag w.ctx y | none => s
        match s.searchRun w.tag with
        | none => s
        | some r =>
          let n := s.partOf (dgaCell x.dga)
          let qs := (r.queries.filter (fun q => q.status == .done && probing l q)).map (fun q => q.index)
          let g : Segment := {
            tag := w.tag, num := r.nextSeg, list := l, dga := x.dga, cls := x.ext.cls, count := count,
            tombDga := (y.map (fun y => y.dga)).getD 0, tombCls := (y.map (fun y => y.ext.cls)).getD 0, hasTomb := y.isSome, unit := n,
            queries := qs, begun := none, data := none }
          let s := s.modSearch w.tag (fun r => { r with nextSeg := r.nextSeg + 1 })
          if s.sloeState n = slFAULTED then s.segmentFails g .internal
          else
            let s := if s.sloeState n = slOFF then (s.askWake 22 4 n).setSloe n slIDLE else s
            (({ s with vs.segments := s.vs.segments ++ [g] } : State).showSegments n).sloeBegin n

/-- Segment entries are in: each segment is assigned (R367 step 3). -/
def State.searchSegs (s : State) (w : Work) (x : Xfer) : State :=
  match s.searchRun w.tag with
  | none => s
  | some r0 =>
    let s := if x.status = .done then s else s.modSearch w.tag (fun r => r.failWhere (fun q => !q.lists.isEmpty) x.status 0)
    let s := r0.liveLists.foldl (fun s l =>
      let bs := x.window (l * 2 ^ 40) ((l + 1) * 2 ^ 40)
      (List.range (bs.length / 32)).foldl (fun s k => s.assign w r0.header l ((bs.drop (32 * k)).take 32)) s) s
    (s.modSearch w.tag (fun r => { r with stage := 5 })).searchAdvance w.tag

/-! ### The scan (R363, R367 step 4) -/

/-- Whether scores are INT32. -/
def intScore (h : List Byte) (metric : Nat) : Bool := hdElem h == elINT8 && metric != 1

/-- The distance of a query and a vector: its code and its order. -/
def distance (h : List Byte) (metric free : Nat) (q x : List MByte) : Nat × Int :=
  let el := hdElem h
  let n := hdDim h
  if intScore h metric then
    let ints (v : List MByte) : List Int := (plain v).map (fun b => toSigned 8 b.toNat)
    let v := (List.zip (ints q) (ints x)).foldl (fun s p => if metric = 0 then s - p.1 * p.2 else s + (p.1 - p.2) * (p.1 - p.2)) 0
    (ofSigned 32 v, v)
  else
    let qv := rowVals el q n
    let xv := rowVals el x n
    let f (i : Nat) : Nat := Config.freeValue (free + i)
    let sum (k : Nat) (l : List Fl) : Fl :=
      if el = elINT8 then l.foldl Fl.add (.fin false 0 0) else (sumFree n (f k) l).r32
    let dots (a b : List Fl) : List Fl := (List.zip a b).map (fun p => p.1.mul p.2)
    let v := if metric = 0 then (sum 0 (dots qv xv)).neg
      else if metric = 2 then sum 0 ((List.zip qv xv).map (fun p => let e := p.1.sub p.2; e.mul e))
      else
        let nn := (sum 1 (dots qv qv)).mul (sum 2 (dots xv xv))
        if nn.isZero then .fin false 1 0 else approx (f 3) 4 true ((Fl.fin false 1 0).sub ((sum 0 (dots qv xv)).mul nn.rsqrt))
    (fp32.encode v, orderCode (fp32.encode v))

/-- The order of candidates (R368). -/
def Candidate.before (a b : Candidate) : Bool :=
  if a.order ≠ b.order then decide (a.order < b.order) else if a.id ≠ b.id then decide (a.id < b.id) else decide (a.list < b.list)

/-- Scan a segment for one query: candidates, vectors scored and skipped, and whether a poisoned sector of its blocks or its bitmap was read
(R370). -/
def scanQuery (h : List Byte) (metric free : Nat) (g : Segment) (data tomb : List MByte) (q : Query) : List Candidate × Nat × Nat × Bool :=
  let vb := vecBytes h
  let ents := data.drop (segVectors h g.count)
  (List.range g.count).foldl (fun (a : List Candidate × Nat × Nat × Bool) i =>
    let t := tomb.getD (i / 8) (0, false)
    let v := (data.drop (i * vb)).take vb
    let e := (ents.drop (16 * i)).take 16
    if g.hasTomb ∧ t.2 then (a.1, a.2.1, a.2.2.1, true)
    else if g.hasTomb ∧ bitAt t.1.toNat (i % 8) then (a.1, a.2.1, a.2.2.1 + 1, a.2.2.2)
    else
      let dist := distance h metric (free + 4 * i) q.vec v
      (a.1 ++ [⟨dist.1, dist.2, field (plain e) 0 8, g.list, field (plain e) 8 8⟩], a.2.1 + 1, a.2.2.1, a.2.2.2))
    ([], 0, 0, data.any (fun b => b.2))

/-- Show the candidate slots in use. -/
def State.showSlots (s : State) : State :=
  s.setF F.VS_MERGE_SLOTS_BUSY (min 65536 ((s.vs.runs.flatMap (fun r => r.queries)).foldl (fun n q => n + q.cands.length) 0))

/-- SEGMENT_SCAN_DONE (R367 step 4): the segment at the head of a Sloe's queue has been read; its live vectors are scored for every query
assigned. -/
def State.segmentScanDone (s : State) (n : Nat) : State :=
  match s.vs.segments.find? (fun g => g.unit == n) with
  | none => s
  | some g =>
    match g.data, s.searchRun g.tag, s.workOf g.tag with
    | some (data, tomb), some r, some w =>
      let h := r.header
      let metric := seMetric w.desc
      let base := s.free
      let s : State := { s with free := s.free + 4 * g.count * r.count }
      let res := (r.queries.filter (fun q => g.queries.contains q.index)).map (fun q =>
        (q.index, scanQuery h metric (base + 4 * g.count * (q.index - r.first)) g data tomb q))
      let s := s.modSearch g.tag (fun r =>
        let r : SearchRun := {
          r with queries := r.queries.map (fun (q : Query) => match res.find? (fun x => x.1 == q.index) with
          | some x => { q with cands := (sortBy Candidate.before (q.cands ++ x.2.1)).take (seM w.desc), scanned := q.scanned + x.2.2.1, skipped := q.skipped + x.2.2.2.1 }
          | none => q) }
        r.failWhere (fun q => res.any (fun x => x.1 == q.index && x.2.2.2.2)) .poison 0)
      let sk := (List.range g.count).countP (fun i => g.hasTomb && bitAt (tomb.getD (i / 8) (0, false)).1.toNat (i % 8))
      let u1 := unitsOf 1024 (s.vs.scored.getD n 0) ((g.count - sk) * g.queries.length)
      let u2 := unitsOf 1024 (s.vs.skipped.getD n 0) sk
      let bytes := segBytes h g.count
      let u3 := unitsOf (2 ^ 20) (s.vs.readBytes.getD n 0) bytes
      let u4 := unitsOf (2 ^ 20) (s.vs.recon.getD n 0)
        (4096 * (List.range (bytes / 4096)).countP (fun k => s.partFailed (dgaCell (g.dga + 4096 * k))))
      let u5 := unitsOf 1024 s.vs.offered ((g.count - sk) * g.queries.length)
      let s : State := { s with vs.scored := s.vs.scored.store n u1.2 0, vs.skipped := s.vs.skipped.store n u2.2 0,
                                vs.readBytes := s.vs.readBytes.store n u3.2 0, vs.recon := s.vs.recon.store n u4.2 0, vs.offered := u5.2,
                                vs.segments := s.vs.segments.filter (fun x => !(x.tag == g.tag && x.num == g.num)) }
      let s := ((s.count (F.VS_COUNT_SCORED_K.sloe n) u1.1).count (F.VS_COUNT_SKIPPED_K.sloe n) u2.1).count (F.VS_BYTES_READ_MIB.sloe n) u3.1
      let s := (s.count (F.VS_BYTES_RECON_MIB.sloe n) u4.1).count F.VS_MERGE_CANDIDATES_K u5.1
      let s := if res.any (fun x => x.2.2.2.2) then s.sloeErr n g.dga .poison else s
      (((s.showSegments n).sloeBegin n).searchAdvance g.tag).showSlots
    | _, _, _ => s

/-- A segment's bytes are in, or its read failed. -/
def State.segmentRead (s : State) (tag num : Nat) (x : Xfer) : State :=
  match s.vs.segments.find? (fun g => g.tag == tag && g.num == num) with
  | none => s
  | some g =>
    if x.status ≠ .done then ((s.segmentFails g x.status).sloeBegin g.unit).searchAdvance tag
    else
      let d := (x.window 0 (2 ^ 50), x.window (2 ^ 50) (2 ^ 51))
      { s with vs.segments := s.vs.segments.map (fun y => if y.tag == tag && y.num == num then { y with data := some d } else y) }

/-- SEGMENT_SCAN_TIMEOUT (R358): the segment under way ends with `TIMEOUT`. -/
def State.segmentScanTimeout (s : State) (n : Nat) : State :=
  match s.vs.segments.find? (fun g => g.unit == n && g.begun.isSome) with
  | none => s
  | some g =>
    let s := s.reach (g.begun.getD 0 + s.fld F.VS_CTRL_SCAN_TMO_MS * nsPerMs)
    let s := (s.segmentFails g .timeout).logErr { unit := .vs, status := .timeout, index := n, addr := g.dga, tag := g.tag }
    (((s.setSloe n slIDLE).sloeBegin n).searchAdvance g.tag).showSlots

/-- End every segment that waits at a Sloe. -/
def State.sloeEndAll (s : State) (n : Nat) (st : Status) : State :=
  (s.vs.segments.filter (fun g => g.unit == n)).foldl (fun s g => (s.segmentFails g st).searchAdvance g.tag) s

/-- SLOE_PARITY_FAULT (R358). -/
def State.sloeParityFault (s : State) (n : Nat) : State :=
  if n ≥ 24 ∨ (s.sloeState n ≠ slIDLE ∧ s.sloeState n ≠ slSCAN) then s
  else ((s.setSloe n slFAULTED).sloeEndAll n .internal).logErr { unit := .vs, status := .internal, index := n }

/-- An answer to a read of a search. -/
def State.searchLoaded (s : State) (tag stage q : Nat) (x : Xfer) : State :=
  if stage = 5 then s.segmentRead tag q x
  else match s.workOf tag, s.searchRun tag with
    | some w, some r =>
      if stage = 7 then s
      else if r.stage ≠ stage then s
      else if stage = 0 then s.searchHeader w r x else if stage = 1 then s.searchLoaded1 w x
      else if stage = 3 then s.searchDirs w x else s.searchSegs w x
    | _, _ => s

/-! ### Merge, filter and results (R368 to R373) -/

/-- Ranked candidates that pass the filter. -/
def passing (d : List Byte) (q : Query) : List Candidate :=
  if seFilter d then q.cands.filter (fun c => (c.attr &&& field d 40 8) == field d 48 8) else q.cands

/-- How a query ends, and what its region holds. -/
def queryResult (d h : List Byte) (q : Query) : Status × List Byte :=
  let pass := passing d q
  let out := pass.take (seK d)
  let st := if q.status ≠ .done then q.status else if out.length = seK d then .done else .short
  let out := if q.status = .done then out else []
  let hdr := natLe 1 st.code ++ natLe 1 (if intScore h (seMetric d) then 1 else 0) ++ zeros 2 ++ natLe 4 out.length ++ natLe 8 q.scanned
    ++ natLe 8 q.skipped ++ natLe 4 pass.length ++ natLe 4 q.lists.length ++ natLe 8 q.failAddr ++ zeros 24
  (st, hdr ++ out.flatMap (fun c => natLe 8 c.id ++ natLe 4 c.score ++ natLe 3 c.list ++ zeros 1))

/-- SEARCH_MERGE_DONE (R369): the results of a phase whose segments have all ended are stored. -/
def State.searchMergeDone (s : State) (tag : Nat) : State :=
  match s.workOf tag, s.searchRun tag with
  | some w, some r =>
    if r.stage ≠ 6 then s
    else
      let d := w.desc
      let (id, s) := s.newXfer (.search tag 7 0) 0
      let s := r.queries.foldl (fun s q =>
        let res := queryResult d r.header q
        let s := s.count F.VS_SEARCH_QUERIES
        let s := if res.1 = .short then s.count F.VS_SEARCH_SHORT else if res.1 = .done then s else s.count F.VS_SEARCH_FAILED
        let s : State := if res.1 = .done then s
          else { s with vs.ended := s.vs.ended.put tag (s.vs.ended.getD tag [] ++ [(q.index, res.1)]) }
        s.unitStore w id (seRegion d q.index) (s.queryTagBase w r.first q.index) (unmarked res.2)) s
      s.modSearch tag (fun r => { r with stage := 7 })
  | _, _ => s

/-- The final completion of a search whose queries ended as listed (those not `DONE`). -/
def searchOutcome (nq : Nat) (ends : List (Nat × Status)) : Status × Nat :=
  let fails := ends.filter (fun e => e.2 != .short)
  match fails.head? with
  | some e => (e.2, e.1 + 2 ^ 32 * fails.length)
  | none => match ends.head? with
    | some e => (.short, ends.length + 2 ^ 32 * e.1)
    | none => (.done, nq)

/-- The results of a phase are stored: its references are released, and the next phase or the outcome follows. -/
def State.searchStored (s : State) (tag : Nat) (st : Status) : State :=
  match s.workOf tag, s.searchRun tag with
  | some w, some r =>
    let s := r.refs.foldl (fun s va => s.dropRef w.ctx va) s
    let s := ({ s with vs.runs := s.vs.runs.filter (fun x => x.tag != tag) } : State).showSlots
    if st ≠ .done then ({ s with vs.ended := s.vs.ended.del tag } : State).outcome tag st 0
    else if r.first + r.count < seNq w.desc then s.phaseOver tag
    else
      let o := searchOutcome (seNq w.desc) (s.vs.ended.getD tag [])
      ({ s with vs.ended := s.vs.ended.del tag } : State).outcome tag o.1 o.2
  | _, _ => s

/-- The reset of island 22 (R413, R358): segments end, and faulted units that pass their test serve again. -/
def State.sloeReset (s : State) : State :=
  (List.range 24).foldl (fun s n =>
    let s := s.sloeEndAll n .internal
    if s.sloeState n = slSCAN then s.setSloe n slIDLE else s) s

/-- Island 22 has passed its tests after a reset: FAULTED units are IDLE again (R358). -/
def State.sloePassed (s : State) : State :=
  (List.range 24).foldl (fun s n => if s.sloeState n = slFAULTED then s.setSloe n slIDLE else s) s

end Sys2Proof.Machine
end

