-- ==== Sys2Proof/Machine/Image.lean ====
section
/-! DEFINITION. Structure images (spec/02): container, sections, the checks of R76 in their order, and the composition an image describes. -/

namespace Sys2Proof.Machine

/-! ### Container (R48 to R51) -/

/-- A refusal of the loader as `SIL_LOAD_STATUS` shows it. -/
structure ImgFault where
  status : Status
  reason : Nat
  sec : Nat
  off : Nat
  deriving DecidableEq, Repr

structure ImgSec where
  idx : Nat
  type : Nat
  count : Nat
  off : Nat
  len : Nat
  deriving DecidableEq, Repr

/-- One entry of a section: the section's directory index, the entry's image offset and its bytes. -/
structure ImgEntry where
  sec : Nat
  off : Nat
  b : List Byte
  deriving DecidableEq, Repr

def imgPartial (img : List Byte) : Bool := field img 6 1 == 1
def imgSerial (img : List Byte) : Nat := field img 8 8
def imgBase (img : List Byte) : Nat := field img 16 8
def imgDomain (img : List Byte) : Nat := field img 24 8
def imgMembers (img : List Byte) : Nat := field img 34 1
def imgSpares (img : List Byte) : Nat := field img 35 1
def imgLen (img : List Byte) : Nat := field img 36 4

def imgDir (img : List Byte) : List ImgSec :=
  (List.range (field img 7 1)).map (fun i =>
    let b := slice img (64 + 16 * i) 16
    ⟨i, field b 0 1, field b 2 2, field b 4 4, field b 8 4⟩)

def secMEMBERSHIP := 1
def secPORTS := 2
def secPARTITIONS := 3
def secSLICES := 4
def secTIERMAP := 5
def secQUOTA := 6
def secSCHEDULE := 7

/-- Entry size of a section type (R51). -/
def entrySize (t : Nat) : Nat :=
  if t = 1 ∨ t = 2 then 64 else if t = 3 then 8 else if t = 4 then 32 else if 5 ≤ t ∧ t ≤ 7 then 16 else 0

def imgEntries (img : List Byte) (t : Nat) : List ImgEntry :=
  match (imgDir img).find? (fun x => x.type == t) with
  | some x => (List.range x.count).map (fun k =>
      ⟨x.idx, x.off + k * entrySize t, slice img (x.off + k * entrySize t) (entrySize t)⟩)
  | none => []

/-- The first element for which a test gives an offset. -/
def firstBad (es : List ImgEntry) (st : Status) (reason : Nat) (f : ImgEntry → Option Nat) : Option ImgFault :=
  es.findSome? (fun e => (f e).map (fun o => ⟨st, reason, e.sec, e.off + o⟩))

/-- The lowest offset of the failing tests of a list. -/
def badAt (l : List (Bool × Nat)) : Option Nat := ((l.filter (fun e => e.1)).map Prod.snd).min?

/-- The first byte that is not zero in a range. -/
def nonZeroAt (b : List Byte) (lo n : Nat) : Option Nat :=
  ((List.range n).find? (fun i => (b.getD (lo + i) 0) != 0)).map (lo + ·)

/-- The first element that clashes with one before it. -/
def clashAt {α : Type} (rel : α → α → Bool) : List α → List α → Option α
  | _, [] => none
  | seen, x :: l => if seen.any (rel x) then some x else clashAt rel (x :: seen) l

def orElse (a : Option ImgFault) (b : Option ImgFault) : Option ImgFault := match a with | some x => some x | none => b

/-- The fault with the first offending byte of those that fail under one REASON (R76). -/
def lowest (l : List (Option ImgFault)) : Option ImgFault :=
  l.foldl (fun a b => match a, b with
    | some x, some y => if y.off < x.off then some y else some x
    | some x, none => some x
    | none, b => b) none

/-! ### The checks of form: REASON 0x01 to 0x05 -/

def hdrFault (st : Status) (reason : Nat) (l : List (Bool × Nat)) : Option ImgFault := (badAt l).map (fun o => ⟨st, reason, 0xFF, o⟩)

/-- Directory and placement (R48, R50).  Log entry 27: a SECTIONS value outside 1 to 7 is refused here, with REASON 0x03, and a gap byte
that is not zero reports SECTION 0xFF (the model's choices). -/
def dirFault (img : List Byte) : Option ImgFault :=
  let dir := imgDir img
  let stop := 64 + 16 * dir.length
  let bad (x : ImgSec) : Option Nat := badAt
    [(decide (x.count = 0), 2), (decide (x.off % 64 ≠ 0 ∨ x.off < stop), 4),
     (decide (entrySize x.type ≠ 0 ∧ x.len ≠ x.count * entrySize x.type) || decide (x.off + x.len > imgLen img), 8)]
  let gap (a n : Nat) : Option ImgFault := (nonZeroAt img a n).map (fun o => ⟨.badDescriptor, 0x03, 0xFF, o⟩)
  let ends := stop :: dir.map (fun x => x.off + x.len)
  let starts := imgLen img :: dir.map (fun x => x.off)
  let next (e : Nat) : Nat := (starts.filter (fun a => decide (e ≤ a))).foldl min (imgLen img)
  lowest [hdrFault .badDescriptor 0x03 [(decide (field img 7 1 = 0 ∨ 7 < field img 7 1), 7), (decide (imgLen img % 64 ≠ 0), 36)],
    dir.findSome? (fun x => (bad x).map (fun o => ⟨.badDescriptor, 0x03, x.idx, 64 + 16 * x.idx + o⟩)),
    (clashAt (fun (x y : ImgSec) => x.type == y.type || decide (x.off < y.off + y.len ∧ y.off < x.off + x.len)) [] dir).map
    (fun x => ⟨.badDescriptor, 0x03, x.idx, 64 + 16 * x.idx⟩),
    lowest (ends.map (fun e => gap e (next e - e)))]

/-- Reserved fields and encodings of one entry (R54 to R63, R329).  A reserved KEY of R56 counts as a reserved encoding, REASON 0x04 (log
entry 27, the model's choice). -/
def reservedAt (part : Bool) (t : Nat) (e : ImgEntry) : Option Nat :=
  let b := e.b
  let zero (lo n : Nat) : Bool × Nat := ((nonZeroAt b lo n).isSome, (nonZeroAt b lo n).getD lo)
  if t = secMEMBERSHIP then badAt [(decide (1 < field b 1 1), 1), zero 4 4, zero 56 8]
  else if t = secPORTS then badAt [(decide (15 < field b 2 1), 2), zero 3 1, zero 12 52]
  else if t = secPARTITIONS then badAt
    [(decide (4095 < field b 0 2), 1), (decide (field b 2 2 = 0 ∨ field b 2 2 = 0xFFFF), 2), (decide (7 < field b 4 1), 4), zero 6 2]
  else if t = secSLICES then badAt
    [(decide ((if part then 1 else 0) < field b 2 1), 2), zero 3 1, (decide (4095 < field b 4 2), 5), zero 10 2, zero 19 1,
     (decide (1 < field b 28 1), 28), (decide (2 < field b 29 1), 29), (decide (2 < field b 30 1), 30), zero 31 1]
  else if t = secTIERMAP then badAt [(decide (field b 2 1 = 0 ∨ 3 < field b 2 1), 2), (decide (1 < field b 3 1), 3), zero 12 4]
  else if t = secQUOTA then badAt [(decide (field b 1 1 = 0 ∨ 3 < field b 1 1), 1), (decide (4095 < field b 2 2), 3), zero 4 4]
  else
    let k := field b 1 1
    if k = 0 then badAt [(decide (63 < field b 8 1), 8), (decide (1 < field b 9 1), 9), (decide (1 < field b 10 1), 10), zero 11 5]
    else if k = 1 then badAt [(decide (2 < field b 14 1), 14), zero 15 1]
    else if k = 2 then badAt [zero 8 8]
    else if k = 3 then badAt [zero 5 11]
    else some 1

def reservedFault (img : List Byte) : Option ImgFault :=
  let part := imgPartial img
  let hz (lo n : Nat) : Bool × Nat := ((nonZeroAt img lo n).isSome, (nonZeroAt img lo n).getD lo)
  let sig := imgLen img
  let head := hdrFault .badDescriptor 0x04
    ([hz 48 16, hz (sig + 3373) 19] ++
      (if part then [hz 34 2] else [hz 16 8, (decide (field img 32 2 ≠ 0xFFFF), 32)]))
  let dir := (imgDir img).findSome? (fun x =>
    let b := slice img (64 + 16 * x.idx) 16
    (badAt [(decide (entrySize x.type = 0), 0), ((nonZeroAt b 1 1).isSome, 1), ((nonZeroAt b 12 4).isSome, (nonZeroAt b 12 4).getD 12)]).map
      (fun o => (⟨.badDescriptor, 0x04, x.idx, 64 + 16 * x.idx + o⟩ : ImgFault)))
  lowest (head :: dir :: (imgDir img).map (fun x => firstBad (imgEntries img x.type) .badDescriptor 0x04 (reservedAt part x.type)))

/-- Required sections and counts (R51): a missing section is reported at SECTIONS, a wrong COUNT at its directory entry. -/
def requiredFault (img : List Byte) : Option ImgFault :=
  if imgPartial img then none
  else
    let missing (ty : Nat) : Option ImgFault :=
      if (imgDir img).any (fun x => x.type == ty) then none else some ⟨.badDescriptor, 0x05, 0xFF, 7⟩
    let count (ty n : Nat) : Option ImgFault :=
      ((imgDir img).find? (fun x => x.type == ty && x.count != n)).map (fun x => ⟨.badDescriptor, 0x05, x.idx, 64 + 16 * x.idx + 2⟩)
    lowest ([secMEMBERSHIP, secPORTS, secPARTITIONS, secSLICES, secTIERMAP, secQUOTA].map missing
      ++ [count secMEMBERSHIP (imgMembers img), count secPORTS 1])

/-- REASON 0x01 to 0x05, in order. `len64` is `SIL_STAGE_LEN`. -/
def formFault (img : List Byte) (len64 : Nat) : Option ImgFault :=
  orElse (hdrFault .badDescriptor 0x01
    [(decide (field img 0 4 ≠ 0x49534D44), 0), (decide (field img 4 2 ≠ 1), 4), (decide (1 < field img 6 1), 6), (decide (imgSerial img = 0), 8)])
  (orElse (hdrFault .badDescriptor 0x02 [(decide (len64 = 0 ∨ len64 * 64 ≠ imgLen img + 3392), 36)])
  (orElse (dirFault img) (orElse (reservedFault img) (requiredFault img))))

/-- REASON 0x10 and 0x11 (R52, R53, R426). -/
def State.sigFault (s : State) (img : List Byte) : Option ImgFault :=
  let n := imgLen img
  let msg := img.take n
  if !s.edVerifies anchorImage msg (slice img n 64) then some ⟨.authFail, 0x10, 0xFF, n⟩
  else if !s.bothVerify anchorImage msg (slice img n 64) (slice img (n + 64) 3309) then some ⟨.authFail, 0x11, 0xFF, n + 64⟩
  else none

/-! ### What the sections say -/

def memPosition (e : ImgEntry) : Nat := field e.b 0 1

/-- The device number a full image binds to a position (R54). -/
def memNumber (e : ImgEntry) : Nat := if field e.b 2 2 = 0xFFFF then memPosition e else field e.b 2 2

/-- The position whose entries describe a device number in a full image. -/
def imgPosOf (img : List Byte) (d : Nat) : Nat :=
  match (imgEntries img secMEMBERSHIP).find? (fun e => memNumber e == d) with | some e => memPosition e | none => d

def imgWidth (img : List Byte) : Nat := match imgEntries img secPORTS with | e :: _ => field e.b 0 1 | [] => 0
def imgAports (img : List Byte) : Nat := match imgEntries img secPORTS with | e :: _ => field e.b 1 1 | [] => 0

/-- The largest P-port width of a domain (R29). -/
def maxWidth (n a : Nat) : Nat := min 4 ((127 - 2 * a) / (n - 1))

def partitionOf (b : List Byte) : Nat × Partition := (field b 0 2, ⟨field b 2 2, field b 4 1, field b 5 1⟩)

def sliceEntry (b : List Byte) : Slice :=
  ⟨field b 4 2, field b 6 2, field b 8 2, field b 12 4, field b 16 4, field b 20 2, field b 22 2, field b 24 2, field b 26 2,
   field b 28 1, field b 29 1, field b 30 1⟩

def runEntry (b : List Byte) : TierRun := ⟨field b 1 1, field b 2 1, bitAt (field b 3 1) 0, field b 4 4, field b 8 4⟩

def entryPos (e : ImgEntry) : Nat := field e.b 0 1

/-- The slices a partial image names (R71 "affected"). -/
def imgAffected (img : List Byte) : List Nat :=
  ((imgEntries img secSLICES).map (fun e => field e.b 1 1) ++ (imgEntries img secTIERMAP).map (fun e => field e.b 1 1)).dedup

/-- The composition of the member at `pos` after an image: a full image states it whole, a partial one amends `base` (R57, R60).  TIERMAP
entries of a partial image that name a slice its SLICES section does not list replace that slice's ranges too (log entry 27, the model's
choice). -/
def imgComposition (base : Composition) (img : List Byte) (pos : Nat) : Composition :=
  let part := imgPartial img
  let parts := (imgEntries img secPARTITIONS).foldl (fun t e => t.put (partitionOf e.b).1 (partitionOf e.b).2)
    (if part then base.partitions else [])
  let own := (imgEntries img secSLICES).filter (fun e => entryPos e == pos)
  let slices := own.foldl (fun (t : Tbl Slice) e =>
    if field e.b 2 1 = 1 then t.del (field e.b 1 1) else t.put (field e.b 1 1) (sliceEntry e.b)) (if part then base.slices else [])
  let runs := ((imgEntries img secTIERMAP).filter (fun e => entryPos e == pos)).map (fun e => runEntry e.b)
  let kept := if part then base.runs.filter (fun r => !(imgAffected img).contains r.slice) else []
  { partitions := parts, slices := slices, runs := kept ++ runs }

/-- Whether two runs share a granule of a tier. -/
def TierRun.meets (a b : TierRun) : Bool := a.tier == b.tier && decide (a.first < b.first + b.count ∧ b.first < a.first + a.count)

/-- Whether two slices share a resource (R59): cores, channels, A-ports, queues or contexts. -/
def Slice.clash (a b : Slice) : Bool :=
  decide (a.quince &&& b.quince ≠ 0 ∨ a.ddr &&& b.ddr ≠ 0 ∨ a.aport &&& b.aport ≠ 0 ∨ a.flash &&& b.flash ≠ 0)
    || decide (a.queueBase < b.queueBase + b.queueCount ∧ b.queueBase < a.queueBase + a.queueCount)
    || decide (a.ctxBase < b.ctxBase + b.ctxCount ∧ b.ctxBase < a.ctxBase + a.ctxCount)

/-- Whether the slice's default classes are among its partition's CLASSES (R59). -/
def Slice.classesOk (a : Slice) (p : Partition) : Bool :=
  bitAt p.classes a.dclassT1 && bitAt p.classes a.dclassT2 && bitAt p.classes a.dclassT3

/-! ### Schedule entries (R329) -/

def shapedIndex (v : Nat) : Bool := v % 8 == 0 || v % 8 == 3 || v % 8 == 4

/-- Ranges of R329; the second component is the offset. -/
def schedRangeAt (members : Nat) (e : ImgEntry) : Option Nat :=
  let b := e.b
  let k := field b 1 1
  let i := field b 2 2
  badAt ([(decide (members ≤ entryPos e ∧ entryPos e ≠ 0xFF), 0)] ++
    (if k = 0 then [(decide (1023 < i), 2), (decide (field b 4 4 < 100 ∨ 100000000 < field b 4 4), 4)]
     else if k = 1 then [(decide (991 < i) || !shapedIndex i, 2), (!shaperRangesOk (field b 4 2) (field b 6 2) (field b 8 3) (field b 11 3), 4)]
     else if k = 2 then [(decide (8 * 124 ≤ i) || !shapedIndex i, 2),
        (decide (field b 4 4 < 320 ∨ 1048576 < field b 4 4 ∨ field b 4 4 % 64 ≠ 0), 4)]
     else [(decide (7 < i), 2), (decide (field b 4 1 = 0), 4)]))

/-- The gate list of a position, in order of INDEX. -/
def gateEntries (img : List Byte) (pos : Nat) : List ImgEntry :=
  sortBy (fun a b => decide (field a.b 2 2 < field b.b 2 2))
    ((imgEntries img secSCHEDULE).filter (fun e => field e.b 1 1 == 0 && (entryPos e == pos || entryPos e == 0xFF)))

/-- The rules of R323 and R329 on a member's schedule entries (REASON 0x32). -/
def schedRuleFault (img : List Byte) (pos : Nat) : Option ImgFault :=
  let mine := (imgEntries img secSCHEDULE).filter (fun e => entryPos e == pos || entryPos e == 0xFF)
  let gates := gateEntries img pos
  let bad (e : ImgEntry) : Option Nat :=
    if field e.b 1 1 = 0 then (if field e.b 8 1 &&& 0x26 ≠ 0x26 then some 8 else none)
    else if field e.b 1 1 = 1 then (if field e.b 14 1 = 2 ∧ !(64 ≤ field e.b 2 2 / 8 ∧ field e.b 2 2 / 8 ≤ 99) then some 14 else none)
    else none
  lowest [firstBad mine .badDescriptor 0x32 bad,
    (clashAt (fun (a b : ImgEntry) => field a.b 1 1 == field b.b 1 1 && field a.b 2 2 == field b.b 2 2) [] mine).map
      (fun e => ⟨.badDescriptor, 0x32, e.sec, e.off + 2⟩),
    (gates.zipIdx).findSome? (fun e => if field e.1.b 2 2 = e.2 then none
      else some (⟨.badDescriptor, 0x32, e.1.sec, e.1.off + 2⟩ : ImgFault)),
    (match gates with
     | g :: _ => if gates.foldl (fun n e => n + field e.b 4 4) 0 > 1000000000 then some ⟨.badDescriptor, 0x32, g.sec, g.off + 4⟩ else none
     | [] => none)]

/-! ### The checks of content: REASON 0x20 to 0x42 -/

/-- The OFFSET of a refusal that names no byte (R76). -/
def noOffset : Nat := 0xFFFFFFFF

/-- 0x20 (R22): the entry of the strapped position holds another identity, or the table has no entry for it. -/
def State.identityFault (s : State) (img : List Byte) : Option ImgFault :=
  if imgPartial img then none
  else if !(imgEntries img secMEMBERSHIP).any (fun e => memPosition e == s.position) then
    ((imgDir img).find? (fun x => x.type == secMEMBERSHIP)).map (fun x => ⟨.stateConflict, 0x20, x.idx, noOffset⟩)
  else firstBad (imgEntries img secMEMBERSHIP) .stateConflict 0x20 (fun e =>
    if memPosition e = s.position ∧ slice e.b 8 48 ≠ s.ownIdentity then some 8 else none)

/-- 0x21. -/
def State.baseFault (s : State) (img : List Byte) : Option ImgFault :=
  if !imgPartial img then none
  else hdrFault .stateConflict 0x21
    [(decide (imgSerial img ≤ s.fld F.SIL_APPLIED_SERIAL_SERIAL), 8),
     (decide (imgBase img ≠ s.fld F.SIL_FULL_SERIAL_SERIAL ∨ s.fld F.SIL_FULL_SERIAL_SERIAL = 0), 16),
     (decide (imgDomain img ≠ s.fld F.SIL_DOMAIN_ID_DOMAIN_ID), 24), (decide (field img 32 2 ≠ s.position), 32)]

/-- 0x22 (R57). -/
def State.additionFault (s : State) (img : List Byte) : Option ImgFault :=
  if !imgPartial img then none
  else firstBad (imgEntries img secPARTITIONS) .stateConflict 0x22 (fun e =>
    let (i, p) := partitionOf e.b
    if s.sil.comp.partitions.any (fun q => (q.1 == i || q.2.key == p.key) && !(q.1 == i && q.2 == p)) then some 0 else none)

/-- 0x30 (R51, R64, R329): a partial image's schedule entry is for its target member, the own position.  Whether a queue belongs to a slice
of the member is judged on the composition in force before the image (log entry 27, the model's choice). -/
def State.reservedToFull (s : State) (img : List Byte) : Option ImgFault :=
  if !imgPartial img then none
  else lowest [(imgDir img).findSome? (fun x => if x.type = secMEMBERSHIP ∨ x.type = secPORTS then
      some (⟨.access, 0x30, x.idx, 64 + 16 * x.idx⟩ : ImgFault) else none),
    firstBad (imgEntries img secSCHEDULE) .access 0x30 (fun e =>
      let k := field e.b 1 1
      let port := field e.b 2 2 / 8
      let mine : Bool := s.sil.comp.slices.any (fun t => (decide (64 ≤ port ∧ port < 96) && bitAt t.2.aport (port - 64))
        || (decide (100 ≤ port ∧ port < 116) && bitAt t.2.quince (port - 100)))
      if entryPos e ≠ s.position then some 0 else if k = 0 ∨ k = 3 then some 1 else if mine then none else some 2)]

/-- Granules of a tier of this member. -/
def State.tierGranules (s : State) (tier : Nat) : Nat :=
  if tier = 1 then 1536 else if tier = 2 then s.fld F.TIER_T2_CFG_GRANULES else s.fld F.TIER_T3_GRANULES_GRANULES

def mostGranules (tier : Nat) : Nat := if tier = 1 then 1536 else if tier = 2 then 4096 else 248832

/-- Whether a domain is P2-enabled (R179). -/
def imgP2 (img : List Byte) : Bool := (imgEntries img secPARTITIONS).any (fun e => bitAt (field e.b 4 1) 2)

/-- 0x31.  The fields of a SLICES entry that deletes are checked like those of one that defines (log entry 27, the model's choice). -/
def State.rangesFault (s : State) (img : List Byte) : Option ImgFault :=
  let part := imgPartial img
  let n := if part then s.dom.members else imgMembers img
  let a := if part then s.dom.aports else imgAports img
  let ownPos := s.position
  let header := if part then hdrFault .bounds 0x31 [(decide (imgLen img + 3392 > 2 ^ 20), 36)]
    else hdrFault .bounds 0x31 [(decide (imgDomain img = 0), 24), (decide (n % 2 ≠ 0 ∨ n < 16 ∨ 64 < n), 34), (decide (2 < imgSpares img), 35)]
  let ports := firstBad (imgEntries img secPORTS) .bounds 0x31 (fun e => badAt
    [(decide (32 < field e.b 1 1), 1), (decide (field e.b 0 1 = 0 ∨ maxWidth n (field e.b 1 1) < field e.b 0 1), 0),
     (decide (field e.b 4 4 < 1000 ∨ 100000 < field e.b 4 4), 4), (decide (field e.b 8 4 < 100 ∨ 1000000 < field e.b 8 4), 8)])
  let mem := firstBad (imgEntries img secMEMBERSHIP) .bounds 0x31 (fun e => badAt
    [(decide (n ≤ memPosition e), 0), (decide (64 ≤ memNumber e), 2)])
  let parts := firstBad (imgEntries img secPARTITIONS) .bounds 0x31 (fun e => badAt
    [(decide (7 < field e.b 5 1), 5),
     (!part && bitAt (field e.b 4 1) 2 && decide ((n - imgSpares img) % 8 ≠ 0), 4)])
  let slices := firstBad (imgEntries img secSLICES) .bounds 0x31 (fun e =>
    let x := sliceEntry e.b
    badAt [(decide (n ≤ entryPos e) || (part && entryPos e != ownPos), 0), (decide (15 < field e.b 1 1), 1),
      (decide (entryPos e = ownPos ∧ x.ddr &&& s.fld F.TIER_T2_CFG_CH_POPULATED ≠ x.ddr), 8),
      (decide (2 ^ a ≤ x.aport), 12), (decide (entryPos e = ownPos ∧ x.flash &&& s.fld F.TIER_T3_CFG_CH_POPULATED ≠ x.flash), 16), (decide (x.queueCount = 0 ∨ 16384 < x.queueBase + x.queueCount), 20),
      (decide (x.ctxCount = 0 ∨ 8192 < x.ctxBase + x.ctxCount), 24)])
  let runs := firstBad (imgEntries img secTIERMAP) .bounds 0x31 (fun e =>
    let r := runEntry e.b
    let top := if entryPos e = ownPos then s.tierGranules r.tier else mostGranules r.tier
    badAt [(decide (n ≤ entryPos e) || (part && entryPos e != ownPos), 0), (decide (15 < r.slice), 1),
      (decide (r.count = 0 ∨ top < r.first + r.count), 4)])
  let quotas := firstBad (imgEntries img secQUOTA) .bounds 0x31 (fun e => badAt
    [(decide (n ≤ entryPos e) || (part && entryPos e != ownPos), 0), (decide (field e.b 8 8 = 0), 8)])
  lowest [header, mem, ports, parts, slices, runs, quotas, firstBad (imgEntries img secSCHEDULE) .bounds 0x31 (schedRangeAt n)]

/-- Whether a run of this member lies on channels of its slice (R61). -/
def State.onChannels (s : State) (x : Slice) (r : TierRun) : Bool :=
  r.tier == 1 || (List.range r.count).all (fun k =>
    let cell := (r.tier - 1) * 2 ^ 56 + (r.first + k) * granuleBytes r.tier
    let p := s.partOf cell
    if r.tier = 2 then bitAt x.ddr p else bitAt x.flash p)

/-- D of a tier of this member under an image (R180). -/
def State.dataGranules (s : State) (tier : Nat) : Nat := let g := s.tierGranules tier; g - ceilDiv g 8

/-- 0x32. -/
def State.rulesFault (s : State) (img : List Byte) : Option ImgFault :=
  let part := imgPartial img
  let bad (e : ImgEntry) (o : Nat) : ImgFault := ⟨.badDescriptor, 0x32, e.sec, e.off + o⟩
  let mem := imgEntries img secMEMBERSHIP
  let n := imgMembers img
  let roles := firstBad mem .badDescriptor 0x32 (fun e =>
    if field e.b 1 1 = (if n ≤ memPosition e + imgSpares img then 1 else 0) then none else some 1)
  let twice := (clashAt (fun (a b : ImgEntry) => memPosition a == memPosition b || memNumber a == memNumber b) [] mem).map (fun e => bad e 0)
  let ps := imgEntries img secPARTITIONS
  let keys := (clashAt (fun (a b : ImgEntry) => field a.b 0 2 == field b.b 0 2 || field a.b 2 2 == field b.b 2 2) [] ps).map (fun e => bad e 0)
  let classes := firstBad ps .badDescriptor 0x32 (fun e => if field e.b 4 1 % 8 = 0 then some 4 else none)
  let known := (if part then s.sil.comp.partitions else []) ++ ps.map (fun e => partitionOf e.b)
  let sl := (imgEntries img secSLICES).filter (fun e => field e.b 2 1 == 0)
  let slPart := firstBad sl .badDescriptor 0x32 (fun e =>
    match known.find? (fun q => q.1 == (sliceEntry e.b).partition) with
    | some q => if (sliceEntry e.b).classesOk q.2 then none else some 28
    | none => some 4)
  let inSlices := (imgEntries img secSLICES).map (fun e => field e.b 1 1)
  let named := (imgEntries img secTIERMAP).map (fun e => field e.b 1 1)
  let stay := if part then s.sil.comp.slices.filter (fun q => named.contains q.1 && !inSlices.contains q.1) else []
  let slStay := firstBad sl .badDescriptor 0x32 (fun e => if stay.any (fun q => q.2.clash (sliceEntry e.b)) then some 1 else none)
  let slTwice := (clashAt (fun (a b : ImgEntry) => entryPos a == entryPos b
      && (field a.b 1 1 == field b.b 1 1 || (sliceEntry a.b).clash (sliceEntry b.b))) [] sl).map (fun e => bad e 1)
  let rs := imgEntries img secTIERMAP
  let rsTwice := (clashAt (fun (a b : ImgEntry) => entryPos a == entryPos b && (runEntry a.b).meets (runEntry b.b)) [] rs).map (fun e => bad e 4)
  let comp := imgComposition s.sil.comp img s.position
  let p2 := if part then s.fld F.TIER_P2_LAYOUT_P2_ENABLED == 1 else imgP2 img
  let rsRules := firstBad rs .badDescriptor 0x32 (fun e =>
    let r := runEntry e.b
    let own := entryPos e == s.position
    let hasSlice := if part then (comp.slices.get? r.slice).isSome
      else sl.any (fun f => entryPos f == entryPos e && field f.b 1 1 == r.slice)
    if !hasSlice then some 1
    else if r.tier = 1 ∧ 1534 < r.first + r.count then some 4
    else if own ∧ p2 ∧ 2 ≤ r.tier ∧ s.dataGranules r.tier < r.first + r.count then some 4
    else if own && (match comp.slices.get? r.slice with | some x => !s.onChannels x r | none => false) then some 4
    else none)
  let numberOf (pos : Nat) : Nat := if part then s.devnum else match mem.find? (fun e => memPosition e == pos) with | some e => memNumber e | none => pos
  let mirrored : List (Nat × TierRun) := (if part then s.sil.allRuns.filter (fun q => q.1 != s.devnum) else [])
    ++ (rs.map (fun e => (numberOf (entryPos e), runEntry e.b)))
  let (m, sp) := if part then (s.dom.members, s.dom.spares) else (n, imgSpares img)
  let mirrors := firstBad rs .badDescriptor 0x32 (fun e =>
    let r := runEntry e.b
    let d := numberOf (entryPos e)
    if mirrored.any (fun q => (q.2.mirrored && partnerOf m sp q.1 == d && q.2.meets r)
        || (r.mirrored && partnerOf m sp d == q.1 && r.meets q.2)) then some 4 else none)
  let qs := imgEntries img secQUOTA
  let quotas := (clashAt (fun (a b : ImgEntry) => entryPos a == entryPos b && field a.b 1 1 == field b.b 1 1 && field a.b 2 2 == field b.b 2 2) [] qs).map
    (fun e => bad e 0)
  lowest [twice, roles, keys, classes, slPart, slTwice, slStay, rsTwice, rsRules, mirrors, quotas, schedRuleFault img s.position]

/-- Bytes of a tier mapped to a partition's slices of this member. -/
def Composition.capacity (c : Composition) (tier part : Nat) : Nat :=
  c.runs.foldl (fun n r => match c.slices.get? r.slice with
    | some x => if r.tier = tier ∧ x.partition = part then n + r.count * granuleBytes tier else n
    | none => n) 0

/-- 0x33 (R62). -/
def State.quotaFault (s : State) (img : List Byte) : Option ImgFault :=
  let part := imgPartial img
  firstBad (imgEntries img secQUOTA) .quota 0x33 (fun e =>
    let comp := imgComposition s.sil.comp img (entryPos e)
    let tier := field e.b 1 1
    let p := field e.b 2 2
    let lim := field e.b 8 8
    if comp.capacity tier p < lim then some 8
    else if (part || entryPos e == s.position) && decide (lim < s.fld (usedF tier) p) then some 8
    else none)

/-- 0x40. -/
def State.takesFault (s : State) (img : List Byte) : Option ImgFault :=
  if !imgPartial img then none
  else
    let aff := imgAffected img
    let others := s.sil.comp.slices.filter (fun t => !aff.contains t.1)
    let otherRuns := s.sil.comp.runs.filter (fun r => !aff.contains r.slice)
    let comp := imgComposition s.sil.comp img s.position
    let gone (cell : Nat) : Bool :=
      let covers (r : TierRun) : Bool := r.tier == cellTier cell
        && decide (r.first ≤ cell % 2 ^ 56 / granuleBytes (cellTier cell) ∧ cell % 2 ^ 56 / granuleBytes (cellTier cell) < r.first + r.count)
      s.sil.comp.runs.any covers && !comp.runs.any covers
    lowest [firstBad (imgEntries img secSLICES) .busy 0x40 (fun e =>
      if field e.b 2 1 = 0 ∧ others.any (fun t => t.2.clash (sliceEntry e.b)) then some 6 else none),
      firstBad (imgEntries img secTIERMAP) .busy 0x40 (fun e => if otherRuns.any (fun r => r.meets (runEntry e.b)) then some 4 else none),
      (if s.xlt.claims.any (fun k => (granulesOf k.cell k.bytes).any (fun g => gone (cellAt (cellTier k.cell) g 0))) then
        (match imgEntries img secTIERMAP ++ imgEntries img secSLICES with
         | e :: _ => some ⟨.busy, 0x40, e.sec, e.off⟩
         | [] => some ⟨.busy, 0x40, 0xFF, 0⟩)
      else none)]

/-- The checks of CHECKING, in the order of R76.  REASON 0x42 names no byte (log entry 27, the model's choice). -/
def State.contentFault (s : State) (img : List Byte) : Option ImgFault :=
  orElse (s.identityFault img) (orElse (s.baseFault img) (orElse (s.additionFault img) (orElse (s.reservedToFull img)
    (orElse (s.rangesFault img) (orElse (s.rulesFault img) (orElse (s.quotaFault img) (orElse (s.takesFault img)
      (if imgPartial img ∧ s.sil.partials.length ≥ 16 then some ⟨.busy, 0x42, 0xFF, noOffset⟩ else none))))))))

end Sys2Proof.Machine
end

