-- ==== Sys2Proof/Machine/Loader.lean ====
section
/-! DEFINITION. The structure image loader: staging, the load states, the drain, the commit point, the apply steps, and what a member does with
its journal ring after a full image (spec/02 R65 to R75, spec/01 R23 to R31). -/

namespace Sys2Proof.Machine

/-! ### Lanes of the ports (R28 to R30, R464) -/

/-- Whether a port is one the image in force gives lanes. -/
def State.portUsed (s : State) (port : Nat) : Bool := s.portWidth port != 0

/-- The logical lane that carries a lane of a port (R28). -/
def State.logicalLane (s : State) (port lane : Nat) : Nat :=
  let p := (s.dom.members - 1) * s.dom.width
  if port < 0x3F then port * s.dom.width + lane else if port = portSecond then p else p + 1 + 2 * (port - 0x40) + lane

/-- The position and the logical lane number that the far end of a lane announces (R29, R30, R46). -/
def State.farLane (s : State) (port lane : Nat) : Nat × Nat :=
  let i := s.position
  let n := s.dom.members
  if port = portSecond then (i ^^^ 1, (n - 1) * s.dom.width)
  else
    let far := (i + port + 1) % n
    (far, ((i + n - far + n - 1) % n) * s.dom.width + lane)

/-- Whether the laser of a lane may be on but for its being held down (R464). -/
def State.laneAllowed (s : State) (port lane : Nat) : Bool :=
  let m := s.logicalLane port lane
  s.islandOn 23 && s.fldBit F.PWR_COMP_OPTICAL (m % 8) && s.fld F.TST_PINS_LSR_EN == 1
    && (!isAport port || (s.sliceOfAport (port - 0x40)).isSome) && decide (lane < s.portWidth port)

/-- Start training the lanes of a port that are neither up nor held down; an A-port of no slice and a device whose laser interlock is
open keep theirs down. -/
def State.trainPort (s : State) (port : Nat) : State :=
  let go : Bool := s.fld F.TST_PINS_LSR_EN == 1 && (!isAport port || (s.sliceOfAport (port - 0x40)).isSome)
  (List.range (s.portWidth port)).foldl (fun s k =>
    let l := s.laneState port k
    if l = .up ∨ l = .held then s else s.setLane port k (if go then .training else .down)) s

/-- The ports that the image in force gives lanes. -/
def State.ports (s : State) : List Nat := (List.range 0x60).filter s.portUsed

/-! ### Load states -/

def State.silState (s : State) : SilState := .ofCode (s.fld F.SIL_STATE_STATE)
def State.setSil (s : State) (st : SilState) : State := s.setF F.SIL_STATE_STATE st.code

/-- Where an ended load leaves the loader: NO_IMAGE or RUNNING. -/
def State.silRest (s : State) : State := s.setSil (if s.fld F.SIL_FULL_SERIAL_SERIAL = 0 then .noImage else .running)

/-- Record a load outcome (`SIL_LOAD_STATUS`). -/
def State.loadOutcome (s : State) (st : Status) (reason sec off : Nat) : State :=
  let s := (s.setF F.SIL_LOAD_STATUS_STATUS st.code).setF F.SIL_LOAD_STATUS_REASON reason
  ((s.setF F.SIL_LOAD_STATUS_SECTION sec).setF F.SIL_LOAD_STATUS_OFFSET off).bumpSeq F.SIL_LOAD_STATUS_SEQ


/-- A check refuses the image (R76). -/
def State.refuseLoad (s : State) (f : ImgFault) : State :=
  ((s.loadOutcome f.status f.reason f.sec f.off).count F.SIL_COUNT_REFUSED).silRest

/-- The image as staged and latched. -/
def State.stagedImage (s : State) : List Byte :=
  (List.range (8 * s.sil.latched)).flatMap (fun i => natLe 8 (s.sil.staging.getD i 0))

def offSilCmd := 0x10008

/-- A SIL_CMD write that the table of R66 does not list for the state. -/
def State.silUnlisted (s : State) (x : SeatId) (entry : Nat) : State :=
  (s.seatErr x entry offSilCmd .stateConflict).count F.SIL_COUNT_CMD_REFUSED

/-- BEGIN_FULL and BEGIN_PARTIAL (R66, R67). -/
def State.silBegin (s : State) (x : SeatId) (entry : Nat) (whence : SilState) : State :=
  if s.silState = whence then ({ s with sil.staging := [] } : State).setSil .staging else s.silUnlisted x entry

/-- COMMIT (R66, R67).  One refused because a member is ADMITTING is not counted in CMD_REFUSED (log entry 27, the model's choice). -/
def State.silCommit (s : State) (x : SeatId) (entry : Nat) : State :=
  if s.silState ≠ .staging then s.silUnlisted x entry
  else if !(s.membersIn .admitting).isEmpty then s.seatErr x entry offSilCmd .stateConflict
  else ({ s with sil.latched := s.fld F.SIL_STAGE_LEN_LEN_64B, sil.committer := some x, sil.fromNor := false } : State).setSil .verifying

/-- The chunks of an abandoned partial image are forgotten (R72, R74). -/
def State.dropChunks (s : State) : State :=
  let dead := (s.jnl.ring.filter (fun e => e.2.kind == jkPARTIAL_IMAGE && !s.sil.partials.any (fun q => q.1 % 2 ^ 48 == e.2.tag))).map Prod.fst
  ({ s with jnl.toEffect := s.jnl.toEffect.filter (fun j => !dead.contains j),
            jnl.ring := s.jnl.ring.filter (fun e => !dead.contains e.1), sil.lastChunk := none } : State).refreshRing

/-- The affected slices reopen as they were (R66, R74). -/
def State.silReopen (s : State) : State :=
  let s := s.dropChunks
  let s := s.sil.comp.slices.foldl (fun s t =>
    if bitAt s.sil.affected t.1 then (s.setF (F.SIL_SLICE_STATE.at t.1) 1).drainQueues t.2 false else s) s
  ({ s with sil.affected := 0 } : State).setSil .running

/-- ABORT (R66). -/
def State.silAbort (s : State) (x : SeatId) (entry : Nat) : State :=
  if s.silState = .staging then ({ s with sil.staging := [] } : State).silRest
  else if s.silState = .draining then s.silReopen.loadOutcome .done 0x41 0xFF noOffset
  else s.silUnlisted x entry

/-- A reserved or empty SIL_CMD. -/
def State.silOther (s : State) (x : SeatId) (entry op : Nat) : State :=
  if op = 0 then s else s.seatErr x entry offSilCmd .badDescriptor

/-- SIL_APERTURE_WRITE (R65): a word of the page shown. -/
def State.apertureWrite (s : State) (x : SeatId) (entry word v : Nat) : State :=
  if s.silState ≠ .staging then s.seatErr x entry (0x18000 + 8 * word) .stateConflict
  else { s with sil.staging := s.sil.staging.store (s.fld F.SIL_STAGE_PAGE_PAGE * 4096 + word) v 0 }

/-- A full image belongs to NO_IMAGE and a partial image to RUNNING (R67): KIND is invalid otherwise. -/
def State.kindFault (s : State) (img : List Byte) : Option ImgFault :=
  if !imgPartial img && s.fld F.SIL_FULL_SERIAL_SERIAL != 0 then some ⟨.badDescriptor, 0x01, 0xFF, 6⟩ else none

/-- IMAGE_VERIFY_DONE (R53, R66): the form of the image and its signatures have been checked. -/
def State.imageVerifyDone (s : State) (internal : Bool) : State :=
  if s.silState ≠ .verifying then s
  else if internal then s.refuseLoad ⟨.internal, 0xFF, 0xFF, noOffset⟩
  else
    let img := s.stagedImage
    let form := formFault img s.sil.latched
    let fault := match form with
      | some f => if f.reason = 0x01 then some f else (s.kindFault img).or (some f)
      | none => (s.kindFault img).or (s.sigFault img)
    match fault with
    | some f => s.refuseLoad f
    | none => s.setSil .checking

/-- Whether the load may apply: a seat's load needs the committing seat to hold semaphore 0 (R66). -/
def State.committerHolds (s : State) : Bool :=
  s.sil.fromNor || (match s.sil.committer with | some x => s.semHolder 0 == some x | none => false)

/-- Semaphore 0 expired or taken before APPLYING. -/
def State.silSemLost (s : State) : State := (s.silReopen.loadOutcome .semNotHeld 0x51 0xFF noOffset).silRest

/-! ### Showing a composition -/

/-- The slice registers. -/
def State.showSlices (s : State) : State :=
  let s := s.setF F.SIL_STATE_SLICE_MAP (maskOf s.sil.comp.slices.keys)
  (List.range 16).foldl (fun s n =>
    let z : Slice := (s.sil.comp.slices.get? n).getD ⟨0, 0, 0, 0, 0, 0, 0, 0, 0, 0, 0, 0⟩
    let s := (s.setF (F.SIL_SLICE_FLASH_CH.at n) z.flash).setF (F.SIL_SLICE_QUINCE.at n) z.quince
    let s := (s.setF (F.SIL_SLICE_PARTITION.at n) z.partition).setF (F.SIL_SLICE_STATE.at n) (if (s.sil.comp.slices.get? n).isSome then 1 else 0)
    let s := (s.setF (F.SIL_SLICE_RES_DDR_CH.at n) z.ddr).setF (F.SIL_SLICE_RES_APORT.at n) z.aport
    let s := (s.setF (F.SIL_SLICE_Q_QUEUE_BASE.at n) z.queueBase).setF (F.SIL_SLICE_Q_QUEUE_COUNT.at n) z.queueCount
    (s.setF (F.SIL_SLICE_Q_CTX_BASE.at n) z.ctxBase).setF (F.SIL_SLICE_Q_CTX_COUNT.at n) z.ctxCount) s

/-- Every bank of a field returns to its reset value. -/
def State.clearBanks (s : State) (f : Fld) : State :=
  { s with regs := s.regs.filter (fun e => !(e.1 / 64 % 2 ^ 24 == f.off && e.1 % 64 == f.lo)) }

/-- The quotas an image gives this member (R62). -/
def State.applyQuotas (s : State) (img : List Byte) (pos : Nat) : State :=
  ((imgEntries img secQUOTA).filter (fun e => entryPos e == pos)).foldl (fun s e =>
    s.setF (limitF (field e.b 1 1)) (field e.b 8 8) (field e.b 2 2)) s

/-- The shapers, quanta and class weights an image gives this member (R63, R329); whether the shapers start full is the caller's. -/
def State.applySchedule (s : State) (img : List Byte) (pos : Nat) : State :=
  ((imgEntries img secSCHEDULE).filter (fun e => entryPos e == pos || entryPos e == 0xFF)).foldl (fun s e =>
    let b := e.b
    let k := field b 1 1
    let i := field b 2 2
    if k = 1 then
      s.setShaper i ((s.shaper i).apply s.now (field b 14 1) (field b 4 2) (field b 6 2) (field b 8 3) (field b 11 3)).1
    else if k = 2 then
      let q := field b 4 4 / 64
      s.setF (if i % 8 = vcBULK then F.SWS_DRR_QUANTUM_BULK else if i % 8 = vcSCHED then F.SWS_DRR_QUANTUM_SCHED else F.SWS_DRR_QUANTUM_REQ) q (i / 8)
    else if k = 3 then s.setF (F.TIER_BWC_WEIGHT.at i) (field b 4 1)
    else s) s

/-- Quince cores that leave every slice power down, those that change slice begin with a zeroed T0 (R217, R162). -/
def State.moveCores (s : State) (old new : Composition) : State :=
  let at_ (c : Composition) (n : Nat) : Option Nat := (c.slices.find? (fun t => bitAt t.2.quince n)).map Prod.fst
  (List.range 16).foldl (fun s n =>
    if at_ old n = at_ new n ∨ (at_ old n).isNone then s
    else
      let k := s.core n
      let k := { k with tile := blankMem, tileKey := 0, kwin := blankMem, near := blankMem, nearKey := 0 }
      if (at_ new n).isNone then
        let s := s.setCore n { k with state := .off, since := s.now }
        (s.withdrawWake (n + 1)).setIsland (n + 1) (if s.islandState (n + 1) = isHELD then isHELD else isOFF)
      else s.setCore n k) s

/-- Channels that leave every slice power down, those of a slice are woken (R59, R358); their Sloe units follow. -/
def State.moveChannels (s : State) : State :=
  let ddr := maskOf ((List.range 16).filter (fun n => s.sil.comp.slices.any (fun t => bitAt t.2.ddr n)))
  let s := (List.range 16).foldl (fun s n =>
    if bitAt ddr n then s.askWake 21 3 n else s.setFldBit F.PWR_COMP_DDR_CH n false) s
  let s := (List.range 24).foldl (fun s n =>
    if (s.sliceOfFlash n).isSome then
      let s := s.askWake 22 4 n
      if s.sloeState n = slOFF ∧ s.fldBit F.PWR_COMP_FLASH_CH n then s.setSloe n slIDLE else s
    else if s.sloeState n = slOFF then s.setFldBit F.PWR_COMP_FLASH_CH n false
    else (s.sloeEndAll n .stateConflict |>.setSloe n slOFF).setFldBit F.PWR_COMP_FLASH_CH n false) s
  { s with pwr.pending := s.pwr.pending.filter (fun w => !(w.comp == 4 && (s.sliceOfFlash w.inst).isNone) && !(w.comp == 3 && !bitAt ddr w.inst)) }

/-- A-ports of a slice train, others go down (R59, R262). -/
def State.moveAports (s : State) (oldMask : Nat) : State :=
  (List.range s.dom.aports).foldl (fun s a =>
    let now : Bool := (s.sliceOfAport a).isSome
    if now == bitAt oldMask a then s
    else if now then s.trainPort (aportCode a)
    else (List.range (s.portWidth (aportCode a))).foldl (fun s k => s.laneOut (aportCode a) k .down) s) s

def aportMask (c : Composition) : Nat := maskOf ((List.range 32).filter (fun a => c.slices.any (fun t => bitAt t.2.aport a)))

/-- The own runs in the list kept by device number. -/
def State.noteRuns (s : State) : State :=
  { s with sil.allRuns := s.sil.allRuns.filter (fun q => !s.isSelf q.1) ++ s.sil.comp.runs.map (fun r => (s.devnum, r)) }

/-! ### Partial images (R71 to R74) -/

/-- Queues that the applied image leaves in no slice are closed (R129): one in SLICE_DRAIN unpins and journals QUEUE_CFG closed, any other stops. -/
def State.closeStrayQueues (s : State) : State :=
  (s.qx.keys.filter (fun q => (s.sliceOfQueue q).isNone && s.queueState q != .disabled && !s.queueChanging q)).foldl (fun s q =>
    if s.queueState q = .sliceDrain then (s.unpinQueue q).journalWrite (s.queueCfg q 0)
    else (s.setQueueState q .stopping).stopIfDrained q) s

/-- Unit test access ends with `STATE_CONFLICT` when its unit is removed or reset (R471). -/
def State.testAborted (s : State) : State :=
  let i := s.fld F.TST_UNIT_STATUS_UNIT
  let s := ((s.setF F.TST_UNIT_STATUS_STATE 0).setF F.TST_UNIT_STATUS_STATUS Status.stateConflict.code).bumpSeq F.TST_UNIT_STATUS_SEQ
  let s : State := if i < 16 then s.setCore i { s.core i with isolation := 0 } else s
  { s with tst.tests := 0 }

/-- Unit test access ends when an image removes its unit (R471). -/
def State.endTestAccess (s : State) : State :=
  if s.fld F.TST_UNIT_STATUS_STATE = 0 then s
  else
    let i := s.fld F.TST_UNIT_STATUS_UNIT
    let here : Bool := if i < 16 then (s.sliceOfCore i).isSome else (s.sliceOfFlash (i - 16)).isSome
    if here then s else s.testAborted

/-- The apply step of a partial image: every affected slice, quota, key and schedule entry changes at once (R73). -/
def State.applyPartial (s : State) (img : List Byte) : State :=
  let old := s.sil.comp
  let pos := field img 32 2
  let new := imgComposition old img pos
  let oldPorts := aportMask old
  let s : State := { s with sil.comp := new }
  let s := ((s.showSlices.noteRuns).applyQuotas img pos).applySchedule img pos
  let s := (((s.moveCores old new).moveChannels).moveAports oldPorts).closeStrayQueues.endTestAccess
  let s := new.slices.foldl (fun s t => if bitAt s.sil.affected t.1 then s.drainQueues t.2 false else s) s
  let s := s.extendMr 3 3 (Config.sha384 img)
  let s : State := { s with
    sil.affected := 0, sil.lastChunk := none,
    sil.partials := s.sil.partials ++ [(imgSerial img, imgBase img, img)] }
  let s := (s.setF F.SIL_STATE_PARTIALS s.sil.partials.length).setF F.SIL_APPLIED_SERIAL_SERIAL (imgSerial img)
  s.count F.SIL_COUNT_APPLIED

/-- A partial image passes its checks: the affected slices close and drain (R71). -/
def State.drainBegin (s : State) (img : List Byte) : State :=
  let aff := imgAffected img
  let new := imgComposition s.sil.comp img s.position
  let gone := aportMask s.sil.comp &&& (2 ^ 32 - 1 - aportMask new)
  let s := s.sil.comp.slices.foldl (fun s t =>
    if aff.contains t.1 then (s.setF (F.SIL_SLICE_STATE.at t.1) 2).drainQueues t.2 true else s) s
  let s := (bitsSet 32 gone).foldl (fun s a => if s.aportState a = apATTACHED then s.flushAport a false else s) s
  ({ s with sil.affected := maskOf aff, sil.drainStart := s.now } : State).setSil .draining

/-- Whether every affected slice has drained (R71). -/
def State.slicesDrained (s : State) : Bool :=
  let new := imgComposition s.sil.comp s.stagedImage s.position
  let gone := aportMask s.sil.comp &&& (2 ^ 32 - 1 - aportMask new)
  (s.sil.comp.slices.filter (fun t => bitAt s.sil.affected t.1)).all (fun t =>
    !s.works.any (fun w => s.isSelf w.origin && decide (t.2.queueBase ≤ w.queue ∧ w.queue < t.2.queueBase + t.2.queueCount))
      && (bitsSet 16 t.2.quince).all (fun n => (s.core n).launch.isNone && (s.core n).attend.isNone)
      && (bitsSet 32 t.2.aport).all (fun a => (s.aportReqs a).isEmpty))
    && (bitsSet 32 gone).all (fun a => !s.home.drops.any (fun d => d.aport == a))

/-- SLICE_DRAINED (R71, R72): the image is journalled, chunk by chunk; its commit point is the effect of the last chunk. -/
def State.sliceDrained (s : State) : State :=
  if s.silState ≠ .draining ∨ s.sil.lastChunk.isSome ∨ !s.slicesDrained then s
  else
    let img := s.stagedImage
    let s := (List.range s.sil.latched).foldl (fun s i => s.journalWrite
      { kind := jkPARTIAL_IMAGE, phase := i, tag := imgSerial img % 2 ^ 48, body := slice img (64 * i) 64 }) s
    { s with sil.lastChunk := some (s.fld F.JNL_HEAD_JSEQ - 1) }

/-- The last chunk of the partial image is in effect: its commit point (R66, R72). -/
def State.partialCommitted (s : State) : State :=
  if s.silState ≠ .draining then s
  else if s.committerHolds then ((s.applyPartial s.stagedImage).loadOutcome .done 0x00 0xFF noOffset).setSil .running
  else s.silSemLost

/-- DRAIN_TIMEOUT (R75). -/
def State.drainTimeout (s : State) : State :=
  if s.silState ≠ .draining then s
  else
    let s := s.reach (s.sil.drainStart + s.fld F.SIL_DRAIN_CTRL_TIMEOUT_US * nsPerUs)
    (s.silReopen.count F.SIL_COUNT_DRAIN_TIMEOUTS).loadOutcome .timeout 0x50 0xFF noOffset

/-! ### Device numbers and rebindings (R23, R44) -/

/-- The position that holds a number after a list of rebindings (failed number, spare's former number) from the first numbering. -/
def rebindPos (l : List (Nat × Nat)) (d : Nat) : Nat :=
  l.foldr (fun r d => if d = r.1 then r.2 else if d = r.2 then r.1 else d) d

/-- The rebindings that an image does not contain: those after the longest prefix that gives its table (R23, R54). -/
def pendingRebinds (img : List Byte) (l : List (Nat × Nat)) : List (Nat × Nat) :=
  let n := imgMembers img
  let fits (k : Nat) : Bool := (List.range n).all (fun d => imgPosOf img d == rebindPos (l.take k) d)
  let k := (((List.range (l.length + 1)).filter fits).getLast?).getD 0
  l.drop k

/-- Place every number at its position: the map of P-ports follows (R29, R44). -/
def State.placeNumbers (s : State) (posOf : Nat → Nat) : State :=
  let n := s.dom.members
  (List.range 64).foldl (fun s d =>
    let p := if d < n then posOf d else d
    let s := s.setF (F.FAB_MEMBER_POSITION.at d) p
    let port := if d < n ∧ p ≠ s.position then (p + n - s.position - 1) % n else 0x3F
    let s := s.setF (F.FAB_MEMBER_PPORT.at d) port
    s.setF (F.FAB_MEMBER_LANES_UP.at d) (if port = 0x3F then 0 else s.fld F.FAB_PORT_STATUS_LANES_UP port)) s

/-- This member takes a number (R23, R44): its own bit in `JNL_CUSTODY` follows. -/
def State.takeNumber (s : State) (d : Nat) : State :=
  ((s.setFldBit F.JNL_CUSTODY_DEVICES s.devnum false).setF F.CTL_ID_DEVNUM d).setFldBit F.JNL_CUSTODY_DEVICES d true

/-- The swap of R44 in this member's table: positions exchanged, the spare ACTIVE under the failed number, its former number RETIRED. -/
def State.exchangeNumbers (s : State) (failed spare : Nat) : State :=
  let pf := s.fld (F.FAB_MEMBER_POSITION.at failed)
  let ps := s.fld (F.FAB_MEMBER_POSITION.at spare)
  let s := if s.devnum = failed then s.takeNumber spare else if s.devnum = spare then s.takeNumber failed else s
  s.placeNumbers (fun d => if d = failed then ps else if d = spare then pf else s.fld (F.FAB_MEMBER_POSITION.at d))

/-! ### The full image (R66 to R69) -/

/-- The member states of a full image (R25): every number listed is JOINING, those vacated by a rebinding RETIRED, others ABSENT. -/
def State.rebuildTable (s : State) (rebinds : List (Nat × Nat)) : State :=
  (List.range 64).foldl (fun s d =>
    let st : MemberState := if s.dom.members ≤ d then .absent else if rebinds.any (fun r => r.2 == d) then .retired else .joining
    let s := s.setF (F.FAB_MEMBER_STATE.at d) st.code
    ((s.clearF (F.FAB_MEMBER_RELAY.at d)).clearF (F.FAB_MEMBER_RELAYED.at d)).clearF (F.FAB_MEMBER_EPOCH.at d)) s

/-- The ports of the image: widths, peers, and every lane of a port in use down until it trains. -/
def State.rebuildPorts (s : State) : State :=
  let n := s.dom.members
  let s : State := { s with dom.lanes := [], fab.links := [] }
  (List.range 0x60).foldl (fun s port =>
    let w := if port < n - 1 then s.dom.width else if port = portSecond then 1
      else if 0x40 ≤ port ∧ port < 0x40 + s.dom.aports then 2 else 0
    let s := s.setF F.FAB_PORT_STATUS_WIDTH w port
    let peer := if port < n - 1 then (s.position + port + 1) % n else if port = portSecond then s.position ^^^ 1 else 0
    let s := s.setF F.FAB_PORT_STATUS_PEER peer port
    let s := s.setF F.FAB_PORT_STATUS_CLASS 0 port
    let s : State := { s with dom.lanes := (List.range w).foldl (fun t k => t.put (laneKey port k) LaneState.down) s.dom.lanes }
    s.showPort port) s

/-- The gate list of an image for a position. -/
def imgGates (img : List Byte) (pos : Nat) : List (Nat × Nat × Bool × Bool) :=
  (gateEntries img pos).map (fun e => (field e.b 4 4, field e.b 8 1, bitAt (field e.b 9 1) 0, bitAt (field e.b 10 1) 0))

/-- The number the own position holds. -/
def State.ownNumber (s : State) : Nat :=
  ((List.range s.dom.members).find? (fun d => s.fld (F.FAB_MEMBER_POSITION.at d) == s.position)).getD s.position

/-- The composition a full image gives a number: that of its own position in the image (R44). -/
def State.takeComposition (s : State) (img : List Byte) : State :=
  let pos := imgPosOf img s.devnum
  let s : State := { s with sil.comp := imgComposition s.sil.comp img pos }
  let s := (([1, 2, 3].foldl (fun s t => s.clearBanks (limitF t)) s).applyQuotas img pos).showSlices
  let s : State := { s with sws.shapers := [] }
  let s := [F.SWS_DRR_QUANTUM_BULK, F.SWS_DRR_QUANTUM_SCHED, F.SWS_DRR_QUANTUM_REQ].foldl State.clearBanks s
  let s := (List.range 8).foldl (fun s i => s.clearF (F.TIER_BWC_WEIGHT.at i)) s
  ((s.applySchedule img pos).fillShapers.gateInstall (imgGates img pos)).moveChannels

/-- The tables a full image fills: the domain, its numbers and ports, and this member's composition. -/
def State.installImage (s : State) (img : List Byte) : State :=
  let ports := match imgEntries img secPORTS with | e :: _ => e.b | [] => []
  let mem := imgEntries img secMEMBERSHIP
  let rb := pendingRebinds img s.dom.rebinds
  let s : State := { s with
    dom.members := imgMembers img, dom.spares := imgSpares img, dom.width := imgWidth img, dom.aports := imgAports img,
    dom.eports := field ports 2 1 % 16, dom.lossUs := field ports 4 4, dom.mgmtUs := field ports 8 4,
    dom.identities := mem.foldl (fun t e => t.put (memPosition e) (slice e.b 8 48)) [],
    dom.spareRole := (List.range (imgMembers img)).foldl (fun t d => t.put d (decide (imgMembers img ≤ d + imgSpares img))) [],
    dom.rebinds := rb, dom.heard := [], dom.peers := [], dom.selfFailed := false, dom.allTags := false, sil.full := img,
    sil.allRuns := (imgEntries img secTIERMAP).map (fun e =>
      (((List.range (imgMembers img)).find? (fun d => imgPosOf img d == entryPos e)).getD (entryPos e), runEntry e.b)) }
  let s := s.placeNumbers (fun d => rebindPos rb (imgPosOf img d))
  let s := s.takeNumber s.ownNumber
  let s := (s.rebuildTable rb).rebuildPorts
  let p2 : Bool := imgP2 img
  let s := s.setF F.TIER_P2_LAYOUT_P2_ENABLED (if p2 then 1 else 0)
  let s := (s.setF F.TIER_P2_LAYOUT_T2_DATA (if p2 then s.dataGranules 2 else 0)).setF F.TIER_P2_LAYOUT_T3_DATA (if p2 then s.dataGranules 3 else 0)
  let s := s.takeComposition img
  let s := (s.setF F.SIL_FULL_SERIAL_SERIAL (imgSerial img)).setF F.SIL_APPLIED_SERIAL_SERIAL (imgSerial img)
  let s := (s.setF F.SIL_DOMAIN_ID_DOMAIN_ID (imgDomain img)).setF F.RAS_REBIND_COUNT 0
  let quiet := if s.dom.windowsLost ∧ s.fld F.PWR_START_PHASE < 7 then s.now + s.dom.lossUs * nsPerUs else s.dom.hbQuietUntil
  let s : State := { s with sil.partials := [], dom.hbQuietUntil := quiet }
  let s := ((s.setF F.JNL_STATE_MIRROR_DEV (s.partner s.devnum)).setF F.JNL_STATE_MIRROR_VALID 0).setF F.JNL_STATE_NO_MIRROR 1
  (s.setF F.SIL_STATE_PARTIALS 0).extendMr 2 2 (Config.sha384 img)

/-! ### The own journal after a full image (R69, R125) -/

/-- The partial images that a ring holds, in journal order: SERIAL, BASE_SERIAL and bytes. -/
def ringPartials (ring : Tbl JEntry) : List (Nat × Nat × List Byte) :=
  let chunks := (ring.map Prod.snd).filter (fun e => e.kind == jkPARTIAL_IMAGE)
  let chunks := chunks.filter (fun e => !chunks.any (fun f => f.tag == e.tag && f.phase == e.phase && decide (e.jseq < f.jseq)))
  let tags := (chunks.map (fun e => e.tag)).dedup
  tags.filterMap (fun t =>
    let mine := sortBy (fun (a b : JEntry) => decide (a.phase < b.phase)) (chunks.filter (fun e => e.tag == t))
    let img := mine.flatMap (fun e => padTo 64 e.body)
    if 64 * mine.length = imgLen img + 3392 then some (imgSerial img, imgBase img, img) else none)

/-- The latest entry of a kind for each queue or context of a ring. -/
def ringLatest (ring : Tbl JEntry) (kind : Nat) : List JEntry :=
  ((ring.map Prod.snd).filter (fun e => e.kind == kind)).foldl (fun (l : List JEntry) e =>
    (l.filter (fun f => f.queue != e.queue)) ++ [e]) []

/-- Contexts as the ring configures them (R112, R137). -/
def State.restoreContexts (s : State) : State :=
  (ringLatest s.jnl.ring jkCONTEXT_CFG).foldl (fun s e =>
    let c := e.queue
    let w (i : Nat) : Nat := field e.body (8 * i) 8
    let put (s : State) (f : Fld) (v : Nat) : State := s.setF f (bitsOf v f.lo f.width) c
    let s := put (put (put s F.XLT_CTX_CFG_PARTITION (w 0)) F.XLT_CTX_CFG_MODE (w 0)) F.XLT_CTX_CFG_LOG2_CAP (w 0)
    let s := put s F.XLT_CTX_TABLE_AREA (w 1)
    let s := put (put (put s F.XLT_CTX_HOST_BASE_HOST_BASE (w 2)) F.XLT_CTX_LIMIT_PAGES (w 3)) F.XLT_CTX_DEV_BASE_DEV_BASE (w 4)
    (put s F.XLT_CTX_CFG_ENABLE (w 0)).showTable c) s

/-- Queues as the ring configures them, once the contexts and their extents are there (R112, R129). -/
def State.restoreQueues (s : State) : State :=
  (ringLatest s.jnl.ring jkQUEUE_CFG).foldl (fun s e =>
    let q := e.queue
    let cfg := field e.body 0 8
    let s := ((s.setF F.WQ_Q_CFG_CTX (cfg / 2 ^ 16) q).setF F.WQ_Q_CFG_CQ_KIND (cfg / 2 ^ 8 % 256) q).setF F.WQ_Q_CFG_LOG2_SLOTS (cfg % 256) q
    let s := ((s.setF F.WQ_Q_RING_RING_VA (field e.body 8 8) q).setF F.WQ_Q_CQ_CQ_ADDR (field e.body 16 8) q).setF F.WQ_Q_CQ_KEY_RKEY (field e.body 24 8) q
    if field e.body 40 1 ≠ 1 ∨ s.queueState q ≠ .disabled then s
    else
      let dga (va : Nat) (n : Nat) (right : Nat) : Nat := match s.translate (cfg / 2 ^ 16) va n right with | .ok x => x.dga | .error _ => 0
      let ring := dga (field e.body 8 8) 64 rREAD
      let cell := dgaCell ring
      let word (o : Nat) : Nat := leNat (s.mem.readN (s.keyFor cell) (cell + o) 4)
      let last := (s.jnl.ring.map Prod.snd).filter (fun f => (f.kind == jkDESCRIPTOR || f.kind == jkRETIRE) && f.queue == q)
      let cq := last.foldl (fun n f => if f.cqValid && decide (diff32 (f.cqIndex + 1) n < 2 ^ 31) then mod32 (f.cqIndex + 1) else n) (word 24)
      let head := (last.filter (fun f => f.kind == jkDESCRIPTOR)).foldl (fun n f =>
        let ahead := (f.qseq + 1 + 2 ^ 32 - n) % 65536
        if ahead < 32768 then mod32 (n + ahead) else n) (word 8)
      let s := s.setQueue q { emptyQueue with
        ringDga := ring, cqDga := (if cfg / 2 ^ 8 % 256 = 0 then dga (field e.body 16 8) 32 rWRITE else 0),
        cqNext := cq, cqTail := cq, cqHead := word 16, next := head, limit := head }
      ((s.setF F.WQ_Q_PROGRESS_HEAD head q).setQueueState q .enabled).writeHeader q) s

/-- References and pins of extents counted afresh from what the member resumes (R145, R151). -/
def State.recountExtents (s : State) : State :=
  let pinsOf (e : Extent) : Nat := (s.qx.keys.filter (fun q => s.queueState q != .disabled && s.queueCtx q == e.ctx)).foldl (fun n q =>
    let hit (va : Nat) : Nat := if (match s.convert e.ctx va 1 with | .ok v => e.holds v | .error _ => false) then 1 else 0
    n + hit (s.fld F.WQ_Q_RING_RING_VA q) + (if s.fld F.WQ_Q_CFG_CQ_KIND q = 0 then hit (s.fld F.WQ_Q_CQ_CQ_ADDR q) else 0)) 0
  let refsOf (e : Extent) : Nat := s.works.foldl (fun n w => n +
    (if s.isSelf w.origin && w.ctx == e.ctx then (w.refs.filter (fun r => r.ext == e.va)).length else 0)) 0
  { s with xlt.extents := s.xlt.extents.map (fun e => { e with pins := pinsOf e, refs := refsOf e }),
           xlt.counted := s.xlt.extents.map (fun e => (e.ctx, e.va)) }

/-- The member resumes every unretired request of its own ring (R121, R125); unit state that is lost ends a COLLECTIVE or an
EMBED_POOL (R122). -/
def State.resumeOwn (s : State) : State :=
  let s := s.setF F.JNL_STATE_RECOVERING 1
  let s := (liveRequests s.jnl.ring (s.entryReadable false)).foldl (fun s x =>
    let w := s.resumed s.devnum x.1 x.2.1 (indexBelow (s.queueHead x.1.queue) x.1.qseq)
    if x.2.2 then s.lostRequest w
    else
      let s := s.addResumed w x.2.1
      if x.2.1.isNone then s
      else if w.opcode = dCOLLECTIVE then (s.collLost w).outcome w.tag .stateConflict 0
      else if w.opcode = dEMBED_POOL then s.poolEnd w.tag .stateConflict 0
      else s.recommit w.tag s.devnum) s
  s.recountExtents.recoverSettle

/-- The lanes train and the member joins its peers (PHASE JOIN), once T2 is initialised as well. -/
def State.joinBegin (s : State) : State :=
  if s.pwr.memInit ≠ 0 then s else (s.ports.foldl State.trainPort s).setF F.PWR_START_PHASE 6

/-- The rebindings, partial images, queues, contexts and requests of the own ring come into force (R23, R69, R125). -/
def State.afterRing (s : State) : State :=
  let rb := pendingRebinds s.sil.full (((s.jnl.ring.map Prod.snd).filter (fun e => e.kind == jkREBIND)).map (fun e => (field e.body 0 2, field e.body 2 2)))
  let s := if rb = s.dom.rebinds then s
    else
      let s : State := { s with dom.rebinds := rb }
      let s := s.placeNumbers (fun d => rebindPos rb (imgPosOf s.sil.full d))
      let s := (s.takeNumber s.ownNumber).rebuildTable rb
      s.takeComposition s.sil.full
  let all := ringPartials s.jnl.ring
  let s := all.foldl (fun s q =>
    if q.2.1 = s.fld F.SIL_FULL_SERIAL_SERIAL then s.applyPartial q.2.2
    else s.logErr { unit := .ras, status := .stateConflict, syndrome := q.1 }) s
  (s.noteRuns.restoreContexts.restoreQueues.endCustodies.resumeOwn).pruneRing.joinBegin

/-- Whether the member must hear from its journal partner of its ring before it goes on (R69, R125): the ring is lost, or what the mirror holds of
it is not yet known. -/
def State.ringAwaited (s : State) : Bool := s.sil.ringLost || s.jnl.confirm

/-- The partner's port, over which a lost ring is fetched before anything else (R69). -/
def State.partnerPorts (s : State) : List Nat :=
  let p := s.partner s.devnum
  s.pportTo p :: (if s.fld F.FAB_PORT_STATUS_PEER portSecond = s.fld (F.FAB_MEMBER_POSITION.at p) then [portSecond] else [])

/-- APPLYING of a full image (R66, R69): a member that must first hear of its ring trains its partner's port alone, any other goes on to domain
join. -/
def State.applyFull (s : State) (img : List Byte) : State :=
  let s := s.installImage img
  let s := ((s.loadOutcome .done 0x00 0xFF noOffset).count F.SIL_COUNT_APPLIED).setSil .running
  if s.ringAwaited then s.partnerPorts.foldl State.trainPort s else s.afterRing

/-- IMAGE_CHECK_DONE (R66, R76). -/
def State.imageCheckDone (s : State) (internal : Bool) : State :=
  if s.silState ≠ .checking then s
  else if internal then s.refuseLoad ⟨.internal, 0xFF, 0xFF, noOffset⟩
  else
    let img := s.stagedImage
    match s.contentFault img with
    | some f => s.refuseLoad f
    | none =>
      if imgPartial img then s.drainBegin img
      else if s.committerHolds then s.applyFull img
      else (s.loadOutcome .semNotHeld 0x51 0xFF noOffset).silRest

/-- An own ring that a reset kept is compared with its mirror (R125): an entry above the highest JSEQ that the mirror holds never took effect and
is discarded, unless it was written with SINGLE (log entry 55); one that cannot be read is fetched from the mirror. -/
def State.ringConfirmed (s : State) (entries : List JEntry) (high : Nat) : State :=
  let s : State := { s with jnl.ring := s.jnl.ring.filter (fun e => decide (e.1 ≤ high) || e.2.single), jnl.confirm := false }
  let s := (s.jnl.ring.filter (fun e => !s.entryReadable false e.1)).foldl (fun s e =>
    match entries.find? (fun f => f.jseq == e.1) with
    | some f => { s with jnl.ring := s.jnl.ring.put e.1 f, mem := s.mem.store deviceKey (entryCell false e.1) f.bytes 0 }
    | none => s) s
  (s.trackMax F.JNL_ACKED_JSEQ high).refreshRing.afterRing

/-- RING_FETCH_DONE (R69, R125): the partner has told what its mirror holds: the highest JSEQ, and the live entries asked for. Where the own ring
is lost they are the own ring. -/
def State.ringFetchDone (s : State) (entries : List JEntry) (high : Nat) : State :=
  if !s.ringAwaited ∨ s.fld F.SIL_FULL_SERIAL_SERIAL = 0 then s
  else if !s.sil.ringLost then s.ringConfirmed entries high
  else
    let ring := entries.foldl (fun (t : Tbl JEntry) e => t.put e.jseq e) []
    let top := (entries.foldl (fun n e => max n (e.jseq + 1)) 0)
    let head := max top (if s.jnl.retentionJseq = 0 then 0 else s.jnl.retentionJseq + 1)
    let tags := entries.foldl (fun n e => max n (max e.tag (e.tagBase + e.tagCount))) 0
    let s : State := { s with jnl.ring := ring, jnl.toEffect := [], sil.ringLost := false, jnl.confirm := false,
                              fab.jnlTag := max (max tags s.jnl.retentionTag % jnlTagLast + 1) 1 }
    let s := ((s.setF F.JNL_HEAD_JSEQ head).setF F.JNL_ACKED_JSEQ (head - 1)).refreshRing
    s.afterRing

/-- RING_FETCH_TIMEOUT (R69): the ring is lost in both copies and a new journal begins (R125). -/
def State.ringFetchTimeout (s : State) : State :=
  if !s.ringAwaited ∨ s.fld F.SIL_FULL_SERIAL_SERIAL = 0 then s
  else ({ s with sil.ringLost := false } : State).newJournal.afterRing

/-- Start with a full image on the serial NOR device (R66, R68): it is staged and its verification starts. -/
def State.norStart (s : State) : State :=
  let nor := s.sil.nor
  if s.silState ≠ .noImage ∨ field nor 0 4 ≠ 0x49534D44 ∨ imgPartial nor then s
  else
    let len := (imgLen nor + 3392) / 64
    let words := (List.range (8 * len)).foldl (fun (t : Tbl Nat) i => t.store i (field nor (8 * i) 8) 0) []
    ({ s with sil.staging := words, sil.latched := len, sil.committer := none, sil.fromNor := true } : State).setSil .verifying

end Sys2Proof.Machine
end

