-- ==== Sys2Proof/Machine/Rebuild.lean ====
section
/-! DEFINITION. What the tiers do by themselves, unit by unit: failed parts, arming and scrubbing of P2 claims, resynchronisation of degraded
granules, and the rebuild of a failed number onto a spare (spec/06 R166, R172, R181 to R190, R473). -/

namespace Sys2Proof.Machine

/-! ### Staging slots (R172) -/

/-- STAGING_SLOT_FREE: the tile that has waited longest takes a free slot with every piece of it that waits. -/
def State.stagingSlotFree (s : State) : State :=
  if s.tier.staged.length ≥ 32 then s
  else match s.tier.heldRequests.find? isStaging with
    | none => s
    | some p =>
      let mine (q : Packet) : Bool := isStaging q && q.src == p.src && stageMark q == stageMark p
      let go := s.tier.heldRequests.filter mine
      go.foldl State.stagePiece { s with tier.heldRequests := s.tier.heldRequests.filter (fun q => !mine q) }

/-! ### Units of a range (R181, R189, R473) -/

/-- Send the ciphertext of ranges of a unit to a holder, in packets of 256 B or less: a mirror copy, or the contents that arm or disarm parity
(R181, R186). -/
def State.sendUnit (s : State) (op h aux : Nat) (parts : List (Nat × Nat)) (w : Waiter) : State :=
  parts.foldl (fun s r => (cut256 r.1 (r.2 / 256 + 2) r.2).foldl (fun s c =>
    let dga := mkDga s.devnum 0 0 + c.1
    let k := sectorsOf dga (c.2 - 1)
    (s.serveBytes (s.fld F.TIER_REBUILD_CTRL_CLASS) c.2).issue {
      op := op, vc := vcREQ, tagged := true, dst := h, addr := dga, size := c.2 - 1, sectors := k, poison := s.mem.poisonMask c.1 c.2,
      aux := s.deviceAux + aux + (s.partOfCell c.1).getD 0 * 65536, payload := s.mem.readN 0 (c.1 / 64 * 64) (64 * k) } w) s) s

/-- Whether a unit is free to be copied: no write to it waits for its redundancy, no copy of it is under way, and no request to it is forwarded
to its redundancy. -/
def State.unitFree (s : State) (cell n : Nat) : Bool :=
  let line (l : Nat) : Bool := s.isSelf (dgaDev (l * 64)) && decide (cell < dgaCell (l * 64) + 64 ∧ dgaCell (l * 64) < cell + n)
  !s.tier.inFlight.any (fun w => w.lines.any line)
    && !(s.fab.reqs ++ s.fab.waiting).any (fun r => match r.waiter with
      | .resync c m => decide (c < cell + n ∧ cell < c + m)
      | .forwarded p => s.isSelf (dgaDev p.addr) && decide (dgaCell p.addr < cell + n ∧ cell < dgaCell p.addr + p.span)
      | _ => false)

def State.modClaim (s : State) (k : Claim) (f : Claim → Claim) : State :=
  { s with xlt.claims := s.xlt.claims.map (fun q => if q == k then f q else q) }

/-- The next unit of a P2 claim that arms or disarms: its cell and bytes. -/
def Claim.nextUnit (k : Claim) : Nat × Nat :=
  let u := if k.scrubbing then k.disarmed else k.armed
  (k.cell + unitBytes * u, min unitBytes (k.bytes - unitBytes * u))

/-- ARM_UNIT_DONE (R181): the next unit of the P2 claim that covers a cell goes to its parity holder. While the holder takes none the unit
is armed with reduced redundancy. -/
def State.armUnitDone (s : State) (cell : Nat) : State :=
  match s.claimAt cell with
  | none => s
  | some k =>
    let (c, n) := k.nextUnit
    if k.cls ≠ 2 ∨ n = 0 ∨ !s.unitFree c n then s
    else
      let h := parityHolder s.devnum (cellGranule c)
      let s := if s.memberState h = .active then
          s.sendUnit opPARITY h (if k.scrubbing then 1024 else 512) [(c, n)] (.resync c n)
        else if k.scrubbing then s else s.degrade c
      if k.scrubbing then
        let k' := { k with disarmed := k.disarmed + 1 }
        if unitBytes * k'.disarmed ≥ min k.bytes (unitBytes * k.armed) then
          (({ s with xlt.claims := s.xlt.claims.filter (fun q => !(q == k)) } : State).subF F.TIER_ARM_SCRUBBING 1).refreshClaims
        else s.modClaim k (fun _ => k')
      else
        let k' := { k with armed := k.armed + 1 }
        let s := s.modClaim k (fun _ => k')
        if unitBytes * k'.armed ≥ k.bytes then s.subF F.TIER_ARM_ARMING 1 else s

/-! ### Resynchronisation (R473) -/

/-- The class that protects a granule: P2 where P2 claims lie in it, else P1. -/
def State.granuleClass (s : State) (tier g : Nat) : Nat :=
  let n := granuleBytes tier
  if s.xlt.claims.any (fun k => !k.alias_ && k.cls == 2 && k.meets (cellAt tier g 0) n) then 2 else 1

/-- The parts of a range that P1 claims and table areas hold: what a mirror copies. -/
def State.mirroredParts (s : State) (cell n : Nat) : List (Nat × Nat) :=
  (s.guardedRanges.filter (fun k => k.cls == 1 && k.meets cell n)).map (fun k =>
    let lo := max cell k.cell
    (lo, min (cell + n) (k.cell + k.bytes) - lo))

/-- The members of this member's parity set whose data granules a parity granule of it covers, with the granule of each (R180). -/
def State.coveredBy (s : State) (cell : Nat) : List (Nat × Nat) :=
  let q := cellGranule cell - s.p2Data (cellTier cell)
  let i := s.devnum % 8
  ((List.range 8).filter (· != i)).map (fun t => (s.devnum / 8 * 8 + t, 7 * q + (t + 16 - i - 1) % 8))

/-- The armed bytes of a unit of parity are asked of the members it covers; they hold writes to their units until it is recomputed (R473). -/
def State.parityRecompute (s : State) (cell n : Nat) : State :=
  let (id, s) := s.newXfer (.parityUnit cell n) 0
  (s.coveredBy cell).foldl (fun s e =>
    (cut256 cell (n / 256 + 2) n).foldl (fun s c =>
      let a := mkDga e.1 0 0 + cellAt (cellTier c.1) e.2 (cellOff c.1)
      s.askPart id (stripeOff (e.1 % 8) c.1) (parityRead e.1 a c.2 (s.deviceAux + 2 ^ 14))) s) s

/-- The members are told that the recomputation of a unit is over, and whether it is whole. -/
def State.parityRelease (s : State) (cell : Nat) (whole : Bool) : State :=
  (s.coveredBy cell).foldl (fun s e =>
    if s.memberState e.1 ≠ .active then s
    else s.issue { op := opPARITY, vc := vcREQ, tagged := true, dst := e.1, addr := mkDga e.1 0 0 + cellAt (cellTier cell) e.2 (cellOff cell), size := 63,
                   sectors := 1, aux := s.deviceAux + 2 ^ 15 + (if whole then 2 ^ 14 else 0), payload := zeros 64 } .none) s

/-- The frontier of a tier shows the granule of the next unit (R189). -/
def State.showFrontier (s : State) (tier off : Nat) : State :=
  let f := if tier = 1 then F.TIER_REBUILD_STATUS_T1_FRONTIER else if tier = 2 then F.TIER_REBUILD_STATUS_T2_FRONTIER
    else F.TIER_REBUILD_STATUS_T3_FRONTIER
  s.setF f (off / granuleBytes tier)

def rbIDLE := 0
def rbLOADING := 1
def rbREBUILDING := 2
def rbDONE := 3
def rbABANDONED := 4

/-- The unit at a tier's frontier is copied: the frontier advances, and with the last unit of every tier the rebuild is over (R189). -/
def State.rebuildAdvance (s : State) (tier : Nat) : State :=
  match s.tier.runs.find? (fun r => r.kind == runREBUILD && cellTier r.cell == tier) with
  | none => s
  | some r =>
    let n := min unitBytes (r.stop - r.cell)
    let rest := s.tier.runs.filter (fun q => !(q == r))
    let s := s.showFrontier tier (r.cell % 2 ^ 56 + n)
    if r.cell + n < r.stop then { s with tier.runs := rest ++ [{ r with cell := r.cell + n, busy := false }] }
    else
      let s : State := { s with tier.runs := rest }
      if rest.any (fun q => q.kind == runREBUILD) then s else s.setF F.TIER_REBUILD_STATUS_STATE rbDONE

/-- A rebuild has lost something for good (R190). -/
def State.rebuildLoss (s : State) : State := s.setF F.TIER_REBUILD_STATUS_STATUS Status.doubleLoss.code

/-- Whether the rebuild onto this spare waits for a unit of parity. -/
def State.rebuildsParity (s : State) (cell : Nat) : Bool :=
  s.tier.runs.any (fun r => r.kind == runREBUILD && r.busy && r.cell == cell)

/-- The contributions to a parity unit are in: their XOR is the parity, with the poison marks of the sectors it covers (R405); the members go
on. -/
def State.parityUnitDone (s : State) (cell n : Nat) (x : Xfer) : State :=
  let whole := x.status == .done
  let mine := s.rebuildsParity cell
  let s := if whole then
      (s.coveredBy cell).foldl (fun s e =>
        (cut256 cell (n / 256 + 2) n).foldl (fun s c =>
          let bs := (x.pieces.get? (stripeOff (e.1 % 8) c.1)).getD []
          let s : State := { s with mem := s.mem.store 0 c.1 (xorBytes (s.mem.readN 0 c.1 c.2) (plain bs)) 0 }
          s.markParity e.1 (cellAt (cellTier c.1) e.2 (cellOff c.1)) ((List.range (c.2 / 64)).map (fun k => (bs.getD (64 * k) (0, false)).2))) s)
        (({ s with mem := s.mem.store 0 cell (zeros n) 0 } : State).serveBytes (s.fld F.TIER_REBUILD_CTRL_CLASS) n)
    else if mine then s.rebuildLoss else s
  let s := s.parityRelease cell whole
  let s : State := { s with tier.runs := s.tier.runs.map (fun r =>
      if r.kind == runMIRROR && r.cell == cell + unitBytes && r.busy then { r with busy := false } else r) }
  if mine then s.rebuildAdvance (cellTier cell) else s

/-- GRANULE_RESYNC (R473): one 64 KiB unit of a degraded granule of this owner is copied to its mirror position, or one unit of parity that this
member holds is recomputed, in ascending order. -/
def State.granuleResync (s : State) (tier g : Nat) : State :=
  let first := cellAt tier g 0
  let parityHere := s.fld F.TIER_P2_LAYOUT_P2_ENABLED = 1 ∧ 2 ≤ tier ∧ s.p2Data tier ≤ g
  let mine (r : UnitRun) : Bool := r.kind == runMIRROR && cellTier r.cell == tier && (cellGranule r.cell == g || (r.cell == r.stop && cellGranule (r.stop - 1) == g))
  let run := (s.tier.runs.find? mine).getD ⟨runMIRROR, first, first + granuleBytes tier, false⟩
  let run := if run.cell ≥ run.stop ∧ !run.busy then { run with cell := first } else run
  let rest := s.tier.runs.filter (fun r => !mine r)
  if tier = 0 ∨ 3 < tier ∨ run.busy then s
  else
    let next := { run with cell := run.cell + unitBytes, busy := parityHere }
    if parityHere then
      ({ s with tier.runs := rest ++ [next] } : State).parityRecompute run.cell unitBytes
    else if !s.tier.degraded.contains (tier, g) ∨ s.granuleClass tier g = 2 ∨ s.memberState (s.partner s.devnum) ≠ .active
        ∨ !s.unitFree run.cell unitBytes then s
    else
      let s : State := { s with tier.runs := rest ++ [next] }
      let parts := s.mirroredParts run.cell unitBytes
      if parts.isEmpty ∧ next.cell ≥ next.stop then ({ s with tier.runs := rest } : State).undegrade tier g
      else s.sendUnit opMIRROR (s.partner s.devnum) 0 parts (.resync run.cell unitBytes)

/-- Whether copies of a granule are still unanswered. -/
def State.resyncWaits (s : State) (tier g : Nat) : Bool :=
  (s.fab.reqs ++ s.fab.waiting).any (fun r => match r.waiter with
    | .resync c _ => cellTier c == tier && cellGranule c == g
    | _ => false)

/-- A copy of a unit is answered: one that its holder did not take leaves the granule degraded (R178, R184), and its copying begins again; with
the last of the last unit the granule is whole (R473). -/
def State.resyncAnswered (s : State) (cell : Nat) (st : Status) : State :=
  let tier := cellTier cell
  let g := cellGranule cell
  let mine (r : UnitRun) : Bool := r.kind == runMIRROR && cellTier (r.cell - 1) == tier && cellGranule (r.cell - 1) == g && decide (cell < r.cell)
  if st ≠ .done then ({ s with tier.runs := s.tier.runs.filter (fun r => !mine r) } : State).degrade cell
  else if s.tier.runs.any (fun r => mine r && decide (r.stop ≤ r.cell)) && !s.resyncWaits tier g then
    ({ s with tier.runs := s.tier.runs.filter (fun r => !mine r) } : State).undegrade tier g
  else s

/-! ### Loading a spare (R187 to R190) -/

/-- Ciphertext that a stage brings: cell, bytes and poison marks of their sectors (R186). -/
def State.putContent (s : State) (c : Nat × List Byte × Nat) : State :=
  ({ s with mem := s.mem.store 0 c.1 c.2.1 c.2.2 } : State).serveBytes (s.fld F.TIER_REBUILD_CTRL_CLASS) c.2.1.length

/-- Whether a cell lies in a T1 granule that a number's runs set MIRRORED. -/
def State.mirroredOf (s : State) (d cell : Nat) : Bool :=
  cellTier cell == 1 && s.sil.allRuns.any (fun e => e.1 == d && e.2.tier == 1 && e.2.mirrored
    && decide (e.2.first ≤ cellGranule cell ∧ cellGranule cell < e.2.first + e.2.count))

/-- Whether a load stage brings a range (R187): stage 2 the MIRRORED T1 granules of the number, stage 3 the mirror positions it held. -/
def State.stageTakes (s : State) (stage d cell n : Nat) : Bool :=
  let o := if stage = 2 then d else partnerOfInv s.dom.members s.dom.spares d
  (stage == 2 || stage == 3) && s.mirroredOf o cell && s.mirroredOf o (cell + n - 1) && cellGranule cell == cellGranule (cell + n - 1)

/-- This spare is loaded for a number (R187): it shows LOADING. -/
def State.loadBegin (s : State) (d : Nat) : State :=
  let s := ((s.setF F.TIER_REBUILD_STATUS_FOR_DEV d).setF F.TIER_REBUILD_STATUS_STATE rbLOADING).setF F.TIER_REBUILD_STATUS_STATUS 0
  { ((s.setF F.TIER_REBUILD_STATUS_T1_FRONTIER 0).setF F.TIER_REBUILD_STATUS_T2_FRONTIER 0).setF F.TIER_REBUILD_STATUS_T3_FRONTIER 0 with tier.loaded := 0 }

/-- The composition in force at a number: the full image's for it, amended by the partial images its ring holds. -/
def State.compositionOf (s : State) (d : Nat) (ring : Tbl JEntry) : Composition :=
  let pos := imgPosOf s.sil.full d
  ((ringPartials ring).filter (fun q => q.2.1 == s.fld F.SIL_FULL_SERIAL_SERIAL)).foldl (fun c q => imgComposition c q.2.2 (field q.2.2 32 2))
    (imgComposition s.sil.comp s.sil.full pos)

/-- REBUILD_STAGE_DONE (R187): stage 1 brings the lost number's live ring and the registrations held at it, stages 2 and 3 the ciphertext of T1,
one stage after the other.  A source that failed leaves `DOUBLE_LOSS`, and the load goes on (R190). -/
def State.rebuildStageDone (s : State) (stage d : Nat) (entries : List JEntry) (claims : List Claim)
    (content : List (Nat × List Byte × Nat)) (lost : List (Nat × Nat)) : State :=
  if s.fld F.TIER_REBUILD_STATUS_STATE ≠ rbLOADING ∨ s.fld F.TIER_REBUILD_STATUS_FOR_DEV ≠ d ∨ stage ≠ s.tier.loaded + 1 ∨ 3 < stage then s
  else
    let s : State := { s with tier.loaded := stage }
    let s := if stage ≠ 1 then s
      else
        let ring := entries.foldl (fun (t : Tbl JEntry) e => t.put e.jseq e) []
        let s : State := { s with jnl.ring := ring, sil.comp := s.compositionOf d ring }
        let top := entries.foldl (fun n e => max n (e.jseq + 1)) 0
        let s := ((s.setF F.JNL_HEAD_JSEQ top).setF F.JNL_ACKED_JSEQ (top - 1)).showSlices
        claims.foldl State.addClaim s
    let content := content.filter (fun c => s.stageTakes stage d c.1 c.2.1.length)
    let s := content.foldl State.putContent s
    let top := content.foldl (fun n c => max n (cellGranule c.1 + 1)) 0
    let s := if stage = 1 then s else s.setF F.TIER_REBUILD_STATUS_T1_FRONTIER (if stage = 3 then 1536 else top)
    let lost := lost.filter (fun l => s.stageTakes stage d l.1 l.2)
    let s := if lost.isEmpty then s else s.rebuildLoss
    lost.foldl (fun s l => s.doubleLoss l.1 l.2) s

/-- The swap has made this spare the lost number (R137, R187, R189, R421): its contexts are enabled with the extents of their table areas, its
queues are restored, its own extents' claims recorded, P0 and unarmed P2 ranges poisoned, and stage 4 begins in T2 and T3. -/
def State.admitted (s : State) : State :=
  let s := s.restoreContexts
  let ctxs := ((ringLatest s.jnl.ring jkCONTEXT_CFG).map (fun e => e.queue)).filter s.ctxEnabled
  let s := (ctxs.foldl State.loadTable s).restoreQueues.recountExtents
  let own := s.xlt.extents.filter (fun e => s.isSelf (dgaDev e.dga))
  let s := (own.filter (fun e => !e.alias_) ++ own.filter (fun e => e.alias_)).foldl (fun s e => s.recordClaim (claimOf e s.devnum)) s
  let bare := s.xlt.claims.filter (fun k => !k.alias_ && k.cls != 1)
  let s := bare.foldl (fun (s : State) k =>
    let from_ := if k.cls = 0 then 0 else unitBytes * k.armed
    if from_ ≥ k.bytes then s else { s with mem := s.mem.poisonRange (k.cell + from_) (k.bytes - from_) }) s
  let s := s.setF F.TIER_REBUILD_STATUS_STATE rbREBUILDING
  let runs := ([2, 3].filter (fun t => s.populated (t - 1) != 0)).map (fun t =>
    (⟨runREBUILD, cellAt t 0 0, cellAt t 0 0 + s.populated (t - 1), false⟩ : UnitRun))
  let s : State := { s with tier.runs := s.tier.runs ++ runs }
  if runs.isEmpty then s.setF F.TIER_REBUILD_STATUS_STATE rbDONE else s

/-- The parts of a unit that stage 4 fetches, each from its source (R187): the P1 ranges from the mirror target, armed P2 ranges from their parity
holder, mirror positions from their primaries. A part is its cell, its bytes, the source, the owner, and the AUX of the read. -/
def State.unitSources (s : State) (cell n : Nat) : List (Nat × Nat × Nat × Nat × Nat) :=
  let dev := s.devnum
  let p1 := (s.mirroredParts cell n).map (fun r => (r.1, r.2, s.partner dev, dev, 2 ^ 12))
  let p2 := (s.xlt.claims.filter (fun k => !k.alias_ && k.cls == 2 && k.meets cell n)).filterMap (fun k =>
    let lo := max cell (k.cell + unitBytes * k.disarmed)
    let hi := min (cell + n) (k.cell + min k.bytes (unitBytes * k.armed))
    if lo < hi then some (lo, hi - lo, parityHolder dev (cellGranule cell), dev, 2 ^ 13) else none)
  let o := partnerOfInv s.dom.members s.dom.spares dev
  p1 ++ p2 ++ (if s.isMirrorPos cell then [(cell, n, o, o, 2 ^ 12)] else [])

/-- REBUILD_UNIT_COPY (R189): the copy of the unit at a tier's frontier begins; requests to it are held until it is there.  A unit that has
nothing to bring is passed. -/
def State.rebuildUnitCopy (s : State) (tier : Nat) : State :=
  match s.tier.runs.find? (fun r => r.kind == runREBUILD && cellTier r.cell == tier) with
  | none => s
  | some r =>
    let n := min unitBytes (r.stop - r.cell)
    let parity := s.fld F.TIER_P2_LAYOUT_P2_ENABLED = 1 ∧ s.p2Data tier ≤ cellGranule r.cell
    let src := s.unitSources r.cell n
    if r.busy ∨ !s.unitFree r.cell n then s
    else if !parity && src.isEmpty then s.rebuildAdvance tier
    else
      let s : State := { s with tier.runs := s.tier.runs.map (fun q => if q == r then { r with busy := true } else q) }
      if parity then s.parityRecompute r.cell n
      else
        let (id, s) := s.newXfer (.unitCopy tier) 0
        src.foldl (fun s e => (cut256 e.1 (e.2.1 / 256 + 2) e.2.1).foldl (fun s c =>
          s.askPart id c.1 (parityRead e.2.2.1 (mkDga e.2.2.2.1 0 0 + c.1) c.2 (s.deviceAux + e.2.2.2.2))) s) s

/-- The parts of a unit are in: they are written as they were stored (R186), and what no source could give is lost (R190). -/
def State.unitCopied (s : State) (tier : Nat) (x : Xfer) : State :=
  match s.tier.runs.find? (fun r => r.kind == runREBUILD && cellTier r.cell == tier) with
  | none => s
  | some r =>
    let n := min unitBytes (r.stop - r.cell)
    let s := x.pieces.foldl (fun s e =>
      s.putContent (e.1 / 64 * 64, plain e.2, markMask 0 e.2)) s
    let lost := ((s.unitSources r.cell n).flatMap (fun e => cut256 e.1 (e.2.1 / 256 + 2) e.2.1)).filter (fun c => (x.pieces.get? c.1).isNone)
    let s := if lost.isEmpty then s else s.rebuildLoss
    (lost.foldl (fun s l => s.doubleLoss l.1 l.2) s).rebuildAdvance tier

end Sys2Proof.Machine
end

