-- ==== Sys2Proof/Machine/Domain.lean ====
section
/-! DEFINITION. The member among its peers: heartbeats and relay choice, the loss of a member, the identity exchange, lanes that train or
fail, remote management accesses that are not answered (spec/01, R108, R123, R178, R183, R248, R287, R288). -/

namespace Sys2Proof.Machine

/-- A list without the first place that holds a packet. -/
def dropDelivered (p : Packet) : List (Nat × Packet) → List (Nat × Packet)
  | [] => []
  | x :: xs => if x.2 = p then xs else x :: dropDelivered p xs

/-- Remove a packet that one of this member's endpoints holds: the step that serves it takes it. -/
def State.take (s : State) (p : Packet) : State := { s with sws.delivered := dropDelivered p s.sws.delivered }

/-- The peers of this member: every number its image lists but its own. -/
def State.peers (s : State) : List Nat := (List.range 64).filter (fun d => !s.isSelf d && s.memberState d != .absent)

/-! ### Heartbeats (R24, R34, R248, R311, R392) -/

/-- The link-up bitmap: the numbers whose direct P-port is up here. -/
def State.upBitmap (s : State) : Nat := maskOf (s.peers.filter (fun d => s.portUp (s.pportTo d)))

/-- What island 25 sends over the handshake channel to the optical framing: not through the switch core (R311). -/
def State.handshake (s : State) (d : Nat) (p : Packet) : State :=
  let p := { p with src := s.devnum, dst := d }
  let path := s.pathOf p
  let port := s.pathPort d path
  let p := { p with relayed := path != .direct && path != .second }
  if s.portUp port then s.linkSend port p 0 else s

/-- HEARTBEAT_TIMER (R24): at each multiple of 100 us a heartbeat goes to every peer, except while dedup windows lost by a reset keep this
member silent (R248) and while island 25 is being reset (R414). -/
def State.heartbeatTimer (s : State) : State :=
  let s := s.reach ((s.now / 100000 + 1) * 100000)
  if s.now < s.dom.hbQuietUntil ∨ s.ras.running.any (fun r => r.level == 3 && r.target == 25) then s
  else
    let lock := if s.timeLocked then 1 else 0
    let body := natLe 8 s.upBitmap ++ natLe 8 s.domainTime ++ natLe 1 lock ++ zeros 47
    s.peers.foldl (fun s d => s.handshake d { op := opHEARTBEAT, vc := vcMGMT, dst := d, sectors := 1, size := 63, payload := body }) s

/-- Choose the path to every peer whose direct port is down or that a relay carries (R34). -/
def State.rerouteAll (s : State) : State :=
  s.peers.foldl (fun s d => if !s.portUp (s.pportTo d) || s.pathTo d != .direct then s.reroute d else s) s

/-- HEARTBEAT (R34): the sender's liveness, bitmap, time and lock are kept, and the relay choice is made again. -/
def State.heartbeat (s : State) (p : Packet) : State :=
  let s := s.take p
  if p.op ≠ opHEARTBEAT ∨ s.isSelf p.src ∨ s.memberState p.src = .absent then s
  else
    let time := field p.payload 8 8
    let locked := bitAt (field p.payload 16 1) 0
    let s : State := { s with dom.heard := s.dom.heard.put p.src ⟨field p.payload 0 8, time, locked, s.now⟩ }
    let s := if !locked then s.sourceGone p.src else if s.takesTimeFrom p.src then s.timeFrom p.src time else s
    s.rerouteAll

/-! ### The mirror target (R107, R108) -/

/-- A mirror target is there: every live entry is copied to it; acceptance resumes once all are acknowledged, at once if there is none. -/
def State.mirrorTaken (s : State) (m : Nat) : State :=
  if !s.noMirror then s
  else
    let s := s.setF F.JNL_STATE_MIRROR_DEV m
    let live := s.jnl.ring.vals.filter s.isLive
    if live.isEmpty then { (s.setF F.JNL_STATE_MIRROR_VALID 1).setF F.JNL_STATE_NO_MIRROR 0 with jnl.gap := true }
    else live.foldl State.mirrorEntry s

/-- The mirror target is gone: acceptance is held. -/
def State.mirrorGone (s : State) : State :=
  let isJ (r : Request) : Bool := match r.waiter with | .journal _ => true | _ => false
  let s : State := { s with fab.reqs := s.fab.reqs.filter (fun r => !isJ r), fab.waiting := s.fab.waiting.filter (fun r => !isJ r) }
  let s := (s.setF F.JNL_STATE_MIRROR_VALID 0)
  (if s.noMirror then s else s.count F.JNL_LOSS_HOLDS).setF F.JNL_STATE_NO_MIRROR 1

/-! ### A member is lost (R26, R27) -/

/-- The class under which this member knows a DGA: by its extents or by the requests it runs (R145, R146). -/
def State.classAt (s : State) (dga : Nat) : Nat :=
  match s.xlt.extents.find? (fun e => decide (e.dga ≤ dga ∧ dga < e.dga + e.len)) with
  | some e => e.cls
  | none => match (s.works.flatMap (fun w => w.refs)).find? (fun r => decide (r.dga ≤ dga ∧ dga < r.dga + r.bytes)) with
    | some r => r.cls
    | none => 0

/-- A request to a number that has been declared lost (R36, R178, R183, R248): re-sent under its tag to the redundancy holder of its range,
settled without it, or ended. -/
def State.redirect (s : State) (d : Nat) (r : Request) : State :=
  let drop (s : State) : State := { s with fab.reqs := s.fab.reqs.filter (fun q => !(q.pkt.tag == r.pkt.tag && q.pkt.dst == d)),
                                           fab.waiting := s.fab.waiting.filter (fun q => !(q.pkt.tag == r.pkt.tag && q.pkt.dst == d)) }
  let ends (st : Status) : State := (drop s).answerNow r.waiter r.pkt st
  match r.waiter with
  | .mirrored req => if r.pkt.op = opMIRROR ∨ r.pkt.op = opPARITY then (drop s).unprotected req else (drop s).protected_ req .poison
  | .journal _ => drop s
  | .resync c _ => (drop s).degrade c
  | .forwarded req => ((drop s).lossReport (dgaCell req.addr) (req.size + 1)).answerNow r.waiter r.pkt .poison
  | _ =>
    if r.pkt.onMemory && dgaDev r.pkt.addr == d then
      match s.route r.pkt.addr (s.classAt r.pkt.addr) with
      | .ok h => ((drop s).launch { r.pkt with dst := h } r.waiter)
      | .error st => ends st
    else if r.pkt.onMemory || r.pkt.op == opPARITY then ends .poison
    else if r.pkt.op == opREDUCE then ends .stateConflict
    else ends .timeout

/-- Own granules whose redundancy the lost member held, or whose stripe it was in, count as degraded; where the own copy is gone as well both
copies are (R184). -/
def State.redundancyLost (s : State) (d : Nat) : State :=
  let hit (k : Claim) (g : Nat) : Bool :=
    if k.cls = 1 then s.partner s.devnum == d
    else d / 8 == s.devnum / 8 && (parityHolder s.devnum g == d || (stripeOthers s.devnum g).any (fun e => e.1 == d))
  s.guardedRanges.foldl (fun s k => ((granulesOf k.cell k.bytes).filter (hit k)).foldl (fun s g =>
    let (lo, n) := k.inGranule (cellTier k.cell) g
    let s := s.degrade lo
    let dead := ((List.range (ceilDiv n 4096)).map (fun i => lo + 4096 * i)).filter s.partFailed
    dead.foldl (fun s c => s.doubleLoss c 4096) s) s) s

/-- The home of this member and its agents after the loss of a member (R288): entries of its agents go, lines they held X are poisoned, snoops
and grants do not wait for them, and the own agents write back its lines. -/
def State.agentsLost (s : State) (d : Nat) : State :=
  let (n, first, s) := s.dropAgents (fun a => a / 32 == d) true
  let s := match first with
    | some line => s.logErr { unit := .home, status := .poison, addr := line * 64, syndrome := d + n * 2 ^ 32 }
    | none => s
  let snoops := s.home.events.flatMap (fun e => (e.snoops.filter (fun x => x.agent / 32 == d)).map (fun x => (e.id, x.tag)))
  let s := snoops.foldl (fun s x => s.snoopSettled x.1 x.2) s
  let grants := s.home.events.filter (fun e => match e.grant with | some (a, _) => a / 32 == d | none => false)
  let s := (grants.foldl (fun s e => s.endEv e.id) s).pump
  let s := (List.range 32).foldl (fun s a => if s.aportState a = apATTACHED then
      s.toAgent a { op := 0x13, vc := vcSNOOP, addr := mkDga d 0 0, aux := d, tag := d, pkey := (match s.sliceOfAport a with
        | some (_, sl) => s.keyOf sl.partition | none => 0) } else s) s
  s.home.drops.foldl (fun s x => s.dropAnswered x.aport d) s

/-- A custodian and the only holder of its mirror are both lost: the lowest ACTIVE number says so (R126). -/
def State.bothLost (s : State) (d : Nat) : State :=
  let other := if s.memberState (s.partner d) = .failed then some (s.partner d)
    else (s.membersIn .failed).find? (fun e => e != d && s.partner e == d)
  match other with
  | some e => if (s.membersIn .active).head? = some s.devnum then
      s.logErr { unit := .jnl, status := .doubleLoss, index := d, syndrome := e } else s
  | none => s

/-- An admission whose custodian is the lost member is abandoned at every member (R419).  That custodian is a source of stages 1 to 3: the spare
shows `DOUBLE_LOSS` and its load as done (R190). -/
def State.admissionLost (s : State) (d : Nat) : State :=
  if (s.membersIn .failed).any (fun e => e != d && s.partner e == d) then
    let s := if s.fld F.TIER_REBUILD_STATUS_STATE = rbLOADING then
        (s.setF F.TIER_REBUILD_STATUS_STATE rbDONE).setF F.TIER_REBUILD_STATUS_STATUS Status.doubleLoss.code
      else s
    (s.membersIn .admitting).foldl (fun s a => s.setMember a .spare .done) s
  else s

/-- This member has been declared lost: it stops accepting descriptors and requests and holds itself FAILED (R27). -/
def State.selfDeclared (s : State) : State :=
  if s.dom.selfFailed then s
  else ({ s with dom.selfFailed := true } : State).setMember s.devnum .failed .timeout

/-- MEMBER_DECLARE (R25 to R27): the declaration of a number's loss is applied. -/
def State.memberLost (s : State) (d : Nat) : State :=
  if s.isSelf d then s.selfDeclared
  else if s.memberState d ≠ .active then s
  else
    let s := s.setMember d .failed .timeout
    let s := s.admissionLost d
    let s := if s.partner s.devnum = d ∨ s.fld F.JNL_STATE_MIRROR_DEV = d then s.mirrorGone else s
    let s := (s.jnl.held.filter (fun h => h.custodian == d)).foldl (fun s h => s.dropHeld d h.tag) s
    let s : State := { s with fab.markers := s.fab.markers.filter (fun m => m.dst != d),
                              ras.rebindAcks := setBit s.ras.rebindAcks d false }
    let s := ((s.fab.reqs ++ s.fab.waiting).filter (fun r => r.pkt.dst == d)).foldl (fun s r => s.redirect d r) s
    let s := s.peers.foldl (fun s e => if s.pathTo e = .relay d then
        let s := s.reroute e
        if s.pathTo e = .relay d then s else s.pathDead e (.relay d)
      else s) s
    let s : State := { s with tier.runs := s.tier.runs.filter (fun r => !(r.kind == runPARITY && parityHolder s.devnum (cellGranule r.cell) == d)) }
    let s := (((s.sourceGone d).redundancyLost d).agentsLost d).bothLost d
    let s := ((s.collMemberLost d).poolMemberLost d).revokeMemberLost d
    let s := (s.works.filter (fun w => w.holder == d && (w.stage == .offered || w.stage == .running))).foldl (fun s w => s.reclaim w s.devnum) s
    if s.partner d = s.devnum then
      let s := s.takeCustody d
      (s.works.filter (fun w => w.origin == d)).foldl State.collLost s
    else s

/-- MEMBER_DECLARE as a received packet: AUX names the number. -/
def State.memberDeclare (s : State) (p : Packet) : State :=
  let s := s.take p
  if p.op ≠ opMEMBER_DECLARE then s else s.memberLost (p.aux % 64)

/-- The declarer of a number and how long it waits (R26): the journal partner while ACTIVE, else the lowest ACTIVE number after 40 s. -/
def State.declarer (s : State) (d : Nat) : Option (Nat × Nat) :=
  let p := s.partner d
  if s.memberState p = .active then some (p, s.dom.lossUs * nsPerUs)
  else ((s.membersIn .active).find? (· != d)).map (fun n => (n, 40000 * nsPerMs))

/-- MEMBER_LOSS_TIMEOUT (R26): the declarer has heard nothing of a member for its timeout; the declaration is broadcast and applied. -/
def State.memberLossTimeout (s : State) (d : Nat) : State :=
  match s.declarer d with
  | none => s
  | some (n, wait) =>
    if n ≠ s.devnum ∨ s.isSelf d ∨ s.memberState d ≠ .active ∨ s.dom.selfFailed then s
    else
      let last := match s.dom.heard.get? d with | some h => h.at_ | none => s.dom.activeAt
      let s := s.reach (last + wait)
      let s := s.peers.foldl (fun s e => s.handshake e { op := opMEMBER_DECLARE, vc := vcMGMT, dst := e, aux := d }) s
      s.memberLost d

/-! ### Identity exchange (R25, R70, R179, R248) -/

/-- Hold every lane of a port down. -/
def State.holdPort (s : State) (port : Nat) : State := (List.range (s.portWidth port)).foldl (fun s k => s.laneOut port k .held) s

/-- Populated T2 channels, C and D_die that a number reported; this member's own for its own number. -/
def State.layoutOf (s : State) (d : Nat) : Option (Nat × Nat × Nat) :=
  if s.isSelf d then some (s.fld F.TIER_T2_CFG_CH_POPULATED, s.fld F.TIER_T2_CFG_CH_GIB, s.fld F.TIER_T3_CFG_DIES)
  else (s.dom.peers.get? d).map (fun i => (i.ddrMask, i.ddrGib, i.dies))

/-- Whether a number's layout is that of the lowest-numbered member of its parity set (R179): none while that one has not reported it. -/
def State.layoutFits (s : State) (d : Nat) : Option Bool :=
  if s.fld F.TIER_P2_LAYOUT_P2_ENABLED = 0 then some true
  else (s.layoutOf (d / 8 * 8)).map (fun l => s.layoutOf d == some l)

/-- What this member reports of itself in an identity exchange (R25, R70, R179, R248). -/
def State.ownInfo (s : State) : PeerInfo :=
  { identity := s.dom.identities.getD s.position [], serial := s.fld F.SIL_FULL_SERIAL_SERIAL, domainId := s.fld F.SIL_DOMAIN_ID_DOMAIN_ID,
    t1Stacks := s.fld F.TIER_T1_CFG_STACK_PRESENT, ddrMask := s.fld F.TIER_T2_CFG_CH_POPULATED, ddrGib := s.fld F.TIER_T2_CFG_CH_GIB,
    flashMask := s.fld F.TIER_T3_CFG_CH_POPULATED, dies := s.fld F.TIER_T3_CFG_DIES, windowsLost := s.dom.windowsLost }

/-- The FAB record of a number that stays JOINING (R25, R472). -/
def State.heldJoining (s : State) (d : Nat) (st : Status) : State :=
  s.logErr { unit := .fab, status := st, index := d, syndrome := MemberState.joining.code + MemberState.joining.code * 256 }

/-- A peer says that its dedup windows were lost: tagged requests outstanding to it end with `TIMEOUT`; requests with a committed phase that
address it end with `DOUBLE_LOSS` instead of being replayed (R248). -/
def State.windowsGone (s : State) (d : Nat) : State :=
  let gone := s.fab.reqs.filter (fun r => r.pkt.dst == d && r.pkt.tagged)
  let s : State := { s with fab.reqs := s.fab.reqs.filter (fun r => !(r.pkt.dst == d && r.pkt.tagged)) }
  let s := gone.foldl (fun s r => s.answerNow r.waiter r.pkt .timeout) s
  let hit (w : Work) : Bool := w.tagCount != 0 && !w.final && (w.targets.contains d || w.refs.any (fun r => dgaDev r.dga == d))
  let now_ := s.works.filter (fun w => hit w && w.replayed && (w.stage == .committing || w.stage == .offered))
  let s : State := { s with works := s.works.map (fun w => if hit w then { w with lost := true } else w) }
  now_.foldl (fun s w => s.outcome w.tag .doubleLoss 0) s

/-- The mirror target is taken once this member and its journal partner are both ACTIVE. -/
def State.mirrorReady (s : State) : State :=
  let p := s.partner s.devnum
  if s.memberState p = .active ∧ s.memberState s.devnum = .active then s.mirrorTaken p else s

/-- The member's own entry: ACTIVE or SPARE by its role with its first verified peer, if its own layout is that of its parity set; the start is
over (R25, R179, R453). -/
def State.enterDomain (s : State) : State :=
  if s.memberState s.devnum ≠ .joining ∨ s.layoutFits s.devnum ≠ some true then s
  else
    let st : MemberState := if s.dom.spareRole.getD s.devnum false then .spare else .active
    let s := ({ s with dom.activeAt := s.now } : State).setMember s.devnum st .done
    (s.setF F.PWR_START_PHASE 7).setF F.PWR_START_LAST_MS ((s.now - s.pwr.startAt) / nsPerMs)

/-- A JOINING number whose identity is verified becomes ACTIVE or SPARE where SERIAL, DOMAIN_ID and P2 layout agree and a lane is trained (R25,
R70); none does before the own ring is there (R69), nor while the lowest number of its parity set has not reported (R179). -/
def State.joinPeer (s : State) (d : Nat) : State :=
  match s.dom.peers.get? d with
  | none => s
  | some i =>
    if s.memberState d ≠ .joining ∨ s.ringAwaited then s
    else if i.serial ≠ s.fld F.SIL_FULL_SERIAL_SERIAL ∨ i.domainId ≠ s.fld F.SIL_DOMAIN_ID_DOMAIN_ID ∨ s.layoutFits d = some false then
      s.heldJoining d .stateConflict
    else if s.layoutFits d = none ∨ !s.portUp (s.pportTo d) then s
    else
      let s := s.setMember d (if s.dom.spareRole.getD d false then .spare else .active) .done
      let s : State := { s with dom.heard := s.dom.heard.put d ⟨0, 0, false, s.now⟩ }
      let s := s.issue { op := opTAG_RESET, vc := vcMGMT, dst := d, aux := if s.dom.allTags then 1 else 0 } .none
      let s := s.enterDomain
      (if i.windowsLost then s.windowsGone d else s).mirrorReady

/-- The lowest number of a parity set has reported its layout: the numbers of the set that waited for it are judged by it, this member's own
among them (R179). -/
def State.layoutKnown (s : State) (d : Nat) : State :=
  let waiting := s.peers.filter (fun e => e != d && e / 8 == d / 8 && s.memberState e == .joining && (match s.dom.peers.get? e with
    | some i => i.serial == s.fld F.SIL_FULL_SERIAL_SERIAL && i.domainId == s.fld F.SIL_DOMAIN_ID_DOMAIN_ID
    | none => false))
  let s := waiting.foldl State.joinPeer s
  let s := if s.devnum / 8 = d / 8 ∧ s.memberState s.devnum = .joining ∧ s.layoutFits s.devnum = some false then
      s.heldJoining s.devnum .stateConflict else s
  if s.peers.any (fun e => s.memberState e == .active || s.memberState e == .spare) then s.enterDomain.mirrorReady else s

/-- The own ring is there (R69): the peers that exchanged identities meanwhile join. -/
def State.joinRecorded (s : State) : State := if s.ringAwaited then s else s.peers.foldl State.joinPeer s

/-- IDENTITY_EXCHANGE (R25): what a peer reports is checked and its member state follows. -/
def State.identityExchange (s : State) (d : Nat) (i : PeerInfo) : State :=
  if 64 ≤ d ∨ s.isSelf d ∨ s.memberState d = .absent ∨ s.fld F.SIL_FULL_SERIAL_SERIAL = 0 then s
  else
    let port := s.pportTo d
    let joining := s.memberState d = .joining
    let s : State := { s with dom.reported := s.dom.reported.put d s.ownInfo }
    if s.dom.identities.getD (s.fld (F.FAB_MEMBER_POSITION.at d)) [] ≠ i.identity then
      (if joining then (s.heldJoining d .authFail).holdPort port else s)
    else
      let s : State := { s with dom.peers := s.dom.peers.put d i }
      let s := if joining then s.joinPeer d else if i.windowsLost then s.windowsGone d else s
      if d % 8 = 0 ∧ s.fld F.TIER_P2_LAYOUT_P2_ENABLED = 1 then s.layoutKnown d else s

/-- JOINING_WAIT_TIMEOUT (R125): one member-loss timeout has passed since this member entered ACTIVE; transactions that waited on a JOINING
number are handled under R36 from then on. -/
def State.joiningWaitTimeout (s : State) : State :=
  if s.memberState s.devnum ≠ .active then s else s.reach (s.dom.activeAt + s.dom.lossUs * nsPerUs)

/-- Whether a transaction towards a number is held back (R125): before this member is ACTIVE, or while the number is JOINING and the wait is
not over. -/
def State.joinHeld (s : State) (d : Nat) : Bool :=
  s.memberState s.devnum != .active
    || (s.memberState d == .joining && decide (s.now < s.dom.activeAt + s.dom.lossUs * nsPerUs))

/-! ### Lanes (R32, R46, R255, R264, R287) -/

/-- The agent of an A-port has trained and declared its class: 1 non-caching, 2 caching (R264, R287). -/
def State.agentTrained (s : State) (a cls : Nat) : State :=
  let s := s.setF F.FAB_PORT_STATUS_CLASS cls (aportCode a)
  let s : State := { s with home.caching := s.home.caching.filter (· != a) ++ (if cls = 2 then [a] else []) }
  if cls = 2 ∧ (s.aportState a = apNONE ∨ s.aportState a = apEXPELLED) then s.setAport a apATTACHED else s

/-- LANE_TRAINING_DONE (R46): what the far end announced is what R29 and R30 predict, or the lane is held down. `cls` is the class an agent
declares. -/
def State.laneTrainingDone (s : State) (port lane pos num cls : Nat) : State :=
  if s.portWidth port ≤ lane ∨ s.laneState port lane ≠ .training ∨ !s.laneAllowed port lane then s
  else if isAport port then (s.laneUp port lane).agentTrained (port - 0x40) cls
  else if (pos, num) ≠ s.farLane port lane then (s.setLane port lane .held).linkRecord port lane 4 .stateConflict
  else s.laneUp port lane

/-- LANE_RETRAIN_DONE (R32, R46): a retraining lane comes back, if what the far end announces is still what R29 and R30 predict; an A-port
whose agent has never trained has none to retrain. -/
def State.laneRetrainDone (s : State) (port lane pos num : Nat) : State :=
  if s.portWidth port ≤ lane ∨ s.laneState port lane ≠ .training ∨ !s.laneAllowed port lane then s
  else if isAport port then (if s.fld F.FAB_PORT_STATUS_CLASS port = 0 then s else s.laneUp port lane)
  else if (pos, num) ≠ s.farLane port lane then (s.setLane port lane .held).linkRecord port lane 4 .stateConflict
  else s.laneUp port lane

/-- An A-port that has lost its last lane: its agent is expelled (R287). -/
def State.aportLost (s : State) (port : Nat) : State :=
  if isAport port && !s.portUp port then s.expelAport (port - 0x40) false (fun s => s.holdPort port) else s

/-- LANE_DOWN (R255): a lane is taken down and retrains. -/
def State.laneLost (s : State) (port lane : Nat) : State :=
  if s.laneState port lane ≠ .up then s else (s.laneDown port lane).aportLost port

/-! ### Management accesses of other members (R41) -/

/-- The end of a remote window access that failed: reported as R41 says. -/
def State.windowFailed (s : State) (ch : ChanId) (off : Nat) (st : Status) : State := s.refuse ch off st 0x0D

/-- MGMT_ACCESS_TIMEOUT (R41): a remote management access, named by its tag, has had no response within the management timeout. -/
def State.mgmtAccessTimeout (s : State) (tag : Nat) : State :=
  match (s.fab.reqs ++ s.fab.waiting).find? (fun r => r.pkt.tag == tag && (match r.waiter with | .window .. => true | _ => false)) with
  | some ⟨p, .window ch off id, issued, _, _, _⟩ =>
    let s := s.reach (issued + s.dom.mgmtUs * nsPerUs)
    let s : State := { s with fab.reqs := s.fab.reqs.filter (fun q => q.pkt.tag != tag), fab.waiting := s.fab.waiting.filter (fun q => q.pkt.tag != tag) }
    (s.windowFailed ch off .timeout).xferAnswer id off p { p with op := p.op + 0x80, status := Status.timeout.code }
  | _ => s

end Sys2Proof.Machine
end

