-- ==== Sys2Proof/Machine/Links.lean ====
section
/-! DEFINITION. Links of the ports: link frames with their acknowledgements and credits, port commands, the laser interlock, link keys, and what a
fence asks of an owner or a relay (spec/08 R251 to R259, R263; spec/16 R432, R433; spec/18 R464, R465). -/

namespace Sys2Proof.Machine

/-! ### Link frames (R251, R253, R254, R255, R263) -/

/-- Whether link sequence number `a` is at or before `b`, modulo 4,096. -/
def seqLe (a b : Nat) : Bool := decide ((b + 4096 - a % 4096) % 4096 < 2048)

/-- Corrected code words, shown in units of 2^20. -/
def State.countCorrected (s : State) (port n : Nat) : State :=
  let l := s.link port
  let (whole, rest) := ((l.corrected + n) / 2 ^ 20, (l.corrected + n) % 2 ^ 20)
  (s.setLink port { l with corrected := rest }).count F.FAB_PORT_ERR_CORRECTED whole port

/-- A lane is held down for failing authentication (R263). -/
def State.laneDistrusted (s : State) (port lane : Nat) : State :=
  ((s.laneOut port lane .held).linkRecord port lane 4 .authFail).aportLost port

/-- A frame arrives damaged: a go-back retry is requested; the eighth in a row for one frame takes the lane down, the sixteenth failing tag
of a lane within 1 s holds it down. -/
def State.frameBad (s : State) (port lane fault : Nat) : State :=
  let s := s.count F.FAB_PORT_ERR_RETRIES 1 port
  let s := if fault = 1 then s.count F.FAB_PORT_ERR_UNCORRECTED 1 port else s
  let l := s.link port
  let fails := if fault = 2 then (l.gcmFails.filter (fun f => decide (s.now < f.2 + 1000 * nsPerMs))) ++ [(lane, s.now)] else l.gcmFails
  let s := if fault = 2 then s.count F.FAB_PORT_ERR_GCM_FAIL 1 port else s
  let s := s.setLink port { l with rxRetries := l.rxRetries + 1, gcmFails := fails }
  if 16 ≤ (fails.filter (fun f => f.1 == lane)).length then
    (s.setLink port { s.link port with gcmFails := fails.filter (fun f => f.1 != lane) }).laneDistrusted port lane
  else if 8 ≤ l.rxRetries + 1 then (s.setLink port { s.link port with rxRetries := 0 }).laneLost port lane
  else s

/-- The far end asks for a go-back retry: every frame from that one on is sent again; the eighth request in a row for the same frame takes the
lane down. -/
def State.goBack (s : State) (port lane from_ : Nat) : State :=
  let l := s.link port
  let again := l.retryBuf.filter (fun f => seqLe from_ f.1)
  let same := match l.retryBuf.head? with | some f => f.1 == from_ % 4096 | none => false
  let n := if same then l.sameRetries + 1 else 1
  let s := s.setLink port { l with sameRetries := n }
  let s : State := { s with sws.sent := s.sws.sent ++ again.map (fun f => (port, f.2, 0)) }
  if 8 ≤ n then (s.setLink port { s.link port with sameRetries := 0 }).laneLost port lane else s

/-- PACKET_FORWARD with the link's share (R232, R254): a packet whose CRC fails on its own link asks that link for a go-back retry; one that an
upstream switch core stomped does not. -/
def State.packetArrives (s : State) (ingress lane : Nat) (p : Packet) (crc stomp fault : Nat) : State :=
  let t := s.packetForward ingress lane p crc stomp fault
  if stomp = 0 ∧ fault = 0 ∧ crc ≠ ({ p with vc := p.vc % 8 } : Packet).crc then t.frameBad ingress lane 3 else t

/-- LINK_FRAME (R254): a frame arrives on a lane of a port. -/
def State.linkFrame (s : State) (port lane : Nat) (f : Frame) : State :=
  if s.laneState port lane ≠ .up then s
  else
    let s := s.countCorrected port f.corrected
    if f.fault ≠ 0 then s.frameBad port lane f.fault
    else if f.seq % 4096 ≠ (s.link port).rxSeq then s
    else
      let l := s.link port
      let kept := match f.ack with | some a => l.retryBuf.filter (fun q => !seqLe q.1 a) | none => l.retryBuf
      let moved : Bool := kept.length != l.retryBuf.length
      let credits := f.credits.foldl (fun (t : Tbl Nat) c => t.put c.1 (t.getD c.1 0 + c.2)) l.credits
      let s := s.setLink port { l with rxSeq := (l.rxSeq + 1) % 4096, rxRetries := 0, retryBuf := kept, credits := credits,
                                       sameRetries := if moved then 0 else l.sameRetries }
      match f.retryFrom with
      | some r => s.goBack port lane r
      | none => s

/-! ### Port commands (R255) -/

def offPortCmd := 0xC0218

/-- The port a seat has selected. -/
def State.selPort (s : State) (x : SeatId) : Nat := s.fld F.FAB_PORT_SEL_PORT x.idx

/-- A lane command of a seat: a lane at or beyond the width is refused with `BOUNDS`. -/
def State.portCmd (s : State) (x : SeatId) (entry lane : Nat) (f : Nat → State) : State :=
  let port := s.selPort x
  if s.portWidth port ≤ lane then s.seatErr x entry offPortCmd .bounds else f port

/-- Whether a lane may train: LSR_EN is high, and the lane of an A-port belongs to a slice (R464, R465). -/
def State.mayTrain (s : State) (port : Nat) : Bool :=
  s.fld F.TST_PINS_LSR_EN == 1 && (!isAport port || (s.sliceOfAport (port - 0x40)).isSome)

/-- PORT_RETRAIN: RETRAIN of a held lane is refused. -/
def State.portRetrain (s : State) (x : SeatId) (entry lane : Nat) : State :=
  s.portCmd x entry lane (fun port =>
    if s.laneState port lane = .held then s.seatErr x entry offPortCmd .stateConflict
    else if s.laneState port lane = .up then s.laneLost port lane
    else if s.mayTrain port then s.setLane port lane .training else s)

/-- PORT_HOLD_DOWN. -/
def State.portHoldDown (s : State) (x : SeatId) (entry lane : Nat) : State :=
  s.portCmd x entry lane (fun port => (s.laneOut port lane .held).aportLost port)

/-- PORT_RELEASE: RELEASE of a lane that is not held is refused. -/
def State.portRelease (s : State) (x : SeatId) (entry lane : Nat) : State :=
  s.portCmd x entry lane (fun port =>
    if s.laneState port lane ≠ .held then s.seatErr x entry offPortCmd .stateConflict
    else s.setLane port lane (if s.mayTrain port then .training else .down))

/-! ### The laser interlock (R465) -/

/-- Every lane that is not held goes down. -/
def State.linksDark (s : State) : State :=
  s.ports.foldl (fun s port => ((List.range (s.portWidth port)).foldl (fun s k =>
    if s.laneState port k = .held then s else s.laneOut port k .down) s).aportLost port) s

/-- LASER_INTERLOCK_DROP: LSR_EN falls; every lane goes down and stays down. -/
def State.laserDrop (s : State) : State :=
  if s.fld F.TST_PINS_LSR_EN = 0 then s
  else
    (((s.setF F.TST_PINS_LSR_EN 0).count F.TST_PINS_LSR_DROPS).logErr { unit := .tst, status := .stateConflict }).linksDark

/-- LASER_INTERLOCK_RISE: the lanes train again. -/
def State.laserRise (s : State) : State :=
  if s.fld F.TST_PINS_LSR_EN = 1 then s
  else
    let s := s.setF F.TST_PINS_LSR_EN 1
    if s.fld F.SIL_FULL_SERIAL_SERIAL = 0 then s
    else (if s.ringAwaited then s.partnerPorts else s.ports).foldl State.trainPort s

/-! ### Link keys (R426, R432, R433) -/

/-- Whether an agent's credential (claim bytes 0 to 5,420) names these keys under an agent authority, for any domain or this one. -/
def State.credentialOk (s : State) (m : KeyMsg) : Bool :=
  let c := m.credential
  c.length == 5421 && allZero (slice c 0 8) && field c 8 8 != 0 && allZero (slice c 24 40)
    && (field c 16 8 == 0 || field c 16 8 == s.fld F.SIL_DOMAIN_ID_DOMAIN_ID)
    && slice c 64 32 == m.ed && slice c 96 1952 == m.ml
    && s.bothVerify anchorAgent (c.take 2048) (slice c 2048 64) (slice c 2112 3309)

/-- The checks of an exchange on a port. -/
def State.keyMsgOk (s : State) (port : Nat) (m : KeyMsg) : Bool :=
  let d := Config.sha384 m.transcript
  Config.ed25519Verify m.ed d m.sigEd && Config.mldsaVerify m.ml d m.sigMl
    && (if isAport port then s.credentialOk m
        else s.dom.identities.getD (s.fld F.FAB_PORT_STATUS_PEER port) [] == Config.sha384 (m.ed ++ m.ml))

/-- New link keys are in force. -/
def State.linkKeyed (s : State) (port : Nat) : State := s.setLink port { s.link port with keyed := s.now + 1, frames := 0 }

/-- An exchange is refused: the port's lanes are held down. -/
def State.exchangeFailed (s : State) (port : Nat) : State :=
  (((s.count F.SEC_LINK_AUTH_FAIL).holdPort port).linkRecord port 0 4 .authFail).aportLost port

/-- LINK_KEY_EXCHANGE (R432): the exchange of a trained port completes, or the port is held down. -/
def State.linkKeyExchange (s : State) (port : Nat) (m : KeyMsg) : State :=
  if !s.portUp port then s
  else if s.keyMsgOk port m then (s.count F.SEC_LINK_EXCHANGES).linkKeyed port
  else s.exchangeFailed port

/-- LINK_REKEY (R433): after 2^32 frames under a key, or when its 60 s are over, a new exchange replaces it. -/
def State.linkRekey (s : State) (port : Nat) (m : KeyMsg) : State :=
  let l := s.link port
  if !s.portUp port ∨ l.keyed = 0 then s
  else
    let s := if 2 ^ 32 ≤ l.frames then s else s.reach (l.keyed - 1 + 60000 * nsPerMs)
    if s.keyMsgOk port m then (s.count F.SEC_LINK_REKEYS).linkKeyed port else s.exchangeFailed port

/-! ### Drain markers (R258, R259) -/

/-- Whether a packet of a source on a VC that came before a marker is not yet applied here. -/
def State.markBlocked (s : State) (p : Packet) : Bool :=
  let before := (s.sws.delivered.takeWhile (fun q => q.2 != p))
  before.any (fun q => q.2.src == p.src && q.2.vc == p.vc && q.2.isRequest)
    || s.home.events.any (fun e => e.pkt.src == p.src && e.pkt.vc == p.vc)

/-- FENCE_MARK at an owner: answered once every earlier packet of that source and VC is applied. -/
def State.fenceMark (s : State) (p : Packet) : State :=
  if p.op ≠ opFENCE_MARK ∨ s.markBlocked p then s else (s.take p).unlessFailed p (fun s => s.respond p .done)

/-- RELAY_DRAIN at a relay: answered once every packet of the source to the number in AUX has gone on. -/
def State.relayDrain (s : State) (p : Packet) : State :=
  if p.op ≠ opRELAY_DRAIN ∨ (s.sws.voq ++ s.sws.entering).any (fun q => q.pkt.src == p.src && q.pkt.dst == p.aux % 64) then s
  else (s.take p).unlessFailed p (fun s => s.respond p .done)

end Sys2Proof.Machine
end

