-- ==== Sys2Proof/Machine/Ras.lean ====
section
/-! DEFINITION. Sentinels, engine hangs and quarantine, resets of one context, core or port, and the error log's clearing (spec/15:
R396 to R416). -/

namespace Sys2Proof.Machine

/-! ### Sentinels (R396, R397) -/

/-- An engine of a core that its core's state lets run a sentinel: IDLE, or between two commands. -/
def CoreState.serves (c : CoreState) : Bool := c == .idle || c == .kernel || c == .attend

/-- SENTINEL_DONE: the due sentinel of engine `e` has run and matched its reference digest or not. A first mismatch is followed by one more
run; a second faults the core. -/
def State.sentinelDone (s : State) (e : Nat) (pass : Bool) : State :=
  let n := e / 2
  if ¬(s.ras.sentinelDue.contains e ∧ (s.core n).state.serves) then s
  else
    let second := s.ras.sentinelRerun.contains e
    let done : State := { s with ras.sentinelDue := s.ras.sentinelDue.filter (· != e), ras.sentinelRerun := s.ras.sentinelRerun.filter (· != e) }
    let last := s.fld (F.RAS_ENGINE_LAST_PASS.at e)
    if pass then
      let c := s.fld F.RAS_STEP_COUNT
      let s := (done.setF (F.RAS_ENGINE_LAST_PASS.at e) (c - (c - e) % 32)).setF (F.RAS_ENGINE_STATE.at e) 1
      let s := s.count F.RAS_SENTINEL_PASSED
      if second then (s.count F.RAS_SENTINEL_TRANSIENT).logErr { unit := .qnc, status := .done, corrected := true, index := e } else s
    else if !second then { s with ras.sentinelRerun := s.ras.sentinelRerun ++ [e] }
    else
      let s := (done.count F.RAS_SENTINEL_PERSISTENT).setF (F.RAS_ENGINE_STATE.at e) 2
      (s.logErr { unit := .qnc, status := .internal, index := e, syndrome := last }).faultCore n cPersistent

/-! ### Orders of reset (R411, R416) -/

/-- Whether reset `a` is of equal or wider scope than `b` and covers its target. -/
def ResetRun.covers (a b : ResetRun) : Bool :=
  if 4 ≤ a.level then decide (b.level ≤ a.level)
  else if a.level = 3 then
    (b.level == 3 && a.target == b.target) || (b.level == 1 && b.target + 1 == a.target) || (b.level == 2 && a.target == 23)
  else a.level == b.level && a.target == b.target

/-- Show whether a reset that a seat ordered runs. -/
def State.showResets (s : State) : State := s.setF F.RAS_RESET_STATUS_RUNNING (if s.ras.running.any (fun r => r.seat) then 1 else 0)

/-- Post the outcome of a reset. -/
def State.resetOutcome (s : State) (st : Status) (r : ResetRun) : State :=
  (((s.setF F.RAS_RESET_STATUS_STATUS st.code).setF F.RAS_RESET_STATUS_LEVEL r.level).setF F.RAS_RESET_STATUS_TARGET r.target).bumpSeq
    F.RAS_RESET_STATUS_SEQ

/-- A reset begins: narrower ones that it covers are absorbed, their outcome is `STATE_CONFLICT`. -/
def State.resetBegin (s : State) (r : ResetRun) : State :=
  let gone := s.ras.running.filter r.covers
  let s : State := { s with ras.running := s.ras.running.filter (fun q => !r.covers q) ++ [r] }
  (gone.foldl (fun s q => s.resetOutcome .stateConflict q) s).showResets

/-- A seat orders a reset: refused while one of equal or wider scope over the target runs. -/
def State.resetOrder (s : State) (x : SeatId) (entry off : Nat) (r : ResetRun) (f : State → State) : State :=
  if s.ras.running.any (fun q => q.covers r) then s.seatErr x entry off .stateConflict else f (s.resetBegin r)

/-! ### Hangs and quarantine (R407 to R410) -/

/-- The work an engine of a core runs. -/
def State.onEngine (s : State) (n e : Nat) : Option Suspect :=
  let k := s.core n
  match k.attend with
  | some (tag, sq, h, c) => if k.state = .attend then some ⟨match s.workOf tag with | some w => w.ctx | none => 0, tag, sq + 2 ^ 16 * h + 2 ^ 24 * c, true⟩ else none
  | none => if k.state = .kernel ∧ (!(k.queueOf e).isEmpty ∨ (e = 2 ∧ k.run.isSome)) then some (s.kernelSuspect n) else none

/-- The suspects of a hang: the requests whose commands ran on the engine in the CMD_MS before its last progress, the eight most recent,
oldest first, the hung one last. -/
def State.suspectsOf (s : State) (n e last : Nat) (hung : Suspect) : List Suspect :=
  let from_ := last - s.fld F.RAS_WDOG_CMD_MS * nsPerMs
  let ran := s.ras.history.filter (fun h => decide (h.2.1 = 3 * n + e ∧ from_ ≤ h.1 ∧ h.1 ≤ last) && h.2.2 != hung)
  let l := (sortBy (fun a b => decide (a.1 < b.1)) ran).map (fun h => h.2.2) ++ [hung]
  l.drop (l.length - 8)

/-- A stopped unit of `ATTEND` is withheld while a quarantine decides on its context. -/
def State.withhold (s : State) (x : Suspect) : State :=
  match x.attend, s.namedUnit x.tag x.unit with
  | true, some u => { s.modChunk u.tag u.seq u.head u.chunk (fun u => { u with stage := 5 }) with ras.stopped := s.ras.stopped ++ [x] }
  | _, _ => s

/-- Stopped units run again on any core of the slice; that of a guilty context fails with `TIMEOUT` (R410). -/
def State.releaseStopped (s : State) (guilty : Option Nat) : State :=
  let l := s.ras.stopped
  l.foldl (fun s x =>
    match s.namedUnit x.tag x.unit with
    | none => s
    | some u => if u.stage ≠ 5 then s else if guilty = some x.ctx then s.unitFails u .timeout 0
      else s.modChunk u.tag u.seq u.head u.chunk (fun u => { u with stage := 0 })) { s with ras.stopped := [] }

/-- Whether a quarantine runs or awaits the reset of its core. -/
def State.quarantined (s : State) : Bool := s.fld F.RAS_QUAR_STATE == 1 || s.ras.hungCore.isSome

/-- Whether a quarantine concerns a core. -/
def State.quarCore (s : State) (n : Nat) : Bool :=
  s.ras.hungCore == some n || (s.fld F.RAS_QUAR_STATE == 1 && s.fld F.RAS_QUAR_CORE == n)

/-- A quarantine ends. -/
def State.quarEnd (s : State) (guilty : Option Nat) : State :=
  let s := ({ s with ras.suspects := [], ras.hungCore := none } : State).releaseStopped guilty
  (s.setF F.RAS_QUAR_STATE 0).setF F.RAS_QUAR_LEFT 0

/-- A reset of level 3 or above that covers a core ends its quarantine. -/
def State.quarAbandon (s : State) (n : Nat) : State := if s.quarCore n then s.quarEnd none else s

/-- ENGINE_WATCHDOG (R407): engine `e` of a core (0 matrix, 1 vector, 2 DMA) has made no progress since `last`. While a quarantine runs
another hang only resets its core. -/
def State.engineWatchdog (s : State) (n e last : Nat) : State :=
  if n ≥ 16 ∨ 3 ≤ e then s
  else match s.onEngine n e with
    | none => s
    | some hung =>
      let s := s.reach (last + s.fld F.RAS_WDOG_CMD_MS * nsPerMs)
      let suspects := s.suspectsOf n e last hung
      let busy := s.quarantined
      let attend := hung.attend
      let s := (s.count F.RAS_HANG_HANGS).logErr { unit := .qnc, status := .timeout, index := n, ctx := some hung.ctx }
      let s := if attend then s.noteTrap n cWatchdog 0 else s
      let s := (s.stopCore n cWatchdog .resetting).resetBegin ⟨1, n, false⟩
      if busy then s
      else ({ s with ras.suspects := suspects, ras.hungCore := some n } : State).withhold hung

/-- The quarantine of a core begins: its reset is complete and it has passed its test (R409). -/
def State.quarBegin (s : State) (n : Nat) : State :=
  if s.ras.hungCore ≠ some n then s
  else
    let s : State := { s with ras.hungCore := none }
    ((s.setF F.RAS_QUAR_CORE n).setF F.RAS_QUAR_LEFT s.ras.suspects.length).setF F.RAS_QUAR_STATE 1

/-- QUARANTINE_RUN_DONE (R409, R410): the run of the suspect in turn completes or hangs. The run itself changes no memory outside the
quarantine core. -/
def State.quarantineRunDone (s : State) (hung : Bool) : State :=
  let n := s.fld F.RAS_QUAR_CORE
  if s.fld F.RAS_QUAR_STATE ≠ 1 ∨ (s.core n).state ≠ .idle then s
  else match s.ras.suspects with
    | [] => s
    | x :: rest =>
      if hung then
        let s := (s.logErr { unit := .ras, status := .timeout, ctx := some x.ctx, index := n }).count F.RAS_HANG_GUILTY
        let s := (s.setF F.RAS_QUAR_GUILTY_VALID 1).setF F.RAS_QUAR_GUILTY_CTX x.ctx
        (((s.quarEnd (some x.ctx)).setCore n { s.core n with state := .resetting })).resetBegin ⟨1, n, false⟩
      else if !rest.isEmpty then ({ s with ras.suspects := rest } : State).setF F.RAS_QUAR_LEFT rest.length
      else
        let s := (s.logErr { unit := .ras, status := .timeout, index := n }).count F.RAS_HANG_UNATTRIBUTED
        let s := (s.setF F.RAS_QUAR_GUILTY_VALID 0).quarEnd none
        let again : Bool := match s.ras.lastUnattributed with
          | some (m, t) => decide (m = n ∧ s.now < t + 10000 * nsPerMs)
          | none => false
        let s : State := { s with ras.lastUnattributed := some (n, s.now) }
        if again then (s.logErr { unit := .qnc, status := .internal, index := n }).faultCore n cPersistent else s

/-! ### Resets of a context, a core, a port (R411, R413) -/

def offResetCmd := 0x180200

/-- RESET_L0: requests of the context are held while its ETC entries, poison latch and fault fields go. -/
def State.resetL0 (s : State) (x : SeatId) (entry c : Nat) : State :=
  if 8192 ≤ c then s.seatErr x entry offResetCmd .bounds
  else s.resetOrder x entry offResetCmd ⟨0, c, true⟩ (fun s => { s.resetContext c with xlt.heldCtx := s.xlt.heldCtx ++ [c] })

/-- What L1, or L3 of its island, does to a core: what runs on it stops; a core that is OFF or waking has nothing to stop. -/
def State.resetCore (s : State) (n : Nat) : State :=
  let k := s.core n
  if k.state.serves then s.stopCore n cReset .resetting else s

/-- RESET_L1. -/
def State.resetL1 (s : State) (x : SeatId) (entry n : Nat) : State :=
  if 16 ≤ n then s.seatErr x entry offResetCmd .bounds
  else s.resetOrder x entry offResetCmd ⟨1, n, true⟩ (fun s => s.resetCore n)

/-- RESET_L2: every lane of the port retrains. -/
def State.resetL2 (s : State) (x : SeatId) (entry port : Nat) : State :=
  if 0x60 ≤ port then s.seatErr x entry offResetCmd .bounds
  else s.resetOrder x entry offResetCmd ⟨2, port, true⟩ (fun s =>
    (List.range (s.portWidth port)).foldl (fun s k => if s.laneState port k = .up then s.laneLost port k
      else if s.laneState port k = .down ∧ s.mayTrain port then s.setLane port k .training else s) s)

/-- A core's reset is complete (R217, R409): its tile store is undefined and it is IDLE if it passed its test, else FAULTED; a quarantine
that awaited it begins. -/
def State.coreResetDone (s : State) (n : Nat) (pass : Bool) : State :=
  let k := s.core n
  let s := if k.state = .off ∨ k.state = .waking then s
    else if pass then (s.loseTile n).setCore n { (s.loseTile n).core n with state := .idle, since := s.now }
    else ((s.loseTile n).faultCore n cPersistent)
  if pass then s.quarBegin n else s.quarAbandon n

/-- The end of a reset of a context, core or port. -/
def State.shallowResetDone (s : State) (r : ResetRun) (pass : Bool) : State :=
  if r.level = 0 then { s with xlt.heldCtx := s.xlt.heldCtx.filter (· != r.target) }
  else if r.level = 1 then s.coreResetDone r.target pass
  else s

/-! ### The error log (R402) -/

def offLogClear := 0x180060

/-- LOG_CLEAR: every record before UPTO is discarded; a value outside TAIL to HEAD is refused. -/
def State.logClear (s : State) (x : SeatId) (entry upto : Nat) : State :=
  let tail := s.fld F.RAS_LOG_PTR_TAIL
  let n := diff32 upto tail
  if diff32 (s.fld F.RAS_LOG_PTR_HEAD) tail < n then s.seatErr x entry offLogClear .bounds
  else
    let s : State := { s with ras.log := s.ras.log.filter (fun e => decide (n ≤ diff32 e.1 tail)) }
    (s.setF F.RAS_LOG_PTR_TAIL (tail + n)).subF F.RAS_LOG_STAT_HELD n

end Sys2Proof.Machine
end

