-- ==== Sys2Proof/Machine/Admit.lean ====
section
/-! DEFINITION. Admitting a spare (spec/15: R418 to R421; R44).  The command rows run at the custodian, at the spare and at the other
members; how the custodian tells them of the stages of R419 the spec does not say (log entry 46). -/

namespace Sys2Proof.Machine

def offAdmitCmd := 0x180300

def State.admitting (s : State) : Nat := s.fld F.RAS_ADMIT_STATUS_STATE
def State.admitFor (s : State) : Nat := s.fld F.RAS_ADMIT_STATUS_FAILED_DEV
def State.admitSpare (s : State) : Nat := s.fld F.RAS_ADMIT_STATUS_SPARE_DEV

/-- An admission may begin: none has, or the last one is over. -/
def State.admitIdle (s : State) : Bool := s.admitting == adIDLE || s.admitting == adDONE || s.admitting == adABANDONED

/-- An admission is in a state from which it is still abandoned. -/
def State.admitOpen (s : State) : Bool := s.admitting == adTESTING || s.admitting == adLOADING || s.admitting == adREADY

/-- ADMIT_START (R418): only the custodian of a FAILED number admits a SPARE for it, one at a time. -/
def State.admitStart (s : State) (x : SeatId) (entry d sp : Nat) : State :=
  if !s.fldBit F.JNL_CUSTODY_DEVICES d then s.seatErr x entry offAdmitCmd .access
  else if !s.admitIdle ∨ s.memberState d ≠ .failed ∨ s.memberState sp ≠ .spare ∨ !(s.membersIn .admitting).isEmpty then
    s.seatErr x entry offAdmitCmd .stateConflict
  else
    let s := (s.setF F.RAS_ADMIT_CMD_FAILED_DEV d).setF F.RAS_ADMIT_CMD_SPARE_DEV sp
    (((s.setF F.RAS_ADMIT_STATUS_FAILED_DEV d).setF F.RAS_ADMIT_STATUS_SPARE_DEV sp).setF F.RAS_ADMIT_STATUS_STATUS 0).admitState adTESTING

/-- The spare returns to SPARE; a member whose mirror it was has none (R25, R108). -/
def State.spareDismissed (s : State) (sp : Nat) : State :=
  let s := if s.memberState sp = .admitting then s.setMember sp .spare .done else s
  if s.fld F.JNL_STATE_MIRROR_VALID = 1 ∧ s.fld F.JNL_STATE_MIRROR_DEV = sp then s.mirrorGone
  else if s.fld F.JNL_STATE_MIRROR_DEV = sp ∧ s.copying then s.mirrorGone else s

/-- The admission is abandoned at the custodian (R419). -/
def State.admitAbandon (s : State) (st : Status) : State :=
  let s := ((s.spareDismissed s.admitSpare).setF F.RAS_ADMIT_STATUS_STATUS st.code).admitState adABANDONED
  s.logErr { unit := .ras, status := st }

/-- ADMIT_ABORT. -/
def State.admitAbort (s : State) (x : SeatId) (entry : Nat) : State :=
  if s.admitOpen then s.admitAbandon .stateConflict else s.seatErr x entry offAdmitCmd .stateConflict

/-- Whether two numbers have reported equal memory layouts: T1 stacks, DDR5 channels and C, flash channels and D_die. -/
def State.layoutsEqual (s : State) (d sp : Nat) : Bool :=
  match s.dom.peers.get? d, s.dom.peers.get? sp with
  | some a, some b => a.t1Stacks == b.t1Stacks && a.ddrMask == b.ddrMask && a.ddrGib == b.ddrGib && a.flashMask == b.flashMask && a.dies == b.dies
  | _, _ => false

/-- A member takes the admitting spare as its mirror target when its own partner is the number it is admitted for (R108). -/
def State.mirrorSpare (s : State) (d sp : Nat) : State :=
  if s.partner s.devnum = d ∧ s.memberState s.devnum = .active then s.mirrorTaken sp else s

/-- This spare's part in an admission that is given up: what it had loaded goes. -/
def State.loadAbandoned (s : State) (d : Nat) : State :=
  let s : State := { s with jnl.ring := [], jnl.toEffect := [], xlt.claims := s.xlt.claims.filter (fun k => k.dev == s.devnum) }
  ((s.setF F.TIER_REBUILD_STATUS_STATE rbABANDONED).setF F.TIER_REBUILD_STATUS_FOR_DEV d).setMember s.devnum .spare .done

/-- ADMIT_TEST_DONE (R419): the test of the spare for a number has ended. At the custodian the layouts are compared and loading begins or
the admission is abandoned; the spare and the other members follow what the custodian tells them, where `pass` false ends it. -/
def State.admitTestDone (s : State) (d sp : Nat) (pass : Bool) : State :=
  if s.admitting = adTESTING ∧ s.admitFor = d ∧ s.admitSpare = sp then
    if !s.layoutsEqual d sp then s.admitAbandon .stateConflict
    else if !pass then s.admitAbandon .internal
    else ((s.setMember sp .admitting .done).mirrorSpare d sp).admitState adLOADING
  else if s.isSelf sp then
    if pass then (if s.memberState sp = .spare then (s.setMember sp .admitting .done).loadBegin d else s)
    else if s.memberState sp = .admitting then s.loadAbandoned d else s
  else if s.fldBit F.JNL_CUSTODY_DEVICES d then s
  else if pass then (if s.memberState sp = .spare ∧ s.memberState d = .failed then (s.setMember sp .admitting .done).mirrorSpare d sp else s)
  else s.spareDismissed sp

/-- ADMIT_LOAD_DONE: stages 1 to 3 are complete. -/
def State.admitLoadDone (s : State) : State := if s.admitting = adLOADING then s.admitState adREADY else s

/-- ADMIT_SPARE_TIMEOUT: the spare has been silent for the management timeout. -/
def State.admitSpareTimeout (s : State) : State :=
  if !s.admitOpen then s
  else
    let s := match s.dom.heard.get? s.admitSpare with | some h => s.reach (h.at_ + s.dom.mgmtUs * nsPerUs) | none => s
    s.admitAbandon .timeout

/-! ### The swap (R420, R44) -/

/-- The write that tells a member of a rebinding. -/
def State.rebindPacket (s : State) (m d sp : Nat) : Packet :=
  { op := opWINDOW_WRITE, vc := vcMGMT, src := s.devnum, dst := m, size := 7, sectors := 1, addr := mkDga m 3 0x180310, aux := 2 ^ 31,
    payload := zeros 22 ++ natLe 1 d ++ natLe 1 sp ++ zeros 40 }

def Packet.rebindFailed (p : Packet) : Nat := field p.payload 22 1 % 64
def Packet.rebindFormer (p : Packet) : Nat := field p.payload 23 1 % 64

/-- Whether a packet is a custodian's write of `RAS_REBIND`. -/
def Packet.isRebind (p : Packet) : Bool := p.op == opWINDOW_WRITE && bitAt p.aux 31 && p.addr % 2 ^ 58 == 3 * 2 ^ 56 + 0x180310

/-- Requests of this member to memory of a number that are still unanswered. -/
def State.openTo (s : State) (d : Nat) : Bool := s.fab.reqs.any (fun r => r.pkt.onMemory && dgaDev r.pkt.addr == d)

/-- The admitted spare takes the failed number's composition and journal: its own tags and entries go on above those it loaded, its
journal partner is its mirror, and the ACTIVE members forget the failed module's transaction tags (R248, R421). -/
def State.becomeMember (s : State) : State :=
  let s := s.takeComposition s.sil.full
  let s := ((ringPartials s.jnl.ring).filter (fun q => q.2.1 == s.fld F.SIL_FULL_SERIAL_SERIAL)).foldl (fun s q => s.applyPartial q.2.2) s
  let top := s.jnl.ring.vals.foldl (fun n e => max n (max e.tag (e.tagBase + e.tagCount))) 0
  let s : State := { s.noteRuns with fab.jnlTag := top % jnlTagLast + 1, dom.activeAt := s.now }
  let s := (s.membersIn .active).foldl (fun s m => if s.isSelf m then s else s.issue { op := opTAG_RESET, vc := vcMGMT, dst := m } .none) s
  let s := (s.admitted.setF F.JNL_STATE_NO_MIRROR 1).setF F.JNL_CUSTODY_DEVICES (2 ^ s.devnum)
  if s.memberState (s.partner s.devnum) = .active then s.mirrorTaken (s.partner s.devnum) else s

/-- A rebinding comes into force on this member: numbers are exchanged, the spare is ACTIVE under the failed number, its former number
RETIRED; requests held for the number go to the new binding. -/
def State.rebindNow (s : State) (p : Packet) : State :=
  let d := p.rebindFailed
  let sp := p.rebindFormer
  let mine := s.isSelf sp
  let s : State := { s with ras.rebindHold := none }
  let s := ((s.exchangeNumbers d sp).setMember d .active .done).setMember sp .retired .done
  let s := ((s.setF F.RAS_REBIND_FAILED_DEV d).setF F.RAS_REBIND_FORMER_DEV sp).count F.RAS_REBIND_COUNT
  let s := s.extendMr 6 1 (Config.rebindEvent d sp)
  let shift (t : Tbl Heard) : Tbl Heard := match t.get? sp with | some h => (t.del sp).put d h | none => t.del d
  let shiftP (t : Tbl PeerInfo) : Tbl PeerInfo := match t.get? sp with | some h => (t.del sp).put d h | none => t.del d
  let move (r : Request) : Request := if r.pkt.dst = sp ∨ (r.pkt.onMemory ∧ dgaDev r.pkt.addr = d) then { r with pkt := { r.pkt with dst := d } } else r
  let s : State := { s with dom.rebinds := s.dom.rebinds ++ [(d, sp)], dom.heard := shift s.dom.heard, dom.peers := shiftP s.dom.peers,
                            fab.waiting := s.fab.waiting.map move,
                            fab.reqs := s.fab.reqs.map (fun r => if r.pkt.dst = sp then { r with pkt := { r.pkt with dst := d } } else r) }
  let s := if s.fld F.JNL_STATE_MIRROR_DEV = sp then s.setF F.JNL_STATE_MIRROR_DEV d else s
  let s := if mine then s.becomeMember else s
  if p.src = s.devnum ∧ p.dst = s.devnum then { s with ras.rebindAcks := setBit s.ras.rebindAcks s.devnum false } else s.respond p .done

/-- Apply a rebinding received once no request to the number is unanswered. -/
def State.rebindSettle (s : State) : State :=
  match s.ras.rebindHold with
  | none => s
  | some p => if s.openTo p.rebindFailed then s else s.rebindNow p

/-- REBIND_APPLY (R420): new requests to the number are held from here on. One already applied is answered again. -/
def State.rebindApply (s : State) (p : Packet) : State :=
  let s := s.take p
  let d := p.rebindFailed
  if !p.isRebind then s
  else if s.dom.rebinds.contains (d, p.rebindFormer) then s.respond p .done
  else if s.memberState d ≠ .failed ∨ s.ras.rebindHold.isSome then s
  else ({ s with ras.rebindHold := some p } : State).rebindSettle

/-- The REBIND entry is mirrored: every ACTIVE member and the spare are told (R420). -/
def State.rebindEffect (s : State) (e : JEntry) : State :=
  if s.admitting ≠ adSWAPPING then s
  else
    let d := field e.body 0 2
    let sp := field e.body 2 2
    let others := (s.membersIn .active).filter (fun m => !s.isSelf m) ++ [sp]
    let s : State := { s with ras.rebindAcks := maskOf (s.devnum :: others) }
    let s := others.foldl (fun s m => s.issue (s.rebindPacket m d sp) (.rebind m)) s
    ({ s with ras.rebindHold := some (s.rebindPacket s.devnum d sp) } : State).rebindSettle

/-- A member has applied the rebinding. -/
def State.rebindAnswered (s : State) (m : Nat) : State := { s with ras.rebindAcks := setBit s.ras.rebindAcks m false }

/-- Every ACTIVE member has applied the rebinding: stage 4 runs (R419). -/
def State.admitSettle (s : State) : State :=
  if s.admitting = adSWAPPING ∧ s.ras.rebindAcks = 0 then s.admitState adREBUILDING else s

/-- REBUILD_STAGE_DONE as the custodian sees it: stage 4 ends the admission. -/
def State.admitStageDone (s : State) (stage d : Nat) : State :=
  if stage = 4 ∧ s.admitting = adREBUILDING ∧ s.admitFor = d then
    (s.setF F.RAS_ADMIT_STATUS_STATUS Status.done.code).admitState adDONE
  else s

end Sys2Proof.Machine
end

