-- ==== Sys2Proof/Machine/Security.lean ====
section
/-! DEFINITION. Attestation reports and partition data keys (spec/16: R431, R435 to R437). -/

namespace Sys2Proof.Machine

/-! ### Attestation reports (R431) -/

def offReportCmd := 0x1A0120

def State.report (s : State) : SeatId → List Byte
  | .a => s.sec.reportA | .b => s.sec.reportB

def State.setReport (s : State) (x : SeatId) (r : List Byte) : State :=
  match x with
  | .a => { s with sec.reportA := r }
  | .b => { s with sec.reportB := r }

/-- Bytes 0 to 575 of a seat's report. -/
def State.reportBody (s : State) (x : SeatId) : List Byte :=
  let flags := s.fld F.SEC_STATE_ENROLLED + 2 * s.fld F.SEC_EVLOG_PTR_OVERFLOW
  let nonce := (List.range 4).flatMap (fun k => natLe 8 (s.fld (F.SEC_REPORT_NONCE_NONCE.at k) x.idx))
  natLe 4 0x54524D44 ++ natLe 2 1 ++ zeros 2 ++ natLe 8 (s.fld F.SEC_FW_VERSION_VERSION) ++ natLe 8 s.domainTime
    ++ natLe 8 (s.fld F.SIL_FULL_SERIAL_SERIAL) ++ natLe 8 (s.fld F.SIL_APPLIED_SERIAL_SERIAL) ++ natLe 8 (s.fld F.SIL_DOMAIN_ID_DOMAIN_ID)
    ++ natLe 1 s.position ++ natLe 1 s.devnum ++ natLe 1 (s.fld F.SEC_STATE_FW_SLOT) ++ natLe 1 flags ++ zeros 12 ++ nonce
    ++ padTo 48 s.ownIdentity ++ padTo 48 (Config.sha384 (Config.kemKey s.sec.helper)) ++ (List.range 8).flatMap (fun r => padTo 48 (s.mr r))

/-- REPORT_GENERATE: the report of the present state begins to be formed. -/
def State.reportGenerate (s : State) (x : SeatId) (entry : Nat) : State :=
  if s.sec.forming.contains x then s.seatErr x entry offReportCmd .stateConflict
  else if s.fld F.SEC_STATE_PUF ≠ 1 then s.seatErr x entry offReportCmd .authFail
  else ({ (s.setReport x (s.reportBody x)) with sec.forming := s.sec.forming ++ [x] } : State).setF F.SEC_REPORT_STATUS_BUSY 1 x.idx

/-- REPORT_READY: both signatures are made and the outcome is posted. -/
def State.reportReady (s : State) (x : SeatId) : State :=
  if !s.sec.forming.contains x then s
  else
    let body := s.report x
    let sig := padTo 64 (Config.ed25519Sign s.sec.helper body) ++ padTo 3328 (padTo 3309 (Config.mldsaSign s.sec.helper body))
    let s : State := { (s.setReport x (body ++ sig)) with sec.forming := s.sec.forming.filter (· != x) }
    ((s.setF F.SEC_REPORT_STATUS_BUSY 0 x.idx).setF F.SEC_REPORT_STATUS_STATUS Status.done.code x.idx).bumpSeq F.SEC_REPORT_STATUS_SEQ x.idx

/-! ### Partition keys (R435 to R437) -/

def offKeyCmd := 0x1A0208

/-- The 1,280 bytes of a seat's import record. -/
def State.importRecord (s : State) (x : SeatId) : List Byte :=
  let t := match x with | .a => s.sec.importA | .b => s.sec.importB
  (List.range 160).flatMap (fun i => natLe 8 (t.getD i 0))

def State.clearImport (s : State) : SeatId → State
  | .a => { s with sec.importA := [] }
  | .b => { s with sec.importB := [] }

/-- The key check value of a data key. -/
def kcvOf (key : List Byte) : Nat := field (Config.sha384 (BitVec.ofNat 8 0x4B :: key)) 0 8

/-- Post the outcome of a key command. -/
def State.keyOutcome (s : State) (x : SeatId) (part : Nat) (st : Status) : State :=
  ((s.setF F.SEC_KEY_STATUS_PARTITION part x.idx).setF F.SEC_KEY_STATUS_STATUS st.code x.idx).bumpSeq F.SEC_KEY_STATUS_SEQ x.idx

/-- Show how many keys are ACTIVE. -/
def State.showKeys (s : State) : State := s.setF F.SEC_KEY_COUNT_ACTIVE s.sec.keys.length

/-- Reserved fields of an import record. -/
def importReserved (r : List Byte) : Bool :=
  field r 0 2 ≥ 4096 || !allZero (slice r 2 6) || !allZero (slice r 16 48) || !allZero (slice r 1164 4) || !allZero (slice r 1248 32)

/-- The data key that an import record unwraps to for this member. -/
def State.unwrapKey (s : State) (r : List Byte) : Option (List Byte) :=
  if s.fld F.SEC_STATE_PUF ≠ 1 then none
  else match Config.kemDecaps s.sec.helper (slice r 64 1088) with
    | none => none
    | some z =>
      let info := ("KEYIMPORT".toList.map (fun c => BitVec.ofNat 8 c.toNat)) ++ s.ownIdentity
      Config.gcmOpen (Config.hkdf z info 32) (slice r 1152 12) (slice r 0 64) (slice r 1168 80)

/-- The status of an INSTALL, with the key it makes ACTIVE. -/
def State.keyCheck (s : State) (r : List Byte) : Status × Option (List Byte) :=
  let part := field r 0 2
  if importReserved r || (s.sil.comp.partitions.get? part).isNone then (.badDescriptor, none)
  else match s.unwrapKey r with
    | none => (.authFail, none)
    | some key =>
      if kcvOf key ≠ field r 8 8 then (.badDescriptor, none)
      else match s.sec.keys.get? part with
        | some e => if e.kcv = kcvOf key then (.done, none) else (.busy, none)
        | none => (.done, some key)

/-- The measured event of a change of the key table. -/
def keyEvent (part op kcv : Nat) : List Byte := Config.sha384 (natLe 2 part ++ natLe 1 op ++ natLe 8 kcv)

/-- KEY_INSTALL. -/
def State.keyInstall (s : State) (x : SeatId) : State :=
  let r := s.importRecord x
  let part := field r 0 2 % 4096
  let (st, key) := s.keyCheck r
  let s := match key with
    | some k => ({ s with sec.keys := s.sec.keys.put part ⟨k, kcvOf k⟩ } : State).showKeys.extendMr 4 4 (keyEvent part 1 (kcvOf k))
    | none => s
  (s.keyOutcome x part st).clearImport x

/-- Whether this member holds mirror positions of a partition: its partner's runs that are MIRRORED, by the slices of the full image in force. -/
def State.mirrorsPartition (s : State) (part : Nat) : Bool :=
  let o := partnerOfInv s.dom.members s.dom.spares s.devnum
  let slices := (imgComposition s.sil.comp s.sil.full (imgPosOf s.sil.full o)).slices
  s.sil.allRuns.any (fun e => e.1 == o && e.2.mirrored && (slices.get? e.2.slice).any (fun x => x.partition == part))

/-- Whether a partition holds a claim, an alias, a mirror position or an armed unit here. -/
def State.partitionHeld (s : State) (part : Nat) : Bool :=
  s.xlt.claims.any (fun k => k.partition == part) || s.tier.armedFor.any (fun a => a.2.2 == part)
    || s.mirrorsPartition part

/-- KEY_DESTROY of the seat's selected partition. -/
def State.keyDestroy (s : State) (x : SeatId) : State :=
  let part := s.fld F.SEC_KEY_SEL_PARTITION x.idx
  if (s.sil.comp.partitions.get? part).isNone then s.keyOutcome x part .badDescriptor
  else if s.partitionHeld part then s.keyOutcome x part .busy
  else match s.sec.keys.get? part with
    | none => s.keyOutcome x part .stateConflict
    | some e => (({ s with sec.keys := s.sec.keys.del part } : State).showKeys.extendMr 4 4 (keyEvent part 2 e.kcv)).keyOutcome x part .done

end Sys2Proof.Machine
end

