-- ==== Sys2Proof/Machine/Start.lean ====
section
/-! DEFINITION. Starts and the resets of an island, of the warm and of the cold device (spec/15: R411 to R417; spec/16: R423 to R430;
spec/17: R440, R451 to R456; spec/18: R459, R462). -/

namespace Sys2Proof.Machine

/-! ### What a reset clears (R412) -/

/-- Keep only the register fields of which a test of offset and lowest bit holds; the others take their reset values. -/
def State.keepRegs (s : State) (f : Nat → Nat → Bool) : State :=
  { s with regs := s.regs.filter (fun e => f (e.1 / 64 % 2 ^ 24) (e.1 % 64)) }

/-- Registers of the blocks that island 25 holds: CTL, RAS, SEC, PWR and TST. -/
def ofIsland25 (off : Nat) : Bool := decide (off < 0x10000 ∨ 0x180000 ≤ off)

/-- Fields that follow memory which a reset keeps: custody, the place of the own journal, and the memory found at the last cold start. -/
def withMemory (off : Nat) : Bool := decide ((0x30008 ≤ off ∧ off ≤ 0x30020) ∨ (0x60000 ≤ off ∧ off ≤ 0x60018))

/-- Fields that an L5 keeps: the error log, the step counter, what is known of the engines since the input returned, the outcomes of resets, the
rotation of logic BIST, and the custody of lost members' journals, which only a full image load ends (R123). -/
def keptByL5 (off lo : Nat) : Bool :=
  off == 0x30008 || off == 0x180000 || (off == 0x180008 && lo == 0) || off == 0x180100 || off == 0x180108 || off == 0x180110 || (off == 0x180118 && lo == 0)
    || off == 0x180210 || decide (0x180400 ≤ off ∧ off < 0x180500) || off == 0x1C0040

/-- The dedup windows are copied to retention SRAM (R415): a write that is applied and waits only for its redundancy is in them with its result, a
request that is not yet applied is not. -/
def State.copyWindows (s : State) : State :=
  let w := s.fab.dedup.filterMap (fun e =>
    if !e.pending then some e
    else (s.tier.inFlight.find? (fun f => f.pkt.src == e.src && f.pkt.tag == e.tag)).map
      (fun f => { e with pending := false, status := Status.done.code, result := f.data, waiting := [] }))
  { s with fab.dedup := [], fab.dedupCopy := w }

/-- A core after a reset of its island's power: nothing of its memories is left. -/
def State.freshCore (s : State) (n : Nat) : State :=
  let (k, s) := s.draw
  s.setCore n { blankCore n with tileKey := freshKey (64 + 2 * k), nearKey := freshKey (65 + 2 * k) }

/-- What an L4 and an L5 lose beside memory: everything in flight, every engine's work, every link, queue pair and seat, the image in
force.  Accepted work is in the journal (R125). -/
def State.dropVolatile (s : State) : State :=
  let tags := s.jnl.ring.vals.foldl (fun n e => max n (max e.tag (e.tagBase + e.tagCount))) 0
  let s : State := { s with
    dom := { resetDom with rebinds := s.dom.rebinds }
    sil := { resetSil with nor := s.sil.nor, ringLost := s.sil.ringLost }
    qx := []
    works := []
    jnl := { s.jnl with toEffect := [], held := [], batches := [], carrying := none, confirm := !s.sil.ringLost, gap := false }
    xlt := { resetXlt with extents := s.xlt.extents, claims := s.xlt.claims }
    tier := { s.tier with staged := [], inFlight := [], heldAnswers := [], heldRequests := [], served := [], ecc := [] }
    fab := { resetFab with dedup := s.fab.dedup, dedupCopy := s.fab.dedupCopy, nextXfer := s.fab.nextXfer,
                           jnlTag := max tags s.jnl.retentionTag % jnlTagLast + 1 }
    eth := { resetEth with tx := s.eth.tx, timeOffset := s.eth.timeOffset }
    ras := { resetRas with log := s.ras.log, recent := s.ras.recent, running := s.ras.running }
    qnc := resetQnc
    home := resetHome
    sws := { resetSws with sent := s.sws.sent }
    coll := resetColl
    emb := resetEmb
    vs := resetVs }
  (List.range 16).foldl State.freshCore (s.setFldBit F.JNL_CUSTODY_DEVICES s.devnum false)

/-- T1 and T2 lose their contents, and with them the own ring, the mirror ring and the tables kept in T1 (R412). -/
def State.loseMemory (s : State) : State :=
  let t3 (a : Nat) : Bool := a / 2 ^ 56 == 2
  { s with
    mem := ⟨s.mem.bytes.filter (fun e => t3 e.1), s.mem.keys.filter (fun e => t3 e.1), s.mem.poison.filter (fun e => t3 (e.1 * 64))⟩
    jnl := { s.jnl with ring := [], mirror := [], mirrorHeld := false, confirm := false }
    xlt := { s.xlt with extents := [], claims := [] }
    tier := { s.tier with degraded := [], armedFor := [], marks := [], runs := [], lost := [], told := [], loaded := 0 }
    dom.rebinds := []
    sil.ringLost := true }

/-- Measurement registers return to zero bytes. -/
def State.zeroMrs (s : State) (l : List Nat) : State := { s with sec.mrs := s.sec.mrs.filter (fun e => !l.contains e.1) }

/-- The number of a start: the position, as custodian of its own journal (R23). -/
def State.startNumbers (s : State) : State :=
  let s := (List.range 64).foldl (fun s n => s.setF (F.FAB_MEMBER_POSITION.at n) n) s
  (s.setF F.CTL_ID_DEVNUM s.position).setFldBit F.JNL_CUSTODY_DEVICES s.position true

/-! ### Islands at a start (R417, R452 to R454) -/

/-- Islands 1 to 16 and 17 to 24 of a quarter of logic BIST. -/
def quarterOf (q : Nat) : List Nat := [4 * q + 1, 4 * q + 2, 4 * q + 3, 4 * q + 4, 2 * q + 17, 2 * q + 18]

/-- The quarter that the present start tests. -/
def State.quarter (s : State) : List Nat := quarterOf ((s.fld F.PWR_BIST_NEXT + 3) % 4)

/-- Every powered part is off. -/
def State.partsOff (s : State) : State :=
  [F.PWR_COMP_OPTICAL, F.PWR_COMP_FLASH_CH, F.PWR_COMP_DDR_CH, F.PWR_COMP_T1_STACK].foldl (fun s f => s.setF f 0) s

/-- Self-test of a start: the quarter's islands get logic BIST, islands 17 to 24 memory BIST; their wakes are requested in the order of R417. -/
def State.selfTest (s : State) : State :=
  let q := s.fld F.PWR_BIST_NEXT
  let serving := (List.range 8).map (fun k => k + 17)
  let quince := (quarterOf q).filter (fun n => decide (n ≤ 16))
  let tested := (serving ++ quince).filter (fun n => s.islandState n != isHELD)
  let s : State := { s with pwr.testing := tested, pwr.failed := [] }
  let held := (List.range 24).any (fun k => s.islandState (k + 1) == isHELD)
  let s := (s.setF F.PWR_BIST_NEXT ((q + 1) % 4)).setF F.PWR_START_PHASE (if held then 8 else 3)
  quince.foldl (fun s n => s.askWake n 0 0) s.wakeIslands

/-- The self-test of a start begins once both reference clocks are present and stable (R451). -/
def State.selfTestWait (s : State) : State :=
  if s.fld F.PWR_REFCLK_CORE_OK = 1 ∧ s.fld F.PWR_REFCLK_SERDES_OK = 1 then s.selfTest else { s with pwr.refWait := true }

/-- An island has become ON: its parts are woken, its lanes train, the windows come back. Flash channels wake for the scan of an L5, and otherwise when
they receive segments. -/
def State.islandUp (s : State) (n : Nat) : State :=
  let ask (s : State) (comp : Nat) (l : List Nat) : State := l.foldl (fun s i => s.askWake n comp i) s
  if n = 18 then { s with fab.dedup := s.fab.dedup ++ s.fab.dedupCopy, fab.dedupCopy := [] }
  else if n = 20 then ask s 2 (List.range 8)
  else if n = 21 then ask s 3 (bitsSet 16 (s.fld F.TIER_T2_CFG_CH_POPULATED))
  else if n = 22 then (if s.fld F.PWR_START_PHASE = 3 ∧ s.fld F.RAS_RESET_CAUSE_CAUSE ≠ 1 then ask s 4 (bitsSet 24 (s.fld F.TIER_T3_CFG_CH_POPULATED)) else s)
  else if n = 23 then
    let s := ask s 1 (List.range 8)
    if s.fld F.PWR_START_PHASE < 6 ∨ 7 < s.fld F.PWR_START_PHASE then s else s.ports.foldl State.trainPort s
  else s

/-- The self-test of a start is complete: memory is initialised, or the image is loaded from the NOR device. -/
def State.startSettle (s : State) : State :=
  let busy := (List.range 8).any (fun k => let st := s.islandState (k + 17)
    st == isPENDING || st == isWAKING || st == isRESET || st == isHELD)
  if s.fld F.PWR_START_PHASE ≠ 3 ∨ s.pwr.refWait ∨ !s.pwr.testing.isEmpty ∨ !s.pwr.pending.isEmpty ∨ busy then s
  else if s.pwr.memInit % 2 = 1 then s.setF F.PWR_START_PHASE 4
  else (s.setF F.PWR_START_PHASE 5).norStart

/-- GOVERNOR_GRANT (R446), with what a start waits for. -/
def State.grantStep (s : State) : State := s.governorGrant.startSettle

/-- ISLAND_WAKE_DONE (R452). -/
def State.islandWoken (s : State) (n : Nat) : State :=
  let up := s.islandOn n
  let s := s.islandWakeDone n
  if s.islandOn n ∧ !up then (s.islandUp n).startSettle else s

/-- An island has failed its tests: it stays OFF until the next start, and the parts it serves count as failed (R452, R166). -/
def State.islandFailed (s : State) (n : Nat) : State :=
  let s := (s.setIsland n isOFF).logErr { unit := .pwr, status := .internal, index := n }
  let s : State := { s with pwr.failed := n :: s.pwr.failed }
  if n ≤ 16 then s.setCore (n - 1) { s.core (n - 1) with state := .off }
  else if n = 20 then (bitsSet 8 (s.fld F.TIER_T1_CFG_STACK_PRESENT)).foldl (fun s i => s.partFailure 1 i) s
  else if n = 21 then (bitsSet 16 (s.fld F.TIER_T2_CFG_CH_POPULATED)).foldl (fun s i => s.partFailure 2 i) s
  else if n = 22 then (bitsSet 24 (s.fld F.TIER_T3_CFG_CH_POPULATED)).foldl (fun s c =>
    (List.range (s.fld F.TIER_T3_CFG_DIES)).foldl (fun s d => s.partFailure 3 (64 * c + d)) s) s
  else s

/-- ISLAND_TEST_DONE (R452, R454): an island in RESET returns ON, or goes OFF with a record; the tests of a start end likewise, and a Quince island that
woke for them goes OFF again. -/
def State.islandTestDone (s : State) (n : Nat) (pass : Bool) : State :=
  let st := s.islandState n
  let waits := s.pwr.pending.any (fun w => w.island == n && w.comp == 0)
  if n = 0 ∨ 24 < n ∨ !s.pwr.testing.contains n ∨ waits ∨ (st ≠ isRESET ∧ st ≠ isON) then s
  else
    let l3 := s.ras.running.any (fun r => r.level == 3 && r.target == n)
    let s : State := { s with pwr.testing := s.pwr.testing.filter (· != n) }
    let s := if l3 ∨ s.quarter.contains n then s.setFldBit F.PWR_BIST_PASSED (n - 1) pass else s
    let s := if !pass then s.islandFailed n
      else
        let s := if n = 22 then s.sloePassed else s
        if n ≤ 16 ∧ !l3 then s.setIsland n isOFF
        else if st = isRESET then (s.setIsland n isON).islandUp n
        else s
    s.startSettle

/-- MEM_INIT_DONE (R455): the test and initialisation of T1 or T2 is complete; `failed` are the stacks or channels it found failing. -/
def State.memInitDone (s : State) (tier : Nat) (failed : List Nat) : State :=
  if tier = 0 ∨ 2 < tier ∨ !bitAt s.pwr.memInit (tier - 1) ∨ s.fld F.PWR_START_PHASE < 4 ∨ 7 < s.fld F.PWR_START_PHASE then s
  else
    let s : State := { s with pwr.memInit := setBit s.pwr.memInit (tier - 1) false }
    let s := failed.foldl (fun s i => s.partFailure tier i) s
    if tier = 1 ∧ s.fld F.PWR_START_PHASE = 4 then (s.setF F.PWR_START_PHASE 5).norStart
    else if s.fld F.PWR_START_PHASE = 5 ∧ s.silState = .running ∧ !s.ringAwaited then s.joinBegin
    else s

/-! ### The ROM, the firmware and the keys (R423 to R428) -/

/-- SIGNED_LEN of a firmware image. -/
def fwSigned (b : List Byte) : Nat := field b 20 4

/-- The header of a firmware image is one of R425. -/
def fwHeaderOk (b : List Byte) : Bool :=
  let n := field b 6 2
  let code := field b 16 4
  field b 0 4 == 0x57464D44 && field b 4 2 == 1 && decide (1 ≤ n ∧ n ≤ 16) && field b 8 8 != 0 && code % 64 == 0
    && fwSigned b == 64 + code + 2048 * n && decide (fwSigned b ≤ 8385216) && allZero (slice b 24 40)

/-- The ROM accepts an image: both signatures verify under one ROM identity. -/
def fwAccepted (b : List Byte) : Bool :=
  let msg := b.take (fwSigned b)
  let ed := slice b (fwSigned b) 64
  let ml := slice b (fwSigned b + 64) 3309
  fwHeaderOk b && (List.range 2).any (fun k => Config.ed25519Verify (Config.romEd k) msg ed && Config.mldsaVerify (Config.romMldsa k) msg ml)

/-- The slot to boot: of the accepted images the higher VERSION, slot 0 on a tie. -/
def State.bootSlot (s : State) : Option Nat :=
  let a := fwAccepted s.sec.slot0
  let b := fwAccepted s.sec.slot1
  if a ∧ (!b ∨ field s.sec.slot1 8 8 ≤ field s.sec.slot0 8 8) then some 0 else if b then some 1 else none

/-- The trust-anchor set of an image. -/
def fwAnchors (b : List Byte) : List (List Byte) := (List.range (field b 6 2)).map (fun i => slice b (64 + field b 16 4 + 2048 * i) 2048)

/-- The ROM's choice runs: MR0 and MR1 are extended and test access is LOCKED; without an accepted image the device stays in the ROM. -/
def State.romBoot (s : State) : State :=
  match s.bootSlot with
  | none => (s.setF F.SEC_STATE_FW 2).setF F.TST_STATE_ACCESS 3
  | some k =>
    let img := if k = 0 then s.sec.slot0 else s.sec.slot1
    let s := ((s.setF F.SEC_STATE_FW 1).setF F.SEC_STATE_FW_SLOT k).setF F.SEC_FW_VERSION_VERSION (field img 8 8)
    let s := (s.extendMr 0 0 Config.romDigest).extendMr 0 0 (Config.sha384 (img.take (fwSigned img + 3392)))
    let s := (fwAnchors img).foldl (fun s a => s.extendMr 1 1 (Config.sha384 a)) s
    ({ s with sec.anchors := fwAnchors img } : State).setF F.TST_STATE_ACCESS 0

/-- Key derivation (R427): the PUF is reconstructed, or enrolled where the helper area holds no valid data. -/
def State.deriveKeys (s : State) (pufOk : Bool) : State :=
  if s.fld F.SEC_STATE_FW ≠ 1 then s
  else if !pufOk then (s.setF F.SEC_STATE_PUF 2).logErr { unit := .sec, status := .authFail }
  else if s.sec.helper.isEmpty then
    let (k, s) := s.draw
    (({ s with sec.helper := Config.enrolledHelper k } : State).setF F.SEC_STATE_ENROLLED 1).setF F.SEC_STATE_PUF 1
  else s.setF F.SEC_STATE_PUF 1

/-- The security processor loses what it holds: key table, anchors, measurements, reports (R429, R435). -/
def State.secReset (s : State) : State :=
  { s with sec := { resetSec with slot0 := s.sec.slot0, slot1 := s.sec.slot1, helper := s.sec.helper } }

/-! ### What a cold start finds (R164, R165, R441) -/

/-- Whether the device supports a module. -/
def Dimm.supported (d : Dimm) : Bool := decide (32 ≤ d.gib ∧ d.gib ≤ 256) && d.ecc && !d.lrdimm

/-- T2 as trained. -/
def State.trainT2 (s : State) (l : List Dimm) : State :=
  let bad := l.filter (fun d => !d.supported)
  let s := bad.foldl (fun s d => s.logErr { unit := .tier, status := .stateConflict, index := d.channel }) s
  let good := l.filter (fun d => d.supported && d.trains && decide (d.channel < 16))
  let chans := maskOf (good.map (fun d => d.channel))
  let c := match good.map (fun d => d.gib) with | [] => 0 | g :: gs => gs.foldl min g
  (((s.setF F.TIER_T2_CFG_CH_POPULATED chans).setF F.TIER_T2_CFG_CH_GIB c).setF F.TIER_T2_CFG_GRANULES (popCount 16 chans * c)).setF
    F.TIER_T2_CFG_CH_FAILED 0

/-- T3 as scanned. -/
def State.scanT3 (s : State) (l : List (Nat × Nat)) : State :=
  let good := l.filter (fun e => decide (e.1 < 24 ∧ 0 < e.2))
  let chans := maskOf (good.map Prod.fst)
  let dies := match good.map (fun e => min 48 e.2) with | [] => 0 | g :: gs => gs.foldl min g
  (((s.setF F.TIER_T3_CFG_CH_POPULATED chans).setF F.TIER_T3_CFG_DIES dies).setF F.TIER_T3_GRANULES_GRANULES (popCount 24 chans * dies * 216)).setF
    F.TIER_T3_CFG_CH_FAILED 0

/-- The memory found by training and scan; a stack that fails training counts as failed (R166). -/
def State.findMemory (s : State) (i : StartInfo) : State :=
  let s := ((s.trainT2 i.dimms).scanT3 i.flash).setF F.TIER_T1_CFG_STACK_FAILED 0
  let s := s.setF F.TIER_T1_CFG_STACK_PRESENT (maskOf ((List.range 8).filter (fun k => !i.stacksFailed.contains k)))
  i.stacksFailed.foldl (fun s k => s.partFailure 1 k) s

/-- A start from the 18 ms row of R453: ROM, firmware, keys, straps and references, and the request for islands 17 to 24; `fresh`: T1 and T2 are to be
tested and initialised. -/
def State.boot (s : State) (i : StartInfo) (fresh : Bool) : State :=
  let s : State := { s with sec.slot0 := i.slot0, sec.slot1 := i.slot1, sec.helper := i.helper, sil.nor := i.image, pwr.startAt := s.now }
  let s := (s.setF F.PWR_START_PHASE 0).romBoot
  if s.fld F.SEC_STATE_FW ≠ 1 then s
  else
    let s := (s.setF F.PWR_START_PHASE 1).deriveKeys i.pufOk
    if s.fld F.SEC_STATE_PUF ≠ 1 then s
    else
      let bit (b : Bool) : Nat := if b then 1 else 0
      let s := (((s.setF F.PWR_START_PHASE 2).setF F.CTL_ID_POSITION i.straps).setF F.TST_PINS_POS i.straps).startNumbers
      let s := ((s.setF F.PWR_REFCLK_CORE_OK (bit i.coreRef)).setF F.PWR_REFCLK_SERDES_OK (bit i.serdesRef)).setF F.TST_PINS_LSR_EN (bit i.lsrEn)
      let s := s.findMemory i
      let s : State := { s with pwr.memInit := if fresh then (if s.fld F.TIER_T2_CFG_GRANULES = 0 then 1 else 3) else 0 }
      s.selfTestWait

/-- REFCLK_STABLE: a start that waited for a reference goes on to its self-test. -/
def State.refStable (s : State) (serdes : Bool) : State :=
  let s := if serdes then s.setF F.PWR_REFCLK_SERDES_OK 1 else s.setF F.PWR_REFCLK_CORE_OK 1
  if s.pwr.refWait ∧ s.fld F.PWR_REFCLK_SERDES_OK = 1 ∧ s.fld F.PWR_REFCLK_CORE_OK = 1 then ({ s with pwr.refWait := false } : State).selfTest
  else s

/-- The cause of a start (`RAS_RESET_CAUSE`) and whether it lost the dedup windows (R415, R248). -/
def State.startCause (s : State) (cause : Nat) (lost : Bool) : State :=
  let s := (s.setF F.RAS_RESET_CAUSE_CAUSE cause).setF F.RAS_RESET_CAUSE_DEDUP_LOST (if lost then 1 else 0)
  { s with dom.windowsLost := lost, fab.dedup := if lost then [] else s.fab.dedup, fab.dedupCopy := if lost then [] else s.fab.dedupCopy }

/-- COLD_START (R453): the 52 V input has been applied. It acts on a device that has not started since. -/
def State.coldStart (s : State) (i : StartInfo) : State :=
  if s.pwr.on ∧ (s.fld F.SEC_STATE_FW ≠ 0 ∨ s.fld F.PWR_START_PHASE ≠ 0) then s
  else (({ s with pwr.on := true } : State).startCause 4 true).boot i true

/-- Islands 1 to 24 are OFF with nothing pending. -/
def State.islandsOff (s : State) : State :=
  (List.range 24).foldl (fun s k => (s.withdrawWake (k + 1)).setIsland (k + 1) isOFF) s.partsOff

/-- INPUT_LOSS (R440): below 40 V for more than 1 ms, or above 62 V for more than 100 us. Everything but the serial NOR device and T3 is lost. -/
def State.inputLoss (s : State) (mv ns : Nat) : State :=
  if ¬((mv < 40000 ∧ nsPerMs < ns) ∨ (62000 < mv ∧ 100 * nsPerUs < ns)) then s
  else
    let s := s.loseMemory
    { State.reset with
      now := s.now, free := s.free, mem := s.mem, pending := s.pending
      sil := { resetSil with nor := s.sil.nor }
      sec := { resetSec with slot0 := s.sec.slot0, slot1 := s.sec.slot1, helper := s.sec.helper }
      pwr := { resetPwr with on := false } }

/-! ### L3 (R413, R414) -/

/-- L3 of island 25: seats, keys and measurements go, and the ROM runs again (R93, R423, R466). -/
def State.resetIsland25 (s : State) (pufOk : Bool) : State :=
  let s := s.clearSeats.secReset
  let s := ((s.setF F.SEC_STATE_FW 0).setF F.SEC_STATE_PUF 0).setF F.SEC_STATE_ENROLLED 0
  let s := ((s.setF F.SEC_EVLOG_PTR_OVERFLOW 0).setF F.SEC_EVLOG_COUNT_ENTRIES 0).showKeys
  let held := s.fld F.TST_STATE_ACCESS = 2
  let s := s.romBoot.deriveKeys pufOk
  if held then s.setF F.TST_STATE_ACCESS 2 else s

/-- The home agent stops once every filter entry is recalled; the windows are then copied (R413, R415). -/
def State.homeResetSettle (s : State) : State :=
  if s.pwr.testing.contains 18 ∧ s.islandOn 18 ∧ s.ras.running.any (fun r => r.level == 3 && r.target == 18) ∧ s.home.filter.isEmpty
      ∧ s.home.events.isEmpty then
    s.copyWindows.setIsland 18 isRESET
  else s

/-- What stops with an island. -/
def State.islandStops (s : State) (n : Nat) : State :=
  let unit := s.fld F.TST_UNIT_STATUS_UNIT
  let covered := (n ≤ 16 ∧ unit + 1 = n) ∨ (n = 22 ∧ 16 ≤ unit)
  let s := if s.fld F.TST_UNIT_STATUS_STATE ≠ 0 ∧ covered then s.testAborted else s
  if n ≤ 16 then
    let s := (s.quarAbandon (n - 1)).resetCore (n - 1)
    if (s.core (n - 1)).state = .faulted then s.setCore (n - 1) { s.core (n - 1) with state := .resetting } else s
  else if n = 17 then ({ s with sws.voq := [], sws.entering := [], sws.drr := [], sws.combining := [] } : State).collReset
  else if n = 18 then s.recallAll
  else if n = 19 then s.poolReset
  else if n = 22 then s.sloeReset
  else if n = 23 then s.linksDark
  else if n = 24 then ((s.eth.qps.keys).filter (fun q => s.qpState q != .reset && s.qpState q != .error)).foldl (fun s q => s.qpLeave q .error) s
  else s

/-- An island is reset: it stops, and its tests begin. -/
def State.islandReset (s : State) (n : Nat) (pufOk : Bool) : State :=
  if n = 25 then s.resetIsland25 pufOk
  else if s.islandState n ≠ isON then s
  else
    let s : State := { s.islandStops n with pwr.testing := n :: s.pwr.testing }
    if n = 18 then s.homeResetSettle else s.setIsland n isRESET

def offResetDeep := 0x180208

/-- RESET_L3: `pufOk` tells how key derivation ends when the island is 25. -/
def State.resetL3 (s : State) (x : SeatId) (entry n : Nat) (pufOk : Bool) : State :=
  if n = 0 ∨ 25 < n then s.seatErr x entry offResetDeep .bounds
  else s.resetOrder x entry offResetDeep ⟨3, n, true⟩ (fun s => (s.setF F.RAS_RESET_DEEP_ISLAND n).islandReset n pufOk)

/-! ### L4 and L5 -/

/-- Work stops everywhere: links go dark, the windows are copied, and what is volatile is lost. -/
def State.stopAll (s : State) : State := s.linksDark.copyWindows.dropVolatile.clearSeats

/-- Warm reset: every island but 25. -/
def State.warmReset (s : State) : State :=
  let s := (s.stopAll.keepRegs (fun off _ => ofIsland25 off || withMemory off)).zeroMrs [2, 3, 5, 6]
  let s := ((s.startCause 1 false).startNumbers).partsOff
  let s := if s.fld F.TST_STATE_ACCESS = 1 then s.setF F.TST_STATE_ACCESS 0 else s
  let s := if s.fld F.TST_UNIT_STATUS_STATE = 0 then s else s.testAborted
  let s := (s.setF F.RAS_QUAR_STATE 0).setF F.RAS_QUAR_LEFT 0
  let s := (List.range 24).foldl (fun s k =>
    let n := k + 1
    if s.islandState n = isHELD then s
    else if 17 ≤ n ∧ s.islandState n = isON then s.setIsland n isRESET
    else (s.withdrawWake n).setIsland n isOFF) s
  ({ s with pwr.startAt := s.now } : State).selfTestWait

/-- A seat may not order L4 or L5 while a member of the domain is ADMITTING (R416). -/
def State.deepOrder (s : State) (x : SeatId) (entry : Nat) (r : ResetRun) (f : State → State) : State :=
  if !(s.membersIn .admitting).isEmpty then s.seatErr x entry offResetDeep .stateConflict else s.resetOrder x entry offResetDeep r f

/-- RESET_L4. -/
def State.resetL4 (s : State) (x : SeatId) (entry : Nat) : State := s.deepOrder x entry ⟨4, 0, true⟩ State.warmReset

/-- Cold reset without the input being removed: every register but those that are kept, islands OFF, the security processor blank. -/
def State.coldReset (s : State) (memory : Bool) : State :=
  let s := (if memory then s.stopAll else s.stopAll.loseMemory).secReset
  let s := s.keepRegs (fun off lo => keptByL5 off lo || (memory && withMemory off))
  let s := (s.setF F.TST_STATE_ACCESS 3).islandsOff
  { s with tst := resetTst, pwr.testing := [], pwr.refWait := false, pwr.floorMs := 0, pwr.floorRecorded := false }

/-- RESET_L5 (R411, R453): contents of T1 and T2 stay in self-refresh. -/
def State.resetL5 (s : State) (x : SeatId) (entry : Nat) (i : StartInfo) : State :=
  s.deepOrder x entry ⟨5, 0, true⟩ (fun s => ((s.coldReset true).startCause 2 false).showResets.boot i false)

/-- BOARD_RESET (R462): RST_N low for 2 us or longer; a reset that runs is absorbed and no outcome posted. -/
def State.boardReset (s : State) (ns : Nat) : State :=
  if ns < 2 * nsPerUs then s
  else
    let s := ((s.coldReset false).startCause 3 true).setF F.TST_PINS_RST_N 0
    { s with ras.running := [], ctl.i3cAddr := none, ctl.i3cReply := none, ctl.i3cEvents := 0 }.showResets

/-- BOARD_RESET_RELEASE: the rising edge of RST_N. -/
def State.boardRelease (s : State) (i : StartInfo) : State :=
  if s.fld F.TST_PINS_RST_N = 1 then s else (s.setF F.TST_PINS_RST_N 1).boot i true

/-- RESET_COMPLETE (R411): a reset finishes and its outcome is posted. `pass` is the result of a core's test. -/
def State.resetComplete (s : State) (level target : Nat) (pass : Bool) : State :=
  match s.ras.running.find? (fun r => r.level == level && r.target == target) with
  | none => s
  | some r =>
    if (r.level = 3 ∧ s.pwr.testing.contains r.target) ∨ (4 ≤ r.level ∧ ¬(5 ≤ s.fld F.PWR_START_PHASE ∧ s.fld F.PWR_START_PHASE ≤ 7)) then s
    else
      let s : State := { s with ras.running := s.ras.running.filter (fun q => !(q == r)) }
      let s := if r.level < 3 then s.shallowResetDone r pass
        else if r.level = 3 ∧ r.target ≤ 16 then
          (if s.islandOn r.target then s.coreResetDone (r.target - 1) true
           else s.setCore (r.target - 1) { s.core (r.target - 1) with state := .off })
        else s
      (s.resetOutcome .done r).showResets

end Sys2Proof.Machine
end

