-- ==== Sys2Proof/Machine/Test.lean ====
section
/-! DEFINITION. Test access: the access state, the TAP instructions, the analogue node and unit tests (spec/18 R466 to R471). -/

namespace Sys2Proof.Machine

/-! ### The access state (R466) -/

def taLOCKED := 0
def taUNLOCKED := 1
def taHOLD := 2
def taOPENROM := 3

def State.testAccess (s : State) : Nat := s.fld F.TST_STATE_ACCESS

def offTstCtrl := 0x1E0010

/-- TEST_UNLOCK: refused in OPEN_ROM, and in HOLD, which only an L5 ends. -/
def State.testUnlock (s : State) (x : SeatId) (entry : Nat) : State :=
  if s.testAccess = taOPENROM ∨ s.testAccess = taHOLD then s.seatErr x entry offTstCtrl .stateConflict
  else s.setF F.TST_STATE_ACCESS taUNLOCKED

/-- TEST_LOCK: refused in OPEN_ROM and in HOLD. -/
def State.testLock (s : State) (x : SeatId) (entry : Nat) : State :=
  if s.testAccess = taOPENROM ∨ s.testAccess = taHOLD then s.seatErr x entry offTstCtrl .stateConflict
  else s.setF F.TST_STATE_ACCESS taLOCKED

/-- Islands 1 to 24 stop and are HELD, every laser is off, and one record is written; THERMTRIP_N is not driven. -/
def State.enterHold (s : State) : State :=
  let s := ((List.range 24).foldl (fun s k => s.holdIsland (k + 1)) s).linksDark
  let s := (s.setF F.PWR_START_PHASE 8).setF F.TST_STATE_ACCESS taHOLD
  s.logErr { unit := .tst, status := .done, index := 0xFF }

/-- TEST_HOLD: refused while a member is ADMITTING, while custody of another number is held, and in OPEN_ROM. -/
def State.testHold (s : State) (x : SeatId) (entry : Nat) : State :=
  let others := (bitsSet 64 (s.fld F.JNL_CUSTODY_DEVICES)).any (fun d => !s.isSelf d)
  if s.testAccess = taOPENROM ∨ others ∨ !(s.membersIn .admitting).isEmpty then s.seatErr x entry offTstCtrl .stateConflict
  else s.enterHold

/-! ### The TAP (R467, R468) -/

def tapEXTEST := 0x00
def tapSAMPLE := 0x01
def tapIDCODE := 0x02
def tapHIGHZ := 0x03
def tapCLAMP := 0x04
def tapPROBE := 0x08
def tapRUNBIST := 0x10
def tapTSTWIN := 0x20
def tapBYPASS := 0xFF

/-- Whether every instruction acts as the standard defines it. -/
def State.tapFull (s : State) : Bool := decide (s.testAccess = taHOLD ∨ s.testAccess = taOPENROM)

/-- Make an instruction the current one, with what its data register captures and what drives the pins.  A node that the TAP had connected
is disconnected. -/
def State.tapLoad (s : State) (code dr drive : Nat) : State :=
  let s := if s.tst.probe.isSome then s.setF F.TST_ABUS_VALUE_VALID 0 else s
  { s.setF F.TST_STATE_TAP_INSTR code with tst.dr := dr, tst.drive := drive, tst.probe := none }

/-- BYPASS, and every code that is not listed: one bit, captured as 0. -/
def State.tapBypass (s : State) : State := s.tapLoad tapBYPASS 0 0

/-- A TAP reset selects IDCODE; IDCODE captures `TST_IDCODE`. -/
def State.tapIdcode (s : State) : State := s.tapLoad tapIDCODE idcode 0

/-- SAMPLE/PRELOAD: the boundary cells capture the pins and are preloaded. -/
def State.tapSample (s : State) (pins preload : Nat) : State :=
  let s := s.tapLoad tapSAMPLE pins 0
  { s with tst.captured := pins, tst.preload := preload }

/-- EXTEST: the cells capture the pins and, in HOLD and OPEN_ROM, drive them with what they were preloaded with. -/
def State.tapExtest (s : State) (pins preload : Nat) : State :=
  let s := s.tapLoad tapEXTEST pins (if s.tapFull then 1 else 0)
  { s with tst.captured := pins, tst.preload := preload }

/-- HIGHZ releases the outputs; CLAMP holds them at the preloaded cells; both select the bypass register. -/
def State.tapHighz (s : State) : State := if s.tapFull then s.tapLoad tapHIGHZ 0 2 else s.tapBypass
def State.tapClamp (s : State) : State := if s.tapFull then s.tapLoad tapCLAMP 0 1 else s.tapBypass

/-- RUNBIST: bits [23:0] hold the islands that passed, bit 24 the loopback. -/
def State.tapRunbist (s : State) (passed : Nat) : State :=
  if s.tapFull then s.tapLoad tapRUNBIST (passed % 2 ^ 25) 0 else s.tapBypass

/-! ### The analogue buses (R469, R470) -/

/-- Whether R469 lists a node. -/
def nodeKnown (n : Nat) : Bool := decide (n ≤ 8 ∨ (0x10 ≤ n ∧ n < 0xCC) ∨ (0xD0 ≤ n ∧ n < 0xF0))

/-- A connected node shows its reading at AT2. -/
def State.abusShow (s : State) (connected : Bool) (reading : Nat) : State :=
  if connected then (s.setF F.TST_ABUS_VALUE_VALID 1).setF F.TST_ABUS_VALUE_VALUE (min reading 12000)
  else s.setF F.TST_ABUS_VALUE_VALID 0

def offAbus := 0x1E0028

/-- The refusal of a seat's write of `TST_ABUS_CTRL`. -/
def State.abusFault (s : State) (mode node : Nat) : Option Status :=
  if s.fld F.TST_STATE_TAP_INSTR = tapPROBE then some .busy
  else if s.testAccess = taLOCKED then some .access
  else if mode = 3 then some .badDescriptor
  else if !nodeKnown node then some .bounds
  else if mode = 2 ∧ !s.tapFull then some .stateConflict
  else none

/-- ABUS_SELECT: a seat connects a node, or disconnects it; `reading` is what AT2 then shows. -/
def State.abusSelect (s : State) (x : SeatId) (entry mode node reading : Nat) : State :=
  match s.abusFault mode node with
  | some st => s.seatErr x entry offAbus st
  | none => (((s.setF F.TST_ABUS_CTRL_MODE mode).setF F.TST_ABUS_CTRL_NODE node).abusShow (decide (mode ≠ 0)) reading).noteWrite x offAbus

/-- PROBE: the TAP takes the buses, a node that a seat had connected is disconnected, and the TAP connects its own; outside HOLD and OPEN_ROM
stimulus acts as sense only. -/
def State.tapProbe (s : State) (mode node reading : Nat) : State :=
  if s.testAccess = taLOCKED then s.tapBypass
  else
    let s := (s.tapLoad tapPROBE s.tst.captured 0).setF F.TST_ABUS_CTRL_MODE 0
    let mode := if mode = 2 ∧ !s.tapFull then 1 else mode
    if mode = 0 ∨ mode > 2 ∨ !nodeKnown node then s.abusShow false 0
    else ({ s with tst.probe := some (mode, node) } : State).abusShow true reading

/-! ### Unit test access (R471) -/

def utNONE := 0
def utISOLATING := 1
def utISOLATED := 2
def utTESTING := 3

def offUnitCmd := 0x1E0018

def State.unitState (s : State) : Nat := s.fld F.TST_UNIT_STATUS_STATE
def State.unitTested (s : State) : Nat := s.fld F.TST_UNIT_STATUS_UNIT

/-- Whether a unit belongs to a slice. -/
def State.unitInSlice (s : State) (u : Nat) : Bool :=
  if u < 16 then (s.sliceOfCore u).isSome else (s.sliceOfFlash (u - 16)).isSome

/-- An outcome of unit test access. -/
def State.unitOutcome (s : State) (st : Status) : State := (s.setF F.TST_UNIT_STATUS_STATUS st.code).bumpSeq F.TST_UNIT_STATUS_SEQ

/-- Keep a core out of grants, or return it to them. -/
def State.setIsolation (s : State) (u v : Nat) : State := if u < 16 then s.setCore u { s.core u with isolation := v } else s

/-- The quarantine core takes no test access (R409). -/
def State.isQuarCore (s : State) (u : Nat) : Bool := decide (u < 16) && s.quarCore u

/-- The fields of an accepted `TST_UNIT_CMD` write (R14). -/
def State.keepUnitCmd (s : State) (u tests : Nat) : State := (s.setF F.TST_UNIT_CMD_UNIT u).setF F.TST_UNIT_CMD_TESTS tests

/-- UNIT_ISOLATE. -/
def State.unitIsolate (s : State) (x : SeatId) (entry u : Nat) : State :=
  if u ≥ 0x28 then s.seatErr x entry offUnitCmd .bounds
  else if s.unitState ≠ utNONE ∧ s.unitTested ≠ u then s.seatErr x entry offUnitCmd .busy
  else if s.unitState ≠ utNONE ∨ !s.unitInSlice u ∨ s.isQuarCore u then s.seatErr x entry offUnitCmd .stateConflict
  else (((s.setF F.TST_UNIT_CMD_UNIT u).setF F.TST_UNIT_STATUS_UNIT u).setF F.TST_UNIT_STATUS_STATE utISOLATING).setIsolation u 1

/-- Whether the unit runs nothing and none of its work is granted. -/
def State.unitIsIdle (s : State) (u : Nat) : Bool :=
  if u < 16 then
    let k := s.core u
    (k.state == .idle || k.state == .off || k.state == .faulted) && k.launch.isNone && k.attend.isNone
  else !(s.vs.segments.any (fun g => g.unit == u - 16 && g.begun.isSome))

/-- Wake a unit that is OFF. -/
def State.unitWake (s : State) (u : Nat) : State :=
  if u < 16 then s.wakeCore u
  else if s.sloeState (u - 16) = slOFF then s.askWake 22 4 (u - 16) else s

/-- UNIT_IDLE: an isolating unit has become idle. -/
def State.unitIdle (s : State) : State :=
  let u := s.unitTested
  if s.unitState ≠ utISOLATING ∨ !s.unitIsIdle u then s
  else ((s.setIsolation u 2).unitWake u).setF F.TST_UNIT_STATUS_STATE utISOLATED

/-- UNIT_TEST. -/
def State.unitTest (s : State) (x : SeatId) (entry u tests : Nat) : State :=
  if u ≥ 0x28 then s.seatErr x entry offUnitCmd .bounds
  else if s.unitState ≠ utISOLATED ∨ s.unitTested ≠ u then s.seatErr x entry offUnitCmd .stateConflict
  else if tests % 8 = 0 ∨ (16 ≤ u ∧ bitAt tests 2) then s.seatErr x entry offUnitCmd .badDescriptor
  else
    let s := ((s.keepUnitCmd u tests).setF F.TST_UNIT_STATUS_STATE utTESTING).setF F.TST_UNIT_STATUS_RESULT 0
    { s with tst.tests := tests % 8 }

/-- The unit enters FAULTED. -/
def State.faultUnit (s : State) (u : Nat) : State :=
  if u < 16 then s.setCore u { s.core u with state := .faulted }
  else (s.setSloe (u - 16) slFAULTED).sloeEndAll (u - 16) .internal

/-- UNIT_TEST_DONE: the selected tests have run in order, all passing, or up to the test `failed` (0 MBIST, 1 LBIST, 2 SENTINEL) that did
not.  After an LBIST the tile store of a core is undefined. -/
def State.unitTestDone (s : State) (failed : Option Nat) : State :=
  if s.unitState ≠ utTESTING then s
  else
    let u := s.unitTested
    let ran := s.tst.tests
    let fail := failed.filter (fun t => decide (t < 3) && bitAt ran t)
    let stop := fail.getD 3
    let passed := maskOf ((bitsSet 3 ran).filter (fun t => t < stop))
    let s := if u < 16 ∧ bitAt ran 1 ∧ 1 ≤ stop then (s.loseTile u).loseNear u else s
    let s : State := { s with tst.tests := 0 }
    let s := (s.setF F.TST_UNIT_STATUS_RESULT passed).setF F.TST_UNIT_STATUS_STATE utISOLATED
    if fail.isSome then ((s.unitOutcome .internal).faultUnit u).logErr { unit := .tst, status := .internal, index := u }
    else s.unitOutcome .done

/-- UNIT_RELEASE: grants resume. -/
def State.unitRelease (s : State) (x : SeatId) (entry u : Nat) : State :=
  if u ≥ 0x28 then s.seatErr x entry offUnitCmd .bounds
  else if (s.unitState ≠ utISOLATING ∧ s.unitState ≠ utISOLATED) ∨ s.unitTested ≠ u then s.seatErr x entry offUnitCmd .stateConflict
  else
    let s := ((s.setIsolation u 0).setF F.TST_UNIT_CMD_UNIT u).setF F.TST_UNIT_STATUS_STATE utNONE
    if u < 16 then s.setCore u { s.core u with since := s.now } else s.sloeBegin (u - 16)

end Sys2Proof.Machine
end

