-- ==== Sys2Proof/Machine/Run.lean ====
section
/-! DEFINITION. What follows from a step: answers and where they go, transfers that are complete, journal entries that take effect, requests that
start, and the settling of everything that waited for it (spec/04 R106, R112, R115 to R118, R122, R125; spec/08 R234, R243 to R248). -/

namespace Sys2Proof.Machine

/-! ### Retirement at a target (R245, R246, R248) -/

/-- RETIRE at a target: the entries named are dropped; a write that was passed to a mirror target or parity holder is retired there too. -/
def State.retireServe (s : State) (p : Packet) : State :=
  let s := s.take p
  let mine (e : Dedup) : Bool := e.src == p.src && p.retired e.tag && !e.pending
  let targets := ((s.fab.dedup.filter mine).flatMap (fun e => e.forward)).dedup
  let s := s.dedupDrop mine
  targets.foldl (fun s d => s.send { p with dst := d, relayed := false }) s

/-- TAG_RESET (R248): the source's transaction tags are dropped, or with ALL every tag of the source. -/
def State.tagResetServe (s : State) (p : Packet) : State :=
  if p.op ≠ opTAG_RESET then s
  else
    (s.take p).unlessFailed p (fun s =>
      (s.dedupDrop (fun e => e.src == p.src && (bitAt p.aux 0 || decide (txTagFirst ≤ e.tag)))).respond p .done)

/-- Retirements whose drain is over may be sent: no marker towards their target is left, and no path of it waits for a relay. -/
def State.settleRetirements (s : State) : State :=
  let waits (d : Nat) : Bool := s.fab.markers.any (fun m => m.dst == d)
    || s.fab.reqs.any (fun r => r.pkt.op == opRELAY_DRAIN && r.pkt.aux % 64 == d)
  let s : State := { s with fab.retire := s.fab.retire.map (fun r => { r with drain := r.drain && waits r.dst }) }
  let full := (List.range 64).filter (fun d => decide (256 ≤ (s.fab.retire.filter (fun r => r.dst == d && !r.drain)).length))
  full.foldl State.sendRetirements s

/-! ### Contexts (R112, R132, R137) -/

/-- The body of a context's CONTEXT_CFG entry: its five configuration registers, with ENABLE as it is to become (log entry 20). -/
def State.contextCfg (s : State) (c enable : Nat) : JEntry :=
  let cfg := enable + 2 * s.fld F.XLT_CTX_CFG_MODE c + 16 * s.fld F.XLT_CTX_CFG_LOG2_CAP c + 2 ^ 20 * s.partOfCtx c
  { kind := jkCONTEXT_CFG, queue := c, partition := s.partOfCtx c,
    body := natLe 8 cfg ++ natLe 8 (s.tableArea c) ++ natLe 8 (s.hostBase c) ++ natLe 8 (s.fld F.XLT_CTX_LIMIT_PAGES c) ++ natLe 8 (s.devBase c) ++ zeros 24 }


def offCtxCfg := 0x40008

/-- CONTEXT_ENABLE: the checks in their order; CONTEXT_CFG is journalled. An enabled context stays as it is. -/
def State.contextEnable (s : State) (x : SeatId) (entry : Nat) : State :=
  let c := s.fld F.XLT_CTX_SEL_CTX x.idx
  if s.ctxEnabled c || s.contextChanging c then s
  else match s.enableFault c with
    | some st => s.seatErr x entry offCtxCfg st
    | none => s.journalWrite (s.contextCfg c 1)

/-- CONTEXT_DISABLE: refused while an entry is not empty or a MAP is outstanding. -/
def State.contextDisable (s : State) (x : SeatId) (entry : Nat) : State :=
  let c := s.fld F.XLT_CTX_SEL_CTX x.idx
  if !s.ctxEnabled c || s.contextChanging c then s
  else if !(s.extentsOf c).isEmpty || s.mapOutstanding c then s.seatErr x entry offCtxCfg .stateConflict
  else s.journalWrite (s.contextCfg c 0)

/-- A CONTEXT_CFG entry takes effect; a context is enabled with an empty table. -/
def State.contextEffect (s : State) (e : JEntry) : State :=
  let c := e.queue
  if field e.body 0 8 % 2 = 1 then (s.setF F.XLT_CTX_CFG_ENABLE 1 c).refreshTable c 0 0 else s.setF F.XLT_CTX_CFG_ENABLE 0 c

/-! ### Answers (R234, R243, R247, R265, R274) -/

/-- The answers of a combined request's members: every load is given the same data, every atomic the value it would have found after those before
it (R242, R243). -/
def combinedOlds (lead : Packet) (old : List Byte) : List Packet → List (Packet × List Byte)
  | [] => []
  | m :: ms =>
    let found := if lead.op = opATOMIC then atomicBytes lead old else old
    (m, found) :: combinedOlds { m with op := lead.op } found ms

/-- Give an agent its answer: what waited for the request of the port goes on. -/
def State.agentAnswered (s : State) (port ident va : Nat) (req rsp : Packet) : State :=
  let s : State := { s with sws.lastSeen := s.sws.lastSeen.put port s.now }
  let s := s.answerAgent port ident va { rsp with ctx := req.ctx, addr := req.addr }
  let s := (s.releaseAt req.ctx va).showOutstanding (port - 0x40)
  let granted := req.op = opLOAD ∧ cohKind req ≠ 0 ∧ rsp.status = 0 ∧ rsp.aux % 256 ≠ 0
  let s := if granted then
      s.send { op := 0x16, vc := vcRSP, src := s.devnum, dst := rsp.src, tag := req.tag, pkey := req.pkey }
    else s
  s.tryDrop (port - 0x40)

/-- A CONTROL request of this device is answered. -/
def State.controlAnswered (s : State) (kind tag : Nat) (rsp : Packet) : State :=
  let st := Status.ofCode rsp.status
  if kind = 0x14 then s.dropAnswered tag rsp.src
  else if kind = xcRECALL then
    ({ s with xlt.recalls := s.xlt.recalls.filter (fun r => !(r.1 == tag / 2 ^ 56 && r.2 == tag % 2 ^ 56)) } : State).sweepExtents
  else if kind = xcREVOKE then s.revokeAnswered tag st rsp.payload
  else if kind = xcDRAINED then s.revokeReported rsp.src tag (field rsp.payload 0 8)
  else if kind = xcQUERY then s.revokeQueried rsp.src tag rsp.payload
  else if kind = xcALIASES then s.aliasesAnswered tag (if st = .done then field rsp.payload 0 8 else 0)
  else if kind = opRELAY_DRAIN then s.pathDead (tag % 64) (.relay (tag / 64))
  else s

/-- A piece of a forwarded window access is answered: kept for the response, or reported where the access entered (R41, R385). -/
def State.windowAnswered (s : State) (ch : ChanId) (off id : Nat) (req rsp : Packet) : State :=
  let st := Status.ofCode rsp.status
  let s := if st = .done then s else s.windowFailed ch off st
  let bs : List MByte := unmarked (if st = .done then slice rsp.payload (req.addr % 64) (req.size + 1) else zeros (req.size + 1))
  s.modXfer id (fun x => { x with left := x.left - 1, pieces := if req.op = opWINDOW_READ then x.pieces.put off bs else x.pieces })

/-- The answer of one request reaches what waited for it. -/
def State.answerWaiter (s : State) (w : Waiter) (req rsp : Packet) : State :=
  let st := Status.ofCode rsp.status
  match w with
  | .none => s
  | .agent port ident va _ => s.agentAnswered port ident va req rsp
  | .xfer id off => s.xferAnswer id off req rsp
  | .mirrored p => s.protected_ p st
  | .forwarded p =>
    if req.op = opBLOCK_READ ∧ st = .done then s.respond { p with aux := rsp.aux } st rsp.payload rsp.poison
    else s.finish p st rsp.payload rsp.poison
  | .journal _ => s
  | .window ch off id => s.windowAnswered ch off id req rsp
  | .mapOwner x => s.mapAnswer x req.tag st (field rsp.payload 0 1)
  | .control kind tag => s.controlAnswered kind tag rsp
  | .reduce tag => if req.aux % 8 = 5 then s.poolAnswered tag st else s.collAnswered tag req st
  | .resync cell _ => (s.resyncAnswered cell st).pump
  | .rebind m => s.rebindAnswered m

/-- The members of a combined request are answered with their leader. -/
def State.answerCombined (s : State) (req rsp : Packet) : State :=
  match s.sws.combining.find? (fun c => c.leader.tag == req.tag && c.leader.op == req.op) with
  | none => s
  | some c =>
    let s : State := { s with sws.combining := s.sws.combining.filter (fun d => !(d == c)) }
    (combinedOlds c.leader rsp.payload c.members).foldl (fun s m =>
      match s.fab.reqs.find? (fun r => r.pkt.tag == m.1.tag && r.pkt.op == req.op) with
      | none => s
      | some r =>
        let s : State := { s with fab.reqs := s.fab.reqs.filter (fun q => !(q.pkt.tag == m.1.tag && q.pkt.op == req.op)) }
        let data := if rsp.status = 0 then padTo rsp.payload.length m.2 else rsp.payload
        s.answerWaiter r.waiter r.pkt { rsp with tag := m.1.tag, ctx := m.1.ctx, payload := data }) s

/-- Whether a request's answer has a step of its own: MIRROR_ACK or MAP_OWNER_ANSWER. -/
def Waiter.apart : Waiter → Bool
  | .journal _ => true
  | .mapOwner _ => true
  | _ => false

/-- The request that a response answers. -/
def State.requestOf (s : State) (rsp : Packet) : Option Request :=
  s.fab.reqs.find? (fun r => r.answeredBy rsp)

/-- RESPONSE (R234): a response ends its request, and what waited for it goes on; the answer of a drain marker clears the marker (R258). -/
def State.responseIn (s : State) (p : Packet) : State :=
  if p.op < 0x80 ∨ (s.requestOf p).any (fun r => r.waiter.apart) then s
  else
    let s := s.take p
    if p.op = opFENCE_MARK + 0x80 then
      ({ s with fab.markers := s.fab.markers.filter (fun m => !(m.number == p.aux && m.dst == p.src)) } : State).settleFences
    else match s.endRequest p with
      | (none, s) => s
      | (some r, s) => ((s.answerWaiter r.waiter r.pkt p).answerCombined r.pkt p).settleFences

/-- MAP_OWNER_ANSWER (R140): the owner's answer completes the MAP; one that comes too late undoes the owner's record. -/
def State.mapOwnerAnswer (s : State) (p : Packet) : State :=
  match s.requestOf p with
  | some r =>
    match r.waiter with
    | .mapOwner _ =>
      match (s.take p).endRequest p with
      | (some r, s) => s.answerWaiter r.waiter r.pkt p
      | (none, s) => s
    | _ => s
  | none => s

/-- The last live entry has been copied: the mirror target has taken the mirror (R108). -/
def State.copiesTaken (s : State) : State :=
  if !s.noMirror ∨ s.copying then s
  else { ((s.setF F.JNL_STATE_MIRROR_VALID 1).setF F.JNL_STATE_NO_MIRROR 0).setF F.JNL_ACKED_JSEQ (s.fld F.JNL_HEAD_JSEQ - 1) with jnl.gap := true }

/-- MIRROR_ACK (R106, R113): ADDR carries the highest JSEQ the mirror target has written. -/
def State.mirrorAck (s : State) (p : Packet) : State :=
  match s.requestOf p with
  | some r =>
    match r.waiter with
    | .journal _ =>
      let s := s.take p
      let s := (s.endRequest p).2
      if p.status ≠ 0 then s
      else if s.noMirror then s.copiesTaken
      else s.trackMax F.JNL_ACKED_JSEQ p.addr
    | _ => s
  | none => s

/-! ### Timers of requests (R247) -/

/-- RETRY_TIMER (R247): a request without an answer is sent again under its tag. -/
def State.retryTimer (s : State) (tag : Nat) : State :=
  let rs := s.fab.reqs.filter (fun r => r.pkt.tag == tag)
  match rs with
  | [] => s
  | r :: _ => rs.foldl (fun s r => s.resend r) (s.reach (r.sent + s.fld F.FAB_TMO_RETRY_US * nsPerUs))

/-- Requests that are sent again until they are answered: journal entries, rebindings, and those with a timeout of their own. -/
def Waiter.untilAnswered : Waiter → Bool
  | .journal _ | .rebind _ | .control .. | .window .. | .mapOwner _ => true
  | _ => false

/-- The request has had no answer for the fabric timeout (R247): what waited for it goes on with `TIMEOUT`. -/
def State.requestTimedOut (s : State) (r : Request) : State :=
  let p := r.pkt
  let piece := p.op == opMIRROR || p.op == opPARITY
  let s : State := { s with fab.reqs := s.fab.reqs.filter (fun q =>
      !(q.pkt.tag == p.tag && q.pkt.op == p.op && q.pkt.src == p.src && (!piece || q.pkt.addr == p.addr))) }
  let s := (s.count F.FAB_DROP_TIMEOUTS).logErr { unit := .fab, status := .timeout, opcode := p.op, addr := p.addr, index := p.dst, tag := p.tag }
  let s := if p.tagged then
      let s := s.sendMarker p.dst p.vc (s.pathTo p.dst)
      if txTagFirst ≤ p.tag ∧ !r.lentTag then s.retireTag p.dst p.tag true else s
    else s
  let rsp : Packet := { p with op := p.op + 0x80, src := p.dst, dst := p.src, status := Status.timeout.code, payload := [], sectors := 0, poison := 0 }
  (((s.answerWaiter r.waiter p rsp).answerCombined p rsp).releaseWaiting).settleFences

/-- FABRIC_TIMEOUT (R247). -/
def State.fabricTimeout (s : State) (tag : Nat) : State :=
  match s.fab.reqs.find? (fun r => r.pkt.tag == tag) with
  | none => s
  | some r =>
    if r.waiter.untilAnswered || s.ridesAlong tag then s
    else (s.reach (r.issued + s.fld F.FAB_TMO_FABRIC_US * nsPerUs)).requestTimedOut r

/-! ### Transfers that are complete -/

/-- The words of a window access that came back, zeros where a piece failed. -/
def Xfer.windowBytes (x : Xfer) (off len : Nat) : List Byte :=
  (cut256 off (len / 256 + 2) len).flatMap (fun c => match x.pieces.get? c.1 with | some m => plain m | none => zeros c.2)

/-- A window queue pair's request is acknowledged once every word is served (R385). -/
def State.windowDone (s : State) (qp psn : Nat) (data : List Byte) (write : Bool) : State :=
  if write then s.ethEmit qp false 0 (.ack psn)
  else
    let m := s.pmtu (s.qpPort qp)
    (List.range (ceilDiv data.length m)).foldl (fun s k =>
      let bs := (data.drop (m * k)).take m
      s.ethEmit qp false bs.length (.readResponse ((psn + k) % 2 ^ 24) bs)) s


/-- Every answer of a transfer is in. -/
def State.xferDone (s : State) (x : Xfer) : State :=
  let st := x.status
  match x.owner with
  | .none => s
  | .completion q _ _ => s.completionWritten q st
  | .adopted t q d => s.adoptedWritten t q d st
  | .phaseLoad t => s.dataLoaded t x
  | .phaseStore t => s.dataStored t st
  | .phaseAtomic t i => s.batchAnswered t i x
  | .batchPrep t => s.batchPrepared t x
  | .batchRead t => s.batchLoaded t x
  | .batchStore t => s.batchStored t
  | .sendSlots q qp psn tail => s.sendDone q qp psn tail st
  | .dmaLoad n k => s.dmaLoaded n k x
  | .dmaStore n k => s.dmaStored n k st
  | .dmaAtomic n k i => s.dmaAtomicDone n k i x
  | .dmaStage n k i c => s.dmaStaged n k i c st
  | .dmaCommit n k i => s.dmaCommitted n k i st
  | .rdmaRead qp psn va len => s.rdmaReadDone qp psn va len x
  | .rdmaWrite qp psn va len => s.rdmaWriteDone qp psn va len st
  | .rdmaAtomic qp psn va => s.rdmaAtomicDone qp psn va (plain x.data) st
  | .seatLoad y => s.xferLoaded y x.data st
  | .seatStore y => s.xferStored y st
  | .tileLoad t i => s.tileLoaded t i x
  | .tileStage t i c => s.tileStaged t i c st
  | .tileCommit t i => s.tileCommitted t i st
  | .kernelImage t => s.launchImage t x
  | .kernelArgs t => s.launchArgs t x
  | .attend t sq h c stage => if stage = 4 then s.attStored t sq h st else s.attLoaded t sq h c stage x
  | .poolIndex t => s.poolIndexDone t x
  | .poolRows src ph => s.poolRowsDone src ph x
  | .poolOut t => s.poolOutDone t st
  | .search t stage q => if stage = 7 then s.searchStored t st else s.searchLoaded t stage q x
  | .collSource t k c => s.collSourceDone t k c x.data st
  | .collStore t p => s.collStored t p st
  | .reconstruct p pieces => s.serveReconstructed p pieces x
  | .rebuilt p => s.rebuiltAnswer p x
  | .repair p n => s.repaired p n x
  | .lineFetch e st => (s.lineFetched e st x).pump
  | .parityUnit c n => s.parityUnitDone c n x
  | .unitCopy t => s.unitCopied t x
  | .windowAccess qp psn off len write => s.windowDone qp psn (x.windowBytes off len) write

/-- Whether a transfer can be finished: its answers are in, no earlier SEND to the same queue is still being written (R382), and a phase that
looks up extents next need not wait for an ETC invalidation (R149). -/
def State.xferReady (s : State) (x : Xfer) : Bool :=
  let looksUp (t : Nat) : Bool := (s.workOf t).any (fun w => s.ctxHeld w.ctx)
  x.left == 0 && (match x.owner with
    | .batchPrep t => !looksUp t
    | .search t stage _ => stage == 7 || !looksUp t
    | .sendSlots q _ _ _ => !s.fab.xfers.any (fun y => decide (y.id < x.id) && (match y.owner with | .sendSlots r _ _ _ => r == q | _ => false))
    | _ => true)

/-- Finish the transfers whose answers are all in, oldest first. -/
def State.finishXfers (s : State) : Nat → State
  | 0 => s
  | fuel + 1 =>
    match s.fab.xfers.find? s.xferReady with
    | none => s
    | some x => (({ s with fab.xfers := s.fab.xfers.filter (fun y => y.id != x.id) } : State).xferDone x).finishXfers fuel

/-- Deliver the answers of requests that ended at their source. -/
def State.deliverAnswers (s : State) : State :=
  s.fab.answers.foldl (fun s a => (s.answerWaiter a.1 { a.2 with op := a.2.op - 0x80 } a.2)) { s with fab.answers := [] }

/-! ### Journal entries that take effect (R106, R107, R112) -/

/-- Whether an entry may take effect: its mirror has acknowledged it, or it was written with SINGLE. JSEQ 0 is acknowledged when no request that
carries it is open. -/
def State.entryCovered (s : State) (e : JEntry) : Bool :=
  e.single || (decide (e.jseq ≤ s.fld F.JNL_ACKED_JSEQ) && (e.jseq != 0
    || (!s.noMirror && !(s.fab.reqs ++ s.fab.waiting).any (fun r => r.waiter == .journal 0))))

/-- A PHASE entry takes effect: the tags of the request's earlier phases retire (R117), and the phase is offered to its holder (R118); a resumed
request has recovered with the first later phase (R123). -/
def State.phaseEffect (s : State) (e : JEntry) : State :=
  match s.works.find? (fun w => w.tag == e.tag && w.phase == e.phase && w.stage == .committing) with
  | none => s
  | some w =>
    let s := s.retireTags w false
    let s := s.modWork w.tag (fun w => { w with
      stage := .offered, heardAt := s.now, recovering := w.recovering.filter (fun k => decide (w.phase < k)) })
    if s.isSelf w.holder then s else s.jnlCtrl w.holder jcHANDOFF w.tag w.phase

/-- The member that a request's final completion is stored to; none for a ring that takes no store. -/
def State.finalDev (s : State) (w : Work) : Option Nat :=
  let (k, kind, cq, c) := s.cqOf w
  if kind = 1 then none
  else if s.isSelf w.origin then some (dgaDev (s.queue w.queue).cqDga)
  else (s.lostTranslate c (cq + 32 * (s.nextIndex w % 2 ^ (k + 1)))).map (fun x => dgaDev x.1)

/-- Whether an entry that is covered waits for the member's entry into the domain: a completion of a resumed request is a transaction (R125). -/
def State.effectHeld (s : State) (e : JEntry) : Bool :=
  e.kind == jkRETIRE && e.cqValid && (match s.works.find? (fun w => w.tag == e.tag && w.stage == .retiring) with
    | some w => s.memberState s.devnum == .joining || (s.finalDev w).any (fun d => s.memberState d == .joining && s.joinHeld d)
    | none => false)

/-- An entry takes effect; a copy made for CARRY_FORWARD frees the slot of its original. -/
def State.entryEffect (s : State) (e : JEntry) : State :=
  if e.carried then s.carriedEffect e
  else if e.kind = jkDESCRIPTOR then s.accept e.tag
  else if e.kind = jkPHASE then s.phaseEffect e
  else if e.kind = jkRETIRE then s.retireEffect e
  else if e.kind = jkQUEUE_CFG then s.queueCfgEffect e
  else if e.kind = jkCONTEXT_CFG then s.contextEffect e
  else if e.kind = jkPARTIAL_IMAGE then (if s.sil.lastChunk = some e.jseq then s.partialCommitted else s)
  else if e.kind = jkREBIND then s.rebindEffect e
  else s

/-- Whether an entry that waits may take effect now; one that is no longer in the ring has nothing to wait for. -/
def State.effectDue (s : State) (j : Nat) : Bool :=
  match s.jnl.ring.get? j with
  | none => true
  | some e => s.entryCovered e && !s.effectHeld e

/-- The entries that are covered take effect, in JSEQ order: one with SINGLE does not wait for those before it that are not (R112). -/
def State.journalEffects (s : State) : Nat → State
  | 0 => s
  | fuel + 1 =>
    match s.jnl.toEffect.find? s.effectDue with
    | none => s
    | some j =>
      let due := s.jnl.ring.get? j
      let s : State := { s with jnl.toEffect := s.jnl.toEffect.filter (· != j) }
      (match due with | some e => s.entryEffect e | none => s).journalEffects fuel

/-! ### Requests that start and phases that run (R115, R116, R118, R122, R125) -/

/-- The check of a descriptor by its opcode (R103); on a queue bound to a disabled context it ends with `ACCESS` at step 4 (R132). -/
def State.checkDesc (s : State) (c : Nat) (d : List Byte) : DescCheck :=
  let op := field d 0 1
  let own : DescCheck :=
    if op = dFILL ∨ op = dCOPY ∨ op = dCOMPARE then s.checkData c d
    else if op = dTILE_MOVE ∨ op = dTILE_PUBLISH then s.checkTile c d
    else if op = dATOMIC_BATCH then s.checkBatch c d
    else if op = dEMBED_POOL then s.checkPool c d
    else if op = dSEARCH then s.checkSearch c d
    else if op = dCOLLECTIVE then s.checkColl c d
    else if op = dKERNEL_LAUNCH then s.checkLaunch c d
    else if op = dATTEND then s.checkAttend c d
    else if op = dSTEP then checkStep s c d
    else if op = dFENCE then s.checkFence c d
    else if op = dREVOKE then s.checkRevoke c d
    else none
  if s.ctxEnabled c then own
  else match own with
    | some f => if f.status = .badDescriptor ∨ f.status = .stateConflict then some f else some { status := .access, result := 0 }
    | none => some { status := .access, result := 0 }

/-- REVOKE fixes its named extent with its first commit (R157, R158); an adopted one takes it from the lost member's table. -/
def State.revokePlan (s : State) (w : Work) : State :=
  let named := if s.isSelf w.origin then s.revokeNamed w.desc
    else match s.lostConvert w.ctx (field w.desc 8 8) 1 with
      | some v => s.lostExtent (field w.desc 4 2) v
      | none => none
  let commit (s : State) (dga pages : Nat) : State := s.commitPhase w.tag 0 (natLe 8 dga ++ natLe 8 pages)
  match w.found, named with
  | some dga, _ => commit s dga w.result
  | none, some e => commit (s.modWork w.tag (fun w => { w with found := some e.dga, result := e.pages })) e.dga e.pages
  | none, none => s.outcome w.tag .done 0

/-- Plan the next phase of a request that may go on. -/
def State.planWork (s : State) (w : Work) : State :=
  let op := w.opcode
  if op = dFILL ∨ op = dCOPY ∨ op = dCOMPARE then s.dataPlan w
  else if op = dTILE_MOVE ∨ op = dTILE_PUBLISH then s.tilePlan w
  else if op = dATOMIC_BATCH then s.batchPlan w
  else if op = dEMBED_POOL then s.poolStart w
  else if op = dSEARCH then s.searchPlan w
  else if op = dCOLLECTIVE then s.collStart w
  else if op = dKERNEL_LAUNCH then s.launchPlan w
  else if op = dATTEND then s.attendPlan w
  else if op = dREVOKE then s.revokePlan w
  else s.commitPhase w.tag 0 (zeros 64)

/-- Whether a request may commit its next phase: this member is ACTIVE, its turn has come (R115), and no engine works on it already. -/
def State.startable (s : State) (w : Work) : Bool :=
  w.stage == .waiting && w.tag != refusedTag && s.memberState s.devnum == .active && s.mayStart w
    && !(w.opcode == dEMBED_POOL && (s.poolRun w.tag).isSome) && !(w.opcode == dCOLLECTIVE && (s.collRun w.tag).isSome)

/-- Whether an offered phase may run here: this member holds it, and no member that a resumed request addresses is waited for (R125). -/
def State.runnable (s : State) (w : Work) : Bool :=
  w.stage == .offered && s.isSelf w.holder && s.memberState s.devnum == .active
    && !(w.recovering.isSome && w.refs.any (fun r => s.joinHeld (dgaDev r.dga)))

/-- A phase held here begins. -/
def State.runPhase (s : State) (w : Work) : State :=
  let s := s.modWork w.tag (fun w => { w with stage := .running, heardAt := s.now })
  let op := w.opcode
  let t := w.tag
  if op = dFILL ∨ op = dCOPY ∨ op = dCOMPARE then s.dataPhase t
  else if op = dTILE_MOVE ∨ op = dTILE_PUBLISH then s.tilePhase t
  else if op = dATOMIC_BATCH then s.batchPhase t
  else if op = dEMBED_POOL then s.poolPhase t
  else if op = dSEARCH then s.searchPhase t
  else if op = dCOLLECTIVE then s.collPhase t
  else if op = dKERNEL_LAUNCH then s.launchPhase t
  else if op = dATTEND then s.attendPhase t
  else if op = dREVOKE then s.revokePhase t
  else s.fenceOrStep t

/-- Run every phase that may run and plan every request that may start, each as it then stands. -/
def State.advanceWorks (s : State) : State :=
  let tags := s.works.map (fun w => w.tag)
  tags.foldl (fun s t =>
    match s.works.find? (fun w => w.tag == t && t != refusedTag) with
    | none => s
    | some w => if s.runnable w then s.runPhase w else if s.startable w then s.planWork w else s) s

/-! ### Settling -/

/-- Every running request that an engine has brought further goes on. -/
def State.settleEngines (s : State) : State :=
  let s := (s.coll.runs.map (fun r => r.tag)).foldl State.collSettle s
  let s := (s.emb.runs.map (fun r => r.tag)).foldl State.poolSettle s
  let s := (s.jnl.batches.map (fun r => r.tag)).foldl State.batchSettle s
  let s := (s.xlt.revokes.map (fun r => r.tag)).foldl State.revokeSettle s
  let s := (s.qnc.attends.map (fun r => r.tag)).foldl State.settleAttend s
  let s := if s.qnc.launches.isEmpty then s else s.settleLaunches
  (s.settleWorkFences.settleFences).poolRelease

/-- What waited for memory, translation, grants or a rebinding goes on. -/
def State.settleWaits (s : State) : State :=
  let s := s.sweepExtents.writeTables.rebindSettle.admitSettle
  let s := s.homeResetSettle.recoverSettle.hostPump
  let s := (List.range 16).foldl State.dmaResume s.grantCores.searchWake
  let s := (s.shootCheck .a).shootCheck .b
  let s := s.retryHeld.releaseWaiting.releaseAnswers.sendMirrors.settleRetirements
  let s := if s.home.events.any (fun e => !e.begun) then s.pump else s
  let isBlock (p : Packet) : Bool := p.op == opBLOCK_WRITE || p.op == opBLOCK_READ
  let blocks := s.tier.heldRequests.filter isBlock
  let s : State := { s with tier.heldRequests := s.tier.heldRequests.filter (fun p => !isBlock p) }
  blocks.foldl (fun s p => if p.op = opBLOCK_WRITE then s.blockWrite p else s.blockRead p 0) s

/-- One pass over everything that a step may have set going. -/
def State.settlePass (s : State) : State :=
  let s := s.deliverAnswers
  let s := s.finishXfers (s.fab.xfers.length + 64)
  let s := s.journalEffects (s.jnl.toEffect.length + 64)
  let s := s.advanceWorks
  s.settleEngines.settleWaits

/-- Whether another pass would find something ready. -/
def State.unsettled (s : State) : Bool :=
  !s.fab.answers.isEmpty || s.fab.xfers.any s.xferReady || s.works.any (fun w => s.runnable w || s.startable w)
    || s.jnl.toEffect.any s.effectDue || s.hostReady.any (fun q => decide (q < windowQp))

def State.settleLoop (s : State) : Nat → State
  | 0 => s
  | fuel + 1 =>
    let s := s.settlePass
    if s.unsettled then s.settleLoop fuel else s

/-- Nothing in the machine waits for anything that a step could set going. -/
def State.quiet (s : State) : Bool :=
  s.works.isEmpty && s.jnl.ring.isEmpty && s.jnl.toEffect.isEmpty && s.jnl.batches.isEmpty
    && s.fab.xfers.isEmpty && s.fab.answers.isEmpty && s.fab.waiting.isEmpty && s.fab.fences.isEmpty && s.fab.retire.isEmpty
    && s.xlt.shootA.isNone && s.xlt.shootB.isNone && s.xlt.revs.isEmpty && s.xlt.revokes.isEmpty && s.xlt.heldLookups.isEmpty
    && s.xlt.extents.all (fun e => e.state == .valid)
    && s.xlt.dirty.isEmpty && s.xlt.counted.isEmpty && s.coll.runs.isEmpty && s.emb.runs.isEmpty && s.vs.runs.isEmpty
    && s.qnc.launches.isEmpty && s.qnc.units.isEmpty && s.qnc.attends.isEmpty
    && s.tier.heldAnswers.isEmpty && s.tier.heldRequests.isEmpty && s.tier.inFlight.all (fun w => w.todo.isEmpty) && s.home.events.all (fun e => e.begun)
    && s.eth.qps.all (fun e => e.2.waiting.isEmpty) && s.ras.rebindHold.isNone && s.ras.running.isEmpty && !(s.recovering && s.ringThere) && s.admitting != adSWAPPING

/-- Everything that a step has made ready takes place with it: answers are delivered, journal entries take effect, requests start, phases run, and
what waited for resources proceeds, at most 64 rounds with one step. -/
def State.settle (s : State) : State :=
  let s := if s.quiet then s else (s.settleLoop 64).carryForward.pruneRing
  s.enterWaiting.refreshDrr

end Sys2Proof.Machine
end

