-- ==== Sys2Proof/Machine/Access.lean ====
section
/-! DEFINITION. The management window as a seat, a host, another member and the TAP reach it (spec/00 R11 to R16, R20; spec/01 R40, R41;
spec/03 R79, R85, R90 to R92; spec/14 R385; spec/18 R468): which register an offset names, what a read returns, what a write does. -/

namespace Sys2Proof.Machine

/-! ### The register at an offset -/

/-- The register tables of the block that an offset lies in. -/
def regsAt (off : Nat) : List RegDef :=
  if off < 0x10000 then regsCtl else if off < 0x20000 then regsSil else if off < 0x30000 then regsWq else if off < 0x40000 then regsJnl
  else if off < 0x60000 then regsXlt else if off < 0x80000 then regsTier else if off < 0xC0000 then regsQnc else if off < 0xE0000 then regsFab
  else if off < 0x100000 then regsSws else if off < 0x120000 then regsHome else if off < 0x130000 then regsColl
  else if off < 0x140000 then regsEmb else if off < 0x160000 then regsVs else if off < 0x180000 then regsEth
  else if off < 0x1A0000 then regsRas else if off < 0x1C0000 then regsSec else if off < 0x1E0000 then regsPwr else regsTst

/-- Whether a register, or one of its array, stands at an offset. -/
def RegDef.hit (r : RegDef) (off : Nat) : Bool :=
  decide (r.off ≤ off) && (off - r.off) % r.stride == 0 && decide ((off - r.off) / r.stride < r.count)

/-- The register at an offset, its fields moved to that offset; none: reserved bits only (R13). -/
def regDefAt (off : Nat) : Option RegDef :=
  ((regsAt off).find? (fun r => r.hit off)).map (fun r => { r with off := off, fields := r.fields.map (fun f => { f with off := off }) })

/-- The copy of a register that a seat reaches: its own, or the one its selector names. -/
def State.bankOf (s : State) (x : SeatId) : Scope → Nat
  | .member => 0
  | .chan => 0
  | .seat => x.idx
  | .sel f => s.fld f x.idx

/-- The semaphore that guards a register's RWL fields (R15, R86). -/
def RegDef.sem (r : RegDef) : Option Nat := r.fields.findSome? (fun f => match f.acc with | .rwl n => some n | _ => none)

def Fld.written (f : Fld) : Bool := match f.acc with | .rw => true | .rwl _ => true | _ => false

/-! ### What a read returns

Most fields stand in the register file.  These show state that is kept elsewhere. -/

/-- Word `k` of a byte string. -/
def wordOf (bs : List Byte) (k : Nat) : Nat := field bs (8 * k) 8

def CoreState.code : CoreState → Nat
  | .off => 0 | .waking => 1 | .idle => 2 | .kernel => 3 | .attend => 4 | .faulted => 5 | .resetting => 6

/-- The queue of a request, of this custodian or held for another. -/
def State.queueOfTag (s : State) (tag : Nat) : Nat :=
  match s.works.find? (fun w => w.tag == tag) with
  | some w => w.queue
  | none => match s.jnl.held.find? (fun h => h.tag == tag) with | some h => h.entry.queue | none => 0

/-- `QNC_STATE`, `QNC_KERNEL` and `QNC_SCALAR` of core `n`. -/
def State.coreView (s : State) (n reg lo : Nat) : Option Nat :=
  let k := s.core n
  let tag := match k.launch, k.attend with | some t, _ => some t | none, some a => some a.1 | none, none => none
  let sl := s.sliceOfCore n
  if reg = 0 then
    if lo = 0 then some k.state.code
    else if lo = 20 then some (match sl with | some e => e.2.partition | none => 0)
    else if lo = 32 then some (match sl with | some e => e.1 | none => 0)
    else some (match tag with | some t => s.queueOfTag t | none => 0)
  else if reg = 8 then
    some (if k.state = .kernel then (match k.launch with
      | some t => (match s.qnc.launches.find? (fun l => l.tag == t) with | some l => l.kernelId | none => 0)
      | none => 0) else 0)
  else if reg = 0x10 then some (if lo = 0 then k.pc else k.ticket)
  else none

/-- `CTL_CHAN_n`. -/
def State.chanView (s : State) (n lo : Nat) : Nat :=
  match s.ctl.entries.get? n with
  | none => 0
  | some e =>
    let (kind, dev, port, qpn) : Nat × Nat × Nat × Nat := match e.chan with
      | .rdma p q => (0, s.devnum, p, q)
      | .forwarded d p q => (1, d, p, q)
      | .i3c => (2, 0, 0, 0)
    if lo = 40 then qpn else if lo = 34 then dev else if lo = 32 then port else if lo = 4 then kind else e.seat.code

/-- The open claim buffer of a channel. -/
def State.claimBuf (s : State) (ch : ChanId) : Option (Nat × ClaimBuf) := s.ctl.bufs.find? (fun b => b.2.chan == ch)

/-- The CTL registers that show seats, channels, claims and semaphores. -/
def State.ctlView (s : State) (ch : ChanId) (off lo : Nat) : Option Nat :=
  let owner (x : SeatId) : List Byte := if (s.seat x).state = .unbound then [] else (s.seat x).identity
  if off = 0x08 then
    some (if lo = 44 then s.ctl.channelsOf .b else if lo = 40 then s.ctl.seatB.state.code else if lo = 36 then s.ctl.channelsOf .a
      else if lo = 32 then s.ctl.seatA.state.code else match s.seatOf ch with | some x => x.code | none => 0)
  else if off = 0x28 ∨ off = 0x30 then
    let b := if off = 0x28 then 0 else 1
    some (if lo = 40 then s.fld F.CTL_SEAT_ERR_OFFSET b else if lo = 32 then s.fld F.CTL_SEAT_ERR_STATUS b
      else if lo = 26 then s.fld F.CTL_SEAT_ERR_CHANNEL b else s.fld F.CTL_SEAT_ERR_COUNT b)
  else if 0x40 ≤ off ∧ off < 0x70 then some (if s.fld F.SEC_STATE_PUF = 1 then wordOf s.ownIdentity ((off - 0x40) / 8) else 0)
  else if 0x80 ≤ off ∧ off < 0xA0 then some (match s.claimBuf ch with | some b => wordOf b.2.nonce ((off - 0x80) / 8) | none => 0)
  else if off = 0xA0 then
    some (match s.ctl.outcomes.find? (fun o => o.chan == ch) with
      | some o => if lo = 40 then o.status.code else if lo = 32 then o.reason else o.seq
      | none => 0)
  else if 0x200 ≤ off ∧ off < 0x230 then some (wordOf (owner .a) ((off - 0x200) / 8))
  else if 0x240 ≤ off ∧ off < 0x270 then some (wordOf (owner .b) ((off - 0x240) / 8))
  else if off = 0x230 then some (if s.ctl.seatA.state = .unbound then 0 else s.ctl.seatA.cred)
  else if off = 0x270 then some (if s.ctl.seatB.state = .unbound then 0 else s.ctl.seatB.cred)
  else if 0x300 ≤ off ∧ off < 0x380 then some (s.chanView ((off - 0x300) / 8) lo)
  else if 0x1000 ≤ off ∧ off < 0x1200 ∧ lo = 6 then
    let n := (off - 0x1000) / 8
    some (match s.semHolder n with
      | some _ => (s.ctl.semExpiry.getD n 0 - s.now) / nsPerUs
      | none => 0)
  else if 0x1000 ≤ off ∧ off < 0x1200 ∧ lo = 0 then
    some (match s.semHolder ((off - 0x1000) / 8) with | some x => x.code | none => 0)
  else if 0x4000 ≤ off ∧ off < 0x6280 then
    some (match s.claimBuf ch with | some b => b.2.staged.getD ((off - 0x4000) / 8) 0 | none => 0)
  else none

/-- The lasers of an optical engine that are on (R28, R464). -/
def State.lasersOn (s : State) (engine : Nat) : Nat :=
  maskOf ((s.ports.flatMap (fun p => (List.range (s.portWidth p)).map (fun k => (p, k)))).filterMap (fun l =>
    let m := s.logicalLane l.1 l.2
    if m % 8 = engine ∧ s.laneAllowed l.1 l.2 ∧ s.laneState l.1 l.2 ≠ .held then some (m / 8) else none))

/-- The SEC, PWR and TST registers that show keys, reports, islands and pins. -/
def State.secView (s : State) (x : SeatId) (off lo : Nat) : Option Nat :=
  let derived (bs : List Byte) (base : Nat) : Option Nat := some (if s.fld F.SEC_STATE_PUF = 1 then wordOf bs ((off - base) / 8) else 0)
  if 0x1A0010 ≤ off ∧ off < 0x1A0030 then derived (Config.identityEd s.sec.helper) 0x1A0010
  else if off = 0x1A0218 then
    some (match s.sec.keys.get? (s.fld F.SEC_KEY_SEL_PARTITION x.idx) with | some e => e.kcv | none => 0)
  else if 0x1A0418 ≤ off ∧ off < 0x1A0458 then
    some (wordOf (s.sec.evlog.getD (s.fld F.SEC_EVLOG_SEL_ENTRY x.idx) []) ((off - 0x1A0418) / 8))
  else if 0x1A1000 ≤ off ∧ off < 0x1A17A0 then derived (Config.identityMldsa s.sec.helper) 0x1A1000
  else if 0x1A2000 ≤ off ∧ off < 0x1A24A0 then derived (Config.kemKey s.sec.helper) 0x1A2000
  else if 0x1A4000 ≤ off ∧ off < 0x1A4F80 then
    some (if s.sec.forming.contains x then 0 else wordOf (s.report x) ((off - 0x1A4000) / 8))
  else if 0x1C0100 ≤ off ∧ off < 0x1C01C8 then
    let n := (off - 0x1C0100) / 8 + 1
    if lo = 48 then some (islandMhz n) else if lo = 32 then some (islandStep n) else if lo = 0 then some (s.islandState n) else none
  else if off = 0x1E0008 ∧ lo = 1 then some (Config.manufacturer % 2 ^ 11)
  else if off = 0x1E0038 ∧ lo = 10 then some (if s.fld F.PWR_START_PHASE = 7 then 0 else 1)
  else if off = 0x1E0038 ∧ lo = 11 then
    some (if s.fld F.SEC_STATE_FW = 2 ∨ s.fld F.SEC_STATE_PUF = 2 ∨ ((List.range 24).any (fun k => s.islandState (k + 1) == isHELD)) then 0
      else 1)
  else if 0x1E0100 ≤ off ∧ off < 0x1E0140 then
    let e := (off - 0x1E0100) / 8
    some (if lo = 16 then (if s.fldBit F.PWR_COMP_OPTICAL e then 1 else 0) else s.lasersOn e)
  else none

/-- The value of a field that shows state kept outside the register file. -/
def State.viewOf (s : State) (x : SeatId) (ch : ChanId) (off lo : Nat) : Option Nat :=
  if off < 0x10000 then s.ctlView ch off lo
  else if 0x18000 ≤ off ∧ off < 0x20000 then some (s.sil.staging.getD (s.fld F.SIL_STAGE_PAGE_PAGE * 4096 + (off - 0x18000) / 8) 0)
  else if 0x80000 ≤ off ∧ off < 0xC0000 then s.coreView ((off - 0x80000) / 0x4000) ((off - 0x80000) % 0x4000) lo
  else if off = 0x40008 ∧ lo = 20 then some (s.partOfCtx (s.fld F.XLT_CTX_SEL_CTX x.idx))
  else if off = 0xE0108 then
    let p := s.fld F.SWS_PORT_SEL_PORT x.idx
    some (if lo = 48 then s.portRateShown p else if lo = 40 then s.portGuard p else portKind p)
  else if off = 0xE0228 then
    let c := (s.shaper (s.fld F.SWS_SHAPER_SEL_SHAPER x.idx)).fillTo s.now
    some (if lo = 56 then c.mode else if lo = 24 then c.peak / 10 else c.committed / 10)
  else if 0x140000 ≤ off ∧ off < 0x14C000 ∧ (off - 0x140000) % 0x800 = 0 ∧ (lo = 28 ∨ lo = 40) then
    some (match s.sliceOfFlash ((off - 0x140000) / 0x800) with | some e => if lo = 40 then e.1 else e.2.partition | none => 0)
  else if off = 0x160238 ∧ lo = 40 then some (qpnOf (s.fld F.ETH_QP_SEL_QP x.idx))
  else if off = 0x160510 then some s.domainTime
  else if 0x180018 ≤ off ∧ off < 0x180058 then
    some (match s.ras.log.get? (s.fld F.RAS_LOG_SEL_SEQ x.idx) with | some r => wordOf r.bytes ((off - 0x180018) / 8) | none => 0)
  else if 0x1A0000 ≤ off then s.secView x off lo
  else none

/-- What a field reads as; a write-only field reads as 0 (R14). -/
def State.readField (s : State) (x : SeatId) (ch : ChanId) (bank : Nat) (f : Fld) : Nat :=
  if f.acc = .wo then 0
  else match s.viewOf x ch f.off f.lo with
    | some v => v % 2 ^ f.width
    | none => s.fld f bank

/-- The word a register reads as, reserved bits 0 (R13). -/
def State.readWord (s : State) (x : SeatId) (ch : ChanId) (off : Nat) : Nat :=
  match regDefAt off with
  | none => 0
  | some r => r.fields.foldl (fun v f => v + s.readField x ch (s.bankOf x r.scope) f * 2 ^ f.lo) 0

/-- A read returns the RC fields of a register to their reset values (R14, R16). -/
def State.clearRead (s : State) (x : SeatId) (off : Nat) : State :=
  match regDefAt off with
  | none => s
  | some r =>
    let bank := s.bankOf x r.scope
    r.fields.foldl (fun s f => if f.acc = .rc then s.clearF f bank else s) s

/-- The registers an unbound channel may read (R79). -/
def unboundMayRead (off : Nat) : Bool :=
  decide (off < 0x10 ∨ (0x40 ≤ off ∧ off < 0x70) ∨ (0x80 ≤ off ∧ off < 0xA8) ∨ (0x4000 ≤ off ∧ off < 0x6280))

/-- One 64-bit word read over a channel. -/
def State.windowReadWord (s : State) (ch : ChanId) (off : Nat) : Nat × State :=
  match s.ctl.entryOf ch with
  | some (_, e) =>
    let s := s.touch ch
    (s.readWord e.seat ch off, s.clearRead e.seat off)
  | none =>
    if unboundMayRead off then (s.readWord .a ch off, s) else (0, s.claimOutcome ch .access 0x0C)

/-! ### What a write does -/

/-- A write of a channel's claim buffer (`CTL_CLAIM_APERTURE`).  One that comes while the submitted record is being checked is refused like one
without an open claim, the model's choice (log entry 26). -/
def State.claimWrite (s : State) (ch : ChanId) (word v : Nat) : State :=
  match s.claimBuf ch with
  | some (k, b) =>
    if b.submitted then s.claimOutcome ch .stateConflict 0x09
    else { s with ctl.bufs := s.ctl.bufs.put k { b with staged := b.staged.store word v 0 } }
  | none => s.claimOutcome ch .stateConflict 0x09

/-- A write of `XLT_CTX_CFG` (R137): a change of MODE or LOG2_CAP in force is refused; ENABLE enables or disables. -/
def State.ctxCfgWrite (s : State) (x : SeatId) (entry v : Nat) : State :=
  let c := s.fld F.XLT_CTX_SEL_CTX x.idx
  let mode := bitsOf v 1 1
  let cap := bitsOf v 4 5
  if (s.ctxEnabled c || s.contextChanging c) = true ∧ (mode ≠ s.fld F.XLT_CTX_CFG_MODE c ∨ cap ≠ s.fld F.XLT_CTX_CFG_LOG2_CAP c) then
    s.seatErr x entry offCtxCfg .stateConflict
  else
    let s := (s.setF F.XLT_CTX_CFG_MODE mode c).setF F.XLT_CTX_CFG_LOG2_CAP cap c
    let s := if v % 2 = 1 then s.contextEnable x entry else s.contextDisable x entry
    if s.ctl.refused then s else s.noteWrite x (c * 2 ^ 24 + offCtxCfg)

/-- `HOME_APORT_CMD` (R287). -/
def State.aportCmd (s : State) (x : SeatId) (entry op a : Nat) : State :=
  let off := 0x100200
  let st := s.aportState a
  if op = 0 then s
  else if op = 3 then s.seatErr x entry off .badDescriptor
  else if (op = 1 ∧ st ≠ apATTACHED) ∨ (st ≠ apATTACHED ∧ st ≠ apFLUSHING) then s.seatErr x entry off .stateConflict
  else if op = 1 then s.flushAport a true
  else s.expelAport a true (fun s => s.holdPort (0x40 + a))

/-- Store a word of a seat's import record (`SEC_IMPORT`). -/
def State.importWrite (s : State) (x : SeatId) (word v : Nat) : State :=
  match x with
  | .a => { s with sec.importA := s.sec.importA.store word v 0 }
  | .b => { s with sec.importB := s.sec.importB.store word v 0 }

/-- What a write of a command register does: the semaphore that guards it, and its effect; none: a register without a command. -/
def commandAt (off v : Nat) (env : WriteEnv) : Option (Option Nat × (SeatId → Nat → State → State)) :=
  let b (lo w : Nat) : Nat := bitsOf v lo w
  let refuse (st : Status) (x : SeatId) (n : Nat) (s : State) : State := s.seatErr x n off st
  let idle (_ : SeatId) (_ : Nat) (s : State) : State := s
  if off = 0x100 then some (none, fun x n s => s.semCmd x n (b 0 2) (b 8 6) (b 16 16))
  else if off = 0x10008 then
    let op := b 0 4
    some (some 0, fun x n s =>
      if op = 1 then s.silBegin x n .noImage else if op = 2 then s.silBegin x n .running else if op = 3 then s.silCommit x n
      else if op = 4 then s.silAbort x n else s.silOther x n op)
  else if 0x18000 ≤ off ∧ off < 0x20000 then some (some 0, fun x n s => s.apertureWrite x n ((off - 0x18000) / 8) v)
  else if off = 0x20028 then
    some (none, fun x n s => if b 0 2 = 1 then s.queueEnable x n else if b 0 2 = 2 then s.queueDisable x n
      else if b 0 2 = 3 then s.queueClearError x n else s)
  else if off = 0x40008 then some (none, fun x n s => s.ctxCfgWrite x n v)
  else if off = 0x40120 then
    some (none, fun x n s => if b 0 2 = 0 then s else if b 0 2 = 1 then s.mapCmd x else refuse .badDescriptor x n s)
  else if off = 0x40138 then
    some (none, fun x n s => if b 0 3 = 0 then s else if b 0 3 = 1 then s.unmapRange x else if b 0 3 = 2 then s.unmapContext x
      else if b 0 3 = 3 then s.releaseMember x (b 8 6) else refuse .badDescriptor x n s)
  else if off = 0x83008 then some (some 1, if b 0 1 = 1 then fun _ _ s => s.kcacheFlush else idle)
  else if off = 0xC0218 then
    some (none, fun x n s => if b 0 2 = 1 then s.portRetrain x n (b 4 2) else if b 0 2 = 2 then s.portHoldDown x n (b 4 2)
      else if b 0 2 = 3 then s.portRelease x n (b 4 2) else s)
  else if off = 0x100200 then some (none, fun x n s => s.aportCmd x n (b 0 2) (b 8 5))
  else if off = 0xE0218 then
    some (some 0, fun x n s => if b 0 2 = 1 then s.shaperApply x else if b 0 2 = 2 then s.shaperLoad x
      else if b 0 2 = 3 then refuse .badDescriptor x n s else s)
  else if off = 0x130050 then
    some (none, fun x _ s => if b 0 3 = 0 then s else if b 0 3 = 1 then s.tableDefine x else if b 0 3 = 2 then s.tableDelete x
      else if b 0 3 = 3 then s.versionInstall x else if b 0 3 = 4 then s.versionCommit x else if b 0 3 = 5 then s.versionDiscard x
      else s.embReserved x)
  else if off = 0x160230 then
    some (none, fun x n s => if b 0 3 = 0 then s else if b 0 3 = 1 then s.qpToInit x n else if b 0 3 = 2 then s.qpToRtr x n
      else if b 0 3 = 3 then s.qpToRts x n else if b 0 3 = 4 then s.qpToError x n else if b 0 3 = 5 then s.qpToReset x
      else refuse .badDescriptor x n s)
  else if off = 0x160310 then
    some (none, fun x n s => if b 0 2 = 0 then s else if b 0 2 = 1 then s.mrRegister x (b 16 13) (b 8 3)
      else if b 0 2 = 2 then s.mrDeregister x (b 32 32) else refuse .badDescriptor x n s)
  else if off = 0x160418 then
    some (none, fun x n s => if b 0 2 = 0 then s else if b 0 2 = 3 then s.xferAbort x
      else s.xferCommand x n (decide (b 0 2 = 1)) (b 32 32) (b 16 14))
  else if off = 0x180060 then some (some 2, fun x n s => s.logClear x n (b 0 32))
  else if off = 0x180200 then
    some (none, fun x n s => if b 0 3 = 0 then s else if b 0 3 = 1 then s.resetL0 x n (b 16 13) else if b 0 3 = 2 then s.resetL1 x n (b 16 13)
      else if b 0 3 = 3 then s.resetL2 x n (b 16 13) else refuse .badDescriptor x n s)
  else if off = 0x180208 then
    some (some 0, fun x n s =>
      if b 0 3 = 0 then s.setF F.RAS_RESET_DEEP_ISLAND (b 16 5) else if b 0 3 = 1 then s.resetL3 x n (b 16 5) env.start.pufOk
      else if b 0 3 = 2 then s.resetL4 x n else if b 0 3 = 3 then s.resetL5 x n env.start else refuse .badDescriptor x n s)
  else if off = 0x180300 then
    some (some 0, fun x n s =>
      if b 0 2 = 0 then (s.setF F.RAS_ADMIT_CMD_FAILED_DEV (b 48 6)).setF F.RAS_ADMIT_CMD_SPARE_DEV (b 56 6)
      else if b 0 2 = 1 then s.admitStart x n (b 48 6) (b 56 6)
      else if b 0 2 = 2 then s.admitAbort x n else refuse .badDescriptor x n s)
  else if off = 0x1A0120 then some (none, fun x n s => if b 0 1 = 1 then s.reportGenerate x n else s)
  else if off = 0x1A0208 then
    some (some 1, fun x n s => if b 0 2 = 0 then s else if b 0 2 = 1 then s.keyInstall x else if b 0 2 = 2 then s.keyDestroy x
      else refuse .badDescriptor x n s)
  else if 0x1A6000 ≤ off ∧ off < 0x1A6500 then some (some 1, fun x _ s => s.importWrite x ((off - 0x1A6000) / 8) v)
  else if off = 0x1E0010 then
    some (some 0, fun x n s => if b 0 2 = 1 then s.testUnlock x n else if b 0 2 = 2 then s.testLock x n
      else if b 0 2 = 3 then s.testHold x n else s)
  else if off = 0x1E0018 then
    some (some 0, fun x n s =>
      let u := b 16 6
      let keep (s : State) : State := if s.ctl.refused then s else s.keepUnitCmd u (b 8 3)
      if b 0 2 = 0 then (if u ≥ 0x28 then refuse .bounds x n s else keep s) else if b 0 2 = 1 then keep (s.unitIsolate x n u)
      else if b 0 2 = 2 then s.unitTest x n u (b 8 3) else keep (s.unitRelease x n u))
  else if off = 0x1E0028 then some (none, fun x n s => s.abusSelect x n (b 16 2) (b 0 10) env.reading)
  else none

/-- Bytes of ingress buffer, in KiB, that the lossless priorities of a port need (R388). -/
def losslessKib (mask xoff : Nat) : Nat := popCount 8 mask * (xoff + 40)

/-- Why a written value is refused (R20 and the register tables); none: the write takes effect. -/
def State.writeFault (s : State) (x : SeatId) (bank off v : Nat) : Option Status :=
  let b (lo w : Nat) : Nat := bitsOf v lo w
  let range (lo w min max : Nat) : Option Status := if b lo w < min ∨ max < b lo w then some .bounds else none
  if off = 0x18 then range 0 16 10 60000
  else if off = 0x10040 then range 0 32 1000 60000000
  else if 0x20008 ≤ off ∧ off ≤ 0x20020 then (if s.queueState bank = .disabled then none else some .stateConflict)
  else if off = 0x30028 then range 0 32 10 100000
  else if 0x40010 ≤ off ∧ off ≤ 0x40028 then
    let now := s.readWord x .i3c off
    let new := match regDefAt off with | some r => r.fields.foldl (fun a f => a + b f.lo f.width * 2 ^ f.lo) 0 | none => now
    if (s.ctxEnabled bank || s.contextChanging bank) = true ∧ new ≠ now then some .stateConflict else none
  else if off = 0x40150 then range 0 32 100 10000000
  else if off = 0x60300 then ((range 16 16 100 52000).or (range 32 16 100 52000)).or (range 48 16 100 52000)
  else if 0x80000 ≤ off ∧ off < 0xC0000 ∧ (off - 0x80000) % 0x4000 = 0x28 then range 0 5 8 24
  else if 0x80000 ≤ off ∧ off < 0xC0000 ∧ (off - 0x80000) % 0x4000 = 0x40 then range 0 32 10 1000000
  else if off = 0xC0200 then (if b 0 8 ≥ 0x60 then some .badDescriptor else none)
  else if off = 0xC0300 then
    if b 32 32 < 1000 ∨ 1000000 < b 32 32 ∨ b 0 16 < 10 ∨ 10000 < b 0 16 ∨ b 32 32 ≤ b 0 16 then some .bounds else none
  else if off = 0xC0308 then range 0 13 64 4096
  else if off = 0x100000 then range 0 14 5 10000
  else if off = 0xE0008 then range 0 14 0 10000
  else if off = 0xE0100 then (if b 0 7 ≥ 124 then some .badDescriptor else none)
  else if off = 0xE0110 then ((range 0 15 5 16384).or (range 16 15 5 16384)).or (range 32 15 5 16384)
  else if off = 0xE0200 then
    (if b 0 10 ≤ 991 ∧ (b 0 3 = 0 ∨ b 0 3 = 3 ∨ b 0 3 = 4) then none else some .badDescriptor)
  else if off = 0x120000 then range 0 16 1 60000
  else if 0x130008 ≤ off ∧ off ≤ 0x130030 then
    if s.fld F.EMB_TBL_CFG_STATE bank ≠ tbUNDEFINED then some .stateConflict
    else if 0x130010 ≤ off ∧ off ≤ 0x130020 then range 0 41 0 (2 ^ 40) else none
  else if off = 0x14C000 then range 0 14 1 10000
  else if 0x160000 ≤ off ∧ off < 0x160020 then
    let p := (off - 0x160000) / 8
    if b 0 3 = 0 ∨ 5 < b 0 3 then some .badDescriptor
    else if s.eth.qps.any (fun q => s.qpPort q.1 == p && (s.qpState q.1 == .rtr || s.qpState q.1 == .rts)) then some .stateConflict
    else if 256 < losslessKib (b 8 8) (s.fld F.ETH_PFC_XOFF_KIB) then some .bounds else none
  else if off = 0x160100 then
    ((((range 32 16 1 65535).or (range 16 16 1 10000)).or (range 8 8 1 255)).or (range 0 8 24 216)).or
      (if (List.range 4).any (fun p => decide (256 < losslessKib (s.fld (F.ETH_PORT_CFG_LOSSLESS.at p)) (b 0 8))) then some .bounds else none)
  else if off = 0x160108 then
    (((range 48 16 1 4000).or (range 40 8 1 255)).or (range 24 16 1 4000)).or ((range 12 12 1 4095).or (range 0 12 1 4095))
  else if off = 0x160200 then (if b 0 14 > 8207 then some .badDescriptor else none)
  else if 0x160208 ≤ off ∧ off ≤ 0x160228 then
    if s.qpState bank ≠ .reset ∧ s.qpState bank ≠ .init then some .stateConflict
    else if off = 0x160208 ∧ bank ≥ windowQp ∧ b 14 1 = 1 then some .badDescriptor
    else if off = 0x160208 then range 35 5 1 31 else none
  else if off = 0x180120 then range 0 14 1 10000
  else if off = 0x1C0010 then (range 32 12 400 1400).or (range 0 12 250 4000)
  else if off = 0x1C0018 then range 0 7 80 105
  else none

/-- A seat's write of a register that holds values: every RW and RWL field takes its bits at once (R11, R90). -/
def State.storeWrite (s : State) (x : SeatId) (entry off v : Nat) : State :=
  match regDefAt off with
  | none => s
  | some r =>
    let bank := s.bankOf x r.scope
    let held := match r.sem with | some n => decide (s.semHolder n = some x) | none => true
    if !held then s.seatErr x entry off .semNotHeld
    else match s.writeFault x bank off v with
      | some st => s.seatErr x entry off st
      | none =>
        if !r.fields.any Fld.written then s
        else
          let s := r.fields.foldl (fun s f => if f.written then s.setF f (bitsOf v f.lo f.width) bank else s) s
          match r.scope with
          | .member => s.noteWrite x off
          | .sel _ => s.noteWrite x (bank * 2 ^ 24 + off)
          | _ => s

/-- Commands whose effect reaches work that waits: what can now go on does so within the same step. -/
def settledAt (off : Nat) : Bool :=
  [0x10008, 0x20028, 0x40008, 0x40120, 0x40138, 0xC0218, 0x100200, 0x130050, 0x160230, 0x160310, 0x160418, 0x180200, 0x180208,
    0x180300].contains off

/-- What can go on after a command at `off` goes on. -/
def State.settleAt (s : State) (off : Nat) : State := if settledAt off then s.settle else s

/-- One 64-bit word written over a channel (R79, R85, R90). -/
def State.windowWriteWord (s : State) (ch : ChanId) (off v : Nat) (env : WriteEnv) : State :=
  if 0x4000 ≤ off ∧ off < 0x6280 then (s.touch ch).claimWrite ch ((off - 0x4000) / 8) v
  else if off = 0x10 then s.seatCmd ch (v % 16)
  else match s.ctl.entryOf ch with
    | none => if 0x80 ≤ off ∧ off < 0xA8 then s else s.claimOutcome ch .access 0x0C
    | some (n, e) =>
      match commandAt off v env with
      | some (some sem, f) => (s.asHolder ch off sem f).settleAt off
      | some (none, f) => (s.asSeat ch (fun x n s => f x n { s with ctl.refused := false })).settleAt off
      | none => (s.touch ch).storeWrite e.seat n off v

/-! ### Accesses (R11, R12) -/

/-- Whether an access breaks R12. -/
def breaksR12 (off len : Nat) : Bool := decide (off % 8 ≠ 0 ∨ len % 8 ≠ 0 ∨ 0x1000000 < off + len ∨ 0x1000000 ≤ off)

/-- A read of a range: each word is read on its own, in rising order. -/
def State.windowRead (s : State) (ch : ChanId) (off len : Nat) : List Byte × State :=
  if breaksR12 off len then (zeros len, (s.touch ch).refuse ch off .access 0x0D)
  else (List.range (len / 8)).foldl (fun a k =>
    let (v, s) := a.2.windowReadWord ch (off + 8 * k)
    (a.1 ++ natLe 8 v, s)) ([], s)

/-- A write of a range. -/
def State.windowWrite (s : State) (ch : ChanId) (off : Nat) (bs : List Byte) (env : WriteEnv) : State :=
  if breaksR12 off bs.length then (s.touch ch).refuse ch off .access 0x0D
  else (List.range (bs.length / 8)).foldl (fun s k => s.windowWriteWord ch (off + 8 * k) (field bs (8 * k) 8) env) s

/-- A read whose data the model keeps for whoever asked (`ctl.lastRead`). -/
def State.windowReadShown (s : State) (ch : ChanId) (off len : Nat) : State :=
  let (bs, s) := s.windowRead ch off len
  { s with ctl.lastRead := some (ch, bs) }

/-! ### Over I3C (R92) -/

/-- A private write: a frame that reads or writes the window (R92).  A frame shorter than 6 bytes or with WORDS bits [15:12] not zero is refused
like one with a reserved OP, and bytes beyond WORDS * 8 are ignored: the spec settles neither, the model's choice (log entry 18). -/
def State.i3cFrame (s : State) (bs : List Byte) (env : WriteEnv) : State :=
  let op := field bs 0 1
  let off := field bs 1 3
  let words := field bs 4 2
  if s.ctl.i3cAddr.isNone then s
  else if (op ≠ 1 ∧ op ≠ 2) ∨ bs.length < 6 ∨ words = 0 ∨ 4096 ≤ words ∨ (op = 2 ∧ bs.length < 6 + 8 * words) then
    (s.touch .i3c).refuse .i3c off .badDescriptor 0x01
  else if op = 1 then
    let bad : Bool := breaksR12 off (8 * words)
      || ((s.seatOf .i3c).isNone && (List.range words).any (fun k => !unboundMayRead (off + 8 * k)))
    let (data, s) := s.windowRead .i3c off (8 * words)
    { s with ctl.i3cReply := some (natLe 1 (if bad then Status.access.code else Status.done.code) ++ data) }
  else s.windowWrite .i3c off (slice bs 6 (8 * words)) env

/-- A private read returns what the last read frame brought, once; without one the device does not answer. -/
def State.i3cRead (s : State) : State :=
  match s.ctl.i3cReply with
  | some bs => { s with ctl.i3cOut := bs, ctl.i3cReply := none }
  | none => { s with ctl.i3cOut := [] }

/-! ### Over a window queue pair (R40, R41, R385) -/

/-- An access forwarded to another member, in packets of at most 256 B; a FAILED number times out at once. -/
def State.windowForward (s : State) (ch : ChanId) (qp psn va : Nat) (data : Option (List Byte)) (len : Nat) : State :=
  let off := dgaOff va
  let d := dgaDev va
  match s.targetOf d 3 none with
  | .error .timeout =>
    (s.windowFailed ch off .timeout).windowDone qp psn (zeros len) data.isSome
  | .error st => s.rdmaFail qp psn st
  | .ok m =>
    let (id, s) := s.newXfer (.windowAccess qp psn off len data.isSome) 0
    let s := (cut256 va (len / 256 + 2) len).foldl (fun s c =>
      let o := c.1 - va
      let p : Packet := { op := opWINDOW_READ, vc := vcMGMT, dst := m, addr := c.1, size := c.2 - 1, aux := qpnOf qp + s.qpPort qp * 2 ^ 24 }
      let p : Packet := match data with
        | none => p
        | some bs => { p with op := opWINDOW_WRITE, sectors := sectorsOf c.1 (c.2 - 1), payload := storePayload c.1 ((bs.drop o).take c.2) }
      (s.xferWait id 1).issue p (.window ch (off + o) id)) s
    s

/-- Perform a request on a window queue pair; `data`: the bytes of a write, none for a read of `len`. -/
def State.windowServe (s : State) (qp psn va rkey : Nat) (data : Option (List Byte)) (len : Nat) (env : WriteEnv) : State :=
  let ch : ChanId := .rdma (s.qpPort qp) (qpnOf qp)
  if rkey ≠ 0 ∨ dgaWin va ≠ 3 ∨ len = 0 ∨ 4096 < len then s.rdmaFail qp psn .badDescriptor
  else if breaksR12 (dgaOff va) len then ((s.touch ch).refuse ch (dgaOff va) .access 0x0D).windowDone qp psn (zeros len) data.isSome
  else if !s.isSelf (dgaDev va) then s.windowForward ch qp psn va data len
  else match data with
    | some bs => (s.windowWrite ch (dgaOff va) bs env).windowDone qp psn [] true
    | none =>
      let (bs, s) := s.windowRead ch (dgaOff va) len
      s.windowDone qp psn bs false

/-- RDMA WRITE, on a queue pair of a context or of the window. -/
def State.rdmaWriteIn (s : State) (qp psn va rkey : Nat) (bs : List Byte) (env : WriteEnv) : State :=
  if qp < windowQp then s.rdmaWritePartner qp psn va rkey bs env
  else s.rdmaIn qp psn (s.psnsOf qp bs.length) (.write psn va rkey bs env)
    (fun s => s.windowServe qp psn va rkey (some bs) bs.length env) (fun s => s.ethEmit qp false 0 (.ack psn))

/-- RDMA READ. -/
def State.rdmaReadIn (s : State) (qp psn va rkey len : Nat) (env : WriteEnv) : State :=
  if qp < windowQp then s.rdmaReadPartner qp psn va rkey len env
  else
    let r : HostReq := .read psn va rkey len env
    let go (s : State) : State := s.windowServe qp psn va rkey none len env
    s.rdmaIn qp psn (s.psnsOf qp len) r go (fun s => s.hostTake qp r go)

/-- Perform a request on a window queue pair that had to wait. -/
def State.windowPerform (s : State) (qp : Nat) : HostReq → State
  | .write psn va rkey bs env => s.windowServe qp psn va rkey (some bs) bs.length env
  | .read psn va rkey len env => s.windowServe qp psn va rkey none len env
  | .atomic psn _ _ _ _ _ => s.rdmaFail qp psn .badDescriptor
  | .send psn _ => s.rdmaFail qp psn .badDescriptor

/-- Requests that wait at window queue pairs are performed one after another, as far as they go. -/
def State.windowPump (s : State) : Nat → State
  | 0 => s
  | fuel + 1 =>
    match s.hostReady.find? (fun q => decide (windowQp ≤ q)) with
    | some q => ((s.hostNext q (fun s r => s.windowPerform q r)).settle).windowPump fuel
    | none => s

/-- What a step has made ready takes place, at window queue pairs as well. -/
def State.settleAll (s : State) : State :=
  let s := s.settle
  s.windowPump (s.eth.qps.foldl (fun n e => n + e.2.waiting.length) 0)

/-- The channel of a forwarded access at the member it reaches (R77). -/
def Packet.channel (p : Packet) : ChanId := .forwarded p.src (bitsOf p.aux 24 2) (p.aux % 2 ^ 24)

/-- WINDOW_READ: a forwarded read is served and its data answered; while an L4 or L5 runs only the sideband serves (R42). -/
def State.windowReadIn (s : State) (p : Packet) : State :=
  if s.deepReset then s else
  let (bs, s) := s.windowRead p.channel (dgaOff p.addr) (p.size + 1)
  s.respond p .done (storePayload p.addr bs)

/-- WINDOW_WRITE of another member's seat. -/
def State.windowWriteIn (s : State) (p : Packet) (env : WriteEnv) : State :=
  if s.deepReset then s else (s.windowWrite p.channel (dgaOff p.addr) (accessBytes p) env).respond p .done

/-! ### From the TAP (R468) -/

/-- TSTWIN: the word at an offset is loaded into the data register with VALID; the TAP is no seat, and its reads clear nothing. -/
def State.tapTstwin (s : State) (off : Nat) : State :=
  if s.testAccess = taLOCKED then s.tapBypass
  else
    let shown : Bool := !breaksR12 off 8 && (match regDefAt off with | some r => r.scope == .member | none => true)
    s.tapLoad tapTSTWIN (off % 2 ^ 24 * 2 ^ 64 + (if shown then s.readWord .a .i3c off + 2 ^ 88 else 0)) 0

end Sys2Proof.Machine
end

