-- ==== Sys2Proof/Machine/Entry.lean ====
section
/-! DEFINITION. How a command reaches the block: whether the device and the islands that serve it run, the packet it brings, the channel
it comes over, and what can go on in the same step.  Every meaning in the Cmd files is one operation of the earlier files under these. -/

namespace Sys2Proof.Machine

/-- Whether the device runs: its 52 V input is present and the board does not hold it in reset (R440, R462). -/
def State.live (s : State) : Bool := s.pwr.on && s.fld F.TST_PINS_RST_N == 1

/-- An island that a part with no clock island of its own does not need. -/
def State.serves (s : State) (islands : List Nat) : Bool := s.live && islands.all s.islandOn

/-- A command acts on everything but the queue of waiting commands, and time does not go back. -/
def State.after (s t : State) : State := { t with pending := s.pending, now := max s.now t.now }

/-- A command that has its effect where `ok` holds, and none elsewhere. -/
def State.where_ (s : State) (ok : Bool) (f : State → State) : Host.Outcome State Fault Refusal :=
  .next (if ok then s.after (f s) else s)

/-- A command that needs a running device and islands that are ON; without them it has no effect (a request then waits). -/
def State.run (s : State) (islands : List Nat) (f : State → State) : Host.Outcome State Fault Refusal := s.where_ (s.serves islands) f

/-- The same, for a command after which work that waits may go on (spec/95). -/
def State.runOn (s : State) (islands : List Nat) (f : State → State) : Host.Outcome State Fault Refusal :=
  s.run islands (fun s => (f s).settleAll)

/-- A packet of the kind a command serves: the endpoint takes it, a member that holds itself FAILED refuses it (R27, R474); any other packet is
left where it is. -/
def State.serving (s : State) (p : Packet) (kind : Bool) (f : State → State) : State := if kind then (s.take p).unlessFailed p f else s

/-- A command that a seat gives over its channel (R79, R85). -/
def State.bySeat (s : State) (ch : ChanId) (f : SeatId → Nat → State → State) : State :=
  s.asSeat ch (fun x n s => f x n { s with ctl.refused := false })

/-- Island of the tier of a packet's address. -/
def tierIsland (p : Packet) : Nat := 20 + dgaWin p.addr % 3

/-- Islands that serve an access to a tier through the home agent; a tier whose island has failed its tests is served by class (R452, R166). -/
def State.homeIslands (s : State) (p : Packet) : List Nat := if s.pwr.failed.contains (tierIsland p) then [18] else [18, tierIsland p]

/-- A coherent request of one kind (R281). -/
def isCoherent (p : Packet) (kind : Nat) : Bool := (p.op == opLOAD || p.op == opSTORE) && cohKind p == kind

/-- The subkind of a REDUCE packet (R336). -/
def isReduce (p : Packet) (sub : Nat) : Bool := p.op == opREDUCE && p.aux % 8 == sub

/-- A JOURNAL_CTRL message of one kind (R118). -/
def isJournal (p : Packet) (kind : Nat) : Bool := p.op == opJOURNAL_CTRL && p.aux % 256 == kind

/-- An XLT_CTRL message of one kind. -/
def isXlt (p : Packet) (kind : Nat) : Bool := p.op == opXLT_CTRL && p.aux == kind

/-- The owner's checks of a block request (R474, R238), then its service. -/
def State.blockCheck (s : State) (p : Packet) (f : State → State) : State :=
  if p.malformed then s.respond p .badDescriptor
  else if s.isSelf (dgaDev p.addr) then
    match s.ownerFault p with
    | some st => (if st = .keyMismatch then s.keyError (endpointOf p) p.pkey else s).respond p st
    | none => f s
  else if s.dom.selfFailed then s.respond p .stateConflict
  else f s

/-- A REDUCE packet goes to Damson or Currant by its subkind (R336). -/
def State.reduceIn (s : State) (p : Packet) : State :=
  match p.aux % 8 with
  | 0 => s.contribIn p
  | 1 => s.resultIn p
  | 2 => s.digestIn p
  | 3 => s.grantIn p
  | 4 => s.collAbortIn p
  | 5 => s.poolReq p
  | 6 => s.poolPart p
  | _ => s.verDrained p

/-- The island that serves a REDUCE packet: Damson's 17, Currant's 19. -/
def reduceIsland (p : Packet) : Nat := if p.aux % 8 ≥ 5 then 19 else 17

/-- An answer of an agent to a snoop or a flush, well formed and under the key of its slice. -/
def State.agentAnswers (s : State) (ingress : Nat) (p : Packet) (crc stomp fault : Nat) : Bool :=
  isAport ingress && decide (0x90 ≤ p.op ∧ p.op ≤ 0x93 ∧ stomp = 0 ∧ fault = 0 ∧ crc = p.crc) && !p.malformed && s.portKeyOk ingress p

/-- A packet arrives at a port (R311): an agent's answer goes to its attach function (R283), any other to the switch core. -/
def State.packetIn (s : State) (ingress lane : Nat) (p : Packet) (crc stomp fault : Nat) : State :=
  if s.agentAnswers ingress p crc stomp fault then s.agentAnswer (ingress - 0x40) p else s.packetArrives ingress lane p crc stomp fault

/-- AGENT_FLUSH (R281, R288): an ATTACHED agent is told to write back its lines of one owner, or of every owner; then it is FLUSHING. -/
def State.agentFlush (s : State) (a owner : Nat) (every : Bool) : State :=
  if s.aportState a ≠ apATTACHED then s
  else if every then s.flushAport a false
  else s.toAgent a { op := 0x13, vc := vcSNOOP, addr := mkDga owner 0 0, aux := owner % 64, tag := owner % 64,
                     pkey := (match s.sliceOfAport a with | some (_, sl) => s.keyOf sl.partition | none => 0) }

/-- HOME_TIMEOUT: of a snoop, WRITEBACK or grant of an agent on a line (R285), or of a flush that an agent of this member has not answered
(R287). -/
def State.homeTimer (s : State) (agent line : Nat) : State :=
  let a := agent % 32
  match s.home.drops.find? (fun d => d.aport == a && !d.flushed) with
  | some d =>
    if s.isSelf (agent / 32) ∧ s.aportState a = apFLUSHING then
      (s.reach (d.since + s.fld F.HOME_TMO_SNOOP_US * nsPerUs)).expelAport a d.byCommand (fun s => s.holdPort (0x40 + a))
    else s.homeTimedOut agent line
  | none => s.homeTimedOut agent line

/-- An ETC invalidation completes (R149); the recalls it calls for begin (R155). -/
def State.etcInvalidated (s : State) (c va : Nat) : State :=
  let before := s.xlt.recalls
  let s := s.changeTakesEffect c va
  (s.xlt.recalls.filter (fun r => !before.contains r)).foldl (fun s r => s.startRecall r.1 r.2) s

/-- A sector of a core's tile store fails its parity: it is poisoned and recorded (R193, R403). -/
def State.tileParity (s : State) (n off : Nat) : State :=
  let k := s.core n
  let sector := off % kwinBase / 64
  (s.setCore n { k with tile := k.tile.setPoison (64 * sector) true }).logErr { unit := .qnc, status := .poison, index := n }

/-- Answers of an E-port to address resolution and echo (R376): only for its own address, while it is enabled. -/
def State.ethAnswer (s : State) (port hi lo bytes : Nat) (m : EthMsg) : State :=
  if s.ethPortOn port true ∧ s.fld (F.ETH_PORT_CFG_MAC.at port) ≠ 0 ∧ s.fld (F.ETH_PORT_GID_HI_GID.step 16 port) = hi
      ∧ s.fld (F.ETH_PORT_GID_LO_GID.step 16 port) = lo then
    { s with eth.queue := s.eth.queue ++ [⟨port, 0, 0, false, bytes, s.now, false, m⟩] }
  else s

/-- A frame an E-port does not take (R377): one whose ICRC fails, or one of a kind R376 does not list. -/
def State.ethDiscard (s : State) (port : Nat) (icrc : Bool) : State :=
  s.count ((if icrc then F.ETH_PORT_COUNT_ICRC_FAIL else F.ETH_PORT_COUNT_DISCARDED).at port)

/-- Lengths of the frames of a message of `n` payload bytes as a policer counts them: those of the fabric packet that carries as much
(log entry 58). -/
def State.frameLens (s : State) (qp n : Nat) : List Nat :=
  let m := s.pmtu (s.qpPort qp)
  (List.range (s.psnsOf qp n)).map (fun i => 40 + min m (n - i * m))


/-- An RDMA request of `n` payload bytes with its CE mark: discarded without reply where the port's policer discards a frame of it (R322), else
served, after a CNP where it is marked (R390). -/
def State.rdmaMarked (s : State) (qp n : Nat) (ce : Bool) (f : State → State) : State :=
  if !s.qpAccepts qp then f s
  else
    let port := portEth (s.qpPort qp)
    match s.policeAll port vcREQ (s.frameLens qp n) with
    | (none, s) => s
    | (some e, s) =>
      let t := f (s.sendCnp qp ce)
      if e then
        let n := (s.qpx qp).waiting.length
        let x := t.qpx qp
        (t.setQpx qp { x with waiting := (x.waiting.zipIdx).map (fun r => if n ≤ r.2 then (r.1.1, true) else r.1) }).markExcess port
          s.sws.voq.length s.fab.waiting.length
      else t

/-- The bytes of a number as the I3C bus carries them, the highest first. -/
def beBytes (n v : Nat) : List Byte := (natLe n v).reverse

/-- Dynamic address assignment (R92): a device without an address answers with its provisional ID, BCR and DCR and takes the address. -/
def State.i3cAssign (s : State) (addr : Nat) : State :=
  if s.ctl.i3cAddr.isSome then { s with ctl.i3cOut := [] }
  else { s with ctl.i3cAddr := some (addr % 128),
                ctl.i3cOut := beBytes 6 s.provisionalId ++ natLe 1 Config.i3cBcr ++ natLe 1 Config.i3cDcr }

/-- SETDASA: a device without a dynamic address takes the one given; it has no data to return. -/
def State.i3cSetDasa (s : State) (addr : Nat) : State :=
  if s.ctl.i3cAddr.isSome then { s with ctl.i3cOut := [] } else { s with ctl.i3cAddr := some (addr % 128), ctl.i3cOut := [] }

/-- GETSTATUS: two bytes whose value the spec leaves open. -/
def State.i3cStatus (s : State) : State :=
  let (v, s) := s.draw
  s.i3cAnswer (natLe 2 (Config.freeValue v))

/-- ENEC and DISEC: event bits are set or cleared. -/
def State.i3cEvent (s : State) (bits : Nat) (on : Bool) : State :=
  if s.ctl.i3cAddr.isNone then { s with ctl.i3cOut := [] }
  else { s with ctl.i3cOut := [],
                ctl.i3cEvents := if on then s.ctl.i3cEvents ||| bits % 256 else s.ctl.i3cEvents - (s.ctl.i3cEvents &&& bits % 256) }

/-- ACQUIRE, alone or in one arbiter cycle with the other seat's (R87). -/
def State.semAcquireRow (s : State) (ch : ChanId) (n lease : Nat) (other : Option (ChanId × Nat)) : State :=
  match other with
  | none => s.bySeat ch (fun x e s => s.semAcquireBy x e (n % 64) lease)
  | some (ch', lease') =>
    match s.ctl.entryOf ch, s.ctl.entryOf ch' with
    | some (e, c), some (e', c') =>
      if c.seat = .a ∧ c'.seat = .b then ((s.touch ch).touch ch').semAcquireTie (n % 64) e lease e' lease'
      else if c.seat = .b ∧ c'.seat = .a then ((s.touch ch).touch ch').semAcquireTie (n % 64) e' lease' e lease
      else (s.bySeat ch (fun x e s => s.semAcquireBy x e (n % 64) lease)).bySeat ch' (fun x e s => s.semAcquireBy x e (n % 64) lease')
    | _, _ =>
      (s.bySeat ch (fun x e s => s.semAcquireBy x e (n % 64) lease)).bySeat ch' (fun x e s => s.semAcquireBy x e (n % 64) lease')

/-- The lease of an owned semaphore runs out: time has come to its expiry (R87). -/
def State.semLeaseOver (s : State) (n : Nat) : State :=
  let n := n % 64
  if s.fld (F.CTL_SEM_OWNER.at n) = 0 then s else (s.reach (s.ctl.semExpiry.getD n 0)).semExpire n

/-- ENABLE or DISABLE of the selected context, its other fields as they stand (R137). -/
def State.ctxEnableWrite (s : State) (x : SeatId) (entry enable : Nat) : State :=
  let c := s.fld F.XLT_CTX_SEL_CTX x.idx
  s.ctxCfgWrite x entry (enable + 2 * s.fld F.XLT_CTX_CFG_MODE c + 16 * s.fld F.XLT_CTX_CFG_LOG2_CAP c)

/-- A store of a queue's ring header: the doorbell word (R97). -/
def State.doorbellRow (s : State) (q word : Nat) : State :=
  if s.queueState q = .disabled then s else s.doorbellStore q (s.queue q).ringDga (word % 2 ^ 64)

/-- A store of a queue's completion head word (R98). -/
def State.cqHeadRow (s : State) (q word : Nat) : State :=
  if s.queueState q = .disabled then s
  else
    let a := dgaCell (s.queue q).ringDga + 16
    ({ s with mem := s.mem.store (s.keyFor a) a (natLe 8 (word % 2 ^ 64)) 0 } : State).cqHeadStore q (word % 2 ^ 64)

end Sys2Proof.Machine
end

