-- ==== Sys2Proof/Machine/CmdControl.lean ====
section
/-! DEFINITION. The meanings of the commands of one family: registers, seats, channels, semaphores and the I3C sideband (spec/03, spec/00 R11 to R16).
One definition for each row. -/

namespace Sys2Proof.Machine

/-- `REGISTER_WRITE` (R90). A window write to a register that has no row of its own is checked under R12, R79 and R15 and
applied in order of arrival. -/
def execRegisterWrite (ch : ChanId) (off : Nat) (bs : List Byte) (env : WriteEnv)
    (s : State) : Host.Outcome State Fault Refusal :=
  s.run [] (fun s => s.windowWrite ch off bs env)

/-- `RC_FIELD_READ` (R14). A read of an RC field returns the accumulated value and returns the field to its reset value in the
same step. -/
def execRcFieldRead (ch : ChanId) (off len : Nat) (s : State) : Host.Outcome State Fault Refusal :=
  s.run [] (fun s => s.windowReadShown ch off len)

/-- `KEEPALIVE` (R85). KEEPALIVE from a bound channel resets its seat's liveness timer. -/
def execKeepalive (ch : ChanId) (s : State) : Host.Outcome State Fault Refusal :=
  s.run [] (fun s => s.seatCmd ch 1)

/-- `SEAT_RELEASE` (R84). RELEASE frees every semaphore and channel of the seat and makes it UNBOUND. -/
def execSeatRelease (ch : ChanId) (s : State) : Host.Outcome State Fault Refusal :=
  s.run [] (fun s => s.seatCmd ch 2)

/-- `CLAIM_BEGIN` (R83). CLAIM_BEGIN assigns a claim buffer and a fresh nonce to an unbound channel, or reports BUSY or
STATE_CONFLICT. -/
def execClaimBegin (ch : ChanId) (s : State) : Host.Outcome State Fault Refusal :=
  s.run [] (fun s => s.seatCmd ch 3)

/-- `CLAIM_SUBMIT` (R83). CLAIM_SUBMIT starts the checks of the staged claim record. -/
def execClaimSubmit (ch : ChanId) (s : State) : Host.Outcome State Fault Refusal :=
  s.run [] (fun s => s.seatCmd ch 4)

/-- `CLAIM_CHECK_DONE` (R83). The claim checks finish within 5 ms; the channel binds to the seat or the refusal is reported, and
the buffer is released. -/
def execClaimCheckDone (buffer : Nat) (internal : Bool) (s : State) : Host.Outcome State Fault Refusal :=
  s.run [] (fun s => s.claimCheck buffer internal)

/-- `CLAIM_BUFFER_TIMEOUT` (R83). A claim buffer with no CLAIM_SUBMIT for 10 s is released with TIMEOUT and REASON 0x0B. -/
def execClaimBufferTimeout (buffer : Nat) (s : State) : Host.Outcome State Fault Refusal :=
  s.run [] (fun s => s.claimTimeout buffer)

/-- `CHANNEL_CLOSE` (R80). A channel leaves its entry when its queue pair leaves RTS or its I3C address is reset, releasing any
claim buffer. -/
def execChannelClose (ch : ChanId) (s : State) : Host.Outcome State Fault Refusal :=
  s.run [] (fun s => s.closeChannel ch)

/-- `SEAT_LIVENESS_TIMEOUT` (R85). A bound seat delivers no access for the liveness timeout and becomes LOST with an error
record. -/
def execSeatLivenessTimeout (seat : SeatId) (s : State) : Host.Outcome State Fault Refusal :=
  s.run [] (fun s => s.livenessTimeout seat)

/-- `SEM_ACQUIRE` (R87). ACQUIRE takes a free semaphore with a lease, renews an owned one, or is refused BUSY. -/
def execSemAcquire (ch : ChanId) (sem lease : Nat) (other : Option (ChanId × Nat))
    (s : State) : Host.Outcome State Fault Refusal :=
  s.run [] (fun s => s.semAcquireRow ch sem lease other)

/-- `SEM_RENEW` (R87). RENEW extends the lease of a semaphore held by the seat, or is refused SEM_NOT_HELD. -/
def execSemRenew (ch : ChanId) (sem lease : Nat) (s : State) : Host.Outcome State Fault Refusal :=
  s.run [] (fun s => s.bySeat ch (fun x n s => s.semRenewBy x n (sem % 64) lease))

/-- `SEM_RELEASE` (R87). RELEASE frees a semaphore held by the seat, or is refused SEM_NOT_HELD. -/
def execSemRelease (ch : ChanId) (sem : Nat) (s : State) : Host.Outcome State Fault Refusal :=
  s.run [] (fun s => s.bySeat ch (fun x n s => s.semReleaseBy x n (sem % 64)))

/-- `SEM_LEASE_EXPIRY` (R87). A semaphore's lease expires, clearing its owner and writing a record for semaphores 0 to 3. -/
def execSemLeaseExpiry (sem : Nat) (s : State) : Host.Outcome State Fault Refusal :=
  s.run [] (fun s => s.semLeaseOver sem)

/-- `I3C_WINDOW_FRAME` (R92). A private write frame over I3C performs a window read or write, or is refused when malformed. -/
def execI3cWindowFrame (bs : List Byte) (env : WriteEnv) (s : State) : Host.Outcome State Fault Refusal :=
  s.run [] (fun s => s.i3cFrame bs env)

/-- `I3C_PRIVATE_READ` (R92). A private read returns the status byte and data of the last read frame. -/
def execI3cPrivateRead (s : State) : Host.Outcome State Fault Refusal :=
  s.run [] (fun s => s.i3cRead)

/-- `I3C_ENTDAA` (R92). The device takes part in dynamic address assignment with its provisional ID carrying its position. -/
def execI3cEntdaa (addr : Nat) (s : State) : Host.Outcome State Fault Refusal :=
  s.run [] (fun s => s.i3cAssign addr)

/-- `I3C_RSTDAA` (R80). RSTDAA resets the dynamic address, ending the sideband channel. -/
def execI3cRstdaa (s : State) : Host.Outcome State Fault Refusal :=
  s.run [] (fun s => s.i3cReset)

/-- `I3C_SETDASA` (R92). SETDASA assigns the device a dynamic address from its static address. -/
def execI3cSetdasa (addr : Nat) (s : State) : Host.Outcome State Fault Refusal :=
  s.run [] (fun s => s.i3cSetDasa addr)

/-- `I3C_GETPID` (R92). GETPID returns the 48-bit provisional ID. -/
def execI3cGetpid (s : State) : Host.Outcome State Fault Refusal :=
  s.run [] (fun s => s.i3cAnswer (beBytes 6 s.provisionalId))

/-- `I3C_GETBCR` (R92). GETBCR returns the bus characteristics register. -/
def execI3cGetbcr (s : State) : Host.Outcome State Fault Refusal :=
  s.run [] (fun s => s.i3cAnswer (natLe 1 Config.i3cBcr))

/-- `I3C_GETDCR` (R92). GETDCR returns the device characteristics register. -/
def execI3cGetdcr (s : State) : Host.Outcome State Fault Refusal :=
  s.run [] (fun s => s.i3cAnswer (natLe 1 Config.i3cDcr))

/-- `I3C_GETSTATUS` (R92). GETSTATUS returns the target status. -/
def execI3cGetstatus (s : State) : Host.Outcome State Fault Refusal :=
  s.run [] (fun s => s.i3cStatus)

/-- `I3C_ENEC` (R92). ENEC enables target events. -/
def execI3cEnec (bits : Nat) (s : State) : Host.Outcome State Fault Refusal :=
  s.run [] (fun s => s.i3cEvent bits true)

/-- `I3C_DISEC` (R92). DISEC disables target events. -/
def execI3cDisec (bits : Nat) (s : State) : Host.Outcome State Fault Refusal :=
  s.run [] (fun s => s.i3cEvent bits false)

/-- `I3C_CCC_UNSUPPORTED` (R92). Any other common command code is NACKed. -/
def execI3cCccUnsupported (_code : Nat) (s : State) : Host.Outcome State Fault Refusal :=
  s.run [] (fun s => s.i3cAnswer [])

end Sys2Proof.Machine
end

