-- ==== Sys2Proof/Machine/CmdDomain.lean ====
section
/-! DEFINITION. The meanings of the commands of one family: heartbeats, membership, lanes and management accesses (spec/01, spec/08).
One definition for each row. -/

namespace Sys2Proof.Machine

/-- `HEARTBEAT_TIMER` (R24). Every 100 µs island 25 sends a heartbeat with its link-up bitmap, time and lock state to every peer
on MGMT. -/
def execHeartbeatTimer (s : State) : Host.Outcome State Fault Refusal :=
  s.run [] (fun s => s.heartbeatTimer)

/-- `HEARTBEAT` (R34). A received heartbeat refreshes the sender's liveness, its link-up bitmap and time, and the relay choice
is re-evaluated. -/
def execHeartbeat (p : Packet) (s : State) : Host.Outcome State Fault Refusal :=
  s.runOn [] (fun s => if p.op = opHEARTBEAT then s.heartbeat p else s)

/-- `MEMBER_LOSS_TIMEOUT` (R26). The declarer has heard no heartbeat from a member for the member-loss timeout (or 40 s as
fallback) and broadcasts its loss. -/
def execMemberLossTimeout (d : Nat) (s : State) : Host.Outcome State Fault Refusal :=
  s.runOn [] (fun s => s.memberLossTimeout d)

/-- `MEMBER_DECLARE` (R26). A received declaration sets the number FAILED, closes routing and triggers custody, redirection,
drops and aborts. -/
def execMemberDeclare (p : Packet) (s : State) : Host.Outcome State Fault Refusal :=
  s.runOn [] (fun s => if p.op = opMEMBER_DECLARE then s.memberDeclare p else s)

/-- `IDENTITY_EXCHANGE` (R25). An identity exchange with a peer verifies identity, SERIAL, DOMAIN_ID and P2 layout and moves its
member state. -/
def execIdentityExchange (d : Nat) (peer : PeerInfo) (s : State) : Host.Outcome State Fault Refusal :=
  s.runOn [] (fun s => s.identityExchange d peer)

/-- `LANE_TRAINING_DONE` (R46). A lane finishes training and its announced position and lane number are checked against R29 and
R30. -/
def execLaneTrainingDone (port lane position number cls : Nat) (s : State) : Host.Outcome State Fault Refusal :=
  s.runOn [23] (fun s => s.laneTrainingDone port lane position number cls)

/-- `LANE_DOWN` (R255). A lane is taken down for retraining; the port goes down with its last lane, the old path is declared
dead and traffic re-routes. -/
def execLaneDown (port lane : Nat) (s : State) : Host.Outcome State Fault Refusal :=
  s.runOn [23] (fun s => s.laneLost port lane)

/-- `LANE_RETRAIN_DONE` (R32). A retraining lane comes back up and its port regains rate or returns up. -/
def execLaneRetrainDone (port lane position number : Nat) (s : State) : Host.Outcome State Fault Refusal :=
  s.runOn [23] (fun s => s.laneRetrainDone port lane position number)

/-- `MGMT_ACCESS_TIMEOUT` (R41). A remote management access with no response within the management timeout completes with
TIMEOUT. -/
def execMgmtAccessTimeout (tag : Nat) (s : State) : Host.Outcome State Fault Refusal :=
  s.runOn [] (fun s => s.mgmtAccessTimeout tag)

/-- `JOINING_WAIT_TIMEOUT` (R125). A resumed transaction that waits on a JOINING number for one member-loss timeout after the
member entered ACTIVE is handled under R36. -/
def execJoiningWaitTimeout (s : State) : Host.Outcome State Fault Refusal :=
  s.runOn [] (fun s => s.joiningWaitTimeout)

end Sys2Proof.Machine
end

