-- ==== Sys2Proof/Machine/CmdEthernet.lean ====
section
/-! DEFINITION. The meanings of the commands of one family: E-ports, queue pairs, congestion control and time (spec/14).
One definition for each row. -/

namespace Sys2Proof.Machine

/-- `QP_TO_INIT` (R379). TO_INIT moves a queue pair from RESET to INIT. -/
def execQpToInit (ch : ChanId) (s : State) : Host.Outcome State Fault Refusal :=
  s.runOn [] (fun s => s.bySeat ch (fun x n s => s.qpToInit x n))

/-- `QP_TO_RTR` (R379). TO_RTR moves a queue pair to RTR or is refused. -/
def execQpToRtr (ch : ChanId) (s : State) : Host.Outcome State Fault Refusal :=
  s.runOn [] (fun s => s.bySeat ch (fun x n s => s.qpToRtr x n))

/-- `QP_TO_RTS` (R379). TO_RTS moves a queue pair to RTS. -/
def execQpToRts (ch : ChanId) (s : State) : Host.Outcome State Fault Refusal :=
  s.runOn [] (fun s => s.bySeat ch (fun x n s => s.qpToRts x n))

/-- `QP_TO_ERROR` (R379). TO_ERROR ends outstanding transfers and moves the queue pair to ERROR. -/
def execQpToError (ch : ChanId) (s : State) : Host.Outcome State Fault Refusal :=
  s.runOn [] (fun s => s.bySeat ch (fun x n s => s.qpToError x n))

/-- `QP_TO_RESET` (R379). TO_RESET discards queue-pair state and frees its channel entry. -/
def execQpToReset (ch : ChanId) (s : State) : Host.Outcome State Fault Refusal :=
  s.runOn [] (fun s => s.bySeat ch (fun x _ s => s.qpToReset x))

/-- `RDMA_WRITE` (R381). A responder translates and applies an RDMA WRITE or NAKs it. -/
def execRdmaWrite (qp psn va rkey : Nat) (bs : List Byte) (ce : Bool) (env : WriteEnv)
    (s : State) : Host.Outcome State Fault Refusal :=
  s.runOn [24] (fun s => s.rdmaMarked qp bs.length ce (fun s => s.rdmaWriteIn qp psn va rkey bs env))

/-- `RDMA_READ` (R381). A responder translates and serves an RDMA READ or NAKs it. -/
def execRdmaRead (qp psn va rkey len : Nat) (ce : Bool) (env : WriteEnv) (s : State) : Host.Outcome State Fault Refusal :=
  s.runOn [24] (fun s => s.rdmaMarked qp 0 ce (fun s => s.rdmaReadIn qp psn va rkey len env))

/-- `FETCH_ADD` (R381). A responder applies a 64-bit atomic add or returns a recorded duplicate. -/
def execFetchAdd (qp psn va rkey operand : Nat) (ce : Bool) (s : State) : Host.Outcome State Fault Refusal :=
  s.runOn [24] (fun s => s.rdmaMarked qp 8 ce (fun s => s.rdmaAtomic qp psn va rkey 0x21 (operand % 2 ^ 64) 0))

/-- `CMP_SWAP` (R381). A responder applies a 64-bit compare and swap or returns a recorded duplicate. -/
def execCmpSwap (qp psn va rkey compare swap : Nat) (ce : Bool) (s : State) : Host.Outcome State Fault Refusal :=
  s.runOn [24] (fun s => s.rdmaMarked qp 16 ce (fun s => s.rdmaAtomic qp psn va rkey 0x24 (compare % 2 ^ 64) (swap % 2 ^ 64)))

/-- `SEND` (R382). A SEND writes descriptors into a submission queue ring and rings its doorbell, or is RNR NAKed. -/
def execSend (qp psn : Nat) (bs : List Byte) (ce : Bool) (s : State) : Host.Outcome State Fault Refusal :=
  s.runOn [24] (fun s => s.rdmaMarked qp bs.length ce (fun s => s.sendIn qp psn bs))

/-- `ROCE_ACK` (R380). A requesting queue pair receives an ACK or NAK for its RDMA WRITE or READ. -/
def execRoceAck (qp psn code : Nat) (data : List Byte) (s : State) : Host.Outcome State Fault Refusal :=
  s.runOn [24] (fun s => s.roceAck qp psn code data)

/-- `QP_ACK_TIMEOUT` (R380). A request's local acknowledgement timeout expires; it is retried or the queue pair fails with
TIMEOUT. -/
def execQpAckTimeout (qp : Nat) (s : State) : Host.Outcome State Fault Refusal :=
  s.runOn [24] (fun s => s.qpAckTimeout qp)

/-- `CNP` (R390). A received CNP cuts the rate of the requesting queue pair. -/
def execCnp (qp : Nat) (s : State) : Host.Outcome State Fault Refusal :=
  s.run [24] (fun s => s.cnpIn qp)

/-- `CC_RECOVER_TIMER` (R390). Each recovery interval, queue pairs without a recent cut raise their rate. -/
def execCcRecoverTimer (s : State) : Host.Outcome State Fault Refusal :=
  s.run [24] (fun s => s.ccRecover)

/-- `PFC_FRAME` (R388). A received PFC frame pauses egress of its priority for its quanta. -/
def execPfcFrame (port prio quanta : Nat) (s : State) : Host.Outcome State Fault Refusal :=
  s.run [24] (fun s => s.pfcFrame (port % 4) (prio % 8) quanta)

/-- `PFC_XOFF_REFRESH` (R388). A lossless priority still above XOFF repeats its PFC pause at half the interval. -/
def execPfcXoffRefresh (port prio : Nat) (s : State) : Host.Outcome State Fault Refusal :=
  s.run [24] (fun s => s.pfcRefresh (port % 4) (prio % 8))

/-- `PFC_WATCHDOG` (R389). A priority paused for WD_MS has its frames discarded and a record is written. -/
def execPfcWatchdog (port prio : Nat) (s : State) : Host.Outcome State Fault Refusal :=
  s.run [24] (fun s => s.pfcWatchdog (port % 4) (prio % 8))

/-- `ARP_REQUEST` (R376). The port answers ARP for its own address. -/
def execArpRequest (port hi lo : Nat) (s : State) : Host.Outcome State Fault Refusal :=
  s.run [24] (fun s => s.ethAnswer (port % 4) hi lo 64 .arpReply)

/-- `NEIGHBOUR_SOLICITATION` (R376). The port answers IPv6 neighbour solicitation for its own address. -/
def execNeighbourSolicitation (port hi lo : Nat) (s : State) : Host.Outcome State Fault Refusal :=
  s.run [24] (fun s => s.ethAnswer (port % 4) hi lo 86 .neighbourAdvert)

/-- `ICMP_ECHO` (R376). The port answers ICMP echo for its own address. -/
def execIcmpEcho (port hi lo bytes : Nat) (s : State) : Host.Outcome State Fault Refusal :=
  s.run [24] (fun s => s.ethAnswer (port % 4) hi lo bytes .echoReply)

/-- `ETH_FRAME_DISCARD` (R377). An unsupported frame or one failing ICRC is discarded and counted. -/
def execEthFrameDiscard (port : Nat) (icrc : Bool) (s : State) : Host.Outcome State Fault Refusal :=
  s.run [24] (fun s => s.ethDiscard (port % 4) icrc)

/-- `MR_REGISTER` (R384). REGISTER pins covered extents and issues an RKEY. -/
def execMrRegister (ch : ChanId) (ctx rights : Nat) (s : State) : Host.Outcome State Fault Refusal :=
  s.runOn [] (fun s => s.bySeat ch (fun x _ s => s.mrRegister x (ctx % 8192) (rights % 8)))

/-- `MR_DEREGISTER` (R384). DEREGISTER removes a region and releases its pins. -/
def execMrDeregister (ch : ChanId) (rkey : Nat) (s : State) : Host.Outcome State Fault Refusal :=
  s.runOn [] (fun s => s.bySeat ch (fun x _ s => s.mrDeregister x rkey))

/-- `XFER_PUSH` (R387). PUSH starts a checkpoint transfer by RDMA WRITE. -/
def execXferPush (ch : ChanId) (rkey qp : Nat) (s : State) : Host.Outcome State Fault Refusal :=
  s.runOn [] (fun s => s.bySeat ch (fun x n s => s.xferCommand x n true rkey (qp % 16384)))

/-- `XFER_PULL` (R387). PULL starts a checkpoint transfer by RDMA READ. -/
def execXferPull (ch : ChanId) (rkey qp : Nat) (s : State) : Host.Outcome State Fault Refusal :=
  s.runOn [] (fun s => s.bySeat ch (fun x n s => s.xferCommand x n false rkey (qp % 16384)))

/-- `XFER_ABORT` (R387). ABORT ends the seat's transfer with STATE_CONFLICT. -/
def execXferAbort (ch : ChanId) (s : State) : Host.Outcome State Fault Refusal :=
  s.runOn [] (fun s => s.bySeat ch (fun x _ s => s.xferAbort x))

/-- `PTP_MESSAGE` (R391). A PTP message is time-stamped and the servo slews or steps the time base and updates lock. -/
def execPtpMessage (port ptpDomain : Nat) (offset : Int) (s : State) : Host.Outcome State Fault Refusal :=
  s.runOn [24] (fun s => s.ptpMessage (port % 4) (ptpDomain % 256) offset)

/-- `PTP_ANNOUNCE_TIMEOUT` (R391). Three announce intervals without a master move the time base to HOLDOVER. -/
def execPtpAnnounceTimeout (s : State) : Host.Outcome State Fault Refusal :=
  s.runOn [] (fun s => s.ptpAnnounceTimeout)

/-- `PFC_PAUSE_EXPIRY` (R388). The quanta of a received PFC pause run out and egress of that priority resumes. -/
def execPfcPauseExpiry (port prio : Nat) (s : State) : Host.Outcome State Fault Refusal :=
  s.run [24] (fun s => s.pfcExpiry (port % 4) (prio % 8))

/-- `ETH_LINK_CHANGE` (R376). An E-port's 400GbE link goes down or comes up, as shown in ETH_PORT_STATUS.LINK. -/
def execEthLinkChange (port : Nat) (up : Bool) (s : State) : Host.Outcome State Fault Refusal :=
  s.runOn [24] (fun s => s.ethLink (port % 4) up)

end Sys2Proof.Machine
end

