-- ==== Sys2Proof/Machine/CmdFabric.lean ====
section
/-! DEFINITION. The meanings of the commands of one family: links and fabric transactions (spec/08).
One definition for each row. -/

namespace Sys2Proof.Machine

/-- `LINK_FRAME` (R254). A link frame arrives; it is decrypted, checked and acknowledged or a go-back retry is requested, and
credits are returned. -/
def execLinkFrame (port lane : Nat) (frame : Frame) (s : State) : Host.Outcome State Fault Refusal :=
  s.runOn [23] (fun s => s.linkFrame port lane frame)

/-- `LOAD` (R235). An owner serves a LOAD request and returns the touched sectors with poison bits. -/
def execLoad (p : Packet) (ecc : Nat) (s : State) : Host.Outcome State Fault Refusal :=
  s.runOn (s.homeIslands p) (fun s => s.serving p (p.op == opLOAD && cohKind p == 0) (fun s => s.homeArrive p ecc))

/-- `STORE` (R236). An owner applies a STORE request, mirrors or updates parity as needed, and acknowledges. -/
def execStore (p : Packet) (ecc : Nat) (s : State) : Host.Outcome State Fault Refusal :=
  s.runOn (s.homeIslands p) (fun s => s.serving p (p.op == opSTORE && cohKind p == 0) (fun s => s.homeArrive p ecc))

/-- `ATOMIC` (R240). An owner applies an atomic indivisibly and returns the old value. -/
def execAtomic (p : Packet) (ecc : Nat) (s : State) : Host.Outcome State Fault Refusal :=
  s.runOn (s.homeIslands p) (fun s => s.serving p (p.op == opATOMIC) (fun s => s.homeArrive p ecc))

/-- `REDUCE` (R336). A REDUCE packet reaches Damson or Currant and is handled by its subkind. -/
def execReduce (p : Packet) (s : State) : Host.Outcome State Fault Refusal :=
  s.runOn [reduceIsland p] (fun s => s.serving p (p.op == opREDUCE) (fun s => s.reduceIn p))

/-- `TILE_COMMIT` (R172). The owner holds overlapping requests, recalls cached lines and writes a staged tile whole. -/
def execTileCommit (p : Packet) (s : State) : Host.Outcome State Fault Refusal :=
  s.runOn (s.homeIslands p) (fun s => s.serving p (p.op == opTILE_COMMIT) (fun s => s.homeArrive p 0))

/-- `MIRROR` (R178). A mirror target applies a MIRROR write to the mirror position or journal mirror and records its tag. -/
def execMirror (p : Packet) (s : State) : Host.Outcome State Fault Refusal :=
  s.runOn (s.homeIslands p) (fun s => s.serving p (p.op == opMIRROR && p.aux % 2 == 0) (fun s => s.homeArrive p 0))

/-- `PARITY` (R182). A parity holder applies a parity update and acknowledges. -/
def execParity (p : Packet) (s : State) : Host.Outcome State Fault Refusal :=
  s.runOn (s.homeIslands p) (fun s => s.serving p (p.op == opPARITY) (fun s => s.homeArrive p 0))

/-- `RETIRE` (R246). A target removes retired tags from the dedup window and forwards retirements to mirror or parity holders.
-/
def execRetire (p : Packet) (s : State) : Host.Outcome State Fault Refusal :=
  s.runOn [] (fun s => if p.op = opRETIRE then s.retireServe p else s)

/-- `FENCE_MARK` (R258). The owner answers a drain marker after applying every earlier packet on that ingress and VC. -/
def execFenceMark (p : Packet) (s : State) : Host.Outcome State Fault Refusal :=
  s.runOn [] (fun s => s.fenceMark p)

/-- `AGENT_FENCE` (R261). An agent fence advances epochs and is answered when R257 holds. -/
def execAgentFence (aport : Nat) (p : Packet) (s : State) : Host.Outcome State Fault Refusal :=
  s.runOn [17] (fun s => if p.op = opAGENT_FENCE then s.agentFence (aport % 32) p else s)

/-- `TAG_RESET` (R248). A receiver drops dedup entries of the source's transaction tags, or all entries with ALL set. -/
def execTagReset (p : Packet) (s : State) : Host.Outcome State Fault Refusal :=
  s.runOn [] (fun s => if p.op = opTAG_RESET then s.tagResetServe p else s)

/-- `BLOCK_READ` (R238). An owner reads a window-2 block whole and answers with 16 responses. -/
def execBlockRead (p : Packet) (ecc : Nat) (s : State) : Host.Outcome State Fault Refusal :=
  s.runOn [18, 22] (fun s => s.serving p (p.op == opBLOCK_READ) (fun s => s.blockCheck p (fun s => s.blockRead p ecc)))

/-- `BLOCK_WRITE` (R238). An owner collects a piece of a block write and writes the block once all 16 pieces have arrived. -/
def execBlockWrite (p : Packet) (s : State) : Host.Outcome State Fault Refusal :=
  s.runOn [18, 22] (fun s => s.serving p (p.op == opBLOCK_WRITE) (fun s => s.blockCheck p (fun s => s.blockWrite p)))

/-- `BLOCK_ASSEMBLY_TIMEOUT` (R238). A block whose pieces have not all arrived within the fabric timeout is discarded unwritten.
-/
def execBlockAssemblyTimeout (src tag : Nat) (s : State) : Host.Outcome State Fault Refusal :=
  s.runOn [] (fun s => s.blockTimeout src tag)

/-- `WINDOW_READ` (R40). A forwarded management read is served at the target member. -/
def execWindowRead (p : Packet) (s : State) : Host.Outcome State Fault Refusal :=
  s.runOn [] (fun s => s.serving p (p.op == opWINDOW_READ) (fun s => s.windowReadIn p))

/-- `WINDOW_WRITE` (R40). A forwarded management write is served at the target member. -/
def execWindowWrite (p : Packet) (env : WriteEnv) (s : State) : Host.Outcome State Fault Refusal :=
  s.runOn [] (fun s => s.serving p (p.op == opWINDOW_WRITE) (fun s => s.windowWriteIn p env))

/-- `RELAY_DRAIN` (R259). A relay answers RELAY_DRAIN once it has forwarded every packet of the source to the destination. -/
def execRelayDrain (p : Packet) (s : State) : Host.Outcome State Fault Refusal :=
  s.runOn [17] (fun s => s.relayDrain p)

/-- `RESPONSE` (R234). A response or acknowledgement reaches its source, ends the request and releases references and window
slots. -/
def execResponse (p : Packet) (s : State) : Host.Outcome State Fault Refusal :=
  s.runOn [] (fun s => s.responseIn p)

/-- `RETRY_TIMER` (R247). A request with no answer after the retry interval is re-sent under its original tag. -/
def execRetryTimer (tag : Nat) (s : State) : Host.Outcome State Fault Refusal :=
  s.runOn [] (fun s => s.retryTimer tag)

/-- `FABRIC_TIMEOUT` (R247). A request unanswered for the fabric timeout ends with TIMEOUT and a record. -/
def execFabricTimeout (tag : Nat) (s : State) : Host.Outcome State Fault Refusal :=
  s.runOn [] (fun s => s.fabricTimeout tag)

/-- `RETIRE_SEND` (R246). Pending retirements are sent within 10 µs of delivery or when 256 are pending. -/
def execRetireSend (d : Nat) (s : State) : Host.Outcome State Fault Refusal :=
  s.runOn [] (fun s => s.sendRetirements d)

/-- `AGENT_REQUEST` (R265). An agent request enters an A-port, is translated and forwarded or refused. -/
def execAgentRequest (aport : Nat) (p : Packet) (s : State) : Host.Outcome State Fault Refusal :=
  s.runOn [17] (fun s => s.agentRequest (aport % 32) p)

/-- `PORT_RETRAIN` (R255). RETRAIN retrains a lane of the selected port. -/
def execPortRetrain (ch : ChanId) (lane : Nat) (s : State) : Host.Outcome State Fault Refusal :=
  s.runOn [] (fun s => s.bySeat ch (fun x n s => s.portRetrain x n (lane % 4)))

/-- `PORT_HOLD_DOWN` (R255). HOLD_DOWN holds a lane of the selected port down. -/
def execPortHoldDown (ch : ChanId) (lane : Nat) (s : State) : Host.Outcome State Fault Refusal :=
  s.runOn [] (fun s => s.bySeat ch (fun x n s => s.portHoldDown x n (lane % 4)))

/-- `PORT_RELEASE` (R255). RELEASE lets a held lane train again. -/
def execPortRelease (ch : ChanId) (lane : Nat) (s : State) : Host.Outcome State Fault Refusal :=
  s.runOn [] (fun s => s.bySeat ch (fun x n s => s.portRelease x n (lane % 4)))

end Sys2Proof.Machine
end

