-- ==== Sys2Proof/Machine/CmdHome.lean ====
section
/-! DEFINITION. The meanings of the commands of one family: coherence: the home agent and the A-ports (spec/09).
One definition for each row. -/

namespace Sys2Proof.Machine

/-- `READ_SHARED` (R277). The home serves READ_SHARED, snooping as needed, and grants I, S, F or E. -/
def execReadShared (p : Packet) (ecc : Nat) (s : State) : Host.Outcome State Fault Refusal :=
  s.runOn (s.homeIslands p) (fun s => s.serving p (isCoherent p kREAD_SHARED) (fun s => s.homeArrive p ecc))

/-- `READ_OWN` (R277). The home serves READ_OWN, invalidating other holders, and grants E with data. -/
def execReadOwn (p : Packet) (ecc : Nat) (s : State) : Host.Outcome State Fault Refusal :=
  s.runOn (s.homeIslands p) (fun s => s.serving p (isCoherent p kREAD_OWN) (fun s => s.homeArrive p ecc))

/-- `UPGRADE` (R277). The home serves UPGRADE, invalidating other holders, and grants E. -/
def execUpgrade (p : Packet) (ecc : Nat) (s : State) : Host.Outcome State Fault Refusal :=
  s.runOn (s.homeIslands p) (fun s => s.serving p (isCoherent p kUPGRADE) (fun s => s.homeArrive p ecc))

/-- `WRITEBACK` (R277). The home writes back an M line from its holder and drops the entry. -/
def execWriteback (p : Packet) (ecc : Nat) (s : State) : Host.Outcome State Fault Refusal :=
  s.runOn (s.homeIslands p) (fun s => s.serving p (isCoherent p kWRITEBACK) (fun s => s.homeArrive p ecc))

/-- `SNP_INV` (R281). An attach device passes SNP_INV to its agent or answers from its dedup copy. -/
def execSnpInv (p : Packet) (s : State) : Host.Outcome State Fault Refusal :=
  s.runOn [18] (fun s => s.serving p (p.op == 0x10) (fun s => s.attachSnoop p))

/-- `SNP_SHARE` (R281). An attach device passes SNP_SHARE to its agent. -/
def execSnpShare (p : Packet) (s : State) : Host.Outcome State Fault Refusal :=
  s.runOn [18] (fun s => s.serving p (p.op == 0x11) (fun s => s.attachSnoop p))

/-- `SNP_FWD` (R279). An attach device asks its F holder to supply the line to another of its agents. -/
def execSnpFwd (p : Packet) (s : State) : Host.Outcome State Fault Refusal :=
  s.runOn [18] (fun s => s.serving p (p.op == 0x12) (fun s => s.attachSnoop p))

/-- `AGENT_FLUSH` (R281). An agent is told to write back and drop every line in scope. -/
def execAgentFlush (aport owner : Nat) (every : Bool) (s : State) : Host.Outcome State Fault Refusal :=
  s.runOn [18] (fun s => s.agentFlush (aport % 32) owner every)

/-- `AGENT_DROP` (R287). A home receives AGENT_DROP and starts a scan to drop, and optionally poison, the agent's entries. -/
def execAgentDrop (p : Packet) (s : State) : Host.Outcome State Fault Refusal :=
  s.runOn [18] (fun s => s.serving p (p.op == 0x14) (fun s => s.agentDrop p))

/-- `AGENT_DROP_SCAN_DONE` (R287). A home finishes the scan for an AGENT_DROP and answers. -/
def execAgentDropScanDone (src tag : Nat) (s : State) : Host.Outcome State Fault Refusal :=
  s.runOn [18] (fun s => s.dropScanDone src tag)

/-- `AGENT_EXPEL` (R287). An attach device receives AGENT_EXPEL, holds the A-port down, drains and drops with POISON. -/
def execAgentExpel (p : Packet) (s : State) : Host.Outcome State Fault Refusal :=
  s.runOn [18]
    (fun s => s.serving p (p.op == 0x15) (fun s => s.dedup p (fun s => (s.expelAport (p.aux % 32) false (fun s => s.holdPort (0x40 + p.aux % 32))).finish p .done)))

/-- `GRANT_ACK` (R274). The home receives GRANT_ACK and the line leaves BUSY. -/
def execGrantAck (p : Packet) (s : State) : Host.Outcome State Fault Refusal :=
  s.runOn [18] (fun s => s.serving p (p.op == 0x16) (fun s => s.grantAck p))

/-- `SNOOP_ANSWER` (R282). A snoop answer reaches the home, whose line data is written and whose record advances. -/
def execSnoopAnswer (p : Packet) (s : State) : Host.Outcome State Fault Refusal :=
  s.runOn [18] (fun s => s.serving p (decide (0x90 ≤ p.op ∧ p.op ≤ 0x92)) (fun s => s.snoopAnswer p))

/-- `HOME_TIMEOUT` (R285). A snoop, writeback or GRANT_ACK unanswered for the home timeout poisons or drops the entry and expels
the agent. -/
def execHomeTimeout (agent line : Nat) (s : State) : Host.Outcome State Fault Refusal :=
  s.runOn [18] (fun s => s.homeTimer agent line)

/-- `APORT_FLUSH` (R287). FLUSH sends AGENT_FLUSH with ALL to an ATTACHED A-port agent. -/
def execAportFlush (ch : ChanId) (aport : Nat) (s : State) : Host.Outcome State Fault Refusal :=
  s.runOn [] (fun s => s.bySeat ch (fun x n s => s.aportCmd x n 1 (aport % 32)))

/-- `APORT_EXPEL` (R287). EXPEL holds the A-port down, drains and drops the agent with POISON. -/
def execAportExpel (ch : ChanId) (aport : Nat) (s : State) : Host.Outcome State Fault Refusal :=
  s.runOn [] (fun s => s.bySeat ch (fun x n s => s.aportCmd x n 2 (aport % 32)))

/-- `RECALL_SCAN_DONE` (R280). The scan of every filter set for a withdrawn or revoked extent of more than 4,096 lines ends,
completing the recall if no snoop is outstanding. -/
def execRecallScanDone (ctx va : Nat) (s : State) : Host.Outcome State Fault Refusal :=
  s.runOn [18] (fun s => s.recallScanDone ctx va)

end Sys2Proof.Machine
end

