-- ==== Sys2Proof/Machine/CmdLoad.lean ====
section
/-! DEFINITION. The meanings of the commands of one family: structure images and the loader (spec/02).
One definition for each row. -/

namespace Sys2Proof.Machine

/-- `SIL_BEGIN_FULL` (R66). BEGIN_FULL in NO_IMAGE clears staging and enters STAGING. -/
def execSilBeginFull (ch : ChanId) (s : State) : Host.Outcome State Fault Refusal :=
  s.run [] (fun s => s.asHolder ch 0x10008 0 (fun x n s => s.silBegin x n .noImage))

/-- `SIL_BEGIN_PARTIAL` (R66). BEGIN_PARTIAL in RUNNING clears staging and enters STAGING. -/
def execSilBeginPartial (ch : ChanId) (s : State) : Host.Outcome State Fault Refusal :=
  s.run [] (fun s => s.asHolder ch 0x10008 0 (fun x n s => s.silBegin x n .running))

/-- `SIL_COMMIT` (R66). COMMIT latches SIL_STAGE_LEN and starts verification of the staged image. -/
def execSilCommit (ch : ChanId) (s : State) : Host.Outcome State Fault Refusal :=
  s.run [] (fun s => s.asHolder ch 0x10008 0 (fun x n s => s.silCommit x n))

/-- `SIL_ABORT` (R66). ABORT discards staging, or in DRAINING reopens the affected slices unchanged. -/
def execSilAbort (ch : ChanId) (s : State) : Host.Outcome State Fault Refusal :=
  s.runOn [] (fun s => s.asHolder ch 0x10008 0 (fun x n s => s.silAbort x n))

/-- `SIL_APERTURE_WRITE` (R65). A write to the SIL aperture stores a word of the staging page, refused outside STAGING. -/
def execSilApertureWrite (ch : ChanId) (word value : Nat) (s : State) : Host.Outcome State Fault Refusal :=
  s.run []
    (fun s => s.asHolder ch (0x18000 + 8 * (word % 4096)) 0 (fun x n s => s.apertureWrite x n (word % 4096) (value % 2 ^ 64)))

/-- `IMAGE_VERIFY_DONE` (R53). Both image signatures have been verified or one fails, and the loader moves to CHECKING or
records the refusal. -/
def execImageVerifyDone (internal : Bool) (s : State) : Host.Outcome State Fault Refusal :=
  s.run [] (fun s => s.imageVerifyDone internal)

/-- `IMAGE_CHECK_DONE` (R76). The image checks complete; a full image applies, a partial image closes its affected slices and
drains, or the refusal is recorded. -/
def execImageCheckDone (internal : Bool) (s : State) : Host.Outcome State Fault Refusal :=
  s.runOn [] (fun s => s.imageCheckDone internal)

/-- `SLICE_DRAINED` (R71). Every affected slice has drained and the partial image is journalled for its commit point. -/
def execSliceDrained (s : State) : Host.Outcome State Fault Refusal :=
  s.runOn [] (fun s => s.sliceDrained)

/-- `DRAIN_TIMEOUT` (R75). The drain timeout expires and the affected slices reopen unchanged with TIMEOUT recorded. -/
def execDrainTimeout (s : State) : Host.Outcome State Fault Refusal :=
  s.runOn [] (fun s => s.drainTimeout)

/-- `RING_FETCH_DONE` (R69). The member's live ring arrives from the mirror after a T1-losing reset and journalled partial
images are reapplied before join. -/
def execRingFetchDone (entries : List JEntry) (high : Nat) (s : State) : Host.Outcome State Fault Refusal :=
  s.runOn [] (fun s => (s.ringFetchDone entries high).joinRecorded)

/-- `RING_FETCH_TIMEOUT` (R69). The partner does not answer the ring fetch within the member-loss timeout and the member begins
a new journal. -/
def execRingFetchTimeout (s : State) : Host.Outcome State Fault Refusal :=
  s.runOn [] (fun s => s.ringFetchTimeout.joinRecorded)

end Sys2Proof.Machine
end

