-- ==== Sys2Proof/Machine/CmdPower.lean ====
section
/-! DEFINITION. The meanings of the commands of one family: the 52 V input, the slew governor, clock islands and the start (spec/17).
One definition for each row. -/

namespace Sys2Proof.Machine

/-- `COLD_START` (R453). The 52 V input is applied; ROM, firmware check, key derivation, self-test, image load and join follow.
-/
def execColdStart (info : StartInfo) (s : State) : Host.Outcome State Fault Refusal :=
  s.where_ true (fun s => s.coldStart info)

/-- `MEM_INIT_DONE` (R455). T1 or T2 test and initialisation completes. -/
def execMemInitDone (tier : Nat) (failed : List Nat) (s : State) : Host.Outcome State Fault Refusal :=
  s.runOn [] (fun s => s.memInitDone tier failed)

/-- `INPUT_DIP` (R440). An input dip of 1 ms or less is ridden through and counted. -/
def execInputDip (mv ns : Nat) (s : State) : Host.Outcome State Fault Refusal :=
  s.where_ s.pwr.on (fun s => if mv < 40000 ∧ ns ≤ nsPerMs then s.inputDip mv else s)

/-- `INPUT_LOSS` (R440). Input below 40 V for more than 1 ms or above 62 V for 100 µs stops the device. -/
def execInputLoss (mv ns : Nat) (s : State) : Host.Outcome State Fault Refusal :=
  s.where_ s.pwr.on (fun s => s.inputLoss mv ns)

/-- `INPUT_HIGH` (R440). Input between 60 V and 62 V writes a PWR record. -/
def execInputHigh (mv : Nat) (s : State) : Host.Outcome State Fault Refusal :=
  s.run [] (fun s => s.inputHigh mv)

/-- `DUTY_ADJUST` (R442). Each 1 ms the power average and temperature lower or raise DUTY. -/
def execDutyAdjust (avgW peakW vin iin : Nat) (temp : Int) (sensor : Nat) (s : State) : Host.Outcome State Fault Refusal :=
  s.run [] (fun s => s.dutyAdjust avgW peakW vin iin temp sensor)

/-- `OVERCURRENT` (R443). Input current above 41.3 A for 20 µs drops DUTY to 8. -/
def execOvercurrent (s : State) : Host.Outcome State Fault Refusal :=
  s.run [] (fun s => s.overcurrent)

/-- `THERMAL_TRIP` (R444). At 115 °C islands 1 to 24 stop, lasers turn off and islands go HELD. -/
def execThermalTrip (sensor : Nat) (s : State) : Host.Outcome State Fault Refusal :=
  s.runOn [] (fun s => (s.thermalTrip sensor).linksDark)

/-- `GOVERNOR_GRANT` (R446). The slew governor grants pending wakes in order while the 100 µs window allows. -/
def execGovernorGrant (s : State) : Host.Outcome State Fault Refusal :=
  s.runOn [] (fun s => s.grantStep)

/-- `ISLAND_WAKE_DONE` (R452). A waking island's rails are good and its PLL locked; it becomes ON. -/
def execIslandWakeDone (island : Nat) (s : State) : Host.Outcome State Fault Refusal :=
  s.runOn [] (fun s => s.islandWoken island)

/-- `ISLAND_TEST_DONE` (R452). An island in RESET finishes its tests and returns ON or goes OFF. -/
def execIslandTestDone (island : Nat) (pass : Bool) (s : State) : Host.Outcome State Fault Refusal :=
  s.runOn [] (fun s => s.islandTestDone island pass)

/-- `REFCLK_LOSS` (R451). A reference clock lost for more than 10 µs stops its islands to HELD. -/
def execRefclkLoss (serdes : Bool) (s : State) : Host.Outcome State Fault Refusal :=
  s.runOn [] (fun s => if serdes then (s.refclkLoss serdes).linksDark else s.refclkLoss serdes)

/-- `REFCLK_WAIT_TIMEOUT` (R451). A start waiting 1 s for a reference clock writes a PWR record. -/
def execRefclkWaitTimeout (s : State) : Host.Outcome State Fault Refusal :=
  s.run [] (fun s => s.refclkWait)

/-- `BOARD_RESET` (R462). RST_N low for 2 µs orders an L5 from the board reset contact. -/
def execBoardReset (ns : Nat) (s : State) : Host.Outcome State Fault Refusal :=
  s.run [] (fun s => s.boardReset ns)

/-- `BOARD_RESET_RELEASE` (R462). The rising edge of RST_N starts the device from the 18 ms row. -/
def execBoardResetRelease (info : StartInfo) (s : State) : Host.Outcome State Fault Refusal :=
  s.where_ s.pwr.on (fun s => s.boardRelease info)

/-- `REFCLK_STABLE` (R451). A reference clock that was absent becomes present and stable, and a start waiting on it continues.
-/
def execRefclkStable (serdes : Bool) (s : State) : Host.Outcome State Fault Refusal :=
  s.runOn [] (fun s => s.refStable serdes)

end Sys2Proof.Machine
end

