-- ==== Sys2Proof/Machine/CmdQuince.lean ====
section
/-! DEFINITION. The meanings of the commands of one family: Quince cores, their engines and kernel launches (spec/07).
One definition for each row. -/

namespace Sys2Proof.Machine

/-- `QISSUE` (R207). qissue issues a command record and returns its ticket. -/
def execQissue (core : Nat) (s : State) : Host.Outcome State Fault Refusal :=
  s.run [core % 16 + 1] (fun s => s.qissue (core % 16))

/-- `QWAIT` (R207). qwait stalls until a ticket completes and returns its status. -/
def execQwait (core : Nat) (s : State) : Host.Outcome State Fault Refusal :=
  s.run [core % 16 + 1] (fun s => s.qwait (core % 16))

/-- `QPOLL` (R207). qpoll returns the status of a ticket or 0x100. -/
def execQpoll (core : Nat) (s : State) : Host.Outcome State Fault Refusal :=
  s.run [core % 16 + 1] (fun s => s.qpoll (core % 16))

/-- `QFENCE` (R207). qfence stalls until every issued command of the named engines completes. -/
def execQfence (core : Nat) (s : State) : Host.Outcome State Fault Refusal :=
  s.run [core % 16 + 1] (fun s => s.qfence (core % 16))

/-- `QEXIT` (R214). qexit ends the kernel on the core with a status and result. -/
def execQexit (core : Nat) (s : State) : Host.Outcome State Fault Refusal :=
  s.runOn [core % 16 + 1] (fun s => s.qexit (core % 16))

/-- `QINFO` (R207). qinfo returns a core, launch, partition, time or device item. -/
def execQinfo (core : Nat) (s : State) : Host.Outcome State Fault Refusal :=
  s.run [core % 16 + 1] (fun s => s.qinfo (core % 16))

/-- `SCALAR_INSTRUCTION` (R206). The scalar core executes an RV64IMAC instruction on T0. -/
def execScalarInstruction (core : Nat) (badSector : Option Nat) (parity : Bool) (s : State) : Host.Outcome State Fault Refusal :=
  s.runOn [core % 16 + 1]
    (fun s => if parity then s.parityFault (core % 16) else (match badSector with | some a => s.tileParity (core % 16) a | none => s).scalarInstruction (core % 16))

/-- `MMA` (R200). The matrix engine runs a matrix multiply command in passes with checksum rows. -/
def execMma (core : Nat) (faults : List ArrayFault) (s : State) : Host.Outcome State Fault Refusal :=
  s.runOn [core % 16 + 1] (fun s => s.mma (core % 16) faults)

/-- `VECTOR_ADD` (R203). The vector engine computes z = x + y. -/
def execVectorAdd (core : Nat) (s : State) : Host.Outcome State Fault Refusal :=
  s.runOn [core % 16 + 1] (fun s => s.vectorOp (core % 16) 0x01)

/-- `VECTOR_SUB` (R203). The vector engine computes z = x − y. -/
def execVectorSub (core : Nat) (s : State) : Host.Outcome State Fault Refusal :=
  s.runOn [core % 16 + 1] (fun s => s.vectorOp (core % 16) 0x02)

/-- `VECTOR_MUL` (R203). The vector engine computes z = x × y. -/
def execVectorMul (core : Nat) (s : State) : Host.Outcome State Fault Refusal :=
  s.runOn [core % 16 + 1] (fun s => s.vectorOp (core % 16) 0x03)

/-- `VECTOR_FMA` (R203). The vector engine computes z = x × y + z. -/
def execVectorFma (core : Nat) (s : State) : Host.Outcome State Fault Refusal :=
  s.runOn [core % 16 + 1] (fun s => s.vectorOp (core % 16) 0x04)

/-- `VECTOR_MAX` (R203). The vector engine computes the elementwise maximum. -/
def execVectorMax (core : Nat) (s : State) : Host.Outcome State Fault Refusal :=
  s.runOn [core % 16 + 1] (fun s => s.vectorOp (core % 16) 0x05)

/-- `VECTOR_MIN` (R203). The vector engine computes the elementwise minimum. -/
def execVectorMin (core : Nat) (s : State) : Host.Outcome State Fault Refusal :=
  s.runOn [core % 16 + 1] (fun s => s.vectorOp (core % 16) 0x06)

/-- `AFFINE` (R203). The vector engine computes z = x × IMM + IMM2. -/
def execAffine (core : Nat) (s : State) : Host.Outcome State Fault Refusal :=
  s.runOn [core % 16 + 1] (fun s => s.vectorOp (core % 16) 0x07)

/-- `EXP2` (R203). The vector engine computes 2 to the power x × IMM − IMM2. -/
def execExp2 (core : Nat) (s : State) : Host.Outcome State Fault Refusal :=
  s.runOn [core % 16 + 1] (fun s => s.vectorOp (core % 16) 0x08)

/-- `RCP` (R203). The vector engine computes 1 / x. -/
def execRcp (core : Nat) (s : State) : Host.Outcome State Fault Refusal :=
  s.runOn [core % 16 + 1] (fun s => s.vectorOp (core % 16) 0x09)

/-- `RSQRT` (R203). The vector engine computes 1 / √x. -/
def execRsqrt (core : Nat) (s : State) : Host.Outcome State Fault Refusal :=
  s.runOn [core % 16 + 1] (fun s => s.vectorOp (core % 16) 0x0A)

/-- `LOG2` (R203). The vector engine computes log2(x). -/
def execLog2 (core : Nat) (s : State) : Host.Outcome State Fault Refusal :=
  s.runOn [core % 16 + 1] (fun s => s.vectorOp (core % 16) 0x0B)

/-- `ROWMAX` (R203). The vector engine computes the maximum of each row. -/
def execRowmax (core : Nat) (s : State) : Host.Outcome State Fault Refusal :=
  s.runOn [core % 16 + 1] (fun s => s.vectorOp (core % 16) 0x0C)

/-- `ROWSUM` (R203). The vector engine computes the sum of each row. -/
def execRowsum (core : Nat) (s : State) : Host.Outcome State Fault Refusal :=
  s.runOn [core % 16 + 1] (fun s => s.vectorOp (core % 16) 0x0D)

/-- `CONVERT` (R203). The vector engine converts elements to OUT_ELEM, writing MX scales to Y. -/
def execConvert (core : Nat) (s : State) : Host.Outcome State Fault Refusal :=
  s.runOn [core % 16 + 1] (fun s => s.vectorOp (core % 16) 0x0E)

/-- `SOFTMAX_STEP` (R203). The vector engine performs one online-softmax step per row, updating the row state. -/
def execSoftmaxStep (core : Nat) (s : State) : Host.Outcome State Fault Refusal :=
  s.runOn [core % 16 + 1] (fun s => s.vectorOp (core % 16) 0x0F)

/-- `RESCALE` (R203). The vector engine multiplies each row by its correction factor. -/
def execRescale (core : Nat) (s : State) : Host.Outcome State Fault Refusal :=
  s.runOn [core % 16 + 1] (fun s => s.vectorOp (core % 16) 0x10)

/-- `NORMALISE` (R203). The vector engine divides each row by its running sum and optionally writes log-sum-exp. -/
def execNormalise (core : Nat) (s : State) : Host.Outcome State Fault Refusal :=
  s.runOn [core % 16 + 1] (fun s => s.vectorOp (core % 16) 0x11)

/-- `DMA_LOAD` (R204). The DMA engine moves tiles from domain memory to T0. -/
def execDmaLoad (core : Nat) (parity : Bool) (s : State) : Host.Outcome State Fault Refusal :=
  s.runOn [core % 16 + 1] (fun s => if parity then s.parityFault (core % 16) else s.dmaStart (core % 16) 1)

/-- `DMA_STORE` (R204). The DMA engine moves tiles from T0 to domain memory. -/
def execDmaStore (core : Nat) (parity : Bool) (s : State) : Host.Outcome State Fault Refusal :=
  s.runOn [core % 16 + 1] (fun s => if parity then s.parityFault (core % 16) else s.dmaStart (core % 16) 2)

/-- `DMA_PUBLISH` (R204). The DMA engine publishes tiles from T0 with whole-tile visibility. -/
def execDmaPublish (core : Nat) (parity : Bool) (s : State) : Host.Outcome State Fault Refusal :=
  s.runOn [core % 16 + 1] (fun s => if parity then s.parityFault (core % 16) else s.dmaStart (core % 16) 3)

/-- `LOCAL_COPY` (R204). The DMA engine copies a packed tile within T0. -/
def execLocalCopy (core : Nat) (parity : Bool) (s : State) : Host.Outcome State Fault Refusal :=
  s.runOn [core % 16 + 1] (fun s => if parity then s.parityFault (core % 16) else s.localCopy (core % 16))

/-- `DMA_ATOMIC` (R204). The DMA engine issues a list of atomic entries and writes results back. -/
def execDmaAtomic (core : Nat) (parity : Bool) (s : State) : Host.Outcome State Fault Refusal :=
  s.runOn [core % 16 + 1] (fun s => if parity then s.parityFault (core % 16) else s.dmaStart (core % 16) 5)

/-- `KERNEL_VERIFY_DONE` (R211). Kernel image signature verification completes and the cores start or the launch ends with
AUTH_FAIL. -/
def execKernelVerifyDone (tag : Nat) (s : State) : Host.Outcome State Fault Refusal :=
  s.runOn [] (fun s => s.kernelVerifyDone tag)

/-- `LAUNCH_BUDGET_EXPIRY` (R215). The launch budget expires and every core ends with CAUSE 0x08. -/
def execLaunchBudgetExpiry (tag : Nat) (s : State) : Host.Outcome State Fault Refusal :=
  s.runOn [] (fun s => s.budgetExpiry tag)

/-- `CORE_WAKE_DONE` (R217). A waking core's island is powered and clocks are stable 30 µs after grant; the core becomes IDLE.
-/
def execCoreWakeDone (core : Nat) (s : State) : Host.Outcome State Fault Refusal :=
  s.runOn [] (fun s => s.coreWakeDone (core % 16))

/-- `CORE_IDLE_GATE` (R217). A core idle for QNC_IDLE_GATE.US powers down. -/
def execCoreIdleGate (core : Nat) (s : State) : Host.Outcome State Fault Refusal :=
  s.run [] (fun s => s.coreIdleGate (core % 16))

/-- `KCACHE_FLUSH` (R211). FLUSH clears the verified-digest table. -/
def execKcacheFlush (ch : ChanId) (s : State) : Host.Outcome State Fault Refusal :=
  s.run [] (fun s => s.asHolder ch 0x83008 1 (fun _ _ s => s.kcacheFlush))

/-- `ATTEND_UNIT_DONE` (R224). An ATTEND unit finishes on its core, writing its rows or failing. -/
def execAttendUnitDone (core : Nat) (faults : List ArrayFault) (s : State) : Host.Outcome State Fault Refusal :=
  s.runOn [core % 16 + 1] (fun s => s.attendUnitDone (core % 16) faults)

end Sys2Proof.Machine
end

