-- ==== Sys2Proof/Machine/CmdRas.lean ====
section
/-! DEFINITION. The meanings of the commands of one family: sentinels, hangs, the error log, resets and spare admission (spec/15).
One definition for each row. -/

namespace Sys2Proof.Machine

/-- `SENTINEL_DONE` (R397). A sentinel finishes and passes, is rerun, or faults the core. -/
def execSentinelDone (engine : Nat) (pass : Bool) (s : State) : Host.Outcome State Fault Refusal :=
  s.runOn [] (fun s => s.sentinelDone engine pass)

/-- `ENGINE_WATCHDOG` (R407). An engine without progress for CMD_MS hangs; the core resets and quarantine starts. -/
def execEngineWatchdog (core engine last : Nat) (s : State) : Host.Outcome State Fault Refusal :=
  s.runOn [] (fun s => s.engineWatchdog (core % 16) engine last)

/-- `QUARANTINE_RUN_DONE` (R410). A quarantine run completes or hangs, naming a guilty context or moving to the next suspect. -/
def execQuarantineRunDone (hung : Bool) (s : State) : Host.Outcome State Fault Refusal :=
  s.runOn [] (fun s => s.quarantineRunDone hung)

/-- `LOG_CLEAR` (R402). A write of RAS_LOG_CLEAR discards error-log records up to UPTO. -/
def execLogClear (ch : ChanId) (upto : Nat) (s : State) : Host.Outcome State Fault Refusal :=
  s.run [] (fun s => s.asHolder ch 0x180060 2 (fun x n s => s.logClear x n (upto % 2 ^ 32)))

/-- `RESET_L0` (R413). L0 holds, invalidates and releases one context. -/
def execResetL0 (ch : ChanId) (ctx : Nat) (s : State) : Host.Outcome State Fault Refusal :=
  s.runOn [] (fun s => s.bySeat ch (fun x n s => s.resetL0 x n (ctx % 8192)))

/-- `RESET_L1` (R411). L1 resets one Quince core. -/
def execResetL1 (ch : ChanId) (core : Nat) (s : State) : Host.Outcome State Fault Refusal :=
  s.runOn [] (fun s => s.bySeat ch (fun x n s => s.resetL1 x n (core % 8192)))

/-- `RESET_L2` (R411). L2 retrains every lane of one port. -/
def execResetL2 (ch : ChanId) (port : Nat) (s : State) : Host.Outcome State Fault Refusal :=
  s.runOn [] (fun s => s.bySeat ch (fun x n s => s.resetL2 x n (port % 8192)))

/-- `RESET_L3` (R413). L3 resets one clock island. -/
def execResetL3 (ch : ChanId) (island : Nat) (pufOk : Bool) (s : State) : Host.Outcome State Fault Refusal :=
  s.runOn [] (fun s => s.asHolder ch 0x180208 0 (fun x n s => s.resetL3 x n (island % 32) pufOk))

/-- `RESET_L4` (R411). L4 warm-resets every island but 25. -/
def execResetL4 (ch : ChanId) (s : State) : Host.Outcome State Fault Refusal :=
  s.runOn [] (fun s => s.asHolder ch 0x180208 0 (fun x n s => s.resetL4 x n))

/-- `RESET_L5` (R411). L5 cold-resets the device, keeping memory in self-refresh when ordered by a seat. -/
def execResetL5 (ch : ChanId) (info : StartInfo) (s : State) : Host.Outcome State Fault Refusal :=
  s.runOn [] (fun s => s.asHolder ch 0x180208 0 (fun x n s => s.resetL5 x n info))

/-- `RESET_COMPLETE` (R411). A reset finishes and its outcome is posted. -/
def execResetComplete (level target : Nat) (pass : Bool) (s : State) : Host.Outcome State Fault Refusal :=
  s.runOn [] (fun s => s.resetComplete level target pass)

/-- `ADMIT_START` (R418). START begins the admission of a spare for a failed number with its test. -/
def execAdmitStart (ch : ChanId) (failed spare : Nat) (s : State) : Host.Outcome State Fault Refusal :=
  s.runOn [] (fun s => s.asHolder ch 0x180300 0 (fun x n s => s.admitStart x n (failed % 64) (spare % 64)))

/-- `ADMIT_ABORT` (R419). ABORT abandons an admission before the swap. -/
def execAdmitAbort (ch : ChanId) (s : State) : Host.Outcome State Fault Refusal :=
  s.runOn [] (fun s => s.asHolder ch 0x180300 0 (fun x n s => s.admitAbort x n))

/-- `ADMIT_TEST_DONE` (R419). The spare's test and layout comparison complete and loading begins or the admission is abandoned.
-/
def execAdmitTestDone (failed spare : Nat) (pass : Bool) (s : State) : Host.Outcome State Fault Refusal :=
  s.runOn [] (fun s => s.admitTestDone failed spare pass)

/-- `ADMIT_LOAD_DONE` (R419). Stages 1 to 3 complete and the admission waits for a step boundary. -/
def execAdmitLoadDone (s : State) : Host.Outcome State Fault Refusal :=
  s.runOn [] (fun s => s.admitLoadDone)

/-- `ADMIT_SPARE_TIMEOUT` (R419). A spare silent for the management timeout abandons the admission with TIMEOUT. -/
def execAdmitSpareTimeout (s : State) : Host.Outcome State Fault Refusal :=
  s.runOn [] (fun s => s.admitSpareTimeout)

/-- `REBIND_APPLY` (R420). A member receiving the custodian's rebinding drains requests to the failed number and swaps numbers.
-/
def execRebindApply (p : Packet) (s : State) : Host.Outcome State Fault Refusal :=
  s.runOn [] (fun s => s.rebindApply p)

end Sys2Proof.Machine
end

