-- ==== Sys2Proof/Machine/CmdReduce.lean ====
section
/-! DEFINITION. The meanings of the commands of one family: collectives on Damson and embedding tables on Currant (spec/12).
One definition for each row. -/

namespace Sys2Proof.Machine

/-- `CONTRIB` (R337). A reducer accumulates a contribution chunk and sends results when all contributions are in. -/
def execContrib (p : Packet) (s : State) : Host.Outcome State Fault Refusal :=
  s.runOn [17] (fun s => s.serving p (isReduce p 0) (fun s => s.contribIn p))

/-- `RESULT` (R337). A receiver writes a result chunk to its DST. -/
def execResult (p : Packet) (s : State) : Host.Outcome State Fault Refusal :=
  s.runOn [17] (fun s => s.serving p (isReduce p 1) (fun s => s.resultIn p))

/-- `DIGEST` (R342). A digest record arrives and the shard is tested. -/
def execDigest (p : Packet) (s : State) : Host.Outcome State Fault Refusal :=
  s.runOn [17] (fun s => s.serving p (isReduce p 2) (fun s => s.digestIn p))

/-- `GRANT` (R337). A participant receives a chunk limit and checks the DCRC on the first grant. -/
def execGrant (p : Packet) (s : State) : Host.Outcome State Fault Refusal :=
  s.runOn [17] (fun s => s.serving p (isReduce p 3) (fun s => s.grantIn p))

/-- `COLLECTIVE_ABORT` (R345). A participant receives ABORT and ends the collective with the status. -/
def execCollectiveAbort (p : Packet) (s : State) : Host.Outcome State Fault Refusal :=
  s.runOn [17] (fun s => s.serving p (isReduce p 4) (fun s => s.collAbortIn p))

/-- `COLLECTIVE_TIMEOUT` (R345). No REDUCE packet of a collective for COLL_TMO.MS ends it with TIMEOUT. -/
def execCollectiveTimeout (key id : Nat) (s : State) : Host.Outcome State Fault Refusal :=
  s.runOn [17] (fun s => s.collTimeout key id)

/-- `POOL_REQ` (R354). An owner pools the requested rows and returns partials once REQS packets are served. -/
def execPoolReq (p : Packet) (s : State) : Host.Outcome State Fault Refusal :=
  s.runOn [19] (fun s => s.serving p (isReduce p 5) (fun s => s.poolReq p))

/-- `POOL_PART` (R355). The origin combines partials and stores pooled bags. -/
def execPoolPart (p : Packet) (s : State) : Host.Outcome State Fault Refusal :=
  s.runOn [19] (fun s => s.serving p (isReduce p 6) (fun s => s.poolPart p))

/-- `VER_DRAINED` (R349). A member records VER_DRAINED and frees a retiring version when all are in. -/
def execVerDrained (p : Packet) (s : State) : Host.Outcome State Fault Refusal :=
  s.runOn [19] (fun s => s.serving p (isReduce p 7) (fun s => s.verDrained p))

/-- `TABLE_DEFINE` (R348). DEFINE checks the table configuration and moves it to DEFINED. -/
def execTableDefine (ch : ChanId) (s : State) : Host.Outcome State Fault Refusal :=
  s.runOn [] (fun s => s.bySeat ch (fun x _ s => s.tableDefine x))

/-- `TABLE_DELETE` (R349). DELETE moves a DEFINED table to UNDEFINED. -/
def execTableDelete (ch : ChanId) (s : State) : Host.Outcome State Fault Refusal :=
  s.runOn [] (fun s => s.bySeat ch (fun x _ s => s.tableDelete x))

/-- `VERSION_INSTALL` (R349). INSTALL translates the shard and places a version in a free slot. -/
def execVersionInstall (ch : ChanId) (s : State) : Host.Outcome State Fault Refusal :=
  s.runOn [] (fun s => s.bySeat ch (fun x _ s => s.versionInstall x))

/-- `VERSION_COMMIT` (R350). COMMIT makes a version CURRENT and retires the former one. -/
def execVersionCommit (ch : ChanId) (s : State) : Host.Outcome State Fault Refusal :=
  s.runOn [] (fun s => s.bySeat ch (fun x _ s => s.versionCommit x))

/-- `VERSION_DISCARD` (R349). DISCARD frees an INSTALLED version slot. -/
def execVersionDiscard (ch : ChanId) (s : State) : Host.Outcome State Fault Refusal :=
  s.runOn [] (fun s => s.bySeat ch (fun x _ s => s.versionDiscard x))

/-- `ABORT_STATUS_EXPIRY` (R345). An ABORT status kept for a collective not yet started is discarded after twice COLL_TMO.MS. -/
def execAbortStatusExpiry (key id : Nat) (s : State) : Host.Outcome State Fault Refusal :=
  s.runOn [17] (fun s => s.abortExpiry key id)

end Sys2Proof.Machine
end

