-- ==== Sys2Proof/Machine/CmdSearch.lean ====
section
/-! DEFINITION. The meanings of the commands of one family: vector search on the Sloe units (spec/13).
One definition for each row. -/

namespace Sys2Proof.Machine

/-- `CENTROID_STEP_DONE` (R367). The centroid step completes and segments are assigned to Sloe units. -/
def execCentroidStepDone (tag : Nat) (s : State) : Host.Outcome State Fault Refusal :=
  s.runOn [] (fun s => s.centroidStepDone tag)

/-- `SEGMENT_SCAN_DONE` (R367). A Sloe finishes scanning a segment and offers candidates to the merge stage. -/
def execSegmentScanDone (unit : Nat) (s : State) : Host.Outcome State Fault Refusal :=
  s.runOn [22] (fun s => s.segmentScanDone (unit % 24))

/-- `SEGMENT_SCAN_TIMEOUT` (R358). A segment exceeds the scan timeout and its queries end with TIMEOUT. -/
def execSegmentScanTimeout (unit : Nat) (s : State) : Host.Outcome State Fault Refusal :=
  s.runOn [22] (fun s => s.segmentScanTimeout (unit % 24))

/-- `SLOE_PARITY_FAULT` (R358). An internal parity fault moves a Sloe to FAULTED and ends its segments. -/
def execSloeParityFault (unit : Nat) (s : State) : Host.Outcome State Fault Refusal :=
  s.runOn [22] (fun s => s.sloeParityFault (unit % 24))

/-- `SEARCH_MERGE_DONE` (R369). The merge stage ranks and filters candidates and results are stored. -/
def execSearchMergeDone (tag : Nat) (s : State) : Host.Outcome State Fault Refusal :=
  s.runOn [22] (fun s => s.searchMergeDone tag)

end Sys2Proof.Machine
end

