-- ==== Sys2Proof/Machine/CmdSecurity.lean ====
section
/-! DEFINITION. The meanings of the commands of one family: attestation reports, data keys and link keys (spec/16).
One definition for each row. -/

namespace Sys2Proof.Machine

/-- `REPORT_GENERATE` (R431). GENERATE starts forming a signed attestation report for the seat. -/
def execReportGenerate (ch : ChanId) (s : State) : Host.Outcome State Fault Refusal :=
  s.run [] (fun s => s.bySeat ch (fun x n s => s.reportGenerate x n))

/-- `REPORT_READY` (R431). The attestation report is formed and its outcome posted. -/
def execReportReady (seat : SeatId) (s : State) : Host.Outcome State Fault Refusal :=
  s.run [] (fun s => s.reportReady seat)

/-- `KEY_INSTALL` (R437). INSTALL unwraps and installs a partition data key. -/
def execKeyInstall (ch : ChanId) (s : State) : Host.Outcome State Fault Refusal :=
  s.run [] (fun s => s.asHolder ch 0x1A0208 1 (fun x _ s => s.keyInstall x))

/-- `KEY_DESTROY` (R437). DESTROY erases an unused partition data key. -/
def execKeyDestroy (ch : ChanId) (s : State) : Host.Outcome State Fault Refusal :=
  s.run [] (fun s => s.asHolder ch 0x1A0208 1 (fun x _ s => s.keyDestroy x))

/-- `LINK_KEY_EXCHANGE` (R432). A key-exchange message of a trained port is processed and link keys are established or the port
is held down. -/
def execLinkKeyExchange (port : Nat) (message : KeyMsg) (s : State) : Host.Outcome State Fault Refusal :=
  s.runOn [23] (fun s => s.linkKeyExchange port message)

/-- `LINK_REKEY` (R433). After 2^32 frames or 60 s the port ends rekey with a new exchange. -/
def execLinkRekey (port : Nat) (message : KeyMsg) (s : State) : Host.Outcome State Fault Refusal :=
  s.runOn [23] (fun s => s.linkRekey port message)

end Sys2Proof.Machine
end

