-- ==== Sys2Proof/Machine/CmdSwitch.lean ====
section
/-! DEFINITION. The meanings of the commands of one family: the switch core, gates and shapers (spec/11).
One definition for each row. -/

namespace Sys2Proof.Machine

/-- `PACKET_FORWARD` (R311). A packet header arrives at the switch core; format and key are checked, it is routed, combined, cut
through or stomped. -/
def execPacketForward (ingress lane : Nat) (p : Packet) (crc stomp fault : Nat) (s : State) : Host.Outcome State Fault Refusal :=
  s.runOn [17] (fun s => s.packetIn ingress lane p crc stomp fault)

/-- `EGRESS_ARBITRATION` (R317). At a packet boundary an egress port selects the next packet by level, gates, shapers and DRR.
-/
def execEgressArbitration (egress : Nat) (s : State) : Host.Outcome State Fault Refusal :=
  s.runOn [17] (fun s => if 96 ≤ egress ∧ egress < 100 then s.ethArbitrate (egress - 96) else s.arbitrate egress)

/-- `GATE_ENTRY_BEGIN` (R323). A gate entry begins at its domain time and opens and closes its gates. -/
def execGateEntryBegin (s : State) : Host.Outcome State Fault Refusal :=
  s.run [17] (fun s => s.gateEntryBegin)

/-- `GATE_HOLDOVER_EXPIRY` (R328). Holdover passes without lock; all gates open and the gate list is SUSPENDED. -/
def execGateHoldoverExpiry (s : State) : Host.Outcome State Fault Refusal :=
  s.run [] (fun s => s.gateHoldoverExpiry)

/-- `SHAPER_APPLY` (R321). APPLY checks the staged shaper values and applies them with the bucket effects of R321. -/
def execShaperApply (ch : ChanId) (s : State) : Host.Outcome State Fault Refusal :=
  s.run [] (fun s => s.asHolder ch 0xE0218 0 (fun x _ s => s.shaperApply x))

/-- `SHAPER_LOAD` (R329). LOAD copies the selected shaper's configuration into the seat's staging registers. -/
def execShaperLoad (ch : ChanId) (s : State) : Host.Outcome State Fault Refusal :=
  s.run [] (fun s => s.asHolder ch 0xE0218 0 (fun x _ s => s.shaperLoad x))

/-- `SHAPER_BUCKET_FILL` (R320). A shaper's peak or committed bucket fills enough for the head packet, so the queue wakes or
changes level. -/
def execShaperBucketFill (shaper : Nat) (committed : Bool) (s : State) : Host.Outcome State Fault Refusal :=
  s.run [17] (fun s => s.shaperFill shaper committed)

end Sys2Proof.Machine
end

