-- ==== Sys2Proof/Machine/CmdTest.lean ====
section
/-! DEFINITION. The meanings of the commands of one family: the laser interlock, the TAP, analogue test buses and unit tests (spec/18).
One definition for each row. -/

namespace Sys2Proof.Machine

/-- `LASER_INTERLOCK_DROP` (R465). LSR_EN falls; every laser turns off and every lane is held down. -/
def execLaserInterlockDrop (s : State) : Host.Outcome State Fault Refusal :=
  s.runOn [] (fun s => s.laserDrop)

/-- `LASER_INTERLOCK_RISE` (R465). LSR_EN rises and the lanes train again. -/
def execLaserInterlockRise (s : State) : Host.Outcome State Fault Refusal :=
  s.runOn [] (fun s => s.laserRise)

/-- `TEST_UNLOCK` (R466). UNLOCK moves test access to UNLOCKED. -/
def execTestUnlock (ch : ChanId) (s : State) : Host.Outcome State Fault Refusal :=
  s.run [] (fun s => s.asHolder ch 0x1E0010 0 (fun x n s => s.testUnlock x n))

/-- `TEST_LOCK` (R466). LOCK moves test access to LOCKED. -/
def execTestLock (ch : ChanId) (s : State) : Host.Outcome State Fault Refusal :=
  s.run [] (fun s => s.asHolder ch 0x1E0010 0 (fun x n s => s.testLock x n))

/-- `TEST_HOLD` (R466). HOLD stops islands 1 to 24 to HELD for boundary scan. -/
def execTestHold (ch : ChanId) (s : State) : Host.Outcome State Fault Refusal :=
  s.run [] (fun s => s.asHolder ch 0x1E0010 0 (fun x n s => s.testHold x n))

/-- `TAP_RESET` (R467). A TAP reset selects IDCODE. -/
def execTapReset (s : State) : Host.Outcome State Fault Refusal :=
  s.run [] (fun s => s.tapIdcode)

/-- `EXTEST` (R467). EXTEST drives the boundary cells, or acts as SAMPLE outside HOLD and OPEN_ROM. -/
def execExtest (pins preload : Nat) (s : State) : Host.Outcome State Fault Refusal :=
  s.run [] (fun s => s.tapExtest pins preload)

/-- `SAMPLE_PRELOAD` (R467). SAMPLE/PRELOAD captures the pins. -/
def execSamplePreload (pins preload : Nat) (s : State) : Host.Outcome State Fault Refusal :=
  s.run [] (fun s => s.tapSample pins preload)

/-- `IDCODE` (R468). IDCODE selects the identification register. -/
def execIdcode (s : State) : Host.Outcome State Fault Refusal :=
  s.run [] (fun s => s.tapIdcode)

/-- `HIGHZ` (R467). HIGHZ releases the outputs, or selects BYPASS when locked or unlocked. -/
def execHighz (s : State) : Host.Outcome State Fault Refusal :=
  s.run [] (fun s => s.tapHighz)

/-- `CLAMP` (R467). CLAMP holds the outputs, or selects BYPASS when locked or unlocked. -/
def execClamp (s : State) : Host.Outcome State Fault Refusal :=
  s.run [] (fun s => s.tapClamp)

/-- `PROBE` (R470). PROBE gives the TAP control of the analogue buses. -/
def execProbe (mode node reading : Nat) (s : State) : Host.Outcome State Fault Refusal :=
  s.run [] (fun s => s.tapProbe mode node reading)

/-- `RUNBIST` (R467). RUNBIST runs the BIST of every island and the lane loopback. -/
def execRunbist (passed : Nat) (s : State) : Host.Outcome State Fault Refusal :=
  s.run [] (fun s => s.tapRunbist passed)

/-- `TSTWIN` (R468). TSTWIN reads a window word at Update-DR for capture. -/
def execTstwin (off : Nat) (s : State) : Host.Outcome State Fault Refusal :=
  s.run [] (fun s => s.tapTstwin off)

/-- `BYPASS` (R467). BYPASS selects the one-bit bypass register. -/
def execBypass (s : State) : Host.Outcome State Fault Refusal :=
  s.run [] (fun s => s.tapBypass)

/-- `ABUS_SELECT` (R470). A write of TST_ABUS_CTRL connects or disconnects an analogue node. -/
def execAbusSelect (ch : ChanId) (mode node reading : Nat) (s : State) : Host.Outcome State Fault Refusal :=
  s.run [] (fun s => s.bySeat ch (fun x n s => s.abusSelect x n (mode % 4) (node % 1024) reading))

/-- `UNIT_ISOLATE` (R471). ISOLATE takes a Quince core or Sloe unit out of grants. -/
def execUnitIsolate (ch : ChanId) (unit : Nat) (s : State) : Host.Outcome State Fault Refusal :=
  s.run [] (fun s => s.asHolder ch 0x1E0018 0 (fun x n s => s.unitIsolate x n (unit % 64)))

/-- `UNIT_IDLE` (R471). An isolating unit becomes idle and is ISOLATED. -/
def execUnitIdle (s : State) : Host.Outcome State Fault Refusal :=
  s.run [] (fun s => s.unitIdle)

/-- `UNIT_TEST` (R471). TEST runs the selected MBIST, LBIST and sentinel on the isolated unit. -/
def execUnitTest (ch : ChanId) (unit tests : Nat) (s : State) : Host.Outcome State Fault Refusal :=
  s.run [] (fun s => s.asHolder ch 0x1E0018 0 (fun x n s => s.unitTest x n (unit % 64) (tests % 8)))

/-- `UNIT_TEST_DONE` (R471). The unit's tests finish with DONE or fault the unit. -/
def execUnitTestDone (failed : Option Nat) (s : State) : Host.Outcome State Fault Refusal :=
  s.runOn [] (fun s => s.unitTestDone failed)

/-- `UNIT_RELEASE` (R471). RELEASE returns the unit to grants. -/
def execUnitRelease (ch : ChanId) (unit : Nat) (s : State) : Host.Outcome State Fault Refusal :=
  s.runOn [] (fun s => s.asHolder ch 0x1E0018 0 (fun x n s => s.unitRelease x n (unit % 64)))

end Sys2Proof.Machine
end

