-- ==== Sys2Proof/Machine/CmdTier.lean ====
section
/-! DEFINITION. The meanings of the commands of one family: memory parts, staging, redundancy and rebuild (spec/06).
One definition for each row. -/

namespace Sys2Proof.Machine

/-- `PART_FAILURE` (R166). A stack, channel or flash die fails and its offsets are served by protection class. -/
def execPartFailure (tier part : Nat) (s : State) : Host.Outcome State Fault Refusal :=
  s.runOn [] (fun s => s.partFailure tier part)

/-- `STAGING_SLOT_FREE` (R172). A waiting tile obtains a freed staging slot at the owner. -/
def execStagingSlotFree (s : State) : Host.Outcome State Fault Refusal :=
  s.runOn [] (fun s => s.stagingSlotFree)

/-- `GRANULE_RESYNC` (R473). A degraded granule's redundancy holder is ACTIVE and the owner resynchronises it unit by unit. -/
def execGranuleResync (tier granule : Nat) (s : State) : Host.Outcome State Fault Refusal :=
  s.runOn [] (fun s => s.granuleResync tier granule)

/-- `ARM_UNIT_DONE` (R181). A 64 KiB unit of a P2 claim has been sent to the parity holder and is armed or disarmed. -/
def execArmUnitDone (cell : Nat) (s : State) : Host.Outcome State Fault Refusal :=
  s.runOn [] (fun s => s.armUnitDone cell)

/-- `REBUILD_UNIT_COPY` (R189). A 64 KiB unit is copied onto the spare and the frontier advances. -/
def execRebuildUnitCopy (tier : Nat) (s : State) : Host.Outcome State Fault Refusal :=
  s.runOn [] (fun s => s.rebuildUnitCopy tier)

/-- `REBUILD_STAGE_DONE` (R187). A load stage of the spare completes. -/
def execRebuildStageDone (stage d : Nat) (entries : List JEntry) (claims : List Claim) (content : List (Nat × List Byte × Nat)) (lost : List (Nat × Nat))
    (s : State) : Host.Outcome State Fault Refusal :=
  s.runOn [] (fun s => (s.rebuildStageDone stage d entries claims content lost).admitStageDone stage d)

end Sys2Proof.Machine
end

