-- ==== Sys2Proof/Machine/CmdWork.lean ====
section
/-! DEFINITION. The meanings of the commands of one family: work queues, the journal and hand-off of phases (spec/04).
One definition for each row. -/

namespace Sys2Proof.Machine

/-- `DOORBELL` (R97). A DOORBELL store compares TAIL with HEAD and starts fetching slots, does nothing, or puts the queue in
ERROR. -/
def execDoorbell (queue word : Nat) (s : State) : Host.Outcome State Fault Refusal :=
  s.runOn [18, 20] (fun s => s.doorbellRow queue word)

/-- `CQ_HEAD_STORE` (R98). A CQ_HEAD store frees completion space or puts the queue in ERROR. -/
def execCqHeadStore (queue word : Nat) (s : State) : Host.Outcome State Fault Refusal :=
  s.runOn [18, 20] (fun s => s.cqHeadRow queue word)

/-- `SLOT_FETCH_DONE` (R103). A fetched descriptor is checked; it is refused with its final completion, held, or journalled and
mirrored. -/
def execSlotFetchDone (queue : Nat) (timedOut : Bool) (s : State) : Host.Outcome State Fault Refusal :=
  s.runOn [20] (fun s => s.slotFetch queue timedOut State.checkDesc)

/-- `MIRROR_ACK` (R106). A mirror acknowledgement arrives; covered journal entries take effect: acceptance, phase commit,
retirement, queue or context configuration. -/
def execMirrorAck (p : Packet) (s : State) : Host.Outcome State Fault Refusal :=
  s.runOn [20] (fun s => s.mirrorAck p)

/-- `JOURNAL_MIRROR_ENTRY` (R113). The partner checks a mirrored journal entry's CRC, writes it in JSEQ order and acknowledges.
-/
def execJournalMirrorEntry (p : Packet) (s : State) : Host.Outcome State Fault Refusal :=
  s.runOn [20] (fun s => s.serving p (p.op == opMIRROR && p.aux % 2 == 1) (fun s => s.mirrorServe p))

/-- `HANDOFF` (R119). A holder receives HANDOFF for a phase and starts it, or answers TAKEN for one it holds. -/
def execHandoff (p : Packet) (s : State) : Host.Outcome State Fault Refusal :=
  s.runOn [20] (fun s => s.serving p (isJournal p jcHANDOFF) (fun s => s.handoff p))

/-- `TAKEN` (R118). The custodian receives TAKEN and marks the phase RUNNING. -/
def execTaken (p : Packet) (s : State) : Host.Outcome State Fault Refusal :=
  s.runOn [20] (fun s => s.serving p (isJournal p jcTAKEN) (fun s => s.takenMsg p))

/-- `HELD` (R119). The custodian receives HELD for a running phase. -/
def execHeld (p : Packet) (s : State) : Host.Outcome State Fault Refusal :=
  s.runOn [20] (fun s => s.serving p (isJournal p jcHELD) (fun s => s.heldMsg p))

/-- `NOT_HELD` (R118). The custodian receives NOT_HELD and re-commits the phase with the same holder and tags. -/
def execNotHeld (p : Packet) (s : State) : Host.Outcome State Fault Refusal :=
  s.runOn [20] (fun s => s.serving p (isJournal p jcNOT_HELD) (fun s => s.notHeldMsg p))

/-- `HOLD_QUERY` (R119). A holder answers HOLD_QUERY with HELD or NOT_HELD. -/
def execHoldQuery (p : Packet) (s : State) : Host.Outcome State Fault Refusal :=
  s.runOn [20] (fun s => s.serving p (isJournal p jcHOLD_QUERY) (fun s => s.holdQuery p))

/-- `PHASE_DONE` (R118). The custodian receives PHASE_DONE and commits the next PHASE or RETIRE. -/
def execPhaseDone (p : Packet) (s : State) : Host.Outcome State Fault Refusal :=
  s.runOn [20] (fun s => s.serving p (isJournal p jcPHASE_DONE) (fun s => s.phaseDoneMsg p))

/-- `ORPHAN_SCAN` (R120). Once per hand-off timeout the orphan scan queries silent holders and reclaims phases. -/
def execOrphanScan (s : State) : Host.Outcome State Fault Refusal :=
  s.runOn [20] (fun s => s.orphanScan)

/-- `QUEUE_ENABLE` (R129). ENABLE checks the queue configuration, pins its rings and journals QUEUE_CFG open. -/
def execQueueEnable (ch : ChanId) (s : State) : Host.Outcome State Fault Refusal :=
  s.runOn [] (fun s => s.bySeat ch (fun x n s => s.queueEnable x n))

/-- `QUEUE_DISABLE` (R129). DISABLE stops fetching and moves the queue to STOPPING. -/
def execQueueDisable (ch : ChanId) (s : State) : Host.Outcome State Fault Refusal :=
  s.runOn [] (fun s => s.bySeat ch (fun x n s => s.queueDisable x n))

/-- `QUEUE_CLEAR_ERROR` (R129). CLEAR_ERROR resumes fetching at HEAD. -/
def execQueueClearError (ch : ChanId) (s : State) : Host.Outcome State Fault Refusal :=
  s.runOn [] (fun s => s.bySeat ch (fun x n s => s.queueClearError x n))

/-- `HELD_INTERVAL` (R119). A holder running a phase sends HELD unprompted to the custodian at least once per hand-off timeout.
-/
def execHeldInterval (s : State) : Host.Outcome State Fault Refusal :=
  s.runOn [20] (fun s => s.heldInterval)

end Sys2Proof.Machine
end

