-- ==== Sys2Proof/Machine/CmdXlt.lean ====
section
/-! DEFINITION. The meanings of the commands of one family: extents, contexts, shootdown and revocation (spec/05).
One definition for each row. -/

namespace Sys2Proof.Machine

/-- `MAP` (R140). MAP checks a staged extent and writes it, forwarding checks 5 to 7 to a remote owner. -/
def execMap (ch : ChanId) (s : State) : Host.Outcome State Fault Refusal :=
  s.runOn [] (fun s => s.bySeat ch (fun x _ s => s.mapCmd x))

/-- `MAP_OWNER_ANSWER` (R140). The owner's answer to a remote MAP arrives and the MAP completes. -/
def execMapOwnerAnswer (p : Packet) (s : State) : Host.Outcome State Fault Refusal :=
  s.runOn [] (fun s => s.mapOwnerAnswer p)

/-- `MAP_TIMEOUT` (R140). A remote MAP has no owner answer within the management timeout and completes with TIMEOUT. -/
def execMapTimeout (seat : SeatId) (s : State) : Host.Outcome State Fault Refusal :=
  s.runOn [] (fun s => s.mapTimedOut seat)

/-- `CONTEXT_ENABLE` (R137). Writing ENABLE 1 checks the context and journals CONTEXT_CFG to enable it. -/
def execContextEnable (ch : ChanId) (s : State) : Host.Outcome State Fault Refusal :=
  s.runOn [] (fun s => s.bySeat ch (fun x n s => s.ctxEnableWrite x n 1))

/-- `CONTEXT_DISABLE` (R137). Writing ENABLE 0 disables a context with no entries, journalling CONTEXT_CFG. -/
def execContextDisable (ch : ChanId) (s : State) : Host.Outcome State Fault Refusal :=
  s.runOn [] (fun s => s.bySeat ch (fun x n s => s.ctxEnableWrite x n 0))

/-- `UNMAP_RANGE` (R154). UNMAP_RANGE moves whole extents of a range to WITHDRAWING, all or nothing. -/
def execUnmapRange (ch : ChanId) (s : State) : Host.Outcome State Fault Refusal :=
  s.runOn [] (fun s => s.bySeat ch (fun x _ s => s.unmapRange x))

/-- `UNMAP_CONTEXT` (R154). UNMAP_CONTEXT moves every extent of the context to WITHDRAWING. -/
def execUnmapContext (ch : ChanId) (s : State) : Host.Outcome State Fault Refusal :=
  s.runOn [] (fun s => s.bySeat ch (fun x _ s => s.unmapContext x))

/-- `RELEASE_MEMBER` (R136). RELEASE_MEMBER drops the claims and aliases registered by a FAILED or RETIRED member. -/
def execReleaseMember (ch : ChanId) (d : Nat) (s : State) : Host.Outcome State Fault Refusal :=
  s.runOn [] (fun s => s.bySeat ch (fun x _ s => s.releaseMember x (d % 64)))

/-- `ETC_INVALIDATE_DONE` (R149). ETC invalidation of an extent completes, its state change takes effect and held lookups
resolve. -/
def execEtcInvalidateDone (ctx va : Nat) (s : State) : Host.Outcome State Fault Refusal :=
  s.runOn [] (fun s => s.etcInvalidated ctx va)

/-- `ETC_MISS_WALK` (R148). An ETC miss finishes walking the sorted extent table and fills the ETC. -/
def execEtcMissWalk (ctx va : Nat) (s : State) : Host.Outcome State Fault Refusal :=
  s.run [] (fun s => s.etcFill ctx va)

/-- `SHOOTDOWN_TIMEOUT` (R156). A shootdown not complete within its timeout posts TIMEOUT and writes a record while the drain
continues. -/
def execShootdownTimeout (seat : SeatId) (s : State) : Host.Outcome State Fault Refusal :=
  s.run [] (fun s => s.shootTimedOut seat)

/-- `XLT_MAP_CHECK` (R140). An owner receives a MAP check on XLT_CTRL, records the claim or alias and answers. -/
def execXltMapCheck (p : Packet) (s : State) : Host.Outcome State Fault Refusal :=
  s.runOn [] (fun s => s.serving p (p.op == opXLT_CTRL) (fun s => if p.aux = xcRECALL then s.recallServe p else s.xltServe p))

/-- `REVOKE_RANGE` (R158). A member receives REVOKE_RANGE and moves the extents over the claim to REVOKING or forwards it. -/
def execRevokeRange (p : Packet) (s : State) : Host.Outcome State Fault Refusal :=
  s.runOn [] (fun s => s.serving p (isXlt p xcREVOKE) (fun s => s.revokeServe p))

/-- `DRAINED_REPORT` (R158). A drained report arrives; the owner or custodian completes the revocation when all reports are in.
-/
def execDrainedReport (p : Packet) (s : State) : Host.Outcome State Fault Refusal :=
  s.runOn [] (fun s => s.serving p (isXlt p xcDRAINED) (fun s => s.drainedServe p))

/-- `REGISTRATION_QUERY` (R137). A member answers a spare's XLT_CTRL query with its extents on the failed number. -/
def execRegistrationQuery (p : Packet) (s : State) : Host.Outcome State Fault Refusal :=
  s.runOn [] (fun s => s.serving p (isXlt p xcQUERY) (fun s => s.registrationServe p (XltMsg.decode p.payload).member))

end Sys2Proof.Machine
end

