-- ==== Sys2Proof/Machine/Dispatch.lean ====
section
/-! DEFINITION. The dispatcher: every row of the table and the meaning it has. -/

namespace Sys2Proof.Machine

def exec (i : Instr) (s : State) : Host.Outcome State Fault Refusal :=
  match i with
  | .registerWrite ch off bs env => Sys2Proof.Machine.execRegisterWrite ch off bs env s
  | .rcFieldRead ch off len => Sys2Proof.Machine.execRcFieldRead ch off len s
  | .heartbeatTimer => Sys2Proof.Machine.execHeartbeatTimer s
  | .heartbeat p => Sys2Proof.Machine.execHeartbeat p s
  | .memberLossTimeout d => Sys2Proof.Machine.execMemberLossTimeout d s
  | .memberDeclare p => Sys2Proof.Machine.execMemberDeclare p s
  | .identityExchange d peer => Sys2Proof.Machine.execIdentityExchange d peer s
  | .laneTrainingDone port lane position number cls => Sys2Proof.Machine.execLaneTrainingDone port lane position number cls s
  | .laneDown port lane => Sys2Proof.Machine.execLaneDown port lane s
  | .laneRetrainDone port lane position number => Sys2Proof.Machine.execLaneRetrainDone port lane position number s
  | .mgmtAccessTimeout tag => Sys2Proof.Machine.execMgmtAccessTimeout tag s
  | .silBeginFull ch => Sys2Proof.Machine.execSilBeginFull ch s
  | .silBeginPartial ch => Sys2Proof.Machine.execSilBeginPartial ch s
  | .silCommit ch => Sys2Proof.Machine.execSilCommit ch s
  | .silAbort ch => Sys2Proof.Machine.execSilAbort ch s
  | .silApertureWrite ch word value => Sys2Proof.Machine.execSilApertureWrite ch word value s
  | .imageVerifyDone internal => Sys2Proof.Machine.execImageVerifyDone internal s
  | .imageCheckDone internal => Sys2Proof.Machine.execImageCheckDone internal s
  | .sliceDrained => Sys2Proof.Machine.execSliceDrained s
  | .drainTimeout => Sys2Proof.Machine.execDrainTimeout s
  | .ringFetchDone entries high => Sys2Proof.Machine.execRingFetchDone entries high s
  | .ringFetchTimeout => Sys2Proof.Machine.execRingFetchTimeout s
  | .keepalive ch => Sys2Proof.Machine.execKeepalive ch s
  | .seatRelease ch => Sys2Proof.Machine.execSeatRelease ch s
  | .claimBegin ch => Sys2Proof.Machine.execClaimBegin ch s
  | .claimSubmit ch => Sys2Proof.Machine.execClaimSubmit ch s
  | .claimCheckDone buffer internal => Sys2Proof.Machine.execClaimCheckDone buffer internal s
  | .claimBufferTimeout buffer => Sys2Proof.Machine.execClaimBufferTimeout buffer s
  | .channelClose ch => Sys2Proof.Machine.execChannelClose ch s
  | .seatLivenessTimeout seat => Sys2Proof.Machine.execSeatLivenessTimeout seat s
  | .semAcquire ch sem lease other => Sys2Proof.Machine.execSemAcquire ch sem lease other s
  | .semRenew ch sem lease => Sys2Proof.Machine.execSemRenew ch sem lease s
  | .semRelease ch sem => Sys2Proof.Machine.execSemRelease ch sem s
  | .semLeaseExpiry sem => Sys2Proof.Machine.execSemLeaseExpiry sem s
  | .i3cWindowFrame bs env => Sys2Proof.Machine.execI3cWindowFrame bs env s
  | .i3cPrivateRead => Sys2Proof.Machine.execI3cPrivateRead s
  | .i3cEntdaa addr => Sys2Proof.Machine.execI3cEntdaa addr s
  | .i3cRstdaa => Sys2Proof.Machine.execI3cRstdaa s
  | .i3cSetdasa addr => Sys2Proof.Machine.execI3cSetdasa addr s
  | .i3cGetpid => Sys2Proof.Machine.execI3cGetpid s
  | .i3cGetbcr => Sys2Proof.Machine.execI3cGetbcr s
  | .i3cGetdcr => Sys2Proof.Machine.execI3cGetdcr s
  | .i3cGetstatus => Sys2Proof.Machine.execI3cGetstatus s
  | .i3cEnec bits => Sys2Proof.Machine.execI3cEnec bits s
  | .i3cDisec bits => Sys2Proof.Machine.execI3cDisec bits s
  | .i3cCccUnsupported code => Sys2Proof.Machine.execI3cCccUnsupported code s
  | .doorbell queue word => Sys2Proof.Machine.execDoorbell queue word s
  | .cqHeadStore queue word => Sys2Proof.Machine.execCqHeadStore queue word s
  | .slotFetchDone queue timedOut => Sys2Proof.Machine.execSlotFetchDone queue timedOut s
  | .mirrorAck p => Sys2Proof.Machine.execMirrorAck p s
  | .journalMirrorEntry p => Sys2Proof.Machine.execJournalMirrorEntry p s
  | .handoff p => Sys2Proof.Machine.execHandoff p s
  | .taken p => Sys2Proof.Machine.execTaken p s
  | .held p => Sys2Proof.Machine.execHeld p s
  | .notHeld p => Sys2Proof.Machine.execNotHeld p s
  | .holdQuery p => Sys2Proof.Machine.execHoldQuery p s
  | .phaseDone p => Sys2Proof.Machine.execPhaseDone p s
  | .orphanScan => Sys2Proof.Machine.execOrphanScan s
  | .queueEnable ch => Sys2Proof.Machine.execQueueEnable ch s
  | .queueDisable ch => Sys2Proof.Machine.execQueueDisable ch s
  | .queueClearError ch => Sys2Proof.Machine.execQueueClearError ch s
  | .map ch => Sys2Proof.Machine.execMap ch s
  | .mapOwnerAnswer p => Sys2Proof.Machine.execMapOwnerAnswer p s
  | .mapTimeout seat => Sys2Proof.Machine.execMapTimeout seat s
  | .contextEnable ch => Sys2Proof.Machine.execContextEnable ch s
  | .contextDisable ch => Sys2Proof.Machine.execContextDisable ch s
  | .unmapRange ch => Sys2Proof.Machine.execUnmapRange ch s
  | .unmapContext ch => Sys2Proof.Machine.execUnmapContext ch s
  | .releaseMember ch d => Sys2Proof.Machine.execReleaseMember ch d s
  | .etcInvalidateDone ctx va => Sys2Proof.Machine.execEtcInvalidateDone ctx va s
  | .etcMissWalk ctx va => Sys2Proof.Machine.execEtcMissWalk ctx va s
  | .shootdownTimeout seat => Sys2Proof.Machine.execShootdownTimeout seat s
  | .xltMapCheck p => Sys2Proof.Machine.execXltMapCheck p s
  | .revokeRange p => Sys2Proof.Machine.execRevokeRange p s
  | .drainedReport p => Sys2Proof.Machine.execDrainedReport p s
  | .registrationQuery p => Sys2Proof.Machine.execRegistrationQuery p s
  | .partFailure tier part => Sys2Proof.Machine.execPartFailure tier part s
  | .stagingSlotFree => Sys2Proof.Machine.execStagingSlotFree s
  | .granuleResync tier granule => Sys2Proof.Machine.execGranuleResync tier granule s
  | .armUnitDone cell => Sys2Proof.Machine.execArmUnitDone cell s
  | .rebuildUnitCopy tier => Sys2Proof.Machine.execRebuildUnitCopy tier s
  | .rebuildStageDone stage d entries claims content lost => Sys2Proof.Machine.execRebuildStageDone stage d entries claims content lost s
  | .qissue core => Sys2Proof.Machine.execQissue core s
  | .qwait core => Sys2Proof.Machine.execQwait core s
  | .qpoll core => Sys2Proof.Machine.execQpoll core s
  | .qfence core => Sys2Proof.Machine.execQfence core s
  | .qexit core => Sys2Proof.Machine.execQexit core s
  | .qinfo core => Sys2Proof.Machine.execQinfo core s
  | .scalarInstruction core badSector parity => Sys2Proof.Machine.execScalarInstruction core badSector parity s
  | .mma core faults => Sys2Proof.Machine.execMma core faults s
  | .vectorAdd core => Sys2Proof.Machine.execVectorAdd core s
  | .vectorSub core => Sys2Proof.Machine.execVectorSub core s
  | .vectorMul core => Sys2Proof.Machine.execVectorMul core s
  | .vectorFma core => Sys2Proof.Machine.execVectorFma core s
  | .vectorMax core => Sys2Proof.Machine.execVectorMax core s
  | .vectorMin core => Sys2Proof.Machine.execVectorMin core s
  | .affine core => Sys2Proof.Machine.execAffine core s
  | .exp2 core => Sys2Proof.Machine.execExp2 core s
  | .rcp core => Sys2Proof.Machine.execRcp core s
  | .rsqrt core => Sys2Proof.Machine.execRsqrt core s
  | .log2 core => Sys2Proof.Machine.execLog2 core s
  | .rowmax core => Sys2Proof.Machine.execRowmax core s
  | .rowsum core => Sys2Proof.Machine.execRowsum core s
  | .convert core => Sys2Proof.Machine.execConvert core s
  | .softmaxStep core => Sys2Proof.Machine.execSoftmaxStep core s
  | .rescale core => Sys2Proof.Machine.execRescale core s
  | .normalise core => Sys2Proof.Machine.execNormalise core s
  | .dmaLoad core parity => Sys2Proof.Machine.execDmaLoad core parity s
  | .dmaStore core parity => Sys2Proof.Machine.execDmaStore core parity s
  | .dmaPublish core parity => Sys2Proof.Machine.execDmaPublish core parity s
  | .localCopy core parity => Sys2Proof.Machine.execLocalCopy core parity s
  | .dmaAtomic core parity => Sys2Proof.Machine.execDmaAtomic core parity s
  | .kernelVerifyDone tag => Sys2Proof.Machine.execKernelVerifyDone tag s
  | .launchBudgetExpiry tag => Sys2Proof.Machine.execLaunchBudgetExpiry tag s
  | .coreWakeDone core => Sys2Proof.Machine.execCoreWakeDone core s
  | .coreIdleGate core => Sys2Proof.Machine.execCoreIdleGate core s
  | .kcacheFlush ch => Sys2Proof.Machine.execKcacheFlush ch s
  | .attendUnitDone core faults => Sys2Proof.Machine.execAttendUnitDone core faults s
  | .packetForward ingress lane p crc stomp fault => Sys2Proof.Machine.execPacketForward ingress lane p crc stomp fault s
  | .egressArbitration egress => Sys2Proof.Machine.execEgressArbitration egress s
  | .linkFrame port lane frame => Sys2Proof.Machine.execLinkFrame port lane frame s
  | .load p ecc => Sys2Proof.Machine.execLoad p ecc s
  | .store p ecc => Sys2Proof.Machine.execStore p ecc s
  | .atomic p ecc => Sys2Proof.Machine.execAtomic p ecc s
  | .reduce p => Sys2Proof.Machine.execReduce p s
  | .tileCommit p => Sys2Proof.Machine.execTileCommit p s
  | .mirror p => Sys2Proof.Machine.execMirror p s
  | .parity p => Sys2Proof.Machine.execParity p s
  | .retire p => Sys2Proof.Machine.execRetire p s
  | .fenceMark p => Sys2Proof.Machine.execFenceMark p s
  | .agentFence aport p => Sys2Proof.Machine.execAgentFence aport p s
  | .tagReset p => Sys2Proof.Machine.execTagReset p s
  | .blockRead p ecc => Sys2Proof.Machine.execBlockRead p ecc s
  | .blockWrite p => Sys2Proof.Machine.execBlockWrite p s
  | .blockAssemblyTimeout src tag => Sys2Proof.Machine.execBlockAssemblyTimeout src tag s
  | .windowRead p => Sys2Proof.Machine.execWindowRead p s
  | .windowWrite p env => Sys2Proof.Machine.execWindowWrite p env s
  | .relayDrain p => Sys2Proof.Machine.execRelayDrain p s
  | .response p => Sys2Proof.Machine.execResponse p s
  | .retryTimer tag => Sys2Proof.Machine.execRetryTimer tag s
  | .fabricTimeout tag => Sys2Proof.Machine.execFabricTimeout tag s
  | .retireSend d => Sys2Proof.Machine.execRetireSend d s
  | .agentRequest aport p => Sys2Proof.Machine.execAgentRequest aport p s
  | .portRetrain ch lane => Sys2Proof.Machine.execPortRetrain ch lane s
  | .portHoldDown ch lane => Sys2Proof.Machine.execPortHoldDown ch lane s
  | .portRelease ch lane => Sys2Proof.Machine.execPortRelease ch lane s
  | .readShared p ecc => Sys2Proof.Machine.execReadShared p ecc s
  | .readOwn p ecc => Sys2Proof.Machine.execReadOwn p ecc s
  | .upgrade p ecc => Sys2Proof.Machine.execUpgrade p ecc s
  | .writeback p ecc => Sys2Proof.Machine.execWriteback p ecc s
  | .snpInv p => Sys2Proof.Machine.execSnpInv p s
  | .snpShare p => Sys2Proof.Machine.execSnpShare p s
  | .snpFwd p => Sys2Proof.Machine.execSnpFwd p s
  | .agentFlush aport owner every => Sys2Proof.Machine.execAgentFlush aport owner every s
  | .agentDrop p => Sys2Proof.Machine.execAgentDrop p s
  | .agentDropScanDone src tag => Sys2Proof.Machine.execAgentDropScanDone src tag s
  | .agentExpel p => Sys2Proof.Machine.execAgentExpel p s
  | .grantAck p => Sys2Proof.Machine.execGrantAck p s
  | .snoopAnswer p => Sys2Proof.Machine.execSnoopAnswer p s
  | .homeTimeout agent line => Sys2Proof.Machine.execHomeTimeout agent line s
  | .aportFlush ch aport => Sys2Proof.Machine.execAportFlush ch aport s
  | .aportExpel ch aport => Sys2Proof.Machine.execAportExpel ch aport s
  | .gateEntryBegin => Sys2Proof.Machine.execGateEntryBegin s
  | .gateHoldoverExpiry => Sys2Proof.Machine.execGateHoldoverExpiry s
  | .shaperApply ch => Sys2Proof.Machine.execShaperApply ch s
  | .shaperLoad ch => Sys2Proof.Machine.execShaperLoad ch s
  | .contrib p => Sys2Proof.Machine.execContrib p s
  | .result p => Sys2Proof.Machine.execResult p s
  | .digest p => Sys2Proof.Machine.execDigest p s
  | .grant p => Sys2Proof.Machine.execGrant p s
  | .collectiveAbort p => Sys2Proof.Machine.execCollectiveAbort p s
  | .collectiveTimeout key id => Sys2Proof.Machine.execCollectiveTimeout key id s
  | .poolReq p => Sys2Proof.Machine.execPoolReq p s
  | .poolPart p => Sys2Proof.Machine.execPoolPart p s
  | .verDrained p => Sys2Proof.Machine.execVerDrained p s
  | .tableDefine ch => Sys2Proof.Machine.execTableDefine ch s
  | .tableDelete ch => Sys2Proof.Machine.execTableDelete ch s
  | .versionInstall ch => Sys2Proof.Machine.execVersionInstall ch s
  | .versionCommit ch => Sys2Proof.Machine.execVersionCommit ch s
  | .versionDiscard ch => Sys2Proof.Machine.execVersionDiscard ch s
  | .centroidStepDone tag => Sys2Proof.Machine.execCentroidStepDone tag s
  | .segmentScanDone unit => Sys2Proof.Machine.execSegmentScanDone unit s
  | .segmentScanTimeout unit => Sys2Proof.Machine.execSegmentScanTimeout unit s
  | .sloeParityFault unit => Sys2Proof.Machine.execSloeParityFault unit s
  | .searchMergeDone tag => Sys2Proof.Machine.execSearchMergeDone tag s
  | .qpToInit ch => Sys2Proof.Machine.execQpToInit ch s
  | .qpToRtr ch => Sys2Proof.Machine.execQpToRtr ch s
  | .qpToRts ch => Sys2Proof.Machine.execQpToRts ch s
  | .qpToError ch => Sys2Proof.Machine.execQpToError ch s
  | .qpToReset ch => Sys2Proof.Machine.execQpToReset ch s
  | .rdmaWrite qp psn va rkey bs ce env => Sys2Proof.Machine.execRdmaWrite qp psn va rkey bs ce env s
  | .rdmaRead qp psn va rkey len ce env => Sys2Proof.Machine.execRdmaRead qp psn va rkey len ce env s
  | .fetchAdd qp psn va rkey operand ce => Sys2Proof.Machine.execFetchAdd qp psn va rkey operand ce s
  | .cmpSwap qp psn va rkey compare swap ce => Sys2Proof.Machine.execCmpSwap qp psn va rkey compare swap ce s
  | .send qp psn bs ce => Sys2Proof.Machine.execSend qp psn bs ce s
  | .roceAck qp psn code data => Sys2Proof.Machine.execRoceAck qp psn code data s
  | .qpAckTimeout qp => Sys2Proof.Machine.execQpAckTimeout qp s
  | .cnp qp => Sys2Proof.Machine.execCnp qp s
  | .ccRecoverTimer => Sys2Proof.Machine.execCcRecoverTimer s
  | .pfcFrame port prio quanta => Sys2Proof.Machine.execPfcFrame port prio quanta s
  | .pfcXoffRefresh port prio => Sys2Proof.Machine.execPfcXoffRefresh port prio s
  | .pfcWatchdog port prio => Sys2Proof.Machine.execPfcWatchdog port prio s
  | .arpRequest port hi lo => Sys2Proof.Machine.execArpRequest port hi lo s
  | .neighbourSolicitation port hi lo => Sys2Proof.Machine.execNeighbourSolicitation port hi lo s
  | .icmpEcho port hi lo bytes => Sys2Proof.Machine.execIcmpEcho port hi lo bytes s
  | .ethFrameDiscard port icrc => Sys2Proof.Machine.execEthFrameDiscard port icrc s
  | .mrRegister ch ctx rights => Sys2Proof.Machine.execMrRegister ch ctx rights s
  | .mrDeregister ch rkey => Sys2Proof.Machine.execMrDeregister ch rkey s
  | .xferPush ch rkey qp => Sys2Proof.Machine.execXferPush ch rkey qp s
  | .xferPull ch rkey qp => Sys2Proof.Machine.execXferPull ch rkey qp s
  | .xferAbort ch => Sys2Proof.Machine.execXferAbort ch s
  | .ptpMessage port ptpDomain offset => Sys2Proof.Machine.execPtpMessage port ptpDomain offset s
  | .ptpAnnounceTimeout => Sys2Proof.Machine.execPtpAnnounceTimeout s
  | .sentinelDone engine pass => Sys2Proof.Machine.execSentinelDone engine pass s
  | .engineWatchdog core engine last => Sys2Proof.Machine.execEngineWatchdog core engine last s
  | .quarantineRunDone hung => Sys2Proof.Machine.execQuarantineRunDone hung s
  | .logClear ch upto => Sys2Proof.Machine.execLogClear ch upto s
  | .resetL0 ch ctx => Sys2Proof.Machine.execResetL0 ch ctx s
  | .resetL1 ch core => Sys2Proof.Machine.execResetL1 ch core s
  | .resetL2 ch port => Sys2Proof.Machine.execResetL2 ch port s
  | .resetL3 ch island pufOk => Sys2Proof.Machine.execResetL3 ch island pufOk s
  | .resetL4 ch => Sys2Proof.Machine.execResetL4 ch s
  | .resetL5 ch info => Sys2Proof.Machine.execResetL5 ch info s
  | .resetComplete level target pass => Sys2Proof.Machine.execResetComplete level target pass s
  | .admitStart ch failed spare => Sys2Proof.Machine.execAdmitStart ch failed spare s
  | .admitAbort ch => Sys2Proof.Machine.execAdmitAbort ch s
  | .admitTestDone failed spare pass => Sys2Proof.Machine.execAdmitTestDone failed spare pass s
  | .admitLoadDone => Sys2Proof.Machine.execAdmitLoadDone s
  | .admitSpareTimeout => Sys2Proof.Machine.execAdmitSpareTimeout s
  | .rebindApply p => Sys2Proof.Machine.execRebindApply p s
  | .reportGenerate ch => Sys2Proof.Machine.execReportGenerate ch s
  | .reportReady seat => Sys2Proof.Machine.execReportReady seat s
  | .keyInstall ch => Sys2Proof.Machine.execKeyInstall ch s
  | .keyDestroy ch => Sys2Proof.Machine.execKeyDestroy ch s
  | .linkKeyExchange port message => Sys2Proof.Machine.execLinkKeyExchange port message s
  | .linkRekey port message => Sys2Proof.Machine.execLinkRekey port message s
  | .coldStart info => Sys2Proof.Machine.execColdStart info s
  | .memInitDone tier failed => Sys2Proof.Machine.execMemInitDone tier failed s
  | .inputDip mv ns => Sys2Proof.Machine.execInputDip mv ns s
  | .inputLoss mv ns => Sys2Proof.Machine.execInputLoss mv ns s
  | .inputHigh mv => Sys2Proof.Machine.execInputHigh mv s
  | .dutyAdjust avgW peakW vin iin temp sensor => Sys2Proof.Machine.execDutyAdjust avgW peakW vin iin temp sensor s
  | .overcurrent => Sys2Proof.Machine.execOvercurrent s
  | .thermalTrip sensor => Sys2Proof.Machine.execThermalTrip sensor s
  | .governorGrant => Sys2Proof.Machine.execGovernorGrant s
  | .islandWakeDone island => Sys2Proof.Machine.execIslandWakeDone island s
  | .islandTestDone island pass => Sys2Proof.Machine.execIslandTestDone island pass s
  | .refclkLoss serdes => Sys2Proof.Machine.execRefclkLoss serdes s
  | .refclkWaitTimeout => Sys2Proof.Machine.execRefclkWaitTimeout s
  | .boardReset ns => Sys2Proof.Machine.execBoardReset ns s
  | .boardResetRelease info => Sys2Proof.Machine.execBoardResetRelease info s
  | .laserInterlockDrop => Sys2Proof.Machine.execLaserInterlockDrop s
  | .laserInterlockRise => Sys2Proof.Machine.execLaserInterlockRise s
  | .testUnlock ch => Sys2Proof.Machine.execTestUnlock ch s
  | .testLock ch => Sys2Proof.Machine.execTestLock ch s
  | .testHold ch => Sys2Proof.Machine.execTestHold ch s
  | .tapReset => Sys2Proof.Machine.execTapReset s
  | .extest pins preload => Sys2Proof.Machine.execExtest pins preload s
  | .samplePreload pins preload => Sys2Proof.Machine.execSamplePreload pins preload s
  | .idcode => Sys2Proof.Machine.execIdcode s
  | .highz => Sys2Proof.Machine.execHighz s
  | .clamp => Sys2Proof.Machine.execClamp s
  | .probe mode node reading => Sys2Proof.Machine.execProbe mode node reading s
  | .runbist passed => Sys2Proof.Machine.execRunbist passed s
  | .tstwin off => Sys2Proof.Machine.execTstwin off s
  | .bypass => Sys2Proof.Machine.execBypass s
  | .abusSelect ch mode node reading => Sys2Proof.Machine.execAbusSelect ch mode node reading s
  | .unitIsolate ch unit => Sys2Proof.Machine.execUnitIsolate ch unit s
  | .unitIdle => Sys2Proof.Machine.execUnitIdle s
  | .unitTest ch unit tests => Sys2Proof.Machine.execUnitTest ch unit tests s
  | .unitTestDone failed => Sys2Proof.Machine.execUnitTestDone failed s
  | .unitRelease ch unit => Sys2Proof.Machine.execUnitRelease ch unit s
  | .heldInterval => Sys2Proof.Machine.execHeldInterval s
  | .joiningWaitTimeout => Sys2Proof.Machine.execJoiningWaitTimeout s
  | .recallScanDone ctx va => Sys2Proof.Machine.execRecallScanDone ctx va s
  | .shaperBucketFill shaper committed => Sys2Proof.Machine.execShaperBucketFill shaper committed s
  | .abortStatusExpiry key id => Sys2Proof.Machine.execAbortStatusExpiry key id s
  | .pfcPauseExpiry port prio => Sys2Proof.Machine.execPfcPauseExpiry port prio s
  | .refclkStable serdes => Sys2Proof.Machine.execRefclkStable serdes s
  | .ethLinkChange port up => Sys2Proof.Machine.execEthLinkChange port up s

end Sys2Proof.Machine
end

