-- ==== Sys2Proof/WellFormed.lean ====
section
/-! DEFINITION. Well-formed commands: every operand in the range its field, port or packet header has. -/

namespace Sys2Proof

open Machine

/-- Every header field within its width (R229), the payload as long as SECTORS says. -/
def Machine.Packet.fits (p : Packet) : Bool :=
  decide (p.op < 256 ∧ p.vc < 8 ∧ p.pkey < 65536 ∧ p.src < 64 ∧ p.dst < 64 ∧ p.size < 256 ∧ p.poison < 16 ∧ p.sectors < 8)
    && decide (p.tag < 2 ^ 48 ∧ p.epoch < 65536 ∧ p.addr < 2 ^ 64 ∧ p.aux < 2 ^ 32 ∧ p.status < 256 ∧ p.atype < 256 ∧ p.ctx < 8192 ∧ p.rsvd < 512)
    && decide (p.payload.length = 64 * p.sectors)

/-- Straps name a position, the modules and dies named exist (R22, R164, R165). -/
def Machine.StartInfo.fits (i : StartInfo) : Bool :=
  decide (i.straps < 64) && i.stacksFailed.all (fun k => decide (k < 8)) && i.flash.all (fun f => decide (f.1 < 24 ∧ f.2 ≤ 48))

/-- The ranges of a command's operands. -/
def Instr.wf : Instr → Bool
  | .registerWrite _ _ _ _ => true
  | .rcFieldRead _ _ _ => true
  | .heartbeatTimer => true
  | .heartbeat p => p.fits
  | .memberLossTimeout d => decide (d < 64)
  | .memberDeclare p => p.fits
  | .identityExchange d _ => decide (d < 64)
  | .laneTrainingDone port lane _ _ _ => decide (port < 96) && decide (lane < 4)
  | .laneDown port lane => decide (port < 96) && decide (lane < 4)
  | .laneRetrainDone port lane position number => decide (port < 96) && decide (lane < 4) && decide (position < 64) && decide (number < 64)
  | .mgmtAccessTimeout tag => decide (tag < 2 ^ 48)
  | .silBeginFull _ => true
  | .silBeginPartial _ => true
  | .silCommit _ => true
  | .silAbort _ => true
  | .silApertureWrite _ word value => decide (word < 4096) && decide (value < 2 ^ 64)
  | .imageVerifyDone _ => true
  | .imageCheckDone _ => true
  | .sliceDrained => true
  | .drainTimeout => true
  | .ringFetchDone _ _ => true
  | .ringFetchTimeout => true
  | .keepalive _ => true
  | .seatRelease _ => true
  | .claimBegin _ => true
  | .claimSubmit _ => true
  | .claimCheckDone buffer _ => decide (buffer < 4)
  | .claimBufferTimeout buffer => decide (buffer < 4)
  | .channelClose _ => true
  | .seatLivenessTimeout _ => true
  | .semAcquire _ sem lease _ => decide (sem < 64) && decide (lease < 65536)
  | .semRenew _ sem lease => decide (sem < 64) && decide (lease < 65536)
  | .semRelease _ sem => decide (sem < 64)
  | .semLeaseExpiry sem => decide (sem < 64)
  | .i3cWindowFrame _ _ => true
  | .i3cPrivateRead => true
  | .i3cEntdaa addr => decide (addr < 128)
  | .i3cRstdaa => true
  | .i3cSetdasa addr => decide (addr < 128)
  | .i3cGetpid => true
  | .i3cGetbcr => true
  | .i3cGetdcr => true
  | .i3cGetstatus => true
  | .i3cEnec bits => decide (bits < 256)
  | .i3cDisec bits => decide (bits < 256)
  | .i3cCccUnsupported _ => true
  | .doorbell queue word => decide (queue < 1024) && decide (word < 2 ^ 64)
  | .cqHeadStore queue word => decide (queue < 1024) && decide (word < 2 ^ 64)
  | .slotFetchDone queue _ => decide (queue < 1024)
  | .mirrorAck p => p.fits
  | .journalMirrorEntry p => p.fits
  | .handoff p => p.fits
  | .taken p => p.fits
  | .held p => p.fits
  | .notHeld p => p.fits
  | .holdQuery p => p.fits
  | .phaseDone p => p.fits
  | .orphanScan => true
  | .queueEnable _ => true
  | .queueDisable _ => true
  | .queueClearError _ => true
  | .map _ => true
  | .mapOwnerAnswer p => p.fits
  | .mapTimeout _ => true
  | .contextEnable _ => true
  | .contextDisable _ => true
  | .unmapRange _ => true
  | .unmapContext _ => true
  | .releaseMember _ d => decide (d < 64)
  | .etcInvalidateDone ctx va => decide (ctx < 8192) && decide (va < 2 ^ 64)
  | .etcMissWalk ctx va => decide (ctx < 8192) && decide (va < 2 ^ 64)
  | .shootdownTimeout _ => true
  | .xltMapCheck p => p.fits
  | .revokeRange p => p.fits
  | .drainedReport p => p.fits
  | .registrationQuery p => p.fits
  | .partFailure tier _ => decide (1 ≤ tier ∧ tier ≤ 3)
  | .stagingSlotFree => true
  | .granuleResync tier _ => decide (1 ≤ tier ∧ tier ≤ 3)
  | .armUnitDone _ => true
  | .rebuildUnitCopy tier => decide (1 ≤ tier ∧ tier ≤ 3)
  | .rebuildStageDone stage d _ _ _ _ => decide (stage < 8) && decide (d < 64)
  | .qissue core => decide (core < 16)
  | .qwait core => decide (core < 16)
  | .qpoll core => decide (core < 16)
  | .qfence core => decide (core < 16)
  | .qexit core => decide (core < 16)
  | .qinfo core => decide (core < 16)
  | .scalarInstruction core _ _ => decide (core < 16)
  | .mma core _ => decide (core < 16)
  | .vectorAdd core => decide (core < 16)
  | .vectorSub core => decide (core < 16)
  | .vectorMul core => decide (core < 16)
  | .vectorFma core => decide (core < 16)
  | .vectorMax core => decide (core < 16)
  | .vectorMin core => decide (core < 16)
  | .affine core => decide (core < 16)
  | .exp2 core => decide (core < 16)
  | .rcp core => decide (core < 16)
  | .rsqrt core => decide (core < 16)
  | .log2 core => decide (core < 16)
  | .rowmax core => decide (core < 16)
  | .rowsum core => decide (core < 16)
  | .convert core => decide (core < 16)
  | .softmaxStep core => decide (core < 16)
  | .rescale core => decide (core < 16)
  | .normalise core => decide (core < 16)
  | .dmaLoad core _ => decide (core < 16)
  | .dmaStore core _ => decide (core < 16)
  | .dmaPublish core _ => decide (core < 16)
  | .localCopy core _ => decide (core < 16)
  | .dmaAtomic core _ => decide (core < 16)
  | .kernelVerifyDone tag => decide (tag < 2 ^ 48)
  | .launchBudgetExpiry tag => decide (tag < 2 ^ 48)
  | .coreWakeDone core => decide (core < 16)
  | .coreIdleGate core => decide (core < 16)
  | .kcacheFlush _ => true
  | .attendUnitDone core _ => decide (core < 16)
  | .packetForward ingress lane p crc stomp fault => decide (ingress < 124) && decide (lane < 4) && p.fits && decide (crc < 2 ^ 32) && decide (stomp < 5) && decide (fault < 5)
  | .egressArbitration egress => decide (egress < 124)
  | .linkFrame port lane _ => decide (port < 96) && decide (lane < 4)
  | .load p ecc => p.fits && decide (ecc < 2 ^ 64)
  | .store p ecc => p.fits && decide (ecc < 2 ^ 64)
  | .atomic p ecc => p.fits && decide (ecc < 2 ^ 64)
  | .reduce p => p.fits
  | .tileCommit p => p.fits
  | .mirror p => p.fits
  | .parity p => p.fits
  | .retire p => p.fits
  | .fenceMark p => p.fits
  | .agentFence aport p => decide (aport < 32) && p.fits
  | .tagReset p => p.fits
  | .blockRead p ecc => p.fits && decide (ecc < 2 ^ 64)
  | .blockWrite p => p.fits
  | .blockAssemblyTimeout src tag => decide (src < 64) && decide (tag < 2 ^ 48)
  | .windowRead p => p.fits
  | .windowWrite p _ => p.fits
  | .relayDrain p => p.fits
  | .response p => p.fits
  | .retryTimer tag => decide (tag < 2 ^ 48)
  | .fabricTimeout tag => decide (tag < 2 ^ 48)
  | .retireSend d => decide (d < 64)
  | .agentRequest aport p => decide (aport < 32) && p.fits
  | .portRetrain _ lane => decide (lane < 4)
  | .portHoldDown _ lane => decide (lane < 4)
  | .portRelease _ lane => decide (lane < 4)
  | .readShared p ecc => p.fits && decide (ecc < 2 ^ 64)
  | .readOwn p ecc => p.fits && decide (ecc < 2 ^ 64)
  | .upgrade p ecc => p.fits && decide (ecc < 2 ^ 64)
  | .writeback p ecc => p.fits && decide (ecc < 2 ^ 64)
  | .snpInv p => p.fits
  | .snpShare p => p.fits
  | .snpFwd p => p.fits
  | .agentFlush aport owner _ => decide (aport < 32) && decide (owner < 64)
  | .agentDrop p => p.fits
  | .agentDropScanDone src tag => decide (src < 64) && decide (tag < 2 ^ 48)
  | .agentExpel p => p.fits
  | .grantAck p => p.fits
  | .snoopAnswer p => p.fits
  | .homeTimeout agent line => decide (agent < 2048) && decide (line < 2 ^ 58)
  | .aportFlush _ aport => decide (aport < 32)
  | .aportExpel _ aport => decide (aport < 32)
  | .gateEntryBegin => true
  | .gateHoldoverExpiry => true
  | .shaperApply _ => true
  | .shaperLoad _ => true
  | .contrib p => p.fits
  | .result p => p.fits
  | .digest p => p.fits
  | .grant p => p.fits
  | .collectiveAbort p => p.fits
  | .collectiveTimeout key id => decide (key < 65536) && decide (id < 2 ^ 32)
  | .poolReq p => p.fits
  | .poolPart p => p.fits
  | .verDrained p => p.fits
  | .tableDefine _ => true
  | .tableDelete _ => true
  | .versionInstall _ => true
  | .versionCommit _ => true
  | .versionDiscard _ => true
  | .centroidStepDone tag => decide (tag < 2 ^ 48)
  | .segmentScanDone unit => decide (unit < 24)
  | .segmentScanTimeout unit => decide (unit < 24)
  | .sloeParityFault unit => decide (unit < 24)
  | .searchMergeDone tag => decide (tag < 2 ^ 48)
  | .qpToInit _ => true
  | .qpToRtr _ => true
  | .qpToRts _ => true
  | .qpToError _ => true
  | .qpToReset _ => true
  | .rdmaWrite qp psn va rkey _ _ _ => decide (qp < 8208) && decide (psn < 2 ^ 24) && decide (va < 2 ^ 64) && decide (rkey < 2 ^ 32)
  | .rdmaRead qp psn va rkey _ _ _ => decide (qp < 8208) && decide (psn < 2 ^ 24) && decide (va < 2 ^ 64) && decide (rkey < 2 ^ 32)
  | .fetchAdd qp psn va rkey operand _ => decide (qp < 8208) && decide (psn < 2 ^ 24) && decide (va < 2 ^ 64) && decide (rkey < 2 ^ 32) && decide (operand < 2 ^ 64)
  | .cmpSwap qp psn va rkey compare swap _ => decide (qp < 8208) && decide (psn < 2 ^ 24) && decide (va < 2 ^ 64) && decide (rkey < 2 ^ 32) && decide (compare < 2 ^ 64) && decide (swap < 2 ^ 64)
  | .send qp psn _ _ => decide (qp < 8208) && decide (psn < 2 ^ 24)
  | .roceAck qp psn _ _ => decide (qp < 8208) && decide (psn < 2 ^ 24)
  | .qpAckTimeout qp => decide (qp < 8208)
  | .cnp qp => decide (qp < 8208)
  | .ccRecoverTimer => true
  | .pfcFrame port prio quanta => decide (port < 4) && decide (prio < 8) && decide (quanta < 65536)
  | .pfcXoffRefresh port prio => decide (port < 4) && decide (prio < 8)
  | .pfcWatchdog port prio => decide (port < 4) && decide (prio < 8)
  | .arpRequest port hi lo => decide (port < 4) && decide (hi < 2 ^ 64) && decide (lo < 2 ^ 64)
  | .neighbourSolicitation port hi lo => decide (port < 4) && decide (hi < 2 ^ 64) && decide (lo < 2 ^ 64)
  | .icmpEcho port hi lo _ => decide (port < 4) && decide (hi < 2 ^ 64) && decide (lo < 2 ^ 64)
  | .ethFrameDiscard port _ => decide (port < 4)
  | .mrRegister _ ctx rights => decide (ctx < 8192) && decide (rights < 8)
  | .mrDeregister _ rkey => decide (rkey < 2 ^ 32)
  | .xferPush _ rkey qp => decide (rkey < 2 ^ 32) && decide (qp < 8208)
  | .xferPull _ rkey qp => decide (rkey < 2 ^ 32) && decide (qp < 8208)
  | .xferAbort _ => true
  | .ptpMessage port _ _ => decide (port < 4)
  | .ptpAnnounceTimeout => true
  | .sentinelDone engine _ => decide (engine < 2)
  | .engineWatchdog core engine _ => decide (core < 16) && decide (engine < 3)
  | .quarantineRunDone _ => true
  | .logClear _ upto => decide (upto < 2 ^ 32)
  | .resetL0 _ ctx => decide (ctx < 8192)
  | .resetL1 _ core => decide (core < 16)
  | .resetL2 _ port => decide (port < 8192)
  | .resetL3 _ island _ => decide (island < 32)
  | .resetL4 _ => true
  | .resetL5 _ info => info.fits
  | .resetComplete level _ _ => decide (level < 6)
  | .admitStart _ failed spare => decide (failed < 64) && decide (spare < 64)
  | .admitAbort _ => true
  | .admitTestDone failed spare _ => decide (failed < 64) && decide (spare < 64)
  | .admitLoadDone => true
  | .admitSpareTimeout => true
  | .rebindApply p => p.fits
  | .reportGenerate _ => true
  | .reportReady _ => true
  | .keyInstall _ => true
  | .keyDestroy _ => true
  | .linkKeyExchange port _ => decide (port < 96)
  | .linkRekey port _ => decide (port < 96)
  | .coldStart info => info.fits
  | .memInitDone tier _ => decide (1 ≤ tier ∧ tier ≤ 3)
  | .inputDip _ _ => true
  | .inputLoss _ _ => true
  | .inputHigh _ => true
  | .dutyAdjust _ _ _ _ _ _ => true
  | .overcurrent => true
  | .thermalTrip _ => true
  | .governorGrant => true
  | .islandWakeDone island => decide (island < 26)
  | .islandTestDone island _ => decide (island < 26)
  | .refclkLoss _ => true
  | .refclkWaitTimeout => true
  | .boardReset _ => true
  | .boardResetRelease info => info.fits
  | .laserInterlockDrop => true
  | .laserInterlockRise => true
  | .testUnlock _ => true
  | .testLock _ => true
  | .testHold _ => true
  | .tapReset => true
  | .extest _ _ => true
  | .samplePreload _ _ => true
  | .idcode => true
  | .highz => true
  | .clamp => true
  | .probe mode node _ => decide (mode < 4) && decide (node < 1024)
  | .runbist _ => true
  | .tstwin _ => true
  | .bypass => true
  | .abusSelect _ mode node _ => decide (mode < 4) && decide (node < 1024)
  | .unitIsolate _ unit => decide (unit < 64)
  | .unitIdle => true
  | .unitTest _ unit tests => decide (unit < 64) && decide (tests < 8)
  | .unitTestDone _ => true
  | .unitRelease _ unit => decide (unit < 64)
  | .heldInterval => true
  | .joiningWaitTimeout => true
  | .recallScanDone ctx va => decide (ctx < 8192) && decide (va < 2 ^ 64)
  | .shaperBucketFill shaper _ => decide (shaper < 992)
  | .abortStatusExpiry key id => decide (key < 65536) && decide (id < 2 ^ 32)
  | .pfcPauseExpiry port prio => decide (port < 4) && decide (prio < 8)
  | .refclkStable _ => true
  | .ethLinkChange port _ => decide (port < 4)

end Sys2Proof
end

