-- ==== Sys2Proof/Safety.lean ====
section
/-! DEFINITION. The terms in which claims are made: what a command answers, what it leaves alone, and the invariants. -/

namespace Sys2Proof.Machine

/-- The command answers a next state, which holds what `u` holds (the queue and the order of time apart, which every command keeps). -/
def Answers (c : Instr) (s u : State) : Prop := exec c s = .next (s.after u)

/-- The command has the effect `u`, and what waited for it goes on in the same step (spec/95). -/
def AnswersThen (c : Instr) (s u : State) : Prop := exec c s = .next (s.after u.settleAll)

/-- The command has no effect in this state. -/
def NoEffect (c : Instr) (s : State) : Prop := exec c s = .next s

/-- Every field of the register file but those with these keys keeps its value. -/
def State.keepsFields (s u : State) (keys : List Nat) : Prop := ∀ (f : Fld) (b : Nat), f.key b ∉ keys → u.fld f b = s.fld f b

/-- Nothing but the register file and, in it, nothing but these fields differs. -/
def State.onlyFields (s u : State) (keys : List Nat) : Prop := u = { s with regs := u.regs } ∧ s.keepsFields u keys

/-- The state in which a seat's command runs: its access has restarted the seat's liveness period (R85). -/
def State.asked (s : State) (ch : ChanId) : State := { s.touch ch with ctl.refused := false }

/-- The fields of `CTL_SEAT_ERR` of a seat. -/
def seatErrKeys (x : SeatId) : List Nat :=
  [F.CTL_SEAT_ERR_OFFSET.key x.idx, F.CTL_SEAT_ERR_STATUS.key x.idx, F.CTL_SEAT_ERR_CHANNEL.key x.idx, F.CTL_SEAT_ERR_COUNT.key x.idx]

/-- `u` is `s` with one refusal reported in `CTL_SEAT_ERR` of a seat: counted, and latched when it is the first since the last read. -/
def State.reports (s u : State) (x : SeatId) (entry off : Nat) (st : Status) : Prop :=
  u.ctl.refused = true ∧ s.keepsFields u (seatErrKeys x) ∧ { u with regs := s.regs, ctl.refused := s.ctl.refused } = s ∧
  (s.fld F.CTL_SEAT_ERR_COUNT x.idx = 0 → u.fld F.CTL_SEAT_ERR_STATUS x.idx = st.code ∧ u.fld F.CTL_SEAT_ERR_OFFSET x.idx = off % 2 ^ 24 ∧
    u.fld F.CTL_SEAT_ERR_CHANNEL x.idx = entry % 2 ^ F.CTL_SEAT_ERR_CHANNEL.width ∧ u.fld F.CTL_SEAT_ERR_COUNT x.idx = 1) ∧
  (s.fld F.CTL_SEAT_ERR_COUNT x.idx ≠ 0 → u.fld F.CTL_SEAT_ERR_STATUS x.idx = s.fld F.CTL_SEAT_ERR_STATUS x.idx)

/-- A channel's claim status shows an outcome. -/
def State.claimShows (s : State) (ch : ChanId) (st : Status) (reason : Nat) : Prop :=
  ∃ o, s.ctl.outcomes.find? (fun o => o.chan == ch) = some o ∧ o.status = st ∧ o.reason = reason

/-- A running device, and a channel bound to a seat through an entry: the seat's commands are not refused under R79. -/
def State.commandedBy (s : State) (ch : ChanId) (n : Nat) (x : SeatId) : Prop :=
  s.serves [] = true ∧ ∃ e, s.ctl.entryOf ch = some (n, e) ∧ e.seat = x

/-- The same, for a seat that holds the semaphore that guards its command (R15). -/
def State.guardedBy (s : State) (ch : ChanId) (n : Nat) (x : SeatId) (sem : Nat) : Prop :=
  s.commandedBy ch n x ∧ s.semHolder sem = some x

/-- The same, for a seat that does not hold it. -/
def State.unguarded (s : State) (ch : ChanId) (n : Nat) (x : SeatId) (sem : Nat) : Prop :=
  s.commandedBy ch n x ∧ s.semHolder sem ≠ some x

/-- The fields that a write within 1 ms of the other seat's changes (R91). -/
def collideKeys : List Nat := [F.CTL_COLLIDE_COUNT.key 0, F.CTL_COLLIDE_OFFSET.key 0]

/-- A counter has counted once, up to its bound. -/
def State.counted (s u : State) (f : Fld) (b : Nat := 0) : Prop := u.fld f b = (s.count f 1 b).fld f b

/-- The outcome that the loader shows. -/
def State.loadShows (s : State) (st : Status) (reason : Nat) : Prop :=
  s.fld F.SIL_LOAD_STATUS_STATUS = st.code ∧ s.fld F.SIL_LOAD_STATUS_REASON = reason % 2 ^ F.SIL_LOAD_STATUS_REASON.width

/-- The loader state in which no load runs: NO_IMAGE while no image is in force, else RUNNING. -/
def State.atRest (s : State) : SilState := if s.fld F.SIL_FULL_SERIAL_SERIAL = 0 then .noImage else .running

/-- A request that its owner serves as a new one: untagged, or tagged with a tag its dedup window does not hold and has room for (R245). -/
def State.fresh (s : State) (p : Packet) : Prop :=
  p.tagged = false ∨ (s.fab.dedupOf p.src p.tag = none ∧ (s.fab.dedup.filter (fun e => e.src == p.src)).length < 4096)

/-- A request of this member that the fabric carries or that waits at its source. -/
def State.asks (s : State) (p : Packet → Prop) : Prop := ∃ r ∈ s.fab.reqs ++ s.fab.waiting, p r.pkt

/-- Nothing is going on at the home, and its filter lists none of these lines. -/
def State.homeFree (s : State) (lines : List Nat) : Prop :=
  s.home.events = [] ∧ s.fld F.HOME_FILTER_BUSY = 0 ∧ lines.length ≤ 4096 ∧ ∀ e ∈ s.home.filter, e.line ∉ lines

/-- No unit of memory is being copied, armed or recomputed, so that no request waits for one (R181, R189, R473). -/
def State.unitsFree (s : State) : Prop :=
  s.tier.runs = [] ∧ ∀ r ∈ s.fab.reqs ++ s.fab.waiting, ∀ c n, r.waiter ≠ .resync c n

/-- A request to memory of this member that passes the owner's checks (R474) and whose own copy is there to serve it. -/
def State.ownServes (s : State) (p : Packet) : Prop :=
  p.malformed = false ∧ s.isSelf (dgaDev p.addr) = true ∧ s.ownerFault p = none ∧ dgaWin p.addr < 2 ∧ s.fresh p ∧ isStaging p = false ∧
    s.notServed (dgaCell p.addr) = false ∧ s.tier.inFlight = [] ∧ s.unitsFree

/-- What the service of an access leaves alone: requests of this member, custody, translation and the snoop filter. -/
def State.servedOnly (s u : State) : Prop :=
  u.fab.reqs = s.fab.reqs ∧ u.works = s.works ∧ u.jnl = s.jnl ∧ u.xlt = s.xlt ∧ u.home.filter = s.home.filter

/-- Memory differs in `n` bytes from `a` on at most: under the key of that place every other byte reads as before, and outside the 16 B blocks that
hold them (R185) every byte reads as before under every key. -/
def State.keepsBytes (s u : State) (a n : Nat) : Prop :=
  (∀ b, b < a ∨ a + n ≤ b → u.mem.read (s.keyFor a) b = s.mem.read (s.keyFor a) b) ∧
    ∀ k b, b / 16 < a / 16 ∨ (a + n + 15) / 16 ≤ b / 16 → u.mem.read k b = s.mem.read k b

/-- Whether this member holds the phase that a JOURNAL_CTRL message names, for its sender (R119). -/
def State.holdsPhase (s : State) (p : Packet) : Bool :=
  s.jnl.held.any (fun h => h.custodian == p.src && h.tag == p.addr && h.phase == p.aux / 256 % 65536)

/-- A packet that waits at the switch core for an egress port. -/
def State.queuedTo (s : State) (egress : Nat) (p : Packet → Prop) : Prop := ∃ q ∈ s.sws.voq, q.egress = egress ∧ p q.pkt

/-- The engine operations of the vector rows and their OP codes (R203). -/
def vectorRows (n : Nat) : List (Instr × Nat) :=
  [(.vectorAdd n, 1), (.vectorSub n, 2), (.vectorMul n, 3), (.vectorFma n, 4), (.vectorMax n, 5), (.vectorMin n, 6), (.affine n, 7), (.exp2 n, 8),
   (.rcp n, 9), (.rsqrt n, 10), (.log2 n, 11), (.rowmax n, 12), (.rowsum n, 13), (.convert n, 14), (.softmaxStep n, 15), (.rescale n, 16),
   (.normalise n, 17)]

/-- The rows of the DMA engine and their OP codes (R204). -/
def dmaRows (n : Nat) (parity : Bool) : List (Instr × Nat) :=
  [(.dmaLoad n parity, 1), (.dmaStore n parity, 2), (.dmaPublish n parity, 3), (.localCopy n parity, 4), (.dmaAtomic n parity, 5)]

/-- What a TAP instruction leaves: the current instruction, the captured data register, what drives the pins, and no connected node of its own. -/
def State.tapShows (s u : State) (code dr drive : Nat) : Prop :=
  u.fld F.TST_STATE_TAP_INSTR = code ∧ u.tst.dr = dr ∧ u.tst.drive = drive ∧ u.tst.probe = none ∧
    s.keepsFields u [F.TST_STATE_TAP_INSTR.key 0, F.TST_ABUS_VALUE_VALID.key 0] ∧ { u with regs := s.regs, tst := s.tst } = s

/-- The outcome of a reset that a wider one absorbed. -/
def State.absorbed (s : State) (q : ResetRun) : Prop :=
  s.fld F.RAS_RESET_STATUS_STATUS = Status.stateConflict.code ∧ s.fld F.RAS_RESET_STATUS_LEVEL = q.level ∧
    s.fld F.RAS_RESET_STATUS_TARGET = q.target % 2 ^ 13

/-- The outcome of a key command as its seat sees it, and nothing else in the register file but the count of keys and the event log. -/
def State.keyShows (s u : State) (x : SeatId) (part : Nat) (st : Status) : Prop :=
  u.fld F.SEC_KEY_STATUS_PARTITION x.idx = part % 4096 ∧ u.fld F.SEC_KEY_STATUS_STATUS x.idx = st.code ∧
    u.fld F.SEC_KEY_STATUS_SEQ x.idx = (s.bumpSeq F.SEC_KEY_STATUS_SEQ x.idx).fld F.SEC_KEY_STATUS_SEQ x.idx ∧
    s.keepsFields u ([F.SEC_KEY_STATUS_PARTITION.key x.idx, F.SEC_KEY_STATUS_STATUS.key x.idx, F.SEC_KEY_STATUS_SEQ.key x.idx,
      F.SEC_KEY_COUNT_ACTIVE.key 0, F.SEC_EVLOG_PTR_OVERFLOW.key 0, F.SEC_EVLOG_COUNT_ENTRIES.key 0] ++ collideKeys)

/-- The next request of a queue pair in order of PSN, which the port's policer lets pass and leaves in `v` (R381, R322). -/
def State.hostAdmits (s v : State) (qp psn n : Nat) : Prop :=
  s.qpAccepts qp = true ∧ s.policeAll (portEth (s.qpPort qp)) vcREQ (s.frameLens qp n) = (some false, v) ∧ v.qpAccepts qp = true ∧
    (psn + 2 ^ 24 - (v.qpx qp).expected) % 2 ^ 24 = 0

/-- The same, with no request of the queue pair before it that is being performed or waits (R383). -/
def State.hostTurn (s v : State) (qp psn n : Nat) : Prop :=
  s.hostAdmits v qp psn n ∧ v.qpBusy qp = false ∧ (v.qpx qp).waiting = []

/-- The waiting commands are all well-formed. -/
def State.queueWf (s : State) : Bool := s.pending.all Instr.wf

/-- Whether a command has an effect only on a device that runs: its input present and its reset contact high (R440, R462). -/
def needsLife : Instr → Bool
  | .coldStart _ => false
  | .inputDip _ _ => false
  | .inputLoss _ _ => false
  | .boardResetRelease _ => false
  | _ => true

/-- The bindings of channels (R80): 16 entries, at most 8 of one seat, no channel twice. -/
def State.channelsOk (s : State) : Prop :=
  s.ctl.entries.sorted = true ∧ (∀ e ∈ s.ctl.entries, e.1 < 16) ∧ (s.ctl.entries.map (fun e => e.2.chan)).Nodup ∧
    s.ctl.channelsOf .a ≤ 8 ∧ s.ctl.channelsOf .b ≤ 8

end Sys2Proof.Machine
end

