-- ==== Sys2Proof/Certificates/Slice0/Obligations.lean ====
section
/-! DEFINITION. The statements about the model, in the order of OBLIGATIONS.json.  `Answers c s u` and `AnswersThen c s u` say that the command completes:
a next state, with the effect `u`. -/

open Sys2Proof Sys2Proof.Machine


/-! ### The queue and the device -/

/-- A step takes the command that has waited longest and is its meaning on the rest of the queue. -/
def Obligations.StepRunsFront : Prop :=
  ∀ (c : Instr) (s : State) (rest : List Instr), step { s with pending := c :: rest } = exec c { s with pending := rest }

/-- On an empty queue the block idles (log entry 1, the model's own choice). Every step answers a next state: no command of the table stops the
block. Where nothing waits that a command could set going, settling after a command changes nothing but the turns of the switch core's round robin.
-/
def Obligations.StepTotal : Prop :=
  (∀ s : State, s.pending = [] → step s = .next s) ∧
  (∀ s : State, ∃ t, step s = .next t) ∧
  (∀ u : State, u.quiet = true → u.sws.entering = [] → u.sws.voq = [] → u.sws.stalls = [] → ∃ d, u.settleAll = { u with sws.drr := d })

/-- After reset no command waits, so the invariant of StepKeepsQueue holds there; and memory is canonical and lists nothing. -/
def Obligations.ResetQueue : Prop :=
  State.reset.queueWf = true ∧ State.reset.pending = [] ∧ State.reset.mem.wf = true ∧ State.reset.mem.bytes = []

/-- Every step, whatever the command, leaves a queue of well-formed commands well-formed and first in, first out: the queue after it is the queue
before it without its front; and the time of island 25 never goes back. -/
def Obligations.StepKeepsQueue : Prop :=
  ∀ s t : State, s.queueWf = true → step s = .next t → t.queueWf = true ∧ t.pending = s.pending.tail ∧ s.now ≤ t.now

/-- While its 52 V input is absent or the board holds it in reset (R440, R462), the device acts on no command but the four that concern the input
and the release of the reset contact. A request that reaches an endpoint whose clock island is not ON has no effect: it waits (the islands of R449;
log entry 12). -/
def Obligations.DeadDeviceIgnores : Prop :=
  (∀ (c : Instr) (s : State), s.live = false → needsLife c = true → NoEffect c s) ∧
  (∀ (s : State) (p : Packet) (ecc : Nat),
    (s.islandOn 18 = false → NoEffect (.load p ecc) s ∧ NoEffect (.store p ecc) s ∧ NoEffect (.atomic p ecc) s ∧ NoEffect (.readOwn p ecc) s) ∧
    (s.islandOn 17 = false → (∀ e, NoEffect (.egressArbitration e) s) ∧ NoEffect (.contrib p) s) ∧
    (s.islandOn 19 = false → NoEffect (.poolReq p) s ∧ NoEffect (.verDrained p) s) ∧
    (s.islandOn 24 = false → ∀ qp, NoEffect (.cnp qp) s ∧ NoEffect (.qpAckTimeout qp) s) ∧
    (∀ n, n < 16 → s.islandOn (n + 1) = false → NoEffect (.qexit n) s ∧ NoEffect (.mma n []) s ∧ NoEffect (.vectorAdd n) s))

/-! ### Window accesses (spec/00, spec/03) -/

/-- R11, R13, R90: a bound channel's write of a register that holds values stores the bits of every writable field, cut to the field, and changes no
other field but the collision fields of R91, which a write within 1 ms of the other seat's changes. -/
def Obligations.RegisterWriteStores : Prop :=
  ∀ (s : State) (ch : ChanId) (n : Nat) (e : ChanEntry) (off v : Nat) (env : WriteEnv) (r : RegDef),
    s.serves [] = true → s.ctl.entryOf ch = some (n, e) → off % 8 = 0 → off < 0x1000000 → v < 2 ^ 64 →
    ¬(0x4000 ≤ off ∧ off < 0x6280) → off ≠ 0x10 → regDefAt off = some r → (commandAt off v env).isNone = true →
    (∀ k, r.sem = some k → s.semHolder k = some e.seat) → (s.touch ch).writeFault e.seat (s.bankOf e.seat r.scope) off v = none →
    ∃ u, Answers (.registerWrite ch off (natLe 8 v) env) s u ∧
      (∀ f ∈ r.fields, f.written = true → u.fld f (s.bankOf e.seat r.scope) = bitsOf v f.lo f.width) ∧
      (∀ g c, (∀ f ∈ r.fields, f.key (s.bankOf e.seat r.scope) ≠ g.key c) → g.key c ∉ [F.CTL_COLLIDE_COUNT.key 0, F.CTL_COLLIDE_OFFSET.key 0] → u.fld g c = s.fld g c) ∧
      u.mem = s.mem ∧
      (r.scope = .member → r.fields.any Fld.written = true → u.ctl.lastWrite.get? (2 * off + e.seat.idx) = some s.now ∧
        (∀ t, s.ctl.lastWrite.get? (2 * off + e.seat.other.idx) = some t → s.now < t + nsPerMs →
          s.counted u F.CTL_COLLIDE_COUNT ∧ (s.fld F.CTL_COLLIDE_COUNT = 0 → u.fld F.CTL_COLLIDE_OFFSET = off)) ∧
        ((∀ t, s.ctl.lastWrite.get? (2 * off + e.seat.other.idx) = some t → t + nsPerMs ≤ s.now) →
          u.fld F.CTL_COLLIDE_COUNT = s.fld F.CTL_COLLIDE_COUNT ∧ u.fld F.CTL_COLLIDE_OFFSET = s.fld F.CTL_COLLIDE_OFFSET))

/-- R12: a misaligned, partial or out-of-range access has no effect and reads as zeros; a bound channel's is reported with `ACCESS` in its seat's
`CTL_SEAT_ERR`, an unbound channel's with `ACCESS` and REASON 0x0D in its claim status. R15: a write to a register that a semaphore guards, by a
seat that does not hold it, changes nothing and is reported with `SEM_NOT_HELD`. -/
def Obligations.AccessesRefused : Prop :=
  (∀ (s : State) (ch : ChanId) (n : Nat) (e : ChanEntry) (off len : Nat) (bs : List Byte) (env : WriteEnv), s.serves [] = true →
    ((off % 8 ≠ 0 ∨ bs.length % 8 ≠ 0 ∨ 0x1000000 ≤ off ∨ 0x1000000 < off + bs.length) →
      (s.ctl.entryOf ch = some (n, e) → ∃ u, Answers (.registerWrite ch off bs env) s u ∧ (s.touch ch).reports u e.seat n off .access) ∧
      (s.ctl.entryOf ch = none → ∃ u, Answers (.registerWrite ch off bs env) s u ∧ u.claimShows ch .access 0x0D ∧
        u = { s with ctl.outcomes := u.ctl.outcomes })) ∧
    ((off % 8 ≠ 0 ∨ len % 8 ≠ 0 ∨ 0x1000000 ≤ off ∨ 0x1000000 < off + len) →
      (s.ctl.entryOf ch = some (n, e) → ∃ u, Answers (.rcFieldRead ch off len) s u ∧ u.ctl.lastRead = some (ch, zeros len) ∧
        s.keepsFields u (seatErrKeys e.seat) ∧ u.ctl.refused = true ∧ u.mem = s.mem) ∧
      (s.ctl.entryOf ch = none → ∃ u, Answers (.rcFieldRead ch off len) s u ∧ u.ctl.lastRead = some (ch, zeros len) ∧ u.claimShows ch .access 0x0D ∧
        u = { s with ctl.outcomes := u.ctl.outcomes, ctl.lastRead := u.ctl.lastRead }))) ∧
  (∀ (s : State) (ch : ChanId) (n k : Nat) (e : ChanEntry) (off v : Nat) (env : WriteEnv) (r : RegDef),
    s.serves [] = true → s.ctl.entryOf ch = some (n, e) → off % 8 = 0 → off < 0x1000000 → v < 2 ^ 64 →
    ¬(0x4000 ≤ off ∧ off < 0x6280) → off ≠ 0x10 → regDefAt off = some r → (commandAt off v env).isNone = true →
    r.sem = some k → s.semHolder k ≠ some e.seat →
    ∃ u, Answers (.registerWrite ch off (natLe 8 v) env) s u ∧ (s.touch ch).reports u e.seat n off .semNotHeld)

/-- R14, R16: a read over a bound channel returns the register's word and leaves its RC fields at their reset values. -/
def Obligations.ReadClears : Prop :=
  ∀ (s : State) (ch : ChanId) (n : Nat) (e : ChanEntry) (off : Nat) (r : RegDef),
    s.serves [] = true → s.ctl.entryOf ch = some (n, e) → off % 8 = 0 → off < 0x1000000 → regDefAt off = some r →
    ∃ u, Answers (.rcFieldRead ch off 8) s u ∧
      u.ctl.lastRead = some (ch, natLe 8 ((s.touch ch).readWord e.seat ch off)) ∧
      (∀ f ∈ r.fields, f.acc = .rc → u.fld f (s.bankOf e.seat r.scope) = f.reset) ∧
      (∀ g c, (∀ f ∈ r.fields, f.acc = .rc → f.key (s.bankOf e.seat r.scope) ≠ g.key c) → u.fld g c = s.fld g c)

/-! ### Seats, claims and channels (spec/03) -/

/-- R84, R85: KEEPALIVE restarts the seat's liveness period and changes nothing else; RELEASE frees every semaphore and channel of the seat, which
is then UNBOUND; a seat silent for the liveness timeout is LOST and loses its channels, and keeps its semaphores. R79: a seat's command over a
channel that is bound to no seat has no effect but its report, `ACCESS` with REASON 0x0C. R80, R84: a channel that closes leaves its entry and its
claim buffer without an outcome; the seat that loses its last channel so is LOST, one with others stays BOUND. RSTDAA closes the sideband channel
and clears the dynamic address. -/
def Obligations.SeatLife : Prop :=
  (∀ (s : State) (ch : ChanId) (n : Nat) (e : ChanEntry), s.serves [] = true →
    (s.ctl.entryOf ch = some (n, e) → ∃ u, Answers (.keepalive ch) s u ∧ (u.seat e.seat).lastAccess = s.now ∧
      u.regs = s.regs ∧ u.ctl.entries = s.ctl.entries ∧ u.mem = s.mem) ∧
    (s.ctl.entryOf ch = some (n, e) → ∃ u, Answers (.seatRelease ch) s u ∧ (u.seat e.seat).state = .unbound ∧
      (∀ c ∈ u.ctl.entries, c.2.seat ≠ e.seat) ∧ (∀ k, k < 64 → u.fld (F.CTL_SEM_OWNER.at k) ≠ e.seat.code) ∧
      (∀ k, k < 64 → s.fld (F.CTL_SEM_OWNER.at k) ≠ e.seat.code → u.fld (F.CTL_SEM_OWNER.at k) = s.fld (F.CTL_SEM_OWNER.at k))) ∧
    (∀ x, (s.seat x).state = .bound → ∃ u, Answers (.seatLivenessTimeout x) s u ∧ (u.seat x).state = .lost ∧
      (∀ c ∈ u.ctl.entries, c.2.seat ≠ x) ∧ (∀ k, k < 64 → u.fld (F.CTL_SEM_OWNER.at k) = s.fld (F.CTL_SEM_OWNER.at k)) ∧
      (s.seat x).lastAccess + s.fld F.CTL_SEAT_TIMEOUT_LIVENESS_MS * 1000000 ≤ u.now)) ∧
  (∀ (s : State) (ch : ChanId), s.serves [] = true → s.ctl.entryOf ch = none →
    (∀ c ∈ [Instr.keepalive ch, .seatRelease ch, .semRenew ch 0 1, .semRelease ch 0, .silCommit ch, .testUnlock ch, .reportGenerate ch,
        .keyInstall ch, .shaperApply ch], ∃ u, Answers c s u ∧ u.claimShows ch .access 0x0C ∧ u = { s with ctl.outcomes := u.ctl.outcomes })) ∧
  (∀ (s : State) (ch : ChanId), s.serves [] = true →
    (∃ u, Answers (.channelClose ch) s u ∧ (∀ e ∈ u.ctl.entries, e.2.chan ≠ ch) ∧ (∀ e ∈ u.ctl.bufs, e.2.chan ≠ ch) ∧
      (∀ n e, s.ctl.entryOf ch = some (n, e) → (s.seat e.seat).state = .bound →
        (u.seat e.seat).state = if s.ctl.entries.all (fun c => c.2.chan == ch || c.2.seat != e.seat) then .lost else .bound)) ∧
    (∃ u, Answers .i3cRstdaa s u ∧ u.ctl.i3cAddr = none ∧ ∀ e ∈ u.ctl.entries, e.2.chan ≠ .i3c))

/-- R83: CLAIM_BEGIN of an unbound channel takes a free claim buffer, empties it, loads a fresh nonce and starts its 10 s; with none free it is
refused `BUSY` with REASON 0x08; before the firmware has verified, and from a bound channel, it is refused `STATE_CONFLICT` with REASON 0x09.
CLAIM_SUBMIT of an open claim begins the check; a buffer left unused for 10 s is released with `TIMEOUT` and REASON 0x0B. R83, R84: the check of a
submitted claim posts its outcome and releases the buffer; when no check of the table fails, the channel is bound to the seat the record names,
under the identity digest of its keys, and the seat is BOUND; a failed check binds nothing. An internal fault of the claim logic ends the claim with
`INTERNAL` and REASON 0xFF. -/
def Obligations.Claims : Prop :=
  (∀ (s : State) (ch : ChanId) (k : Nat) (b : ClaimBuf), s.serves [] = true →
    (s.ctl.entryOf ch ≠ none → ∃ u, Answers (.claimBegin ch) s u ∧ u.claimShows ch .stateConflict 0x09 ∧ u.ctl.bufs = s.ctl.bufs) ∧
    (s.fwVerified = false → ∃ u, Answers (.claimBegin ch) s u ∧ u.claimShows ch .stateConflict 0x09 ∧ u.ctl.bufs = s.ctl.bufs) ∧
    (s.fwVerified = true → s.ctl.entryOf ch = none → s.ctl.bufs.find? (fun e => e.2.chan == ch) = none → s.ctl.bufs.firstFree 4 = some k →
      ∃ u, Answers (.claimBegin ch) s u ∧ u.ctl.bufs.get? k = some ⟨ch, Config.random s.free 32, [], s.now, false⟩ ∧ u.free = s.free + 1) ∧
    (s.fwVerified = true → s.ctl.entryOf ch = none → s.ctl.bufs.find? (fun e => e.2.chan == ch) = none → s.ctl.bufs.firstFree 4 = none →
      ∃ u, Answers (.claimBegin ch) s u ∧ u.claimShows ch .busy 0x08 ∧ u.ctl.bufs = s.ctl.bufs) ∧
    (s.fwVerified = true → s.ctl.entryOf ch = none → s.ctl.bufs.find? (fun e => e.2.chan == ch) = some (k, b) →
      ∃ u, Answers (.claimSubmit ch) s u ∧ u.ctl.bufs.get? k = some { b with submitted := true } ∧ u.regs = s.regs) ∧
    (s.ctl.bufs.get? k = some b → b.submitted = false →
      ∃ u, Answers (.claimBufferTimeout k) s u ∧ u.ctl.bufs.get? k = none ∧ u.claimShows b.chan .timeout 0x0B ∧ b.opened + 10000000000 ≤ u.now)) ∧
  (∀ (s : State) (k : Nat) (b : ClaimBuf), s.serves [] = true → s.ctl.bufs.get? k = some b → b.submitted = true →
    (∃ u, Answers (.claimCheckDone k true) s u ∧ u.claimShows b.chan .internal 0xFF ∧ u.ctl.bufs.get? k = none ∧ u.ctl.entries = s.ctl.entries) ∧
    (∀ st r, s.claimFault b = some (st, r) → ∃ u, Answers (.claimCheckDone k false) s u ∧ u.claimShows b.chan st r ∧ u.ctl.bufs.get? k = none ∧
      u.ctl.entries = s.ctl.entries ∧ u.ctl.seatA = s.ctl.seatA ∧ u.ctl.seatB = s.ctl.seatB) ∧
    (s.claimFault b = none → ∀ m, s.ctl.entries.firstFree 16 = some m → ∀ x, x = (if field b.bytes 0 1 = 1 then SeatId.b else SeatId.a) →
      ∃ u, Answers (.claimCheckDone k false) s u ∧ u.claimShows b.chan .done 0 ∧
        u.ctl.bufs.get? k = none ∧ u.ctl.entries.get? m = some ⟨b.chan, x⟩ ∧ (u.seat x).state = .bound ∧
        (u.seat x).identity = Config.sha384 (slice b.bytes 64 32 ++ slice b.bytes 96 1952)))

/-- R87: ACQUIRE takes a free semaphore for the seat (OWNER, GEN + 1, expiry now + L) or extends its own; of another seat's it is refused `BUSY`.
RENEW extends, RELEASE clears OWNER; by a seat that does not hold the semaphore both are refused `SEM_NOT_HELD`. A refusal leaves the semaphore as
it is. R87: a lease of 0 is refused with `BAD_DESCRIPTOR`, one above 60,000 ms with `BOUNDS`; a lease that runs out clears OWNER. Both seats'
ACQUIRE in one arbiter cycle: the seat that TIE names wins, TIE passes to the other, the loser is refused. -/
def Obligations.Semaphores : Prop :=
  (∀ (s : State) (ch : ChanId) (n k lease : Nat) (e : ChanEntry), s.serves [] = true → s.ctl.entryOf ch = some (n, e) → k < 64 →
    1 ≤ lease → lease ≤ 60000 →
    (s.fld (F.CTL_SEM_OWNER.at k) = 0 → ∃ u, Answers (.semAcquire ch k lease none) s u ∧ u.fld (F.CTL_SEM_OWNER.at k) = e.seat.code ∧
      u.fld (F.CTL_SEM_GEN.at k) = (s.fld (F.CTL_SEM_GEN.at k) + 1) % 2 ^ F.CTL_SEM_GEN.width ∧
      u.ctl.semExpiry.getD k 0 = s.now + lease * 1000000 ∧ u.semHolder k = some e.seat ∧
      s.keepsFields u [(F.CTL_SEM_OWNER.at k).key 0, (F.CTL_SEM_GEN.at k).key 0, (F.CTL_SEM_LEASE_MS.at k).key 0] ∧ u.mem = s.mem) ∧
    (s.semHolder k = some e.seat →
      (∃ u, Answers (.semAcquire ch k lease none) s u ∧ u.ctl.semExpiry.getD k 0 = s.now + lease * 1000000 ∧
        s.keepsFields u [(F.CTL_SEM_LEASE_MS.at k).key 0]) ∧
      (∃ u, Answers (.semRenew ch k lease) s u ∧ u.ctl.semExpiry.getD k 0 = s.now + lease * 1000000 ∧
        s.keepsFields u [(F.CTL_SEM_LEASE_MS.at k).key 0]) ∧
      (∃ u, Answers (.semRelease ch k) s u ∧ u.fld (F.CTL_SEM_OWNER.at k) = 0 ∧ u.semHolder k = none ∧
        s.keepsFields u [(F.CTL_SEM_OWNER.at k).key 0])) ∧
    (s.semHolder k = some e.seat.other → ∃ u, Answers (.semAcquire ch k lease none) s u ∧ (s.asked ch).reports u e.seat n 0x100 .busy) ∧
    (s.semHolder k = some e.seat.other ∨ s.fld (F.CTL_SEM_OWNER.at k) = 0 →
      (∃ u, Answers (.semRenew ch k lease) s u ∧ (s.asked ch).reports u e.seat n 0x100 .semNotHeld) ∧
      (∃ u, Answers (.semRelease ch k) s u ∧ (s.asked ch).reports u e.seat n 0x100 .semNotHeld))) ∧
  (∀ (s : State) (ch : ChanId) (n k lease : Nat) (e : ChanEntry), s.serves [] = true → k < 64 →
    (s.ctl.entryOf ch = some (n, e) → lease = 0 → ∃ u, Answers (.semAcquire ch k lease none) s u ∧
      (s.asked ch).reports u e.seat n 0x100 .badDescriptor) ∧
    (s.ctl.entryOf ch = some (n, e) → 60000 < lease → ∃ u, Answers (.semAcquire ch k lease none) s u ∧
      (s.asked ch).reports u e.seat n 0x100 .bounds) ∧
    (s.fld (F.CTL_SEM_OWNER.at k) ≠ 0 → ∃ u, Answers (.semLeaseExpiry k) s u ∧ u.fld (F.CTL_SEM_OWNER.at k) = 0 ∧ u.semHolder k = none ∧
      u.fld (F.CTL_SEM_GEN.at k) = s.fld (F.CTL_SEM_GEN.at k)) ∧
    (∀ ch' lease', ∀ n' e', s.ctl.entryOf ch' = some (n', e') → s.ctl.entryOf ch = some (n, e) → e.seat = .a → e'.seat = .b →
      1 ≤ lease → lease ≤ 60000 → 1 ≤ lease' → lease' ≤ 60000 → s.fld (F.CTL_SEM_OWNER.at k) = 0 →
      ∃ u, Answers (.semAcquire ch k lease (some (ch', lease'))) s u ∧
        (s.fld (F.CTL_SEM_TIE.at k) = 0 → u.fld (F.CTL_SEM_OWNER.at k) = 1 ∧ u.fld (F.CTL_SEM_TIE.at k) = 1) ∧
        (s.fld (F.CTL_SEM_TIE.at k) = 1 → u.fld (F.CTL_SEM_OWNER.at k) = 2 ∧ u.fld (F.CTL_SEM_TIE.at k) = 0) ∧
        u.fld (F.CTL_SEM_GEN.at k) = (s.fld (F.CTL_SEM_GEN.at k) + 1) % 2 ^ F.CTL_SEM_GEN.width))

/-- R92: a device without a dynamic address takes the one that ENTDAA or SETDASA gives it, answering ENTDAA with its provisional ID (strapped
position in bits [5:0]); GETPID, GETBCR and GETDCR return what they name; a code it does not support gets no answer; a private read returns the last
frame's reply once; ENEC and DISEC set and clear event bits. R92: a frame with a reserved OP, a WORDS of 0 or too few data bytes has no effect; over
a bound sideband it is reported with `BAD_DESCRIPTOR` in `CTL_SEAT_ERR` (so is one that is shorter than 6 bytes or has bits [15:12] of WORDS set:
log entry 18, the model's choice). A well-formed read frame leaves a reply of one status byte and WORDS × 8 data bytes; a well-formed write frame is
a window write of WORDS × 8 bytes. -/
def Obligations.Sideband : Prop :=
  (∀ (s : State) (a bits : Nat), s.serves [] = true →
    (s.ctl.i3cAddr = none → ∃ u, Answers (.i3cEntdaa a) s u ∧ u.ctl.i3cAddr = some (a % 128) ∧
      u.ctl.i3cOut.take 6 = (natLe 6 s.provisionalId).reverse ∧ s.provisionalId % 64 = s.fld F.CTL_ID_POSITION % 64) ∧
    (s.ctl.i3cAddr = none → ∃ u, Answers (.i3cSetdasa a) s u ∧ u.ctl.i3cAddr = some (a % 128)) ∧
    (s.ctl.i3cAddr = some a →
      (∃ u, Answers .i3cGetpid s u ∧ u.ctl.i3cOut = (natLe 6 s.provisionalId).reverse ∧ u.regs = s.regs) ∧
      (∃ u, Answers .i3cGetbcr s u ∧ u.ctl.i3cOut = natLe 1 Config.i3cBcr) ∧
      (∃ u, Answers .i3cGetdcr s u ∧ u.ctl.i3cOut = natLe 1 Config.i3cDcr) ∧
      (∃ u, Answers .i3cGetstatus s u ∧ u.ctl.i3cOut.length = 2) ∧
      (∃ u, Answers (.i3cEnec bits) s u ∧ u.ctl.i3cEvents = s.ctl.i3cEvents ||| bits % 256 ∧ u.regs = s.regs) ∧
      (∃ u, Answers (.i3cDisec bits) s u ∧ u.ctl.i3cEvents &&& (bits % 256) = 0 ∧ u.regs = s.regs) ∧
      (∃ u, Answers (.i3cCccUnsupported a) s u ∧ u.ctl.i3cOut = [] ∧ u = { s with ctl.i3cOut := [] })) ∧
    (∀ bs, s.ctl.i3cReply = some bs → ∃ u, Answers .i3cPrivateRead s u ∧ u.ctl.i3cOut = bs ∧ u.ctl.i3cReply = none)) ∧
  (∀ (s : State) (bs : List Byte) (env : WriteEnv) (a n : Nat) (e : ChanEntry), s.serves [] = true → s.ctl.i3cAddr = some a →
    s.ctl.entryOf .i3c = some (n, e) →
    ((field bs 0 1 ≠ 1 ∧ field bs 0 1 ≠ 2) ∨ bs.length < 6 ∨ field bs 4 2 = 0 ∨ 4096 ≤ field bs 4 2 ∨
        (field bs 0 1 = 2 ∧ bs.length < 6 + 8 * field bs 4 2) →
      ∃ u, Answers (.i3cWindowFrame bs env) s u ∧ (s.touch .i3c).reports u e.seat n (field bs 1 3) .badDescriptor) ∧
    (field bs 0 1 = 1 → 6 ≤ bs.length → 1 ≤ field bs 4 2 → field bs 4 2 < 4096 →
      ∃ u r, Answers (.i3cWindowFrame bs env) s u ∧ u.ctl.i3cReply = some r ∧ r.length = 1 + 8 * field bs 4 2) ∧
    (field bs 0 1 = 2 → 1 ≤ field bs 4 2 → field bs 4 2 < 4096 → 6 + 8 * field bs 4 2 ≤ bs.length →
      Answers (.i3cWindowFrame bs env) s (s.windowWrite .i3c (field bs 1 3) (slice bs 6 (8 * field bs 4 2)) env)))

/-- R80: a claim that succeeds, a channel that closes, a seat's release and its liveness timeout keep the bindings within the member's 16 entries
and the 8 of a seat, no channel bound twice. -/
def Obligations.ChannelsStayOk : Prop :=
  ∀ (s : State) (ch : ChanId) (k : Nat) (x : SeatId) (internal : Bool), s.channelsOk →
    ∀ c ∈ [Instr.claimCheckDone k internal, .channelClose ch, .seatRelease ch, .seatLivenessTimeout x, .claimBegin ch, .claimSubmit ch, .keepalive ch, .i3cRstdaa],
      ∀ t, exec c s = .next t → t.channelsOk

/-! ### Membership and ports (spec/01, spec/08) -/

/-- R24, R34: at each multiple of 100 us the member sends a heartbeat to every peer, over the peer's own port where that is up and no relay carries
it; neither memory nor the member states change. A heartbeat that arrives refreshes the sender's bitmap, time and lock; one of this member or of a
number the image does not list changes nothing. R26, R27: a member declared lost is lost at every member that hears of it; one that is declared lost
itself holds itself FAILED, and leaves the rest as it is; a declaration of a number that is not ACTIVE changes nothing. The declarer, once it has
waited its time after the last heartbeat, sends the declaration to every peer and applies it. R26: the declarer of a number is its journal partner
while that is ACTIVE, after the member-loss timeout; else the lowest ACTIVE other number, after 40 s. -/
def Obligations.MemberLoss : Prop :=
  (∀ (s : State) (p : Packet), s.serves [] = true →
    (∃ u, Answers .heartbeatTimer s u ∧ u.now = (s.now / 100000 + 1) * 100000 ∧ u.mem = s.mem ∧ u.dom = s.dom ∧ u.works = s.works ∧
      (s.dom.hbQuietUntil ≤ u.now → (∀ r ∈ s.ras.running, ¬(r.level = 3 ∧ r.target = 25)) →
        ∀ d ∈ s.peers, s.portUp (s.pportTo d) = true → s.pathTo d = .direct →
          ∃ x ∈ u.sws.sent, x.1 = s.pportTo d ∧ x.2.1.op = opHEARTBEAT ∧ x.2.1.src = s.devnum ∧ x.2.1.dst = d)) ∧
    (p.op = opHEARTBEAT → s.isSelf p.src = false → s.memberState p.src ≠ .absent →
      ∃ v : State, AnswersThen (.heartbeat p) s v.rerouteAll ∧
        v.dom.heard.get? p.src = some ⟨field p.payload 0 8, field p.payload 8 8, bitAt (field p.payload 16 1) 0, s.now⟩ ∧ v.mem = s.mem) ∧
    (p.op = opHEARTBEAT → (s.isSelf p.src = true ∨ s.memberState p.src = .absent) → AnswersThen (.heartbeat p) s (s.take p))) ∧
  (∀ (s : State) (p : Packet) (d n wait : Nat) (h : Heard), s.serves [] = true → d < 64 →
    (p.op = opMEMBER_DECLARE → p.aux % 64 = d →
      AnswersThen (.memberDeclare p) s ((s.take p).memberLost d) ∧
      (s.isSelf d = true → s.dom.selfFailed = false → ∃ u, AnswersThen (.memberDeclare p) s u ∧ u.dom.selfFailed = true ∧
        u.memberState s.devnum = .failed ∧ u.mem = s.mem ∧ u.works = s.works ∧ u.jnl = s.jnl ∧ u.xlt = s.xlt) ∧
      (s.isSelf d = false → s.memberState d ≠ .active → AnswersThen (.memberDeclare p) s (s.take p))) ∧
    (s.declarer d = some (n, wait) → n = s.devnum → s.isSelf d = false → s.memberState d = .active → s.dom.selfFailed = false →
      s.dom.heard.get? d = some h → ∃ v : State, AnswersThen (.memberLossTimeout d) s (v.memberLost d) ∧ h.at_ + wait ≤ v.now ∧ v.dom = s.dom ∧
        v.mem = s.mem ∧ v.memberState d = .active ∧
        ∀ e ∈ s.peers, s.portUp (s.pportTo e) = true → s.pathTo e = .direct →
          ∃ x ∈ v.sws.sent, x.1 = s.pportTo e ∧ x.2.1.op = opMEMBER_DECLARE ∧ x.2.1.aux = d ∧ x.2.1.dst = e)) ∧
  (∀ (s : State) (d : Nat),
    (s.memberState (s.partner d) = .active → s.declarer d = some (s.partner d, s.dom.lossUs * 1000)) ∧
    (s.memberState (s.partner d) ≠ .active → s.declarer d = none ∨ ∃ m, s.declarer d = some (m, 40000000000) ∧ s.memberState m = .active ∧ m ≠ d))

/-- R25, R70: an identity exchange with a JOINING peer records what this member reported of itself. Where the peer's identity differs from the
image's it stays JOINING and its port is held down; where its serial or domain differs it stays JOINING; where all agree, a lane of its port is up
and no lost ring is awaited, it becomes ACTIVE, or SPARE by its role. R69, R125: a member whose ring was lost with T1 takes the live entries of its
mirror as its own ring; one that kept its ring discards what its mirror does not hold, but for entries written with SINGLE (log entry 55); where the
mirror does not answer, it begins an empty journal. Either way it then resumes from that ring, and the peers that exchanged identities meanwhile
join. R125, R41: the wait for JOINING numbers ends one member-loss timeout after this member became ACTIVE; a remote window access that has had no
response within the management timeout is reported with `TIMEOUT` to the channel that asked, and its request is gone. -/
def Obligations.Joining : Prop :=
  (∀ (s : State) (d : Nat) (i : PeerInfo), s.serves [] = true → d < 64 → s.isSelf d = false → s.memberState d = .joining →
    s.fld F.SIL_FULL_SERIAL_SERIAL ≠ 0 →
    (s.dom.identities.getD (s.fld (F.FAB_MEMBER_POSITION.at d)) [] ≠ i.identity →
      ∃ v : State, AnswersThen (.identityExchange d i) s (v.holdPort (s.pportTo d)) ∧ v.memberState d = .joining ∧ v.dom.peers = s.dom.peers ∧
        v.dom.reported.get? d = some s.ownInfo) ∧
    (s.dom.identities.getD (s.fld (F.FAB_MEMBER_POSITION.at d)) [] = i.identity → s.fld F.TIER_P2_LAYOUT_P2_ENABLED = 0 →
      (s.ringAwaited = false → i.serial ≠ s.fld F.SIL_FULL_SERIAL_SERIAL ∨ i.domainId ≠ s.fld F.SIL_DOMAIN_ID_DOMAIN_ID →
        ∃ u, AnswersThen (.identityExchange d i) s u ∧ u.memberState d = .joining ∧ u.dom.peers.get? d = some i ∧ u.mem = s.mem) ∧
      (s.ringAwaited = true → ∃ u, AnswersThen (.identityExchange d i) s u ∧ u.memberState d = .joining ∧ u.dom.peers.get? d = some i ∧
        u.dom.reported.get? d = some s.ownInfo ∧ u.regs = s.regs ∧ u.mem = s.mem) ∧
      (s.ringAwaited = false → i.serial = s.fld F.SIL_FULL_SERIAL_SERIAL → i.domainId = s.fld F.SIL_DOMAIN_ID_DOMAIN_ID →
        s.portUp (s.pportTo d) = true → i.windowsLost = false → s.noMirror = false →
        ∃ u, AnswersThen (.identityExchange d i) s u ∧
          u.memberState d = (if s.dom.spareRole.getD d false then .spare else .active) ∧ u.dom.peers.get? d = some i))) ∧
  (∀ (s : State) (es : List JEntry) (high : Nat), s.serves [] = true → s.fld F.SIL_FULL_SERIAL_SERIAL ≠ 0 →
    (s.sil.ringLost = true → (es.map (fun e => e.jseq)).Nodup →
      ∃ v : State, AnswersThen (.ringFetchDone es high) s v.afterRing.joinRecorded ∧ v.sil.ringLost = false ∧
        (∀ e ∈ es, v.jnl.ring.get? e.jseq = some e) ∧ v.mem = s.mem ∧ v.xlt = s.xlt) ∧
    (s.sil.ringLost = false → s.jnl.confirm = true →
      ∃ v : State, AnswersThen (.ringFetchDone es high) s v.afterRing.joinRecorded ∧ v.jnl.confirm = false ∧ v.sil = s.sil ∧
        ∀ j, high < j → (∀ e ∈ s.jnl.ring, e.1 = j → e.2.single = false) → v.jnl.ring.get? j = none) ∧
    (s.ringAwaited = true →
      ∃ v : State, AnswersThen .ringFetchTimeout s v.afterRing.joinRecorded ∧ v.ringAwaited = false ∧ v.jnl.ring = [] ∧ v.mem = s.mem ∧ v.xlt = s.xlt)) ∧
  (∀ (s : State) (tag : Nat) (p : Packet) (ch : ChanId) (off id issued sent copies : Nat) (path : Path), s.serves [] = true →
    (s.memberState s.devnum = .active → ∃ u, AnswersThen .joiningWaitTimeout s u ∧ u = s.reach (s.dom.activeAt + s.dom.lossUs * 1000) ∧
      ∀ d, u.memberState d ≠ .joining ∨ u.joinHeld d = false) ∧
    ((s.fab.reqs ++ s.fab.waiting).find? (fun r => r.pkt.tag == tag && (match r.waiter with | .window .. => true | _ => false))
        = some ⟨p, .window ch off id, issued, sent, copies, path⟩ →
      ∃ v : State, AnswersThen (.mgmtAccessTimeout tag) s (v.xferAnswer id off p { p with op := p.op + 0x80, status := Status.timeout.code }) ∧
        issued + s.dom.mgmtUs * 1000 ≤ v.now ∧ (∀ r ∈ v.fab.reqs ++ v.fab.waiting, r.pkt.tag ≠ tag) ∧ v.mem = s.mem ∧
        (s.ctl.entryOf ch = none → v.claimShows ch .timeout 0x0D) ∧
        (∀ n e, s.ctl.entryOf ch = some (n, e) → s.fld F.CTL_SEAT_ERR_COUNT e.seat.idx = 0 →
          v.fld F.CTL_SEAT_ERR_STATUS e.seat.idx = Status.timeout.code)))

/-- R32, R46, R255: a lane whose far end announces what R29 and R30 predict comes up, and so does a lane of an A-port, whose agent announces its
class; a lane whose far end announces another position or lane is held down; a lane taken down trains again, and comes back when training ends.
R432, R433, R465: an exchange whose signatures and identity are right puts link keys in force, one that is not holds the port's lanes down; a port
without keys does not rekey. With LSR_EN low no lane is up; with it high again the lanes may train. -/
def Obligations.LanesAndTrust : Prop :=
  (∀ (s : State) (port lane pos num cls : Nat), s.serves [23] = true → port < 0x60 → lane < s.portWidth port →
    (s.laneState port lane = .training → s.laneAllowed port lane = true →
      (isAport port = true ∨ (pos, num) = s.farLane port lane →
        ∃ u, AnswersThen (.laneTrainingDone port lane pos num cls) s u ∧ u.laneState port lane = .up ∧ u.mem = s.mem ∧ u.sil = s.sil) ∧
      (isAport port = false → (pos, num) ≠ s.farLane port lane →
        (∃ u, AnswersThen (.laneTrainingDone port lane pos num cls) s u ∧ u.laneState port lane = .held ∧ u.mem = s.mem ∧ u.fab = s.fab) ∧
        (∃ u, AnswersThen (.laneRetrainDone port lane pos num) s u ∧ u.laneState port lane = .held ∧ u.mem = s.mem ∧ u.fab = s.fab)) ∧
      (isAport port = false ∧ (pos, num) = s.farLane port lane ∨ isAport port = true ∧ s.fld F.FAB_PORT_STATUS_CLASS port ≠ 0 →
        ∃ u, AnswersThen (.laneRetrainDone port lane pos num) s u ∧ u.laneState port lane = .up ∧ u.mem = s.mem ∧ u.sil = s.sil)) ∧
    (s.laneState port lane = .up →
      (isAport port = false → ∃ u, AnswersThen (.laneDown port lane) s u ∧ u.laneState port lane = .training ∧ u.mem = s.mem) ∧
      (isAport port = true → ∃ v : State, AnswersThen (.laneDown port lane) s (v.aportLost port) ∧ v.laneState port lane = .training ∧ v.mem = s.mem))) ∧
  (∀ (s : State) (port : Nat) (m : KeyMsg),
    (s.serves [23] = true → port < 0x60 → s.portUp port = true →
      (s.keyMsgOk port m = true →
        (∃ u, AnswersThen (.linkKeyExchange port m) s u ∧ (u.link port).keyed = s.now + 1 ∧ (u.link port).frames = 0 ∧
          s.counted u F.SEC_LINK_EXCHANGES ∧ u.dom = s.dom ∧ u.mem = s.mem) ∧
        ((s.link port).keyed ≠ 0 → ∃ u, AnswersThen (.linkRekey port m) s u ∧ (u.link port).keyed = u.now + 1 ∧ (u.link port).frames = 0 ∧
          s.counted u F.SEC_LINK_REKEYS ∧ ((s.link port).frames < 2 ^ 32 → (s.link port).keyed - 1 + 60000000000 ≤ u.now) ∧ u.mem = s.mem)) ∧
      (s.keyMsgOk port m = false → isAport port = false →
        ∃ v, AnswersThen (.linkKeyExchange port m) s (((v : State).holdPort port).linkRecord port 0 4 .authFail) ∧
          s.counted v F.SEC_LINK_AUTH_FAIL ∧ s.keepsFields v [F.SEC_LINK_AUTH_FAIL.key 0] ∧ v.dom = s.dom ∧ v.mem = s.mem) ∧
      ((s.link port).keyed = 0 → AnswersThen (.linkRekey port m) s s)) ∧
    (s.serves [] = true →
      (s.fld F.TST_PINS_LSR_EN = 0 → AnswersThen .laserInterlockDrop s s) ∧
      (s.fld F.TST_PINS_LSR_EN = 1 → AnswersThen .laserInterlockRise s s) ∧
      (s.fld F.TST_PINS_LSR_EN ≠ 0 → ∃ v, AnswersThen .laserInterlockDrop s (v : State).linksDark ∧ v.fld F.TST_PINS_LSR_EN = 0 ∧
        s.counted v F.TST_PINS_LSR_DROPS ∧ v.dom = s.dom ∧ v.fab = s.fab ∧ v.mem = s.mem) ∧
      (s.fld F.TST_PINS_LSR_EN ≠ 1 → s.fld F.SIL_FULL_SERIAL_SERIAL = 0 → ∃ u, AnswersThen .laserInterlockRise s u ∧
        u.fld F.TST_PINS_LSR_EN = 1 ∧ s.keepsFields u [F.TST_PINS_LSR_EN.key 0] ∧ u.dom = s.dom) ∧
      (s.fld F.TST_PINS_LSR_EN ≠ 1 → s.fld F.SIL_FULL_SERIAL_SERIAL ≠ 0 →
        ∃ v, AnswersThen .laserInterlockRise s ((if (v : State).ringAwaited then v.partnerPorts else v.ports).foldl State.trainPort v) ∧ v.fld F.TST_PINS_LSR_EN = 1 ∧ v.dom = s.dom)))

/-! ### The structure image loader (spec/02) -/

/-- R65, R66: what each SIL_CMD of the holder of semaphore 0, and a write to the aperture, does in the state that lists it. R15, R66: an SIL_CMD
that the table does not list for the state is refused `STATE_CONFLICT` and counted; a seat that does not hold semaphore 0 is refused `SEM_NOT_HELD`.
R53, R66, R71, R75, R76: the verification of a staged image ends in CHECKING or in the refusal of its first fault; the check ends in DRAINING of the
affected slices (a partial image), in the image's application (a full one whose committer still holds semaphore 0), in `SEM_NOT_HELD`, or in the
first refusal; a drain that takes too long ends with `TIMEOUT` and the slices as they were. An internal fault of either check ends the load with
`INTERNAL` and REASON 0xFF. -/
def Obligations.ImageCommands : Prop :=
  (∀ (s : State) (ch : ChanId) (n : Nat) (x : SeatId) (word value : Nat), s.guardedBy ch n x 0 → word < 4096 → value < 2 ^ 64 →
    (s.silState = .noImage → ∃ u, Answers (.silBeginFull ch) s u ∧ u.silState = .staging ∧ u.sil.staging = [] ∧ u.mem = s.mem ∧
      s.keepsFields u (F.SIL_STATE_STATE.key 0 :: collideKeys)) ∧
    (s.silState = .running → ∃ u, Answers (.silBeginPartial ch) s u ∧ u.silState = .staging ∧ u.sil.staging = [] ∧ u.mem = s.mem ∧
      s.keepsFields u (F.SIL_STATE_STATE.key 0 :: collideKeys)) ∧
    (s.silState = .staging →
      (s.membersIn .admitting = [] → ∃ u, Answers (.silCommit ch) s u ∧ u.silState = .verifying ∧
        u.sil.latched = s.fld F.SIL_STAGE_LEN_LEN_64B ∧ u.sil.committer = some x ∧ u.sil.staging = s.sil.staging ∧ u.mem = s.mem ∧
        s.keepsFields u (F.SIL_STATE_STATE.key 0 :: collideKeys)) ∧
      (∃ u, AnswersThen (.silAbort ch) s u ∧ u.silState = s.atRest ∧ u.sil.staging = [] ∧ s.keepsFields u (F.SIL_STATE_STATE.key 0 :: collideKeys)) ∧
      (∃ u, Answers (.silApertureWrite ch word value) s u ∧ u.sil.staging.getD (s.fld F.SIL_STAGE_PAGE_PAGE * 4096 + word) 0 = value ∧
        (∀ w, w ≠ s.fld F.SIL_STAGE_PAGE_PAGE * 4096 + word → u.sil.staging.getD w 0 = s.sil.staging.getD w 0) ∧ s.keepsFields u collideKeys)) ∧
    (s.silState = .draining → ∃ u, AnswersThen (.silAbort ch) s u ∧ u.silState = .running ∧ u.loadShows .done 0x41)) ∧
  (∀ (s : State) (ch : ChanId) (n : Nat) (x : SeatId) (word value : Nat), word < 4096 →
    (s.guardedBy ch n x 0 →
      (s.silState ≠ .noImage → ∃ u v, Answers (.silBeginFull ch) s u ∧ (s.asked ch).reports v x n 0x10008 .stateConflict ∧ u = v.count F.SIL_COUNT_CMD_REFUSED) ∧
      (s.silState ≠ .running → ∃ u v, Answers (.silBeginPartial ch) s u ∧ (s.asked ch).reports v x n 0x10008 .stateConflict ∧ u = v.count F.SIL_COUNT_CMD_REFUSED) ∧
      (s.silState ≠ .staging → ∃ u v, Answers (.silCommit ch) s u ∧ (s.asked ch).reports v x n 0x10008 .stateConflict ∧ u = v.count F.SIL_COUNT_CMD_REFUSED) ∧
      (s.silState ≠ .staging → s.silState ≠ .draining →
        ∃ u v, AnswersThen (.silAbort ch) s u ∧ (s.asked ch).reports v x n 0x10008 .stateConflict ∧ u = v.count F.SIL_COUNT_CMD_REFUSED) ∧
      (s.silState ≠ .staging → ∃ u, Answers (.silApertureWrite ch word value) s u ∧ (s.asked ch).reports u x n (0x18000 + 8 * word) .stateConflict)) ∧
    (s.unguarded ch n x 0 →
      (∀ c ∈ [Instr.silBeginFull ch, .silBeginPartial ch, .silCommit ch], ∃ u, Answers c s u ∧ (s.touch ch).reports u x n 0x10008 .semNotHeld) ∧
      (∃ u, AnswersThen (.silAbort ch) s u ∧ (s.touch ch).reports u x n 0x10008 .semNotHeld))) ∧
  (∀ (s : State) (f : ImgFault), s.serves [] = true →
    (s.silState = .verifying →
      (formFault s.stagedImage s.sil.latched = none → s.kindFault s.stagedImage = none → s.sigFault s.stagedImage = none →
        ∃ u, Answers (.imageVerifyDone false) s u ∧ u.silState = .checking ∧ s.onlyFields u [F.SIL_STATE_STATE.key 0]) ∧
      (formFault s.stagedImage s.sil.latched = some f → f.reason = 0x01 ∨ s.kindFault s.stagedImage = none →
        ∃ u, Answers (.imageVerifyDone false) s u ∧ u.silState = s.atRest ∧ u.loadShows f.status f.reason ∧ s.counted u F.SIL_COUNT_REFUSED) ∧
      (∃ u, Answers (.imageVerifyDone true) s u ∧ u.silState = s.atRest ∧ u.loadShows .internal 0xFF ∧ s.counted u F.SIL_COUNT_REFUSED)) ∧
    (s.silState = .checking →
      (s.contentFault s.stagedImage = some f →
        ∃ u, AnswersThen (.imageCheckDone false) s u ∧ u.silState = s.atRest ∧ u.loadShows f.status f.reason ∧ s.counted u F.SIL_COUNT_REFUSED ∧ u.sil = s.sil) ∧
      (∃ u, AnswersThen (.imageCheckDone true) s u ∧ u.silState = s.atRest ∧ u.loadShows .internal 0xFF ∧ u.sil = s.sil) ∧
      (s.contentFault s.stagedImage = none → imgPartial s.stagedImage = true →
        ∃ u, AnswersThen (.imageCheckDone false) s u ∧ u.silState = .draining ∧ u.sil.affected = maskOf (imgAffected s.stagedImage)) ∧
      (s.contentFault s.stagedImage = none → imgPartial s.stagedImage = false →
        (s.committerHolds = true → AnswersThen (.imageCheckDone false) s (s.applyFull s.stagedImage)) ∧
        (s.committerHolds = false → ∃ u, AnswersThen (.imageCheckDone false) s u ∧ u.silState = s.atRest ∧ u.loadShows .semNotHeld 0x51 ∧ u.sil = s.sil))) ∧
    (s.silState = .draining →
      (s.sil.lastChunk = none → s.slicesDrained = true → ∃ u, AnswersThen .sliceDrained s u ∧ u.sil.lastChunk = some (u.fld F.JNL_HEAD_JSEQ - 1)) ∧
      (s.slicesDrained = false → AnswersThen .sliceDrained s s) ∧
      (∃ u, AnswersThen .drainTimeout s u ∧ u.silState = .running ∧ u.loadShows .timeout 0x50 ∧ u.sil.affected = 0)))

/-! ### Work queues and the journal (spec/04) -/

/-- R97, R98: the device compares a written TAIL with HEAD modulo 2^32: equal changes nothing, within the slots starts the fetch, beyond them (or
with high bits set) puts the queue in ERROR with `BAD_DESCRIPTOR`; a doorbell of a queue that is not ENABLED is kept. A completion head beyond what
is posted puts the queue in ERROR. Only the word stored changes in memory. R97, R103, R106: the read of a slot of an ENABLED queue that fetches:
past the TAIL the fetch ends, a timeout or a poisoned slot puts the queue in ERROR, a malformed descriptor is refused and counted, and one that
passes every check is entered under a new tag for the journal. -/
def Obligations.Intake : Prop :=
  (∀ (s : State) (q word : Nat), s.serves [18, 20] = true → word < 2 ^ 64 →
    (s.queueState q = .disabled → AnswersThen (.doorbell q word) s s ∧ AnswersThen (.cqHeadStore q word) s s) ∧
    (s.queueState q = .enabled →
      (word < 2 ^ 32 → diff32 word (s.queueHead q) = 0 →
        ∃ u, AnswersThen (.doorbell q word) s u ∧ u.qx = s.qx ∧ u.fld F.WQ_Q_STATUS_TAIL q = word ∧ s.keepsFields u [F.WQ_Q_STATUS_TAIL.key q]) ∧
      (word < 2 ^ 32 → 1 ≤ diff32 word (s.queueHead q) → diff32 word (s.queueHead q) ≤ 2 ^ s.queueK q →
        ∃ u, AnswersThen (.doorbell q word) s u ∧ (u.queue q).fetching = true ∧ u.queueState q = .enabled ∧ u.fld F.WQ_Q_STATUS_TAIL q = word ∧
          s.keepsFields u [F.WQ_Q_STATUS_TAIL.key q] ∧ s.keepsBytes u (dgaCell (s.queue q).ringDga) 8) ∧
      (word < 2 ^ 32 → 2 ^ s.queueK q < diff32 word (s.queueHead q) →
        ∃ u, AnswersThen (.doorbell q word) s u ∧ u.queueState q = .error ∧ u.fld F.WQ_Q_STATUS_ERR_STATUS q = Status.badDescriptor.code ∧
          u.fld F.WQ_Q_STATUS_ERR_REASON q = 1 ∧ (u.queue q).fetching = false) ∧
      (2 ^ 32 ≤ word → ∃ u, AnswersThen (.doorbell q word) s u ∧ u.queueState q = .error ∧ u.fld F.WQ_Q_STATUS_ERR_REASON q = 2) ∧
      (word < 2 ^ 32 → diff32 (s.queue q).cqTail word ≤ 2 ^ (s.queueK q + 1) →
        ∃ u, AnswersThen (.cqHeadStore q word) s u ∧ (u.queue q).cqHead = word ∧ u.regs = s.regs ∧ s.keepsBytes u (dgaCell (s.queue q).ringDga + 16) 8) ∧
      (word < 2 ^ 32 → 2 ^ (s.queueK q + 1) < diff32 (s.queue q).cqTail word →
        ∃ u, AnswersThen (.cqHeadStore q word) s u ∧ u.queueState q = .error ∧ u.fld F.WQ_Q_STATUS_ERR_REASON q = 6) ∧
      (2 ^ 32 ≤ word → ∃ u, AnswersThen (.cqHeadStore q word) s u ∧ u.queueState q = .error ∧ u.fld F.WQ_Q_STATUS_ERR_REASON q = 7)) ∧
    (s.queueState q ≠ .disabled → s.queueState q ≠ .enabled →
      ∃ u, AnswersThen (.doorbell q word) s u ∧ (u.queue q).heldBell = some word ∧ u.regs = s.regs)) ∧
  (∀ (s : State) (q : Nat), s.serves [20] = true → s.queueState q = .enabled → (s.queue q).fetching = true →
    (s.allFetched q = true → ∃ u, AnswersThen (.slotFetchDone q false) s u ∧ (u.queue q).fetching = false ∧ u.regs = s.regs) ∧
    (s.allFetched q = false → s.cqRoom q = true →
      (∃ u, AnswersThen (.slotFetchDone q true) s u ∧ u.queueState q = .error ∧ u.fld F.WQ_Q_STATUS_ERR_STATUS q = Status.timeout.code ∧
        u.fld F.WQ_Q_STATUS_ERR_REASON q = 4) ∧
      ∀ a d, a = dgaCell (s.queue q).ringDga + 64 * ((s.queue q).next % 2 ^ s.queueK q + 1) → d = s.mem.readN (s.keyFor a) a 64 →
        (s.mem.poisoned a = true → ∃ u, AnswersThen (.slotFetchDone q false) s u ∧ u.queueState q = .error ∧
          u.fld F.WQ_Q_STATUS_ERR_STATUS q = Status.poison.code ∧ u.fld F.WQ_Q_STATUS_ERR_REASON q = 3) ∧
        (s.mem.poisoned a = false →
          (∀ f, commonFault d (s.queue q).next = some f → f.status = .badDescriptor → s.fld F.WQ_Q_CFG_CQ_KIND q = 0 →
            ∃ u, AnswersThen (.slotFetchDone q false) s u ∧ s.counted u F.WQ_Q_REFUSE_BAD_DESC q ∧ u.jnl.ring = s.jnl.ring) ∧
          (commonFault d (s.queue q).next = none → s.checkDesc (s.queueCtx q) d = none → s.dom.selfFailed = false →
            s.checkHeld (s.queueCtx q) d State.checkDesc = false → s.askFirst d = none → s.acceptHeld = false →
            ∃ u, AnswersThen (.slotFetchDone q false) s u ∧ (u.queue q).next = mod32 ((s.queue q).next + 1) ∧
              (∃ w ∈ u.works, w.queue = q ∧ w.desc = d ∧ w.stage = .entered ∧ w.origin = s.devnum) ∧
              ∃ e, u.jnl.ring.get? (s.fld F.JNL_HEAD_JSEQ) = some e ∧ e.kind = jkDESCRIPTOR ∧ e.body = d))))

/-- R106, R113: an acknowledgement of the mirror raises the highest acknowledged JSEQ; an entry that arrives for the mirror ring in order is kept
and acknowledged, one whose CRC fails is recorded and not kept. R118, R119: HANDOFF makes this member hold the phase, once, and is answered TAKEN;
HOLD_QUERY is answered HELD or NOT_HELD by whether it does; TAKEN and HELD of the holder are noted at the custodian, and a message of any other
member changes no request. R118, R119: NOT_HELD of the holder of a phase commits the phase anew; PHASE_DONE of the holder ends the phase; from any
other member neither changes a request. A member that holds phases says so to each custodian, and the orphan scan comes once in the hand-off
timeout. -/
def Obligations.JournalMessages : Prop :=
  (∀ (s : State) (p : Packet) (r : Request) (j : Nat), s.serves [20] = true →
    (s.requestOf p = some r → r.waiter = .journal j →
      (p.status = 0 → s.noMirror = true → ∃ v : State, AnswersThen (.mirrorAck p) s v.copiesTaken ∧ v.jnl = s.jnl ∧ v.regs = s.regs) ∧
      (p.status = 0 → s.noMirror = false → ∃ u, AnswersThen (.mirrorAck p) s u ∧
        u.fld F.JNL_ACKED_JSEQ = (s.trackMax F.JNL_ACKED_JSEQ p.addr).fld F.JNL_ACKED_JSEQ ∧ u.jnl.ring = s.jnl.ring ∧ u.mem = s.mem) ∧
      (p.status ≠ 0 → ∃ u, AnswersThen (.mirrorAck p) s u ∧ u.fld F.JNL_ACKED_JSEQ = s.fld F.JNL_ACKED_JSEQ ∧ u.jnl.ring = s.jnl.ring)) ∧
    (p.op = opMIRROR → p.aux % 2 = 1 → s.dom.selfFailed = false →
      (JEntry.decode p.payload = none → ∃ u, AnswersThen (.journalMirrorEntry p) s u ∧ u.jnl = s.jnl ∧ u.mem = s.mem) ∧
      (∀ e, JEntry.decode p.payload = some e → s.jnl.mirrorHeld = true → s.jnl.mirrorOf = p.src → ∀ last, s.jnl.mirror.getLast? = some last →
        last.1 + 1 = e.jseq → s.jnl.mirror.length < ringEntries →
        ∃ u, AnswersThen (.journalMirrorEntry p) s u ∧ u.jnl.mirror.get? e.jseq = some e ∧ u.jnl.mirrorOf = p.src ∧
          (∀ k, k ≠ e.jseq → u.jnl.mirror.get? k = s.jnl.mirror.get? k) ∧ u.jnl.ring = s.jnl.ring ∧
          ((e.kind ≠ jkPHASE → e.kind ≠ jkRETIRE → u.works = s.works ∧ u.jnl.held = s.jnl.held))))) ∧
  (∀ (s : State) (p : Packet), s.serves [20] = true → p.op = opJOURNAL_CTRL → s.dom.selfFailed = false →
    (p.aux % 256 = jcHANDOFF → ∃ u, AnswersThen (.handoff p) s u ∧
      (∃ h ∈ u.jnl.held, h.custodian = p.src ∧ h.tag = p.addr ∧ h.phase = p.aux / 256 % 65536) ∧
      (s.holdsPhase p = true → u.jnl = s.jnl ∧ u.works = s.works) ∧
      u.asks (fun m => m.op = opJOURNAL_CTRL ∧ m.dst = p.src ∧ m.addr = p.addr % 2 ^ 48 ∧ m.aux % 256 = jcTAKEN)) ∧
    (p.aux % 256 = jcHOLD_QUERY → ∃ u, AnswersThen (.holdQuery p) s u ∧ u.jnl = s.jnl ∧ u.works = s.works ∧
      u.asks (fun m => m.op = opJOURNAL_CTRL ∧ m.dst = p.src ∧ m.addr = p.addr % 2 ^ 48 ∧
        m.aux % 256 = (if s.holdsPhase p then jcHELD else jcNOT_HELD))) ∧
    (p.aux % 256 = jcTAKEN → ∃ u, AnswersThen (.taken p) s u ∧ u.jnl = s.jnl ∧
      (∀ w ∈ s.works, w.tag = p.addr → w.holder = p.src → w.stage = .offered → { w with stage := .running, heardAt := s.now } ∈ u.works) ∧
      ((∀ w ∈ s.works, w.tag = p.addr → w.holder ≠ p.src) → u.works = s.works)) ∧
    (p.aux % 256 = jcHELD → ∃ u, AnswersThen (.held p) s u ∧ u.jnl = s.jnl ∧
      (∀ w ∈ s.works, w.tag = p.addr → w.holder = p.src → w.stage = .running → { w with heardAt := s.now } ∈ u.works) ∧
      ((∀ w ∈ s.works, w.tag = p.addr → w.holder ≠ p.src) → u.works = s.works))) ∧
  (∀ (s : State) (p : Packet) (w : Work), s.serves [20] = true →
    (p.op = opJOURNAL_CTRL → s.dom.selfFailed = false → s.workOf p.addr = some w →
      (p.aux % 256 = jcNOT_HELD →
        (w.holder = p.src → p.src ≠ s.devnum → w.stage = .offered ∨ w.stage = .running →
          ∃ v : State, AnswersThen (.notHeld p) s (v.reclaim w w.holder) ∧ v.works = s.works ∧ v.jnl = s.jnl ∧ v.mem = s.mem ∧
            (w.lost = false → ∃ e, (v.reclaim w w.holder).jnl.ring.get? (s.fld F.JNL_HEAD_JSEQ) = some e ∧ e.kind = jkPHASE ∧ e.tag = w.tag ∧
              e.holder = w.holder ∧ e.phase = w.phase)) ∧
        (w.holder ≠ p.src → ∃ u, AnswersThen (.notHeld p) s u ∧ u.works = s.works ∧ u.jnl = s.jnl)) ∧
      (p.aux % 256 = jcPHASE_DONE →
        (w.holder = p.src → w.phase % 65536 = p.aux / 256 % 65536 → p.aux < 2 ^ 24 → w.stage = .offered ∨ w.stage = .running →
          ∃ v : State, AnswersThen (.phaseDone p) s (v.phaseOver w.tag) ∧ v.works = s.works ∧ v.jnl = s.jnl ∧ v.mem = s.mem ∧
            (w.guest = none → ∃ x ∈ (v.phaseOver w.tag).works, x.tag = w.tag ∧ x.stage = .waiting ∧ x.phase = w.phase + 1)) ∧
        (w.holder ≠ p.src → ∃ u, AnswersThen (.phaseDone p) s u ∧ u.works = s.works ∧ u.jnl = s.jnl))) ∧
    (∃ u, AnswersThen .heldInterval s u ∧ u.jnl = s.jnl ∧ u.works = s.works ∧
      ∀ h ∈ s.jnl.held, u.asks (fun m => m.op = opJOURNAL_CTRL ∧ m.dst = h.custodian ∧ m.aux % 256 = jcHELD ∧ m.addr = h.tag % 2 ^ 48)) ∧
    (∃ u, AnswersThen .orphanScan s u ∧ s.jnl.lastScan + s.fld F.JNL_CTRL_HANDOFF_US * 1000 ≤ u.jnl.lastScan ∧
      ((∀ v ∈ s.works, v.stage ≠ .offered ∧ v.stage ≠ .running) → u.works = s.works ∧ u.jnl.ring = s.jnl.ring ∧ u.fab = s.fab)))

/-- R129, R130: ENABLE of a DISABLED queue whose checks pass makes it ENABLING with a journalled QUEUE_CFG and counters at 0, a failed check is
reported; DISABLE stops an ENABLED or ERROR queue; CLEAR_ERROR returns an ERROR queue to ENABLED at HEAD, or to SLICE_DRAIN while its slice drains.
In any other state each is refused `STATE_CONFLICT` and counted. -/
def Obligations.QueueCommands : Prop :=
  ∀ (s : State) (ch : ChanId) (n q : Nat) (x : SeatId), s.commandedBy ch n x → q = s.fld F.WQ_Q_SEL_QUEUE x.idx →
    (s.queueState q = .disabled →
      (∀ y, s.enableQueueCheck q = .ok y → ∃ u, AnswersThen (.queueEnable ch) s u ∧ u.queueState q = .enabling ∧ u.fld F.WQ_Q_PROGRESS_HEAD q = 0 ∧
        u.fld F.WQ_Q_PROGRESS_FINAL q = 0 ∧ (u.queue q).ringDga = y.1.dga ∧
        ∃ e, u.jnl.ring.get? (s.fld F.JNL_HEAD_JSEQ) = some e ∧ e.kind = jkQUEUE_CFG ∧ e.queue = q) ∧
      (∀ st, s.enableQueueCheck q = .error st → ∃ u, AnswersThen (.queueEnable ch) s u ∧ (s.asked ch).reports u x n 0x20028 st) ∧
      (∃ u, AnswersThen (.queueDisable ch) s u ∧ ((s.asked ch).count F.WQ_Q_REFUSE_STATE 1 q).reports u x n 0x20028 .stateConflict)) ∧
    (s.queueState q ≠ .disabled →
      ∃ u, AnswersThen (.queueEnable ch) s u ∧ ((s.asked ch).count F.WQ_Q_REFUSE_STATE 1 q).reports u x n 0x20028 .stateConflict) ∧
    (s.queueState q = .enabled ∨ s.queueState q = .error →
      ∃ u, AnswersThen (.queueDisable ch) s u ∧ u.queueState q = .stopping ∧ (u.queue q).fetching = false) ∧
    (s.queueState q = .error → (∀ e, s.sliceOfQueue q = some e → s.sliceClosed e.1 = false) →
      ∃ v : State, AnswersThen (.queueClearError ch) s (v.actHeldBell q) ∧ v.queueState q = .enabled ∧ v.mem = s.mem ∧
        s.keepsFields v [F.WQ_Q_STATUS_STATE.key q] ∧ (s.worksOf q = [] → (v.queue q).next = mod32 (s.queueHead q))) ∧
    (∀ e, s.queueState q = .error → s.sliceOfQueue q = some e → s.sliceClosed e.1 = true →
      ∃ u, AnswersThen (.queueClearError ch) s u ∧ u.queueState q = .sliceDrain ∧ u.mem = s.mem) ∧
    (s.queueState q ≠ .error →
      ∃ u, AnswersThen (.queueClearError ch) s u ∧ ((s.asked ch).count F.WQ_Q_REFUSE_STATE 1 q).reports u x n 0x20028 .stateConflict)

/-! ### Translation (spec/05) -/

/-- R140: a MAP that fails a check posts the status of the first failure and changes no extent; one that passes on this member records the claim and
enters the extent with `DONE`, or undoes the claim with `BUSY` where the table is full; one whose owner is another member is sent there and shows
busy. R135, R137, R140: at the owner a MAP request of another member records the claim it asks for when the owner's checks pass, else nothing; a
spare that is being loaded records it unchecked. At the requester an answer of `DONE` enters the extent under the owner's class, a refusal is
posted, and an answer that does not come within the management timeout is posted as `TIMEOUT`; neither of these enters an extent. -/
def Obligations.Maps : Prop :=
  (∀ (s : State) (ch : ChanId) (n : Nat) (x : SeatId) (e : Extent), s.commandedBy ch n x → e = s.stagedExtent x → s.mapJob x = none →
    (∀ st, s.mapFault x e = some st → ∃ u, AnswersThen (.map ch) s u ∧ u.fld F.XLT_MAP_STATUS_STATUS x.idx = st.code ∧
      u.fld F.XLT_MAP_STATUS_STATE x.idx = 0 ∧ u.xlt = s.xlt ∧ u.mem = s.mem) ∧
    (s.mapFault x e = none → s.isSelf (dgaDev e.dga) = true →
      (∀ st, s.ownerMapCheck e.partition (dgaCell e.dga) e.len e.cls e.alias_ = .error st →
        ∃ u, AnswersThen (.map ch) s u ∧ u.fld F.XLT_MAP_STATUS_STATUS x.idx = st.code ∧ u.xlt = s.xlt ∧ u.mem = s.mem) ∧
      (∀ cls, s.ownerMapCheck e.partition (dgaCell e.dga) e.len e.cls e.alias_ = .ok cls →
        ((s.extentsOf e.ctx).length < 2 ^ s.fld F.XLT_CTX_CFG_LOG2_CAP e.ctx →
          ∃ u, AnswersThen (.map ch) s u ∧ u.xlt.extents = insertExtent { e with cls := cls } s.xlt.extents ∧
            u.xlt.claims = s.xlt.claims ++ [claimOf { e with cls := cls } s.devnum] ∧
            u.fld F.XLT_MAP_STATUS_STATUS x.idx = 0 ∧ u.fld F.XLT_MAP_STATUS_STATE x.idx = 0) ∧
        (2 ^ s.fld F.XLT_CTX_CFG_LOG2_CAP e.ctx ≤ (s.extentsOf e.ctx).length →
          ∃ u, AnswersThen (.map ch) s u ∧ u.xlt.extents = s.xlt.extents ∧ u.fld F.XLT_MAP_STATUS_STATUS x.idx = Status.busy.code))) ∧
    (s.mapFault x e = none → s.isSelf (dgaDev e.dga) = false →
      ∃ u, AnswersThen (.map ch) s u ∧ (∃ j, u.mapJob x = some j ∧ j.ext = e ∧ j.owner = dgaDev e.dga) ∧ u.fld F.XLT_MAP_STATUS_STATE x.idx = 1 ∧
        u.xlt.extents = s.xlt.extents ∧ u.asks (fun p => p.op = opXLT_CTRL ∧ p.aux = xcMAP ∧ p.dst = dgaDev e.dga))) ∧
  (∀ (s : State) (p : Packet) (m : XltMsg) (x : SeatId) (j : MapJob) (r : Request), s.serves [] = true →
    (p.op = opXLT_CTRL → p.aux = xcMAP → s.dom.selfFailed = false → s.fresh p → m = XltMsg.decode p.payload →
      (s.fld F.TIER_REBUILD_STATUS_STATE ≠ 1 →
        (∀ st, s.ownerMapCheck m.partition m.cell m.bytes m.cls m.isAlias = .error st →
          ∃ u, AnswersThen (.xltMapCheck p) s u ∧ u.xlt = s.xlt ∧ u.mem = s.mem) ∧
        (∀ cls, s.ownerMapCheck m.partition m.cell m.bytes m.cls m.isAlias = .ok cls →
          ∃ u, AnswersThen (.xltMapCheck p) s u ∧ u.xlt.extents = s.xlt.extents ∧
            u.xlt.claims = s.xlt.claims ++ [⟨p.src, m.ctx, m.cell, m.bytes, m.partition, cls, m.isAlias, none, m.va, 0, 0, false⟩])) ∧
      (s.fld F.TIER_REBUILD_STATUS_STATE = 1 → s.xlt.claims = [] →
        ∃ u, AnswersThen (.xltMapCheck p) s u ∧
          u.xlt.claims = [⟨p.src, m.ctx, m.cell, m.bytes, m.partition, m.cls, m.isAlias, none, m.va, 0, 0, false⟩])) ∧
    (s.requestOf p = some r → r.waiter = .mapOwner x → s.mapJob x = some j → j.tag = r.pkt.tag → p.op = opXLT_CTRL + 0x80 →
      (Status.ofCode p.status ≠ .done →
        ∃ u, AnswersThen (.mapOwnerAnswer p) s u ∧ u.mapJob x = none ∧ u.xlt.extents = s.xlt.extents ∧
          u.fld F.XLT_MAP_STATUS_STATUS x.idx = (Status.ofCode p.status).code ∧ u.fld F.XLT_MAP_STATUS_STATE x.idx = 0) ∧
      (Status.ofCode p.status = .done → (s.extentsOf j.ext.ctx).any (fun f => f.meets j.ext.va j.ext.len) = false →
        (s.extentsOf j.ext.ctx).length < 2 ^ s.fld F.XLT_CTX_CFG_LOG2_CAP j.ext.ctx →
        ∃ u, AnswersThen (.mapOwnerAnswer p) s u ∧ u.mapJob x = none ∧
          u.xlt.extents = insertExtent { j.ext with cls := field p.payload 0 1 } s.xlt.extents ∧
          u.fld F.XLT_MAP_STATUS_STATUS x.idx = 0 ∧ u.fld F.XLT_MAP_STATUS_STATE x.idx = 0)) ∧
    (s.mapJob x = some j → ∃ u, AnswersThen (.mapTimeout x) s u ∧ u.mapJob x = none ∧ u.xlt.extents = s.xlt.extents ∧
      u.fld F.XLT_MAP_STATUS_STATUS x.idx = Status.timeout.code ∧ u.fld F.XLT_MAP_STATUS_STATE x.idx = 0))

/-- R112, R132, R137: ENABLE of a context whose checks pass, and its disable when it holds no extent and no MAP is outstanding, journal CONTEXT_CFG;
a failed check is reported and nothing is journalled. A spare's query for the registrations at a number is answered without changing any. -/
def Obligations.Contexts : Prop :=
  ∀ (s : State) (ch : ChanId) (n c : Nat) (x : SeatId) (p : Packet), c = s.fld F.XLT_CTX_SEL_CTX x.idx →
    s.fld F.XLT_CTX_CFG_MODE c < 2 → s.fld F.XLT_CTX_CFG_LOG2_CAP c < 32 → s.contextChanging c = false →
    (s.commandedBy ch n x →
      (s.ctxEnabled c = false →
        (s.enableFault c = none → ∃ u, AnswersThen (.contextEnable ch) s u ∧ u.ctxEnabled c = false ∧
          ∃ e, u.jnl.ring.get? (s.fld F.JNL_HEAD_JSEQ) = some e ∧ e.kind = jkCONTEXT_CFG ∧ e.queue = c ∧ field e.body 0 8 % 2 = 1) ∧
        (∀ st, s.enableFault c = some st → ∃ u, AnswersThen (.contextEnable ch) s u ∧ u.ctxEnabled c = false ∧ u.jnl.ring = s.jnl.ring ∧
          (s.fld F.CTL_SEAT_ERR_COUNT x.idx = 0 → u.fld F.CTL_SEAT_ERR_STATUS x.idx = st.code))) ∧
      (s.ctxEnabled c = true →
        (s.extentsOf c = [] → s.mapOutstanding c = false → ∃ u, AnswersThen (.contextDisable ch) s u ∧
          ∃ e, u.jnl.ring.get? (s.fld F.JNL_HEAD_JSEQ) = some e ∧ e.kind = jkCONTEXT_CFG ∧ e.queue = c ∧ field e.body 0 8 % 2 = 0) ∧
        (s.extentsOf c ≠ [] ∨ s.mapOutstanding c = true → ∃ u, AnswersThen (.contextDisable ch) s u ∧ u.ctxEnabled c = true ∧ u.jnl.ring = s.jnl.ring ∧
          (s.fld F.CTL_SEAT_ERR_COUNT x.idx = 0 → u.fld F.CTL_SEAT_ERR_STATUS x.idx = Status.stateConflict.code)))) ∧
    (s.serves [] = true → p.op = opXLT_CTRL → p.aux = xcQUERY → s.dom.selfFailed = false → ∃ u, AnswersThen (.registrationQuery p) s u ∧ u.xlt = s.xlt ∧ u.mem = s.mem ∧
      ∀ e ∈ s.xlt.extents, dgaDev e.dga = (XltMsg.decode p.payload).member → u.asks (fun q => q.op = opXLT_CTRL ∧ q.dst = p.src ∧ q.aux = xcMAP))

/-- R153, R154, R156: a shootdown is all or nothing: with one outstanding, an empty or cut range, or an extent that is not VALID, pinned or aliased,
it is refused in `XLT_SHOOT_STATUS` and no extent changes; else STATE shows BUSY and every extent it names begins to withdraw, once owners that must
be asked for aliases have answered; one that names no extent completes at once, and GEN advances. RELEASE_MEMBER drops the claims of a FAILED or
RETIRED number and no other; a shootdown that takes too long posts `TIMEOUT` once. -/
def Obligations.Shootdowns : Prop :=
  ∀ (s : State) (ch : ChanId) (n c d : Nat) (x : SeatId) (es : List Extent), s.commandedBy ch n x → c = s.fld F.XLT_CTX_SEL_CTX x.idx → d < 64 →
    (s.shootJob x ≠ none → ∀ k ∈ [Instr.unmapRange ch, .unmapContext ch, .releaseMember ch d],
      ∃ u, AnswersThen k s u ∧ u.xlt = s.xlt ∧ u.fld F.XLT_SHOOT_STATUS_STATUS x.idx = Status.stateConflict.code ∧
        s.keepsFields u [F.XLT_SHOOT_STATUS_STATUS.key x.idx, F.XLT_SHOOT_STATUS_SEQ.key x.idx]) ∧
    (s.shootJob x = none → es = (s.extentsOf c).filter (fun e => e.meets (s.fld F.XLT_SHOOT_VA_VA x.idx * 4096) (s.fld F.XLT_SHOOT_LEN_PAGES x.idx * 4096)) →
      s.fld F.XLT_SHOOT_LEN_PAGES x.idx ≠ 0 →
      (es.any (fun e => decide (e.va < s.fld F.XLT_SHOOT_VA_VA x.idx * 4096 ∨
          s.fld F.XLT_SHOOT_VA_VA x.idx * 4096 + s.fld F.XLT_SHOOT_LEN_PAGES x.idx * 4096 < e.va + e.len)) = true →
        ∃ u, AnswersThen (.unmapRange ch) s u ∧ u.xlt = s.xlt ∧ u.fld F.XLT_SHOOT_STATUS_STATUS x.idx = Status.badDescriptor.code) ∧
      (es.any (fun e => decide (e.va < s.fld F.XLT_SHOOT_VA_VA x.idx * 4096 ∨
          s.fld F.XLT_SHOOT_VA_VA x.idx * 4096 + s.fld F.XLT_SHOOT_LEN_PAGES x.idx * 4096 < e.va + e.len)) = false → es ≠ [] →
        (s.shootFault es = none →
          (es.all (fun e => (s.aliasesKnown e).isSome) = true →
            ∃ u, AnswersThen (.unmapRange ch) s u ∧ (∀ e ∈ es, (e.ctx, e.va, ExtState.withdrawing) ∈ u.xlt.invalidating) ∧
              u.xlt.extents = s.xlt.extents ∧ u.fld F.XLT_SHOOT_STATUS_STATE x.idx = 1 ∧ (u.shootJob x).isSome = true) ∧
          (es.all (fun e => (s.aliasesKnown e).isSome) = false →
            ∃ u, AnswersThen (.unmapRange ch) s u ∧ u.xlt.extents = s.xlt.extents ∧ u.xlt.invalidating = s.xlt.invalidating ∧
              u.fld F.XLT_SHOOT_STATUS_STATE x.idx = 1 ∧ (u.shootJob x).isSome = true)) ∧
        (∀ st, s.shootFault es = some st → ∃ u, AnswersThen (.unmapRange ch) s u ∧ u.xlt = s.xlt ∧ u.fld F.XLT_SHOOT_STATUS_STATUS x.idx = st.code)) ∧
      (es = [] → ∃ u, AnswersThen (.unmapRange ch) s u ∧ u.xlt = s.xlt ∧ u.fld F.XLT_SHOOT_STATUS_STATUS x.idx = 0 ∧
        u.fld F.XLT_SHOOT_STATUS_STATE x.idx = 0 ∧ u.fld F.XLT_CTX_STATUS_GEN c = (s.bumpGen c).fld F.XLT_CTX_STATUS_GEN c)) ∧
    (s.shootJob x = none → s.extentsOf c ≠ [] → s.shootFault (s.extentsOf c) = none →
      (s.extentsOf c).all (fun e => (s.aliasesKnown e).isSome) = true →
      ∃ u, AnswersThen (.unmapContext ch) s u ∧ (∀ e ∈ s.extentsOf c, (e.ctx, e.va, ExtState.withdrawing) ∈ u.xlt.invalidating) ∧
        u.xlt.extents = s.xlt.extents ∧ u.fld F.XLT_SHOOT_STATUS_STATE x.idx = 1) ∧
    (s.shootJob x = none → s.memberState d = .failed ∨ s.memberState d = .retired →
      ∃ u, AnswersThen (.releaseMember ch d) s u ∧ (∀ k ∈ u.xlt.claims, k.dev = d → k.scrubbing = true) ∧
        (∀ k ∈ s.xlt.claims, k.dev ≠ d → k ∈ u.xlt.claims) ∧ u.xlt.extents = s.xlt.extents ∧ u.fld F.XLT_SHOOT_STATUS_STATUS x.idx = 0) ∧
    (s.shootJob x = none → s.memberState d ≠ .failed → s.memberState d ≠ .retired →
      ∃ u, AnswersThen (.releaseMember ch d) s u ∧ u.xlt = s.xlt ∧ u.fld F.XLT_SHOOT_STATUS_STATUS x.idx = Status.stateConflict.code) ∧
    (∀ j, s.shootJob x = some j → j.timedOut = false → ∃ u, Answers (.shootdownTimeout x) s u ∧ u.shootJob x = some { j with timedOut := true } ∧
      u.fld F.XLT_SHOOT_STATUS_STATUS x.idx = Status.timeout.code ∧ j.started + s.fld F.XLT_SHOOT_TIMEOUT_US * 1000 ≤ u.now ∧ u.xlt.extents = s.xlt.extents)

/-- R148, R149, R153: the state change of an extent takes effect when the invalidation of its ETC entries completes, and then no ETC entry of its
range is left, and an extent that agents may cache is recalled; a miss that finds a VALID extent fills the ETC and changes no extent. R158, R159: a
REVOKE_RANGE of an owner to a member begins to revoke every VALID extent of the partition over the range; one to an owner that holds no such claim
is answered `DONE` and changes nothing. A member's drained report is counted with the revocation that waits for it. -/
def Obligations.ExtentsChange : Prop :=
  (∀ (s : State) (c va : Nat) (t : Nat × Nat × ExtState) (e : Extent), s.serves [] = true →
    (s.xlt.invalidating.find? (fun t => t.1 == c && t.2.1 == va) = some t → s.xlt.extents.find? (fun e => e.ctx == c && e.va == va) = some e →
      (8 ≤ e.rights → s.xlt.recalls.contains (c, va) = false →
        ∃ v : State, AnswersThen (.etcInvalidateDone c va) s (v.startRecall c va) ∧ v.xlt.recalls = s.xlt.recalls ++ [(c, va)] ∧
          ∀ f ∈ v.xlt.extents, f.ctx = c → f.va = va → f.state = t.2.2) ∧
      (e.rights < 8 → ∃ u, AnswersThen (.etcInvalidateDone c va) s u ∧ (∀ f ∈ u.xlt.extents, f.ctx = c → f.va = va → f.state = t.2.2) ∧
        (∀ y ∈ u.xlt.etc, y.ctx = c → e.meets (y.span * 2 ^ y.log2) (2 ^ y.log2) = false) ∧
        (∀ f ∈ s.xlt.extents, f.ctx ≠ c ∨ f.va ≠ va → f ∈ u.xlt.extents) ∧ u.xlt.claims = s.xlt.claims)) ∧
    (∃ u, Answers (.etcMissWalk c va) s u ∧ u.xlt.extents = s.xlt.extents ∧ u.mem = s.mem ∧ s.counted u F.XLT_ETC_COUNT_MISSES ∧
      s.keepsFields u [F.XLT_ETC_COUNT_MISSES.key 0] ∧
      ∀ y ∈ u.xlt.etc, y ∈ s.xlt.etc ∨ ∃ f ∈ s.xlt.extents, f.ctx = c ∧ s.isSettled f = true ∧ y.ctx = c ∧
        f.va ≤ y.span * 2 ^ y.log2 ∧ y.span * 2 ^ y.log2 + 2 ^ y.log2 ≤ f.va + f.len)) ∧
  (∀ (s : State) (p : Packet) (m : XltMsg), s.serves [] = true → p.op = opXLT_CTRL → s.dom.selfFailed = false → s.fresh p →
    m = XltMsg.decode p.payload →
    (p.aux = xcREVOKE → s.xlt.revs.find? (fun r => r.member == m.member && r.tag == m.tag) = none →
      (m.role = 0 → s.xlt.claims.find? (fun k => !k.alias_ && k.covers m.cell m.bytes) = none →
        ∃ u, AnswersThen (.revokeRange p) s u ∧ u.xlt = s.xlt ∧ u.mem = s.mem) ∧
      (m.role = 1 → ∃ u, AnswersThen (.revokeRange p) s u ∧ u.xlt.extents = s.xlt.extents ∧
        ∀ e ∈ s.xlt.extents, e.partition = m.partition → e.meetsDga (mkDga p.src 0 0 + m.cell) m.bytes = true → s.isSettled e = true →
          (e.ctx, e.va, ExtState.revoking) ∈ u.xlt.invalidating)) ∧
    (p.aux = xcDRAINED →
      (∀ r, s.xlt.revs.find? (fun r => r.member == m.member && r.tag == m.tag && r.awaiting.contains p.src) = some r →
        ∃ v : State, AnswersThen (.drainedReport p) s (v.revSettle { r with awaiting := r.awaiting.filter (· != p.src), sum := r.sum + m.count }) ∧
          v.xlt.extents = s.xlt.extents ∧ v.xlt.claims = s.xlt.claims ∧ v.mem = s.mem) ∧
      (s.xlt.revs.find? (fun r => r.member == m.member && r.tag == m.tag && r.awaiting.contains p.src) = none →
        ∃ u, AnswersThen (.drainedReport p) s u ∧ u.xlt = s.xlt ∧ u.mem = s.mem)))

/-! ### Tiers, redundancy and rebuild (spec/06) -/

/-- R166, R172: a part that fails is marked in its tier's register; a part already marked, or one that is not there, changes nothing, and with no
range to protect memory stays as it was. Part 64 c + d of tier 3 is die d of flash channel c. Staged data that wait for a staging slot take the one
that frees. R181: arming goes through a P2 claim unit by unit, and TIER_ARM counts the claim until its last unit; a claim that is released is
scrubbed unit by unit and goes with its last. A unit to which a write is under way waits. R473: a granule that is not degraded stays as it is; one
of class P1 whose partner is ACTIVE is copied to it unit by unit, from its first unit on, and its own memory does not change. R187, R189: stage 1 of
a load gives the spare the ring and the claims it received, stage 2 the content of its own granules; a stage out of turn, of another number or past
loads changes nothing; stage 4 ends the admission. A unit that needs no source moves the frontier at once; one that does asks every source for it
and is not served until the answers are in. -/
def Obligations.Redundancy : Prop :=
  (∀ (s : State) (tier part : Nat) (p : Packet), s.serves [] = true →
    (∀ f w, ((tier = 1 ∧ f = F.TIER_T1_CFG_STACK_FAILED ∧ w = 8) ∨ (tier = 2 ∧ f = F.TIER_T2_CFG_CH_FAILED ∧ w = 16)) →
      (s.fldBit f part = true ∨ w ≤ part → AnswersThen (.partFailure tier part) s s) ∧
      (s.fldBit f part = false → part < w → s.guardedRanges = [] →
        ∃ u, AnswersThen (.partFailure tier part) s u ∧ u.fldBit f part = true ∧ u.mem = s.mem ∧ u.dom = s.dom)) ∧
    (s.tier.dies.contains (part / 64, part % 64) = true ∨ s.fld F.TIER_T3_CFG_DIES ≤ part % 64 ∨ 24 ≤ part / 64 → AnswersThen (.partFailure 3 part) s s) ∧
    (s.tier.dies.contains (part / 64, part % 64) = false → part % 64 < s.fld F.TIER_T3_CFG_DIES → part / 64 < 24 → s.guardedRanges = [] →
      ∃ u, AnswersThen (.partFailure 3 part) s u ∧ u.fldBit F.TIER_T3_CFG_CH_FAILED (part / 64) = true ∧
        u.tier.dies = s.tier.dies ++ [(part / 64, part % 64)] ∧ u.mem = s.mem ∧ u.dom = s.dom) ∧
    (s.tier.staged.length < 32 → s.tier.heldRequests.find? isStaging = some p →
      ∃ u, AnswersThen .stagingSlotFree s u ∧ (∃ t ∈ u.tier.staged, t.src = p.src ∧ t.mark = stageMark p) ∧ u.mem = s.mem) ∧
    (32 ≤ s.tier.staged.length → AnswersThen .stagingSlotFree s s)) ∧
  (∀ (s : State) (cell : Nat) (k : Claim), s.serves [] = true → s.claimAt cell = some k → k.cls = 2 → k.nextUnit.2 ≠ 0 →
    (s.unitFree k.nextUnit.1 k.nextUnit.2 = false → AnswersThen (.armUnitDone cell) s s) ∧
    (s.unitFree k.nextUnit.1 k.nextUnit.2 = true →
      (k.scrubbing = false → ∃ u, AnswersThen (.armUnitDone cell) s u ∧ { k with armed := k.armed + 1 } ∈ u.xlt.claims ∧ u.mem = s.mem ∧
        (k.bytes ≤ 65536 * (k.armed + 1) → u.fld F.TIER_ARM_ARMING = (s.subF F.TIER_ARM_ARMING 1).fld F.TIER_ARM_ARMING) ∧
        (65536 * (k.armed + 1) < k.bytes → u.fld F.TIER_ARM_ARMING = s.fld F.TIER_ARM_ARMING)) ∧
      (k.scrubbing = true → ∃ u, AnswersThen (.armUnitDone cell) s u ∧ u.mem = s.mem ∧
        (min k.bytes (65536 * k.armed) ≤ 65536 * (k.disarmed + 1) → k ∉ u.xlt.claims ∧
          u.fld F.TIER_ARM_SCRUBBING = (s.subF F.TIER_ARM_SCRUBBING 1).fld F.TIER_ARM_SCRUBBING) ∧
        (65536 * (k.disarmed + 1) < min k.bytes (65536 * k.armed) → { k with disarmed := k.disarmed + 1 } ∈ u.xlt.claims)))) ∧
  (∀ (s : State) (tier g : Nat), s.serves [] = true → 1 ≤ tier → tier ≤ 3 → s.fld F.TIER_P2_LAYOUT_P2_ENABLED = 0 →
    (s.tier.degraded.contains (tier, g) = false → AnswersThen (.granuleResync tier g) s s) ∧
    (s.tier.degraded.contains (tier, g) = true → s.granuleClass tier g ≠ 2 → s.memberState (s.partner s.devnum) = .active →
      (∀ r ∈ s.tier.runs, r.kind ≠ runMIRROR) → s.unitFree (cellAt tier g 0) 65536 = true →
      ∃ u, AnswersThen (.granuleResync tier g) s u ∧ u.mem = s.mem ∧
        ⟨runMIRROR, cellAt tier g 0 + 65536, cellAt tier g 0 + granuleBytes tier, false⟩ ∈ u.tier.runs ∧
        ∀ r ∈ s.mirroredParts (cellAt tier g 0) 65536, 0 < r.2 → u.asks (fun m => m.op = opMIRROR ∧ m.dst = s.partner s.devnum ∧
          m.addr = mkDga s.devnum 0 0 + r.1))) ∧
  (∀ (s : State) (stage d tier cell : Nat) (es : List JEntry) (cs : List Claim) (content : List (Nat × List Byte × Nat)) (lost : List (Nat × Nat))
    (r : UnitRun) (bs : List Byte), s.serves [] = true →
    (s.fld F.TIER_REBUILD_STATUS_STATE = rbLOADING → s.fld F.TIER_REBUILD_STATUS_FOR_DEV = d →
      (s.tier.loaded = 0 → (es.map (fun e => e.jseq)).Nodup →
        ∃ u, AnswersThen (.rebuildStageDone 1 d es cs [] []) s u ∧ (∀ e ∈ es, u.jnl.ring.get? e.jseq = some e) ∧ u.mem = s.mem ∧
          u.xlt.claims = s.xlt.claims ++ cs ∧ u.tier.loaded = 1) ∧
      (s.tier.loaded = 1 → s.stageTakes 2 d cell bs.length = true →
        ∃ u, AnswersThen (.rebuildStageDone 2 d es cs [(cell, bs, 0)] []) s u ∧ u.tier.loaded = 2 ∧ u.jnl = s.jnl ∧ u.xlt = s.xlt ∧
          ∀ i, i < bs.length → u.mem.read 0 (cell + i) = bs.getD i 0) ∧
      (stage < 4 → stage ≠ s.tier.loaded + 1 → AnswersThen (.rebuildStageDone stage d es cs content lost) s s)) ∧
    (stage < 4 → s.fld F.TIER_REBUILD_STATUS_STATE ≠ rbLOADING → AnswersThen (.rebuildStageDone stage d es cs content lost) s s) ∧
    (s.fld F.TIER_REBUILD_STATUS_STATE ≠ rbLOADING → s.admitting = adREBUILDING → s.admitFor = d →
      ∃ u, AnswersThen (.rebuildStageDone 4 d es cs content lost) s u ∧ u.admitting = adDONE ∧ u.mem = s.mem) ∧
    (s.tier.runs.find? (fun r => r.kind == runREBUILD && cellTier r.cell == tier) = none → AnswersThen (.rebuildUnitCopy tier) s s) ∧
    (s.tier.runs.find? (fun r => r.kind == runREBUILD && cellTier r.cell == tier) = some r → r.busy = false → r.cell + 65536 < r.stop →
      s.unitFree r.cell 65536 = true → s.fld F.TIER_P2_LAYOUT_P2_ENABLED = 0 →
      (s.unitSources r.cell 65536 = [] →
        ∃ u, AnswersThen (.rebuildUnitCopy tier) s u ∧ { r with cell := r.cell + 65536, busy := false } ∈ u.tier.runs ∧ u.mem = s.mem) ∧
      (s.unitSources r.cell 65536 ≠ [] → ∃ u, AnswersThen (.rebuildUnitCopy tier) s u ∧ { r with busy := true } ∈ u.tier.runs ∧ u.mem = s.mem ∧
        ∀ e ∈ s.unitSources r.cell 65536, 0 < e.2.1 → s.memberState e.2.2.1 = .active →
          u.asks (fun m => m.op = opPARITY ∧ m.dst = e.2.2.1 ∧ m.addr = mkDga e.2.2.2.1 0 0 + e.1))))

/-! ### Quince cores (spec/07) -/

/-- R207, R208: what each engine-command instruction writes to rd (x0 discards it), to the queues and to the pc, when it is the instruction at the
pc of a running core; a `qwait` of an open ticket and a `qfence` of a busy engine stall, and away from the instruction nothing happens. No
instruction changes the memory of the member. -/
def Obligations.EngineInstructions : Prop :=
  ∀ (s : State) (n ins len t : Nat) (k : Core) (b : List Byte), n < 16 → s.serves [n + 1] = true → k = s.core n → t = k.reg (bitsOf ins 15 5) →
    (s.atQ n 0 = some (ins, len) → t % 64 = 0 → regionOf t 64 ≠ none → (k.read t 64).any (fun x => x.2) = false → b = plain (k.read t 64) →
      (recordMalformed b = false → (k.queueOf (field b 0 1)).length < 64 →
        ∃ u, Answers (.qissue n) s u ∧ (u.core n).queueOf (field b 0 1) = k.queueOf (field b 0 1) ++ [⟨k.ticket + 1, b⟩] ∧
          (u.core n).reg (bitsOf ins 7 5) = (if bitsOf ins 7 5 = 0 then 0 else w64 (k.ticket + 1)) ∧ (u.core n).pc = w64 (k.pc + len) ∧
          u.mem = s.mem ∧ u.regs = s.regs ∧ ∀ j, j ≠ n → u.core j = s.core j) ∧
      (recordMalformed b = false → 64 ≤ (k.queueOf (field b 0 1)).length → Answers (.qissue n) s s) ∧
      (recordMalformed b = true → ∃ u, Answers (.qissue n) s u ∧ (u.core n).queueOf 0 = k.queueOf 0 ∧ (u.core n).queueOf 1 = k.queueOf 1 ∧
        (u.core n).queueOf 2 = k.queueOf 2 ∧ (u.core n).ticket = k.ticket + 1)) ∧
    (s.atQ n 1 = some (ins, len) →
      (∀ st, k.ticketStatus t = some st → ∃ u, Answers (.qwait n) s u ∧ (u.core n).reg (bitsOf ins 7 5) = (if bitsOf ins 7 5 = 0 then 0 else st.code) ∧
        (u.core n).pc = w64 (k.pc + len) ∧ u.mem = s.mem) ∧
      (k.ticketStatus t = none → Answers (.qwait n) s s)) ∧
    (s.atQ n 2 = some (ins, len) → ∃ u, Answers (.qpoll n) s u ∧ (u.core n).pc = w64 (k.pc + len) ∧ u.mem = s.mem ∧
      (u.core n).reg (bitsOf ins 7 5) = (if bitsOf ins 7 5 = 0 then 0 else match k.ticketStatus t with | none => 0x100 | some st => st.code)) ∧
    (s.atQ n 3 = some (ins, len) →
      (k.quiet t = true → ∃ u, Answers (.qfence n) s u ∧ (u.core n).pc = w64 (k.pc + len) ∧ (u.core n).regs = k.regs ∧ u.mem = s.mem) ∧
      (k.quiet t = false → Answers (.qfence n) s s)) ∧
    (s.atQ n 4 = some (ins, len) → ∃ u, AnswersThen (.qexit n) s u ∧ (u.core n).exiting = some (t % 256, k.reg (bitsOf ins 20 5)) ∧
      u.mem = s.mem ∧ u.regs = s.regs ∧ ∀ j, j ≠ n → u.core j = s.core j) ∧
    (s.atQ n 5 = some (ins, len) → ∃ u, Answers (.qinfo n) s u ∧ (u.core n).pc = w64 (k.pc + len) ∧ u.mem = s.mem ∧
      (bitsOf ins 7 5 ≠ 0 → t = 0 → (u.core n).reg (bitsOf ins 7 5) = n) ∧ (bitsOf ins 7 5 ≠ 0 → t = 2 → (u.core n).reg (bitsOf ins 7 5) = w64 k.rank) ∧
      (bitsOf ins 7 5 ≠ 0 → t = 6 → (u.core n).reg (bitsOf ins 7 5) = w64 s.devnum) ∧ (bitsOf ins 7 5 ≠ 0 → 7 ≤ t → (u.core n).reg (bitsOf ins 7 5) = 0)) ∧
    ((∀ f, s.atQ n f = none) → (∀ c ∈ [Instr.qissue n, .qwait n, .qpoll n, .qfence n, .qinfo n], Answers c s s) ∧ AnswersThen (.qexit n) s s)

/-- R206, R209: an instruction fetched outside the code area, or with a reserved encoding, traps with its cause: the kernel on the core leaves with
the status of the cause, and so does one whose execution raises a cause; any other leaves the core as its execution on T0 does, and counts. ADDI
adds modulo 2^64 and steps the pc; a core on which no kernel executes does nothing. A parity fault of the core makes it FAULTED. -/
def Obligations.ScalarInstructions : Prop :=
  ∀ (s : State) (n rd rs imm : Nat) (k : Core), n < 16 → s.serves [n + 1] = true → k = s.core n →
    (s.scalarRuns n = false → AnswersThen (.scalarInstruction n none false) s s) ∧
    (s.scalarRuns n = true → k.fetch = none → ∃ u, AnswersThen (.scalarInstruction n none false) s u ∧
      (u.core n).exiting = some ((causeStatus cFetch).code, k.pcOff) ∧ (u.core n).regs = k.regs ∧ u.mem = s.mem) ∧
    (∀ len, s.scalarRuns n = true → k.fetch = some (none, len) → ∃ u, AnswersThen (.scalarInstruction n none false) s u ∧
      (u.core n).exiting = some ((causeStatus cIllegal).code, k.pcOff) ∧ (u.core n).regs = k.regs ∧ u.mem = s.mem) ∧
    (s.scalarRuns n = true → k.fetch = some (some (encI 0x13 0 rd rs imm), 4) → rd < 32 → rs < 32 → imm < 4096 →
      ∃ u, AnswersThen (.scalarInstruction n none false) s u ∧ (u.core n).pc = w64 (k.pc + 4) ∧
        (rd ≠ 0 → (u.core n).reg rd = w64 (k.reg rs + sext64 12 imm)) ∧ (∀ j, j ≠ rd → (u.core n).reg j = k.reg j) ∧
        (u.core n).tile = k.tile ∧ (u.core n).instret = w64 (k.instret + 1) ∧ u.mem = s.mem ∧ u.regs = s.regs ∧ ∀ j, j ≠ n → u.core j = s.core j) ∧
    (∀ ins len, s.scalarRuns n = true → k.fetch = some (some ins, len) → qFunct ins = none → ∃ c,
      (∀ k', ({ k with cycle := c } : Core).execute ins len s.domainTime = .ok k' → ∃ u, AnswersThen (.scalarInstruction n none false) s u ∧
        u.core n = { k' with instret := w64 (k'.instret + 1) } ∧ u.mem = s.mem ∧ u.regs = s.regs ∧ ∀ j, j ≠ n → u.core j = s.core j) ∧
      (∀ cause, ({ k with cycle := c } : Core).execute ins len s.domainTime = .error cause → ∃ u, AnswersThen (.scalarInstruction n none false) s u ∧
        (u.core n).exiting = some ((causeStatus cause).code, k.pcOff) ∧ u.mem = s.mem)) ∧
    (∀ a, ∃ u, AnswersThen (.scalarInstruction n a true) s u ∧ (u.core n).state = .faulted ∧ (u.core n).matrix = [] ∧ (u.core n).vector = [] ∧ (u.core n).dma = [])

/-- R200, R201, R203: a matrix or vector command leaves its queue with its outcome: a refused one writes nothing, one that computes writes its
result to T0 and nothing to the member's memory, and a persistent checksum mismatch makes the core FAULTED. A row whose operation is not at the head
of the queue does nothing. R204, R398: a DMA command starts when it stands at the head of its queue: a refused record ends with its status,
LOCAL_COPY completes within T0, and any other runs from its first tile or entry; a parity fault of the engine makes the core FAULTED. -/
def Obligations.EngineCommands : Prop :=
  (∀ (s : State) (n : Nat) (c : EngCmd), n < 16 → s.serves [n + 1] = true →
    (s.engineHead n 0 = some c →
      (∀ st fs, (Mma.of c.bytes).fault = some st → ∃ u, AnswersThen (.mma n fs) s u ∧ u.core n = (s.core n).endCommand 0 c st ∧ u.mem = s.mem ∧ u.regs = s.regs) ∧
      (∀ r fs p, r = Mma.of c.bytes → r.fault = none → p = (s.core n).mmaProduct r (s.fld (F.QNC_CSUM_TOL_TOL.core n)) s.free fs →
        (p.failed = false → ∃ u st, AnswersThen (.mma n fs) s u ∧ (st = .done ∨ st = .poison) ∧
          (u.core n).statuses = ((s.core n).endCommand 0 c st).statuses ∧ (u.core n).matrix = ((s.core n).endCommand 0 c st).matrix ∧
          (u.core n).tile = ((((s.core n).mmaResult r p (s.free + productFree r.m r.n r.k r.kpass - r.m * r.n)).zipIdx).foldl
            (fun (k : Core) row => k.write (r.c + row.2 * r.dc) (packMarked r.ec row.1)) (s.core n)).tile ∧ u.mem = s.mem) ∧
        (p.failed = true → ∃ u, AnswersThen (.mma n fs) s u ∧ (u.core n).state = .faulted ∧ (u.core n).matrix = [] ∧
          s.counted u (F.QNC_CSUM_PERSISTENT.core n) ∧ u.mem = s.mem))) ∧
    (s.engineHead n 1 = some c → ∀ r ∈ vectorRows n,
      ((Vec.of c.bytes).op ≠ r.2 → AnswersThen r.1 s s) ∧
      ((Vec.of c.bytes).op = r.2 →
        (∀ st, (Vec.of c.bytes).fault = some st → ∃ u, AnswersThen r.1 s u ∧ u.core n = (s.core n).endCommand 1 c st ∧ u.mem = s.mem ∧ u.regs = s.regs) ∧
        ((Vec.of c.bytes).fault = none → ∃ u st, AnswersThen r.1 s u ∧ (st = .done ∨ st = .poison) ∧
          (u.core n).statuses = ((s.core n).endCommand 1 c st).statuses ∧ (u.core n).vector = ((s.core n).endCommand 1 c st).vector ∧
          (u.core n).tile = ((if rowOp r.2 then (s.core n).vecRows (Vec.of c.bytes) s.free else (s.core n).vecElems (Vec.of c.bytes) s.free).foldl
            (fun (k : Core) o => k.write o.1 o.2) (s.core n)).tile ∧ u.mem = s.mem))) ∧
    (s.engineHead n 1 = none → ∀ r ∈ vectorRows n, AnswersThen r.1 s s)) ∧
  (∀ (s : State) (n : Nat) (c : EngCmd), n < 16 → s.serves [n + 1] = true →
    (s.engineHead n 2 = some c → ∀ r ∈ dmaRows n false,
      (field c.bytes 1 1 ≠ r.2 → AnswersThen r.1 s s) ∧
      (field c.bytes 1 1 = r.2 → ∀ st, dmaFault c.bytes = some st → ∃ u, AnswersThen r.1 s u ∧ u.core n = (s.core n).endCommand 2 c st ∧ u.mem = s.mem) ∧
      (field c.bytes 1 1 = r.2 → dmaFault c.bytes = none →
        (r.2 = 3 ∨ r.2 = 5 → s.launchTagsLeft ((s.core n).launch.getD 0) < dmaCount c.bytes →
          ∃ u, AnswersThen r.1 s u ∧ u.core n = (s.core n).endCommand 2 c .bounds ∧ u.mem = s.mem) ∧
        (r.2 = 1 ∨ r.2 = 2 ∨ r.2 = 3 → r.2 ≠ 3 ∨ dmaCount c.bytes ≤ s.launchTagsLeft ((s.core n).launch.getD 0) →
          ∃ v : State, AnswersThen r.1 s (v.dmaTile n c 0) ∧ (∃ q, (v.core n).run = some q ∧ q.cmd = c ∧ q.tile = 0) ∧ v.mem = s.mem ∧ v.regs = s.regs) ∧
        (r.2 = 4 → ∃ u st, AnswersThen r.1 s u ∧ (st = .done ∨ st = .poison) ∧ (u.core n).statuses = ((s.core n).endCommand 2 c st).statuses ∧
          (u.core n).dma = ((s.core n).endCommand 2 c st).dma ∧ u.mem = s.mem ∧ u.regs = s.regs) ∧
        (r.2 = 5 → dmaCount c.bytes ≤ s.launchTagsLeft ((s.core n).launch.getD 0) →
          ∃ v : State, AnswersThen r.1 s (v.dmaEntries n c (dmaCount c.bytes + 1) 0) ∧ (∃ q, (v.core n).run = some q ∧ q.cmd = c ∧ q.tile = 0) ∧ v.mem = s.mem))) ∧
    (∀ r ∈ dmaRows n true, ∃ u, AnswersThen r.1 s u ∧ (u.core n).state = .faulted ∧ (u.core n).dma = [] ∧ (u.core n).run = none))

/-- R211, R213 to R215: an image whose signatures verify is entered in the digest table and starts on every core of its launch that has not stopped
since the grant; one whose signatures do not ends the launch with `AUTH_FAIL`; a launch whose budget is spent makes every core that still executes
leave with the status of cause 0x08; KCACHE_FLUSH empties the digest table. R217, R219, R224: 30 us after its wake began a core is IDLE and its
island ON; a core idle for the gating time powers down and loses its tile store; a unit of `ATTEND` whose blocks are in completes on its core, which
is then free. -/
def Obligations.Launches : Prop :=
  (∀ (s : State) (tag : Nat) (l : Launch) (ch : ChanId) (m : Nat) (x : SeatId), s.serves [] = true →
    (s.qnc.launches.find? (fun l => l.tag == tag && l.verifying) = some l →
      (s.imageSigned l.image = true → ∃ u, AnswersThen (.kernelVerifyDone tag) s u ∧ Config.sha384 l.image ∈ u.qnc.digests ∧
        (∀ n ∈ l.cores, n < 16 → (s.core n).state = .idle → (s.core n).ended = none → (u.core n).state = .kernel ∧ (u.core n).pc = kwinBase + imgEntry l.image ∧ (u.core n).ticket = 0) ∧ u.mem = s.mem) ∧
      (s.imageSigned l.image = false → ∃ v : State, AnswersThen (.kernelVerifyDone tag) s (v.launchEnd tag .authFail 0) ∧ v.qnc = s.qnc ∧ v.works = s.works)) ∧
    (s.qnc.launches.find? (fun l => l.tag == tag && l.started.isSome) = some l →
      ∃ u, AnswersThen (.launchBudgetExpiry tag) s u ∧ l.started.getD 0 + l.budgetUs * 1000 ≤ u.now ∧ u.mem = s.mem ∧
        (∀ n ∈ l.cores, s.scalarRuns n = true → ∃ off, (u.core n).exiting = some ((causeStatus cBudget).code, off)) ∧
        (∀ n, n ∉ l.cores → u.core n = s.core n)) ∧
    (s.guardedBy ch m x 1 → ∃ u, Answers (.kcacheFlush ch) s u ∧ u.qnc.digests = [] ∧ u.fld F.QNC_KCACHE_ENTRIES = 0 ∧
      s.keepsFields u (F.QNC_KCACHE_ENTRIES.key 0 :: collideKeys)) ∧
    (s.unguarded ch m x 1 → ∃ u, Answers (.kcacheFlush ch) s u ∧ (s.touch ch).reports u x m 0x83008 .semNotHeld)) ∧
  (∀ (s : State) (n tag sq h c : Nat) (u0 : AttUnit) (w : Work) (fs : List ArrayFault), n < 16 → s.serves [] = true →
    (s.islandState (n + 1) = isWAKING → ∃ u, AnswersThen (.coreWakeDone n) s u ∧ u.islandState (n + 1) = isON ∧
      (s.pwr.wakeAt.getD (n + 1) 0 + 30000 ≤ u.now) ∧ ((s.core n).state = .waking → (u.core n).state = .idle) ∧ u.mem = s.mem) ∧
    ((s.core n).state = .idle → (s.core n).launch = none → (s.core n).isolation = 0 → s.fld F.RAS_QUAR_STATE ≠ 1 →
      ∃ u, Answers (.coreIdleGate n) s u ∧ (u.core n).state = .off ∧ u.islandState (n + 1) = isOFF ∧ (u.core n).tile = blankMem ∧
        (s.core n).since + s.fld (F.QNC_IDLE_GATE_US.core n) * 1000 ≤ u.now ∧ u.mem = s.mem ∧ ∀ j, j ≠ n → u.core j = s.core j) ∧
    ((s.core n).state ≠ .idle → Answers (.coreIdleGate n) s s) ∧
    (s.islandOn (n + 1) = true → (s.core n).attend = some (tag, sq, h, c) → (s.core n).state = .attend → s.chunkOf tag sq h c = some u0 →
      s.workOf tag = some w → (s.ras.sentinelDue.contains (2 * n) || s.ras.sentinelDue.contains (2 * n + 1)) = false →
      (u0.stage ≠ 3 → AnswersThen (.attendUnitDone n fs) s s) ∧
      (∀ res, u0.stage = 3 → u0.core = some n → res = chunkResult w.desc u0 (s.fld (F.QNC_CSUM_TOL_TOL.core n)) s.free fs →
        (res.failed = false → ∃ v : State, AnswersThen (.attendUnitDone n fs) s
            (if (v.qnc.units.filter (fun x => x.of tag sq h)).all (fun x => x.stage == 6) then v.unitWritten w sq h else v) ∧
          (v.core n).state = .idle ∧ (v.core n).attend = none ∧ s.counted v (F.QNC_WORK_UNITS.core n) ∧ v.mem = s.mem ∧
          v.chunkOf tag sq h c = some { u0 with stage := 6, core := none, q := [], table := [], blocks := [], bad := chunkPoisoned w.desc u0,
                                                part := res.rows.map AttAcc.codes }) ∧
        (res.failed = true → ∃ u, AnswersThen (.attendUnitDone n fs) s u ∧ (u.core n).state = .faulted ∧
          s.counted u (F.QNC_CSUM_PERSISTENT.core n) ∧ u.mem = s.mem))))

/-! ### The switch core and the links (spec/08, spec/11) -/

/-- R231, R232, R262, R311, R316: a packet that arrives stomped is dropped and counted, one whose CRC fails is counted and sent for again; one that
fails the key check or is malformed is answered or counted; one for this member goes to its endpoint; any other enters, marked relayed, the VOQ of
its ports, or waits where its ingress buffer has no room. The second port carries only its own kinds. R317: at a packet boundary of an egress port a
ready MGMT packet at the head of its queue leaves before any other, over the link or to the endpoint, and after it one of RSP, then one of SNOOP;
where no head is ready nothing leaves (no gate list in force). -/
def Obligations.PacketsForwarded : Prop :=
  (∀ (s : State) (port lane crc stomp fault : Nat) (p q : Packet), s.serves [17] = true → port < 63 → p.vc < 8 → q = { p with excess := false } →
    (stomp ≠ 0 → ∃ u, AnswersThen (.packetForward port lane p crc stomp fault) s u ∧ s.counted u F.FAB_PORT_ERR_STOMPED port ∧
      s.counted u F.FAB_DROP_CRC ∧ u.sws = s.sws ∧ u.mem = s.mem) ∧
    (crc ≠ q.crc → s.isSelf (s.answeredAt q) = true → (s.link port).rxRetries < 7 → (s.link port).gcmFails = [] →
      ∃ u, AnswersThen (.packetForward port lane p crc 0 0) s u ∧ s.counted u F.FAB_DROP_CRC ∧ s.counted u F.FAB_PORT_ERR_RETRIES port ∧
        u.sws = s.sws ∧ u.mem = s.mem) ∧
    (crc = q.crc → s.memberState p.src ≠ .absent →
      (p.malformed = true → p.isRequest = false → ∃ u, AnswersThen (.packetForward port lane p crc 0 0) s u ∧ s.counted u F.FAB_DROP_MALFORMED ∧
        u.sws = s.sws ∧ u.mem = s.mem) ∧
      (p.malformed = true → p.isRequest = true → ∃ v, AnswersThen (.packetForward port lane p crc 0 0) s ((v : State).respond q .badDescriptor) ∧
        v.sws = s.sws ∧ v.mem = s.mem ∧ v.regs = s.regs) ∧
      (p.malformed = false →
        (s.portKeyOk port p = false → ∃ v : State, v.sws = s.sws ∧ v.mem = s.mem ∧ s.counted v F.FAB_KEY_ERR_COUNT ∧
          (s.fld F.FAB_KEY_ERR_COUNT = 0 → v.fld F.FAB_KEY_ERR_PORT = port % 2 ^ 8 ∧ v.fld F.FAB_KEY_ERR_KEY = p.pkey % 2 ^ 16) ∧
          AnswersThen (.packetForward port lane p crc 0 0) s (if p.isRequest then v.respond q .keyMismatch else v)) ∧
        (s.portKeyOk port p = true → p.op % 0x80 ≠ opHEARTBEAT → p.op % 0x80 ≠ opMEMBER_DECLARE →
          (s.isSelf (s.answeredAt q) = true → ∃ u, AnswersThen (.packetForward port lane p crc 0 0) s u ∧
            u.sws.delivered = s.sws.delivered ++ [(s.homePort q, q)] ∧ u.regs = s.regs ∧ u.mem = s.mem) ∧
          (∀ e, s.isSelf (s.answeredAt q) = false → e = s.pathPort (s.answeredAt q) (s.pathTo (s.answeredAt q)) →
            (s.sws.entering = [] → s.roomFor port p.vc ({ q with relayed := true } : Packet).bytes = true →
              ∃ u, AnswersThen (.packetForward port lane p crc 0 0) s u ∧
                u.sws.voq = s.sws.voq ++ [⟨port, e, { q with relayed := true }, s.now, false, false⟩] ∧
                u.sws.delivered = s.sws.delivered ∧ u.mem = s.mem) ∧
            (s.roomFor port p.vc ({ q with relayed := true } : Packet).bytes = false → ∃ u, AnswersThen (.packetForward port lane p crc 0 0) s u ∧
              u.sws.voq = s.sws.voq ∧ u.sws.entering = s.sws.entering ++ [⟨port, e, { q with relayed := true }, s.now, false, false⟩] ∧
              u.mem = s.mem))))) ∧
    (crc = q.crc → s.memberState p.src ≠ .absent → p.malformed = false → p.onSecond = false → s.isSelf (s.answeredAt q) = true →
      ∃ u, AnswersThen (.packetForward portSecond lane p crc 0 0) s u ∧ s.counted u F.FAB_DROP_MALFORMED ∧ u.sws = s.sws ∧ u.mem = s.mem)) ∧
  (∀ (s : State) (e : Nat) (heads : List Queued) (q : Queued), s.serves [17] = true → ¬(96 ≤ e ∧ e < 100) → s.gated = false →
    heads = (voqHeads s.sws.voq []).filter (fun q => q.egress == e && s.linkReady e q.pkt) →
    (heads = [] → ∃ u, AnswersThen (.egressArbitration e) s u ∧ u.sws.voq = s.sws.voq ∧ u.sws.sent = s.sws.sent ∧ u.sws.delivered = s.sws.delivered ∧
      u.regs = s.regs) ∧
    ((heads.find? (fun q => q.pkt.vc == vcMGMT)).or ((heads.find? (fun q => q.pkt.vc == vcRSP)).or (heads.find? (fun q => q.pkt.vc == vcSNOOP))) = some q →
      ∃ u, AnswersThen (.egressArbitration e) s u ∧ u.sws.voq = dropQueued q s.sws.voq ∧
      (isFabric e = true → u.sws.sent = s.sws.sent ++ [(e, q.pkt, 0)] ∧ u.sws.delivered = s.sws.delivered) ∧
      (isFabric e = false → u.sws.delivered = s.sws.delivered ++ [(e, q.pkt)] ∧ u.sws.sent = s.sws.sent) ∧ u.mem = s.mem))

/-- R320, R321, R323, R328, R329: the next gate entry begins at its time; holdover that passes suspends the gate list with a record; APPLY of a
checked configuration sets the shaper and tells its bucket effect, a failed check sets only its status; LOAD shows the shaper; a bucket's filling is
awaited. -/
def Obligations.GatesAndShapers : Prop :=
  ∀ (s : State) (ch : ChanId) (m n b : Nat) (x : SeatId) (c : Shaper) (q : Queued),
    (s.serves [17] = true →
      (s.gated = true → s.gateLen ≤ 1024 → ∃ u, Answers .gateEntryBegin s u ∧ u.gateEntry = s.gateNextEntry ∧
        u.sws.gateEnd = s.sws.gateEnd + s.fld (F.SWS_GATE_DURATION_NS.at s.gateNextEntry) ∧ u.mem = s.mem) ∧
      (s.gated = false → Answers .gateEntryBegin s s) ∧
      (s.fld F.SWS_GATE_STATUS_STATE = gHOLDOVER → ∃ u, Answers .gateHoldoverExpiry s u ∧ u.fld F.SWS_GATE_STATUS_STATE = gSUSPENDED ∧
        s.counted u F.SWS_GATE_STATUS_SUSPENSIONS ∧ s.sws.holdoverFrom + s.fld F.SWS_GATE_CFG_HOLDOVER_MS * 1000000 ≤ u.now ∧ u.sws = s.sws) ∧
      (s.fld F.SWS_GATE_STATUS_STATE ≠ gHOLDOVER → Answers .gateHoldoverExpiry s s) ∧
      ((voqHeads s.sws.voq []).find? (fun q => shaperIndex q.ingress q.pkt.vc == n) = none → Answers (.shaperBucketFill n false) s s) ∧
      ((voqHeads s.sws.voq []).find? (fun q => shaperIndex q.ingress q.pkt.vc == n) = some q → (s.shaper n).mode ≠ 0 →
        (0 < (s.shaper n).pir → q.pkt.bytes ≤ (s.shaper n).pbs →
          ∃ u, Answers (.shaperBucketFill n false) s u ∧ q.pkt.bytes * 10 ≤ (u.shaper n).peak ∧ u.sws.voq = s.sws.voq ∧ u.regs = s.regs) ∧
        (0 < (s.shaper n).cir → q.pkt.bytes ≤ (s.shaper n).cbs →
          ∃ u, Answers (.shaperBucketFill n true) s u ∧ q.pkt.bytes * 10 ≤ (u.shaper n).committed ∧ u.sws.voq = s.sws.voq ∧ u.regs = s.regs))) ∧
    (b = x.idx → n = s.fld F.SWS_SHAPER_SEL_SHAPER b →
      c = ⟨s.fld F.SWS_SHAPER_BURST_MODE b, s.fld F.SWS_SHAPER_RATE_CIR b, s.fld F.SWS_SHAPER_RATE_PIR b, s.fld F.SWS_SHAPER_BURST_CBS b,
        s.fld F.SWS_SHAPER_BURST_PBS b, 0, 0, 0⟩ →
      (s.guardedBy ch m x 0 →
        (c.mode = 3 → ∃ u, Answers (.shaperApply ch) s u ∧ u.fld F.SWS_SHAPER_STATUS_STATUS b = Status.badDescriptor.code ∧
          u.fld F.SWS_SHAPER_STATUS_RESET b = 0 ∧ u.sws = s.sws) ∧
        (c.mode ≠ 3 → shaperRangesOk c.cir c.pir c.cbs c.pbs = false → ∃ u, Answers (.shaperApply ch) s u ∧
          u.fld F.SWS_SHAPER_STATUS_STATUS b = Status.bounds.code ∧ u.sws = s.sws) ∧
        (c.mode = 2 → shaperRangesOk c.cir c.pir c.cbs c.pbs = true → ¬(64 ≤ n / 8 ∧ n / 8 ≤ 99) → ∃ u, Answers (.shaperApply ch) s u ∧
          u.fld F.SWS_SHAPER_STATUS_STATUS b = Status.access.code ∧ u.sws = s.sws) ∧
        (c.mode ≤ 2 → shaperRangesOk c.cir c.pir c.cbs c.pbs = true → (c.mode = 2 → 64 ≤ n / 8 ∧ n / 8 ≤ 99) →
          ∃ u, Answers (.shaperApply ch) s u ∧ u.fld F.SWS_SHAPER_STATUS_STATUS b = 0 ∧ (u.shaper n).mode = c.mode ∧ (u.shaper n).cir = c.cir ∧
            (u.shaper n).pir = c.pir ∧ (u.shaper n).cbs = c.cbs ∧ (u.shaper n).pbs = c.pbs ∧ (∀ j, j ≠ n → u.shaper j = s.shaper j) ∧
            ((s.shaper n).mode = 0 → c.mode ≠ 0 → (u.shaper n).committed = c.cbs * 10 ∧ (u.shaper n).peak = c.pbs * 10 ∧
              u.fld F.SWS_SHAPER_STATUS_RESET b = 2) ∧
            ((s.shaper n).mode ≠ 0 → (s.shaper n).mode ≠ c.mode → (u.shaper n).committed = 0 ∧ (u.shaper n).peak = 0 ∧
              u.fld F.SWS_SHAPER_STATUS_RESET b = 1)) ∧
        (∃ u, Answers (.shaperLoad ch) s u ∧ u.sws = s.sws ∧ u.fld F.SWS_SHAPER_BURST_MODE b = (s.shaper n).mode % 4 ∧
          u.fld F.SWS_SHAPER_RATE_CIR b = (s.shaper n).cir % 2 ^ 16 ∧ u.fld F.SWS_SHAPER_RATE_PIR b = (s.shaper n).pir % 2 ^ 16 ∧
          u.fld F.SWS_SHAPER_BURST_CBS b = (s.shaper n).cbs % 2 ^ 24 ∧ u.fld F.SWS_SHAPER_BURST_PBS b = (s.shaper n).pbs % 2 ^ 24)) ∧
      (s.unguarded ch m x 0 → ∀ i ∈ [Instr.shaperApply ch, .shaperLoad ch], ∃ u, Answers i s u ∧ (s.touch ch).reports u x m 0xE0218 .semNotHeld))

/-- R254, R255, R263: on a lane that is up, a good frame in sequence is taken, its acknowledgement frees the retry buffer and its credits are added;
one out of sequence changes no sequence number; a damaged one is counted and a retry asked for. On a lane that is not up nothing happens. Lane
commands of a seat: RETRAIN, HOLD_DOWN and RELEASE of a P-port, and their refusals. -/
def Obligations.FramesAndLanes : Prop :=
  ∀ (s : State) (port lane : Nat) (f : Frame) (ch : ChanId) (n k : Nat) (x : SeatId),
    (s.serves [23] = true →
      (s.laneState port lane ≠ .up → AnswersThen (.linkFrame port lane f) s s) ∧
      (s.laneState port lane = .up →
        (f.fault = 0 → f.seq % 4096 = (s.link port).rxSeq → f.retryFrom = none → ∃ u, AnswersThen (.linkFrame port lane f) s u ∧
          (u.link port).rxSeq = ((s.link port).rxSeq + 1) % 4096 ∧ (u.link port).rxRetries = 0 ∧
          (∀ a, f.ack = some a → ∀ e ∈ (u.link port).retryBuf, e ∈ (s.link port).retryBuf ∧ seqLe e.1 a = false) ∧
          (∀ v c, f.credits = [(v, c)] → (u.link port).credits.getD v 0 = (s.link port).credits.getD v 0 + c) ∧
          (∀ j, j ≠ port → u.link j = s.link j) ∧ u.mem = s.mem ∧ u.dom = s.dom) ∧
        (f.fault = 0 → f.seq % 4096 ≠ (s.link port).rxSeq → ∃ u, AnswersThen (.linkFrame port lane f) s u ∧
          (u.link port).rxSeq = (s.link port).rxSeq ∧ (u.link port).retryBuf = (s.link port).retryBuf ∧ u.mem = s.mem ∧ u.dom = s.dom) ∧
        (f.fault = 1 → (s.link port).rxRetries < 7 → (s.link port).gcmFails = [] → ∃ u, AnswersThen (.linkFrame port lane f) s u ∧
          s.counted u F.FAB_PORT_ERR_RETRIES port ∧ s.counted u F.FAB_PORT_ERR_UNCORRECTED port ∧
          (u.link port).rxRetries = (s.link port).rxRetries + 1 ∧ u.dom = s.dom ∧ u.mem = s.mem))) ∧
    (s.commandedBy ch n x → k = lane % 4 → port = s.selPort x → port < 0x60 →
      (s.portWidth port ≤ k → ∀ c ∈ [Instr.portRetrain ch lane, .portHoldDown ch lane, .portRelease ch lane],
        ∃ u, AnswersThen c s u ∧ (s.asked ch).reports u x n 0xC0218 .bounds) ∧
      (k < s.portWidth port → isAport port = false →
        ((∃ j, j < s.portWidth port ∧ j ≠ k ∧ s.laneState port j = .up) →
          (s.laneState port k = .up ∨ (s.laneState port k ≠ .held ∧ s.mayTrain port = true) →
            ∃ u, AnswersThen (.portRetrain ch lane) s u ∧ u.laneState port k = .training ∧ u.mem = s.mem) ∧
          (∃ u, AnswersThen (.portHoldDown ch lane) s u ∧ u.laneState port k = .held ∧ u.mem = s.mem)) ∧
        (s.laneState port k = .up → AnswersThen (.portRetrain ch lane) s ((s.asked ch).laneOut port k .training)) ∧
        AnswersThen (.portHoldDown ch lane) s ((s.asked ch).laneOut port k .held) ∧
        (s.laneState port k = .held → ∃ u, AnswersThen (.portRetrain ch lane) s u ∧ (s.asked ch).reports u x n 0xC0218 .stateConflict) ∧
        (s.laneState port k = .held → ∃ u, AnswersThen (.portRelease ch lane) s u ∧
          u.laneState port k = (if s.mayTrain port then .training else .down) ∧ u.mem = s.mem ∧ u.fab = s.fab) ∧
        (s.laneState port k ≠ .held → ∃ u, AnswersThen (.portRelease ch lane) s u ∧ (s.asked ch).reports u x n 0xC0218 .stateConflict)))

/-! ### Requests at their owner (spec/06, spec/08) -/

/-- R235, R236, R240: a load that its owner serves returns the bytes it names and changes no memory; a store writes its bytes and no other; an
atomic writes its new value and returns the old one, and one that finds poison writes nothing and returns `POISON`. -/
def Obligations.Accesses : Prop :=
  ∀ (s : State) (p : Packet) (cell n : Nat) (old : List Byte), s.serves (s.homeIslands p) = true → s.ownServes p → s.homeFree (linesOf p.addr p.size) →
    cell = dgaCell p.addr → n = p.size + 1 → crosses256 p.addr p.size = false →
    (p.op = opLOAD → cohKind p = 0 → ∃ v, AnswersThen (.load p 0) s
      ((v : State).finish p .done (storePayload p.addr (s.mem.readN (s.accessKey p) cell n)) (s.mem.poisonMask cell n)) ∧ v.mem = s.mem ∧ s.servedOnly v) ∧
    (s.headerAt cell n = none → s.protection cell = 0 →
      (p.op = opSTORE → cohKind p = 0 → ∃ v, AnswersThen (.store p 0) s ((v : State).finish p .done) ∧
        v.mem = s.mem.store (s.keyFor cell) cell (accessBytes p) p.poison ∧ s.servedOnly v ∧ s.keepsBytes v cell n) ∧
      (p.op = opATOMIC → atomicFault p = false → old = s.mem.readN (s.accessKey p) cell n →
        (s.mem.poisoned cell = false → p.poison = 0 → ∃ v, AnswersThen (.atomic p 0) s ((v : State).finish p .done (padTo 64 old)) ∧
          v.mem = s.mem.store (s.keyFor cell) cell (atomicBytes p old) 0 ∧ s.servedOnly v ∧ s.keepsBytes v cell n) ∧
        (s.mem.poisoned cell = true ∨ p.poison ≠ 0 → ∃ v, AnswersThen (.atomic p 0) s ((v : State).finish p .poison) ∧ v.mem = s.mem ∧ s.servedOnly v)))

/-- R178, R182: a store to a P1 or an armed P2 cell whose holder is ACTIVE is written at its owner and sent to the holder, as MIRROR or as PARITY,
and is not answered yet. A MIRROR or a parity update that reaches its holder is applied once and answered; a PARITY that reads is answered with what
is stored, and one that ends a recomputation with no bytes. -/
def Obligations.ProtectedWrites : Prop :=
  ∀ (s : State) (p : Packet) (h cell sector : Nat), s.serves (s.homeIslands p) = true → s.homeFree (linesOf p.addr p.size) → cell = dgaCell p.addr →
    sector = cell / 64 * 64 → s.unitsFree →
    (s.ownServes p → p.op = opSTORE → cohKind p = 0 → crosses256 p.addr p.size = false → s.headerAt cell (p.size + 1) = none →
      s.holderOf (mkDga s.devnum 0 0 + cell) (s.protection cell) = some h → s.memberState h = .active →
      ∃ u, AnswersThen (.store p 0) s u ∧ u.mem = s.mem.store (s.keyFor cell) cell (accessBytes p) p.poison ∧
        ⟨p, linesOf p.addr p.size, [], [], 1, .done⟩ ∈ u.tier.inFlight ∧
        u.asks (fun q => q.op = (if s.protection cell = 1 then opMIRROR else opPARITY) ∧ q.dst = h ∧ q.addr = mkDga s.devnum 0 0 + cell)) ∧
    (p.malformed = false → s.dom.selfFailed = false →
      (p.op = opMIRROR → p.aux % 2 = 0 →
        (s.fab.dedupOf (auxSource p.aux) p.tag = none → ∃ v, AnswersThen (.mirror p) s ((v : State).respond p .done) ∧
          v.mem = s.mem.store 0 sector (carried p) p.poison ∧ (v.fab.dedupOf (auxSource p.aux) p.tag).isSome = true ∧ s.servedOnly v) ∧
        (∀ e, s.fab.dedupOf (auxSource p.aux) p.tag = some e → e.pieces.contains p.addr = true →
          ∃ v, AnswersThen (.mirror p) s ((v : State).respond p .done) ∧ v.mem = s.mem ∧ s.counted v F.FAB_DEDUP_HITS)) ∧
      (p.op = opPARITY → s.tier.inFlight = [] →
        (auxRead p.aux = false → auxRelease p.aux = false → s.fab.dedupOf (auxSource p.aux) p.tag = none →
          ∃ v, AnswersThen (.parity p) s ((v : State).respond p .done) ∧ v.mem = s.mem.store 0 (s.parityCell (p.addr / 64 * 64))
              (xorBytes (s.mem.readN 0 (s.parityCell (p.addr / 64 * 64)) (carried p).length) (carried p))
              (s.mem.poisonMask (s.parityCell (p.addr / 64 * 64)) (carried p).length) ∧
            (v.fab.dedupOf (auxSource p.aux) p.tag).isSome = true ∧ s.servedOnly v) ∧
        (auxRead p.aux = true → auxRebuilt p.aux = false →
          (s.notServed sector = true → ∃ v, AnswersThen (.parity p) s ((v : State).respond p .poison) ∧ v.mem = s.mem) ∧
          (s.notServed sector = false → auxStored p.aux = true → ∃ v, AnswersThen (.parity p) s ((v : State).respond p .done
              (s.mem.readN 0 sector (64 * sectorsOf p.addr p.size)) (s.mem.poisonMask sector (64 * sectorsOf p.addr p.size))) ∧ v.mem = s.mem)) ∧
        (auxRead p.aux = false → auxRelease p.aux = true → ∃ v, AnswersThen (.parity p) s ((v : State).respond p .done) ∧ v.mem = s.mem)))

/-- R172, R238: a piece of a tile takes a staging slot; a commit writes its staged tile whole and frees the slot, and one without a tile is answered
`STATE_CONFLICT`; a block is read whole in 16 answers; the pieces of a block write are collected, the 16th writes it, and a block not complete in
the fabric timeout is discarded. -/
def Obligations.TilesAndBlocks : Prop :=
  ∀ (s : State) (p : Packet) (cell k : Nat) (t : StagedTile) (b : BlockBuf), cell = dgaCell p.addr → k = p.aux % 16 →
    (s.serves (s.homeIslands p) = true → s.ownServes p → p.op = opTILE_COMMIT →
      (s.stagedFor p = none → s.homeFree [p.addr / 64] →
        ∃ v, AnswersThen (.tileCommit p) s ((v : State).finish p .stateConflict) ∧ v.mem = s.mem ∧ s.servedOnly v) ∧
      (s.stagedFor p = some t → s.homeFree ((t.pieces.vals.flatMap (fun e => linesOf e.1 (e.2.length - 1))).dedup) → (∀ c, s.protection c = 0) →
        (∀ e ∈ t.pieces.vals, s.headerAt (dgaCell e.1) e.2.length = none) →
        ∃ v, AnswersThen (.tileCommit p) s ((v : State).finish { p with poison := 0 } .done) ∧
          v.mem = t.pieces.vals.foldl (fun m e => m.store (s.keyFor cell) (dgaCell e.1) e.2 0) s.mem ∧ t ∉ v.tier.staged ∧
          s.counted v F.TIER_PUBLISH_PUBLISHED ∧ s.servedOnly v)) ∧
    (s.serves (s.homeIslands p) = true → p.op = opSTORE → isStaging p = true → p.malformed = false → s.isSelf (dgaDev p.addr) = true →
      s.ownerFault p = none → s.fresh p → s.tier.staged = [] →
        ∃ v, AnswersThen (.store p 0) s ((v : State).finish p .done) ∧ v.mem = s.mem ∧ s.servedOnly v ∧
          v.tier.staged = [⟨p.src, stageMark p, p.pkey, [(bitsOf p.aux 8 16, (p.addr, accessBytes p))]⟩]) ∧
    (s.serves [18, 22] = true → p.malformed = false → s.isSelf (dgaDev p.addr) = true → s.ownerFault p = none → s.notServed cell = false → s.unitsFree →
      (p.op = opBLOCK_READ → ∃ v, AnswersThen (.blockRead p 0) s
        ((v : State).blockAnswer p (s.mem.readN (s.accessKey p) cell 4096) (s.mem.poisonMask cell 4096)) ∧ v.mem = s.mem ∧ s.servedOnly v) ∧
      (p.op = opBLOCK_WRITE →
        (s.fresh p → s.fab.dedupOf p.src p.tag = none → (∀ b ∈ s.fab.blocks, ¬(b.src = p.src ∧ b.tag = p.tag)) → s.fab.blocks.length < 256 →
          ∃ u, AnswersThen (.blockWrite p) s u ∧ u.mem = s.mem ∧ s.servedOnly u ∧
            ∃ c ∈ u.fab.blocks, c.src = p.src ∧ c.tag = p.tag ∧ c.pieces.get? k = some (p.payload, p.poison)) ∧
        (∀ e pieces, s.fab.dedupOf p.src p.tag = some e → e.pending = true → s.fab.blocks.find? (fun b => b.src == p.src && b.tag == p.tag) = some b →
          b.pieces.get? k = none → (b.pieces.put k (p.payload, p.poison)).length = 16 → b.pkt.addr = p.addr → (∀ c, s.protection c = 0) →
          pieces = ((b.pieces.put k (p.payload, p.poison)).vals.zipIdx).map (fun q => (p.addr + 256 * q.2, padTo 256 q.1.1)) →
          ∃ v mask q, q = ({ b.pkt with poison := mask, size := 4095 } : Packet) ∧ AnswersThen (.blockWrite p) s ((v : State).finish q .done) ∧
            s.servedOnly v ∧ b ∉ v.fab.blocks ∧
            v.mem = pieces.foldl (fun m e => m.store (s.keyFor cell) (dgaCell e.1) e.2 (pieceMask q e.1)) s.mem))) ∧
    (∀ src tag, s.serves [] = true → s.fab.blocks.find? (fun b => b.src == src && b.tag == tag) = some b →
      ∃ u, AnswersThen (.blockAssemblyTimeout src tag) s u ∧ b ∉ u.fab.blocks ∧ u.fab.dedupOf src tag = none ∧ u.mem = s.mem ∧
        b.first + s.fld F.FAB_TMO_FABRIC_US * 1000 ≤ u.now)

/-- R27, R474: a member that holds itself FAILED answers every request with `STATE_CONFLICT`; a packet of another kind than its command serves has
no effect. R234, R246, R247: an answer ends its request, whose tag may then be retired, and reaches what waited for it; one that answers nothing is
counted; an unanswered request is sent again under its tag, and after the fabric timeout ends with `TIMEOUT`; retirements that are due are sent.
R246, R248, R258, R259, R40: RETIRE and TAG_RESET drop the entries they name and no other; FENCE_MARK and RELAY_DRAIN are answered once nothing
earlier is left, and wait before; a management access of another member is served over its channel and answered. -/
def Obligations.RequestsEnd : Prop :=
  (∀ (s : State) (p : Packet) (env : WriteEnv), ∀ r ∈ [(Instr.load p 0, p.op == opLOAD && cohKind p == 0, s.homeIslands p),
      (.store p 0, p.op == opSTORE && cohKind p == 0, s.homeIslands p), (.atomic p 0, p.op == opATOMIC, s.homeIslands p),
      (.reduce p, p.op == opREDUCE, [reduceIsland p]), (.tileCommit p, p.op == opTILE_COMMIT, s.homeIslands p),
      (.mirror p, p.op == opMIRROR && p.aux % 2 == 0, s.homeIslands p), (.parity p, p.op == opPARITY, s.homeIslands p),
      (.blockRead p 0, p.op == opBLOCK_READ, [18, 22]), (.blockWrite p, p.op == opBLOCK_WRITE, [18, 22]),
      (.windowRead p, p.op == opWINDOW_READ, []), (.windowWrite p env, p.op == opWINDOW_WRITE, []),
      (.readShared p 0, isCoherent p kREAD_SHARED, s.homeIslands p), (.readOwn p 0, isCoherent p kREAD_OWN, s.homeIslands p),
      (.upgrade p 0, isCoherent p kUPGRADE, s.homeIslands p), (.writeback p 0, isCoherent p kWRITEBACK, s.homeIslands p),
      (.snpInv p, p.op == 0x10, [18]), (.snpShare p, p.op == 0x11, [18]), (.snpFwd p, p.op == 0x12, [18]), (.agentDrop p, p.op == 0x14, [18]),
      (.agentExpel p, p.op == 0x15, [18]), (.contrib p, isReduce p 0, [17]), (.result p, isReduce p 1, [17]), (.digest p, isReduce p 2, [17]),
      (.grant p, isReduce p 3, [17]), (.collectiveAbort p, isReduce p 4, [17]), (.poolReq p, isReduce p 5, [19]), (.poolPart p, isReduce p 6, [19]),
      (.verDrained p, isReduce p 7, [19]), (.journalMirrorEntry p, p.op == opMIRROR && p.aux % 2 == 1, [20]),
      (.handoff p, isJournal p jcHANDOFF, [20]), (.taken p, isJournal p jcTAKEN, [20]), (.held p, isJournal p jcHELD, [20]),
      (.notHeld p, isJournal p jcNOT_HELD, [20]), (.holdQuery p, isJournal p jcHOLD_QUERY, [20]), (.phaseDone p, isJournal p jcPHASE_DONE, [20]),
      (.xltMapCheck p, p.op == opXLT_CTRL, []), (.revokeRange p, isXlt p xcREVOKE, []), (.drainedReport p, isXlt p xcDRAINED, []),
      (.registrationQuery p, isXlt p xcQUERY, []), (.tagReset p, p.op == opTAG_RESET, [])], s.serves r.2.2 = true →
    (r.2.1 = false → AnswersThen r.1 s s) ∧
    (r.2.1 = true → p.isRequest = true → s.dom.selfFailed = true → AnswersThen r.1 s ((s.take p).respond p .stateConflict))) ∧
  (∀ (s : State) (p : Packet) (r : Request) (tag d : Nat), s.serves [] = true →
    (0x80 ≤ p.op → p.op ≠ opFENCE_MARK + 0x80 →
      (s.requestOf p = none → ∃ v, AnswersThen (.response p) s v ∧ s.counted v F.FAB_DROP_UNKNOWN_RSP ∧ v.mem = s.mem ∧ v.fab = s.fab ∧ v.works = s.works) ∧
      (s.requestOf p = some r → r.waiter.apart = false → p.op ≠ opBLOCK_READ + 0x80 → s.fab.waiting = [] →
        ∃ v, AnswersThen (.response p) s (((v : State).answerWaiter r.waiter r.pkt p).answerCombined r.pkt p).settleFences ∧
          (∀ q, q ∈ v.fab.reqs ↔ q ∈ s.fab.reqs ∧ q.answeredBy p = false) ∧ v.mem = s.mem ∧
          (r.pkt.tagged = true → txTagFirst ≤ r.pkt.tag → r.lentTag = false →
            ⟨r.pkt.dst, s.tagSource r.pkt.tag, r.pkt.tag % 2 ^ 48, decide (r.copies > 1)⟩ ∈ v.fab.retire))) ∧
    (p.op = opFENCE_MARK + 0x80 → s.requestOf p = none → ∃ u, AnswersThen (.response p) s u ∧ u.mem = s.mem ∧
      ∀ m, m ∈ u.fab.markers ↔ m ∈ s.fab.markers ∧ ¬(m.number = p.aux ∧ m.dst = p.src)) ∧
    (s.fab.reqs.filter (fun r => r.pkt.tag == tag) = [r] → s.ridesAlong tag = false →
      ∃ v, AnswersThen (.retryTimer tag) s ((v : State).send r.pkt) ∧ r.sent + s.fld F.FAB_TMO_RETRY_US * 1000 ≤ v.now ∧ v.mem = s.mem ∧
        { r with sent := v.now, copies := r.copies + 1, path := s.pathOf r.pkt } ∈ v.fab.reqs) ∧
    (s.fab.reqs.find? (fun r => r.pkt.tag == tag) = some r → s.ridesAlong tag = false →
      (r.waiter.untilAnswered = true → AnswersThen (.fabricTimeout tag) s s) ∧
      (r.waiter.untilAnswered = false → ∃ v q, AnswersThen (.fabricTimeout tag) s
          ((((v : State).answerWaiter r.waiter r.pkt q).answerCombined r.pkt q).releaseWaiting).settleFences ∧
        q.status = Status.timeout.code ∧ q.op = r.pkt.op + 0x80 ∧ q.tag = r.pkt.tag ∧ s.counted v F.FAB_DROP_TIMEOUTS ∧ v.mem = s.mem ∧
        r ∉ v.fab.reqs ∧ r.issued + s.fld F.FAB_TMO_FABRIC_US * 1000 ≤ v.now)) ∧
    (∃ u, AnswersThen (.retireSend d) s u ∧ (∀ e, e ∈ u.fab.retire ↔ e ∈ s.fab.retire ∧ ¬(e.dst = d ∧ e.drain = false)) ∧ u.fab.dedup = s.fab.dedup ∧
      u.mem = s.mem ∧ ((∃ e ∈ s.fab.retire, e.dst = d ∧ e.drain = false) → s.isSelf d = false →
        ∃ q ∈ u.sws.voq ++ u.sws.entering, q.pkt.op = opRETIRE ∧ q.pkt.dst = d))) ∧
  (∀ (s : State) (p : Packet) (n v off : Nat) (e : ChanEntry) (r : RegDef) (env : WriteEnv), s.serves [17] = true → s.dom.selfFailed = false →
    (p.op = opRETIRE → ∃ u, AnswersThen (.retire p) s u ∧ u.mem = s.mem ∧
      ∀ e, e ∈ u.fab.dedup ↔ e ∈ s.fab.dedup ∧ ¬(e.src = p.src ∧ p.retired e.tag = true ∧ e.pending = false)) ∧
    (p.op = opTAG_RESET → ∃ u, AnswersThen (.tagReset p) s ((u : State).respond p .done) ∧ u.mem = s.mem ∧
      ∀ e, e ∈ u.fab.dedup ↔ e ∈ s.fab.dedup ∧ ¬(e.src = p.src ∧ (bitAt p.aux 0 = true ∨ txTagFirst ≤ e.tag))) ∧
    (p.op = opFENCE_MARK → (s.markBlocked p = false → AnswersThen (.fenceMark p) s ((s.take p).respond p .done)) ∧
      (s.markBlocked p = true → AnswersThen (.fenceMark p) s s)) ∧
    (p.op = opRELAY_DRAIN →
      ((∀ q ∈ s.sws.voq ++ s.sws.entering, ¬(q.pkt.src = p.src ∧ q.pkt.dst = p.aux % 64)) → AnswersThen (.relayDrain p) s ((s.take p).respond p .done)) ∧
      ((∃ q ∈ s.sws.voq ++ s.sws.entering, q.pkt.src = p.src ∧ q.pkt.dst = p.aux % 64) → AnswersThen (.relayDrain p) s s)) ∧
    (s.ctl.entryOf p.channel = some (n, e) → s.deepReset = false → off = dgaOff p.addr → off % 8 = 0 → off < 0x1000000 → regDefAt off = some r →
      (p.op = opWINDOW_READ → p.size = 7 → ∃ u, AnswersThen (.windowRead p) s ((u : State).respond p .done (storePayload p.addr
          (natLe 8 (((s.take p).touch p.channel).readWord e.seat p.channel off)))) ∧ u.mem = s.mem ∧
        (∀ f ∈ r.fields, f.acc = .rc → u.fld f (s.bankOf e.seat r.scope) = f.reset) ∧
        (∀ g c, (∀ f ∈ r.fields, f.acc = .rc → f.key (s.bankOf e.seat r.scope) ≠ g.key c) → u.fld g c = s.fld g c)) ∧
      (p.op = opWINDOW_WRITE → accessBytes p = natLe 8 v → v < 2 ^ 64 → ¬(0x4000 ≤ off ∧ off < 0x6280) → off ≠ 0x10 → (commandAt off v env).isNone = true →
        (∀ k, r.sem = some k → s.semHolder k = some e.seat) → ((s.take p).touch p.channel).writeFault e.seat (s.bankOf e.seat r.scope) off v = none →
        (r.fields.map (fun f => f.lo)).Nodup → (∀ f ∈ r.fields, f.off = off ∧ f.key (s.bankOf e.seat r.scope) ∉ collideKeys) →
        ∃ u, AnswersThen (.windowWrite p env) s ((u : State).respond p .done) ∧ u.mem = s.mem ∧
          (∀ f ∈ r.fields, f.written = true → u.fld f (s.bankOf e.seat r.scope) = bitsOf v f.lo f.width))))

/-! ### The home agent and agents (spec/09) -/

/-- R273, R277: with no other holder READ_SHARED and READ_OWN are granted the line in E with its data, UPGRADE of the only holder without; with
another holder READ_OWN and UPGRADE wait for its SNP_INV; WRITEBACK of the holder in E writes the line and drops the entry, and one of any other
agent is refused `ACCESS`. -/
def Obligations.CoherentRequests : Prop :=
  ∀ (s : State) (p : Packet) (line : Nat) (e : FilterEntry), s.serves (s.homeIslands p) = true → s.ownServes p → s.home.events = [] →
    s.fld F.HOME_FILTER_BUSY = 0 → p.addr % 64 = 0 → p.size = 63 → line = p.addr / 64 → s.headerLine p.addr = false →
    (p.op = opLOAD → s.home.setFull line = false → s.home.entriesAt line = [] → (s.accessKey? p).isSome = true →
      (cohKind p = kREAD_SHARED → s.grantsI p = false → ∃ u, AnswersThen (.readShared p 0) s u ∧ u.mem = s.mem ∧
        (∃ g ∈ u.home.filter, g.agent = agentOf p ∧ g.line = line ∧ g.state = .x) ∧ ∃ ev ∈ u.home.events, ev.pkt = p ∧ ev.grant = some (agentOf p, u.now)) ∧
      (cohKind p = kREAD_OWN → ∃ u, AnswersThen (.readOwn p 0) s u ∧ u.mem = s.mem ∧
        (∃ g ∈ u.home.filter, g.agent = agentOf p ∧ g.line = line ∧ g.state = .x) ∧ ∃ ev ∈ u.home.events, ev.pkt = p ∧ ev.grant = some (agentOf p, u.now)) ∧
      (cohKind p = kUPGRADE → ∃ u, AnswersThen (.upgrade p 0) s u ∧ u.mem = s.mem ∧
        (∃ g ∈ u.home.filter, g.agent = agentOf p ∧ g.line = line ∧ g.state = .x) ∧ ∃ ev ∈ u.home.events, ev.pkt = p ∧ ev.grant = some (agentOf p, u.now))) ∧
    (p.op = opLOAD → s.home.entriesAt line = [e] →
      (cohKind p = kUPGRADE → e.agent = agentOf p → e.ctx = p.ctx → e.va = s.lineVa p → ∃ u, AnswersThen (.upgrade p 0) s u ∧ u.mem = s.mem ∧
        (∃ g ∈ u.home.filter, g.agent = agentOf p ∧ g.line = line ∧ g.state = .x) ∧ ∃ ev ∈ u.home.events, ev.pkt = p ∧ ev.grant = some (agentOf p, u.now)) ∧
      (e.agent ≠ agentOf p → s.home.setFull line = false → ∀ c ∈ [(Instr.readOwn p 0, kREAD_OWN), (.upgrade p 0, kUPGRADE)], cohKind p = c.2 →
        ∃ u, AnswersThen c.1 s u ∧ u.home.filter = s.home.filter ∧ u.mem = s.mem ∧
          u.asks (fun q => q.op = 0x10 ∧ q.dst = e.agent / 32 ∧ q.addr = e.va ∧ q.ctx = e.ctx))) ∧
    (p.op = opSTORE → cohKind p = kWRITEBACK →
      (s.home.entryFor (agentOf p) line = none → ∃ v, AnswersThen (.writeback p 0) s ((v : State).finish p .access) ∧ v.mem = s.mem ∧ s.servedOnly v) ∧
      (s.home.entryFor (agentOf p) line = some e → e.state = .x → s.protection (dgaCell p.addr) = 0 →
        ∃ v, AnswersThen (.writeback p 0) s ((v : State).finish p .done) ∧
          v.mem = s.mem.store (s.keyFor (dgaCell p.addr)) (dgaCell p.addr) (padTo 64 (accessBytes p)) p.poison ∧
          v.home.entryFor (agentOf p) line = none))

/-- R277, R282, R283: a snoop is passed to its agent once, and one already answered is answered again; the answer of an SNP_INV drops the record and
the line it brings is written, that of an SNP_SHARE leaves the agent in F; the event then goes on. R274, R280, R285: GRANT_ACK ends the event; an
agent silent for the home timeout loses its entry, its line is poisoned where it held it in E, and it is expelled; the scan of a long recall ends
with the lines it found. -/
def Obligations.SnoopsEnd : Prop :=
  (∀ (s : State) (p : Packet) (ev : HomeEv) (n : Snoop), s.serves [18] = true →
    (s.dom.selfFailed = false → ∀ o ∈ [(Instr.snpInv p, 0x10), (.snpShare p, 0x11), (.snpFwd p, 0x12)], p.op = o.2 →
      (∀ x, s.home.answered.find? (fun x => x.1 == p.src && x.2.1 == p.tag) = some x → AnswersThen o.1 s ((s.take p).send x.2.2)) ∧
      (s.home.answered.find? (fun x => x.1 == p.src && x.2.1 == p.tag) = none →
        (s.home.snoopsIn.any (fun x => x.pkt.src == p.src && x.pkt.tag == p.tag) = false →
          ∃ v, AnswersThen o.1 s ((v : State).toAgent (p.aux % 32) { p with addr := s.reported p.ctx p.addr }) ∧
            v.home.snoopsIn = s.home.snoopsIn ++ [⟨p, p.aux % 32⟩] ∧ v.mem = s.mem ∧ v.fab = s.fab) ∧
        (s.home.snoopsIn.any (fun x => x.pkt.src == p.src && x.pkt.tag == p.tag) = true → AnswersThen o.1 s (s.take p)))) ∧
    (0x90 ≤ p.op → p.op ≤ 0x92 → s.fab.waiting = [] →
      (s.evOfSnoop p.tag = none → ∃ u, AnswersThen (.snoopAnswer p) s u ∧ u.home = s.home ∧ u.mem = s.mem) ∧
      (s.evOfSnoop p.tag = some (ev, n) → bitAt p.aux 3 = false →
        (n.op = 0x10 → p.sectors ≠ 1 → ∃ v, AnswersThen (.snoopAnswer p) s ((v : State).snoopSettled ev.id p.tag) ∧
          v.home.entryFor n.agent n.line = none ∧ v.mem = s.mem) ∧
        (n.op = 0x10 → p.sectors = 1 → p.aux % 8 = 4 → s.headerLine (n.line * 64) = false → s.notServed (dgaCell (n.line * 64)) = false →
          s.protection (dgaCell (n.line * 64)) = 0 → ∃ v, AnswersThen (.snoopAnswer p) s ((v : State).snoopSettled ev.id p.tag) ∧
          v.home.entryFor n.agent n.line = none ∧
          v.mem = s.mem.store (s.keyFor (dgaCell (n.line * 64))) (dgaCell (n.line * 64)) (padTo 64 (slice p.payload 0 64)) p.poison) ∧
        (n.op = 0x11 → p.sectors ≠ 1 → p.aux % 8 ≠ 0 → ∃ v, AnswersThen (.snoopAnswer p) s ((v : State).snoopSettled ev.id p.tag) ∧ v.mem = s.mem ∧
          ∀ e ∈ v.home.filter, e.agent = n.agent → e.line = n.line → e.state = .f)))) ∧
  (∀ (s : State) (p : Packet) (ev : HomeEv) (n : Snoop) (c va : Nat), s.serves [18] = true →
    (p.op = 0x16 → (s.home.events.find? (fun e => e.grant.isSome && e.pkt.tag == p.tag && e.pkt.src == p.src) = some ev →
        ∃ v, AnswersThen (.grantAck p) s (v : State).pump ∧ (∀ e ∈ v.home.events, e.id ≠ ev.id) ∧ v.mem = s.mem ∧ v.home.filter = s.home.filter) ∧
      (s.home.events.find? (fun e => e.grant.isSome && e.pkt.tag == p.tag && e.pkt.src == p.src) = none → AnswersThen (.grantAck p) s (s.take p))) ∧
    (s.home.drops = [] → s.home.events = [ev] → ev.snoops = [n] → n.tag ≠ s.fab.txTag % 2 ^ 48 →
      ∃ v, AnswersThen (.homeTimeout n.agent n.line) s ((v : State).snoopSettled ev.id n.tag) ∧ v.home.entryFor n.agent n.line = none ∧
        s.counted v F.HOME_TIMEOUT_ERR_COUNT ∧ n.since + s.fld F.HOME_TMO_SNOOP_US * 1000 ≤ v.now ∧ v.asks (fun q => q.op = 0x15 ∧ q.dst = n.agent / 32) ∧
        (∀ e, s.home.entryFor n.agent n.line = some e → e.state = .x → v.mem.poisoned (dgaCell (n.line * 64)) = true) ∧
        (s.home.entryFor n.agent n.line = none → v.mem = s.mem)) ∧
    (s.home.rangeScans.find? (fun e => e.recallOf == some (c, va)) = some ev → ∃ v, AnswersThen (.recallScanDone c va) s (v : State).pump ∧ v.mem = s.mem ∧
      ev ∉ v.home.rangeScans ∧ ∃ e ∈ v.home.events, e.recallOf = ev.recallOf ∧ e.lines = s.recallLines ev.pkt.src c ev.pkt.addr ev.pkt.aux))

/-- R257, R261, R265, R320, R322: an agent's request is refused with its fault, ended `BUSY` where a policer discards it, held, or translated and
sent to the owner; its fence advances the epochs and is answered when the requests before it are, and a seventeenth is refused `BUSY`. R281, R285,
R287: FLUSH tells an ATTACHED agent to write back and makes its port FLUSHING; EXPEL, of a seat or of a home, expels the agent, and in any other
state a seat's command is refused. AGENT_DROP begins a scan, whose end drops the agent's entries, poisoning lines held in E where it is asked to,
and answers. -/
def Obligations.Agents : Prop :=
  (∀ (s : State) (a d : Nat) (p q : Packet) (x : Xlated), s.serves [17] = true → a < 32 → q = { p with excess := false } →
    (∀ st, s.agentFault a p = some st → AnswersThen (.agentRequest a p) s (s.refuseAgent a q st)) ∧
    (s.agentFault a p = none → shapedVc p.vc = true → (s.police (aportCode a) p.vc p.bytes).1 = none →
      AnswersThen (.agentRequest a p) s ((s.police (aportCode a) p.vc p.bytes).2.refuseAgent a p .busy)) ∧
    (s.agentFault a p = none → p.op ≠ opAGENT_FENCE → (s.shaper (shaperIndex (aportCode a) p.vc)).mode ≠ 2 →
      (s.agentHeld a q = true → ∃ u, AnswersThen (.agentRequest a p) s u ∧ u.xlt.heldLookups = s.xlt.heldLookups ++ [(a, q)] ∧ u.fab = s.fab ∧ u.mem = s.mem) ∧
      (s.agentHeld a q = false →
        (∀ st addr, s.translate p.ctx p.addr (p.size + 1) (agentRight p) = .error (st, addr) →
          ∃ v, AnswersThen (.agentRequest a p) s ((v : State).refuseAgent a q st) ∧ v.fab = s.fab ∧ v.mem = s.mem) ∧
        (s.translate p.ctx p.addr (p.size + 1) (agentRight p) = .ok x → s.route x.dga x.ext.cls = .ok d →
          ∃ u, AnswersThen (.agentRequest a p) s u ∧ u.mem = s.mem ∧ u.asks (fun q => q.op = p.op ∧ q.dst = d ∧ q.addr = x.dga)))) ∧
    (p.op = opAGENT_FENCE →
      (16 ≤ (s.fab.fences.filter (fun f => match f.agent with | some (q, _) => q == aportCode a | none => false)).length →
        AnswersThen (.agentFence a p) s (s.toAgent a { p with op := opAGENT_FENCE + 0x80, vc := vcRSP, status := Status.busy.code })) ∧
      ((s.fab.fences.filter (fun f => match f.agent with | some (q, _) => q == aportCode a | none => false)).length < 16 →
        ∃ u, AnswersThen (.agentFence a p) s u ∧ u.mem = s.mem ∧
          (∀ m, m < 64 → s.memberState m = .active → u.epochOf m = (s.epochOf m + 1) % 65536) ∧
          (s.aportReqs a ≠ [] → ∃ f ∈ u.fab.fences, f.agent = some (aportCode a, p.tag % 65536) ∧ f.tags = (s.aportReqs a).map (fun r => r.pkt.tag)) ∧
          (s.aportReqs a = [] → s.fab.markers = [] → s.fab.fences = [] → s.counted u F.FAB_FENCE_COMPLETED ∧ u.fab.fences = [])))) ∧
  (∀ (s : State) (ch : ChanId) (m a owner : Nat) (x : SeatId) (p : Packet) (d : DropScan), a < 32 →
    (s.serves [18] = true →
      (s.aportState a ≠ apATTACHED → ∀ every, AnswersThen (.agentFlush a owner every) s s) ∧
      (s.aportState a = apATTACHED →
        (∃ v q, AnswersThen (.agentFlush a owner true) s ((v : State).toAgent a q) ∧ q.op = 0x13 ∧ q.aux = 64 ∧ v.aportState a = apFLUSHING ∧
          (∃ e ∈ v.home.drops, e.aport = a ∧ e.poison = false) ∧ v.mem = s.mem) ∧
        (∃ q, AnswersThen (.agentFlush a owner false) s (s.toAgent a q) ∧ q.op = 0x13 ∧ q.aux = owner % 64)) ∧
      (s.dom.selfFailed = false → s.fresh p →
        (p.op = 0x14 → ∃ u, AnswersThen (.agentDrop p) s u ∧ u.home.scans = s.home.scans ++ [⟨p, p.aux % 2048, bitAt p.aux 11⟩] ∧ u.mem = s.mem ∧
          u.home.filter = s.home.filter) ∧
        (p.op = 0x15 → p.aux % 32 = a →
          (∃ v, AnswersThen (.agentExpel p) s (((v : State).expelAport a false (fun s => s.holdPort (0x40 + a))).finish p .done) ∧ v.home = s.home ∧
            v.mem = s.mem ∧ v.dom = s.dom) ∧
          (s.aportState a ≠ apATTACHED → s.aportState a ≠ apFLUSHING →
            ∃ v, AnswersThen (.agentExpel p) s ((v : State).finish p .done) ∧ v.home = s.home ∧ v.mem = s.mem))) ∧
      (s.home.scans.find? (fun d => d.pkt.src == p.src && d.pkt.tag == p.tag) = some d →
        ∃ v, AnswersThen (.agentDropScanDone p.src p.tag) s ((v : State).finish d.pkt .done) ∧ d ∉ v.home.scans ∧
          (∀ e, e ∈ v.home.filter ↔ e ∈ s.home.filter ∧ e.agent ≠ d.agent) ∧ (d.poison = false → v.mem = s.mem) ∧
          (d.poison = true → ∀ e ∈ s.home.filter, e.agent = d.agent → e.state = .x → v.mem.poisoned (dgaCell (e.line * 64)) = true))) ∧
    (s.commandedBy ch m x →
      (s.aportState a = apATTACHED → ∃ v q, AnswersThen (.aportFlush ch a) s ((v : State).toAgent a q) ∧ q.op = 0x13 ∧ q.aux = 64 ∧
        v.aportState a = apFLUSHING ∧ (∃ e ∈ v.home.drops, e.aport = a ∧ e.byCommand = true) ∧ v.mem = s.mem) ∧
      (s.aportState a ≠ apATTACHED → ∃ u, AnswersThen (.aportFlush ch a) s u ∧ (s.asked ch).reports u x m 0x100200 .stateConflict) ∧
      (s.aportState a = apATTACHED ∨ s.aportState a = apFLUSHING →
        AnswersThen (.aportExpel ch a) s ((s.asked ch).expelAport a true (fun s => s.holdPort (0x40 + a)))) ∧
      (s.aportState a ≠ apATTACHED → s.aportState a ≠ apFLUSHING →
        ∃ u, AnswersThen (.aportExpel ch a) s u ∧ (s.asked ch).reports u x m 0x100200 .stateConflict)))

/-! ### Collectives (spec/11) -/

/-- R336, R337, R341, R345: a contribution to an open collective is held in its slot or reduced, a result written, a digest kept, and a grant raises
its shard's limit; a packet of a collective not held here is answered `STATE_CONFLICT`, an early grant and an early abort are kept; an abort ends
the collective with its status, and so does silence; a status kept too long is dropped. REDUCE serves each subkind alike. -/
def Obligations.Collectives : Prop :=
  ∀ (s : State) (p : Packet) (r : CollRun) (w : Work) (id low key : Nat), s.serves [17] = true → s.dom.selfFailed = false → id = p.addr / 2 ^ 32 → low = p.addr % 2 ^ 32 →
    (p.op = opREDUCE → s.fresh p →
      (s.collFor p.pkey id = none →
        (∀ c ∈ [(Instr.contrib p, 0), (.result p, 1), (.digest p, 2)], p.aux % 8 = c.2 → ∀ i ∈ [c.1, .reduce p],
          ∃ v, AnswersThen i s ((v : State).finish p .stateConflict) ∧ v.coll = s.coll ∧ v.mem = s.mem) ∧
        (p.aux % 8 = 3 → ∃ v, AnswersThen (.grant p) s ((v : State).finish p .done) ∧ v.coll.runs = s.coll.runs ∧
          (⟨p.pkey, id, p.src, low, field p.payload 0 4⟩ : EarlyGrant) ∈ v.coll.early) ∧
        (p.aux % 8 = 4 → ∃ u, AnswersThen (.collectiveAbort p) s u ∧ u.coll.runs = s.coll.runs ∧ u.mem = s.mem ∧
          u.coll.aborts = s.coll.aborts ++ [⟨p.pkey, id, .ofCode (bitsOf p.aux 8 8), s.now⟩])) ∧
      (s.collFor p.pkey id = some r → s.workOf r.tag = some w → s.collRun r.tag = some r →
        (p.aux % 8 = 0 → r.opened = true → ∀ i ∈ [Instr.contrib p, .reduce p], ∃ v, AnswersThen i s ((v : State).finish p .done) ∧ v.mem = s.mem ∧
          v.works = s.works ∧ ∀ j, j = low - shardFirst w.desc (collRank w.desc s.devnum) →
          ∃ q ∈ v.coll.runs, q.tag = r.tag ∧ ((q.reduced.get? (j / 1024)).isSome = true ∨ ∀ e ∈ (packetElems (collElem w.desc) p).zipIdx,
            (q.slots.getD (j / 1024) []).get? (collRank w.desc p.src * 1024 + j % 1024 + e.2) = some e.1)) ∧
        (p.aux % 8 = 0 → r.opened = false → ∃ v, AnswersThen (.contrib p) s ((v : State).finish p .stateConflict) ∧ v.mem = s.mem) ∧
        (p.aux % 8 = 1 → ∃ v, AnswersThen (.result p) s ((v : State).collStoreResult r.tag low (packetElems (collElem w.desc) p) (some p)) ∧
          v.mem = s.mem ∧ v.works = s.works ∧ ∃ q ∈ v.coll.runs, q.tag = r.tag ∧ q.recv = r.recv ∧ q.stores = r.stores) ∧
        (p.aux % 8 = 2 → ∃ v, AnswersThen (.digest p) s ((v : State).finish p .done) ∧ v.mem = s.mem ∧ ∃ q ∈ v.coll.runs, q.tag = r.tag ∧
          (bitAt (field (p.payload.take 64) 37 1) 4 = false → q.records.get? (collRank w.desc p.src) = some (p.payload.take 64, false)) ∧
          (bitAt (field (p.payload.take 64) 37 1) 4 = true → q.recvRecords.get? low = some (p.payload.take 64, false))) ∧
        (p.aux % 8 = 3 → r.granters.contains p.src = true ∨ field p.payload 0 4 = r.dcrc → ∃ u, AnswersThen (.grant p) s u ∧ u.mem = s.mem ∧
          ∃ q ∈ u.coll.runs, q.tag = r.tag ∧ q.limits.get? (collRank w.desc p.src) = some low) ∧
        (p.aux % 8 = 4 → ∃ v, AnswersThen (.collectiveAbort p) s ((v : State).collEnd r.tag (.ofCode (bitsOf p.aux 8 8))) ∧ v.coll = s.coll ∧ v.mem = s.mem))) ∧
    (s.collFor key id = some r → AnswersThen (.collectiveTimeout key id) s
      ((s.reach (r.lastHeard + s.fld F.COLL_TMO_MS * 1000000)).collAbort r.tag .timeout true)) ∧
    (s.collFor key id = none → AnswersThen (.collectiveTimeout key id) s s) ∧
    (∀ a, s.coll.aborts.find? (fun a => a.key == key && a.id == id) = some a → ∃ u, AnswersThen (.abortStatusExpiry key id) s u ∧ a ∉ u.coll.aborts ∧
      a.at_ + 2 * s.fld F.COLL_TMO_MS * 1000000 ≤ u.now ∧ u.coll.runs = s.coll.runs)

/-! ### Embedding pools (spec/12) -/

/-- R354, R355, R349: the requests of a pool phase are collected and answered, a partial is counted off for its owner, a drained version is noted
for the member; each under another partition's key is refused `KEY_MISMATCH`, and for a version or phase not held `STATE_CONFLICT`. R348 to R350:
the commands of a seat on its selected table, each with the outcome that EMB_STATUS shows: DEFINE, DELETE, INSTALL, COMMIT and DISCARD. -/
def Obligations.PoolsAndTables : Prop :=
  (∀ (s : State) (p : Packet) (t n m : Nat) (r : PoolRun), s.serves [19] = true → s.dom.selfFailed = false → t = bitsOf p.aux 8 8 → p.op = opREDUCE → s.fresh p →
    (p.pkey ≠ s.keyOf (s.tblPartition t) → ∀ c ∈ [(Instr.poolReq p, 5), (.verDrained p, 7)], p.aux % 8 = c.2 → ∀ i ∈ [c.1, .reduce p],
      ∃ v, AnswersThen i s ((v : State).finish p .keyMismatch) ∧ s.counted v F.FAB_KEY_ERR_COUNT ∧ v.emb = s.emb ∧ v.mem = s.mem) ∧
    (p.aux % 8 = 5 → p.pkey = s.keyOf (s.tblPartition t) →
      (s.slotOf t (field p.payload 0 4) = none → ∃ v, AnswersThen (.poolReq p) s ((v : State).finish p .stateConflict) ∧ v.emb = s.emb ∧ v.mem = s.mem) ∧
      (s.slotOf t (field p.payload 0 4) = some n → s.poolServeOf p.src (field p.payload 4 4) = none → 1 < field p.payload 8 4 →
        ∃ v, AnswersThen (.poolReq p) s ((v : State).finish p .done) ∧ v.mem = s.mem ∧ v.emb.runs = s.emb.runs ∧
          ∃ x ∈ v.emb.serves, x.src = p.src ∧ x.phase = field p.payload 4 4 ∧ x.slot = n ∧ x.seen = 1 ∧ x.pairs = packetPairs p)) ∧
    (p.aux % 8 = 6 →
      (s.emb.runs.find? (fun r => r.phaseId == p.addr / 2 ^ 32 && (r.expected.get? p.src).isSome && r.failed == none) = none →
        ∃ v, AnswersThen (.poolPart p) s ((v : State).finish p .stateConflict) ∧ v.emb = s.emb ∧ v.mem = s.mem) ∧
      (s.emb.runs.find? (fun r => r.phaseId == p.addr / 2 ^ 32 && (r.expected.get? p.src).isSome && r.failed == none) = some r →
        p.pkey = s.keyOf (s.tblPartition r.table) → r.expected.get? p.src = some m →
        ∃ v, AnswersThen (.poolPart p) s ((v : State).finish p .done) ∧ v.mem = s.mem ∧
          ∃ q ∈ v.emb.runs, q.tag = r.tag ∧ q.expected.get? p.src = some (m - (packetElems elFP32 p).length))) ∧
    (p.aux % 8 = 7 → p.src < 64 → p.pkey = s.keyOf (s.tblPartition t) → s.slotOf t (p.addr / 2 ^ 32) = some n →
      ∃ v, AnswersThen (.verDrained p) s ((v : State).finish p .done).sweepSlots ∧ v.fldBit (F.EMB_VER_DRAINED_MEMBERS.at n) p.src t = true ∧
        v.emb = s.emb ∧ v.mem = s.mem)) ∧
  (∀ (s : State) (ch : ChanId) (m t v : Nat) (x : SeatId), s.commandedBy ch m x → t = s.fld F.EMB_TBL_SEL_TABLE x.idx →
    v = s.fld F.EMB_VER_STAGE_VERSION x.idx →
    (s.fld F.EMB_TBL_CFG_STATE t ≠ tbUNDEFINED → ∃ u, AnswersThen (.tableDefine ch) s u ∧ u.fld F.EMB_STATUS_STATUS x.idx = Status.stateConflict.code ∧
      u.fld F.EMB_TBL_CFG_STATE t = s.fld F.EMB_TBL_CFG_STATE t ∧ u.emb = s.emb) ∧
    (s.fld F.EMB_TBL_CFG_STATE t = tbUNDEFINED →
      (s.tableOk t = false → ∃ u, AnswersThen (.tableDefine ch) s u ∧ u.fld F.EMB_STATUS_STATUS x.idx = Status.badDescriptor.code ∧
        u.fld F.EMB_TBL_CFG_STATE t = tbUNDEFINED) ∧
      (s.tableOk t = true → ∃ u, AnswersThen (.tableDefine ch) s u ∧ u.fld F.EMB_STATUS_STATUS x.idx = 0 ∧ u.fld F.EMB_TBL_CFG_STATE t = tbDEFINED ∧
        u.mem = s.mem)) ∧
    (s.fld F.EMB_TBL_CFG_STATE t = tbDEFINED → ∃ u, AnswersThen (.tableDelete ch) s u ∧ u.fld F.EMB_STATUS_STATUS x.idx = 0 ∧
      u.fld F.EMB_TBL_CFG_STATE t = tbUNDEFINED ∧ u.emb = s.emb) ∧
    (s.fld F.EMB_TBL_CFG_STATE t ≠ tbDEFINED → ∃ u, AnswersThen (.tableDelete ch) s u ∧ u.fld F.EMB_STATUS_STATUS x.idx = Status.stateConflict.code ∧
      u.fld F.EMB_TBL_CFG_STATE t = s.fld F.EMB_TBL_CFG_STATE t) ∧
    (∀ st, s.installCheck x t = .error st → ∃ u, AnswersThen (.versionInstall ch) s u ∧ u.fld F.EMB_STATUS_STATUS x.idx = st.code ∧ u.emb = s.emb ∧ u.xlt = s.xlt) ∧
    (∀ shard n, s.installCheck x t = .ok shard → n = (s.slotsIn t vFREE).headD 0 → ∃ u, AnswersThen (.versionInstall ch) s u ∧
      u.fld F.EMB_STATUS_STATUS x.idx = 0 ∧ u.fld F.EMB_STATUS_SLOT x.idx = n ∧ u.slotState t n = vINSTALLED ∧ u.slotVersion t n = v % 2 ^ 32 ∧ u.mem = s.mem ∧
      (∀ c xl, shard = some (c, xl) → u.emb.shards.get? (t * 4 + n) = some ⟨xl.dga, xl.ext.cls, c, xl.ext.va⟩)) ∧
    (v = 0 → ∀ i ∈ [Instr.versionCommit ch, .versionDiscard ch], ∃ u, AnswersThen i s u ∧ u.fld F.EMB_STATUS_STATUS x.idx = Status.badDescriptor.code ∧ u.emb = s.emb) ∧
    (v ≠ 0 → s.slotOf t v = none → ∀ i ∈ [Instr.versionCommit ch, .versionDiscard ch],
      ∃ u, AnswersThen i s u ∧ u.fld F.EMB_STATUS_STATUS x.idx = Status.stateConflict.code ∧ u.emb = s.emb) ∧
    (∀ n, v ≠ 0 → s.slotOf t v = some n →
      (s.slotState t n ≠ vINSTALLED → ∀ i ∈ [Instr.versionCommit ch, .versionDiscard ch],
        ∃ u, AnswersThen i s u ∧ u.fld F.EMB_STATUS_STATUS x.idx = Status.stateConflict.code ∧ u.slotState t n = s.slotState t n) ∧
      (s.slotState t n = vINSTALLED →
        ((∀ c, (s.slotsIn t vCURRENT).head? = some c → s.slotVersion t c < v) → ∃ w, AnswersThen (.versionCommit ch) s (w : State).sweepSlots ∧
          w.slotState t n = vCURRENT ∧ w.fld F.EMB_STATUS_STATUS x.idx = 0 ∧
          (∀ c, (s.slotsIn t vCURRENT).head? = some c → w.slotState t c = vRETIRING) ∧ w.emb = s.emb ∧ w.mem = s.mem) ∧
        (∃ u, AnswersThen (.versionDiscard ch) s u ∧ u.slotState t n = vFREE ∧ u.emb.shards.get? (t * 4 + n) = none ∧
          u.fld F.EMB_STATUS_STATUS x.idx = 0))))

/-! ### Search (spec/13) -/

/-- R358, R367, R369: the centroid step fixes the lists of every query; a segment's scan is scored and leaves its queue; one that takes too long,
and a parity fault of its Sloe, end it; the results of a phase whose segments have ended are ranked and stored. -/
def Obligations.Searches : Prop :=
  ∀ (s : State) (tag n : Nat) (w : Work) (r : SearchRun) (g : Segment), s.serves [22] = true → n < 24 →
    (s.workOf tag = some w → s.searchRun tag = some r →
      (r.stage ≠ 2 → AnswersThen (.centroidStepDone tag) s s) ∧
      (r.stage = 2 → (s.searchCore w).isSome = true → ∃ u, AnswersThen (.centroidStepDone tag) s u ∧ u.mem = s.mem ∧ ∃ q ∈ u.vs.runs, q.tag = tag ∧ q.stage = 3 ∧
        ∀ a ∈ q.queries, ∃ b ∈ r.queries, a.index = b.index ∧
          (b.status = .done → ∃ free, a.lists = probeLists r.header (seMetric w.desc) (seNprobe w.desc) free r b)) ∧
      (r.stage ≠ 6 → AnswersThen (.searchMergeDone tag) s s) ∧
      (r.stage = 6 → ∃ u, AnswersThen (.searchMergeDone tag) s u ∧ u.mem = s.mem ∧ (∃ q ∈ u.vs.runs, q.tag = tag ∧ q.stage = 7 ∧ q.queries = r.queries) ∧
        ∀ q ∈ r.queries, (queryResult w.desc r.header q).1 ≠ .done → (q.index, (queryResult w.desc r.header q).1) ∈ u.vs.ended.getD tag [])) ∧
    (s.vs.segments.find? (fun g => g.unit == n) = none → AnswersThen (.segmentScanDone n) s s) ∧
    (s.vs.segments.find? (fun g => g.unit == n) = some g →
      (g.data = none → AnswersThen (.segmentScanDone n) s s) ∧
      (g.data.isSome = true → s.searchRun g.tag = some r → s.workOf g.tag = some w →
        ∃ v, AnswersThen (.segmentScanDone n) s ((((v : State).showSegments n).sloeBegin n).searchAdvance g.tag).showSlots ∧ v.mem = s.mem ∧ v.works = s.works ∧
          (∀ x ∈ v.vs.segments, ¬(x.tag = g.tag ∧ x.num = g.num)) ∧
          ∃ q ∈ v.vs.runs, q.tag = g.tag ∧ ∀ a ∈ q.queries, g.queries.contains a.index = true → a.cands.length ≤ seM w.desc)) ∧
    (s.vs.segments.find? (fun g => g.unit == n && g.begun.isSome) = none → AnswersThen (.segmentScanTimeout n) s s) ∧
    (s.vs.segments.find? (fun g => g.unit == n && g.begun.isSome) = some g →
      ∃ v, AnswersThen (.segmentScanTimeout n) s ((((v : State).setSloe n slIDLE).sloeBegin n).searchAdvance g.tag).showSlots ∧ v.mem = s.mem ∧
        (∀ x ∈ v.vs.segments, ¬(x.tag = g.tag ∧ x.num = g.num)) ∧ g.begun.getD 0 + s.fld F.VS_CTRL_SCAN_TMO_MS * 1000000 ≤ v.now) ∧
    (s.sloeState n ≠ slIDLE → s.sloeState n ≠ slSCAN → AnswersThen (.sloeParityFault n) s s) ∧
    (s.sloeState n = slIDLE ∨ s.sloeState n = slSCAN →
      ∃ v, AnswersThen (.sloeParityFault n) s (((v : State).sloeEndAll n .internal).logErr { unit := .vs, status := .internal, index := n }) ∧
        v.sloeState n = slFAULTED ∧ v.vs = s.vs ∧ v.mem = s.mem)

/-! ### The Ethernet attachment (spec/14) -/

/-- R379: the commands of a seat on its selected queue pair, each from the states that allow it; from any other state the command is refused
`STATE_CONFLICT`. RTR loads the PSNs, RTS the rate, RESET clears the queue pair. -/
def Obligations.QueuePairs : Prop :=
  ∀ (s : State) (ch : ChanId) (n qp : Nat) (x : SeatId), s.commandedBy ch n x → qp = s.fld F.ETH_QP_SEL_QP x.idx →
    (s.qpState qp = .reset → (windowQp ≤ qp ∨ (s.ctxEnabled qp = true ∧ s.ethPortOn (s.qpPort qp) false = true)) → ∃ u, AnswersThen (.qpToInit ch) s u ∧
      u.qpState qp = .init ∧ s.keepsFields u [F.ETH_QP_STATUS_STATE.key qp] ∧ u.mem = s.mem) ∧
    (s.qpState qp ≠ .reset → ∃ u, AnswersThen (.qpToInit ch) s u ∧ (s.asked ch).reports u x n 0x160230 .stateConflict) ∧
    (s.qpState qp = .init → s.ethPortOn (s.qpPort qp) (decide (qp ≥ windowQp)) = true →
      (s.fld F.ETH_QP_CFG_SEND_EN qp ≠ 1 ∨ s.queueCtx (s.fld F.ETH_QP_CFG_SEND_QUEUE qp) = qp → ∃ u, AnswersThen (.qpToRtr ch) s u ∧ u.qpState qp = .rtr ∧
        (u.qpx qp).expected = s.fld F.ETH_QP_PSN_RQ_PSN qp ∧ (u.qpx qp).next = s.fld F.ETH_QP_PSN_SQ_PSN qp ∧ (u.qpx qp).outstanding = [] ∧
        s.keepsFields u [F.ETH_QP_STATUS_STATE.key qp]) ∧
      (s.fld F.ETH_QP_CFG_SEND_EN qp = 1 → s.queueCtx (s.fld F.ETH_QP_CFG_SEND_QUEUE qp) ≠ qp →
        ∃ u, AnswersThen (.qpToRtr ch) s u ∧ (s.asked ch).reports u x n 0x160230 .access)) ∧
    (s.qpState qp ≠ .init → ∃ u, AnswersThen (.qpToRtr ch) s u ∧ (s.asked ch).reports u x n 0x160230 .stateConflict) ∧
    (s.qpState qp = .rtr → ∃ u, AnswersThen (.qpToRts ch) s u ∧ u.qpState qp = .rts ∧ u.fld F.ETH_QP_STATUS_RATE qp = 4000 ∧ u.mem = s.mem) ∧
    (s.qpState qp ≠ .rtr → ∃ u, AnswersThen (.qpToRts ch) s u ∧ (s.asked ch).reports u x n 0x160230 .stateConflict) ∧
    (s.qpState qp = .reset ∨ s.qpState qp = .error → ∃ u, AnswersThen (.qpToError ch) s u ∧ (s.asked ch).reports u x n 0x160230 .stateConflict) ∧
    (s.qpState qp ≠ .reset → s.qpState qp ≠ .error → AnswersThen (.qpToError ch) s ((s.asked ch).qpLeave qp .error)) ∧
    (s.qpState qp ≠ .rts ∨ (qp < windowQp ∧ ∀ q ∈ s.qx.keys, s.queueCtx q ≠ qp) → (s.qpx qp).outstanding = [] → s.eth.xferA = none → s.eth.xferB = none →
      (s.qpState qp ≠ .reset → s.qpState qp ≠ .error → ∃ u, AnswersThen (.qpToError ch) s u ∧ u.qpState qp = .error ∧ (u.qpx qp).waiting = [] ∧
        s.keepsFields u [F.ETH_QP_STATUS_STATE.key qp] ∧ u.mem = s.mem) ∧
      (∃ v, AnswersThen (.qpToReset ch) s ((v : State).closeChannel (.rdma (s.qpPort qp) (qpnOf qp))) ∧ v.qpState qp = .reset ∧ v.qpx qp = freshQp ∧
        v.fld F.ETH_QP_STATUS_LAST_STATUS qp = 0 ∧ v.mem = s.mem))

/-- R381 to R383, R322: a request to a queue pair that does not take any has no effect, one that the port's policer discards changes only the
policer; one that finds another before it waits; the next one in its turn is checked against its region: what passes is carried out by accesses of
this member, what fails is answered with its NAK and puts the queue pair in ERROR. R380, R390: an acknowledgement ends what it covers, a sequence
NAK sends all again, another NAK fails the queue pair; silence sends all again until the retries are used up; a CNP cuts the rate by alpha / 2 and
the recovery timer raises it. -/
def Obligations.HostRequests : Prop :=
  (∀ (s v : State) (qp psn va rkey len a b : Nat) (bs : List Byte) (ce : Bool) (env : WriteEnv) (t : Xlated) (d : Nat), s.serves [24] = true →
    (s.qpAccepts qp = false → ∀ c ∈ [Instr.rdmaWrite qp psn va rkey bs ce env, .rdmaRead qp psn va rkey len ce env, .fetchAdd qp psn va rkey a ce,
      .cmpSwap qp psn va rkey a b ce, .send qp psn bs ce], AnswersThen c s s) ∧
    (s.qpAccepts qp = true → ∀ c ∈ [(Instr.rdmaWrite qp psn va rkey bs ce env, bs.length), (.rdmaRead qp psn va rkey len ce env, 0),
      (.fetchAdd qp psn va rkey a ce, 8), (.cmpSwap qp psn va rkey a b ce, 16), (.send qp psn bs ce, bs.length)],
      s.policeAll (portEth (s.qpPort qp)) vcREQ (s.frameLens qp c.2) = (none, v) → AnswersThen c.1 s v) ∧
    (s.hostAdmits v qp psn 8 → v.qpBusy qp = true ∨ (v.qpx qp).waiting ≠ [] → ∃ u, AnswersThen (.fetchAdd qp psn va rkey a false) s u ∧
      (u.qpx qp).waiting = (v.qpx qp).waiting ++ [(.atomic psn va rkey 0x21 (a % 2 ^ 64) 0, false)] ∧ u.mem = s.mem ∧ u.fab = s.fab) ∧
    (s.hostTurn v qp psn bs.length → qp < windowQp → bs ≠ [] →
      (v.regionCheck qp va rkey bs.length rWRITE = .ok t → ∃ w, AnswersThen (.rdmaWrite qp psn va rkey bs false env) s
          ((w : State).storeFor (.rdmaWrite qp psn va bs.length) qp t.ext.cls t.dga (unmarked bs) vcREQ (fun _ => 0)) ∧
        (w.qpx qp).expected = (psn + v.psnsOf qp bs.length) % 2 ^ 24 ∧ w.fab = s.fab ∧ w.mem = s.mem) ∧
      (∀ e, v.regionCheck qp va rkey bs.length rWRITE = .error e →
        ∃ w, AnswersThen (.rdmaWrite qp psn va rkey bs false env) s ((w : State).rdmaFail qp psn e.1) ∧ w.fab = s.fab ∧ w.mem = s.mem)) ∧
    (s.hostTurn v qp psn 0 → qp < windowQp → len ≠ 0 →
      (v.regionCheck qp va rkey len rREAD = .ok t → ∃ w, AnswersThen (.rdmaRead qp psn va rkey len false env) s
          ((w : State).loadFor (.rdmaRead qp psn va len) qp t.ext.cls t.dga len vcREQ) ∧
        (w.qpx qp).expected = (psn + v.psnsOf qp len) % 2 ^ 24 ∧ w.fab = s.fab ∧ w.mem = s.mem) ∧
      (∀ e, v.regionCheck qp va rkey len rREAD = .error e →
        ∃ w, AnswersThen (.rdmaRead qp psn va rkey len false env) s ((w : State).rdmaFail qp psn e.1) ∧ w.fab = s.fab ∧ w.mem = s.mem)) ∧
    (s.hostTurn v qp psn 0 → windowQp ≤ qp → rkey ≠ 0 ∨ dgaWin va ≠ 3 ∨ len = 0 ∨ 4096 < len →
      ∃ w, AnswersThen (.rdmaRead qp psn va rkey len false env) s ((w : State).rdmaFail qp psn .badDescriptor) ∧ w.fab = s.fab ∧ w.mem = s.mem) ∧
    (∀ c ∈ [(Instr.fetchAdd qp psn va rkey a false, 0x21, 8), (.cmpSwap qp psn va rkey a b false, 0x24, 16)], s.hostTurn v qp psn c.2.2 → qp < windowQp →
      (v.regionCheck qp va rkey 8 rATOMIC = .ok t → t.dga % 8 = 0 → v.route t.dga t.ext.cls = .ok d → ∃ w p k, AnswersThen c.1 s ((w : State).issue p (.xfer k 0)) ∧
        p.op = opATOMIC ∧ p.dst = d ∧ p.addr = t.dga ∧ p.atype = c.2.1 ∧ p.size = 7 ∧ p.ctx = qp ∧ (w.qpx qp).expected = (psn + 1) % 2 ^ 24 ∧ w.mem = s.mem) ∧
      (∀ e, v.regionCheck qp va rkey 8 rATOMIC = .error e → ∃ w, AnswersThen c.1 s ((w : State).rdmaFail qp psn e.1) ∧ w.fab = s.fab ∧ w.mem = s.mem)) ∧
    (s.hostTurn v qp psn bs.length → qp < windowQp →
      (v.fld F.ETH_QP_CFG_SEND_EN qp = 0 ∨ bs.length % 64 ≠ 0 ∨ bs = [] ∨ 4096 < bs.length →
        ∃ w, AnswersThen (.send qp psn bs false) s ((w : State).rdmaFail qp psn .badDescriptor) ∧ w.fab = s.fab ∧ w.mem = s.mem) ∧
      (v.fld F.ETH_QP_CFG_SEND_EN qp ≠ 0 → bs.length % 64 = 0 → bs ≠ [] → bs.length ≤ 4096 → ∀ q m k, q = v.fld F.ETH_QP_CFG_SEND_QUEUE qp →
        m = mod32 (v.sendTail q + bs.length / 64) → k = v.queueK q →
        (2 ^ k < diff32 m (v.queueHead q) → ∃ w, AnswersThen (.send qp psn bs false) s ((w : State).ethEmit qp false 0 (.rnrNak psn)) ∧
          (w.qpx qp).expected = psn ∧ w.fab = s.fab ∧ w.mem = s.mem) ∧
        (diff32 m (v.queueHead q) ≤ 2 ^ k → ∀ base, v.ringBase q = .ok base → ∃ w x, AnswersThen (.send qp psn bs false) s
            ((List.range (bs.length / 64)).foldl (fun (w : State) i => w.addStore x qp 0 (base + 64 * ((v.sendTail q + i) % 2 ^ k + 1))
              (unmarked (slice bs (64 * i) 64)) vcREQ true (fun _ => 0)) w) ∧
          (w.qpx qp).expected = (psn + v.psnsOf qp bs.length) % 2 ^ 24 ∧ w.mem = s.mem)))) ∧
  (∀ (s : State) (qp psn code : Nat) (bs : List Byte) (r : EthReq), s.serves [24] = true →
    (s.qpState qp ≠ .rts → AnswersThen (.roceAck qp psn code bs) s s) ∧
    (s.qpState qp = .rts →
      (∀ done, done = covered psn (!bs.isEmpty) (s.qpx qp).outstanding →
        ∃ v, AnswersThen (.roceAck qp psn 0 bs) s (done.foldl (fun (s : State) r => s.ethReqDone r bs) v) ∧ v.mem = s.mem ∧ v.regs = s.regs ∧
          (v.qpx qp).outstanding = (s.qpx qp).outstanding.drop done.length) ∧
      AnswersThen (.roceAck qp psn 2 bs) s (s.qpRetry qp) ∧
      (code ≠ 0 → code ≠ 2 → (s.qpx qp).outstanding.find? (fun r => r.psn == psn) = some r →
        ∃ v st, AnswersThen (.roceAck qp psn code bs) s (((v : State).ethReqFailed r.owner st).qpFail qp st) ∧ (st = .access ↔ code = 1) ∧
          v.mem = s.mem ∧ v.regs = s.regs ∧ r ∉ (v.qpx qp).outstanding)) ∧
    ((s.qpx qp).outstanding = [] → AnswersThen (.qpAckTimeout qp) s s) ∧
    (∀ rest, (s.qpx qp).outstanding = r :: rest →
      (r.tries < s.fld F.ETH_QP_CFG_RETRY qp → ∃ u, AnswersThen (.qpAckTimeout qp) s u ∧ r.sent + 4096 * 2 ^ s.fld F.ETH_QP_CFG_TIMEOUT qp ≤ u.now ∧
        (u.qpx qp).outstanding = (r :: rest).map (fun e => { e with tries := e.tries + 1, sent := u.now }) ∧ u.mem = s.mem) ∧
      (s.fld F.ETH_QP_CFG_RETRY qp ≤ r.tries → ∃ v, AnswersThen (.qpAckTimeout qp) s (((v : State).ethReqFailed r.owner .timeout).qpFail qp .timeout) ∧
        (v.qpx qp).outstanding = rest ∧ v.regs = s.regs ∧ v.mem = s.mem)) ∧
    (∃ u c, Answers (.cnp qp) s u ∧ (c = s.fld F.ETH_QP_STATUS_RATE qp * (512 - s.fld F.ETH_CC_ALPHA) / 512 ∨
        (c = s.fld F.ETH_QP_STATUS_RATE qp * (512 - s.fld F.ETH_CC_ALPHA) / 512 + 1 ∧ s.fld F.ETH_QP_STATUS_RATE qp * (512 - s.fld F.ETH_CC_ALPHA) % 512 ≠ 0)) ∧
      u.fld F.ETH_QP_STATUS_RATE qp = max c (s.fld F.ETH_CC_MIN_RATE) % 2 ^ F.ETH_QP_STATUS_RATE.width ∧ (u.qpx qp).lastCut = s.now ∧
      s.keepsFields u [F.ETH_QP_STATUS_RATE.key qp]) ∧
    (∃ u, Answers .ccRecoverTimer s u ∧ s.eth.recoverAt + s.fld F.ETH_CC_RECOVER_US * 1000 ≤ u.now ∧ u.eth.recoverAt = u.now ∧ u.mem = s.mem ∧
      ∀ x, s.eth.qps = [(qp, x)] → x.lastCut ≤ s.eth.recoverAt →
        u.fld F.ETH_QP_STATUS_RATE qp = min 4000 (s.fld F.ETH_QP_STATUS_RATE qp + s.fld F.ETH_CC_AI_RATE)))

/-- R376, R377, R388, R389, R317: pause frames, their refresh, expiry and watchdog; answers to address resolution and echo for the port's own
address; frames not taken; the state of a link; the oldest frame that is not paused leaves. -/
def Obligations.HostPorts : Prop :=
  ∀ (s : State) (port prio quanta hi lo n : Nat), s.serves [24] = true → port < 4 → prio < 8 →
    (quanta ≠ 0 → ∃ u, Answers (.pfcFrame port prio quanta) s u ∧ u.fldBit (F.ETH_PORT_STATUS_PAUSED.at port) prio = true ∧
      u.eth.pauseUntil.get? (prioKey port prio) = some (s.now + quantaNs quanta) ∧ s.keepsFields u [(F.ETH_PORT_STATUS_PAUSED.at port).key 0]) ∧
    (∃ u, Answers (.pfcFrame port prio 0) s u ∧ u.fldBit (F.ETH_PORT_STATUS_PAUSED.at port) prio = false ∧ u.eth.pauseUntil.get? (prioKey port prio) = none) ∧
    (∀ t, s.eth.pauseUntil.get? (prioKey port prio) = some t → ∃ u, Answers (.pfcPauseExpiry port prio) s u ∧ t ≤ u.now ∧
      u.fldBit (F.ETH_PORT_STATUS_PAUSED.at port) prio = false ∧ u.eth.pauseUntil.get? (prioKey port prio) = none) ∧
    (s.eth.pauseUntil.get? (prioKey port prio) = none → Answers (.pfcPauseExpiry port prio) s s) ∧
    (s.fldBit (F.ETH_PORT_STATUS_XOFF.at port) prio = true → ∃ u, Answers (.pfcXoffRefresh port prio) s u ∧ u.regs = s.regs ∧
      u.eth.tx = s.eth.tx ++ [⟨port, 0, false, .pfc prio (s.fld F.ETH_PFC_QUANTA)⟩] ∧ u.now = s.now + quantaNs (s.fld F.ETH_PFC_QUANTA) / 2) ∧
    (s.fldBit (F.ETH_PORT_STATUS_XOFF.at port) prio = false → Answers (.pfcXoffRefresh port prio) s s) ∧
    (∀ t, s.eth.pausedSince.get? (prioKey port prio) = some t → ∃ u, Answers (.pfcWatchdog port prio) s u ∧ t + s.fld F.ETH_PFC_WD_MS * 1000000 ≤ u.now ∧
      (∀ f, f ∈ u.eth.queue ↔ f ∈ s.eth.queue ∧ ¬(f.port = port ∧ f.prio = prio)) ∧ u.eth.wdEpisode.get? (prioKey port prio) = some true) ∧
    (s.eth.pausedSince.get? (prioKey port prio) = none → Answers (.pfcWatchdog port prio) s s) ∧
    (∀ c ∈ [(Instr.arpRequest port hi lo, 64, EthMsg.arpReply), (.neighbourSolicitation port hi lo, 86, .neighbourAdvert), (.icmpEcho port hi lo n, n, .echoReply)],
      (s.ethPortOn port true = true → s.fld (F.ETH_PORT_CFG_MAC.at port) ≠ 0 → s.fld (F.ETH_PORT_GID_HI_GID.step 16 port) = hi →
        s.fld (F.ETH_PORT_GID_LO_GID.step 16 port) = lo → ∃ u, Answers c.1 s u ∧ u.regs = s.regs ∧
          u.eth.queue = s.eth.queue ++ [⟨port, 0, 0, false, c.2.1, s.now, false, c.2.2⟩]) ∧
      (s.ethPortOn port true = false → Answers c.1 s s)) ∧
    (∃ u, Answers (.ethFrameDiscard port true) s u ∧ s.counted u (F.ETH_PORT_COUNT_ICRC_FAIL.at port) ∧ s.keepsFields u [(F.ETH_PORT_COUNT_ICRC_FAIL.at port).key 0]) ∧
    (∃ u, Answers (.ethFrameDiscard port false) s u ∧ s.counted u (F.ETH_PORT_COUNT_DISCARDED.at port) ∧ s.keepsFields u [(F.ETH_PORT_COUNT_DISCARDED.at port).key 0]) ∧
    (∀ up : Bool, ∃ u, AnswersThen (.ethLinkChange port up) s u ∧ s.keepsFields u [(F.ETH_PORT_STATUS_LINK.at port).key 0] ∧
      u.fld (F.ETH_PORT_STATUS_LINK.at port) = (if s.ethPortOn port true then (if up then 2 else 1) else 0)) ∧
    (s.islandOn 17 = true → s.gated = false → ∀ f ok, ok = (fun (f : EthFrame) => f.port == port && !s.fldBit (F.ETH_PORT_STATUS_PAUSED.at port) f.prio) →
      s.eth.queue.find? (fun f => ok f && !f.bulk) = some f ∨
        (s.eth.queue.find? (fun f => ok f && !f.bulk) = none ∧ s.eth.queue.find? (fun f => ok f && f.bulk) = some f) →
      ∃ u ce, AnswersThen (.egressArbitration (96 + port)) s u ∧ u.eth.tx = s.eth.tx ++ [⟨port, f.qp, ce, f.msg⟩] ∧
        u.eth.queue.length + 1 = s.eth.queue.length ∧ u.mem = s.mem ∧ u.regs = s.regs)

/-- R384, R387, R391: REGISTER of a range that is covered whole takes an index and shows its RKEY, DEREGISTER withdraws it; PUSH and PULL begin a
seat's transfer after their checks and ABORT ends it; a Sync corrects the clock: within 100 ns it counts towards lock, beyond 1 us it steps the time
and unlocks; a master that falls silent is dropped. -/
def Obligations.SeatTransfersAndTime : Prop :=
  ∀ (s : State) (ch : ChanId) (n c rights rkey qp va pages len : Nat) (x : SeatId) (es : List Extent) (r : MemRegion) (t : Xlated) (j : SeatXfer),
    (s.commandedBy ch n x → c < 8192 → va = s.fld F.ETH_MR_VA_VALUE x.idx → pages = s.fld F.ETH_MR_LEN_VALUE x.idx → len = s.fld F.ETH_XFER_LEN_VALUE x.idx →
      (rights % 8 = 0 → ∃ u, AnswersThen (.mrRegister ch c rights) s u ∧ u.fld F.ETH_MR_STATUS_STATUS x.idx = Status.badDescriptor.code ∧ u.eth = s.eth) ∧
      (rights % 8 ≠ 0 → va % 4096 = 0 → pages ≠ 0 → pages < 2 ^ 37 → s.ctxEnabled c = true → va + pages * pageBytes ≤ 2 ^ 56 →
        (∀ st, va < 2 ^ 56 → s.regionExtents c va (pages * pageBytes) = .error st →
          ∃ u, AnswersThen (.mrRegister ch c rights) s u ∧ u.fld F.ETH_MR_STATUS_STATUS x.idx = st.code ∧ u.eth = s.eth) ∧
        (∀ i, va < 2 ^ 56 → s.regionExtents c va (pages * pageBytes) = .ok es →
          (List.range 65536).find? (fun i => match s.eth.regions.get? i with | some r => !r.valid | none => true) = some i →
          ∃ u g, AnswersThen (.mrRegister ch c rights) s u ∧ u.eth.regions.get? i = some ⟨g, true, c, va, pages, rights % 8, es.map (fun e => ⟨e.va, e.len, e.dga, e.cls⟩)⟩ ∧
            u.fld F.ETH_MR_STATUS_STATUS x.idx = 0 ∧ u.fld F.ETH_MR_STATUS_RKEY x.idx = (g * 65536 + i) % 2 ^ F.ETH_MR_STATUS_RKEY.width ∧ u.mem = s.mem)) ∧
      (s.eth.regions.get? (rkey % 65536) = none → ∃ u, AnswersThen (.mrDeregister ch rkey) s u ∧
        u.fld F.ETH_MR_STATUS_STATUS x.idx = Status.badDescriptor.code ∧ u.eth = s.eth) ∧
      (s.eth.regions.get? (rkey % 65536) = some r → r.valid = true → r.gen = rkey / 65536 → ∃ u, AnswersThen (.mrDeregister ch rkey) s u ∧
        u.eth.regions.get? (rkey % 65536) = some { r with valid := false } ∧ u.fld F.ETH_MR_STATUS_STATUS x.idx = 0) ∧
      (∀ i ∈ [(Instr.xferPush ch rkey qp, true, rREAD), (.xferPull ch rkey qp, false, rWRITE)],
        (8192 ≤ qp → qp < 16384 → ∃ u, AnswersThen i.1 s u ∧ (s.asked ch).reports u x n 0x160418 .bounds) ∧
        (qp < 8192 → (len = 0 → ∃ u, AnswersThen i.1 s u ∧ u.fld F.ETH_XFER_STATUS_STATUS x.idx = Status.badDescriptor.code ∧ u.eth = s.eth) ∧
         (len ≠ 0 → len < 2 ^ 40 →
          ((s.seatXfer x).isSome = true ∨ s.qpState qp ≠ .rts → ∃ u, AnswersThen i.1 s u ∧ u.fld F.ETH_XFER_STATUS_STATUS x.idx = Status.stateConflict.code ∧ u.eth = s.eth) ∧
          (s.seatXfer x = none → s.qpState qp = .rts →
            (∀ st y, s.translateAt qp (s.fld F.ETH_XFER_LVA_VALUE x.idx) len i.2.2 = .error (st, y) →
              ∃ u, AnswersThen i.1 s u ∧ u.fld F.ETH_XFER_STATUS_STATUS x.idx = st.code ∧ u.eth = s.eth) ∧
            (s.translateAt qp (s.fld F.ETH_XFER_LVA_VALUE x.idx) len i.2.2 = .ok t →
              (dgaWin t.dga = 2 → t.dga % 4096 ≠ 0 ∨ len % 4096 ≠ 0 →
                ∃ u, AnswersThen i.1 s u ∧ u.fld F.ETH_XFER_STATUS_STATUS x.idx = Status.access.code ∧ u.eth = s.eth) ∧
              (dgaWin t.dga = 2 → t.dga % 4096 = 0 ∧ len % 4096 = 0) → ∃ v, AnswersThen i.1 s ((v : State).xferStep x) ∧
                v.seatXfer x = some ⟨i.2.1, qp, qp, s.fld F.ETH_XFER_RVA_VALUE x.idx, rkey, len, t.dga, t.ext.cls, t.ext.va, 0, 0⟩ ∧
                v.fld F.ETH_XFER_STATUS_BUSY x.idx = 1 ∧ v.fld F.ETH_XFER_STATUS_DONE_BYTES x.idx = 0 ∧ v.mem = s.mem ∧ v.fab = s.fab))))) ∧
      (s.seatXfer x = none → ∃ u, AnswersThen (.xferAbort ch) s u ∧ u.fld F.ETH_XFER_STATUS_STATUS x.idx = Status.stateConflict.code ∧ u.eth = s.eth) ∧
      (s.seatXfer x = some j → ∃ u, AnswersThen (.xferAbort ch) s u ∧ u.seatXfer x = none ∧ u.fld F.ETH_XFER_STATUS_BUSY x.idx = 0 ∧
        u.fld F.ETH_XFER_STATUS_STATUS x.idx = Status.stateConflict.code)) ∧
    (s.serves [24] = true → ∀ port dom off, port < 4 →
      (s.fldBit F.ETH_PTP_CFG_PORTS port = false ∨ dom % 256 ≠ s.fld F.ETH_PTP_CFG_DOMAIN → AnswersThen (.ptpMessage port dom off) s s) ∧
      (s.fldBit F.ETH_PTP_CFG_PORTS port = true → dom % 256 = s.fld F.ETH_PTP_CFG_DOMAIN →
        (s.fld F.ETH_PTP_STATUS_SOURCE = 2 → 100 < off.natAbs ∨ s.eth.goodSyncs < 15 → ∃ u, AnswersThen (.ptpMessage port dom off) s u ∧
          s.keepsFields u [(F.ETH_PORT_STATUS_PTP.at port).key 0] ∧ u.eth.goodSyncs = (if off.natAbs ≤ 100 then s.eth.goodSyncs + 1 else 0)) ∧
        (s.fld F.ETH_PTP_STATUS_SOURCE ≠ 2 ∨ (off.natAbs ≤ 100 ∧ 15 ≤ s.eth.goodSyncs) → ∃ u, AnswersThen (.ptpMessage port dom off) s u ∧
          u.fld F.ETH_PTP_STATUS_SOURCE = 1 ∧ u.fld F.ETH_PTP_STATUS_PORT = port ∧ u.eth.tx = s.eth.tx ++ [⟨port, 0, false, .delayReq⟩] ∧ u.mem = s.mem ∧
          (off.natAbs ≤ 100 → u.eth.goodSyncs = s.eth.goodSyncs + 1 ∧ (16 ≤ s.eth.goodSyncs + 1 → u.timeLocked = true)) ∧
          (1000 < off.natAbs → u.eth.goodSyncs = 0 ∧ u.timeLocked = false ∧ u.eth.timeOffset = s.eth.timeOffset - off ∧ s.counted u F.ETH_PTP_STATUS_STEPS))) ∧
      (s.fld F.ETH_PTP_STATUS_SOURCE = 1 → ∃ u, AnswersThen .ptpAnnounceTimeout s u ∧ u.fld F.ETH_PTP_STATUS_SOURCE = 0 ∧ u.eth.goodSyncs = 0 ∧ u.timeLocked = false) ∧
      (s.fld F.ETH_PTP_STATUS_SOURCE ≠ 1 → ∃ u, AnswersThen .ptpAnnounceTimeout s u ∧ u.eth.goodSyncs = 0 ∧ u.regs = s.regs ∧ u.mem = s.mem))

/-! ### Errors, recovery and security (spec/15, spec/16) -/

/-- R397: a sentinel that is due on an engine whose core runs passes, is run once more after a first mismatch, or faults the core after the second;
one that is not due has no effect. -/
def Obligations.Sentinels : Prop :=
  ∀ (s : State) (e : Nat) (pass : Bool), s.serves [] = true → e < 32 →
    (s.ras.sentinelDue.contains e = false ∨ (s.core (e / 2)).state.serves = false → AnswersThen (.sentinelDone e pass) s s) ∧
    (s.ras.sentinelDue.contains e = true → (s.core (e / 2)).state.serves = true →
      (∃ u, AnswersThen (.sentinelDone e true) s u ∧ u.fld (F.RAS_ENGINE_STATE.at e) = 1 ∧ s.counted u F.RAS_SENTINEL_PASSED ∧
        u.fld (F.RAS_ENGINE_LAST_PASS.at e) = (s.fld F.RAS_STEP_COUNT - (s.fld F.RAS_STEP_COUNT - e) % 32) % 2 ^ F.RAS_ENGINE_LAST_PASS.width ∧
        e ∉ u.ras.sentinelDue ∧ u.qnc = s.qnc ∧ u.mem = s.mem ∧
        (s.ras.sentinelRerun.contains e = true → s.counted u F.RAS_SENTINEL_TRANSIENT ∧
          (s.ras.recent = [] → ∃ r ∈ u.ras.log, r.2.unit = .qnc ∧ r.2.status = .done ∧ r.2.corrected = true ∧ r.2.index = e))) ∧
      (s.ras.sentinelRerun.contains e = false → ∃ u, AnswersThen (.sentinelDone e false) s u ∧ e ∈ u.ras.sentinelRerun ∧ e ∈ u.ras.sentinelDue ∧
        u.regs = s.regs ∧ u.qnc = s.qnc) ∧
      (s.ras.sentinelRerun.contains e = true → ∃ u, AnswersThen (.sentinelDone e false) s u ∧ u.fld (F.RAS_ENGINE_STATE.at e) = 2 ∧
        s.counted u F.RAS_SENTINEL_PERSISTENT ∧ (u.core (e / 2)).state = .faulted ∧ e ∉ u.ras.sentinelDue ∧
        (∃ r ∈ u.ras.log, r.2.unit = .qnc ∧ r.2.status = .internal ∧ r.2.index = e ∧
          (s.ras.recent = [] → r.2.syndrome = s.fld (F.RAS_ENGINE_LAST_PASS.at e)))))

/-- R407, R409: an engine that has made no progress for CMD_MS stops its core, which enters RESETTING under an L1; unless a quarantine runs already,
the requests that ran on the engine become the suspects, the hung one last. R410: a run of quarantine that hangs names its context guilty and orders
a further L1; one that completes passes to the next suspect, or ends the quarantine unattributed, the second time on one core within 10 s with the
core FAULTED. -/
def Obligations.HangsAndQuarantine : Prop :=
  (∀ (s : State) (n e last : Nat), s.serves [] = true → n < 16 → e < 3 →
    (s.onEngine n e = none → AnswersThen (.engineWatchdog n e last) s s) ∧
    (∀ hung, s.onEngine n e = some hung → ∃ u, AnswersThen (.engineWatchdog n e last) s u ∧ (u.core n).state = .resetting ∧
      s.counted u F.RAS_HANG_HANGS ∧ (⟨1, n, false⟩ : ResetRun) ∈ u.ras.running ∧ last + s.fld F.RAS_WDOG_CMD_MS * nsPerMs ≤ u.now ∧
      (∀ m, m ≠ n → (u.core m).state = (s.core m).state) ∧
      (s.quarantined = false → u.ras.hungCore = some n ∧ u.ras.suspects.getLast? = some hung ∧ u.ras.suspects.length ≤ 8) ∧
      (s.quarantined = true → u.ras.hungCore = s.ras.hungCore ∧ u.ras.suspects = s.ras.suspects))) ∧
  (∀ (s : State) (n : Nat) (x : Suspect) (rest : List Suspect), s.serves [] = true → n = s.fld F.RAS_QUAR_CORE → n < 16 → s.ras.stopped = [] →
    (s.fld F.RAS_QUAR_STATE ≠ 1 → ∀ h, AnswersThen (.quarantineRunDone h) s s) ∧
    (s.fld F.RAS_QUAR_STATE = 1 → (s.core n).state = .idle → s.ras.suspects = x :: rest →
      (∃ u, AnswersThen (.quarantineRunDone true) s u ∧ u.fld F.RAS_QUAR_GUILTY_VALID = 1 ∧ u.fld F.RAS_QUAR_GUILTY_CTX = x.ctx % 2 ^ 13 ∧
        u.fld F.RAS_QUAR_STATE = 0 ∧ u.ras.suspects = [] ∧ s.counted u F.RAS_HANG_GUILTY ∧ (u.core n).state = .resetting ∧
        (⟨1, n, false⟩ : ResetRun) ∈ u.ras.running ∧ u.mem = s.mem) ∧
      (rest ≠ [] → ∃ u, AnswersThen (.quarantineRunDone false) s u ∧ u.ras.suspects = rest ∧ u.fld F.RAS_QUAR_STATE = 1 ∧
        s.keepsFields u [F.RAS_QUAR_LEFT.key 0] ∧ u.mem = s.mem) ∧
      (rest = [] → ∃ u, AnswersThen (.quarantineRunDone false) s u ∧ u.fld F.RAS_QUAR_GUILTY_VALID = 0 ∧ u.fld F.RAS_QUAR_STATE = 0 ∧
        s.counted u F.RAS_HANG_UNATTRIBUTED ∧ u.ras.lastUnattributed = some (n, s.now) ∧ u.mem = s.mem ∧
        (∀ t, s.ras.lastUnattributed = some (n, t) → s.now < t + 10000 * nsPerMs → (u.core n).state = .faulted) ∧
        (s.ras.lastUnattributed = none → (u.core n).state = .idle))))

/-- R402: the seat that holds semaphore 2 discards the records before UPTO, which lies between TAIL and HEAD; any other UPTO is refused `BOUNDS`,
and a seat without the semaphore `SEM_NOT_HELD`. R431: GENERATE latches bytes 0 to 575 of the seat's report, of this state and this seat's nonce;
the report is ready with both signatures after them. It is refused while the seat's last report is formed, and where there is no identity. -/
def Obligations.LogAndReports : Prop :=
  (∀ (s : State) (ch : ChanId) (n upto tail : Nat) (x : SeatId), upto < 2 ^ 32 → tail = s.fld F.RAS_LOG_PTR_TAIL →
    (s.guardedBy ch n x 2 →
      (diff32 (s.fld F.RAS_LOG_PTR_HEAD) tail < diff32 upto tail → ∃ u, Answers (.logClear ch upto) s u ∧ (s.asked ch).reports u x n 0x180060 .bounds) ∧
      (diff32 upto tail ≤ diff32 (s.fld F.RAS_LOG_PTR_HEAD) tail → ∃ u, Answers (.logClear ch upto) s u ∧
        u.fld F.RAS_LOG_PTR_TAIL = (tail + diff32 upto tail) % 2 ^ 32 ∧
        (∀ r, r ∈ u.ras.log ↔ r ∈ s.ras.log ∧ diff32 upto tail ≤ diff32 r.1 tail) ∧
        s.keepsFields u ([F.RAS_LOG_PTR_TAIL.key 0, F.RAS_LOG_STAT_HELD.key 0] ++ collideKeys) ∧ u.mem = s.mem)) ∧
    (s.unguarded ch n x 2 → ∃ u, Answers (.logClear ch upto) s u ∧ (s.asked ch).reports u x n 0x180060 .semNotHeld)) ∧
  (∀ (s : State) (ch : ChanId) (n : Nat) (x : SeatId),
    (s.commandedBy ch n x →
      (s.sec.forming.contains x = true → ∃ u, Answers (.reportGenerate ch) s u ∧ (s.asked ch).reports u x n 0x1A0120 .stateConflict) ∧
      (s.sec.forming.contains x = false → s.fld F.SEC_STATE_PUF ≠ 1 →
        ∃ u, Answers (.reportGenerate ch) s u ∧ (s.asked ch).reports u x n 0x1A0120 .authFail) ∧
      (s.sec.forming.contains x = false → s.fld F.SEC_STATE_PUF = 1 → ∃ u, Answers (.reportGenerate ch) s u ∧ x ∈ u.sec.forming ∧
        u.fld F.SEC_REPORT_STATUS_BUSY x.idx = 1 ∧ (u.report x).length = 576 ∧ field (u.report x) 0 4 = 0x54524D44 ∧ field (u.report x) 4 2 = 1 ∧
        field (u.report x) 8 8 = s.fld F.SEC_FW_VERSION_VERSION % 2 ^ 64 ∧ field (u.report x) 24 8 = s.fld F.SIL_FULL_SERIAL_SERIAL % 2 ^ 64 ∧
        field (u.report x) 48 1 = s.position % 256 ∧ field (u.report x) 49 1 = s.devnum % 256 ∧ u.report x.other = s.report x.other ∧
        s.keepsFields u [F.SEC_REPORT_STATUS_BUSY.key x.idx] ∧ u.mem = s.mem)) ∧
    (s.serves [] = true →
      (s.sec.forming.contains x = false → Answers (.reportReady x) s s) ∧
      (s.sec.forming.contains x = true → ∃ u, Answers (.reportReady x) s u ∧ u.fld F.SEC_REPORT_STATUS_BUSY x.idx = 0 ∧
        u.fld F.SEC_REPORT_STATUS_STATUS x.idx = Status.done.code ∧ x ∉ u.sec.forming ∧ (u.report x).take (s.report x).length = s.report x ∧
        (u.report x).length = (s.report x).length + 3392 ∧ u.report x.other = s.report x.other ∧
        s.keepsFields u [F.SEC_REPORT_STATUS_BUSY.key x.idx, F.SEC_REPORT_STATUS_STATUS.key x.idx, F.SEC_REPORT_STATUS_SEQ.key x.idx])))

/-- R416: a reset whose target lies within a running reset of equal or wider scope is refused `STATE_CONFLICT`, and so is an L4 or L5 while a member
is ADMITTING; one of wider scope absorbs a narrower one that runs, whose outcome is then posted as `STATE_CONFLICT`. -/
def Obligations.ResetScopes : Prop :=
  ∀ (s : State) (ch : ChanId) (n t : Nat) (x : SeatId) (puf : Bool) (info : StartInfo) (q : ResetRun), t < 8192 →
    (s.commandedBy ch n x → ∀ c ∈ [((Instr.resetL0 ch t), 0, 8192), (.resetL1 ch t, 1, 16), (.resetL2 ch t, 2, 0x60)], t < c.2.2 →
      s.ras.running.any (fun q => q.covers ⟨c.2.1, t, true⟩) = true → ∃ u, AnswersThen c.1 s u ∧ (s.asked ch).reports u x n 0x180200 .stateConflict) ∧
    (s.guardedBy ch n x 0 →
      (1 ≤ t → t ≤ 25 → s.ras.running.any (fun q => q.covers ⟨3, t, true⟩) = true →
        ∃ u, AnswersThen (.resetL3 ch t puf) s u ∧ (s.asked ch).reports u x n 0x180208 .stateConflict) ∧
      (s.membersIn .admitting ≠ [] ∨ s.ras.running.any (fun q => q.covers ⟨4, 0, true⟩) = true →
        ∃ u, AnswersThen (.resetL4 ch) s u ∧ (s.asked ch).reports u x n 0x180208 .stateConflict) ∧
      (s.membersIn .admitting ≠ [] ∨ s.ras.running.any (fun q => q.covers ⟨5, 0, true⟩) = true →
        ∃ u, AnswersThen (.resetL5 ch info) s u ∧ (s.asked ch).reports u x n 0x180208 .stateConflict) ∧
      (s.ras.running = [q] → q.level < 8 →
        (1 ≤ t → t ≤ 25 → q.covers ⟨3, t, true⟩ = false → (⟨3, t, true⟩ : ResetRun).covers q = true →
          ∃ v, AnswersThen (.resetL3 ch t puf) s ((v : State).islandReset t puf) ∧ v.ras.running = [⟨3, t, true⟩] ∧ v.absorbed q) ∧
        (s.membersIn .admitting = [] → q.covers ⟨4, 0, true⟩ = false → (⟨4, 0, true⟩ : ResetRun).covers q = true →
          ∃ v, AnswersThen (.resetL4 ch) s (v : State).warmReset ∧ v.ras.running = [⟨4, 0, true⟩] ∧ v.absorbed q) ∧
        (s.membersIn .admitting = [] → q.covers ⟨5, 0, true⟩ = false → (⟨5, 0, true⟩ : ResetRun).covers q = true →
          ∃ v, AnswersThen (.resetL5 ch info) s ((((v : State).coldReset true).startCause 2 false).showResets.boot info false) ∧
            v.ras.running = [⟨5, 0, true⟩] ∧ v.absorbed q)))

/-- R411, R413: L0 of a context holds its requests and clears its poison latch and fault fields; L1 stops what runs on a core; L2 retrains the lanes
of a port. A target that is not there is refused `BOUNDS`. R411, R413: the end of a reset of a context, a core or a port posts its outcome; the
context's requests go on, the core is IDLE if it passed its test and FAULTED if not. R411, R413: the seat that holds semaphore 0 resets an island,
which stops and tests itself before it serves again, or the device; L4 and L5 end the seats' bindings and the work, and L5 the keys. -/
def Obligations.Resets : Prop :=
  (∀ (s : State) (ch : ChanId) (n t : Nat) (x : SeatId), s.commandedBy ch n x → t < 8192 →
    (∀ c ∈ [((Instr.resetL1 ch t), 16), (.resetL2 ch t, 0x60)], c.2 ≤ t → ∃ u, AnswersThen c.1 s u ∧ (s.asked ch).reports u x n 0x180200 .bounds) ∧
    (s.ras.running.any (fun q => q.covers ⟨0, t, true⟩) = false → ∃ u, AnswersThen (.resetL0 ch t) s u ∧ t ∈ u.xlt.heldCtx ∧
      (⟨0, t, true⟩ : ResetRun) ∈ u.ras.running ∧ u.fld F.RAS_RESET_STATUS_RUNNING = 1 ∧
      (∀ y ∈ u.xlt.etc, y.ctx ≠ t) ∧ u.fld F.XLT_CTX_FAULT_STATUS t = 0 ∧ u.works = s.works ∧ u.xlt.extents = s.xlt.extents ∧ u.mem = s.mem) ∧
    (t < 16 → s.ras.running.any (fun q => q.covers ⟨1, t, true⟩) = false → ∃ u, AnswersThen (.resetL1 ch t) s u ∧
      (⟨1, t, true⟩ : ResetRun) ∈ u.ras.running ∧ u.fld F.RAS_RESET_STATUS_RUNNING = 1 ∧
      (u.core t).state = (if (s.core t).state.serves then .resetting else (s.core t).state) ∧ (∀ m, m ≠ t → (u.core m).state = (s.core m).state)) ∧
    (t < 0x60 → s.ras.running.any (fun q => q.covers ⟨2, t, true⟩) = false → ∃ v : State, AnswersThen (.resetL2 ch t) s
        ((List.range (v.portWidth t)).foldl (fun s k => if s.laneState t k = .up then s.laneLost t k
          else if s.laneState t k = .down ∧ s.mayTrain t then s.setLane t k .training else s) v) ∧
      (⟨2, t, true⟩ : ResetRun) ∈ v.ras.running ∧ v.fld F.RAS_RESET_STATUS_RUNNING = 1 ∧ v.dom = s.dom ∧ v.mem = s.mem)) ∧
  (∀ (s : State) (r : ResetRun) (pass : Bool), s.serves [] = true →
    (s.ras.running.find? (fun q => q.level == r.level && q.target == r.target) = none → AnswersThen (.resetComplete r.level r.target pass) s s) ∧
    (s.ras.running.find? (fun q => q.level == r.level && q.target == r.target) = some r → r.level < 3 → ∃ u,
      AnswersThen (.resetComplete r.level r.target pass) s u ∧ r ∉ u.ras.running ∧ u.fld F.RAS_RESET_STATUS_STATUS = Status.done.code ∧
      u.fld F.RAS_RESET_STATUS_LEVEL = r.level ∧ u.fld F.RAS_RESET_STATUS_TARGET = r.target % 2 ^ 13 ∧
      (r.level = 0 → r.target ∉ u.xlt.heldCtx) ∧
      (r.level = 1 → r.target < 16 → (s.core r.target).state = .resetting → (u.core r.target).state = (if pass then .idle else .faulted)))) ∧
  (∀ (s : State) (ch : ChanId) (n isl : Nat) (x : SeatId) (puf : Bool) (info : StartInfo), isl < 32 →
    (s.guardedBy ch n x 0 →
      (isl = 0 ∨ 25 < isl → ∃ u, AnswersThen (.resetL3 ch isl puf) s u ∧ (s.asked ch).reports u x n 0x180208 .bounds) ∧
      (1 ≤ isl → isl ≤ 25 → s.ras.running.any (fun q => q.covers ⟨3, isl, true⟩) = false →
        (∃ v, AnswersThen (.resetL3 ch isl puf) s ((v : State).islandReset isl puf) ∧ (⟨3, isl, true⟩ : ResetRun) ∈ v.ras.running ∧
          v.fld F.RAS_RESET_STATUS_RUNNING = 1 ∧ v.fld F.RAS_RESET_DEEP_ISLAND = isl ∧ v.mem = s.mem) ∧
        (isl ≤ 24 → isl ≠ 18 → s.islandState isl = isON → ∃ u, AnswersThen (.resetL3 ch isl puf) s u ∧ u.islandState isl = isRESET ∧ isl ∈ u.pwr.testing ∧
          (isl ≤ 16 → (s.core (isl - 1)).state.serves = true → (u.core (isl - 1)).state = .resetting)) ∧
        (isl = 25 → ∃ u, AnswersThen (.resetL3 ch isl puf) s u ∧ u.ctl.entries = [] ∧ u.sec.keys = [] ∧ u.works = s.works ∧ u.mem = s.mem)) ∧
      (s.membersIn .admitting = [] → s.ras.running.any (fun q => q.covers ⟨4, 0, true⟩) = false → ∃ u, AnswersThen (.resetL4 ch) s u ∧
        u.fld F.RAS_RESET_CAUSE_CAUSE = 1 ∧ u.fld F.RAS_RESET_CAUSE_DEDUP_LOST = 0 ∧ u.ctl.entries = [] ∧ u.works = [] ∧ u.fab.reqs = [] ∧
        (∀ k, k < 16 → (u.core k).state = .off) ∧ (∀ k, 1 ≤ k → k ≤ 24 → u.islandState k ≠ isON) ∧
        (u.pwr.refWait = true ∨ u.fld F.PWR_START_PHASE = 3 ∨ u.fld F.PWR_START_PHASE = 8)) ∧
      (s.membersIn .admitting = [] → s.ras.running.any (fun q => q.covers ⟨5, 0, true⟩) = false →
        ∃ v, AnswersThen (.resetL5 ch info) s ((v : State).boot info false) ∧ v.fld F.RAS_RESET_CAUSE_CAUSE = 2 ∧ v.fld F.RAS_RESET_CAUSE_DEDUP_LOST = 0 ∧
          v.ctl.entries = [] ∧ v.works = [] ∧ v.sec.keys = [] ∧ ∀ k, 1 ≤ k → k ≤ 24 → v.islandState k = isOFF)) ∧
    (s.unguarded ch n x 0 → ∀ c ∈ [Instr.resetL3 ch isl puf, .resetL4 ch, .resetL5 ch info],
      ∃ u, AnswersThen c s u ∧ (s.asked ch).reports u x n 0x180208 .semNotHeld))

/-- R418, R419: who may start an admission, and the transitions that it follows at the custodian, each to ABANDONED with its status. -/
def Obligations.Admissions : Prop :=
  ∀ (s : State) (ch : ChanId) (n d sp : Nat) (x : SeatId) (pass : Bool), d < 64 → sp < 64 →
    (s.guardedBy ch n x 0 →
      (s.fldBit F.JNL_CUSTODY_DEVICES d = false → ∃ u, AnswersThen (.admitStart ch d sp) s u ∧ (s.asked ch).reports u x n 0x180300 .access) ∧
      (s.fldBit F.JNL_CUSTODY_DEVICES d = true → s.memberState d ≠ .failed ∨ s.memberState sp ≠ .spare ∨ s.membersIn .admitting ≠ [] →
        ∃ u, AnswersThen (.admitStart ch d sp) s u ∧ (s.asked ch).reports u x n 0x180300 .stateConflict) ∧
      (s.fldBit F.JNL_CUSTODY_DEVICES d = true → s.memberState d = .failed → s.memberState sp = .spare → s.membersIn .admitting = [] →
        s.admitIdle = true → ∃ u, AnswersThen (.admitStart ch d sp) s u ∧ u.admitting = adTESTING ∧ u.admitFor = d ∧ u.admitSpare = sp ∧
          s.keepsFields u ([F.RAS_ADMIT_STATUS_STATE.key 0, F.RAS_ADMIT_STATUS_SEQ.key 0, F.RAS_ADMIT_STATUS_FAILED_DEV.key 0,
            F.RAS_ADMIT_STATUS_SPARE_DEV.key 0, F.RAS_ADMIT_STATUS_STATUS.key 0, F.RAS_ADMIT_CMD_FAILED_DEV.key 0,
            F.RAS_ADMIT_CMD_SPARE_DEV.key 0] ++ collideKeys) ∧ u.mem = s.mem) ∧
      (s.admitOpen = true → s.admitSpare < 64 → ∃ u, AnswersThen (.admitAbort ch) s u ∧ u.admitting = adABANDONED ∧
        u.fld F.RAS_ADMIT_STATUS_STATUS = Status.stateConflict.code ∧ u.memberState s.admitSpare ≠ .admitting ∧ u.mem = s.mem) ∧
      (s.admitOpen = false → ∃ u, AnswersThen (.admitAbort ch) s u ∧ (s.asked ch).reports u x n 0x180300 .stateConflict)) ∧
    (s.unguarded ch n x 0 → ∀ c ∈ [Instr.admitStart ch d sp, .admitAbort ch],
      ∃ u, AnswersThen c s u ∧ (s.asked ch).reports u x n 0x180300 .semNotHeld) ∧
    (s.serves [] = true →
      (s.admitting = adTESTING → s.admitFor = d → s.admitSpare = sp →
        (s.layoutsEqual d sp = false → ∃ u, AnswersThen (.admitTestDone d sp pass) s u ∧ u.admitting = adABANDONED ∧
          u.fld F.RAS_ADMIT_STATUS_STATUS = Status.stateConflict.code) ∧
        (s.layoutsEqual d sp = true → ∃ u, AnswersThen (.admitTestDone d sp false) s u ∧ u.admitting = adABANDONED ∧
          u.fld F.RAS_ADMIT_STATUS_STATUS = Status.internal.code) ∧
        (s.layoutsEqual d sp = true → ∃ v, AnswersThen (.admitTestDone d sp true) s (((v : State).mirrorSpare d sp).admitState adLOADING) ∧
          v.memberState sp = .admitting ∧ v.mem = s.mem ∧ v.fab = s.fab)) ∧
      (s.admitting = adLOADING → ∃ u, AnswersThen .admitLoadDone s u ∧ u.admitting = adREADY ∧
        s.onlyFields u [F.RAS_ADMIT_STATUS_STATE.key 0, F.RAS_ADMIT_STATUS_SEQ.key 0]) ∧
      (s.admitting ≠ adLOADING → AnswersThen .admitLoadDone s s) ∧
      (s.admitOpen = true → ∃ u, AnswersThen .admitSpareTimeout s u ∧ u.admitting = adABANDONED ∧
        u.fld F.RAS_ADMIT_STATUS_STATUS = Status.timeout.code) ∧
      (s.admitOpen = false → AnswersThen .admitSpareTimeout s s))

/-- R420, R44: a rebinding waits until no request of this member to the failed number is unanswered; then the two numbers change places, the spare
is ACTIVE under the failed number and its former number RETIRED. One already applied is only answered. -/
def Obligations.Rebindings : Prop :=
  ∀ (s : State) (p : Packet) (d sp : Nat), s.serves [] = true → d = p.rebindFailed → sp = p.rebindFormer →
    (p.isRebind = false → AnswersThen (.rebindApply p) s (s.take p)) ∧
    (p.isRebind = true → s.dom.rebinds.contains (d, sp) = true → AnswersThen (.rebindApply p) s ((s.take p).respond p .done)) ∧
    (p.isRebind = true → s.dom.rebinds.contains (d, sp) = false → s.memberState d = .failed → s.ras.rebindHold = none →
      (s.openTo d = true → ∃ u, AnswersThen (.rebindApply p) s u ∧ u.ras.rebindHold = some p ∧ u.regs = s.regs ∧ u.fab.reqs = s.fab.reqs) ∧
      (s.openTo d = false → s.isSelf sp = false → s.isSelf d = false → p.src ≠ s.devnum → d ≠ sp → d < s.dom.members → sp < s.dom.members →
        s.fld (F.FAB_MEMBER_POSITION.at sp) < 64 → ∃ v, AnswersThen (.rebindApply p) s ((v : State).respond p .done) ∧
          v.memberState d = .active ∧ v.memberState sp = .retired ∧ v.fld F.RAS_REBIND_FAILED_DEV = d ∧
          v.fld F.RAS_REBIND_FORMER_DEV = sp ∧ s.counted v F.RAS_REBIND_COUNT ∧ v.ras.rebindHold = none ∧ (d, sp) ∈ v.dom.rebinds ∧
          v.fld (F.FAB_MEMBER_POSITION.at d) = s.fld (F.FAB_MEMBER_POSITION.at sp) ∧ v.mem = s.mem ∧ v.xlt = s.xlt))

/-- R437: the rows of the table of key commands in their order, under semaphore 1: an INSTALL unwraps the seat's import record into the entry of its
partition, never over another key; a DESTROY erases the key of a partition that holds nothing here; a change of an entry extends MR4. -/
def Obligations.KeyCommands : Prop :=
  ∀ (s : State) (ch : ChanId) (n part : Nat) (x : SeatId) (r key : List Byte), r = s.importRecord x → s.guardedBy ch n x 1 →
    (part = field r 0 2 % 4096 →
      (importReserved r = false → (s.sil.comp.partitions.get? (field r 0 2)).isNone = true →
        ∃ u, Answers (.keyInstall ch) s u ∧ s.keyShows u x part .badDescriptor ∧ u.sec.mrs = s.sec.mrs ∧ u.sec.keys = s.sec.keys) ∧
      (importReserved r = true → ∃ u, Answers (.keyInstall ch) s u ∧ s.keyShows u x part .badDescriptor ∧ u.sec.mrs = s.sec.mrs ∧
        u.sec.keys = s.sec.keys) ∧
      (importReserved r = false → (s.sil.comp.partitions.get? (field r 0 2)).isSome = true →
        (s.unwrapKey r = none → ∃ u, Answers (.keyInstall ch) s u ∧ s.keyShows u x part .authFail ∧ u.sec.mrs = s.sec.mrs ∧ u.sec.keys = s.sec.keys) ∧
        (s.unwrapKey r = some key →
          (kcvOf key ≠ field r 8 8 → ∃ u, Answers (.keyInstall ch) s u ∧ s.keyShows u x part .badDescriptor ∧ u.sec.mrs = s.sec.mrs ∧
            u.sec.keys = s.sec.keys) ∧
          (kcvOf key = field r 8 8 → ∀ e, s.sec.keys.get? part = some e → ∃ u, Answers (.keyInstall ch) s u ∧
            s.keyShows u x part (if e.kcv = kcvOf key then .done else .busy) ∧ u.sec.mrs = s.sec.mrs ∧ u.sec.keys = s.sec.keys) ∧
          (kcvOf key = field r 8 8 → s.sec.keys.get? part = none → ∃ u, Answers (.keyInstall ch) s u ∧ s.keyShows u x part .done ∧
            u.sec.keys.get? part = some ⟨key, kcvOf key⟩ ∧ (∀ k, k ≠ part → u.sec.keys.get? k = s.sec.keys.get? k) ∧
            u.mr 4 = Config.sha384 (s.mr 4 ++ keyEvent part 1 (kcvOf key)))))) ∧
    (part = s.fld F.SEC_KEY_SEL_PARTITION x.idx →
      ((s.sil.comp.partitions.get? part).isNone = true →
        ∃ u, Answers (.keyDestroy ch) s u ∧ s.keyShows u x part .badDescriptor ∧ u.sec.mrs = s.sec.mrs ∧ u.sec.keys = s.sec.keys) ∧
      ((s.sil.comp.partitions.get? part).isSome = true →
        (s.partitionHeld part = true → ∃ u, Answers (.keyDestroy ch) s u ∧ s.keyShows u x part .busy ∧ u.sec.mrs = s.sec.mrs ∧
          u.sec.keys = s.sec.keys) ∧
        (s.partitionHeld part = false → s.sec.keys.get? part = none → ∃ u, Answers (.keyDestroy ch) s u ∧ s.keyShows u x part .stateConflict ∧
          u.sec.mrs = s.sec.mrs ∧ u.sec.keys = s.sec.keys) ∧
        (∀ e, s.sec.keys.get? part = some e → s.partitionHeld part = false → s.sec.keys.sorted = true → ∃ u, Answers (.keyDestroy ch) s u ∧ s.keyShows u x part .done ∧
          u.sec.keys.get? part = none ∧ (∀ k, k ≠ part → u.sec.keys.get? k = s.sec.keys.get? k) ∧
          u.mr 4 = Config.sha384 (s.mr 4 ++ keyEvent part 2 e.kcv))))

/-! ### Power, the start and test access (spec/17, spec/18) -/

/-- R423, R440, R453: applying the input begins an L5 with cause 4, without dedup windows: the ROM boots the accepted firmware of the higher
version, or stays; keys are derived; the straps give the position and the number; then the self-test begins, or waits for an absent reference. A
device that has started takes no second application. R455, R166: the test of T1 or T2 ends once; what it found failing is marked; after T1 the start
goes on to load the image, and an image that waited for T2 to join. R451: a start that waits for a reference says so after 1 s and goes on to its
self-test as soon as both are stable. -/
def Obligations.Starts : Prop :=
  (∀ (s : State) (i : StartInfo),
    (s.pwr.on = true → s.fld F.SEC_STATE_FW ≠ 0 ∨ s.fld F.PWR_START_PHASE ≠ 0 → Answers (.coldStart i) s s) ∧
    (s.pwr.on = false ∨ (s.fld F.SEC_STATE_FW = 0 ∧ s.fld F.PWR_START_PHASE = 0) →
      (∃ v, Answers (.coldStart i) s ((v : State).boot i true) ∧ v.pwr.on = true ∧ v.fld F.RAS_RESET_CAUSE_CAUSE = 4 ∧
        v.fld F.RAS_RESET_CAUSE_DEDUP_LOST = 1 ∧ v.fab.dedup = [] ∧ v.fab.dedupCopy = [] ∧ v.mem = s.mem) ∧
      (fwAccepted i.slot0 = false → fwAccepted i.slot1 = false → ∃ u, Answers (.coldStart i) s u ∧ u.fld F.SEC_STATE_FW = 2 ∧
        u.fld F.TST_STATE_ACCESS = 3 ∧ u.fld F.PWR_START_PHASE = 0 ∧ u.sil.nor = i.image) ∧
      (fwAccepted i.slot0 = true ∨ fwAccepted i.slot1 = true → i.straps < 64 → i.stacksFailed = [] → ∃ u, Answers (.coldStart i) s u ∧
        u.fld F.SEC_STATE_FW = 1 ∧ u.fld F.TST_STATE_ACCESS = 0 ∧ u.sec.slot0 = i.slot0 ∧ u.sec.slot1 = i.slot1 ∧ u.sil.nor = i.image ∧
        (fwAccepted i.slot1 = false → u.fld F.SEC_STATE_FW_SLOT = 0 ∧ u.sec.anchors = fwAnchors i.slot0) ∧
        (fwAccepted i.slot0 = false → u.fld F.SEC_STATE_FW_SLOT = 1 ∧ u.sec.anchors = fwAnchors i.slot1) ∧
        (fwAccepted i.slot0 = true → fwAccepted i.slot1 = true →
          u.fld F.SEC_STATE_FW_SLOT = if field i.slot1 8 8 ≤ field i.slot0 8 8 then 0 else 1) ∧
        (i.pufOk = false → u.fld F.SEC_STATE_PUF = 2 ∧ u.fld F.PWR_START_PHASE = 1) ∧
        (i.pufOk = true → u.fld F.SEC_STATE_PUF = 1 ∧ u.position = i.straps ∧ u.devnum = i.straps ∧ u.fldBit F.JNL_CUSTODY_DEVICES i.straps = true ∧
          (i.coreRef = true → i.serdesRef = true → u.pwr.refWait = s.pwr.refWait ∧
            ((∀ k, 1 ≤ k → k ≤ 24 → s.islandState k ≠ isHELD) → u.fld F.PWR_START_PHASE = 3)) ∧
          (i.coreRef = false ∨ i.serdesRef = false → u.fld F.PWR_START_PHASE = 2 ∧ u.pwr.refWait = true))))) ∧
  (∀ (s : State) (tier : Nat) (failed : List Nat), s.serves [] = true →
    (tier = 0 ∨ 2 < tier ∨ bitAt s.pwr.memInit (tier - 1) = false ∨ s.fld F.PWR_START_PHASE < 4 ∨ 7 < s.fld F.PWR_START_PHASE →
      AnswersThen (.memInitDone tier failed) s s) ∧
    (bitAt s.pwr.memInit 0 = true → s.fld F.PWR_START_PHASE = 4 → ∃ v, AnswersThen (.memInitDone 1 []) s (v : State).norStart ∧
      bitAt v.pwr.memInit 0 = false ∧ v.fld F.PWR_START_PHASE = 5 ∧ v.mem = s.mem ∧ v.xlt = s.xlt) ∧
    (bitAt s.pwr.memInit 0 = true → s.fld F.PWR_START_PHASE = 4 → s.guardedRanges = [] → ∀ i, i < 8 → ∃ v,
      AnswersThen (.memInitDone 1 [i]) s (v : State).norStart ∧ v.fldBit F.TIER_T1_CFG_STACK_FAILED i = true ∧ v.fld F.PWR_START_PHASE = 5) ∧
    (bitAt s.pwr.memInit 1 = true → s.fld F.PWR_START_PHASE = 5 → s.silState ≠ .running → ∃ u, AnswersThen (.memInitDone 2 []) s u ∧
      bitAt u.pwr.memInit 1 = false ∧ u.regs = s.regs ∧ u.mem = s.mem) ∧
    (bitAt s.pwr.memInit 1 = true → s.fld F.PWR_START_PHASE = 5 → s.silState = .running → s.ringAwaited = false → ∃ v,
      AnswersThen (.memInitDone 2 []) s (v : State).joinBegin ∧ bitAt v.pwr.memInit 1 = false ∧ v.regs = s.regs ∧ v.mem = s.mem)) ∧
  (∀ (s : State) (serdes : Bool), s.serves [] = true →
    (s.pwr.refWait = false → Answers .refclkWaitTimeout s s) ∧
    (s.pwr.refWait = true → ∃ u, Answers .refclkWaitTimeout s u ∧ u.mem = s.mem ∧ u.pwr = s.pwr ∧
      ∃ e ∈ u.ras.log, e.2.unit = .pwr ∧ e.2.status = .timeout) ∧
    (s.pwr.refWait = false → ∃ u, AnswersThen (.refclkStable serdes) s u ∧
      s.onlyFields u [if serdes then F.PWR_REFCLK_SERDES_OK.key 0 else F.PWR_REFCLK_CORE_OK.key 0] ∧
      u.fld (if serdes then F.PWR_REFCLK_SERDES_OK else F.PWR_REFCLK_CORE_OK) = 1) ∧
    (s.pwr.refWait = true → s.fld (if serdes then F.PWR_REFCLK_CORE_OK else F.PWR_REFCLK_SERDES_OK) = 1 →
      (∀ k, 1 ≤ k → k ≤ 24 → s.islandState k ≠ isHELD) → ∃ u, AnswersThen (.refclkStable serdes) s u ∧
      u.pwr.refWait = false ∧ u.fld F.PWR_START_PHASE = 3) ∧
    (s.pwr.refWait = true → s.fld (if serdes then F.PWR_REFCLK_CORE_OK else F.PWR_REFCLK_SERDES_OK) = 0 → ∃ u, AnswersThen (.refclkStable serdes) s u ∧
      u.pwr.refWait = true ∧ u.fld F.PWR_START_PHASE = s.fld F.PWR_START_PHASE))

/-- R440, R402: a dip of at most 1 ms is only counted; a longer one, or more than 62 V for more than 100 us, loses everything but the NOR device and
T3; between 60 V and 62 V the device runs on and says so. R462: RST_N low for 2 us is an L5 with cause 3 and no copy of the windows, which absorbs
any reset that runs; a shorter one is ignored; its rising edge starts the device again. -/
def Obligations.InputAndBoardReset : Prop :=
  (∀ (s : State) (mv ns : Nat),
    (s.pwr.on = true → mv < 40000 → ns ≤ nsPerMs → ∃ u, Answers (.inputDip mv ns) s u ∧ s.counted u F.PWR_INPUT_DIPS ∧
      s.onlyFields u [F.PWR_INPUT_DIPS.key 0, F.PWR_PEAK_MIN_VIN_MV.key 0]) ∧
    (s.pwr.on = true → ¬(mv < 40000 ∧ ns ≤ nsPerMs) → Answers (.inputDip mv ns) s s) ∧
    (s.pwr.on = true → (mv < 40000 ∧ nsPerMs < ns) ∨ (62000 < mv ∧ 100 * nsPerUs < ns) → ∃ u, Answers (.inputLoss mv ns) s u ∧ u.pwr.on = false ∧
      u.ras.log = [] ∧ u.regs = State.reset.regs ∧ u.ctl.entries = [] ∧ u.works = [] ∧ u.sec.keys = [] ∧ u.sil.nor = s.sil.nor ∧
      u.sec.slot0 = s.sec.slot0 ∧ u.sec.helper = s.sec.helper ∧ ∀ e, e ∈ u.mem.bytes ↔ e ∈ s.mem.bytes ∧ e.1 / 2 ^ 56 = 2) ∧
    (s.pwr.on = true → ¬((mv < 40000 ∧ nsPerMs < ns) ∨ (62000 < mv ∧ 100 * nsPerUs < ns)) → Answers (.inputLoss mv ns) s s) ∧
    (s.serves [] = true → 60000 < mv → mv ≤ 62000 → ∃ u, Answers (.inputHigh mv) s u ∧ u.fld F.PWR_INPUT_VIN_MV = mv ∧ u.mem = s.mem ∧
      u.works = s.works ∧ ∃ e ∈ u.ras.log, e.2.unit = .pwr ∧ e.2.status = .internal ∧ (s.ras.recent = [] → e.2.syndrome = mv)) ∧
    (s.serves [] = true → mv ≤ 60000 ∨ 62000 < mv → Answers (.inputHigh mv) s s)) ∧
  (∀ (s : State) (ns : Nat) (i : StartInfo),
    (s.serves [] = true → ns < 2 * nsPerUs → Answers (.boardReset ns) s s) ∧
    (s.serves [] = true → 2 * nsPerUs ≤ ns → ∃ u, Answers (.boardReset ns) s u ∧ u.fld F.TST_PINS_RST_N = 0 ∧ u.fld F.RAS_RESET_CAUSE_CAUSE = 3 ∧
      u.fld F.RAS_RESET_CAUSE_DEDUP_LOST = 1 ∧ u.fab.dedup = [] ∧ u.fab.dedupCopy = [] ∧ u.ras.running = [] ∧ u.ctl.entries = [] ∧ u.works = [] ∧
      ∀ n, 1 ≤ n → n ≤ 24 → u.islandState n = isOFF) ∧
    (s.pwr.on = true → s.fld F.TST_PINS_RST_N = 1 → Answers (.boardResetRelease i) s s) ∧
    (s.pwr.on = true → s.fld F.TST_PINS_RST_N = 0 →
      (∃ v, Answers (.boardResetRelease i) s ((v : State).boot i true) ∧ v.fld F.TST_PINS_RST_N = 1 ∧ s.onlyFields v [F.TST_PINS_RST_N.key 0]) ∧
      (fwAccepted i.slot0 = false → fwAccepted i.slot1 = false → ∃ u, Answers (.boardResetRelease i) s u ∧ u.fld F.SEC_STATE_FW = 2 ∧
        u.fld F.TST_STATE_ACCESS = 3 ∧ u.fld F.TST_PINS_RST_N = 1)))

/-- R442, R443: each 1 ms DUTY falls by 1, to 4 at the least, while the average is above the cap or the die at the threshold, rises by 1, to 16 at
the most, while both allow it, and else stays; an overcurrent takes it to 8 at once. Nothing but the registers of power and the log changes. -/
def Obligations.Throttling : Prop :=
  ∀ (s : State) (avg peak vin iin sensor duty : Nat) (t th : Int), s.serves [] = true → duty = s.fld F.PWR_THROTTLE_DUTY → 4 ≤ duty → duty ≤ 16 →
    th = 8 * s.fld F.PWR_THERM_THROTTLE_C →
    (∃ u, Answers (.dutyAdjust avg peak vin iin t sensor) s u ∧ u.now = max s.now (s.pwr.lastAdjust + nsPerMs) ∧ u.pwr.lastAdjust = u.now ∧
      u.mem = s.mem ∧ u.qnc = s.qnc ∧ u.works = s.works ∧ u.ctl = s.ctl ∧
      (s.fld F.PWR_LIMIT_CAP_W < avg ∨ th ≤ t → u.fld F.PWR_THROTTLE_DUTY = if 4 < duty then duty - 1 else duty) ∧
      (100 * avg < 98 * s.fld F.PWR_LIMIT_CAP_W → t ≤ th - 24 → u.fld F.PWR_THROTTLE_DUTY = min 16 (duty + 1)) ∧
      (avg ≤ s.fld F.PWR_LIMIT_CAP_W → 98 * s.fld F.PWR_LIMIT_CAP_W ≤ 100 * avg → t < th → u.fld F.PWR_THROTTLE_DUTY = duty)) ∧
    (∃ u, Answers .overcurrent s u ∧ u.fld F.PWR_THROTTLE_DUTY = min 8 duty ∧ u.mem = s.mem ∧ u.qnc = s.qnc ∧ u.works = s.works ∧
      ∃ e ∈ u.ras.log, e.2.unit = .pwr ∧ e.2.status = .internal)

/-- R444, R451: at the trip every island that is not OFF is HELD and every lane goes dark; the loss of the SerDes reference does so to islands 23
and 24, that of the core reference to islands 1 to 22. R446: a grant never takes the sum of the last 100 us above the rate, and the first wake that
fits is granted; with nothing pending there is nothing to grant. R452, R454: an island is ON 30 us after its grant; after a reset it is ON if its
tests pass and OFF if they fail. -/
def Obligations.IslandStates : Prop :=
  (∀ (s : State) (sensor : Nat), s.serves [] = true →
    (∃ v, AnswersThen (.thermalTrip sensor) s (v : State).linksDark ∧ v.fld F.PWR_START_PHASE = 8 ∧ v.fld F.TST_PINS_THERMTRIP_N = 0 ∧
      (∀ n, 1 ≤ n → n ≤ 24 → v.islandState n = if s.islandState n = isOFF then isOFF else isHELD) ∧ v.dom = s.dom ∧ v.mem = s.mem) ∧
    (∃ v, AnswersThen (.refclkLoss true) s (v : State).linksDark ∧ v.fld F.PWR_REFCLK_SERDES_OK = 0 ∧ s.counted v F.PWR_REFCLK_SERDES_LOSSES ∧
      (∀ n, n = 23 ∨ n = 24 → v.islandState n = if s.islandState n = isOFF then isOFF else isHELD) ∧
      (∀ n, 1 ≤ n → n ≤ 22 → v.islandState n = s.islandState n) ∧ v.dom = s.dom ∧ v.mem = s.mem) ∧
    (∃ u, AnswersThen (.refclkLoss false) s u ∧ u.fld F.PWR_REFCLK_CORE_OK = 0 ∧ s.counted u F.PWR_REFCLK_CORE_LOSSES ∧
      (∀ n, 1 ≤ n → n ≤ 22 → u.islandState n = if s.islandState n = isOFF then isOFF else isHELD) ∧
      (∀ n, n = 23 ∨ n = 24 → u.islandState n = s.islandState n) ∧ u.dom = s.dom ∧ u.mem = s.mem)) ∧
  (∀ (s : State), s.serves [] = true → s.fld F.PWR_START_PHASE ≠ 3 →
    (s.pwr.pending = [] → ∃ u, AnswersThen .governorGrant s u ∧ s.onlyFields u [F.PWR_GOV_PENDING.key 0, F.PWR_GOV_WINDOW_CA.key 0]) ∧
    (windowSum s.pwr.granted s.now ≤ s.fld F.PWR_LIMIT_RATE_CA → ∃ u, AnswersThen .governorGrant s u ∧
      windowSum u.pwr.granted u.now ≤ s.fld F.PWR_LIMIT_RATE_CA ∧ s.now ≤ u.now ∧ (∀ w ∈ u.pwr.pending, ∃ v ∈ s.pwr.pending, w.island = v.island ∧ w.comp = v.comp ∧ w.inst = v.inst)) ∧
    (∀ w rest, s.pwr.pending = w :: rest → windowSum s.pwr.granted s.now + w.step ≤ s.fld F.PWR_LIMIT_RATE_CA → ∃ u, AnswersThen .governorGrant s u ∧
      u.now = s.now ∧ (s.now, w.step) ∈ u.pwr.granted ∧
      (w.comp = 0 → 1 ≤ w.island → w.island ≤ 24 → s.islandState w.island = isPENDING → u.islandState w.island = isWAKING) ∧
      (w.comp = 2 → w.inst < 8 → u.fldBit F.PWR_COMP_T1_STACK w.inst = true))) ∧
  (∀ (s : State) (n : Nat) (pass : Bool), s.serves [] = true →
    (17 ≤ n → n ≤ 24 → s.islandState n = isWAKING → ∃ v, AnswersThen (.islandWakeDone n) s ((v : State).islandUp n).startSettle ∧
      v.islandState n = isON ∧ s.pwr.wakeAt.getD n 0 + 30 * nsPerUs ≤ v.now ∧ v.mem = s.mem ∧ v.dom = s.dom) ∧
    (s.islandState n ≠ isWAKING ∨ n < 17 ∨ 24 < n → AnswersThen (.islandWakeDone n) s s) ∧
    (s.pwr.testing.contains n = false → AnswersThen (.islandTestDone n pass) s s) ∧
    (1 ≤ n → n ≤ 24 → s.pwr.testing.contains n = true → (∀ w ∈ s.pwr.pending, w.island ≠ n) → s.islandState n = isRESET →
      (∃ v, AnswersThen (.islandTestDone n false) s ((v : State).islandFailed n).startSettle ∧ n ∉ v.pwr.testing ∧ v.mem = s.mem ∧ v.dom = s.dom) ∧
      (n ≤ 19 → ∃ v, AnswersThen (.islandTestDone n false) s (v : State).startSettle ∧ v.islandState n = isOFF ∧ n ∈ v.pwr.failed ∧ n ∉ v.pwr.testing) ∧
      (17 ≤ n → ∃ v, AnswersThen (.islandTestDone n true) s ((v : State).islandUp n).startSettle ∧ v.islandState n = isON ∧ n ∉ v.pwr.testing)))

/-- R466: LOCK and UNLOCK move the access state, HOLD stops islands 1 to 24; each is refused `STATE_CONFLICT` where R466 says so. R467, R468: the
TAP instructions and the states in which each acts; a TAP reset selects IDCODE. TSTWIN shows the word of a register of the member, VALID 0 for an
offset that breaks R12 and for a register of a seat, a channel or a selector, and changes no register but those of the TAP. -/
def Obligations.TestAccess : Prop :=
  (∀ (s : State) (ch : ChanId) (n : Nat) (x : SeatId), s.guardedBy ch n x 0 →
    (s.testAccess = taOPENROM ∨ s.testAccess = taHOLD → ∀ c ∈ [Instr.testUnlock ch, .testLock ch],
      ∃ u, Answers c s u ∧ (s.asked ch).reports u x n 0x1E0010 .stateConflict) ∧
    (s.testAccess = taLOCKED ∨ s.testAccess = taUNLOCKED → ∀ c ∈ [(Instr.testUnlock ch, taUNLOCKED), (.testLock ch, taLOCKED)],
      ∃ u, Answers c.1 s u ∧ u.testAccess = c.2 ∧ s.keepsFields u (F.TST_STATE_ACCESS.key 0 :: collideKeys) ∧ u.mem = s.mem) ∧
    (s.testAccess = taOPENROM ∨ s.membersIn .admitting ≠ [] ∨ (∃ d, d < 64 ∧ s.fldBit F.JNL_CUSTODY_DEVICES d = true ∧ s.isSelf d = false) →
      ∃ u, Answers (.testHold ch) s u ∧ (s.asked ch).reports u x n 0x1E0010 .stateConflict) ∧
    (s.testAccess ≠ taOPENROM → s.membersIn .admitting = [] → (∀ d, d < 64 → s.fldBit F.JNL_CUSTODY_DEVICES d = true → s.isSelf d = true) →
      ∃ v, Answers (.testHold ch) s ((((v : State).linksDark.setF F.PWR_START_PHASE 8).setF F.TST_STATE_ACCESS taHOLD).logErr
          { unit := .tst, status := .done, index := 0xFF }) ∧
        v.fld F.TST_PINS_THERMTRIP_N = s.fld F.TST_PINS_THERMTRIP_N ∧ v.mem = s.mem ∧ v.dom = s.dom ∧
        (∀ k, 1 ≤ k → k ≤ 24 → v.islandState k = if s.islandState k = isOFF then isOFF else isHELD))) ∧
  (∀ (s : State) (pins pre passed off mode node rd : Nat), s.serves [] = true →
    (∀ c ∈ [Instr.tapReset, .idcode], ∃ u, Answers c s u ∧ s.tapShows u tapIDCODE idcode 0) ∧
    (∃ u, Answers .bypass s u ∧ s.tapShows u tapBYPASS 0 0) ∧
    (∃ u, Answers (.samplePreload pins pre) s u ∧ s.tapShows u tapSAMPLE pins 0 ∧ u.tst.captured = pins ∧ u.tst.preload = pre) ∧
    (∃ u, Answers (.extest pins pre) s u ∧ s.tapShows u tapEXTEST pins (if s.tapFull then 1 else 0) ∧ u.tst.captured = pins ∧ u.tst.preload = pre) ∧
    (s.tapFull = false → ∀ c ∈ [Instr.highz, .clamp, .runbist passed], ∃ u, Answers c s u ∧ s.tapShows u tapBYPASS 0 0) ∧
    (s.tapFull = true → (∃ u, Answers .highz s u ∧ s.tapShows u tapHIGHZ 0 2) ∧ (∃ u, Answers .clamp s u ∧ s.tapShows u tapCLAMP 0 1) ∧
      ∃ u, Answers (.runbist passed) s u ∧ s.tapShows u tapRUNBIST (passed % 2 ^ 25) 0) ∧
    (s.testAccess = taLOCKED → ∀ c ∈ [Instr.probe mode node rd, .tstwin off], ∃ u, Answers c s u ∧ s.tapShows u tapBYPASS 0 0) ∧
    (s.testAccess ≠ taLOCKED → ∃ u, Answers (.tstwin off) s u ∧ s.tapShows u tapTSTWIN u.tst.dr 0 ∧
      (breaksR12 off 8 = true → u.tst.dr = off % 2 ^ 24 * 2 ^ 64) ∧
      ∀ r, regDefAt off = some r → breaksR12 off 8 = false →
        (r.scope = .member → u.tst.dr = off % 2 ^ 24 * 2 ^ 64 + (s.readWord .a .i3c off + 2 ^ 88)) ∧ (r.scope ≠ .member → u.tst.dr = off % 2 ^ 24 * 2 ^ 64)))

/-- R469, R470: a seat connects one analogue node, unless the TAP has the buses, test access is LOCKED, the node is none, or stimulus is not
permitted; PROBE takes the buses and disconnects the seat's node. R471: the transitions of unit test access, of one unit at a time, and what refuses
a command: `BOUNDS`, `BUSY` while another unit is taken, and `STATE_CONFLICT` where the state does not list it. -/
def Obligations.AnalogueAndUnits : Prop :=
  (∀ (s : State) (ch : ChanId) (n mode node rd : Nat) (x : SeatId), mode < 4 → node < 1024 →
    (s.commandedBy ch n x →
      (∀ st, s.abusFault mode node = some st → ∃ u, Answers (.abusSelect ch mode node rd) s u ∧ (s.asked ch).reports u x n 0x1E0028 st) ∧
      (s.fld F.TST_STATE_TAP_INSTR = tapPROBE → s.abusFault mode node = some .busy) ∧
      (s.fld F.TST_STATE_TAP_INSTR ≠ tapPROBE → s.testAccess = taLOCKED → s.abusFault mode node = some .access) ∧
      (s.fld F.TST_STATE_TAP_INSTR ≠ tapPROBE → s.testAccess = taUNLOCKED → nodeKnown node = true → s.abusFault 2 node = some .stateConflict) ∧
      (s.abusFault mode node = none → ∃ u, Answers (.abusSelect ch mode node rd) s u ∧ u.fld F.TST_ABUS_CTRL_MODE = mode ∧
        u.fld F.TST_ABUS_CTRL_NODE = node ∧ (mode = 0 → u.fld F.TST_ABUS_VALUE_VALID = 0) ∧
        (mode ≠ 0 → u.fld F.TST_ABUS_VALUE_VALID = 1 ∧ u.fld F.TST_ABUS_VALUE_VALUE = min rd 12000) ∧
        s.keepsFields u ([F.TST_ABUS_CTRL_MODE.key 0, F.TST_ABUS_CTRL_NODE.key 0, F.TST_ABUS_VALUE_VALID.key 0, F.TST_ABUS_VALUE_VALUE.key 0] ++ collideKeys) ∧
        u.mem = s.mem)) ∧
    (s.serves [] = true → s.testAccess ≠ taLOCKED → ∃ u, Answers (.probe mode node rd) s u ∧ u.fld F.TST_STATE_TAP_INSTR = tapPROBE ∧
      u.fld F.TST_ABUS_CTRL_MODE = 0 ∧
      (mode = 1 ∨ mode = 2 → nodeKnown node = true →
        u.tst.probe = some (if mode = 2 ∧ s.tapFull = false then 1 else mode, node) ∧ u.fld F.TST_ABUS_VALUE_VALID = 1) ∧
      (mode = 0 ∨ mode = 3 ∨ nodeKnown node = false → u.tst.probe = none ∧ u.fld F.TST_ABUS_VALUE_VALID = 0))) ∧
  (∀ (s : State) (ch : ChanId) (n k tests : Nat) (x : SeatId), k < 64 → tests < 8 →
    (s.guardedBy ch n x 0 →
      (0x28 ≤ k → (∀ c ∈ [Instr.unitIsolate ch k, .unitTest ch k tests], ∃ u, Answers c s u ∧ (s.asked ch).reports u x n 0x1E0018 .bounds) ∧
        ∃ u, AnswersThen (.unitRelease ch k) s u ∧ (s.asked ch).reports u x n 0x1E0018 .bounds) ∧
      (k < 0x28 → s.unitState ≠ utNONE → s.unitTested ≠ k → ∃ u, Answers (.unitIsolate ch k) s u ∧ (s.asked ch).reports u x n 0x1E0018 .busy) ∧
      (k < 0x28 → s.unitState = utNONE → s.unitInSlice k = true → s.isQuarCore k = false → ∃ u, Answers (.unitIsolate ch k) s u ∧
        u.unitState = utISOLATING ∧ u.unitTested = k ∧ (k < 16 → (u.core k).isolation = 1) ∧
        s.keepsFields u ([F.TST_UNIT_STATUS_STATE.key 0, F.TST_UNIT_STATUS_UNIT.key 0, F.TST_UNIT_CMD_UNIT.key 0] ++ collideKeys) ∧ u.mem = s.mem) ∧
      (k < 0x28 → s.unitState = utNONE → s.unitInSlice k = false ∨ s.isQuarCore k = true →
        ∃ u, Answers (.unitIsolate ch k) s u ∧ (s.asked ch).reports u x n 0x1E0018 .stateConflict) ∧
      (k < 0x28 → s.unitState ≠ utISOLATED ∨ s.unitTested ≠ k →
        ∃ u, Answers (.unitTest ch k tests) s u ∧ (s.asked ch).reports u x n 0x1E0018 .stateConflict) ∧
      (k < 0x28 → s.unitState = utISOLATED → s.unitTested = k →
        (tests = 0 ∨ (16 ≤ k ∧ 4 ≤ tests) → ∃ u, Answers (.unitTest ch k tests) s u ∧ (s.asked ch).reports u x n 0x1E0018 .badDescriptor) ∧
        (tests ≠ 0 → (k < 16 ∨ tests < 4) → ∃ u, Answers (.unitTest ch k tests) s u ∧ u.unitState = utTESTING ∧ u.tst.tests = tests ∧
          u.fld F.TST_UNIT_STATUS_RESULT = 0)) ∧
      (k < 0x28 → s.unitState = utTESTING ∨ s.unitState = utNONE ∨ s.unitTested ≠ k →
        ∃ u, AnswersThen (.unitRelease ch k) s u ∧ (s.asked ch).reports u x n 0x1E0018 .stateConflict) ∧
      (k < 16 → s.unitState = utISOLATING ∨ s.unitState = utISOLATED → s.unitTested = k → ∃ u, AnswersThen (.unitRelease ch k) s u ∧
        u.unitState = utNONE ∧ (u.core k).isolation = 0 ∧ (u.core k).state = (s.core k).state) ∧
      (16 ≤ k → k < 0x28 → s.unitState = utISOLATING ∨ s.unitState = utISOLATED → s.unitTested = k →
        ∃ v, AnswersThen (.unitRelease ch k) s ((v : State).sloeBegin (k - 16)) ∧ v.unitState = utNONE ∧ v.mem = s.mem ∧ v.vs = s.vs)) ∧
    (s.serves [] = true →
      (s.unitState ≠ utISOLATING ∨ s.unitIsIdle s.unitTested = false → Answers .unitIdle s s) ∧
      (s.unitState = utISOLATING → s.unitIsIdle s.unitTested = true → ∃ u, Answers .unitIdle s u ∧ u.unitState = utISOLATED ∧
        u.unitTested = s.unitTested ∧ u.mem = s.mem) ∧
      (s.unitState ≠ utTESTING → ∀ f, AnswersThen (.unitTestDone f) s s) ∧
      (s.unitState = utTESTING → s.tst.tests < 8 →
        (∃ u, AnswersThen (.unitTestDone none) s u ∧ u.unitState = utISOLATED ∧ u.fld F.TST_UNIT_STATUS_STATUS = Status.done.code ∧
          u.fld F.TST_UNIT_STATUS_RESULT = s.tst.tests) ∧
        (∀ t, t < 3 → bitAt s.tst.tests t = true → s.unitTested < 16 → ∃ u, AnswersThen (.unitTestDone (some t)) s u ∧ u.unitState = utISOLATED ∧
          u.fld F.TST_UNIT_STATUS_STATUS = Status.internal.code ∧ u.fld F.TST_UNIT_STATUS_RESULT = s.tst.tests % 2 ^ t ∧
          (u.core s.unitTested).state = .faulted))))
end

