-- ==== Sys2Proof/Laws/Table.lean ====
section
/-! SUPPORT. Laws of sparse tables: a read after a write gives what was written, other keys keep their entries, and every operation keeps
the canonical form. -/

namespace Sys2Proof.Machine

variable {α : Type}

@[simp] theorem Tbl.get?_put_same (t : Tbl α) (k : Nat) (v : α) : Tbl.get? (Tbl.put t k v) k = some v := by
  induction t with
  | nil => simp [Tbl.put, Tbl.get?]
  | cons e t ih =>
    unfold Tbl.put
    split
    · simp [Tbl.get?]
    · split
      · simp [Tbl.get?]
      · rename_i h; simp [Tbl.get?, Ne.symm h, ih]

theorem Tbl.get?_put_ne (t : Tbl α) {k j : Nat} (v : α) (h : k ≠ j) : Tbl.get? (Tbl.put t k v) j = Tbl.get? t j := by
  induction t with
  | nil => simp [Tbl.put, Tbl.get?, h]
  | cons e t ih =>
    unfold Tbl.put
    split
    · simp [Tbl.get?, h]
    · split
      · rename_i h'; subst h'; simp [Tbl.get?, h]
      · simp [Tbl.get?, ih]

@[simp] theorem Tbl.get?_del_same (t : Tbl α) (k : Nat) : Tbl.get? (Tbl.del t k) k = none := by
  induction t with
  | nil => rfl
  | cons e t ih =>
    unfold Tbl.del at *
    by_cases h : e.1 = k <;> simp [h, Tbl.get?, ih]

theorem Tbl.get?_del_ne (t : Tbl α) {k j : Nat} (h : k ≠ j) : Tbl.get? (Tbl.del t k) j = Tbl.get? t j := by
  induction t with
  | nil => rfl
  | cons e t ih =>
    unfold Tbl.del at *
    by_cases h' : e.1 = k
    · have : ¬ e.1 = j := by omega
      simp [h', Tbl.get?, ih, h]
    · by_cases h'' : e.1 = j <;> simp [h', Tbl.get?, ih]

variable [DecidableEq α]

@[simp] theorem Tbl.getD_store_same (t : Tbl α) (k : Nat) (v d : α) : Tbl.getD (Tbl.store t k v d) k d = v := by
  unfold Tbl.store Tbl.getD
  split <;> simp_all

theorem Tbl.getD_store_ne (t : Tbl α) {k j : Nat} (v d e : α) (h : k ≠ j) : Tbl.getD (Tbl.store t k v d) j e = Tbl.getD t j e := by
  unfold Tbl.store Tbl.getD
  split <;> simp [Tbl.get?_del_ne _ h, Tbl.get?_put_ne _ _ h]

/-! ### The canonical form -/

omit [DecidableEq α] in
theorem Tbl.sorted_iff (t : Tbl α) : Tbl.sorted t = true ↔ (t.map Prod.fst).Pairwise (· < ·) := by
  induction t with
  | nil => simp [Tbl.sorted]
  | cons e t ih =>
    cases t with
    | nil => simp [Tbl.sorted]
    | cons f t =>
      simp only [Tbl.sorted, Bool.and_eq_true, decide_eq_true_eq, ih, List.map_cons, List.pairwise_cons, List.mem_cons, forall_eq_or_imp]
      constructor
      · rintro ⟨h, h1, h2⟩; exact ⟨⟨h, fun a ha => h.trans (h1 a ha)⟩, h1, h2⟩
      · rintro ⟨⟨h, _⟩, h1, h2⟩; exact ⟨h, h1, h2⟩

omit [DecidableEq α] in
theorem Tbl.mem_put (t : Tbl α) (k : Nat) (v : α) (e : Nat × α) (h : e ∈ Tbl.put t k v) : e = (k, v) ∨ e ∈ t := by
  induction t with
  | nil => simpa [Tbl.put] using h
  | cons f t ih =>
    unfold Tbl.put at h
    split at h
    · simpa using h
    · split at h
      · rcases List.mem_cons.1 h with h | h
        · exact .inl h
        · exact .inr (List.mem_cons_of_mem _ h)
      · rcases List.mem_cons.1 h with h | h
        · exact .inr (by simp [h])
        · rcases ih h with h | h
          · exact .inl h
          · exact .inr (List.mem_cons_of_mem _ h)

omit [DecidableEq α] in
theorem Tbl.sorted_put (t : Tbl α) (k : Nat) (v : α) (h : Tbl.sorted t = true) : Tbl.sorted (Tbl.put t k v) = true := by
  rw [Tbl.sorted_iff] at *
  induction t with
  | nil => simp [Tbl.put]
  | cons e t ih =>
    simp only [List.map_cons, List.pairwise_cons, List.mem_map, forall_exists_index, and_imp, forall_apply_eq_imp_iff₂] at h
    unfold Tbl.put
    split
    · rename_i h'
      simp only [List.map_cons, List.pairwise_cons, List.mem_cons, List.mem_map, forall_eq_or_imp, forall_exists_index, and_imp,
        forall_apply_eq_imp_iff₂]
      exact ⟨⟨h', fun a ha => h'.trans (h.1 a ha)⟩, h.1, h.2⟩
    · split
      · rename_i h1 h2; subst h2
        simpa using h
      · rename_i h1 h2
        simp only [List.map_cons, List.pairwise_cons, List.mem_map, forall_exists_index, and_imp, forall_apply_eq_imp_iff₂]
        refine ⟨fun a ha => ?_, ih h.2⟩
        rcases Tbl.mem_put t k v a ha with rfl | ha
        · simp; omega
        · exact h.1 a ha

omit [DecidableEq α] in
theorem Tbl.sorted_del (t : Tbl α) (k : Nat) (h : Tbl.sorted t = true) : Tbl.sorted (Tbl.del t k) = true := by
  rw [Tbl.sorted_iff] at *
  exact h.sublist (List.Sublist.map _ List.filter_sublist)

theorem Tbl.sorted_store (t : Tbl α) (k : Nat) (v d : α) (h : Tbl.sorted t = true) : Tbl.sorted (Tbl.store t k v d) = true := by
  unfold Tbl.store
  split
  · exact Tbl.sorted_del t k h
  · exact Tbl.sorted_put t k v h

/-- No entry equal to the default is listed. -/
theorem Tbl.store_noDefault (t : Tbl α) (k : Nat) (v d : α) (h : ∀ e ∈ t, e.2 ≠ d) : ∀ e ∈ Tbl.store t k v d, e.2 ≠ d := by
  unfold Tbl.store
  split
  · intro e he; exact h e (List.mem_of_mem_filter he)
  · rename_i hv
    intro e he
    rcases Tbl.mem_put t k v e he with rfl | he
    · exact hv
    · exact h e he

end Sys2Proof.Machine
end

