-- ==== Sys2Proof/Laws/State.lean ====
section
/-! SUPPORT. Laws of the state: what each update of a register field leaves alone, and what a field reads after it.
One lemma per field of the state per update, so that no proof unfolds a record update. -/

namespace Sys2Proof.Machine

variable (s : State)

@[simp] theorem State.setF_now (f : Fld) (v b : Nat) : (s.setF f v b).now = s.now := rfl
@[simp] theorem State.setF_free (f : Fld) (v b : Nat) : (s.setF f v b).free = s.free := rfl
@[simp] theorem State.setF_mem (f : Fld) (v b : Nat) : (s.setF f v b).mem = s.mem := rfl
@[simp] theorem State.setF_dom (f : Fld) (v b : Nat) : (s.setF f v b).dom = s.dom := rfl
@[simp] theorem State.setF_ctl (f : Fld) (v b : Nat) : (s.setF f v b).ctl = s.ctl := rfl
@[simp] theorem State.setF_sil (f : Fld) (v b : Nat) : (s.setF f v b).sil = s.sil := rfl
@[simp] theorem State.setF_qx (f : Fld) (v b : Nat) : (s.setF f v b).qx = s.qx := rfl
@[simp] theorem State.setF_works (f : Fld) (v b : Nat) : (s.setF f v b).works = s.works := rfl
@[simp] theorem State.setF_jnl (f : Fld) (v b : Nat) : (s.setF f v b).jnl = s.jnl := rfl
@[simp] theorem State.setF_xlt (f : Fld) (v b : Nat) : (s.setF f v b).xlt = s.xlt := rfl
@[simp] theorem State.setF_tier (f : Fld) (v b : Nat) : (s.setF f v b).tier = s.tier := rfl
@[simp] theorem State.setF_fab (f : Fld) (v b : Nat) : (s.setF f v b).fab = s.fab := rfl
@[simp] theorem State.setF_eth (f : Fld) (v b : Nat) : (s.setF f v b).eth = s.eth := rfl
@[simp] theorem State.setF_ras (f : Fld) (v b : Nat) : (s.setF f v b).ras = s.ras := rfl
@[simp] theorem State.setF_qnc (f : Fld) (v b : Nat) : (s.setF f v b).qnc = s.qnc := rfl
@[simp] theorem State.setF_home (f : Fld) (v b : Nat) : (s.setF f v b).home = s.home := rfl
@[simp] theorem State.setF_sws (f : Fld) (v b : Nat) : (s.setF f v b).sws = s.sws := rfl
@[simp] theorem State.setF_coll (f : Fld) (v b : Nat) : (s.setF f v b).coll = s.coll := rfl
@[simp] theorem State.setF_emb (f : Fld) (v b : Nat) : (s.setF f v b).emb = s.emb := rfl
@[simp] theorem State.setF_vs (f : Fld) (v b : Nat) : (s.setF f v b).vs = s.vs := rfl
@[simp] theorem State.setF_sec (f : Fld) (v b : Nat) : (s.setF f v b).sec = s.sec := rfl
@[simp] theorem State.setF_pwr (f : Fld) (v b : Nat) : (s.setF f v b).pwr = s.pwr := rfl
@[simp] theorem State.setF_tst (f : Fld) (v b : Nat) : (s.setF f v b).tst = s.tst := rfl
@[simp] theorem State.setF_pending (f : Fld) (v b : Nat) : (s.setF f v b).pending = s.pending := rfl

@[simp] theorem State.count_now (f : Fld) (n b : Nat) : (s.count f n b).now = s.now := rfl
@[simp] theorem State.count_free (f : Fld) (n b : Nat) : (s.count f n b).free = s.free := rfl
@[simp] theorem State.count_mem (f : Fld) (n b : Nat) : (s.count f n b).mem = s.mem := rfl
@[simp] theorem State.count_dom (f : Fld) (n b : Nat) : (s.count f n b).dom = s.dom := rfl
@[simp] theorem State.count_ctl (f : Fld) (n b : Nat) : (s.count f n b).ctl = s.ctl := rfl
@[simp] theorem State.count_sil (f : Fld) (n b : Nat) : (s.count f n b).sil = s.sil := rfl
@[simp] theorem State.count_qx (f : Fld) (n b : Nat) : (s.count f n b).qx = s.qx := rfl
@[simp] theorem State.count_works (f : Fld) (n b : Nat) : (s.count f n b).works = s.works := rfl
@[simp] theorem State.count_jnl (f : Fld) (n b : Nat) : (s.count f n b).jnl = s.jnl := rfl
@[simp] theorem State.count_xlt (f : Fld) (n b : Nat) : (s.count f n b).xlt = s.xlt := rfl
@[simp] theorem State.count_tier (f : Fld) (n b : Nat) : (s.count f n b).tier = s.tier := rfl
@[simp] theorem State.count_fab (f : Fld) (n b : Nat) : (s.count f n b).fab = s.fab := rfl
@[simp] theorem State.count_eth (f : Fld) (n b : Nat) : (s.count f n b).eth = s.eth := rfl
@[simp] theorem State.count_ras (f : Fld) (n b : Nat) : (s.count f n b).ras = s.ras := rfl
@[simp] theorem State.count_qnc (f : Fld) (n b : Nat) : (s.count f n b).qnc = s.qnc := rfl
@[simp] theorem State.count_home (f : Fld) (n b : Nat) : (s.count f n b).home = s.home := rfl
@[simp] theorem State.count_sws (f : Fld) (n b : Nat) : (s.count f n b).sws = s.sws := rfl
@[simp] theorem State.count_coll (f : Fld) (n b : Nat) : (s.count f n b).coll = s.coll := rfl
@[simp] theorem State.count_emb (f : Fld) (n b : Nat) : (s.count f n b).emb = s.emb := rfl
@[simp] theorem State.count_vs (f : Fld) (n b : Nat) : (s.count f n b).vs = s.vs := rfl
@[simp] theorem State.count_sec (f : Fld) (n b : Nat) : (s.count f n b).sec = s.sec := rfl
@[simp] theorem State.count_pwr (f : Fld) (n b : Nat) : (s.count f n b).pwr = s.pwr := rfl
@[simp] theorem State.count_tst (f : Fld) (n b : Nat) : (s.count f n b).tst = s.tst := rfl
@[simp] theorem State.count_pending (f : Fld) (n b : Nat) : (s.count f n b).pending = s.pending := rfl

@[simp] theorem State.addF_now (f : Fld) (n b : Nat) : (s.addF f n b).now = s.now := rfl
@[simp] theorem State.addF_free (f : Fld) (n b : Nat) : (s.addF f n b).free = s.free := rfl
@[simp] theorem State.addF_mem (f : Fld) (n b : Nat) : (s.addF f n b).mem = s.mem := rfl
@[simp] theorem State.addF_dom (f : Fld) (n b : Nat) : (s.addF f n b).dom = s.dom := rfl
@[simp] theorem State.addF_ctl (f : Fld) (n b : Nat) : (s.addF f n b).ctl = s.ctl := rfl
@[simp] theorem State.addF_sil (f : Fld) (n b : Nat) : (s.addF f n b).sil = s.sil := rfl
@[simp] theorem State.addF_qx (f : Fld) (n b : Nat) : (s.addF f n b).qx = s.qx := rfl
@[simp] theorem State.addF_works (f : Fld) (n b : Nat) : (s.addF f n b).works = s.works := rfl
@[simp] theorem State.addF_jnl (f : Fld) (n b : Nat) : (s.addF f n b).jnl = s.jnl := rfl
@[simp] theorem State.addF_xlt (f : Fld) (n b : Nat) : (s.addF f n b).xlt = s.xlt := rfl
@[simp] theorem State.addF_tier (f : Fld) (n b : Nat) : (s.addF f n b).tier = s.tier := rfl
@[simp] theorem State.addF_fab (f : Fld) (n b : Nat) : (s.addF f n b).fab = s.fab := rfl
@[simp] theorem State.addF_eth (f : Fld) (n b : Nat) : (s.addF f n b).eth = s.eth := rfl
@[simp] theorem State.addF_ras (f : Fld) (n b : Nat) : (s.addF f n b).ras = s.ras := rfl
@[simp] theorem State.addF_qnc (f : Fld) (n b : Nat) : (s.addF f n b).qnc = s.qnc := rfl
@[simp] theorem State.addF_home (f : Fld) (n b : Nat) : (s.addF f n b).home = s.home := rfl
@[simp] theorem State.addF_sws (f : Fld) (n b : Nat) : (s.addF f n b).sws = s.sws := rfl
@[simp] theorem State.addF_coll (f : Fld) (n b : Nat) : (s.addF f n b).coll = s.coll := rfl
@[simp] theorem State.addF_emb (f : Fld) (n b : Nat) : (s.addF f n b).emb = s.emb := rfl
@[simp] theorem State.addF_vs (f : Fld) (n b : Nat) : (s.addF f n b).vs = s.vs := rfl
@[simp] theorem State.addF_sec (f : Fld) (n b : Nat) : (s.addF f n b).sec = s.sec := rfl
@[simp] theorem State.addF_pwr (f : Fld) (n b : Nat) : (s.addF f n b).pwr = s.pwr := rfl
@[simp] theorem State.addF_tst (f : Fld) (n b : Nat) : (s.addF f n b).tst = s.tst := rfl
@[simp] theorem State.addF_pending (f : Fld) (n b : Nat) : (s.addF f n b).pending = s.pending := rfl

@[simp] theorem State.subF_now (f : Fld) (n b : Nat) : (s.subF f n b).now = s.now := rfl
@[simp] theorem State.subF_free (f : Fld) (n b : Nat) : (s.subF f n b).free = s.free := rfl
@[simp] theorem State.subF_mem (f : Fld) (n b : Nat) : (s.subF f n b).mem = s.mem := rfl
@[simp] theorem State.subF_dom (f : Fld) (n b : Nat) : (s.subF f n b).dom = s.dom := rfl
@[simp] theorem State.subF_ctl (f : Fld) (n b : Nat) : (s.subF f n b).ctl = s.ctl := rfl
@[simp] theorem State.subF_sil (f : Fld) (n b : Nat) : (s.subF f n b).sil = s.sil := rfl
@[simp] theorem State.subF_qx (f : Fld) (n b : Nat) : (s.subF f n b).qx = s.qx := rfl
@[simp] theorem State.subF_works (f : Fld) (n b : Nat) : (s.subF f n b).works = s.works := rfl
@[simp] theorem State.subF_jnl (f : Fld) (n b : Nat) : (s.subF f n b).jnl = s.jnl := rfl
@[simp] theorem State.subF_xlt (f : Fld) (n b : Nat) : (s.subF f n b).xlt = s.xlt := rfl
@[simp] theorem State.subF_tier (f : Fld) (n b : Nat) : (s.subF f n b).tier = s.tier := rfl
@[simp] theorem State.subF_fab (f : Fld) (n b : Nat) : (s.subF f n b).fab = s.fab := rfl
@[simp] theorem State.subF_eth (f : Fld) (n b : Nat) : (s.subF f n b).eth = s.eth := rfl
@[simp] theorem State.subF_ras (f : Fld) (n b : Nat) : (s.subF f n b).ras = s.ras := rfl
@[simp] theorem State.subF_qnc (f : Fld) (n b : Nat) : (s.subF f n b).qnc = s.qnc := rfl
@[simp] theorem State.subF_home (f : Fld) (n b : Nat) : (s.subF f n b).home = s.home := rfl
@[simp] theorem State.subF_sws (f : Fld) (n b : Nat) : (s.subF f n b).sws = s.sws := rfl
@[simp] theorem State.subF_coll (f : Fld) (n b : Nat) : (s.subF f n b).coll = s.coll := rfl
@[simp] theorem State.subF_emb (f : Fld) (n b : Nat) : (s.subF f n b).emb = s.emb := rfl
@[simp] theorem State.subF_vs (f : Fld) (n b : Nat) : (s.subF f n b).vs = s.vs := rfl
@[simp] theorem State.subF_sec (f : Fld) (n b : Nat) : (s.subF f n b).sec = s.sec := rfl
@[simp] theorem State.subF_pwr (f : Fld) (n b : Nat) : (s.subF f n b).pwr = s.pwr := rfl
@[simp] theorem State.subF_tst (f : Fld) (n b : Nat) : (s.subF f n b).tst = s.tst := rfl
@[simp] theorem State.subF_pending (f : Fld) (n b : Nat) : (s.subF f n b).pending = s.pending := rfl

@[simp] theorem State.bumpSeq_now (f : Fld) (b : Nat) : (s.bumpSeq f b).now = s.now := rfl
@[simp] theorem State.bumpSeq_free (f : Fld) (b : Nat) : (s.bumpSeq f b).free = s.free := rfl
@[simp] theorem State.bumpSeq_mem (f : Fld) (b : Nat) : (s.bumpSeq f b).mem = s.mem := rfl
@[simp] theorem State.bumpSeq_dom (f : Fld) (b : Nat) : (s.bumpSeq f b).dom = s.dom := rfl
@[simp] theorem State.bumpSeq_ctl (f : Fld) (b : Nat) : (s.bumpSeq f b).ctl = s.ctl := rfl
@[simp] theorem State.bumpSeq_sil (f : Fld) (b : Nat) : (s.bumpSeq f b).sil = s.sil := rfl
@[simp] theorem State.bumpSeq_qx (f : Fld) (b : Nat) : (s.bumpSeq f b).qx = s.qx := rfl
@[simp] theorem State.bumpSeq_works (f : Fld) (b : Nat) : (s.bumpSeq f b).works = s.works := rfl
@[simp] theorem State.bumpSeq_jnl (f : Fld) (b : Nat) : (s.bumpSeq f b).jnl = s.jnl := rfl
@[simp] theorem State.bumpSeq_xlt (f : Fld) (b : Nat) : (s.bumpSeq f b).xlt = s.xlt := rfl
@[simp] theorem State.bumpSeq_tier (f : Fld) (b : Nat) : (s.bumpSeq f b).tier = s.tier := rfl
@[simp] theorem State.bumpSeq_fab (f : Fld) (b : Nat) : (s.bumpSeq f b).fab = s.fab := rfl
@[simp] theorem State.bumpSeq_eth (f : Fld) (b : Nat) : (s.bumpSeq f b).eth = s.eth := rfl
@[simp] theorem State.bumpSeq_ras (f : Fld) (b : Nat) : (s.bumpSeq f b).ras = s.ras := rfl
@[simp] theorem State.bumpSeq_qnc (f : Fld) (b : Nat) : (s.bumpSeq f b).qnc = s.qnc := rfl
@[simp] theorem State.bumpSeq_home (f : Fld) (b : Nat) : (s.bumpSeq f b).home = s.home := rfl
@[simp] theorem State.bumpSeq_sws (f : Fld) (b : Nat) : (s.bumpSeq f b).sws = s.sws := rfl
@[simp] theorem State.bumpSeq_coll (f : Fld) (b : Nat) : (s.bumpSeq f b).coll = s.coll := rfl
@[simp] theorem State.bumpSeq_emb (f : Fld) (b : Nat) : (s.bumpSeq f b).emb = s.emb := rfl
@[simp] theorem State.bumpSeq_vs (f : Fld) (b : Nat) : (s.bumpSeq f b).vs = s.vs := rfl
@[simp] theorem State.bumpSeq_sec (f : Fld) (b : Nat) : (s.bumpSeq f b).sec = s.sec := rfl
@[simp] theorem State.bumpSeq_pwr (f : Fld) (b : Nat) : (s.bumpSeq f b).pwr = s.pwr := rfl
@[simp] theorem State.bumpSeq_tst (f : Fld) (b : Nat) : (s.bumpSeq f b).tst = s.tst := rfl
@[simp] theorem State.bumpSeq_pending (f : Fld) (b : Nat) : (s.bumpSeq f b).pending = s.pending := rfl

@[simp] theorem State.clearF_now (f : Fld) (b : Nat) : (s.clearF f b).now = s.now := rfl
@[simp] theorem State.clearF_free (f : Fld) (b : Nat) : (s.clearF f b).free = s.free := rfl
@[simp] theorem State.clearF_mem (f : Fld) (b : Nat) : (s.clearF f b).mem = s.mem := rfl
@[simp] theorem State.clearF_dom (f : Fld) (b : Nat) : (s.clearF f b).dom = s.dom := rfl
@[simp] theorem State.clearF_ctl (f : Fld) (b : Nat) : (s.clearF f b).ctl = s.ctl := rfl
@[simp] theorem State.clearF_sil (f : Fld) (b : Nat) : (s.clearF f b).sil = s.sil := rfl
@[simp] theorem State.clearF_qx (f : Fld) (b : Nat) : (s.clearF f b).qx = s.qx := rfl
@[simp] theorem State.clearF_works (f : Fld) (b : Nat) : (s.clearF f b).works = s.works := rfl
@[simp] theorem State.clearF_jnl (f : Fld) (b : Nat) : (s.clearF f b).jnl = s.jnl := rfl
@[simp] theorem State.clearF_xlt (f : Fld) (b : Nat) : (s.clearF f b).xlt = s.xlt := rfl
@[simp] theorem State.clearF_tier (f : Fld) (b : Nat) : (s.clearF f b).tier = s.tier := rfl
@[simp] theorem State.clearF_fab (f : Fld) (b : Nat) : (s.clearF f b).fab = s.fab := rfl
@[simp] theorem State.clearF_eth (f : Fld) (b : Nat) : (s.clearF f b).eth = s.eth := rfl
@[simp] theorem State.clearF_ras (f : Fld) (b : Nat) : (s.clearF f b).ras = s.ras := rfl
@[simp] theorem State.clearF_qnc (f : Fld) (b : Nat) : (s.clearF f b).qnc = s.qnc := rfl
@[simp] theorem State.clearF_home (f : Fld) (b : Nat) : (s.clearF f b).home = s.home := rfl
@[simp] theorem State.clearF_sws (f : Fld) (b : Nat) : (s.clearF f b).sws = s.sws := rfl
@[simp] theorem State.clearF_coll (f : Fld) (b : Nat) : (s.clearF f b).coll = s.coll := rfl
@[simp] theorem State.clearF_emb (f : Fld) (b : Nat) : (s.clearF f b).emb = s.emb := rfl
@[simp] theorem State.clearF_vs (f : Fld) (b : Nat) : (s.clearF f b).vs = s.vs := rfl
@[simp] theorem State.clearF_sec (f : Fld) (b : Nat) : (s.clearF f b).sec = s.sec := rfl
@[simp] theorem State.clearF_pwr (f : Fld) (b : Nat) : (s.clearF f b).pwr = s.pwr := rfl
@[simp] theorem State.clearF_tst (f : Fld) (b : Nat) : (s.clearF f b).tst = s.tst := rfl
@[simp] theorem State.clearF_pending (f : Fld) (b : Nat) : (s.clearF f b).pending = s.pending := rfl

@[simp] theorem State.setFldBit_now (f : Fld) (i : Nat) (x : Bool) (b : Nat) : (s.setFldBit f i x b).now = s.now := rfl
@[simp] theorem State.setFldBit_free (f : Fld) (i : Nat) (x : Bool) (b : Nat) : (s.setFldBit f i x b).free = s.free := rfl
@[simp] theorem State.setFldBit_mem (f : Fld) (i : Nat) (x : Bool) (b : Nat) : (s.setFldBit f i x b).mem = s.mem := rfl
@[simp] theorem State.setFldBit_dom (f : Fld) (i : Nat) (x : Bool) (b : Nat) : (s.setFldBit f i x b).dom = s.dom := rfl
@[simp] theorem State.setFldBit_ctl (f : Fld) (i : Nat) (x : Bool) (b : Nat) : (s.setFldBit f i x b).ctl = s.ctl := rfl
@[simp] theorem State.setFldBit_sil (f : Fld) (i : Nat) (x : Bool) (b : Nat) : (s.setFldBit f i x b).sil = s.sil := rfl
@[simp] theorem State.setFldBit_qx (f : Fld) (i : Nat) (x : Bool) (b : Nat) : (s.setFldBit f i x b).qx = s.qx := rfl
@[simp] theorem State.setFldBit_works (f : Fld) (i : Nat) (x : Bool) (b : Nat) : (s.setFldBit f i x b).works = s.works := rfl
@[simp] theorem State.setFldBit_jnl (f : Fld) (i : Nat) (x : Bool) (b : Nat) : (s.setFldBit f i x b).jnl = s.jnl := rfl
@[simp] theorem State.setFldBit_xlt (f : Fld) (i : Nat) (x : Bool) (b : Nat) : (s.setFldBit f i x b).xlt = s.xlt := rfl
@[simp] theorem State.setFldBit_tier (f : Fld) (i : Nat) (x : Bool) (b : Nat) : (s.setFldBit f i x b).tier = s.tier := rfl
@[simp] theorem State.setFldBit_fab (f : Fld) (i : Nat) (x : Bool) (b : Nat) : (s.setFldBit f i x b).fab = s.fab := rfl
@[simp] theorem State.setFldBit_eth (f : Fld) (i : Nat) (x : Bool) (b : Nat) : (s.setFldBit f i x b).eth = s.eth := rfl
@[simp] theorem State.setFldBit_ras (f : Fld) (i : Nat) (x : Bool) (b : Nat) : (s.setFldBit f i x b).ras = s.ras := rfl
@[simp] theorem State.setFldBit_qnc (f : Fld) (i : Nat) (x : Bool) (b : Nat) : (s.setFldBit f i x b).qnc = s.qnc := rfl
@[simp] theorem State.setFldBit_home (f : Fld) (i : Nat) (x : Bool) (b : Nat) : (s.setFldBit f i x b).home = s.home := rfl
@[simp] theorem State.setFldBit_sws (f : Fld) (i : Nat) (x : Bool) (b : Nat) : (s.setFldBit f i x b).sws = s.sws := rfl
@[simp] theorem State.setFldBit_coll (f : Fld) (i : Nat) (x : Bool) (b : Nat) : (s.setFldBit f i x b).coll = s.coll := rfl
@[simp] theorem State.setFldBit_emb (f : Fld) (i : Nat) (x : Bool) (b : Nat) : (s.setFldBit f i x b).emb = s.emb := rfl
@[simp] theorem State.setFldBit_vs (f : Fld) (i : Nat) (x : Bool) (b : Nat) : (s.setFldBit f i x b).vs = s.vs := rfl
@[simp] theorem State.setFldBit_sec (f : Fld) (i : Nat) (x : Bool) (b : Nat) : (s.setFldBit f i x b).sec = s.sec := rfl
@[simp] theorem State.setFldBit_pwr (f : Fld) (i : Nat) (x : Bool) (b : Nat) : (s.setFldBit f i x b).pwr = s.pwr := rfl
@[simp] theorem State.setFldBit_tst (f : Fld) (i : Nat) (x : Bool) (b : Nat) : (s.setFldBit f i x b).tst = s.tst := rfl
@[simp] theorem State.setFldBit_pending (f : Fld) (i : Nat) (x : Bool) (b : Nat) : (s.setFldBit f i x b).pending = s.pending := rfl

@[simp] theorem State.trackMax_now (f : Fld) (v b : Nat) : (s.trackMax f v b).now = s.now := by unfold State.trackMax; split <;> rfl
@[simp] theorem State.trackMax_free (f : Fld) (v b : Nat) : (s.trackMax f v b).free = s.free := by unfold State.trackMax; split <;> rfl
@[simp] theorem State.trackMax_mem (f : Fld) (v b : Nat) : (s.trackMax f v b).mem = s.mem := by unfold State.trackMax; split <;> rfl
@[simp] theorem State.trackMax_dom (f : Fld) (v b : Nat) : (s.trackMax f v b).dom = s.dom := by unfold State.trackMax; split <;> rfl
@[simp] theorem State.trackMax_ctl (f : Fld) (v b : Nat) : (s.trackMax f v b).ctl = s.ctl := by unfold State.trackMax; split <;> rfl
@[simp] theorem State.trackMax_sil (f : Fld) (v b : Nat) : (s.trackMax f v b).sil = s.sil := by unfold State.trackMax; split <;> rfl
@[simp] theorem State.trackMax_qx (f : Fld) (v b : Nat) : (s.trackMax f v b).qx = s.qx := by unfold State.trackMax; split <;> rfl
@[simp] theorem State.trackMax_works (f : Fld) (v b : Nat) : (s.trackMax f v b).works = s.works := by unfold State.trackMax; split <;> rfl
@[simp] theorem State.trackMax_jnl (f : Fld) (v b : Nat) : (s.trackMax f v b).jnl = s.jnl := by unfold State.trackMax; split <;> rfl
@[simp] theorem State.trackMax_xlt (f : Fld) (v b : Nat) : (s.trackMax f v b).xlt = s.xlt := by unfold State.trackMax; split <;> rfl
@[simp] theorem State.trackMax_tier (f : Fld) (v b : Nat) : (s.trackMax f v b).tier = s.tier := by unfold State.trackMax; split <;> rfl
@[simp] theorem State.trackMax_fab (f : Fld) (v b : Nat) : (s.trackMax f v b).fab = s.fab := by unfold State.trackMax; split <;> rfl
@[simp] theorem State.trackMax_eth (f : Fld) (v b : Nat) : (s.trackMax f v b).eth = s.eth := by unfold State.trackMax; split <;> rfl
@[simp] theorem State.trackMax_ras (f : Fld) (v b : Nat) : (s.trackMax f v b).ras = s.ras := by unfold State.trackMax; split <;> rfl
@[simp] theorem State.trackMax_qnc (f : Fld) (v b : Nat) : (s.trackMax f v b).qnc = s.qnc := by unfold State.trackMax; split <;> rfl
@[simp] theorem State.trackMax_home (f : Fld) (v b : Nat) : (s.trackMax f v b).home = s.home := by unfold State.trackMax; split <;> rfl
@[simp] theorem State.trackMax_sws (f : Fld) (v b : Nat) : (s.trackMax f v b).sws = s.sws := by unfold State.trackMax; split <;> rfl
@[simp] theorem State.trackMax_coll (f : Fld) (v b : Nat) : (s.trackMax f v b).coll = s.coll := by unfold State.trackMax; split <;> rfl
@[simp] theorem State.trackMax_emb (f : Fld) (v b : Nat) : (s.trackMax f v b).emb = s.emb := by unfold State.trackMax; split <;> rfl
@[simp] theorem State.trackMax_vs (f : Fld) (v b : Nat) : (s.trackMax f v b).vs = s.vs := by unfold State.trackMax; split <;> rfl
@[simp] theorem State.trackMax_sec (f : Fld) (v b : Nat) : (s.trackMax f v b).sec = s.sec := by unfold State.trackMax; split <;> rfl
@[simp] theorem State.trackMax_pwr (f : Fld) (v b : Nat) : (s.trackMax f v b).pwr = s.pwr := by unfold State.trackMax; split <;> rfl
@[simp] theorem State.trackMax_tst (f : Fld) (v b : Nat) : (s.trackMax f v b).tst = s.tst := by unfold State.trackMax; split <;> rfl
@[simp] theorem State.trackMax_pending (f : Fld) (v b : Nat) : (s.trackMax f v b).pending = s.pending := by unfold State.trackMax; split <;> rfl

@[simp] theorem State.reach_regs (t : Nat) : (s.reach t).regs = s.regs := rfl
@[simp] theorem State.reach_free (t : Nat) : (s.reach t).free = s.free := rfl
@[simp] theorem State.reach_mem (t : Nat) : (s.reach t).mem = s.mem := rfl
@[simp] theorem State.reach_dom (t : Nat) : (s.reach t).dom = s.dom := rfl
@[simp] theorem State.reach_ctl (t : Nat) : (s.reach t).ctl = s.ctl := rfl
@[simp] theorem State.reach_sil (t : Nat) : (s.reach t).sil = s.sil := rfl
@[simp] theorem State.reach_qx (t : Nat) : (s.reach t).qx = s.qx := rfl
@[simp] theorem State.reach_works (t : Nat) : (s.reach t).works = s.works := rfl
@[simp] theorem State.reach_jnl (t : Nat) : (s.reach t).jnl = s.jnl := rfl
@[simp] theorem State.reach_xlt (t : Nat) : (s.reach t).xlt = s.xlt := rfl
@[simp] theorem State.reach_tier (t : Nat) : (s.reach t).tier = s.tier := rfl
@[simp] theorem State.reach_fab (t : Nat) : (s.reach t).fab = s.fab := rfl
@[simp] theorem State.reach_eth (t : Nat) : (s.reach t).eth = s.eth := rfl
@[simp] theorem State.reach_ras (t : Nat) : (s.reach t).ras = s.ras := rfl
@[simp] theorem State.reach_qnc (t : Nat) : (s.reach t).qnc = s.qnc := rfl
@[simp] theorem State.reach_home (t : Nat) : (s.reach t).home = s.home := rfl
@[simp] theorem State.reach_sws (t : Nat) : (s.reach t).sws = s.sws := rfl
@[simp] theorem State.reach_coll (t : Nat) : (s.reach t).coll = s.coll := rfl
@[simp] theorem State.reach_emb (t : Nat) : (s.reach t).emb = s.emb := rfl
@[simp] theorem State.reach_vs (t : Nat) : (s.reach t).vs = s.vs := rfl
@[simp] theorem State.reach_sec (t : Nat) : (s.reach t).sec = s.sec := rfl
@[simp] theorem State.reach_pwr (t : Nat) : (s.reach t).pwr = s.pwr := rfl
@[simp] theorem State.reach_tst (t : Nat) : (s.reach t).tst = s.tst := rfl
@[simp] theorem State.reach_pending (t : Nat) : (s.reach t).pending = s.pending := rfl

@[simp] theorem State.after_regs (t : State) : (s.after t).regs = t.regs := rfl
@[simp] theorem State.after_free (t : State) : (s.after t).free = t.free := rfl
@[simp] theorem State.after_mem (t : State) : (s.after t).mem = t.mem := rfl
@[simp] theorem State.after_dom (t : State) : (s.after t).dom = t.dom := rfl
@[simp] theorem State.after_ctl (t : State) : (s.after t).ctl = t.ctl := rfl
@[simp] theorem State.after_sil (t : State) : (s.after t).sil = t.sil := rfl
@[simp] theorem State.after_qx (t : State) : (s.after t).qx = t.qx := rfl
@[simp] theorem State.after_works (t : State) : (s.after t).works = t.works := rfl
@[simp] theorem State.after_jnl (t : State) : (s.after t).jnl = t.jnl := rfl
@[simp] theorem State.after_xlt (t : State) : (s.after t).xlt = t.xlt := rfl
@[simp] theorem State.after_tier (t : State) : (s.after t).tier = t.tier := rfl
@[simp] theorem State.after_fab (t : State) : (s.after t).fab = t.fab := rfl
@[simp] theorem State.after_eth (t : State) : (s.after t).eth = t.eth := rfl
@[simp] theorem State.after_ras (t : State) : (s.after t).ras = t.ras := rfl
@[simp] theorem State.after_qnc (t : State) : (s.after t).qnc = t.qnc := rfl
@[simp] theorem State.after_home (t : State) : (s.after t).home = t.home := rfl
@[simp] theorem State.after_sws (t : State) : (s.after t).sws = t.sws := rfl
@[simp] theorem State.after_coll (t : State) : (s.after t).coll = t.coll := rfl
@[simp] theorem State.after_emb (t : State) : (s.after t).emb = t.emb := rfl
@[simp] theorem State.after_vs (t : State) : (s.after t).vs = t.vs := rfl
@[simp] theorem State.after_sec (t : State) : (s.after t).sec = t.sec := rfl
@[simp] theorem State.after_pwr (t : State) : (s.after t).pwr = t.pwr := rfl
@[simp] theorem State.after_tst (t : State) : (s.after t).tst = t.tst := rfl
@[simp] theorem State.after_pending (t : State) : (s.after t).pending = s.pending := rfl
@[simp] theorem State.after_now (t : State) : (s.after t).now = max s.now t.now := rfl

/-! ### Reading a field -/

/-- A field is read from the register file alone. -/
theorem State.fld_congr {s t : State} (h : t.regs = s.regs) (f : Fld) (b : Nat) : t.fld f b = s.fld f b := by
  unfold State.fld; rw [h]

@[simp] theorem State.fld_after (t : State) (f : Fld) (b : Nat) : (s.after t).fld f b = t.fld f b := rfl
@[simp] theorem State.fld_reach (t : Nat) (f : Fld) (b : Nat) : (s.reach t).fld f b = s.fld f b := rfl

/-- A field reads as it was written, cut to its width. -/
@[simp] theorem State.fld_setF_same (f : Fld) (v b : Nat) : (s.setF f v b).fld f b = v % 2 ^ f.width := by
  simp [State.fld, State.setF]

/-- Other fields keep their values. -/
theorem State.fld_setF_ne {f g : Fld} {b c : Nat} (v : Nat) (h : f.key b ≠ g.key c) : (s.setF f v b).fld g c = s.fld g c := by
  simp [State.fld, State.setF, Tbl.getD_store_ne _ _ _ _ h]

theorem State.fld_count_ne {f g : Fld} {b c : Nat} (n : Nat) (h : f.key b ≠ g.key c) : (s.count f n b).fld g c = s.fld g c :=
  s.fld_setF_ne _ h

theorem State.fld_bumpSeq_ne {f g : Fld} {b c : Nat} (h : f.key b ≠ g.key c) : (s.bumpSeq f b).fld g c = s.fld g c :=
  s.fld_setF_ne _ h

theorem State.fld_setFldBit_ne {f g : Fld} {b c : Nat} (i : Nat) (x : Bool) (h : f.key b ≠ g.key c) :
    (s.setFldBit f i x b).fld g c = s.fld g c := s.fld_setF_ne _ h

theorem State.fld_trackMax_ne {f g : Fld} {b c : Nat} (v : Nat) (h : f.key b ≠ g.key c) : (s.trackMax f v b).fld g c = s.fld g c := by
  unfold State.trackMax
  split
  · exact s.fld_setF_ne _ h
  · rfl

/-- A saturating counter that has not reached its end counts up. -/
theorem State.fld_count_same (f : Fld) (n b : Nat) : (s.count f n b).fld f b = satAdd f.width (s.fld f b) n % 2 ^ f.width := by
  simp [State.count]

@[simp] theorem State.fld_bumpSeq_same (f : Fld) (b : Nat) : (s.bumpSeq f b).fld f b = (s.fld f b + 1) % 2 ^ f.width := by
  simp [State.bumpSeq]

@[simp] theorem State.fld_clearF_same (f : Fld) (b : Nat) : (s.clearF f b).fld f b = f.reset % 2 ^ f.width := by
  simp [State.clearF]

/-! ### What a command answers -/

theorem State.where_true {ok : Bool} (f : State → State) (h : ok = true) : s.where_ ok f = .next (s.after (f s)) := by
  simp [State.where_, h]

theorem State.where_false {ok : Bool} (f : State → State) (h : ok = false) : s.where_ ok f = .next s := by
  simp [State.where_, h]

theorem State.run_serves {l : List Nat} (f : State → State) (h : s.serves l = true) : s.run l f = .next (s.after (f s)) :=
  s.where_true f h

theorem State.runOn_serves {l : List Nat} (f : State → State) (h : s.serves l = true) : s.runOn l f = .next (s.after (f s).settleAll) := by
  simp only [State.runOn, State.run, State.where_, h, if_true]

theorem State.run_idle {l : List Nat} (f : State → State) (h : s.serves l = false) : s.run l f = .next s := s.where_false f h

theorem State.runOn_idle {l : List Nat} (f : State → State) (h : s.serves l = false) : s.runOn l f = .next s := by
  simp only [State.runOn, State.run, State.where_, h, Bool.false_eq_true, if_false]

/-- Every command of the forms above answers a next state with the same queue, at no earlier time. -/
theorem State.where_keeps {ok : Bool} {f : State → State} {t : State} (h : s.where_ ok f = .next t) :
    t.pending = s.pending ∧ s.now ≤ t.now := by
  unfold State.where_ at h
  split at h <;> cases h <;> simp

/-- A device that is not live serves nothing. -/
theorem State.serves_dead {l : List Nat} (h : s.live = false) : s.serves l = false := by simp [State.serves, h]

end Sys2Proof.Machine
end

