-- ==== Sys2Proof/Laws/Exec.lean ====
section
/-! SUPPORT. The dispatcher gives every command the meaning of its own row: one lemma per command. -/

namespace Sys2Proof.Machine

variable (s : State)

theorem exec_registerWrite (ch : ChanId) (off : Nat) (bs : List Byte) (env : WriteEnv) : exec (.registerWrite ch off bs env) s = execRegisterWrite ch off bs env s := rfl
theorem exec_rcFieldRead (ch : ChanId) (off len : Nat) : exec (.rcFieldRead ch off len) s = execRcFieldRead ch off len s := rfl
theorem exec_heartbeatTimer : exec (.heartbeatTimer) s = execHeartbeatTimer s := rfl
theorem exec_heartbeat (p : Packet) : exec (.heartbeat p) s = execHeartbeat p s := rfl
theorem exec_memberLossTimeout (d : Nat) : exec (.memberLossTimeout d) s = execMemberLossTimeout d s := rfl
theorem exec_memberDeclare (p : Packet) : exec (.memberDeclare p) s = execMemberDeclare p s := rfl
theorem exec_identityExchange (d : Nat) (peer : PeerInfo) : exec (.identityExchange d peer) s = execIdentityExchange d peer s := rfl
theorem exec_laneTrainingDone (port lane position number cls : Nat) : exec (.laneTrainingDone port lane position number cls) s = execLaneTrainingDone port lane position number cls s := rfl
theorem exec_laneDown (port lane : Nat) : exec (.laneDown port lane) s = execLaneDown port lane s := rfl
theorem exec_laneRetrainDone (port lane position number : Nat) : exec (.laneRetrainDone port lane position number) s = execLaneRetrainDone port lane position number s := rfl
theorem exec_mgmtAccessTimeout (tag : Nat) : exec (.mgmtAccessTimeout tag) s = execMgmtAccessTimeout tag s := rfl
theorem exec_silBeginFull (ch : ChanId) : exec (.silBeginFull ch) s = execSilBeginFull ch s := rfl
theorem exec_silBeginPartial (ch : ChanId) : exec (.silBeginPartial ch) s = execSilBeginPartial ch s := rfl
theorem exec_silCommit (ch : ChanId) : exec (.silCommit ch) s = execSilCommit ch s := rfl
theorem exec_silAbort (ch : ChanId) : exec (.silAbort ch) s = execSilAbort ch s := rfl
theorem exec_silApertureWrite (ch : ChanId) (word value : Nat) : exec (.silApertureWrite ch word value) s = execSilApertureWrite ch word value s := rfl
theorem exec_imageVerifyDone (internal : Bool) : exec (.imageVerifyDone internal) s = execImageVerifyDone internal s := rfl
theorem exec_imageCheckDone (internal : Bool) : exec (.imageCheckDone internal) s = execImageCheckDone internal s := rfl
theorem exec_sliceDrained : exec (.sliceDrained) s = execSliceDrained s := rfl
theorem exec_drainTimeout : exec (.drainTimeout) s = execDrainTimeout s := rfl
theorem exec_ringFetchDone (entries : List JEntry) (high : Nat) : exec (.ringFetchDone entries high) s = execRingFetchDone entries high s := rfl
theorem exec_ringFetchTimeout : exec (.ringFetchTimeout) s = execRingFetchTimeout s := rfl
theorem exec_keepalive (ch : ChanId) : exec (.keepalive ch) s = execKeepalive ch s := rfl
theorem exec_seatRelease (ch : ChanId) : exec (.seatRelease ch) s = execSeatRelease ch s := rfl
theorem exec_claimBegin (ch : ChanId) : exec (.claimBegin ch) s = execClaimBegin ch s := rfl
theorem exec_claimSubmit (ch : ChanId) : exec (.claimSubmit ch) s = execClaimSubmit ch s := rfl
theorem exec_claimCheckDone (buffer : Nat) (internal : Bool) : exec (.claimCheckDone buffer internal) s = execClaimCheckDone buffer internal s := rfl
theorem exec_claimBufferTimeout (buffer : Nat) : exec (.claimBufferTimeout buffer) s = execClaimBufferTimeout buffer s := rfl
theorem exec_channelClose (ch : ChanId) : exec (.channelClose ch) s = execChannelClose ch s := rfl
theorem exec_seatLivenessTimeout (seat : SeatId) : exec (.seatLivenessTimeout seat) s = execSeatLivenessTimeout seat s := rfl
theorem exec_semAcquire (ch : ChanId) (sem lease : Nat) (other : Option (ChanId × Nat)) : exec (.semAcquire ch sem lease other) s = execSemAcquire ch sem lease other s := rfl
theorem exec_semRenew (ch : ChanId) (sem lease : Nat) : exec (.semRenew ch sem lease) s = execSemRenew ch sem lease s := rfl
theorem exec_semRelease (ch : ChanId) (sem : Nat) : exec (.semRelease ch sem) s = execSemRelease ch sem s := rfl
theorem exec_semLeaseExpiry (sem : Nat) : exec (.semLeaseExpiry sem) s = execSemLeaseExpiry sem s := rfl
theorem exec_i3cWindowFrame (bs : List Byte) (env : WriteEnv) : exec (.i3cWindowFrame bs env) s = execI3cWindowFrame bs env s := rfl
theorem exec_i3cPrivateRead : exec (.i3cPrivateRead) s = execI3cPrivateRead s := rfl
theorem exec_i3cEntdaa (addr : Nat) : exec (.i3cEntdaa addr) s = execI3cEntdaa addr s := rfl
theorem exec_i3cRstdaa : exec (.i3cRstdaa) s = execI3cRstdaa s := rfl
theorem exec_i3cSetdasa (addr : Nat) : exec (.i3cSetdasa addr) s = execI3cSetdasa addr s := rfl
theorem exec_i3cGetpid : exec (.i3cGetpid) s = execI3cGetpid s := rfl
theorem exec_i3cGetbcr : exec (.i3cGetbcr) s = execI3cGetbcr s := rfl
theorem exec_i3cGetdcr : exec (.i3cGetdcr) s = execI3cGetdcr s := rfl
theorem exec_i3cGetstatus : exec (.i3cGetstatus) s = execI3cGetstatus s := rfl
theorem exec_i3cEnec (bits : Nat) : exec (.i3cEnec bits) s = execI3cEnec bits s := rfl
theorem exec_i3cDisec (bits : Nat) : exec (.i3cDisec bits) s = execI3cDisec bits s := rfl
theorem exec_i3cCccUnsupported (code : Nat) : exec (.i3cCccUnsupported code) s = execI3cCccUnsupported code s := rfl
theorem exec_doorbell (queue word : Nat) : exec (.doorbell queue word) s = execDoorbell queue word s := rfl
theorem exec_cqHeadStore (queue word : Nat) : exec (.cqHeadStore queue word) s = execCqHeadStore queue word s := rfl
theorem exec_slotFetchDone (queue : Nat) (timedOut : Bool) : exec (.slotFetchDone queue timedOut) s = execSlotFetchDone queue timedOut s := rfl
theorem exec_mirrorAck (p : Packet) : exec (.mirrorAck p) s = execMirrorAck p s := rfl
theorem exec_journalMirrorEntry (p : Packet) : exec (.journalMirrorEntry p) s = execJournalMirrorEntry p s := rfl
theorem exec_handoff (p : Packet) : exec (.handoff p) s = execHandoff p s := rfl
theorem exec_taken (p : Packet) : exec (.taken p) s = execTaken p s := rfl
theorem exec_held (p : Packet) : exec (.held p) s = execHeld p s := rfl
theorem exec_notHeld (p : Packet) : exec (.notHeld p) s = execNotHeld p s := rfl
theorem exec_holdQuery (p : Packet) : exec (.holdQuery p) s = execHoldQuery p s := rfl
theorem exec_phaseDone (p : Packet) : exec (.phaseDone p) s = execPhaseDone p s := rfl
theorem exec_orphanScan : exec (.orphanScan) s = execOrphanScan s := rfl
theorem exec_queueEnable (ch : ChanId) : exec (.queueEnable ch) s = execQueueEnable ch s := rfl
theorem exec_queueDisable (ch : ChanId) : exec (.queueDisable ch) s = execQueueDisable ch s := rfl
theorem exec_queueClearError (ch : ChanId) : exec (.queueClearError ch) s = execQueueClearError ch s := rfl
theorem exec_map (ch : ChanId) : exec (.map ch) s = execMap ch s := rfl
theorem exec_mapOwnerAnswer (p : Packet) : exec (.mapOwnerAnswer p) s = execMapOwnerAnswer p s := rfl
theorem exec_mapTimeout (seat : SeatId) : exec (.mapTimeout seat) s = execMapTimeout seat s := rfl
theorem exec_contextEnable (ch : ChanId) : exec (.contextEnable ch) s = execContextEnable ch s := rfl
theorem exec_contextDisable (ch : ChanId) : exec (.contextDisable ch) s = execContextDisable ch s := rfl
theorem exec_unmapRange (ch : ChanId) : exec (.unmapRange ch) s = execUnmapRange ch s := rfl
theorem exec_unmapContext (ch : ChanId) : exec (.unmapContext ch) s = execUnmapContext ch s := rfl
theorem exec_releaseMember (ch : ChanId) (d : Nat) : exec (.releaseMember ch d) s = execReleaseMember ch d s := rfl
theorem exec_etcInvalidateDone (ctx va : Nat) : exec (.etcInvalidateDone ctx va) s = execEtcInvalidateDone ctx va s := rfl
theorem exec_etcMissWalk (ctx va : Nat) : exec (.etcMissWalk ctx va) s = execEtcMissWalk ctx va s := rfl
theorem exec_shootdownTimeout (seat : SeatId) : exec (.shootdownTimeout seat) s = execShootdownTimeout seat s := rfl
theorem exec_xltMapCheck (p : Packet) : exec (.xltMapCheck p) s = execXltMapCheck p s := rfl
theorem exec_revokeRange (p : Packet) : exec (.revokeRange p) s = execRevokeRange p s := rfl
theorem exec_drainedReport (p : Packet) : exec (.drainedReport p) s = execDrainedReport p s := rfl
theorem exec_registrationQuery (p : Packet) : exec (.registrationQuery p) s = execRegistrationQuery p s := rfl
theorem exec_partFailure (tier part : Nat) : exec (.partFailure tier part) s = execPartFailure tier part s := rfl
theorem exec_stagingSlotFree : exec (.stagingSlotFree) s = execStagingSlotFree s := rfl
theorem exec_granuleResync (tier granule : Nat) : exec (.granuleResync tier granule) s = execGranuleResync tier granule s := rfl
theorem exec_armUnitDone (cell : Nat) : exec (.armUnitDone cell) s = execArmUnitDone cell s := rfl
theorem exec_rebuildUnitCopy (tier : Nat) : exec (.rebuildUnitCopy tier) s = execRebuildUnitCopy tier s := rfl
theorem exec_rebuildStageDone (stage d : Nat) (entries : List JEntry) (claims : List Claim) (content : List (Nat × List Byte × Nat)) (lost : List (Nat × Nat)) : exec (.rebuildStageDone stage d entries claims content lost) s = execRebuildStageDone stage d entries claims content lost s := rfl
theorem exec_qissue (core : Nat) : exec (.qissue core) s = execQissue core s := rfl
theorem exec_qwait (core : Nat) : exec (.qwait core) s = execQwait core s := rfl
theorem exec_qpoll (core : Nat) : exec (.qpoll core) s = execQpoll core s := rfl
theorem exec_qfence (core : Nat) : exec (.qfence core) s = execQfence core s := rfl
theorem exec_qexit (core : Nat) : exec (.qexit core) s = execQexit core s := rfl
theorem exec_qinfo (core : Nat) : exec (.qinfo core) s = execQinfo core s := rfl
theorem exec_scalarInstruction (core : Nat) (badSector : Option Nat) (parity : Bool) : exec (.scalarInstruction core badSector parity) s = execScalarInstruction core badSector parity s := rfl
theorem exec_mma (core : Nat) (faults : List ArrayFault) : exec (.mma core faults) s = execMma core faults s := rfl
theorem exec_vectorAdd (core : Nat) : exec (.vectorAdd core) s = execVectorAdd core s := rfl
theorem exec_vectorSub (core : Nat) : exec (.vectorSub core) s = execVectorSub core s := rfl
theorem exec_vectorMul (core : Nat) : exec (.vectorMul core) s = execVectorMul core s := rfl
theorem exec_vectorFma (core : Nat) : exec (.vectorFma core) s = execVectorFma core s := rfl
theorem exec_vectorMax (core : Nat) : exec (.vectorMax core) s = execVectorMax core s := rfl
theorem exec_vectorMin (core : Nat) : exec (.vectorMin core) s = execVectorMin core s := rfl
theorem exec_affine (core : Nat) : exec (.affine core) s = execAffine core s := rfl
theorem exec_exp2 (core : Nat) : exec (.exp2 core) s = execExp2 core s := rfl
theorem exec_rcp (core : Nat) : exec (.rcp core) s = execRcp core s := rfl
theorem exec_rsqrt (core : Nat) : exec (.rsqrt core) s = execRsqrt core s := rfl
theorem exec_log2 (core : Nat) : exec (.log2 core) s = execLog2 core s := rfl
theorem exec_rowmax (core : Nat) : exec (.rowmax core) s = execRowmax core s := rfl
theorem exec_rowsum (core : Nat) : exec (.rowsum core) s = execRowsum core s := rfl
theorem exec_convert (core : Nat) : exec (.convert core) s = execConvert core s := rfl
theorem exec_softmaxStep (core : Nat) : exec (.softmaxStep core) s = execSoftmaxStep core s := rfl
theorem exec_rescale (core : Nat) : exec (.rescale core) s = execRescale core s := rfl
theorem exec_normalise (core : Nat) : exec (.normalise core) s = execNormalise core s := rfl
theorem exec_dmaLoad (core : Nat) (parity : Bool) : exec (.dmaLoad core parity) s = execDmaLoad core parity s := rfl
theorem exec_dmaStore (core : Nat) (parity : Bool) : exec (.dmaStore core parity) s = execDmaStore core parity s := rfl
theorem exec_dmaPublish (core : Nat) (parity : Bool) : exec (.dmaPublish core parity) s = execDmaPublish core parity s := rfl
theorem exec_localCopy (core : Nat) (parity : Bool) : exec (.localCopy core parity) s = execLocalCopy core parity s := rfl
theorem exec_dmaAtomic (core : Nat) (parity : Bool) : exec (.dmaAtomic core parity) s = execDmaAtomic core parity s := rfl
theorem exec_kernelVerifyDone (tag : Nat) : exec (.kernelVerifyDone tag) s = execKernelVerifyDone tag s := rfl
theorem exec_launchBudgetExpiry (tag : Nat) : exec (.launchBudgetExpiry tag) s = execLaunchBudgetExpiry tag s := rfl
theorem exec_coreWakeDone (core : Nat) : exec (.coreWakeDone core) s = execCoreWakeDone core s := rfl
theorem exec_coreIdleGate (core : Nat) : exec (.coreIdleGate core) s = execCoreIdleGate core s := rfl
theorem exec_kcacheFlush (ch : ChanId) : exec (.kcacheFlush ch) s = execKcacheFlush ch s := rfl
theorem exec_attendUnitDone (core : Nat) (faults : List ArrayFault) : exec (.attendUnitDone core faults) s = execAttendUnitDone core faults s := rfl
theorem exec_packetForward (ingress lane : Nat) (p : Packet) (crc stomp fault : Nat) : exec (.packetForward ingress lane p crc stomp fault) s = execPacketForward ingress lane p crc stomp fault s := rfl
theorem exec_egressArbitration (egress : Nat) : exec (.egressArbitration egress) s = execEgressArbitration egress s := rfl
theorem exec_linkFrame (port lane : Nat) (frame : Frame) : exec (.linkFrame port lane frame) s = execLinkFrame port lane frame s := rfl
theorem exec_load (p : Packet) (ecc : Nat) : exec (.load p ecc) s = execLoad p ecc s := rfl
theorem exec_store (p : Packet) (ecc : Nat) : exec (.store p ecc) s = execStore p ecc s := rfl
theorem exec_atomic (p : Packet) (ecc : Nat) : exec (.atomic p ecc) s = execAtomic p ecc s := rfl
theorem exec_reduce (p : Packet) : exec (.reduce p) s = execReduce p s := rfl
theorem exec_tileCommit (p : Packet) : exec (.tileCommit p) s = execTileCommit p s := rfl
theorem exec_mirror (p : Packet) : exec (.mirror p) s = execMirror p s := rfl
theorem exec_parity (p : Packet) : exec (.parity p) s = execParity p s := rfl
theorem exec_retire (p : Packet) : exec (.retire p) s = execRetire p s := rfl
theorem exec_fenceMark (p : Packet) : exec (.fenceMark p) s = execFenceMark p s := rfl
theorem exec_agentFence (aport : Nat) (p : Packet) : exec (.agentFence aport p) s = execAgentFence aport p s := rfl
theorem exec_tagReset (p : Packet) : exec (.tagReset p) s = execTagReset p s := rfl
theorem exec_blockRead (p : Packet) (ecc : Nat) : exec (.blockRead p ecc) s = execBlockRead p ecc s := rfl
theorem exec_blockWrite (p : Packet) : exec (.blockWrite p) s = execBlockWrite p s := rfl
theorem exec_blockAssemblyTimeout (src tag : Nat) : exec (.blockAssemblyTimeout src tag) s = execBlockAssemblyTimeout src tag s := rfl
theorem exec_windowRead (p : Packet) : exec (.windowRead p) s = execWindowRead p s := rfl
theorem exec_windowWrite (p : Packet) (env : WriteEnv) : exec (.windowWrite p env) s = execWindowWrite p env s := rfl
theorem exec_relayDrain (p : Packet) : exec (.relayDrain p) s = execRelayDrain p s := rfl
theorem exec_response (p : Packet) : exec (.response p) s = execResponse p s := rfl
theorem exec_retryTimer (tag : Nat) : exec (.retryTimer tag) s = execRetryTimer tag s := rfl
theorem exec_fabricTimeout (tag : Nat) : exec (.fabricTimeout tag) s = execFabricTimeout tag s := rfl
theorem exec_retireSend (d : Nat) : exec (.retireSend d) s = execRetireSend d s := rfl
theorem exec_agentRequest (aport : Nat) (p : Packet) : exec (.agentRequest aport p) s = execAgentRequest aport p s := rfl
theorem exec_portRetrain (ch : ChanId) (lane : Nat) : exec (.portRetrain ch lane) s = execPortRetrain ch lane s := rfl
theorem exec_portHoldDown (ch : ChanId) (lane : Nat) : exec (.portHoldDown ch lane) s = execPortHoldDown ch lane s := rfl
theorem exec_portRelease (ch : ChanId) (lane : Nat) : exec (.portRelease ch lane) s = execPortRelease ch lane s := rfl
theorem exec_readShared (p : Packet) (ecc : Nat) : exec (.readShared p ecc) s = execReadShared p ecc s := rfl
theorem exec_readOwn (p : Packet) (ecc : Nat) : exec (.readOwn p ecc) s = execReadOwn p ecc s := rfl
theorem exec_upgrade (p : Packet) (ecc : Nat) : exec (.upgrade p ecc) s = execUpgrade p ecc s := rfl
theorem exec_writeback (p : Packet) (ecc : Nat) : exec (.writeback p ecc) s = execWriteback p ecc s := rfl
theorem exec_snpInv (p : Packet) : exec (.snpInv p) s = execSnpInv p s := rfl
theorem exec_snpShare (p : Packet) : exec (.snpShare p) s = execSnpShare p s := rfl
theorem exec_snpFwd (p : Packet) : exec (.snpFwd p) s = execSnpFwd p s := rfl
theorem exec_agentFlush (aport owner : Nat) (every : Bool) : exec (.agentFlush aport owner every) s = execAgentFlush aport owner every s := rfl
theorem exec_agentDrop (p : Packet) : exec (.agentDrop p) s = execAgentDrop p s := rfl
theorem exec_agentDropScanDone (src tag : Nat) : exec (.agentDropScanDone src tag) s = execAgentDropScanDone src tag s := rfl
theorem exec_agentExpel (p : Packet) : exec (.agentExpel p) s = execAgentExpel p s := rfl
theorem exec_grantAck (p : Packet) : exec (.grantAck p) s = execGrantAck p s := rfl
theorem exec_snoopAnswer (p : Packet) : exec (.snoopAnswer p) s = execSnoopAnswer p s := rfl
theorem exec_homeTimeout (agent line : Nat) : exec (.homeTimeout agent line) s = execHomeTimeout agent line s := rfl
theorem exec_aportFlush (ch : ChanId) (aport : Nat) : exec (.aportFlush ch aport) s = execAportFlush ch aport s := rfl
theorem exec_aportExpel (ch : ChanId) (aport : Nat) : exec (.aportExpel ch aport) s = execAportExpel ch aport s := rfl
theorem exec_gateEntryBegin : exec (.gateEntryBegin) s = execGateEntryBegin s := rfl
theorem exec_gateHoldoverExpiry : exec (.gateHoldoverExpiry) s = execGateHoldoverExpiry s := rfl
theorem exec_shaperApply (ch : ChanId) : exec (.shaperApply ch) s = execShaperApply ch s := rfl
theorem exec_shaperLoad (ch : ChanId) : exec (.shaperLoad ch) s = execShaperLoad ch s := rfl
theorem exec_contrib (p : Packet) : exec (.contrib p) s = execContrib p s := rfl
theorem exec_result (p : Packet) : exec (.result p) s = execResult p s := rfl
theorem exec_digest (p : Packet) : exec (.digest p) s = execDigest p s := rfl
theorem exec_grant (p : Packet) : exec (.grant p) s = execGrant p s := rfl
theorem exec_collectiveAbort (p : Packet) : exec (.collectiveAbort p) s = execCollectiveAbort p s := rfl
theorem exec_collectiveTimeout (key id : Nat) : exec (.collectiveTimeout key id) s = execCollectiveTimeout key id s := rfl
theorem exec_poolReq (p : Packet) : exec (.poolReq p) s = execPoolReq p s := rfl
theorem exec_poolPart (p : Packet) : exec (.poolPart p) s = execPoolPart p s := rfl
theorem exec_verDrained (p : Packet) : exec (.verDrained p) s = execVerDrained p s := rfl
theorem exec_tableDefine (ch : ChanId) : exec (.tableDefine ch) s = execTableDefine ch s := rfl
theorem exec_tableDelete (ch : ChanId) : exec (.tableDelete ch) s = execTableDelete ch s := rfl
theorem exec_versionInstall (ch : ChanId) : exec (.versionInstall ch) s = execVersionInstall ch s := rfl
theorem exec_versionCommit (ch : ChanId) : exec (.versionCommit ch) s = execVersionCommit ch s := rfl
theorem exec_versionDiscard (ch : ChanId) : exec (.versionDiscard ch) s = execVersionDiscard ch s := rfl
theorem exec_centroidStepDone (tag : Nat) : exec (.centroidStepDone tag) s = execCentroidStepDone tag s := rfl
theorem exec_segmentScanDone (unit : Nat) : exec (.segmentScanDone unit) s = execSegmentScanDone unit s := rfl
theorem exec_segmentScanTimeout (unit : Nat) : exec (.segmentScanTimeout unit) s = execSegmentScanTimeout unit s := rfl
theorem exec_sloeParityFault (unit : Nat) : exec (.sloeParityFault unit) s = execSloeParityFault unit s := rfl
theorem exec_searchMergeDone (tag : Nat) : exec (.searchMergeDone tag) s = execSearchMergeDone tag s := rfl
theorem exec_qpToInit (ch : ChanId) : exec (.qpToInit ch) s = execQpToInit ch s := rfl
theorem exec_qpToRtr (ch : ChanId) : exec (.qpToRtr ch) s = execQpToRtr ch s := rfl
theorem exec_qpToRts (ch : ChanId) : exec (.qpToRts ch) s = execQpToRts ch s := rfl
theorem exec_qpToError (ch : ChanId) : exec (.qpToError ch) s = execQpToError ch s := rfl
theorem exec_qpToReset (ch : ChanId) : exec (.qpToReset ch) s = execQpToReset ch s := rfl
theorem exec_rdmaWrite (qp psn va rkey : Nat) (bs : List Byte) (ce : Bool) (env : WriteEnv) : exec (.rdmaWrite qp psn va rkey bs ce env) s = execRdmaWrite qp psn va rkey bs ce env s := rfl
theorem exec_rdmaRead (qp psn va rkey len : Nat) (ce : Bool) (env : WriteEnv) : exec (.rdmaRead qp psn va rkey len ce env) s = execRdmaRead qp psn va rkey len ce env s := rfl
theorem exec_fetchAdd (qp psn va rkey operand : Nat) (ce : Bool) : exec (.fetchAdd qp psn va rkey operand ce) s = execFetchAdd qp psn va rkey operand ce s := rfl
theorem exec_cmpSwap (qp psn va rkey compare swap : Nat) (ce : Bool) : exec (.cmpSwap qp psn va rkey compare swap ce) s = execCmpSwap qp psn va rkey compare swap ce s := rfl
theorem exec_send (qp psn : Nat) (bs : List Byte) (ce : Bool) : exec (.send qp psn bs ce) s = execSend qp psn bs ce s := rfl
theorem exec_roceAck (qp psn code : Nat) (data : List Byte) : exec (.roceAck qp psn code data) s = execRoceAck qp psn code data s := rfl
theorem exec_qpAckTimeout (qp : Nat) : exec (.qpAckTimeout qp) s = execQpAckTimeout qp s := rfl
theorem exec_cnp (qp : Nat) : exec (.cnp qp) s = execCnp qp s := rfl
theorem exec_ccRecoverTimer : exec (.ccRecoverTimer) s = execCcRecoverTimer s := rfl
theorem exec_pfcFrame (port prio quanta : Nat) : exec (.pfcFrame port prio quanta) s = execPfcFrame port prio quanta s := rfl
theorem exec_pfcXoffRefresh (port prio : Nat) : exec (.pfcXoffRefresh port prio) s = execPfcXoffRefresh port prio s := rfl
theorem exec_pfcWatchdog (port prio : Nat) : exec (.pfcWatchdog port prio) s = execPfcWatchdog port prio s := rfl
theorem exec_arpRequest (port hi lo : Nat) : exec (.arpRequest port hi lo) s = execArpRequest port hi lo s := rfl
theorem exec_neighbourSolicitation (port hi lo : Nat) : exec (.neighbourSolicitation port hi lo) s = execNeighbourSolicitation port hi lo s := rfl
theorem exec_icmpEcho (port hi lo bytes : Nat) : exec (.icmpEcho port hi lo bytes) s = execIcmpEcho port hi lo bytes s := rfl
theorem exec_ethFrameDiscard (port : Nat) (icrc : Bool) : exec (.ethFrameDiscard port icrc) s = execEthFrameDiscard port icrc s := rfl
theorem exec_mrRegister (ch : ChanId) (ctx rights : Nat) : exec (.mrRegister ch ctx rights) s = execMrRegister ch ctx rights s := rfl
theorem exec_mrDeregister (ch : ChanId) (rkey : Nat) : exec (.mrDeregister ch rkey) s = execMrDeregister ch rkey s := rfl
theorem exec_xferPush (ch : ChanId) (rkey qp : Nat) : exec (.xferPush ch rkey qp) s = execXferPush ch rkey qp s := rfl
theorem exec_xferPull (ch : ChanId) (rkey qp : Nat) : exec (.xferPull ch rkey qp) s = execXferPull ch rkey qp s := rfl
theorem exec_xferAbort (ch : ChanId) : exec (.xferAbort ch) s = execXferAbort ch s := rfl
theorem exec_ptpMessage (port ptpDomain : Nat) (offset : Int) : exec (.ptpMessage port ptpDomain offset) s = execPtpMessage port ptpDomain offset s := rfl
theorem exec_ptpAnnounceTimeout : exec (.ptpAnnounceTimeout) s = execPtpAnnounceTimeout s := rfl
theorem exec_sentinelDone (engine : Nat) (pass : Bool) : exec (.sentinelDone engine pass) s = execSentinelDone engine pass s := rfl
theorem exec_engineWatchdog (core engine last : Nat) : exec (.engineWatchdog core engine last) s = execEngineWatchdog core engine last s := rfl
theorem exec_quarantineRunDone (hung : Bool) : exec (.quarantineRunDone hung) s = execQuarantineRunDone hung s := rfl
theorem exec_logClear (ch : ChanId) (upto : Nat) : exec (.logClear ch upto) s = execLogClear ch upto s := rfl
theorem exec_resetL0 (ch : ChanId) (ctx : Nat) : exec (.resetL0 ch ctx) s = execResetL0 ch ctx s := rfl
theorem exec_resetL1 (ch : ChanId) (core : Nat) : exec (.resetL1 ch core) s = execResetL1 ch core s := rfl
theorem exec_resetL2 (ch : ChanId) (port : Nat) : exec (.resetL2 ch port) s = execResetL2 ch port s := rfl
theorem exec_resetL3 (ch : ChanId) (island : Nat) (pufOk : Bool) : exec (.resetL3 ch island pufOk) s = execResetL3 ch island pufOk s := rfl
theorem exec_resetL4 (ch : ChanId) : exec (.resetL4 ch) s = execResetL4 ch s := rfl
theorem exec_resetL5 (ch : ChanId) (info : StartInfo) : exec (.resetL5 ch info) s = execResetL5 ch info s := rfl
theorem exec_resetComplete (level target : Nat) (pass : Bool) : exec (.resetComplete level target pass) s = execResetComplete level target pass s := rfl
theorem exec_admitStart (ch : ChanId) (failed spare : Nat) : exec (.admitStart ch failed spare) s = execAdmitStart ch failed spare s := rfl
theorem exec_admitAbort (ch : ChanId) : exec (.admitAbort ch) s = execAdmitAbort ch s := rfl
theorem exec_admitTestDone (failed spare : Nat) (pass : Bool) : exec (.admitTestDone failed spare pass) s = execAdmitTestDone failed spare pass s := rfl
theorem exec_admitLoadDone : exec (.admitLoadDone) s = execAdmitLoadDone s := rfl
theorem exec_admitSpareTimeout : exec (.admitSpareTimeout) s = execAdmitSpareTimeout s := rfl
theorem exec_rebindApply (p : Packet) : exec (.rebindApply p) s = execRebindApply p s := rfl
theorem exec_reportGenerate (ch : ChanId) : exec (.reportGenerate ch) s = execReportGenerate ch s := rfl
theorem exec_reportReady (seat : SeatId) : exec (.reportReady seat) s = execReportReady seat s := rfl
theorem exec_keyInstall (ch : ChanId) : exec (.keyInstall ch) s = execKeyInstall ch s := rfl
theorem exec_keyDestroy (ch : ChanId) : exec (.keyDestroy ch) s = execKeyDestroy ch s := rfl
theorem exec_linkKeyExchange (port : Nat) (message : KeyMsg) : exec (.linkKeyExchange port message) s = execLinkKeyExchange port message s := rfl
theorem exec_linkRekey (port : Nat) (message : KeyMsg) : exec (.linkRekey port message) s = execLinkRekey port message s := rfl
theorem exec_coldStart (info : StartInfo) : exec (.coldStart info) s = execColdStart info s := rfl
theorem exec_memInitDone (tier : Nat) (failed : List Nat) : exec (.memInitDone tier failed) s = execMemInitDone tier failed s := rfl
theorem exec_inputDip (mv ns : Nat) : exec (.inputDip mv ns) s = execInputDip mv ns s := rfl
theorem exec_inputLoss (mv ns : Nat) : exec (.inputLoss mv ns) s = execInputLoss mv ns s := rfl
theorem exec_inputHigh (mv : Nat) : exec (.inputHigh mv) s = execInputHigh mv s := rfl
theorem exec_dutyAdjust (avgW peakW vin iin : Nat) (temp : Int) (sensor : Nat) : exec (.dutyAdjust avgW peakW vin iin temp sensor) s = execDutyAdjust avgW peakW vin iin temp sensor s := rfl
theorem exec_overcurrent : exec (.overcurrent) s = execOvercurrent s := rfl
theorem exec_thermalTrip (sensor : Nat) : exec (.thermalTrip sensor) s = execThermalTrip sensor s := rfl
theorem exec_governorGrant : exec (.governorGrant) s = execGovernorGrant s := rfl
theorem exec_islandWakeDone (island : Nat) : exec (.islandWakeDone island) s = execIslandWakeDone island s := rfl
theorem exec_islandTestDone (island : Nat) (pass : Bool) : exec (.islandTestDone island pass) s = execIslandTestDone island pass s := rfl
theorem exec_refclkLoss (serdes : Bool) : exec (.refclkLoss serdes) s = execRefclkLoss serdes s := rfl
theorem exec_refclkWaitTimeout : exec (.refclkWaitTimeout) s = execRefclkWaitTimeout s := rfl
theorem exec_boardReset (ns : Nat) : exec (.boardReset ns) s = execBoardReset ns s := rfl
theorem exec_boardResetRelease (info : StartInfo) : exec (.boardResetRelease info) s = execBoardResetRelease info s := rfl
theorem exec_laserInterlockDrop : exec (.laserInterlockDrop) s = execLaserInterlockDrop s := rfl
theorem exec_laserInterlockRise : exec (.laserInterlockRise) s = execLaserInterlockRise s := rfl
theorem exec_testUnlock (ch : ChanId) : exec (.testUnlock ch) s = execTestUnlock ch s := rfl
theorem exec_testLock (ch : ChanId) : exec (.testLock ch) s = execTestLock ch s := rfl
theorem exec_testHold (ch : ChanId) : exec (.testHold ch) s = execTestHold ch s := rfl
theorem exec_tapReset : exec (.tapReset) s = execTapReset s := rfl
theorem exec_extest (pins preload : Nat) : exec (.extest pins preload) s = execExtest pins preload s := rfl
theorem exec_samplePreload (pins preload : Nat) : exec (.samplePreload pins preload) s = execSamplePreload pins preload s := rfl
theorem exec_idcode : exec (.idcode) s = execIdcode s := rfl
theorem exec_highz : exec (.highz) s = execHighz s := rfl
theorem exec_clamp : exec (.clamp) s = execClamp s := rfl
theorem exec_probe (mode node reading : Nat) : exec (.probe mode node reading) s = execProbe mode node reading s := rfl
theorem exec_runbist (passed : Nat) : exec (.runbist passed) s = execRunbist passed s := rfl
theorem exec_tstwin (off : Nat) : exec (.tstwin off) s = execTstwin off s := rfl
theorem exec_bypass : exec (.bypass) s = execBypass s := rfl
theorem exec_abusSelect (ch : ChanId) (mode node reading : Nat) : exec (.abusSelect ch mode node reading) s = execAbusSelect ch mode node reading s := rfl
theorem exec_unitIsolate (ch : ChanId) (unit : Nat) : exec (.unitIsolate ch unit) s = execUnitIsolate ch unit s := rfl
theorem exec_unitIdle : exec (.unitIdle) s = execUnitIdle s := rfl
theorem exec_unitTest (ch : ChanId) (unit tests : Nat) : exec (.unitTest ch unit tests) s = execUnitTest ch unit tests s := rfl
theorem exec_unitTestDone (failed : Option Nat) : exec (.unitTestDone failed) s = execUnitTestDone failed s := rfl
theorem exec_unitRelease (ch : ChanId) (unit : Nat) : exec (.unitRelease ch unit) s = execUnitRelease ch unit s := rfl
theorem exec_heldInterval : exec (.heldInterval) s = execHeldInterval s := rfl
theorem exec_joiningWaitTimeout : exec (.joiningWaitTimeout) s = execJoiningWaitTimeout s := rfl
theorem exec_recallScanDone (ctx va : Nat) : exec (.recallScanDone ctx va) s = execRecallScanDone ctx va s := rfl
theorem exec_shaperBucketFill (shaper : Nat) (committed : Bool) : exec (.shaperBucketFill shaper committed) s = execShaperBucketFill shaper committed s := rfl
theorem exec_abortStatusExpiry (key id : Nat) : exec (.abortStatusExpiry key id) s = execAbortStatusExpiry key id s := rfl
theorem exec_pfcPauseExpiry (port prio : Nat) : exec (.pfcPauseExpiry port prio) s = execPfcPauseExpiry port prio s := rfl
theorem exec_refclkStable (serdes : Bool) : exec (.refclkStable serdes) s = execRefclkStable serdes s := rfl
theorem exec_ethLinkChange (port : Nat) (up : Bool) : exec (.ethLinkChange port up) s = execEthLinkChange port up s := rfl

/-- Every command is a state operation under a condition (so it answers a next state and keeps the queue). -/
theorem exec_shape (c : Instr) : ∃ ok f, exec c s = s.where_ ok f := by
  cases c
  · rw [exec_registerWrite]; unfold execRegisterWrite State.run; exact ⟨_, _, rfl⟩
  · rw [exec_rcFieldRead]; unfold execRcFieldRead State.run; exact ⟨_, _, rfl⟩
  · rw [exec_heartbeatTimer]; unfold execHeartbeatTimer State.run; exact ⟨_, _, rfl⟩
  · rw [exec_heartbeat]; unfold execHeartbeat State.runOn State.run; exact ⟨_, _, rfl⟩
  · rw [exec_memberLossTimeout]; unfold execMemberLossTimeout State.runOn State.run; exact ⟨_, _, rfl⟩
  · rw [exec_memberDeclare]; unfold execMemberDeclare State.runOn State.run; exact ⟨_, _, rfl⟩
  · rw [exec_identityExchange]; unfold execIdentityExchange State.runOn State.run; exact ⟨_, _, rfl⟩
  · rw [exec_laneTrainingDone]; unfold execLaneTrainingDone State.runOn State.run; exact ⟨_, _, rfl⟩
  · rw [exec_laneDown]; unfold execLaneDown State.runOn State.run; exact ⟨_, _, rfl⟩
  · rw [exec_laneRetrainDone]; unfold execLaneRetrainDone State.runOn State.run; exact ⟨_, _, rfl⟩
  · rw [exec_mgmtAccessTimeout]; unfold execMgmtAccessTimeout State.runOn State.run; exact ⟨_, _, rfl⟩
  · rw [exec_silBeginFull]; unfold execSilBeginFull State.run; exact ⟨_, _, rfl⟩
  · rw [exec_silBeginPartial]; unfold execSilBeginPartial State.run; exact ⟨_, _, rfl⟩
  · rw [exec_silCommit]; unfold execSilCommit State.run; exact ⟨_, _, rfl⟩
  · rw [exec_silAbort]; unfold execSilAbort State.runOn State.run; exact ⟨_, _, rfl⟩
  · rw [exec_silApertureWrite]; unfold execSilApertureWrite State.run; exact ⟨_, _, rfl⟩
  · rw [exec_imageVerifyDone]; unfold execImageVerifyDone State.run; exact ⟨_, _, rfl⟩
  · rw [exec_imageCheckDone]; unfold execImageCheckDone State.runOn State.run; exact ⟨_, _, rfl⟩
  · rw [exec_sliceDrained]; unfold execSliceDrained State.runOn State.run; exact ⟨_, _, rfl⟩
  · rw [exec_drainTimeout]; unfold execDrainTimeout State.runOn State.run; exact ⟨_, _, rfl⟩
  · rw [exec_ringFetchDone]; unfold execRingFetchDone State.runOn State.run; exact ⟨_, _, rfl⟩
  · rw [exec_ringFetchTimeout]; unfold execRingFetchTimeout State.runOn State.run; exact ⟨_, _, rfl⟩
  · rw [exec_keepalive]; unfold execKeepalive State.run; exact ⟨_, _, rfl⟩
  · rw [exec_seatRelease]; unfold execSeatRelease State.run; exact ⟨_, _, rfl⟩
  · rw [exec_claimBegin]; unfold execClaimBegin State.run; exact ⟨_, _, rfl⟩
  · rw [exec_claimSubmit]; unfold execClaimSubmit State.run; exact ⟨_, _, rfl⟩
  · rw [exec_claimCheckDone]; unfold execClaimCheckDone State.run; exact ⟨_, _, rfl⟩
  · rw [exec_claimBufferTimeout]; unfold execClaimBufferTimeout State.run; exact ⟨_, _, rfl⟩
  · rw [exec_channelClose]; unfold execChannelClose State.run; exact ⟨_, _, rfl⟩
  · rw [exec_seatLivenessTimeout]; unfold execSeatLivenessTimeout State.run; exact ⟨_, _, rfl⟩
  · rw [exec_semAcquire]; unfold execSemAcquire State.run; exact ⟨_, _, rfl⟩
  · rw [exec_semRenew]; unfold execSemRenew State.run; exact ⟨_, _, rfl⟩
  · rw [exec_semRelease]; unfold execSemRelease State.run; exact ⟨_, _, rfl⟩
  · rw [exec_semLeaseExpiry]; unfold execSemLeaseExpiry State.run; exact ⟨_, _, rfl⟩
  · rw [exec_i3cWindowFrame]; unfold execI3cWindowFrame State.run; exact ⟨_, _, rfl⟩
  · rw [exec_i3cPrivateRead]; unfold execI3cPrivateRead State.run; exact ⟨_, _, rfl⟩
  · rw [exec_i3cEntdaa]; unfold execI3cEntdaa State.run; exact ⟨_, _, rfl⟩
  · rw [exec_i3cRstdaa]; unfold execI3cRstdaa State.run; exact ⟨_, _, rfl⟩
  · rw [exec_i3cSetdasa]; unfold execI3cSetdasa State.run; exact ⟨_, _, rfl⟩
  · rw [exec_i3cGetpid]; unfold execI3cGetpid State.run; exact ⟨_, _, rfl⟩
  · rw [exec_i3cGetbcr]; unfold execI3cGetbcr State.run; exact ⟨_, _, rfl⟩
  · rw [exec_i3cGetdcr]; unfold execI3cGetdcr State.run; exact ⟨_, _, rfl⟩
  · rw [exec_i3cGetstatus]; unfold execI3cGetstatus State.run; exact ⟨_, _, rfl⟩
  · rw [exec_i3cEnec]; unfold execI3cEnec State.run; exact ⟨_, _, rfl⟩
  · rw [exec_i3cDisec]; unfold execI3cDisec State.run; exact ⟨_, _, rfl⟩
  · rw [exec_i3cCccUnsupported]; unfold execI3cCccUnsupported State.run; exact ⟨_, _, rfl⟩
  · rw [exec_doorbell]; unfold execDoorbell State.runOn State.run; exact ⟨_, _, rfl⟩
  · rw [exec_cqHeadStore]; unfold execCqHeadStore State.runOn State.run; exact ⟨_, _, rfl⟩
  · rw [exec_slotFetchDone]; unfold execSlotFetchDone State.runOn State.run; exact ⟨_, _, rfl⟩
  · rw [exec_mirrorAck]; unfold execMirrorAck State.runOn State.run; exact ⟨_, _, rfl⟩
  · rw [exec_journalMirrorEntry]; unfold execJournalMirrorEntry State.runOn State.run; exact ⟨_, _, rfl⟩
  · rw [exec_handoff]; unfold execHandoff State.runOn State.run; exact ⟨_, _, rfl⟩
  · rw [exec_taken]; unfold execTaken State.runOn State.run; exact ⟨_, _, rfl⟩
  · rw [exec_held]; unfold execHeld State.runOn State.run; exact ⟨_, _, rfl⟩
  · rw [exec_notHeld]; unfold execNotHeld State.runOn State.run; exact ⟨_, _, rfl⟩
  · rw [exec_holdQuery]; unfold execHoldQuery State.runOn State.run; exact ⟨_, _, rfl⟩
  · rw [exec_phaseDone]; unfold execPhaseDone State.runOn State.run; exact ⟨_, _, rfl⟩
  · rw [exec_orphanScan]; unfold execOrphanScan State.runOn State.run; exact ⟨_, _, rfl⟩
  · rw [exec_queueEnable]; unfold execQueueEnable State.runOn State.run; exact ⟨_, _, rfl⟩
  · rw [exec_queueDisable]; unfold execQueueDisable State.runOn State.run; exact ⟨_, _, rfl⟩
  · rw [exec_queueClearError]; unfold execQueueClearError State.runOn State.run; exact ⟨_, _, rfl⟩
  · rw [exec_map]; unfold execMap State.runOn State.run; exact ⟨_, _, rfl⟩
  · rw [exec_mapOwnerAnswer]; unfold execMapOwnerAnswer State.runOn State.run; exact ⟨_, _, rfl⟩
  · rw [exec_mapTimeout]; unfold execMapTimeout State.runOn State.run; exact ⟨_, _, rfl⟩
  · rw [exec_contextEnable]; unfold execContextEnable State.runOn State.run; exact ⟨_, _, rfl⟩
  · rw [exec_contextDisable]; unfold execContextDisable State.runOn State.run; exact ⟨_, _, rfl⟩
  · rw [exec_unmapRange]; unfold execUnmapRange State.runOn State.run; exact ⟨_, _, rfl⟩
  · rw [exec_unmapContext]; unfold execUnmapContext State.runOn State.run; exact ⟨_, _, rfl⟩
  · rw [exec_releaseMember]; unfold execReleaseMember State.runOn State.run; exact ⟨_, _, rfl⟩
  · rw [exec_etcInvalidateDone]; unfold execEtcInvalidateDone State.runOn State.run; exact ⟨_, _, rfl⟩
  · rw [exec_etcMissWalk]; unfold execEtcMissWalk State.run; exact ⟨_, _, rfl⟩
  · rw [exec_shootdownTimeout]; unfold execShootdownTimeout State.run; exact ⟨_, _, rfl⟩
  · rw [exec_xltMapCheck]; unfold execXltMapCheck State.runOn State.run; exact ⟨_, _, rfl⟩
  · rw [exec_revokeRange]; unfold execRevokeRange State.runOn State.run; exact ⟨_, _, rfl⟩
  · rw [exec_drainedReport]; unfold execDrainedReport State.runOn State.run; exact ⟨_, _, rfl⟩
  · rw [exec_registrationQuery]; unfold execRegistrationQuery State.runOn State.run; exact ⟨_, _, rfl⟩
  · rw [exec_partFailure]; unfold execPartFailure State.runOn State.run; exact ⟨_, _, rfl⟩
  · rw [exec_stagingSlotFree]; unfold execStagingSlotFree State.runOn State.run; exact ⟨_, _, rfl⟩
  · rw [exec_granuleResync]; unfold execGranuleResync State.runOn State.run; exact ⟨_, _, rfl⟩
  · rw [exec_armUnitDone]; unfold execArmUnitDone State.runOn State.run; exact ⟨_, _, rfl⟩
  · rw [exec_rebuildUnitCopy]; unfold execRebuildUnitCopy State.runOn State.run; exact ⟨_, _, rfl⟩
  · rw [exec_rebuildStageDone]; unfold execRebuildStageDone State.runOn State.run; exact ⟨_, _, rfl⟩
  · rw [exec_qissue]; unfold execQissue State.run; exact ⟨_, _, rfl⟩
  · rw [exec_qwait]; unfold execQwait State.run; exact ⟨_, _, rfl⟩
  · rw [exec_qpoll]; unfold execQpoll State.run; exact ⟨_, _, rfl⟩
  · rw [exec_qfence]; unfold execQfence State.run; exact ⟨_, _, rfl⟩
  · rw [exec_qexit]; unfold execQexit State.runOn State.run; exact ⟨_, _, rfl⟩
  · rw [exec_qinfo]; unfold execQinfo State.run; exact ⟨_, _, rfl⟩
  · rw [exec_scalarInstruction]; unfold execScalarInstruction State.runOn State.run; exact ⟨_, _, rfl⟩
  · rw [exec_mma]; unfold execMma State.runOn State.run; exact ⟨_, _, rfl⟩
  · rw [exec_vectorAdd]; unfold execVectorAdd State.runOn State.run; exact ⟨_, _, rfl⟩
  · rw [exec_vectorSub]; unfold execVectorSub State.runOn State.run; exact ⟨_, _, rfl⟩
  · rw [exec_vectorMul]; unfold execVectorMul State.runOn State.run; exact ⟨_, _, rfl⟩
  · rw [exec_vectorFma]; unfold execVectorFma State.runOn State.run; exact ⟨_, _, rfl⟩
  · rw [exec_vectorMax]; unfold execVectorMax State.runOn State.run; exact ⟨_, _, rfl⟩
  · rw [exec_vectorMin]; unfold execVectorMin State.runOn State.run; exact ⟨_, _, rfl⟩
  · rw [exec_affine]; unfold execAffine State.runOn State.run; exact ⟨_, _, rfl⟩
  · rw [exec_exp2]; unfold execExp2 State.runOn State.run; exact ⟨_, _, rfl⟩
  · rw [exec_rcp]; unfold execRcp State.runOn State.run; exact ⟨_, _, rfl⟩
  · rw [exec_rsqrt]; unfold execRsqrt State.runOn State.run; exact ⟨_, _, rfl⟩
  · rw [exec_log2]; unfold execLog2 State.runOn State.run; exact ⟨_, _, rfl⟩
  · rw [exec_rowmax]; unfold execRowmax State.runOn State.run; exact ⟨_, _, rfl⟩
  · rw [exec_rowsum]; unfold execRowsum State.runOn State.run; exact ⟨_, _, rfl⟩
  · rw [exec_convert]; unfold execConvert State.runOn State.run; exact ⟨_, _, rfl⟩
  · rw [exec_softmaxStep]; unfold execSoftmaxStep State.runOn State.run; exact ⟨_, _, rfl⟩
  · rw [exec_rescale]; unfold execRescale State.runOn State.run; exact ⟨_, _, rfl⟩
  · rw [exec_normalise]; unfold execNormalise State.runOn State.run; exact ⟨_, _, rfl⟩
  · rw [exec_dmaLoad]; unfold execDmaLoad State.runOn State.run; exact ⟨_, _, rfl⟩
  · rw [exec_dmaStore]; unfold execDmaStore State.runOn State.run; exact ⟨_, _, rfl⟩
  · rw [exec_dmaPublish]; unfold execDmaPublish State.runOn State.run; exact ⟨_, _, rfl⟩
  · rw [exec_localCopy]; unfold execLocalCopy State.runOn State.run; exact ⟨_, _, rfl⟩
  · rw [exec_dmaAtomic]; unfold execDmaAtomic State.runOn State.run; exact ⟨_, _, rfl⟩
  · rw [exec_kernelVerifyDone]; unfold execKernelVerifyDone State.runOn State.run; exact ⟨_, _, rfl⟩
  · rw [exec_launchBudgetExpiry]; unfold execLaunchBudgetExpiry State.runOn State.run; exact ⟨_, _, rfl⟩
  · rw [exec_coreWakeDone]; unfold execCoreWakeDone State.runOn State.run; exact ⟨_, _, rfl⟩
  · rw [exec_coreIdleGate]; unfold execCoreIdleGate State.run; exact ⟨_, _, rfl⟩
  · rw [exec_kcacheFlush]; unfold execKcacheFlush State.run; exact ⟨_, _, rfl⟩
  · rw [exec_attendUnitDone]; unfold execAttendUnitDone State.runOn State.run; exact ⟨_, _, rfl⟩
  · rw [exec_packetForward]; unfold execPacketForward State.runOn State.run; exact ⟨_, _, rfl⟩
  · rw [exec_egressArbitration]; unfold execEgressArbitration State.runOn State.run; exact ⟨_, _, rfl⟩
  · rw [exec_linkFrame]; unfold execLinkFrame State.runOn State.run; exact ⟨_, _, rfl⟩
  · rw [exec_load]; unfold execLoad State.runOn State.run; exact ⟨_, _, rfl⟩
  · rw [exec_store]; unfold execStore State.runOn State.run; exact ⟨_, _, rfl⟩
  · rw [exec_atomic]; unfold execAtomic State.runOn State.run; exact ⟨_, _, rfl⟩
  · rw [exec_reduce]; unfold execReduce State.runOn State.run; exact ⟨_, _, rfl⟩
  · rw [exec_tileCommit]; unfold execTileCommit State.runOn State.run; exact ⟨_, _, rfl⟩
  · rw [exec_mirror]; unfold execMirror State.runOn State.run; exact ⟨_, _, rfl⟩
  · rw [exec_parity]; unfold execParity State.runOn State.run; exact ⟨_, _, rfl⟩
  · rw [exec_retire]; unfold execRetire State.runOn State.run; exact ⟨_, _, rfl⟩
  · rw [exec_fenceMark]; unfold execFenceMark State.runOn State.run; exact ⟨_, _, rfl⟩
  · rw [exec_agentFence]; unfold execAgentFence State.runOn State.run; exact ⟨_, _, rfl⟩
  · rw [exec_tagReset]; unfold execTagReset State.runOn State.run; exact ⟨_, _, rfl⟩
  · rw [exec_blockRead]; unfold execBlockRead State.runOn State.run; exact ⟨_, _, rfl⟩
  · rw [exec_blockWrite]; unfold execBlockWrite State.runOn State.run; exact ⟨_, _, rfl⟩
  · rw [exec_blockAssemblyTimeout]; unfold execBlockAssemblyTimeout State.runOn State.run; exact ⟨_, _, rfl⟩
  · rw [exec_windowRead]; unfold execWindowRead State.runOn State.run; exact ⟨_, _, rfl⟩
  · rw [exec_windowWrite]; unfold execWindowWrite State.runOn State.run; exact ⟨_, _, rfl⟩
  · rw [exec_relayDrain]; unfold execRelayDrain State.runOn State.run; exact ⟨_, _, rfl⟩
  · rw [exec_response]; unfold execResponse State.runOn State.run; exact ⟨_, _, rfl⟩
  · rw [exec_retryTimer]; unfold execRetryTimer State.runOn State.run; exact ⟨_, _, rfl⟩
  · rw [exec_fabricTimeout]; unfold execFabricTimeout State.runOn State.run; exact ⟨_, _, rfl⟩
  · rw [exec_retireSend]; unfold execRetireSend State.runOn State.run; exact ⟨_, _, rfl⟩
  · rw [exec_agentRequest]; unfold execAgentRequest State.runOn State.run; exact ⟨_, _, rfl⟩
  · rw [exec_portRetrain]; unfold execPortRetrain State.runOn State.run; exact ⟨_, _, rfl⟩
  · rw [exec_portHoldDown]; unfold execPortHoldDown State.runOn State.run; exact ⟨_, _, rfl⟩
  · rw [exec_portRelease]; unfold execPortRelease State.runOn State.run; exact ⟨_, _, rfl⟩
  · rw [exec_readShared]; unfold execReadShared State.runOn State.run; exact ⟨_, _, rfl⟩
  · rw [exec_readOwn]; unfold execReadOwn State.runOn State.run; exact ⟨_, _, rfl⟩
  · rw [exec_upgrade]; unfold execUpgrade State.runOn State.run; exact ⟨_, _, rfl⟩
  · rw [exec_writeback]; unfold execWriteback State.runOn State.run; exact ⟨_, _, rfl⟩
  · rw [exec_snpInv]; unfold execSnpInv State.runOn State.run; exact ⟨_, _, rfl⟩
  · rw [exec_snpShare]; unfold execSnpShare State.runOn State.run; exact ⟨_, _, rfl⟩
  · rw [exec_snpFwd]; unfold execSnpFwd State.runOn State.run; exact ⟨_, _, rfl⟩
  · rw [exec_agentFlush]; unfold execAgentFlush State.runOn State.run; exact ⟨_, _, rfl⟩
  · rw [exec_agentDrop]; unfold execAgentDrop State.runOn State.run; exact ⟨_, _, rfl⟩
  · rw [exec_agentDropScanDone]; unfold execAgentDropScanDone State.runOn State.run; exact ⟨_, _, rfl⟩
  · rw [exec_agentExpel]; unfold execAgentExpel State.runOn State.run; exact ⟨_, _, rfl⟩
  · rw [exec_grantAck]; unfold execGrantAck State.runOn State.run; exact ⟨_, _, rfl⟩
  · rw [exec_snoopAnswer]; unfold execSnoopAnswer State.runOn State.run; exact ⟨_, _, rfl⟩
  · rw [exec_homeTimeout]; unfold execHomeTimeout State.runOn State.run; exact ⟨_, _, rfl⟩
  · rw [exec_aportFlush]; unfold execAportFlush State.runOn State.run; exact ⟨_, _, rfl⟩
  · rw [exec_aportExpel]; unfold execAportExpel State.runOn State.run; exact ⟨_, _, rfl⟩
  · rw [exec_gateEntryBegin]; unfold execGateEntryBegin State.run; exact ⟨_, _, rfl⟩
  · rw [exec_gateHoldoverExpiry]; unfold execGateHoldoverExpiry State.run; exact ⟨_, _, rfl⟩
  · rw [exec_shaperApply]; unfold execShaperApply State.run; exact ⟨_, _, rfl⟩
  · rw [exec_shaperLoad]; unfold execShaperLoad State.run; exact ⟨_, _, rfl⟩
  · rw [exec_contrib]; unfold execContrib State.runOn State.run; exact ⟨_, _, rfl⟩
  · rw [exec_result]; unfold execResult State.runOn State.run; exact ⟨_, _, rfl⟩
  · rw [exec_digest]; unfold execDigest State.runOn State.run; exact ⟨_, _, rfl⟩
  · rw [exec_grant]; unfold execGrant State.runOn State.run; exact ⟨_, _, rfl⟩
  · rw [exec_collectiveAbort]; unfold execCollectiveAbort State.runOn State.run; exact ⟨_, _, rfl⟩
  · rw [exec_collectiveTimeout]; unfold execCollectiveTimeout State.runOn State.run; exact ⟨_, _, rfl⟩
  · rw [exec_poolReq]; unfold execPoolReq State.runOn State.run; exact ⟨_, _, rfl⟩
  · rw [exec_poolPart]; unfold execPoolPart State.runOn State.run; exact ⟨_, _, rfl⟩
  · rw [exec_verDrained]; unfold execVerDrained State.runOn State.run; exact ⟨_, _, rfl⟩
  · rw [exec_tableDefine]; unfold execTableDefine State.runOn State.run; exact ⟨_, _, rfl⟩
  · rw [exec_tableDelete]; unfold execTableDelete State.runOn State.run; exact ⟨_, _, rfl⟩
  · rw [exec_versionInstall]; unfold execVersionInstall State.runOn State.run; exact ⟨_, _, rfl⟩
  · rw [exec_versionCommit]; unfold execVersionCommit State.runOn State.run; exact ⟨_, _, rfl⟩
  · rw [exec_versionDiscard]; unfold execVersionDiscard State.runOn State.run; exact ⟨_, _, rfl⟩
  · rw [exec_centroidStepDone]; unfold execCentroidStepDone State.runOn State.run; exact ⟨_, _, rfl⟩
  · rw [exec_segmentScanDone]; unfold execSegmentScanDone State.runOn State.run; exact ⟨_, _, rfl⟩
  · rw [exec_segmentScanTimeout]; unfold execSegmentScanTimeout State.runOn State.run; exact ⟨_, _, rfl⟩
  · rw [exec_sloeParityFault]; unfold execSloeParityFault State.runOn State.run; exact ⟨_, _, rfl⟩
  · rw [exec_searchMergeDone]; unfold execSearchMergeDone State.runOn State.run; exact ⟨_, _, rfl⟩
  · rw [exec_qpToInit]; unfold execQpToInit State.runOn State.run; exact ⟨_, _, rfl⟩
  · rw [exec_qpToRtr]; unfold execQpToRtr State.runOn State.run; exact ⟨_, _, rfl⟩
  · rw [exec_qpToRts]; unfold execQpToRts State.runOn State.run; exact ⟨_, _, rfl⟩
  · rw [exec_qpToError]; unfold execQpToError State.runOn State.run; exact ⟨_, _, rfl⟩
  · rw [exec_qpToReset]; unfold execQpToReset State.runOn State.run; exact ⟨_, _, rfl⟩
  · rw [exec_rdmaWrite]; unfold execRdmaWrite State.runOn State.run; exact ⟨_, _, rfl⟩
  · rw [exec_rdmaRead]; unfold execRdmaRead State.runOn State.run; exact ⟨_, _, rfl⟩
  · rw [exec_fetchAdd]; unfold execFetchAdd State.runOn State.run; exact ⟨_, _, rfl⟩
  · rw [exec_cmpSwap]; unfold execCmpSwap State.runOn State.run; exact ⟨_, _, rfl⟩
  · rw [exec_send]; unfold execSend State.runOn State.run; exact ⟨_, _, rfl⟩
  · rw [exec_roceAck]; unfold execRoceAck State.runOn State.run; exact ⟨_, _, rfl⟩
  · rw [exec_qpAckTimeout]; unfold execQpAckTimeout State.runOn State.run; exact ⟨_, _, rfl⟩
  · rw [exec_cnp]; unfold execCnp State.run; exact ⟨_, _, rfl⟩
  · rw [exec_ccRecoverTimer]; unfold execCcRecoverTimer State.run; exact ⟨_, _, rfl⟩
  · rw [exec_pfcFrame]; unfold execPfcFrame State.run; exact ⟨_, _, rfl⟩
  · rw [exec_pfcXoffRefresh]; unfold execPfcXoffRefresh State.run; exact ⟨_, _, rfl⟩
  · rw [exec_pfcWatchdog]; unfold execPfcWatchdog State.run; exact ⟨_, _, rfl⟩
  · rw [exec_arpRequest]; unfold execArpRequest State.run; exact ⟨_, _, rfl⟩
  · rw [exec_neighbourSolicitation]; unfold execNeighbourSolicitation State.run; exact ⟨_, _, rfl⟩
  · rw [exec_icmpEcho]; unfold execIcmpEcho State.run; exact ⟨_, _, rfl⟩
  · rw [exec_ethFrameDiscard]; unfold execEthFrameDiscard State.run; exact ⟨_, _, rfl⟩
  · rw [exec_mrRegister]; unfold execMrRegister State.runOn State.run; exact ⟨_, _, rfl⟩
  · rw [exec_mrDeregister]; unfold execMrDeregister State.runOn State.run; exact ⟨_, _, rfl⟩
  · rw [exec_xferPush]; unfold execXferPush State.runOn State.run; exact ⟨_, _, rfl⟩
  · rw [exec_xferPull]; unfold execXferPull State.runOn State.run; exact ⟨_, _, rfl⟩
  · rw [exec_xferAbort]; unfold execXferAbort State.runOn State.run; exact ⟨_, _, rfl⟩
  · rw [exec_ptpMessage]; unfold execPtpMessage State.runOn State.run; exact ⟨_, _, rfl⟩
  · rw [exec_ptpAnnounceTimeout]; unfold execPtpAnnounceTimeout State.runOn State.run; exact ⟨_, _, rfl⟩
  · rw [exec_sentinelDone]; unfold execSentinelDone State.runOn State.run; exact ⟨_, _, rfl⟩
  · rw [exec_engineWatchdog]; unfold execEngineWatchdog State.runOn State.run; exact ⟨_, _, rfl⟩
  · rw [exec_quarantineRunDone]; unfold execQuarantineRunDone State.runOn State.run; exact ⟨_, _, rfl⟩
  · rw [exec_logClear]; unfold execLogClear State.run; exact ⟨_, _, rfl⟩
  · rw [exec_resetL0]; unfold execResetL0 State.runOn State.run; exact ⟨_, _, rfl⟩
  · rw [exec_resetL1]; unfold execResetL1 State.runOn State.run; exact ⟨_, _, rfl⟩
  · rw [exec_resetL2]; unfold execResetL2 State.runOn State.run; exact ⟨_, _, rfl⟩
  · rw [exec_resetL3]; unfold execResetL3 State.runOn State.run; exact ⟨_, _, rfl⟩
  · rw [exec_resetL4]; unfold execResetL4 State.runOn State.run; exact ⟨_, _, rfl⟩
  · rw [exec_resetL5]; unfold execResetL5 State.runOn State.run; exact ⟨_, _, rfl⟩
  · rw [exec_resetComplete]; unfold execResetComplete State.runOn State.run; exact ⟨_, _, rfl⟩
  · rw [exec_admitStart]; unfold execAdmitStart State.runOn State.run; exact ⟨_, _, rfl⟩
  · rw [exec_admitAbort]; unfold execAdmitAbort State.runOn State.run; exact ⟨_, _, rfl⟩
  · rw [exec_admitTestDone]; unfold execAdmitTestDone State.runOn State.run; exact ⟨_, _, rfl⟩
  · rw [exec_admitLoadDone]; unfold execAdmitLoadDone State.runOn State.run; exact ⟨_, _, rfl⟩
  · rw [exec_admitSpareTimeout]; unfold execAdmitSpareTimeout State.runOn State.run; exact ⟨_, _, rfl⟩
  · rw [exec_rebindApply]; unfold execRebindApply State.runOn State.run; exact ⟨_, _, rfl⟩
  · rw [exec_reportGenerate]; unfold execReportGenerate State.run; exact ⟨_, _, rfl⟩
  · rw [exec_reportReady]; unfold execReportReady State.run; exact ⟨_, _, rfl⟩
  · rw [exec_keyInstall]; unfold execKeyInstall State.run; exact ⟨_, _, rfl⟩
  · rw [exec_keyDestroy]; unfold execKeyDestroy State.run; exact ⟨_, _, rfl⟩
  · rw [exec_linkKeyExchange]; unfold execLinkKeyExchange State.runOn State.run; exact ⟨_, _, rfl⟩
  · rw [exec_linkRekey]; unfold execLinkRekey State.runOn State.run; exact ⟨_, _, rfl⟩
  · rw [exec_coldStart]; unfold execColdStart; exact ⟨_, _, rfl⟩
  · rw [exec_memInitDone]; unfold execMemInitDone State.runOn State.run; exact ⟨_, _, rfl⟩
  · rw [exec_inputDip]; unfold execInputDip; exact ⟨_, _, rfl⟩
  · rw [exec_inputLoss]; unfold execInputLoss; exact ⟨_, _, rfl⟩
  · rw [exec_inputHigh]; unfold execInputHigh State.run; exact ⟨_, _, rfl⟩
  · rw [exec_dutyAdjust]; unfold execDutyAdjust State.run; exact ⟨_, _, rfl⟩
  · rw [exec_overcurrent]; unfold execOvercurrent State.run; exact ⟨_, _, rfl⟩
  · rw [exec_thermalTrip]; unfold execThermalTrip State.runOn State.run; exact ⟨_, _, rfl⟩
  · rw [exec_governorGrant]; unfold execGovernorGrant State.runOn State.run; exact ⟨_, _, rfl⟩
  · rw [exec_islandWakeDone]; unfold execIslandWakeDone State.runOn State.run; exact ⟨_, _, rfl⟩
  · rw [exec_islandTestDone]; unfold execIslandTestDone State.runOn State.run; exact ⟨_, _, rfl⟩
  · rw [exec_refclkLoss]; unfold execRefclkLoss State.runOn State.run; exact ⟨_, _, rfl⟩
  · rw [exec_refclkWaitTimeout]; unfold execRefclkWaitTimeout State.run; exact ⟨_, _, rfl⟩
  · rw [exec_boardReset]; unfold execBoardReset State.run; exact ⟨_, _, rfl⟩
  · rw [exec_boardResetRelease]; unfold execBoardResetRelease; exact ⟨_, _, rfl⟩
  · rw [exec_laserInterlockDrop]; unfold execLaserInterlockDrop State.runOn State.run; exact ⟨_, _, rfl⟩
  · rw [exec_laserInterlockRise]; unfold execLaserInterlockRise State.runOn State.run; exact ⟨_, _, rfl⟩
  · rw [exec_testUnlock]; unfold execTestUnlock State.run; exact ⟨_, _, rfl⟩
  · rw [exec_testLock]; unfold execTestLock State.run; exact ⟨_, _, rfl⟩
  · rw [exec_testHold]; unfold execTestHold State.run; exact ⟨_, _, rfl⟩
  · rw [exec_tapReset]; unfold execTapReset State.run; exact ⟨_, _, rfl⟩
  · rw [exec_extest]; unfold execExtest State.run; exact ⟨_, _, rfl⟩
  · rw [exec_samplePreload]; unfold execSamplePreload State.run; exact ⟨_, _, rfl⟩
  · rw [exec_idcode]; unfold execIdcode State.run; exact ⟨_, _, rfl⟩
  · rw [exec_highz]; unfold execHighz State.run; exact ⟨_, _, rfl⟩
  · rw [exec_clamp]; unfold execClamp State.run; exact ⟨_, _, rfl⟩
  · rw [exec_probe]; unfold execProbe State.run; exact ⟨_, _, rfl⟩
  · rw [exec_runbist]; unfold execRunbist State.run; exact ⟨_, _, rfl⟩
  · rw [exec_tstwin]; unfold execTstwin State.run; exact ⟨_, _, rfl⟩
  · rw [exec_bypass]; unfold execBypass State.run; exact ⟨_, _, rfl⟩
  · rw [exec_abusSelect]; unfold execAbusSelect State.run; exact ⟨_, _, rfl⟩
  · rw [exec_unitIsolate]; unfold execUnitIsolate State.run; exact ⟨_, _, rfl⟩
  · rw [exec_unitIdle]; unfold execUnitIdle State.run; exact ⟨_, _, rfl⟩
  · rw [exec_unitTest]; unfold execUnitTest State.run; exact ⟨_, _, rfl⟩
  · rw [exec_unitTestDone]; unfold execUnitTestDone State.runOn State.run; exact ⟨_, _, rfl⟩
  · rw [exec_unitRelease]; unfold execUnitRelease State.runOn State.run; exact ⟨_, _, rfl⟩
  · rw [exec_heldInterval]; unfold execHeldInterval State.runOn State.run; exact ⟨_, _, rfl⟩
  · rw [exec_joiningWaitTimeout]; unfold execJoiningWaitTimeout State.runOn State.run; exact ⟨_, _, rfl⟩
  · rw [exec_recallScanDone]; unfold execRecallScanDone State.runOn State.run; exact ⟨_, _, rfl⟩
  · rw [exec_shaperBucketFill]; unfold execShaperBucketFill State.run; exact ⟨_, _, rfl⟩
  · rw [exec_abortStatusExpiry]; unfold execAbortStatusExpiry State.runOn State.run; exact ⟨_, _, rfl⟩
  · rw [exec_pfcPauseExpiry]; unfold execPfcPauseExpiry State.run; exact ⟨_, _, rfl⟩
  · rw [exec_refclkStable]; unfold execRefclkStable State.runOn State.run; exact ⟨_, _, rfl⟩
  · rw [exec_ethLinkChange]; unfold execEthLinkChange State.runOn State.run; exact ⟨_, _, rfl⟩

end Sys2Proof.Machine
end

