-- ==== Sys2Proof/Laws/Memory.lean ====
section
/-! SUPPORT. Laws of the member's memory: reads after writes, bytes a write does not reach, and the canonical form, which every operation
keeps.  A byte read under another key's name than it was written under is decrypted with the rest of its 16 B block, so a write that covers
part of a block reaches such reads of the whole block. -/

namespace Sys2Proof.Machine

@[simp] theorem Mem.read_write_same (m : Mem) (key a : Nat) (b : Byte) : (m.write key a b).read key a = b := by
  simp [Mem.read, Mem.write, Mem.raw]

theorem Mem.raw_write_ne (m : Mem) (key a c : Nat) (b : Byte) (h : a ≠ c) : (m.write key a b).raw c = m.raw c := by
  simp [Mem.raw, Mem.write, Tbl.getD_store_ne _ _ _ _ h]

theorem Mem.key_write_ne (m : Mem) (key a c : Nat) (b : Byte) (h : a ≠ c) : (m.write key a b).keys.getD c 0 = m.keys.getD c 0 := by
  simp [Mem.write, Tbl.getD_store_ne _ _ _ _ h]

/-- A write leaves every read of another block alone. -/
theorem Mem.read_write_block (m : Mem) (key k a c : Nat) (b : Byte) (h : a / 16 ≠ c / 16) : (m.write key a b).read k c = m.read k c := by
  have hc : (m.write key a b).cipherBlock c = m.cipherBlock c := by
    have hr : ∀ i ∈ List.range 16, (m.write key a b).raw (c / 16 * 16 + i) = m.raw (c / 16 * 16 + i) := by
      intro i hi
      exact Mem.raw_write_ne _ _ _ _ _ (by have := List.mem_range.mp hi; omega)
    unfold Mem.cipherBlock
    rw [Mem.key_write_ne _ _ _ _ _ (by rintro rfl; exact h rfl), List.map_congr_left hr]
  unfold Mem.read
  rw [hc, Mem.key_write_ne _ _ _ _ _ (by rintro rfl; exact h rfl), Mem.raw_write_ne _ _ _ _ _ (by rintro rfl; exact h rfl)]

/-- A write leaves a read of another byte under the name it is held under alone. -/
theorem Mem.read_write_named (m : Mem) (key k a c : Nat) (b : Byte) (h : a ≠ c) (hk : m.keys.getD c 0 = k) :
    (m.write key a b).read k c = m.read k c := by
  unfold Mem.read
  rw [Mem.key_write_ne _ _ _ _ _ h, Mem.raw_write_ne _ _ _ _ _ h]
  simp [hk]

@[simp] theorem Mem.read_setPoison (m : Mem) (k a c : Nat) (p : Bool) : (m.setPoison c p).read k a = m.read k a := rfl

@[simp] theorem Mem.poisoned_write (m : Mem) (key a c : Nat) (b : Byte) : (m.write key a b).poisoned c = m.poisoned c := rfl

theorem Mem.read_writeN_block (bs : List Byte) : ∀ (m : Mem) (key k a c : Nat), c / 16 < a / 16 ∨ (a + bs.length + 15) / 16 ≤ c / 16 →
    (m.writeN key a bs).read k c = m.read k c := by
  induction bs with
  | nil => intros; rfl
  | cons b bs ih =>
    intro m key k a c h
    simp only [List.length_cons] at h
    rw [Mem.writeN, ih _ _ _ _ _ (by omega), Mem.read_write_block _ _ _ _ _ _ (by omega)]

theorem Mem.key_writeN_out (bs : List Byte) : ∀ (m : Mem) (key a c : Nat), c < a ∨ a + bs.length ≤ c →
    (m.writeN key a bs).keys.getD c 0 = m.keys.getD c 0 := by
  induction bs with
  | nil => intros; rfl
  | cons b bs ih =>
    intro m key a c h
    simp only [List.length_cons] at h
    rw [Mem.writeN, ih _ _ _ _ (by omega), Mem.key_write_ne _ _ _ _ _ (by omega)]

theorem Mem.read_writeN_named (bs : List Byte) : ∀ (m : Mem) (key k a c : Nat), (c < a ∨ a + bs.length ≤ c) → m.keys.getD c 0 = k →
    (m.writeN key a bs).read k c = m.read k c := by
  induction bs with
  | nil => intros; rfl
  | cons b bs ih =>
    intro m key k a c h hk
    simp only [List.length_cons] at h
    rw [Mem.writeN, ih _ _ _ _ _ (by omega) (by rw [Mem.key_write_ne _ _ _ _ _ (by omega)]; exact hk),
      Mem.read_write_named _ _ _ _ _ _ (by omega) hk]

theorem Mem.read_writeN_in (bs : List Byte) : ∀ (m : Mem) (key a i : Nat) (h : i < bs.length),
    (m.writeN key a bs).read key (a + i) = bs[i] := by
  induction bs with
  | nil => intro m key a i h; simp at h
  | cons b bs ih =>
    intro m key a i h
    rw [Mem.writeN]
    cases i with
    | zero =>
      rw [Mem.read_writeN_named _ _ _ _ _ _ (by omega) (by simp [Mem.write])]
      simp
    | succ i =>
      have := ih (m.write key a b) key (a + 1) i (by simpa using h)
      rw [show a + (i + 1) = a + 1 + i by omega, this]
      rfl

theorem Mem.readN_length (m : Mem) (key : Nat) : ∀ (n a : Nat), (m.readN key a n).length = n := by
  intro n
  induction n with
  | zero => intro a; rfl
  | succ n ih => intro a; simp [Mem.readN, ih]

theorem Mem.readN_get (m : Mem) (key : Nat) : ∀ (n a i : Nat) (h : i < (m.readN key a n).length), (m.readN key a n)[i] = m.read key (a + i) := by
  intro n
  induction n with
  | zero => intro a i h; simp [Mem.readN] at h
  | succ n ih =>
    intro a i h
    cases i with
    | zero => rfl
    | succ i => simp only [Mem.readN, List.getElem_cons_succ]; rw [ih, show a + 1 + i = a + (i + 1) by omega]

/-- Renaming a block changes no read under the new name. -/
theorem Mem.read_rename (m : Mem) (key a c : Nat) : (m.rename key a).read key c = m.read key c := by
  unfold Mem.rename
  split
  · rfl
  · by_cases hc : c / 16 = a / 16
    · have hi : c = a / 16 * 16 + c % 16 := by omega
      have hl : c % 16 < (m.readN key (a / 16 * 16) 16).length := by rw [Mem.readN_length]; omega
      have h1 := Mem.read_writeN_in (m.readN key (a / 16 * 16) 16) m key (a / 16 * 16) (c % 16) hl
      rw [← hi] at h1
      rw [h1, Mem.readN_get, ← hi]
    · exact Mem.read_writeN_block _ _ _ _ _ _ (by rw [Mem.readN_length]; omega)

theorem Mem.read_rename_block (m : Mem) (key k a c : Nat) (h : c / 16 ≠ a / 16) : (m.rename key a).read k c = m.read k c := by
  unfold Mem.rename
  split
  · rfl
  · exact Mem.read_writeN_block _ _ _ _ _ _ (by rw [Mem.readN_length]; omega)

theorem Mem.foldl_read {β : Type} (l : List β) (f : Mem → β → Mem) (hf : ∀ m x k a, (f m x).read k a = m.read k a) :
    ∀ (m : Mem) (k a : Nat), (l.foldl f m).read k a = m.read k a := by
  induction l with
  | nil => intros; rfl
  | cons x l ih => intro m k a; rw [List.foldl_cons, ih, hf]

theorem Mem.read_marks (m : Mem) (k c a n : Nat) (pm : Nat) (l : List Nat) :
    (l.foldl (fun m k =>
      let sec := (a / 64 + k) * 64
      if bitAt pm k then m.setPoison sec true
      else if a ≤ sec ∧ sec + 64 ≤ a + n then m.setPoison sec false
      else m) m).read k c = m.read k c := by
  apply Mem.foldl_read
  intro m x k a
  dsimp only
  split
  · rfl
  · split <;> rfl

/-- The bytes stored read as what was stored. -/
theorem Mem.read_store_in (m : Mem) (key a i : Nat) (bs : List Byte) (pm : Nat) (h : i < bs.length) :
    (m.store key a bs pm).read key (a + i) = bs[i] := by
  unfold Mem.store
  rw [Mem.read_marks]
  unfold Mem.put
  exact Mem.read_writeN_in _ _ _ _ _ h

/-- A store leaves every read of a block it does not touch alone, under any name. -/
theorem Mem.read_store_out (m : Mem) (key k a c : Nat) (bs : List Byte) (pm : Nat) (hl : 0 < bs.length)
    (h : c / 16 < a / 16 ∨ (a + bs.length + 15) / 16 ≤ c / 16) : (m.store key a bs pm).read k c = m.read k c := by
  unfold Mem.store
  rw [Mem.read_marks]
  unfold Mem.put
  rw [Mem.read_writeN_block _ _ _ _ _ _ h]
  split
  · rw [Mem.read_rename_block _ _ _ _ _ (by omega)]
    split
    · exact Mem.read_rename_block _ _ _ _ _ (by omega)
    · rfl
  · split
    · exact Mem.read_rename_block _ _ _ _ _ (by omega)
    · rfl

/-! ### The canonical form -/

theorem Mem.wf_iff (m : Mem) : m.wf = true ↔ Tbl.sorted m.bytes = true ∧ Tbl.sorted m.keys = true ∧ Tbl.sorted m.poison = true ∧
    (∀ e ∈ m.bytes, e.2 ≠ 0) ∧ (∀ e ∈ m.keys, e.2 ≠ 0) ∧ (∀ e ∈ m.poison, e.2 ≠ false) := by
  simp only [Mem.wf, Bool.and_eq_true, List.all_eq_true, bne_iff_ne, ne_eq, Bool.not_eq_false]
  tauto

theorem Mem.wf_empty : Mem.wf ⟨[], [], []⟩ = true := rfl

theorem Mem.wf_write (m : Mem) (key a : Nat) (b : Byte) (h : m.wf = true) : (m.write key a b).wf = true := by
  rw [Mem.wf_iff] at *
  obtain ⟨h1, h2, h3, h4, h5, h6⟩ := h
  exact ⟨Tbl.sorted_store _ _ _ _ h1, Tbl.sorted_store _ _ _ _ h2, h3, Tbl.store_noDefault _ _ _ _ h4, Tbl.store_noDefault _ _ _ _ h5, h6⟩

theorem Mem.wf_writeN (bs : List Byte) : ∀ (m : Mem) (key a : Nat), m.wf = true → (m.writeN key a bs).wf = true := by
  induction bs with
  | nil => intro m key a h; exact h
  | cons b bs ih => intro m key a h; exact ih _ _ _ (Mem.wf_write _ _ _ _ h)

theorem Mem.wf_setPoison (m : Mem) (a : Nat) (p : Bool) (h : m.wf = true) : (m.setPoison a p).wf = true := by
  rw [Mem.wf_iff] at *
  obtain ⟨h1, h2, h3, h4, h5, h6⟩ := h
  exact ⟨h1, h2, Tbl.sorted_store _ _ _ _ h3, h4, h5, Tbl.store_noDefault _ _ _ _ h6⟩

theorem Mem.wf_foldl {β : Type} (l : List β) (f : Mem → β → Mem) (hf : ∀ m x, m.wf = true → (f m x).wf = true) :
    ∀ m : Mem, m.wf = true → (l.foldl f m).wf = true := by
  induction l with
  | nil => intro m h; exact h
  | cons x l ih => intro m h; exact ih _ (hf _ _ h)

theorem Mem.wf_poisonRange (m : Mem) (a n : Nat) (h : m.wf = true) : (m.poisonRange a n).wf = true :=
  Mem.wf_foldl _ _ (fun _ _ h => Mem.wf_setPoison _ _ _ h) _ h

theorem Mem.wf_rename (m : Mem) (key a : Nat) (h : m.wf = true) : (m.rename key a).wf = true := by
  unfold Mem.rename
  split
  · exact h
  · exact Mem.wf_writeN _ _ _ _ h

theorem Mem.wf_put (m : Mem) (key a : Nat) (bs : List Byte) (h : m.wf = true) : (m.put key a bs).wf = true := by
  unfold Mem.put
  apply Mem.wf_writeN
  split
  · apply Mem.wf_rename
    split
    · exact Mem.wf_rename _ _ _ h
    · exact h
  · split
    · exact Mem.wf_rename _ _ _ h
    · exact h

theorem Mem.wf_store (m : Mem) (key a : Nat) (bs : List Byte) (pm : Nat) (h : m.wf = true) : (m.store key a bs pm).wf = true := by
  refine Mem.wf_foldl _ _ (fun m x h => ?_) _ (Mem.wf_put _ _ _ _ h)
  dsimp only
  split
  · exact Mem.wf_setPoison _ _ _ h
  · split
    · exact Mem.wf_setPoison _ _ _ h
    · exact h

end Sys2Proof.Machine
end

