-- ==== Sys2Proof/Tests/Slice0.lean ====
section
/-! SUPPORT. Tests: the states they run on, ill-formed commands, worked examples of the spec with one step each, and for every statement of the
certificates that has hypotheses the theorem `witness_<statement>`, which shows for each of its clauses a state and operands that meet the
hypotheses of the clause together.  Hypotheses that speak of a free value of `Config` (a signature, a digest) hold for no known value and are left
out of these witnesses. -/

namespace Sys2Proof.Machine

-- One proof at a time: each thread's stack counts against the memory limit.
set_option Elab.async false

/-- After reset no command waits. -/
theorem test_reset_queue : State.reset.queueWf = true := by decide

/-! ### From decidable facts to the hypotheses that are no decidable propositions -/

theorem ok_of {α ε : Type} [DecidableEq α] {e : Except ε α} {x : α} (h : e.toOption = some x) : e = .ok x := by
  cases e <;> simp_all [Except.toOption]

theorem error_of {α ε : Type} [DecidableEq ε] {e : Except ε α} {x : ε} (h : (match e with | .error y => some y | .ok _ => none) = some x) :
    e = .error x := by
  cases e <;> simp_all

theorem commandedBy_of {s : State} {ch : ChanId} {n : Nat} {x : SeatId}
    (h : s.serves [] = true ∧ (s.ctl.entryOf ch).map (fun e => (e.1, e.2.seat)) = some (n, x)) : s.commandedBy ch n x := by
  obtain ⟨h, he⟩ := h
  refine ⟨h, ?_⟩
  cases hc : s.ctl.entryOf ch with
  | none => simp [hc] at he
  | some e => simp [hc] at he; exact ⟨e.2, by rw [← he.1], he.2⟩

theorem guardedBy_of {s : State} {ch : ChanId} {n k : Nat} {x : SeatId}
    (h : (s.serves [] = true ∧ (s.ctl.entryOf ch).map (fun e => (e.1, e.2.seat)) = some (n, x)) ∧ s.semHolder k = some x) : s.guardedBy ch n x k :=
  ⟨commandedBy_of h.1, h.2⟩

theorem unguarded_of {s : State} {ch : ChanId} {n k : Nat} {x : SeatId}
    (h : (s.serves [] = true ∧ (s.ctl.entryOf ch).map (fun e => (e.1, e.2.seat)) = some (n, x)) ∧ s.semHolder k ≠ some x) : s.unguarded ch n x k :=
  ⟨commandedBy_of h.1, h.2⟩

theorem fresh_of {s : State} {p : Packet}
    (h : p.tagged = false ∨ (s.fab.dedupOf p.src p.tag = none ∧ (s.fab.dedup.filter (fun e => e.src == p.src)).length < 4096)) : s.fresh p := h

theorem homeFree_of {s : State} {l : List Nat}
    (h : s.home.events = [] ∧ s.fld F.HOME_FILTER_BUSY = 0 ∧ l.length ≤ 4096 ∧ ∀ e ∈ s.home.filter, e.line ∉ l) : s.homeFree l := h

/-- Whether a request resynchronises memory. -/
def tResync (r : Request) : Bool := match r.waiter with | .resync _ _ => true | _ => false

theorem unitsFree_of {s : State} (h : s.tier.runs = [] ∧ ∀ r ∈ s.fab.reqs ++ s.fab.waiting, tResync r = false) : s.unitsFree :=
  ⟨h.1, fun r hr c n e => by have := h.2 r hr; rw [tResync, e] at this; cases this⟩

theorem ownServes_of {s : State} {p : Packet}
    (h : (p.malformed = false ∧ s.isSelf (dgaDev p.addr) = true ∧ s.ownerFault p = none ∧ dgaWin p.addr < 2 ∧ isStaging p = false ∧
        s.notServed (dgaCell p.addr) = false ∧ s.tier.inFlight = []) ∧
      (p.tagged = false ∨ (s.fab.dedupOf p.src p.tag = none ∧ (s.fab.dedup.filter (fun e => e.src == p.src)).length < 4096)) ∧
      s.tier.runs = [] ∧ ∀ r ∈ s.fab.reqs ++ s.fab.waiting, tResync r = false) : s.ownServes p :=
  ⟨h.1.1, h.1.2.1, h.1.2.2.1, h.1.2.2.2.1, fresh_of h.2.1, h.1.2.2.2.2.1, h.1.2.2.2.2.2.1, h.1.2.2.2.2.2.2, unitsFree_of h.2.2⟩

theorem hostAdmits_of {s : State} {qp psn n : Nat} {v : State} (hv : v = (s.policeAll (portEth (s.qpPort qp)) vcREQ (s.frameLens qp n)).2)
    (h : s.qpAccepts qp = true ∧ (s.policeAll (portEth (s.qpPort qp)) vcREQ (s.frameLens qp n)).1 = some false ∧ v.qpAccepts qp = true ∧
      (psn + 2 ^ 24 - (v.qpx qp).expected) % 2 ^ 24 = 0) : s.hostAdmits v qp psn n :=
  ⟨h.1, Prod.ext h.2.1 hv.symm, h.2.2⟩

theorem hostTurn_of {s : State} {qp psn n : Nat} {v : State} (hv : v = (s.policeAll (portEth (s.qpPort qp)) vcREQ (s.frameLens qp n)).2)
    (h : (s.qpAccepts qp = true ∧ (s.policeAll (portEth (s.qpPort qp)) vcREQ (s.frameLens qp n)).1 = some false ∧ v.qpAccepts qp = true ∧
        (psn + 2 ^ 24 - (v.qpx qp).expected) % 2 ^ 24 = 0) ∧ v.qpBusy qp = false ∧ (v.qpx qp).waiting = []) : s.hostTurn v qp psn n :=
  ⟨hostAdmits_of hv h.1, h.2⟩

theorem policed_of {s : State} {i vc : Nat} {l : List Nat} {v : State} (hv : v = (s.policeAll i vc l).2) (h : (s.policeAll i vc l).1 = none) :
    s.policeAll i vc l = (none, v) := Prod.ext h hv.symm

theorem setFull_of {h : Home} {line : Nat} (hl : h.filter.length < 16) : h.setFull line = false := by
  simpa [Home.setFull] using lt_of_le_of_lt (List.length_filter_le _ _) hl

theorem atQ_of {s : State} {n ins len : Nat} (h : (s.core n).fetch = some (some ins, len) ∧ qFunct ins = none) : ∀ f, s.atQ n f = none := by
  intro f; simp [State.atQ, h.1, h.2]

/-- No claim and no enabled context: nothing is protected. -/
theorem protection_of {s : State}
    (h : s.xlt.claims = [] ∧ s.sil.comp.slices.all (fun e => (List.range e.2.ctxCount).all (fun i => !s.ctxEnabled (e.2.ctxBase + i))) = true) (c : Nat) :
    s.protection c = 0 := by
  have hm : ∀ n, s.meetsTable c n = false := by
    intro n
    have h2 := h.2
    simp only [List.all_eq_true, Bool.not_eq_true'] at h2
    simp only [State.meetsTable, Bool.and_eq_false_iff]
    right
    simp only [List.any_eq_false]
    intro e he
    simp only [Bool.not_eq_true, List.any_eq_false]
    intro i hi
    simp [h2 e he i hi]
  have hc : s.claimAt c = none := by simp [State.claimAt, h.1]
  simp only [State.protection, hc]
  split
  · simp [hm]
  · rfl

/-! ### States -/

/-- A field of the register file with another value. -/
def tF (f : Fld) (v : Nat) (s : State) (bank : Nat := 0) : State := { s with regs := (f.key bank, v) :: s.regs }

/-- A device whose firmware runs and whose islands are ON. -/
def tOn : State :=
  { State.reset with
    pwr := { State.reset.pwr with on := true }, now := 10 ^ 12,
    regs := [(F.TST_PINS_RST_N.key 0, 1), (F.SEC_STATE_FW.key 0, 1), (F.SEC_STATE_PUF.key 0, 1), (F.PWR_START_PHASE.key 0, 7)]
      ++ (List.range 24).map (fun k => ((F.PWR_ISLAND_STATE.at k).key 0, isON)) }

/-- The sideband bound to seat A, an RDMA channel to seat B; seat A holds the first eight semaphores. -/
def tSeat : State :=
  { tOn with
    ctl.entries := [(0, ⟨.i3c, .a⟩), (3, ⟨.rdma 0 0x2001, .b⟩)], ctl.seatA := ⟨.bound, [], 0, 0⟩, ctl.seatB := ⟨.bound, [], 0, 0⟩,
    ctl.semExpiry := (List.range 8).map (fun n => (n, 10 ^ 18)),
    regs := (List.range 8).map (fun n => ((F.CTL_SEM_OWNER.at n).key 0, 1)) ++ tOn.regs }

/-- Member 0 of a running domain of four, with one slice that has every resource, of partition 5 with key 0x51. -/
def tDom : State :=
  { tSeat with
    dom.members := 4, dom.width := 4, dom.lanes := [0, 1, 2].flatMap (fun p => (List.range 4).map (fun k => (laneKey p k, LaneState.up))),
    dom.lossUs := 1000, dom.mgmtUs := 5000, dom.identities := [(0, [1]), (1, [2]), (2, [3]), (3, [4])],
    sil.comp.partitions := [(5, ⟨0x51, 0xFF, 1⟩)], sec.keys := [(5, ⟨zeros 32, 7⟩)],
    sil.comp.slices := [(0, ⟨5, 0xFFFF, 0xFFFF, 0xFFFFFFFF, 0xFFFFFF, 0, 16, 0, 64, 1, 1, 1⟩)],
    regs := (List.range 4).flatMap (fun d => [((F.FAB_MEMBER_STATE.at d).key 0, MemberState.active.code), ((F.FAB_MEMBER_POSITION.at d).key 0, d),
        ((F.FAB_MEMBER_PPORT.at d).key 0, if d = 0 then 0x3F else d - 1)])
      ++ [(F.SIL_FULL_SERIAL_SERIAL.key 0, 9), (F.SIL_DOMAIN_ID_DOMAIN_ID.key 0, 77), (F.SIL_STATE_STATE.key 0, SilState.running.code)]
      ++ [0, 1, 2].flatMap (fun p => [(F.FAB_PORT_STATUS_WIDTH.key p, 4), (F.FAB_PORT_STATUS_PEER.key p, p + 1), (F.FAB_PORT_STATUS_LANES_UP.key p, 0xF),
        ((F.FAB_MEMBER_LANES_UP.at (p + 1)).key 0, 0xF)])
      ++ [(F.JNL_CUSTODY_DEVICES.key 0, 1), (F.JNL_STATE_MIRROR_DEV.key 0, 1), (F.JNL_STATE_MIRROR_VALID.key 0, 1), (F.JNL_STATE_NO_MIRROR.key 0, 0), (F.JNL_STATE_RECOVERING.key 0, 0)]
      ++ tSeat.regs }

/-- An extent of context 3 in partition 5. -/
def tExt (dev va window off pages cls : Nat) : Extent := ⟨3, va, pages, mkDga dev window off, 5, 7, cls, false, .valid, 0, 0⟩

/-- The same with memory of every tier and context 3, which maps part of each. -/
def tMem : State :=
  { tDom with
    sil.comp.runs := [⟨0, 1, true, 0, 1536⟩, ⟨0, 2, false, 0, 1024⟩, ⟨0, 3, false, 0, 41472⟩],
    xlt.extents := [tExt 0 (2 ^ 32) 0 (2 ^ 34) 256 1, tExt 0 (2 ^ 33) 1 (2 ^ 32) 256 0, tExt 0 (2 ^ 34) 2 0 256 2, tExt 1 (2 ^ 35) 0 (2 ^ 31) 16 1],
    regs := [(F.TIER_T1_CFG_STACK_PRESENT.key 0, 0xFF), (F.TIER_T2_CFG_CH_POPULATED.key 0, 0xFFFF), (F.TIER_T2_CFG_CH_GIB.key 0, 64),
        (F.TIER_T2_CFG_GRANULES.key 0, 1024), (F.TIER_T3_CFG_CH_POPULATED.key 0, 0xFFFFFF), (F.TIER_T3_CFG_DIES.key 0, 8),
        (F.TIER_T3_GRANULES_GRANULES.key 0, 41472), (F.XLT_CTX_CFG_ENABLE.key 3, 1), (F.PWR_COMP_FLASH_CH.key 0, 0xFFFFFF)] ++ tDom.regs }

def tEnv : WriteEnv := ⟨⟨[], [], [], [], true, 5, true, true, true, [], [], []⟩, 0⟩

/-! ### Well-formed commands -/

def tGood : Packet := { op := opHEARTBEAT }
def tOdd : Packet := { op := opHEARTBEAT, sectors := 1 }
def tInfoOk : StartInfo := tEnv.start
def tInfo64 : StartInfo := { tInfoOk with straps := 64 }

/-- A packet with one field wider than the header gives it, or with a payload that is not its sectors, is no packet (R229). -/
theorem test_packet_fits : tGood.fits = true ∧
    ∀ p ∈ [{ tGood with op := 256 }, { tGood with vc := 8 }, { tGood with pkey := 65536 }, { tGood with src := 64 }, { tGood with dst := 64 },
        { tGood with size := 256 }, { tGood with poison := 16 }, { tGood with sectors := 8, payload := zeros 512 }, { tGood with tag := 2 ^ 48 },
        { tGood with epoch := 65536 }, { tGood with addr := 2 ^ 64 }, { tGood with aux := 2 ^ 32 }, { tGood with status := 256 },
        { tGood with atype := 256 }, { tGood with ctx := 8192 }, { tGood with rsvd := 512 }, tOdd], p.fits = false := by
  decide +kernel

theorem test_start_info_fits : tInfoOk.fits = true ∧
    ∀ i ∈ [tInfo64, { tInfoOk with stacksFailed := [8] }, { tInfoOk with flash := [(24, 1)] }, { tInfoOk with flash := [(0, 49)] }], i.fits = false := by
  decide +kernel

/-- Each of these commands has one operand out of its range. -/
theorem test_ill_formed_1 : ∀ i ∈ ([
    .heartbeat tOdd, .memberLossTimeout 64, .memberDeclare tOdd, .identityExchange 64 ⟨[], 0, 0, 0, 0, 0, 0, 0, false⟩,
      .laneTrainingDone 96 0 0 0 0, .laneTrainingDone 0 4 0 0 0, .laneDown 96 0, .laneDown 0 4, .laneRetrainDone 96 0 0 0,
      .laneRetrainDone 0 4 0 0, .laneRetrainDone 0 0 64 0, .laneRetrainDone 0 0 0 64, .mgmtAccessTimeout (2 ^ 48),
      .silApertureWrite .i3c 4096 0, .silApertureWrite .i3c 0 (2 ^ 64), .claimCheckDone 4 false, .claimBufferTimeout 4,
      .semAcquire .i3c 64 0 none, .semAcquire .i3c 0 65536 none, .semRenew .i3c 64 0, .semRenew .i3c 0 65536, .semRelease .i3c 64,
      .semLeaseExpiry 64, .i3cEntdaa 128, .i3cSetdasa 128, .i3cEnec 256, .i3cDisec 256, .doorbell 1024 0, .doorbell 0 (2 ^ 64),
      .cqHeadStore 1024 0, .cqHeadStore 0 (2 ^ 64), .slotFetchDone 1024 false, .mirrorAck tOdd, .journalMirrorEntry tOdd, .handoff tOdd,
      .taken tOdd, .held tOdd, .notHeld tOdd, .holdQuery tOdd, .phaseDone tOdd, .mapOwnerAnswer tOdd, .releaseMember .i3c 64,
      .etcInvalidateDone 8192 0, .etcInvalidateDone 0 (2 ^ 64), .etcMissWalk 8192 0, .etcMissWalk 0 (2 ^ 64), .xltMapCheck tOdd,
      .revokeRange tOdd, .drainedReport tOdd, .registrationQuery tOdd, .partFailure 0 0, .partFailure 4 0, .granuleResync 0 0,
      .granuleResync 4 0, .rebuildUnitCopy 0, .rebuildUnitCopy 4, .rebuildStageDone 8 0 [] [] [] [], .rebuildStageDone 0 64 [] [] [] [],
      .qissue 16, .qwait 16, .qpoll 16, .qfence 16] : List Instr), i.wf = false := by
  decide +kernel

theorem test_ill_formed_2 : ∀ i ∈ ([
    .qexit 16, .qinfo 16, .scalarInstruction 16 none false, .mma 16 [], .vectorAdd 16, .vectorSub 16, .vectorMul 16, .vectorFma 16,
      .vectorMax 16, .vectorMin 16, .affine 16, .exp2 16, .rcp 16, .rsqrt 16, .log2 16, .rowmax 16, .rowsum 16, .convert 16,
      .softmaxStep 16, .rescale 16, .normalise 16, .dmaLoad 16 false, .dmaStore 16 false, .dmaPublish 16 false, .localCopy 16 false,
      .dmaAtomic 16 false, .kernelVerifyDone (2 ^ 48), .launchBudgetExpiry (2 ^ 48), .coreWakeDone 16, .coreIdleGate 16,
      .attendUnitDone 16 [], .packetForward 124 0 tGood 0 0 0, .packetForward 0 4 tGood 0 0 0, .packetForward 0 0 tOdd 0 0 0,
      .packetForward 0 0 tGood (2 ^ 32) 0 0, .packetForward 0 0 tGood 0 5 0, .packetForward 0 0 tGood 0 0 5, .egressArbitration 124,
      .linkFrame 96 0 ⟨0, none, none, [], 0, 0⟩, .linkFrame 0 4 ⟨0, none, none, [], 0, 0⟩, .load tOdd 0, .load tGood (2 ^ 64),
      .store tOdd 0, .store tGood (2 ^ 64), .atomic tOdd 0, .atomic tGood (2 ^ 64), .reduce tOdd, .tileCommit tOdd, .mirror tOdd,
      .parity tOdd, .retire tOdd, .fenceMark tOdd, .agentFence 32 tGood, .agentFence 0 tOdd, .tagReset tOdd, .blockRead tOdd 0,
      .blockRead tGood (2 ^ 64), .blockWrite tOdd, .blockAssemblyTimeout 64 0, .blockAssemblyTimeout 0 (2 ^ 48), .windowRead tOdd,
      .windowWrite tOdd tEnv] : List Instr), i.wf = false := by
  decide +kernel

theorem test_ill_formed_3 : ∀ i ∈ ([
    .relayDrain tOdd, .response tOdd, .retryTimer (2 ^ 48), .fabricTimeout (2 ^ 48), .retireSend 64, .agentRequest 32 tGood,
      .agentRequest 0 tOdd, .portRetrain .i3c 4, .portHoldDown .i3c 4, .portRelease .i3c 4, .readShared tOdd 0, .readShared tGood (2 ^ 64),
      .readOwn tOdd 0, .readOwn tGood (2 ^ 64), .upgrade tOdd 0, .upgrade tGood (2 ^ 64), .writeback tOdd 0, .writeback tGood (2 ^ 64),
      .snpInv tOdd, .snpShare tOdd, .snpFwd tOdd, .agentFlush 32 0 false, .agentFlush 0 64 false, .agentDrop tOdd, .agentDropScanDone 64 0,
      .agentDropScanDone 0 (2 ^ 48), .agentExpel tOdd, .grantAck tOdd, .snoopAnswer tOdd, .homeTimeout 2048 0, .homeTimeout 0 (2 ^ 58),
      .aportFlush .i3c 32, .aportExpel .i3c 32, .contrib tOdd, .result tOdd, .digest tOdd, .grant tOdd, .collectiveAbort tOdd,
      .collectiveTimeout 65536 0, .collectiveTimeout 0 (2 ^ 32), .poolReq tOdd, .poolPart tOdd, .verDrained tOdd,
      .centroidStepDone (2 ^ 48), .segmentScanDone 24, .segmentScanTimeout 24, .sloeParityFault 24, .searchMergeDone (2 ^ 48),
      .rdmaWrite 8208 0 0 0 [] false tEnv, .rdmaWrite 0 (2 ^ 24) 0 0 [] false tEnv, .rdmaWrite 0 0 (2 ^ 64) 0 [] false tEnv,
      .rdmaWrite 0 0 0 (2 ^ 32) [] false tEnv, .rdmaRead 8208 0 0 0 0 false tEnv, .rdmaRead 0 (2 ^ 24) 0 0 0 false tEnv,
      .rdmaRead 0 0 (2 ^ 64) 0 0 false tEnv, .rdmaRead 0 0 0 (2 ^ 32) 0 false tEnv, .fetchAdd 8208 0 0 0 0 false,
      .fetchAdd 0 (2 ^ 24) 0 0 0 false, .fetchAdd 0 0 (2 ^ 64) 0 0 false, .fetchAdd 0 0 0 (2 ^ 32) 0 false,
      .fetchAdd 0 0 0 0 (2 ^ 64) false, .cmpSwap 8208 0 0 0 0 0 false] : List Instr), i.wf = false := by
  decide +kernel

theorem test_ill_formed_4 : ∀ i ∈ ([
    .cmpSwap 0 (2 ^ 24) 0 0 0 0 false, .cmpSwap 0 0 (2 ^ 64) 0 0 0 false, .cmpSwap 0 0 0 (2 ^ 32) 0 0 false,
      .cmpSwap 0 0 0 0 (2 ^ 64) 0 false, .cmpSwap 0 0 0 0 0 (2 ^ 64) false, .send 8208 0 [] false, .send 0 (2 ^ 24) [] false,
      .roceAck 8208 0 0 [], .roceAck 0 (2 ^ 24) 0 [], .qpAckTimeout 8208, .cnp 8208, .pfcFrame 4 0 0, .pfcFrame 0 8 0, .pfcFrame 0 0 65536,
      .pfcXoffRefresh 4 0, .pfcXoffRefresh 0 8, .pfcWatchdog 4 0, .pfcWatchdog 0 8, .arpRequest 4 0 0, .arpRequest 0 (2 ^ 64) 0,
      .arpRequest 0 0 (2 ^ 64), .neighbourSolicitation 4 0 0, .neighbourSolicitation 0 (2 ^ 64) 0, .neighbourSolicitation 0 0 (2 ^ 64),
      .icmpEcho 4 0 0 0, .icmpEcho 0 (2 ^ 64) 0 0, .icmpEcho 0 0 (2 ^ 64) 0, .ethFrameDiscard 4 false, .mrRegister .i3c 8192 0,
      .mrRegister .i3c 0 8, .mrDeregister .i3c (2 ^ 32), .xferPush .i3c (2 ^ 32) 0, .xferPush .i3c 0 8208, .xferPull .i3c (2 ^ 32) 0,
      .xferPull .i3c 0 8208, .ptpMessage 4 0 0, .sentinelDone 2 false, .engineWatchdog 16 0 0, .engineWatchdog 0 3 0,
      .logClear .i3c (2 ^ 32), .resetL0 .i3c 8192, .resetL1 .i3c 16, .resetL2 .i3c 8192, .resetL3 .i3c 32 false, .resetL5 .i3c tInfo64,
      .resetComplete 6 0 false, .admitStart .i3c 64 0, .admitStart .i3c 0 64, .admitTestDone 64 0 false, .admitTestDone 0 64 false,
      .rebindApply tOdd, .linkKeyExchange 96 ⟨[], [], [], [], [], []⟩, .linkRekey 96 ⟨[], [], [], [], [], []⟩, .coldStart tInfo64,
      .memInitDone 0 [], .memInitDone 4 [], .islandWakeDone 26, .islandTestDone 26 false, .boardResetRelease tInfo64, .probe 4 0 0,
      .probe 0 1024 0, .abusSelect .i3c 4 0 0] : List Instr), i.wf = false := by
  decide +kernel

theorem test_ill_formed_5 : ∀ i ∈ ([
    .abusSelect .i3c 0 1024 0, .unitIsolate .i3c 64, .unitTest .i3c 64 0, .unitTest .i3c 0 8, .unitRelease .i3c 64, .recallScanDone 8192 0,
      .recallScanDone 0 (2 ^ 64), .shaperBucketFill 992 false, .abortStatusExpiry 65536 0, .abortStatusExpiry 0 (2 ^ 32),
      .pfcPauseExpiry 4 0, .pfcPauseExpiry 0 8, .ethLinkChange 4 false] : List Instr), i.wf = false := by
  decide +kernel

/-! ### Worked examples of the spec, and one step each -/

/-- A register of device 5, and 0x12_3456_7840 of T1 of device 20 (the examples of spec/00 and spec/01). -/
theorem test_dga_examples : mkDga 5 3 0xE0100 = 0x17000000000E0100 ∧ mkDga 20 0 0x1234567840 = 0x5000001234567840 := by decide

/-- A store of 256 B is a packet of 296 B, and A-port 5 on REQ has shaper 552 (the example of spec/11). -/
theorem test_packet_and_shaper : (⟨opSTORE, 0, true, false, false, false, 1, 0, 1, 255, 0, 4, 0, 0, 0, 0, 0, 0, 0, 0, [], false⟩ : Packet).bytes = 296 ∧
    shaperIndex (64 + 5) vcREQ = 552 := by decide

/-- The rates of the islands in the example of spec/17: 6.01 A for an L4. -/
theorem test_island_steps : ([23, 17, 18, 20, 21, 19, 22, 24].map islandStep).sum = 601 ∧ islandStep 23 + islandStep 17 = 264 := by decide

/-- The header bytes of an ATOMIC ADD INT64 with tag 0x8000_0000_1201 and epoch 7 from 9 to 41, laid out by hand from R229 and R239. -/
theorem test_header_bytes :
    ({ op := opATOMIC, tagged := true, pkey := 0x1234, src := 9, dst := 41, size := 7, sectors := 1, tag := 0x800000001201, epoch := 7,
       addr := 0xA400000200001040, atype := 0x21 } : Packet).header.map BitVec.toNat =
      [opATOMIC, 8, 0x34, 0x12, 9, 41, 7, 0x10, 0x01, 0x12, 0, 0, 0, 0x80, 7, 0,
       0x40, 0x10, 0, 0, 2, 0, 0, 0xA4, 0, 0, 0, 0, 0, 0x21, 0, 0] := by decide

/-- CRC-32C of the nine digits. -/
theorem test_crc32c : crc32c ([0x31, 0x32, 0x33, 0x34, 0x35, 0x36, 0x37, 0x38, 0x39] : List Byte) = 0xE3069283 := by decide +kernel

/-- FP8 E4M3 and BF16: the largest value, saturation at it, a tie between zero and the least step, and a tie between two BF16 codes (R196, R197). -/
theorem test_element_codes : encodeMx 1 (.fin false 448 0) = 0x7E ∧ encodeMx 1 (.fin false 1 0) = 0x38 ∧ encodeMx 1 (.fin false 1000 0) = 0x7E ∧
    encodeMx 1 (.fin true 1 (-10)) = 0x80 ∧ bf16.encode (.fin false 257 0) = 0x4380 := by decide +kernel

/-- A counter of value 100 in T1 of member 0, and ATOMIC ADD INT64 +5 from member 1. -/
def tCounter : State := { tMem with mem := tMem.mem.writeN ((tMem.dataKey 5).getD 0) (2 ^ 34) (natLe 8 100 ++ zeros 56) }
def tAdd : Packet :=
  { op := opATOMIC, vc := vcREQ, tagged := true, src := 1, dst := 0, tag := 0x800000001201, addr := 2 ^ 34, pkey := 0x51, size := 7, sectors := 1,
    atype := 0x21, payload := natLe 8 5 ++ zeros 56 }
/-- What a step leaves. -/
def tAfter (c : Instr) (s : State) : State := match exec c s with | .next t => t | _ => State.reset

/-- The example of spec/08: X is applied, 100 to 105, and the window holds the result 100; X again changes nothing and counts one hit. -/
theorem test_atomic_once :
    let t := tAfter (.atomic tAdd 0) tCounter
    leNat (t.mem.readN 1 (2 ^ 34) 8) = 105 ∧ (t.fab.dedupOf 1 tAdd.tag).map (fun e => field e.result 0 8) = some 100 ∧
      leNat ((tAfter (.atomic tAdd 0) t).mem.readN 1 (2 ^ 34) 8) = 105 ∧ (tAfter (.atomic tAdd 0) t).fld F.FAB_DEDUP_HITS = 1 := by
  decide +kernel

/-- Another partition key finds ACCESS and changes nothing (R262). -/
theorem test_atomic_other_partition : leNat ((tAfter (.atomic { tAdd with pkey := 0x52 } 0) tCounter).mem.readN 1 (2 ^ 34) 8) = 100 := by decide +kernel

/-- Seat A, over the sideband, selects partition 5; seat B's selection is its own (R14). -/
theorem test_seat_relative_write :
    let t := tAfter (.registerWrite .i3c R.SEC_KEY_SEL.off (natLe 8 5) tEnv) tSeat
    t.fld F.SEC_KEY_SEL_PARTITION 0 = 5 ∧ t.fld F.SEC_KEY_SEL_PARTITION 1 = tSeat.fld F.SEC_KEY_SEL_PARTITION 1 := by decide +kernel

/-- A read over the window returns a read-clear field and clears it (R14). -/
theorem test_read_clears :
    let s := tF F.SIL_COUNT_REFUSED 3 tSeat
    s.fld F.SIL_COUNT_REFUSED = 3 ∧ (tAfter (.rcFieldRead .i3c F.SIL_COUNT_REFUSED.off 8) s).fld F.SIL_COUNT_REFUSED = 0 := by decide +kernel

/-! ### The states of the witnesses -/

def tB : ChanId := .rdma 0 0x2001
/-- A channel bound to no seat. -/
def tUnb : ChanId := .rdma 1 0x2002
def tBuf (ch : ChanId) (sub : Bool) : ClaimBuf := ⟨ch, [], [], 5, sub⟩
def tBufs (l : Tbl ClaimBuf) : State := { tSeat with ctl.bufs := l }
def tAddr (a : Option Nat) : State := { tSeat with ctl.i3cAddr := a, ctl.i3cReply := some [1, 2] }
def tFrame (op off words n : Nat) : List Byte := natLe 1 op ++ natLe 3 off ++ natLe 2 words ++ zeros n

def tBeat (src : Nat) : Packet := { op := opHEARTBEAT, vc := 5, src := src, sectors := 1, payload := zeros 64 }
def tDecl (d : Nat) : Packet := { op := opMEMBER_DECLARE, vc := 5, src := 2, aux := d }
def tHeard (s : State) : State := { s with dom.heard := [1, 2, 3].map (fun d => (d, ⟨0, 0, true, 10 ^ 12 - 10⟩)) }
def tMember (d : Nat) (m : MemberState) (s : State) : State := tF (F.FAB_MEMBER_STATE.at d) m.code s
def tPeer (ident serial : Nat) : PeerInfo := ⟨[BitVec.ofNat 8 ident], serial, 77, 0, 0, 0, 0, 0, false⟩
def tAsk : Packet := { op := opWINDOW_READ, vc := 5, dst := 2, tag := 55, addr := mkDga 2 3 0x100 }
def tLane (p k : Nat) (l : LaneState) (s : State) : State := { s with dom.lanes := Tbl.put s.dom.lanes (laneKey p k) l }
def tSil (st : SilState) (s : State) : State := tF F.SIL_STATE_STATE st.code s

def tKey : KeyMsg := ⟨[1], [], [], [], [], []⟩

/-- A partial image, staged: it adds partition 6 with key 0x52. -/
def tPartial (kind : Nat) : State :=
  { tDom with
    sil.latched := 56,
    sil.staging := [(0, 0x0100000149534D44 + kind * 2 ^ 48), (1, 10), (2, 9), (3, 77), (4, 192 * 2 ^ 32), (8, 3 + 2 ^ 16 + 128 * 2 ^ 32), (9, 8), (16, 0x0000010700520006)] }
def tBusy : Work := ⟨77, 0, 7, 5, 5, zeros 64, 5, 3, .running, 0, 0, 0, 100, 4, 100, 0, .done, 0, none, [], [], 0, 5, 0, false, none, false, none, [], none⟩

def tRing : QueueX := ⟨0, 0, 0, 5, 69, false, none, false, 0, mkDga 0 0 (2 ^ 34), mkDga 0 0 (2 ^ 34 + 2 ^ 20)⟩
/-- Queue 7, of 64 slots, of context 3, at index 5. -/
def tQueue (x : QueueX) (st : QueueState) (tail : Nat) (s : State := tMem) : State :=
  { s with
    qx := [(7, x)],
    regs := [(F.WQ_Q_STATUS_STATE.key 7, st.code), (F.WQ_Q_CFG_LOG2_SLOTS.key 7, 6), (F.WQ_Q_CFG_CTX.key 7, 3), (F.WQ_Q_SEL_QUEUE.key 0, 7),
      (F.WQ_Q_PROGRESS_HEAD.key 7, 5), (F.WQ_Q_STATUS_TAIL.key 7, tail), (F.WQ_Q_RING_RING_VA.key 7, 2 ^ 32), (F.WQ_Q_CQ_CQ_ADDR.key 7, 2 ^ 32 + 2 ^ 16)] ++ s.regs }
def tFillAt (op seq : Nat) : List Byte := natLe 1 op ++ natLe 1 0 ++ natLe 2 seq ++ natLe 4 0 ++ natLe 8 (2 ^ 32) ++ natLe 8 0x55 ++ natLe 8 64 ++ zeros 32
def tSlotAt : Nat := 2 ^ 34 + 64 * 6
def tSlot (d : List Byte) (poison : Nat) (s : State) : State := { s with mem := s.mem.store (s.keyFor tSlotAt) tSlotAt d poison }
def tJournal (src sub phase : Nat) : Packet := { op := opJOURNAL_CTRL, vc := 5, src := src, addr := 77, aux := sub + 256 * phase }
def tEntry (j : Nat) : JEntry := { kind := jkDESCRIPTOR, jseq := j, tag := 77, body := tFillAt 1 5 }
def tMirror (j : Nat) : Packet := { op := opMIRROR, src := 1, aux := 1, payload := (tEntry j).bytes }
def tAck (st : Nat) : Packet := { op := opMIRROR + 0x80, vc := 1, src := 1, tag := 99, addr := 41, status := st }
def tWaits : Request := ⟨{ op := opMIRROR, dst := 1, tag := 99, aux := 1 }, .journal 41, 10 ^ 12, 10 ^ 12, 0, .direct⟩
def tWork (st : WorkStage) (holder : Nat) : Work :=
  ⟨77, 0, 7, 5, 5, tFillAt 1 5, 5, 3, st, 1, holder, 0, 100, 4, 100, 0, .done, 0, none, [], [], 0, 5, 0, false, none, false, none, [], none⟩

/-- A claim of member 0 to P1 memory, and each tier's limit for partition 5 high. -/
def tOwn : State :=
  { tMem with
    xlt.claims := [⟨0, 3, 2 ^ 34, 2 ^ 20, 5, 1, false, none, 2 ^ 32, 0, 0, false⟩],
    regs := [((limitF 1).key 5, 2 ^ 40), ((limitF 2).key 5, 2 ^ 40), ((limitF 3).key 5, 2 ^ 40)] ++ tMem.regs }
def tCap (k : Nat) (s : State) : State := tF F.XLT_CTX_CFG_LOG2_CAP k (tF F.XLT_CTX_SEL_CTX 3 s) 3
/-- Context 3 selected by seat A, with the fields of a MAP: 16 pages. -/
def tStage (va dga cls isAlias : Nat) (s : State) : State :=
  { s with
    regs := [(F.XLT_CTX_SEL_CTX.key 0, 3), (F.XLT_MAP_VA_VA.key 0, va), (F.XLT_MAP_DGA_DGA.key 0, dga / 4096), (F.XLT_MAP_LEN_PAGES.key 0, 16),
      (F.XLT_MAP_ATTR_RIGHTS.key 0, 7), (F.XLT_MAP_ATTR_CLASS.key 0, cls), (F.XLT_MAP_ATTR_ALIAS.key 0, isAlias)] ++ s.regs }
def tXlt (k : Nat) (m : XltMsg) : Packet := { op := opXLT_CTRL, vc := vcMGMT, src := 1, dst := 0, tag := 5, aux := k, payload := m.encode }
def tMapMsg (cell : Nat) : XltMsg := { member := 1, cell := cell, bytes := 4096, ctx := 3, partition := 5, cls := 1, va := 0x4000000 }
def tMapJob : MapJob := ⟨tExt 0 0x200000 0 (2 ^ 35) 16 1, 1, 41⟩
def tMapReq : Request := ⟨{ op := opXLT_CTRL, vc := vcMGMT, src := 0, dst := 1, tag := 41, aux := xcMAP }, .mapOwner .a, 10 ^ 12, 10 ^ 12, 0, .direct⟩
def tMapAns (st : Nat) : Packet := { op := opXLT_CTRL + 0x80, vc := vcRSP, src := 1, dst := 0, tag := 41, status := st }
def tMapping : State := { tCap 8 tOwn with fab.reqs := [tMapReq], xlt.mapA := some tMapJob }
def tCtx (en mode cap : Nat) (s : State) : State := tF F.XLT_CTX_CFG_ENABLE en (tF F.XLT_CTX_CFG_MODE mode (tCap cap s) 3) 3
def tNone (s : State) : State := { s with xlt.extents := [] }
def tShoot (va pages : Nat) (s : State) : State := tF F.XLT_CTX_SEL_CTX 3 (tF F.XLT_SHOOT_VA_VA (va / 4096) (tF F.XLT_SHOOT_LEN_PAGES pages s))
def tShootJob : ShootJob := ⟨3, [(3, 2 ^ 32)], 1, 10 ^ 12, false, false⟩
def tInv (st : ExtState) (s : State) : State := { s with xlt.invalidating := [(3, 2 ^ 32, st)] }
def tRev : Revocation := ⟨1, 7, (2 ^ 34, 4096), 5, 0, none, [1], [], 0⟩
def tRevMsg (role : Nat) : XltMsg := { tag := 7, member := 1, role := role, cell := 2 ^ 31, bytes := 65536, partition := 5, count := 2 }

def tPub : Packet := { op := opSTORE, aux := 2 ^ 31, vc := vcREQ, src := 1, dst := 0, tag := 9, addr := 2 ^ 34, pkey := 0x51, size := 63, sectors := 3, payload := zeros 64 }
/-- A P2 claim of n bytes of which a units are armed. -/
def tP2 (a n : Nat) : Claim := ⟨0, 3, 2 ^ 34, n, 5, 2, false, none, 2 ^ 32, 0, a, false⟩
def tArm (k : Claim) : State := { tF F.TIER_ARM_ARMING 1 tOwn with xlt.claims := [k] }
def tReb (st : Nat) (s : State) : State := tF F.TIER_REBUILD_STATUS_STATE st (tF F.TIER_REBUILD_STATUS_FOR_DEV 2 s)
def tRunAt (stop : Nat) : UnitRun := ⟨runREBUILD, 2 ^ 56, stop, false⟩

def tLaunch : Launch := ⟨77, [2, 4], true, zeros 128, [], false, some 5, 100, 9⟩
/-- Core 2 of launch 77, at an instruction with registers. -/
def tCore (ins : Nat) (r : List (Nat × Nat)) : Core :=
  let k : Core := { blankCore 2 with state := .kernel, launch := some 77, pc := kwinBase, codeLen := 256, regs := r, ticket := 3, rank := 1,
                                     statuses := [(3, some .done), (2, none), (1, some .bounds)] }
  { k with kwin := k.kwin.store (k.keyOf .window) kwinBase (natLe 4 ins ++ zeros 60) 0 }
def tKern (k : Core) : State := { (tMem.setCore 2 k) with qnc.launches := [tLaunch], works := [tWork .running 0] }
def tQ (f rd rs : Nat) : Nat := encI 0x0B f rd rs 0
/-- A command record in tile memory at 0x1000. -/
def tRec (e op : Nat) (k : Core) : Core := { k with tile := k.tile.store (k.keyOf .tile) 0x1000 (natLe 1 e ++ natLe 1 op ++ zeros 62) 0 }
def tFull (k : Core) : Core := { k with dma := (List.range 64).map (fun i => ⟨i + 1, zeros 64⟩) }
def tMma (ea : Nat) : List Byte :=
  natLe 1 0 ++ natLe 1 1 ++ zeros 6 ++ natLe 1 ea ++ natLe 1 elBF16 ++ natLe 1 elFP32 ++ zeros 1 ++ natLe 4 0 ++ natLe 4 0x10000 ++ natLe 4 0x20000
    ++ natLe 2 1 ++ natLe 2 1 ++ natLe 2 32 ++ zeros 10 ++ natLe 4 64 ++ natLe 4 64 ++ natLe 4 256 ++ zeros 12
def tVec (op el rows : Nat) : List Byte :=
  natLe 1 1 ++ natLe 1 op ++ zeros 6 ++ natLe 1 el ++ natLe 1 elFP32 ++ zeros 2 ++ natLe 4 0x10000 ++ natLe 4 0x20000 ++ natLe 4 0x30000 ++ natLe 4 8
    ++ natLe 4 0x3F800000 ++ natLe 4 0x3F800000 ++ natLe 2 rows ++ zeros 26
def tDma (op rows stride : Nat) : List Byte :=
  natLe 1 2 ++ natLe 1 op ++ zeros 6 ++ natLe 1 0 ++ natLe 1 0 ++ natLe 1 elINT8 ++ zeros 1 ++ natLe 4 0x10000 ++ natLe 8 (2 ^ 32) ++ natLe 2 rows ++ natLe 2 64
    ++ natLe 2 1 ++ zeros 2 ++ natLe 4 stride ++ zeros 28
def tAtomics (n : Nat) : List Byte := natLe 1 2 ++ natLe 1 5 ++ zeros 10 ++ natLe 4 0x10000 ++ natLe 8 (2 ^ 32) ++ natLe 4 0 ++ natLe 2 n ++ zeros 34
/-- One command at the head of an engine's queue. -/
def tEng (e : Nat) (b : List Byte) : State := tKern ((tCore 0x13 []).setQueue e [⟨3, b⟩])
/-- The same with n tags left. -/
def tTags (n : Nat) (s : State) : State := { s with works := [{ tWork .running 0 with tagBase := 100, tagCount := n, nextTag := 100 }] }

def tAttBody : List Byte := zeros 128
def tUnit (stage : Nat) : AttUnit := ⟨77, 0, 0, 0, zeros 64, some 2, stage, [], [], [], false, []⟩
def tAttend (stage : Nat) : State :=
  { (tMem.setCore 2 { blankCore 2 with state := .attend, attend := some (77, 0, 0, 0) }) with qnc.units := [tUnit stage], works := [tWork .running 0] }

def tPk (o : Nat) : Packet := { op := opLOAD, vc := vcREQ, src := 1, dst := o, tag := 9, addr := mkDga o 0 (2 ^ 34), pkey := 0x51, size := 63 }
def tLoaded : State :=
  { tMem with sws.voq := (List.range 1000).map (fun i => ⟨0, 1, { tPk 2 with op := opSTORE, sectors := 64, tag := i }, 0, false, false⟩) }
def tHead (e vc t : Nat) : Queued := ⟨3, e, { tPk 1 with tag := t, vc := vc }, 0, false, false⟩
/-- The links to the three peers have keys and credits. -/
def tLinks : State :=
  { tMem with fab.links := (List.range 3).map (fun p => (p, { tMem.link p with keyed := 5, credits := (List.range 8).map (fun v => (v, 9000)) })) }
def tVoq (l : List Queued) : State := { tLinks with sws.voq := l }
def tGate (st entries : Nat) : State := tF F.SWS_GATE_STATUS_STATE st (tF F.SWS_GATE_CFG_ENTRIES entries (tF F.SWS_GATE_CFG_HOLDOVER_MS 5 tMem))
def tShaper (n mode cir pir cbs pbs : Nat) : State :=
  tF F.SWS_SHAPER_SEL_SHAPER n (tF F.SWS_SHAPER_BURST_MODE mode (tF F.SWS_SHAPER_RATE_CIR cir (tF F.SWS_SHAPER_RATE_PIR pir
    (tF F.SWS_SHAPER_BURST_CBS cbs (tF F.SWS_SHAPER_BURST_PBS pbs tMem)))))
def tShaped (mode : Nat) : State :=
  { tVoq [tHead 0 vcREQ 1] with sws.shapers := [(shaperIndex 3 vcREQ, ⟨mode, 100, 200, 10000, 20000, 5, 6, 0⟩)] }
def tLink1 (f : Link → Link) : State := { tMem with fab.links := [(1, f (tMem.link 1))] }
def tFr (seq fault : Nat) : Frame := ⟨seq, some 3, none, [(0, 2)], 0, fault⟩
def tPort (p k : Nat) (l : LaneState) : State := tF F.FAB_PORT_SEL_PORT p (tLane p k l tMem)

def tReq (o addr n : Nat) (pay : List Byte := []) : Packet :=
  { op := o, vc := vcREQ, src := 1, dst := 0, tag := 9, tagged := true, addr := addr, pkey := 0x51, size := n - 1, payload := pay, ctx := 3,
    sectors := if o = opSTORE then sectorsOf addr (n - 1) else if o = opATOMIC then 1 else 0 }
def tStore (addr n : Nat) : Packet := tReq opSTORE addr n (zeros (addr % 64) ++ List.replicate n (BitVec.ofNat 8 0xAB) ++ zeros ((1024 - addr % 64 - n) % 64))
def tAtomic (addr ty : Nat) : Packet := { tReq opATOMIC addr 8 (natLe 8 5 ++ natLe 8 7 ++ zeros 48) with atype := ty }
def tKept (o aux n : Nat) : Packet := { tReq o (mkDga 1 0 (2 ^ 34)) n (List.replicate 64 (BitVec.ofNat 8 0x5A)) with aux := aux, pkey := 0xFFFF, sectors := 1, vc := 0 }
def tSeen (src tag : Nat) (pend : Bool) (pcs : List Nat) : Dedup := ⟨src, tag, pend, 0, [], [], [], pcs⟩
def tPoisoned : State := { tMem with mem := tMem.mem.store 0 (2 ^ 34) (zeros 8) 15 }
def tP1 : State := { tMem with xlt.claims := [⟨0, 3, 2 ^ 34, 2 ^ 20, 5, 1, false, none, 2 ^ 32, 0, 0, false⟩] }

def tTile : StagedTile := ⟨1, 9, 0x51, [(0, (2 ^ 34, List.replicate 100 (BitVec.ofNat 8 3))), (1, (2 ^ 34 + 128, List.replicate 64 (BitVec.ofNat 8 4)))]⟩
def tPiece : Packet := { tStore (2 ^ 34) 64 with aux := stagingAux 9 0 }
def tBlock (o k : Nat) : Packet :=
  { tReq o (mkDga 0 2 4096) 4096 with
    size := 255, aux := k, sectors := if o = opBLOCK_WRITE then 4 else 0, payload := if o = opBLOCK_WRITE then List.replicate 256 (BitVec.ofNat 8 k) else [] }
def tBuf15 : BlockBuf :=
  ⟨1, 9, mkDga 0 2 4096, ((List.range 16).filter (· != 3)).map (fun i => (i, (List.replicate 256 (BitVec.ofNat 8 i), 0))), 0, tBlock opBLOCK_WRITE 0⟩
def tAssembling : State := tF F.XLT_CTX_CFG_ENABLE 0 { tMem with fab.blocks := [tBuf15], fab.dedup := [tSeen 1 9 true []] } 3
def tStaged : State := tF F.XLT_CTX_CFG_ENABLE 0 { tMem with tier.staged := [tTile] } 3

def tTag : Nat := txTagFirst + 5
def tAsked (w : Waiter) : Request :=
  ⟨{ op := opLOAD, vc := vcREQ, src := 0, dst := 1, tag := tTag, tagged := true, addr := mkDga 1 0 (2 ^ 34), size := 63, pkey := 0x51 }, w, 100, 200, 1, .direct⟩
def tAns (tag : Nat) : Packet := { op := opLOAD + 0x80, vc := vcRSP, src := 1, dst := 0, tag := tag, sectors := 1, payload := zeros 64 }
def tMark (o aux : Nat) : Packet := { op := o, vc := vcMGMT, src := 1, dst := 0, aux := aux }
def tReg (o off : Nat) (pay : List Byte) : Packet :=
  { op := o, vc := vcMGMT, src := 1, dst := 0, tag := 9, addr := mkDga 0 3 off, size := 7, payload := pay, aux := 7, sectors := if pay.isEmpty then 0 else 1 }
def tFwd : State := { tMem with ctl.entries := tMem.ctl.entries ++ [(5, ⟨.forwarded 1 0 7, .a⟩)] }

def tCoh (k : Nat) : Packet := { tReq opLOAD (2 ^ 34) 64 with aux := k + 256 * 4 }
def tWb : Packet := { tStore (2 ^ 34) 64 with aux := 4 + 1024 }
def tLine : Nat := 2 ^ 34 / 64
def tHeld (a : Nat) (st : LineState) : FilterEntry := ⟨a, 3, 2 ^ 32, tLine, st⟩
/-- Members 0 and 1 have a claim to the line, which the home filter lists as given. -/
def tHome (l : List FilterEntry) : State :=
  { tMem with
    xlt.claims := [⟨0, 3, 2 ^ 34, 2 ^ 20, 5, 0, false, none, 2 ^ 32, 0, 0, false⟩, ⟨1, 3, 2 ^ 34, 2 ^ 20, 5, 0, false, none, 2 ^ 32, 0, 0, false⟩],
    home.filter := l }
def tSnoop (o : Nat) : Packet := { op := o, vc := 2, src := 1, dst := 0, tag := 9, addr := 2 ^ 32, size := 63, aux := 4, ctx := 3, pkey := 0x51 }
def tSnoopAns (o aux sec : Nat) : Packet :=
  { op := o + 0x80, vc := vcRSP, src := 1, dst := 0, tag := tTag, aux := aux, sectors := sec, payload := if sec = 1 then List.replicate 64 (BitVec.ofNat 8 9) else [] }
def tAskedOf (o : Nat) : Snoop := ⟨36, tLine, tTag, o, 10 ^ 12, false⟩
def tEvent (o : Nat) : HomeEv := ⟨3, tCoh 2, 0, none, [tLine], true, [tAskedOf o], none, false⟩
def tSnooping (o : Nat) : State := { tHome [tHeld 36 .x] with home.events := [tEvent o] }
def tGranted : HomeEv := { tEvent 0x10 with snoops := [], grant := some (36, 5) }
def tScan : HomeEv := ⟨7, { op := 0, src := 0, addr := 2 ^ 32, aux := 16 }, 0, some (3, 2 ^ 32), [], false, [], none, false⟩

def tAport (st : Nat) : State := tF (F.HOME_APORT_STATE.at 3) st { tHome [] with home.caching := [3, 4] }
def tAgentReq (o va n : Nat) : Packet := { (if o = opSTORE then tStore va n else tReq o va n) with src := 0, tagged := false }
def tFence : Packet := { op := opAGENT_FENCE, vc := 0, pkey := 0x51, ctx := 3, tag := 9 }
def tDrop (o aux : Nat) : Packet := { op := o, vc := 2, src := 1, dst := 0, tag := 9, aux := aux, pkey := 0xFFFF }
def tDropScan : DropScan := ⟨tDrop 0x14 0, 36, false⟩

def tColl : List Byte :=
  natLe 4 0 ++ natLe 1 0x10 ++ natLe 1 0 ++ natLe 1 elFP32 ++ natLe 1 0 ++ zeros 16 ++ natLe 8 0xF ++ natLe 4 4096 ++ natLe 4 33 ++ natLe 8 7 ++ natLe 1 0 ++ zeros 15
def tCollWork : Work := { tWork .running 0 with desc := tColl }
def tCollRun (opened : Bool) : CollRun :=
  ⟨77, 0x51, 33, collDcrc tColl, some 0, opened, [], [], [], 0, 0, 0, false, [], [], [], [], [], [], [], [], [], [], 0, 0, [], 0, 0, 0, 0, 0, 5⟩
def tCollState (opened : Bool) : State := { tMem with works := [tCollWork], coll.runs := [tCollRun opened], coll.aborts := [⟨0x51, 34, .timeout, 5⟩] }
def tCollMsg (sub id low : Nat) (pay : List Byte) : Packet :=
  { op := opREDUCE, vc := vcSCHED, tagged := true, src := 1, dst := 0, tag := 9, pkey := 0x51, addr := id * 2 ^ 32 + low, size := pay.length - 1, aux := sub,
    payload := padTo 64 pay, sectors := ceilDiv pay.length 64 }

/-- Table 2 of two owners, with two slots given as state and version. -/
def tTable (st : Nat) (slots : List (Nat × Nat)) : State :=
  { tMem with
    regs := slots.zipIdx.flatMap (fun e => [((F.EMB_VER_STATE.at e.2).key 2, e.1.1), ((F.EMB_VER_VERSION.at e.2).key 2, e.1.2)])
      ++ [(F.EMB_TBL_CFG_STATE.key 2, st), (F.EMB_TBL_CFG_PARTITION.key 2, 5), (F.EMB_TBL_CFG_DIM.key 2, 16), (F.EMB_TBL_ROWS_VALUE.key 2, 100),
        (F.EMB_TBL_RPS_VALUE.key 2, 50), (F.EMB_TBL_OWNERS_MEMBERS.key 2, 3), (F.EMB_TBL_USERS_MEMBERS.key 2, 15), (F.EMB_TBL_DEFAULT_VALUE.key 2, 1),
        (F.EMB_TBL_SEL_TABLE.key 0, 2)] ++ tMem.regs }
def tStageVer (v ctx va : Nat) (s : State) : State := tF F.EMB_VER_STAGE_VERSION v (tF F.EMB_VER_STAGE_CTX ctx (tF F.EMB_VER_VA_VA (va / 64) s))
def tPoolRun : PoolRun := ⟨77, 2, 1, 6, true, [], [], [], 5, none, 0, 9, 0, [(1, 64)], 0, false, none, 0, 0⟩
def tPooled : State := { tTable tbDEFINED [(vCURRENT, 5)] with emb.runs := [tPoolRun] }
def tPoolMsg (sub a : Nat) (pay : List Byte) : Packet := { tCollMsg sub a 3 pay with aux := sub + 256 * 2 }

def tSearch : List Byte := natLe 4 0 ++ natLe 1 0x30 ++ zeros 59
def tSearchWork : Work := { tWork .running 0 with desc := tSearch }
def tQuery (i : Nat) (st : Status) : Query := ⟨i, [], [], [], 0, 0, st, 0⟩
def tSearchRun (stage : Nat) : SearchRun := ⟨77, zeros 64, 0, 2, [tQuery 0 .done, tQuery 1 .bounds], [], [], [], stage, [], 1⟩
def tSegment (b d : Bool) : Segment :=
  ⟨77, 0, 1, mkDga 0 0 (2 ^ 34), 0, 4, 0, 0, false, 3, [0], if b then some 5 else none, if d then some ([], []) else none⟩
def tScans (stage : Nat) (b d : Bool) (st : Nat) : State :=
  tF (F.VS_STATE_STATE.sloe 3) st { tMem with works := [tSearchWork], vs.runs := [tSearchRun stage], vs.segments := [tSegment b d] }

/-- Port 1 has its link and address; queue pair qp is on it. -/
def tQp (qp st : Nat) : State :=
  { tMem with
    dom.eports := 15,
    regs := [(F.ETH_QP_STATUS_STATE.key qp, st), (F.ETH_QP_CFG_PORT.key qp, 1), (F.ETH_QP_STATUS_RATE.key qp, 1000), (F.ETH_QP_SEL_QP.key 0, qp),
      (F.ETH_QP_PSN_RQ_PSN.key qp, 7), (F.ETH_QP_PSN_SQ_PSN.key qp, 9), ((F.ETH_PORT_CFG_MAC.at 1).key 0, 0x1234), ((F.ETH_PORT_STATUS_LINK.at 1).key 0, 2)] ++ tMem.regs }
def tRegion (rights : Nat) : MemRegion := ⟨2, true, 3, 2 ^ 32, 16, rights, [⟨2 ^ 32, 2 ^ 20, mkDga 0 0 (2 ^ 34), 0⟩]⟩
/-- Queue pair 3 in RTS expects PSN 7. -/
def tRts (rights : Nat) : State :=
  { tQp 3 3 with eth.regions := [(4, tRegion rights)], eth.qps := [(3, { (tQp 3 3).qpx 3 with expected := 7 })] }
def tWait (s : State) : State := { s with eth.qps := [(3, { s.qpx 3 with waiting := [(.atomic 5 0 0 0 0 0, false)] })] }
def tPolice (s : State) : State := { s with sws.shapers := [(shaperIndex (portEth 1) vcREQ, ⟨2, 100, 200, 10, 10, 5, 6, 0⟩)] }
def tPoliced (s : State) (qp n : Nat) : State := (s.policeAll (portEth (s.qpPort qp)) vcREQ (s.frameLens qp n)).2
def tEthReq (psn tries : Nat) (m : EthMsg) (o : XOwner) : EthReq := ⟨psn, m, 10 ^ 11, tries, o, 64⟩
def tOut (retry : Nat) (l : List EthReq) : State := tF F.ETH_QP_CFG_RETRY retry { tQp 3 3 with eth.qps := [(3, { (tQp 3 3).qpx 3 with outstanding := l })] } 3
def tSend (qp : Nat) (queue : Nat) (s : State) : State := tF F.ETH_QP_CFG_SEND_EN 1 (tF F.ETH_QP_CFG_SEND_QUEUE queue s qp) qp

def tSendQ (tail : Nat) : State :=
  let s : State := tQueue tRing .enabled tail (tSend 3 7 (tRts 7))
  s

def tFrameOn (prio : Nat) (b : Bool) : EthFrame := ⟨1, prio, 3, b, 100, 5, false, .cnp⟩
def tPaused : State := { tQp 3 3 with eth.pauseUntil := [(prioKey 1 3, 5 * 10 ^ 12)], eth.pausedSince := [(prioKey 1 3, 5 * 10 ^ 11)], eth.queue := [tFrameOn 3 true, tFrameOn 2 false] }

def tMr (va pages : Nat) (s : State) : State := tF F.ETH_MR_VA_VALUE va (tF F.ETH_MR_LEN_VALUE pages s)
def tXfer (len lva : Nat) (s : State) : State := tF F.ETH_XFER_LEN_VALUE len (tF F.ETH_XFER_LVA_VALUE lva (tF F.ETH_XFER_RVA_VALUE 0x1000 s))
def tSeatXfer : SeatXfer := ⟨true, 3, 3, 2 ^ 32, 2 * 65536 + 4, 1000000, mkDga 0 0 (2 ^ 34), 0, 2 ^ 32, 500, 0⟩
def tPtp (src good : Nat) : State :=
  { tF F.ETH_PTP_STATUS_SOURCE src (tF F.ETH_PTP_CFG_PORTS 2 (tF F.ETH_PTP_CFG_DOMAIN 4 tMem)) with eth.goodSyncs := good }

def tSent (due rerun : List Nat) (st : CoreState) : State :=
  { tF F.RAS_STEP_COUNT 1000 (tSeat.setCore 2 { blankCore 2 with state := st }) with ras.sentinelDue := due, ras.sentinelRerun := rerun }
def tRunsOn (st : CoreState) : State := tSeat.setCore 2 { blankCore 2 with state := st, vector := [⟨1, [1]⟩], launch := some 7 }
def tSuspect (c : Nat) : Suspect := ⟨c, 7, 0, false⟩
def tQuar (st : Nat) (l : List Suspect) : State :=
  { tF F.RAS_QUAR_STATE st (tF F.RAS_QUAR_CORE 3 (tSeat.setCore 3 { blankCore 3 with state := .idle })) with ras.suspects := l }
def tLog (tail head : Nat) : State :=
  { tF F.RAS_LOG_PTR_HEAD head (tF F.RAS_LOG_PTR_TAIL tail tSeat) with ras.log := (List.range (head - tail)).map (fun i => (tail + i, { unit := .qnc, status := .done })) }
def tForming (puf : Nat) (l : List SeatId) : State := { tF F.SEC_STATE_PUF puf tSeat with sec.forming := l }

def tResets (l : List ResetRun) : State := { tSeat with ras.running := l }

/-- Member 2 has failed and this one is its custodian; member 3 is a spare. -/
def tLost : State := tMember 2 .failed (tMember 3 .spare (tF F.JNL_CUSTODY_DEVICES 5 tDom))
def tAdm (st : Nat) (s : State) : State := tF F.RAS_ADMIT_STATUS_STATE st (tF F.RAS_ADMIT_STATUS_FAILED_DEV 2 (tF F.RAS_ADMIT_STATUS_SPARE_DEV 3 s))
def tLayouts (a b : Nat) : State := { tLost with dom.peers := [(2, ⟨[], 0, 0, a, 0, 0, 0, 0, false⟩), (3, ⟨[], 0, 0, b, 0, 0, 0, 0, false⟩)] }
def tRebind (d sp : Nat) : Packet :=
  { op := opWINDOW_WRITE, vc := vcMGMT, src := 1, dst := 0, size := 7, sectors := 1, addr := mkDga 0 3 0x180310, aux := 2 ^ 31,
    payload := zeros 22 ++ natLe 1 d ++ natLe 1 sp ++ zeros 40 }
def tOpen : State := { tLost with fab.reqs := [⟨{ op := opLOAD, src := 0, dst := 2, addr := mkDga 2 0 0 }, .none, 0, 10 ^ 12, 0, .direct⟩] }
def tImport (part kcv : Nat) (s : State) : State := { s with sec.importA := [(0, part), (1, kcv)] }
def tNoKeys : State := { tSeat with sil.comp.partitions := [(5, ⟨1, 1, 1⟩)] }

def tInit (phase mem : Nat) : State := { tF F.PWR_START_PHASE phase tSeat with pwr.memInit := mem }
def tRef (core : Nat) : State := { tF F.PWR_REFCLK_CORE_OK core (tF F.PWR_START_PHASE 2 tSeat) with pwr.refWait := true }

def tIsl (n st : Nat) : State := tF (F.PWR_ISLAND_STATE.at (n - 1)) st tSeat
def tWake : Wake := ⟨0, 5, 17, 0, 0, 227, false⟩

def tUnitOf (st u t : Nat) : State := { tF F.TST_UNIT_STATUS_STATE st (tF F.TST_UNIT_STATUS_UNIT u tDom) with tst.tests := t }

/-! ### Witnesses -/

theorem witness_stepTotal : ∃ s u : State, s.pending = [] ∧ u.quiet = true ∧ u.sws.entering = [] ∧ u.sws.voq = [] ∧ u.sws.stalls = [] :=
  ⟨State.reset, State.reset, by decide +kernel⟩

theorem witness_stepKeepsQueue : ∃ s t : State, s.queueWf = true ∧ step s = .next t :=
  ⟨(({ State.reset with pending := [.heartbeatTimer] }) : State), _, by decide +kernel, rfl⟩

theorem witness_deadDeviceIgnores : ∃ (c : Instr) (s : State) (n : _), s.live = false ∧ needsLife c = true ∧ s.islandOn 18 = false ∧
    s.islandOn 17 = false ∧ s.islandOn 19 = false ∧ s.islandOn 24 = false ∧ n < 16 ∧ s.islandOn (n + 1) = false :=
  ⟨(.heartbeatTimer : Instr), tF F.TST_PINS_RST_N 0 State.reset, 15, by decide +kernel⟩

theorem witness_registerWriteStores : ∃ (s : State) (ch : ChanId) (n : Nat) (e : ChanEntry) (off v : Nat) (env : WriteEnv) (r : RegDef),
    s.serves [] = true ∧ s.ctl.entryOf ch = some (n, e) ∧ off % 8 = 0 ∧ off < 0x1000000 ∧ v < 2 ^ 64 ∧ ¬(0x4000 ≤ off ∧ off < 0x6280) ∧ off ≠ 0x10 ∧
    regDefAt off = some r ∧ (commandAt off v env).isNone = true ∧ (∀ k, r.sem = some k → s.semHolder k = some e.seat) ∧
    (s.touch ch).writeFault e.seat (s.bankOf e.seat r.scope) off v = none :=
  ⟨tSeat, (.i3c : ChanId), 0, (⟨.i3c, .a⟩ : ChanEntry), 0x1A0200, 2 ^ 64 - 1, tEnv, R.SEC_KEY_SEL, by decide +kernel⟩

theorem witness_accessesRefused :
    (∃ (s : State) (ch : ChanId) (n : Nat) (e : ChanEntry) (off len : Nat) (bs : List Byte), s.serves [] = true ∧
    (off % 8 ≠ 0 ∨ bs.length % 8 ≠ 0 ∨ 0x1000000 ≤ off ∨ 0x1000000 < off + bs.length) ∧ s.ctl.entryOf ch = some (n, e) ∧
    (off % 8 ≠ 0 ∨ len % 8 ≠ 0 ∨ 0x1000000 ≤ off ∨ 0x1000000 < off + len)) ∧
    (∃ (s : State) (ch : ChanId) (off len : Nat) (bs : List Byte), s.serves [] = true ∧
    (off % 8 ≠ 0 ∨ bs.length % 8 ≠ 0 ∨ 0x1000000 ≤ off ∨ 0x1000000 < off + bs.length) ∧ s.ctl.entryOf ch = none ∧
    (off % 8 ≠ 0 ∨ len % 8 ≠ 0 ∨ 0x1000000 ≤ off ∨ 0x1000000 < off + len)) ∧
    (∃ (s : State) (ch : ChanId) (n k : Nat) (e : ChanEntry) (off v : Nat) (env : WriteEnv) (r : RegDef), s.serves [] = true ∧
    s.ctl.entryOf ch = some (n, e) ∧ off % 8 = 0 ∧ off < 0x1000000 ∧ v < 2 ^ 64 ∧ ¬(0x4000 ≤ off ∧ off < 0x6280) ∧ off ≠ 0x10 ∧
    regDefAt off = some r ∧ (commandAt off v env).isNone = true ∧ r.sem = some k ∧ s.semHolder k ≠ some e.seat) :=
  ⟨⟨tSeat, (.i3c : ChanId), 0, (⟨.i3c, .a⟩ : ChanEntry), 4, 8, zeros 8, by decide +kernel⟩,
   ⟨tSeat, tUnb, 8, 4, zeros 4, by decide +kernel⟩,
   ⟨tSeat, tB, 3, 3, (⟨tB, .b⟩ : ChanEntry), 0x1C0010, 700, tEnv, R.PWR_LIMIT, by decide +kernel⟩⟩

theorem witness_readClears : ∃ (s : State) (ch : ChanId) (n : Nat) (e : ChanEntry) (off : Nat) (r : RegDef), s.serves [] = true ∧
    s.ctl.entryOf ch = some (n, e) ∧ off % 8 = 0 ∧ off < 0x1000000 ∧ regDefAt off = some r :=
  ⟨tSeat, tB, 3, (⟨tB, .b⟩ : ChanEntry), 0x1C0010, R.PWR_LIMIT, by decide +kernel⟩

theorem witness_seatLife :
    (∃ (s : State) (ch : ChanId) (x : _), s.serves [] = true ∧ (s.seat x).state = .bound ∧ s.ctl.entryOf ch = none) ∧
    (∃ (s : State) (ch : ChanId) (n : Nat) (e : ChanEntry), s.serves [] = true ∧ s.ctl.entryOf ch = some (n, e)) :=
  ⟨⟨tSeat, tUnb, .a, by decide +kernel⟩,
   ⟨tSeat, (.i3c : ChanId), 0, (⟨.i3c, .a⟩ : ChanEntry), by decide +kernel⟩⟩

theorem witness_claims :
    (∃ (s : State) (ch : ChanId), s.serves [] = true ∧ s.ctl.entryOf ch ≠ none) ∧
    (∃ (s : State), s.serves [] = true ∧ s.fwVerified = false) ∧
    (∃ (s : State) (ch : ChanId) (k : Nat), s.serves [] = true ∧ s.fwVerified = true ∧ s.ctl.entryOf ch = none ∧
    s.ctl.bufs.find? (fun e => e.2.chan == ch) = none ∧ s.ctl.bufs.firstFree 4 = some k) ∧
    (∃ (s : State) (ch : ChanId) (k : Nat) (b : ClaimBuf), s.serves [] = true ∧ s.fwVerified = true ∧ s.ctl.entryOf ch = none ∧
    s.ctl.bufs.find? (fun e => e.2.chan == ch) = none ∧ s.ctl.bufs.firstFree 4 = none ∧ s.ctl.bufs.get? k = some b ∧ b.submitted = false) ∧
    (∃ (s : State) (ch : ChanId) (k : Nat) (b : ClaimBuf) (m : _) (x : _), s.serves [] = true ∧ s.fwVerified = true ∧ s.ctl.entryOf ch = none ∧
    s.ctl.bufs.find? (fun e => e.2.chan == ch) = some (k, b) ∧ s.ctl.bufs.get? k = some b ∧ b.submitted = true ∧
    s.ctl.entries.firstFree 16 = some m ∧ x = (if field b.bytes 0 1 = 1 then SeatId.b else SeatId.a)) :=
  ⟨⟨tSeat, (.i3c : ChanId), by decide +kernel⟩,
   ⟨tF F.SEC_STATE_FW 0 tSeat, by decide +kernel⟩,
   ⟨tSeat, tUnb, 0, by decide +kernel⟩,
   ⟨tBufs ((List.range 4).map (fun k => (k, tBuf .i3c false))), tUnb, 3, tBuf .i3c false, by decide +kernel⟩,
   ⟨tBufs [(0, tBuf tUnb true)], tUnb, 0, tBuf tUnb true, 1, .a, by decide +kernel⟩⟩

theorem witness_semaphores :
    (∃ (s : State) (ch : ChanId) (n k lease : Nat) (e : ChanEntry), lease = 0 ∧ s.serves [] = true ∧ k < 64 ∧ s.ctl.entryOf ch = some (n, e) ∧
    s.fld (F.CTL_SEM_OWNER.at k) ≠ 0) ∧
    (∃ (s : State) (ch : ChanId) (n k lease : Nat) (e : ChanEntry), s.serves [] = true ∧ s.ctl.entryOf ch = some (n, e) ∧ k < 64 ∧ 1 ≤ lease ∧
    lease ≤ 60000 ∧ s.semHolder k = some e.seat) ∧
    (∃ (s : State) (ch : ChanId) (n k lease : Nat) (e : ChanEntry), s.serves [] = true ∧ k < 64 ∧ s.ctl.entryOf ch = some (n, e) ∧ 60000 < lease) ∧
    (∃ (s : State) (ch : ChanId) (n k lease : Nat) (e : ChanEntry) (ch' : _) (lease' : _) (n' : _) (e' : ChanEntry), s.serves [] = true ∧
    s.ctl.entryOf ch = some (n, e) ∧ k < 64 ∧ 1 ≤ lease ∧ lease ≤ 60000 ∧ s.fld (F.CTL_SEM_OWNER.at k) = 0 ∧
    (s.semHolder k = some e.seat.other ∨ s.fld (F.CTL_SEM_OWNER.at k) = 0) ∧ s.ctl.entryOf ch' = some (n', e') ∧ e.seat = .a ∧ e'.seat = .b ∧
    1 ≤ lease' ∧ lease' ≤ 60000) ∧
    (∃ (s : State) (ch : ChanId) (n k lease : Nat) (e : ChanEntry), s.serves [] = true ∧ s.ctl.entryOf ch = some (n, e) ∧ k < 64 ∧ 1 ≤ lease ∧
    lease ≤ 60000 ∧ s.semHolder k = some e.seat.other) :=
  ⟨⟨tSeat, (.i3c : ChanId), 0, 0, 0, (⟨.i3c, .a⟩ : ChanEntry), rfl, by decide +kernel⟩,
   ⟨tSeat, (.i3c : ChanId), 0, 0, 1, (⟨.i3c, .a⟩ : ChanEntry), by decide +kernel⟩,
   ⟨tSeat, (.i3c : ChanId), 0, 0, 60001, (⟨.i3c, .a⟩ : ChanEntry), by decide +kernel⟩,
   ⟨tSeat, (.i3c : ChanId), 0, 63, 1, (⟨.i3c, .a⟩ : ChanEntry), tB, 60000, 3, (⟨tB, .b⟩ : ChanEntry), by decide +kernel⟩,
   ⟨tSeat, tB, 3, 7, 1, (⟨tB, .b⟩ : ChanEntry), by decide +kernel⟩⟩

theorem witness_sideband :
    (∃ (s : State), s.serves [] = true ∧ s.ctl.i3cAddr = none) ∧
    (∃ (s : State) (a : Nat) (bs : List Byte) (n : Nat) (e : ChanEntry), s.serves [] = true ∧ s.ctl.i3cAddr = some a ∧
    s.ctl.entryOf .i3c = some (n, e) ∧ ((field bs 0 1 ≠ 1 ∧
    field bs 0 1 ≠ 2) ∨ bs.length < 6 ∨ field bs 4 2 = 0 ∨ 4096 ≤ field bs 4 2 ∨ (field bs 0 1 = 2 ∧ bs.length < 6 + 8 * field bs 4 2))) ∧
    (∃ (s : State) (bs : _), s.serves [] = true ∧ s.ctl.i3cReply = some bs) ∧
    (∃ (s : State) (bs : List Byte) (a n : Nat) (e : ChanEntry), s.serves [] = true ∧ s.ctl.i3cAddr = some a ∧ s.ctl.entryOf .i3c = some (n, e) ∧
    field bs 0 1 = 1 ∧ 6 ≤ bs.length ∧ 1 ≤ field bs 4 2 ∧ field bs 4 2 < 4096) ∧
    (∃ (s : State) (bs : List Byte) (a n : Nat) (e : ChanEntry), s.serves [] = true ∧ s.ctl.i3cAddr = some a ∧ s.ctl.entryOf .i3c = some (n, e) ∧
    field bs 0 1 = 2 ∧ 1 ≤ field bs 4 2 ∧ field bs 4 2 < 4096 ∧ 6 + 8 * field bs 4 2 ≤ bs.length) :=
  ⟨⟨tAddr none, by decide +kernel⟩,
   ⟨tAddr (some 9), 9, tFrame 3 0 1 8, 0, (⟨.i3c, .a⟩ : ChanEntry), by decide +kernel⟩,
   ⟨tAddr (some 9), [1, 2], by decide +kernel⟩,
   ⟨tAddr (some 9), tFrame 1 0x1C0000 4095 0, 9, 0, (⟨.i3c, .a⟩ : ChanEntry), by decide +kernel⟩,
   ⟨tAddr (some 9), tFrame 2 0x1C0000 1 8, 9, 0, (⟨.i3c, .a⟩ : ChanEntry), by decide +kernel⟩⟩

theorem witness_channelsStayOk : ∃ (s t : State) (ch : ChanId), s.channelsOk ∧ exec (.channelClose ch) s = .next t :=
  ⟨tSeat, _, .i3c, by unfold State.channelsOk; decide +kernel, rfl⟩

theorem witness_memberLoss :
    (∃ (s : State) (p : Packet), s.serves [] = true ∧ p.op = opHEARTBEAT ∧ (s.isSelf p.src = true ∨ s.memberState p.src = .absent)) ∧
    (∃ (s : State) (p : Packet) (d : Nat), s.serves [] = true ∧ d < 64 ∧ p.op = opMEMBER_DECLARE ∧ p.aux % 64 = d ∧ s.isSelf d = true ∧
    s.dom.selfFailed = false ∧ s.memberState (s.partner d) = .active) ∧
    (∃ (s : State) (p : Packet) (d : Nat), s.serves [] = true ∧ d < 64 ∧ p.op = opMEMBER_DECLARE ∧ p.aux % 64 = d ∧ s.isSelf d = false ∧
    s.memberState d ≠ .active ∧ s.memberState (s.partner d) ≠ .active) ∧
    (∃ (s : State) (p : Packet) (d n wait : Nat) (h : Heard), s.serves [] = true ∧ p.op = opHEARTBEAT ∧ s.isSelf p.src = false ∧
    s.memberState p.src ≠ .absent ∧ d < 64 ∧ s.declarer d = some (n, wait) ∧ n = s.devnum ∧ s.isSelf d = false ∧ s.memberState d = .active ∧
    s.dom.selfFailed = false ∧ s.dom.heard.get? d = some h) :=
  ⟨⟨tDom, tBeat 0, by decide +kernel⟩,
   ⟨tDom, tDecl 0, 0, by decide +kernel⟩,
   ⟨tDom, tDecl 63, 63, by decide +kernel⟩,
   ⟨tHeard tDom, tBeat 1, 1, 0, 1000000, (⟨0, 0, true, 10 ^ 12 - 10⟩ : Heard), by decide +kernel⟩⟩

theorem witness_joining :
    (∃ (s : State) (d : Nat) (i : PeerInfo), s.serves [] = true ∧ d < 64 ∧ s.isSelf d = false ∧ s.memberState d = .joining ∧
    s.fld F.SIL_FULL_SERIAL_SERIAL ≠ 0 ∧ s.dom.identities.getD (s.fld (F.FAB_MEMBER_POSITION.at d)) [] ≠ i.identity) ∧
    (∃ (s : State) (d : Nat) (i : PeerInfo), s.serves [] = true ∧ d < 64 ∧ s.isSelf d = false ∧ s.memberState d = .joining ∧
    s.fld F.SIL_FULL_SERIAL_SERIAL ≠ 0 ∧ s.dom.identities.getD (s.fld (F.FAB_MEMBER_POSITION.at d)) [] = i.identity ∧
    s.fld F.TIER_P2_LAYOUT_P2_ENABLED = 0 ∧ s.ringAwaited = false ∧
    (i.serial ≠ s.fld F.SIL_FULL_SERIAL_SERIAL ∨ i.domainId ≠ s.fld F.SIL_DOMAIN_ID_DOMAIN_ID)) ∧
    (∃ (s : State) (d : Nat) (i : PeerInfo), s.serves [] = true ∧ d < 64 ∧ s.isSelf d = false ∧ s.memberState d = .joining ∧
    s.fld F.SIL_FULL_SERIAL_SERIAL ≠ 0 ∧ s.dom.identities.getD (s.fld (F.FAB_MEMBER_POSITION.at d)) [] = i.identity ∧
    s.fld F.TIER_P2_LAYOUT_P2_ENABLED = 0 ∧ s.ringAwaited = false ∧ i.serial = s.fld F.SIL_FULL_SERIAL_SERIAL ∧
    i.domainId = s.fld F.SIL_DOMAIN_ID_DOMAIN_ID ∧ s.portUp (s.pportTo d) = true ∧ i.windowsLost = false ∧ s.noMirror = false) ∧
    (∃ (s : State) (d : Nat) (i : PeerInfo) (es : List JEntry), s.serves [] = true ∧ d < 64 ∧ s.isSelf d = false ∧ s.memberState d = .joining ∧
    s.fld F.SIL_FULL_SERIAL_SERIAL ≠ 0 ∧ s.dom.identities.getD (s.fld (F.FAB_MEMBER_POSITION.at d)) [] = i.identity ∧
    s.fld F.TIER_P2_LAYOUT_P2_ENABLED = 0 ∧ s.ringAwaited = true ∧ s.sil.ringLost = true ∧ (es.map (fun e => e.jseq)).Nodup ∧
    s.memberState s.devnum = .active) ∧
    (∃ (s : State), s.serves [] = true ∧ s.fld F.SIL_FULL_SERIAL_SERIAL ≠ 0 ∧ s.sil.ringLost = false ∧ s.jnl.confirm = true) ∧
    (∃ (s : State) (tag : Nat) (p : Packet) (ch : ChanId) (off id issued sent copies : Nat) (path : Path), s.serves [] = true ∧
    (s.fab.reqs ++ s.fab.waiting).find? (fun r => r.pkt.tag == tag && (match r.waiter with | .window .. => true | _ => false)) = some ⟨p,
    .window ch off id, issued, sent, copies, path⟩) :=
  ⟨⟨tMember 2 .joining tDom, 2, tPeer 9 9, by decide +kernel⟩,
   ⟨({ tMember 2 .joining tDom with sil.ringLost := false } : State), 2, tPeer 3 8, by decide +kernel⟩,
   ⟨({ tMember 2 .joining tDom with sil.ringLost := false } : State), 2, tPeer 3 9, by decide +kernel⟩,
   ⟨({ tMember 2 .joining tDom with sil.ringLost := true } : State), 2, tPeer 3 9, ([] : List JEntry), by decide +kernel⟩,
   ⟨({ tDom with sil.ringLost := false, jnl.confirm := true } : State), by decide +kernel⟩,
   ⟨({ tDom with fab.reqs := [⟨tAsk, .window .i3c 0x100 3, 10 ^ 12, 10 ^ 12, 0, .direct⟩] } : State), 55, tAsk, ChanId.i3c, 0x100, 3, 10 ^ 12,
    10 ^ 12, 0, Path.direct, by decide +kernel⟩⟩

theorem witness_lanesAndTrust :
    (∃ (s : State) (port lane pos num : Nat), s.serves [23] = true ∧ port < 0x60 ∧ lane < s.portWidth port ∧ s.laneState port lane = .training ∧
    s.laneAllowed port lane = true ∧ isAport port = false ∧ (pos, num) ≠ s.farLane port lane ∧ s.portUp port = true ∧ (s.link port).keyed = 0 ∧
    s.serves [] = true ∧ s.fld F.TST_PINS_LSR_EN = 1 ∧ s.fld F.TST_PINS_LSR_EN ≠ 0) ∧
    (∃ (s : State) (port lane pos num : Nat), s.serves [23] = true ∧ port < 0x60 ∧ lane < s.portWidth port ∧ s.laneState port lane = .training ∧
    s.laneAllowed port lane = true ∧ (isAport port = true ∨ (pos, num) = s.farLane port lane) ∧ (isAport port = false ∧
    (pos, num) = s.farLane port lane ∨ isAport port = true ∧ s.fld F.FAB_PORT_STATUS_CLASS port ≠ 0)) ∧
    (∃ (s : State) (port lane : Nat), s.serves [23] = true ∧ port < 0x60 ∧ lane < s.portWidth port ∧ s.laneState port lane = .up ∧
    isAport port = true) ∧
    (∃ (s : State) (port lane : Nat), s.serves [23] = true ∧ port < 0x60 ∧ lane < s.portWidth port ∧ s.laneState port lane = .up ∧
    isAport port = false ∧ s.portUp port = true ∧ (s.link port).keyed ≠ 0 ∧ s.serves [] = true ∧ s.fld F.TST_PINS_LSR_EN = 0 ∧
    s.fld F.TST_PINS_LSR_EN ≠ 1 ∧ s.fld F.SIL_FULL_SERIAL_SERIAL ≠ 0) ∧
    (∃ (s : State), s.serves [] = true ∧ s.fld F.TST_PINS_LSR_EN ≠ 1 ∧ s.fld F.SIL_FULL_SERIAL_SERIAL = 0) :=
  ⟨⟨tLane 1 2 .training (tF F.TST_PINS_LSR_EN 1 (tF F.PWR_COMP_OPTICAL 0xFF tDom)), 1, 2, 2, 2, by decide +kernel⟩,
   ⟨tLane 0x43 1 .training (tF F.FAB_PORT_STATUS_WIDTH 4 (tF F.FAB_PORT_STATUS_CLASS 1 (tF F.TST_PINS_LSR_EN 1 (tF F.PWR_COMP_OPTICAL 0xFF tDom))
    0x43) 0x43), 0x43, 1, 0, 0, by decide +kernel⟩,
   ⟨tLane 0x43 1 .up (tF F.FAB_PORT_STATUS_WIDTH 4 (tF F.FAB_PORT_STATUS_CLASS 1 (tF F.TST_PINS_LSR_EN 1 (tF F.PWR_COMP_OPTICAL 0xFF tDom)) 0x43)
    0x43), 0x43, 1, by decide +kernel⟩,
   ⟨({ tDom with fab.links := [(1, { tDom.link 1 with keyed := 5 })] } : State), 1, 0, by decide +kernel⟩,
   ⟨tOn, by decide +kernel⟩⟩

theorem witness_imageCommands :
    (∃ (s : State) (ch : ChanId) (n : Nat) (x : SeatId) (word value : Nat), s.guardedBy ch n x 0 ∧ word < 4096 ∧ value < 2 ^ 64 ∧
    s.silState = .noImage) ∧
    (∃ (s : State) (ch : ChanId) (n : Nat) (x : SeatId) (word value : Nat), s.guardedBy ch n x 0 ∧ word < 4096 ∧ value < 2 ^ 64 ∧
    s.silState = .running) ∧
    (∃ (s : State) (ch : ChanId) (n : Nat) (x : SeatId) (word value : Nat), s.guardedBy ch n x 0 ∧ word < 4096 ∧ value < 2 ^ 64 ∧
    s.silState = .staging ∧ s.membersIn .admitting = []) ∧
    (∃ (s : State) (ch : ChanId) (n : Nat) (x : SeatId) (word : Nat), s.guardedBy ch n x 0 ∧ word < 4096 ∧ s.silState ≠ .noImage ∧
    s.silState ≠ .running ∧ s.silState ≠ .staging ∧ s.silState ≠ .draining ∧ s.serves [] = true ∧ s.silState = .checking ∧
    imgPartial s.stagedImage = false ∧ s.committerHolds = false) ∧
    (∃ (s : State) (ch : ChanId) (n : Nat) (x : SeatId) (word value : Nat), s.guardedBy ch n x 0 ∧ word < 4096 ∧ value < 2 ^ 64 ∧
    s.silState = .draining ∧ s.serves [] = true ∧ s.sil.lastChunk = none ∧ s.slicesDrained = true) ∧
    (∃ (s : State) (ch : ChanId) (n : Nat) (x : SeatId) (word : Nat), s.unguarded ch n x 0 ∧ word < 4096) ∧
    (∃ (s : State) (f : ImgFault), s.serves [] = true ∧ s.silState = .verifying ∧ formFault s.stagedImage s.sil.latched = some f ∧
    (f.reason = 0x01 ∨ s.kindFault s.stagedImage = none)) ∧
    (∃ (s : State), s.serves [] = true ∧ s.silState = .verifying ∧ formFault s.stagedImage s.sil.latched = none ∧ s.kindFault s.stagedImage = none) ∧
    (∃ (s : State), s.serves [] = true ∧ s.silState = .checking ∧ s.contentFault s.stagedImage = none ∧ imgPartial s.stagedImage = true) ∧
    (∃ (s : State) (f : ImgFault), s.serves [] = true ∧ s.silState = .checking ∧ s.contentFault s.stagedImage = some f) ∧
    (∃ (s : State), s.serves [] = true ∧ s.silState = .checking ∧ imgPartial s.stagedImage = false ∧ s.committerHolds = true) ∧
    (∃ (s : State), s.serves [] = true ∧ s.silState = .draining ∧ s.slicesDrained = false) :=
  ⟨⟨tSil .noImage tDom, (.i3c : ChanId), 0, (.a : SeatId), 4095, 2 ^ 64 - 1, guardedBy_of (by decide +kernel), by decide +kernel⟩,
   ⟨tSil .running tDom, (.i3c : ChanId), 0, (.a : SeatId), 4095, 2 ^ 64 - 1, guardedBy_of (by decide +kernel), by decide +kernel⟩,
   ⟨tSil .staging tDom, (.i3c : ChanId), 0, (.a : SeatId), 4095, 2 ^ 64 - 1, guardedBy_of (by decide +kernel), by decide +kernel⟩,
   ⟨tSil .checking tDom, (.i3c : ChanId), 0, (.a : SeatId), 4095, guardedBy_of (by decide +kernel), by decide +kernel⟩,
   ⟨tSil .draining tDom, (.i3c : ChanId), 0, (.a : SeatId), 4095, 2 ^ 64 - 1, guardedBy_of (by decide +kernel), by decide +kernel⟩,
   ⟨tSil .staging tDom, tB, 3, (.b : SeatId), 0, unguarded_of (by decide +kernel), by decide +kernel⟩,
   ⟨tSil .verifying tDom, (⟨.badDescriptor, 1, 0xFF, 0⟩ : ImgFault), by decide +kernel⟩,
   ⟨tSil .verifying (tPartial 1), by decide +kernel⟩,
   ⟨tSil .checking (tPartial 1), by decide +kernel⟩,
   ⟨tF F.SIL_DOMAIN_ID_DOMAIN_ID 78 (tSil .checking (tPartial 1)), (⟨.stateConflict, 0x21, 0xFF, 24⟩ : ImgFault), by decide +kernel⟩,
   ⟨({ tSil .checking (tPartial 0) with sil.committer := some .a } : State), by decide +kernel⟩,
   ⟨({ tSil .draining tDom with sil.affected := 1, works := [tBusy] } : State), by decide +kernel⟩⟩

theorem witness_intake :
    (∃ (s : State) (q word : Nat), s.serves [18, 20] = true ∧ word < 2 ^ 64 ∧ s.queueState q = .disabled) ∧
    (∃ (s : State) (q word : Nat), s.serves [18, 20] = true ∧ word < 2 ^ 64 ∧ s.queueState q = .enabled ∧ word < 2 ^ 32 ∧
    diff32 word (s.queueHead q) = 0 ∧ 2 ^ (s.queueK q + 1) < diff32 (s.queue q).cqTail word) ∧
    (∃ (s : State) (q word : Nat), s.serves [18, 20] = true ∧ word < 2 ^ 64 ∧ s.queueState q = .enabled ∧ word < 2 ^ 32 ∧
    1 ≤ diff32 word (s.queueHead q) ∧ diff32 word (s.queueHead q) ≤ 2 ^ s.queueK q) ∧
    (∃ (s : State) (q word : Nat), s.serves [18, 20] = true ∧ word < 2 ^ 64 ∧ s.queueState q = .enabled ∧ 2 ^ 32 ≤ word) ∧
    (∃ (s : State) (q word : Nat), s.serves [18, 20] = true ∧ word < 2 ^ 64 ∧ s.queueState q ≠ .disabled ∧ s.queueState q ≠ .enabled) ∧
    (∃ (s : State) (q : Nat), s.serves [20] = true ∧ s.queueState q = .enabled ∧ (s.queue q).fetching = true ∧ s.allFetched q = true) ∧
    (∃ (s : State) (q word : Nat) (a : _) (d : _), s.serves [18, 20] = true ∧ word < 2 ^ 64 ∧ s.queueState q = .enabled ∧ word < 2 ^ 32 ∧
    2 ^ s.queueK q < diff32 word (s.queueHead q) ∧ diff32 (s.queue q).cqTail word ≤ 2 ^ (s.queueK q + 1) ∧ s.serves [20] = true ∧
    (s.queue q).fetching = true ∧ s.allFetched q = false ∧ s.cqRoom q = true ∧
    a = dgaCell (s.queue q).ringDga + 64 * ((s.queue q).next % 2 ^ s.queueK q + 1) ∧ d = s.mem.readN (s.keyFor a) a 64 ∧ s.mem.poisoned a = false ∧
    commonFault d (s.queue q).next = none ∧ s.checkDesc (s.queueCtx q) d = none ∧ s.dom.selfFailed = false ∧
    s.checkHeld (s.queueCtx q) d State.checkDesc = false ∧ s.askFirst d = none ∧ s.acceptHeld = false) ∧
    (∃ (s : State) (q : Nat) (a : _) (d : _), s.serves [20] = true ∧ s.queueState q = .enabled ∧ (s.queue q).fetching = true ∧
    s.allFetched q = false ∧ s.cqRoom q = true ∧ a = dgaCell (s.queue q).ringDga + 64 * ((s.queue q).next % 2 ^ s.queueK q + 1) ∧
    d = s.mem.readN (s.keyFor a) a 64 ∧ s.mem.poisoned a = true) ∧
    (∃ (s : State) (q : Nat) (a : _) (d : _) (f : DescFault), s.serves [20] = true ∧ s.queueState q = .enabled ∧ (s.queue q).fetching = true ∧
    s.allFetched q = false ∧ s.cqRoom q = true ∧ a = dgaCell (s.queue q).ringDga + 64 * ((s.queue q).next % 2 ^ s.queueK q + 1) ∧
    d = s.mem.readN (s.keyFor a) a 64 ∧ s.mem.poisoned a = false ∧ commonFault d (s.queue q).next = some f ∧ f.status = .badDescriptor ∧
    s.fld F.WQ_Q_CFG_CQ_KIND q = 0) :=
  ⟨⟨tQueue tRing .disabled 5, 7, 5, by decide +kernel⟩,
   ⟨tQueue tRing .enabled 5, 7, 5, by decide +kernel⟩,
   ⟨tQueue tRing .enabled 5, 7, 6, by decide +kernel⟩,
   ⟨tQueue tRing .enabled 5, 7, 2 ^ 32, by decide +kernel⟩,
   ⟨tQueue tRing .error 5, 7, 5, by decide +kernel⟩,
   ⟨tSlot (tFillAt 1 5) 0 (tQueue { tRing with fetching := true, limit := 5 } .enabled 5), 7, by decide +kernel⟩,
   ⟨tSlot (tFillAt 1 5) 0 (tQueue { tRing with fetching := true, limit := 6 } .enabled 6), 7, 0, tSlotAt, tFillAt 1 5, by decide +kernel⟩,
   ⟨tSlot (tFillAt 1 5) 1 (tQueue { tRing with fetching := true, limit := 6 } .enabled 6), 7, tSlotAt, tFillAt 1 5, by decide +kernel⟩,
   ⟨tSlot (tFillAt 1 9) 0 (tQueue { tRing with fetching := true, limit := 6 } .enabled 6), 7, tSlotAt, tFillAt 1 9, (⟨.badDescriptor, 2,
    none⟩ : DescFault), by decide +kernel⟩⟩

theorem witness_journalMessages :
    (∃ (s : State) (p : Packet) (r : Request) (j : Nat), s.serves [20] = true ∧ s.requestOf p = some r ∧ r.waiter = .journal j ∧ p.status = 0 ∧
    s.noMirror = false) ∧
    (∃ (s : State) (p : Packet) (r : Request) (j : Nat), s.serves [20] = true ∧ s.requestOf p = some r ∧ r.waiter = .journal j ∧ p.status = 0 ∧
    s.noMirror = true) ∧
    (∃ (s : State) (p : Packet) (r : Request) (j : Nat), s.serves [20] = true ∧ s.requestOf p = some r ∧ r.waiter = .journal j ∧ p.status ≠ 0) ∧
    (∃ (s : State) (p : Packet), s.serves [20] = true ∧ p.op = opMIRROR ∧ p.aux % 2 = 1 ∧ s.dom.selfFailed = false ∧ JEntry.decode p.payload = none) ∧
    (∃ (s : State) (p : Packet) (e : _) (last : _), s.serves [20] = true ∧ p.op = opMIRROR ∧ p.aux % 2 = 1 ∧ s.dom.selfFailed = false ∧
    JEntry.decode p.payload = some e ∧ s.jnl.mirrorHeld = true ∧ s.jnl.mirrorOf = p.src ∧ s.jnl.mirror.getLast? = some last ∧ last.1 + 1 = e.jseq ∧
    s.jnl.mirror.length < ringEntries) ∧
    (∃ (s : State) (p : Packet), s.serves [20] = true ∧ p.op = opJOURNAL_CTRL ∧ s.dom.selfFailed = false ∧ p.aux % 256 = jcHANDOFF) ∧
    (∃ (s : State) (p : Packet), s.serves [20] = true ∧ p.op = opJOURNAL_CTRL ∧ s.dom.selfFailed = false ∧ p.aux % 256 = jcHOLD_QUERY) ∧
    (∃ (s : State) (p : Packet), s.serves [20] = true ∧ p.op = opJOURNAL_CTRL ∧ s.dom.selfFailed = false ∧ p.aux % 256 = jcTAKEN) ∧
    (∃ (s : State) (p : Packet), s.serves [20] = true ∧ p.op = opJOURNAL_CTRL ∧ s.dom.selfFailed = false ∧ p.aux % 256 = jcHELD) ∧
    (∃ (s : State) (p : Packet) (w : Work), s.serves [20] = true ∧ p.op = opJOURNAL_CTRL ∧ s.dom.selfFailed = false ∧ s.workOf p.addr = some w ∧
    p.aux % 256 = jcNOT_HELD ∧ w.holder = p.src ∧ p.src ≠ s.devnum ∧ (w.stage = .offered ∨ w.stage = .running)) ∧
    (∃ (s : State) (p : Packet) (w : Work), s.serves [20] = true ∧ p.op = opJOURNAL_CTRL ∧ s.dom.selfFailed = false ∧ s.workOf p.addr = some w ∧
    p.aux % 256 = jcNOT_HELD ∧ w.holder ≠ p.src) ∧
    (∃ (s : State) (p : Packet) (w : Work), s.serves [20] = true ∧ p.op = opJOURNAL_CTRL ∧ s.dom.selfFailed = false ∧ s.workOf p.addr = some w ∧
    p.aux % 256 = jcPHASE_DONE ∧ w.holder = p.src ∧ w.phase % 65536 = p.aux / 256 % 65536 ∧ p.aux < 2 ^ 24 ∧
    (w.stage = .offered ∨ w.stage = .running)) ∧
    (∃ (s : State) (p : Packet) (w : Work), s.serves [20] = true ∧ p.op = opJOURNAL_CTRL ∧ s.dom.selfFailed = false ∧ s.workOf p.addr = some w ∧
    p.aux % 256 = jcPHASE_DONE ∧ w.holder ≠ p.src) :=
  ⟨⟨({ tDom with fab.reqs := [tWaits] } : State), tAck 0, tWaits, 41, by decide +kernel⟩,
   ⟨({ tF F.JNL_STATE_NO_MIRROR 1 tDom with fab.reqs := [tWaits] } : State), tAck 0, tWaits, 41, by decide +kernel⟩,
   ⟨({ tDom with fab.reqs := [tWaits] } : State), tAck 0x41, tWaits, 41, by decide +kernel⟩,
   ⟨tDom, ({ op := opMIRROR, src := 1, aux := 1, payload := zeros 128 } : Packet), by decide +kernel⟩,
   ⟨({ tDom with jnl.mirrorHeld := true, jnl.mirrorOf := 1, jnl.mirror := [(8, tEntry 8)] } : State), tMirror 9, tEntry 9, ((8,
    tEntry 8) : Nat × JEntry), by decide +kernel⟩,
   ⟨({ tDom with works := [tWork .running 2] } : State), tJournal 2 jcHANDOFF 1, by decide +kernel⟩,
   ⟨({ tDom with works := [tWork .running 2] } : State), tJournal 2 jcHOLD_QUERY 1, by decide +kernel⟩,
   ⟨({ tDom with works := [tWork .running 2] } : State), tJournal 2 jcTAKEN 1, by decide +kernel⟩,
   ⟨({ tDom with works := [tWork .running 2] } : State), tJournal 2 jcHELD 1, by decide +kernel⟩,
   ⟨({ tDom with works := [tWork .running 2] } : State), tJournal 2 jcNOT_HELD 1, tWork .running 2, by decide +kernel⟩,
   ⟨({ tDom with works := [tWork .running 3] } : State), tJournal 2 jcNOT_HELD 1, tWork .running 3, by decide +kernel⟩,
   ⟨({ tDom with works := [tWork .running 2] } : State), tJournal 2 jcPHASE_DONE 1, tWork .running 2, by decide +kernel⟩,
   ⟨({ tDom with works := [tWork .running 3] } : State), tJournal 2 jcPHASE_DONE 1, tWork .running 3, by decide +kernel⟩⟩

theorem witness_queueCommands :
    (∃ (s : State) (ch : ChanId) (n q : Nat) (x : SeatId), s.commandedBy ch n x ∧ q = s.fld F.WQ_Q_SEL_QUEUE x.idx ∧ s.queueState q = .disabled ∧
    (s.enableQueueCheck q).isOk = true ∧ s.queueState q ≠ .error) ∧
    (∃ (s : State) (ch : ChanId) (n q : Nat) (x : SeatId), s.commandedBy ch n x ∧ q = s.fld F.WQ_Q_SEL_QUEUE x.idx ∧ s.queueState q ≠ .disabled ∧
    (s.queueState q = .enabled ∨ s.queueState q = .error) ∧ s.queueState q = .error ∧ (∀ e, s.sliceOfQueue q = some e → s.sliceClosed e.1 = false)) ∧
    (∃ (s : State) (ch : ChanId) (n q : Nat) (x : SeatId) (st : _), s.commandedBy ch n x ∧ s.enableQueueCheck q = .error st ∧
    q = s.fld F.WQ_Q_SEL_QUEUE x.idx ∧ s.queueState q = .disabled) ∧
    (∃ (s : State) (ch : ChanId) (n q : Nat) (x : SeatId) (e : _), s.commandedBy ch n x ∧ q = s.fld F.WQ_Q_SEL_QUEUE x.idx ∧
    s.queueState q = .error ∧ s.sliceOfQueue q = some e ∧ s.sliceClosed e.1 = true) :=
  ⟨⟨tQueue tRing .disabled 5, (.i3c : ChanId), 0, 7, (.a : SeatId), commandedBy_of (by decide +kernel), by decide +kernel⟩,
   ⟨tQueue tRing .error 5, (.i3c : ChanId), 0, 7, (.a : SeatId), commandedBy_of (by decide +kernel), by decide +kernel⟩,
   ⟨tF F.WQ_Q_RING_RING_VA (2 ^ 40) (tQueue tRing .disabled 5) 7, (.i3c : ChanId), 0, 7, (.a : SeatId), .noXlate, commandedBy_of (by decide +kernel),
    error_of (by decide +kernel), by decide +kernel⟩,
   ⟨({ tSil .draining (tQueue tRing .error 5) with sil.affected := 1 } : State), (.i3c : ChanId), 0, 7, (.a : SeatId), ((0, ⟨5, 0xFFFF, 0xFFFF,
    0xFFFFFFFF, 0xFFFFFF, 0, 16, 0, 64, 1, 1, 1⟩) : Nat × Slice), commandedBy_of (by decide +kernel), by decide +kernel⟩⟩

theorem witness_maps :
    (∃ (s : State) (ch : ChanId) (n : Nat) (x : SeatId) (e : Extent) (cls : _), s.commandedBy ch n x ∧
    s.ownerMapCheck e.partition (dgaCell e.dga) e.len e.cls e.alias_ = .ok cls ∧ e = s.stagedExtent x ∧ s.mapJob x = none ∧ s.mapFault x e = none ∧
    s.isSelf (dgaDev e.dga) = true ∧ 2 ^ s.fld F.XLT_CTX_CFG_LOG2_CAP e.ctx ≤ (s.extentsOf e.ctx).length) ∧
    (∃ (s : State) (ch : ChanId) (n : Nat) (x : SeatId) (e : Extent) (cls : _), s.commandedBy ch n x ∧
    s.ownerMapCheck e.partition (dgaCell e.dga) e.len e.cls e.alias_ = .ok cls ∧ e = s.stagedExtent x ∧ s.mapJob x = none ∧ s.mapFault x e = none ∧
    s.isSelf (dgaDev e.dga) = true ∧ (s.extentsOf e.ctx).length < 2 ^ s.fld F.XLT_CTX_CFG_LOG2_CAP e.ctx) ∧
    (∃ (s : State) (ch : ChanId) (n : Nat) (x : SeatId) (e : Extent) (st : _), s.commandedBy ch n x ∧ e = s.stagedExtent x ∧ s.mapJob x = none ∧
    s.mapFault x e = some st) ∧
    (∃ (s : State) (ch : ChanId) (n : Nat) (x : SeatId) (e : Extent), s.commandedBy ch n x ∧ e = s.stagedExtent x ∧ s.mapJob x = none ∧
    s.mapFault x e = none ∧ s.isSelf (dgaDev e.dga) = false) ∧
    (∃ (s : State) (p : Packet) (m : XltMsg) (st : _), s.fresh p ∧ s.ownerMapCheck m.partition m.cell m.bytes m.cls m.isAlias = .error st ∧
    s.serves [] = true ∧ p.op = opXLT_CTRL ∧ p.aux = xcMAP ∧ s.dom.selfFailed = false ∧ m = XltMsg.decode p.payload ∧
    s.fld F.TIER_REBUILD_STATUS_STATE ≠ 1) ∧
    (∃ (s : State) (p : Packet) (m : XltMsg) (cls : _), s.fresh p ∧ s.ownerMapCheck m.partition m.cell m.bytes m.cls m.isAlias = .ok cls ∧
    s.serves [] = true ∧ p.op = opXLT_CTRL ∧ p.aux = xcMAP ∧ s.dom.selfFailed = false ∧ m = XltMsg.decode p.payload ∧
    s.fld F.TIER_REBUILD_STATUS_STATE ≠ 1) ∧
    (∃ (s : State) (p : Packet) (m : XltMsg), s.fresh p ∧ s.serves [] = true ∧ p.op = opXLT_CTRL ∧ p.aux = xcMAP ∧ s.dom.selfFailed = false ∧
    m = XltMsg.decode p.payload ∧ s.fld F.TIER_REBUILD_STATUS_STATE = 1 ∧ s.xlt.claims = []) ∧
    (∃ (s : State) (p : Packet) (x : SeatId) (j : MapJob) (r : Request), s.serves [] = true ∧ s.requestOf p = some r ∧ r.waiter = .mapOwner x ∧
    s.mapJob x = some j ∧ j.tag = r.pkt.tag ∧ p.op = opXLT_CTRL + 0x80 ∧ Status.ofCode p.status = .done ∧
    (s.extentsOf j.ext.ctx).any (fun f => f.meets j.ext.va j.ext.len) = false ∧
    (s.extentsOf j.ext.ctx).length < 2 ^ s.fld F.XLT_CTX_CFG_LOG2_CAP j.ext.ctx) ∧
    (∃ (s : State) (p : Packet) (x : SeatId) (j : MapJob) (r : Request), s.serves [] = true ∧ s.requestOf p = some r ∧ r.waiter = .mapOwner x ∧
    s.mapJob x = some j ∧ j.tag = r.pkt.tag ∧ p.op = opXLT_CTRL + 0x80 ∧ Status.ofCode p.status ≠ .done) ∧
    (∃ (s : State) (ch : ChanId) (n : Nat) (x : SeatId) (e : Extent) (st : _), s.commandedBy ch n x ∧
    s.ownerMapCheck e.partition (dgaCell e.dga) e.len e.cls e.alias_ = .error st ∧ e = s.stagedExtent x ∧ s.mapJob x = none ∧ s.mapFault x e = none ∧
    s.isSelf (dgaDev e.dga) = true) :=
  ⟨⟨tCap 2 (tStage (0x1000000) (mkDga 0 0 (2 ^ 35)) 1 0 tOwn), (.i3c : ChanId), 0, (.a : SeatId),
    (tCap 2 (tStage (0x1000000) (mkDga 0 0 (2 ^ 35)) 1 0 tOwn)).stagedExtent .a, 1, commandedBy_of (by decide +kernel), ok_of (by decide +kernel),
    by decide +kernel⟩,
   ⟨tCap 8 (tStage (0x1000000) (mkDga 0 0 (2 ^ 35)) 1 0 tOwn), (.i3c : ChanId), 0, (.a : SeatId),
    (tCap 8 (tStage (0x1000000) (mkDga 0 0 (2 ^ 35)) 1 0 tOwn)).stagedExtent .a, 1, commandedBy_of (by decide +kernel), ok_of (by decide +kernel),
    by decide +kernel⟩,
   ⟨tCap 2 (tStage (0x100000) (mkDga 0 0 (2 ^ 35)) 1 0 tOwn), (.i3c : ChanId), 0, (.a : SeatId),
    (tCap 2 (tStage (0x100000) (mkDga 0 0 (2 ^ 35)) 1 0 tOwn)).stagedExtent .a, .stateConflict, commandedBy_of (by decide +kernel),
    by decide +kernel⟩,
   ⟨tCap 2 (tStage (0x1000000) (mkDga 1 0 (2 ^ 35)) 1 0 tOwn), (.i3c : ChanId), 0, (.a : SeatId),
    (tCap 2 (tStage (0x1000000) (mkDga 1 0 (2 ^ 35)) 1 0 tOwn)).stagedExtent .a, commandedBy_of (by decide +kernel), by decide +kernel⟩,
   ⟨tOwn, tXlt xcMAP (tMapMsg (2 ^ 34)), tMapMsg (2 ^ 34), .stateConflict, fresh_of (by decide +kernel), error_of (by decide +kernel),
    by decide +kernel⟩,
   ⟨tOwn, tXlt xcMAP (tMapMsg (2 ^ 35)), tMapMsg (2 ^ 35), 1, fresh_of (by decide +kernel), ok_of (by decide +kernel), by decide +kernel⟩,
   ⟨tF F.TIER_REBUILD_STATUS_STATE 1 { tOwn with xlt.claims := [] }, tXlt xcMAP (tMapMsg (2 ^ 34)), tMapMsg (2 ^ 34), fresh_of (by decide +kernel),
    by decide +kernel⟩,
   ⟨tMapping, tMapAns 0, (.a : SeatId), tMapJob, tMapReq, by decide +kernel⟩,
   ⟨tMapping, tMapAns 5, (.a : SeatId), tMapJob, tMapReq, by decide +kernel⟩,
   ⟨tCap 8 (tStage 0x1000000 (mkDga 0 0 (2 ^ 34)) 1 0 tOwn), (.i3c : ChanId), 0, (.a : SeatId),
    (tCap 8 (tStage 0x1000000 (mkDga 0 0 (2 ^ 34)) 1 0 tOwn)).stagedExtent .a, .stateConflict, commandedBy_of (by decide +kernel),
    error_of (by decide +kernel), by decide +kernel⟩⟩

theorem witness_contexts :
    (∃ (s : State) (ch : ChanId) (n c : Nat) (x : SeatId) (p : Packet), s.commandedBy ch n x ∧ c = s.fld F.XLT_CTX_SEL_CTX x.idx ∧
    s.fld F.XLT_CTX_CFG_MODE c < 2 ∧ s.fld F.XLT_CTX_CFG_LOG2_CAP c < 32 ∧ s.contextChanging c = false ∧ s.ctxEnabled c = false ∧
    s.enableFault c = none ∧ s.serves [] = true ∧ p.op = opXLT_CTRL ∧ p.aux = xcQUERY ∧ s.dom.selfFailed = false) ∧
    (∃ (s : State) (ch : ChanId) (n c : Nat) (x : SeatId) (st : _), s.commandedBy ch n x ∧ c = s.fld F.XLT_CTX_SEL_CTX x.idx ∧
    s.fld F.XLT_CTX_CFG_MODE c < 2 ∧ s.fld F.XLT_CTX_CFG_LOG2_CAP c < 32 ∧ s.contextChanging c = false ∧ s.ctxEnabled c = false ∧
    s.enableFault c = some st) ∧
    (∃ (s : State) (ch : ChanId) (n c : Nat) (x : SeatId), s.commandedBy ch n x ∧ c = s.fld F.XLT_CTX_SEL_CTX x.idx ∧
    s.fld F.XLT_CTX_CFG_MODE c < 2 ∧ s.fld F.XLT_CTX_CFG_LOG2_CAP c < 32 ∧ s.contextChanging c = false ∧ s.ctxEnabled c = true ∧
    (s.extentsOf c ≠ [] ∨ s.mapOutstanding c = true)) ∧
    (∃ (s : State) (ch : ChanId) (n c : Nat) (x : SeatId), s.commandedBy ch n x ∧ c = s.fld F.XLT_CTX_SEL_CTX x.idx ∧
    s.fld F.XLT_CTX_CFG_MODE c < 2 ∧ s.fld F.XLT_CTX_CFG_LOG2_CAP c < 32 ∧ s.contextChanging c = false ∧ s.ctxEnabled c = true ∧ s.extentsOf c = [] ∧
    s.mapOutstanding c = false) :=
  ⟨⟨tCtx 0 0 8 tOwn, (.i3c : ChanId), 0, 3, (.a : SeatId), tXlt xcQUERY { member := 0 }, commandedBy_of (by decide +kernel), by decide +kernel⟩,
   ⟨tCtx 0 0 2 tOwn, (.i3c : ChanId), 0, 3, (.a : SeatId), .badDescriptor, commandedBy_of (by decide +kernel), by decide +kernel⟩,
   ⟨tCtx 1 0 8 tOwn, (.i3c : ChanId), 0, 3, (.a : SeatId), commandedBy_of (by decide +kernel), by decide +kernel⟩,
   ⟨tNone (tCtx 1 0 8 tOwn), (.i3c : ChanId), 0, 3, (.a : SeatId), commandedBy_of (by decide +kernel), by decide +kernel⟩⟩

theorem witness_shootdowns :
    (∃ (s : State) (ch : ChanId) (n c d : Nat) (x : SeatId) (es : List Extent), s.commandedBy ch n x ∧ c = s.fld F.XLT_CTX_SEL_CTX x.idx ∧ d < 64 ∧
    s.shootJob x = none ∧
    es = (s.extentsOf c).filter (fun e => e.meets (s.fld F.XLT_SHOOT_VA_VA x.idx * 4096) (s.fld F.XLT_SHOOT_LEN_PAGES x.idx * 4096)) ∧
    s.fld F.XLT_SHOOT_LEN_PAGES x.idx ≠ 0 ∧
    (es.any (fun e => decide (e.va < s.fld F.XLT_SHOOT_VA_VA x.idx * 4096 ∨ s.fld F.XLT_SHOOT_VA_VA x.idx * 4096 + s.fld F.XLT_SHOOT_LEN_PAGES x.idx
    * 4096 < e.va + e.len)) = true)) ∧
    (∃ (s : State) (ch : ChanId) (n c d : Nat) (x : SeatId) (es : List Extent), s.commandedBy ch n x ∧ c = s.fld F.XLT_CTX_SEL_CTX x.idx ∧ d < 64 ∧
    s.shootJob x = none ∧
    es = (s.extentsOf c).filter (fun e => e.meets (s.fld F.XLT_SHOOT_VA_VA x.idx * 4096) (s.fld F.XLT_SHOOT_LEN_PAGES x.idx * 4096)) ∧
    s.fld F.XLT_SHOOT_LEN_PAGES x.idx ≠ 0 ∧ es = []) ∧
    (∃ (s : State) (ch : ChanId) (n c d : Nat) (x : SeatId) (j : _), s.commandedBy ch n x ∧ c = s.fld F.XLT_CTX_SEL_CTX x.idx ∧ d < 64 ∧
    s.shootJob x ≠ none ∧ s.shootJob x = some j ∧ j.timedOut = false) ∧
    (∃ (s : State) (ch : ChanId) (n c d : Nat) (x : SeatId), s.commandedBy ch n x ∧ c = s.fld F.XLT_CTX_SEL_CTX x.idx ∧ d < 64 ∧
    s.shootJob x = none ∧ (s.memberState d = .failed ∨ s.memberState d = .retired)) ∧
    (∃ (s : State) (ch : ChanId) (n c d : Nat) (x : SeatId) (es : List Extent), s.commandedBy ch n x ∧ c = s.fld F.XLT_CTX_SEL_CTX x.idx ∧ d < 64 ∧
    s.shootJob x = none ∧
    es = (s.extentsOf c).filter (fun e => e.meets (s.fld F.XLT_SHOOT_VA_VA x.idx * 4096) (s.fld F.XLT_SHOOT_LEN_PAGES x.idx * 4096)) ∧
    s.fld F.XLT_SHOOT_LEN_PAGES x.idx ≠ 0 ∧
    (es.any (fun e => decide (e.va < s.fld F.XLT_SHOOT_VA_VA x.idx * 4096 ∨ s.fld F.XLT_SHOOT_VA_VA x.idx * 4096 + s.fld F.XLT_SHOOT_LEN_PAGES x.idx
    * 4096 < e.va + e.len)) = false) ∧ es ≠ [] ∧ s.shootFault es = none ∧ es.all (fun e => (s.aliasesKnown e).isSome) = true ∧ s.extentsOf c ≠ [] ∧
    s.shootFault (s.extentsOf c) = none ∧ (s.extentsOf c).all (fun e => (s.aliasesKnown e).isSome) = true ∧ s.memberState d ≠ .failed ∧
    s.memberState d ≠ .retired) ∧
    (∃ (s : State) (ch : ChanId) (n c d : Nat) (x : SeatId) (es : List Extent) (st : _), s.commandedBy ch n x ∧ c = s.fld F.XLT_CTX_SEL_CTX x.idx ∧
    d < 64 ∧ s.shootJob x = none ∧
    es = (s.extentsOf c).filter (fun e => e.meets (s.fld F.XLT_SHOOT_VA_VA x.idx * 4096) (s.fld F.XLT_SHOOT_LEN_PAGES x.idx * 4096)) ∧
    s.fld F.XLT_SHOOT_LEN_PAGES x.idx ≠ 0 ∧
    (es.any (fun e => decide (e.va < s.fld F.XLT_SHOOT_VA_VA x.idx * 4096 ∨ s.fld F.XLT_SHOOT_VA_VA x.idx * 4096 + s.fld F.XLT_SHOOT_LEN_PAGES x.idx
    * 4096 < e.va + e.len)) = false) ∧ es ≠ [] ∧ s.shootFault es = some st) ∧
    (∃ (s : State) (ch : ChanId) (n c d : Nat) (x : SeatId) (es : List Extent), s.commandedBy ch n x ∧ c = s.fld F.XLT_CTX_SEL_CTX x.idx ∧ d < 64 ∧
    s.shootJob x = none ∧
    es = (s.extentsOf c).filter (fun e => e.meets (s.fld F.XLT_SHOOT_VA_VA x.idx * 4096) (s.fld F.XLT_SHOOT_LEN_PAGES x.idx * 4096)) ∧
    s.fld F.XLT_SHOOT_LEN_PAGES x.idx ≠ 0 ∧
    (es.any (fun e => decide (e.va < s.fld F.XLT_SHOOT_VA_VA x.idx * 4096 ∨ s.fld F.XLT_SHOOT_VA_VA x.idx * 4096 + s.fld F.XLT_SHOOT_LEN_PAGES x.idx
    * 4096 < e.va + e.len)) = false) ∧ es ≠ [] ∧ s.shootFault es = none ∧ es.all (fun e => (s.aliasesKnown e).isSome) = false) :=
  ⟨⟨tShoot (2 ^ 32) 16 (tOwn), (.i3c : ChanId), 0, 3, 2, (.a : SeatId),
    (tShoot (2 ^ 32) 16 (tOwn)).extentsOf 3 |>.filter (fun e => e.meets ((2 ^ 32) / 4096 * 4096) (16 * 4096)), commandedBy_of (by decide +kernel),
    by decide +kernel⟩,
   ⟨tShoot (2 ^ 36) 16 (tOwn), (.i3c : ChanId), 0, 3, 2, (.a : SeatId),
    (tShoot (2 ^ 36) 16 (tOwn)).extentsOf 3 |>.filter (fun e => e.meets ((2 ^ 36) / 4096 * 4096) (16 * 4096)), commandedBy_of (by decide +kernel),
    by decide +kernel⟩,
   ⟨tShoot (2 ^ 32) 256 { tOwn with xlt.shootA := some tShootJob }, (.i3c : ChanId), 0, 3, 2, (.a : SeatId), tShootJob,
    commandedBy_of (by decide +kernel), by decide +kernel⟩,
   ⟨tShoot (2 ^ 32) 256 (tF (F.FAB_MEMBER_STATE.at 2) MemberState.failed.code tOwn), (.i3c : ChanId), 0, 3, 2, (.a : SeatId),
    commandedBy_of (by decide +kernel), by decide +kernel⟩,
   ⟨tShoot (2 ^ 32) 256 { tOwn with xlt.extents := [tExt 0 (2 ^ 32) 0 (2 ^ 34) 256 1] }, (.i3c : ChanId), 0, 3, 2, (.a : SeatId),
    (tShoot (2 ^ 32) 256 { tOwn with xlt.extents := [tExt 0 (2 ^ 32) 0 (2 ^ 34) 256 1] }).extentsOf 3 |>.filter (fun e => e.meets ((2 ^ 32) / 4096 *
    4096) (256 * 4096)), commandedBy_of (by decide +kernel), by decide +kernel⟩,
   ⟨tShoot (2 ^ 32) 256 { tOwn with xlt.extents := [{ tExt 0 (2 ^ 32) 0 (2 ^ 34) 256 1 with pins := 1 }] }, (.i3c : ChanId), 0, 3, 2, (.a : SeatId),
    (tShoot (2 ^ 32) 256 { tOwn with xlt.extents := [{ tExt 0 (2 ^ 32) 0 (2 ^ 34) 256 1 with pins := 1 }] }).extentsOf 3 |>.filter (fun e => e.meets
    ((2 ^ 32) / 4096 * 4096) (256 * 4096)), .busy, commandedBy_of (by decide +kernel), by decide +kernel⟩,
   ⟨tShoot (2 ^ 35) 256 (tOwn), (.i3c : ChanId), 0, 3, 2, (.a : SeatId),
    (tShoot (2 ^ 35) 256 (tOwn)).extentsOf 3 |>.filter (fun e => e.meets ((2 ^ 35) / 4096 * 4096) (256 * 4096)), commandedBy_of (by decide +kernel),
    by decide +kernel⟩⟩

theorem witness_extentsChange :
    (∃ (s : State) (c va : Nat) (t : Nat × Nat × ExtState) (e : Extent), s.serves [] = true ∧
    s.xlt.invalidating.find? (fun t => t.1 == c && t.2.1 == va) = some t ∧ s.xlt.extents.find? (fun e => e.ctx == c && e.va == va) = some e ∧
    e.rights < 8) ∧
    (∃ (s : State) (c va : Nat) (t : Nat × Nat × ExtState) (e : Extent), s.serves [] = true ∧
    s.xlt.invalidating.find? (fun t => t.1 == c && t.2.1 == va) = some t ∧ s.xlt.extents.find? (fun e => e.ctx == c && e.va == va) = some e ∧
    8 ≤ e.rights ∧ s.xlt.recalls.contains (c, va) = false) ∧
    (∃ (s : State) (p : Packet) (m : XltMsg), s.fresh p ∧ s.serves [] = true ∧ p.op = opXLT_CTRL ∧ s.dom.selfFailed = false ∧
    m = XltMsg.decode p.payload ∧ p.aux = xcREVOKE ∧ s.xlt.revs.find? (fun r => r.member == m.member && r.tag == m.tag) = none ∧ m.role = 0 ∧
    s.xlt.claims.find? (fun k => !k.alias_ && k.covers m.cell m.bytes) = none) ∧
    (∃ (s : State) (p : Packet) (m : XltMsg), s.fresh p ∧ s.serves [] = true ∧ p.op = opXLT_CTRL ∧ s.dom.selfFailed = false ∧
    m = XltMsg.decode p.payload ∧ p.aux = xcREVOKE ∧ s.xlt.revs.find? (fun r => r.member == m.member && r.tag == m.tag) = none ∧ m.role = 1) ∧
    (∃ (s : State) (p : Packet) (m : XltMsg), s.fresh p ∧ s.serves [] = true ∧ p.op = opXLT_CTRL ∧ s.dom.selfFailed = false ∧
    m = XltMsg.decode p.payload ∧ p.aux = xcDRAINED ∧
    s.xlt.revs.find? (fun r => r.member == m.member && r.tag == m.tag && r.awaiting.contains p.src) = none) ∧
    (∃ (s : State) (p : Packet) (m : XltMsg) (r : _), s.fresh p ∧ s.serves [] = true ∧ p.op = opXLT_CTRL ∧ s.dom.selfFailed = false ∧
    m = XltMsg.decode p.payload ∧ p.aux = xcDRAINED ∧
    s.xlt.revs.find? (fun r => r.member == m.member && r.tag == m.tag && r.awaiting.contains p.src) = some r) :=
  ⟨⟨tInv .withdrawing { tOwn with xlt.extents := [{ tExt 0 (2 ^ 32) 0 (2 ^ 34) 256 1 with rights := 7 }] }, 3, 2 ^ 32, (3, 2 ^ 32, .withdrawing),
    ({ tExt 0 (2 ^ 32) 0 (2 ^ 34) 256 1 with rights := 7 } : Extent), by decide +kernel⟩,
   ⟨tInv .withdrawing { tOwn with xlt.extents := [{ tExt 0 (2 ^ 32) 0 (2 ^ 34) 256 1 with rights := 8 }] }, 3, 2 ^ 32, (3, 2 ^ 32, .withdrawing),
    ({ tExt 0 (2 ^ 32) 0 (2 ^ 34) 256 1 with rights := 8 } : Extent), by decide +kernel⟩,
   ⟨tOwn, tXlt xcREVOKE (tRevMsg 0), tRevMsg 0, fresh_of (by decide +kernel), by decide +kernel⟩,
   ⟨tOwn, tXlt xcREVOKE (tRevMsg 1), tRevMsg 1, fresh_of (by decide +kernel), by decide +kernel⟩,
   ⟨tOwn, tXlt xcDRAINED (tRevMsg 0), tRevMsg 0, fresh_of (by decide +kernel), by decide +kernel⟩,
   ⟨({ tOwn with xlt.revs := [tRev] } : State), tXlt xcDRAINED (tRevMsg 0), tRevMsg 0, tRev, fresh_of (by decide +kernel), by decide +kernel⟩⟩

theorem witness_redundancy :
    (∃ (s : State) (tier part : Nat) (f : _) (w : _), s.serves [] = true ∧ ((tier = 1 ∧ f = F.TIER_T1_CFG_STACK_FAILED ∧ w = 8) ∨ (tier = 2 ∧
    f = F.TIER_T2_CFG_CH_FAILED ∧ w = 16)) ∧ (s.fldBit f part = true ∨ w ≤ part)) ∧
    (∃ (s : State) (part : Nat), s.serves [] = true ∧
    (s.tier.dies.contains (part / 64, part % 64) = true ∨ s.fld F.TIER_T3_CFG_DIES ≤ part % 64 ∨ 24 ≤ part / 64)) ∧
    (∃ (s : State) (p : Packet), s.serves [] = true ∧ s.tier.staged.length < 32 ∧ s.tier.heldRequests.find? isStaging = some p) ∧
    (∃ (s : State), s.serves [] = true ∧ 32 ≤ s.tier.staged.length) ∧
    (∃ (s : State) (cell : Nat) (k : Claim), s.serves [] = true ∧ s.claimAt cell = some k ∧ k.cls = 2 ∧ k.nextUnit.2 ≠ 0 ∧
    s.unitFree k.nextUnit.1 k.nextUnit.2 = true ∧ k.scrubbing = false) ∧
    (∃ (s : State) (cell : Nat) (k : Claim), s.serves [] = true ∧ s.claimAt cell = some k ∧ k.cls = 2 ∧ k.nextUnit.2 ≠ 0 ∧
    s.unitFree k.nextUnit.1 k.nextUnit.2 = true ∧ k.scrubbing = true) ∧
    (∃ (s : State) (tier g : Nat), s.serves [] = true ∧ 1 ≤ tier ∧ tier ≤ 3 ∧ s.fld F.TIER_P2_LAYOUT_P2_ENABLED = 0 ∧
    s.tier.degraded.contains (tier, g) = true ∧ s.granuleClass tier g ≠ 2 ∧ s.memberState (s.partner s.devnum) = .active ∧
    (∀ r ∈ s.tier.runs, r.kind ≠ runMIRROR) ∧ s.unitFree (cellAt tier g 0) 65536 = true) ∧
    (∃ (s : State) (tier g : Nat), s.serves [] = true ∧ 1 ≤ tier ∧ tier ≤ 3 ∧ s.fld F.TIER_P2_LAYOUT_P2_ENABLED = 0 ∧
    s.tier.degraded.contains (tier, g) = false) ∧
    (∃ (s : State) (stage : Nat), s.serves [] = true ∧ stage < 4 ∧ s.fld F.TIER_REBUILD_STATUS_STATE ≠ rbLOADING) ∧
    (∃ (s : State) (stage d tier : Nat) (es : List JEntry) (r : UnitRun), s.serves [] = true ∧ s.fld F.TIER_REBUILD_STATUS_STATE = rbLOADING ∧
    s.fld F.TIER_REBUILD_STATUS_FOR_DEV = d ∧ s.tier.loaded = 0 ∧ (es.map (fun e => e.jseq)).Nodup ∧ stage < 4 ∧ stage ≠ s.tier.loaded + 1 ∧
    s.tier.runs.find? (fun r => r.kind == runREBUILD && cellTier r.cell == tier) = some r ∧ r.busy = false ∧ r.cell + 65536 < r.stop ∧
    s.unitFree r.cell 65536 = true ∧ s.fld F.TIER_P2_LAYOUT_P2_ENABLED = 0 ∧ s.unitSources r.cell 65536 = []) ∧
    (∃ (s : State) (d cell : Nat) (bs : List Byte), s.serves [] = true ∧ s.fld F.TIER_REBUILD_STATUS_STATE = rbLOADING ∧
    s.fld F.TIER_REBUILD_STATUS_FOR_DEV = d ∧ s.tier.loaded = 1 ∧ s.stageTakes 2 d cell bs.length = true) ∧
    (∃ (s : State) (d : Nat), s.serves [] = true ∧ s.fld F.TIER_REBUILD_STATUS_STATE ≠ rbLOADING ∧ s.admitting = adREBUILDING ∧ s.admitFor = d) ∧
    (∃ (s : State) (tier part : Nat) (f : _) (w : _), s.serves [] = true ∧ ((tier = 1 ∧ f = F.TIER_T1_CFG_STACK_FAILED ∧ w = 8) ∨ (tier = 2 ∧
    f = F.TIER_T2_CFG_CH_FAILED ∧ w = 16)) ∧ s.fldBit f part = false ∧ part < w ∧ s.guardedRanges = [] ∧
    s.tier.dies.contains (part / 64, part % 64) = false ∧ part % 64 < s.fld F.TIER_T3_CFG_DIES ∧ part / 64 < 24 ∧
    s.tier.runs.find? (fun r => r.kind == runREBUILD && cellTier r.cell == tier) = none) ∧
    (∃ (s : State) (cell : Nat) (k : Claim), s.serves [] = true ∧ s.claimAt cell = some k ∧ k.cls = 2 ∧ k.nextUnit.2 ≠ 0 ∧
    s.unitFree k.nextUnit.1 k.nextUnit.2 = false) ∧
    (∃ (s : State) (tier : Nat) (r : UnitRun), s.serves [] = true ∧
    s.tier.runs.find? (fun r => r.kind == runREBUILD && cellTier r.cell == tier) = some r ∧ r.busy = false ∧ r.cell + 65536 < r.stop ∧
    s.unitFree r.cell 65536 = true ∧ s.fld F.TIER_P2_LAYOUT_P2_ENABLED = 0 ∧ s.unitSources r.cell 65536 ≠ []) :=
  ⟨⟨tF F.TIER_T1_CFG_STACK_FAILED 8 tOwn, 1, 3, F.TIER_T1_CFG_STACK_FAILED, 8, by decide +kernel⟩,
   ⟨({ tOwn with xlt.claims := [], xlt.extents := [] } : State), 8, by decide +kernel⟩,
   ⟨({ tOwn with tier.heldRequests := [tPub] } : State), tPub, by decide +kernel⟩,
   ⟨({ tOwn with tier.staged := (List.range 32).map (fun k => (⟨k, 0, 0, []⟩ : StagedTile)) } : State), by decide +kernel⟩,
   ⟨tArm (tP2 0 65536), 2 ^ 34 + 5, tP2 0 65536, by decide +kernel⟩,
   ⟨tArm { tP2 0 1048576 with scrubbing := true, disarmed := 3 }, 2 ^ 34 + 5, ({ tP2 0 1048576 with scrubbing := true, disarmed := 3 } : Claim),
    by decide +kernel⟩,
   ⟨({ tOwn with tier.degraded := [(1, 2 ^ 34 / granuleBytes 1)] } : State), 1, 2 ^ 34 / granuleBytes 1, by decide +kernel⟩,
   ⟨tOwn, 1, 0, by decide +kernel⟩,
   ⟨tReb 0 { tOwn with xlt.extents := [], tier.loaded := 0, tier.runs := [tRunAt (2 ^ 56 + 2 ^ 20)] }, 1, by decide +kernel⟩,
   ⟨tReb rbLOADING { tOwn with xlt.extents := [], tier.loaded := 0, tier.runs := [tRunAt (2 ^ 56 + 2 ^ 20)] }, 2, 2, 2, ([] : List JEntry),
    tRunAt (2 ^ 56 + 2 ^ 20), by decide +kernel⟩,
   ⟨tReb rbLOADING
    { tOwn with xlt.extents := [], tier.loaded := 1, sil.allRuns := [(2, ⟨0, 1, true, 0, 1536⟩)], tier.runs := [tRunAt (2 ^ 56 + 2 ^ 20)] }, 2,
    2 ^ 34, zeros 64, by decide +kernel⟩,
   ⟨tF F.RAS_ADMIT_STATUS_STATE adREBUILDING (tF F.RAS_ADMIT_STATUS_FAILED_DEV 2 (tReb 0 tOwn)), 2, by decide +kernel⟩,
   ⟨tF F.XLT_CTX_CFG_ENABLE 0 { tOwn with xlt.claims := [], xlt.extents := [] } 3, 1, 3, F.TIER_T1_CFG_STACK_FAILED, 8, by decide +kernel⟩,
   ⟨({ tArm (tP2 0 (2 ^ 20)) with fab.reqs := [⟨{ op := 1 }, .resync (2 ^ 34) 65536, 10 ^ 12, 10 ^ 12, 0, .direct⟩] } : State), 2 ^ 34 + 5,
    tP2 0 (2 ^ 20), by decide +kernel⟩,
   ⟨({ tOwn with tier.runs := [⟨runREBUILD, 2 ^ 34, 2 ^ 34 + 2 ^ 20, false⟩] } : State), 1, (⟨runREBUILD, 2 ^ 34, 2 ^ 34 + 2 ^ 20, false⟩ : UnitRun),
    by decide +kernel⟩⟩

theorem witness_engineInstructions :
    (∃ (s : State) (n ins len t : Nat) (k : Core) (b : List Byte), n < 16 ∧ s.serves [n + 1] = true ∧ k = s.core n ∧ t = k.reg (bitsOf ins 15 5) ∧
    s.atQ n 0 = some (ins, len) ∧ t % 64 = 0 ∧ regionOf t 64 ≠ none ∧ (k.read t 64).any (fun x => x.2) = false ∧ b = plain (k.read t 64) ∧
    recordMalformed b = false ∧ (k.queueOf (field b 0 1)).length < 64) ∧
    (∃ (s : State) (n ins len t : Nat) (k : Core) (b : List Byte), n < 16 ∧ s.serves [n + 1] = true ∧ k = s.core n ∧ t = k.reg (bitsOf ins 15 5) ∧
    s.atQ n 0 = some (ins, len) ∧ t % 64 = 0 ∧ regionOf t 64 ≠ none ∧ (k.read t 64).any (fun x => x.2) = false ∧ b = plain (k.read t 64) ∧
    recordMalformed b = false ∧ 64 ≤ (k.queueOf (field b 0 1)).length) ∧
    (∃ (s : State) (n ins len t : Nat) (k : Core) (b : List Byte), n < 16 ∧ s.serves [n + 1] = true ∧ k = s.core n ∧ t = k.reg (bitsOf ins 15 5) ∧
    s.atQ n 0 = some (ins, len) ∧ t % 64 = 0 ∧ regionOf t 64 ≠ none ∧ (k.read t 64).any (fun x => x.2) = false ∧ b = plain (k.read t 64) ∧
    recordMalformed b = true) ∧
    (∃ (s : State) (n ins len t : Nat) (k : Core) (st : _), n < 16 ∧ s.serves [n + 1] = true ∧ k = s.core n ∧ t = k.reg (bitsOf ins 15 5) ∧
    s.atQ n 1 = some (ins, len) ∧ k.ticketStatus t = some st) ∧
    (∃ (s : State) (n ins len t : Nat) (k : Core), n < 16 ∧ s.serves [n + 1] = true ∧ k = s.core n ∧ t = k.reg (bitsOf ins 15 5) ∧
    s.atQ n 1 = some (ins, len) ∧ k.ticketStatus t = none) ∧
    (∃ (s : State) (n ins len t : Nat) (k : Core), n < 16 ∧ s.serves [n + 1] = true ∧ k = s.core n ∧ t = k.reg (bitsOf ins 15 5) ∧
    s.atQ n 2 = some (ins, len)) ∧
    (∃ (s : State) (n ins len t : Nat) (k : Core), n < 16 ∧ s.serves [n + 1] = true ∧ k = s.core n ∧ t = k.reg (bitsOf ins 15 5) ∧
    s.atQ n 3 = some (ins, len) ∧ k.quiet t = true) ∧
    (∃ (s : State) (n ins len t : Nat) (k : Core), n < 16 ∧ s.serves [n + 1] = true ∧ k = s.core n ∧ t = k.reg (bitsOf ins 15 5) ∧
    s.atQ n 3 = some (ins, len) ∧ k.quiet t = false) ∧
    (∃ (s : State) (n ins len t : Nat) (k : Core), n < 16 ∧ s.serves [n + 1] = true ∧ k = s.core n ∧ t = k.reg (bitsOf ins 15 5) ∧
    s.atQ n 4 = some (ins, len)) ∧
    (∃ (s : State) (n ins len t : Nat) (k : Core), n < 16 ∧ s.serves [n + 1] = true ∧ k = s.core n ∧ t = k.reg (bitsOf ins 15 5) ∧
    s.atQ n 5 = some (ins, len)) ∧
    (∃ (s : State) (n ins t : Nat) (k : Core), (∀ f, s.atQ n f = none) ∧ n < 16 ∧ s.serves [n + 1] = true ∧ k = s.core n ∧
    t = k.reg (bitsOf ins 15 5)) :=
  ⟨⟨tKern (tRec 2 1 (tCore (tQ 0 5 6) [(6, 0x1000)])), 2, (tQ 0 5 6), 4, 0x1000, tRec 2 1 (tCore (tQ 0 5 6) [(6, 0x1000)]),
    natLe 1 2 ++ natLe 1 1 ++ zeros 62, by decide +kernel⟩,
   ⟨tKern (tFull (tRec 2 1 (tCore (tQ 0 5 6) [(6, 0x1000)]))), 2, (tQ 0 5 6), 4, 0x1000, tFull (tRec 2 1 (tCore (tQ 0 5 6) [(6, 0x1000)])),
    natLe 1 2 ++ natLe 1 1 ++ zeros 62, by decide +kernel⟩,
   ⟨tKern (tRec 7 1 (tCore (tQ 0 5 6) [(6, 0x1000)])), 2, (tQ 0 5 6), 4, 0x1000, tRec 7 1 (tCore (tQ 0 5 6) [(6, 0x1000)]),
    natLe 1 7 ++ natLe 1 1 ++ zeros 62, by decide +kernel⟩,
   ⟨tKern (tCore (tQ 1 5 6) [(6, 3)]), 2, (tQ 1 5 6), 4, 3, tCore (tQ 1 5 6) [(6, 3)], .done, by decide +kernel⟩,
   ⟨tKern (tCore (tQ 1 5 6) [(6, 2)]), 2, (tQ 1 5 6), 4, 2, tCore (tQ 1 5 6) [(6, 2)], by decide +kernel⟩,
   ⟨tKern (tCore (tQ 2 5 6) [(6, 3)]), 2, (tQ 2 5 6), 4, 3, tCore (tQ 2 5 6) [(6, 3)], by decide +kernel⟩,
   ⟨tKern (tCore (tQ 3 5 6) [(6, 7)]), 2, (tQ 3 5 6), 4, 7, tCore (tQ 3 5 6) [(6, 7)], by decide +kernel⟩,
   ⟨tKern (tFull (tCore (tQ 3 5 6) [(6, 7)])), 2, (tQ 3 5 6), 4, 7, tFull (tCore (tQ 3 5 6) [(6, 7)]), by decide +kernel⟩,
   ⟨tKern (tCore (tQ 4 0 6) [(6, 7)]), 2, (tQ 4 0 6), 4, 7, tCore (tQ 4 0 6) [(6, 7)], by decide +kernel⟩,
   ⟨tKern (tCore (tQ 5 5 6) [(6, 2)]), 2, (tQ 5 5 6), 4, 2, tCore (tQ 5 5 6) [(6, 2)], by decide +kernel⟩,
   ⟨tKern (tCore 0x13 []), 2, 0x13, 0, tCore 0x13 [], atQ_of (ins := 0x13) (len := 4) (by decide +kernel), by decide +kernel⟩⟩

theorem witness_scalarInstructions :
    (∃ (s : State) (n rd rs imm : Nat) (k : Core) (ins : _) (len : _), n < 16 ∧ s.serves [n + 1] = true ∧ k = s.core n ∧ s.scalarRuns n = true ∧
    k.fetch = some (some (encI 0x13 0 rd rs imm), 4) ∧ rd < 32 ∧ rs < 32 ∧ imm < 4096 ∧ k.fetch = some (some ins, len) ∧ qFunct ins = none) ∧
    (∃ (s : State) (n : Nat) (k : Core), n < 16 ∧ s.serves [n + 1] = true ∧ k = s.core n ∧ s.scalarRuns n = true ∧ k.fetch = none) ∧
    (∃ (s : State) (n : Nat) (k : Core), k = s.core n ∧ n < 16 ∧ s.serves [n + 1] = true ∧ s.scalarRuns n = false) ∧
    (∃ (s : State) (n : Nat) (k : Core) (len : _), n < 16 ∧ s.serves [n + 1] = true ∧ k = s.core n ∧ s.scalarRuns n = true ∧
    k.fetch = some (none, len)) :=
  ⟨⟨tKern (tCore (encI 0x13 0 5 6 0xFFF) [(6, 0)]), 2, 5, 6, 0xFFF, tCore (encI 0x13 0 5 6 0xFFF) [(6, 0)], encI 0x13 0 5 6 0xFFF, 4,
    by decide +kernel⟩,
   ⟨tKern { tCore 0x13 [] with pc := 0 }, 2, ({ tCore 0x13 [] with pc := 0 } : Core), by decide +kernel⟩,
   ⟨tMem, 2, tMem.core 2, rfl, by decide +kernel⟩,
   ⟨tKern (tCore 0 []), 2, tCore 0 [], 2, by decide +kernel⟩⟩

theorem witness_engineCommands :
    (∃ (s : State) (n : Nat) (c : EngCmd) (r : _) (fs : _) (p : _), p = (s.core n).mmaProduct r (s.fld (F.QNC_CSUM_TOL_TOL.core n)) s.free fs ∧
    n < 16 ∧ s.serves [n + 1] = true ∧ s.engineHead n 0 = some c ∧ r = Mma.of c.bytes ∧ r.fault = none) ∧
    (∃ (s : State) (n : Nat) (c : EngCmd) (st : _), n < 16 ∧ s.serves [n + 1] = true ∧ s.engineHead n 0 = some c ∧ (Mma.of c.bytes).fault = some st) ∧
    (∃ (s : State) (n : Nat) (c : EngCmd), n < 16 ∧ s.serves [n + 1] = true ∧ s.engineHead n 1 = some c ∧ (Vec.of c.bytes).op = 1 ∧
    (Vec.of c.bytes).fault = none) ∧
    (∃ (s : State) (n : Nat), n < 16 ∧ s.serves [n + 1] = true ∧ s.engineHead n 1 = none) ∧
    (∃ (s : State) (n : Nat) (c : EngCmd) (st : _), n < 16 ∧ s.serves [n + 1] = true ∧ s.engineHead n 1 = some c ∧ (Vec.of c.bytes).op = 1 ∧
    (Vec.of c.bytes).fault = some st) ∧
    (∃ (s : State) (n : Nat) (c : EngCmd), n < 16 ∧ s.serves [n + 1] = true ∧ s.engineHead n 1 = some c ∧ (Vec.of c.bytes).op ≠ 1) ∧
    (∃ (s : State) (n : Nat) (c : EngCmd), n < 16 ∧ s.serves [n + 1] = true ∧ s.engineHead n 2 = some c ∧ field c.bytes 1 1 = 1 ∧
    dmaFault c.bytes = none ∧ (1 = 1 ∨ 1 = 2 ∨ 1 = 3) ∧ (1 ≠ 3 ∨ dmaCount c.bytes ≤ s.launchTagsLeft ((s.core n).launch.getD 0))) ∧
    (∃ (s : State) (n : Nat) (c : EngCmd) (st : _), n < 16 ∧ s.serves [n + 1] = true ∧ s.engineHead n 2 = some c ∧ field c.bytes 1 1 = 1 ∧
    dmaFault c.bytes = some st) ∧
    (∃ (s : State) (n : Nat) (c : EngCmd), n < 16 ∧ s.serves [n + 1] = true ∧ s.engineHead n 2 = some c ∧ field c.bytes 1 1 = 3 ∧
    dmaFault c.bytes = none ∧ (3 = 3 ∨ 3 = 5) ∧ s.launchTagsLeft ((s.core n).launch.getD 0) < dmaCount c.bytes) ∧
    (∃ (s : State) (n : Nat) (c : EngCmd), n < 16 ∧ s.serves [n + 1] = true ∧ s.engineHead n 2 = some c ∧ field c.bytes 1 1 = 4 ∧
    dmaFault c.bytes = none ∧ 4 = 4) ∧
    (∃ (s : State) (n : Nat) (c : EngCmd), n < 16 ∧ s.serves [n + 1] = true ∧ s.engineHead n 2 = some c ∧ field c.bytes 1 1 = 5 ∧
    dmaFault c.bytes = none ∧ 5 = 5 ∧ dmaCount c.bytes ≤ s.launchTagsLeft ((s.core n).launch.getD 0)) ∧
    (∃ (s : State) (n : Nat) (c : EngCmd), n < 16 ∧ s.serves [n + 1] = true ∧ s.engineHead n 2 = some c ∧ field c.bytes 1 1 ≠ 1) ∧
    (∃ (s : State) (n : Nat), n < 16 ∧ s.serves [n + 1] = true) :=
  ⟨⟨tEng 0 (tMma elBF16), 2, (⟨3, tMma elBF16⟩ : EngCmd), Mma.of (tMma elBF16), ([] : List ArrayFault),
    ((tEng 0 (tMma elBF16)).core 2).mmaProduct (Mma.of (tMma elBF16)) ((tEng 0 (tMma elBF16)).fld (F.QNC_CSUM_TOL_TOL.core 2)) (tEng 0 (tMma
    elBF16)).free [], rfl, by decide +kernel⟩,
   ⟨tEng 0 (tMma 99), 2, (⟨3, tMma 99⟩ : EngCmd), .badDescriptor, by decide +kernel⟩,
   ⟨tEng 1 (tVec 1 elFP32 0), 2, (⟨3, tVec 1 elFP32 0⟩ : EngCmd), by decide +kernel⟩,
   ⟨tEng 0 (tVec 1 elFP32 0), 2, by decide +kernel⟩,
   ⟨tEng 1 (tVec 1 99 0), 2, (⟨3, tVec 1 99 0⟩ : EngCmd), .badDescriptor, by decide +kernel⟩,
   ⟨tEng 1 (tVec 15 elFP32 2), 2, (⟨3, tVec 15 elFP32 2⟩ : EngCmd), by decide +kernel⟩,
   ⟨tTags 9 (tEng 2 (tDma 1 64 64)), 2, (⟨3, tDma 1 64 64⟩ : EngCmd), by decide +kernel⟩,
   ⟨tTags 9 (tEng 2 (tDma 1 0 64)), 2, (⟨3, tDma 1 0 64⟩ : EngCmd), .badDescriptor, by decide +kernel⟩,
   ⟨tTags 0 (tEng 2 (tDma 3 64 64)), 2, (⟨3, tDma 3 64 64⟩ : EngCmd), by decide +kernel⟩,
   ⟨tTags 9 (tEng 2 (tDma 4 64 64)), 2, (⟨3, tDma 4 64 64⟩ : EngCmd), by decide +kernel⟩,
   ⟨tTags 9 (tEng 2 (tAtomics 1)), 2, (⟨3, tAtomics 1⟩ : EngCmd), by decide +kernel⟩,
   ⟨tTags 2 (tEng 2 (tAtomics 4)), 2, (⟨3, tAtomics 4⟩ : EngCmd), by decide +kernel⟩,
   ⟨tMem, 2, by decide +kernel⟩⟩

theorem witness_launches :
    (∃ (s : State) (tag : Nat) (l : Launch) (ch : ChanId) (m : Nat) (x : SeatId) (n : Nat), s.guardedBy ch m x 1 ∧ s.serves [] = true ∧
    s.qnc.launches.find? (fun l => l.tag == tag && l.verifying) = some l ∧
    s.qnc.launches.find? (fun l => l.tag == tag && l.started.isSome) = some l ∧ n < 16 ∧ (s.core n).state ≠ .idle) ∧
    (∃ (s : State) (ch : ChanId) (m : Nat) (x : SeatId), s.unguarded ch m x 1 ∧ s.serves [] = true) ∧
    (∃ (s : State) (n : Nat), n < 16 ∧ s.serves [] = true ∧ s.islandState (n + 1) = isWAKING) ∧
    (∃ (s : State) (n : Nat), n < 16 ∧ s.serves [] = true ∧ (s.core n).state = .idle ∧ (s.core n).launch = none ∧ (s.core n).isolation = 0 ∧
    s.fld F.RAS_QUAR_STATE ≠ 1) ∧
    (∃ (s : State) (n tag sq h c : Nat) (u0 : AttUnit) (w : Work), n < 16 ∧ s.serves [] = true ∧ s.islandOn (n + 1) = true ∧
    (s.core n).attend = some (tag, sq, h, c) ∧ (s.core n).state = .attend ∧ s.chunkOf tag sq h c = some u0 ∧ s.workOf tag = some w ∧
    (s.ras.sentinelDue.contains (2 * n) || s.ras.sentinelDue.contains (2 * n + 1)) = false ∧ u0.stage ≠ 3) ∧
    (∃ (s : State) (n tag sq h c : Nat) (u0 : AttUnit) (w : Work) (fs : List ArrayFault) (res : _),
    res = chunkResult w.desc u0 (s.fld (F.QNC_CSUM_TOL_TOL.core n)) s.free fs ∧ n < 16 ∧ s.serves [] = true ∧ s.islandOn (n + 1) = true ∧
    (s.core n).attend = some (tag, sq, h, c) ∧ (s.core n).state = .attend ∧ s.chunkOf tag sq h c = some u0 ∧ s.workOf tag = some w ∧
    (s.ras.sentinelDue.contains (2 * n) || s.ras.sentinelDue.contains (2 * n + 1)) = false ∧ u0.stage = 3 ∧ u0.core = some n) :=
  ⟨⟨({ tMem with qnc.launches := [{ tLaunch with verifying := true, image := zeros 64 }], works := [tWork .running 0] } : State), 77,
    ({ tLaunch with verifying := true, image := zeros 64 } : Launch), (.i3c : ChanId), 0, (.a : SeatId), 2, guardedBy_of (by decide +kernel),
    by decide +kernel⟩,
   ⟨tF (F.CTL_SEM_OWNER.at 1) 0 tMem, (.i3c : ChanId), 0, (.a : SeatId), unguarded_of (by decide +kernel), by decide +kernel⟩,
   ⟨tF (F.PWR_ISLAND_STATE.at 2) isWAKING tMem, 2, by decide +kernel⟩,
   ⟨tMem.setCore 2 { blankCore 2 with state := .idle }, 2, by decide +kernel⟩,
   ⟨tAttend 0, 2, 77, 0, 0, 0, tUnit 0, tWork .running 0, by decide +kernel⟩,
   ⟨tAttend 3, 2, 77, 0, 0, 0, tUnit 3, tWork .running 0, ([] : List ArrayFault),
    chunkResult (tWork .running 0).desc (tUnit 3) ((tAttend 3).fld (F.QNC_CSUM_TOL_TOL.core 2)) (tAttend 3).free [], rfl, by decide +kernel⟩⟩

theorem witness_packetsForwarded :
    (∃ (s : State) (port crc stomp : Nat) (p q : Packet), crc = q.crc ∧ s.serves [17] = true ∧ port < 63 ∧ p.vc < 8 ∧
    q = { p with excess := false } ∧ stomp ≠ 0 ∧ s.memberState p.src ≠ .absent ∧ p.malformed = false ∧ s.portKeyOk port p = true ∧
    p.op % 0x80 ≠ opHEARTBEAT ∧ p.op % 0x80 ≠ opMEMBER_DECLARE ∧ s.isSelf (s.answeredAt q) = true ∧ p.onSecond = false) ∧
    (∃ (s : State) (port crc : Nat) (p q : Packet), s.serves [17] = true ∧ port < 63 ∧ p.vc < 8 ∧ q = { p with excess := false } ∧ crc ≠ q.crc ∧
    s.isSelf (s.answeredAt q) = true ∧ (s.link port).rxRetries < 7 ∧ (s.link port).gcmFails = []) ∧
    (∃ (s : State) (port crc : Nat) (p q : Packet) (e : _), crc = q.crc ∧ e = s.pathPort (s.answeredAt q) (s.pathTo (s.answeredAt q)) ∧
    s.serves [17] = true ∧ port < 63 ∧ p.vc < 8 ∧ q = { p with excess := false } ∧ s.memberState p.src ≠ .absent ∧ p.malformed = false ∧
    s.portKeyOk port p = true ∧ p.op % 0x80 ≠ opHEARTBEAT ∧ p.op % 0x80 ≠ opMEMBER_DECLARE ∧ s.isSelf (s.answeredAt q) = false ∧
    s.sws.entering = [] ∧ s.roomFor port p.vc ({ q with relayed := true } : Packet).bytes = true) ∧
    (∃ (s : State) (port crc : Nat) (p q : Packet), crc = q.crc ∧ s.serves [17] = true ∧ port < 63 ∧ p.vc < 8 ∧ q = { p with excess := false } ∧
    s.memberState p.src ≠ .absent ∧ p.malformed = false ∧ s.portKeyOk port p = false) ∧
    (∃ (s : State) (port crc : Nat) (p q : Packet), crc = q.crc ∧ s.serves [17] = true ∧ port < 63 ∧ p.vc < 8 ∧ q = { p with excess := false } ∧
    s.memberState p.src ≠ .absent ∧ p.malformed = true ∧ p.isRequest = true) ∧
    (∃ (s : State) (port crc : Nat) (p q : Packet), crc = q.crc ∧ s.serves [17] = true ∧ port < 63 ∧ p.vc < 8 ∧ q = { p with excess := false } ∧
    s.memberState p.src ≠ .absent ∧ p.malformed = true ∧ p.isRequest = false) ∧
    (∃ (s : State) (port crc : Nat) (p q : Packet) (e : _), crc = q.crc ∧ e = s.pathPort (s.answeredAt q) (s.pathTo (s.answeredAt q)) ∧
    s.serves [17] = true ∧ port < 63 ∧ p.vc < 8 ∧ q = { p with excess := false } ∧ s.memberState p.src ≠ .absent ∧ p.malformed = false ∧
    s.portKeyOk port p = true ∧ p.op % 0x80 ≠ opHEARTBEAT ∧ p.op % 0x80 ≠ opMEMBER_DECLARE ∧ s.isSelf (s.answeredAt q) = false ∧
    s.roomFor port p.vc ({ q with relayed := true } : Packet).bytes = false) ∧
    (∃ (s : State) (e : Nat) (heads : List Queued), heads = (voqHeads s.sws.voq []).filter (fun q => q.egress == e && s.linkReady e q.pkt) ∧
    s.serves [17] = true ∧ ¬(96 ≤ e ∧ e < 100) ∧ s.gated = false ∧ heads = []) ∧
    (∃ (s : State) (e : Nat) (heads : List Queued) (q : Queued),
    heads = (voqHeads s.sws.voq []).filter (fun q => q.egress == e && s.linkReady e q.pkt) ∧ s.serves [17] = true ∧ ¬(96 ≤ e ∧ e < 100) ∧
    s.gated = false ∧
    (heads.find? (fun q => q.pkt.vc == vcMGMT)).or ((heads.find? (fun q => q.pkt.vc == vcRSP)).or (heads.find? (fun q => q.pkt.vc == vcSNOOP))) =
    some q) :=
  ⟨⟨tMem, 0, ({ (tPk 0) with excess := false } : Packet).crc, 1, tPk 0, ({ (tPk 0) with excess := false } : Packet), rfl, by decide +kernel⟩,
   ⟨tMem, 0, 5, tPk 0, ({ (tPk 0) with excess := false } : Packet), by decide +kernel⟩,
   ⟨tMem, 0, ({ (tPk 2) with excess := false } : Packet).crc, tPk 2, ({ (tPk 2) with excess := false } : Packet),
    tMem.pathPort (tMem.answeredAt ({ (tPk 2) with excess := false } : Packet)) (tMem.pathTo (tMem.answeredAt ({ (tPk 2) with excess := false } :
    Packet))), rfl, rfl, by decide +kernel⟩,
   ⟨tMem, 0, ({ ({ tPk 0 with pkey := 0x99 } : Packet) with excess := false } : Packet).crc, ({ tPk 0 with pkey := 0x99 } : Packet),
    ({ ({ tPk 0 with pkey := 0x99 } : Packet) with excess := false } : Packet), rfl, by decide +kernel⟩,
   ⟨tMem, 0, ({ ({ tPk 0 with rsvd := 1 } : Packet) with excess := false } : Packet).crc, ({ tPk 0 with rsvd := 1 } : Packet),
    ({ ({ tPk 0 with rsvd := 1 } : Packet) with excess := false } : Packet), rfl, by decide +kernel⟩,
   ⟨tMem, 0, ({ ({ tPk 0 with op := opLOAD + 0x80, vc := vcRSP, rsvd := 1 } : Packet) with excess := false } : Packet).crc,
    ({ tPk 0 with op := opLOAD + 0x80, vc := vcRSP, rsvd := 1 } : Packet),
    ({ ({ tPk 0 with op := opLOAD + 0x80, vc := vcRSP, rsvd := 1 } : Packet) with excess := false } : Packet), rfl, by decide +kernel⟩,
   ⟨tLoaded, 0, ({ tPk 2 with excess := false } : Packet).crc, tPk 2, ({ tPk 2 with excess := false } : Packet),
    tLoaded.pathPort (tLoaded.answeredAt ({ tPk 2 with excess := false } : Packet)) (tLoaded.pathTo (tLoaded.answeredAt
    ({ tPk 2 with excess := false } : Packet))), rfl, rfl, by decide +kernel⟩,
   ⟨tVoq [], 0, (voqHeads (tVoq []).sws.voq []).filter (fun q => q.egress == 0 && (tVoq []).linkReady 0 q.pkt), rfl, by decide +kernel⟩,
   ⟨tVoq [tHead 0 vcREQ 1, tHead 0 vcSNOOP 3, tHead 0 vcRSP 2], 0, (voqHeads (tVoq [tHead 0 vcREQ 1, tHead 0 vcSNOOP 3,
    tHead 0 vcRSP 2]).sws.voq []).filter (fun q => q.egress == 0 && (tVoq [tHead 0 vcREQ 1, tHead 0 vcSNOOP 3, tHead 0 vcRSP 2]).linkReady 0 q.pkt),
    tHead 0 vcRSP 2, rfl, by decide +kernel⟩⟩

theorem witness_gatesAndShapers :
    (∃ (s : State), s.serves [17] = true ∧ s.gated = true ∧ s.gateLen ≤ 1024 ∧ s.fld F.SWS_GATE_STATUS_STATE = gHOLDOVER) ∧
    (∃ (s : State) (n : Nat) (q : Queued), s.serves [17] = true ∧
    (voqHeads s.sws.voq []).find? (fun q => shaperIndex q.ingress q.pkt.vc == n) = some q ∧ (s.shaper n).mode ≠ 0 ∧ 0 < (s.shaper n).pir ∧
    q.pkt.bytes ≤ (s.shaper n).pbs ∧ 0 < (s.shaper n).cir ∧ q.pkt.bytes ≤ (s.shaper n).cbs) ∧
    (∃ (s : State) (ch : ChanId) (m n b : Nat) (x : SeatId) (c : Shaper), s.guardedBy ch m x 0 ∧ s.serves [17] = true ∧ s.gated = false ∧
    s.fld F.SWS_GATE_STATUS_STATE ≠ gHOLDOVER ∧ (voqHeads s.sws.voq []).find? (fun q => shaperIndex q.ingress q.pkt.vc == n) = none ∧ b = x.idx ∧
    n = s.fld F.SWS_SHAPER_SEL_SHAPER b ∧
    c = ⟨s.fld F.SWS_SHAPER_BURST_MODE b, s.fld F.SWS_SHAPER_RATE_CIR b, s.fld F.SWS_SHAPER_RATE_PIR b, s.fld F.SWS_SHAPER_BURST_CBS b,
    s.fld F.SWS_SHAPER_BURST_PBS b, 0, 0, 0⟩ ∧ c.mode ≤ 2 ∧ shaperRangesOk c.cir c.pir c.cbs c.pbs = true ∧ (c.mode = 2 → 64 ≤ n / 8 ∧ n / 8 ≤ 99)) ∧
    (∃ (s : State) (ch : ChanId) (m n b : Nat) (x : SeatId) (c : Shaper), s.guardedBy ch m x 0 ∧ b = x.idx ∧ n = s.fld F.SWS_SHAPER_SEL_SHAPER b ∧
    c = ⟨s.fld F.SWS_SHAPER_BURST_MODE b, s.fld F.SWS_SHAPER_RATE_CIR b, s.fld F.SWS_SHAPER_RATE_PIR b, s.fld F.SWS_SHAPER_BURST_CBS b,
    s.fld F.SWS_SHAPER_BURST_PBS b, 0, 0, 0⟩ ∧ c.mode = 3) ∧
    (∃ (s : State) (ch : ChanId) (m n b : Nat) (x : SeatId) (c : Shaper), s.guardedBy ch m x 0 ∧ b = x.idx ∧ n = s.fld F.SWS_SHAPER_SEL_SHAPER b ∧
    c = ⟨s.fld F.SWS_SHAPER_BURST_MODE b, s.fld F.SWS_SHAPER_RATE_CIR b, s.fld F.SWS_SHAPER_RATE_PIR b, s.fld F.SWS_SHAPER_BURST_CBS b,
    s.fld F.SWS_SHAPER_BURST_PBS b, 0, 0, 0⟩ ∧ c.mode ≠ 3 ∧ shaperRangesOk c.cir c.pir c.cbs c.pbs = false) ∧
    (∃ (s : State) (ch : ChanId) (m n b : Nat) (x : SeatId) (c : Shaper), s.guardedBy ch m x 0 ∧ b = x.idx ∧ n = s.fld F.SWS_SHAPER_SEL_SHAPER b ∧
    c = ⟨s.fld F.SWS_SHAPER_BURST_MODE b, s.fld F.SWS_SHAPER_RATE_CIR b, s.fld F.SWS_SHAPER_RATE_PIR b, s.fld F.SWS_SHAPER_BURST_CBS b,
    s.fld F.SWS_SHAPER_BURST_PBS b, 0, 0, 0⟩ ∧ c.mode = 2 ∧ shaperRangesOk c.cir c.pir c.cbs c.pbs = true ∧ ¬(64 ≤ n / 8 ∧ n / 8 ≤ 99)) ∧
    (∃ (s : State) (ch : ChanId) (m n b : Nat) (x : SeatId) (c : Shaper), s.unguarded ch m x 0 ∧ b = x.idx ∧ n = s.fld F.SWS_SHAPER_SEL_SHAPER b ∧
    c = ⟨s.fld F.SWS_SHAPER_BURST_MODE b, s.fld F.SWS_SHAPER_RATE_CIR b, s.fld F.SWS_SHAPER_RATE_PIR b, s.fld F.SWS_SHAPER_BURST_CBS b,
    s.fld F.SWS_SHAPER_BURST_PBS b, 0, 0, 0⟩) :=
  ⟨⟨tGate gHOLDOVER 4, by decide +kernel⟩,
   ⟨tShaped 1, shaperIndex 3 vcREQ, tHead 0 vcREQ 1, by decide +kernel⟩,
   ⟨tShaper 3 1 100 200 65536 65536, (.i3c : ChanId), 0, 3, 0, (.a : SeatId), (⟨1, 100, 200, 65536, 65536, 0, 0, 0⟩ : Shaper),
    guardedBy_of (by decide +kernel), by decide +kernel⟩,
   ⟨tShaper 3 3 100 200 65536 65536, (.i3c : ChanId), 0, 3, 0, (.a : SeatId), (⟨3, 100, 200, 65536, 65536, 0, 0, 0⟩ : Shaper),
    guardedBy_of (by decide +kernel), by decide +kernel⟩,
   ⟨tShaper 3 1 9 9 0 0, (.i3c : ChanId), 0, 3, 0, (.a : SeatId), (⟨1, 9, 9, 0, 0, 0, 0, 0⟩ : Shaper), guardedBy_of (by decide +kernel),
    by decide +kernel⟩,
   ⟨tShaper 3 2 100 200 65536 65536, (.i3c : ChanId), 0, 3, 0, (.a : SeatId), (⟨2, 100, 200, 65536, 65536, 0, 0, 0⟩ : Shaper),
    guardedBy_of (by decide +kernel), by decide +kernel⟩,
   ⟨tF (F.CTL_SEM_OWNER.at 0) 0 (tShaper 3 1 100 200 65536 65536), (.i3c : ChanId), 0, 3, 0, (.a : SeatId), (⟨1, 100, 200, 65536, 65536, 0, 0,
    0⟩ : Shaper), unguarded_of (by decide +kernel), by decide +kernel⟩⟩

theorem witness_framesAndLanes :
    (∃ (s : State) (port lane : Nat) (f : Frame), s.serves [23] = true ∧ s.laneState port lane = .up ∧ f.fault = 0 ∧
    f.seq % 4096 ≠ (s.link port).rxSeq) ∧
    (∃ (s : State) (port lane : Nat) (f : Frame), s.serves [23] = true ∧ s.laneState port lane = .up ∧ f.fault = 1 ∧ (s.link port).rxRetries < 7 ∧
    (s.link port).gcmFails = []) ∧
    (∃ (s : State) (port lane : Nat) (f : Frame) (ch : ChanId) (n k : Nat) (x : SeatId), s.commandedBy ch n x ∧ s.serves [23] = true ∧
    s.laneState port lane = .up ∧ f.fault = 0 ∧ f.seq % 4096 = (s.link port).rxSeq ∧ f.retryFrom = none ∧ k = lane % 4 ∧ port = s.selPort x ∧
    port < 0x60 ∧ k < s.portWidth port ∧ isAport port = false ∧ (∃ j, j < s.portWidth port ∧ j ≠ k ∧ s.laneState port j = .up) ∧
    (s.laneState port k = .up ∨ (s.laneState port k ≠ .held ∧ s.mayTrain port = true)) ∧ s.laneState port k = .up ∧ s.laneState port k ≠ .held) ∧
    (∃ (s : State) (port lane : Nat) (ch : ChanId) (n k : Nat) (x : SeatId), s.commandedBy ch n x ∧ s.serves [23] = true ∧
    s.laneState port lane ≠ .up ∧ k = lane % 4 ∧ port = s.selPort x ∧ port < 0x60 ∧ k < s.portWidth port ∧ isAport port = false ∧
    s.laneState port k = .held) ∧
    (∃ (s : State) (port lane : Nat) (ch : ChanId) (n k : Nat) (x : SeatId), s.commandedBy ch n x ∧ k = lane % 4 ∧ port = s.selPort x ∧ port < 0x60 ∧
    s.portWidth port ≤ k) :=
  ⟨⟨tLink1 (fun l => { l with rxSeq := 5 }), 1, 1, tFr 6 0, by decide +kernel⟩,
   ⟨tLink1 (fun l => { l with rxSeq := 5 }), 1, 1, tFr 5 1, by decide +kernel⟩,
   ⟨tPort 1 1 .up, 1, 1, tFr 0 0, (.i3c : ChanId), 0, 1, (.a : SeatId), commandedBy_of (by decide +kernel), by decide +kernel⟩,
   ⟨tPort 1 1 .held, 1, 1, (.i3c : ChanId), 0, 1, (.a : SeatId), commandedBy_of (by decide +kernel), by decide +kernel⟩,
   ⟨tPort 9 1 .training, 9, 1, (.i3c : ChanId), 0, 1, (.a : SeatId), commandedBy_of (by decide +kernel), by decide +kernel⟩⟩

theorem witness_accesses :
    (∃ (s : State) (p : Packet) (cell n : Nat), s.ownServes p ∧ s.homeFree (linesOf p.addr p.size) ∧ s.serves (s.homeIslands p) = true ∧
    cell = dgaCell p.addr ∧ n = p.size + 1 ∧ crosses256 p.addr p.size = false ∧ p.op = opLOAD ∧ cohKind p = 0) ∧
    (∃ (s : State) (p : Packet) (cell n : Nat), s.ownServes p ∧ s.homeFree (linesOf p.addr p.size) ∧ s.serves (s.homeIslands p) = true ∧
    cell = dgaCell p.addr ∧ n = p.size + 1 ∧ crosses256 p.addr p.size = false ∧ s.headerAt cell n = none ∧ s.protection cell = 0 ∧ p.op = opSTORE ∧
    cohKind p = 0) ∧
    (∃ (s : State) (p : Packet) (cell n : Nat) (old : List Byte), s.ownServes p ∧ s.homeFree (linesOf p.addr p.size) ∧
    old = s.mem.readN (s.accessKey p) cell n ∧ s.serves (s.homeIslands p) = true ∧ cell = dgaCell p.addr ∧ n = p.size + 1 ∧
    crosses256 p.addr p.size = false ∧ s.headerAt cell n = none ∧ s.protection cell = 0 ∧ p.op = opATOMIC ∧ atomicFault p = false ∧
    s.mem.poisoned cell = false ∧ p.poison = 0) ∧
    (∃ (s : State) (p : Packet) (cell n : Nat) (old : List Byte), s.ownServes p ∧ s.homeFree (linesOf p.addr p.size) ∧
    old = s.mem.readN (s.accessKey p) cell n ∧ s.serves (s.homeIslands p) = true ∧ cell = dgaCell p.addr ∧ n = p.size + 1 ∧
    crosses256 p.addr p.size = false ∧ s.headerAt cell n = none ∧ s.protection cell = 0 ∧ p.op = opATOMIC ∧ atomicFault p = false ∧
    (s.mem.poisoned cell = true ∨ p.poison ≠ 0)) :=
  ⟨⟨tMem, tReq opLOAD (2 ^ 34) 64, 2 ^ 34, 64, ownServes_of (by decide +kernel), homeFree_of (by decide +kernel), by decide +kernel⟩,
   ⟨tMem, tStore (2 ^ 34 + 60) 8, 2 ^ 34 + 60, 8, ownServes_of (by decide +kernel), homeFree_of (by decide +kernel), by decide +kernel⟩,
   ⟨tMem, tAtomic (2 ^ 34) 0x21, 2 ^ 34, 8, tMem.mem.readN (tMem.accessKey (tAtomic (2 ^ 34) 0x21)) (2 ^ 34) 8, ownServes_of (by decide +kernel),
    homeFree_of (by decide +kernel), rfl, by decide +kernel⟩,
   ⟨tPoisoned, tAtomic (2 ^ 34) 0x21, 2 ^ 34, 8, tPoisoned.mem.readN (tPoisoned.accessKey (tAtomic (2 ^ 34) 0x21)) (2 ^ 34) 8,
    ownServes_of (by decide +kernel), homeFree_of (by decide +kernel), rfl, by decide +kernel⟩⟩

theorem witness_protectedWrites :
    (∃ (s : State) (p : Packet) (h cell sector : Nat), s.homeFree (linesOf p.addr p.size) ∧ s.unitsFree ∧ s.ownServes p ∧
    s.serves (s.homeIslands p) = true ∧ cell = dgaCell p.addr ∧ sector = cell / 64 * 64 ∧ p.op = opSTORE ∧ cohKind p = 0 ∧
    crosses256 p.addr p.size = false ∧ s.headerAt cell (p.size + 1) = none ∧ s.holderOf (mkDga s.devnum 0 0 + cell) (s.protection cell) = some h ∧
    s.memberState h = .active) ∧
    (∃ (s : State) (p : Packet) (cell sector : Nat), s.homeFree (linesOf p.addr p.size) ∧ s.unitsFree ∧ s.serves (s.homeIslands p) = true ∧
    cell = dgaCell p.addr ∧ sector = cell / 64 * 64 ∧ p.malformed = false ∧ s.dom.selfFailed = false ∧ p.op = opMIRROR ∧ p.aux % 2 = 0 ∧
    s.fab.dedupOf (auxSource p.aux) p.tag = none) ∧
    (∃ (s : State) (p : Packet) (cell sector : Nat), s.homeFree (linesOf p.addr p.size) ∧ s.unitsFree ∧ s.serves (s.homeIslands p) = true ∧
    cell = dgaCell p.addr ∧ sector = cell / 64 * 64 ∧ p.malformed = false ∧ s.dom.selfFailed = false ∧ p.op = opPARITY ∧ s.tier.inFlight = [] ∧
    auxRead p.aux = false ∧ auxRelease p.aux = false ∧ s.fab.dedupOf (auxSource p.aux) p.tag = none) ∧
    (∃ (s : State) (p : Packet) (cell sector : Nat), s.homeFree (linesOf p.addr p.size) ∧ s.unitsFree ∧ s.serves (s.homeIslands p) = true ∧
    cell = dgaCell p.addr ∧ sector = cell / 64 * 64 ∧ p.malformed = false ∧ s.dom.selfFailed = false ∧ p.op = opPARITY ∧ s.tier.inFlight = [] ∧
    auxRead p.aux = true ∧ auxRebuilt p.aux = false ∧ s.notServed sector = false ∧ auxStored p.aux = true) ∧
    (∃ (s : State) (p : Packet) (cell sector : Nat), s.homeFree (linesOf p.addr p.size) ∧ s.unitsFree ∧ s.serves (s.homeIslands p) = true ∧
    cell = dgaCell p.addr ∧ sector = cell / 64 * 64 ∧ p.malformed = false ∧ s.dom.selfFailed = false ∧ p.op = opPARITY ∧ s.tier.inFlight = [] ∧
    auxRead p.aux = false ∧ auxRelease p.aux = true) ∧
    (∃ (s : State) (p : Packet) (cell sector : Nat) (e : _), s.homeFree (linesOf p.addr p.size) ∧ s.unitsFree ∧ s.serves (s.homeIslands p) = true ∧
    cell = dgaCell p.addr ∧ sector = cell / 64 * 64 ∧ p.malformed = false ∧ s.dom.selfFailed = false ∧ p.op = opMIRROR ∧ p.aux % 2 = 0 ∧
    s.fab.dedupOf (auxSource p.aux) p.tag = some e ∧ e.pieces.contains p.addr = true) ∧
    (∃ (s : State) (p : Packet) (cell sector : Nat), s.homeFree (linesOf p.addr p.size) ∧ s.unitsFree ∧ s.serves (s.homeIslands p) = true ∧
    cell = dgaCell p.addr ∧ sector = cell / 64 * 64 ∧ p.malformed = false ∧ s.dom.selfFailed = false ∧ p.op = opPARITY ∧ s.tier.inFlight = [] ∧
    auxRead p.aux = true ∧ auxRebuilt p.aux = false ∧ s.notServed sector = true) :=
  ⟨⟨tP1, tStore (2 ^ 34) 64, 1, 2 ^ 34, 2 ^ 34, homeFree_of (by decide +kernel), unitsFree_of (by decide +kernel), ownServes_of (by decide +kernel),
    by decide +kernel⟩,
   ⟨tMem, tKept opMIRROR 0 64, 2 ^ 34, 2 ^ 34, homeFree_of (by decide +kernel), unitsFree_of (by decide +kernel), by decide +kernel⟩,
   ⟨tMem, tKept opPARITY (0) 64, 2 ^ 34, 2 ^ 34, homeFree_of (by decide +kernel), unitsFree_of (by decide +kernel), by decide +kernel⟩,
   ⟨tMem, tKept opPARITY (2 ^ 8 + 2 ^ 12) 64, 2 ^ 34, 2 ^ 34, homeFree_of (by decide +kernel), unitsFree_of (by decide +kernel), by decide +kernel⟩,
   ⟨tMem, tKept opPARITY (2 ^ 15) 64, 2 ^ 34, 2 ^ 34, homeFree_of (by decide +kernel), unitsFree_of (by decide +kernel), by decide +kernel⟩,
   ⟨({ tMem with fab.dedup := [tSeen 0 9 false [mkDga 1 0 (2 ^ 34)]] } : State), tKept opMIRROR 0 64, 2 ^ 34, 2 ^ 34,
    (tSeen 0 9 false [mkDga 1 0 (2 ^ 34)]), homeFree_of (by decide +kernel), unitsFree_of (by decide +kernel), by decide +kernel⟩,
   ⟨tF F.TIER_T1_CFG_STACK_FAILED 0xFF tMem, tKept opPARITY (2 ^ 8) 64, 2 ^ 34, 2 ^ 34, homeFree_of (by decide +kernel),
    unitsFree_of (by decide +kernel), by decide +kernel⟩⟩

theorem witness_tilesAndBlocks :
    (∃ (s : State) (p : Packet) (cell k : Nat), s.ownServes p ∧ s.homeFree [p.addr / 64] ∧ cell = dgaCell p.addr ∧ k = p.aux % 16 ∧
    s.serves (s.homeIslands p) = true ∧ p.op = opTILE_COMMIT ∧ s.stagedFor p = none) ∧
    (∃ (s : State) (p : Packet) (cell k : Nat) (t : StagedTile), s.ownServes p ∧
    s.homeFree ((t.pieces.vals.flatMap (fun e => linesOf e.1 (e.2.length - 1))).dedup) ∧ (∀ c, s.protection c = 0) ∧ cell = dgaCell p.addr ∧
    k = p.aux % 16 ∧ s.serves (s.homeIslands p) = true ∧ p.op = opTILE_COMMIT ∧ s.stagedFor p = some t ∧
    (∀ e ∈ t.pieces.vals, s.headerAt (dgaCell e.1) e.2.length = none)) ∧
    (∃ (s : State) (p : Packet) (cell k : Nat), k = p.aux % 16 ∧ s.fresh p ∧ cell = dgaCell p.addr ∧ s.serves (s.homeIslands p) = true ∧
    p.op = opSTORE ∧ isStaging p = true ∧ p.malformed = false ∧ s.isSelf (dgaDev p.addr) = true ∧ s.ownerFault p = none ∧ s.tier.staged = []) ∧
    (∃ (s : State) (p : Packet) (cell k : Nat), s.unitsFree ∧ cell = dgaCell p.addr ∧ k = p.aux % 16 ∧ s.serves [18, 22] = true ∧
    p.malformed = false ∧ s.isSelf (dgaDev p.addr) = true ∧ s.ownerFault p = none ∧ s.notServed cell = false ∧ p.op = opBLOCK_READ) ∧
    (∃ (s : State) (p : Packet) (cell k : Nat), s.unitsFree ∧ s.fresh p ∧ cell = dgaCell p.addr ∧ k = p.aux % 16 ∧ s.serves [18, 22] = true ∧
    p.malformed = false ∧ s.isSelf (dgaDev p.addr) = true ∧ s.ownerFault p = none ∧ s.notServed cell = false ∧ p.op = opBLOCK_WRITE ∧
    s.fab.dedupOf p.src p.tag = none ∧ (∀ b ∈ s.fab.blocks, ¬(b.src = p.src ∧ b.tag = p.tag)) ∧ s.fab.blocks.length < 256) ∧
    (∃ (s : State) (p : Packet) (cell k : Nat) (b : BlockBuf) (e : _) (pieces : _) (src : _) (tag : _), s.unitsFree ∧ (∀ c, s.protection c = 0) ∧
    pieces = ((b.pieces.put k (p.payload, p.poison)).vals.zipIdx).map (fun q => (p.addr + 256 * q.2, padTo 256 q.1.1)) ∧ cell = dgaCell p.addr ∧
    k = p.aux % 16 ∧ s.serves [18, 22] = true ∧ p.malformed = false ∧ s.isSelf (dgaDev p.addr) = true ∧ s.ownerFault p = none ∧
    s.notServed cell = false ∧ p.op = opBLOCK_WRITE ∧ s.fab.dedupOf p.src p.tag = some e ∧ e.pending = true ∧
    s.fab.blocks.find? (fun b => b.src == p.src && b.tag == p.tag) = some b ∧ b.pieces.get? k = none ∧
    (b.pieces.put k (p.payload, p.poison)).length = 16 ∧ b.pkt.addr = p.addr ∧ s.serves [] = true ∧
    s.fab.blocks.find? (fun b => b.src == src && b.tag == tag) = some b) :=
  ⟨⟨tMem, tReq opTILE_COMMIT (2 ^ 34) 64, 2 ^ 34, 0, ownServes_of (by decide +kernel), homeFree_of (by decide +kernel), by decide +kernel⟩,
   ⟨tStaged, tReq opTILE_COMMIT (2 ^ 34) 64, 2 ^ 34, 0, tTile, ownServes_of (by decide +kernel), homeFree_of (by decide +kernel),
    protection_of (by decide +kernel), by decide +kernel⟩,
   ⟨tMem, tPiece, 2 ^ 34, tPiece.aux % 16, rfl, fresh_of (by decide +kernel), by decide +kernel⟩,
   ⟨tMem, tBlock opBLOCK_READ 0, dgaCell (mkDga 0 2 4096), 0, unitsFree_of (by decide +kernel), by decide +kernel⟩,
   ⟨tMem, tBlock opBLOCK_WRITE 3, dgaCell (mkDga 0 2 4096), 3, unitsFree_of (by decide +kernel), fresh_of (by decide +kernel), by decide +kernel⟩,
   ⟨tAssembling, tBlock opBLOCK_WRITE 3, dgaCell (mkDga 0 2 4096), 3, tBuf15, (tSeen 1 9 true []),
    ((tBuf15.pieces.put 3 ((tBlock opBLOCK_WRITE 3).payload,
    (tBlock opBLOCK_WRITE 3).poison)).vals.zipIdx).map (fun q => ((tBlock opBLOCK_WRITE 3).addr + 256 * q.2, padTo 256 q.1.1)), 1, 9,
    unitsFree_of (by decide +kernel), protection_of (by decide +kernel), rfl, by decide +kernel⟩⟩

theorem witness_requestsEnd :
    (∃ (s : State), s.serves (tMem.homeIslands (tStore (2 ^ 34) 8)) = true ∧
    ((tStore (2 ^ 34) 8).op == opLOAD && cohKind (tStore (2 ^ 34) 8) == 0) = false) ∧
    (∃ (s : State) (p : Packet), s.serves (({ tMem with dom.selfFailed := true } : State).homeIslands (tStore (2 ^ 34) 8)) = true ∧
    ((tStore (2 ^ 34) 8).op == opSTORE && cohKind (tStore (2 ^ 34) 8) == 0) = true ∧ p.isRequest = true ∧ s.dom.selfFailed = true) ∧
    (∃ (s : State) (p : Packet), s.serves [] = true ∧ 0x80 ≤ p.op ∧ p.op ≠ opFENCE_MARK + 0x80 ∧ s.requestOf p = none) ∧
    (∃ (s : State) (p : Packet) (r : Request) (tag : Nat), s.serves [] = true ∧ 0x80 ≤ p.op ∧ p.op ≠ opFENCE_MARK + 0x80 ∧ s.requestOf p = some r ∧
    r.waiter.apart = false ∧ p.op ≠ opBLOCK_READ + 0x80 ∧ s.fab.waiting = [] ∧ s.fab.reqs.filter (fun r => r.pkt.tag == tag) = [r] ∧
    s.ridesAlong tag = false ∧ s.fab.reqs.find? (fun r => r.pkt.tag == tag) = some r ∧ r.waiter.untilAnswered = false) ∧
    (∃ (s : State) (p : Packet) (r : Request) (tag : Nat), s.serves [] = true ∧ p.op = opFENCE_MARK + 0x80 ∧ s.requestOf p = none ∧
    s.fab.reqs.find? (fun r => r.pkt.tag == tag) = some r ∧ s.ridesAlong tag = false ∧ r.waiter.untilAnswered = true) ∧
    (∃ (s : State) (p : Packet), s.serves [17] = true ∧ s.dom.selfFailed = false ∧ p.op = opRETIRE) ∧
    (∃ (s : State) (p : Packet), s.serves [17] = true ∧ s.dom.selfFailed = false ∧ p.op = opTAG_RESET) ∧
    (∃ (s : State) (p : Packet), s.serves [17] = true ∧ s.dom.selfFailed = false ∧ p.op = opFENCE_MARK ∧ s.markBlocked p = false) ∧
    (∃ (s : State) (p : Packet), s.serves [17] = true ∧ s.dom.selfFailed = false ∧ p.op = opRELAY_DRAIN ∧
    (∀ q ∈ s.sws.voq ++ s.sws.entering, ¬(q.pkt.src = p.src ∧ q.pkt.dst = p.aux % 64))) ∧
    (∃ (s : State) (p : Packet), s.serves [17] = true ∧ s.dom.selfFailed = false ∧ p.op = opFENCE_MARK ∧ s.markBlocked p = true) ∧
    (∃ (s : State) (p : Packet), s.serves [17] = true ∧ s.dom.selfFailed = false ∧ p.op = opRELAY_DRAIN ∧
    (∃ q ∈ s.sws.voq ++ s.sws.entering, q.pkt.src = p.src ∧ q.pkt.dst = p.aux % 64)) ∧
    (∃ (s : State) (p : Packet) (n off : Nat) (e : ChanEntry) (r : RegDef), s.serves [17] = true ∧ s.dom.selfFailed = false ∧
    s.ctl.entryOf p.channel = some (n, e) ∧ s.deepReset = false ∧ off = dgaOff p.addr ∧ off % 8 = 0 ∧ off < 0x1000000 ∧ regDefAt off = some r ∧
    p.op = opWINDOW_READ ∧ p.size = 7) ∧
    (∃ (s : State) (p : Packet) (n v off : Nat) (e : ChanEntry) (r : RegDef) (env : WriteEnv), s.serves [17] = true ∧ s.dom.selfFailed = false ∧
    s.ctl.entryOf p.channel = some (n, e) ∧ s.deepReset = false ∧ off = dgaOff p.addr ∧ off % 8 = 0 ∧ off < 0x1000000 ∧ regDefAt off = some r ∧
    p.op = opWINDOW_WRITE ∧ accessBytes p = natLe 8 v ∧ v < 2 ^ 64 ∧ ¬(0x4000 ≤ off ∧ off < 0x6280) ∧ off ≠ 0x10 ∧
    (commandAt off v env).isNone = true ∧ (∀ k, r.sem = some k → s.semHolder k = some e.seat) ∧
    ((s.take p).touch p.channel).writeFault e.seat (s.bankOf e.seat r.scope) off v = none ∧ (r.fields.map (fun f => f.lo)).Nodup ∧
    (∀ f ∈ r.fields, f.off = off ∧ f.key (s.bankOf e.seat r.scope) ∉ collideKeys)) :=
  ⟨⟨tMem, by decide +kernel⟩,
   ⟨({ tMem with dom.selfFailed := true } : State), tStore (2 ^ 34) 8, by decide +kernel⟩,
   ⟨tMem, tAns tTag, by decide +kernel⟩,
   ⟨({ tMem with fab.reqs := [tAsked .none] } : State), tAns tTag, tAsked .none, tTag, by decide +kernel⟩,
   ⟨({ tMem with fab.reqs := [tAsked (.journal 3)] } : State), ({ tAns 1 with op := opFENCE_MARK + 0x80 } : Packet), tAsked (.journal 3), tTag,
    by decide +kernel⟩,
   ⟨tMem, ({ op := opRETIRE, src := 1, tag := 9, aux := 2 } : Packet), by decide +kernel⟩,
   ⟨tMem, ({ op := opTAG_RESET, vc := 5, src := 1 } : Packet), by decide +kernel⟩,
   ⟨tMem, tMark opFENCE_MARK 4, by decide +kernel⟩,
   ⟨tMem, tMark opRELAY_DRAIN 2, by decide +kernel⟩,
   ⟨({ tMem with sws.delivered := [(18, tReq opLOAD (2 ^ 34) 64), (17, { tMark opFENCE_MARK 4 with vc := vcREQ })] } : State),
    ({ tMark opFENCE_MARK 4 with vc := vcREQ } : Packet), by decide +kernel⟩,
   ⟨({ tMem with sws.voq := [⟨1, 2, { tReq opLOAD (2 ^ 34) 64 with dst := 2 }, 0, false, false⟩] } : State), tMark opRELAY_DRAIN 2,
    by decide +kernel⟩,
   ⟨tFwd, tReg opWINDOW_READ 0x1A0200 ([]), 5, 0x1A0200, (⟨.forwarded 1 0 7, .a⟩ : ChanEntry), R.SEC_KEY_SEL, by decide +kernel⟩,
   ⟨tFwd, tReg opWINDOW_WRITE 0x1A0200 (zeros (0x1A0200 % 64) ++ natLe 8 5 ++ zeros (56 - 0x1A0200 % 64)), 5, 5, 0x1A0200, (⟨.forwarded 1 0 7,
    .a⟩ : ChanEntry), R.SEC_KEY_SEL, tEnv, by decide +kernel⟩⟩

theorem witness_coherentRequests :
    (∃ (s : State) (p : Packet) (line : Nat), s.ownServes p ∧ s.home.setFull line = false ∧ s.serves (s.homeIslands p) = true ∧ s.home.events = [] ∧
    s.fld F.HOME_FILTER_BUSY = 0 ∧ p.addr % 64 = 0 ∧ p.size = 63 ∧ line = p.addr / 64 ∧ s.headerLine p.addr = false ∧ p.op = opLOAD ∧
    s.home.entriesAt line = [] ∧ (s.accessKey? p).isSome = true ∧ cohKind p = kREAD_SHARED ∧ s.grantsI p = false) ∧
    (∃ (s : State) (p : Packet) (line : Nat), s.ownServes p ∧ s.home.setFull line = false ∧ s.serves (s.homeIslands p) = true ∧ s.home.events = [] ∧
    s.fld F.HOME_FILTER_BUSY = 0 ∧ p.addr % 64 = 0 ∧ p.size = 63 ∧ line = p.addr / 64 ∧ s.headerLine p.addr = false ∧ p.op = opLOAD ∧
    s.home.entriesAt line = [] ∧ (s.accessKey? p).isSome = true ∧ cohKind p = kREAD_OWN) ∧
    (∃ (s : State) (p : Packet) (line : Nat) (e : FilterEntry), s.ownServes p ∧ s.home.setFull line = false ∧ s.serves (s.homeIslands p) = true ∧
    s.home.events = [] ∧ s.fld F.HOME_FILTER_BUSY = 0 ∧ p.addr % 64 = 0 ∧ p.size = 63 ∧ line = p.addr / 64 ∧ s.headerLine p.addr = false ∧
    p.op = opLOAD ∧ s.home.entriesAt line = [e] ∧ e.agent ≠ agentOf p ∧ cohKind p = kREAD_OWN) ∧
    (∃ (s : State) (p : Packet) (line : Nat), s.ownServes p ∧ s.home.setFull line = false ∧ s.serves (s.homeIslands p) = true ∧ s.home.events = [] ∧
    s.fld F.HOME_FILTER_BUSY = 0 ∧ p.addr % 64 = 0 ∧ p.size = 63 ∧ line = p.addr / 64 ∧ s.headerLine p.addr = false ∧ p.op = opLOAD ∧
    s.home.entriesAt line = [] ∧ (s.accessKey? p).isSome = true ∧ cohKind p = kUPGRADE) ∧
    (∃ (s : State) (p : Packet) (line : Nat) (e : FilterEntry), s.ownServes p ∧ s.serves (s.homeIslands p) = true ∧ s.home.events = [] ∧
    s.fld F.HOME_FILTER_BUSY = 0 ∧ p.addr % 64 = 0 ∧ p.size = 63 ∧ line = p.addr / 64 ∧ s.headerLine p.addr = false ∧ p.op = opLOAD ∧
    s.home.entriesAt line = [e] ∧ cohKind p = kUPGRADE ∧ e.agent = agentOf p ∧ e.ctx = p.ctx ∧ e.va = s.lineVa p) ∧
    (∃ (s : State) (p : Packet) (line : Nat), s.ownServes p ∧ s.serves (s.homeIslands p) = true ∧ s.home.events = [] ∧ s.fld F.HOME_FILTER_BUSY = 0 ∧
    p.addr % 64 = 0 ∧ p.size = 63 ∧ line = p.addr / 64 ∧ s.headerLine p.addr = false ∧ p.op = opSTORE ∧ cohKind p = kWRITEBACK ∧
    s.home.entryFor (agentOf p) line = none) ∧
    (∃ (s : State) (p : Packet) (line : Nat) (e : FilterEntry), s.ownServes p ∧ s.serves (s.homeIslands p) = true ∧ s.home.events = [] ∧
    s.fld F.HOME_FILTER_BUSY = 0 ∧ p.addr % 64 = 0 ∧ p.size = 63 ∧ line = p.addr / 64 ∧ s.headerLine p.addr = false ∧ p.op = opSTORE ∧
    cohKind p = kWRITEBACK ∧ s.home.entryFor (agentOf p) line = some e ∧ e.state = .x ∧ s.protection (dgaCell p.addr) = 0) :=
  ⟨⟨tHome [], tCoh 1, tLine, ownServes_of (by decide +kernel), setFull_of (by decide +kernel), by decide +kernel⟩,
   ⟨tHome [], tCoh 2, tLine, ownServes_of (by decide +kernel), setFull_of (by decide +kernel), by decide +kernel⟩,
   ⟨tHome [tHeld 5 .x], tCoh 2, tLine, tHeld 5 .x, ownServes_of (by decide +kernel), setFull_of (by decide +kernel), by decide +kernel⟩,
   ⟨tHome [], tCoh 3, tLine, ownServes_of (by decide +kernel), setFull_of (by decide +kernel), by decide +kernel⟩,
   ⟨tHome [tHeld 36 .x], tCoh 3, tLine, tHeld 36 .x, ownServes_of (by decide +kernel), by decide +kernel⟩,
   ⟨tHome [], tWb, tLine, ownServes_of (by decide +kernel), by decide +kernel⟩,
   ⟨tHome [tHeld 36 .x], tWb, tLine, tHeld 36 .x, ownServes_of (by decide +kernel), by decide +kernel⟩⟩

theorem witness_snoopsEnd :
    (∃ (s : State) (p : Packet), s.serves [18] = true ∧ s.dom.selfFailed = false ∧ p.op = 0x10 ∧
    s.home.answered.find? (fun x => x.1 == p.src && x.2.1 == p.tag) = none ∧
    s.home.snoopsIn.any (fun x => x.pkt.src == p.src && x.pkt.tag == p.tag) = false) ∧
    (∃ (s : State) (p : Packet) (x : _), s.serves [18] = true ∧ s.dom.selfFailed = false ∧ p.op = 0x10 ∧
    s.home.answered.find? (fun x => x.1 == p.src && x.2.1 == p.tag) = some x) ∧
    (∃ (s : State) (p : Packet), s.serves [18] = true ∧ s.dom.selfFailed = false ∧ p.op = 0x10 ∧
    s.home.answered.find? (fun x => x.1 == p.src && x.2.1 == p.tag) = none ∧
    s.home.snoopsIn.any (fun x => x.pkt.src == p.src && x.pkt.tag == p.tag) = true) ∧
    (∃ (s : State) (p : Packet) (ev : HomeEv) (n : Snoop), s.serves [18] = true ∧ 0x90 ≤ p.op ∧ p.op ≤ 0x92 ∧ s.fab.waiting = [] ∧
    s.evOfSnoop p.tag = some (ev, n) ∧ bitAt p.aux 3 = false ∧ n.op = 0x10 ∧ p.sectors ≠ 1 ∧ s.home.drops = [] ∧ s.home.events = [ev] ∧
    ev.snoops = [n] ∧ n.tag ≠ s.fab.txTag % 2 ^ 48) ∧
    (∃ (s : State) (p : Packet) (ev : HomeEv) (n : Snoop), s.serves [18] = true ∧ 0x90 ≤ p.op ∧ p.op ≤ 0x92 ∧ s.fab.waiting = [] ∧
    s.evOfSnoop p.tag = some (ev, n) ∧ bitAt p.aux 3 = false ∧ n.op = 0x10 ∧ p.sectors = 1 ∧ p.aux % 8 = 4 ∧ s.headerLine (n.line * 64) = false ∧
    s.notServed (dgaCell (n.line * 64)) = false ∧ s.protection (dgaCell (n.line * 64)) = 0) ∧
    (∃ (s : State) (p : Packet) (ev : HomeEv) (n : Snoop), s.serves [18] = true ∧ 0x90 ≤ p.op ∧ p.op ≤ 0x92 ∧ s.fab.waiting = [] ∧
    s.evOfSnoop p.tag = some (ev, n) ∧ bitAt p.aux 3 = false ∧ n.op = 0x11 ∧ p.sectors ≠ 1 ∧ p.aux % 8 ≠ 0) ∧
    (∃ (s : State) (p : Packet), s.serves [18] = true ∧ 0x90 ≤ p.op ∧ p.op ≤ 0x92 ∧ s.fab.waiting = [] ∧ s.evOfSnoop p.tag = none) ∧
    (∃ (s : State) (p : Packet) (ev : HomeEv), s.serves [18] = true ∧ p.op = 0x16 ∧
    s.home.events.find? (fun e => e.grant.isSome && e.pkt.tag == p.tag && e.pkt.src == p.src) = some ev) ∧
    (∃ (s : State) (p : Packet), s.serves [18] = true ∧ p.op = 0x16 ∧
    s.home.events.find? (fun e => e.grant.isSome && e.pkt.tag == p.tag && e.pkt.src == p.src) = none) ∧
    (∃ (s : State) (ev : HomeEv) (c va : Nat), s.serves [18] = true ∧ s.home.rangeScans.find? (fun e => e.recallOf == some (c, va)) = some ev) :=
  ⟨⟨tMem, tSnoop 0x10, by decide +kernel⟩,
   ⟨({ tMem with home.answered := [(1, 9, tSnoopAns 0x10 0 0)] } : State), tSnoop 0x10, ((1, 9, tSnoopAns 0x10 0 0) : Nat × Nat × Packet),
    by decide +kernel⟩,
   ⟨({ tMem with home.snoopsIn := [⟨tSnoop 0x10, 4⟩] } : State), tSnoop 0x10, by decide +kernel⟩,
   ⟨tSnooping 0x10, tSnoopAns 0x10 0 0, tEvent 0x10, tAskedOf 0x10, by decide +kernel⟩,
   ⟨tSnooping 0x10, tSnoopAns 0x10 4 1, tEvent 0x10, tAskedOf 0x10, by decide +kernel⟩,
   ⟨tSnooping 0x11, tSnoopAns 0x11 4 0, tEvent 0x11, tAskedOf 0x11, by decide +kernel⟩,
   ⟨tMem, tSnoopAns 0x10 0 0, by decide +kernel⟩,
   ⟨({ tHome [tHeld 36 .x] with home.events := [tGranted] } : State), ({ op := 0x16, vc := 1, src := 1, dst := 0, tag := 9 } : Packet), tGranted,
    by decide +kernel⟩,
   ⟨tMem, ({ op := 0x16, vc := 1, src := 1, dst := 0, tag := 9 } : Packet), by decide +kernel⟩,
   ⟨({ tMem with home.rangeScans := [tScan] } : State), tScan, 3, 2 ^ 32, by decide +kernel⟩⟩

theorem witness_agents :
    (∃ (s : State) (a d : Nat) (p q : Packet) (x : Xlated), s.translate p.ctx p.addr (p.size + 1) (agentRight p) = .ok x ∧
    s.route x.dga x.ext.cls = .ok d ∧ s.serves [17] = true ∧ a < 32 ∧ q = { p with excess := false } ∧ s.agentFault a p = none ∧
    p.op ≠ opAGENT_FENCE ∧ (s.shaper (shaperIndex (aportCode a) p.vc)).mode ≠ 2 ∧ s.agentHeld a q = false) ∧
    (∃ (s : State) (ch : ChanId) (m a : Nat) (x : SeatId), s.commandedBy ch m x ∧ a < 32 ∧ s.serves [18] = true ∧ s.aportState a = apATTACHED ∧
    (s.aportState a = apATTACHED ∨ s.aportState a = apFLUSHING)) ∧
    (∃ (s : State) (a : Nat) (p q : Packet) (st : _), s.serves [17] = true ∧ a < 32 ∧ q = { p with excess := false } ∧ s.agentFault a p = some st) ∧
    (∃ (s : State) (a : Nat) (p q : Packet), s.serves [17] = true ∧ a < 32 ∧ q = { p with excess := false } ∧ s.agentFault a p = none ∧
    shapedVc p.vc = true ∧ (s.police (aportCode a) p.vc p.bytes).1 = none) ∧
    (∃ (s : State) (a : Nat) (p q : Packet), s.serves [17] = true ∧ a < 32 ∧ q = { p with excess := false } ∧ s.agentFault a p = none ∧
    p.op ≠ opAGENT_FENCE ∧ (s.shaper (shaperIndex (aportCode a) p.vc)).mode ≠ 2 ∧ s.agentHeld a q = true) ∧
    (∃ (s : State) (a : Nat) (p q : Packet) (st : _) (addr : _), s.translate p.ctx p.addr (p.size + 1) (agentRight p) = .error (st, addr) ∧
    s.serves [17] = true ∧ a < 32 ∧ q = { p with excess := false } ∧ s.agentFault a p = none ∧ p.op ≠ opAGENT_FENCE ∧
    (s.shaper (shaperIndex (aportCode a) p.vc)).mode ≠ 2 ∧ s.agentHeld a q = false) ∧
    (∃ (s : State) (a : Nat) (p q : Packet), s.serves [17] = true ∧ a < 32 ∧ q = { p with excess := false } ∧ p.op = opAGENT_FENCE ∧
    (s.fab.fences.filter (fun f => match f.agent with | some (z, _) => z == aportCode a | none => false)).length < 16) ∧
    (∃ (s : State) (a : Nat) (p q : Packet), s.serves [17] = true ∧ a < 32 ∧ q = { p with excess := false } ∧ p.op = opAGENT_FENCE ∧
    16 ≤ (s.fab.fences.filter (fun f => match f.agent with | some (z, _) => z == aportCode a | none => false)).length) ∧
    (∃ (s : State) (ch : ChanId) (m a : Nat) (x : SeatId) (p : Packet), s.fresh p ∧ s.commandedBy ch m x ∧ a < 32 ∧ s.serves [18] = true ∧
    s.aportState a ≠ apATTACHED ∧ s.dom.selfFailed = false ∧ p.op = 0x15 ∧ p.aux % 32 = a ∧ s.aportState a ≠ apFLUSHING) ∧
    (∃ (s : State) (a : Nat) (p : Packet) (d : DropScan), s.fresh p ∧ a < 32 ∧ s.serves [18] = true ∧ s.dom.selfFailed = false ∧ p.op = 0x14 ∧
    s.home.scans.find? (fun d => d.pkt.src == p.src && d.pkt.tag == p.tag) = some d) :=
  ⟨⟨tAport 1, 3, 0, tAgentReq opLOAD (2 ^ 32) 64, ({ (tAgentReq opLOAD (2 ^ 32) 64) with excess := false } : Packet),
    ((tAport 1).translate 3 (2 ^ 32) 64 (agentRight (tAgentReq opLOAD (2 ^ 32) 64))).toOption.getD ⟨0, tExt 0 0 0 0 0 0⟩, ok_of (by decide +kernel),
    ok_of (by decide +kernel), by decide +kernel⟩,
   ⟨tAport 1, (.i3c : ChanId), 0, 3, (.a : SeatId), commandedBy_of (by decide +kernel), by decide +kernel⟩,
   ⟨tAport 1, 3, ({ tAgentReq opLOAD (2 ^ 32) 64 with pkey := 3 } : Packet),
    ({ ({ tAgentReq opLOAD (2 ^ 32) 64 with pkey := 3 } : Packet) with excess := false } : Packet), .keyMismatch, by decide +kernel⟩,
   ⟨({ tAport 1 with sws.shapers := [(shaperIndex (aportCode 3) vcREQ, ⟨2, 100, 200, 10, 10, 5, 6, 0⟩)] } : State), 3, tAgentReq opLOAD (2 ^ 32) 64,
    ({ (tAgentReq opLOAD (2 ^ 32) 64) with excess := false } : Packet), by decide +kernel⟩,
   ⟨({ tAport 1 with xlt.invalidating := [(3, 2 ^ 32, .withdrawing)] } : State), 3, tAgentReq opLOAD (2 ^ 32) 64,
    ({ (tAgentReq opLOAD (2 ^ 32) 64) with excess := false } : Packet), by decide +kernel⟩,
   ⟨tAport 1, 3, tAgentReq opLOAD (2 ^ 36) 4, ({ (tAgentReq opLOAD (2 ^ 36) 4) with excess := false } : Packet), .noXlate, 2 ^ 36,
    error_of (by decide +kernel), by decide +kernel⟩,
   ⟨tAport 1, 3, tFence, ({ (tFence) with excess := false } : Packet), by decide +kernel⟩,
   ⟨({ tAport 1 with fab.fences := (List.range 16).map (fun i => ⟨some (0x43, i), none, [], [], 0⟩) } : State), 3, tFence,
    ({ (tFence) with excess := false } : Packet), by decide +kernel⟩,
   ⟨tAport 0, (.i3c : ChanId), 0, 3, (.a : SeatId), tDrop 0x15 3, fresh_of (by decide +kernel), commandedBy_of (by decide +kernel),
    by decide +kernel⟩,
   ⟨({ tAport 1 with home.scans := [tDropScan] } : State), 3, tDrop 0x14 36, tDropScan, fresh_of (by decide +kernel), by decide +kernel⟩⟩

theorem witness_collectives :
    (∃ (s : State) (p : Packet) (r : CollRun) (w : Work) (id low key : Nat), s.fresh p ∧ s.serves [17] = true ∧ s.dom.selfFailed = false ∧
    id = p.addr / 2 ^ 32 ∧ low = p.addr % 2 ^ 32 ∧ p.op = opREDUCE ∧ s.collFor p.pkey id = some r ∧ s.workOf r.tag = some w ∧
    s.collRun r.tag = some r ∧ p.aux % 8 = 0 ∧ r.opened = true ∧ s.collFor key id = some r) ∧
    (∃ (s : State) (p : Packet) (id low key : Nat) (a : EarlyAbort), s.fresh p ∧ s.serves [17] = true ∧ s.dom.selfFailed = false ∧
    id = p.addr / 2 ^ 32 ∧ low = p.addr % 2 ^ 32 ∧ p.op = opREDUCE ∧ s.collFor p.pkey id = none ∧ p.aux % 8 = 0 ∧ s.collFor key id = none ∧
    s.coll.aborts.find? (fun a => a.key == key && a.id == id) = some a) ∧
    (∃ (s : State) (p : Packet) (r : CollRun) (w : Work) (id low : Nat), s.fresh p ∧ s.serves [17] = true ∧ s.dom.selfFailed = false ∧
    id = p.addr / 2 ^ 32 ∧ low = p.addr % 2 ^ 32 ∧ p.op = opREDUCE ∧ s.collFor p.pkey id = some r ∧ s.workOf r.tag = some w ∧
    s.collRun r.tag = some r ∧ p.aux % 8 = 1) ∧
    (∃ (s : State) (p : Packet) (r : CollRun) (w : Work) (id low : Nat), s.fresh p ∧ s.serves [17] = true ∧ s.dom.selfFailed = false ∧
    id = p.addr / 2 ^ 32 ∧ low = p.addr % 2 ^ 32 ∧ p.op = opREDUCE ∧ s.collFor p.pkey id = some r ∧ s.workOf r.tag = some w ∧
    s.collRun r.tag = some r ∧ p.aux % 8 = 2) ∧
    (∃ (s : State) (p : Packet) (r : CollRun) (w : Work) (id low : Nat), s.fresh p ∧ s.serves [17] = true ∧ s.dom.selfFailed = false ∧
    id = p.addr / 2 ^ 32 ∧ low = p.addr % 2 ^ 32 ∧ p.op = opREDUCE ∧ s.collFor p.pkey id = some r ∧ s.workOf r.tag = some w ∧
    s.collRun r.tag = some r ∧ p.aux % 8 = 3 ∧ (r.granters.contains p.src = true ∨ field p.payload 0 4 = r.dcrc)) ∧
    (∃ (s : State) (p : Packet) (id low : Nat), s.fresh p ∧ s.serves [17] = true ∧ s.dom.selfFailed = false ∧ id = p.addr / 2 ^ 32 ∧
    low = p.addr % 2 ^ 32 ∧ p.op = opREDUCE ∧ s.collFor p.pkey id = none ∧ p.aux % 8 = 3) ∧
    (∃ (s : State) (p : Packet) (r : CollRun) (w : Work) (id low : Nat), s.fresh p ∧ s.serves [17] = true ∧ s.dom.selfFailed = false ∧
    id = p.addr / 2 ^ 32 ∧ low = p.addr % 2 ^ 32 ∧ p.op = opREDUCE ∧ s.collFor p.pkey id = some r ∧ s.workOf r.tag = some w ∧
    s.collRun r.tag = some r ∧ p.aux % 8 = 4) ∧
    (∃ (s : State) (p : Packet) (id low : Nat), s.fresh p ∧ s.serves [17] = true ∧ s.dom.selfFailed = false ∧ id = p.addr / 2 ^ 32 ∧
    low = p.addr % 2 ^ 32 ∧ p.op = opREDUCE ∧ s.collFor p.pkey id = none ∧ p.aux % 8 = 4) ∧
    (∃ (s : State) (p : Packet) (r : CollRun) (w : Work) (id low : Nat), s.fresh p ∧ s.serves [17] = true ∧ s.dom.selfFailed = false ∧
    id = p.addr / 2 ^ 32 ∧ low = p.addr % 2 ^ 32 ∧ p.op = opREDUCE ∧ s.collFor p.pkey id = some r ∧ s.workOf r.tag = some w ∧
    s.collRun r.tag = some r ∧ p.aux % 8 = 0 ∧ r.opened = false) :=
  ⟨⟨tCollState true, tCollMsg 0 33 0 (natLe 4 0x3F800000 ++ zeros 252), tCollRun true, tCollWork, 33, 0, 0x51, fresh_of (by decide +kernel),
    by decide +kernel⟩,
   ⟨tCollState true, tCollMsg 0 34 0 (natLe 4 0x3F800000 ++ zeros 252), 34, 0, 0x51, (⟨0x51, 34, .timeout, 5⟩ : EarlyAbort),
    fresh_of (by decide +kernel), by decide +kernel⟩,
   ⟨tCollState true, tCollMsg 1 33 0 (natLe 4 0x3F800000 ++ zeros 252), tCollRun true, tCollWork, 33, 0, fresh_of (by decide +kernel),
    by decide +kernel⟩,
   ⟨tCollState true, tCollMsg 2 33 0 (zeros 64), tCollRun true, tCollWork, 33, 0, fresh_of (by decide +kernel), by decide +kernel⟩,
   ⟨tCollState true, tCollMsg 3 33 0 (natLe 4 (collDcrc tColl)), tCollRun true, tCollWork, 33, 0, fresh_of (by decide +kernel), by decide +kernel⟩,
   ⟨tCollState true, tCollMsg 3 34 0 (natLe 4 (collDcrc tColl)), 34, 0, fresh_of (by decide +kernel), by decide +kernel⟩,
   ⟨tCollState true, tCollMsg 4 33 0 ([]), tCollRun true, tCollWork, 33, 0, fresh_of (by decide +kernel), by decide +kernel⟩,
   ⟨tCollState true, tCollMsg 4 34 0 ([]), 34, 0, fresh_of (by decide +kernel), by decide +kernel⟩,
   ⟨tCollState false, tCollMsg 0 33 0 (natLe 4 0x3F800000 ++ zeros 252), tCollRun false, tCollWork, 33, 0, fresh_of (by decide +kernel),
    by decide +kernel⟩⟩

theorem witness_poolsAndTables :
    (∃ (s : State) (p : Packet) (t n : Nat), s.fresh p ∧ s.serves [19] = true ∧ s.dom.selfFailed = false ∧ t = bitsOf p.aux 8 8 ∧ p.op = opREDUCE ∧
    p.aux % 8 = 5 ∧ p.pkey = s.keyOf (s.tblPartition t) ∧ s.slotOf t (field p.payload 0 4) = some n ∧
    s.poolServeOf p.src (field p.payload 4 4) = none ∧ 1 < field p.payload 8 4) ∧
    (∃ (s : State) (p : Packet) (t : Nat), s.fresh p ∧ s.serves [19] = true ∧ s.dom.selfFailed = false ∧ t = bitsOf p.aux 8 8 ∧ p.op = opREDUCE ∧
    p.aux % 8 = 5 ∧ p.pkey = s.keyOf (s.tblPartition t) ∧ s.slotOf t (field p.payload 0 4) = none) ∧
    (∃ (s : State) (p : Packet) (t m : Nat) (r : PoolRun), s.fresh p ∧ s.serves [19] = true ∧ s.dom.selfFailed = false ∧ t = bitsOf p.aux 8 8 ∧
    p.op = opREDUCE ∧ p.aux % 8 = 6 ∧
    s.emb.runs.find? (fun r => r.phaseId == p.addr / 2 ^ 32 && (r.expected.get? p.src).isSome && r.failed == none) = some r ∧
    p.pkey = s.keyOf (s.tblPartition r.table) ∧ r.expected.get? p.src = some m) ∧
    (∃ (s : State) (p : Packet) (t : Nat), s.fresh p ∧ s.serves [19] = true ∧ s.dom.selfFailed = false ∧ t = bitsOf p.aux 8 8 ∧ p.op = opREDUCE ∧
    p.aux % 8 = 6 ∧ s.emb.runs.find? (fun r => r.phaseId == p.addr / 2 ^ 32 && (r.expected.get? p.src).isSome && r.failed == none) = none) ∧
    (∃ (s : State) (p : Packet) (t n : Nat), s.fresh p ∧ s.serves [19] = true ∧ s.dom.selfFailed = false ∧ t = bitsOf p.aux 8 8 ∧ p.op = opREDUCE ∧
    p.aux % 8 = 7 ∧ p.src < 64 ∧ p.pkey = s.keyOf (s.tblPartition t) ∧ s.slotOf t (p.addr / 2 ^ 32) = some n) ∧
    (∃ (s : State) (p : Packet) (t : Nat), s.fresh p ∧ s.serves [19] = true ∧ s.dom.selfFailed = false ∧ t = bitsOf p.aux 8 8 ∧ p.op = opREDUCE ∧
    p.pkey ≠ s.keyOf (s.tblPartition t) ∧ p.aux % 8 = 5) ∧
    (∃ (s : State) (ch : ChanId) (m t v : Nat) (x : SeatId), s.commandedBy ch m x ∧ t = s.fld F.EMB_TBL_SEL_TABLE x.idx ∧
    v = s.fld F.EMB_VER_STAGE_VERSION x.idx ∧ s.fld F.EMB_TBL_CFG_STATE t = tbUNDEFINED ∧ s.tableOk t = true ∧
    s.fld F.EMB_TBL_CFG_STATE t ≠ tbDEFINED) ∧
    (∃ (s : State) (ch : ChanId) (m t v : Nat) (x : SeatId) (st : _), s.commandedBy ch m x ∧ s.installCheck x t = .error st ∧ v = 0 ∧
    t = s.fld F.EMB_TBL_SEL_TABLE x.idx ∧ v = s.fld F.EMB_VER_STAGE_VERSION x.idx ∧ s.fld F.EMB_TBL_CFG_STATE t ≠ tbUNDEFINED ∧
    s.fld F.EMB_TBL_CFG_STATE t = tbDEFINED) ∧
    (∃ (s : State) (ch : ChanId) (m t v : Nat) (x : SeatId) (shard : _) (n : _), s.commandedBy ch m x ∧ s.installCheck x t = .ok shard ∧
    t = s.fld F.EMB_TBL_SEL_TABLE x.idx ∧ v = s.fld F.EMB_VER_STAGE_VERSION x.idx ∧ n = (s.slotsIn t vFREE).headD 0 ∧ v ≠ 0 ∧ s.slotOf t v = none) ∧
    (∃ (s : State) (ch : ChanId) (m t v : Nat) (x : SeatId) (n : _), s.commandedBy ch m x ∧ t = s.fld F.EMB_TBL_SEL_TABLE x.idx ∧
    v = s.fld F.EMB_VER_STAGE_VERSION x.idx ∧ v ≠ 0 ∧ s.slotOf t v = some n ∧ s.slotState t n = vINSTALLED ∧
    (∀ c, (s.slotsIn t vCURRENT).head? = some c → s.slotVersion t c < v)) ∧
    (∃ (s : State) (ch : ChanId) (m t v : Nat) (x : SeatId) (n : _), s.commandedBy ch m x ∧ t = s.fld F.EMB_TBL_SEL_TABLE x.idx ∧
    v = s.fld F.EMB_VER_STAGE_VERSION x.idx ∧ v ≠ 0 ∧ s.slotOf t v = some n ∧ s.slotState t n ≠ vINSTALLED) ∧
    (∃ (s : State) (ch : ChanId) (m t v : Nat) (x : SeatId), s.commandedBy ch m x ∧ t = s.fld F.EMB_TBL_SEL_TABLE x.idx ∧
    v = s.fld F.EMB_VER_STAGE_VERSION x.idx ∧ s.fld F.EMB_TBL_CFG_STATE t = tbUNDEFINED ∧ s.tableOk t = false) :=
  ⟨⟨tPooled, tPoolMsg 5 6 (natLe 4 5 ++ natLe 4 6 ++ natLe 4 4 ++ zeros 52), 2, 0, fresh_of (by decide +kernel), by decide +kernel⟩,
   ⟨tPooled, tPoolMsg 5 6 (natLe 4 8 ++ natLe 4 6 ++ natLe 4 4 ++ zeros 52), 2, fresh_of (by decide +kernel), by decide +kernel⟩,
   ⟨tPooled, tPoolMsg 6 6 (zeros 64), 2, 64, tPoolRun, fresh_of (by decide +kernel), by decide +kernel⟩,
   ⟨tPooled, tPoolMsg 6 7 (zeros 64), 2, fresh_of (by decide +kernel), by decide +kernel⟩,
   ⟨tPooled, ({ tPoolMsg 7 5 [] with size := 0 } : Packet), 2, 0, fresh_of (by decide +kernel), by decide +kernel⟩,
   ⟨tPooled, ({ tPoolMsg 5 6 (zeros 64) with pkey := 7 } : Packet), 2, fresh_of (by decide +kernel), by decide +kernel⟩,
   ⟨tStageVer 0 3 (2 ^ 32) (tTable 0 []), (.i3c : ChanId), 0, 2, 0, (.a : SeatId), commandedBy_of (by decide +kernel), by decide +kernel⟩,
   ⟨tStageVer 0 3 (2 ^ 32) (tTable tbDEFINED []), (.i3c : ChanId), 0, 2, 0, (.a : SeatId), .badDescriptor, commandedBy_of (by decide +kernel),
    error_of (by decide +kernel), rfl, by decide +kernel⟩,
   ⟨tStageVer 5 3 (2 ^ 32) (tTable tbDEFINED []), (.i3c : ChanId), 0, 2, 5, (.a : SeatId),
    ((tStageVer 5 3 (2 ^ 32) (tTable tbDEFINED [])).installCheck .a 2).toOption.getD none, 0, commandedBy_of (by decide +kernel),
    ok_of (by decide +kernel), by decide +kernel⟩,
   ⟨tStageVer 5 3 (2 ^ 32) (tTable tbDEFINED [(vINSTALLED, 5)]), (.i3c : ChanId), 0, 2, 5, (.a : SeatId), 0, commandedBy_of (by decide +kernel),
    by decide +kernel⟩,
   ⟨tStageVer 5 3 (2 ^ 32) (tTable tbDEFINED [(vCURRENT, 5)]), (.i3c : ChanId), 0, 2, 5, (.a : SeatId), 0, commandedBy_of (by decide +kernel),
    by decide +kernel⟩,
   ⟨tF F.EMB_TBL_DEFAULT_VALUE 3 (tF F.EMB_TBL_SEL_TABLE 2 tMem), (.i3c : ChanId), 0, 2, 0, (.a : SeatId), commandedBy_of (by decide +kernel),
    by decide +kernel⟩⟩

theorem witness_searches :
    (∃ (s : State) (tag n : Nat) (w : Work) (r : SearchRun) (g : Segment), s.serves [22] = true ∧ n < 24 ∧ s.workOf tag = some w ∧
    s.searchRun tag = some r ∧ r.stage ≠ 2 ∧ r.stage ≠ 6 ∧ s.vs.segments.find? (fun g => g.unit == n) = some g ∧ g.data = none ∧
    s.vs.segments.find? (fun g => g.unit == n && g.begun.isSome) = none ∧ s.sloeState n ≠ slIDLE ∧ s.sloeState n ≠ slSCAN) ∧
    (∃ (s : State) (tag n : Nat) (w : Work) (r : SearchRun) (g : Segment), s.serves [22] = true ∧ n < 24 ∧ s.workOf tag = some w ∧
    s.searchRun tag = some r ∧ r.stage = 6 ∧ s.vs.segments.find? (fun g => g.unit == n) = some g ∧ g.data.isSome = true ∧
    s.searchRun g.tag = some r ∧ s.workOf g.tag = some w ∧ s.vs.segments.find? (fun g => g.unit == n && g.begun.isSome) = some g ∧
    (s.sloeState n = slIDLE ∨ s.sloeState n = slSCAN)) ∧
    (∃ (s : State) (tag n : Nat) (w : Work) (r : SearchRun), s.serves [22] = true ∧ n < 24 ∧ s.workOf tag = some w ∧ s.searchRun tag = some r ∧
    r.stage = 2 ∧ (s.searchCore w).isSome = true ∧ s.vs.segments.find? (fun g => g.unit == n) = none) :=
  ⟨⟨tScans 0 false false 0, 77, 3, tSearchWork, tSearchRun 0, tSegment false false, by decide +kernel⟩,
   ⟨tScans 6 true true 1, 77, 3, tSearchWork, tSearchRun 6, tSegment true true, by decide +kernel⟩,
   ⟨({ (tMem.setCore 2 { blankCore 2 with state := .idle }) with works := [tSearchWork], vs.runs := [tSearchRun 2] } : State), 77, 3, tSearchWork,
    tSearchRun 2, by decide +kernel⟩⟩

theorem witness_queuePairs :
    (∃ (s : State) (ch : ChanId) (n qp : Nat) (x : SeatId), s.commandedBy ch n x ∧ qp = s.fld F.ETH_QP_SEL_QP x.idx ∧ s.qpState qp = .reset ∧
    (windowQp ≤ qp ∨ (s.ctxEnabled qp = true ∧ s.ethPortOn (s.qpPort qp) false = true)) ∧ s.qpState qp ≠ .init ∧
    (s.qpState qp = .reset ∨ s.qpState qp = .error)) ∧
    (∃ (s : State) (ch : ChanId) (n qp : Nat) (x : SeatId), s.commandedBy ch n x ∧ qp = s.fld F.ETH_QP_SEL_QP x.idx ∧ s.qpState qp ≠ .reset ∧
    s.qpState qp = .init ∧ s.ethPortOn (s.qpPort qp) (decide (qp ≥ windowQp)) = true ∧
    (s.fld F.ETH_QP_CFG_SEND_EN qp ≠ 1 ∨ s.queueCtx (s.fld F.ETH_QP_CFG_SEND_QUEUE qp) = qp) ∧ s.qpState qp ≠ .rtr ∧ s.qpState qp ≠ .error ∧
    (s.qpState qp ≠ .rts ∨ (qp < windowQp ∧ ∀ q ∈ s.qx.keys, s.queueCtx q ≠ qp)) ∧ (s.qpx qp).outstanding = [] ∧ s.eth.xferA = none ∧
    s.eth.xferB = none) ∧
    (∃ (s : State) (ch : ChanId) (n qp : Nat) (x : SeatId), s.commandedBy ch n x ∧ qp = s.fld F.ETH_QP_SEL_QP x.idx ∧ s.qpState qp = .init ∧
    s.ethPortOn (s.qpPort qp) (decide (qp ≥ windowQp)) = true ∧ s.fld F.ETH_QP_CFG_SEND_EN qp = 1 ∧
    s.queueCtx (s.fld F.ETH_QP_CFG_SEND_QUEUE qp) ≠ qp) ∧
    (∃ (s : State) (ch : ChanId) (n qp : Nat) (x : SeatId), s.commandedBy ch n x ∧ qp = s.fld F.ETH_QP_SEL_QP x.idx ∧ s.qpState qp = .rtr) :=
  ⟨⟨tQp 3 0, (.i3c : ChanId), 0, 3, (.a : SeatId), commandedBy_of (by decide +kernel), by decide +kernel⟩,
   ⟨tQp 3 1, (.i3c : ChanId), 0, 3, (.a : SeatId), commandedBy_of (by decide +kernel), by decide +kernel⟩,
   ⟨tSend 3 0 (tQp 3 1), (.i3c : ChanId), 0, 3, (.a : SeatId), commandedBy_of (by decide +kernel), by decide +kernel⟩,
   ⟨tQp 3 2, (.i3c : ChanId), 0, 3, (.a : SeatId), commandedBy_of (by decide +kernel), by decide +kernel⟩⟩

theorem witness_hostRequests :
    (∃ (s v : State) (qp psn va rkey len : Nat) (bs : List Byte) (t : Xlated) (d : Nat), s.hostTurn v qp psn bs.length ∧
    v.regionCheck qp va rkey bs.length rWRITE = .ok t ∧ s.hostTurn v qp psn 0 ∧ v.regionCheck qp va rkey len rREAD = .ok t ∧ s.hostTurn v qp psn 8 ∧
    v.regionCheck qp va rkey 8 rATOMIC = .ok t ∧ v.route t.dga t.ext.cls = .ok d ∧ s.serves [24] = true ∧ qp < windowQp ∧ bs ≠ [] ∧ len ≠ 0 ∧
    t.dga % 8 = 0 ∧ (v.fld F.ETH_QP_CFG_SEND_EN qp = 0 ∨ bs.length % 64 ≠ 0 ∨ bs = [] ∨ 4096 < bs.length) ∧ s.qpState qp = .rts ∧
    (s.qpx qp).outstanding = []) ∧
    (∃ (s v : State) (qp psn va rkey len : Nat) (bs : List Byte) (e : _), s.hostTurn v qp psn bs.length ∧
    v.regionCheck qp va rkey bs.length rWRITE = .error e ∧ s.hostTurn v qp psn 0 ∧ v.regionCheck qp va rkey len rREAD = .error e ∧
    s.hostTurn v qp psn 8 ∧ v.regionCheck qp va rkey 8 rATOMIC = .error e ∧ s.serves [24] = true ∧ qp < windowQp ∧ bs ≠ [] ∧ len ≠ 0) ∧
    (∃ (s : State) (qp : Nat), s.serves [24] = true ∧ s.qpAccepts qp = false ∧ s.qpState qp ≠ .rts) ∧
    (∃ (s v : State) (qp : Nat), s.policeAll (portEth (s.qpPort qp)) vcREQ (s.frameLens qp ((zeros 64).length)) = (none, v) ∧ s.serves [24] = true ∧
    s.qpAccepts qp = true) ∧
    (∃ (s v : State) (qp psn : Nat), s.hostAdmits v qp psn 8 ∧ s.serves [24] = true ∧ (v.qpBusy qp = true ∨ (v.qpx qp).waiting ≠ [])) ∧
    (∃ (s v : State) (qp psn va rkey len : Nat), s.hostTurn v qp psn 0 ∧ s.serves [24] = true ∧ windowQp ≤ qp ∧
    (rkey ≠ 0 ∨ dgaWin va ≠ 3 ∨ len = 0 ∨ 4096 < len)) ∧
    (∃ (s v : State) (qp psn : Nat) (bs : List Byte) (q : _) (m : _) (k : _) (base : _), s.hostTurn v qp psn bs.length ∧ v.ringBase q = .ok base ∧
    s.serves [24] = true ∧ qp < windowQp ∧ v.fld F.ETH_QP_CFG_SEND_EN qp ≠ 0 ∧ bs.length % 64 = 0 ∧ bs ≠ [] ∧ bs.length ≤ 4096 ∧
    q = v.fld F.ETH_QP_CFG_SEND_QUEUE qp ∧ m = mod32 (v.sendTail q + bs.length / 64) ∧ k = v.queueK q ∧ diff32 m (v.queueHead q) ≤ 2 ^ k) ∧
    (∃ (s v : State) (qp psn : Nat) (bs : List Byte) (q : _) (m : _) (k : _), s.hostTurn v qp psn bs.length ∧ s.serves [24] = true ∧ qp < windowQp ∧
    v.fld F.ETH_QP_CFG_SEND_EN qp ≠ 0 ∧ bs.length % 64 = 0 ∧ bs ≠ [] ∧ bs.length ≤ 4096 ∧ q = v.fld F.ETH_QP_CFG_SEND_QUEUE qp ∧
    m = mod32 (v.sendTail q + bs.length / 64) ∧ k = v.queueK q ∧ 2 ^ k < diff32 m (v.queueHead q)) ∧
    (∃ (s : State) (qp psn code : Nat) (bs : List Byte) (r : EthReq) (done : _) (rest : _), s.serves [24] = true ∧ s.qpState qp = .rts ∧
    done = covered psn (!bs.isEmpty) (s.qpx qp).outstanding ∧ code ≠ 0 ∧ code ≠ 2 ∧ (s.qpx qp).outstanding.find? (fun r => r.psn == psn) = some r ∧
    (s.qpx qp).outstanding = r :: rest ∧ r.tries < s.fld F.ETH_QP_CFG_RETRY qp) ∧
    (∃ (s : State) (qp : Nat) (r : EthReq) (rest : _), s.serves [24] = true ∧ (s.qpx qp).outstanding = r :: rest ∧
    s.fld F.ETH_QP_CFG_RETRY qp ≤ r.tries) :=
  ⟨⟨tRts 7, tPoliced (tRts 7) 3 8, 3, 7, 2 ^ 32, (2 * 65536 + 4), 64, zeros 8,
    ((tPoliced (tRts 7) 3 8).regionCheck 3 (2 ^ 32) (2 * 65536 + 4) 8 rATOMIC).toOption.getD ⟨0, tExt 0 0 0 0 0 0⟩, 0,
    hostTurn_of rfl (by decide +kernel), ok_of (by decide +kernel), hostTurn_of rfl (by decide +kernel), ok_of (by decide +kernel),
    hostTurn_of rfl (by decide +kernel), ok_of (by decide +kernel), ok_of (by decide +kernel), by decide +kernel⟩,
   ⟨tRts 0, tPoliced (tRts 0) 3 8, 3, 7, 2 ^ 32, (2 * 65536 + 4), 64, zeros 64, (.access, none), hostTurn_of rfl (by decide +kernel),
    error_of (by decide +kernel), hostTurn_of rfl (by decide +kernel), error_of (by decide +kernel), hostTurn_of rfl (by decide +kernel),
    error_of (by decide +kernel), by decide +kernel⟩,
   ⟨tQp 3 1, 3, by decide +kernel⟩,
   ⟨tPolice (tRts 7), tPoliced (tPolice (tRts 7)) 3 64, 3, policed_of rfl (by decide +kernel), by decide +kernel⟩,
   ⟨tWait (tRts 7), tPoliced (tWait (tRts 7)) 3 8, 3, 7, hostAdmits_of rfl (by decide +kernel), by decide +kernel⟩,
   ⟨({ tQp windowQp 3 with eth.qps := [(windowQp, { (tQp windowQp 3).qpx windowQp with expected := 7 })] } : State),
    tPoliced { tQp windowQp 3 with eth.qps := [(windowQp, { (tQp windowQp 3).qpx windowQp with expected := 7 })] } windowQp 0, windowQp, 7, 0, 5, 0,
    hostTurn_of rfl (by decide +kernel), by decide +kernel⟩,
   ⟨tSendQ 5, tPoliced (tSendQ 5) 3 64, 3, 7, zeros 64, 7, mod32 ((tPoliced (tSendQ 5) 3 64).sendTail 7 + 1), 6, mkDga 0 0 (2 ^ 34),
    hostTurn_of rfl (by decide +kernel), ok_of (by decide +kernel), by decide +kernel⟩,
   ⟨tSendQ 69, tPoliced (tSendQ 69) 3 64, 3, 7, zeros 64, 7, mod32 ((tPoliced (tSendQ 69) 3 64).sendTail 7 + 1), 6,
    hostTurn_of rfl (by decide +kernel), by decide +kernel⟩,
   ⟨tOut 7 [tEthReq 5 0 (.write 5 1 2 (zeros 64)) (.seatStore .a)], 3, 5, 3, ([] : List Byte), tEthReq 5 0 (.write 5 1 2 (zeros 64)) (.seatStore .a),
    covered 5 false [tEthReq 5 0 (.write 5 1 2 (zeros 64)) (.seatStore .a)], [], by decide +kernel⟩,
   ⟨tOut 7 [tEthReq 5 7 (.write 5 1 2 (zeros 64)) (.seatStore .a)], 3, tEthReq 5 7 (.write 5 1 2 (zeros 64)) (.seatStore .a), [], by decide +kernel⟩⟩

theorem witness_hostPorts :
    (∃ (s : State) (port prio : Nat) (t : _) (f : _) (ok : _),
    ok = (fun (f : EthFrame) => f.port == port && !s.fldBit (F.ETH_PORT_STATUS_PAUSED.at port) f.prio) ∧ s.serves [24] = true ∧ port < 4 ∧ prio < 8 ∧
    s.eth.pauseUntil.get? (prioKey port prio) = some t ∧ s.islandOn 17 = true ∧ s.gated = false ∧
    (s.eth.queue.find? (fun f => ok f && !f.bulk) = some f ∨ (s.eth.queue.find? (fun f => ok f && !f.bulk) = none ∧
    s.eth.queue.find? (fun f => ok f && f.bulk) = some f))) ∧
    (∃ (s : State) (port prio : Nat), s.serves [24] = true ∧ port < 4 ∧ prio < 8 ∧ s.fldBit (F.ETH_PORT_STATUS_XOFF.at port) prio = true) ∧
    (∃ (s : State) (port prio quanta hi lo : Nat), s.serves [24] = true ∧ port < 4 ∧ prio < 8 ∧ quanta ≠ 0 ∧
    s.eth.pauseUntil.get? (prioKey port prio) = none ∧ s.fldBit (F.ETH_PORT_STATUS_XOFF.at port) prio = false ∧
    s.eth.pausedSince.get? (prioKey port prio) = none ∧ s.ethPortOn port true = true ∧ s.fld (F.ETH_PORT_CFG_MAC.at port) ≠ 0 ∧
    s.fld (F.ETH_PORT_GID_HI_GID.step 16 port) = hi ∧ s.fld (F.ETH_PORT_GID_LO_GID.step 16 port) = lo) ∧
    (∃ (s : State) (port prio : Nat), s.serves [24] = true ∧ port < 4 ∧ prio < 8 ∧ s.ethPortOn port true = false) ∧
    (∃ (s : State) (port prio : Nat) (t : _), s.serves [24] = true ∧ port < 4 ∧ prio < 8 ∧ s.eth.pausedSince.get? (prioKey port prio) = some t) :=
  ⟨⟨tPaused, 1, 3, 5 * 10 ^ 12, tFrameOn 2 false, (fun (f : EthFrame) => f.port == 1 && !(tPaused).fldBit (F.ETH_PORT_STATUS_PAUSED.at 1) f.prio),
    rfl, by decide +kernel⟩,
   ⟨tF (F.ETH_PORT_STATUS_XOFF.at 1) 8 (tQp 3 3), 1, 3, by decide +kernel⟩,
   ⟨tF (F.ETH_PORT_GID_HI_GID.step 16 1) 5 (tF (F.ETH_PORT_GID_LO_GID.step 16 1) 6 (tQp 3 3)), 1, 3, 65535, 5, 6, by decide +kernel⟩,
   ⟨tMem, 1, 3, by decide +kernel⟩,
   ⟨tPaused, 1, 3, 5 * 10 ^ 11, by decide +kernel⟩⟩

theorem witness_seatTransfersAndTime :
    (∃ (s : State) (ch : ChanId) (n c rights va pages len : Nat) (x : SeatId) (st : _), s.commandedBy ch n x ∧
    s.regionExtents c va (pages * pageBytes) = .error st ∧ c < 8192 ∧ va = s.fld F.ETH_MR_VA_VALUE x.idx ∧ pages = s.fld F.ETH_MR_LEN_VALUE x.idx ∧
    len = s.fld F.ETH_XFER_LEN_VALUE x.idx ∧ rights % 8 ≠ 0 ∧ va % 4096 = 0 ∧ pages ≠ 0 ∧ pages < 2 ^ 37 ∧ s.ctxEnabled c = true ∧
    va + pages * pageBytes ≤ 2 ^ 56 ∧ va < 2 ^ 56) ∧
    (∃ (s : State) (ch : ChanId) (n c rights va pages len : Nat) (x : SeatId) (es : List Extent) (i : _), s.commandedBy ch n x ∧
    s.regionExtents c va (pages * pageBytes) = .ok es ∧ c < 8192 ∧ va = s.fld F.ETH_MR_VA_VALUE x.idx ∧ pages = s.fld F.ETH_MR_LEN_VALUE x.idx ∧
    len = s.fld F.ETH_XFER_LEN_VALUE x.idx ∧ rights % 8 ≠ 0 ∧ va % 4096 = 0 ∧ pages ≠ 0 ∧ pages < 2 ^ 37 ∧ s.ctxEnabled c = true ∧
    va + pages * pageBytes ≤ 2 ^ 56 ∧ va < 2 ^ 56 ∧
    (List.range 65536).find? (fun i => match s.eth.regions.get? i with | some z => !z.valid | none => true) = some i) ∧
    (∃ (s : State) (ch : ChanId) (n c rights rkey qp va pages len : Nat) (x : SeatId) (r : MemRegion), s.commandedBy ch n x ∧ c < 8192 ∧
    va = s.fld F.ETH_MR_VA_VALUE x.idx ∧ pages = s.fld F.ETH_MR_LEN_VALUE x.idx ∧ len = s.fld F.ETH_XFER_LEN_VALUE x.idx ∧ rights % 8 = 0 ∧
    s.eth.regions.get? (rkey % 65536) = some r ∧ r.valid = true ∧ r.gen = rkey / 65536 ∧ 8192 ≤ qp ∧ qp < 16384 ∧ s.seatXfer x = none) ∧
    (∃ (s : State) (ch : ChanId) (n c qp va pages len : Nat) (x : SeatId), s.commandedBy ch n x ∧ len = 0 ∧ c < 8192 ∧
    va = s.fld F.ETH_MR_VA_VALUE x.idx ∧ pages = s.fld F.ETH_MR_LEN_VALUE x.idx ∧ len = s.fld F.ETH_XFER_LEN_VALUE x.idx ∧ qp < 8192) ∧
    (∃ (s : State) (ch : ChanId) (n c rkey qp va pages len : Nat) (x : SeatId), s.commandedBy ch n x ∧ c < 8192 ∧
    va = s.fld F.ETH_MR_VA_VALUE x.idx ∧ pages = s.fld F.ETH_MR_LEN_VALUE x.idx ∧ len = s.fld F.ETH_XFER_LEN_VALUE x.idx ∧
    s.eth.regions.get? (rkey % 65536) = none ∧ qp < 8192 ∧ len ≠ 0 ∧ len < 2 ^ 40 ∧ ((s.seatXfer x).isSome = true ∨ s.qpState qp ≠ .rts)) ∧
    (∃ (s : State) (ch : ChanId) (n c qp va pages len : Nat) (x : SeatId) (st : _) (y : _), s.commandedBy ch n x ∧
    s.translateAt qp (s.fld F.ETH_XFER_LVA_VALUE x.idx) len rREAD = .error (st, y) ∧ c < 8192 ∧ va = s.fld F.ETH_MR_VA_VALUE x.idx ∧
    pages = s.fld F.ETH_MR_LEN_VALUE x.idx ∧ len = s.fld F.ETH_XFER_LEN_VALUE x.idx ∧ qp < 8192 ∧ len ≠ 0 ∧ len < 2 ^ 40 ∧ s.seatXfer x = none ∧
    s.qpState qp = .rts) ∧
    (∃ (s : State) (ch : ChanId) (n c qp va pages len : Nat) (x : SeatId) (t : Xlated), s.commandedBy ch n x ∧
    s.translateAt qp (s.fld F.ETH_XFER_LVA_VALUE x.idx) len rREAD = .ok t ∧ c < 8192 ∧ va = s.fld F.ETH_MR_VA_VALUE x.idx ∧
    pages = s.fld F.ETH_MR_LEN_VALUE x.idx ∧ len = s.fld F.ETH_XFER_LEN_VALUE x.idx ∧ qp < 8192 ∧ len ≠ 0 ∧ len < 2 ^ 40 ∧ s.seatXfer x = none ∧
    s.qpState qp = .rts) ∧
    (∃ (s : State) (ch : ChanId) (n c va pages len : Nat) (x : SeatId) (j : SeatXfer), s.commandedBy ch n x ∧ c < 8192 ∧
    va = s.fld F.ETH_MR_VA_VALUE x.idx ∧ pages = s.fld F.ETH_MR_LEN_VALUE x.idx ∧ len = s.fld F.ETH_XFER_LEN_VALUE x.idx ∧ s.seatXfer x = some j) ∧
    (∃ (s : State) (port : _) (dom : _) (off : Int), s.serves [24] = true ∧ port < 4 ∧ s.fldBit F.ETH_PTP_CFG_PORTS port = true ∧
    dom % 256 = s.fld F.ETH_PTP_CFG_DOMAIN ∧ (s.fld F.ETH_PTP_STATUS_SOURCE ≠ 2 ∨ (off.natAbs ≤ 100 ∧ 15 ≤ s.eth.goodSyncs)) ∧
    s.fld F.ETH_PTP_STATUS_SOURCE ≠ 1) ∧
    (∃ (s : State) (port : _) (dom : _) (off : Int), s.serves [24] = true ∧ port < 4 ∧ s.fldBit F.ETH_PTP_CFG_PORTS port = true ∧
    dom % 256 = s.fld F.ETH_PTP_CFG_DOMAIN ∧ s.fld F.ETH_PTP_STATUS_SOURCE = 2 ∧ (100 < off.natAbs ∨ s.eth.goodSyncs < 15)) ∧
    (∃ (s : State) (port : _) (dom : _), s.serves [24] = true ∧ port < 4 ∧
    (s.fldBit F.ETH_PTP_CFG_PORTS port = false ∨ dom % 256 ≠ s.fld F.ETH_PTP_CFG_DOMAIN) ∧ s.fld F.ETH_PTP_STATUS_SOURCE = 1) :=
  ⟨⟨tMr (2 ^ 40) 1 (tRts 7), (.i3c : ChanId), 0, 3, 7, 2 ^ 40, 1, 0, (.a : SeatId), .bounds, commandedBy_of (by decide +kernel),
    error_of (by decide +kernel), by decide +kernel⟩,
   ⟨tMr (2 ^ 32) 256 (tRts 7), (.i3c : ChanId), 0, 3, 7, 2 ^ 32, 256, 0, (.a : SeatId),
    ((tMr (2 ^ 32) 256 (tRts 7)).regionExtents 3 (2 ^ 32) (256 * pageBytes)).toOption.getD [], 0, commandedBy_of (by decide +kernel),
    ok_of (by decide +kernel), by decide +kernel⟩,
   ⟨tXfer 64 (2 ^ 32) (tRts 7), (.i3c : ChanId), 0, 3, 0, 2 * 65536 + 4, 9000, 0, 0, 64, (.a : SeatId), tRegion 7,
    commandedBy_of (by decide +kernel), by decide +kernel⟩,
   ⟨tXfer 0 (2 ^ 32) (tRts 7), (.i3c : ChanId), 0, 3, 3, 0, 0, 0, (.a : SeatId), commandedBy_of (by decide +kernel), rfl, by decide +kernel⟩,
   ⟨tXfer 64 (2 ^ 32) (tQp 3 1), (.i3c : ChanId), 0, 3, 2 * 65536 + 4, 3, 0, 0, 64, (.a : SeatId), commandedBy_of (by decide +kernel),
    by decide +kernel⟩,
   ⟨tXfer 4096 (2 ^ 40) (tRts 7), (.i3c : ChanId), 0, 3, 3, 0, 0, 4096, (.a : SeatId), .noXlate, 2 ^ 40, commandedBy_of (by decide +kernel),
    error_of (by decide +kernel), by decide +kernel⟩,
   ⟨tXfer 5000 (2 ^ 32 + 3) (tRts 7), (.i3c : ChanId), 0, 3, 3, 0, 0, 5000, (.a : SeatId),
    ((tXfer 5000 (2 ^ 32 + 3) (tRts 7)).translateAt 3 (2 ^ 32 + 3) 5000 rREAD).toOption.getD ⟨0, tExt 0 0 0 0 0 0⟩,
    commandedBy_of (by decide +kernel), ok_of (by decide +kernel), by decide +kernel⟩,
   ⟨tXfer 64 (2 ^ 32) { tRts 7 with eth.xferA := some tSeatXfer }, (.i3c : ChanId), 0, 3, 0, 0, 64, (.a : SeatId), tSeatXfer,
    commandedBy_of (by decide +kernel), by decide +kernel⟩,
   ⟨tPtp 0 0, 1, 4, (5 : Int), by decide +kernel⟩,
   ⟨tPtp 2 0, 1, 4, (5 : Int), by decide +kernel⟩,
   ⟨tPtp 1 0, 1, 5, by decide +kernel⟩⟩

theorem witness_sentinels :
    (∃ (s : State) (e : Nat), s.serves [] = true ∧ e < 32 ∧ (s.ras.sentinelDue.contains e = false ∨ (s.core (e / 2)).state.serves = false)) ∧
    (∃ (s : State) (e : Nat), s.serves [] = true ∧ e < 32 ∧ s.ras.sentinelDue.contains e = true ∧ (s.core (e / 2)).state.serves = true ∧
    s.ras.sentinelRerun.contains e = false) ∧
    (∃ (s : State) (e : Nat), s.serves [] = true ∧ e < 32 ∧ s.ras.sentinelDue.contains e = true ∧ (s.core (e / 2)).state.serves = true ∧
    s.ras.sentinelRerun.contains e = true) :=
  ⟨⟨tSent [] [] .idle, 5, by decide +kernel⟩,
   ⟨tSent [5] [] .idle, 5, by decide +kernel⟩,
   ⟨tSent [5] [5] .idle, 5, by decide +kernel⟩⟩

theorem witness_hangsAndQuarantine :
    (∃ (s : State) (n e : Nat) (hung : _), s.serves [] = true ∧ n < 16 ∧ e < 3 ∧ s.onEngine n e = some hung) ∧
    (∃ (s : State) (n : Nat), s.serves [] = true ∧ n = s.fld F.RAS_QUAR_CORE ∧ n < 16 ∧ s.ras.stopped = [] ∧ s.fld F.RAS_QUAR_STATE ≠ 1) ∧
    (∃ (s : State) (n e : Nat) (x : Suspect) (rest : List Suspect), rest = [] ∧ s.serves [] = true ∧ n < 16 ∧ e < 3 ∧ s.onEngine n e = none ∧
    n = s.fld F.RAS_QUAR_CORE ∧ s.ras.stopped = [] ∧ s.fld F.RAS_QUAR_STATE = 1 ∧ (s.core n).state = .idle ∧ s.ras.suspects = x :: rest) ∧
    (∃ (s : State) (n : Nat) (x : Suspect) (rest : List Suspect), s.serves [] = true ∧ n = s.fld F.RAS_QUAR_CORE ∧ n < 16 ∧ s.ras.stopped = [] ∧
    s.fld F.RAS_QUAR_STATE = 1 ∧ (s.core n).state = .idle ∧ s.ras.suspects = x :: rest ∧ rest ≠ []) :=
  ⟨⟨tRunsOn .kernel, 2, 1, ⟨0, 7, 0, false⟩, by decide +kernel⟩,
   ⟨tQuar 0 [tSuspect 9], 3, by decide +kernel⟩,
   ⟨tQuar 1 [tSuspect 9], 3, 1, tSuspect 9, ([] : List Suspect), rfl, by decide +kernel⟩,
   ⟨tQuar 1 [tSuspect 9, tSuspect 5], 3, tSuspect 9, ([tSuspect 5] : List Suspect), by decide +kernel⟩⟩

theorem witness_logAndReports :
    (∃ (s : State) (ch : ChanId) (n upto tail : Nat) (x : SeatId), s.guardedBy ch n x 2 ∧ s.commandedBy ch n x ∧ upto < 2 ^ 32 ∧
    tail = s.fld F.RAS_LOG_PTR_TAIL ∧ diff32 upto tail ≤ diff32 (s.fld F.RAS_LOG_PTR_HEAD) tail ∧ s.sec.forming.contains x = false ∧
    s.fld F.SEC_STATE_PUF = 1 ∧ s.serves [] = true) ∧
    (∃ (s : State) (ch : ChanId) (n upto tail : Nat) (x : SeatId), s.guardedBy ch n x 2 ∧ upto < 2 ^ 32 ∧ tail = s.fld F.RAS_LOG_PTR_TAIL ∧
    diff32 (s.fld F.RAS_LOG_PTR_HEAD) tail < diff32 upto tail) ∧
    (∃ (s : State) (ch : ChanId) (n upto tail : Nat) (x : SeatId), s.unguarded ch n x 2 ∧ upto < 2 ^ 32 ∧ tail = s.fld F.RAS_LOG_PTR_TAIL) ∧
    (∃ (s : State) (ch : ChanId) (n : Nat) (x : SeatId), s.commandedBy ch n x ∧ s.sec.forming.contains x = false ∧ s.fld F.SEC_STATE_PUF ≠ 1) ∧
    (∃ (s : State) (ch : ChanId) (n : Nat) (x : SeatId), s.commandedBy ch n x ∧ s.sec.forming.contains x = true ∧ s.serves [] = true) :=
  ⟨⟨tLog 3 8, (.i3c : ChanId), 0, 5, 3, (.a : SeatId), guardedBy_of (by decide +kernel), commandedBy_of (by decide +kernel), by decide +kernel⟩,
   ⟨tLog 3 8, (.i3c : ChanId), 0, 9, 3, (.a : SeatId), guardedBy_of (by decide +kernel), by decide +kernel⟩,
   ⟨tF (F.CTL_SEM_OWNER.at 2) 0 (tLog 3 8), (.i3c : ChanId), 0, 5, 3, (.a : SeatId), unguarded_of (by decide +kernel), by decide +kernel⟩,
   ⟨tForming 0 [], (.i3c : ChanId), 0, (.a : SeatId), commandedBy_of (by decide +kernel), by decide +kernel⟩,
   ⟨tForming 0 [.a], (.i3c : ChanId), 0, (.a : SeatId), commandedBy_of (by decide +kernel), by decide +kernel⟩⟩

theorem witness_resetScopes :
    (∃ (s : State) (ch : ChanId) (n t : Nat) (x : SeatId), s.commandedBy ch n x ∧ s.guardedBy ch n x 0 ∧ t < 8192 ∧ t < 16 ∧
    s.ras.running.any (fun q => q.covers ⟨1, t, true⟩) = true ∧ 1 ≤ t ∧ t ≤ 25 ∧ s.ras.running.any (fun q => q.covers ⟨3, t, true⟩) = true ∧
    (s.membersIn .admitting ≠ [] ∨ s.ras.running.any (fun q => q.covers ⟨4, 0, true⟩) = true) ∧
    (s.membersIn .admitting ≠ [] ∨ s.ras.running.any (fun q => q.covers ⟨5, 0, true⟩) = true)) ∧
    (∃ (s : State) (ch : ChanId) (n t : Nat) (x : SeatId) (q : ResetRun), s.guardedBy ch n x 0 ∧ t < 8192 ∧ s.ras.running = [q] ∧ q.level < 8 ∧
    1 ≤ t ∧ t ≤ 25 ∧ q.covers ⟨3, t, true⟩ = false ∧ (⟨3, t, true⟩ : ResetRun).covers q = true ∧ s.membersIn .admitting = [] ∧
    q.covers ⟨4, 0, true⟩ = false ∧ (⟨4, 0, true⟩ : ResetRun).covers q = true ∧ q.covers ⟨5, 0, true⟩ = false ∧
    (⟨5, 0, true⟩ : ResetRun).covers q = true) :=
  ⟨⟨tResets [⟨5, 0, true⟩], (.i3c : ChanId), 0, 5, (.a : SeatId), commandedBy_of (by decide +kernel), guardedBy_of (by decide +kernel),
    by decide +kernel⟩,
   ⟨tResets [⟨1, 5, true⟩], (.i3c : ChanId), 0, 6, (.a : SeatId), (⟨1, 5, true⟩ : ResetRun), guardedBy_of (by decide +kernel), by decide +kernel⟩⟩

theorem witness_resets :
    (∃ (s : State) (ch : ChanId) (n t : Nat) (x : SeatId) (r : ResetRun) (isl : Nat), s.commandedBy ch n x ∧ s.guardedBy ch n x 0 ∧ t < 8192 ∧
    s.ras.running.any (fun q => q.covers ⟨0, t, true⟩) = false ∧ t < 16 ∧ s.ras.running.any (fun q => q.covers ⟨1, t, true⟩) = false ∧ t < 0x60 ∧
    s.ras.running.any (fun q => q.covers ⟨2, t, true⟩) = false ∧ s.serves [] = true ∧
    s.ras.running.find? (fun q => q.level == r.level && q.target == r.target) = none ∧ isl < 32 ∧ 1 ≤ isl ∧ isl ≤ 25 ∧
    s.ras.running.any (fun q => q.covers ⟨3, isl, true⟩) = false ∧ isl ≤ 24 ∧ isl ≠ 18 ∧ s.islandState isl = isON ∧ s.membersIn .admitting = [] ∧
    s.ras.running.any (fun q => q.covers ⟨4, 0, true⟩) = false ∧ s.ras.running.any (fun q => q.covers ⟨5, 0, true⟩) = false) ∧
    (∃ (s : State) (ch : ChanId) (n t : Nat) (x : SeatId), s.commandedBy ch n x ∧ t < 8192 ∧ 16 ≤ t) ∧
    (∃ (s : State) (ch : ChanId) (n isl : Nat) (x : SeatId), s.guardedBy ch n x 0 ∧ isl = 25 ∧ isl < 32 ∧ 1 ≤ isl ∧ isl ≤ 25 ∧
    s.ras.running.any (fun q => q.covers ⟨3, isl, true⟩) = false) ∧
    (∃ (s : State) (r : ResetRun) (ch : ChanId) (n isl : Nat) (x : SeatId), s.guardedBy ch n x 0 ∧ s.serves [] = true ∧
    s.ras.running.find? (fun q => q.level == r.level && q.target == r.target) = some r ∧ r.level < 3 ∧ isl < 32 ∧ (isl = 0 ∨ 25 < isl)) ∧
    (∃ (s : State) (ch : ChanId) (n isl : Nat) (x : SeatId), s.unguarded ch n x 0 ∧ isl < 32) :=
  ⟨⟨tSeat, (.i3c : ChanId), 0, 5, (.a : SeatId), (⟨1, 5, true⟩ : ResetRun), 5, commandedBy_of (by decide +kernel), guardedBy_of (by decide +kernel),
    by decide +kernel⟩,
   ⟨tSeat, (.i3c : ChanId), 0, 22, (.a : SeatId), commandedBy_of (by decide +kernel), by decide +kernel⟩,
   ⟨tSeat, (.i3c : ChanId), 0, 25, (.a : SeatId), guardedBy_of (by decide +kernel), rfl, by decide +kernel⟩,
   ⟨tResets [⟨1, 5, true⟩], (⟨1, 5, true⟩ : ResetRun), (.i3c : ChanId), 0, 0, (.a : SeatId), guardedBy_of (by decide +kernel), by decide +kernel⟩,
   ⟨tF (F.CTL_SEM_OWNER.at 0) 0 tSeat, (.i3c : ChanId), 0, 3, (.a : SeatId), unguarded_of (by decide +kernel), by decide +kernel⟩⟩

theorem witness_admissions :
    (∃ (s : State) (ch : ChanId) (n d sp : Nat) (x : SeatId), s.guardedBy ch n x 0 ∧ d < 64 ∧ sp < 64 ∧ s.fldBit F.JNL_CUSTODY_DEVICES d = false ∧
    s.admitOpen = false ∧ s.serves [] = true ∧ s.admitting ≠ adLOADING) ∧
    (∃ (s : State) (ch : ChanId) (n d sp : Nat) (x : SeatId), s.unguarded ch n x 0 ∧ d < 64 ∧ sp < 64) ∧
    (∃ (s : State) (ch : ChanId) (n d sp : Nat) (x : SeatId), s.guardedBy ch n x 0 ∧ d < 64 ∧ sp < 64 ∧ s.fldBit F.JNL_CUSTODY_DEVICES d = true ∧
    (s.memberState d ≠ .failed ∨ s.memberState sp ≠ .spare ∨ s.membersIn .admitting ≠ [])) ∧
    (∃ (s : State) (ch : ChanId) (n d sp : Nat) (x : SeatId), s.guardedBy ch n x 0 ∧ d < 64 ∧ sp < 64 ∧ s.fldBit F.JNL_CUSTODY_DEVICES d = true ∧
    s.memberState d = .failed ∧ s.memberState sp = .spare ∧ s.membersIn .admitting = [] ∧ s.admitIdle = true) ∧
    (∃ (s : State) (ch : ChanId) (n d sp : Nat) (x : SeatId), s.guardedBy ch n x 0 ∧ d < 64 ∧ sp < 64 ∧ s.admitOpen = true ∧ s.admitSpare < 64 ∧
    s.serves [] = true ∧ s.admitting = adTESTING ∧ s.admitFor = d ∧ s.admitSpare = sp ∧ s.layoutsEqual d sp = true) ∧
    (∃ (s : State) (d sp : Nat), d < 64 ∧ sp < 64 ∧ s.serves [] = true ∧ s.admitting = adTESTING ∧ s.admitFor = d ∧ s.admitSpare = sp ∧
    s.layoutsEqual d sp = false) ∧
    (∃ (s : State) (d sp : Nat), d < 64 ∧ sp < 64 ∧ s.serves [] = true ∧ s.admitting = adLOADING) :=
  ⟨⟨tSeat, (.i3c : ChanId), 0, 2, 3, (.a : SeatId), guardedBy_of (by decide +kernel), by decide +kernel⟩,
   ⟨tF (F.CTL_SEM_OWNER.at 0) 0 tSeat, (.i3c : ChanId), 0, 2, 3, (.a : SeatId), unguarded_of (by decide +kernel), by decide +kernel⟩,
   ⟨tMember 2 .active tLost, (.i3c : ChanId), 0, 2, 3, (.a : SeatId), guardedBy_of (by decide +kernel), by decide +kernel⟩,
   ⟨tAdm 0 (tLayouts 5 5), (.i3c : ChanId), 0, 2, 3, (.a : SeatId), guardedBy_of (by decide +kernel), by decide +kernel⟩,
   ⟨tAdm adTESTING (tLayouts 5 5), (.i3c : ChanId), 0, 2, 3, (.a : SeatId), guardedBy_of (by decide +kernel), by decide +kernel⟩,
   ⟨tAdm adTESTING (tLayouts 5 6), 2, 3, by decide +kernel⟩,
   ⟨tAdm adLOADING (tLayouts 5 5), 2, 3, by decide +kernel⟩⟩

theorem witness_rebindings :
    (∃ (s : State) (p : Packet) (d sp : Nat), s.serves [] = true ∧ d = p.rebindFailed ∧ sp = p.rebindFormer ∧ p.isRebind = true ∧
    s.dom.rebinds.contains (d, sp) = false ∧ s.memberState d = .failed ∧ s.ras.rebindHold = none ∧ s.openTo d = false ∧ s.isSelf sp = false ∧
    s.isSelf d = false ∧ p.src ≠ s.devnum ∧ d ≠ sp ∧ d < s.dom.members ∧ sp < s.dom.members ∧ s.fld (F.FAB_MEMBER_POSITION.at sp) < 64) ∧
    (∃ (s : State) (p : Packet) (d sp : Nat), s.serves [] = true ∧ d = p.rebindFailed ∧ sp = p.rebindFormer ∧ p.isRebind = true ∧
    s.dom.rebinds.contains (d, sp) = true) ∧
    (∃ (s : State) (p : Packet) (d sp : Nat), s.serves [] = true ∧ d = p.rebindFailed ∧ sp = p.rebindFormer ∧ p.isRebind = true ∧
    s.dom.rebinds.contains (d, sp) = false ∧ s.memberState d = .failed ∧ s.ras.rebindHold = none ∧ s.openTo d = true) ∧
    (∃ (s : State) (p : Packet) (d sp : Nat), d = p.rebindFailed ∧ sp = p.rebindFormer ∧ s.serves [] = true ∧ p.isRebind = false) :=
  ⟨⟨tLost, tRebind 2 3, 2, 3, by decide +kernel⟩,
   ⟨({ tLost with dom.rebinds := [(2, 3)] } : State), tRebind 2 3, 2, 3, by decide +kernel⟩,
   ⟨tOpen, tRebind 2 3, 2, 3, by decide +kernel⟩,
   ⟨tLost, ({ tRebind 2 3 with aux := 0 } : Packet), ({ tRebind 2 3 with aux := 0 } : Packet).rebindFailed,
    ({ tRebind 2 3 with aux := 0 } : Packet).rebindFormer, rfl, rfl, by decide +kernel⟩⟩

theorem witness_keyCommands :
    (∃ (s : State) (ch : ChanId) (n part : Nat) (x : SeatId) (r : List Byte), s.guardedBy ch n x 1 ∧ r = s.importRecord x ∧
    part = field r 0 2 % 4096 ∧ importReserved r = false ∧ (s.sil.comp.partitions.get? (field r 0 2)).isNone = true) ∧
    (∃ (s : State) (ch : ChanId) (n part : Nat) (x : SeatId) (r : List Byte), s.guardedBy ch n x 1 ∧ r = s.importRecord x ∧
    part = field r 0 2 % 4096 ∧ importReserved r = true) ∧
    (∃ (s : State) (ch : ChanId) (n part : Nat) (x : SeatId) (r : List Byte), s.guardedBy ch n x 1 ∧ r = s.importRecord x ∧
    part = field r 0 2 % 4096 ∧ importReserved r = false ∧ (s.sil.comp.partitions.get? (field r 0 2)).isSome = true ∧ s.sec.keys.get? part = none) ∧
    (∃ (s : State) (ch : ChanId) (n part : Nat) (x : SeatId) (r : List Byte) (e : _), s.guardedBy ch n x 1 ∧ r = s.importRecord x ∧
    part = field r 0 2 % 4096 ∧ importReserved r = false ∧ (s.sil.comp.partitions.get? (field r 0 2)).isSome = true ∧ s.sec.keys.get? part = some e) ∧
    (∃ (s : State) (ch : ChanId) (n part : Nat) (x : SeatId) (r : List Byte), s.guardedBy ch n x 1 ∧ r = s.importRecord x ∧
    part = s.fld F.SEC_KEY_SEL_PARTITION x.idx ∧ (s.sil.comp.partitions.get? part).isNone = true) ∧
    (∃ (s : State) (ch : ChanId) (n part : Nat) (x : SeatId) (r : List Byte), s.guardedBy ch n x 1 ∧ r = s.importRecord x ∧
    part = s.fld F.SEC_KEY_SEL_PARTITION x.idx ∧ (s.sil.comp.partitions.get? part).isSome = true ∧ s.partitionHeld part = true) ∧
    (∃ (s : State) (ch : ChanId) (n part : Nat) (x : SeatId) (r : List Byte), s.guardedBy ch n x 1 ∧ r = s.importRecord x ∧
    part = s.fld F.SEC_KEY_SEL_PARTITION x.idx ∧ (s.sil.comp.partitions.get? part).isSome = true ∧ s.partitionHeld part = false ∧
    s.sec.keys.get? part = none) ∧
    (∃ (s : State) (ch : ChanId) (n part : Nat) (x : SeatId) (r : List Byte) (e : _), s.guardedBy ch n x 1 ∧ r = s.importRecord x ∧
    part = s.fld F.SEC_KEY_SEL_PARTITION x.idx ∧ (s.sil.comp.partitions.get? part).isSome = true ∧ s.sec.keys.get? part = some e ∧
    s.partitionHeld part = false ∧ s.sec.keys.sorted = true) :=
  ⟨⟨tImport 5 7 tSeat, (.i3c : ChanId), 0, 5, (.a : SeatId), (tImport 5 7 tSeat).importRecord .a, guardedBy_of (by decide +kernel),
    by decide +kernel⟩,
   ⟨tImport 0x10005 7 tSeat, (.i3c : ChanId), 0, 5, (.a : SeatId), (tImport 0x10005 7 tSeat).importRecord .a, guardedBy_of (by decide +kernel),
    by decide +kernel⟩,
   ⟨tImport 5 7 tNoKeys, (.i3c : ChanId), 0, 5, (.a : SeatId), (tImport 5 7 tNoKeys).importRecord .a, guardedBy_of (by decide +kernel),
    by decide +kernel⟩,
   ⟨tImport 5 7 tDom, (.i3c : ChanId), 0, 5, (.a : SeatId), (tImport 5 7 tDom).importRecord .a, ⟨zeros 32, 7⟩, guardedBy_of (by decide +kernel),
    by decide +kernel⟩,
   ⟨tF F.SEC_KEY_SEL_PARTITION 5 tSeat, (.i3c : ChanId), 0, 5, (.a : SeatId), (tF F.SEC_KEY_SEL_PARTITION 5 tSeat).importRecord .a,
    guardedBy_of (by decide +kernel), by decide +kernel⟩,
   ⟨tF F.SEC_KEY_SEL_PARTITION 5 { tNoKeys with xlt.claims := [⟨0, 0, 0, 1, 5, 0, false, none, 0, 0, 0, false⟩] }, (.i3c : ChanId), 0, 5,
    (.a : SeatId), (tF F.SEC_KEY_SEL_PARTITION 5 { tNoKeys with xlt.claims := [⟨0, 0, 0, 1, 5, 0, false, none, 0, 0, 0, false⟩] }).importRecord .a,
    guardedBy_of (by decide +kernel), by decide +kernel⟩,
   ⟨tF F.SEC_KEY_SEL_PARTITION 5 tNoKeys, (.i3c : ChanId), 0, 5, (.a : SeatId), (tF F.SEC_KEY_SEL_PARTITION 5 tNoKeys).importRecord .a,
    guardedBy_of (by decide +kernel), by decide +kernel⟩,
   ⟨tF F.SEC_KEY_SEL_PARTITION 5 tDom, (.i3c : ChanId), 0, 5, (.a : SeatId), (tF F.SEC_KEY_SEL_PARTITION 5 tDom).importRecord .a, ⟨zeros 32, 7⟩,
    guardedBy_of (by decide +kernel), by decide +kernel⟩⟩

theorem witness_starts :
    (∃ (s : State) (i : StartInfo), (s.pwr.on = false ∨ (s.fld F.SEC_STATE_FW = 0 ∧ s.fld F.PWR_START_PHASE = 0)) ∧ i.straps < 64 ∧
    i.stacksFailed = []) ∧
    (∃ (s : State) (tier : Nat), s.pwr.on = true ∧ (s.fld F.SEC_STATE_FW ≠ 0 ∨ s.fld F.PWR_START_PHASE ≠ 0) ∧ s.serves [] = true ∧
    (tier = 0 ∨ 2 < tier ∨ bitAt s.pwr.memInit (tier - 1) = false ∨ s.fld F.PWR_START_PHASE < 4 ∨ 7 < s.fld F.PWR_START_PHASE) ∧
    bitAt s.pwr.memInit 0 = true ∧ s.fld F.PWR_START_PHASE = 4 ∧ s.pwr.refWait = false) ∧
    (∃ (s : State) (i : _), s.serves [] = true ∧ bitAt s.pwr.memInit 0 = true ∧ s.fld F.PWR_START_PHASE = 4 ∧ s.guardedRanges = [] ∧ i < 8) ∧
    (∃ (s : State), s.serves [] = true ∧ bitAt s.pwr.memInit 1 = true ∧ s.fld F.PWR_START_PHASE = 5 ∧ s.silState ≠ .running) ∧
    (∃ (s : State), s.serves [] = true ∧ bitAt s.pwr.memInit 1 = true ∧ s.fld F.PWR_START_PHASE = 5 ∧ s.silState = .running ∧ s.ringAwaited = false) ∧
    (∃ (s : State) (serdes : Bool), s.serves [] = true ∧ s.pwr.refWait = true ∧
    s.fld (if serdes then F.PWR_REFCLK_CORE_OK else F.PWR_REFCLK_SERDES_OK) = 0) ∧
    (∃ (s : State) (serdes : Bool), s.serves [] = true ∧ s.pwr.refWait = true ∧
    s.fld (if serdes then F.PWR_REFCLK_CORE_OK else F.PWR_REFCLK_SERDES_OK) = 1 ∧ (∀ k, 1 ≤ k → k ≤ 24 → s.islandState k ≠ isHELD)) :=
  ⟨⟨State.reset, tEnv.start, by decide +kernel⟩,
   ⟨tInit 4 3, 0, by decide +kernel⟩,
   ⟨tInit 4 3, 2, by decide +kernel⟩,
   ⟨tInit 5 2, by decide +kernel⟩,
   ⟨({ tF F.SIL_STATE_STATE SilState.running.code (tInit 5 2) with sil.ringLost := false, jnl.confirm := false } : State), by decide +kernel⟩,
   ⟨tRef 0, true, by decide +kernel⟩,
   ⟨tRef 1, true, by decide +kernel⟩⟩

theorem witness_inputAndBoardReset :
    (∃ (s : State) (mv ns : Nat), s.pwr.on = true ∧ mv < 40000 ∧ ns ≤ nsPerMs ∧ (¬((mv < 40000 ∧ nsPerMs < ns) ∨ (62000 < mv ∧
    100 * nsPerUs < ns))) ∧ s.serves [] = true ∧ (mv ≤ 60000 ∨ 62000 < mv) ∧ ns < 2 * nsPerUs ∧ s.fld F.TST_PINS_RST_N = 1) ∧
    (∃ (s : State) (mv ns : Nat), s.pwr.on = true ∧ ¬(mv < 40000 ∧ ns ≤ nsPerMs) ∧ ((mv < 40000 ∧ nsPerMs < ns) ∨ (62000 < mv ∧
    100 * nsPerUs < ns)) ∧ s.serves [] = true ∧ 2 * nsPerUs ≤ ns) ∧
    (∃ (s : State) (mv : Nat), s.serves [] = true ∧ 60000 < mv ∧ mv ≤ 62000) ∧
    (∃ (s : State), s.pwr.on = true ∧ s.fld F.TST_PINS_RST_N = 0) :=
  ⟨⟨tSeat, 39000, 1000, by decide +kernel⟩,
   ⟨tSeat, 39000, 2000000, by decide +kernel⟩,
   ⟨tSeat, 61000, by decide +kernel⟩,
   ⟨tF F.TST_PINS_RST_N 0 tSeat, by decide +kernel⟩⟩

theorem witness_throttling : ∃ (s : State) (duty : Nat) (th : Int), s.serves [] = true ∧ duty = s.fld F.PWR_THROTTLE_DUTY ∧ 4 ≤ duty ∧ duty ≤ 16 ∧
    th = 8 * s.fld F.PWR_THERM_THROTTLE_C :=
  ⟨tF F.PWR_THROTTLE_DUTY 4 tSeat, 4, 8 * (tSeat.fld F.PWR_THERM_THROTTLE_C), by decide +kernel⟩

theorem witness_islandStates :
    (∃ (s : State) (w : _) (rest : _) (n : Nat), s.serves [] = true ∧ s.fld F.PWR_START_PHASE ≠ 3 ∧ s.pwr.pending = w :: rest ∧
    windowSum s.pwr.granted s.now + w.step ≤ s.fld F.PWR_LIMIT_RATE_CA ∧ s.pwr.testing.contains n = false) ∧
    (∃ (s : State) (n : Nat), s.serves [] = true ∧ 17 ≤ n ∧ n ≤ 24 ∧ s.islandState n = isWAKING) ∧
    (∃ (s : State) (n : Nat), s.serves [] = true ∧ s.fld F.PWR_START_PHASE ≠ 3 ∧ s.pwr.pending = [] ∧
    windowSum s.pwr.granted s.now ≤ s.fld F.PWR_LIMIT_RATE_CA ∧ (s.islandState n ≠ isWAKING ∨ n < 17 ∨ 24 < n) ∧ 1 ≤ n ∧ n ≤ 24 ∧
    s.pwr.testing.contains n = true ∧ (∀ w ∈ s.pwr.pending, w.island ≠ n) ∧ s.islandState n = isRESET ∧ n ≤ 19 ∧ 17 ≤ n) :=
  ⟨⟨({ tSeat with pwr.pending := [tWake] } : State), tWake, ([] : List Wake), 17, by decide +kernel⟩,
   ⟨tIsl 20 isWAKING, 20, by decide +kernel⟩,
   ⟨({ tIsl 17 isRESET with pwr.testing := [17] } : State), 17, by decide +kernel⟩⟩

theorem witness_testAccess :
    (∃ (s : State) (ch : ChanId) (n : Nat) (x : SeatId), s.guardedBy ch n x 0 ∧ (s.testAccess = taOPENROM ∨ s.testAccess = taHOLD) ∧
    s.testAccess ≠ taOPENROM ∧ s.membersIn .admitting = [] ∧ (∀ d, d < 64 → s.fldBit F.JNL_CUSTODY_DEVICES d = true → s.isSelf d = true) ∧
    s.serves [] = true ∧ s.tapFull = true ∧ s.testAccess ≠ taLOCKED) ∧
    (∃ (s : State) (ch : ChanId) (n : Nat) (x : SeatId), s.guardedBy ch n x 0 ∧ (s.testAccess = taLOCKED ∨ s.testAccess = taUNLOCKED) ∧
    (s.testAccess = taOPENROM ∨ s.membersIn .admitting ≠ [] ∨ (∃ d, d < 64 ∧ s.fldBit F.JNL_CUSTODY_DEVICES d = true ∧ s.isSelf d = false)) ∧
    s.serves [] = true ∧ s.tapFull = false ∧ s.testAccess = taLOCKED) :=
  ⟨⟨tF F.TST_STATE_ACCESS taHOLD tSeat, (.i3c : ChanId), 0, (.a : SeatId), guardedBy_of (by decide +kernel), by decide +kernel⟩,
   ⟨tF F.JNL_CUSTODY_DEVICES 6 tSeat, (.i3c : ChanId), 0, (.a : SeatId), guardedBy_of (by decide +kernel), by decide +kernel⟩⟩

theorem witness_analogueAndUnits :
    (∃ (s : State) (ch : ChanId) (n mode node : Nat) (x : SeatId), s.commandedBy ch n x ∧ mode < 4 ∧ node < 1024 ∧
    s.fld F.TST_STATE_TAP_INSTR = tapPROBE) ∧
    (∃ (s : State) (ch : ChanId) (n mode node : Nat) (x : SeatId) (st : _), s.commandedBy ch n x ∧ mode < 4 ∧ node < 1024 ∧
    s.abusFault mode node = some st ∧ s.fld F.TST_STATE_TAP_INSTR ≠ tapPROBE ∧ s.testAccess = taUNLOCKED ∧ nodeKnown node = true ∧
    s.serves [] = true ∧ s.testAccess ≠ taLOCKED) ∧
    (∃ (s : State) (ch : ChanId) (n mode node : Nat) (x : SeatId), s.commandedBy ch n x ∧ mode < 4 ∧ node < 1024 ∧ s.abusFault mode node = none) ∧
    (∃ (s : State) (ch : ChanId) (n k tests : Nat) (x : SeatId), s.guardedBy ch n x 0 ∧ k < 64 ∧ tests < 8 ∧ k < 0x28 ∧ s.unitState = utNONE ∧
    s.unitInSlice k = true ∧ s.isQuarCore k = false) ∧
    (∃ (s : State) (ch : ChanId) (n k tests : Nat) (x : SeatId), s.guardedBy ch n x 0 ∧ k < 64 ∧ tests < 8 ∧ 16 ≤ k ∧ k < 0x28 ∧
    (s.unitState = utISOLATING ∨ s.unitState = utISOLATED) ∧ s.unitTested = k) ∧
    (∃ (s : State) (ch : ChanId) (n k tests : Nat) (x : SeatId), s.guardedBy ch n x 0 ∧ k < 64 ∧ tests < 8 ∧ 0x28 ≤ k ∧ s.serves [] = true ∧
    s.unitState = utISOLATING ∧ s.unitIsIdle s.unitTested = true ∧ s.unitState ≠ utTESTING) ∧
    (∃ (s : State) (ch : ChanId) (n k tests : Nat) (x : SeatId), s.guardedBy ch n x 0 ∧ k < 64 ∧ tests < 8 ∧ k < 0x28 ∧ s.unitState = utISOLATED ∧
    s.unitTested = k ∧ tests ≠ 0 ∧ (k < 16 ∨ tests < 4) ∧ k < 16 ∧ (s.unitState = utISOLATING ∨ s.unitState = utISOLATED)) ∧
    (∃ (s : State) (ch : ChanId) (n mode node : Nat) (x : SeatId) (k tests : Nat) (t : _), s.commandedBy ch n x ∧ s.guardedBy ch n x 0 ∧ mode < 4 ∧
    node < 1024 ∧ s.fld F.TST_STATE_TAP_INSTR ≠ tapPROBE ∧ s.testAccess = taLOCKED ∧ k < 64 ∧ tests < 8 ∧ k < 0x28 ∧ s.unitState ≠ utNONE ∧
    s.unitTested ≠ k ∧ (s.unitState ≠ utISOLATED ∨ s.unitTested ≠ k) ∧ (s.unitState = utTESTING ∨ s.unitState = utNONE ∨ s.unitTested ≠ k) ∧
    s.serves [] = true ∧ (s.unitState ≠ utISOLATING ∨ s.unitIsIdle s.unitTested = false) ∧ s.unitState = utTESTING ∧ s.tst.tests < 8 ∧ t < 3 ∧
    bitAt s.tst.tests t = true ∧ s.unitTested < 16) ∧
    (∃ (s : State) (ch : ChanId) (n k tests : Nat) (x : SeatId), s.guardedBy ch n x 0 ∧ k < 64 ∧ tests < 8 ∧ k < 0x28 ∧ s.unitState = utISOLATED ∧
    s.unitTested = k ∧ (tests = 0 ∨ (16 ≤ k ∧ 4 ≤ tests))) ∧
    (∃ (s : State) (ch : ChanId) (n k tests : Nat) (x : SeatId), s.guardedBy ch n x 0 ∧ k < 64 ∧ tests < 8 ∧ k < 0x28 ∧ s.unitState = utNONE ∧
    (s.unitInSlice k = false ∨ s.isQuarCore k = true)) :=
  ⟨⟨tF F.TST_STATE_ACCESS taLOCKED (tF F.TST_STATE_TAP_INSTR tapPROBE tSeat), (.i3c : ChanId), 0, 2, 3, (.a : SeatId),
    commandedBy_of (by decide +kernel), by decide +kernel⟩,
   ⟨tF F.TST_STATE_ACCESS taUNLOCKED (tF F.TST_STATE_TAP_INSTR 0 tSeat), (.i3c : ChanId), 0, 2, 3, (.a : SeatId), .stateConflict,
    commandedBy_of (by decide +kernel), by decide +kernel⟩,
   ⟨tF F.TST_STATE_ACCESS taUNLOCKED (tF F.TST_STATE_TAP_INSTR 0 tSeat), (.i3c : ChanId), 0, 1, 3, (.a : SeatId), commandedBy_of (by decide +kernel),
    by decide +kernel⟩,
   ⟨tUnitOf utNONE 3 7, (.i3c : ChanId), 0, 3, 7, (.a : SeatId), guardedBy_of (by decide +kernel), by decide +kernel⟩,
   ⟨tUnitOf utISOLATING 18 7, (.i3c : ChanId), 0, 18, 3, (.a : SeatId), guardedBy_of (by decide +kernel), by decide +kernel⟩,
   ⟨tUnitOf utISOLATING 3 7, (.i3c : ChanId), 0, 0x29, 3, (.a : SeatId), guardedBy_of (by decide +kernel), by decide +kernel⟩,
   ⟨tUnitOf utISOLATED 3 7, (.i3c : ChanId), 0, 3, 7, (.a : SeatId), guardedBy_of (by decide +kernel), by decide +kernel⟩,
   ⟨tUnitOf utTESTING 3 7, (.i3c : ChanId), 0, 0, 0, (.a : SeatId), 18, 3, 1, commandedBy_of (by decide +kernel), guardedBy_of (by decide +kernel),
    by decide +kernel⟩,
   ⟨tUnitOf utISOLATED 3 7, (.i3c : ChanId), 0, 3, 0, (.a : SeatId), guardedBy_of (by decide +kernel), by decide +kernel⟩,
   ⟨tF F.TST_UNIT_STATUS_STATE utNONE tSeat, (.i3c : ChanId), 0, 3, 0, (.a : SeatId), guardedBy_of (by decide +kernel), by decide +kernel⟩⟩

end Sys2Proof.Machine
end

section
/-! Seat commands, refusals, the error log and the write note (R15, R79, R85, R89, R91, R402): what each of these shared operations answers and
leaves alone. -/

namespace Sys2Proof.Machine

variable {s t u : State}

/-! ### Frames of register fields -/

theorem State.keepsFields.trans {l : List Nat} (h : s.keepsFields t l) (h' : t.keepsFields u l) : s.keepsFields u l :=
  fun f b hf => (h' f b hf).trans (h f b hf)

theorem State.keepsFields.mono {l l' : List Nat} (h : s.keepsFields t l) (hl : l ⊆ l') : s.keepsFields t l' :=
  fun f b hf => h f b (fun hm => hf (hl hm))

theorem State.keepsFields_of_regs {l : List Nat} (h : t.regs = s.regs) : s.keepsFields t l := fun f b _ => State.fld_congr h f b

theorem State.keepsFields_setF (s : State) {l : List Nat} {f : Fld} {b : Nat} (v : Nat) (h : f.key b ∈ l) : s.keepsFields (s.setF f v b) l :=
  fun _ _ hg => s.fld_setF_ne v (fun e => hg (e ▸ h))

/-! ### Seats -/

theorem State.touch_eq (s : State) (ch : ChanId) : ∃ a b, s.touch ch = { s with ctl.seatA := a, ctl.seatB := b } := by
  unfold State.touch
  split
  · rename_i x _
    cases x <;> exact ⟨_, _, rfl⟩
  · exact ⟨_, _, rfl⟩

/-- What a seat's command finds: the state as it was, but for the liveness of the seat and the mark of a refusal. -/
theorem State.asked_eq (s : State) (ch : ChanId) : ∃ a b, s.asked ch = { s with ctl.seatA := a, ctl.seatB := b, ctl.refused := false } := by
  obtain ⟨a, b, h⟩ := s.touch_eq ch
  exact ⟨a, b, by rw [State.asked, h]⟩

@[simp] theorem State.asked_regs (s : State) (ch : ChanId) : (s.asked ch).regs = s.regs := by
  obtain ⟨a, b, h⟩ := s.asked_eq ch; rw [h]
@[simp] theorem State.asked_mem (s : State) (ch : ChanId) : (s.asked ch).mem = s.mem := by
  obtain ⟨a, b, h⟩ := s.asked_eq ch; rw [h]
@[simp] theorem State.asked_ras (s : State) (ch : ChanId) : (s.asked ch).ras = s.ras := by
  obtain ⟨a, b, h⟩ := s.asked_eq ch; rw [h]
@[simp] theorem State.asked_refused (s : State) (ch : ChanId) : (s.asked ch).ctl.refused = false := rfl

@[simp] theorem State.asked_fld (s : State) (ch : ChanId) (f : Fld) (b : Nat) : (s.asked ch).fld f b = s.fld f b :=
  State.fld_congr (s.asked_regs ch) f b
@[simp] theorem State.asked_memberState (s : State) (ch : ChanId) (d : Nat) : (s.asked ch).memberState d = s.memberState d := by
  simp [State.memberState]
@[simp] theorem State.asked_membersIn (s : State) (ch : ChanId) (m : MemberState) : (s.asked ch).membersIn m = s.membersIn m := by
  simp [State.membersIn]

theorem State.touch_semHolder (s : State) (ch : ChanId) (n : Nat) : (s.touch ch).semHolder n = s.semHolder n := by
  obtain ⟨a, b, h⟩ := s.touch_eq ch; rw [h]; rfl

/-! ### Reported refusals -/

theorem Status.code_lt (st : Status) : st.code < 2 ^ 8 := by cases st <;> decide

/-- The first refusal since the last read is latched and counted. -/
theorem State.seatErr_first (s : State) (x : SeatId) (n off : Nat) (st : Status) (h : s.fld F.CTL_SEAT_ERR_COUNT x.idx = 0) :
    s.seatErr x n off st = { (((s.setF F.CTL_SEAT_ERR_OFFSET off x.idx).setF F.CTL_SEAT_ERR_STATUS st.code x.idx).setF
      F.CTL_SEAT_ERR_CHANNEL n x.idx).count F.CTL_SEAT_ERR_COUNT 1 x.idx with ctl.refused := true } := by
  simp only [State.seatErr, if_pos h]

/-- A later one is only counted. -/
theorem State.seatErr_later (s : State) (x : SeatId) (n off : Nat) (st : Status) (h : s.fld F.CTL_SEAT_ERR_COUNT x.idx ≠ 0) :
    s.seatErr x n off st = { s.count F.CTL_SEAT_ERR_COUNT 1 x.idx with ctl.refused := true } := by
  simp only [State.seatErr, if_neg h]

theorem State.seatErr_frame (s : State) (x : SeatId) (n off : Nat) (st : Status) :
    ({ s.seatErr x n off st with regs := s.regs, ctl.refused := s.ctl.refused } : State) = s := by
  by_cases h : s.fld F.CTL_SEAT_ERR_COUNT x.idx = 0
  · rw [s.seatErr_first x n off st h]; rfl
  · rw [s.seatErr_later x n off st h]; rfl

/-- A refusal does not ask whether another was marked before it. -/
theorem State.seatErr_asked (s : State) (ch : ChanId) (x : SeatId) (n off : Nat) (st : Status) :
    (s.asked ch).seatErr x n off st = (s.touch ch).seatErr x n off st := by
  by_cases h : (s.touch ch).fld F.CTL_SEAT_ERR_COUNT x.idx = 0
  · rw [State.seatErr_first _ x n off st h, State.seatErr_first _ x n off st (State.fld_congr (s := s.touch ch) rfl _ _ ▸ h)]; rfl
  · rw [State.seatErr_later _ x n off st h, State.seatErr_later _ x n off st (State.fld_congr (s := s.touch ch) rfl _ _ ▸ h)]; rfl

@[simp] theorem State.seatErr_refused (s : State) (x : SeatId) (n off : Nat) (st : Status) : (s.seatErr x n off st).ctl.refused = true := rfl

theorem State.seatErr_keepsFields (s : State) (x : SeatId) (n off : Nat) (st : Status) : s.keepsFields (s.seatErr x n off st) (seatErrKeys x) := by
  have hcount (t : State) : t.keepsFields { t.count F.CTL_SEAT_ERR_COUNT 1 x.idx with ctl.refused := true } (seatErrKeys x) :=
    t.keepsFields_setF _ (by simp [seatErrKeys])
  by_cases h : s.fld F.CTL_SEAT_ERR_COUNT x.idx = 0
  · rw [s.seatErr_first x n off st h]
    exact ((s.keepsFields_setF _ (by simp [seatErrKeys])).trans ((State.keepsFields_setF _ _ (by simp [seatErrKeys])).trans
      (State.keepsFields_setF _ _ (by simp [seatErrKeys])))).trans (hcount _)
  · rw [s.seatErr_later x n off st h]; exact hcount s

theorem State.seatErr_latches (s : State) (x : SeatId) (n off : Nat) (st : Status) (h : s.fld F.CTL_SEAT_ERR_COUNT x.idx = 0) :
    (s.seatErr x n off st).fld F.CTL_SEAT_ERR_STATUS x.idx = st.code ∧ (s.seatErr x n off st).fld F.CTL_SEAT_ERR_OFFSET x.idx = off % 2 ^ 24 ∧
      (s.seatErr x n off st).fld F.CTL_SEAT_ERR_CHANNEL x.idx = n % 2 ^ F.CTL_SEAT_ERR_CHANNEL.width ∧
      (s.seatErr x n off st).fld F.CTL_SEAT_ERR_COUNT x.idx = 1 := by
  have hc (f : Fld) : (s.seatErr x n off st).fld f x.idx = ((((s.setF F.CTL_SEAT_ERR_OFFSET off x.idx).setF F.CTL_SEAT_ERR_STATUS st.code
      x.idx).setF F.CTL_SEAT_ERR_CHANNEL n x.idx).count F.CTL_SEAT_ERR_COUNT 1 x.idx).fld f x.idx := by
    rw [s.seatErr_first x n off st h]; rfl
  refine ⟨?_, ?_, ?_, ?_⟩ <;> rw [hc]
  · rw [State.fld_count_ne _ _ (by cases x <;> decide), State.fld_setF_ne _ _ (by cases x <;> decide), State.fld_setF_same]
    exact Nat.mod_eq_of_lt st.code_lt
  · rw [State.fld_count_ne _ _ (by cases x <;> decide), State.fld_setF_ne _ _ (by cases x <;> decide),
      State.fld_setF_ne _ _ (by cases x <;> decide), State.fld_setF_same]
    rfl
  · rw [State.fld_count_ne _ _ (by cases x <;> decide), State.fld_setF_same]
  · rw [State.fld_count_same, State.fld_setF_ne _ _ (by cases x <;> decide), State.fld_setF_ne _ _ (by cases x <;> decide),
      State.fld_setF_ne _ _ (by cases x <;> decide), h]
    rfl

theorem State.seatErr_keepsStatus (s : State) (x : SeatId) (n off : Nat) (st : Status) (h : s.fld F.CTL_SEAT_ERR_COUNT x.idx ≠ 0) :
    (s.seatErr x n off st).fld F.CTL_SEAT_ERR_STATUS x.idx = s.fld F.CTL_SEAT_ERR_STATUS x.idx := by
  rw [s.seatErr_later x n off st h]
  exact s.fld_count_ne 1 (by cases x <;> decide)

theorem State.seatErr_reports (s : State) (x : SeatId) (n off : Nat) (st : Status) : s.reports (s.seatErr x n off st) x n off st :=
  ⟨rfl, s.seatErr_keepsFields x n off st, s.seatErr_frame x n off st, s.seatErr_latches x n off st, s.seatErr_keepsStatus x n off st⟩

/-! ### The note of a write (R91) -/

theorem State.noteWrite_keepsFields (s : State) (x : SeatId) (off : Nat) : s.keepsFields (s.noteWrite x off) collideKeys := by
  have hcount (t : State) : t.keepsFields (t.count F.CTL_COLLIDE_COUNT) collideKeys := t.keepsFields_setF _ (by simp [collideKeys])
  unfold State.noteWrite
  dsimp only
  split
  · split
    · split
      · exact (s.keepsFields_setF _ (by simp [collideKeys])).trans (hcount _)
      · exact hcount s
    · exact State.keepsFields_of_regs rfl
  · exact State.keepsFields_of_regs rfl

theorem State.noteWrite_frame (s : State) (x : SeatId) (off : Nat) :
    s.noteWrite x off = { s with regs := (s.noteWrite x off).regs, ctl.lastWrite := s.ctl.lastWrite.put (2 * off + x.idx) s.now } := by
  unfold State.noteWrite
  dsimp only
  repeat' split
  all_goals rfl

@[simp] theorem State.noteWrite_mem (s : State) (x : SeatId) (off : Nat) : (s.noteWrite x off).mem = s.mem := by rw [State.noteWrite_frame]

/-! ### Records in the error log -/

/-- The fields of the error log's pointers and of the latched pair of lost members. -/
def logKeys : List Nat :=
  [F.RAS_LOSS_DEV_A.key 0, F.RAS_LOSS_DEV_B.key 0, F.RAS_LOSS_COUNT.key 0, F.RAS_LOG_PTR_TAIL.key 0, F.RAS_LOG_PTR_HEAD.key 0,
    F.RAS_LOG_STAT_LOST.key 0, F.RAS_LOG_STAT_HELD.key 0]

theorem State.noteLoss_frame (s : State) (r : ErrRec) : s.noteLoss r = { s with regs := (s.noteLoss r).regs } := by
  unfold State.noteLoss
  dsimp only
  repeat' split
  all_goals rfl

theorem State.noteLoss_keepsFields (s : State) (r : ErrRec) : s.keepsFields (s.noteLoss r) logKeys := by
  have hcount (t : State) : t.keepsFields (t.count F.RAS_LOSS_COUNT) logKeys := t.keepsFields_setF _ (by simp [logKeys])
  unfold State.noteLoss
  dsimp only
  split
  · exact State.keepsFields_of_regs rfl
  · split
    · exact ((s.keepsFields_setF _ (by simp [logKeys])).trans (State.keepsFields_setF _ _ (by simp [logKeys]))).trans (hcount _)
    · exact hcount s

theorem State.logErr_frame (s : State) (r : ErrRec) : s.logErr r = { s with regs := (s.logErr r).regs, ras := (s.logErr r).ras } := by
  unfold State.logErr
  split
  · rfl
  · dsimp only
    rw [State.noteLoss_frame]
    split <;> rfl

theorem State.logErr_keepsFields (s : State) (r : ErrRec) : s.keepsFields (s.logErr r) logKeys := by
  unfold State.logErr
  split
  · exact State.keepsFields_of_regs rfl
  · refine (s.noteLoss_keepsFields r).trans ?_
    dsimp only
    generalize s.noteLoss r = t
    have hhead (u w : State) (hu : t.keepsFields u logKeys) (hw : w.regs = u.regs) : t.keepsFields (w.bumpSeq F.RAS_LOG_PTR_HEAD) logKeys :=
      (hu.trans (State.keepsFields_of_regs hw)).trans (State.keepsFields_setF _ _ (by simp [logKeys]))
    split
    · refine hhead _ _ ?_ rfl
      exact (State.keepsFields_of_regs (s := t) rfl).trans ((State.keepsFields_setF _ _ (by simp [logKeys])).trans
        (State.keepsFields_setF _ _ (by simp [logKeys])))
    · exact hhead _ _ (State.keepsFields_setF _ _ (by simp [logKeys])) rfl

@[simp] theorem State.logErr_mem (s : State) (r : ErrRec) : (s.logErr r).mem = s.mem := by rw [State.logErr_frame]
@[simp] theorem State.logErr_fab (s : State) (r : ErrRec) : (s.logErr r).fab = s.fab := by rw [State.logErr_frame]
@[simp] theorem State.logErr_ctl (s : State) (r : ErrRec) : (s.logErr r).ctl = s.ctl := by rw [State.logErr_frame]

theorem State.fld_logErr (s : State) (r : ErrRec) {f : Fld} {b : Nat} (h : f.key b ∉ logKeys) : (s.logErr r).fld f b = s.fld f b :=
  s.logErr_keepsFields r f b h

/-! ### What a seat's command answers -/

variable {ch : ChanId} {n sem off : Nat} {x : SeatId} {st : Status} {c : Instr} {f : SeatId → Nat → State → State}

theorem State.asHolder_guarded (h : s.guardedBy ch n x sem) (f : SeatId → Nat → State → State) :
    s.asHolder ch off sem f = if ((f x n (s.asked ch)).ctl.refused || isImport off) = true then f x n (s.asked ch)
      else (f x n (s.asked ch)).noteWrite x off := by
  obtain ⟨⟨-, e, he, rfl⟩, hsem⟩ := h
  simp only [State.asHolder, State.asSeat, he, State.touch_semHolder, hsem, ne_eq, not_true_eq_false, if_false]
  rfl

theorem State.asHolder_unguarded (h : s.unguarded ch n x sem) (f : SeatId → Nat → State → State) :
    s.asHolder ch off sem f = (s.asked ch).seatErr x n off .semNotHeld := by
  obtain ⟨⟨-, e, he, rfl⟩, hsem⟩ := h
  simp only [State.asHolder, State.asSeat, he, State.touch_semHolder, hsem, ne_eq, not_false_eq_true, if_true, State.seatErr_asked]

theorem answersThen_of_runOn {g : State → State} (hc : exec c s = s.runOn [] g) (hs : s.serves [] = true) : AnswersThen c s (g s) := by
  rw [AnswersThen, hc, State.runOn_serves _ _ hs]

/-- A guarded command that its holder gives and that is refused reports that, and does nothing else. -/
theorem holder_refused (hc : exec c s = s.runOn [] (fun s => s.asHolder ch off sem f)) (h : s.guardedBy ch n x sem)
    (hf : f x n (s.asked ch) = (s.asked ch).seatErr x n off st) : ∃ u, AnswersThen c s u ∧ (s.asked ch).reports u x n off st := by
  refine ⟨_, answersThen_of_runOn hc h.1.1, ?_⟩
  rw [State.asHolder_guarded h, hf, if_pos (by simp)]
  exact State.seatErr_reports _ _ _ _ _

/-- A seat without the semaphore is refused. -/
theorem nonHolder_refused (hc : exec c s = s.runOn [] (fun s => s.asHolder ch off sem f)) (h : s.unguarded ch n x sem) :
    ∃ u, AnswersThen c s u ∧ (s.asked ch).reports u x n off .semNotHeld := by
  refine ⟨_, answersThen_of_runOn hc h.1.1, ?_⟩
  rw [State.asHolder_unguarded h]
  exact State.seatErr_reports _ _ _ _ _

/-- A guarded command that is not refused is performed and noted as a write of its register. -/
theorem holder_performs (hc : exec c s = s.runOn [] (fun s => s.asHolder ch off sem f)) (h : s.guardedBy ch n x sem)
    (hr : (f x n (s.asked ch)).ctl.refused = false) (hi : isImport off = false) :
    AnswersThen c s ((f x n (s.asked ch)).noteWrite x off) := by
  have := answersThen_of_runOn hc h.1.1
  rwa [State.asHolder_guarded h, if_neg (by simp [hr, hi])] at this

end Sys2Proof.Machine
end

section
/-! Admissions (R418, R419): what the custodian's operations leave, and the obligation. -/

namespace Sys2Proof.Machine

variable {s t : State}

/-! ### The membership table -/

theorem MemberState.ofCode_code (m : MemberState) : MemberState.ofCode (m.code % 2 ^ F.FAB_MEMBER_STATE.width) = m := by cases m <;> decide

theorem State.keepsFields.memberState {l : List Nat} {d : Nat} (h : s.keepsFields t l) (hd : (F.FAB_MEMBER_STATE.at d).key 0 ∉ l) :
    t.memberState d = s.memberState d := by
  rw [State.memberState, h _ _ hd]; rfl

/-- The table's fields lie apart from those of the log. -/
theorem memberKey_not_logKey {d : Nat} (hd : d < 64) : (F.FAB_MEMBER_STATE.at d).key 0 ∉ logKeys := by
  simp [logKeys, Fld.key, Fld.at, F.FAB_MEMBER_STATE, F.RAS_LOSS_DEV_A, F.RAS_LOSS_DEV_B, F.RAS_LOSS_COUNT, F.RAS_LOG_PTR_TAIL,
    F.RAS_LOG_PTR_HEAD, F.RAS_LOG_STAT_LOST, F.RAS_LOG_STAT_HELD]
  omega

theorem State.setMember_memberState (s : State) {d : Nat} (hd : d < 64) (m : MemberState) (st : Status) : (s.setMember d m st).memberState d = m := by
  unfold State.setMember State.memberState
  rw [State.fld_logErr _ _ (memberKey_not_logKey hd), State.fld_setF_same]
  exact m.ofCode_code

@[simp] theorem State.setMember_mem (s : State) (d : Nat) (m : MemberState) (st : Status) : (s.setMember d m st).mem = s.mem := by
  simp [State.setMember]
@[simp] theorem State.setMember_fab (s : State) (d : Nat) (m : MemberState) (st : Status) : (s.setMember d m st).fab = s.fab := by
  simp [State.setMember]
@[simp] theorem State.setMember_ctl (s : State) (d : Nat) (m : MemberState) (st : Status) : (s.setMember d m st).ctl = s.ctl := by
  simp [State.setMember]

/-! ### The mirror target goes -/

/-- The fields of the mirror's state and of the holds counted when it goes. -/
def mirrorKeys : List Nat := [F.JNL_STATE_MIRROR_VALID.key 0, F.JNL_STATE_NO_MIRROR.key 0, F.JNL_LOSS_HOLDS.key 0]

theorem State.mirrorGone_frame (s : State) : s.mirrorGone = { s with regs := s.mirrorGone.regs, fab := s.mirrorGone.fab } := by
  unfold State.mirrorGone
  dsimp only
  split <;> rfl

theorem State.mirrorGone_keepsFields (s : State) : s.keepsFields s.mirrorGone mirrorKeys := by
  have hvalid (fab : Fab) : s.keepsFields (({ s with fab := fab } : State).setF F.JNL_STATE_MIRROR_VALID 0) mirrorKeys :=
    State.keepsFields_setF ({ s with fab := fab } : State) 0 (by simp [mirrorKeys])
  unfold State.mirrorGone
  dsimp only
  split
  · exact (hvalid _).trans (State.keepsFields_setF _ _ (by simp [mirrorKeys]))
  · exact (hvalid _).trans ((State.keepsFields_setF _ _ (by simp [mirrorKeys])).trans (State.keepsFields_setF _ _ (by simp [mirrorKeys])))

@[simp] theorem State.mirrorGone_mem (s : State) : s.mirrorGone.mem = s.mem := by rw [State.mirrorGone_frame]
@[simp] theorem State.mirrorGone_ctl (s : State) : s.mirrorGone.ctl = s.ctl := by rw [State.mirrorGone_frame]

theorem memberKey_not_mirrorKey {d : Nat} (hd : d < 64) : (F.FAB_MEMBER_STATE.at d).key 0 ∉ mirrorKeys := by
  simp [mirrorKeys, Fld.key, Fld.at, F.FAB_MEMBER_STATE, F.JNL_STATE_MIRROR_VALID, F.JNL_STATE_NO_MIRROR, F.JNL_LOSS_HOLDS]
  omega

/-! ### The states of an admission -/

theorem State.admitState_keepsFields (s : State) (a : Nat) :
    s.keepsFields (s.admitState a) [F.RAS_ADMIT_STATUS_STATE.key 0, F.RAS_ADMIT_STATUS_SEQ.key 0] :=
  (s.keepsFields_setF _ (by simp)).trans (State.keepsFields_setF _ _ (by simp))

theorem State.admitState_admitting (s : State) {a : Nat} (h : a < 8) : (s.admitState a).admitting = a := by
  unfold State.admitState State.admitting
  rw [State.fld_bumpSeq_ne _ (by decide), State.fld_setF_same]
  exact Nat.mod_eq_of_lt h

@[simp] theorem State.admitState_mem (s : State) (a : Nat) : (s.admitState a).mem = s.mem := rfl
@[simp] theorem State.admitState_ctl (s : State) (a : Nat) : (s.admitState a).ctl = s.ctl := rfl

/-! ### A dismissed spare -/

@[simp] theorem State.spareDismissed_mem (s : State) (d : Nat) : (s.spareDismissed d).mem = s.mem := by
  unfold State.spareDismissed; dsimp only; repeat' split
  all_goals simp

@[simp] theorem State.spareDismissed_ctl (s : State) (d : Nat) : (s.spareDismissed d).ctl = s.ctl := by
  unfold State.spareDismissed; dsimp only; repeat' split
  all_goals simp

/-- What the spare's mirror was is no concern of the table. -/
theorem State.spareDismissed_memberState (s : State) {d : Nat} (hd : d < 64) : (s.spareDismissed d).memberState d ≠ .admitting := by
  have hmirror (t : State) (ht : t.memberState d ≠ .admitting) : t.mirrorGone.memberState d ≠ .admitting := by
    rwa [t.mirrorGone_keepsFields.memberState (memberKey_not_mirrorKey hd)]
  have hset : (if s.memberState d = .admitting then s.setMember d .spare .done else s).memberState d ≠ .admitting := by
    split
    · rw [s.setMember_memberState hd]; decide
    · assumption
  unfold State.spareDismissed
  dsimp only
  generalize (if s.memberState d = .admitting then s.setMember d .spare .done else s) = t at hset ⊢
  split
  · exact hmirror t hset
  · split
    · exact hmirror t hset
    · exact hset

/-! ### An abandoned admission -/

theorem State.admitAbandon_admitting (s : State) (st : Status) : (s.admitAbandon st).admitting = adABANDONED := by
  unfold State.admitAbandon State.admitting
  rw [State.fld_logErr _ _ (by decide)]
  exact State.admitState_admitting _ (by decide)

theorem State.admitAbandon_status (s : State) (st : Status) : (s.admitAbandon st).fld F.RAS_ADMIT_STATUS_STATUS = st.code := by
  unfold State.admitAbandon
  rw [State.fld_logErr _ _ (by decide), State.admitState_keepsFields _ _ _ _ (by decide), State.fld_setF_same]
  exact Nat.mod_eq_of_lt st.code_lt

@[simp] theorem State.admitAbandon_mem (s : State) (st : Status) : (s.admitAbandon st).mem = s.mem := by simp [State.admitAbandon]
@[simp] theorem State.admitAbandon_ctl (s : State) (st : Status) : (s.admitAbandon st).ctl = s.ctl := by simp [State.admitAbandon]

theorem memberKey_not_admitKey {d : Nat} (hd : d < 64) : (F.FAB_MEMBER_STATE.at d).key 0 ∉
    [F.RAS_ADMIT_STATUS_STATUS.key 0, F.RAS_ADMIT_STATUS_STATE.key 0, F.RAS_ADMIT_STATUS_SEQ.key 0] := by
  simp [Fld.key, Fld.at, F.FAB_MEMBER_STATE, F.RAS_ADMIT_STATUS_STATUS, F.RAS_ADMIT_STATUS_STATE, F.RAS_ADMIT_STATUS_SEQ]
  omega

theorem State.admitAbandon_memberState (s : State) (st : Status) (h : s.admitSpare < 64) :
    (s.admitAbandon st).memberState s.admitSpare ≠ .admitting := by
  have hshown (t : State) : t.keepsFields ((t.setF F.RAS_ADMIT_STATUS_STATUS st.code).admitState adABANDONED)
      [F.RAS_ADMIT_STATUS_STATUS.key 0, F.RAS_ADMIT_STATUS_STATE.key 0, F.RAS_ADMIT_STATUS_SEQ.key 0] :=
    (t.keepsFields_setF _ (by simp)).trans ((State.admitState_keepsFields _ _).mono (by simp))
  unfold State.admitAbandon
  rw [(State.logErr_keepsFields _ _).memberState (memberKey_not_logKey h), (hshown _).memberState (memberKey_not_admitKey h)]
  exact s.spareDismissed_memberState h

/-! ### START -/

/-- The fields of the admission's command and status that START sets. -/
def admitStartKeys : List Nat :=
  [F.RAS_ADMIT_STATUS_STATE.key 0, F.RAS_ADMIT_STATUS_SEQ.key 0, F.RAS_ADMIT_STATUS_FAILED_DEV.key 0, F.RAS_ADMIT_STATUS_SPARE_DEV.key 0,
    F.RAS_ADMIT_STATUS_STATUS.key 0, F.RAS_ADMIT_CMD_FAILED_DEV.key 0, F.RAS_ADMIT_CMD_SPARE_DEV.key 0]

/-- START of an admission that nothing forbids: command and status name the two numbers, and the spare is to be tested. -/
def State.admitStarted (s : State) (d sp : Nat) : State :=
  (((((s.setF F.RAS_ADMIT_CMD_FAILED_DEV d).setF F.RAS_ADMIT_CMD_SPARE_DEV sp).setF F.RAS_ADMIT_STATUS_FAILED_DEV d).setF
    F.RAS_ADMIT_STATUS_SPARE_DEV sp).setF F.RAS_ADMIT_STATUS_STATUS 0).admitState adTESTING

theorem State.admitStarted_keepsFields (s : State) (d sp : Nat) : s.keepsFields (s.admitStarted d sp) admitStartKeys := by
  have hset (t : State) (f : Fld) (v : Nat) (h : f.key 0 ∈ admitStartKeys) : t.keepsFields (t.setF f v) admitStartKeys := t.keepsFields_setF v h
  exact (hset _ _ _ (by decide)).trans <| (hset _ _ _ (by decide)).trans <| (hset _ _ _ (by decide)).trans <| (hset _ _ _ (by decide)).trans <|
    (hset _ _ _ (by decide)).trans <| (State.admitState_keepsFields _ _).mono (by simp [admitStartKeys])

@[simp] theorem State.admitStarted_mem (s : State) (d sp : Nat) : (s.admitStarted d sp).mem = s.mem := by simp [State.admitStarted]
@[simp] theorem State.admitStarted_ctl (s : State) (d sp : Nat) : (s.admitStarted d sp).ctl = s.ctl := by simp [State.admitStarted]

theorem State.admitStarted_admitFor (s : State) {d : Nat} (sp : Nat) (hd : d < 64) : (s.admitStarted d sp).admitFor = d := by
  unfold State.admitStarted State.admitFor
  rw [State.admitState_keepsFields _ _ _ _ (by decide), State.fld_setF_ne _ _ (by decide), State.fld_setF_ne _ _ (by decide), State.fld_setF_same]
  exact Nat.mod_eq_of_lt hd

theorem State.admitStarted_admitSpare (s : State) (d : Nat) {sp : Nat} (hsp : sp < 64) : (s.admitStarted d sp).admitSpare = sp := by
  unfold State.admitStarted State.admitSpare
  rw [State.admitState_keepsFields _ _ _ _ (by decide), State.fld_setF_ne _ _ (by decide), State.fld_setF_same]
  exact Nat.mod_eq_of_lt hsp

section Start
variable {x : SeatId} {n d sp : Nat}

/-- Only the custodian of the failed number admits a spare for it (R418). -/
theorem State.admitStart_noCustodian (h : s.fldBit F.JNL_CUSTODY_DEVICES d = false) :
    s.admitStart x n d sp = s.seatErr x n offAdmitCmd .access := by
  simp [State.admitStart, h]

theorem State.admitStart_conflict (h : s.fldBit F.JNL_CUSTODY_DEVICES d = true)
    (hc : s.memberState d ≠ .failed ∨ s.memberState sp ≠ .spare ∨ s.membersIn .admitting ≠ []) :
    s.admitStart x n d sp = s.seatErr x n offAdmitCmd .stateConflict := by
  unfold State.admitStart
  rw [if_neg (by simp [h]), if_pos]
  rcases hc with hc | hc | hc <;> simp [hc]

theorem State.admitStart_accepted (h : s.fldBit F.JNL_CUSTODY_DEVICES d = true) (hd : s.memberState d = .failed) (hsp : s.memberState sp = .spare)
    (ha : s.membersIn .admitting = []) (hi : s.admitIdle = true) : s.admitStart x n d sp = s.admitStarted d sp := by
  unfold State.admitStart
  rw [if_neg (by simp [h]), if_neg (by simp [hd, hsp, ha, hi])]
  rfl

end Start

/-! ### The commands -/

variable {ch : ChanId} {n d sp : Nat} {x : SeatId}

theorem exec_admitStart_runOn (s : State) (ch : ChanId) (hd : d < 64) (hsp : sp < 64) :
    exec (.admitStart ch d sp) s = s.runOn [] (fun s => s.asHolder ch 0x180300 0 (fun x n s => s.admitStart x n d sp)) := by
  rw [exec_admitStart, execAdmitStart, Nat.mod_eq_of_lt hd, Nat.mod_eq_of_lt hsp]

theorem exec_admitAbort_runOn (s : State) (ch : ChanId) :
    exec (.admitAbort ch) s = s.runOn [] (fun s => s.asHolder ch 0x180300 0 (fun x n s => s.admitAbort x n)) := rfl

@[simp] theorem State.asked_admitOpen (s : State) (ch : ChanId) : (s.asked ch).admitOpen = s.admitOpen := by
  simp [State.admitOpen, State.admitting]

@[simp] theorem State.asked_admitSpare (s : State) (ch : ChanId) : (s.asked ch).admitSpare = s.admitSpare := by simp [State.admitSpare]

theorem start_accepted (hg : s.guardedBy ch n x 0) (hd : d < 64) (hsp : sp < 64) (h : s.fldBit F.JNL_CUSTODY_DEVICES d = true)
    (hfd : s.memberState d = .failed) (hspare : s.memberState sp = .spare) (ha : s.membersIn .admitting = []) (hi : s.admitIdle = true) :
    ∃ u, AnswersThen (.admitStart ch d sp) s u ∧ u.admitting = adTESTING ∧ u.admitFor = d ∧ u.admitSpare = sp ∧
      s.keepsFields u (admitStartKeys ++ collideKeys) ∧ u.mem = s.mem := by
  have hf : (s.asked ch).admitStart x n d sp = (s.asked ch).admitStarted d sp :=
    State.admitStart_accepted (by simpa [State.fldBit] using h) (by simpa) (by simpa) (by simpa)
      (by simpa [State.admitIdle, State.admitting] using hi)
  have hw := ((s.asked ch).admitStarted d sp).noteWrite_keepsFields x 0x180300
  refine ⟨((s.asked ch).admitStarted d sp).noteWrite x 0x180300, ?_, ?_, ?_, ?_, ?_, ?_⟩
  · have := holder_performs (exec_admitStart_runOn s ch hd hsp) hg (by rw [hf]; simp) (by decide)
    rwa [hf] at this
  · rw [State.admitting, hw _ _ (by decide)]; exact State.admitState_admitting _ (by decide)
  · rw [State.admitFor, hw _ _ (by decide)]; exact State.admitStarted_admitFor _ _ hd
  · rw [State.admitSpare, hw _ _ (by decide)]; exact State.admitStarted_admitSpare _ _ hsp
  · exact (State.keepsFields_of_regs (s.asked_regs ch)).trans
      (((State.admitStarted_keepsFields _ _ _).mono (by simp)).trans (hw.mono (by simp)))
  · simp

theorem memberKey_not_collideKey {d : Nat} (hd : d < 64) : (F.FAB_MEMBER_STATE.at d).key 0 ∉ collideKeys := by
  simp [collideKeys, Fld.key, Fld.at, F.FAB_MEMBER_STATE, F.CTL_COLLIDE_COUNT, F.CTL_COLLIDE_OFFSET]
  omega

theorem abort_accepted (hg : s.guardedBy ch n x 0) (ho : s.admitOpen = true) (hsp : s.admitSpare < 64) :
    ∃ u, AnswersThen (.admitAbort ch) s u ∧ u.admitting = adABANDONED ∧ u.fld F.RAS_ADMIT_STATUS_STATUS = Status.stateConflict.code ∧
      u.memberState s.admitSpare ≠ .admitting ∧ u.mem = s.mem := by
  have hf : (s.asked ch).admitAbort x n = (s.asked ch).admitAbandon .stateConflict := by simp [State.admitAbort, ho]
  have hw := ((s.asked ch).admitAbandon .stateConflict).noteWrite_keepsFields x 0x180300
  refine ⟨((s.asked ch).admitAbandon .stateConflict).noteWrite x 0x180300, ?_, ?_, ?_, ?_, ?_⟩
  · have := holder_performs (exec_admitAbort_runOn s ch) hg (by rw [hf]; simp) (by decide)
    rwa [hf] at this
  · rw [State.admitting, hw _ _ (by decide)]; exact State.admitAbandon_admitting _ _
  · rw [hw _ _ (by decide)]; exact State.admitAbandon_status _ _
  · rw [hw.memberState (memberKey_not_collideKey hsp), ← s.asked_admitSpare ch]
    exact State.admitAbandon_memberState _ _ (by simpa)
  · simp

theorem State.admitTestDone_tested (pass : Bool) (ha : s.admitting = adTESTING) (hd : s.admitFor = d) (hsp : s.admitSpare = sp) :
    s.admitTestDone d sp pass = if !s.layoutsEqual d sp then s.admitAbandon .stateConflict else if !pass then s.admitAbandon .internal
      else ((s.setMember sp .admitting .done).mirrorSpare d sp).admitState adLOADING := by
  unfold State.admitTestDone
  rw [if_pos ⟨ha, hd, hsp⟩]

/-- An admission whose spare the custodian tests: layouts first, then the result of the test (log entry 46). -/
theorem testDone_outcomes (hs : s.serves [] = true) (hsp : sp < 64) (pass : Bool) (ha : s.admitting = adTESTING) (hf : s.admitFor = d)
    (hp : s.admitSpare = sp) :
    (s.layoutsEqual d sp = false → ∃ u, AnswersThen (.admitTestDone d sp pass) s u ∧ u.admitting = adABANDONED ∧
      u.fld F.RAS_ADMIT_STATUS_STATUS = Status.stateConflict.code) ∧
    (s.layoutsEqual d sp = true → ∃ u, AnswersThen (.admitTestDone d sp false) s u ∧ u.admitting = adABANDONED ∧
      u.fld F.RAS_ADMIT_STATUS_STATUS = Status.internal.code) ∧
    (s.layoutsEqual d sp = true → ∃ v, AnswersThen (.admitTestDone d sp true) s (((v : State).mirrorSpare d sp).admitState adLOADING) ∧
      v.memberState sp = .admitting ∧ v.mem = s.mem ∧ v.fab = s.fab) := by
  have hanswer (p : Bool) : AnswersThen (.admitTestDone d sp p) s (s.admitTestDone d sp p) :=
    answersThen_of_runOn (g := fun s => s.admitTestDone d sp p) rfl hs
  have htested := fun p => State.admitTestDone_tested p ha hf hp
  refine ⟨fun hl => ⟨_, ?_, s.admitAbandon_admitting _, s.admitAbandon_status _⟩,
    fun hl => ⟨_, ?_, s.admitAbandon_admitting _, s.admitAbandon_status _⟩,
    fun hl => ⟨s.setMember sp .admitting .done, ?_, s.setMember_memberState hsp _ _, s.setMember_mem _ _ _, s.setMember_fab _ _ _⟩⟩
  · simpa [htested, hl] using hanswer pass
  · simpa [htested, hl] using hanswer false
  · simpa [htested, hl] using hanswer true

theorem loadDone_outcomes (hs : s.serves [] = true) :
    (s.admitting = adLOADING → ∃ u, AnswersThen .admitLoadDone s u ∧ u.admitting = adREADY ∧
      s.onlyFields u [F.RAS_ADMIT_STATUS_STATE.key 0, F.RAS_ADMIT_STATUS_SEQ.key 0]) ∧
    (s.admitting ≠ adLOADING → AnswersThen .admitLoadDone s s) := by
  have hanswer : AnswersThen .admitLoadDone s s.admitLoadDone := answersThen_of_runOn rfl hs
  refine ⟨fun ha => ⟨s.admitState adREADY, ?_, s.admitState_admitting (by decide), rfl, s.admitState_keepsFields _⟩, fun ha => ?_⟩
  · rwa [State.admitLoadDone, if_pos ha] at hanswer
  · rwa [State.admitLoadDone, if_neg ha] at hanswer

theorem spareTimeout_outcomes (hs : s.serves [] = true) :
    (s.admitOpen = true → ∃ u, AnswersThen .admitSpareTimeout s u ∧ u.admitting = adABANDONED ∧
      u.fld F.RAS_ADMIT_STATUS_STATUS = Status.timeout.code) ∧
    (s.admitOpen = false → AnswersThen .admitSpareTimeout s s) := by
  have hanswer : AnswersThen .admitSpareTimeout s s.admitSpareTimeout := answersThen_of_runOn rfl hs
  refine ⟨fun ho => ?_, fun ho => ?_⟩
  · rw [State.admitSpareTimeout, if_neg (by simp [ho])] at hanswer
    exact ⟨_, hanswer, State.admitAbandon_admitting _ _, State.admitAbandon_status _ _⟩
  · rwa [State.admitSpareTimeout, if_pos (by simp [ho])] at hanswer

/-- Settles O52: each refusal by its first failing check, each transition by what the operation leaves in `RAS_ADMIT_STATUS`. -/
theorem admissions : Obligations.Admissions := by
  intro s ch n d sp x pass hd hsp
  refine ⟨fun hg => ⟨fun hc => ?_, fun hc hx => ?_, fun hc hfd hspare ha hi => start_accepted hg hd hsp hc hfd hspare ha hi,
    fun ho hlt => abort_accepted hg ho hlt, fun ho => ?_⟩, fun hu c hc => ?_, fun hs => ?_⟩
  · exact holder_refused (exec_admitStart_runOn s ch hd hsp) hg (State.admitStart_noCustodian (by simpa [State.fldBit] using hc))
  · exact holder_refused (exec_admitStart_runOn s ch hd hsp) hg (State.admitStart_conflict (by simpa [State.fldBit] using hc) (by simpa using hx))
  · exact holder_refused (exec_admitAbort_runOn s ch) hg (by simp [State.admitAbort, ho, offAdmitCmd])
  · rcases List.mem_pair.mp hc with rfl | rfl
    · exact nonHolder_refused (exec_admitStart_runOn s ch hd hsp) hu
    · exact nonHolder_refused (exec_admitAbort_runOn s ch) hu
  · obtain ⟨hready, hnone⟩ := loadDone_outcomes hs
    exact ⟨fun ha hf hp => testDone_outcomes hs hsp pass ha hf hp, hready, hnone, spareTimeout_outcomes hs⟩

end Sys2Proof.Machine
end

section
/-! A device at rest: nothing is asked, held or under way, and no register says that anything may begin. What settles after a command (spec/95,
log entry 16) leaves such a device alone, and with it the times of the seats' last writes (R91). -/

namespace Sys2Proof.Machine

variable {lw : Tbl Nat} {s t : State}

/-! ### Registers at their reset values -/

theorem Tbl.get?_eq_none {α : Type} {t : Tbl α} {k : Nat} (h : ∀ e ∈ t, e.1 ≠ k) : Tbl.get? t k = none := by
  induction t with
  | nil => rfl
  | cons e t ih =>
    rw [Tbl.get?, if_neg (h e (by simp))]
    exact ih fun e he => h e (by simp [he])

/-- Whether the register at an offset lets waiting work go on: the serial of the full image, the journal's state, a context's enable, the state of an
admission, the membership table. -/
def drives (off : Nat) : Bool :=
  off == 0x10028 || off == 0x30000 || off == 0x40008 || off == 0x180308 || decide (0xC0000 ≤ off ∧ off < 0xC0200)

theorem drives_eq_false {off : Nat} : drives off = false ↔
    off ≠ 0x10028 ∧ off ≠ 0x30000 ∧ off ≠ 0x40008 ∧ off ≠ 0x180308 ∧ (off < 0xC0000 ∨ 0xC0200 ≤ off) := by
  simp [drives, and_assoc]
  omega

/-- None of these registers is listed in the register file, so each holds its reset value. -/
def State.undriven (s : State) : Prop := ∀ e ∈ s.regs, drives (e.1 / 64 % 2 ^ 24) = false

/-- A field of another register. -/
def Fld.inert (f : Fld) : Bool := decide (f.off < 2 ^ 24) && decide (f.lo < 64) && !drives f.off

theorem Fld.inert_iff {f : Fld} : f.inert = true ↔ f.off < 2 ^ 24 ∧ f.lo < 64 ∧ drives f.off = false := by
  simp [Fld.inert, and_assoc]

theorem Fld.off_of_key {f : Fld} (b : Nat) (h : f.off < 2 ^ 24) (hlo : f.lo < 64) : f.key b / 64 % 2 ^ 24 = f.off := by
  unfold Fld.key; omega

theorem State.undriven.setF (h : s.undriven) {f : Fld} (hf : f.inert = true) (v b : Nat) : (s.setF f v b).undriven := by
  obtain ⟨hoff, hlo, hd⟩ := Fld.inert_iff.mp hf
  intro e he
  change e ∈ Tbl.store _ _ _ _ at he
  unfold Tbl.store at he
  split at he
  · exact h e (List.mem_of_mem_filter he)
  · rcases Tbl.mem_put _ _ _ _ he with rfl | he
    · rwa [Fld.off_of_key b hoff hlo]
    · exact h e he

theorem State.undriven.fld (h : s.undriven) {f : Fld} (b : Nat) (hoff : f.off < 2 ^ 24) (hlo : f.lo < 64) (hd : drives f.off = true) :
    s.fld f b = f.reset := by
  rw [State.fld, Tbl.getD, Tbl.get?_eq_none, Option.getD_none]
  intro e he hk
  have := h e he
  rw [hk, Fld.off_of_key b hoff hlo, hd] at this
  cases this

theorem State.undriven.ctxEnabled (h : s.undriven) (c : Nat) : s.ctxEnabled c = false := by
  rw [State.ctxEnabled, h.fld c (by decide) (by decide) (by decide)]; rfl

theorem State.undriven.noMirror (h : s.undriven) : s.noMirror = true := by
  rw [State.noMirror, h.fld 0 (by decide) (by decide) (by decide)]; rfl

theorem State.undriven.admitting (h : s.undriven) : s.admitting = adIDLE := h.fld 0 (by decide) (by decide) (by decide)

theorem State.undriven.noImage (h : s.undriven) : s.ringThere = false := by
  rw [State.ringThere, h.fld 0 (by decide) (by decide) (by decide)]
  exact Bool.and_false _

theorem State.undriven.memberState (h : s.undriven) {d : Nat} (hd : d < 64) : s.memberState d = .absent := by
  rw [State.memberState, h.fld (f := F.FAB_MEMBER_STATE.at d) 0]
  · rfl
  · simp only [Fld.at, F.FAB_MEMBER_STATE]; omega
  · simp [Fld.at, F.FAB_MEMBER_STATE]
  · simp [drives, Fld.at, F.FAB_MEMBER_STATE]; omega

/-! ### Nothing under way -/

/-- No request, phase, transfer, answer, packet or engine's work is held anywhere; `lw` is when the seats last wrote. -/
structure Drained (lw : Tbl Nat) (s : State) : Prop where
  lastWrite : s.ctl.lastWrite = lw
  works : s.works = []
  toEffect : s.jnl.toEffect = []
  batches : s.jnl.batches = []
  reqs : s.fab.reqs = []
  waiting : s.fab.waiting = []
  answers : s.fab.answers = []
  xfers : s.fab.xfers = []
  fences : s.fab.fences = []
  retire : s.fab.retire = []
  shootA : s.xlt.shootA = none
  shootB : s.xlt.shootB = none
  revs : s.xlt.revs = []
  revokes : s.xlt.revokes = []
  heldLookups : s.xlt.heldLookups = []
  inFlight : s.tier.inFlight = []
  heldAnswers : s.tier.heldAnswers = []
  heldRequests : s.tier.heldRequests = []
  qps : s.eth.qps = []
  rebindHold : s.ras.rebindHold = none
  launches : s.qnc.launches = []
  units : s.qnc.units = []
  attends : s.qnc.attends = []
  run : ∀ n, (s.core n).run = none
  events : s.home.events = []
  voq : s.sws.voq = []
  entering : s.sws.entering = []
  stalls : s.sws.stalls = []
  collRuns : s.coll.runs = []
  embRuns : s.emb.runs = []
  vsRuns : s.vs.runs = []

/-- The same, with the registers undriven. -/
structure Calm (lw : Tbl Nat) (s : State) : Prop extends Drained lw s where
  undriven : s.undriven

/-- The same, with no island under test. -/
structure AtRest (lw : Tbl Nat) (s : State) : Prop extends Calm lw s where
  testing : s.pwr.testing = []

theorem Drained.setF (h : Drained lw s) (f : Fld) (v b : Nat) : Drained lw (s.setF f v b) := { h with }

theorem Calm.setF (h : Calm lw s) {f : Fld} (hf : f.inert = true) (v b : Nat) : Calm lw (s.setF f v b) :=
  ⟨h.toDrained.setF f v b, h.undriven.setF hf v b⟩

theorem AtRest.setF (h : AtRest lw s) {f : Fld} (hf : f.inert = true) (v b : Nat) : AtRest lw (s.setF f v b) := ⟨h.toCalm.setF hf v b, h.testing⟩

/-! ### Answers, transfers, entries and requests -/

theorem AtRest.deliverAnswers (h : AtRest lw s) : AtRest lw s.deliverAnswers := by
  rw [State.deliverAnswers, h.answers]
  exact { h with answers := rfl }

theorem AtRest.finishXfers (h : AtRest lw s) : ∀ n, s.finishXfers n = s
  | 0 => rfl
  | n + 1 => by rw [State.finishXfers, h.xfers]; rfl

theorem AtRest.journalEffects (h : AtRest lw s) : ∀ n, s.journalEffects n = s
  | 0 => rfl
  | n + 1 => by rw [State.journalEffects, h.toEffect]; rfl

theorem AtRest.advanceWorks (h : AtRest lw s) : s.advanceWorks = s := by
  rw [State.advanceWorks, h.works]; rfl

/-! ### Engines -/

theorem AtRest.settleWorkFences (h : AtRest lw s) : AtRest lw s.settleWorkFences := by
  rw [State.settleWorkFences, h.fences]
  exact { h with fences := rfl }

theorem AtRest.settleFences (h : AtRest lw s) : AtRest lw s.settleFences := by
  rw [State.settleFences, h.fences]
  exact { h with fences := rfl }

theorem AtRest.poolRelease (h : AtRest lw s) : s.poolRelease = s := by
  rw [State.poolRelease, h.embRuns]; rfl

theorem AtRest.settleEngines (h : AtRest lw s) : AtRest lw s.settleEngines := by
  have hf : AtRest lw s.settleWorkFences.settleFences := h.settleWorkFences.settleFences
  simp only [State.settleEngines, h.collRuns, h.embRuns, h.batches, h.revokes, h.attends, h.launches, List.map_nil, List.foldl_nil,
    List.isEmpty_nil, if_true]
  rwa [hf.poolRelease]

/-! ### Extents that are gone -/

theorem usedF_inert (tier : Nat) : (usedF tier).inert = true := by
  unfold usedF
  split
  · decide
  · split <;> decide

theorem AtRest.refreshTable (h : AtRest lw s) (c va gone : Nat) : AtRest lw (s.refreshTable c va gone) := by
  have hs : AtRest lw (s.showTable c) := (h.setF (by decide) _ _).setF (by decide) _ _
  exact { hs with }

theorem AtRest.withClaims (h : AtRest lw s) (l : List Claim) : AtRest lw ({ s with xlt.claims := l } : State) := { h with }

theorem AtRest.withLost (h : AtRest lw s) (a : List (Nat × Nat × Nat)) (b : List Nat) :
    AtRest lw ({ s with tier.lost := a, tier.told := b } : State) := { h with }

/-- The quotas of the claims of a list are given back. -/
theorem AtRest.unchargeClaims (h : AtRest lw s) (l : List Claim) :
    AtRest lw (l.foldl (fun s k => if k.alias_ then s else s.subF (usedF (cellTier k.cell)) k.bytes k.partition) s) := by
  refine List.foldlRecOn l _ h fun t ht k _ => ?_
  split
  · exact ht
  · exact ht.setF (usedF_inert _) _ _

theorem AtRest.dropClaims (h : AtRest lw s) (f : Claim → Bool) : AtRest lw (s.dropClaims f) :=
  (((((h.withClaims _).unchargeClaims _).setF (by decide) _ _).setF (by decide) _ _).withLost _ _).setF (by decide) _ _ |>.setF (by decide) _ _

theorem dgaDev_lt (a : Nat) : dgaDev a < 64 := Nat.mod_lt _ (by decide)

theorem AtRest.releaseClaim (h : AtRest lw s) (e : Extent) : AtRest lw (s.releaseClaim e) := by
  unfold State.releaseClaim
  dsimp only
  split
  · exact h.dropClaims _
  · rw [if_neg (by rw [h.undriven.memberState (dgaDev_lt _)]; decide)]
    exact h

theorem AtRest.shootSettle (h : AtRest lw s) (x : SeatId) : s.shootSettle x = s := by
  cases x
  · simp only [State.shootSettle, State.shootJob, h.shootA]
  · simp only [State.shootSettle, State.shootJob, h.shootB]

theorem AtRest.withExtents (h : AtRest lw s) (l : List Extent) : AtRest lw ({ s with xlt.extents := l } : State) := { h with }

/-- An extent that is gone leaves the table, and its claim is released where this member owns it; no owner elsewhere is ACTIVE to be told. -/
theorem AtRest.sweepExtents (h : AtRest lw s) : AtRest lw s.sweepExtents := by
  unfold State.sweepExtents
  dsimp only
  split
  · exact h
  · generalize hg : List.foldl _ s _ = t
    have ht : AtRest lw t := hg ▸ List.foldlRecOn _ _ h fun t ht e _ => ((ht.withExtents _).refreshTable _ _ _).releaseClaim e
    rw [ht.shootSettle, ht.shootSettle, ht.revs]
    exact ht

theorem AtRest.writeTables (h : AtRest lw s) : AtRest lw s.writeTables := by
  simp only [State.writeTables, h.undriven.ctxEnabled, Bool.false_and, List.filter_false, List.foldl_nil]
  exact { h with }

/-! ### What waits for memory, grants, cores or a rebinding -/

theorem AtRest.rebindSettle (h : AtRest lw s) : s.rebindSettle = s := by rw [State.rebindSettle, h.rebindHold]

theorem AtRest.admitSettle (h : AtRest lw s) : s.admitSettle = s := by
  rw [State.admitSettle, if_neg (by rw [h.undriven.admitting]; exact fun hc => absurd hc.1 (by decide))]

theorem AtRest.homeResetSettle (h : AtRest lw s) : s.homeResetSettle = s := by
  rw [State.homeResetSettle, if_neg (by simp [h.testing])]

theorem AtRest.recoverSettle (h : AtRest lw s) : s.recoverSettle = s := by
  rw [State.recoverSettle, if_neg (by simp [h.undriven.noImage])]

theorem AtRest.hostReady (h : AtRest lw s) : s.hostReady = [] := by simp [State.hostReady, h.qps]

theorem AtRest.hostPump (h : AtRest lw s) : s.hostPump = s := by rw [State.hostPump, h.hostReady]; rfl

theorem AtRest.grantCores (h : AtRest lw s) : s.grantCores = s := by rw [State.grantCores, h.launches, h.units]; rfl

theorem AtRest.searchWake (h : AtRest lw s) : s.searchWake = s := by rw [State.searchWake, h.vsRuns]; rfl

theorem AtRest.dmaResume (h : AtRest lw s) (n : Nat) : s.dmaResume n = s := by rw [State.dmaResume, h.run]

theorem AtRest.shootCheck (h : AtRest lw s) (x : SeatId) : s.shootCheck x = s := by
  cases x
  · simp only [State.shootCheck, State.shootJob, h.shootA]
  · simp only [State.shootCheck, State.shootJob, h.shootB]

theorem AtRest.retryHeld (h : AtRest lw s) : AtRest lw s.retryHeld := by
  rw [State.retryHeld, h.heldLookups]
  exact { h with heldLookups := rfl }

theorem AtRest.releaseWaiting (h : AtRest lw s) : AtRest lw s.releaseWaiting := by
  rw [State.releaseWaiting, h.waiting]
  exact { h with waiting := rfl }

theorem AtRest.releaseAnswers (h : AtRest lw s) : AtRest lw s.releaseAnswers := by
  rw [State.releaseAnswers, h.heldAnswers]
  exact { h with heldAnswers := rfl }

theorem AtRest.sendMirrors (h : AtRest lw s) : s.sendMirrors = s := by rw [State.sendMirrors, h.inFlight]; rfl

theorem AtRest.settleRetirements (h : AtRest lw s) : AtRest lw s.settleRetirements := by
  rw [State.settleRetirements, h.retire]
  exact { h with retire := rfl }

theorem AtRest.withoutHeldRequests (h : AtRest lw s) : AtRest lw ({ s with tier.heldRequests := [] } : State) :=
  { h with heldRequests := rfl }

theorem AtRest.settleWaits (h : AtRest lw s) : AtRest lw s.settleWaits := by
  have hx := h.sweepExtents.writeTables
  have hr := hx.retryHeld.releaseWaiting.releaseAnswers
  have hm := hr.settleRetirements
  have hdma : (List.range 16).foldl State.dmaResume s.sweepExtents.writeTables = s.sweepExtents.writeTables :=
    List.foldlRecOn (motive := fun t => t = s.sweepExtents.writeTables) _ _ rfl fun t ht n _ => by rw [ht, hx.dmaResume]
  simp only [State.settleWaits, hx.rebindSettle, hx.admitSettle, hx.homeResetSettle, hx.recoverSettle, hx.hostPump, hx.grantCores, hx.searchWake,
    hdma, hx.shootCheck, hr.sendMirrors, hm.events, hm.heldRequests, List.any_nil, List.filter_nil, List.foldl_nil, Bool.false_eq_true, if_false]
  exact hm.withoutHeldRequests

/-! ### The passes -/

theorem AtRest.settlePass (h : AtRest lw s) : AtRest lw s.settlePass := by
  have ha := h.deliverAnswers
  simp only [State.settlePass, ha.finishXfers, ha.journalEffects, ha.advanceWorks]
  exact ha.settleEngines.settleWaits

theorem AtRest.unsettled (h : AtRest lw s) : s.unsettled = false := by
  simp [State.unsettled, h.answers, h.xfers, h.works, h.toEffect, h.hostReady]

theorem AtRest.settleLoop (h : AtRest lw s) : ∀ n, AtRest lw (s.settleLoop n)
  | 0 => h
  | n + 1 => by simp only [State.settleLoop, h.settlePass.unsettled, Bool.false_eq_true, if_false]; exact h.settlePass

/-- What is left for the switch core and the window queue pairs: nothing. -/
structure Unqueued (lw : Tbl Nat) (s : State) : Prop where
  lastWrite : s.ctl.lastWrite = lw
  voq : s.sws.voq = []
  entering : s.sws.entering = []
  stalls : s.sws.stalls = []
  qps : s.eth.qps = []

theorem AtRest.unqueued (h : AtRest lw s) : Unqueued lw s := ⟨h.lastWrite, h.voq, h.entering, h.stalls, h.qps⟩

theorem State.refreshRing_frame (s : State) : s.refreshRing = { s with regs := s.refreshRing.regs } := by
  unfold State.refreshRing
  dsimp only
  split <;> rfl

theorem State.refreshRing_noMirror (s : State) : s.refreshRing.noMirror = s.noMirror := by
  unfold State.refreshRing State.noMirror
  dsimp only
  rw [State.fld_setF_ne _ _ (by decide), State.fld_setF_ne _ _ (by decide)]
  split
  · rw [State.fld_count_ne _ _ (by decide)]
  · rfl

/-- An entry that is written while there is no mirror and nothing is being copied goes to no one (R112). -/
theorem State.journalWrite_alone (e : JEntry) (hm : s.noMirror = true) (hr : s.fab.reqs = []) (hw : s.fab.waiting = []) :
    ∃ j r, s.journalWrite e = { s with jnl := j, regs := r } := by
  unfold State.journalWrite
  dsimp only
  generalize ht : (({ s with jnl.ring := _, jnl.toEffect := _, jnl.retentionJseq := _ } : State).bumpSeq F.JNL_HEAD_JSEQ) = t
  have htm : t.noMirror = true := by
    rw [← ht, State.noMirror, State.fld_bumpSeq_ne _ (by decide)]; exact hm
  have htc : t.refreshRing.copying = false := by
    rw [State.refreshRing_frame, ← ht]
    simp [State.copying, hr, hw]
  rw [if_pos (by rw [State.refreshRing_noMirror, htm, htc]; rfl), State.refreshRing_frame, ← ht]
  exact ⟨_, _, rfl⟩

theorem AtRest.carryForward (h : AtRest lw s) : Unqueued lw s.carryForward := by
  unfold State.carryForward
  repeat' split
  · exact h.unqueued
  · rename_i e _ _ _
    obtain ⟨j, r, hj⟩ := State.journalWrite_alone { e with carried := true } h.undriven.noMirror h.reqs h.waiting
    dsimp only
    rw [hj]
    exact ⟨h.lastWrite, h.voq, h.entering, h.stalls, h.qps⟩
  · exact h.unqueued
  · exact h.unqueued

theorem Unqueued.pruneRing (h : Unqueued lw s) : Unqueued lw s.pruneRing := by
  rw [State.pruneRing, State.refreshRing_frame]
  exact { h with }

theorem Unqueued.enterWaiting (h : Unqueued lw s) : s.enterWaiting = s := by
  simp [State.enterWaiting, h.entering, h.voq, h.stalls, Tbl.keys]

theorem Unqueued.refreshDrr (h : Unqueued lw s) : Unqueued lw s.refreshDrr := { h with }

theorem AtRest.settle (h : AtRest lw s) : Unqueued lw s.settle := by
  have hs : Unqueued lw (if s.quiet then s else (s.settleLoop 64).carryForward.pruneRing) := by
    split
    · exact h.unqueued
    · exact (h.settleLoop 64).carryForward.pruneRing
  unfold State.settle
  dsimp only
  rw [hs.enterWaiting]
  exact hs.refreshDrr

/-- What settles in a device at rest changes nothing of what the seats last wrote. -/
theorem AtRest.settleAll_lastWrite (h : AtRest lw s) : s.settleAll.ctl.lastWrite = lw := by
  unfold State.settleAll
  dsimp only
  rw [h.settle.qps]
  exact h.settle.lastWrite

end Sys2Proof.Machine
end

section
/-! L5 ordered by a seat (R411, R412, R416): the device that the ROM leaves without an accepted image is at rest and has no note of any write (R91),
which refutes the form that the obligation gives to the answer of RESET_L5. -/

namespace Sys2Proof.Machine

variable {lw : Tbl Nat} {s : State}

/-! ### What a cold reset leaves -/

theorem Drained.setCore (h : Drained lw s) (n : Nat) {k : Core} (hk : k.run = none) : Drained lw (s.setCore n k) := by
  refine { h with run := fun m => ?_ }
  unfold State.core State.setCore
  dsimp only
  by_cases hm : n = m
  · subst hm; rw [Tbl.getD_store_same]; exact hk
  · rw [Tbl.getD_store_ne _ _ _ _ hm]; exact h.run m

theorem Drained.freshCore (h : Drained lw s) (n : Nat) : Drained lw (s.freshCore n) :=
  Drained.setCore (s := { s with free := s.free + 1 }) { h with } n rfl

theorem State.dropVolatile_drained (s : State) : Drained s.ctl.lastWrite s.dropVolatile := by
  unfold State.dropVolatile
  dsimp only
  refine List.foldlRecOn _ _ ?_ fun t ht n _ => ht.freshCore n
  constructor <;> intros <;> rfl

theorem Drained.withCtl (h : Drained lw s) {c : Ctl} {l : Tbl Nat} (hc : c.lastWrite = l) : Drained l ({ s with ctl := c } : State) :=
  { h with lastWrite := hc }

theorem Drained.clearSeats (h : Drained lw s) : Drained [] s.clearSeats := by
  have hsem (t : State) (ht : Drained lw t) (n : Nat) : Drained lw ((((t.clearF (F.CTL_SEM_OWNER.at n)).clearF (F.CTL_SEM_GEN.at n)).clearF
      (F.CTL_SEM_LEASE_MS.at n)).clearF (F.CTL_SEM_TIE.at n)) := (((ht.setF _ _ _).setF _ _ _).setF _ _ _).setF _ _ _
  unfold State.clearSeats
  dsimp only
  exact (List.foldlRecOn (motive := Drained lw) _ _ h fun t ht n _ => hsem t ht n).withCtl rfl

theorem State.stopAll_drained (s : State) : Drained [] s.stopAll := (State.dropVolatile_drained _).clearSeats

/-- No register that L5 keeps, with the memory or without, lets waiting work go on. -/
theorem drives_of_kept {off lo : Nat} {memory : Bool} (h : (keptByL5 off lo || (memory && withMemory off)) = true) : drives off = false := by
  simp [keptByL5, withMemory] at h
  rw [drives_eq_false]
  omega

theorem Drained.keepRegs (h : Drained lw s) (memory : Bool) :
    Calm lw (s.keepRegs (fun off lo => keptByL5 off lo || (memory && withMemory off))) :=
  { h with undriven := fun _ he => drives_of_kept (List.mem_filter.mp he).2 }

theorem island_inert {n : Nat} (h : n < 24) : (F.PWR_ISLAND_STATE.at n).inert = true := by
  refine Fld.inert_iff.mpr ⟨?_, Nat.zero_lt_succ _, drives_eq_false.mpr ?_⟩ <;> simp only [Fld.at, F.PWR_ISLAND_STATE] <;> omega

theorem Calm.setIsland (h : Calm lw s) {k : Nat} (hk : k < 24) (st : Nat) : Calm lw (s.setIsland (k + 1) st) := by
  rw [State.setIsland, if_neg (by omega)]
  exact h.setF (island_inert hk) _ _

theorem Calm.withPower (h : Calm lw s) (p : Pwr) (t : Tst) : Calm lw ({ s with pwr := p, tst := t } : State) := { h with }

theorem Calm.withdrawWake (h : Calm lw s) {k : Nat} (hk : k < 24) : Calm lw (s.withdrawWake (k + 1)) := by
  have hgov (s : State) (h : Calm lw s) : Calm lw s.showGov := (h.setF (by decide) _ _).setF (by decide) _ _
  unfold State.withdrawWake
  dsimp only
  split
  · exact hgov _ ((h.setIsland hk _).withPower _ _)
  · exact hgov _ (h.withPower _ _)

theorem Calm.islandsOff (h : Calm lw s) : Calm lw s.islandsOff := by
  have hparts : Calm lw s.partsOff :=
    (((h.setF (by decide) _ _).setF (by decide) _ _).setF (by decide) _ _).setF (by decide) _ _
  exact List.foldlRecOn _ _ hparts fun t ht k hk => (ht.withdrawWake (List.mem_range.mp hk)).setIsland (List.mem_range.mp hk) _

theorem Drained.secReset (h : Drained lw s) : Drained lw s.secReset := { h with }

/-- A cold reset that keeps the memory leaves a device at rest. -/
theorem State.coldReset_atRest (s : State) : AtRest [] (s.coldReset true) :=
  ⟨((((s.stopAll_drained.secReset).keepRegs true).setF (by decide) _ _).islandsOff).withPower _ _, rfl⟩

/-! ### The start that follows -/

theorem AtRest.startCause (h : AtRest lw s) (cause : Nat) : AtRest lw (s.startCause cause false) := by
  have hc : AtRest lw ((s.setF F.RAS_RESET_CAUSE_CAUSE cause).setF F.RAS_RESET_CAUSE_DEDUP_LOST 0) := (h.setF (by decide) _ _).setF (by decide) _ _
  exact { hc with }

theorem AtRest.showResets (h : AtRest lw s) : AtRest lw s.showResets := h.setF (by decide) _ _

/-- What a start finds in a device whose firmware slots are empty. -/
def noFirmware : StartInfo :=
  { slot0 := [], slot1 := [], helper := [], image := [], pufOk := false, straps := 0, coreRef := false, serdesRef := false, lsrEn := false,
    dimms := [], flash := [], stacksFailed := [] }

/-- The ROM finds no image and stays (R425). -/
theorem State.boot_noFirmware (s : State) (fresh : Bool) : s.boot noFirmware fresh =
    (((({ s with sec.slot0 := [], sec.slot1 := [], sec.helper := [], sil.nor := [], pwr.startAt := s.now } : State).setF F.PWR_START_PHASE 0).setF
      F.SEC_STATE_FW 2).setF F.TST_STATE_ACCESS 3) := by
  have hrom (s : State) (h0 : s.sec.slot0 = []) (h1 : s.sec.slot1 = []) : s.romBoot = (s.setF F.SEC_STATE_FW 2).setF F.TST_STATE_ACCESS 3 := by
    have hempty : fwAccepted [] = false := rfl
    have hnone : s.bootSlot = none := by simp [State.bootSlot, h0, h1, hempty]
    rw [State.romBoot, hnone]
  unfold State.boot
  dsimp only
  rw [hrom _ rfl rfl, if_pos]
  · rfl
  · rw [State.fld_setF_ne _ _ (by decide), State.fld_setF_same]; decide

theorem AtRest.boot_noFirmware (h : AtRest lw s) (fresh : Bool) : AtRest lw (s.boot noFirmware fresh) := by
  have hinfo : AtRest lw ({ s with sec.slot0 := [], sec.slot1 := [], sec.helper := [], sil.nor := [], pwr.startAt := s.now } : State) := { h with }
  rw [State.boot_noFirmware]
  exact ((hinfo.setF (by decide) _ _).setF (by decide) _ _).setF (by decide) _ _

/-- The device after an L5 that finds no firmware. -/
def State.coldResetBlank (s : State) : State := (((s.coldReset true).startCause 2 false).showResets).boot noFirmware false

theorem State.coldResetBlank_atRest (s : State) : AtRest [] s.coldResetBlank :=
  ((s.coldReset_atRest.startCause 2).showResets).boot_noFirmware false

/-- A write that the other seat has not made before is noted, and collides with none. -/
theorem AtRest.noteWrite (h : AtRest [] s) (x : SeatId) (off : Nat) : AtRest [(2 * off + x.idx, s.now)] (s.noteWrite x off) := by
  have hw : s.noteWrite x off = { s with ctl.lastWrite := [(2 * off + x.idx, s.now)] } := by
    simp [State.noteWrite, h.lastWrite, Tbl.get?, Tbl.put]
  rw [hw]
  exact { h with lastWrite := rfl }

/-! ### A seat that orders L5 -/

/-- A device that has just started, with a channel of Seat A, which holds semaphore 0, while core 5 is being reset. -/
def coreFiveResets : State :=
  { State.reset with ctl.entries := [(0, ⟨.i3c, .a⟩)], ctl.semExpiry := [(0, 1)], regs := (F.CTL_SEM_OWNER.key 0, 1) :: resetRegs,
                     ras.running := [⟨1, 5, true⟩] }

theorem coreFiveResets_guarded : coreFiveResets.guardedBy .i3c 0 .a 0 :=
  ⟨⟨by decide, ⟨.i3c, .a⟩, by decide, rfl⟩, by decide⟩

theorem coreFiveResets_resetL5 (x : SeatId) (n : Nat) : (coreFiveResets.asked .i3c).resetL5 x n noFirmware =
    ((coreFiveResets.asked .i3c).resetBegin ⟨5, 0, true⟩).coldResetBlank := by
  have ha : (coreFiveResets.asked .i3c).membersIn .admitting = [] := by rw [State.asked_membersIn]; decide
  have hr : (coreFiveResets.asked .i3c).ras.running.any (fun q => q.covers ⟨5, 0, true⟩) = false := by rw [State.asked_ras]; decide
  rw [State.resetL5, State.deepOrder, if_neg (by simp [ha]), State.resetOrder, if_neg (by rw [hr]; decide)]
  rfl

/-- Refutes O50: a seat's `RESET_L5` that absorbs the reset of core 5 is noted as a write of `RAS_RESET_DEEP` (R91) after the reset has cleared all
such notes, so the state that it answers is not what any `v`, cold reset and booted, settles to: there no write is noted. -/
theorem not_resetScopes : ¬ Obligations.ResetScopes := by
  intro h
  obtain ⟨-, hdeep⟩ := h coreFiveResets .i3c 0 1 .a true noFirmware ⟨1, 5, true⟩ (by decide)
  obtain ⟨-, -, -, habsorbs⟩ := hdeep coreFiveResets_guarded
  obtain ⟨-, -, hL5⟩ := habsorbs rfl (by decide)
  obtain ⟨v, hv, -, -⟩ := hL5 (by decide) (by decide) (by decide)
  have hx := holder_performs (c := .resetL5 .i3c noFirmware) (ch := .i3c) (off := 0x180208) (sem := 0) (n := 0) (x := .a) rfl coreFiveResets_guarded
    (by rw [coreFiveResets_resetL5]; decide +kernel) (by decide)
  rw [coreFiveResets_resetL5] at hx
  rw [AnswersThen, hx] at hv
  have hlast := congrArg (fun t => t.ctl.lastWrite) (Host.Outcome.next.inj hv)
  simp only [State.after_ctl, ((State.coldResetBlank_atRest _).noteWrite _ _).settleAll_lastWrite] at hlast
  rw [show (((v.coldReset true).startCause 2 false).showResets).boot noFirmware false = v.coldResetBlank from rfl,
    v.coldResetBlank_atRest.settleAll_lastWrite] at hlast
  cases hlast

end Sys2Proof.Machine
end

section
/-! The queue and the device (spec/95, R440, R449, R462): what every command's answer has in common. -/

namespace Sys2Proof.Machine

variable {s t : State}

/-- Settles O1: a step is defined so. -/
theorem stepRunsFront : Obligations.StepRunsFront := fun _ _ _ => rfl

/-- Settles O3: nothing waits and nothing is stored after reset. -/
theorem resetQueue : Obligations.ResetQueue := ⟨rfl, rfl, rfl, rfl⟩

/-- Whatever a step answers holds the queue without its front, at no earlier time. -/
theorem step_pending_now (h : step s = .next t) : t.pending = s.pending.tail ∧ s.now ≤ t.now := by
  unfold step at h
  split at h
  next hp => cases h; exact ⟨by rw [hp]; rfl, le_refl _⟩
  next c rest hp =>
    obtain ⟨ok, f, hf⟩ := exec_shape { s with pending := rest } c
    rw [hf] at h
    obtain ⟨hq, hn⟩ := State.where_keeps _ h
    exact ⟨by rw [hq, hp]; rfl, hn⟩

/-- Settles O4: the queue that a step leaves is the tail of the queue before, so its commands are among those that were well-formed. -/
theorem stepKeepsQueue : Obligations.StepKeepsQueue := by
  intro s t hwf h
  obtain ⟨hp, hn⟩ := step_pending_now h
  refine ⟨?_, hp, hn⟩
  simp only [State.queueWf, hp, List.all_eq_true] at hwf ⊢
  exact fun c hc => hwf c (List.mem_of_mem_tail hc)

/-! ### What settles where nothing waits -/

theorem State.where_answers (s : State) (ok : Bool) (f : State → State) : ∃ t, s.where_ ok f = .next t := ⟨_, rfl⟩

theorem State.enterWaiting_none (he : s.sws.entering = []) (hv : s.sws.voq = []) (hs : s.sws.stalls = []) : s.enterWaiting = s := by
  simp [State.enterWaiting, he, hv, hs, Tbl.keys]

/-- In a quiet state no request waits at a queue pair. -/
theorem State.quiet_qps (h : s.quiet = true) : s.eth.qps.all (fun e => e.2.waiting.isEmpty) = true := by
  simp only [State.quiet, Bool.and_eq_true] at h
  simp only [h]

/-- Waiting requests are counted entry by entry, and none counts nothing. -/
theorem waitingCount_zero : ∀ {l : Tbl Qp} {n : Nat}, l.all (fun e => e.2.waiting.isEmpty) = true →
    l.foldl (fun n e => n + e.2.waiting.length) n = n
  | [], _, _ => rfl
  | e :: l, n, h => by
    simp only [List.all_cons, Bool.and_eq_true, List.isEmpty_iff] at h
    rw [List.foldl_cons, h.1]
    exact waitingCount_zero h.2

theorem State.settleAll_quiet (hq : s.quiet = true) (he : s.sws.entering = []) (hv : s.sws.voq = []) (hs : s.sws.stalls = []) :
    ∃ d, s.settleAll = { s with sws.drr := d } := by
  have hset : s.settle = s.refreshDrr := by
    simp only [State.settle, hq, if_true, State.enterWaiting_none he hv hs]
  have hqps : s.refreshDrr.eth.qps = s.eth.qps := rfl
  refine ⟨s.refreshDrr.sws.drr, ?_⟩
  simp only [State.settleAll, hset, hqps, waitingCount_zero (State.quiet_qps hq)]
  rw [State.windowPump, State.refreshDrr]

/-- Settles O2: an empty queue idles by definition, every command has the shape of an operation under a condition, and a quiet state leaves each
stage of the settling nothing to do. -/
theorem stepTotal : Obligations.StepTotal := by
  refine ⟨fun s h => by rw [step, h], fun s => ?_, fun u hq he hv hs => u.settleAll_quiet hq he hv hs⟩
  unfold step
  split
  next => exact ⟨s, rfl⟩
  next c rest hp =>
    obtain ⟨ok, f, hf⟩ := exec_shape { s with pending := rest } c
    exact hf ▸ State.where_answers _ ok f

/-! ### A device that does not run -/

/-- Every command but the four of the input and the reset contact has an effect only where the device runs. -/
theorem exec_needsLife {c : Instr} (s : State) (h : needsLife c = true) :
    ∃ l t, exec c s = .next (if s.serves l = true then s.after t else s) := by
  cases c
  case coldStart => cases h
  case inputDip => cases h
  case inputLoss => cases h
  case boardResetRelease => cases h
  all_goals exact ⟨_, _, rfl⟩

theorem State.serves_island {l : List Nat} {n : Nat} (hn : n ∈ l) (h : s.islandOn n = false) : s.serves l = false := by
  simp only [State.serves, Bool.and_eq_false_iff, List.all_eq_false]
  exact .inr ⟨n, hn, by simp [h]⟩

theorem State.homeIslands_mem (s : State) (p : Packet) : 18 ∈ s.homeIslands p := by
  unfold State.homeIslands
  split <;> simp

theorem noEffect_of_island {c : Instr} {l : List Nat} {t : State} {n : Nat}
    (hc : exec c s = .next (if s.serves l = true then s.after t else s)) (hn : n ∈ l) (h : s.islandOn n = false) : NoEffect c s := by
  rw [NoEffect, hc, State.serves_island hn h, if_neg Bool.false_ne_true]

/-- Settles O5: a command that needs a running device is guarded by it, and one that needs an island by that island. -/
theorem deadDeviceIgnores : Obligations.DeadDeviceIgnores := by
  refine ⟨fun c s hl hc => ?_, fun s p ecc => ⟨fun h => ⟨?_, ?_, ?_, ?_⟩, fun h => ⟨fun e => ?_, ?_⟩, fun h => ⟨?_, ?_⟩, fun h qp => ⟨?_, ?_⟩,
    fun n hn h => ⟨?_, ?_, ?_⟩⟩⟩
  · obtain ⟨l, t, ht⟩ := exec_needsLife s hc
    rw [NoEffect, ht, State.serves_dead _ hl, if_neg Bool.false_ne_true]
  · exact noEffect_of_island rfl (s.homeIslands_mem p) h
  · exact noEffect_of_island rfl (s.homeIslands_mem p) h
  · exact noEffect_of_island rfl (s.homeIslands_mem p) h
  · exact noEffect_of_island rfl (s.homeIslands_mem p) h
  · exact noEffect_of_island rfl (List.mem_singleton_self 17) h
  · exact noEffect_of_island rfl (List.mem_singleton_self 17) h
  · exact noEffect_of_island rfl (List.mem_singleton_self 19) h
  · exact noEffect_of_island rfl (List.mem_singleton_self 19) h
  · exact noEffect_of_island rfl (List.mem_singleton_self 24) h
  · exact noEffect_of_island rfl (List.mem_singleton_self 24) h
  · exact noEffect_of_island rfl (List.mem_singleton_self (n % 16 + 1)) (by rwa [Nat.mod_eq_of_lt hn])
  · exact noEffect_of_island rfl (List.mem_singleton_self (n % 16 + 1)) (by rwa [Nat.mod_eq_of_lt hn])
  · exact noEffect_of_island rfl (List.mem_singleton_self (n % 16 + 1)) (by rwa [Nat.mod_eq_of_lt hn])

end Sys2Proof.Machine
end

section
/-! Reads of the management window (R14, R16): the read-to-clear fields of a register, and the obligation. -/

namespace Sys2Proof.Machine

variable {s : State}

/-- The fields of a register that a read returns to their reset values. -/
def State.clearRcs (s : State) (bank : Nat) (fs : List Fld) : State :=
  fs.foldl (fun s f => if f.acc = .rc then s.clearF f bank else s) s

/-- A field that is cleared is listed no more, so every field under its key reads as its own reset value. -/
theorem State.fld_clearF_key {f g : Fld} {b c : Nat} (h : g.key b = f.key c) (hg : g.reset < 2 ^ g.width) : (s.clearF g b).fld f c = f.reset := by
  unfold State.clearF State.setF State.fld
  dsimp only
  rw [Nat.mod_eq_of_lt hg, Tbl.store, if_pos rfl, h, Tbl.getD, Tbl.get?_del_same]
  rfl

/-- Which fields a read clears, and what the others read as. -/
theorem State.fld_clearRcs (bank : Nat) {f : Fld} {c : Nat} : ∀ {fs : List Fld} (s : State), (∀ g ∈ fs, g.acc = .rc → g.reset < 2 ^ g.width) →
    (s.clearRcs bank fs).fld f c = if ∃ g ∈ fs, g.acc = .rc ∧ g.key bank = f.key c then f.reset else s.fld f c
  | [], s, _ => by simp [State.clearRcs]
  | g :: fs, s, h => by
    have ih := fun t => State.fld_clearRcs (f := f) (c := c) bank (fs := fs) t (fun k hk => h k (List.mem_cons_of_mem _ hk))
    have hstep : s.clearRcs bank (g :: fs) = (if g.acc = .rc then s.clearF g bank else s).clearRcs bank fs := rfl
    rw [hstep, ih]
    by_cases hrest : ∃ k ∈ fs, k.acc = .rc ∧ k.key bank = f.key c
    · rw [if_pos hrest, if_pos (by obtain ⟨k, hk, h'⟩ := hrest; exact ⟨k, List.mem_cons_of_mem _ hk, h'⟩)]
    · rw [if_neg hrest]
      by_cases hacc : g.acc = .rc
      · rw [if_pos hacc]
        by_cases hkey : g.key bank = f.key c
        · rw [State.fld_clearF_key hkey (h g List.mem_cons_self hacc), if_pos ⟨g, List.mem_cons_self, hacc, hkey⟩]
        · rw [if_neg (by simpa [hacc, hkey] using hrest)]
          exact State.fld_setF_ne _ _ hkey
      · rw [if_neg hacc, if_neg (by simpa [hacc] using hrest)]

/-- Every read-to-clear field of the register map has a reset value that fits it. -/
theorem regMap_rcReset : ∀ r ∈ regMap, ∀ f ∈ r.fields, f.acc = .rc → f.reset < 2 ^ f.width := by decide +kernel

theorem ite_subset_of_subset {α : Type} {c : Prop} [Decidable c] {l m k : List α} (hl : l ⊆ k) (hm : m ⊆ k) : (if c then l else m) ⊆ k := by
  split
  · exact hl
  · exact hm

theorem regsAt_subset (off : Nat) : regsAt off ⊆ regMap := by
  unfold regsAt
  repeat' apply ite_subset_of_subset
  all_goals intro r hr; simp only [regMap, List.mem_append, hr, true_or, or_true]

/-- The same for the register at an offset. -/
theorem regDefAt_rcReset {off : Nat} {r : RegDef} (h : regDefAt off = some r) : ∀ f ∈ r.fields, f.acc = .rc → f.reset < 2 ^ f.width := by
  simp only [regDefAt, Option.map_eq_some_iff] at h
  obtain ⟨q, hq, rfl⟩ := h
  intro f hf hacc
  obtain ⟨g, hg, rfl⟩ := List.mem_map.mp hf
  exact regMap_rcReset q (regsAt_subset off (List.mem_of_find?_eq_some hq)) g hg hacc

theorem State.clearRead_eq {off : Nat} {r : RegDef} (x : SeatId) (h : regDefAt off = some r) :
    s.clearRead x off = s.clearRcs (s.bankOf x r.scope) r.fields := by
  rw [State.clearRead, h]; rfl

@[simp] theorem State.touch_regs (s : State) (ch : ChanId) : (s.touch ch).regs = s.regs := by
  obtain ⟨a, b, h⟩ := s.touch_eq ch; rw [h]
@[simp] theorem State.touch_fld (s : State) (ch : ChanId) (f : Fld) (b : Nat) : (s.touch ch).fld f b = s.fld f b :=
  State.fld_congr (s.touch_regs ch) f b
@[simp] theorem State.touch_bankOf (s : State) (ch : ChanId) (x : SeatId) (k : Scope) : (s.touch ch).bankOf x k = s.bankOf x k := by
  cases k <;> simp [State.bankOf]

/-- An aligned word of the window breaks no rule of access. -/
theorem breaksR12_word {off : Nat} (ha : off % 8 = 0) (hr : off < 0x1000000) : breaksR12 off 8 = false := by
  simp only [breaksR12, decide_eq_false_iff_not]; omega

/-- A read of one word over a bound channel: what it shows, and the state it leaves. -/
theorem State.windowReadShown_bound {ch : ChanId} {n off : Nat} {e : ChanEntry} (he : s.ctl.entryOf ch = some (n, e)) (ha : off % 8 = 0)
    (hr : off < 0x1000000) : s.windowReadShown ch off 8 =
      { (s.touch ch).clearRead e.seat off with ctl.lastRead := some (ch, natLe 8 ((s.touch ch).readWord e.seat ch off)) } := by
  simp [State.windowReadShown, State.windowRead, breaksR12_word ha hr, State.windowReadWord, he, List.range_succ]

theorem answers_of_run {c : Instr} {g : State → State} (hc : exec c s = s.run [] g) (hs : s.serves [] = true) : Answers c s (g s) := by
  rw [Answers, hc, State.run_serves _ _ hs]

/-- Settles O8: a read clears what `fld_clearRcs` says it clears. -/
theorem readClears : Obligations.ReadClears := by
  intro s ch n e off r hs he ha hr hreg
  have hfits := regDefAt_rcReset hreg
  have hregs : (s.windowReadShown ch off 8).regs = ((s.touch ch).clearRcs (s.bankOf e.seat r.scope) r.fields).regs := by
    rw [State.windowReadShown_bound he ha hr, State.clearRead_eq _ hreg, State.touch_bankOf]
  refine ⟨s.windowReadShown ch off 8, answers_of_run (exec_rcFieldRead s ch off 8) hs, ?_, fun f hf hacc => ?_, fun g c hg => ?_⟩
  · rw [State.windowReadShown_bound he ha hr]
  · rw [State.fld_congr hregs, State.fld_clearRcs _ _ hfits, if_pos ⟨f, hf, hacc, rfl⟩]
  · rw [State.fld_congr hregs, State.fld_clearRcs _ _ hfits, if_neg, State.touch_fld]
    rintro ⟨f, hf, hacc, hk⟩
    exact hg f hf hacc hk

end Sys2Proof.Machine
end

section
/-! Claims and channels (R80, R83, R84): the outcome that a channel's claim status shows, the buffers of claims, and the bindings. -/

namespace Sys2Proof.Machine

variable {s t : State} {ch : ChanId}

/-! ### Accesses that restart a seat's liveness period -/

@[simp] theorem State.touch_entries (s : State) (ch : ChanId) : (s.touch ch).ctl.entries = s.ctl.entries := by
  obtain ⟨a, b, h⟩ := s.touch_eq ch; rw [h]
@[simp] theorem State.touch_bufs (s : State) (ch : ChanId) : (s.touch ch).ctl.bufs = s.ctl.bufs := by
  obtain ⟨a, b, h⟩ := s.touch_eq ch; rw [h]
@[simp] theorem State.touch_now (s : State) (ch : ChanId) : (s.touch ch).now = s.now := by
  obtain ⟨a, b, h⟩ := s.touch_eq ch; rw [h]
@[simp] theorem State.touch_free (s : State) (ch : ChanId) : (s.touch ch).free = s.free := by
  obtain ⟨a, b, h⟩ := s.touch_eq ch; rw [h]
@[simp] theorem State.touch_entryOf (s : State) (ch c : ChanId) : (s.touch ch).ctl.entryOf c = s.ctl.entryOf c := by
  simp [Ctl.entryOf]
@[simp] theorem State.touch_seatOf (s : State) (ch c : ChanId) : (s.touch ch).seatOf c = s.seatOf c := by simp [State.seatOf]
@[simp] theorem State.touch_fwVerified (s : State) (ch : ChanId) : (s.touch ch).fwVerified = s.fwVerified := by simp [State.fwVerified]

theorem State.seatOf_isSome : (s.seatOf ch).isSome = true ↔ s.ctl.entryOf ch ≠ none := by
  simp [State.seatOf, Option.isSome_iff_ne_none]

/-! ### Outcomes -/

theorem State.claimOutcome_frame (s : State) (ch : ChanId) (st : Status) (r : Nat) :
    s.claimOutcome ch st r = { s with ctl.outcomes := (s.claimOutcome ch st r).ctl.outcomes } := by
  unfold State.claimOutcome
  split <;> rfl

@[simp] theorem State.claimOutcome_bufs (s : State) (ch : ChanId) (st : Status) (r : Nat) : (s.claimOutcome ch st r).ctl.bufs = s.ctl.bufs := by
  rw [State.claimOutcome_frame]
@[simp] theorem State.claimOutcome_entries (s : State) (ch : ChanId) (st : Status) (r : Nat) :
    (s.claimOutcome ch st r).ctl.entries = s.ctl.entries := by
  rw [State.claimOutcome_frame]
@[simp] theorem State.claimOutcome_seatA (s : State) (ch : ChanId) (st : Status) (r : Nat) : (s.claimOutcome ch st r).ctl.seatA = s.ctl.seatA := by
  rw [State.claimOutcome_frame]
@[simp] theorem State.claimOutcome_seatB (s : State) (ch : ChanId) (st : Status) (r : Nat) : (s.claimOutcome ch st r).ctl.seatB = s.ctl.seatB := by
  rw [State.claimOutcome_frame]
@[simp] theorem State.claimOutcome_seat (s : State) (ch : ChanId) (st : Status) (r : Nat) (x : SeatId) :
    (s.claimOutcome ch st r).seat x = s.seat x := by
  rw [State.claimOutcome_frame]; rfl
@[simp] theorem State.claimOutcome_now (s : State) (ch : ChanId) (st : Status) (r : Nat) : (s.claimOutcome ch st r).now = s.now := by
  rw [State.claimOutcome_frame]

/-- The first outcome of a channel in a list in which that channel's outcomes have been replaced. -/
theorem find?_map_outcome (ch : ChanId) (f : ClaimOutcome → ClaimOutcome) (hf : ∀ o, (f o).chan = o.chan) : ∀ l : List ClaimOutcome,
    (l.map (fun o => if o.chan == ch then f o else o)).find? (fun o => o.chan == ch) = (l.find? (fun o => o.chan == ch)).map f
  | [] => rfl
  | o :: l => by
    by_cases h : o.chan == ch
    · have hfo : (f o).chan == ch := by rwa [hf]
      simp only [List.map_cons, List.find?_cons, h, hfo, if_true, Option.map_some]
    · simp only [List.map_cons, List.find?_cons, h, Bool.false_eq_true, if_false, find?_map_outcome ch f hf l]

/-- An outcome that is posted is shown. -/
theorem State.claimOutcome_shows (s : State) (ch : ChanId) (st : Status) (r : Nat) : (s.claimOutcome ch st r).claimShows ch st r := by
  unfold State.claimOutcome State.claimShows
  split
  next o ho =>
    refine ⟨{ o with status := st, reason := r, seq := (o.seq + 1) % 256 }, ?_, rfl, rfl⟩
    exact (find?_map_outcome ch (fun o => { o with status := st, reason := r, seq := (o.seq + 1) % 256 }) (fun _ => rfl) _).trans (by rw [ho]; rfl)
  next ho => exact ⟨⟨ch, st, r, 1⟩, by simp [ho], rfl, rfl⟩

/-! ### The commands of a claim -/

theorem State.claimBegin_refused (h : s.ctl.entryOf ch ≠ none ∨ s.fwVerified = false) : s.claimBegin ch = s.claimOutcome ch .stateConflict 0x09 := by
  rw [State.claimBegin, if_pos]
  rcases h with h | h
  · exact .inl (State.seatOf_isSome.mpr h)
  · exact .inr (by simp [h])

theorem State.unbound_verified (hf : s.fwVerified = true) (hu : s.ctl.entryOf ch = none) : ¬((s.seatOf ch).isSome = true ∨ (!s.fwVerified) = true) := by
  simp [State.seatOf, hu, hf]

theorem State.claimBegin_free {k : Nat} (hf : s.fwVerified = true) (hu : s.ctl.entryOf ch = none)
    (hb : s.ctl.bufs.find? (fun e => e.2.chan == ch) = none) (hk : s.ctl.bufs.firstFree 4 = some k) :
    s.claimBegin ch = { s with free := s.free + 1, ctl.bufs := s.ctl.bufs.put k ⟨ch, Config.random s.free 32, [], s.now, false⟩ } := by
  simp only [State.claimBegin, if_neg (State.unbound_verified hf hu), State.draw, hb, hk]

theorem State.claimBegin_full (hf : s.fwVerified = true) (hu : s.ctl.entryOf ch = none)
    (hb : s.ctl.bufs.find? (fun e => e.2.chan == ch) = none) (hk : s.ctl.bufs.firstFree 4 = none) :
    s.claimBegin ch = s.claimOutcome ch .busy 0x08 := by
  simp only [State.claimBegin, if_neg (State.unbound_verified hf hu), hb, hk]

theorem State.claimSubmit_open {k : Nat} {b : ClaimBuf} (hf : s.fwVerified = true) (hu : s.ctl.entryOf ch = none)
    (hb : s.ctl.bufs.find? (fun e => e.2.chan == ch) = some (k, b)) :
    s.claimSubmit ch = { s with ctl.bufs := s.ctl.bufs.put k { b with submitted := true } } := by
  simp only [State.claimSubmit, if_neg (State.unbound_verified hf hu), hb]

theorem State.claimTimeout_unused {k : Nat} {b : ClaimBuf} (hb : s.ctl.bufs.get? k = some b) (hs : b.submitted = false) :
    s.claimTimeout k =
      ({ s.reach (b.opened + claimPeriod) with ctl.bufs := s.ctl.bufs.del k } : State).claimOutcome b.chan .timeout 0x0B := by
  simp only [State.claimTimeout, hb, hs]
  rfl

/-- A claim that fails posts its outcome and releases its buffer, and that is all. -/
theorem State.claimCheck_fails {k : Nat} {b : ClaimBuf} {internal : Bool} {st : Status} {r : Nat} (hb : s.ctl.bufs.get? k = some b)
    (hs : b.submitted = true) (hf : (if internal then some (.internal, 0xFF) else s.claimFault b) = some (st, r)) :
    s.claimCheck k internal = ({ s with ctl.bufs := s.ctl.bufs.del k } : State).claimOutcome b.chan st r := by
  simp only [State.claimCheck, hb, hs, hf, if_true]

/-- The seat that a claim record names, and its identity digest. -/
def ClaimBuf.seat (b : ClaimBuf) : SeatId := if field b.bytes 0 1 = 1 then .b else .a
def ClaimBuf.identity (b : ClaimBuf) : List Byte := Config.sha384 (slice b.bytes 64 32 ++ slice b.bytes 96 1952)

/-- What a claim that succeeds binds. -/
def State.claimBound (s : State) (k : Nat) (b : ClaimBuf) : State :=
  ({ s with ctl.bufs := s.ctl.bufs.del k } : State).bindChannel b.chan b.seat b.identity (field b.bytes 8 8)

theorem State.claimCheck_succeeds {k : Nat} {b : ClaimBuf} (hb : s.ctl.bufs.get? k = some b) (hs : b.submitted = true)
    (hf : s.claimFault b = none) : s.claimCheck k false =
      ((s.claimBound k b).extendMr 6 0 (Config.sha384 (b.identity ++ natLe 1 b.seat.idx))).claimOutcome b.chan .done 0x00 := by
  simp only [State.claimCheck, hb, hs, hf, if_true, Bool.false_eq_true, if_false]
  rfl

@[simp] theorem State.extendMr_ctl (s : State) (r k : Nat) (e : List Byte) : (s.extendMr r k e).ctl = s.ctl := by
  unfold State.extendMr
  dsimp only
  split <;> rfl

theorem State.seat_congr (h : t.ctl = s.ctl) (x : SeatId) : t.seat x = s.seat x := by cases x <;> simp [State.seat, h]

@[simp] theorem State.setSeat_seat (s : State) (x : SeatId) (v : Seat) : (s.setSeat x v).seat x = v := by cases x <;> rfl
@[simp] theorem State.setSeat_entries (s : State) (x : SeatId) (v : Seat) : (s.setSeat x v).ctl.entries = s.ctl.entries := by cases x <;> rfl
@[simp] theorem State.setSeat_bufs (s : State) (x : SeatId) (v : Seat) : (s.setSeat x v).ctl.bufs = s.ctl.bufs := by cases x <;> rfl

/-- The entries after a channel is bound: one more, where one is free. -/
theorem State.bindChannel_entries (s : State) (ch : ChanId) (x : SeatId) (i : List Byte) (c : Nat) : (s.bindChannel ch x i c).ctl.entries =
    (s.ctl.entries.firstFree 16).elim s.ctl.entries (fun n => s.ctl.entries.put n ⟨ch, x⟩) := by
  unfold State.bindChannel
  dsimp only
  rw [State.setSeat_entries]
  split
  next n hn => rw [hn]; rfl
  next hn => rw [hn]; rfl

@[simp] theorem State.bindChannel_bufs (s : State) (ch : ChanId) (x : SeatId) (i : List Byte) (c : Nat) :
    (s.bindChannel ch x i c).ctl.bufs = s.ctl.bufs := by
  unfold State.bindChannel
  dsimp only
  rw [State.setSeat_bufs]
  split <;> rfl

theorem State.bindChannel_seat (s : State) (ch : ChanId) (x : SeatId) (i : List Byte) (c : Nat) :
    ((s.bindChannel ch x i c).seat x).state = .bound ∧ ((s.bindChannel ch x i c).seat x).identity = i := by
  unfold State.bindChannel
  dsimp only
  rw [State.setSeat_seat]
  exact ⟨rfl, rfl⟩

/-- The commands by which an unbound channel claims a seat. -/
theorem claim_commands (hs : s.serves [] = true) {k : Nat} {b : ClaimBuf} :
    (s.ctl.entryOf ch ≠ none ∨ s.fwVerified = false →
      ∃ u, Answers (.claimBegin ch) s u ∧ u.claimShows ch .stateConflict 0x09 ∧ u.ctl.bufs = s.ctl.bufs) ∧
    (s.fwVerified = true → s.ctl.entryOf ch = none → s.ctl.bufs.find? (fun e => e.2.chan == ch) = none → s.ctl.bufs.firstFree 4 = some k →
      ∃ u, Answers (.claimBegin ch) s u ∧ u.ctl.bufs.get? k = some ⟨ch, Config.random s.free 32, [], s.now, false⟩ ∧ u.free = s.free + 1) ∧
    (s.fwVerified = true → s.ctl.entryOf ch = none → s.ctl.bufs.find? (fun e => e.2.chan == ch) = none → s.ctl.bufs.firstFree 4 = none →
      ∃ u, Answers (.claimBegin ch) s u ∧ u.claimShows ch .busy 0x08 ∧ u.ctl.bufs = s.ctl.bufs) ∧
    (s.fwVerified = true → s.ctl.entryOf ch = none → s.ctl.bufs.find? (fun e => e.2.chan == ch) = some (k, b) →
      ∃ u, Answers (.claimSubmit ch) s u ∧ u.ctl.bufs.get? k = some { b with submitted := true } ∧ u.regs = s.regs) := by
  have hbegin : Answers (.claimBegin ch) s ((s.touch ch).claimBegin ch) := answers_of_run (g := fun s => (s.touch ch).claimBegin ch) rfl hs
  have hsubmit : Answers (.claimSubmit ch) s ((s.touch ch).claimSubmit ch) := answers_of_run (g := fun s => (s.touch ch).claimSubmit ch) rfl hs
  refine ⟨fun h => ⟨_, hbegin, ?_⟩, fun hf hu hb hk => ⟨_, hbegin, ?_⟩, fun hf hu hb hk => ⟨_, hbegin, ?_⟩, fun hf hu hb => ⟨_, hsubmit, ?_⟩⟩
  · rw [State.claimBegin_refused (by simpa using h)]
    exact ⟨State.claimOutcome_shows _ _ _ _, by simp⟩
  · rw [State.claimBegin_free (k := k) (by simpa using hf) (by simpa using hu) (by simpa using hb) (by simpa using hk)]
    simp
  · rw [State.claimBegin_full (by simpa using hf) (by simpa using hu) (by simpa using hb) (by simpa using hk)]
    exact ⟨State.claimOutcome_shows _ _ _ _, by simp⟩
  · rw [State.claimSubmit_open (k := k) (b := b) (by simpa using hf) (by simpa using hu) (by simpa using hb)]
    simp

theorem claimTimeout_answers (hs : s.serves [] = true) {k : Nat} {b : ClaimBuf} (hb : s.ctl.bufs.get? k = some b) (hn : b.submitted = false) :
    ∃ u, Answers (.claimBufferTimeout k) s u ∧ u.ctl.bufs.get? k = none ∧ u.claimShows b.chan .timeout 0x0B ∧ b.opened + 10000000000 ≤ u.now := by
  refine ⟨s.claimTimeout k, answers_of_run (g := fun s => s.claimTimeout k) rfl hs, ?_⟩
  rw [State.claimTimeout_unused hb hn]
  exact ⟨by simp, State.claimOutcome_shows _ _ _ _, by simp [State.reach, claimPeriod]⟩

/-- Settles O10: each command by the equation of its case. -/
theorem claims : Obligations.Claims := by
  refine ⟨fun s ch k b hs => ?_, fun s k b hs hb hsub => ?_⟩
  · obtain ⟨hrefused, hfree, hfull, hsubmit⟩ := claim_commands (ch := ch) (k := k) (b := b) hs
    exact ⟨fun h => hrefused (.inl h), fun h => hrefused (.inr h), hfree, hfull, hsubmit, fun hb hn => claimTimeout_answers hs hb hn⟩
  · have hanswer (i : Bool) : Answers (.claimCheckDone k i) s (s.claimCheck k i) := answers_of_run (g := fun s => s.claimCheck k i) rfl hs
    refine ⟨⟨_, hanswer true, ?_⟩, fun st r hf => ⟨_, hanswer false, ?_⟩, fun hf m hm x hx => ⟨_, hanswer false, ?_⟩⟩
    · rw [State.claimCheck_fails hb hsub (if_pos rfl)]
      exact ⟨State.claimOutcome_shows _ _ _ _, by simp, by simp⟩
    · rw [State.claimCheck_fails hb hsub (by simpa using hf)]
      exact ⟨State.claimOutcome_shows _ _ _ _, by simp, by simp, by simp, by simp⟩
    · have hseat : ∀ y, ((s.claimBound k b).extendMr 6 0 (Config.sha384 (b.identity ++ natLe 1 b.seat.idx))).seat y = (s.claimBound k b).seat y :=
        State.seat_congr (by simp)
      obtain ⟨hbound, hident⟩ := State.bindChannel_seat ({ s with ctl.bufs := s.ctl.bufs.del k } : State) b.chan b.seat b.identity (field b.bytes 8 8)
      rw [← ClaimBuf.seat] at hx
      rw [hx, State.claimCheck_succeeds hb hsub hf, State.claimOutcome_seat, hseat]
      exact ⟨State.claimOutcome_shows _ _ _ _, by simp [State.claimBound], by simp [State.claimBound, State.bindChannel_entries, hm], hbound, hident⟩

/-! ### The bindings stay within their bounds -/

/-- What R80 asks of the list of bindings alone. -/
def entriesOk (l : Tbl ChanEntry) : Prop :=
  l.sorted = true ∧ (∀ e ∈ l, e.1 < 16) ∧ (l.map (fun e => e.2.chan)).Nodup ∧ ∀ x, (l.filter (fun e => e.2.seat == x)).length ≤ 8

theorem State.channelsOk_iff (s : State) : s.channelsOk ↔ entriesOk s.ctl.entries := by
  refine ⟨fun ⟨h1, h2, h3, ha, hb⟩ => ⟨h1, h2, h3, fun x => ?_⟩, fun ⟨h1, h2, h3, h4⟩ => ⟨h1, h2, h3, h4 .a, h4 .b⟩⟩
  cases x
  · exact ha
  · exact hb

theorem entriesOk.filter {l : Tbl ChanEntry} (h : entriesOk l) (p : Nat × ChanEntry → Bool) : entriesOk (l.filter p) := by
  obtain ⟨h1, h2, h3, h4⟩ := h
  refine ⟨?_, fun e he => h2 e (List.mem_of_mem_filter he), h3.sublist (List.filter_sublist.map _), fun x => le_trans ?_ (h4 x)⟩
  · rw [Tbl.sorted_iff] at h1 ⊢
    exact h1.sublist (List.filter_sublist.map _)
  · exact (List.filter_sublist.filter _).length_le

/-- An entry under a free key stands once among the others. -/
theorem Tbl.put_perm {α : Type} (v : α) {k : Nat} : ∀ {t : Tbl α}, t.get? k = none → (t.put k v).Perm ((k, v) :: t)
  | [], _ => List.Perm.refl _
  | (k', v') :: t, h => by
    have hk : k ≠ k' := by rintro rfl; simp [Tbl.get?] at h
    have ht : Tbl.get? t k = none := by simpa [Tbl.get?, Ne.symm hk] using h
    unfold Tbl.put
    rw [if_neg hk]
    split
    · exact List.Perm.refl _
    · exact ((Tbl.put_perm v ht).cons _).trans (List.Perm.swap _ _ _)

theorem Tbl.firstFree_spec {α : Type} {t : Tbl α} {n k : Nat} (h : t.firstFree n = some k) : k < n ∧ t.get? k = none :=
  ⟨List.mem_range.mp (List.mem_of_find?_eq_some h), by simpa using List.find?_some h⟩

theorem entriesOk.put {l : Tbl ChanEntry} (h : entriesOk l) {n : Nat} (hn : l.firstFree 16 = some n) {x : SeatId}
    (hc : ∀ e ∈ l, e.2.chan ≠ ch) (hx : (l.filter (fun e => e.2.seat == x)).length < 8) : entriesOk (l.put n ⟨ch, x⟩) := by
  obtain ⟨h1, h2, h3, h4⟩ := h
  obtain ⟨hlt, hfree⟩ := Tbl.firstFree_spec hn
  have hp := Tbl.put_perm (⟨ch, x⟩ : ChanEntry) hfree
  refine ⟨Tbl.sorted_put _ _ _ h1, fun e he => ?_, ?_, fun y => ?_⟩
  · rcases List.mem_cons.mp (hp.mem_iff.mp he) with rfl | he
    · exact hlt
    · exact h2 e he
  · rw [(hp.map _).nodup_iff, List.map_cons, List.nodup_cons]
    exact ⟨by simpa using hc, h3⟩
  · rw [(hp.filter _).length_eq, List.filter_cons]
    by_cases hy : x = y
    · subst hy; simpa using hx
    · simpa [hy] using h4 y

theorem State.entryOf_none (h : s.ctl.entryOf ch = none) : ∀ e ∈ s.ctl.entries, e.2.chan ≠ ch := by simpa [Ctl.entryOf] using h

theorem ite_some_eq_none {α : Type} {c : Prop} [Decidable c] {a : α} {o : Option α} : (if c then some a else o) = none ↔ ¬c ∧ o = none := by
  split <;> simp [*]

/-- What the checks of a claim that succeeds have found of the bindings. -/
theorem State.claimFault_none {b : ClaimBuf} (h : s.claimFault b = none) : s.ctl.channelsOf b.seat < 8 ∧ s.ctl.entryOf b.chan = none := by
  unfold State.claimFault at h
  dsimp only at h
  simp only [ite_some_eq_none] at h
  obtain ⟨-, -, -, -, -, -, -, hroom, hbound, -⟩ := h
  push Not at hroom hbound
  exact ⟨hroom.1, by simpa [State.seatOf] using hbound.1⟩

@[simp] theorem State.logErr_entries (s : State) (r : ErrRec) : (s.logErr r).ctl.entries = s.ctl.entries := by simp

theorem State.seatLost_entries (s : State) (x : SeatId) : (s.seatLost x).ctl.entries = s.ctl.entries.filter (fun e => e.2.seat != x) := by
  simp [State.seatLost]

/-- A channel that closes leaves its entry, and its seat all its entries where that was the last. -/
theorem State.closeChannel_entriesOk (h : entriesOk s.ctl.entries) (ch : ChanId) : entriesOk (s.closeChannel ch).ctl.entries := by
  have hclosed := h.filter (fun e => e.2.chan != ch)
  unfold State.closeChannel
  dsimp only
  split
  · split
    · rw [State.seatLost_entries]; exact hclosed.filter _
    · exact hclosed
  · exact hclosed

theorem State.semExpire_entries (s : State) (n : Nat) : (s.semExpire n).ctl.entries = s.ctl.entries := by
  unfold State.semExpire
  dsimp only
  repeat' split
  all_goals simp

theorem Ctl.dropBufs_entries : ∀ (l : List ChanId) (c : Ctl), (l.foldl Ctl.dropBuf c).entries = c.entries
  | [], _ => rfl
  | _ :: l, _ => Ctl.dropBufs_entries l _

theorem State.releaseSeat_entriesOk (h : entriesOk s.ctl.entries) (x : SeatId) : entriesOk (s.releaseSeat x).ctl.entries := by
  unfold State.releaseSeat
  dsimp only
  rw [State.setSeat_entries]
  refine entriesOk.filter ?_ _
  rw [Ctl.dropBufs_entries]
  refine List.foldlRecOn (motive := fun t : State => entriesOk t.ctl.entries) _ _ h fun t ht n _ => ?_
  exact (State.semExpire_entries t n).symm ▸ ht

theorem State.livenessTimeout_entriesOk (h : entriesOk s.ctl.entries) (x : SeatId) : entriesOk (s.livenessTimeout x).ctl.entries := by
  unfold State.livenessTimeout
  split
  · rw [State.seatLost_entries]; exact h.filter _
  · exact h

theorem State.claimBegin_entries (s : State) (ch : ChanId) : (s.claimBegin ch).ctl.entries = s.ctl.entries := by
  unfold State.claimBegin
  dsimp only [State.draw]
  repeat' split
  all_goals simp

theorem State.claimSubmit_entries (s : State) (ch : ChanId) : (s.claimSubmit ch).ctl.entries = s.ctl.entries := by
  unfold State.claimSubmit
  repeat' split
  all_goals simp

/-- A claim that succeeds binds a channel that no entry holds, to a seat that has room. -/
theorem State.claimCheck_entriesOk (h : entriesOk s.ctl.entries) (k : Nat) (internal : Bool) : entriesOk (s.claimCheck k internal).ctl.entries := by
  cases hb : s.ctl.bufs.get? k with
  | none => simpa only [State.claimCheck, hb] using h
  | some b =>
    by_cases hsub : b.submitted = true
    · cases hf : (if internal then some (.internal, 0xFF) else s.claimFault b) with
      | some f => rw [State.claimCheck_fails hb hsub hf]; simpa using h
      | none =>
        obtain ⟨hi, hnone⟩ := ite_some_eq_none.mp hf
        obtain rfl := Bool.eq_false_of_not_eq_true hi
        have hfound := State.claimFault_none hnone
        rw [State.claimCheck_succeeds hb hsub hnone, State.claimOutcome_entries, State.extendMr_ctl, State.claimBound, State.bindChannel_entries]
        cases hn : s.ctl.entries.firstFree 16 with
        | some n => exact h.put hn (State.entryOf_none hfound.2) hfound.1
        | none => exact h
    · simpa only [State.claimCheck, hb, hsub, Bool.false_eq_true, if_false] using h

/-- A command that keeps the bindings in order where it acts keeps them. -/
theorem entriesOk_of_run {c : Instr} {g : State → State} (hc : exec c s = s.run [] g) (hg : entriesOk (g s).ctl.entries) (h : entriesOk s.ctl.entries)
    (ht : exec c s = .next t) : t.channelsOk := by
  rw [State.channelsOk_iff]
  rw [hc, State.run, State.where_] at ht
  cases ht
  split
  · exact hg
  · exact h

/-- Settles O13: each of the commands keeps `entriesOk`. -/
theorem channelsStayOk : Obligations.ChannelsStayOk := by
  intro s ch k x internal h c hc t ht
  rw [State.channelsOk_iff] at h
  have hseat (f : SeatId → Nat → State → State) (hf : ∀ y n (u : State), entriesOk u.ctl.entries → entriesOk (f y n u).ctl.entries) :
      entriesOk (s.asSeat ch f).ctl.entries := by
    unfold State.asSeat
    split
    · exact hf _ _ _ (by simpa using h)
    · simpa using h
  simp only [List.mem_cons, List.not_mem_nil, or_false] at hc
  rcases hc with rfl | rfl | rfl | rfl | rfl | rfl | rfl | rfl
  · exact entriesOk_of_run (g := fun s => s.claimCheck k internal) rfl (State.claimCheck_entriesOk h _ _) h ht
  · exact entriesOk_of_run (g := fun s => s.closeChannel ch) rfl (State.closeChannel_entriesOk h _) h ht
  · exact entriesOk_of_run (g := fun s => s.asSeat ch (fun x _ s => s.releaseSeat x)) rfl
      (hseat _ fun y _ u hu => State.releaseSeat_entriesOk hu y) h ht
  · exact entriesOk_of_run (g := fun s => s.livenessTimeout x) rfl (State.livenessTimeout_entriesOk h _) h ht
  · exact entriesOk_of_run (g := fun s => (s.touch ch).claimBegin ch) rfl (by simpa [State.claimBegin_entries] using h) h ht
  · exact entriesOk_of_run (g := fun s => (s.touch ch).claimSubmit ch) rfl (by simpa [State.claimSubmit_entries] using h) h ht
  · exact entriesOk_of_run (g := fun s => s.asSeat ch (fun _ _ s => s)) rfl (hseat _ fun _ _ _ hu => hu) h ht
  · exact entriesOk_of_run (g := fun s => s.i3cReset) rfl (State.closeChannel_entriesOk h _) h ht

end Sys2Proof.Machine
end

section
/-! The I3C sideband (R92): addresses, common command codes, and private frames. -/

namespace Sys2Proof.Machine

variable {s : State}

@[simp] theorem natLe_length : ∀ n v : Nat, (natLe n v).length = n
  | 0, _ => rfl
  | n + 1, v => by simp [natLe, natLe_length n]

@[simp] theorem zeros_length (n : Nat) : (zeros n).length = n := List.length_replicate

/-- Taking the bits of a mask out of a number leaves none of them. -/
theorem sub_and_and_self (x : Nat) : ∀ m : Nat, (x - (x &&& m)) &&& m = 0 := by
  induction x using Nat.strong_induction_on with
  | _ x ih =>
    intro m
    by_cases hx : x = 0
    · simp [hx]
    have hle := Nat.and_le_left (n := x) (m := m)
    have hle' := Nat.and_le_left (n := x / 2) (m := m / 2)
    have hd := @Nat.and_div_two x m
    have hm := @Nat.and_mod_two_eq_one x m
    have hhalf : (x - (x &&& m)) / 2 = x / 2 - (x / 2 &&& m / 2) := by omega
    have hz : ((x - (x &&& m)) &&& m) / 2 = 0 := by rw [Nat.and_div_two, hhalf]; exact ih (x / 2) (by omega) (m / 2)
    have ho := @Nat.and_mod_two_eq_one (x - (x &&& m)) m
    omega

/-! ### Reads of a range -/

theorem windowReadWords_length (ch : ChanId) (off : Nat) : ∀ (l : List Nat) (a : List Byte × State),
    (l.foldl (fun a k => let (v, s) := a.2.windowReadWord ch (off + 8 * k); (a.1 ++ natLe 8 v, s)) a).1.length = a.1.length + 8 * l.length
  | [], a => rfl
  | k :: l, a => by
    rw [List.foldl_cons, windowReadWords_length ch off l]
    simp only [List.length_append, natLe_length, List.length_cons]
    omega

/-- A read of whole words returns as many bytes as were asked for, whether it is served or refused. -/
theorem State.windowRead_length (s : State) (ch : ChanId) (off n : Nat) : (s.windowRead ch off (8 * n)).1.length = 8 * n := by
  unfold State.windowRead
  split
  · exact zeros_length _
  · rw [windowReadWords_length]
    simp

/-! ### Frames -/

/-- A frame that names no access (R92, log entry 18). -/
def frameMalformed (bs : List Byte) : Prop :=
  (field bs 0 1 ≠ 1 ∧ field bs 0 1 ≠ 2) ∨ bs.length < 6 ∨ field bs 4 2 = 0 ∨ 4096 ≤ field bs 4 2 ∨
    (field bs 0 1 = 2 ∧ bs.length < 6 + 8 * field bs 4 2)

theorem State.i3cFrame_malformed {bs : List Byte} (env : WriteEnv) {a : Nat} (ha : s.ctl.i3cAddr = some a) (h : frameMalformed bs) :
    s.i3cFrame bs env = (s.touch .i3c).refuse .i3c (field bs 1 3) .badDescriptor 0x01 := by
  simp only [State.i3cFrame, ha, Option.isNone_some, Bool.false_eq_true, if_false]
  exact if_pos h

theorem State.i3cFrame_read {bs : List Byte} (env : WriteEnv) {a : Nat} (ha : s.ctl.i3cAddr = some a) (h : ¬frameMalformed bs)
    (hop : field bs 0 1 = 1) : ∃ st : Status, s.i3cFrame bs env =
      { (s.windowRead .i3c (field bs 1 3) (8 * field bs 4 2)).2 with
          ctl.i3cReply := some (natLe 1 st.code ++ (s.windowRead .i3c (field bs 1 3) (8 * field bs 4 2)).1) } := by
  simp only [State.i3cFrame, ha, Option.isNone_some, Bool.false_eq_true, if_false]
  unfold frameMalformed at h
  rw [if_neg h, if_pos hop]
  split
  · exact ⟨.access, rfl⟩
  · exact ⟨.done, rfl⟩

theorem State.i3cFrame_write {bs : List Byte} (env : WriteEnv) {a : Nat} (ha : s.ctl.i3cAddr = some a) (h : ¬frameMalformed bs)
    (hop : field bs 0 1 = 2) : s.i3cFrame bs env = s.windowWrite .i3c (field bs 1 3) (slice bs 6 (8 * field bs 4 2)) env := by
  simp only [State.i3cFrame, ha, Option.isNone_some, Bool.false_eq_true, if_false]
  unfold frameMalformed at h
  rw [if_neg h, if_neg (by omega)]

/-- Over a bound channel a refusal is reported in its seat's error register. -/
theorem State.refuse_bound {ch : ChanId} {n : Nat} {e : ChanEntry} (he : s.ctl.entryOf ch = some (n, e)) (off : Nat) (st : Status) (r : Nat) :
    s.refuse ch off st r = s.seatErr e.seat n off st := by
  simp only [State.refuse, he]

theorem State.i3cAnswer_addressed {a : Nat} (ha : s.ctl.i3cAddr = some a) (bs : List Byte) : s.i3cAnswer bs = { s with ctl.i3cOut := bs } := by
  simp [State.i3cAnswer, ha]

theorem State.provisionalId_mod (s : State) : s.provisionalId % 64 = s.fld F.CTL_ID_POSITION % 64 := by
  simp only [State.provisionalId, State.position]; omega

/-- A device with a dynamic address answers the common command codes. -/
theorem codes_answered (hs : s.serves [] = true) {a : Nat} (ha : s.ctl.i3cAddr = some a) (bits : Nat) :
    (∃ u, Answers .i3cGetpid s u ∧ u.ctl.i3cOut = (natLe 6 s.provisionalId).reverse ∧ u.regs = s.regs) ∧
    (∃ u, Answers .i3cGetbcr s u ∧ u.ctl.i3cOut = natLe 1 Config.i3cBcr) ∧
    (∃ u, Answers .i3cGetdcr s u ∧ u.ctl.i3cOut = natLe 1 Config.i3cDcr) ∧
    (∃ u, Answers .i3cGetstatus s u ∧ u.ctl.i3cOut.length = 2) ∧
    (∃ u, Answers (.i3cEnec bits) s u ∧ u.ctl.i3cEvents = s.ctl.i3cEvents ||| bits % 256 ∧ u.regs = s.regs) ∧
    (∃ u, Answers (.i3cDisec bits) s u ∧ u.ctl.i3cEvents &&& (bits % 256) = 0 ∧ u.regs = s.regs) ∧
    (∃ u, Answers (.i3cCccUnsupported a) s u ∧ u.ctl.i3cOut = [] ∧ u = { s with ctl.i3cOut := [] }) := by
  have hanswer (c : Instr) (f : State → List Byte) (hc : exec c s = s.run [] (fun s => s.i3cAnswer (f s))) :
      Answers c s { s with ctl.i3cOut := f s } := by
    have := answers_of_run hc hs
    rwa [State.i3cAnswer_addressed ha] at this
  have hevent (on : Bool) : s.i3cEvent bits on = { s with ctl.i3cOut := [], ctl.i3cEvents := if on then s.ctl.i3cEvents ||| bits % 256
      else s.ctl.i3cEvents - (s.ctl.i3cEvents &&& bits % 256) } := by
    simp [State.i3cEvent, ha]
  refine ⟨⟨_, hanswer _ (fun s => beBytes 6 s.provisionalId) rfl, rfl, rfl⟩, ⟨_, hanswer _ (fun _ => natLe 1 Config.i3cBcr) rfl, rfl⟩,
    ⟨_, hanswer _ (fun _ => natLe 1 Config.i3cDcr) rfl, rfl⟩,
    ⟨_, answers_of_run (g := fun s => s.i3cStatus) rfl hs, ?_⟩, ⟨_, answers_of_run (g := fun s => s.i3cEvent bits true) rfl hs, ?_⟩,
    ⟨_, answers_of_run (g := fun s => s.i3cEvent bits false) rfl hs, ?_⟩, ⟨_, hanswer _ (fun _ => []) rfl, rfl, rfl⟩⟩
  · simp only [State.i3cStatus, State.draw]
    rw [State.i3cAnswer_addressed (s := { s with free := s.free + 1 }) ha]
    exact natLe_length _ _
  · rw [hevent]; exact ⟨rfl, rfl⟩
  · rw [hevent]; exact ⟨sub_and_and_self _ _, rfl⟩

/-- Settles O12: the codes by their definitions, the frames by the three cases of `i3cFrame`. -/
theorem sideband : Obligations.Sideband := by
  refine ⟨fun s a bits hs => ⟨fun ha => ?_, fun ha => ?_, fun ha => codes_answered hs ha bits, fun bs hb => ?_⟩,
    fun s bs env a n e hs ha he => ?_⟩
  · refine ⟨_, answers_of_run (g := fun s => s.i3cAssign a) rfl hs, ?_⟩
    simp only [State.i3cAssign, ha, Option.isSome_none, Bool.false_eq_true, if_false]
    refine ⟨?_, ?_, s.provisionalId_mod⟩
    · trivial
    · simp [beBytes]
  · refine ⟨_, answers_of_run (g := fun s => s.i3cSetDasa a) rfl hs, ?_⟩
    simp [State.i3cSetDasa, ha]
  · refine ⟨_, answers_of_run (g := fun s => s.i3cRead) rfl hs, ?_⟩
    simp [State.i3cRead, hb]
  · have hanswer : Answers (.i3cWindowFrame bs env) s (s.i3cFrame bs env) := answers_of_run (g := fun s => s.i3cFrame bs env) rfl hs
    refine ⟨fun h => ⟨_, hanswer, ?_⟩, fun hop hl h1 h2 => ?_, fun hop h1 h2 hl => ?_⟩
    · rw [State.i3cFrame_malformed env ha h, State.refuse_bound (by simpa using he)]
      exact State.seatErr_reports _ _ _ _ _
    · obtain ⟨st, hread⟩ := State.i3cFrame_read env ha (bs := bs) (by unfold frameMalformed; omega) hop
      refine ⟨_, _, hanswer, by rw [hread], ?_⟩
      rw [List.length_append, natLe_length, State.windowRead_length]
    · rwa [State.i3cFrame_write env ha (by unfold frameMalformed; omega) hop] at hanswer

end Sys2Proof.Machine
end

section
/-! Commands of a seat that nothing waits for (R15, R79, R91), and key commands (R435 to R437). -/

namespace Sys2Proof.Machine

variable {s t u : State} {ch : ChanId} {n sem off : Nat} {x : SeatId} {st : Status} {c : Instr} {f : SeatId → Nat → State → State}

/-- The same as `holder_refused`, where nothing goes on in the same step. -/
theorem holder_refusedNow (hc : exec c s = s.run [] (fun s => s.asHolder ch off sem f)) (h : s.guardedBy ch n x sem)
    (hf : f x n (s.asked ch) = (s.asked ch).seatErr x n off st) : ∃ u, Answers c s u ∧ (s.asked ch).reports u x n off st := by
  refine ⟨_, answers_of_run hc h.1.1, ?_⟩
  rw [State.asHolder_guarded h, hf, if_pos (by simp)]
  exact State.seatErr_reports _ _ _ _ _

/-- The same as `holder_performs`, where nothing goes on in the same step. -/
theorem holder_performsNow (hc : exec c s = s.run [] (fun s => s.asHolder ch off sem f)) (h : s.guardedBy ch n x sem)
    (hf : f x n (s.asked ch) = t) (hr : t.ctl.refused = false) (hi : isImport off = false) : Answers c s (t.noteWrite x off) := by
  have := answers_of_run hc h.1.1
  rwa [State.asHolder_guarded h, hf, if_neg (by simp [hr, hi])] at this

/-- A command that asks for no semaphore. -/
theorem State.bySeat_commanded (h : s.commandedBy ch n x) (f : SeatId → Nat → State → State) : s.bySeat ch f = f x n (s.asked ch) := by
  obtain ⟨-, e, he, rfl⟩ := h
  simp only [State.bySeat, State.asSeat, he]
  rfl

theorem seat_answersNow (hc : exec c s = s.run [] (fun s => s.bySeat ch f)) (h : s.commandedBy ch n x) (hf : f x n (s.asked ch) = t) :
    Answers c s t := by
  have := answers_of_run hc h.1
  rwa [State.bySeat_commanded h, hf] at this

theorem seat_refusedNow (hc : exec c s = s.run [] (fun s => s.bySeat ch f)) (h : s.commandedBy ch n x)
    (hf : f x n (s.asked ch) = (s.asked ch).seatErr x n off st) : ∃ u, Answers c s u ∧ (s.asked ch).reports u x n off st :=
  ⟨_, seat_answersNow hc h hf, State.seatErr_reports _ _ _ _ _⟩

theorem seat_answersThen (hc : exec c s = s.runOn [] (fun s => s.bySeat ch f)) (h : s.commandedBy ch n x) (hf : f x n (s.asked ch) = t) :
    AnswersThen c s t := by
  have := answersThen_of_runOn hc h.1
  rwa [State.bySeat_commanded h, hf] at this

theorem seat_refused (hc : exec c s = s.runOn [] (fun s => s.bySeat ch f)) (h : s.commandedBy ch n x)
    (hf : f x n (s.asked ch) = (s.asked ch).seatErr x n off st) : ∃ u, AnswersThen c s u ∧ (s.asked ch).reports u x n off st :=
  ⟨_, seat_answersThen hc h hf, State.seatErr_reports _ _ _ _ _⟩

theorem State.asked_keepsFields (s : State) (ch : ChanId) (l : List Nat) : s.keepsFields (s.asked ch) l := State.keepsFields_of_regs (s.asked_regs ch)

/-! ### Key commands -/

@[simp] theorem State.asked_sec (s : State) (ch : ChanId) : (s.asked ch).sec = s.sec := by
  obtain ⟨a, b, h⟩ := s.asked_eq ch; rw [h]
@[simp] theorem State.asked_sil (s : State) (ch : ChanId) : (s.asked ch).sil = s.sil := by
  obtain ⟨a, b, h⟩ := s.asked_eq ch; rw [h]

/-- What a change of the key table may change in the register file before its outcome is posted. -/
def keyTableKeys : List Nat := [F.SEC_KEY_COUNT_ACTIVE.key 0, F.SEC_EVLOG_PTR_OVERFLOW.key 0, F.SEC_EVLOG_COUNT_ENTRIES.key 0]

/-- The outcome of a key command, posted where only the key table's own fields have changed and noted as a write, is what the seat sees. -/
theorem State.keyShows_of_outcome (ht : s.keepsFields t keyTableKeys) {w : State} {part : Nat} (hw : w.regs = (t.keyOutcome x part st).regs) :
    s.keyShows (w.noteWrite x off) x part st := by
  have hnote (f : Fld) (hf : f.key x.idx ∉ collideKeys) : (w.noteWrite x off).fld f x.idx = (t.keyOutcome x part st).fld f x.idx := by
    rw [w.noteWrite_keepsFields x off f _ hf, State.fld_congr hw]
  refine ⟨?_, ?_, ?_, ?_⟩
  · rw [hnote _ (by cases x <;> decide), State.keyOutcome, State.fld_bumpSeq_ne _ (by cases x <;> decide), State.fld_setF_ne _ _ (by cases x <;> decide),
      State.fld_setF_same]; rfl
  · rw [hnote _ (by cases x <;> decide), State.keyOutcome, State.fld_bumpSeq_ne _ (by cases x <;> decide), State.fld_setF_same]
    exact Nat.mod_eq_of_lt st.code_lt
  · rw [hnote _ (by cases x <;> decide), State.keyOutcome, State.fld_bumpSeq_same, State.fld_bumpSeq_same,
      State.fld_setF_ne _ _ (by cases x <;> decide), State.fld_setF_ne _ _ (by cases x <;> decide), ht _ _ (by cases x <;> decide)]
  · have hout : t.keepsFields (t.keyOutcome x part st)
        [F.SEC_KEY_STATUS_PARTITION.key x.idx, F.SEC_KEY_STATUS_STATUS.key x.idx, F.SEC_KEY_STATUS_SEQ.key x.idx] :=
      ((t.keepsFields_setF _ (by simp)).trans (State.keepsFields_setF _ _ (by simp))).trans (State.keepsFields_setF _ _ (by simp))
    exact (ht.mono (by simp [keyTableKeys])).trans ((hout.mono (by simp)).trans
      ((State.keepsFields_of_regs hw).trans ((w.noteWrite_keepsFields x off).mono (List.subset_append_right _ _))))

theorem State.extendMr_keepsFields (s : State) (r k : Nat) (e : List Byte) : s.keepsFields (s.extendMr r k e) keyTableKeys := by
  unfold State.extendMr
  dsimp only
  split
  · exact (State.keepsFields_of_regs (s := s) rfl).trans (State.keepsFields_setF _ _ (by simp [keyTableKeys]))
  · exact (State.keepsFields_of_regs (s := s) rfl).trans (State.keepsFields_setF _ _ (by simp [keyTableKeys]))

theorem State.showKeys_keepsFields (s : State) : s.keepsFields s.showKeys keyTableKeys := s.keepsFields_setF _ (by simp [keyTableKeys])

theorem State.extendMr_sec (s : State) (r k : Nat) (e : List Byte) :
    (s.extendMr r k e).sec.keys = s.sec.keys ∧ (s.extendMr r k e).sec.mrs = s.sec.mrs.put r (Config.sha384 (s.mr r ++ e)) := by
  unfold State.extendMr
  dsimp only
  split <;> exact ⟨rfl, rfl⟩

@[simp] theorem State.noteWrite_sec (s : State) (x : SeatId) (off : Nat) : (s.noteWrite x off).sec = s.sec := by rw [State.noteWrite_frame]

@[simp] theorem State.clearImport_regs (s : State) (x : SeatId) : (s.clearImport x).regs = s.regs := by cases x <;> rfl
@[simp] theorem State.clearImport_ctl (s : State) (x : SeatId) : (s.clearImport x).ctl = s.ctl := by cases x <;> rfl
@[simp] theorem State.clearImport_keys (s : State) (x : SeatId) : (s.clearImport x).sec.keys = s.sec.keys := by cases x <;> rfl
@[simp] theorem State.clearImport_mrs (s : State) (x : SeatId) : (s.clearImport x).sec.mrs = s.sec.mrs := by cases x <;> rfl

/-- The check of an import record does not ask who wrote it. -/
theorem State.asked_keyCheck (s : State) (ch : ChanId) (r : List Byte) : (s.asked ch).keyCheck r = s.keyCheck r := by
  obtain ⟨a, b, h⟩ := s.asked_eq ch; rw [h]; rfl
theorem State.asked_importRecord (s : State) (ch : ChanId) (x : SeatId) : (s.asked ch).importRecord x = s.importRecord x := by
  obtain ⟨a, b, h⟩ := s.asked_eq ch; rw [h]; rfl
theorem State.asked_partitionHeld (s : State) (ch : ChanId) (p : Nat) : (s.asked ch).partitionHeld p = s.partitionHeld p := by
  obtain ⟨a, b, h⟩ := s.asked_eq ch; rw [h]; rfl
theorem State.asked_mr (s : State) (ch : ChanId) (r : Nat) : (s.asked ch).mr r = s.mr r := by simp [State.mr]

/-- A key that becomes ACTIVE, or one that is erased: the table, the count, and the measured event. -/
def State.keysChanged (s : State) (keys : Tbl KeyEntry) (e : List Byte) : State :=
  ({ s with sec.keys := keys } : State).showKeys.extendMr 4 4 e

theorem State.keysChanged_keepsFields (s : State) (keys : Tbl KeyEntry) (e : List Byte) : s.keepsFields (s.keysChanged keys e) keyTableKeys :=
  have hset : s.keepsFields ({ s with sec.keys := keys } : State) keyTableKeys := State.keepsFields_of_regs rfl
  (hset.trans (State.showKeys_keepsFields _)).trans (State.extendMr_keepsFields _ 4 4 e)

theorem State.keysChanged_keys (s : State) (keys : Tbl KeyEntry) (e : List Byte) : (s.keysChanged keys e).sec.keys = keys :=
  (State.extendMr_sec _ _ _ _).1

theorem State.keysChanged_mrs (s : State) (keys : Tbl KeyEntry) (e : List Byte) :
    (s.keysChanged keys e).sec.mrs = s.sec.mrs.put 4 (Config.sha384 (s.mr 4 ++ e)) := (State.extendMr_sec _ _ _ _).2

/-- An INSTALL whose check makes no key ACTIVE posts its status alone. -/
theorem keyInstall_rejects {part : Nat} (h : s.guardedBy ch n x 1) (hp : part = field (s.importRecord x) 0 2 % 4096)
    (hk : s.keyCheck (s.importRecord x) = (st, none)) :
    ∃ u, Answers (.keyInstall ch) s u ∧ s.keyShows u x part st ∧ u.sec.mrs = s.sec.mrs ∧ u.sec.keys = s.sec.keys := by
  have hrun : (s.asked ch).keyInstall x = ((s.asked ch).keyOutcome x part st).clearImport x := by
    simp only [State.keyInstall, State.asked_importRecord, State.asked_keyCheck, hk, hp]
  refine ⟨_, holder_performsNow (exec_keyInstall s ch) h hrun (by simp [State.keyOutcome]) (by decide), ?_, ?_, ?_⟩
  · exact State.keyShows_of_outcome (s.asked_keepsFields ch _) (State.clearImport_regs _ _)
  · simp [State.keyOutcome]
  · simp [State.keyOutcome]

/-- One that unwraps a key for an empty entry puts it there. -/
theorem keyInstall_installs {part : Nat} {key : List Byte} (h : s.guardedBy ch n x 1) (hp : part = field (s.importRecord x) 0 2 % 4096)
    (hk : s.keyCheck (s.importRecord x) = (.done, some key)) :
    ∃ u, Answers (.keyInstall ch) s u ∧ s.keyShows u x part .done ∧ u.sec.keys = Tbl.put s.sec.keys part ⟨key, kcvOf key⟩ ∧
      u.mr 4 = Config.sha384 (s.mr 4 ++ keyEvent part 1 (kcvOf key)) := by
  have hrun : (s.asked ch).keyInstall x = (((s.asked ch).keysChanged (s.sec.keys.put part ⟨key, kcvOf key⟩) (keyEvent part 1 (kcvOf key))).keyOutcome
      x part .done).clearImport x := by
    simp only [State.keyInstall, State.asked_importRecord, State.asked_keyCheck, hk, hp, State.keysChanged, State.asked_sec]
  refine ⟨_, holder_performsNow (exec_keyInstall s ch) h hrun (by simp [State.keyOutcome, State.keysChanged, State.showKeys]) (by decide), ?_, ?_, ?_⟩
  · exact State.keyShows_of_outcome ((s.asked_keepsFields ch _).trans (State.keysChanged_keepsFields _ _ _)) (State.clearImport_regs _ _)
  · simp [State.keyOutcome, State.keysChanged_keys]
  · rw [State.mr]; simp [State.keyOutcome, State.keysChanged_mrs, State.asked_mr]

/-- A DESTROY that erases nothing. -/
theorem keyDestroy_rejects {part : Nat} (h : s.guardedBy ch n x 1)
    (hk : (s.asked ch).keyDestroy x = (s.asked ch).keyOutcome x part st) :
    ∃ u, Answers (.keyDestroy ch) s u ∧ s.keyShows u x part st ∧ u.sec.mrs = s.sec.mrs ∧ u.sec.keys = s.sec.keys := by
  refine ⟨_, holder_performsNow (exec_keyDestroy s ch) h hk (by simp [State.keyOutcome]) (by decide), ?_, ?_, ?_⟩
  · exact State.keyShows_of_outcome (s.asked_keepsFields ch _) rfl
  · simp [State.keyOutcome]
  · simp [State.keyOutcome]

theorem keyDestroy_destroys {part : Nat} {e : KeyEntry} (h : s.guardedBy ch n x 1) (hk : (s.asked ch).keyDestroy x =
      ((s.asked ch).keysChanged (s.sec.keys.del part) (keyEvent part 2 e.kcv)).keyOutcome x part .done) :
    ∃ u, Answers (.keyDestroy ch) s u ∧ s.keyShows u x part .done ∧ u.sec.keys = s.sec.keys.del part ∧
      u.mr 4 = Config.sha384 (s.mr 4 ++ keyEvent part 2 e.kcv) := by
  refine ⟨_, holder_performsNow (exec_keyDestroy s ch) h hk (by simp [State.keyOutcome, State.keysChanged, State.showKeys]) (by decide), ?_, ?_, ?_⟩
  · exact State.keyShows_of_outcome ((s.asked_keepsFields ch _).trans (State.keysChanged_keepsFields _ _ _)) rfl
  · simp [State.keyOutcome, State.keysChanged_keys]
  · rw [State.mr]; simp [State.keyOutcome, State.keysChanged_mrs, State.asked_mr]

/-- A record without reserved bits names a partition of the table. -/
theorem field_lt_of_importReserved {r : List Byte} (h : importReserved r = false) : field r 0 2 % 4096 = field r 0 2 := by
  simp only [importReserved, Bool.or_eq_false_iff, decide_eq_false_iff_not] at h
  omega

/-- Settles O54: the status of each row of R437's table, and what its change of the key table leaves. -/
theorem keyCommands : Obligations.KeyCommands := by
  intro s ch n part x r key hr h
  subst hr
  refine ⟨fun hp => ⟨fun hres hnone => ?_, fun hres => ?_, fun hres hsome => ⟨fun hun => ?_, fun hun => ⟨fun hkcv => ?_, fun hkcv e he => ?_,
    fun hkcv he => ?_⟩⟩⟩, fun hp => ⟨fun hnone => ?_, fun hsome => ⟨fun hheld => ?_, fun hheld he => ?_, fun e he hheld _ => ?_⟩⟩⟩
  · exact keyInstall_rejects h hp (by simp [State.keyCheck, hres, hnone])
  · exact keyInstall_rejects h hp (by simp [State.keyCheck, hres])
  · exact keyInstall_rejects h hp (by simp [State.keyCheck, hres, Option.isNone_eq_false_iff.mpr hsome, hun])
  · exact keyInstall_rejects h hp (by simp [State.keyCheck, hres, Option.isNone_eq_false_iff.mpr hsome, hun, hkcv])
  · rw [hp, field_lt_of_importReserved hres] at he
    refine keyInstall_rejects h hp ?_
    simp only [State.keyCheck, hres, Option.isNone_eq_false_iff.mpr hsome, hun, hkcv, he]
    by_cases hsame : e.kcv = field (s.importRecord x) 8 8 <;> simp [hsame]
  · rw [hp, field_lt_of_importReserved hres] at he
    obtain ⟨u, hu, hshow, hkeys, hmr⟩ := keyInstall_installs (key := key) h hp
      (by simp [State.keyCheck, hres, Option.isNone_eq_false_iff.mpr hsome, hun, hkcv, he])
    exact ⟨u, hu, hshow, by rw [hkeys, Tbl.get?_put_same], fun k hk => by rw [hkeys, Tbl.get?_put_ne _ _ (Ne.symm hk)], hmr⟩
  · exact keyDestroy_rejects h (by simp [State.keyDestroy, ← hp, hnone])
  · exact keyDestroy_rejects h (by simp [State.keyDestroy, ← hp, Option.isSome_iff_ne_none.mp hsome, State.asked_partitionHeld, hheld])
  · exact keyDestroy_rejects h (by simp [State.keyDestroy, ← hp, Option.isSome_iff_ne_none.mp hsome, State.asked_partitionHeld, hheld, he])
  · obtain ⟨u, hu, hshow, hkeys, hmr⟩ := keyDestroy_destroys (part := part) (e := e) h
      (by simp [State.keyDestroy, ← hp, Option.isSome_iff_ne_none.mp hsome, State.asked_partitionHeld, hheld, he, State.keysChanged])
    exact ⟨u, hu, hshow, by rw [hkeys, Tbl.get?_del_same], fun k hk => by rw [hkeys, Tbl.get?_del_ne _ (Ne.symm hk)], hmr⟩

end Sys2Proof.Machine
end

section
/-! Frames that do not ask for the bank: where a field lies in the window, whatever copy of it is meant. -/

namespace Sys2Proof.Machine

variable {s t u : State}

/-- The place of a field in the window, without its bank. -/
def Fld.place (f : Fld) : Nat := (f.off * 64 + f.lo) % 2 ^ 30

theorem Fld.key_mod (f : Fld) (b : Nat) : f.key b % 2 ^ 30 = f.place := by unfold Fld.key Fld.place; omega

theorem Fld.key_ne_of_place {f g : Fld} {b c : Nat} (h : f.place ≠ g.place) : f.key b ≠ g.key c :=
  fun e => h (by rw [← f.key_mod b, ← g.key_mod c, e])

/-- Every field that lies at none of these places keeps its value. -/
def State.keepsPlaces (s u : State) (ps : List Nat) : Prop := ∀ (f : Fld) (b : Nat), f.place ∉ ps → u.fld f b = s.fld f b

theorem State.keepsPlaces.trans {l : List Nat} (h : s.keepsPlaces t l) (h' : t.keepsPlaces u l) : s.keepsPlaces u l :=
  fun f b hf => (h' f b hf).trans (h f b hf)

theorem State.keepsPlaces.mono {l l' : List Nat} (h : s.keepsPlaces t l) (hl : l ⊆ l') : s.keepsPlaces t l' :=
  fun f b hf => h f b (fun hm => hf (hl hm))

theorem State.keepsPlaces_of_regs {l : List Nat} (h : t.regs = s.regs) : s.keepsPlaces t l := fun f b _ => State.fld_congr h f b

theorem State.keepsPlaces_setF (s : State) {l : List Nat} {f : Fld} (v b : Nat) (h : f.place ∈ l) : s.keepsPlaces (s.setF f v b) l :=
  fun _ _ hg => s.fld_setF_ne v (Fld.key_ne_of_place (fun e => hg (e ▸ h)))

/-- Fields are kept by what keeps all places but theirs. -/
theorem State.keepsFields.keepsPlaces {l : List Nat} (h : s.keepsFields t l) : s.keepsPlaces t (l.map (· % 2 ^ 30)) :=
  fun f b hf => h f b (fun hm => hf (by rw [← f.key_mod b]; exact List.mem_map_of_mem hm))

theorem State.fld_setF_place (s : State) {f g : Fld} {b c : Nat} (v : Nat) (h : f.place ≠ g.place) : (s.setF f v b).fld g c = s.fld g c :=
  s.fld_setF_ne v (Fld.key_ne_of_place h)

end Sys2Proof.Machine
end

section
/-! Queue pairs (R379): the commands of a seat on its selected queue pair. -/

namespace Sys2Proof.Machine

variable {s t u : State}

theorem QpState.ofCode_code (q : QpState) : QpState.ofCode (q.code % 2 ^ F.ETH_QP_STATUS_STATE.width) = q := by cases q <;> rfl

@[simp] theorem State.qpState_setQpState (s : State) (qp : Nat) (q : QpState) : (s.setQpState qp q).qpState qp = q := by
  rw [State.qpState, State.setQpState, State.fld_setF_same, QpState.ofCode_code]

@[simp] theorem State.asked_qpState (s : State) (ch : ChanId) (qp : Nat) : (s.asked ch).qpState qp = s.qpState qp := by simp [State.qpState]
@[simp] theorem State.asked_qpPort (s : State) (ch : ChanId) (qp : Nat) : (s.asked ch).qpPort qp = s.qpPort qp := by simp [State.qpPort]
@[simp] theorem State.asked_queueCtx (s : State) (ch : ChanId) (q : Nat) : (s.asked ch).queueCtx q = s.queueCtx q := by simp [State.queueCtx]
@[simp] theorem State.asked_ctxEnabled (s : State) (ch : ChanId) (c : Nat) : (s.asked ch).ctxEnabled c = s.ctxEnabled c := by
  obtain ⟨a, b, h⟩ := s.asked_eq ch; rw [h]; rfl
@[simp] theorem State.asked_ethPortOn (s : State) (ch : ChanId) (p : Nat) (w : Bool) : (s.asked ch).ethPortOn p w = s.ethPortOn p w := by
  obtain ⟨a, b, h⟩ := s.asked_eq ch; rw [h]; rfl
@[simp] theorem State.asked_eth (s : State) (ch : ChanId) : (s.asked ch).eth = s.eth := by
  obtain ⟨a, b, h⟩ := s.asked_eq ch; rw [h]
@[simp] theorem State.asked_qx (s : State) (ch : ChanId) : (s.asked ch).qx = s.qx := by
  obtain ⟨a, b, h⟩ := s.asked_eq ch; rw [h]
@[simp] theorem State.asked_qpx (s : State) (ch : ChanId) (qp : Nat) : (s.asked ch).qpx qp = s.qpx qp := by simp [State.qpx]

@[simp] theorem State.qpState_setQpx (s : State) (qp k : Nat) (q : Qp) : (s.setQpx qp q).qpState k = s.qpState k := rfl
@[simp] theorem State.qpPort_setQpx (s : State) (qp k : Nat) (q : Qp) : (s.setQpx qp q).qpPort k = s.qpPort k := rfl
@[simp] theorem State.qpPort_setQpState (s : State) (qp k : Nat) (q : QpState) : (s.setQpState qp q).qpPort k = s.qpPort k :=
  s.fld_setF_place _ (by decide)
theorem State.setQpx_keepsFields (s : State) (qp : Nat) (q : Qp) (l : List Nat) : s.keepsFields (s.setQpx qp q) l := State.keepsFields_of_regs rfl
@[simp] theorem State.qpx_setQpx (s : State) (qp : Nat) (q : Qp) : (s.setQpx qp q).qpx qp = q := Tbl.getD_store_same _ _ _ _

/-- A queue pair that has nothing outstanding, with no seat's transfer, ends nothing. -/
theorem State.qpEnd_idle {qp : Nat} (st : Status) (ho : (s.qpx qp).outstanding = []) (ha : s.eth.xferA = none) (hb : s.eth.xferB = none) :
    s.qpEnd qp st = s.setQpx qp { s.qpx qp with outstanding := [], waiting := [] } := by
  have hx (v : Qp) (y : SeatId) : (s.setQpx qp v).seatXfer y = none := by cases y <;> simpa [State.seatXfer, State.setQpx]
  simp only [State.qpEnd, ho, List.foldl_nil, hx]

/-- One that is not in RTS, or serves no queue of its context, then only takes its new state. -/
theorem State.qpLeave_idle {qp : Nat} (q : QpState) (h : s.qpState qp ≠ .rts ∨ (qp < windowQp ∧ ∀ k ∈ s.qx.keys, s.queueCtx k ≠ qp))
    (ho : (s.qpx qp).outstanding = []) (ha : s.eth.xferA = none) (hb : s.eth.xferB = none) :
    s.qpLeave qp q = (s.setQpState qp q).setQpx qp { s.qpx qp with outstanding := [], waiting := [] } := by
  have hend := State.qpEnd_idle (s := s.setQpState qp q) (qp := qp) .stateConflict ho ha hb
  unfold State.qpLeave
  dsimp only
  rw [hend]
  rcases h with h | ⟨hw, hq⟩
  · rw [if_neg (fun e => h e.1), if_neg (fun e => h e.1)]; rfl
  · have hctx (k : Nat) (v : Qp) : ((s.setQpState qp q).setQpx qp v).queueCtx k = s.queueCtx k := s.fld_setF_place _ (by decide)
    have hnone (v : Qp) : ((s.setQpState qp q).setQpx qp v).qx.keys.filter
        (fun k => ((s.setQpState qp q).setQpx qp v).queueCtx k == qp && ((s.setQpState qp q).setQpx qp v).fld F.WQ_Q_CFG_CQ_KIND k == 1) = [] := by
      simp only [List.filter_eq_nil_iff, hctx]
      exact fun k hk => by simp [hq k hk]
    rw [hnone, List.foldl_nil, ite_self, if_neg (fun e => by omega)]
    rfl

theorem State.asked_idle {ch : ChanId} {qp : Nat} (h : s.qpState qp ≠ .rts ∨ (qp < windowQp ∧ ∀ k ∈ s.qx.keys, s.queueCtx k ≠ qp)) :
    (s.asked ch).qpState qp ≠ .rts ∨ (qp < windowQp ∧ ∀ k ∈ (s.asked ch).qx.keys, (s.asked ch).queueCtx k ≠ qp) := by simpa using h

/-- What RESET clears, but for the channel. -/
def State.qpCleared (s : State) (qp : Nat) : State := ((s.setQpx qp freshQp).setF F.ETH_QP_STATUS_LAST_STATUS 0 qp).clearF F.ETH_QP_STATUS_RATE qp

theorem State.qpCleared_qpx (s : State) (qp : Nat) : (s.qpCleared qp).qpx qp = freshQp := s.qpx_setQpx qp freshQp

theorem State.qpCleared_qpState (s : State) (qp : Nat) : (s.qpCleared qp).qpState qp = s.qpState qp := by
  unfold State.qpCleared State.clearF State.qpState
  rw [State.fld_setF_place _ _ (by decide), State.fld_setF_place _ _ (by decide)]
  rfl
theorem State.qpCleared_status (s : State) (qp : Nat) : (s.qpCleared qp).fld F.ETH_QP_STATUS_LAST_STATUS qp = 0 := by
  unfold State.qpCleared State.clearF
  rw [State.fld_setF_place _ _ (by decide)]
  exact (State.fld_setF_same _ _ _ _).trans (Nat.zero_mod _)

/-- In the states that TO_ERROR names. -/
theorem QpState.live {q : QpState} (hr : q ≠ .reset) (he : q ≠ .error) : q = .init ∨ q = .rtr ∨ q = .rts := by cases q <;> simp_all

/-- Settles O43: each command in the states that allow it and in the others. -/
theorem queuePairs : Obligations.QueuePairs := by
  intro s ch n qp x h hqp
  replace hqp : s.fld F.ETH_QP_SEL_QP x.idx = qp := hqp.symm
  refine ⟨fun hst hok => ?_, fun hst => ?_, fun hst hport => ⟨fun hctx => ?_, fun hen hctx => ?_⟩, fun hst => ?_, fun hst => ?_, fun hst => ?_,
    fun hst => ?_, fun hr he => ?_, fun hidle ho ha hb => ⟨fun hr he => ?_, ?_⟩⟩
  · have hrun : (s.asked ch).qpToInit x n = (s.asked ch).setQpState qp .init := by simp [State.qpToInit, hqp, hst, hok]
    exact ⟨_, seat_answersThen (exec_qpToInit s ch) h hrun, State.qpState_setQpState _ _ _,
      (s.asked_keepsFields ch _).trans (State.keepsFields_setF _ _ (by simp)), by simp [State.setQpState]⟩
  · exact seat_refused (exec_qpToInit s ch) h (by simp [State.qpToInit, hqp, hst, offQpCmd])
  · have hrun : (s.asked ch).qpToRtr x n = ((s.asked ch).setQpx qp { freshQp with
        expected := s.fld F.ETH_QP_PSN_RQ_PSN qp, next := s.fld F.ETH_QP_PSN_SQ_PSN qp }).setQpState qp .rtr := by
      have hno : ¬(s.fld F.ETH_QP_CFG_SEND_EN qp = 1 ∧ s.queueCtx (s.fld F.ETH_QP_CFG_SEND_QUEUE qp) ≠ qp) :=
        fun e => hctx.elim (fun h => h e.1) (fun h => e.2 h)
      simp [State.qpToRtr, hqp, hst, hport, hno]
    have hx (w : State) (v : Qp) (q : QpState) : ((w.setQpx qp v).setQpState qp q).qpx qp = v := State.qpx_setQpx _ _ _
    refine ⟨_, seat_answersThen (exec_qpToRtr s ch) h hrun, State.qpState_setQpState _ _ _, by rw [hx], by rw [hx], by rw [hx]; rfl, ?_⟩
    exact (s.asked_keepsFields ch _).trans ((State.keepsFields_of_regs rfl).trans (State.keepsFields_setF _ _ (by simp)))
  · exact seat_refused (exec_qpToRtr s ch) h (by simp [State.qpToRtr, hqp, hst, hport, hen, hctx, offQpCmd])
  · exact seat_refused (exec_qpToRtr s ch) h (by simp [State.qpToRtr, hqp, hst, offQpCmd])
  · have hrun : (s.asked ch).qpToRts x n = ((s.asked ch).setQpState qp .rts).setF F.ETH_QP_STATUS_RATE 4000 qp := by
      simp [State.qpToRts, hqp, hst]
    refine ⟨_, seat_answersThen (exec_qpToRts s ch) h hrun, ?_, by rw [State.fld_setF_same]; rfl, by simp [State.setQpState]⟩
    rw [State.qpState, State.fld_setF_place _ _ (by decide)]
    exact State.qpState_setQpState _ _ _
  · exact seat_refused (exec_qpToRts s ch) h (by simp [State.qpToRts, hqp, hst, offQpCmd])
  · exact seat_refused (exec_qpToError s ch) h (by rcases hst with hst | hst <;> simp [State.qpToError, hqp, hst, offQpCmd])
  · exact seat_answersThen (exec_qpToError s ch) h (by simp [State.qpToError, hqp, QpState.live hr he])
  · have hrun : (s.asked ch).qpToError x n = (s.asked ch).qpLeave qp .error := by simp [State.qpToError, hqp, QpState.live hr he]
    rw [State.qpLeave_idle _ (State.asked_idle hidle) (by simpa) (by simpa) (by simpa)] at hrun
    exact ⟨_, seat_answersThen (exec_qpToError s ch) h hrun, by simp, by simp,
      (s.asked_keepsFields ch _).trans ((State.keepsFields_setF _ _ (by simp)).trans (State.setQpx_keepsFields _ _ _ _)),
      by simp [State.setQpState, State.setQpx]⟩
  · have hleave := State.qpLeave_idle .reset (State.asked_idle (ch := ch) hidle) (by simpa) (by simpa) (by simpa)
    have hrun : (s.asked ch).qpToReset x = (((s.asked ch).qpLeave qp .reset).qpCleared qp).closeChannel (.rdma (s.qpPort qp) (qpnOf qp)) := by
      rw [State.qpToReset, State.asked_fld, hqp, hleave]
      simp [State.qpCleared]
    rw [hleave] at hrun
    exact ⟨_, seat_answersThen (exec_qpToReset s ch) h hrun, by rw [State.qpCleared_qpState]; simp, State.qpCleared_qpx _ _,
      State.qpCleared_status _ _, by simp [State.qpCleared, State.clearF, State.setQpState, State.setQpx]⟩

end Sys2Proof.Machine
end

section
/-! Traffic on the fabric (R242 to R252, R315, R316): what handing a packet to the fabric leaves alone. -/

namespace Sys2Proof.Machine

variable {s t u : State}

/-- The registers of the switch core's buffers and of combining. -/
def trafficPlaces : List Nat :=
  [F.SWS_VOQ_BYTES.place, F.SWS_VOQ_PEAK_BYTES.place, F.FAB_COMBINE_READS.place, F.FAB_COMBINE_ATOMICS.place]

/-- A request that another rides along with goes on with COMBINED set; a load or an atomic alone is combined. -/
def Request.Kin (r r' : Request) : Prop :=
  r' = { r with pkt := { r.pkt with combined := r'.pkt.combined, payload := r'.pkt.payload } } ∧ (r.pkt.op ≠ opLOAD → r.pkt.op ≠ opATOMIC → r' = r)

theorem Request.Kin.refl (r : Request) : r.Kin r := ⟨rfl, fun _ _ => rfl⟩

theorem Request.Kin.trans {a b c : Request} (h : a.Kin b) (h' : b.Kin c) : a.Kin c := by
  obtain ⟨hb, hb'⟩ := h
  obtain ⟨hc, hc'⟩ := h'
  have hop : b.pkt.op = a.pkt.op := by rw [hb]
  refine ⟨?_, fun hl ha => (hc' (hop ▸ hl) (hop ▸ ha)).trans (hb' hl ha)⟩
  rw [hc, hb]

/-- Packets have gone to the fabric: the switch core and its registers aside, only packets that are combined with others differ, and requests
that are new are at the end. -/
structure Traffic (s u : State) : Prop where
  eq : ∃ r f w, u = { s with regs := r, fab := f, sws := w }
  places : s.keepsPlaces u trafficPlaces
  reqs : ∀ r ∈ s.fab.reqs ++ s.fab.waiting, ∃ r' ∈ u.fab.reqs ++ u.fab.waiting, r.Kin r'

theorem Traffic.refl (s : State) : Traffic s s := ⟨⟨_, _, _, rfl⟩, fun _ _ _ => rfl, fun r hr => ⟨r, hr, .refl r⟩⟩

theorem Traffic.trans (h : Traffic s t) (h' : Traffic t u) : Traffic s u := by
  obtain ⟨⟨r, f, w, rfl⟩, hp, hr⟩ := h
  obtain ⟨⟨r', f', w', rfl⟩, hp', hr'⟩ := h'
  refine ⟨⟨_, _, _, rfl⟩, hp.trans hp', fun q hq => ?_⟩
  obtain ⟨q₁, hq₁, hk₁⟩ := hr q hq
  obtain ⟨q₂, hq₂, hk₂⟩ := hr' q₁ hq₁
  exact ⟨q₂, hq₂, hk₁.trans hk₂⟩

/-- A field of the switch core's own. -/
theorem Traffic.setF (s : State) {f : Fld} (v b : Nat) (h : f.place ∈ trafficPlaces) : Traffic s (s.setF f v b) :=
  ⟨⟨_, s.fab, s.sws, rfl⟩, s.keepsPlaces_setF v b h, fun r hr => ⟨r, hr, .refl r⟩⟩

theorem Traffic.count (s : State) {f : Fld} (n b : Nat) (h : f.place ∈ trafficPlaces) : Traffic s (s.count f n b) := .setF s _ b h
theorem Traffic.addF (s : State) {f : Fld} (n b : Nat) (h : f.place ∈ trafficPlaces) : Traffic s (s.addF f n b) := .setF s _ b h
theorem Traffic.trackMax (s : State) {f : Fld} (v b : Nat) (h : f.place ∈ trafficPlaces) : Traffic s (s.trackMax f v b) := by
  unfold State.trackMax
  split
  · exact .setF s _ b h
  · exact .refl s

theorem Traffic.withSws (s : State) (w : Sws) : Traffic s { s with sws := w } :=
  ⟨⟨s.regs, s.fab, w, rfl⟩, State.keepsPlaces_of_regs rfl, fun r hr => ⟨r, hr, .refl r⟩⟩

/-- Requests that are added at the end, whatever else of the sources' part changes. -/
theorem Traffic.withFab (s : State) (f : Fab) (h : ∀ r ∈ s.fab.reqs ++ s.fab.waiting, r ∈ f.reqs ++ f.waiting) : Traffic s { s with fab := f } :=
  ⟨⟨s.regs, f, s.sws, rfl⟩, State.keepsPlaces_of_regs rfl, fun r hr => ⟨r, h r hr, .refl r⟩⟩

theorem Traffic.foldl {α : Type} {g : State → α → State} (l : List α) (h : ∀ t, ∀ a ∈ l, Traffic t (g t a)) (s : State) :
    Traffic s (l.foldl g s) :=
  List.foldlRecOn (motive := fun t => Traffic s t) l g (.refl s) fun t ht a ha => ht.trans (h t a ha)

/-! ### What it leaves alone -/

theorem Traffic.mem (h : Traffic s u) : u.mem = s.mem := by obtain ⟨⟨_, _, _, rfl⟩, -, -⟩ := h; rfl
theorem Traffic.now (h : Traffic s u) : u.now = s.now := by obtain ⟨⟨_, _, _, rfl⟩, -, -⟩ := h; rfl
theorem Traffic.dom (h : Traffic s u) : u.dom = s.dom := by obtain ⟨⟨_, _, _, rfl⟩, -, -⟩ := h; rfl
theorem Traffic.ctl (h : Traffic s u) : u.ctl = s.ctl := by obtain ⟨⟨_, _, _, rfl⟩, -, -⟩ := h; rfl
theorem Traffic.sil (h : Traffic s u) : u.sil = s.sil := by obtain ⟨⟨_, _, _, rfl⟩, -, -⟩ := h; rfl
theorem Traffic.qx (h : Traffic s u) : u.qx = s.qx := by obtain ⟨⟨_, _, _, rfl⟩, -, -⟩ := h; rfl
theorem Traffic.works (h : Traffic s u) : u.works = s.works := by obtain ⟨⟨_, _, _, rfl⟩, -, -⟩ := h; rfl
theorem Traffic.jnl (h : Traffic s u) : u.jnl = s.jnl := by obtain ⟨⟨_, _, _, rfl⟩, -, -⟩ := h; rfl
theorem Traffic.xlt (h : Traffic s u) : u.xlt = s.xlt := by obtain ⟨⟨_, _, _, rfl⟩, -, -⟩ := h; rfl
theorem Traffic.tier (h : Traffic s u) : u.tier = s.tier := by obtain ⟨⟨_, _, _, rfl⟩, -, -⟩ := h; rfl
theorem Traffic.eth (h : Traffic s u) : u.eth = s.eth := by obtain ⟨⟨_, _, _, rfl⟩, -, -⟩ := h; rfl
theorem Traffic.ras (h : Traffic s u) : u.ras = s.ras := by obtain ⟨⟨_, _, _, rfl⟩, -, -⟩ := h; rfl
theorem Traffic.qnc (h : Traffic s u) : u.qnc = s.qnc := by obtain ⟨⟨_, _, _, rfl⟩, -, -⟩ := h; rfl
theorem Traffic.home (h : Traffic s u) : u.home = s.home := by obtain ⟨⟨_, _, _, rfl⟩, -, -⟩ := h; rfl
theorem Traffic.coll (h : Traffic s u) : u.coll = s.coll := by obtain ⟨⟨_, _, _, rfl⟩, -, -⟩ := h; rfl
theorem Traffic.emb (h : Traffic s u) : u.emb = s.emb := by obtain ⟨⟨_, _, _, rfl⟩, -, -⟩ := h; rfl
theorem Traffic.vs (h : Traffic s u) : u.vs = s.vs := by obtain ⟨⟨_, _, _, rfl⟩, -, -⟩ := h; rfl
theorem Traffic.pwr (h : Traffic s u) : u.pwr = s.pwr := by obtain ⟨⟨_, _, _, rfl⟩, -, -⟩ := h; rfl
theorem Traffic.fld (h : Traffic s u) {f : Fld} (hf : f.place ∉ trafficPlaces) (b : Nat) : u.fld f b = s.fld f b := h.places f b hf

/-! ### Into the switch core -/

theorem Traffic.combine (s : State) (c : Combine) (p : Packet) (hp : p.op = opLOAD ∨ p.op = opATOMIC) : Traffic s (s.combine c p) := by
  have hcomb : Traffic s ({ s with
      fab.reqs := s.fab.reqs.map (fun r => if r.pkt.tag == c.leader.tag && r.pkt.op == p.op then
        { r with pkt := (if p.op = opATOMIC then { r.pkt with combined := true, payload := padTo 64 (natLe (p.size + 1)
          ((atomicNew p.atype (leNat (r.pkt.payload.take (p.size + 1))) (leNat (p.payload.take (p.size + 1))) 0).getD 0)) }
          else { r.pkt with combined := true }) } else r) } : State) := by
    refine ⟨⟨s.regs, _, s.sws, rfl⟩, State.keepsPlaces_of_regs rfl, fun r hr => ?_⟩
    rcases List.mem_append.mp hr with hr | hr
    · refine ⟨_, List.mem_append_left _ (List.mem_map_of_mem hr), ?_⟩
      split
      next h =>
        simp only [Bool.and_eq_true, beq_iff_eq] at h
        refine ⟨by split <;> rfl, fun hl ha => absurd (h.2 ▸ hp) (fun e => e.elim hl ha)⟩
      next => exact .refl r
    · exact ⟨r, List.mem_append_right _ hr, .refl r⟩
  unfold State.combine
  dsimp only
  split
  · refine Traffic.trans ?_ (.count _ _ _ (by decide))
    exact hcomb.trans (.withSws _ _)
  · refine Traffic.trans ?_ (.count _ _ _ (by decide))
    exact hcomb.trans (.withSws _ _)

theorem op_of_combinable {i : Nat} {p : Packet} (h : combinable i p = true) : p.op = opLOAD ∨ p.op = opATOMIC := by
  simp only [combinable, Bool.and_eq_true, Bool.or_eq_true, beq_iff_eq] at h
  exact h.2.imp (fun h => h.1.1) (fun h => h.1)

theorem State.combineWith_combinable {i : Nat} {p : Packet} {c : Combine} (h : s.combineWith i p = some c) : combinable i p = true := by
  by_contra hc
  rw [State.combineWith, if_pos (.inl (by simpa using hc))] at h
  cases h

theorem Traffic.enterVoq (s : State) (i e : Nat) (p : Packet) : Traffic s (s.enterVoq i e p) := by
  have hseen : Traffic s (if 64 ≤ i ∧ p.op < 0x80 then { s with sws.lastSeen := s.sws.lastSeen.put i s.now } else s) := by
    split
    · exact .withSws s _
    · exact .refl s
  unfold State.enterVoq
  dsimp only
  split
  next c hc => exact hseen.trans (.combine _ c p (op_of_combinable (State.combineWith_combinable hc)))
  next =>
    refine Traffic.trans (Traffic.trans ?_ (.addF _ _ _ (by decide))) (.trackMax _ _ _ (by decide))
    exact hseen.trans (.withSws _ _)

theorem Traffic.enqueue (s : State) (i e : Nat) (p : Packet) : Traffic s (s.enqueue i e p) := by
  unfold State.enqueue
  split
  · exact .withSws s _
  · exact .enterVoq s i e p

theorem Traffic.send (s : State) (p : Packet) : Traffic s (s.send p) := by
  unfold State.send
  dsimp only
  split
  · exact .withSws s _
  · exact .enqueue s _ _ p

theorem Traffic.noteUse (s : State) (d vc : Nat) (path : Path) : Traffic s (s.noteUse d vc path) := by
  unfold State.noteUse
  split
  · exact .withFab s _ fun _ hr => hr
  · exact .refl s

theorem Traffic.launch (s : State) (p : Packet) (w : Waiter) : Traffic s (s.launch p w) := by
  unfold State.launch
  dsimp only
  split
  · exact .withFab s _ fun r hr => by simp at hr ⊢; tauto
  · exact ((Traffic.withFab s _ fun r hr => by simp at hr ⊢; tauto).trans (.noteUse _ _ _ _)).trans (.send _ _)

theorem Traffic.drawTag (s : State) : Traffic s s.drawTag.2 := .withFab s _ fun _ hr => hr

theorem Traffic.issue (s : State) (p : Packet) (w : Waiter) : Traffic s (s.issue p w) := by
  have hdraw : Traffic s (if p.tag = 0 then s.drawTag else (p.tag, s)).2 := by
    split
    · exact .drawTag s
    · exact .refl s
  exact hdraw.trans (.launch _ _ _)

theorem Traffic.answerNow (s : State) (w : Waiter) (p : Packet) (st : Status) : Traffic s (s.answerNow w p st) := .withFab s _ fun _ hr => hr

theorem Traffic.respond (s : State) (p : Packet) (st : Status) (bs : List Byte) (poison : Nat) : Traffic s (s.respond p st bs poison) := .send s _

theorem Traffic.finish (s : State) (p : Packet) (st : Status) (bs : List Byte) (poison : Nat) : Traffic s (s.finish p st bs poison) := by
  unfold State.finish
  dsimp only
  split
  · exact .refl s
  · split
    · exact .respond s p st bs poison
    · refine Traffic.trans ?_ (.foldl _ (fun t q _ => .respond t q st bs poison) _)
      exact .withFab s _ fun _ hr => hr

theorem Traffic.xltSend (s : State) (d k : Nat) (m : XltMsg) (w : Waiter) : Traffic s (s.xltSend d k m w) := .issue s _ w

/-! ### Transfers -/

theorem Traffic.newXfer (s : State) (o : XOwner) (n : Nat) : Traffic s (s.newXfer o n).2 := .withFab s _ fun _ hr => hr

theorem Traffic.modXfer (s : State) (id : Nat) (f : Xfer → Xfer) : Traffic s (s.modXfer id f) := .withFab s _ fun _ hr => hr

theorem Traffic.xferWait (s : State) (id n : Nat) : Traffic s (s.xferWait id n) := .modXfer s id _

theorem Traffic.xferEnd (s : State) (id off : Nat) (p : Packet) (st : Status) : Traffic s (s.xferEnd id off p st) := .answerNow s _ p st

theorem Traffic.addLoad (s : State) (id off ctx cls dga n vc : Nat) : Traffic s (s.addLoad id off ctx cls dga n vc) := by
  unfold State.addLoad
  dsimp only
  split
  · exact .refl s
  · split
    · exact (Traffic.xferWait _ _ _).trans (.xferEnd _ _ _ _ _)
    · split
      · exact (Traffic.xferWait _ _ _).trans (.xferEnd _ _ _ _ _)
      · split
        · exact .foldl _ (fun t k _ => (Traffic.xferWait t _ _).trans (.issue _ _ _)) s
        · exact .foldl _ (fun t k _ => (Traffic.xferWait t _ _).trans (.issue _ _ _)) s

theorem Traffic.addStore (s : State) (id ctx cls dga : Nat) (bs : List MByte) (vc : Nat) (tagged : Bool) (tag : Nat → Nat) :
    Traffic s (s.addStore id ctx cls dga bs vc tagged tag) := by
  unfold State.addStore
  dsimp only
  split
  · exact .refl s
  · split
    · exact (Traffic.xferWait _ _ _).trans (.xferEnd _ _ _ _ _)
    · split
      · exact (Traffic.xferWait _ _ _).trans (.xferEnd _ _ _ _ _)
      · split
        · refine .foldl _ (fun t k _ => ?_) s
          have hdraw : Traffic t (if tag k = 0 then t.drawTag else (tag k, t)).2 := by
            split
            · exact .drawTag t
            · exact .refl t
          refine hdraw.trans (.foldl _ (fun t j _ => ?_) _)
          split
          · exact (Traffic.xferWait t _ _).trans (.issue _ _ _)
          · exact .issue t _ _
        · exact .foldl _ (fun t k _ => (Traffic.xferWait t _ _).trans (.issue _ _ _)) s

theorem Traffic.loadFor (s : State) (o : XOwner) (ctx cls dga n vc : Nat) : Traffic s (s.loadFor o ctx cls dga n vc) :=
  (Traffic.newXfer s o 0).trans (.addLoad _ _ _ _ _ _ _ _)

theorem Traffic.storeFor (s : State) (o : XOwner) (ctx cls dga : Nat) (bs : List MByte) (vc : Nat) (tag : Nat → Nat) :
    Traffic s (s.storeFor o ctx cls dga bs vc tag) := (Traffic.newXfer s o 0).trans (.addStore _ _ _ _ _ _ _ _ _)

theorem Traffic.issueStore (s : State) (dst dga pkey ctx tag vc : Nat) (bs : List Byte) (poison : Nat) (w : Waiter) :
    Traffic s (s.issueStore dst dga pkey ctx tag vc bs poison w) := .issue s _ w

end Sys2Proof.Machine
end

section
/-! Upkeep of the extents (R135, R145, R153, R154, R158): what letting go of an extent leaves alone. -/

namespace Sys2Proof.Machine

variable {s t u : State}

/-- The registers that count extents, claims and their use, and show a seat's shootdown. -/
def upkeepPlaces : List Nat :=
  trafficPlaces ++ [F.XLT_CTX_STATUS_COUNT.place, F.XLT_CTX_SUM_SUM.place, F.XLT_CTX_STATUS_GEN.place, F.XLT_CLAIM_USE_ALIASES.place,
    F.XLT_CLAIM_USE_CLAIMS.place, F.TIER_PART_USED_T1_USED.place, F.TIER_PART_USED_T2_USED.place, F.TIER_PART_USED_T3_USED.place,
    F.TIER_ARM_ARMING.place, F.TIER_ARM_SCRUBBING.place, F.XLT_SHOOT_STATUS_STATUS.place, F.XLT_SHOOT_STATUS_DETAIL.place,
    F.XLT_SHOOT_STATUS_SEQ.place, F.XLT_SHOOT_STATUS_STATE.place]

/-- Extents have been let go of: translation, the claims of this owner and their registers aside, only packets have gone to the fabric. -/
structure Upkeep (s u : State) : Prop where
  eq : ∃ r f w x l m, u = { s with regs := r, fab := f, sws := w, xlt := x, tier.lost := l, tier.told := m }
  places : s.keepsPlaces u upkeepPlaces
  reqs : ∀ r ∈ s.fab.reqs ++ s.fab.waiting, ∃ r' ∈ u.fab.reqs ++ u.fab.waiting, r.Kin r'

theorem Upkeep.refl (s : State) : Upkeep s s := ⟨⟨_, _, _, _, _, _, rfl⟩, fun _ _ _ => rfl, fun r hr => ⟨r, hr, .refl r⟩⟩

theorem Upkeep.trans (h : Upkeep s t) (h' : Upkeep t u) : Upkeep s u := by
  obtain ⟨⟨r, f, w, x, l, m, rfl⟩, hp, hr⟩ := h
  obtain ⟨⟨r', f', w', x', l', m', rfl⟩, hp', hr'⟩ := h'
  refine ⟨⟨_, _, _, _, _, _, rfl⟩, hp.trans hp', fun q hq => ?_⟩
  obtain ⟨q₁, hq₁, hk₁⟩ := hr q hq
  obtain ⟨q₂, hq₂, hk₂⟩ := hr' q₁ hq₁
  exact ⟨q₂, hq₂, hk₁.trans hk₂⟩

theorem Traffic.upkeep (h : Traffic s u) : Upkeep s u := by
  obtain ⟨⟨r, f, w, rfl⟩, hp, hr⟩ := h
  exact ⟨⟨r, f, w, s.xlt, s.tier.lost, s.tier.told, rfl⟩, hp.mono (List.subset_append_left _ _), hr⟩

theorem Upkeep.setF (s : State) {f : Fld} (v b : Nat) (h : f.place ∈ upkeepPlaces) : Upkeep s (s.setF f v b) :=
  ⟨⟨_, s.fab, s.sws, s.xlt, s.tier.lost, s.tier.told, rfl⟩, s.keepsPlaces_setF v b h, fun r hr => ⟨r, hr, .refl r⟩⟩

theorem Upkeep.bumpSeq (s : State) {f : Fld} (b : Nat) (h : f.place ∈ upkeepPlaces) : Upkeep s (s.bumpSeq f b) := .setF s _ b h
theorem Upkeep.addF (s : State) {f : Fld} (n b : Nat) (h : f.place ∈ upkeepPlaces) : Upkeep s (s.addF f n b) := .setF s _ b h
theorem Upkeep.subF (s : State) {f : Fld} (n b : Nat) (h : f.place ∈ upkeepPlaces) : Upkeep s (s.subF f n b) := .setF s _ b h

theorem Upkeep.withXlt (s : State) (x : Xlt) : Upkeep s { s with xlt := x } :=
  ⟨⟨s.regs, s.fab, s.sws, x, s.tier.lost, s.tier.told, rfl⟩, State.keepsPlaces_of_regs rfl, fun r hr => ⟨r, hr, .refl r⟩⟩

theorem Upkeep.withLost (s : State) (l : List (Nat × Nat × Nat)) (m : List Nat) : Upkeep s { s with tier.lost := l, tier.told := m } :=
  ⟨⟨s.regs, s.fab, s.sws, s.xlt, l, m, rfl⟩, State.keepsPlaces_of_regs rfl, fun r hr => ⟨r, hr, .refl r⟩⟩

theorem Upkeep.withFab (s : State) (f : Fab) (h : ∀ r ∈ s.fab.reqs ++ s.fab.waiting, r ∈ f.reqs ++ f.waiting) : Upkeep s { s with fab := f } :=
  (Traffic.withFab s f h).upkeep

theorem Upkeep.foldl {α : Type} {g : State → α → State} (l : List α) (h : ∀ t, ∀ a ∈ l, Upkeep t (g t a)) (s : State) : Upkeep s (l.foldl g s) :=
  List.foldlRecOn (motive := fun t => Upkeep s t) l g (.refl s) fun t ht a ha => ht.trans (h t a ha)

theorem Upkeep.mem (h : Upkeep s u) : u.mem = s.mem := by obtain ⟨⟨_, _, _, _, _, _, rfl⟩, -, -⟩ := h; rfl
theorem Upkeep.now (h : Upkeep s u) : u.now = s.now := by obtain ⟨⟨_, _, _, _, _, _, rfl⟩, -, -⟩ := h; rfl
theorem Upkeep.dom (h : Upkeep s u) : u.dom = s.dom := by obtain ⟨⟨_, _, _, _, _, _, rfl⟩, -, -⟩ := h; rfl
theorem Upkeep.ctl (h : Upkeep s u) : u.ctl = s.ctl := by obtain ⟨⟨_, _, _, _, _, _, rfl⟩, -, -⟩ := h; rfl
theorem Upkeep.sil (h : Upkeep s u) : u.sil = s.sil := by obtain ⟨⟨_, _, _, _, _, _, rfl⟩, -, -⟩ := h; rfl
theorem Upkeep.works (h : Upkeep s u) : u.works = s.works := by obtain ⟨⟨_, _, _, _, _, _, rfl⟩, -, -⟩ := h; rfl
theorem Upkeep.jnl (h : Upkeep s u) : u.jnl = s.jnl := by obtain ⟨⟨_, _, _, _, _, _, rfl⟩, -, -⟩ := h; rfl
theorem Upkeep.eth (h : Upkeep s u) : u.eth = s.eth := by obtain ⟨⟨_, _, _, _, _, _, rfl⟩, -, -⟩ := h; rfl
theorem Upkeep.ras (h : Upkeep s u) : u.ras = s.ras := by obtain ⟨⟨_, _, _, _, _, _, rfl⟩, -, -⟩ := h; rfl
theorem Upkeep.qnc (h : Upkeep s u) : u.qnc = s.qnc := by obtain ⟨⟨_, _, _, _, _, _, rfl⟩, -, -⟩ := h; rfl
theorem Upkeep.qx (h : Upkeep s u) : u.qx = s.qx := by obtain ⟨⟨_, _, _, _, _, _, rfl⟩, -, -⟩ := h; rfl
theorem Upkeep.pwr (h : Upkeep s u) : u.pwr = s.pwr := by obtain ⟨⟨_, _, _, _, _, _, rfl⟩, -, -⟩ := h; rfl
theorem Upkeep.home (h : Upkeep s u) : u.home = s.home := by obtain ⟨⟨_, _, _, _, _, _, rfl⟩, -, -⟩ := h; rfl
theorem Upkeep.fld (h : Upkeep s u) {f : Fld} (hf : f.place ∉ upkeepPlaces) (b : Nat) : u.fld f b = s.fld f b := h.places f b hf

/-! ### Claims -/

theorem usedF_upkeep (tier : Nat) : (usedF tier).place ∈ upkeepPlaces := by
  unfold usedF
  split
  · decide
  · split <;> decide

theorem Upkeep.refreshClaims (s : State) : Upkeep s s.refreshClaims :=
  (Upkeep.setF s _ _ (by decide)).trans (.setF _ _ _ (by decide))

theorem Upkeep.unchargeClaims (s : State) (l : List Claim) :
    Upkeep s (l.foldl (fun s k => if k.alias_ then s else s.subF (usedF (cellTier k.cell)) k.bytes k.partition) s) := by
  refine .foldl _ (fun t k _ => ?_) s
  split
  · exact .refl t
  · exact .subF t _ _ (usedF_upkeep _)

theorem Upkeep.dropClaims (s : State) (f : Claim → Bool) : Upkeep s (s.dropClaims f) :=
  (((((Upkeep.withXlt s _).trans (.unchargeClaims _ _)).trans (.subF _ _ _ (by decide))).trans (.addF _ _ _ (by decide))).trans
    (.withLost _ _ _)).trans (.refreshClaims _)

theorem Upkeep.showTable (s : State) (c : Nat) : Upkeep s (s.showTable c) :=
  (Upkeep.setF s _ _ (by decide)).trans (.setF _ _ _ (by decide))

theorem Upkeep.refreshTable (s : State) (c va gone : Nat) : Upkeep s (s.refreshTable c va gone) :=
  (Upkeep.showTable s c).trans (.withXlt _ _)

theorem Upkeep.releaseClaim (s : State) (e : Extent) : Upkeep s (s.releaseClaim e) := by
  unfold State.releaseClaim
  dsimp only
  split
  · exact .dropClaims s _
  · split
    · exact (Traffic.xltSend s _ _ _ _).upkeep
    · exact .refl s

/-! ### What an extent's end completes -/

theorem Upkeep.setShootJob (s : State) (x : SeatId) (j : Option ShootJob) : Upkeep s (s.setShootJob x j) := by
  cases x <;> exact .withXlt s _

theorem Upkeep.shootDone (s : State) (x : SeatId) (n : Nat) : Upkeep s (s.shootDone x n) :=
  ((((Upkeep.setF s _ _ (by decide)).trans (.setF _ _ _ (by decide))).trans (.bumpSeq _ _ (by decide))).trans (.setF _ _ _ (by decide))).trans
    (.setShootJob _ _ _)

theorem Upkeep.shootSettle (s : State) (x : SeatId) : Upkeep s (s.shootSettle x) := by
  unfold State.shootSettle
  split
  · split
    · exact (Upkeep.bumpSeq s _ (by decide)).trans (.shootDone _ _ _)
    · exact .refl s
  · exact .refl s

/-- The report of a revocation to a member, this one or another. -/
def State.revReport (s : State) (r : Revocation) (owner : Bool) (d t c : Nat) : State :=
  if s.isSelf d then
    { s with xlt.revs := s.xlt.revs.map (fun q => if q.member == d && q.tag == t && q.reportTo == none && q != r then
        { q with sum := q.sum + c, awaiting := [] } else q),
             fab.answers := s.fab.answers ++ [(Waiter.control xcDRAINED t,
               { op := opXLT_CTRL + 0x80, aux := xcDRAINED, src := s.devnum, tag := t, payload := natLe 8 c })] }
  else s.xltSend d xcDRAINED { tag := t, member := r.member, count := c, role := if owner then 1 else 0 } .none

theorem Upkeep.revReport (s : State) (r : Revocation) (owner : Bool) (d t c : Nat) : Upkeep s (s.revReport r owner d t c) := by
  unfold State.revReport
  split
  · exact ⟨⟨s.regs, _, s.sws, _, s.tier.lost, s.tier.told, rfl⟩, State.keepsPlaces_of_regs rfl, fun r hr => ⟨r, hr, .refl r⟩⟩
  · exact (Traffic.xltSend s _ _ _ _).upkeep

theorem Upkeep.revSettle (s : State) (r : Revocation) : Upkeep s (s.revSettle r) := by
  unfold State.revSettle
  dsimp only
  split
  · exact .refl s
  · split
    · exact .refl s
    next d _ =>
      refine Upkeep.trans (Upkeep.trans ?_ (.revReport _ r (State.isSelf _ _) d r.tag (r.count + r.sum)))
        (.foldl r.joined (fun t j _ => .revReport t r (State.isSelf _ _) j.1 j.2 0) _)
      split
      · exact ((Upkeep.withXlt s _).trans (.dropClaims _ _)).trans (.withXlt _ _)
      · exact .withXlt s _

theorem Upkeep.sweepExtents (s : State) : Upkeep s s.sweepExtents := by
  unfold State.sweepExtents
  dsimp only
  split
  · exact .refl s
  · refine Upkeep.trans (Upkeep.trans (Upkeep.trans ?_ (.shootSettle _ _)) (.shootSettle _ _)) (.foldl _ (fun t r _ => .revSettle t r) _)
    exact .foldl _ (fun t e _ => ((Upkeep.withXlt t _).trans (.refreshTable _ _ _ _)).trans (.releaseClaim _ _)) s

theorem Upkeep.modExtent (s : State) (c va : Nat) (f : Extent → Extent) : Upkeep s (s.modExtent c va f) := .withXlt s _

theorem Upkeep.recounted (s : State) (c va : Nat) : Upkeep s (s.recounted c va) := by
  unfold State.recounted
  split
  · exact .refl s
  · exact .withXlt s _

theorem Upkeep.takeRef (s : State) (c va : Nat) : Upkeep s (s.takeRef c va) := (Upkeep.modExtent s _ _ _).trans (.recounted _ _ _)
theorem Upkeep.takePin (s : State) (c va : Nat) : Upkeep s (s.takePin c va) := (Upkeep.modExtent s _ _ _).trans (.recounted _ _ _)
theorem Upkeep.dropRef (s : State) (c va : Nat) : Upkeep s (s.dropRef c va) :=
  ((Upkeep.modExtent s _ _ _).trans (.recounted _ _ _)).trans (.sweepExtents _)
theorem Upkeep.dropPin (s : State) (c va : Nat) : Upkeep s (s.dropPin c va) :=
  ((Upkeep.modExtent s _ _ _).trans (.recounted _ _ _)).trans (.sweepExtents _)

end Sys2Proof.Machine
end

section
/-! Cores and their registers (R206 to R208), and the engine-command instructions. -/

namespace Sys2Proof.Machine

variable {s t u : State}

/-! ### Reading a core after a write -/

@[simp] theorem State.core_setCore_same (s : State) (n : Nat) (k : Core) : (s.setCore n k).core n = k := Tbl.getD_store_same _ _ _ _

theorem State.core_setCore_ne (s : State) {n j : Nat} (k : Core) (h : j ≠ n) : (s.setCore n k).core j = s.core j :=
  Tbl.getD_store_ne _ _ _ _ (Ne.symm h)

theorem Core.reg_setReg_same (k : Core) (i v : Nat) : (k.setReg i v).reg i = if i = 0 then 0 else w64 v := by
  unfold Core.setReg Core.reg
  split
  · rfl
  · exact Tbl.getD_store_same _ _ _ _

theorem Core.reg_setReg_ne (k : Core) {i j : Nat} (v : Nat) (h : j ≠ i) : (k.setReg i v).reg j = k.reg j := by
  unfold Core.setReg Core.reg
  split
  · rfl
  · split
    · rfl
    · exact Tbl.getD_store_ne _ _ _ _ (Ne.symm h)

@[simp] theorem Core.setReg_zero (k : Core) (v : Nat) : k.setReg 0 v = k := rfl

/-- Writing a register changes the registers alone. -/
theorem Core.setReg_eq (k : Core) (i v : Nat) : k.setReg i v = { k with regs := (k.setReg i v).regs } := by
  unfold Core.setReg
  split <;> rfl

theorem Core.queueOf_congr {k k' : Core} (hm : k'.matrix = k.matrix) (hv : k'.vector = k.vector) (hd : k'.dma = k.dma) (e : Nat) :
    k'.queueOf e = k.queueOf e := by simp only [Core.queueOf, hm, hv, hd]

@[simp] theorem Core.queueOf_setReg (k : Core) (i v e : Nat) : (k.setReg i v).queueOf e = k.queueOf e := by
  rw [Core.setReg_eq]; rfl

theorem Core.queueOf_setQueue (k : Core) (e : Nat) (q : List EngCmd) : (k.setQueue e q).queueOf e = q := by
  unfold Core.setQueue Core.queueOf
  split
  · rfl
  · split <;> rfl

/-! ### An instruction that has completed -/

/-- What an instruction of R207 leaves besides its effect on the core. -/
theorem State.retired_core (s : State) (n : Nat) (k : Core) : ∃ c, (s.retired n k).core n = { k with cycle := c } :=
  ⟨_, State.core_setCore_same _ _ _⟩

@[simp] theorem State.retired_mem (s : State) (n : Nat) (k : Core) : (s.retired n k).mem = s.mem := rfl
@[simp] theorem State.retired_regs (s : State) (n : Nat) (k : Core) : (s.retired n k).regs = s.regs := rfl

theorem State.retired_others (s : State) {n j : Nat} (k : Core) (h : j ≠ n) : (s.retired n k).core j = s.core j :=
  State.core_setCore_ne s.draw.2 _ h

/-- A completed instruction's effect on a core: its register, its pc, and the queues as they were. -/
structure Core.Retires (k k' : Core) (len rd v : Nat) : Prop where
  reg : k'.reg rd = if rd = 0 then 0 else w64 v
  pc : k'.pc = w64 (k.pc + len)
  regs : rd = 0 → k'.regs = k.regs

theorem Core.retire_spec (k : Core) (len rd v c : Nat) : k.Retires { k.retire len rd v with cycle := c } len rd v := by
  refine ⟨k.reg_setReg_same rd v, rfl, fun h => ?_⟩
  subst h; rfl

theorem State.retired_retire (s : State) (n : Nat) (k : Core) (len rd v : Nat) :
    k.Retires ((s.retired n (k.retire len rd v)).core n) len rd v := by
  obtain ⟨c, hc⟩ := s.retired_core n (k.retire len rd v)
  exact hc ▸ k.retire_spec len rd v c

@[simp] theorem Core.issueTicket_ticket (k : Core) : k.issueTicket.ticket = k.ticket + 1 := rfl
@[simp] theorem Core.issueTicket_pc (k : Core) : k.issueTicket.pc = k.pc := rfl
@[simp] theorem Core.issueTicket_queueOf (k : Core) (e : Nat) : k.issueTicket.queueOf e = k.queueOf e := rfl
@[simp] theorem Core.complete_ticket (k : Core) (t : Nat) (st : Status) : (k.complete t st).ticket = k.ticket := rfl
@[simp] theorem Core.complete_queueOf (k : Core) (t e : Nat) (st : Status) : (k.complete t st).queueOf e = k.queueOf e := rfl
@[simp] theorem Core.setQueue_pc (k : Core) (e : Nat) (q : List EngCmd) : (k.setQueue e q).pc = k.pc := by
  unfold Core.setQueue
  split
  · rfl
  · split <;> rfl

theorem Core.retire_queueOf (k : Core) (len rd v c e : Nat) : ({ k.retire len rd v with cycle := c } : Core).queueOf e = k.queueOf e :=
  k.queueOf_setReg rd v e

theorem Core.retire_ticket (k : Core) (len rd v c : Nat) : ({ k.retire len rd v with cycle := c } : Core).ticket = k.ticket := by
  show (k.setReg rd v).ticket = _
  rw [Core.setReg_eq]

/-- A status code fits a register. -/
theorem w64_code (st : Status) : w64 st.code = st.code := Nat.mod_eq_of_lt (lt_trans st.code_lt (by decide))

/-- At most one instruction stands at the pc. -/
theorem State.qNone {n : Nat} (h : ∀ f, s.atQ n f = none) :
    s.qissue n = s ∧ s.qwait n = s ∧ s.qpoll n = s ∧ s.qfence n = s ∧ s.qinfo n = s ∧ s.qexit n = s := by
  refine ⟨?_, ?_, ?_, ?_, ?_, ?_⟩
  · rw [State.qissue, h]
  · rw [State.qwait, h]
  · rw [State.qpoll, h]
  · rw [State.qfence, h]
  · rw [State.qinfo, h]
  · rw [State.qexit, h]

variable {c : Instr} {n : Nat}

/-- A command of a core runs where the core's island serves. -/
theorem core_answers {l : List Nat} {g : State → State} (hc : exec c s = s.run l g) (hs : s.serves l = true) (hg : g s = t) : Answers c s t := by
  rw [Answers, hc, State.run_serves _ _ hs, hg]

theorem core_answersThen {l : List Nat} {g : State → State} (hc : exec c s = s.runOn l g) (hs : s.serves l = true) (hg : g s = t) :
    AnswersThen c s t := by
  rw [AnswersThen, hc, State.runOn_serves _ _ hs, hg]

/-- The number of a core as a command names it. -/
theorem exec_core {f : Nat → State → Host.Outcome State Fault Refusal} (hn : n < 16) (h : exec c s = f (n % 16) s) : exec c s = f n s := by
  rwa [Nat.mod_eq_of_lt hn] at h

section
variable (s) (hn : n < 16)
include hn
theorem exec_qissue_core : exec (.qissue n) s = s.run [n + 1] (fun s => s.qissue n) :=
  exec_core (f := fun n s => s.run [n + 1] (fun s => s.qissue n)) hn (exec_qissue s n)
theorem exec_qwait_core : exec (.qwait n) s = s.run [n + 1] (fun s => s.qwait n) :=
  exec_core (f := fun n s => s.run [n + 1] (fun s => s.qwait n)) hn (exec_qwait s n)
theorem exec_qpoll_core : exec (.qpoll n) s = s.run [n + 1] (fun s => s.qpoll n) :=
  exec_core (f := fun n s => s.run [n + 1] (fun s => s.qpoll n)) hn (exec_qpoll s n)
theorem exec_qfence_core : exec (.qfence n) s = s.run [n + 1] (fun s => s.qfence n) :=
  exec_core (f := fun n s => s.run [n + 1] (fun s => s.qfence n)) hn (exec_qfence s n)
theorem exec_qinfo_core : exec (.qinfo n) s = s.run [n + 1] (fun s => s.qinfo n) :=
  exec_core (f := fun n s => s.run [n + 1] (fun s => s.qinfo n)) hn (exec_qinfo s n)
theorem exec_qexit_core : exec (.qexit n) s = s.runOn [n + 1] (fun s => s.qexit n) :=
  exec_core (f := fun n s => s.runOn [n + 1] (fun s => s.qexit n)) hn (exec_qexit s n)
end

/-! ### What each instruction does where it stands at the pc -/

section
variable {ins len : Nat} {b : List Byte}

theorem State.qissue_accepts (hq : s.atQ n 0 = some (ins, len)) (ha : (s.core n).reg (bitsOf ins 15 5) % 64 = 0)
    (hr : regionOf ((s.core n).reg (bitsOf ins 15 5)) 64 ≠ none)
    (hp : ((s.core n).read ((s.core n).reg (bitsOf ins 15 5)) 64).any (fun x => x.2) = false)
    (hb : b = plain ((s.core n).read ((s.core n).reg (bitsOf ins 15 5)) 64)) :
    s.qissue n =
      if recordMalformed b then
        s.retired n (((s.core n).issueTicket.complete (s.core n).issueTicket.ticket .badDescriptor).retire len (bitsOf ins 7 5)
          (s.core n).issueTicket.ticket)
      else if ((s.core n).queueOf (field b 0 1)).length ≥ 64 then s
      else s.retired n (((s.core n).issueTicket.setQueue (field b 0 1) ((s.core n).issueTicket.queueOf (field b 0 1) ++
        [⟨(s.core n).issueTicket.ticket, b⟩])).retire len (bitsOf ins 7 5) (s.core n).issueTicket.ticket) := by
  subst hb
  rw [State.qissue, hq]
  dsimp only
  rw [if_neg (by simp [ha, hr]), if_neg (by simp [hp])]

theorem State.qwait_stalls (hq : s.atQ n 1 = some (ins, len)) (ho : (s.core n).ticketStatus ((s.core n).reg (bitsOf ins 15 5)) = none) :
    s.qwait n = s := by
  rw [State.qwait, hq]
  dsimp only
  rw [ho]

theorem State.qwait_completes {st : Status} (hq : s.atQ n 1 = some (ins, len))
    (ho : (s.core n).ticketStatus ((s.core n).reg (bitsOf ins 15 5)) = some st) :
    s.qwait n = s.retired n ((s.core n).retire len (bitsOf ins 7 5) st.code) := by
  rw [State.qwait, hq]
  dsimp only
  rw [ho]

/-- What `qpoll` returns for what is known of a ticket. -/
def ticketSeen (o : Option Status) : Nat := match o with | none => 0x100 | some st => st.code

theorem State.qpoll_at (hq : s.atQ n 2 = some (ins, len)) : s.qpoll n = s.retired n ((s.core n).retire len (bitsOf ins 7 5)
    (ticketSeen ((s.core n).ticketStatus ((s.core n).reg (bitsOf ins 15 5))))) := by
  rw [State.qpoll, hq]
  rfl

theorem State.qfence_at (hq : s.atQ n 3 = some (ins, len)) :
    s.qfence n = if (s.core n).quiet ((s.core n).reg (bitsOf ins 15 5)) = true then s.retired n ((s.core n).retire len 0 0) else s := by
  rw [State.qfence, hq]

theorem State.qexit_at (hq : s.atQ n 4 = some (ins, len)) : s.qexit n = s.retired n { (s.core n).retire len 0 0 with
    exiting := some ((s.core n).reg (bitsOf ins 15 5) % 256, (s.core n).reg (bitsOf ins 20 5)) } := by
  rw [State.qexit, hq]

/-- What `qinfo` returns for an item. -/
def State.qitem (s : State) (n item : Nat) : Nat :=
  let l := s.qnc.launches.find? (fun l => some l.tag == (s.core n).launch)
  if item = 0 then n
  else if item = 1 then (match l with | some l => l.cores.length | none => 0)
  else if item = 2 then (s.core n).rank
  else if item = 3 then (match l with | some l => l.args.length | none => 0)
  else if item = 4 then (match s.sliceOfCore n with | some e => e.2.partition | none => 0)
  else if item = 5 then w64 s.domainTime
  else if item = 6 then s.devnum else 0

theorem State.qinfo_at (hq : s.atQ n 5 = some (ins, len)) :
    s.qinfo n = s.retired n ((s.core n).retire len (bitsOf ins 7 5) (s.qitem n ((s.core n).reg (bitsOf ins 15 5)))) := by
  rw [State.qinfo, hq]
  rfl

end

theorem w64_ticketSeen (o : Option Status) : w64 (ticketSeen o) = ticketSeen o := by
  cases o with
  | none => rfl
  | some st => exact w64_code st

/-- Settles O26: each instruction where it stands at the pc, and none of them elsewhere. -/
theorem engineInstructions : Obligations.EngineInstructions := by
  intro s n ins len t k b hn hs hk ht
  subst hk ht
  refine ⟨fun hq ha hr hp hb => ?_, fun hq => ⟨fun st hst => ?_, fun hst => ?_⟩, fun hq => ?_, fun hq => ⟨fun h => ?_, fun h => ?_⟩, fun hq => ?_,
    fun hq => ?_, fun hq => ?_⟩
  · have hrun := State.qissue_accepts hq ha hr hp hb
    refine ⟨fun hm hl => ?_, fun hm hl => ?_, fun hm => ?_⟩
    · rw [if_neg (by simp [hm]), if_neg (by omega)] at hrun
      have hret := State.retired_retire s n ((s.core n).issueTicket.setQueue (field b 0 1) ((s.core n).issueTicket.queueOf (field b 0 1) ++
        [⟨(s.core n).issueTicket.ticket, b⟩])) len (bitsOf ins 7 5) (s.core n).issueTicket.ticket
      refine ⟨_, core_answers (exec_qissue_core s hn) hs hrun, ?_, hret.reg, by rw [hret.pc]; simp, rfl, rfl, fun j hj => State.retired_others s _ hj⟩
      obtain ⟨c, hc⟩ := s.retired_core n (((s.core n).issueTicket.setQueue (field b 0 1) ((s.core n).issueTicket.queueOf (field b 0 1) ++
        [⟨(s.core n).issueTicket.ticket, b⟩])).retire len (bitsOf ins 7 5) (s.core n).issueTicket.ticket)
      rw [hc, Core.retire_queueOf, Core.queueOf_setQueue]
      rfl
    · rw [if_neg (by simp [hm]), if_pos hl] at hrun
      exact core_answers (exec_qissue_core s hn) hs hrun
    · rw [if_pos hm] at hrun
      obtain ⟨c, hc⟩ := s.retired_core n (((s.core n).issueTicket.complete (s.core n).issueTicket.ticket .badDescriptor).retire len (bitsOf ins 7 5)
        (s.core n).issueTicket.ticket)
      refine ⟨_, core_answers (exec_qissue_core s hn) hs hrun, ?_, ?_, ?_, ?_⟩
      · rw [hc, Core.retire_queueOf]; rfl
      · rw [hc, Core.retire_queueOf]; rfl
      · rw [hc, Core.retire_queueOf]; rfl
      · rw [hc, Core.retire_ticket]; rfl
  · have hret := State.retired_retire s n (s.core n) len (bitsOf ins 7 5) st.code
    exact ⟨_, core_answers (exec_qwait_core s hn) hs (State.qwait_completes hq hst), by rw [hret.reg, w64_code], hret.pc, rfl⟩
  · exact core_answers (exec_qwait_core s hn) hs (State.qwait_stalls hq hst)
  · have hret := State.retired_retire s n (s.core n) len (bitsOf ins 7 5) (ticketSeen ((s.core n).ticketStatus ((s.core n).reg (bitsOf ins 15 5))))
    exact ⟨_, core_answers (exec_qpoll_core s hn) hs (State.qpoll_at hq), hret.pc, rfl, by rw [hret.reg, w64_ticketSeen]; rfl⟩
  · have hrun := State.qfence_at hq
    rw [if_pos h] at hrun
    have hret := State.retired_retire s n (s.core n) len 0 0
    exact ⟨_, core_answers (exec_qfence_core s hn) hs hrun, hret.pc, hret.regs rfl, rfl⟩
  · have hrun := State.qfence_at hq
    rw [if_neg (by simp [h])] at hrun
    exact core_answers (exec_qfence_core s hn) hs hrun
  · obtain ⟨c, hc⟩ := s.retired_core n { (s.core n).retire len 0 0 with
      exiting := some ((s.core n).reg (bitsOf ins 15 5) % 256, (s.core n).reg (bitsOf ins 20 5)) }
    exact ⟨_, core_answersThen (exec_qexit_core s hn) hs (State.qexit_at hq), by rw [hc], rfl, rfl, fun j hj => State.retired_others s _ hj⟩
  · have hret := State.retired_retire s n (s.core n) len (bitsOf ins 7 5) (s.qitem n ((s.core n).reg (bitsOf ins 15 5)))
    refine ⟨_, core_answers (exec_qinfo_core s hn) hs (State.qinfo_at hq), hret.pc, rfl, fun hrd ht => ?_, fun hrd ht => ?_, fun hrd ht => ?_,
      fun hrd ht => ?_⟩
    · rw [hret.reg, if_neg hrd, ht]
      exact Nat.mod_eq_of_lt (lt_trans hn (by decide))
    · rw [hret.reg, if_neg hrd, ht]; rfl
    · rw [hret.reg, if_neg hrd, ht]; rfl
    · rw [hret.reg, if_neg hrd]
      generalize (s.core n).reg (bitsOf ins 15 5) = i at ht
      have hzero : s.qitem n i = 0 := by
        unfold State.qitem
        dsimp only
        rw [if_neg (by omega), if_neg (by omega), if_neg (by omega), if_neg (by omega), if_neg (by omega), if_neg (by omega), if_neg (by omega)]
      rw [hzero]; rfl
  · obtain ⟨hi, hw, hp, hf, ho, hx⟩ := State.qNone hq
    refine ⟨fun c hc => ?_, core_answersThen (exec_qexit_core s hn) hs hx⟩
    simp only [List.mem_cons, List.not_mem_nil, or_false] at hc
    rcases hc with rfl | rfl | rfl | rfl | rfl
    · exact core_answers (exec_qissue_core s hn) hs hi
    · exact core_answers (exec_qwait_core s hn) hs hw
    · exact core_answers (exec_qpoll_core s hn) hs hp
    · exact core_answers (exec_qfence_core s hn) hs hf
    · exact core_answers (exec_qinfo_core s hn) hs ho

end Sys2Proof.Machine
end

section
/-! Traps, stops and scalar instructions (R206, R209, R217). -/

namespace Sys2Proof.Machine

variable {s t u : State} {n : Nat}

/-! ### Traps -/

/-- The fields in which a core shows its trap. -/
def trapPlaces (n : Nat) : List Nat :=
  [(F.QNC_FAULT_COUNT.core n).place, (F.QNC_FAULT_DETAIL.core n).place, (F.QNC_FAULT_CAUSE.core n).place, (F.QNC_FAULT_STATUS.core n).place]

theorem State.noteTrap_frame (s : State) (n c d : Nat) : s.noteTrap n c d = { s with regs := (s.noteTrap n c d).regs } := by
  unfold State.noteTrap
  dsimp only
  split <;> rfl

theorem State.noteTrap_keepsPlaces (s : State) (n c d : Nat) : s.keepsPlaces (s.noteTrap n c d) (trapPlaces n) := by
  have hcount (t : State) : t.keepsPlaces (t.count (F.QNC_FAULT_COUNT.core n)) (trapPlaces n) := t.keepsPlaces_setF _ _ (by simp [trapPlaces])
  unfold State.noteTrap
  dsimp only
  split
  · exact (((s.keepsPlaces_setF _ _ (by simp [trapPlaces])).trans (State.keepsPlaces_setF _ _ _ (by simp [trapPlaces]))).trans
      (State.keepsPlaces_setF _ _ _ (by simp [trapPlaces]))).trans (hcount _)
  · exact hcount s

theorem State.consumePoison_frame (s : State) (c o d : Nat) :
    s.consumePoison c o d = { s with regs := (s.consumePoison c o d).regs, ras := (s.consumePoison c o d).ras } := by
  unfold State.consumePoison
  dsimp only
  rw [State.logErr_frame]
  split <;> rfl

/-- What a trap changes: its core, the fields that show it, and the error log where the cause is poison. -/
theorem State.coreTrap_frame (s : State) (n c : Nat) : ∃ r a q, s.coreTrap n c = { s with regs := r, ras := a, qnc := q } := by
  unfold State.coreTrap
  dsimp only
  split
  · exact ⟨_, _, _, rfl⟩
  · rw [State.noteTrap_frame]
    split
    · split
      · rw [State.consumePoison_frame]; exact ⟨_, _, _, rfl⟩
      · exact ⟨_, _, _, rfl⟩
    · exact ⟨_, _, _, rfl⟩

@[simp] theorem State.coreTrap_mem (s : State) (n c : Nat) : (s.coreTrap n c).mem = s.mem := by
  obtain ⟨r, a, q, h⟩ := s.coreTrap_frame n c
  rw [h]

/-- A kernel that executes leaves with the status of the cause, its registers as they were. -/
theorem State.coreTrap_core (h : s.scalarRuns n = true) (c : Nat) :
    (s.coreTrap n c).core n = { s.core n with exiting := some ((causeStatus c).code, (s.core n).pcOff) } := by
  simp only [State.scalarRuns, Bool.and_eq_true, Option.isSome_iff_ne_none] at h
  obtain ⟨⟨⟨hk, hl⟩, he⟩, hd⟩ := h
  unfold State.coreTrap
  dsimp only
  rw [if_neg (by simp_all)]
  exact State.core_setCore_same _ _ _

/-! ### One instruction -/

theorem exec_scalar_core (s : State) (hn : n < 16) (b : Option Nat) (p : Bool) : exec (.scalarInstruction n b p) s = s.runOn [n + 1]
    (fun s => if p then s.parityFault n else (match b with | some a => s.tileParity n a | none => s).scalarInstruction n) := by
  rw [exec_scalarInstruction]
  unfold execScalarInstruction
  rw [Nat.mod_eq_of_lt hn] <;> rfl

/-- An instruction without bad sectors or a parity fault. -/
theorem scalar_answers (hn : n < 16) (hs : s.serves [n + 1] = true) (ht : s.scalarInstruction n = t) :
    AnswersThen (.scalarInstruction n none false) s t := core_answersThen (exec_scalar_core s hn none false) hs ht

/-- The core as an instruction finds it: its cycle counter has advanced by a free amount (log entry 23). -/
def State.ticked (s : State) (n : Nat) : Core := { s.core n with cycle := w64 ((s.core n).cycle + 1 + Config.freeValue s.free) }

theorem State.scalarInstruction_runs {ins len : Nat} (h : s.scalarRuns n = true) (hf : (s.core n).fetch = some (some ins, len))
    (hq : qFunct ins = none) : s.scalarInstruction n = match (s.ticked n).execute ins len s.domainTime with
      | .error c => s.draw.2.coreTrap n c
      | .ok k => s.draw.2.setCore n { k with instret := w64 (k.instret + 1) } := by
  unfold State.scalarInstruction
  simp only [h, hf, hq]
  rfl

theorem State.scalarInstruction_ok {ins len : Nat} {k : Core} (h : s.scalarRuns n = true) (hf : (s.core n).fetch = some (some ins, len))
    (hq : qFunct ins = none) (hk : (s.ticked n).execute ins len s.domainTime = .ok k) :
    s.scalarInstruction n = s.draw.2.setCore n { k with instret := w64 (k.instret + 1) } := by
  rw [State.scalarInstruction_runs h hf hq, hk]

theorem State.scalarInstruction_error {ins len c : Nat} (h : s.scalarRuns n = true) (hf : (s.core n).fetch = some (some ins, len))
    (hq : qFunct ins = none) (hk : (s.ticked n).execute ins len s.domainTime = .error c) :
    s.scalarInstruction n = s.draw.2.coreTrap n c := by
  rw [State.scalarInstruction_runs h hf hq, hk]

/-! ### ADDI -/

section
variable {rd rs imm : Nat} (hrd : rd < 32) (hrs : rs < 32) (himm : imm < 4096)
include hrd hrs himm

/-- The fields of an I-type encoding. -/
theorem encI_fields : encI 0x13 0 rd rs imm % 128 = 0x13 ∧ bitsOf (encI 0x13 0 rd rs imm) 7 5 = rd ∧ bitsOf (encI 0x13 0 rd rs imm) 12 3 = 0 ∧
    bitsOf (encI 0x13 0 rd rs imm) 15 5 = rs ∧ bitsOf (encI 0x13 0 rd rs imm) 20 12 = imm := by
  simp only [encI, bitsOf]
  omega

theorem qFunct_addi : qFunct (encI 0x13 0 rd rs imm) = none := by
  rw [qFunct, (encI_fields hrd hrs himm).1]
  rfl

theorem Core.execute_addi (k : Core) (time : Nat) : k.execute (encI 0x13 0 rd rs imm) 4 time =
    .ok { k.setReg rd (w64 (k.reg rs + sext64 12 imm)) with pc := w64 (k.pc + 4) } := by
  obtain ⟨hop, hfd, hf3, hfs, hfi⟩ := encI_fields hrd hrs himm
  unfold Core.execute
  simp only [hop, hfd, hf3, hfs, hfi]
  have hpc : (k.setReg rd (w64 (k.reg rs + sext64 12 imm))).pc = k.pc := by rw [Core.setReg_eq]
  simp [aluOp, hpc]

end

/-! ### A stop -/

theorem State.stopCore_core (s : State) (n c : Nat) (next : CoreState) : ((s.stopCore n c next).core n).state = next ∧
    ((s.stopCore n c next).core n).matrix = [] ∧ ((s.stopCore n c next).core n).vector = [] ∧ ((s.stopCore n c next).core n).dma = [] ∧
    ((s.stopCore n c next).core n).run = none := by
  unfold State.stopCore
  dsimp only
  rw [State.core_setCore_same]
  exact ⟨rfl, rfl, rfl, rfl, rfl⟩

/-- Settles O27: the traps of the fetch, the execution of what it fetched, and the parity fault. -/
theorem scalarInstructions : Obligations.ScalarInstructions := by
  intro s n rd rs imm k hn hs hk
  subst hk
  refine ⟨fun h => ?_, fun h hf => ?_, fun len h hf => ?_, fun h hf hrd hrs himm => ?_, fun ins len h hf hq => ⟨(s.ticked n).cycle,
    fun k' hk' => ?_, fun c hc => ?_⟩, fun a => ?_⟩
  · exact scalar_answers hn hs (by simp [State.scalarInstruction, h])
  · have hrun : s.scalarInstruction n = s.coreTrap n cFetch := by simp [State.scalarInstruction, h, hf]
    exact ⟨_, scalar_answers hn hs hrun, by rw [State.coreTrap_core h], by rw [State.coreTrap_core h], State.coreTrap_mem _ _ _⟩
  · have hrun : s.scalarInstruction n = s.coreTrap n cIllegal := by simp [State.scalarInstruction, h, hf]
    exact ⟨_, scalar_answers hn hs hrun, by rw [State.coreTrap_core h], by rw [State.coreTrap_core h], State.coreTrap_mem _ _ _⟩
  · have hrun := State.scalarInstruction_ok h hf (qFunct_addi hrd hrs himm) (Core.execute_addi hrd hrs himm (s.ticked n) s.domainTime)
    refine ⟨_, scalar_answers hn hs hrun, ?_, fun hz => ?_, fun j hj => ?_, ?_, ?_, rfl, rfl, fun j hj => State.core_setCore_ne s.draw.2 _ hj⟩
    · rw [State.core_setCore_same]; rfl
    · rw [State.core_setCore_same]
      refine ((s.ticked n).reg_setReg_same rd _).trans ?_
      rw [if_neg hz]
      exact Nat.mod_mod _ _
    · rw [State.core_setCore_same]
      exact (s.ticked n).reg_setReg_ne _ hj
    · rw [State.core_setCore_same, Core.setReg_eq]; rfl
    · rw [State.core_setCore_same, Core.setReg_eq]; rfl
  · exact ⟨_, scalar_answers hn hs (State.scalarInstruction_ok h hf hq hk'), State.core_setCore_same _ _ _, rfl, rfl,
      fun j hj => State.core_setCore_ne s.draw.2 _ hj⟩
  · exact ⟨_, scalar_answers hn hs (State.scalarInstruction_error h hf hq hc), by rw [State.coreTrap_core (s := s.draw.2) h]; rfl,
      State.coreTrap_mem _ _ _⟩
  · obtain ⟨hst, hm, hv, hd, -⟩ := State.stopCore_core (s.logErr { unit := .qnc, status := .internal, index := n }) n cPersistent .faulted
    exact ⟨_, core_answersThen (exec_scalar_core s hn a true) hs rfl, hst, hm, hv, hd⟩

end Sys2Proof.Machine
end

section
/-! Records, stops of a core, and resets that begin (R399, R217, R416). -/

namespace Sys2Proof.Machine

variable {s t u : State} {n : Nat}

/-! ### The record that is written -/

theorem Tbl.mem_of_get? {α : Type} {k : Nat} {v : α} : ∀ {t : Tbl α}, t.get? k = some v → (k, v) ∈ t
  | [], h => by cases h
  | (k', v') :: t, h => by
    rw [Tbl.get?] at h
    split at h
    next e => cases h; exact e ▸ List.mem_cons_self
    next => exact List.mem_cons_of_mem _ (Tbl.mem_of_get? h)

theorem Tbl.mem_put_self {α : Type} (k : Nat) (v : α) (t : Tbl α) : (k, v) ∈ t.put k v := Tbl.mem_of_get? (Tbl.get?_put_same t k v)

/-- The parts of the error record's unit that a record changes are the log and what it merges with. -/
theorem State.logErr_ras (s : State) (r : ErrRec) : ∃ l m, (s.logErr r).ras = { s.ras with log := l, recent := m } := by
  unfold State.logErr
  split
  · exact ⟨_, s.ras.recent, rfl⟩
  · dsimp only
    rw [State.noteLoss_frame]
    split <;> exact ⟨_, _, rfl⟩

/-- A record is in the log after it is written: merged with an equal one, or as it is. -/
theorem State.logErr_record (s : State) (r : ErrRec) : ∃ e ∈ (s.logErr r).ras.log, e.2.unit = r.unit ∧ e.2.status = r.status ∧ e.2.index = r.index ∧
    (s.ras.recent = [] → e.2.corrected = r.corrected ∧ e.2.syndrome = r.syndrome) := by
  unfold State.logErr
  split
  next q hq =>
    have hne : s.ras.recent ≠ [] := fun h => by rw [State.mergeSeq, h] at hq; cases hq
    simp only [State.mergeSeq, Option.map_eq_some_iff] at hq
    obtain ⟨e, he, rfl⟩ := hq
    have hsame := List.find?_some he
    simp only [Bool.and_eq_true] at hsame
    split at hsame
    next r' hr' =>
      have hmem := List.mem_map_of_mem (f := fun x => if x.1 = e.1 then (x.1, { x.2 with count := min (x.2.count + 1) 0xFFFFFFFF }) else x)
        (Tbl.mem_of_get? hr')
      refine ⟨_, hmem, ?_⟩
      obtain ⟨-, hs⟩ := hsame
      simp only [ErrRec.same, Bool.and_eq_true, beq_iff_eq] at hs
      obtain ⟨⟨⟨⟨⟨hunit, hstatus⟩, -⟩, hindex⟩, -⟩, -⟩ := hs
      rw [if_pos rfl]
      exact ⟨hunit, hstatus, hindex, fun h => absurd h hne⟩
    next => exact absurd hsame.2 (by simp)
  next =>
    dsimp only
    exact ⟨_, Tbl.mem_put_self _ _ _, rfl, rfl, rfl, fun _ => ⟨rfl, rfl⟩⟩

/-! ### A core that stops -/

theorem Upkeep.dmaRefs (s : State) (n : Nat) (b : List Byte) (i : Nat) : Upkeep s (s.dmaRefs n b i false) := by
  have one (s : State) (c va : Nat) : Upkeep s (match s.convert c va 1 with
      | .error _ => s
      | .ok v => match (s.extentsOf c).find? (fun e => e.holds v) with
        | some e => if false = true then s.takeRef c e.va else s.dropRef c e.va
        | none => s) := by
    split
    · exact .refl s
    · split
      · exact .dropRef s c _
      · exact .refl s
  unfold State.dmaRefs
  dsimp only
  split
  · exact (one s _ _).trans (one _ _ _)
  · exact one s _ _

theorem Upkeep.dmaAbort (s : State) (n : Nat) : Upkeep s (s.dmaAbort n) := by
  unfold State.dmaAbort
  split
  · dsimp only
    split
    · exact .refl s
    · split
      · exact .dropRef s _ _
      · exact .dmaRefs s n _ _
  · exact .refl s

/-- What a core's stop changes: that core and the units of `ATTEND`, the fields that show its trap, and what letting go of extents changes. -/
structure Stops (n : Nat) (s u : State) : Prop where
  eq : ∃ r f w x l m q, u = { s with regs := r, fab := f, sws := w, xlt := x, tier.lost := l, tier.told := m, qnc := q }
  places : s.keepsPlaces u (upkeepPlaces ++ trapPlaces n)
  others : ∀ j, j ≠ n → u.core j = s.core j

theorem Stops.mem (h : Stops n s u) : u.mem = s.mem := by obtain ⟨⟨_, _, _, _, _, _, _, rfl⟩, -, -⟩ := h; rfl
theorem Stops.now (h : Stops n s u) : u.now = s.now := by obtain ⟨⟨_, _, _, _, _, _, _, rfl⟩, -, -⟩ := h; rfl
theorem Stops.ras (h : Stops n s u) : u.ras = s.ras := by obtain ⟨⟨_, _, _, _, _, _, _, rfl⟩, -, -⟩ := h; rfl
theorem Stops.works (h : Stops n s u) : u.works = s.works := by obtain ⟨⟨_, _, _, _, _, _, _, rfl⟩, -, -⟩ := h; rfl
theorem Stops.fld (h : Stops n s u) {f : Fld} (hf : f.place ∉ upkeepPlaces) (ht : f.place ∉ trapPlaces n) (b : Nat) : u.fld f b = s.fld f b :=
  h.places f b (fun e => (List.mem_append.mp e).elim hf ht)

/-- A trap by a cause other than poison changes its core and shows itself. -/
theorem State.coreTrap_quiet (s : State) (n : Nat) {c : Nat} (hc : c ≠ cPoison) : ∃ r q, s.coreTrap n c = { s with regs := r, qnc := q } ∧
    s.keepsPlaces (s.coreTrap n c) (trapPlaces n) ∧ ∀ j, j ≠ n → (s.coreTrap n c).core j = s.core j := by
  have htrap (k : Core) : ∃ r q, (s.noteTrap n c (s.core n).pcOff).setCore n k = { s with regs := r, qnc := q } ∧
      s.keepsPlaces ((s.noteTrap n c (s.core n).pcOff).setCore n k) (trapPlaces n) ∧
      ∀ j, j ≠ n → ((s.noteTrap n c (s.core n).pcOff).setCore n k).core j = s.core j := by
    refine ⟨_, _, by rw [State.noteTrap_frame]; rfl, s.noteTrap_keepsPlaces n c _, fun j hj => ?_⟩
    rw [State.core_setCore_ne _ _ hj, State.noteTrap_frame]
    rfl
  unfold State.coreTrap
  simp only [if_neg hc]
  split
  · exact ⟨_, _, rfl, fun _ _ _ => rfl, fun _ _ => rfl⟩
  · split
    · exact htrap _
    · exact htrap _

theorem Stops.stopCore (s : State) (n : Nat) {c : Nat} (hc : c ≠ cPoison) (next : CoreState) : Stops n s (s.stopCore n c next) := by
  obtain ⟨r, q, heq, hplaces, hothers⟩ := s.coreTrap_quiet n hc
  have habort := Upkeep.dmaAbort (s.coreTrap n c) n
  have hqnc := habort.qnc
  obtain ⟨⟨r', f, w, x, l, m, habeq⟩, habplaces, -⟩ := habort
  unfold State.stopCore
  refine ⟨?_, (hplaces.mono (List.subset_append_right _ _)).trans (habplaces.mono (List.subset_append_left _ _)), fun j hj => ?_⟩
  · dsimp only
    rw [habeq, heq]
    exact ⟨_, _, _, _, _, _, _, rfl⟩
  · rw [State.core_setCore_ne _ _ hj, ← hothers j hj]
    show ((s.coreTrap n c).dmaAbort n).qnc.cores.getD j _ = _
    rw [hqnc]; rfl

theorem Stops.faultCore (s : State) (n : Nat) {c : Nat} (hc : c ≠ cPoison) : Stops n s (s.faultCore n c) := .stopCore s n hc _

/-! ### A reset that begins -/

/-- The fields that show resets. -/
def resetPlaces : List Nat :=
  [F.RAS_RESET_STATUS_STATUS.place, F.RAS_RESET_STATUS_SEQ.place, F.RAS_RESET_STATUS_TARGET.place, F.RAS_RESET_STATUS_LEVEL.place,
    F.RAS_RESET_STATUS_RUNNING.place]

/-- What a register operation on these fields leaves alone. -/
structure Shows (ps : List Nat) (s u : State) : Prop where
  eq : u = { s with regs := u.regs }
  places : s.keepsPlaces u ps

theorem Shows.refl (ps : List Nat) (s : State) : Shows ps s s := ⟨rfl, fun _ _ _ => rfl⟩
theorem Shows.trans {ps : List Nat} (h : Shows ps s t) (h' : Shows ps t u) : Shows ps s u :=
  ⟨by rw [h'.eq, h.eq], h.places.trans h'.places⟩
theorem Shows.setF {ps : List Nat} (s : State) {f : Fld} (v b : Nat) (h : f.place ∈ ps) : Shows ps s (s.setF f v b) :=
  ⟨rfl, s.keepsPlaces_setF v b h⟩

theorem Shows.resetOutcome (s : State) (st : Status) (r : ResetRun) : Shows resetPlaces s (s.resetOutcome st r) :=
  (((Shows.setF s _ _ (by decide)).trans (.setF _ _ _ (by decide))).trans (.setF _ _ _ (by decide))).trans (.setF _ _ _ (by decide))

theorem Shows.resetBegin (s : State) (r : ResetRun) :
    Shows resetPlaces { s with ras.running := s.ras.running.filter (fun q => !r.covers q) ++ [r] } (s.resetBegin r) := by
  unfold State.resetBegin
  dsimp only
  refine Shows.trans ?_ (.setF _ _ _ (by decide))
  exact List.foldlRecOn (motive := fun t => Shows resetPlaces _ t) _ _ (.refl _ _) fun t ht q _ => ht.trans (.resetOutcome t _ q)

theorem State.resetBegin_frame (s : State) (r : ResetRun) : s.resetBegin r =
    { s with regs := (s.resetBegin r).regs, ras.running := s.ras.running.filter (fun q => !r.covers q) ++ [r] } := (Shows.resetBegin s r).eq

theorem State.resetBegin_keepsPlaces (s : State) (r : ResetRun) : s.keepsPlaces (s.resetBegin r) resetPlaces := (Shows.resetBegin s r).places

theorem State.resetBegin_running (s : State) (r : ResetRun) : r ∈ (s.resetBegin r).ras.running := by
  rw [State.resetBegin_frame]
  exact List.mem_append_right _ (List.mem_singleton_self r)

@[simp] theorem State.resetBegin_core (s : State) (r : ResetRun) (j : Nat) : (s.resetBegin r).core j = s.core j := by
  rw [State.resetBegin_frame]; rfl
@[simp] theorem State.resetBegin_mem (s : State) (r : ResetRun) : (s.resetBegin r).mem = s.mem := by
  rw [State.resetBegin_frame]
@[simp] theorem State.resetBegin_now (s : State) (r : ResetRun) : (s.resetBegin r).now = s.now := by
  rw [State.resetBegin_frame]

end Sys2Proof.Machine
end

section
/-! Sentinels, hangs and quarantine (R397, R407 to R410). -/

namespace Sys2Proof.Machine

variable {s t u : State} {n : Nat}

/-! ### Sentinels -/

theorem State.logErr_due (s : State) (r : ErrRec) : (s.logErr r).ras.sentinelDue = s.ras.sentinelDue := by
  obtain ⟨l, m, h⟩ := s.logErr_ras r
  rw [h]
@[simp] theorem State.logErr_qnc (s : State) (r : ErrRec) : (s.logErr r).qnc = s.qnc := by rw [State.logErr_frame]
@[simp] theorem State.logErr_core (s : State) (r : ErrRec) (j : Nat) : (s.logErr r).core j = s.core j := by rw [State.core, State.logErr_qnc]; rfl
@[simp] theorem State.logErr_now (s : State) (r : ErrRec) : (s.logErr r).now = s.now := by rw [State.logErr_frame]

/-- A counter has counted once where its value is that of a count, whatever else changed. -/
theorem State.counted_of_fld {f : Fld} {b : Nat} (h : u.fld f b = (s.count f 1 b).fld f b) : s.counted u f b := h

/-- The engine's state, its last pass and the sentinels that are due, as an outcome leaves them. -/
def State.sentinelOver (s : State) (e : Nat) : State :=
  { s with ras.sentinelDue := s.ras.sentinelDue.filter (· != e), ras.sentinelRerun := s.ras.sentinelRerun.filter (· != e) }

def State.sentinelPassed (s : State) (e : Nat) : State :=
  (((s.sentinelOver e).setF (F.RAS_ENGINE_LAST_PASS.at e) (s.fld F.RAS_STEP_COUNT - (s.fld F.RAS_STEP_COUNT - e) % 32)).setF
    (F.RAS_ENGINE_STATE.at e) 1).count F.RAS_SENTINEL_PASSED

theorem not_mem_over (l : List Nat) (e : Nat) : e ∉ l.filter (· != e) := by simp

section
variable {e : Nat} (hdue : s.ras.sentinelDue.contains e = true) (hserves : (s.core (e / 2)).state.serves = true)
include hdue hserves

theorem State.sentinelDone_pass : s.sentinelDone e true = if s.ras.sentinelRerun.contains e then
    ((s.sentinelPassed e).count F.RAS_SENTINEL_TRANSIENT).logErr { unit := .qnc, status := .done, corrected := true, index := e }
    else s.sentinelPassed e := by
  unfold State.sentinelDone
  dsimp only
  rw [if_neg (by simp only [hdue, hserves]; decide)]
  rfl

theorem State.sentinelDone_mismatch (h : s.ras.sentinelRerun.contains e = false) :
    s.sentinelDone e false = { s with ras.sentinelRerun := s.ras.sentinelRerun ++ [e] } := by
  unfold State.sentinelDone
  simp only [hdue, hserves, h]
  rfl

theorem State.sentinelDone_fault (h : s.ras.sentinelRerun.contains e = true) : s.sentinelDone e false =
    ((((s.sentinelOver e).count F.RAS_SENTINEL_PERSISTENT).setF (F.RAS_ENGINE_STATE.at e) 2).logErr
      { unit := .qnc, status := .internal, index := e, syndrome := s.fld (F.RAS_ENGINE_LAST_PASS.at e) }).faultCore (e / 2) cPersistent := by
  unfold State.sentinelDone
  simp only [hdue, hserves, h]
  rfl

end

/-- The fields of an engine lie apart from those of the sentinels' counters, of the log, of upkeep and of a core's trap. -/
theorem engine_apart : ∀ e < 32, (F.RAS_ENGINE_STATE.at e).place ≠ F.RAS_SENTINEL_PASSED.place ∧ (F.RAS_ENGINE_STATE.at e).place ≠
      F.RAS_SENTINEL_TRANSIENT.place ∧ (F.RAS_ENGINE_STATE.at e).place ≠ F.RAS_SENTINEL_PERSISTENT.place ∧
    (F.RAS_ENGINE_LAST_PASS.at e).place ≠ F.RAS_SENTINEL_PASSED.place ∧ (F.RAS_ENGINE_LAST_PASS.at e).place ≠ F.RAS_SENTINEL_TRANSIENT.place ∧
    (F.RAS_ENGINE_LAST_PASS.at e).place ≠ F.RAS_SENTINEL_PERSISTENT.place ∧ (F.RAS_ENGINE_STATE.at e).place ≠ (F.RAS_ENGINE_LAST_PASS.at e).place ∧
    (F.RAS_ENGINE_STATE.at e).key 0 ∉ logKeys ∧ (F.RAS_ENGINE_LAST_PASS.at e).key 0 ∉ logKeys ∧ (F.RAS_ENGINE_STATE.at e).place ∉ upkeepPlaces ∧
    (F.RAS_ENGINE_STATE.at e).place ∉ trapPlaces (e / 2) ∧ F.RAS_SENTINEL_PERSISTENT.place ∉ trapPlaces (e / 2) := by decide

theorem State.sentinelPassed_fld {e : Nat} (he : e < 32) : (s.sentinelPassed e).fld (F.RAS_ENGINE_STATE.at e) = 1 ∧
    s.counted (s.sentinelPassed e) F.RAS_SENTINEL_PASSED ∧ (s.sentinelPassed e).fld (F.RAS_ENGINE_LAST_PASS.at e) =
      (s.fld F.RAS_STEP_COUNT - (s.fld F.RAS_STEP_COUNT - e) % 32) % 2 ^ F.RAS_ENGINE_LAST_PASS.width ∧
    (s.sentinelPassed e).fld F.RAS_SENTINEL_TRANSIENT = s.fld F.RAS_SENTINEL_TRANSIENT := by
  obtain ⟨hsp, hst, -, hlp, hlt, -, hsl, -⟩ := engine_apart e he
  unfold State.sentinelPassed
  refine ⟨?_, ?_, ?_, ?_⟩
  · rw [State.fld_count_ne _ _ (Fld.key_ne_of_place hsp.symm), State.fld_setF_same]; rfl
  · rw [State.counted, State.fld_count_same, State.fld_count_same, State.fld_setF_place _ _ hsp, State.fld_setF_place _ _ hlp]; rfl
  · rw [State.fld_count_ne _ _ (Fld.key_ne_of_place hlp.symm), State.fld_setF_place _ _ hsl, State.fld_setF_same]; rfl
  · rw [State.fld_count_ne _ _ (by decide), State.fld_setF_place _ _ hst, State.fld_setF_place _ _ hlt]; rfl

theorem sentinel_answers {e : Nat} {p : Bool} (hs : s.serves [] = true) (ht : s.sentinelDone e p = t) : AnswersThen (.sentinelDone e p) s t :=
  core_answersThen (exec_sentinelDone s e p) hs ht

/-- Settles O47: the three outcomes of a sentinel that is due. -/
theorem sentinels : Obligations.Sentinels := by
  intro s e pass hs he
  refine ⟨fun h => ?_, fun hdue hserves => ⟨?_, fun h => ?_, fun h => ?_⟩⟩
  · refine sentinel_answers hs ?_
    unfold State.sentinelDone
    dsimp only
    rw [if_pos]
    rintro ⟨hd, hv⟩
    rcases h with h | h
    · rw [h] at hd; cases hd
    · rw [h] at hv; cases hv
  · obtain ⟨hstate, hcount, hlast, htrans⟩ := State.sentinelPassed_fld (s := s) he
    have hrun := State.sentinelDone_pass hdue hserves
    cases hre : s.ras.sentinelRerun.contains e with
    | false =>
      rw [hre, if_neg Bool.false_ne_true] at hrun
      exact ⟨_, sentinel_answers hs hrun, hstate, hcount, hlast, not_mem_over _ _, rfl, rfl, fun h => by cases h⟩
    | true =>
      rw [hre, if_pos rfl] at hrun
      obtain ⟨hsp, hst, -, hlp, hlt, -, hsl, hslog, hllog, -⟩ := engine_apart e he
      refine ⟨_, sentinel_answers hs hrun, ?_, ?_, ?_, ?_, by simp; rfl, by simp; rfl, fun _ => ⟨?_, fun hrec => ?_⟩⟩
      · rw [State.fld_logErr _ _ hslog, State.fld_count_ne _ _ (Fld.key_ne_of_place hst.symm), hstate]
      · rw [State.counted, State.fld_logErr _ _ (by decide), State.fld_count_ne _ _ (by decide)]; exact hcount
      · rw [State.fld_logErr _ _ hllog, State.fld_count_ne _ _ (Fld.key_ne_of_place hlt.symm), hlast]
      · rw [State.logErr_due]; exact not_mem_over _ _
      · rw [State.counted, State.fld_logErr _ _ (by decide), State.fld_count_same, State.fld_count_same, htrans]
      · obtain ⟨r, hr, hunit, hstatus, hindex, hrest⟩ := State.logErr_record ((s.sentinelPassed e).count F.RAS_SENTINEL_TRANSIENT)
          { unit := .qnc, status := .done, corrected := true, index := e }
        exact ⟨r, hr, hunit, hstatus, (hrest hrec).1, hindex⟩
  · exact ⟨_, sentinel_answers hs (State.sentinelDone_mismatch hdue hserves h), by simp, by simpa using hdue, rfl, rfl⟩
  · have hrun := State.sentinelDone_fault hdue hserves h
    obtain ⟨-, -, hsx, -, -, -, -, hslog, -, hup, htrap, hxtrap⟩ := engine_apart e he
    have hstop := Stops.faultCore ((((s.sentinelOver e).count F.RAS_SENTINEL_PERSISTENT).setF (F.RAS_ENGINE_STATE.at e) 2).logErr
      { unit := .qnc, status := .internal, index := e, syndrome := s.fld (F.RAS_ENGINE_LAST_PASS.at e) }) (e / 2) (c := cPersistent) (by decide)
    refine ⟨_, sentinel_answers hs hrun, ?_, ?_, (State.stopCore_core _ _ _ _).1, ?_, ?_⟩
    · rw [hstop.fld hup htrap, State.fld_logErr _ _ hslog, State.fld_setF_same]; rfl
    · rw [State.counted, hstop.fld (by decide) hxtrap, State.fld_logErr _ _ (by decide), State.fld_setF_place _ _ hsx, State.fld_count_same,
        State.fld_count_same]
      rfl
    · rw [hstop.ras, State.logErr_due]; exact not_mem_over _ _
    · rw [hstop.ras]
      obtain ⟨r, hr, hunit, hstatus, hindex, hrest⟩ := State.logErr_record
        (((s.sentinelOver e).count F.RAS_SENTINEL_PERSISTENT).setF (F.RAS_ENGINE_STATE.at e) 2)
        { unit := .qnc, status := .internal, index := e, syndrome := s.fld (F.RAS_ENGINE_LAST_PASS.at e) }
      exact ⟨r, hr, hunit, hstatus, hindex, fun hrec => (hrest hrec).2⟩

/-! ### Hangs -/

theorem State.suspectsOf_length (s : State) (n e last : Nat) (h : Suspect) : (s.suspectsOf n e last h).length ≤ 8 := by
  unfold State.suspectsOf
  simp only [List.length_drop]
  omega

theorem State.suspectsOf_last (s : State) (n e last : Nat) (h : Suspect) : (s.suspectsOf n e last h).getLast? = some h := by
  unfold State.suspectsOf
  dsimp only
  rw [List.getLast?_drop, if_neg (by simp only [List.length_append, List.length_singleton]; omega), List.getLast?_append]
  rfl

/-- The part of the watchdog before the suspects are named: time, the count and record, and the core that stops under its L1. -/
def State.hangStops (s : State) (n last : Nat) (hung : Suspect) : State :=
  let s := s.reach (last + s.fld F.RAS_WDOG_CMD_MS * nsPerMs)
  let s := (s.count F.RAS_HANG_HANGS).logErr { unit := .qnc, status := .timeout, index := n, ctx := some hung.ctx }
  ((if hung.attend then s.noteTrap n cWatchdog 0 else s).stopCore n cWatchdog .resetting).resetBegin ⟨1, n, false⟩

theorem State.engineWatchdog_hangs {e last : Nat} {hung : Suspect} (hn : n < 16) (he : e < 3) (h : s.onEngine n e = some hung) :
    s.engineWatchdog n e last = if s.quarantined then s.hangStops n last hung else
      ({ s.hangStops n last hung with
        ras.suspects := (s.reach (last + s.fld F.RAS_WDOG_CMD_MS * nsPerMs)).suspectsOf n e last hung, ras.hungCore := some n } : State).withhold hung := by
  unfold State.engineWatchdog
  rw [if_neg (by omega), h]
  rfl

/-- Withholding a unit changes the units of `ATTEND` and the list of what is stopped. -/
theorem State.withhold_frame (s : State) (x : Suspect) : ∃ l m, s.withhold x = { s with qnc.units := l, ras.stopped := m } := by
  unfold State.withhold
  split <;> exact ⟨_, _, rfl⟩

theorem hang_apart : ∀ n < 16, F.RAS_HANG_HANGS.place ∉ trapPlaces n := by decide

theorem State.hangStops_spec (s : State) (hn : n < 16) (last : Nat) (hung : Suspect) : ((s.hangStops n last hung).core n).state = .resetting ∧
    s.counted (s.hangStops n last hung) F.RAS_HANG_HANGS ∧ (⟨1, n, false⟩ : ResetRun) ∈ (s.hangStops n last hung).ras.running ∧
    last + s.fld F.RAS_WDOG_CMD_MS * nsPerMs ≤ (s.hangStops n last hung).now ∧ (∀ m, m ≠ n → (s.hangStops n last hung).core m = s.core m) ∧
    (s.hangStops n last hung).ras.hungCore = s.ras.hungCore ∧ (s.hangStops n last hung).ras.suspects = s.ras.suspects := by
  unfold State.hangStops
  dsimp only
  generalize hb : ((s.reach (last + s.fld F.RAS_WDOG_CMD_MS * nsPerMs)).count F.RAS_HANG_HANGS).logErr
    { unit := .qnc, status := .timeout, index := n, ctx := some hung.ctx } = b
  have hbfld : b.fld F.RAS_HANG_HANGS = (s.count F.RAS_HANG_HANGS).fld F.RAS_HANG_HANGS := by
    rw [← hb, State.fld_logErr _ _ (by decide)]; rfl
  have hbcore (j : Nat) : b.core j = s.core j := by rw [← hb, State.logErr_core]; rfl
  have hbnow : last + s.fld F.RAS_WDOG_CMD_MS * nsPerMs ≤ b.now := by rw [← hb, State.logErr_now]; exact le_max_right _ _
  have hbras : b.ras.hungCore = s.ras.hungCore ∧ b.ras.suspects = s.ras.suspects := by
    obtain ⟨l, m, h⟩ := State.logErr_ras ((s.reach (last + s.fld F.RAS_WDOG_CMD_MS * nsPerMs)).count F.RAS_HANG_HANGS)
      { unit := .qnc, status := .timeout, index := n, ctx := some hung.ctx }
    rw [← hb, h]
    exact ⟨rfl, rfl⟩
  have htrap : ∃ r, (if hung.attend = true then b.noteTrap n cWatchdog 0 else b) = { b with regs := r } ∧
      b.keepsPlaces { b with regs := r } (trapPlaces n) := by
    split
    · exact ⟨_, b.noteTrap_frame n cWatchdog 0, (State.keepsPlaces.trans (b.noteTrap_keepsPlaces n cWatchdog 0) (State.keepsPlaces_of_regs rfl))⟩
    · exact ⟨b.regs, rfl, State.keepsPlaces_of_regs rfl⟩
  obtain ⟨r, hr, hkeeps⟩ := htrap
  rw [hr]
  have hstop := Stops.stopCore { b with regs := r } n (c := cWatchdog) (by decide) .resetting
  refine ⟨?_, ?_, State.resetBegin_running _ _, ?_, fun m hm => ?_, ?_, ?_⟩
  · rw [State.resetBegin_core]; exact (State.stopCore_core _ _ _ _).1
  · rw [State.counted, State.resetBegin_keepsPlaces _ _ _ _ (by decide), hstop.fld (by decide) (hang_apart n hn), hkeeps _ _ (hang_apart n hn), hbfld]
  · rw [State.resetBegin_now, hstop.now]; exact hbnow
  · rw [State.resetBegin_core, hstop.others m hm]; exact hbcore m
  · rw [State.resetBegin_frame]; exact (congrArg Ras.hungCore hstop.ras).trans hbras.1
  · rw [State.resetBegin_frame]; exact (congrArg Ras.suspects hstop.ras).trans hbras.2

/-! ### Quarantine -/

theorem State.quarEnd_none_stopped (s : State) (g : Option Nat) (h : s.ras.stopped = []) :
    s.quarEnd g = (({ s with ras.suspects := [], ras.hungCore := none } : State).setF F.RAS_QUAR_STATE 0).setF F.RAS_QUAR_LEFT 0 := by
  unfold State.quarEnd State.releaseStopped
  dsimp only
  rw [h]
  congr 2

theorem State.quarEnd_fld {g : Option Nat} (h : s.ras.stopped = []) {f : Fld} (b : Nat) (hs : F.RAS_QUAR_STATE.place ≠ f.place)
    (hl : F.RAS_QUAR_LEFT.place ≠ f.place) : (s.quarEnd g).fld f b = s.fld f b := by
  rw [State.quarEnd_none_stopped _ _ h, State.fld_setF_place _ _ hl, State.fld_setF_place _ _ hs]
  rfl

theorem State.quarEnd_state (g : Option Nat) (h : s.ras.stopped = []) : (s.quarEnd g).fld F.RAS_QUAR_STATE = 0 := by
  rw [State.quarEnd_none_stopped _ _ h, State.fld_setF_place _ _ (by decide), State.fld_setF_same, Nat.zero_mod]

/-- The guilty context is shown. -/
def State.quarGuilty (s : State) (n : Nat) (x : Suspect) : State :=
  (((s.logErr { unit := .ras, status := .timeout, ctx := some x.ctx, index := n }).count F.RAS_HANG_GUILTY).setF F.RAS_QUAR_GUILTY_VALID 1).setF
    F.RAS_QUAR_GUILTY_CTX x.ctx

/-- Nobody is guilty. -/
def State.quarNobody (s : State) (n : Nat) : State :=
  ((s.logErr { unit := .ras, status := .timeout, index := n }).count F.RAS_HANG_UNATTRIBUTED).setF F.RAS_QUAR_GUILTY_VALID 0

/-- A run that hangs leaves its core under an L1 and the quarantine ended. -/
def State.quarHung (s : State) (n : Nat) (x : Suspect) : State :=
  ((s.quarGuilty n x).quarEnd (some x.ctx)).setCore n { (s.quarGuilty n x).core n with state := .resetting }

section
variable {x : Suspect} {rest : List Suspect} (hq : s.fld F.RAS_QUAR_STATE = 1) (hidle : (s.core (s.fld F.RAS_QUAR_CORE)).state = .idle)
  (hsus : s.ras.suspects = x :: rest)
include hq hidle hsus

theorem State.quarantineRunDone_hangs : s.quarantineRunDone true =
    (s.quarHung (s.fld F.RAS_QUAR_CORE) x).resetBegin ⟨1, s.fld F.RAS_QUAR_CORE, false⟩ := by
  unfold State.quarantineRunDone
  dsimp only
  rw [if_neg (by rw [hq, hidle]; decide), hsus]
  rfl

theorem State.quarantineRunDone_next (hr : rest ≠ []) :
    s.quarantineRunDone false = ({ s with ras.suspects := rest } : State).setF F.RAS_QUAR_LEFT rest.length := by
  unfold State.quarantineRunDone
  dsimp only
  rw [if_neg (by rw [hq, hidle]; decide), hsus]
  cases rest with
  | nil => exact absurd rfl hr
  | cons y l => rfl

/-- Whether a quarantine of this core has ended unattributed within the last 10 s. -/
def State.quarAgain (s : State) (n : Nat) : Bool :=
  match s.ras.lastUnattributed with
  | some (m, t) => decide (m = n ∧ s.now < t + 10000 * nsPerMs)
  | none => false

/-- A quarantine that names nobody has ended. -/
def State.quarOver (s : State) (n : Nat) : State :=
  { (s.quarNobody n).quarEnd none with ras.lastUnattributed := some (n, ((s.quarNobody n).quarEnd none).now) }

theorem State.quarantineRunDone_last (hr : rest = []) : s.quarantineRunDone false =
    if ((s.quarNobody (s.fld F.RAS_QUAR_CORE)).quarEnd none).quarAgain (s.fld F.RAS_QUAR_CORE) = true then
      ((s.quarOver (s.fld F.RAS_QUAR_CORE)).logErr { unit := .qnc, status := .internal, index := s.fld F.RAS_QUAR_CORE }).faultCore
        (s.fld F.RAS_QUAR_CORE) cPersistent
    else s.quarOver (s.fld F.RAS_QUAR_CORE) := by
  subst hr
  unfold State.quarantineRunDone
  dsimp only
  rw [if_neg (by rw [hq, hidle]; decide), hsus]
  rfl

end

theorem State.quarGuilty_stopped (h : s.ras.stopped = []) (n : Nat) (x : Suspect) : (s.quarGuilty n x).ras.stopped = [] := by
  obtain ⟨l, m, hr⟩ := s.logErr_ras { unit := .ras, status := .timeout, ctx := some x.ctx, index := n }
  show (s.logErr _).ras.stopped = []
  rw [hr]; exact h

theorem State.quarNobody_ras (s : State) (n : Nat) : ∃ l m, (s.quarNobody n).ras = { s.ras with log := l, recent := m } :=
  s.logErr_ras { unit := .ras, status := .timeout, index := n }

/-- What the end of a quarantine that names nobody leaves. -/
theorem State.quarOver_spec (h : s.ras.stopped = []) (n : Nat) : (s.quarOver n).fld F.RAS_QUAR_GUILTY_VALID = 0 ∧ (s.quarOver n).fld F.RAS_QUAR_STATE = 0 ∧
    s.counted (s.quarOver n) F.RAS_HANG_UNATTRIBUTED ∧ (s.quarOver n).ras.lastUnattributed = some (n, s.now) ∧ (s.quarOver n).mem = s.mem ∧
    (∀ j, (s.quarOver n).core j = s.core j) ∧ ((s.quarNobody n).quarEnd none).quarAgain n = s.quarAgain n := by
  obtain ⟨l, m, hr⟩ := s.quarNobody_ras n
  have hstop : (s.quarNobody n).ras.stopped = [] := by rw [hr]; exact h
  have hnow : (s.quarNobody n).now = s.now := s.logErr_now _
  have hover (f : Fld) : (s.quarOver n).fld f = ((s.quarNobody n).quarEnd none).fld f := rfl
  have hrest : ∀ j, ((s.quarNobody n).quarEnd none).core j = s.core j ∧ ((s.quarNobody n).quarEnd none).mem = s.mem ∧
      ((s.quarNobody n).quarEnd none).now = s.now ∧ ((s.quarNobody n).quarEnd none).ras.lastUnattributed = s.ras.lastUnattributed := by
    intro j
    rw [State.quarEnd_none_stopped _ _ hstop]
    exact ⟨s.logErr_core _ j, s.logErr_mem _, hnow, (congrArg Ras.lastUnattributed hr :)⟩
  obtain ⟨-, hmem, hnow, hlast⟩ := hrest 0
  refine ⟨?_, ?_, ?_, congrArg (fun t => some (n, t)) hnow, hmem, fun j => (hrest j).1, ?_⟩
  · rw [hover, State.quarEnd_fld hstop _ (by decide) (by decide), State.quarNobody, State.fld_setF_same, Nat.zero_mod]
  · rw [hover, State.quarEnd_state _ hstop]
  · rw [State.counted, hover, State.quarEnd_fld hstop _ (by decide) (by decide), State.quarNobody, State.fld_setF_place _ _ (by decide),
      State.fld_count_same, State.fld_count_same, State.fld_logErr _ _ (by decide)]
  · simp only [State.quarAgain, hlast, hnow]

/-- What the guilty context's fields show, and what a hang has counted. -/
theorem State.quarGuilty_fld (s : State) (n : Nat) (x : Suspect) : (s.quarGuilty n x).fld F.RAS_QUAR_GUILTY_VALID = 1 ∧
    (s.quarGuilty n x).fld F.RAS_QUAR_GUILTY_CTX = x.ctx % 2 ^ 13 ∧ s.counted (s.quarGuilty n x) F.RAS_HANG_GUILTY := by
  unfold State.quarGuilty
  refine ⟨?_, ?_, ?_⟩
  · rw [State.fld_setF_place _ _ (by decide), State.fld_setF_same]; rfl
  · rw [State.fld_setF_same]; rfl
  · rw [State.counted, State.fld_setF_place _ _ (by decide), State.fld_setF_place _ _ (by decide), State.fld_count_same, State.fld_count_same,
      State.fld_logErr _ _ (by decide)]

theorem State.quarHung_spec (h : s.ras.stopped = []) (n : Nat) (x : Suspect) : (s.quarHung n x).fld F.RAS_QUAR_GUILTY_VALID = 1 ∧
    (s.quarHung n x).fld F.RAS_QUAR_GUILTY_CTX = x.ctx % 2 ^ 13 ∧ (s.quarHung n x).fld F.RAS_QUAR_STATE = 0 ∧ (s.quarHung n x).ras.suspects = [] ∧
    s.counted (s.quarHung n x) F.RAS_HANG_GUILTY ∧ ((s.quarHung n x).core n).state = .resetting ∧ (s.quarHung n x).mem = s.mem := by
  have hstop := State.quarGuilty_stopped h n x
  obtain ⟨hv, hc, hg⟩ := s.quarGuilty_fld n x
  have hfld (f : Fld) : (s.quarHung n x).fld f = ((s.quarGuilty n x).quarEnd (some x.ctx)).fld f := rfl
  refine ⟨?_, ?_, ?_, ?_, ?_, ?_, ?_⟩
  · rw [hfld, State.quarEnd_fld hstop _ (by decide) (by decide), hv]
  · rw [hfld, State.quarEnd_fld hstop _ (by decide) (by decide), hc]
  · rw [hfld, State.quarEnd_state _ hstop]
  · unfold State.quarHung; rw [State.quarEnd_none_stopped _ _ hstop]; rfl
  · rw [State.counted, hfld, State.quarEnd_fld hstop _ (by decide) (by decide), hg]
  · unfold State.quarHung; rw [State.core_setCore_same]
  · unfold State.quarHung; rw [State.quarEnd_none_stopped _ _ hstop]
    exact s.logErr_mem _

theorem quar_apart : ∀ n < 16, F.RAS_QUAR_GUILTY_VALID.place ∉ trapPlaces n ∧ F.RAS_QUAR_STATE.place ∉ trapPlaces n ∧
    F.RAS_HANG_UNATTRIBUTED.place ∉ trapPlaces n := by decide

theorem quarantine_answers {hung : Bool} (hs : s.serves [] = true) (ht : s.quarantineRunDone hung = t) : AnswersThen (.quarantineRunDone hung) s t :=
  core_answersThen (exec_quarantineRunDone s hung) hs ht

theorem watchdog_answers {e last : Nat} (hn : n < 16) (hs : s.serves [] = true) (ht : s.engineWatchdog n e last = t) :
    AnswersThen (.engineWatchdog n e last) s t := by
  refine core_answersThen (g := fun s => s.engineWatchdog n e last) ?_ hs ht
  rw [exec_engineWatchdog, execEngineWatchdog, Nat.mod_eq_of_lt hn]

/-- A last run of quarantine that completes ends it unattributed, a second time on the core within 10 s with the core FAULTED. -/
theorem quarantine_unattributed {x : Suspect} {rest : List Suspect} (hs : s.serves [] = true) (hn : s.fld F.RAS_QUAR_CORE < 16)
    (hq : s.fld F.RAS_QUAR_STATE = 1) (hidle : (s.core (s.fld F.RAS_QUAR_CORE)).state = .idle) (hsus : s.ras.suspects = x :: rest) (hr : rest = [])
    (hstop : s.ras.stopped = []) : ∃ u, AnswersThen (.quarantineRunDone false) s u ∧ u.fld F.RAS_QUAR_GUILTY_VALID = 0 ∧ u.fld F.RAS_QUAR_STATE = 0 ∧
      s.counted u F.RAS_HANG_UNATTRIBUTED ∧ u.ras.lastUnattributed = some (s.fld F.RAS_QUAR_CORE, s.now) ∧ u.mem = s.mem ∧
      (∀ t, s.ras.lastUnattributed = some (s.fld F.RAS_QUAR_CORE, t) → s.now < t + 10000 * nsPerMs →
        (u.core (s.fld F.RAS_QUAR_CORE)).state = .faulted) ∧
      (s.ras.lastUnattributed = none → (u.core (s.fld F.RAS_QUAR_CORE)).state = .idle) := by
  have hgo := State.quarantineRunDone_last hq hidle hsus hr
  generalize hn' : s.fld F.RAS_QUAR_CORE = n at hgo hn hidle
  obtain ⟨hvalid, hstate, hcount, hlast, hmem, hcores, hagain⟩ := s.quarOver_spec hstop n
  rw [hagain] at hgo
  cases ha : s.quarAgain n with
  | false =>
    rw [ha, if_neg Bool.false_ne_true] at hgo
    refine ⟨_, quarantine_answers hs hgo, hvalid, hstate, hcount, hlast, hmem, fun t ht hlt => ?_, fun _ => by rw [hcores, hidle]⟩
    rw [State.quarAgain, ht] at ha
    simp [hlt] at ha
  | true =>
    rw [ha, if_pos rfl] at hgo
    obtain ⟨hva, hsa, hua⟩ := quar_apart n hn
    have hstopped := Stops.faultCore ((s.quarOver n).logErr { unit := .qnc, status := .internal, index := n }) n (c := cPersistent) (by decide)
    obtain ⟨l, m, hras⟩ := (s.quarOver n).logErr_ras { unit := .qnc, status := .internal, index := n }
    have hfaulted := (State.stopCore_core ((s.quarOver n).logErr { unit := .qnc, status := .internal, index := n }) n cPersistent .faulted).1
    refine ⟨_, quarantine_answers hs hgo, ?_, ?_, ?_, ?_, ?_, fun _ _ _ => hfaulted, fun h => ?_⟩
    · rw [hstopped.fld (by decide) hva, State.fld_logErr _ _ (by decide), hvalid]
    · rw [hstopped.fld (by decide) hsa, State.fld_logErr _ _ (by decide), hstate]
    · rw [State.counted, hstopped.fld (by decide) hua, State.fld_logErr _ _ (by decide), hcount]
    · rw [hstopped.ras, hras]; exact hlast
    · rw [hstopped.mem, State.logErr_mem, hmem]
    · rw [State.quarAgain, h] at ha; cases ha

/-- Settles O48: the hang stops its core under an L1 and names the suspects; a run of quarantine hangs, passes on, or is the last. -/
theorem hangsAndQuarantine : Obligations.HangsAndQuarantine := by
  refine ⟨fun s n e last hs hn he => ⟨fun h => ?_, fun hung h => ?_⟩, fun s n x rest hs hcore hn hstop => ⟨fun h hung => ?_, fun hq hidle hsus =>
    ⟨?_, fun hr => ?_, fun hr => ?_⟩⟩⟩
  · refine watchdog_answers hn hs ?_
    unfold State.engineWatchdog
    rw [if_neg (by omega), h]
  · obtain ⟨hstate, hcount, hrun, hnow, hothers, hhung, hsus⟩ := s.hangStops_spec hn last hung
    have hgo := State.engineWatchdog_hangs (last := last) hn he h
    cases hq : s.quarantined with
    | true =>
      rw [hq, if_pos rfl] at hgo
      exact ⟨_, watchdog_answers hn hs hgo, hstate, hcount, hrun, hnow, fun m hm => congrArg Core.state (hothers m hm),
        fun h => absurd h (by decide), fun _ => ⟨hhung, hsus⟩⟩
    | false =>
      rw [hq, if_neg Bool.false_ne_true] at hgo
      obtain ⟨l, m, hw⟩ := State.withhold_frame ({ s.hangStops n last hung with
        ras.suspects := (s.reach (last + s.fld F.RAS_WDOG_CMD_MS * nsPerMs)).suspectsOf n e last hung, ras.hungCore := some n } : State) hung
      rw [hw] at hgo
      exact ⟨_, watchdog_answers hn hs hgo, hstate, hcount, hrun, hnow, fun m hm => congrArg Core.state (hothers m hm),
        fun _ => ⟨rfl, State.suspectsOf_last _ _ _ _ _, State.suspectsOf_length _ _ _ _ _⟩, fun h => absurd h (by decide)⟩
  · refine quarantine_answers hs ?_
    unfold State.quarantineRunDone
    rw [if_pos (.inl h)]
  · subst hcore
    have hgo := State.quarantineRunDone_hangs hq hidle hsus
    generalize hn' : s.fld F.RAS_QUAR_CORE = n at hgo hn
    obtain ⟨hvalid, hctx, hstate, hsusp, hcount, hcore, hmem⟩ := s.quarHung_spec hstop n x
    refine ⟨_, quarantine_answers hs hgo, ?_, ?_, ?_, ?_, ?_, ?_, State.resetBegin_running _ _, ?_⟩
    · rw [State.resetBegin_keepsPlaces _ _ _ _ (by decide), hvalid]
    · rw [State.resetBegin_keepsPlaces _ _ _ _ (by decide), hctx]
    · rw [State.resetBegin_keepsPlaces _ _ _ _ (by decide), hstate]
    · rw [State.resetBegin_frame]; exact hsusp
    · rw [State.counted, State.resetBegin_keepsPlaces _ _ _ _ (by decide), hcount]
    · rw [State.resetBegin_core, hcore]
    · rw [State.resetBegin_mem, hmem]
  · subst hcore
    refine ⟨_, quarantine_answers hs (State.quarantineRunDone_next hq hidle hsus hr), rfl, ?_, ?_, rfl⟩
    · exact (State.fld_setF_place _ _ (by decide)).trans hq
    · exact (State.keepsFields_of_regs rfl).trans (State.keepsFields_setF _ _ (by simp))
  · subst hcore
    exact quarantine_unattributed hs hn hq hidle hsus hr hstop

end Sys2Proof.Machine
end

section
/-! Gates and shapers (R320, R321, R323, R328, R329). -/

namespace Sys2Proof.Machine

variable {s t u : State} {n : Nat}

/-! ### Shapers -/

@[simp] theorem State.shaper_setShaper_same (s : State) (n : Nat) (x : Shaper) : (s.setShaper n x).shaper n = x := Tbl.getD_store_same _ _ _ _
theorem State.shaper_setShaper_ne (s : State) {n j : Nat} (x : Shaper) (h : j ≠ n) : (s.setShaper n x).shaper j = s.shaper j :=
  Tbl.getD_store_ne _ _ _ _ (Ne.symm h)

@[simp] theorem Shaper.fillTo_mode (x : Shaper) (t : Nat) : (x.fillTo t).mode = x.mode := by unfold Shaper.fillTo; split <;> rfl
@[simp] theorem Shaper.fillTo_cir (x : Shaper) (t : Nat) : (x.fillTo t).cir = x.cir := by unfold Shaper.fillTo; split <;> rfl
@[simp] theorem Shaper.fillTo_pir (x : Shaper) (t : Nat) : (x.fillTo t).pir = x.pir := by unfold Shaper.fillTo; split <;> rfl
@[simp] theorem Shaper.fillTo_cbs (x : Shaper) (t : Nat) : (x.fillTo t).cbs = x.cbs := by unfold Shaper.fillTo; split <;> rfl
@[simp] theorem Shaper.fillTo_pbs (x : Shaper) (t : Nat) : (x.fillTo t).pbs = x.pbs := by unfold Shaper.fillTo; split <;> rfl
@[simp] theorem Shaper.fillTo_filled (x : Shaper) (t : Nat) : (x.fillTo t).filled = t := by unfold Shaper.fillTo; split <;> rfl

theorem Shaper.fillTo_peak {x : Shaper} (h : x.mode ≠ 0) (t : Nat) : (x.fillTo t).peak = min (x.pbs * 10) (x.peak + x.pir * (t - x.filled)) := by
  rw [Shaper.fillTo, if_neg h]
theorem Shaper.fillTo_committed {x : Shaper} (h : x.mode ≠ 0) (t : Nat) :
    (x.fillTo t).committed = min (x.cbs * 10) (x.committed + x.cir * (t - x.filled)) := by
  rw [Shaper.fillTo, if_neg h]

theorem le_mul_ceilDiv {a k : Nat} (h : 0 < k) : a ≤ k * ceilDiv a k := by
  unfold ceilDiv
  have hmod := Nat.mod_lt (a + k - 1) h
  have hdiv := Nat.div_add_mod (a + k - 1) k
  omega

/-- Time goes on to the moment at which a bucket that is large enough holds what it needs. -/
theorem fill_reaches {need size level rate : Nat} (hr : 0 < rate) (hs : need ≤ size) :
    need ≤ min size (level + rate * ceilDiv (need - level) rate) := by
  have := le_mul_ceilDiv (a := need - level) hr
  omega

/-- The moment to which SHAPER_BUCKET_FILL goes on. -/
def State.fillMoment (s : State) (n : Nat) (committed : Bool) (bytes : Nat) : Nat :=
  let x := (s.shaper n).fillTo s.now
  s.now + if committed then (if x.cir = 0 then 0 else ceilDiv (bytes * 10 - x.committed) x.cir)
    else (if x.pir = 0 then 0 else ceilDiv (bytes * 10 - x.peak) x.pir)

theorem State.shaperFill_none {b : Bool} (h : (voqHeads s.sws.voq []).find? (fun q => shaperIndex q.ingress q.pkt.vc == n) = none) :
    s.shaperFill n b = s := by
  rw [State.shaperFill, h]

theorem State.shaperFill_head {b : Bool} {q : Queued}
    (h : (voqHeads s.sws.voq []).find? (fun q => shaperIndex q.ingress q.pkt.vc == n) = some q) :
    (s.shaperFill n b).shaper n = ((s.shaper n).fillTo s.now).fillTo (s.fillMoment n b q.pkt.bytes) ∧ (s.shaperFill n b).sws.voq = s.sws.voq ∧
      (s.shaperFill n b).regs = s.regs := by
  rw [State.shaperFill, h]
  refine ⟨?_, rfl, rfl⟩
  refine (State.shaper_setShaper_same _ _ _).trans ?_
  congr 1
  exact max_eq_right (Nat.le_add_right _ _)

theorem State.shaperFill_peak {q : Queued} (h : (voqHeads s.sws.voq []).find? (fun q => shaperIndex q.ingress q.pkt.vc == n) = some q)
    (hm : (s.shaper n).mode ≠ 0) (hr : 0 < (s.shaper n).pir) (hb : q.pkt.bytes ≤ (s.shaper n).pbs) :
    q.pkt.bytes * 10 ≤ ((s.shaperFill n false).shaper n).peak := by
  rw [(State.shaperFill_head h).1, Shaper.fillTo_peak (by simpa using hm), State.fillMoment]
  simp only [Shaper.fillTo_pbs, Shaper.fillTo_pir, Shaper.fillTo_filled, Bool.false_eq_true, if_false, Nat.add_sub_cancel_left,
    if_neg (Nat.pos_iff_ne_zero.mp hr)]
  exact fill_reaches hr (by omega)

theorem State.shaperFill_committed {q : Queued} (h : (voqHeads s.sws.voq []).find? (fun q => shaperIndex q.ingress q.pkt.vc == n) = some q)
    (hm : (s.shaper n).mode ≠ 0) (hr : 0 < (s.shaper n).cir) (hb : q.pkt.bytes ≤ (s.shaper n).cbs) :
    q.pkt.bytes * 10 ≤ ((s.shaperFill n true).shaper n).committed := by
  rw [(State.shaperFill_head h).1, Shaper.fillTo_committed (by simpa using hm), State.fillMoment]
  simp only [Shaper.fillTo_cbs, Shaper.fillTo_cir, Shaper.fillTo_filled, if_true, Nat.add_sub_cancel_left, if_neg (Nat.pos_iff_ne_zero.mp hr)]
  exact fill_reaches hr (by omega)

/-! ### The gate list -/

theorem State.gateNextEntry_lt (s : State) (h : s.gateLen ≤ 1024) : s.gateNextEntry < 2 ^ F.SWS_GATE_STATUS_ENTRY.width := by
  have : s.gateNextEntry < max 1 s.gateLen := Nat.mod_lt _ (by omega)
  have hw : 2 ^ F.SWS_GATE_STATUS_ENTRY.width = 1024 := rfl
  omega

/-- The next entry's gates may count late packets; that changes nothing else. -/
theorem State.countLate_frame (s : State) (a b : Nat) : ∃ r, s.countLate a b = { s with regs := r } ∧ s.keepsPlaces (s.countLate a b) [F.SWS_SCHED_LATE.place] := by
  unfold State.countLate
  split
  · exact ⟨_, rfl, s.keepsPlaces_setF _ _ (by simp)⟩
  · exact ⟨_, rfl, fun _ _ _ => rfl⟩

theorem gate_apart : ∀ i < 1024, (F.SWS_GATE_DURATION_NS.at i).place ≠ F.SWS_GATE_STATUS_ENTRY.place ∧
    (F.SWS_GATE_DURATION_NS.at i).place ∉ [F.SWS_SCHED_LATE.place] := by
  intro i hi
  simp [Fld.place, Fld.at, F.SWS_GATE_DURATION_NS, F.SWS_GATE_STATUS_ENTRY, F.SWS_SCHED_LATE]
  omega

theorem State.gateEntryBegin_spec (hg : s.gated = true) (hl : s.gateLen ≤ 1024) : s.gateEntryBegin.gateEntry = s.gateNextEntry ∧
    s.gateEntryBegin.sws.gateEnd = s.sws.gateEnd + s.fld (F.SWS_GATE_DURATION_NS.at s.gateNextEntry) ∧ s.gateEntryBegin.mem = s.mem := by
  have hlt := s.gateNextEntry_lt hl
  obtain ⟨hent, hlate⟩ := gate_apart _ hlt
  unfold State.gateEntryBegin
  rw [if_neg (by simp [hg])]
  dsimp only
  generalize ht : s.reach _ = t
  have hfld (f : Fld) : t.fld f = s.fld f := by rw [← ht]; rfl
  have hnext : t.gateNextEntry = s.gateNextEntry := by rw [← ht]; rfl
  have hsws : t.sws = s.sws := by rw [← ht]; rfl
  have hmem : t.mem = s.mem := by rw [← ht]; rfl
  rw [hnext]
  obtain ⟨r, hr, hkeeps⟩ := t.countLate_frame (t.gateMask t.gateEntry) (t.gateMask s.gateNextEntry)
  refine ⟨?_, ?_, ?_⟩
  · exact (State.fld_setF_same _ _ _ _).trans (Nat.mod_eq_of_lt hlt)
  · rw [State.fld_setF_place _ _ hent.symm, hkeeps _ _ hlate, hfld, ← hsws, hr]
    rfl
  · show (t.countLate _ _).mem = _
    rw [hr, ← hmem]

theorem State.holdoverExpiry_spec (h : s.fld F.SWS_GATE_STATUS_STATE = gHOLDOVER) : s.gateHoldoverExpiry.fld F.SWS_GATE_STATUS_STATE = gSUSPENDED ∧
    s.counted s.gateHoldoverExpiry F.SWS_GATE_STATUS_SUSPENSIONS ∧
    s.sws.holdoverFrom + s.fld F.SWS_GATE_CFG_HOLDOVER_MS * nsPerMs ≤ s.gateHoldoverExpiry.now ∧ s.gateHoldoverExpiry.sws = s.sws := by
  unfold State.gateHoldoverExpiry
  rw [if_pos h]
  dsimp only
  refine ⟨?_, ?_, ?_, ?_⟩
  · rw [State.fld_logErr _ _ (by decide), State.fld_count_ne _ _ (by decide), State.fld_setF_same]; rfl
  · rw [State.counted, State.fld_logErr _ _ (by decide), State.fld_count_same, State.fld_count_same, State.fld_setF_place _ _ (by decide)]; rfl
  · rw [State.logErr_now]; exact le_max_right _ _
  · rw [State.logErr_frame]; rfl

/-! ### APPLY and LOAD -/

/-- The staged values of a seat. -/
def State.staged (s : State) (b : Nat) : Shaper :=
  ⟨s.fld F.SWS_SHAPER_BURST_MODE b, s.fld F.SWS_SHAPER_RATE_CIR b, s.fld F.SWS_SHAPER_RATE_PIR b, s.fld F.SWS_SHAPER_BURST_CBS b,
    s.fld F.SWS_SHAPER_BURST_PBS b, 0, 0, 0⟩

/-- The verdict on staged values for a shaper. -/
def Shaper.check (c : Shaper) (n : Nat) : Status :=
  if c.mode = 3 then .badDescriptor else if !shaperRangesOk c.cir c.pir c.cbs c.pbs then .bounds
  else if c.mode = 2 ∧ !(64 ≤ n / 8 ∧ n / 8 ≤ 99) then .access else .done

/-- The verdict as its status shows it. -/
def State.shaperJudged (s : State) (b : Nat) (st : Status) : State :=
  (s.setF F.SWS_SHAPER_STATUS_STATUS st.code b).bumpSeq F.SWS_SHAPER_STATUS_SEQ b

theorem State.shaperApply_fails {x : SeatId} (h : (s.staged x.idx).check (s.fld F.SWS_SHAPER_SEL_SHAPER x.idx) ≠ .done) : s.shaperApply x =
    (s.shaperJudged x.idx ((s.staged x.idx).check (s.fld F.SWS_SHAPER_SEL_SHAPER x.idx))).setF F.SWS_SHAPER_STATUS_RESET 0 x.idx := by
  unfold State.shaperApply
  exact if_pos h

/-- What a shaper becomes under checked values, and which bucket effect is told. -/
def State.reshaped (s : State) (b : Nat) : Shaper × Nat :=
  ((s.shaper (s.fld F.SWS_SHAPER_SEL_SHAPER b)).fillTo s.now).apply s.now (s.staged b).mode (s.staged b).cir (s.staged b).pir (s.staged b).cbs
    (s.staged b).pbs

/-- A shaper under new values, its bucket effect told to the seat. -/
def State.shaperChanged (s : State) (b n : Nat) (r : Shaper × Nat) : State :=
  ((s.shaperJudged b .done).setShaper n r.1).setF F.SWS_SHAPER_STATUS_RESET r.2 b

theorem State.shaperApply_passes {x : SeatId} (h : (s.staged x.idx).check (s.fld F.SWS_SHAPER_SEL_SHAPER x.idx) = .done) :
    s.shaperApply x = s.shaperChanged x.idx (s.fld F.SWS_SHAPER_SEL_SHAPER x.idx) (s.reshaped x.idx) := by
  unfold State.shaperApply
  refine (if_neg (fun e => e h)).trans ?_
  have hst (st : Status) (e : st = .done) : ((s.shaperJudged x.idx st).setShaper (s.fld F.SWS_SHAPER_SEL_SHAPER x.idx) (s.reshaped x.idx).1).setF
      F.SWS_SHAPER_STATUS_RESET (s.reshaped x.idx).2 x.idx =
        s.shaperChanged x.idx (s.fld F.SWS_SHAPER_SEL_SHAPER x.idx) (s.reshaped x.idx) := by rw [e]; rfl
  exact hst _ h

theorem Shaper.apply_values (x : Shaper) (now mode cir pir cbs pbs : Nat) :
    (x.apply now mode cir pir cbs pbs).1.mode = mode ∧ (x.apply now mode cir pir cbs pbs).1.cir = cir ∧
      (x.apply now mode cir pir cbs pbs).1.pir = pir ∧ (x.apply now mode cir pir cbs pbs).1.cbs = cbs ∧
      (x.apply now mode cir pir cbs pbs).1.pbs = pbs := by
  unfold Shaper.apply
  dsimp only
  split
  case isTrue h => simpa using h
  case isFalse =>
    split
    · exact ⟨rfl, rfl, rfl, rfl, rfl⟩
    · exact ⟨rfl, rfl, rfl, rfl, rfl⟩

/-- A shaper that is switched on starts full. -/
theorem Shaper.apply_on {x : Shaper} (now : Nat) {mode : Nat} (cir pir cbs pbs : Nat) (h : x.mode = 0) (hm : mode ≠ 0) :
    x.apply now mode cir pir cbs pbs = (⟨mode, cir, pir, cbs, pbs, cbs * 10, pbs * 10, now⟩, 2) := by
  simp [Shaper.apply, h, hm, Ne.symm hm]

/-- One whose mode changes otherwise starts empty. -/
theorem Shaper.apply_change {x : Shaper} (now : Nat) {mode : Nat} (cir pir cbs pbs : Nat) (h : x.mode ≠ 0) (hm : x.mode ≠ mode) :
    x.apply now mode cir pir cbs pbs = (⟨mode, cir, pir, cbs, pbs, 0, 0, now⟩, 1) := by
  simp [Shaper.apply, h, hm]

/-- Of two seats' STATUS and RESET fields, those of the seat named. -/
theorem shaperStatus_apart : F.SWS_SHAPER_STATUS_STATUS.place ≠ F.SWS_SHAPER_STATUS_SEQ.place ∧
    F.SWS_SHAPER_STATUS_STATUS.place ≠ F.SWS_SHAPER_STATUS_RESET.place := by decide

theorem State.shaperJudged_status (s : State) (x : SeatId) (st : Status) :
    (s.shaperJudged x.idx st).fld F.SWS_SHAPER_STATUS_STATUS x.idx = st.code := by
  unfold State.shaperJudged
  rw [State.fld_bumpSeq_ne _ (by cases x <;> decide), State.fld_setF_same]
  exact Nat.mod_eq_of_lt st.code_lt

theorem State.shaperApply_failing {x : SeatId} {st : Status} (hst : st ≠ .done)
    (h : (s.staged x.idx).check (s.fld F.SWS_SHAPER_SEL_SHAPER x.idx) = st) :
    (s.shaperApply x).fld F.SWS_SHAPER_STATUS_STATUS x.idx = st.code ∧ (s.shaperApply x).fld F.SWS_SHAPER_STATUS_RESET x.idx = 0 ∧
      (s.shaperApply x).sws = s.sws ∧ (s.shaperApply x).ctl = s.ctl := by
  rw [State.shaperApply_fails (by rwa [h]), h]
  refine ⟨?_, State.fld_setF_same _ _ _ _, rfl, rfl⟩
  rw [State.fld_setF_place _ _ (by decide), State.shaperJudged_status]

theorem State.shaperChanged_spec (s : State) (x : SeatId) (n : Nat) (r : Shaper × Nat) :
    (s.shaperChanged x.idx n r).fld F.SWS_SHAPER_STATUS_STATUS x.idx = 0 ∧
      (r.2 < 4 → (s.shaperChanged x.idx n r).fld F.SWS_SHAPER_STATUS_RESET x.idx = r.2) ∧ (s.shaperChanged x.idx n r).shaper n = r.1 ∧
      ∀ j, j ≠ n → (s.shaperChanged x.idx n r).shaper j = s.shaper j := by
  refine ⟨?_, fun hr => (State.fld_setF_same _ _ _ _).trans (Nat.mod_eq_of_lt hr), State.shaper_setShaper_same _ _ _,
    fun j hj => State.shaper_setShaper_ne _ _ hj⟩
  unfold State.shaperChanged
  rw [State.fld_setF_place _ _ (by decide)]
  exact s.shaperJudged_status x .done

/-- What LOAD shows. -/
theorem State.shaperLoad_shows (s : State) (x : SeatId) (c : Shaper) (hc : s.shaper (s.fld F.SWS_SHAPER_SEL_SHAPER x.idx) = c) :
    (s.shaperLoad x).fld F.SWS_SHAPER_BURST_MODE x.idx = c.mode % 4 ∧ (s.shaperLoad x).fld F.SWS_SHAPER_RATE_CIR x.idx = c.cir % 2 ^ 16 ∧
      (s.shaperLoad x).fld F.SWS_SHAPER_RATE_PIR x.idx = c.pir % 2 ^ 16 ∧ (s.shaperLoad x).fld F.SWS_SHAPER_BURST_CBS x.idx = c.cbs % 2 ^ 24 ∧
      (s.shaperLoad x).fld F.SWS_SHAPER_BURST_PBS x.idx = c.pbs % 2 ^ 24 ∧ (s.shaperLoad x).sws = s.sws ∧ (s.shaperLoad x).ctl = s.ctl := by
  subst hc
  refine ⟨?_, ?_, ?_, ?_, State.fld_setF_same _ _ _ _, rfl, rfl⟩
  · exact (State.fld_setF_place _ _ (by decide)).trans ((State.fld_setF_place _ _ (by decide)).trans (State.fld_setF_same _ _ _ _))
  · exact (State.fld_setF_place _ _ (by decide)).trans ((State.fld_setF_place _ _ (by decide)).trans ((State.fld_setF_place _ _ (by decide)).trans
      ((State.fld_setF_place _ _ (by decide)).trans (State.fld_setF_same _ _ _ _))))
  · exact (State.fld_setF_place _ _ (by decide)).trans ((State.fld_setF_place _ _ (by decide)).trans ((State.fld_setF_place _ _ (by decide)).trans
      (State.fld_setF_same _ _ _ _)))
  · exact (State.fld_setF_place _ _ (by decide)).trans (State.fld_setF_same _ _ _ _)

/-! ### The commands -/

theorem State.serves_nil {l : List Nat} (h : s.serves l = true) : s.serves [] = true := by
  rw [State.serves, Bool.and_eq_true] at h
  rw [State.serves, h.1]; rfl

theorem State.fld_noteWrite (s : State) (x : SeatId) (off : Nat) {f : Fld} {b : Nat} (h : f.key b ∉ collideKeys) :
    (s.noteWrite x off).fld f b = s.fld f b := s.noteWrite_keepsFields x off f b h
@[simp] theorem State.noteWrite_sws (s : State) (x : SeatId) (off : Nat) : (s.noteWrite x off).sws = s.sws := by rw [State.noteWrite_frame]
@[simp] theorem State.asked_sws (s : State) (ch : ChanId) : (s.asked ch).sws = s.sws := by obtain ⟨a, b, h⟩ := s.asked_eq ch; rw [h]
@[simp] theorem State.asked_shaper (s : State) (ch : ChanId) (n : Nat) : (s.asked ch).shaper n = s.shaper n := by simp [State.shaper]
@[simp] theorem State.asked_now (s : State) (ch : ChanId) : (s.asked ch).now = s.now := by obtain ⟨a, b, h⟩ := s.asked_eq ch; rw [h]
@[simp] theorem State.asked_staged (s : State) (ch : ChanId) (b : Nat) : (s.asked ch).staged b = s.staged b := by simp [State.staged]
@[simp] theorem State.noteWrite_shaper (s : State) (x : SeatId) (off n : Nat) : (s.noteWrite x off).shaper n = s.shaper n := by simp [State.shaper]

theorem shaperFields_noted {x : SeatId} {f : Fld} (h : f ∈ [F.SWS_SHAPER_STATUS_STATUS, F.SWS_SHAPER_STATUS_RESET, F.SWS_SHAPER_BURST_MODE,
    F.SWS_SHAPER_RATE_CIR, F.SWS_SHAPER_RATE_PIR, F.SWS_SHAPER_BURST_CBS, F.SWS_SHAPER_BURST_PBS]) : f.key x.idx ∉ collideKeys := by
  revert f; cases x <;> decide

section Commands
variable {ch : ChanId} {m : Nat} {x : SeatId}

/-- A write of the shaper's command register by the holder of semaphore 0. -/
theorem shaperCommand_answers {c : Instr} {f : SeatId → Nat → State → State} (hc : exec c s = s.run [] (fun s => s.asHolder ch 0xE0218 0 f))
    (h : s.guardedBy ch m x 0) (hf : f x m (s.asked ch) = t) (hr : t.ctl = (s.asked ch).ctl) : ∃ u, Answers c s u ∧ u.sws = t.sws ∧
      ∀ g, g ∈ [F.SWS_SHAPER_STATUS_STATUS, F.SWS_SHAPER_STATUS_RESET, F.SWS_SHAPER_BURST_MODE, F.SWS_SHAPER_RATE_CIR, F.SWS_SHAPER_RATE_PIR,
        F.SWS_SHAPER_BURST_CBS, F.SWS_SHAPER_BURST_PBS] → u.fld g x.idx = t.fld g x.idx :=
  ⟨_, holder_performsNow hc h hf (by rw [hr, State.asked_refused]) (by decide), State.noteWrite_sws _ _ _,
    fun _ hg => State.fld_noteWrite _ _ _ (shaperFields_noted hg)⟩

/-- Values that fail their check set the status alone. -/
theorem shaperApply_refuses {st : Status} (h : s.guardedBy ch m x 0) (hst : st ≠ .done)
    (hchk : (s.staged x.idx).check (s.fld F.SWS_SHAPER_SEL_SHAPER x.idx) = st) :
    ∃ u, Answers (.shaperApply ch) s u ∧ u.fld F.SWS_SHAPER_STATUS_STATUS x.idx = st.code ∧ u.fld F.SWS_SHAPER_STATUS_RESET x.idx = 0 ∧
      u.sws = s.sws := by
  obtain ⟨hstatus, hreset, hsws, hctl⟩ := State.shaperApply_failing (s := s.asked ch) (x := x) hst (by simpa using hchk)
  obtain ⟨u, ha, hu, hfld⟩ := shaperCommand_answers (exec_shaperApply s ch) h rfl hctl
  exact ⟨u, ha, (hfld _ (by simp)).trans hstatus, (hfld _ (by simp)).trans hreset, hu.trans (hsws.trans (s.asked_sws ch))⟩

/-- Checked values are in force, and the bucket effect is told. -/
theorem shaperApply_applies (h : s.guardedBy ch m x 0) (hn : n = s.fld F.SWS_SHAPER_SEL_SHAPER x.idx) (hchk : (s.staged x.idx).check n = .done) :
    ∃ u, Answers (.shaperApply ch) s u ∧ u.fld F.SWS_SHAPER_STATUS_STATUS x.idx = 0 ∧ u.shaper n = (s.reshaped x.idx).1 ∧
      (∀ j, j ≠ n → u.shaper j = s.shaper j) ∧ ((s.reshaped x.idx).2 < 4 → u.fld F.SWS_SHAPER_STATUS_RESET x.idx = (s.reshaped x.idx).2) := by
  subst hn
  have hre : (s.asked ch).reshaped x.idx = s.reshaped x.idx := by simp [State.reshaped]
  have happ := State.shaperApply_passes (s := s.asked ch) (x := x) (by simpa using hchk)
  rw [hre, State.asked_fld] at happ
  obtain ⟨hst, hreset, hsame, hothers⟩ := (s.asked ch).shaperChanged_spec x (s.fld F.SWS_SHAPER_SEL_SHAPER x.idx) (s.reshaped x.idx)
  obtain ⟨u, ha, hu, hfld⟩ := shaperCommand_answers (exec_shaperApply s ch) h happ rfl
  have hshaper (j : Nat) : u.shaper j = ((s.asked ch).shaperChanged x.idx (s.fld F.SWS_SHAPER_SEL_SHAPER x.idx) (s.reshaped x.idx)).shaper j := by
    rw [State.shaper, hu]; rfl
  exact ⟨u, ha, (hfld _ (by simp)).trans hst, (hshaper _).trans hsame,
    fun j hj => (hshaper j).trans ((hothers j hj).trans (s.asked_shaper ch j)), fun hlt => (hfld _ (by simp)).trans (hreset hlt)⟩

theorem shaperLoad_loads (h : s.guardedBy ch m x 0) {c : Shaper} (hc : s.shaper (s.fld F.SWS_SHAPER_SEL_SHAPER x.idx) = c) :
    ∃ u, Answers (.shaperLoad ch) s u ∧ u.sws = s.sws ∧ u.fld F.SWS_SHAPER_BURST_MODE x.idx = c.mode % 4 ∧
      u.fld F.SWS_SHAPER_RATE_CIR x.idx = c.cir % 2 ^ 16 ∧ u.fld F.SWS_SHAPER_RATE_PIR x.idx = c.pir % 2 ^ 16 ∧
      u.fld F.SWS_SHAPER_BURST_CBS x.idx = c.cbs % 2 ^ 24 ∧ u.fld F.SWS_SHAPER_BURST_PBS x.idx = c.pbs % 2 ^ 24 := by
  obtain ⟨hmode, hcir, hpir, hcbs, hpbs, hsws, hctl⟩ := (s.asked ch).shaperLoad_shows x c (by simpa using hc)
  obtain ⟨u, ha, hu, hfld⟩ := shaperCommand_answers (exec_shaperLoad s ch) h rfl hctl
  exact ⟨u, ha, hu.trans (hsws.trans (s.asked_sws ch)), (hfld _ (by simp)).trans hmode, (hfld _ (by simp)).trans hcir, (hfld _ (by simp)).trans hpir,
    (hfld _ (by simp)).trans hcbs, (hfld _ (by simp)).trans hpbs⟩

/-- A seat without the semaphore is refused. -/
theorem shaperCommand_unguarded {c : Instr} {f : SeatId → Nat → State → State}
    (hc : exec c s = s.run [] (fun s => s.asHolder ch 0xE0218 0 f)) (h : s.unguarded ch m x 0) :
    ∃ u, Answers c s u ∧ (s.touch ch).reports u x m 0xE0218 .semNotHeld :=
  ⟨_, answers_of_run hc h.1.1, by rw [State.asHolder_unguarded h, State.seatErr_asked]; exact State.seatErr_reports _ _ _ _ _⟩

end Commands

theorem State.staged_check_ranges {c : Shaper} (hm : c.mode ≠ 3) (hr : shaperRangesOk c.cir c.pir c.cbs c.pbs = false) :
    c.check n = .bounds := by simp [Shaper.check, hm, hr]
theorem State.staged_check_port {c : Shaper} (hm : c.mode = 2) (hr : shaperRangesOk c.cir c.pir c.cbs c.pbs = true)
    (hp : ¬(64 ≤ n / 8 ∧ n / 8 ≤ 99)) : c.check n = .access := by
  simp only [Shaper.check, hm, hr]
  simp [hp]
theorem State.staged_check_done {c : Shaper} (hm : c.mode ≤ 2) (hr : shaperRangesOk c.cir c.pir c.cbs c.pbs = true)
    (hp : c.mode = 2 → 64 ≤ n / 8 ∧ n / 8 ≤ 99) : c.check n = .done := by
  have h3 : c.mode ≠ 3 := by omega
  simp only [Shaper.check, h3, hr, if_false]
  simpa using hp

/-- Settles O31: the gates, holdover and the shaper each by the lemma that says what it does. -/
theorem gatesAndShapers : Obligations.GatesAndShapers := by
  intro s ch m n b x c q
  refine ⟨fun hs => ⟨fun hg hl => ?_, fun hg => ?_, fun hh => ?_, fun hh => ?_, fun hq => ?_, fun hq hm => ⟨fun hr hb => ?_, fun hr hb => ?_⟩⟩, ?_⟩
  · exact ⟨_, core_answers (exec_gateEntryBegin s) hs rfl, State.gateEntryBegin_spec hg hl⟩
  · exact core_answers (exec_gateEntryBegin s) hs (by simp [State.gateEntryBegin, hg])
  · exact ⟨_, core_answers (exec_gateHoldoverExpiry s) (State.serves_nil hs) rfl, State.holdoverExpiry_spec hh⟩
  · exact core_answers (exec_gateHoldoverExpiry s) (State.serves_nil hs) (by rw [State.gateHoldoverExpiry, if_neg hh])
  · exact core_answers (exec_shaperBucketFill s n false) hs (State.shaperFill_none hq)
  · exact ⟨_, core_answers (exec_shaperBucketFill s n false) hs rfl, State.shaperFill_peak hq hm hr hb, (State.shaperFill_head hq).2⟩
  · exact ⟨_, core_answers (exec_shaperBucketFill s n true) hs rfl, State.shaperFill_committed hq hm hr hb, (State.shaperFill_head hq).2⟩
  · rintro rfl rfl hc
    replace hc : c = s.staged x.idx := hc
    subst hc
    refine ⟨fun hg => ⟨fun hm => ?_, fun hm hr => ?_, fun hm hr hp => ?_, fun hm hr hp => ?_, shaperLoad_loads hg rfl⟩, fun hu i hi => ?_⟩
    · exact shaperApply_refuses hg (by decide) (if_pos hm)
    · obtain ⟨u, ha, hst, -, hsws⟩ := shaperApply_refuses hg (by decide) (State.staged_check_ranges hm hr)
      exact ⟨u, ha, hst, hsws⟩
    · obtain ⟨u, ha, hst, -, hsws⟩ := shaperApply_refuses hg (by decide) (State.staged_check_port hm hr hp)
      exact ⟨u, ha, hst, hsws⟩
    · obtain ⟨u, ha, hst, hsh, hothers, hreset⟩ := shaperApply_applies hg rfl (State.staged_check_done hm hr hp)
      obtain ⟨hmode, hcir, hpir, hcbs, hpbs⟩ := Shaper.apply_values ((s.shaper (s.fld F.SWS_SHAPER_SEL_SHAPER x.idx)).fillTo s.now) s.now
        (s.staged x.idx).mode (s.staged x.idx).cir (s.staged x.idx).pir (s.staged x.idx).cbs (s.staged x.idx).pbs
      rw [← State.reshaped, ← hsh] at hmode hcir hpir hcbs hpbs
      refine ⟨u, ha, hst, hmode, hcir, hpir, hcbs, hpbs, hothers, fun hoff hon => ?_, fun hon hne => ?_⟩
      · have he : s.reshaped x.idx = _ := Shaper.apply_on s.now (s.staged x.idx).cir (s.staged x.idx).pir (s.staged x.idx).cbs
          (s.staged x.idx).pbs (by simpa using hoff) hon
        rw [hsh, hreset (by rw [he]; norm_num), he]
        exact ⟨rfl, rfl, rfl⟩
      · have he : s.reshaped x.idx = _ := Shaper.apply_change s.now (s.staged x.idx).cir (s.staged x.idx).pir (s.staged x.idx).cbs
          (s.staged x.idx).pbs (by simpa using hon) (by simpa using hne)
        rw [hsh, hreset (by rw [he]; norm_num), he]
        exact ⟨rfl, rfl, rfl⟩
    · rcases List.mem_pair.mp hi with rfl | rfl
      · exact shaperCommand_unguarded (exec_shaperApply s ch) hu
      · exact shaperCommand_unguarded (exec_shaperLoad s ch) hu

end Sys2Proof.Machine
end

section
/-! The input and the board's reset contact (R440, R462). -/

namespace Sys2Proof.Machine

variable {s t u : State}

/-! ### Frames -/

theorem where_answers {c : Instr} {ok : Bool} {g : State → State} (hc : exec c s = s.where_ ok g) (hok : ok = true) (hg : g s = t) :
    Answers c s t := by
  rw [Answers, hc, State.where_, if_pos hok, hg]

/-- A fold of steps that each change the registers and the state of power alone. -/
theorem State.foldl_power {α : Type} {f : State → α → State} (hf : ∀ t a, ∃ r p, f t a = { t with regs := r, pwr := p }) (l : List α) (s : State) :
    ∃ r p, l.foldl f s = { s with regs := r, pwr := p } := by
  induction l generalizing s with
  | nil => exact ⟨_, _, rfl⟩
  | cons a l ih =>
    obtain ⟨r, p, h⟩ := hf s a
    obtain ⟨r', p', h'⟩ := ih (f s a)
    exact ⟨r', p', by rw [List.foldl_cons, h', h]⟩

theorem State.setIsland_regs (s : State) (n st : Nat) : ∃ r, s.setIsland n st = { s with regs := r } := by
  unfold State.setIsland
  split
  · exact ⟨_, rfl⟩
  · exact ⟨_, rfl⟩

theorem State.withdrawWake_power (s : State) (n : Nat) : ∃ r p, s.withdrawWake n = { s with regs := r, pwr := p } := by
  unfold State.withdrawWake
  split
  · obtain ⟨r, h⟩ := s.setIsland_regs n isOFF
    rw [h]
    exact ⟨_, _, rfl⟩
  · exact ⟨_, _, rfl⟩

theorem State.islandsOff_power (s : State) : ∃ r p, s.islandsOff = { s with regs := r, pwr := p } := by
  obtain ⟨r, p, h⟩ := State.foldl_power (f := fun s k => (s.withdrawWake (k + 1)).setIsland (k + 1) isOFF) (fun t k => by
    obtain ⟨r, p, h⟩ := t.withdrawWake_power (k + 1)
    obtain ⟨r', h'⟩ := State.setIsland_regs (t.withdrawWake (k + 1)) (k + 1) isOFF
    exact ⟨r', p, by rw [h', h]⟩) (List.range 24) s.partsOff
  exact ⟨r, p, h⟩

/-! ### The states of the islands -/

theorem islandState_apart {i j : Nat} (h : i ≠ j) (hi : i < 24) (hj : j < 24) : (F.PWR_ISLAND_STATE.at i).place ≠ (F.PWR_ISLAND_STATE.at j).place := by
  simp only [Fld.place, Fld.at, F.PWR_ISLAND_STATE]
  omega

theorem State.islandState_at (s : State) {n : Nat} (h : n < 24) : s.islandState (n + 1) = s.fld (F.PWR_ISLAND_STATE.at n) := by
  rw [State.islandState, if_neg (by omega)]; rfl

theorem State.islandState_setIsland_same (s : State) {n st : Nat} (h : n < 24) (hst : st < 8) : (s.setIsland (n + 1) st).islandState (n + 1) = st := by
  rw [State.islandState_at _ h, State.setIsland, if_neg (by omega)]
  exact (State.fld_setF_same _ _ _ _).trans (Nat.mod_eq_of_lt hst)

theorem State.islandState_setIsland_ne (s : State) {n m st : Nat} (h : m < 24) (hn : n < 24) (hne : n ≠ m) :
    (s.setIsland (n + 1) st).islandState (m + 1) = s.islandState (m + 1) := by
  rw [State.islandState_at _ h, State.islandState_at _ h, State.setIsland, if_neg (by omega)]
  exact State.fld_setF_place _ _ (islandState_apart hne hn h)

/-- The registers of the governor are not those of an island. -/
theorem islandState_gov : ∀ n < 24, (F.PWR_ISLAND_STATE.at n).place ∉ [F.PWR_GOV_PENDING.place, F.PWR_GOV_WINDOW_CA.place] := by decide

theorem State.islandState_showGov (s : State) {m : Nat} (h : m < 24) : s.showGov.islandState (m + 1) = s.islandState (m + 1) := by
  rw [State.islandState_at _ h, State.islandState_at _ h]
  have hp := islandState_gov m h
  simp only [List.mem_cons, List.not_mem_nil, or_false, not_or] at hp
  exact (State.fld_setF_place _ _ (Ne.symm hp.2)).trans (State.fld_setF_place _ _ (Ne.symm hp.1))

/-- Withdrawing an island's wakes leaves the states of the others. -/
theorem State.islandState_withdrawWake (s : State) {n m : Nat} (h : m < 24) (hn : n < 24) (hne : n ≠ m) :
    (s.withdrawWake (n + 1)).islandState (m + 1) = s.islandState (m + 1) := by
  unfold State.withdrawWake
  dsimp only
  rw [State.islandState_showGov _ h]
  split
  · exact s.islandState_setIsland_ne h hn hne
  · rfl

/-- After the islands below a number are switched off, each of them is OFF. -/
theorem State.islandsOff_below (s : State) {k m : Nat} (hk : k ≤ 24) (hm : m < k) :
    ((List.range k).foldl (fun s k => (s.withdrawWake (k + 1)).setIsland (k + 1) isOFF) s).islandState (m + 1) = isOFF := by
  induction k with
  | zero => omega
  | succ k ih =>
    rw [List.range_succ, List.foldl_append]
    simp only [List.foldl_cons, List.foldl_nil]
    by_cases he : k = m
    · subst he; exact State.islandState_setIsland_same _ (by omega) (by decide)
    · rw [State.islandState_setIsland_ne _ (by omega) (by omega) he, State.islandState_withdrawWake _ (by omega) (by omega) he]
      exact ih (by omega) (by omega)

theorem State.islandsOff_off (s : State) {n : Nat} (h1 : 1 ≤ n) (h : n ≤ 24) : s.islandsOff.islandState n = isOFF := by
  obtain ⟨m, rfl⟩ := Nat.exists_eq_add_of_le' h1
  exact State.islandsOff_below _ (le_refl 24) (by omega)

theorem State.islandState_congr (h : u.regs = s.regs) (n : Nat) : u.islandState n = s.islandState n := by
  unfold State.islandState
  split
  · rfl
  · exact State.fld_congr h _ _

/-! ### The input -/

theorem State.inputDip_spec (s : State) (mv : Nat) :
    s.counted (s.inputDip mv) F.PWR_INPUT_DIPS ∧ s.onlyFields (s.inputDip mv) [F.PWR_INPUT_DIPS.key 0, F.PWR_PEAK_MIN_VIN_MV.key 0] := by
  have hcount : s.keepsFields (s.count F.PWR_INPUT_DIPS) [F.PWR_INPUT_DIPS.key 0, F.PWR_PEAK_MIN_VIN_MV.key 0] := s.keepsFields_setF _ (by simp)
  unfold State.inputDip
  dsimp only
  split
  · exact ⟨State.fld_setF_place _ _ (by decide), rfl, hcount.trans (State.keepsFields_setF _ _ (by simp))⟩
  · exact ⟨rfl, rfl, hcount⟩

theorem State.inputHigh_spec (s : State) {mv : Nat} (h60 : 60000 < mv) (h62 : mv ≤ 62000) : (s.inputHigh mv).fld F.PWR_INPUT_VIN_MV = mv ∧
    (s.inputHigh mv).mem = s.mem ∧ (s.inputHigh mv).works = s.works ∧ ∃ e ∈ (s.inputHigh mv).ras.log, e.2.unit = .pwr ∧ e.2.status = .internal ∧
      (s.ras.recent = [] → e.2.syndrome = mv) := by
  obtain ⟨e, he, hunit, hstatus, -, hsyn⟩ := (s.setF F.PWR_INPUT_VIN_MV mv).logErr_record { unit := .pwr, status := .internal, syndrome := mv }
  rw [State.inputHigh, if_neg (by omega)]
  refine ⟨?_, State.logErr_mem _ _, ?_, e, he, hunit, hstatus, fun hr => (hsyn hr).2⟩
  · rw [State.fld_logErr _ _ (by decide), State.fld_setF_same]
    exact Nat.mod_eq_of_lt (by have hw : (2 : Nat) ^ F.PWR_INPUT_VIN_MV.width = 65536 := rfl; omega)
  · rw [State.logErr_frame]; rfl

/-- What of memory lies in T3 is what the loss of the input leaves. -/
theorem State.inputLoss_mem (s : State) {mv ns : Nat} (h : (mv < 40000 ∧ nsPerMs < ns) ∨ (62000 < mv ∧ 100 * nsPerUs < ns)) (e : Nat × Byte) :
    e ∈ (s.inputLoss mv ns).mem.bytes ↔ e ∈ s.mem.bytes ∧ e.1 / 2 ^ 56 = 2 := by
  rw [State.inputLoss, if_neg (not_not.mpr h)]
  refine List.mem_filter.trans ?_
  simp

theorem State.inputLoss_lost (s : State) {mv ns : Nat} (h : (mv < 40000 ∧ nsPerMs < ns) ∨ (62000 < mv ∧ 100 * nsPerUs < ns)) :
    (s.inputLoss mv ns).pwr.on = false ∧ (s.inputLoss mv ns).ras.log = [] ∧ (s.inputLoss mv ns).regs = State.reset.regs ∧
      (s.inputLoss mv ns).ctl.entries = [] ∧ (s.inputLoss mv ns).works = [] ∧ (s.inputLoss mv ns).sec.keys = [] ∧
      (s.inputLoss mv ns).sil.nor = s.sil.nor ∧ (s.inputLoss mv ns).sec.slot0 = s.sec.slot0 ∧ (s.inputLoss mv ns).sec.helper = s.sec.helper := by
  rw [State.inputLoss, if_neg (not_not.mpr h)]
  exact ⟨rfl, rfl, rfl, rfl, rfl, rfl, rfl, rfl, rfl⟩

/-! ### The reset contact -/

/-- A fold of steps that each change neither the works nor the bindings. -/
theorem State.foldl_works {α : Type} {f : State → α → State} (hf : ∀ t a, (f t a).works = t.works) (l : List α) (s : State) :
    (l.foldl f s).works = s.works := by
  induction l generalizing s with
  | nil => rfl
  | cons a l ih => exact (ih (f s a)).trans (hf s a)

theorem State.clearSeats_works (s : State) : s.clearSeats.works = s.works := by
  unfold State.clearSeats
  dsimp only
  generalize List.range 64 = l
  refine State.foldl_works ?_ l s
  intro _ _
  rfl

theorem State.freshCores_works (l : List Nat) (s : State) : (l.foldl State.freshCore s).works = s.works :=
  State.foldl_works (f := State.freshCore) (fun _ _ => rfl) l s

theorem State.dropVolatile_works (s : State) : s.dropVolatile.works = [] := by
  unfold State.dropVolatile
  dsimp only
  generalize List.range 16 = l
  rw [State.freshCores_works]
  rfl

theorem State.clearSeats_entries (s : State) : s.clearSeats.ctl.entries = [] := by unfold State.clearSeats; rfl

theorem State.stopAll_gone (s : State) : s.stopAll.works = [] ∧ s.stopAll.ctl.entries = [] := by
  unfold State.stopAll
  exact ⟨(State.clearSeats_works _).trans (State.dropVolatile_works _), State.clearSeats_entries _⟩

/-- What a cold reset does once all work has stopped. -/
def State.coldStop (t : State) (f : Nat → Nat → Bool) : State :=
  let s := ((t.secReset.keepRegs f).setF F.TST_STATE_ACCESS 3).islandsOff
  { s with tst := resetTst, pwr.testing := [], pwr.refWait := false, pwr.floorMs := 0, pwr.floorRecorded := false }

theorem State.coldReset_eq (s : State) (memory : Bool) : s.coldReset memory =
    (if memory then s.stopAll else s.stopAll.loseMemory).coldStop (fun off lo => keptByL5 off lo || (memory && withMemory off)) := by
  unfold State.coldReset State.coldStop
  rfl

theorem State.coldStop_gone (f : Nat → Nat → Bool) (h : t.works = [] ∧ t.ctl.entries = []) :
    (t.coldStop f).works = [] ∧ (t.coldStop f).ctl.entries = [] := by
  obtain ⟨r, p, hp⟩ := ((t.secReset.keepRegs f).setF F.TST_STATE_ACCESS 3).islandsOff_power
  unfold State.coldStop
  rw [hp]
  exact h

theorem State.loseMemory_gone (h : t.works = [] ∧ t.ctl.entries = []) : t.loseMemory.works = [] ∧ t.loseMemory.ctl.entries = [] := h

theorem State.coldReset_gone (s : State) (memory : Bool) : (s.coldReset memory).works = [] ∧ (s.coldReset memory).ctl.entries = [] := by
  rw [s.coldReset_eq]
  cases memory
  · exact State.coldStop_gone _ (State.loseMemory_gone s.stopAll_gone)
  · exact State.coldStop_gone _ s.stopAll_gone

theorem State.coldStop_off (t : State) (f : Nat → Nat → Bool) {n : Nat} (h1 : 1 ≤ n) (h : n ≤ 24) : (t.coldStop f).islandState n = isOFF := by
  have hregs : (t.coldStop f).regs = ((t.secReset.keepRegs f).setF F.TST_STATE_ACCESS 3).islandsOff.regs := by
    unfold State.coldStop
    dsimp only
  exact (State.islandState_congr hregs n).trans (State.islandsOff_off _ h1 h)

theorem State.coldReset_off (s : State) (memory : Bool) {n : Nat} (h1 : 1 ≤ n) (h : n ≤ 24) : (s.coldReset memory).islandState n = isOFF := by
  rw [s.coldReset_eq]
  exact State.coldStop_off _ _ h1 h

/-- The fields that are set after a cold reset are no island's. -/
theorem islandState_start : ∀ n < 24, (F.PWR_ISLAND_STATE.at n).place ∉ [F.RAS_RESET_CAUSE_CAUSE.place, F.RAS_RESET_CAUSE_DEDUP_LOST.place,
    F.TST_PINS_RST_N.place, F.RAS_RESET_STATUS_RUNNING.place] := by decide

/-- What the contact orders after the cold reset. -/
def State.contactReset (c : State) : State :=
  ({ (c.startCause 3 true).setF F.TST_PINS_RST_N 0 with
     ras.running := [], ctl.i3cAddr := none, ctl.i3cReply := none, ctl.i3cEvents := 0 } : State).showResets

theorem State.boardReset_long (s : State) {ns : Nat} (h : 2 * nsPerUs ≤ ns) : s.boardReset ns = (s.coldReset false).contactReset := by
  unfold State.boardReset
  exact if_neg (by omega)

/-- The fields it leaves are those it sets, and the cold reset's. -/
theorem State.contactReset_fld (c : State) {f : Fld} {b : Nat} (h : F.RAS_RESET_STATUS_RUNNING.place ≠ f.place) : c.contactReset.fld f b =
    (((c.setF F.RAS_RESET_CAUSE_CAUSE 3).setF F.RAS_RESET_CAUSE_DEDUP_LOST 1).setF F.TST_PINS_RST_N 0).fld f b :=
  (State.fld_setF_place _ _ h).trans (State.fld_congr rfl _ _)

theorem State.contactReset_fields (c : State) : c.contactReset.fld F.TST_PINS_RST_N = 0 ∧ c.contactReset.fld F.RAS_RESET_CAUSE_CAUSE = 3 ∧
    c.contactReset.fld F.RAS_RESET_CAUSE_DEDUP_LOST = 1 := by
  refine ⟨?_, ?_, ?_⟩
  · rw [State.contactReset_fld _ (by decide), State.fld_setF_same]; rfl
  · rw [State.contactReset_fld _ (by decide), State.fld_setF_place _ _ (by decide), State.fld_setF_place _ _ (by decide), State.fld_setF_same]; rfl
  · rw [State.contactReset_fld _ (by decide), State.fld_setF_place _ _ (by decide), State.fld_setF_same]; rfl

theorem State.contactReset_islandState (c : State) {m : Nat} (h : m < 24) : c.contactReset.islandState (m + 1) = c.islandState (m + 1) := by
  have hp := islandState_start m h
  simp only [List.mem_cons, List.not_mem_nil, or_false, not_or] at hp
  obtain ⟨hcause, hlost, hpin, hrun⟩ := hp
  rw [State.islandState_at _ h, State.islandState_at _ h, State.contactReset_fld _ (Ne.symm hrun), State.fld_setF_place _ _ (Ne.symm hpin),
    State.fld_setF_place _ _ (Ne.symm hlost), State.fld_setF_place _ _ (Ne.symm hcause)]

theorem State.contactReset_gone {c : State} (h : c.works = [] ∧ c.ctl.entries = []) : c.contactReset.fab.dedup = [] ∧
    c.contactReset.fab.dedupCopy = [] ∧ c.contactReset.ras.running = [] ∧ c.contactReset.ctl.entries = [] ∧ c.contactReset.works = [] :=
  ⟨rfl, rfl, rfl, h.2, h.1⟩

theorem State.boardReset_islands (s : State) {ns n : Nat} (h : 2 * nsPerUs ≤ ns) (h1 : 1 ≤ n) (hn : n ≤ 24) :
    (s.boardReset ns).islandState n = isOFF := by
  obtain ⟨m, rfl⟩ := Nat.exists_eq_add_of_le' h1
  rw [s.boardReset_long h, State.contactReset_islandState _ (by omega), s.coldReset_off false h1 hn]

/-! ### A start without firmware -/

/-- The ROM finds no image and stays (R425). -/
theorem State.boot_rejected (s : State) {i : StartInfo} (fresh : Bool) (h0 : fwAccepted i.slot0 = false) (h1 : fwAccepted i.slot1 = false) :
    s.boot i fresh = (((({ s with sec.slot0 := i.slot0, sec.slot1 := i.slot1, sec.helper := i.helper, sil.nor := i.image, pwr.startAt := s.now } :
      State).setF F.PWR_START_PHASE 0).setF F.SEC_STATE_FW 2).setF F.TST_STATE_ACCESS 3) := by
  have hrom (s : State) (e0 : s.sec.slot0 = i.slot0) (e1 : s.sec.slot1 = i.slot1) :
      s.romBoot = (s.setF F.SEC_STATE_FW 2).setF F.TST_STATE_ACCESS 3 := by
    have hnone : s.bootSlot = none := by simp [State.bootSlot, e0, e1, h0, h1]
    rw [State.romBoot, hnone]
  unfold State.boot
  dsimp only
  rw [hrom _ rfl rfl, if_pos]
  rw [State.fld_setF_ne _ _ (by decide), State.fld_setF_same]; decide

theorem State.boot_rejected_fields (s : State) {i : StartInfo} (fresh : Bool) (h0 : fwAccepted i.slot0 = false) (h1 : fwAccepted i.slot1 = false) :
    (s.boot i fresh).fld F.SEC_STATE_FW = 2 ∧ (s.boot i fresh).fld F.TST_STATE_ACCESS = 3 ∧ (s.boot i fresh).fld F.PWR_START_PHASE = 0 ∧
      (s.boot i fresh).sil.nor = i.image ∧ (s.boot i fresh).fld F.TST_PINS_RST_N = s.fld F.TST_PINS_RST_N := by
  rw [s.boot_rejected fresh h0 h1]
  refine ⟨?_, State.fld_setF_same _ _ _ _, ?_, rfl, ?_⟩
  · exact (State.fld_setF_place _ _ (by decide)).trans (State.fld_setF_same _ _ _ _)
  · exact (State.fld_setF_place _ _ (by decide)).trans ((State.fld_setF_place _ _ (by decide)).trans (State.fld_setF_same _ _ _ _))
  · exact (State.fld_setF_place _ _ (by decide)).trans ((State.fld_setF_place _ _ (by decide)).trans (State.fld_setF_place _ _ (by decide)))

/-- Settles O56: the input by `inputDip_spec`, `inputLoss_lost` and `inputHigh_spec`, the contact by the `boardReset` lemmas. -/
theorem inputAndBoardReset : Obligations.InputAndBoardReset := by
  refine ⟨fun s mv ns => ⟨fun hon hmv hns => ?_, fun hon h => ?_, fun hon h => ?_, fun hon h => ?_, fun hs h60 h62 => ?_, fun hs h => ?_⟩,
    fun s ns i => ⟨fun hs h => ?_, fun hs h => ?_, fun hon h => ?_, fun hon h => ⟨?_, fun h0 h1 => ?_⟩⟩⟩
  · exact ⟨_, where_answers (exec_inputDip s mv ns) hon (if_pos ⟨hmv, hns⟩), s.inputDip_spec mv⟩
  · exact where_answers (exec_inputDip s mv ns) hon (if_neg h)
  · obtain ⟨hoff, hlog, hregs, hent, hworks, hkeys, hnor, hslot, hhelp⟩ := s.inputLoss_lost h
    exact ⟨_, where_answers (exec_inputLoss s mv ns) hon rfl, hoff, hlog, hregs, hent, hworks, hkeys, hnor, hslot, hhelp, s.inputLoss_mem h⟩
  · exact where_answers (exec_inputLoss s mv ns) hon (if_pos h)
  · exact ⟨_, core_answers (exec_inputHigh s mv) hs rfl, s.inputHigh_spec h60 h62⟩
  · exact core_answers (exec_inputHigh s mv) hs (if_pos h)
  · exact core_answers (exec_boardReset s ns) hs (if_pos h)
  · obtain ⟨hpin, hcause, hlost⟩ := (s.coldReset false).contactReset_fields
    obtain ⟨hdedup, hcopy, hrun, hent, hworks⟩ := State.contactReset_gone (s.coldReset_gone false)
    refine ⟨_, core_answers (exec_boardReset s ns) hs (s.boardReset_long h), hpin, hcause, hlost, hdedup, hcopy, hrun, hent, hworks, fun n h1 hn => ?_⟩
    rw [← s.boardReset_long h]
    exact s.boardReset_islands h h1 hn
  · exact where_answers (exec_boardResetRelease s i) hon (if_pos h)
  · exact ⟨_, where_answers (exec_boardResetRelease s i) hon (if_neg (by omega)), State.fld_setF_same _ _ _ _, rfl, s.keepsFields_setF _ (by simp)⟩
  · obtain ⟨hfw, hacc, -, -, hpin⟩ := (s.setF F.TST_PINS_RST_N 1).boot_rejected_fields true h0 h1
    exact ⟨_, where_answers (exec_boardResetRelease s i) hon (if_neg (by omega)), hfw, hacc, hpin.trans (State.fld_setF_same _ _ _ _)⟩

end Sys2Proof.Machine
end

section
/-! Rebindings (R420, R44): what the swap of two numbers leaves. -/

namespace Sys2Proof.Machine

variable {s t u : State}

theorem onward_answersThen {c : Instr} {g : State → State} (hc : exec c s = s.runOn [] g) (hs : s.serves [] = true) (hg : g s = t) :
    AnswersThen c s t := core_answersThen hc hs hg

/-! ### The rows of the membership table -/

/-- The place of a field in the row of a number. -/
theorem memberRow_place {f : Fld} {d : Nat} (hd : d < 64) (hoff : f.off = 0xC0000) (hlo : f.lo < 64) :
    (f.at d).place = 0xC0000 * 64 + 512 * d + f.lo := by
  simp only [Fld.place, Fld.at, hoff]
  omega

/-- The places of the rows. -/
def inRows (p : Nat) : Prop := 0xC0000 * 64 ≤ p ∧ p < 0xC0000 * 64 + 512 * 64

theorem memberRow_inRows {f : Fld} {d : Nat} (hd : d < 64) (hoff : f.off = 0xC0000) (hlo : f.lo < 64) : inRows (f.at d).place := by
  rw [memberRow_place hd hoff hlo, inRows]
  omega

theorem memberRow_ne {f g : Fld} {d e : Nat} (hd : d < 64) (he : e < 64) (hf : f.off = 0xC0000) (hg : g.off = 0xC0000) (hfl : f.lo < 64)
    (hgl : g.lo < 64) (h : d ≠ e ∨ f.lo ≠ g.lo) : (f.at d).place ≠ (g.at e).place := by
  rw [memberRow_place hd hf hfl, memberRow_place he hg hgl]
  omega

/-- The place of a field outside the rows is not one of theirs. -/
theorem place_ne_row {f : Fld} {p : Nat} (h : inRows p) (hf : f.place < 0xC0000 * 64 ∨ 0xC0000 * 64 + 512 * 64 ≤ f.place) : p ≠ f.place := by
  unfold inRows at h
  omega

theorem row_notMem {p : Nat} {l : List Nat} (h : inRows p) (hl : ∀ q ∈ l, q < 0xC0000 * 64 ∨ 0xC0000 * 64 + 512 * 64 ≤ q) : p ∉ l := by
  intro hp
  have := hl p hp
  unfold inRows at h
  omega

/-! ### Numbers and their positions -/

/-- The three fields of a number that the placing sets. -/
theorem State.placeStep_fld (s : State) (d p port lanes : Nat) (hd : d < 64) {f : Fld} {e : Nat} (he : e < 64) (hoff : f.off = 0xC0000)
    (hlo : f.lo < 64) (h : d ≠ e ∨ (f.lo ≠ 8 ∧ f.lo ≠ 18 ∧ f.lo ≠ 14)) :
    (((s.setF (F.FAB_MEMBER_POSITION.at d) p).setF (F.FAB_MEMBER_PPORT.at d) port).setF (F.FAB_MEMBER_LANES_UP.at d) lanes).fld (f.at e) =
      s.fld (f.at e) := by
  rw [State.fld_setF_place _ _ (memberRow_ne hd he rfl hoff (by decide) hlo (h.imp id fun h => Ne.symm h.2.2)),
    State.fld_setF_place _ _ (memberRow_ne hd he rfl hoff (by decide) hlo (h.imp id fun h => Ne.symm h.2.1)),
    State.fld_setF_place _ _ (memberRow_ne hd he rfl hoff (by decide) hlo (h.imp id fun h => Ne.symm h.1))]

/-- Placing the numbers changes only the rows of the table. -/
def State.RowsOnly (s u : State) : Prop := u = { s with regs := u.regs } ∧ ∀ (f : Fld) (b : Nat), ¬inRows f.place → u.fld f b = s.fld f b

theorem State.RowsOnly.refl (s : State) : s.RowsOnly s := ⟨rfl, fun _ _ _ => rfl⟩
theorem State.RowsOnly.trans (h : s.RowsOnly t) (h' : t.RowsOnly u) : s.RowsOnly u :=
  ⟨by rw [h'.1, h.1], fun f b hf => (h'.2 f b hf).trans (h.2 f b hf)⟩
theorem State.RowsOnly.setF (s : State) {f : Fld} (v b : Nat) (h : inRows f.place) : s.RowsOnly (s.setF f v b) :=
  ⟨rfl, fun _ _ hg => s.fld_setF_place v (fun e => hg (e ▸ h))⟩

/-- The row of one number. -/
def State.placeOne (n pos : Nat) (posOf : Nat → Nat) (s : State) (d : Nat) : State :=
  let p := if d < n then posOf d else d
  let s := s.setF (F.FAB_MEMBER_POSITION.at d) p
  let port := if d < n ∧ p ≠ pos then (p + n - pos - 1) % n else 0x3F
  let s := s.setF (F.FAB_MEMBER_PPORT.at d) port
  s.setF (F.FAB_MEMBER_LANES_UP.at d) (if port = 0x3F then 0 else s.fld F.FAB_PORT_STATUS_LANES_UP port)

theorem State.placeOne_rows {n pos d : Nat} (posOf : Nat → Nat) (s : State) (hd : d < 64) : s.RowsOnly (s.placeOne n pos posOf d) :=
  ((State.RowsOnly.setF s _ _ (memberRow_inRows hd rfl (by decide))).trans (State.RowsOnly.setF _ _ _ (memberRow_inRows hd rfl (by decide)))).trans
    (State.RowsOnly.setF _ _ _ (memberRow_inRows hd rfl (by decide)))

/-- This member's own position lies outside the rows. -/
theorem State.RowsOnly.position (h : s.RowsOnly u) : u.position = s.position := h.2 _ _ (by unfold inRows; decide)

theorem State.placePrefix (s : State) (posOf : Nat → Nat) (k : Nat) (hk : k ≤ 64) :
    s.RowsOnly ((List.range k).foldl (State.placeOne s.dom.members s.position posOf) s) ∧
      (∀ d < k, ((List.range k).foldl (State.placeOne s.dom.members s.position posOf) s).fld (F.FAB_MEMBER_POSITION.at d) =
        (if d < s.dom.members then posOf d else d) % 64) ∧
      ∀ d, d < 64 → ∀ f : Fld, f.off = 0xC0000 → f.lo < 64 → f.lo ≠ 8 ∧ f.lo ≠ 18 ∧ f.lo ≠ 14 →
        ((List.range k).foldl (State.placeOne s.dom.members s.position posOf) s).fld (f.at d) = s.fld (f.at d) := by
  induction k with
  | zero => exact ⟨.refl s, by simp, fun _ _ _ _ _ _ => rfl⟩
  | succ k ih =>
    obtain ⟨hrows, hpos, hkeep⟩ := ih (by omega)
    rw [List.range_succ, List.foldl_append]
    simp only [List.foldl_cons, List.foldl_nil]
    generalize (List.range k).foldl (State.placeOne s.dom.members s.position posOf) s = t at hrows hpos hkeep ⊢
    refine ⟨hrows.trans (t.placeOne_rows posOf (by omega)), fun d hd => ?_, fun d hd f hoff hlo hne => ?_⟩
    · by_cases he : d = k
      · subst he
        unfold State.placeOne
        dsimp only
        rw [State.fld_setF_place _ _ (memberRow_ne (by omega) (by omega) rfl rfl (by decide) (by decide) (Or.inr (by decide))),
          State.fld_setF_place _ _ (memberRow_ne (by omega) (by omega) rfl rfl (by decide) (by decide) (Or.inr (by decide))), State.fld_setF_same]
        rfl
      · exact (State.placeStep_fld t k _ _ _ (by omega) (by omega) rfl (by decide) (Or.inl (Ne.symm he))).trans (hpos d (by omega))
    · exact (State.placeStep_fld t k _ _ _ (by omega) hd hoff hlo (Or.inr hne)).trans (hkeep d hd f hoff hlo hne)

theorem State.foldl_congr_rows {n pos : Nat} (posOf : Nat → Nat) {g : State → Nat → State} (l : List Nat) (hl : ∀ d ∈ l, d < 64)
    (hg : ∀ t d, d < 64 → t.position = pos → g t d = t.placeOne n pos posOf d) (h : s.position = pos) :
    l.foldl g s = l.foldl (State.placeOne n pos posOf) s := by
  induction l generalizing s with
  | nil => rfl
  | cons d l ih =>
    rw [List.foldl_cons, List.foldl_cons, hg s d (hl d (by simp)) h]
    exact ih (fun e he => hl e (List.mem_cons_of_mem _ he)) ((s.placeOne_rows posOf (hl d (by simp))).position.trans h)

theorem State.placeNumbers_eq (s : State) (posOf : Nat → Nat) :
    s.placeNumbers posOf = (List.range 64).foldl (State.placeOne s.dom.members s.position posOf) s := by
  unfold State.placeNumbers
  refine State.foldl_congr_rows posOf _ (fun d hd => List.mem_range.mp hd) (fun t d hd ht => ?_) rfl
  unfold State.placeOne
  dsimp only
  have hpos (v : Nat) : (t.setF (F.FAB_MEMBER_POSITION.at d) v).position = t.position :=
    State.fld_setF_place _ _ (place_ne_row (memberRow_inRows hd rfl (by decide)) (by decide))
  rw [hpos, ht]

theorem State.placeNumbers_spec (s : State) (posOf : Nat → Nat) : s.RowsOnly (s.placeNumbers posOf) ∧
    (∀ d < 64, d < s.dom.members → (s.placeNumbers posOf).fld (F.FAB_MEMBER_POSITION.at d) = posOf d % 64) ∧
    ∀ d < 64, (s.placeNumbers posOf).memberState d = s.memberState d := by
  obtain ⟨hrows, hpos, hkeep⟩ := s.placePrefix posOf 64 (le_refl _)
  rw [s.placeNumbers_eq]
  refine ⟨hrows, fun d hd hm => by rw [hpos d hd, if_pos hm], fun d hd => ?_⟩
  rw [State.memberState, hkeep d hd _ rfl (by decide) (by decide)]
  rfl

/-- The position that a number gets by the exchange. -/
def State.exchangedPos (s : State) (failed spare d : Nat) : Nat :=
  if d = failed then s.fld (F.FAB_MEMBER_POSITION.at spare) else if d = spare then s.fld (F.FAB_MEMBER_POSITION.at failed)
  else s.fld (F.FAB_MEMBER_POSITION.at d)

/-- At a third member an exchange of two numbers changes their positions alone. -/
theorem State.exchangeNumbers_other {d sp : Nat} (hd : s.isSelf d = false) (hsp : s.isSelf sp = false) :
    s.exchangeNumbers d sp = s.placeNumbers (s.exchangedPos d sp) := by
  simp only [State.isSelf, beq_eq_false_iff_ne] at hd hsp
  unfold State.exchangeNumbers
  rw [if_neg (Ne.symm hd), if_neg (Ne.symm hsp)]
  rfl

/-! ### The log leaves the rows -/

theorem logKeys_outside : ∀ q ∈ logKeys.map (· % 2 ^ 30), q < 0xC0000 * 64 ∨ 0xC0000 * 64 + 512 * 64 ≤ q := by decide

theorem State.fld_logErr_row (s : State) (r : ErrRec) {f : Fld} {b : Nat} (h : inRows f.place) : (s.logErr r).fld f b = s.fld f b :=
  (s.logErr_keepsFields r).keepsPlaces f b (row_notMem h logKeys_outside)

theorem State.setMember_memberState_ne (s : State) {d e : Nat} (hd : d < 64) (he : e < 64) (h : d ≠ e) (m : MemberState) (st : Status) :
    (s.setMember d m st).memberState e = s.memberState e := by
  unfold State.setMember State.memberState
  rw [State.fld_logErr_row _ _ (memberRow_inRows he rfl (by decide)),
    State.fld_setF_place _ _ (memberRow_ne hd he rfl rfl (by decide) (by decide) (Or.inl h))]

/-- A change of a member's state leaves the other fields of the table, and every field that is not the log's. -/
theorem State.setMember_fld_row (s : State) {d e : Nat} (hd : d < 64) (he : e < 64) (m : MemberState) (st : Status) {f : Fld} (hoff : f.off = 0xC0000)
    (hlo : f.lo < 64) (h : f.lo ≠ 0) : (s.setMember d m st).fld (f.at e) = s.fld (f.at e) := by
  unfold State.setMember
  rw [State.fld_logErr_row _ _ (memberRow_inRows he hoff hlo),
    State.fld_setF_place _ _ (memberRow_ne hd he rfl hoff (by decide) hlo (Or.inr (Ne.symm h)))]

theorem State.setMember_fld (s : State) {d : Nat} (hd : d < 64) (m : MemberState) (st : Status) {f : Fld} {b : Nat}
    (hf : f.place < 0xC0000 * 64 ∨ 0xC0000 * 64 + 512 * 64 ≤ f.place) (hlog : f.key b ∉ logKeys) : (s.setMember d m st).fld f b = s.fld f b := by
  unfold State.setMember
  rw [State.fld_logErr _ _ hlog, State.fld_setF_place _ _ (place_ne_row (memberRow_inRows hd rfl (by decide)) hf)]

/-! ### The swap -/

/-- The tables after the swap: positions, states and the register that shows it. -/
def State.swapShown (s : State) (d sp : Nat) : State :=
  let s := ((s.exchangeNumbers d sp).setMember d .active .done).setMember sp .retired .done
  ((s.setF F.RAS_REBIND_FAILED_DEV d).setF F.RAS_REBIND_FORMER_DEV sp).count F.RAS_REBIND_COUNT

variable {d sp : Nat}

theorem State.setMember_frame (s : State) (d : Nat) (m : MemberState) (st : Status) :
    s.setMember d m st = { s with regs := (s.setMember d m st).regs, ras := (s.setMember d m st).ras } := by
  unfold State.setMember
  rw [State.logErr_frame]
  rfl

theorem State.setMember_rebindHold (s : State) (d : Nat) (m : MemberState) (st : Status) : (s.setMember d m st).ras.rebindHold = s.ras.rebindHold := by
  unfold State.setMember
  dsimp only
  obtain ⟨l, r, h⟩ := (s.setF (F.FAB_MEMBER_STATE.at d) m.code).logErr_ras
    { unit := .fab, status := st, index := d, syndrome := m.code + (s.memberState d).code * 256 }
  rw [h]
  rfl

/-- The tables show the swap at a third member. -/
theorem State.swapShown_spec (hd : d < 64) (hsp : sp < 64) (hne : d ≠ sp) (hmd : d < s.dom.members) (hself : s.isSelf d = false)
    (hself' : s.isSelf sp = false) (hpos : s.fld (F.FAB_MEMBER_POSITION.at sp) < 64) :
    (s.swapShown d sp).memberState d = .active ∧ (s.swapShown d sp).memberState sp = .retired ∧
      (s.swapShown d sp).fld F.RAS_REBIND_FAILED_DEV = d ∧ (s.swapShown d sp).fld F.RAS_REBIND_FORMER_DEV = sp ∧
      s.counted (s.swapShown d sp) F.RAS_REBIND_COUNT ∧
      (s.swapShown d sp).fld (F.FAB_MEMBER_POSITION.at d) = s.fld (F.FAB_MEMBER_POSITION.at sp) := by
  obtain ⟨hrows, hplaced, -⟩ := s.placeNumbers_spec (s.exchangedPos d sp)
  unfold State.swapShown
  rw [State.exchangeNumbers_other hself hself']
  dsimp only
  have hout (t : State) {f : Fld} (hf : inRows f.place) : (((t.setF F.RAS_REBIND_FAILED_DEV d).setF F.RAS_REBIND_FORMER_DEV sp).count
      F.RAS_REBIND_COUNT).fld f = t.fld f := by
    rw [State.count, State.fld_setF_place _ _ (place_ne_row hf (by decide)).symm, State.fld_setF_place _ _ (place_ne_row hf (by decide)).symm,
      State.fld_setF_place _ _ (place_ne_row hf (by decide)).symm]
  have hstate (t : State) {e : Nat} (he : e < 64) : (((t.setF F.RAS_REBIND_FAILED_DEV d).setF F.RAS_REBIND_FORMER_DEV sp).count
      F.RAS_REBIND_COUNT).memberState e = t.memberState e := by
    rw [State.memberState, hout _ (memberRow_inRows he rfl (by decide))]; rfl
  refine ⟨?_, ?_, ?_, ?_, ?_, ?_⟩
  · rw [hstate _ hd, State.setMember_memberState_ne _ hsp hd (Ne.symm hne), State.setMember_memberState _ hd]
  · rw [hstate _ hsp, State.setMember_memberState _ hsp]
  · rw [State.count, State.fld_setF_place _ _ (by decide), State.fld_setF_place _ _ (by decide), State.fld_setF_same]
    exact Nat.mod_eq_of_lt hd
  · rw [State.count, State.fld_setF_place _ _ (by decide), State.fld_setF_same]
    exact Nat.mod_eq_of_lt hsp
  · rw [State.counted, State.fld_count_same, State.fld_count_same, State.fld_setF_place _ _ (by decide), State.fld_setF_place _ _ (by decide),
      State.setMember_fld _ hsp _ _ (by decide) (by decide), State.setMember_fld _ hd _ _ (by decide) (by decide),
      hrows.2 _ _ (by unfold inRows; decide)]
  · rw [hout _ (memberRow_inRows hd rfl (by decide)), State.setMember_fld_row _ hsp hd _ _ rfl (by decide) (by decide),
      State.setMember_fld_row _ hd hd _ _ rfl (by decide) (by decide), hplaced d hd hmd, State.exchangedPos, if_pos rfl]
    exact Nat.mod_eq_of_lt hpos

/-- What it leaves. -/
theorem State.swapShown_frame (hself : s.isSelf d = false) (hself' : s.isSelf sp = false) :
    s.swapShown d sp = { s with regs := (s.swapShown d sp).regs, ras := (s.swapShown d sp).ras } ∧
      (s.swapShown d sp).ras.rebindHold = s.ras.rebindHold := by
  obtain ⟨hrows, -⟩ := s.placeNumbers_spec (s.exchangedPos d sp)
  unfold State.swapShown
  rw [State.exchangeNumbers_other hself hself']
  dsimp only
  refine ⟨?_, ?_⟩
  · have hframe (t : State) : ((t.setMember d .active .done).setMember sp .retired .done) =
        { t with regs := ((t.setMember d .active .done).setMember sp .retired .done).regs,
                 ras := ((t.setMember d .active .done).setMember sp .retired .done).ras } := by
      rw [State.setMember_frame, State.setMember_frame]
    rw [hframe, hrows.1]
    rfl
  · refine (State.setMember_rebindHold _ _ _ _).trans ((State.setMember_rebindHold _ _ _ _).trans ?_)
    rw [hrows.1]

/-- What a member knows of the spare it knows of the failed number from here on. -/
def shiftTo {α : Type} (d sp : Nat) (t : Tbl α) : Tbl α := match t.get? sp with | some h => (t.del sp).put d h | none => t.del d

/-- Requests go on under the numbers of the new binding. -/
def Request.rebound (d sp : Nat) (r : Request) : Request :=
  if r.pkt.dst = sp ∨ (r.pkt.onMemory ∧ dgaDev r.pkt.addr = d) then { r with pkt := { r.pkt with dst := d } } else r

/-- Requests that are out are answered under the new number. -/
def Request.redirected (d sp : Nat) (r : Request) : Request := if r.pkt.dst = sp then { r with pkt := { r.pkt with dst := d } } else r

/-- The tables that name the two numbers, after the swap. -/
def State.movedTo (s : State) (d sp : Nat) : State :=
  { s with dom.rebinds := s.dom.rebinds ++ [(d, sp)], dom.heard := shiftTo d sp s.dom.heard, dom.peers := shiftTo d sp s.dom.peers,
           fab.waiting := s.fab.waiting.map (Request.rebound d sp), fab.reqs := s.fab.reqs.map (Request.redirected d sp) }

/-- A mirror target that takes the failed number is known under it. -/
def State.mirrorMoved (s : State) (d sp : Nat) : State :=
  if s.fld F.JNL_STATE_MIRROR_DEV = sp then s.setF F.JNL_STATE_MIRROR_DEV d else s

/-- The swap with its measurement and its tables. -/
def State.swapped (s : State) (d sp : Nat) : State :=
  (((({ s with ras.rebindHold := none } : State).swapShown d sp).extendMr 6 1 (Config.rebindEvent d sp)).movedTo d sp).mirrorMoved d sp

theorem State.rebindNow_eq (s : State) (p : Packet) : s.rebindNow p =
    let t := s.swapped p.rebindFailed p.rebindFormer
    let u := if s.isSelf p.rebindFormer then t.becomeMember else t
    if p.src = u.devnum ∧ p.dst = u.devnum then { u with ras.rebindAcks := setBit u.ras.rebindAcks u.devnum false } else u.respond p .done := by
  unfold State.rebindNow
  extract_lets d sp mine ras s1 s2 s3 s4 shift shiftP move dom fab s5 s6 s7 ras7
  have h3 : s3 = ({ s with ras.rebindHold := none } : State).swapShown p.rebindFailed p.rebindFormer := rfl
  have h4 : s4 = s3.extendMr 6 1 (Config.rebindEvent d sp) := rfl
  have h5 : s5 = s4.movedTo d sp := by
    clear_value s4
    have hshift : shift s4.dom.heard = shiftTo d sp s4.dom.heard := by
      simp only [shift, shiftTo]
      cases s4.dom.heard.get? sp <;> rfl
    have hshiftP : shiftP s4.dom.peers = shiftTo d sp s4.dom.peers := by
      simp only [shiftP, shiftTo]
      cases s4.dom.peers.get? sp <;> rfl
    unfold State.movedTo
    rw [← hshift, ← hshiftP]
    rfl
  have h6 : s6 = s5.mirrorMoved d sp := by
    clear_value s5
    rfl
  have h7 : s7 = if s.isSelf sp then s6.becomeMember else s6 := rfl
  clear_value s7
  clear_value s6
  clear_value s5
  clear_value s4
  clear_value s3
  subst h7 h6 h5 h4 h3
  rfl

theorem State.movedTo_fld (s : State) (d sp : Nat) (f : Fld) (b : Nat) : (s.movedTo d sp).fld f b = s.fld f b := rfl

theorem State.mirrorMoved_fld (s : State) (d sp : Nat) {f : Fld} {b : Nat} (h : F.JNL_STATE_MIRROR_DEV.place ≠ f.place) :
    (s.mirrorMoved d sp).fld f b = s.fld f b := by
  unfold State.mirrorMoved
  split
  · exact State.fld_setF_place _ _ h
  · rfl

theorem State.mirrorMoved_frame (s : State) (d sp : Nat) : s.mirrorMoved d sp = { s with regs := (s.mirrorMoved d sp).regs } := by
  unfold State.mirrorMoved
  split <;> rfl

theorem State.extendMr_frame (s : State) (r k : Nat) (e : List Byte) :
    s.extendMr r k e = { s with regs := (s.extendMr r k e).regs, sec := (s.extendMr r k e).sec } := by
  unfold State.extendMr
  dsimp only
  split <;> rfl

/-- The fields that the swap does not set beyond what its tables show. -/
theorem State.swapped_fld (s : State) {f : Fld} {b : Nat} (hm : F.JNL_STATE_MIRROR_DEV.place ≠ f.place)
    (he : f.place ∉ keyTableKeys.map (· % 2 ^ 30)) :
    (s.swapped d sp).fld f b = (({ s with ras.rebindHold := none } : State).swapShown d sp).fld f b := by
  unfold State.swapped
  rw [State.mirrorMoved_fld _ _ _ hm, State.movedTo_fld, (State.extendMr_keepsFields _ 6 1 (Config.rebindEvent d sp)).keepsPlaces f b he]

theorem keyTable_outside : ∀ q ∈ keyTableKeys.map (· % 2 ^ 30), q < 0xC0000 * 64 ∨ 0xC0000 * 64 + 512 * 64 ≤ q := by decide

theorem State.swapped_row (s : State) {f : Fld} {b : Nat} (h : inRows f.place) :
    (s.swapped d sp).fld f b = (({ s with ras.rebindHold := none } : State).swapShown d sp).fld f b :=
  s.swapped_fld (place_ne_row h (by decide)).symm (row_notMem h keyTable_outside)

theorem State.swapShown_devnum (hd : d < 64) (hsp : sp < 64) (hself : s.isSelf d = false) (hself' : s.isSelf sp = false) :
    (s.swapShown d sp).devnum = s.devnum := by
  obtain ⟨hrows, -⟩ := s.placeNumbers_spec (s.exchangedPos d sp)
  unfold State.swapShown
  rw [State.exchangeNumbers_other hself hself']
  unfold State.devnum
  dsimp only
  rw [State.count, State.fld_setF_place _ _ (by decide), State.fld_setF_place _ _ (by decide), State.fld_setF_place _ _ (by decide),
    State.setMember_fld _ hsp _ _ (by decide) (by decide), State.setMember_fld _ hd _ _ (by decide) (by decide), hrows.2 _ _ (by unfold inRows; decide)]

theorem State.swapped_spec (hd : d < 64) (hsp : sp < 64) (hne : d ≠ sp) (hmd : d < s.dom.members) (hself : s.isSelf d = false)
    (hself' : s.isSelf sp = false) (hpos : s.fld (F.FAB_MEMBER_POSITION.at sp) < 64) :
    (s.swapped d sp).memberState d = .active ∧ (s.swapped d sp).memberState sp = .retired ∧
      (s.swapped d sp).fld F.RAS_REBIND_FAILED_DEV = d ∧ (s.swapped d sp).fld F.RAS_REBIND_FORMER_DEV = sp ∧
      s.counted (s.swapped d sp) F.RAS_REBIND_COUNT ∧ (s.swapped d sp).ras.rebindHold = none ∧ (d, sp) ∈ (s.swapped d sp).dom.rebinds ∧
      (s.swapped d sp).fld (F.FAB_MEMBER_POSITION.at d) = s.fld (F.FAB_MEMBER_POSITION.at sp) ∧ (s.swapped d sp).mem = s.mem ∧
      (s.swapped d sp).xlt = s.xlt := by
  obtain ⟨hact, hret, hfailed, hformer, hcount, hplace⟩ :=
    State.swapShown_spec (s := { s with ras.rebindHold := none }) hd hsp hne hmd hself hself' hpos
  obtain ⟨hframe, hhold⟩ := State.swapShown_frame (s := { s with ras.rebindHold := none }) hself hself'
  have hstate {e : Nat} (he : e < 64) : (s.swapped d sp).memberState e = (({ s with ras.rebindHold := none } : State).swapShown d sp).memberState e := by
    rw [State.memberState, s.swapped_row (memberRow_inRows he rfl (by decide))]; rfl
  have hrest : (s.swapped d sp).ras.rebindHold = none ∧ (d, sp) ∈ (s.swapped d sp).dom.rebinds ∧ (s.swapped d sp).mem = s.mem ∧
      (s.swapped d sp).xlt = s.xlt := by
    unfold State.swapped
    rw [State.mirrorMoved_frame, State.extendMr_frame, hframe]
    exact ⟨hhold, by simp [State.movedTo], rfl, rfl⟩
  obtain ⟨hnone, hreb, hmem, hxlt⟩ := hrest
  refine ⟨(hstate hd).trans hact, (hstate hsp).trans hret, ?_, ?_, ?_, hnone, hreb, ?_, hmem, hxlt⟩
  · rw [s.swapped_fld (by decide) (by decide)]; exact hfailed
  · rw [s.swapped_fld (by decide) (by decide)]; exact hformer
  · rw [State.counted, s.swapped_fld (by decide) (by decide)]; exact hcount
  · rw [s.swapped_row (memberRow_inRows hd rfl (by decide))]; exact hplace

theorem State.swapped_devnum (hd : d < 64) (hsp : sp < 64) (hself : s.isSelf d = false) (hself' : s.isSelf sp = false) :
    (s.swapped d sp).devnum = s.devnum := by
  rw [State.devnum, s.swapped_fld (by decide) (by decide)]
  exact State.swapShown_devnum (s := { s with ras.rebindHold := none }) hd hsp hself hself'

/-- A third member that another tells of the rebinding answers it. -/
theorem State.rebindNow_answers {p : Packet} (hself : s.isSelf p.rebindFailed = false) (hself' : s.isSelf p.rebindFormer = false)
    (hsrc : p.src ≠ s.devnum) : s.rebindNow p = (s.swapped p.rebindFailed p.rebindFormer).respond p .done := by
  have hlt (n : Nat) : n % 64 < 64 := Nat.mod_lt _ (by decide)
  have hdev := State.swapped_devnum (hlt (field p.payload 22 1)) (hlt (field p.payload 23 1)) hself hself'
  rw [s.rebindNow_eq]
  change (s.swapped p.rebindFailed p.rebindFormer).devnum = s.devnum at hdev
  generalize s.swapped p.rebindFailed p.rebindFormer = t at hdev
  rw [hself']
  dsimp only [Bool.false_eq_true, if_false]
  exact if_neg (fun h => hsrc (h.1.trans hdev))

theorem State.take_isSelf (s : State) (p : Packet) (d : Nat) : (s.take p).isSelf d = s.isSelf d := rfl

/-- A rebinding of a FAILED number is held, and applied unless a request is open. -/
theorem State.rebindApply_held {p : Packet} (hp : p.isRebind = true) (hnew : s.dom.rebinds.contains (p.rebindFailed, p.rebindFormer) = false)
    (hfailed : s.memberState p.rebindFailed = .failed) (hnone : s.ras.rebindHold = none) : s.rebindApply p =
      if s.openTo p.rebindFailed then { s.take p with ras.rebindHold := some p }
      else ({ s.take p with ras.rebindHold := some p } : State).rebindNow p := by
  unfold State.rebindApply
  dsimp only
  rw [if_neg (by simp [hp]), if_neg (by rw [show (s.take p).dom = s.dom from rfl, hnew]; decide), if_neg]
  · rfl
  · rw [show (s.take p).memberState p.rebindFailed = s.memberState p.rebindFailed from rfl, show (s.take p).ras = s.ras from rfl, hfailed, hnone]
    simp

/-- Settles O53: a rebinding waits as `rebindSettle` says, and its swap is `swapped_spec`. -/
theorem rebindings : Obligations.Rebindings := by
  rintro s p d sp hs rfl rfl
  have hlt (n : Nat) : n % 64 < 64 := Nat.mod_lt _ (by decide)
  have hrun (t : State) (h : s.rebindApply p = t) : AnswersThen (.rebindApply p) s t := core_answersThen (exec_rebindApply s p) hs h
  refine ⟨fun hp => hrun _ ?_, fun hp hdone => hrun _ ?_, fun hp hnew hfailed hnone => ⟨fun hopen => ?_, fun hopen hsp hd hsrc hne hmd hmsp hpos => ?_⟩⟩
  · exact if_pos (by simp [hp])
  · exact (if_neg (by simp [hp])).trans (if_pos hdone)
  · refine ⟨_, hrun { s.take p with ras.rebindHold := some p } ?_, rfl, rfl, rfl⟩
    rw [State.rebindApply_held hp hnew hfailed hnone, if_pos hopen]
  · refine ⟨({ s.take p with ras.rebindHold := some p } : State).swapped p.rebindFailed p.rebindFormer, hrun _ ?_, ?_⟩
    · rw [State.rebindApply_held hp hnew hfailed hnone, if_neg (by rw [hopen]; decide)]
      exact State.rebindNow_answers hd hsp hsrc
    · exact State.swapped_spec (s := { s.take p with ras.rebindHold := some p }) (hlt _) (hlt _) hne hmd hd hsp hpos

end Sys2Proof.Machine
end

section
/-! The E-ports (R376, R377, R388, R389, R317): pause, address resolution, echo, link state, and the frames that leave. -/

namespace Sys2Proof.Machine

variable {s t u : State} {port prio : Nat}

/-! ### Bits of a field -/

theorem bitAt_eq_testBit (v i : Nat) : bitAt v i = v.testBit i := (Nat.testBit_eq_decide_div_mod_eq).symm

theorem bitAt_mod {v i w : Nat} (h : i < w) : bitAt (v % 2 ^ w) i = bitAt v i := by
  simp [bitAt_eq_testBit, Nat.testBit_mod_two_pow, h]

/-- Setting a bit replaces the lowest bit of the part above it. -/
theorem setBit_div (v i : Nat) (b : Bool) : setBit v i b / 2 ^ i = v / 2 ^ i - v / 2 ^ i % 2 + (if b then 1 else 0) := by
  have hp : 0 < 2 ^ i := by positivity
  have hv := Nat.div_add_mod v (2 ^ i)
  have hle : v / 2 ^ i % 2 ≤ v / 2 ^ i := Nat.mod_le _ _
  unfold setBit withBits bitsOf
  generalize v / 2 ^ i = m at *
  generalize hr : v % 2 ^ i = r at *
  have hlt : r < 2 ^ i := hr ▸ Nat.mod_lt _ hp
  have hx : (if b = true then 1 else 0) % 2 ^ 1 = if b = true then 1 else 0 := by cases b <;> rfl
  have hsub : v - m % 2 ^ 1 * 2 ^ i = r + (m - m % 2) * 2 ^ i := by
    rw [← hv, Nat.sub_mul, Nat.mul_comm (2 ^ i) m, pow_one]
    have := Nat.mul_le_mul_right (2 ^ i) hle
    omega
  rw [hsub, hx, Nat.add_assoc, ← Nat.add_mul, Nat.add_mul_div_right _ _ hp, Nat.div_eq_of_lt hlt, Nat.zero_add]

theorem bitAt_setBit_same (v i : Nat) (b : Bool) : bitAt (setBit v i b) i = b := by
  unfold bitAt
  rw [setBit_div]
  cases b <;> simp <;> omega

theorem State.fldBit_setFldBit_same (s : State) {f : Fld} {i : Nat} (b : Bool) (bank : Nat) (h : i < f.width) :
    (s.setFldBit f i b bank).fldBit f i bank = b := by
  unfold State.setFldBit State.fldBit
  rw [State.fld_setF_same, bitAt_mod h, bitAt_setBit_same]

/-! ### Pause -/

theorem State.unpause_spec (s : State) (port : Nat) (h : prio < 8) : (s.unpause port prio).fldBit (F.ETH_PORT_STATUS_PAUSED.at port) prio = false ∧
    (s.unpause port prio).eth.pauseUntil.get? (prioKey port prio) = none := by
  unfold State.unpause
  exact ⟨State.fldBit_setFldBit_same s _ _ h, Tbl.get?_del_same _ _⟩

theorem State.pfcFrame_pauses {quanta : Nat} (h : prio < 8) (hq : quanta ≠ 0) :
    (s.pfcFrame port prio quanta).fldBit (F.ETH_PORT_STATUS_PAUSED.at port) prio = true ∧
      (s.pfcFrame port prio quanta).eth.pauseUntil.get? (prioKey port prio) = some (s.now + quantaNs quanta) ∧
      s.keepsFields (s.pfcFrame port prio quanta) [(F.ETH_PORT_STATUS_PAUSED.at port).key 0] := by
  unfold State.pfcFrame
  rw [if_neg hq]
  exact ⟨State.fldBit_setFldBit_same s _ _ h, Tbl.get?_put_same _ _ _, (s.keepsFields_setF _ (by simp)).trans (State.keepsFields_of_regs rfl)⟩

/-- The watchdog discards the frames of the priority. -/
theorem State.pfcWatchdog_spec {t : Nat} (h : s.eth.pausedSince.get? (prioKey port prio) = some t) :
    t + s.fld F.ETH_PFC_WD_MS * 1000000 ≤ (s.pfcWatchdog port prio).now ∧
      (∀ f, f ∈ (s.pfcWatchdog port prio).eth.queue ↔ f ∈ s.eth.queue ∧ ¬(f.port = port ∧ f.prio = prio)) ∧
      (s.pfcWatchdog port prio).eth.wdEpisode.get? (prioKey port prio) = some true := by
  unfold State.pfcWatchdog
  dsimp only
  rw [h]
  dsimp only
  have hlog (b : Bool) (u : State) (r : ErrRec) : (if b = true then u.logErr r else u).now = u.now ∧ (if b = true then u.logErr r else u).eth = u.eth := by
    cases b
    · exact ⟨rfl, rfl⟩
    · rw [if_pos rfl, State.logErr_frame]; exact ⟨rfl, rfl⟩
  rw [(hlog _ _ _).1, (hlog _ _ _).2]
  refine ⟨le_max_right _ _, fun f => List.mem_filter.trans ?_, Tbl.get?_put_same _ _ _⟩
  simp [State.reach, ← imp_iff_not_or]

/-! ### Answers and frames that leave -/

theorem State.ethAnswer_own {hi lo n : Nat} {m : EthMsg} (hon : s.ethPortOn port true = true) (hmac : s.fld (F.ETH_PORT_CFG_MAC.at port) ≠ 0)
    (hhi : s.fld (F.ETH_PORT_GID_HI_GID.step 16 port) = hi) (hlo : s.fld (F.ETH_PORT_GID_LO_GID.step 16 port) = lo) :
    s.ethAnswer port hi lo n m = { s with eth.queue := s.eth.queue ++ [⟨port, 0, 0, false, n, s.now, false, m⟩] } := by
  rw [State.ethAnswer, if_pos ⟨hon, hmac, hhi, hlo⟩]

theorem State.ethAnswer_off {hi lo n : Nat} {m : EthMsg} (h : s.ethPortOn port true = false) : s.ethAnswer port hi lo n m = s := by
  rw [State.ethAnswer, if_neg (by simp [h])]

/-- The three questions that a port answers for its own address. -/
theorem address_answers {hi lo n : Nat} (hp : port < 4) {c : Instr × Nat × EthMsg} (hc : c ∈ [(Instr.arpRequest port hi lo, 64, EthMsg.arpReply),
    (.neighbourSolicitation port hi lo, 86, .neighbourAdvert), (.icmpEcho port hi lo n, n, .echoReply)]) (s : State) :
    exec c.1 s = s.run [24] (fun s => s.ethAnswer port hi lo c.2.1 c.2.2) := by
  simp only [List.mem_cons, List.not_mem_nil, or_false] at hc
  rcases hc with rfl | rfl | rfl
  · rw [exec_arpRequest, execArpRequest, Nat.mod_eq_of_lt hp]
  · rw [exec_neighbourSolicitation, execNeighbourSolicitation, Nat.mod_eq_of_lt hp]
  · rw [exec_icmpEcho, execIcmpEcho, Nat.mod_eq_of_lt hp]

theorem State.ethArbitrate.drop_length (f : EthFrame) {l : List EthFrame} (h : f ∈ l) : (State.ethArbitrate.drop f l).length + 1 = l.length := by
  induction l with
  | nil => cases h
  | cons g gs ih =>
    unfold State.ethArbitrate.drop
    split
    · rfl
    · next hne => rw [List.length_cons, List.length_cons, ih ((List.mem_cons.mp h).resolve_left (Ne.symm hne))]

/-- The frame that may leave an E-port while no gate list is in force. -/
def State.frameDue (s : State) (port : Nat) (f : EthFrame) : Prop :=
  let ready (f : EthFrame) : Bool := f.port == port && !s.fldBit (F.ETH_PORT_STATUS_PAUSED.at port) f.prio
  s.eth.queue.find? (fun f => ready f && !f.bulk) = some f ∨
    (s.eth.queue.find? (fun f => ready f && !f.bulk) = none ∧ s.eth.queue.find? (fun f => ready f && f.bulk) = some f)

theorem State.ethGuardHolds_ungated (h : s.gated = false) (port : Nat) : s.ethGuardHolds port = false := by simp [State.ethGuardHolds, h]
theorem State.ethBulkOpen_ungated (h : s.gated = false) : s.ethBulkOpen = true := by simp [State.ethBulkOpen, h]

theorem State.frameDue.mem {f : EthFrame} (h : s.frameDue port f) : f ∈ s.eth.queue := by
  rcases h with h | ⟨-, h⟩ <;> exact List.mem_of_find?_eq_some h

theorem State.frameDue.first {f : EthFrame} (hg : s.gated = false) (h : s.frameDue port f) :
    (s.eth.queue.find? (fun f => (f.port == port && !s.fldBit (F.ETH_PORT_STATUS_PAUSED.at port) f.prio) && !f.bulk)).orElse
      (fun _ => s.eth.queue.find? (fun f => (f.port == port && !s.fldBit (F.ETH_PORT_STATUS_PAUSED.at port) f.prio) && f.bulk && s.ethBulkOpen &&
        !s.ethGuardHolds port)) = some f := by
  rw [State.ethGuardHolds_ungated hg, State.ethBulkOpen_ungated hg]
  rcases h with h | ⟨hnone, h⟩
  · rw [h]; rfl
  · rw [hnone]
    simpa using h

theorem State.ethArbitrate_sends {f : EthFrame} (hg : s.gated = false) (h : s.frameDue port f) : ∃ ce,
    (s.ethArbitrate port).eth.tx = s.eth.tx ++ [⟨port, f.qp, ce, f.msg⟩] ∧ (s.ethArbitrate port).eth.queue.length + 1 = s.eth.queue.length ∧
      (s.ethArbitrate port).mem = s.mem ∧ (s.ethArbitrate port).regs = s.regs := by
  have hfirst := h.first hg
  unfold State.ethArbitrate
  have hnone : (s.eth.queue.filter (fun f => f.port == port && f.bulk && !f.held && s.ethGuardHolds port)).isEmpty = true := by
    simp [State.ethGuardHolds_ungated hg]
  dsimp only
  rw [if_pos hnone, hfirst]
  exact ⟨_, rfl, State.ethArbitrate.drop_length f h.mem, rfl, rfl⟩

theorem exec_egress_eth (s : State) (h : port < 4) : exec (.egressArbitration (96 + port)) s = s.runOn [17] (fun s => s.ethArbitrate port) := by
  rw [exec_egressArbitration, execEgressArbitration]
  have hif (s : State) : (if 96 ≤ 96 + port ∧ 96 + port < 100 then s.ethArbitrate (96 + port - 96) else s.arbitrate (96 + port)) = s.ethArbitrate port := by
    rw [if_pos (by omega), Nat.add_sub_cancel_left]
  simp only [hif]

theorem linkField_width : ∀ v < 3, v % 2 ^ (F.ETH_PORT_STATUS_LINK.at port).width = v := by
  intro v hv
  exact Nat.mod_eq_of_lt (by have : (2 : Nat) ^ (F.ETH_PORT_STATUS_LINK.at port).width = 4 := rfl; omega)

/-- Settles O45: each event of an E-port by the lemma that says what it leaves. -/
theorem hostPorts : Obligations.HostPorts := by
  intro s port prio quanta hi lo n hs hp h8
  have hport : port % 4 = port := Nat.mod_eq_of_lt hp
  have hprio : prio % 8 = prio := Nat.mod_eq_of_lt h8
  have hpfc (q : Nat) : Answers (.pfcFrame port prio q) s (s.pfcFrame port prio q) :=
    core_answers (exec_pfcFrame s port prio q) hs (by rw [hport, hprio])
  have hexp {u : State} (h : s.pfcExpiry port prio = u) : Answers (.pfcPauseExpiry port prio) s u :=
    core_answers (exec_pfcPauseExpiry s port prio) hs (by rw [hport, hprio, h])
  have hxoff {u : State} (h : s.pfcRefresh port prio = u) : Answers (.pfcXoffRefresh port prio) s u :=
    core_answers (exec_pfcXoffRefresh s port prio) hs (by rw [hport, hprio, h])
  have hwd {u : State} (h : s.pfcWatchdog port prio = u) : Answers (.pfcWatchdog port prio) s u :=
    core_answers (exec_pfcWatchdog s port prio) hs (by rw [hport, hprio, h])
  have hdisc (b : Bool) : Answers (.ethFrameDiscard port b) s (s.ethDiscard port b) :=
    core_answers (exec_ethFrameDiscard s port b) hs (by rw [hport])
  refine ⟨fun hq => ⟨_, hpfc quanta, State.pfcFrame_pauses h8 hq⟩, ⟨_, hpfc 0, s.unpause_spec port h8⟩, fun t ht => ?_, fun hn => hexp ?_, fun hx => ?_,
    fun hx => hxoff ?_, fun t ht => ⟨_, hwd rfl, State.pfcWatchdog_spec ht⟩, fun hn => hwd ?_, fun c hc => ⟨fun hon hmac hh hl => ?_, fun hoff => ?_⟩,
    ⟨_, hdisc true, rfl, s.keepsFields_setF _ (by simp)⟩, ⟨_, hdisc false, rfl, s.keepsFields_setF _ (by simp)⟩, fun up => ?_, ?_⟩
  · refine ⟨(s.reach t).unpause port prio, hexp ?_, le_max_right _ _, (s.reach t).unpause_spec port h8⟩
    rw [State.pfcExpiry, ht]
  · rw [State.pfcExpiry, hn]
  · refine ⟨{ s.reach (s.now + quantaNs (s.fld F.ETH_PFC_QUANTA) / 2) with
      eth.tx := s.eth.tx ++ [⟨port, 0, false, .pfc prio (s.fld F.ETH_PFC_QUANTA)⟩] }, hxoff ?_, rfl, rfl, max_eq_right (Nat.le_add_right _ _)⟩
    rw [State.pfcRefresh, if_pos hx]
  · rw [State.pfcRefresh, if_neg (by simp [hx])]
  · rw [State.pfcWatchdog, hn]
  · exact ⟨_, core_answers (address_answers hp hc s) hs (State.ethAnswer_own hon hmac hh hl), rfl, rfl⟩
  · exact core_answers (address_answers hp hc s) hs (State.ethAnswer_off hoff)
  · refine ⟨s.ethLink port up, core_answersThen (exec_ethLinkChange s port up) hs (by rw [hport]), ?_⟩
    unfold State.ethLink
    split
    · refine ⟨s.keepsFields_setF _ (by simp), (State.fld_setF_same _ _ _ _).trans (linkField_width _ ?_)⟩
      cases up <;> decide
    · exact ⟨s.keepsFields_setF _ (by simp), (State.fld_setF_same _ _ _ _).trans (linkField_width _ (by decide))⟩
  · rintro h17 hg f ok rfl hf
    have hs17 : s.serves [17] = true := by
      rw [State.serves, Bool.and_eq_true] at hs ⊢
      exact ⟨hs.1, by simp [h17]⟩
    obtain ⟨ce, htx, hlen, hmem, hregs⟩ := State.ethArbitrate_sends (f := f) hg hf
    exact ⟨_, ce, core_answersThen (exec_egress_eth s hp) hs17 rfl, htx, hlen, hmem, hregs⟩

end Sys2Proof.Machine
end

section
/-! Memory regions, the seats' transfers and the domain's time (R384, R387, R391). -/

namespace Sys2Proof.Machine

variable {s t u : State} {x : SeatId} {ch : ChanId} {n : Nat}

/-! ### Pins -/

/-- Taking a pin touches the extents alone. -/
theorem State.takePin_frame (s : State) (c va : Nat) : ∃ y, s.takePin c va = { s with xlt := y } := by
  unfold State.takePin State.recounted
  split
  · exact ⟨_, rfl⟩
  · exact ⟨_, rfl⟩

theorem State.takePins_frame (s : State) (c : Nat) (es : List Extent) : ∃ y, es.foldl (fun s e => s.takePin c e.va) s = { s with xlt := y } := by
  induction es generalizing s with
  | nil => exact ⟨_, rfl⟩
  | cons e es ih =>
    obtain ⟨y, hy⟩ := s.takePin_frame c e.va
    obtain ⟨z, hz⟩ := ih (s.takePin c e.va)
    exact ⟨z, by rw [List.foldl_cons, hz, hy]⟩

/-! ### Memory regions -/

theorem State.mrOutcome_shows (s : State) (x : SeatId) (st : Status) (rkey : Nat) :
    (s.mrOutcome x st rkey).fld F.ETH_MR_STATUS_STATUS x.idx = st.code ∧
      (s.mrOutcome x st rkey).fld F.ETH_MR_STATUS_RKEY x.idx = rkey % 2 ^ F.ETH_MR_STATUS_RKEY.width := by
  unfold State.mrOutcome
  refine ⟨?_, ?_⟩
  · rw [State.fld_bumpSeq_ne _ (by cases x <;> decide), State.fld_setF_place _ _ (by decide), State.fld_setF_same]
    exact Nat.mod_eq_of_lt st.code_lt
  · rw [State.fld_bumpSeq_ne _ (by cases x <;> decide), State.fld_setF_same]

section Register
variable {c rights va pages : Nat}

theorem State.mrRegister_noRights (h : rights % 8 = 0) : s.mrRegister x c rights = s.mrOutcome x .badDescriptor 0 := by
  unfold State.mrRegister
  exact if_pos (.inl h)

/-- Whether an index of the region table is free. -/
def State.regionFree (s : State) (i : Nat) : Bool := match s.eth.regions.get? i with | some r => !r.valid | none => true

/-- The region and its outcome under an index and a generation. -/
def State.mrEnter (s : State) (x : SeatId) (i g c va pages rights : Nat) (es : List Extent) : State :=
  (es.foldl (fun s e => s.takePin c e.va) ({ s with
    eth.regions := s.eth.regions.put i ⟨g, true, c, va, pages, rights % 8, es.map (fun e => ⟨e.va, e.len, e.dga, e.cls⟩)⟩ } : State)).mrOutcome x .done
      (g * 65536 + i)

section Checked
variable (hr : rights % 8 ≠ 0) (hva : s.fld F.ETH_MR_VA_VALUE x.idx = va) (hpg : s.fld F.ETH_MR_LEN_VALUE x.idx = pages)
  (hal : va % 4096 = 0) (hlt : va < 2 ^ 56) (hp0 : pages ≠ 0) (hp : pages < 2 ^ 37) (hc : c < 8192) (hen : s.ctxEnabled c = true)
  (hend : va + pages * pageBytes ≤ 2 ^ 56)
include hr hva hpg hal hlt hp0 hp hc hen hend

theorem State.mrRegister_uncovered {st : Status} (h : s.regionExtents c va (pages * pageBytes) = .error st) :
    s.mrRegister x c rights = s.mrOutcome x st 0 := by
  subst hva hpg
  unfold State.mrRegister
  dsimp only
  rw [if_neg (by omega), if_neg (by simp [hen]; omega), if_neg (by omega), h]

theorem State.mrRegister_covered {es : List Extent} {i : Nat} (h : s.regionExtents c va (pages * pageBytes) = .ok es)
    (hi : (List.range 65536).find? s.regionFree = some i) : ∃ g, s.mrRegister x c rights = s.mrEnter x i g c va pages rights es := by
  subst hva hpg
  unfold State.mrRegister
  dsimp only
  rw [if_neg (by omega), if_neg (by simp [hen]; omega), if_neg (by omega), h]
  dsimp only
  split
  next hnone =>
    change (List.range 65536).find? s.regionFree = none at hnone
    rw [hi] at hnone
    cases hnone
  next j hj =>
    change (List.range 65536).find? s.regionFree = some j at hj
    rw [hi] at hj
    cases hj
    exact ⟨_, rfl⟩

end Checked

end Register

/-- What a new region's entry and outcome show. -/
theorem State.mrEnter_shows (s : State) (x : SeatId) (i g c va pages rights : Nat) (es : List Extent) :
    (s.mrEnter x i g c va pages rights es).eth.regions.get? i =
        some ⟨g, true, c, va, pages, rights % 8, es.map (fun e => ⟨e.va, e.len, e.dga, e.cls⟩)⟩ ∧
      (s.mrEnter x i g c va pages rights es).fld F.ETH_MR_STATUS_STATUS x.idx = 0 ∧
      (s.mrEnter x i g c va pages rights es).fld F.ETH_MR_STATUS_RKEY x.idx = (g * 65536 + i) % 2 ^ F.ETH_MR_STATUS_RKEY.width ∧
      (s.mrEnter x i g c va pages rights es).mem = s.mem := by
  unfold State.mrEnter
  obtain ⟨hst, hkey⟩ := State.mrOutcome_shows (es.foldl (fun s e => s.takePin c e.va) ({ s with
    eth.regions := s.eth.regions.put i ⟨g, true, c, va, pages, rights % 8, es.map (fun e => ⟨e.va, e.len, e.dga, e.cls⟩)⟩ } : State)) x .done
      (g * 65536 + i)
  refine ⟨?_, hst, hkey, ?_⟩
  · obtain ⟨y, hy⟩ := State.takePins_frame ({ s with
      eth.regions := s.eth.regions.put i ⟨g, true, c, va, pages, rights % 8, es.map (fun e => ⟨e.va, e.len, e.dga, e.cls⟩)⟩ } : State) c es
    rw [hy]
    exact Tbl.get?_put_same _ _ _
  · obtain ⟨y, hy⟩ := State.takePins_frame ({ s with
      eth.regions := s.eth.regions.put i ⟨g, true, c, va, pages, rights % 8, es.map (fun e => ⟨e.va, e.len, e.dga, e.cls⟩)⟩ } : State) c es
    rw [hy]
    rfl

theorem State.mrDeregister_unknown {rkey : Nat} (h : s.eth.regions.get? (rkey % 65536) = none) :
    s.mrDeregister x rkey = s.mrOutcome x .badDescriptor rkey := by
  rw [State.mrDeregister, h]

/-- A withdrawn region, its pins released. -/
def State.mrWithdraw (s : State) (rkey : Nat) (r : MemRegion) : State :=
  r.exts.foldl (fun s e => s.dropPin r.ctx e.ext) ({ s with eth.regions := s.eth.regions.put (rkey % 65536) { r with valid := false } } : State)

theorem State.mrDeregister_valid {rkey : Nat} {r : MemRegion} (h : s.eth.regions.get? (rkey % 65536) = some r) (hv : r.valid = true)
    (hg : r.gen = rkey / 65536) : s.mrDeregister x rkey = (s.mrWithdraw rkey r).mrOutcome x .done rkey := by
  rw [State.mrDeregister, h]
  exact if_pos ⟨hv, hg⟩

theorem State.mrWithdraw_region (s : State) (rkey : Nat) (r : MemRegion) :
    (s.mrWithdraw rkey r).eth.regions.get? (rkey % 65536) = some { r with valid := false } := by
  have h := Upkeep.foldl (g := fun s (e : WorkRef) => s.dropPin r.ctx e.ext) r.exts (fun t e _ => .dropPin t r.ctx e.ext)
    ({ s with eth.regions := s.eth.regions.put (rkey % 65536) { r with valid := false } } : State)
  rw [State.mrWithdraw, h.eth]
  exact Tbl.get?_put_same _ _ _

/-! ### A seat's transfer -/

theorem State.xferPost_status (s : State) (x : SeatId) (st : Status) : (s.xferPost x st).fld F.ETH_XFER_STATUS_STATUS x.idx = st.code := by
  unfold State.xferPost
  rw [State.fld_bumpSeq_ne _ (by cases x <;> decide), State.fld_setF_same]
  exact Nat.mod_eq_of_lt st.code_lt

/-- The refusal of a transfer: its outcome and its record. -/
def State.xferRefused (s : State) (x : SeatId) (st : Status) (qp : Nat) : State := (s.xferPost x st).ethRecord qp st

theorem State.ethRecord_shows (s : State) (qp : Nat) (st : Status) {f : Fld} {b : Nat} (h : f.key b ∉ logKeys) :
    (s.ethRecord qp st).fld f b = s.fld f b ∧ (s.ethRecord qp st).eth = s.eth := by
  unfold State.ethRecord
  split
  · exact ⟨State.fld_logErr _ _ h, by rw [State.logErr_frame]⟩
  · exact ⟨State.fld_logErr _ _ h, by rw [State.logErr_frame]⟩

theorem State.xferRefused_shows (s : State) (x : SeatId) (st : Status) (qp : Nat) :
    (s.xferRefused x st qp).fld F.ETH_XFER_STATUS_STATUS x.idx = st.code ∧ (s.xferRefused x st qp).eth = s.eth := by
  obtain ⟨hfld, heth⟩ := (s.xferPost x st).ethRecord_shows qp st (f := F.ETH_XFER_STATUS_STATUS) (b := x.idx) (by cases x <;> decide)
  exact ⟨hfld.trans (s.xferPost_status x st), heth⟩

@[simp] theorem State.asked_seatXfer (s : State) (ch : ChanId) (x : SeatId) : (s.asked ch).seatXfer x = s.seatXfer x := by
  cases x <;> simp [State.seatXfer]
theorem State.asked_translateAt (s : State) (ch : ChanId) (c v n r : Nat) : (s.asked ch).translateAt c v n r = s.translateAt c v n r := by
  obtain ⟨a, b, h⟩ := s.asked_eq ch; rw [h]; rfl
theorem State.asked_regionExtents (s : State) (ch : ChanId) (c v n : Nat) : (s.asked ch).regionExtents c v n = s.regionExtents c v n := by
  obtain ⟨a, b, h⟩ := s.asked_eq ch; rw [h]; rfl
theorem State.asked_regionFree (s : State) (ch : ChanId) : (s.asked ch).regionFree = s.regionFree := by
  obtain ⟨a, b, h⟩ := s.asked_eq ch; rw [h]; rfl

section Submit
variable {push : Bool} {rkey qp : Nat}

theorem State.xferCommand_bounds {entry : Nat} (h : 8192 ≤ qp) : s.xferCommand x entry push rkey qp = s.seatErr x entry 0x160418 .bounds := if_pos h
theorem State.xferCommand_submits {entry : Nat} (h : qp < 8192) : s.xferCommand x entry push rkey qp = s.xferSubmit x push rkey qp :=
  if_neg (Nat.not_le.mpr h)

theorem State.xferSubmit_empty (h : s.fld F.ETH_XFER_LEN_VALUE x.idx = 0) : s.xferSubmit x push rkey qp = s.xferRefused x .badDescriptor qp := by
  unfold State.xferSubmit
  exact if_pos (.inl h)

variable (h0 : s.fld F.ETH_XFER_LEN_VALUE x.idx ≠ 0) (hlt : s.fld F.ETH_XFER_LEN_VALUE x.idx < 2 ^ 40)
include h0 hlt

theorem State.xferSubmit_conflict (h : (s.seatXfer x).isSome = true ∨ s.qpState qp ≠ .rts) :
    s.xferSubmit x push rkey qp = s.xferRefused x .stateConflict qp := by
  unfold State.xferSubmit
  dsimp only
  rw [if_neg (by omega)]
  exact if_pos h

variable (hno : s.seatXfer x = none) (hrts : s.qpState qp = .rts)
include hno hrts

theorem State.xferSubmit_untranslated {st : Status} {y : Nat} (h : s.translateAt qp (s.fld F.ETH_XFER_LVA_VALUE x.idx)
    (s.fld F.ETH_XFER_LEN_VALUE x.idx) (if push then rREAD else rWRITE) = .error (st, y)) : s.xferSubmit x push rkey qp = s.xferRefused x st qp := by
  unfold State.xferSubmit
  dsimp only
  rw [if_neg (by omega), if_neg (by simp [hno, hrts]), h]
  rfl

variable {t : Xlated} (ht : s.translateAt qp (s.fld F.ETH_XFER_LVA_VALUE x.idx) (s.fld F.ETH_XFER_LEN_VALUE x.idx) (if push then rREAD else rWRITE) =
  .ok t)
include ht

/-- The transfer that begins. -/
def State.xferBegun (s : State) (x : SeatId) (push : Bool) (rkey qp : Nat) (t : Xlated) : State :=
  let j : SeatXfer := ⟨push, qp, qp, s.fld F.ETH_XFER_RVA_VALUE x.idx, rkey, s.fld F.ETH_XFER_LEN_VALUE x.idx, t.dga, t.ext.cls, t.ext.va, 0, 0⟩
  (((s.takePin qp t.ext.va).setSeatXfer x (some j)).setF F.ETH_XFER_STATUS_BUSY 1 x.idx).setF F.ETH_XFER_STATUS_DONE_BYTES 0 x.idx

theorem State.xferSubmit_begins (hw : dgaWin t.dga = 2 → t.dga % 4096 = 0 ∧ s.fld F.ETH_XFER_LEN_VALUE x.idx % 4096 = 0) :
    s.xferSubmit x push rkey qp = (s.xferBegun x push rkey qp t).xferStep x := by
  unfold State.xferSubmit
  dsimp only
  rw [if_neg (by omega), if_neg (by simp [hno, hrts]), ht]
  refine if_neg ?_
  rintro ⟨h, hal⟩
  obtain ⟨hd, hl⟩ := hw h
  omega

end Submit

theorem State.seatXfer_setSeatXfer (s : State) (x : SeatId) (j : Option SeatXfer) : (s.setSeatXfer x j).seatXfer x = j := by cases x <;> rfl

theorem State.xferBegun_shows (s : State) (x : SeatId) (push : Bool) (rkey qp : Nat) (t : Xlated) :
    (s.xferBegun x push rkey qp t).seatXfer x = some ⟨push, qp, qp, s.fld F.ETH_XFER_RVA_VALUE x.idx, rkey, s.fld F.ETH_XFER_LEN_VALUE x.idx, t.dga,
        t.ext.cls, t.ext.va, 0, 0⟩ ∧
      (s.xferBegun x push rkey qp t).fld F.ETH_XFER_STATUS_BUSY x.idx = 1 ∧ (s.xferBegun x push rkey qp t).fld F.ETH_XFER_STATUS_DONE_BYTES x.idx = 0 ∧
      (s.xferBegun x push rkey qp t).mem = s.mem ∧ (s.xferBegun x push rkey qp t).fab = s.fab := by
  obtain ⟨y, hy⟩ := s.takePin_frame qp t.ext.va
  unfold State.xferBegun
  rw [hy]
  refine ⟨?_, ?_, State.fld_setF_same _ _ _ _, ?_, ?_⟩
  · cases x <;> rfl
  · rw [State.fld_setF_place _ _ (by decide), State.fld_setF_same]; rfl
  · cases x <;> rfl
  · cases x <;> rfl

/-- ABORT ends the transfer. -/
theorem State.xferAbort_ends {j : SeatXfer} (h : s.seatXfer x = some j) : (s.xferAbort x).seatXfer x = none ∧
    (s.xferAbort x).fld F.ETH_XFER_STATUS_BUSY x.idx = 0 ∧ (s.xferAbort x).fld F.ETH_XFER_STATUS_STATUS x.idx = Status.stateConflict.code := by
  have hend (t : State) (ht : t.seatXfer x = some j) : t.xferFinish x .stateConflict false =
      (((t.setSeatXfer x none).setF F.ETH_XFER_STATUS_BUSY 0 x.idx).dropPin j.ctx j.ext).xferPost x .stateConflict := by
    rw [State.xferFinish, ht]; rfl
  have hgo (t : State) (ht : t.seatXfer x = some j) : (t.xferFinish x .stateConflict false).seatXfer x = none ∧
      (t.xferFinish x .stateConflict false).fld F.ETH_XFER_STATUS_BUSY x.idx = 0 ∧
      (t.xferFinish x .stateConflict false).fld F.ETH_XFER_STATUS_STATUS x.idx = Status.stateConflict.code := by
    rw [hend t ht]
    have hdrop := Upkeep.dropPin ((t.setSeatXfer x none).setF F.ETH_XFER_STATUS_BUSY 0 x.idx) j.ctx j.ext
    refine ⟨?_, ?_, State.xferPost_status _ _ _⟩
    · have heth := hdrop.eth
      cases x
      · exact congrArg Eth.xferA heth
      · exact congrArg Eth.xferB heth
    · rw [State.xferPost, State.fld_bumpSeq_ne _ (by cases x <;> decide), State.fld_setF_place _ _ (by decide), hdrop.fld (by decide),
        State.fld_setF_same]; rfl
  unfold State.xferAbort
  rw [h]
  exact hgo _ (by cases x <;> exact h)

/-! ### Time -/

/-- The registers that follow the lock of the time base and the gate list. -/
def clockPlaces : List Nat :=
  [F.ETH_PTP_STATUS_LOCK.place, F.SWS_GATE_STATUS_ENTRY.place, F.SWS_GATE_STATUS_STATE.place, F.SWS_GATE_STATUS_STEPS.place, F.SWS_SCHED_OVERRUN.place]

/-- The lock and the gate list may have changed, and nothing else. -/
structure ClockOnly (s u : State) : Prop where
  eq : ∃ r w, u = { s with regs := r, sws := w }
  places : s.keepsPlaces u clockPlaces

theorem ClockOnly.refl (s : State) : ClockOnly s s := ⟨⟨_, _, rfl⟩, fun _ _ _ => rfl⟩
theorem ClockOnly.trans (h : ClockOnly s t) (h' : ClockOnly t u) : ClockOnly s u := by
  obtain ⟨⟨r, w, rfl⟩, hp⟩ := h
  obtain ⟨⟨r', w', rfl⟩, hp'⟩ := h'
  exact ⟨⟨_, _, rfl⟩, hp.trans hp'⟩
theorem ClockOnly.setF (s : State) {f : Fld} (v b : Nat) (h : f.place ∈ clockPlaces) : ClockOnly s (s.setF f v b) :=
  ⟨⟨_, _, rfl⟩, s.keepsPlaces_setF v b h⟩
theorem ClockOnly.withSws (s : State) (w : Sws) : ClockOnly s { s with sws := w } := ⟨⟨_, _, rfl⟩, State.keepsPlaces_of_regs rfl⟩
theorem ClockOnly.eth (h : ClockOnly s u) : u.eth = s.eth := by obtain ⟨⟨_, _, rfl⟩, -⟩ := h; rfl
theorem ClockOnly.mem (h : ClockOnly s u) : u.mem = s.mem := by obtain ⟨⟨_, _, rfl⟩, -⟩ := h; rfl
theorem ClockOnly.fld (h : ClockOnly s u) {f : Fld} (hf : f.place ∉ clockPlaces) (b : Nat) : u.fld f b = s.fld f b := h.places f b hf

theorem ClockOnly.gateStart (s : State) : ClockOnly s s.gateStart := by
  unfold State.gateStart
  dsimp only
  split
  · exact .refl s
  · exact (ClockOnly.setF s _ _ (by decide)).trans (.withSws _ _)

theorem ClockOnly.gateTimeStep (s : State) : ClockOnly s s.gateTimeStep := by
  have hstep : ClockOnly s (s.gateStart.count F.SWS_GATE_STATUS_STEPS) := (ClockOnly.gateStart s).trans (.setF _ _ _ (by decide))
  unfold State.gateTimeStep
  split
  · exact .refl s
  · dsimp only
    split
    · exact hstep
    · exact hstep.trans (.setF _ _ _ (by decide))

theorem ClockOnly.setLock (s : State) (b : Bool) : ClockOnly s (s.setLock b) := by
  have hgain (t : State) : ClockOnly t t.gateLockGained := by
    unfold State.gateLockGained
    dsimp only
    split
    · exact .setF _ _ _ (by decide)
    · split
      · exact (ClockOnly.setF _ _ _ (by decide)).trans (.gateStart _)
      · exact .refl t
  have hlose (t : State) : ClockOnly t t.gateLockLost := by
    unfold State.gateLockLost
    split
    · exact (ClockOnly.setF _ _ _ (by decide)).trans (.withSws _ _)
    · exact .refl t
  unfold State.setLock
  split
  · split
    · exact .refl s
    · exact (ClockOnly.setF s _ _ (by decide)).trans (hgain _)
  · split
    · exact (ClockOnly.setF s _ _ (by decide)).trans (hlose _)
    · exact .refl s

theorem State.gateLockGained_lock (s : State) : s.gateLockGained.fld F.ETH_PTP_STATUS_LOCK = s.fld F.ETH_PTP_STATUS_LOCK := by
  have hstart (t : State) : t.gateStart.fld F.ETH_PTP_STATUS_LOCK = t.fld F.ETH_PTP_STATUS_LOCK := by
    unfold State.gateStart
    dsimp only
    split
    · rfl
    · exact (State.fld_congr (s := t.setF F.SWS_GATE_STATUS_ENTRY _) rfl _ _).trans (t.fld_setF_place _ (by decide))
  unfold State.gateLockGained
  dsimp only
  split
  · exact s.fld_setF_place _ (by decide)
  · split
    · rw [hstart]; exact s.fld_setF_place _ (by decide)
    · rfl

theorem State.gateLockLost_lock (s : State) : s.gateLockLost.fld F.ETH_PTP_STATUS_LOCK = s.fld F.ETH_PTP_STATUS_LOCK := by
  unfold State.gateLockLost
  split
  · exact (State.fld_congr (s := s.setF F.SWS_GATE_STATUS_STATE gHOLDOVER) rfl _ _).trans (s.fld_setF_place _ (by decide))
  · rfl

/-- The time base is locked, or not, as it is set. -/
theorem State.setLock_timeLocked (s : State) (b : Bool) : (s.setLock b).timeLocked = b := by
  cases b
  · unfold State.setLock
    rw [if_neg Bool.false_ne_true]
    split
    · rw [State.timeLocked, State.gateLockLost_lock, State.fld_setF_same]; rfl
    · next h => simpa using h
  · unfold State.setLock
    rw [if_pos rfl]
    split
    · assumption
    · rw [State.timeLocked, State.gateLockGained_lock, State.fld_setF_same]; rfl

/-- The clock after its time base is stepped. -/
def State.clockStepped (s : State) (off : Int) : State :=
  ({ s.setF F.ETH_PTP_STATUS_OFFSET_NS (ofSigned 32 off) with eth.timeOffset := s.eth.timeOffset - off, eth.lastSync := s.now } : State).count
    F.ETH_PTP_STATUS_STEPS

theorem State.clockStepped_fld (s : State) (off : Int) {f : Fld} (h1 : F.ETH_PTP_STATUS_STEPS.place ≠ f.place)
    (h2 : F.ETH_PTP_STATUS_OFFSET_NS.place ≠ f.place) : (s.clockStepped off).fld f = s.fld f :=
  (State.fld_setF_place _ _ h1).trans ((State.fld_congr (s := s.setF F.ETH_PTP_STATUS_OFFSET_NS (ofSigned 32 off)) rfl _ _).trans
    (s.fld_setF_place _ h2))

theorem State.clockStepped_counted (s : State) (off : Int) : s.counted (s.clockStepped off) F.ETH_PTP_STATUS_STEPS := by
  have hkept : ({ s.setF F.ETH_PTP_STATUS_OFFSET_NS (ofSigned 32 off) with eth.timeOffset := s.eth.timeOffset - off, eth.lastSync := s.now } :
      State).fld F.ETH_PTP_STATUS_STEPS = s.fld F.ETH_PTP_STATUS_STEPS :=
    (State.fld_congr (s := s.setF F.ETH_PTP_STATUS_OFFSET_NS (ofSigned 32 off)) rfl _ _).trans (s.fld_setF_place _ (by decide))
  rw [State.counted, State.clockStepped, State.fld_count_same, State.fld_count_same, hkept]

theorem State.clockStepped_eth (s : State) (off : Int) : (s.clockStepped off).eth.tx = s.eth.tx ∧
    (s.clockStepped off).eth.goodSyncs = s.eth.goodSyncs ∧ (s.clockStepped off).eth.timeOffset = s.eth.timeOffset - off ∧
    (s.clockStepped off).mem = s.mem := ⟨rfl, rfl, rfl, rfl⟩

/-- What a Sync that corrects the clock leaves. -/
theorem State.correctTime_spec (s : State) (off : Int) : (s.correctTime off).fld F.ETH_PTP_STATUS_SOURCE = s.fld F.ETH_PTP_STATUS_SOURCE ∧
    (s.correctTime off).fld F.ETH_PTP_STATUS_PORT = s.fld F.ETH_PTP_STATUS_PORT ∧ (s.correctTime off).eth.tx = s.eth.tx ∧
    (s.correctTime off).eth.goodSyncs = s.eth.goodSyncs ∧ (s.correctTime off).mem = s.mem ∧
    (1000 < off.natAbs → (s.correctTime off).eth.timeOffset = s.eth.timeOffset - off ∧ s.counted (s.correctTime off) F.ETH_PTP_STATUS_STEPS) := by
  by_cases h : off.natAbs > 1000
  · have hstep := ClockOnly.gateTimeStep (s.clockStepped off)
    obtain ⟨htx, hgood, htime, hmem⟩ := s.clockStepped_eth off
    have hsource := s.clockStepped_fld off (f := F.ETH_PTP_STATUS_SOURCE) (by decide) (by decide)
    have hport := s.clockStepped_fld off (f := F.ETH_PTP_STATUS_PORT) (by decide) (by decide)
    rw [show s.correctTime off = (s.clockStepped off).gateTimeStep from if_pos h, hstep.eth, hstep.mem, hstep.fld (by decide), hstep.fld (by decide)]
    refine ⟨hsource, hport, htx, hgood, hmem, fun _ => ⟨htime, ?_⟩⟩
    rw [State.counted, hstep.fld (by decide)]
    exact s.clockStepped_counted off
  · unfold State.correctTime
    dsimp only
    rw [if_neg h]
    exact ⟨s.fld_setF_place _ (by decide), s.fld_setF_place _ (by decide), rfl, rfl, rfl, fun h' => absurd h' h⟩

section Ptp
variable {port pd : Nat} {off : Int}

theorem State.ptpMessage_other (h : s.fldBit F.ETH_PTP_CFG_PORTS port = false ∨ pd ≠ s.fld F.ETH_PTP_CFG_DOMAIN) : s.ptpMessage port pd off = s := by
  unfold State.ptpMessage
  exact if_pos (h.imp (by simp) id)

/-- A Sync that is taken: its port has a master and asks for the delay. -/
def State.syncTaken (s : State) (port : Nat) : State :=
  { s.setF (F.ETH_PORT_STATUS_PTP.at port) 2 with eth.tx := s.eth.tx ++ [⟨port, 0, false, .delayReq⟩] }

theorem ptpPort_apart (_ : port < 4) : (F.ETH_PORT_STATUS_PTP.at port).place ∉ [F.ETH_PTP_STATUS_SOURCE.place, F.ETH_PTP_STATUS_LOCK.place,
    F.ETH_PTP_STATUS_STEPS.place] := by
  simp [Fld.place, Fld.at, F.ETH_PORT_STATUS_PTP, F.ETH_PTP_STATUS_SOURCE, F.ETH_PTP_STATUS_LOCK, F.ETH_PTP_STATUS_STEPS]
  omega

theorem State.syncTaken_fld (hp : port < 4) {f : Fld} (hf : f = F.ETH_PTP_STATUS_SOURCE ∨ f = F.ETH_PTP_STATUS_LOCK ∨ f = F.ETH_PTP_STATUS_STEPS) :
    (s.syncTaken port).fld f = s.fld f := by
  have h := ptpPort_apart hp
  simp only [List.mem_cons, List.not_mem_nil, or_false, not_or] at h
  obtain ⟨h1, h2, h3⟩ := h
  refine (State.fld_congr (s := s.setF (F.ETH_PORT_STATUS_PTP.at port) 2) rfl _ _).trans ?_
  rcases hf with rfl | rfl | rfl
  · exact s.fld_setF_place _ h1
  · exact s.fld_setF_place _ h2
  · exact s.fld_setF_place _ h3

/-- While time comes from another member a Sync only counts. -/
theorem State.ptpMessage_counts (hp : port < 4) (hon : s.fldBit F.ETH_PTP_CFG_PORTS port = true) (hd : pd = s.fld F.ETH_PTP_CFG_DOMAIN)
    (hsrc : s.fld F.ETH_PTP_STATUS_SOURCE = 2) (hfew : 100 < off.natAbs ∨ s.eth.goodSyncs < 15) : s.ptpMessage port pd off =
      { s.syncTaken port with eth.goodSyncs := if off.natAbs ≤ 100 then s.eth.goodSyncs + 1 else 0 } := by
  have hs := State.syncTaken_fld (s := s) hp (.inl rfl)
  unfold State.ptpMessage
  rw [if_neg (by simp [hon, hd])]
  exact if_pos ⟨hs.trans hsrc, hfew⟩

/-- A Sync that makes the port the source of time, once the clock is corrected. -/
def State.syncFollows (t : State) (off : Int) : State :=
  if off.natAbs > 1000 then ({ t with eth.goodSyncs := 0 } : State).setLock false
  else if off.natAbs ≤ 100 then
    if t.eth.goodSyncs + 1 ≥ 16 then ({ t with eth.goodSyncs := t.eth.goodSyncs + 1 } : State).setLock true
    else { t with eth.goodSyncs := t.eth.goodSyncs + 1 }
  else { t with eth.goodSyncs := 0 }

theorem State.ptpMessage_follows (hp : port < 4) (hon : s.fldBit F.ETH_PTP_CFG_PORTS port = true) (hd : pd = s.fld F.ETH_PTP_CFG_DOMAIN)
    (hgo : s.fld F.ETH_PTP_STATUS_SOURCE ≠ 2 ∨ (off.natAbs ≤ 100 ∧ 15 ≤ s.eth.goodSyncs)) : s.ptpMessage port pd off =
      ((((s.syncTaken port).setF F.ETH_PTP_STATUS_SOURCE 1).setF F.ETH_PTP_STATUS_PORT port).correctTime off).syncFollows off := by
  have hs := State.syncTaken_fld (s := s) hp (.inl rfl)
  unfold State.ptpMessage
  rw [if_neg (by simp [hon, hd])]
  refine if_neg ?_
  rintro ⟨hsrc, hfew⟩
  have hsrc' : s.fld F.ETH_PTP_STATUS_SOURCE = 2 := hs.symm.trans hsrc
  have hfew' : 100 < off.natAbs ∨ s.eth.goodSyncs < 15 := hfew
  omega

theorem State.syncFollows_clock (t : State) (off : Int) : ∃ v, ClockOnly v (t.syncFollows off) ∧ v.regs = t.regs ∧ v.mem = t.mem ∧
    v.eth.tx = t.eth.tx ∧ v.eth.timeOffset = t.eth.timeOffset ∧ (off.natAbs ≤ 100 → v.eth.goodSyncs = t.eth.goodSyncs + 1) ∧
    (1000 < off.natAbs → v.eth.goodSyncs = 0) := by
  unfold State.syncFollows
  split
  · exact ⟨_, .setLock _ _, rfl, rfl, rfl, rfl, fun h => by omega, fun _ => rfl⟩
  · split
    · split
      · exact ⟨_, .setLock _ _, rfl, rfl, rfl, rfl, fun _ => rfl, fun h => by omega⟩
      · exact ⟨_, .refl _, rfl, rfl, rfl, rfl, fun _ => rfl, fun h => by omega⟩
    · exact ⟨_, .refl _, rfl, rfl, rfl, rfl, fun h => by omega, fun _ => rfl⟩

theorem State.syncFollows_locked (t : State) (h : off.natAbs ≤ 100) (h16 : 16 ≤ t.eth.goodSyncs + 1) : (t.syncFollows off).timeLocked = true := by
  rw [State.syncFollows, if_neg (by omega), if_pos h, if_pos h16]
  exact State.setLock_timeLocked _ true

theorem State.syncFollows_unlocked (t : State) (h : 1000 < off.natAbs) : (t.syncFollows off).timeLocked = false := by
  rw [State.syncFollows, if_pos h]
  exact State.setLock_timeLocked _ false

end Ptp

theorem State.ptpAnnounceTimeout_drops (h : s.fld F.ETH_PTP_STATUS_SOURCE = 1) : s.ptpAnnounceTimeout.fld F.ETH_PTP_STATUS_SOURCE = 0 ∧
    s.ptpAnnounceTimeout.eth.goodSyncs = 0 ∧ s.ptpAnnounceTimeout.timeLocked = false := by
  unfold State.ptpAnnounceTimeout
  rw [if_pos h]
  dsimp only
  generalize s.setF (F.ETH_PORT_STATUS_PTP.at (s.fld F.ETH_PTP_STATUS_PORT)) 1 = t
  have hclock := ClockOnly.setLock ((({ t with eth.goodSyncs := 0 } : State)).setF F.ETH_PTP_STATUS_SOURCE 0) false
  exact ⟨(hclock.fld (by decide) 0).trans (State.fld_setF_same _ _ _ _), congrArg Eth.goodSyncs hclock.eth, State.setLock_timeLocked _ false⟩

/-! ### The obligation -/

theorem seatTransfers_push {rkey qp : Nat} {c : Instr} {flag : Bool} {right : Nat}
    (hc : (c, flag, right) ∈ [(Instr.xferPush ch rkey qp, true, rREAD), (.xferPull ch rkey qp, false, rWRITE)]) (hqp : qp < 16384) (s : State) :
    exec c s = s.runOn [] (fun s => s.bySeat ch (fun x n s => s.xferCommand x n flag rkey qp)) ∧ right = if flag then rREAD else rWRITE := by
  simp only [List.mem_cons, Prod.mk.injEq, List.not_mem_nil, or_false] at hc
  rcases hc with ⟨rfl, rfl, rfl⟩ | ⟨rfl, rfl, rfl⟩
  · refine ⟨?_, rfl⟩
    rw [exec_xferPush, execXferPush, Nat.mod_eq_of_lt hqp]
  · refine ⟨?_, rfl⟩
    rw [exec_xferPull, execXferPull, Nat.mod_eq_of_lt hqp]

/-- A Sync that the clock follows. -/
theorem syncFollows_spec {port : Nat} {off : Int} (hp : port < 4) :
    ∃ u, u = ((((s.syncTaken port).setF F.ETH_PTP_STATUS_SOURCE 1).setF F.ETH_PTP_STATUS_PORT port).correctTime off).syncFollows off ∧
      u.fld F.ETH_PTP_STATUS_SOURCE = 1 ∧ u.fld F.ETH_PTP_STATUS_PORT = port ∧ u.eth.tx = s.eth.tx ++ [⟨port, 0, false, .delayReq⟩] ∧ u.mem = s.mem ∧
      (off.natAbs ≤ 100 → u.eth.goodSyncs = s.eth.goodSyncs + 1 ∧ (16 ≤ s.eth.goodSyncs + 1 → u.timeLocked = true)) ∧
      (1000 < off.natAbs → u.eth.goodSyncs = 0 ∧ u.timeLocked = false ∧ u.eth.timeOffset = s.eth.timeOffset - off ∧
        s.counted u F.ETH_PTP_STATUS_STEPS) := by
  obtain ⟨hsource, hport, htx, hgood, hmem, hfar⟩ :=
    (((s.syncTaken port).setF F.ETH_PTP_STATUS_SOURCE 1).setF F.ETH_PTP_STATUS_PORT port).correctTime_spec off
  generalize hc : (((s.syncTaken port).setF F.ETH_PTP_STATUS_SOURCE 1).setF F.ETH_PTP_STATUS_PORT port).correctTime off = t at *
  obtain ⟨v, hclock, hregs, hvmem, hvtx, hvtime, hnear, hzero⟩ := t.syncFollows_clock off
  have hfld (f : Fld) (hf : f.place ∉ clockPlaces) : (t.syncFollows off).fld f = t.fld f := (hclock.fld hf 0).trans (State.fld_congr hregs f 0)
  refine ⟨_, rfl, ?_, ?_, ?_, ?_, fun h => ⟨?_, fun h16 => ?_⟩, fun h => ⟨?_, State.syncFollows_unlocked t h, ?_, ?_⟩⟩
  · rw [hfld _ (by decide), hsource, State.fld_setF_place _ _ (by decide), State.fld_setF_same]; rfl
  · rw [hfld _ (by decide), hport, State.fld_setF_same]
    exact Nat.mod_eq_of_lt hp
  · rw [hclock.eth, hvtx, htx]; rfl
  · rw [hclock.mem, hvmem, hmem]; rfl
  · rw [hclock.eth, hnear h, hgood]; rfl
  · exact State.syncFollows_locked t h (by rw [hgood]; exact h16)
  · rw [hclock.eth, hzero h]
  · rw [hclock.eth, hvtime, (hfar h).1]; rfl
  · rw [State.counted, hfld _ (by decide), (hfar h).2, State.fld_count_same, State.fld_count_same, State.fld_setF_place _ _ (by decide),
      State.fld_setF_place _ _ (by decide), State.syncTaken_fld hp (by simp)]

/-- Settles O46: each command of a seat and each message of the clock by the lemma that says what it leaves. -/
theorem seatTransfersAndTime : Obligations.SeatTransfersAndTime := by
  intro s ch n c rights rkey qp va pages len x es r t j
  refine ⟨?_, ?_⟩
  · rintro hcmd hc hva hpages hlen
    have hcc : c % 8192 = c := Nat.mod_eq_of_lt hc
    have hreg {u : State} (h : (s.asked ch).mrRegister x c (rights % 8) = u) : AnswersThen (.mrRegister ch c rights) s u :=
      seat_answersThen (exec_mrRegister s ch c rights) hcmd (by rw [hcc]; exact h)
    have hdereg {u : State} (h : (s.asked ch).mrDeregister x rkey = u) : AnswersThen (.mrDeregister ch rkey) s u :=
      seat_answersThen (exec_mrDeregister s ch rkey) hcmd h
    have hab {u : State} (h : (s.asked ch).xferAbort x = u) : AnswersThen (.xferAbort ch) s u := seat_answersThen (exec_xferAbort s ch) hcmd h
    have hmr (t : State) (st : Status) (k : Nat) : (t.mrOutcome x st k).eth = t.eth := rfl
    refine ⟨fun h => ?_, fun hr hal hp0 hp hen hend => ⟨fun st hlt he => ?_, fun i hlt he hi => ?_⟩, fun hno => ?_, fun hyes hv hg => ?_, ?_, fun hno => ?_,
      fun hj => ?_⟩
    · exact ⟨_, hreg (State.mrRegister_noRights (by omega)), (State.mrOutcome_shows _ _ _ _).1, (hmr _ _ _).trans (s.asked_eth ch)⟩
    · refine ⟨_, hreg (State.mrRegister_uncovered (by omega) (by simp [hva]) (by simp [hpages]) hal hlt hp0 hp hc (by simpa using hen) hend
        (by rw [State.asked_regionExtents]; exact he)), (State.mrOutcome_shows _ _ _ _).1, (hmr _ _ _).trans (s.asked_eth ch)⟩
    · obtain ⟨g, hgo⟩ := State.mrRegister_covered (s := s.asked ch) (x := x) (c := c) (rights := rights % 8) (by omega) (by simp [hva])
        (by simp [hpages]) hal hlt hp0 hp hc (by simpa using hen) hend (by rw [State.asked_regionExtents]; exact he)
        (by rw [State.asked_regionFree]; exact hi)
      obtain ⟨hent, hst, hkey, hmem⟩ := (s.asked ch).mrEnter_shows x i g c va pages (rights % 8) es
      rw [Nat.mod_mod] at hent
      exact ⟨_, g, hreg hgo, hent, hst, hkey, hmem.trans (s.asked_mem ch)⟩
    · exact ⟨_, hdereg (State.mrDeregister_unknown (by simpa using hno)), (State.mrOutcome_shows _ _ _ _).1, (hmr _ _ _).trans (s.asked_eth ch)⟩
    · exact ⟨_, hdereg (State.mrDeregister_valid (by simpa using hyes) hv hg), State.mrWithdraw_region _ _ _, (State.mrOutcome_shows _ _ _ _).1⟩
    · rintro ⟨i, flag, right⟩ hi
      dsimp only
      have hgo {u : State} (hqp : qp < 16384) (h : (s.asked ch).xferCommand x n flag rkey qp = u) : AnswersThen i s u :=
        seat_answersThen (seatTransfers_push hi hqp s).1 hcmd h
      refine ⟨fun hlow hhigh => ?_, fun hqp => ?_⟩
      · exact ⟨_, hgo hhigh (State.xferCommand_bounds hlow), State.seatErr_reports _ _ _ _ _⟩
      · have hsub {u : State} (h : (s.asked ch).xferSubmit x flag rkey qp = u) : AnswersThen i s u :=
          hgo (by omega) ((State.xferCommand_submits hqp).trans h)
        have hright := (seatTransfers_push hi (qp := qp) (by omega) s).2
        have href (st : Status) (h : (s.asked ch).xferSubmit x flag rkey qp = (s.asked ch).xferRefused x st qp) :
            ∃ u, AnswersThen i s u ∧ u.fld F.ETH_XFER_STATUS_STATUS x.idx = st.code ∧ u.eth = s.eth := by
          obtain ⟨hst, heth⟩ := (s.asked ch).xferRefused_shows x st qp
          exact ⟨_, hsub h, hst, heth.trans (s.asked_eth ch)⟩
        subst hlen hright
        refine ⟨fun h0 => href _ (State.xferSubmit_empty (by simpa using h0)), fun h0 hlt => ⟨fun hbusy => ?_, fun hno hrts => ⟨fun st y ht => ?_,
          fun ht => fun ⟨_, hw⟩ => ?_⟩⟩⟩
        · exact href _ (State.xferSubmit_conflict (by simpa using h0) (by simpa using hlt) (by simpa using hbusy))
        · exact href _ (State.xferSubmit_untranslated (by simpa using h0) (by simpa using hlt) (by simpa using hno) (by simpa using hrts) (y := y)
            (by rw [State.asked_translateAt, State.asked_fld, State.asked_fld]; exact ht))
        · obtain ⟨hseat, hbusy, hdone, hmem, hfab⟩ := (s.asked ch).xferBegun_shows x flag rkey qp t
          simp only [State.asked_fld] at hseat
          refine ⟨_, hsub (State.xferSubmit_begins (by simpa using h0) (by simpa using hlt) (by simpa using hno) (by simpa using hrts) (t := t)
            (by rw [State.asked_translateAt, State.asked_fld, State.asked_fld]; exact ht) (by simpa using hw)), hseat, hbusy, hdone,
            hmem.trans (s.asked_mem ch), hfab.trans ?_⟩
          obtain ⟨a, b, h⟩ := s.asked_eq ch
          rw [h]
    · refine ⟨(s.asked ch).xferPost x .stateConflict, hab ?_, State.xferPost_status _ _ _, s.asked_eth ch⟩
      rw [State.xferAbort, State.asked_seatXfer, hno]
    · exact ⟨_, hab rfl, State.xferAbort_ends (by simpa using hj)⟩
  · intro hs port dom off hp
    have hptp {u : State} (h : s.ptpMessage port (dom % 256) off = u) : AnswersThen (.ptpMessage port dom off) s u :=
      core_answersThen (exec_ptpMessage s port dom off) hs (by rw [Nat.mod_eq_of_lt hp]; exact h)
    have hann {u : State} (h : s.ptpAnnounceTimeout = u) : AnswersThen .ptpAnnounceTimeout s u :=
      core_answersThen (exec_ptpAnnounceTimeout s) (State.serves_nil hs) h
    refine ⟨fun h => hptp (State.ptpMessage_other h), fun hon hd => ⟨fun hsrc hfew => ?_, fun hgo => ?_⟩, fun h => ⟨_, hann rfl,
      State.ptpAnnounceTimeout_drops h⟩, fun h => ?_⟩
    · refine ⟨_, hptp (State.ptpMessage_counts hp hon hd hsrc hfew), ?_, rfl⟩
      exact (s.keepsFields_setF (f := F.ETH_PORT_STATUS_PTP.at port) (v := 2) (b := 0) (by simp)).trans (State.keepsFields_of_regs rfl)
    · obtain ⟨u, hu, hspec⟩ := syncFollows_spec (s := s) (off := off) hp
      exact ⟨u, hptp ((State.ptpMessage_follows hp hon hd hgo).trans hu.symm), hspec⟩
    · exact ⟨{ s with eth.goodSyncs := 0 }, hann (if_neg h), rfl, rfl, rfl⟩

end Sys2Proof.Machine
end

section
/-! Lanes and routes (R34, R255, R258, R259): what taking a lane out of service, or bringing it up, leaves alone. -/

namespace Sys2Proof.Machine

variable {s t u : State} {port lane : Nat}

/-- Registers, requests, the switch core, the log and the random draws may have changed, and nothing else. -/
def RoutesOnly (s u : State) : Prop := ∃ r f w a k, u = { s with regs := r, fab := f, sws := w, ras := a, free := k }

theorem RoutesOnly.refl (s : State) : RoutesOnly s s := ⟨_, _, _, _, _, rfl⟩
theorem RoutesOnly.trans (h : RoutesOnly s t) (h' : RoutesOnly t u) : RoutesOnly s u := by
  obtain ⟨r, f, w, a, k, rfl⟩ := h
  obtain ⟨r', f', w', a', k', rfl⟩ := h'
  exact ⟨_, _, _, _, _, rfl⟩
theorem RoutesOnly.setF (s : State) (f : Fld) (v b : Nat) : RoutesOnly s (s.setF f v b) := ⟨_, _, _, _, _, rfl⟩
theorem RoutesOnly.withFab (s : State) (f : Fab) : RoutesOnly s { s with fab := f } := ⟨_, _, _, _, _, rfl⟩
theorem RoutesOnly.withSws (s : State) (w : Sws) : RoutesOnly s { s with sws := w } := ⟨_, _, _, _, _, rfl⟩
theorem Traffic.routes (h : Traffic s u) : RoutesOnly s u := by
  obtain ⟨⟨r, f, w, rfl⟩, -, -⟩ := h
  exact ⟨_, _, _, _, _, rfl⟩
theorem RoutesOnly.logErr (s : State) (r : ErrRec) : RoutesOnly s (s.logErr r) := by
  rw [State.logErr_frame]
  exact ⟨_, _, _, _, _, rfl⟩
theorem RoutesOnly.foldl {α : Type} {g : State → α → State} (l : List α) (h : ∀ t a, RoutesOnly t (g t a)) (s : State) : RoutesOnly s (l.foldl g s) :=
  List.foldlRecOn (motive := fun t => RoutesOnly s t) l g (.refl s) fun t ht a _ => ht.trans (h t a)

theorem RoutesOnly.mem (h : RoutesOnly s u) : u.mem = s.mem := by obtain ⟨_, _, _, _, _, rfl⟩ := h; rfl
theorem RoutesOnly.dom (h : RoutesOnly s u) : u.dom = s.dom := by obtain ⟨_, _, _, _, _, rfl⟩ := h; rfl
theorem RoutesOnly.sil (h : RoutesOnly s u) : u.sil = s.sil := by obtain ⟨_, _, _, _, _, rfl⟩ := h; rfl
theorem RoutesOnly.ctl (h : RoutesOnly s u) : u.ctl = s.ctl := by obtain ⟨_, _, _, _, _, rfl⟩ := h; rfl
theorem RoutesOnly.laneState (h : RoutesOnly s u) (port lane : Nat) : u.laneState port lane = s.laneState port lane := by
  rw [State.laneState, h.dom]; rfl

/-! ### Paths -/

theorem RoutesOnly.setLink (s : State) (port : Nat) (l : Link) : RoutesOnly s (s.setLink port l) := .withFab s _

theorem RoutesOnly.resend (s : State) (r : Request) : RoutesOnly s (s.resend r) := by
  unfold State.resend
  dsimp only
  split
  · exact .refl s
  · exact ((RoutesOnly.withFab s _).trans (Traffic.noteUse _ _ _ _).routes).trans (Traffic.send _ _).routes

theorem RoutesOnly.pathDead (s : State) (d : Nat) (path : Path) : RoutesOnly s (s.pathDead d path) :=
  ((RoutesOnly.setF s _ _ _).trans (.withFab _ _)).trans (.foldl _ .resend _)

theorem RoutesOnly.sendMarker (s : State) (d vc : Nat) (path : Path) : RoutesOnly s (s.sendMarker d vc path) :=
  ((RoutesOnly.withFab s _).trans (.setF _ _ _ _)).trans (Traffic.enqueue _ _ _ _).routes

theorem RoutesOnly.reroute (s : State) (d : Nat) : RoutesOnly s (s.reroute d) := by
  have hmark (b : Bool) (l : List Nat) (old : Path) : RoutesOnly s (if b = true then l.foldl (fun s vc => s.sendMarker d vc old) s else s) := by
    cases b
    · exact .refl s
    · exact .foldl l (fun t vc => .sendMarker t d vc old) s
  have htable (t : State) (new : Path) : RoutesOnly t ((match new with
      | .relay r => (t.setF (F.FAB_MEMBER_RELAYED.at d) 1).setF (F.FAB_MEMBER_RELAY.at d) r
      | _ => (t.setF (F.FAB_MEMBER_RELAYED.at d) 0).setF (F.FAB_MEMBER_RELAY.at d) 0 : State).bumpEpoch d) := by
    cases new <;> exact ((RoutesOnly.setF t _ _ _).trans (.setF _ _ _ _)).trans (.setF _ _ _ _)
  have hold (t : State) (old : Path) : RoutesOnly t (match old with
      | .relay r => t.issue { op := opRELAY_DRAIN, vc := vcMGMT, dst := r, aux := d } (.control opRELAY_DRAIN (d + 64 * r))
      | _ => t.pathDead d old) := by
    cases old with
    | relay r => exact (Traffic.issue _ _ _).routes
    | _ => exact .pathDead _ _ _
  unfold State.reroute
  extract_lets old new s₁ dead s₂ s₃
  have h₁ : RoutesOnly s s₁ := hmark _ _ _
  have h₃ : RoutesOnly s₁ s₃ := htable s₁ new
  clear_value s₃
  split
  · exact .refl s
  · split
    · exact (h₁.trans h₃).trans (hold s₃ old)
    · exact h₁.trans h₃

/-! ### Lanes -/

theorem RoutesOnly.linkRecord (s : State) (port lane event : Nat) (st : Status) : RoutesOnly s (s.linkRecord port lane event st) := .logErr s _

theorem RoutesOnly.portDown (s : State) (port : Nat) : RoutesOnly s (s.portDown port) := by
  unfold State.portDown
  dsimp only
  refine ((RoutesOnly.linkRecord s port 0 2 .timeout).trans (.setLink _ _ _)).trans (.foldl _ (fun t d => ?_) _)
  split
  · split
    · exact (RoutesOnly.reroute t d).trans (.pathDead _ _ _)
    · exact .reroute t d
  · split
    · exact .pathDead t d _
    · exact .refl t

theorem RoutesOnly.showPort (s : State) (port : Nat) : RoutesOnly s (s.showPort port) := (RoutesOnly.setF s _ _ _).trans (.setF _ _ _ _)

/-- Setting a lane changes its entry in the lane table, and registers. -/
theorem State.setLane_frame (s : State) (port lane : Nat) (l : LaneState) :
    ∃ r, s.setLane port lane l = { s with dom.lanes := s.dom.lanes.put (laneKey port lane) l, regs := r } := by
  unfold State.setLane
  dsimp only
  split <;> exact ⟨_, rfl⟩

@[simp] theorem State.setLane_laneState (s : State) (port lane : Nat) (l : LaneState) : (s.setLane port lane l).laneState port lane = l := by
  obtain ⟨r, h⟩ := s.setLane_frame port lane l
  rw [State.laneState, h, Tbl.getD, Tbl.get?_put_same]; rfl

@[simp] theorem State.setLane_mem (s : State) (port lane : Nat) (l : LaneState) : (s.setLane port lane l).mem = s.mem := by
  obtain ⟨r, h⟩ := s.setLane_frame port lane l; rw [h]
@[simp] theorem State.setLane_fab (s : State) (port lane : Nat) (l : LaneState) : (s.setLane port lane l).fab = s.fab := by
  obtain ⟨r, h⟩ := s.setLane_frame port lane l; rw [h]
@[simp] theorem State.setLane_sil (s : State) (port lane : Nat) (l : LaneState) : (s.setLane port lane l).sil = s.sil := by
  obtain ⟨r, h⟩ := s.setLane_frame port lane l; rw [h]

/-- A lane that leaves service with a state shows it, and memory stays. -/
theorem State.laneOut_spec {l : LaneState} (h : lane < s.portWidth port) : (s.laneOut port lane l).laneState port lane = l ∧
    (s.laneOut port lane l).mem = s.mem := by
  unfold State.laneOut
  dsimp only
  split
  · have hgo (u : State) (hu : RoutesOnly (s.setLane port lane l) u) : u.laneState port lane = l ∧ u.mem = s.mem :=
      ⟨(hu.laneState port lane).trans (s.setLane_laneState port lane l), hu.mem.trans (s.setLane_mem port lane l)⟩
    split
    · split
      · exact hgo _ (.linkRecord _ _ _ _ _)
      · exact hgo _ ((RoutesOnly.linkRecord _ _ _ _ _).trans (.portDown _ _))
    · exact hgo _ (.refl _)
  · next hn => exact ⟨by tauto, rfl⟩

theorem State.aportLost_other (s : State) (h : isAport port = false) : s.aportLost port = s := by simp [State.aportLost, h]

theorem State.laneLost_up (h : isAport port = false) (hup : s.laneState port lane = .up) : s.laneLost port lane = s.laneOut port lane .training := by
  rw [State.laneLost, if_neg (not_not.mpr hup), State.aportLost_other _ h, State.laneDown, if_pos hup]

end Sys2Proof.Machine
end

section
/-! Frames on a lane, and a seat's lane commands (R254, R255, R263). -/

namespace Sys2Proof.Machine

variable {s t u : State} {port lane : Nat}

/-! ### Links -/

@[simp] theorem State.link_setLink_same (s : State) (port : Nat) (l : Link) : (s.setLink port l).link port = l := by
  rw [State.link, State.setLink, Tbl.getD, Tbl.get?_put_same]; rfl
theorem State.link_setLink_ne (s : State) {port j : Nat} (l : Link) (h : j ≠ port) : (s.setLink port l).link j = s.link j := by
  rw [State.link, State.setLink, Tbl.getD, Tbl.get?_put_ne _ _ (Ne.symm h)]; rfl
theorem State.link_setF (s : State) (f : Fld) (v b j : Nat) : (s.setF f v b).link j = s.link j := rfl

/-- Corrected code words change no more of a link than their count. -/
theorem State.countCorrected_link (s : State) (port n : Nat) :
    ∃ k, (s.countCorrected port n).link port = { s.link port with corrected := k } := ⟨_, s.link_setLink_same port _⟩
theorem State.countCorrected_link_ne (s : State) {port j : Nat} (n : Nat) (h : j ≠ port) : (s.countCorrected port n).link j = s.link j :=
  s.link_setLink_ne _ h
theorem State.countCorrected_fld (s : State) (port n : Nat) {g : Fld} (h : F.FAB_PORT_ERR_CORRECTED.place ≠ g.place) (i : Nat) :
    (s.countCorrected port n).fld g i = s.fld g i := (State.fld_setF_place (s.setLink port _) _ h).trans rfl
theorem State.countCorrected_frame (s : State) (port n : Nat) : (s.countCorrected port n).mem = s.mem ∧ (s.countCorrected port n).dom = s.dom :=
  ⟨rfl, rfl⟩

/-! ### Frames -/

theorem State.linkFrame_down {f : Frame} (h : s.laneState port lane ≠ .up) : s.linkFrame port lane f = s := if_pos h

/-- What a link holds after a frame in sequence. -/
def Link.taken (l : Link) (f : Frame) : Link :=
  let kept := match f.ack with | some a => l.retryBuf.filter (fun q => !seqLe q.1 a) | none => l.retryBuf
  { l with rxSeq := (l.rxSeq + 1) % 4096, rxRetries := 0, retryBuf := kept,
           credits := f.credits.foldl (fun (t : Tbl Nat) c => t.put c.1 (t.getD c.1 0 + c.2)) l.credits,
           sameRetries := if kept.length != l.retryBuf.length then 0 else l.sameRetries }

theorem State.linkFrame_taken {f : Frame} (hup : s.laneState port lane = .up) (h0 : f.fault = 0) (hseq : f.seq % 4096 = (s.link port).rxSeq)
    (hr : f.retryFrom = none) : s.linkFrame port lane f =
      (s.countCorrected port f.corrected).setLink port (((s.countCorrected port f.corrected).link port).taken f) := by
  obtain ⟨k, hk⟩ := s.countCorrected_link port f.corrected
  unfold State.linkFrame
  rw [if_neg (not_not.mpr hup), if_neg (not_not.mpr h0), if_neg (by rw [hk]; exact not_not.mpr hseq), hr]
  rfl

theorem State.linkFrame_unsequenced {f : Frame} (hup : s.laneState port lane = .up) (h0 : f.fault = 0) (hseq : f.seq % 4096 ≠ (s.link port).rxSeq) :
    s.linkFrame port lane f = s.countCorrected port f.corrected := by
  obtain ⟨k, hk⟩ := s.countCorrected_link port f.corrected
  unfold State.linkFrame
  rw [if_neg (not_not.mpr hup), if_neg (not_not.mpr h0), if_pos (by rw [hk]; exact hseq)]

theorem Link.taken_acked {l : Link} {f : Frame} {a : Nat} (h : f.ack = some a) : ∀ e ∈ (l.taken f).retryBuf, e ∈ l.retryBuf ∧ seqLe e.1 a = false := by
  intro e he
  unfold Link.taken at he
  rw [h] at he
  simpa using he

theorem Link.taken_credits {l : Link} {f : Frame} {v c : Nat} (h : f.credits = [(v, c)]) : (l.taken f).credits.getD v 0 = l.credits.getD v 0 + c := by
  unfold Link.taken
  rw [h]
  exact congrArg (fun o => o.getD 0) (Tbl.get?_put_same _ _ _)

/-- A damaged frame that is neither the eighth in a row nor one of sixteen. -/
theorem State.frameBad_fec {t : State} (hretry : (t.link port).rxRetries < 7) (hgcm : (t.link port).gcmFails = []) : t.frameBad port lane 1 =
    ((t.count F.FAB_PORT_ERR_RETRIES 1 port).count F.FAB_PORT_ERR_UNCORRECTED 1 port).setLink port
      { t.link port with rxRetries := (t.link port).rxRetries + 1, gcmFails := [] } := by
  unfold State.frameBad
  have hl : ((t.count F.FAB_PORT_ERR_RETRIES 1 port).count F.FAB_PORT_ERR_UNCORRECTED 1 port).link port = t.link port := rfl
  simp only [if_true, show ¬ (1 : Nat) = 2 from by decide, if_false, hl, hgcm, List.filter_nil, List.length_nil]
  rw [if_neg (by omega), if_neg (by omega)]

theorem State.fld_setLink (s : State) (p : Nat) (l : Link) (g : Fld) (i : Nat) : (s.setLink p l).fld g i = s.fld g i := rfl

theorem State.fld_count_place (s : State) (f g : Fld) (k b i : Nat) (h : f.place ≠ g.place) : (s.count f k b).fld g i = s.fld g i :=
  s.fld_setF_place _ h

/-- What `frameBad_fec` counts, where nothing else of the port's counters has changed. -/
theorem State.frameBad_counts {t : State} (hret : t.fld F.FAB_PORT_ERR_RETRIES port = s.fld F.FAB_PORT_ERR_RETRIES port)
    (hunc : t.fld F.FAB_PORT_ERR_UNCORRECTED port = s.fld F.FAB_PORT_ERR_UNCORRECTED port) (l : Link) :
    s.counted (((t.count F.FAB_PORT_ERR_RETRIES 1 port).count F.FAB_PORT_ERR_UNCORRECTED 1 port).setLink port l) F.FAB_PORT_ERR_RETRIES port ∧
      s.counted (((t.count F.FAB_PORT_ERR_RETRIES 1 port).count F.FAB_PORT_ERR_UNCORRECTED 1 port).setLink port l)
        F.FAB_PORT_ERR_UNCORRECTED port := by
  rw [State.counted, State.counted, State.fld_setLink, State.fld_setLink]
  constructor
  · rw [State.fld_count_place _ _ _ _ _ _ (by decide), State.fld_count_same, State.fld_count_same, hret]
  · rw [State.fld_count_same, State.fld_count_same, State.fld_count_place _ _ _ _ _ _ (by decide), hunc]

theorem State.linkFrame_damaged {f : Frame} (hup : s.laneState port lane = .up) (h1 : f.fault = 1) (hretry : (s.link port).rxRetries < 7)
    (hgcm : (s.link port).gcmFails = []) : ∃ u, s.linkFrame port lane f = u ∧ s.counted u F.FAB_PORT_ERR_RETRIES port ∧
      s.counted u F.FAB_PORT_ERR_UNCORRECTED port ∧ (u.link port).rxRetries = (s.link port).rxRetries + 1 ∧ u.dom = s.dom ∧ u.mem = s.mem := by
  have hgo : s.linkFrame port lane f = (s.countCorrected port f.corrected).frameBad port lane 1 := by
    unfold State.linkFrame
    rw [if_neg (not_not.mpr hup), if_pos (by rw [h1]; decide), h1]
  obtain ⟨k, hk⟩ := s.countCorrected_link port f.corrected
  obtain ⟨hmem, hdom⟩ := s.countCorrected_frame port f.corrected
  have hret := s.countCorrected_fld port f.corrected (g := F.FAB_PORT_ERR_RETRIES) (by decide) port
  have hunc := s.countCorrected_fld port f.corrected (g := F.FAB_PORT_ERR_UNCORRECTED) (by decide) port
  generalize s.countCorrected port f.corrected = t at hgo hk hmem hdom hret hunc
  rw [State.frameBad_fec (by rw [hk]; exact hretry) (by rw [hk]; exact hgcm)] at hgo
  obtain ⟨hre, hun⟩ := State.frameBad_counts hret hunc { t.link port with rxRetries := (t.link port).rxRetries + 1, gcmFails := [] }
  refine ⟨_, hgo, hre, hun, ?_, hdom, hmem⟩
  rw [State.link_setLink_same, hk]

/-! ### A seat's lane commands -/

variable {ch : ChanId} {n k : Nat} {x : SeatId}

@[simp] theorem State.asked_dom (s : State) (ch : ChanId) : (s.asked ch).dom = s.dom := by obtain ⟨a, b, h⟩ := s.asked_eq ch; rw [h]
@[simp] theorem State.asked_fab (s : State) (ch : ChanId) : (s.asked ch).fab = s.fab := by obtain ⟨a, b, h⟩ := s.asked_eq ch; rw [h]
@[simp] theorem State.asked_laneState (s : State) (ch : ChanId) (p l : Nat) : (s.asked ch).laneState p l = s.laneState p l := by simp [State.laneState]
@[simp] theorem State.asked_portWidth (s : State) (ch : ChanId) (p : Nat) : (s.asked ch).portWidth p = s.portWidth p := by simp [State.portWidth]
@[simp] theorem State.asked_selPort (s : State) (ch : ChanId) (x : SeatId) : (s.asked ch).selPort x = s.selPort x := by simp [State.selPort]
@[simp] theorem State.asked_mayTrain (s : State) (ch : ChanId) (p : Nat) : (s.asked ch).mayTrain p = s.mayTrain p := by
  simp [State.mayTrain, State.sliceOfAport]

theorem State.portCmd_bounds {entry : Nat} {f : Nat → State} (h : s.portWidth (s.selPort x) ≤ k) :
    s.portCmd x entry k f = s.seatErr x entry 0xC0218 .bounds := if_pos h
theorem State.portCmd_within {entry : Nat} {f : Nat → State} (h : k < s.portWidth (s.selPort x)) : s.portCmd x entry k f = f (s.selPort x) :=
  if_neg (Nat.not_le.mpr h)

section Within
variable {entry : Nat} (h : k < s.portWidth (s.selPort x))
include h

theorem State.portRetrain_held (hheld : s.laneState (s.selPort x) k = .held) : s.portRetrain x entry k = s.seatErr x entry 0xC0218 .stateConflict :=
  (State.portCmd_within h).trans (if_pos hheld)
theorem State.portRetrain_up (ha : isAport (s.selPort x) = false) (hup : s.laneState (s.selPort x) k = .up) :
    s.portRetrain x entry k = s.laneOut (s.selPort x) k .training :=
  (State.portCmd_within h).trans ((if_neg (by rw [hup]; decide)).trans ((if_pos hup).trans (State.laneLost_up ha hup)))
theorem State.portRetrain_trains (hheld : s.laneState (s.selPort x) k ≠ .held) (hup : s.laneState (s.selPort x) k ≠ .up)
    (ht : s.mayTrain (s.selPort x) = true) : s.portRetrain x entry k = s.setLane (s.selPort x) k .training :=
  (State.portCmd_within h).trans ((if_neg hheld).trans ((if_neg hup).trans (if_pos ht)))
theorem State.portHoldDown_eq (ha : isAport (s.selPort x) = false) : s.portHoldDown x entry k = s.laneOut (s.selPort x) k .held :=
  (State.portCmd_within h).trans (State.aportLost_other _ ha)
theorem State.portRelease_held (hheld : s.laneState (s.selPort x) k = .held) :
    s.portRelease x entry k = s.setLane (s.selPort x) k (if s.mayTrain (s.selPort x) then .training else .down) :=
  (State.portCmd_within h).trans (if_neg (not_not.mpr hheld))
theorem State.portRelease_unheld (hheld : s.laneState (s.selPort x) k ≠ .held) :
    s.portRelease x entry k = s.seatErr x entry 0xC0218 .stateConflict :=
  (State.portCmd_within h).trans (if_pos hheld)

end Within

/-- Settles O32: frames by the `linkFrame` lemmas, commands by those on `portCmd`, and lanes that leave service by `laneOut_spec`. -/
theorem framesAndLanes : Obligations.FramesAndLanes := by
  intro s port lane f ch n k x
  refine ⟨fun hs => ?_, ?_⟩
  · have hrun {u : State} (h : s.linkFrame port lane f = u) : AnswersThen (.linkFrame port lane f) s u :=
      core_answersThen (exec_linkFrame s port lane f) hs h
    obtain ⟨c, hlink⟩ := s.countCorrected_link port f.corrected
    obtain ⟨hmem, hdom⟩ := s.countCorrected_frame port f.corrected
    refine ⟨fun h => hrun (State.linkFrame_down h), fun hup => ⟨fun h0 hseq hr => ?_, fun h0 hseq => ?_, fun h1 hretry hgcm => ?_⟩⟩
    · refine ⟨_, hrun (State.linkFrame_taken hup h0 hseq hr), ?_, ?_, fun a ha => ?_, fun v w hc => ?_, fun j hj => ?_, hmem, hdom⟩
      · rw [State.link_setLink_same, hlink]; rfl
      · rw [State.link_setLink_same]; rfl
      · rw [State.link_setLink_same]
        have := Link.taken_acked (l := (s.countCorrected port f.corrected).link port) ha
        rw [hlink] at this ⊢
        exact this
      · rw [State.link_setLink_same, Link.taken_credits hc, hlink]
      · rw [State.link_setLink_ne _ _ hj, State.countCorrected_link_ne _ _ hj]
    · refine ⟨_, hrun (State.linkFrame_unsequenced hup h0 hseq), ?_, ?_, hmem, hdom⟩
      · rw [hlink]
      · rw [hlink]
    · obtain ⟨u, hu, hspec⟩ := State.linkFrame_damaged hup h1 hretry hgcm
      exact ⟨u, hrun hu, hspec⟩
  · rintro hcmd rfl rfl -
    have hret {u : State} (h : (s.asked ch).portRetrain x n (lane % 4) = u) : AnswersThen (.portRetrain ch lane) s u :=
      seat_answersThen (exec_portRetrain s ch lane) hcmd h
    have hhold {u : State} (h : (s.asked ch).portHoldDown x n (lane % 4) = u) : AnswersThen (.portHoldDown ch lane) s u :=
      seat_answersThen (exec_portHoldDown s ch lane) hcmd h
    have hrel {u : State} (h : (s.asked ch).portRelease x n (lane % 4) = u) : AnswersThen (.portRelease ch lane) s u :=
      seat_answersThen (exec_portRelease s ch lane) hcmd h
    have hsel := s.asked_selPort ch x
    refine ⟨fun h c hc => ?_, fun h ha => ?_⟩
    · have hb : (s.asked ch).portWidth ((s.asked ch).selPort x) ≤ lane % 4 := by simpa using h
      have hrep := (s.asked ch).seatErr_reports x n 0xC0218 .bounds
      simp only [List.mem_cons, List.not_mem_nil, or_false] at hc
      rcases hc with rfl | rfl | rfl
      · exact ⟨_, hret (State.portCmd_bounds hb), hrep⟩
      · exact ⟨_, hhold (State.portCmd_bounds hb), hrep⟩
      · exact ⟨_, hrel (State.portCmd_bounds hb), hrep⟩
    · have hw : lane % 4 < (s.asked ch).portWidth ((s.asked ch).selPort x) := by simpa using h
      have ha' : isAport ((s.asked ch).selPort x) = false := by rwa [hsel]
      have hls (st : LaneState) (h : s.laneState (s.selPort x) (lane % 4) = st) :
          (s.asked ch).laneState ((s.asked ch).selPort x) (lane % 4) = st := by simpa using h
      have hout (l : LaneState) := State.laneOut_spec (s := s.asked ch) (l := l) hw
      have hmem (u : State) (h : u.mem = (s.asked ch).mem) : u.mem = s.mem := h.trans (s.asked_mem ch)
      rw [hsel] at hout
      refine ⟨fun _ => ⟨fun hgo => ?_, ?_⟩, fun hup => ?_, ?_, fun hheld => ?_, fun hheld => ?_, fun hheld => ?_⟩
      · by_cases hup : s.laneState (s.selPort x) (lane % 4) = .up
        · refine ⟨_, hret (State.portRetrain_up hw ha' (hls _ hup)), ?_, hmem _ ?_⟩
          · rw [hsel]; exact (hout _).1
          · rw [hsel]; exact (hout _).2
        · obtain ⟨hheld, ht⟩ := hgo.resolve_left hup
          refine ⟨_, hret (State.portRetrain_trains hw (by simpa using hheld) (by simpa using hup) (by simpa using ht)), ?_, hmem _ ?_⟩
          · rw [hsel]; exact State.setLane_laneState _ _ _ _
          · exact State.setLane_mem _ _ _ _
      · refine ⟨_, hhold (State.portHoldDown_eq hw ha'), ?_, hmem _ ?_⟩
        · rw [hsel]; exact (hout _).1
        · rw [hsel]; exact (hout _).2
      · exact hret ((State.portRetrain_up hw ha' (hls _ hup)).trans (by rw [hsel]))
      · exact hhold ((State.portHoldDown_eq hw ha').trans (by rw [hsel]))
      · exact ⟨_, hret (State.portRetrain_held hw (hls _ hheld)), State.seatErr_reports _ _ _ _ _⟩
      · refine ⟨_, hrel (State.portRelease_held hw (hls _ hheld)), ?_, hmem _ (State.setLane_mem _ _ _ _), ?_⟩
        · rw [hsel, State.setLane_laneState, State.asked_mayTrain]
        · rw [State.setLane_fab, State.asked_fab]
      · exact ⟨_, hrel (State.portRelease_unheld hw (by simpa using hheld)), State.seatErr_reports _ _ _ _ _⟩

end Sys2Proof.Machine
end

section
/-! Lanes that train, link keys and the laser interlock (R29, R30, R46, R432, R433, R465). -/

namespace Sys2Proof.Machine

variable {s t u : State} {port lane pos num cls : Nat}

/-! ### A lane comes up -/

/-- A lane that comes up is up; besides its entry only routes and registers change. -/
theorem State.laneUp_spec (s : State) (port lane : Nat) : RoutesOnly (s.setLane port lane .up) (s.laneUp port lane) := by
  unfold State.laneUp
  extract_lets wasUp s₁ l s₂ s₃
  have h₃ : RoutesOnly s₁ s₃ := (RoutesOnly.setLink s₁ port _).trans (.linkRecord s₂ port lane 3 _)
  clear_value s₃
  split
  · exact .refl s₁
  · split
    · exact h₃.trans (.reroute s₃ _)
    · exact h₃

theorem State.laneUp_laneState (s : State) (port lane : Nat) : (s.laneUp port lane).laneState port lane = .up :=
  ((s.laneUp_spec port lane).laneState port lane).trans (s.setLane_laneState port lane .up)
theorem State.laneUp_mem (s : State) (port lane : Nat) : (s.laneUp port lane).mem = s.mem :=
  (s.laneUp_spec port lane).mem.trans (s.setLane_mem port lane .up)
theorem State.laneUp_sil (s : State) (port lane : Nat) : (s.laneUp port lane).sil = s.sil :=
  (s.laneUp_spec port lane).sil.trans (s.setLane_sil port lane .up)

/-- What an agent's declaration of its class leaves alone. -/
theorem State.agentTrained_frame (s : State) (a cls : Nat) :
    (s.agentTrained a cls).dom = s.dom ∧ (s.agentTrained a cls).mem = s.mem ∧ (s.agentTrained a cls).sil = s.sil := by
  unfold State.agentTrained
  extract_lets s₁ s₂
  split <;> exact ⟨rfl, rfl, rfl⟩

/-- A lane held down for announcing the wrong far end. -/
theorem State.heldForFarEnd_spec (s : State) (port lane : Nat) (st : Status) :
    (((s.setLane port lane .held).linkRecord port lane 4 st).laneState port lane = .held) ∧
      ((s.setLane port lane .held).linkRecord port lane 4 st).mem = s.mem ∧ ((s.setLane port lane .held).linkRecord port lane 4 st).fab = s.fab := by
  refine ⟨?_, ?_, ?_⟩
  · exact ((RoutesOnly.linkRecord _ port lane 4 st).laneState port lane).trans (s.setLane_laneState port lane .held)
  · exact (RoutesOnly.linkRecord _ port lane 4 st).mem.trans (s.setLane_mem port lane .held)
  · exact (State.logErr_fab _ _).trans (s.setLane_fab port lane .held)

/-! ### Training -/

section Training
variable (hw : lane < s.portWidth port) (ht : s.laneState port lane = .training) (ha : s.laneAllowed port lane = true)
include hw ht ha

theorem State.mayComeUp : ¬ (s.portWidth port ≤ lane ∨ s.laneState port lane ≠ .training ∨ !s.laneAllowed port lane) := by simp [ht, ha, hw]

theorem State.laneTrainingDone_agent (hp : isAport port = true) :
    s.laneTrainingDone port lane pos num cls = (s.laneUp port lane).agentTrained (port - 0x40) cls := by
  rw [State.laneTrainingDone, if_neg (State.mayComeUp hw ht ha), if_pos hp]

theorem State.laneTrainingDone_match (hp : isAport port = false) (hfar : (pos, num) = s.farLane port lane) :
    s.laneTrainingDone port lane pos num cls = s.laneUp port lane := by
  rw [State.laneTrainingDone, if_neg (State.mayComeUp hw ht ha), if_neg (by simp [hp]), if_neg (not_not.mpr hfar)]

theorem State.laneTrainingDone_mismatch (hp : isAport port = false) (hfar : (pos, num) ≠ s.farLane port lane) :
    s.laneTrainingDone port lane pos num cls = (s.setLane port lane .held).linkRecord port lane 4 .stateConflict := by
  rw [State.laneTrainingDone, if_neg (State.mayComeUp hw ht ha), if_neg (by simp [hp]), if_pos hfar]

theorem State.laneRetrainDone_agent (hp : isAport port = true) (hc : s.fld F.FAB_PORT_STATUS_CLASS port ≠ 0) :
    s.laneRetrainDone port lane pos num = s.laneUp port lane := by
  rw [State.laneRetrainDone, if_neg (State.mayComeUp hw ht ha), if_pos hp, if_neg hc]

theorem State.laneRetrainDone_match (hp : isAport port = false) (hfar : (pos, num) = s.farLane port lane) :
    s.laneRetrainDone port lane pos num = s.laneUp port lane := by
  rw [State.laneRetrainDone, if_neg (State.mayComeUp hw ht ha), if_neg (by simp [hp]), if_neg (not_not.mpr hfar)]

theorem State.laneRetrainDone_mismatch (hp : isAport port = false) (hfar : (pos, num) ≠ s.farLane port lane) :
    s.laneRetrainDone port lane pos num = (s.setLane port lane .held).linkRecord port lane 4 .stateConflict := by
  rw [State.laneRetrainDone, if_neg (State.mayComeUp hw ht ha), if_neg (by simp [hp]), if_pos hfar]

end Training

theorem State.laneLost_of_up (hup : s.laneState port lane = .up) : s.laneLost port lane = (s.laneOut port lane .training).aportLost port := by
  rw [State.laneLost, if_neg (not_not.mpr hup), State.laneDown, if_pos hup]

/-! ### Link keys -/

variable {m : KeyMsg}

theorem State.linkKeyExchange_keyed (hup : s.portUp port = true) (hok : s.keyMsgOk port m = true) :
    s.linkKeyExchange port m = (s.count F.SEC_LINK_EXCHANGES).linkKeyed port := by
  simp [State.linkKeyExchange, hup, hok]

theorem State.linkKeyExchange_failed (hup : s.portUp port = true) (hok : s.keyMsgOk port m = false) (hp : isAport port = false) :
    s.linkKeyExchange port m = ((s.count F.SEC_LINK_AUTH_FAIL).holdPort port).linkRecord port 0 4 .authFail := by
  simp [State.linkKeyExchange, hup, hok, State.exchangeFailed, State.aportLost_other, hp]

theorem State.linkRekey_unkeyed (hk : (s.link port).keyed = 0) : s.linkRekey port m = s := by simp [State.linkRekey, hk]

/-- The state in which a port rekeys: at once after 2^32 frames, or when the 60 s of its key are over. -/
def State.rekeyTime (s : State) (port : Nat) : State :=
  if 2 ^ 32 ≤ (s.link port).frames then s else s.reach ((s.link port).keyed - 1 + 60000 * nsPerMs)

theorem State.rekeyTime_frame (s : State) (port : Nat) : ∃ n, s.rekeyTime port = { s with now := n } := by
  unfold State.rekeyTime
  split
  · exact ⟨s.now, rfl⟩
  · exact ⟨_, rfl⟩

theorem State.le_rekeyTime (h : (s.link port).frames < 2 ^ 32) : (s.link port).keyed - 1 + 60000000000 ≤ (s.rekeyTime port).now := by
  rw [State.rekeyTime, if_neg (Nat.not_le.mpr h)]
  exact Nat.le_max_right _ _

theorem State.linkRekey_keyed (hup : s.portUp port = true) (hk : (s.link port).keyed ≠ 0) (hok : s.keyMsgOk port m = true) :
    s.linkRekey port m = ((s.rekeyTime port).count F.SEC_LINK_REKEYS).linkKeyed port := by
  have hok' : (s.rekeyTime port).keyMsgOk port m = true := by
    obtain ⟨n, hn⟩ := s.rekeyTime_frame port
    rw [hn]
    exact hok
  unfold State.linkRekey
  rw [if_neg (by simp [hup, hk])]
  exact if_pos hok'

/-- New keys: the port's link starts counting the frames and the time of its key. -/
theorem State.linkKeyed_spec (s : State) (f : Fld) (port : Nat) : (((s.count f).linkKeyed port).link port).keyed = s.now + 1 ∧
    (((s.count f).linkKeyed port).link port).frames = 0 ∧ s.counted ((s.count f).linkKeyed port) f := by
  refine ⟨?_, ?_, rfl⟩
  · rw [State.linkKeyed, State.link_setLink_same]; rfl
  · rw [State.linkKeyed, State.link_setLink_same]

/-! ### The laser interlock -/

/-- The registers and the record of a fallen interlock, before the lanes go dark. -/
def State.laserOff (s : State) : State := ((s.setF F.TST_PINS_LSR_EN 0).count F.TST_PINS_LSR_DROPS).logErr { unit := .tst, status := .stateConflict }

theorem State.laserDrop_low (h : s.fld F.TST_PINS_LSR_EN = 0) : s.laserDrop = s := if_pos h
theorem State.laserDrop_falls (h : s.fld F.TST_PINS_LSR_EN ≠ 0) : s.laserDrop = s.laserOff.linksDark := if_neg h

theorem State.laserOff_lsrEn (s : State) : s.laserOff.fld F.TST_PINS_LSR_EN = 0 := by
  rw [State.laserOff, State.fld_logErr _ _ (by decide), State.fld_count_place _ _ _ _ _ _ (by decide), State.fld_setF_same]
  rfl

theorem State.laserOff_counted (s : State) : s.counted s.laserOff F.TST_PINS_LSR_DROPS := by
  rw [State.counted, State.laserOff, State.fld_logErr _ _ (by decide), State.fld_count_same, State.fld_count_same,
    State.fld_setF_place _ _ (by decide)]

theorem State.laserRise_high (h : s.fld F.TST_PINS_LSR_EN = 1) : s.laserRise = s := if_pos h
theorem State.laserRise_alone (h : s.fld F.TST_PINS_LSR_EN ≠ 1) (hs : s.fld F.SIL_FULL_SERIAL_SERIAL = 0) :
    s.laserRise = s.setF F.TST_PINS_LSR_EN 1 := by
  rw [State.laserRise, if_neg h]
  exact if_pos ((State.fld_setF_place _ _ (by decide)).trans hs)
theorem State.laserRise_trains (h : s.fld F.TST_PINS_LSR_EN ≠ 1) (hs : s.fld F.SIL_FULL_SERIAL_SERIAL ≠ 0) :
    s.laserRise = (if (s.setF F.TST_PINS_LSR_EN 1).ringAwaited then (s.setF F.TST_PINS_LSR_EN 1).partnerPorts
      else (s.setF F.TST_PINS_LSR_EN 1).ports).foldl State.trainPort (s.setF F.TST_PINS_LSR_EN 1) := by
  rw [State.laserRise, if_neg h]
  exact if_neg (by rw [State.fld_setF_place _ _ (by decide)]; exact hs)

/-! ### The obligation -/

/-- The clauses on lanes that train or retrain. -/
theorem lanes_train (hs : s.serves [23] = true) (hw : lane < s.portWidth port) (ht : s.laneState port lane = .training)
    (ha : s.laneAllowed port lane = true) :
    (isAport port = true ∨ (pos, num) = s.farLane port lane →
      ∃ u, AnswersThen (.laneTrainingDone port lane pos num cls) s u ∧ u.laneState port lane = .up ∧ u.mem = s.mem ∧ u.sil = s.sil) ∧
    (isAport port = false → (pos, num) ≠ s.farLane port lane →
      (∃ u, AnswersThen (.laneTrainingDone port lane pos num cls) s u ∧ u.laneState port lane = .held ∧ u.mem = s.mem ∧ u.fab = s.fab) ∧
      (∃ u, AnswersThen (.laneRetrainDone port lane pos num) s u ∧ u.laneState port lane = .held ∧ u.mem = s.mem ∧ u.fab = s.fab)) ∧
    (isAport port = false ∧ (pos, num) = s.farLane port lane ∨ isAport port = true ∧ s.fld F.FAB_PORT_STATUS_CLASS port ≠ 0 →
      ∃ u, AnswersThen (.laneRetrainDone port lane pos num) s u ∧ u.laneState port lane = .up ∧ u.mem = s.mem ∧ u.sil = s.sil) := by
  have htrain {u : State} (h : s.laneTrainingDone port lane pos num cls = u) : AnswersThen (.laneTrainingDone port lane pos num cls) s u :=
    core_answersThen (exec_laneTrainingDone s port lane pos num cls) hs h
  have hretrain {u : State} (h : s.laneRetrainDone port lane pos num = u) : AnswersThen (.laneRetrainDone port lane pos num) s u :=
    core_answersThen (exec_laneRetrainDone s port lane pos num) hs h
  have hup := s.laneUp_laneState port lane
  have hmem := s.laneUp_mem port lane
  have hsil := s.laneUp_sil port lane
  have hheld := s.heldForFarEnd_spec port lane .stateConflict
  refine ⟨fun h => ?_, fun hp hfar => ⟨⟨_, htrain (State.laneTrainingDone_mismatch hw ht ha hp hfar), hheld⟩,
    ⟨_, hretrain (State.laneRetrainDone_mismatch hw ht ha hp hfar), hheld⟩⟩, fun h => ?_⟩
  · cases hp : isAport port
    · have hfar := h.resolve_left (by simp [hp])
      exact ⟨_, htrain (State.laneTrainingDone_match hw ht ha hp hfar), hup, hmem, hsil⟩
    · obtain ⟨hd, hm, hl⟩ := (s.laneUp port lane).agentTrained_frame (port - 0x40) cls
      refine ⟨_, htrain (State.laneTrainingDone_agent hw ht ha hp), ?_, hm.trans hmem, hl.trans hsil⟩
      rw [State.laneState, hd]
      exact hup
  · rcases h with ⟨hp, hfar⟩ | ⟨hp, hc⟩
    · exact ⟨_, hretrain (State.laneRetrainDone_match hw ht ha hp hfar), hup, hmem, hsil⟩
    · exact ⟨_, hretrain (State.laneRetrainDone_agent hw ht ha hp hc), hup, hmem, hsil⟩

/-- Settles O16: lanes by `lanes_train`, keys by the exchange's lemmas, the interlock by those on `laserOff`. -/
theorem lanesAndTrust : Obligations.LanesAndTrust := by
  refine ⟨fun s port lane pos num cls hs hp hw => ⟨fun ht ha => lanes_train hs hw ht ha, fun hup => ?_⟩, fun s port m => ⟨fun hs hp hup => ?_, fun hs => ?_⟩⟩
  · have hdown {u : State} (h : s.laneLost port lane = u) : AnswersThen (.laneDown port lane) s u :=
      core_answersThen (exec_laneDown s port lane) hs h
    obtain ⟨hout, hmem⟩ := State.laneOut_spec (l := .training) hw
    exact ⟨fun ha => ⟨_, hdown (State.laneLost_up ha hup), hout, hmem⟩, fun _ => ⟨_, hdown (State.laneLost_of_up hup), hout, hmem⟩⟩
  · have hkey {u : State} (h : s.linkKeyExchange port m = u) : AnswersThen (.linkKeyExchange port m) s u :=
      core_answersThen (exec_linkKeyExchange s port m) hs h
    have hrekey {u : State} (h : s.linkRekey port m = u) : AnswersThen (.linkRekey port m) s u :=
      core_answersThen (exec_linkRekey s port m) hs h
    refine ⟨fun hok => ⟨?_, fun hk => ?_⟩, fun hok ha => ?_, fun hk => hrekey (State.linkRekey_unkeyed hk)⟩
    · obtain ⟨hkeyed, hframes, hcount⟩ := s.linkKeyed_spec F.SEC_LINK_EXCHANGES port
      exact ⟨_, hkey (State.linkKeyExchange_keyed hup hok), hkeyed, hframes, hcount, rfl, rfl⟩
    · obtain ⟨hkeyed, hframes, hcount⟩ := (s.rekeyTime port).linkKeyed_spec F.SEC_LINK_REKEYS port
      obtain ⟨n, hn⟩ := s.rekeyTime_frame port
      refine ⟨_, hrekey (State.linkRekey_keyed hup hk hok), hkeyed, hframes, ?_, State.le_rekeyTime, ?_⟩
      · exact hcount.trans (by rw [hn]; rfl)
      · exact (show _ = (s.rekeyTime port).mem from rfl).trans (by rw [hn])
    · exact ⟨_, hkey (State.linkKeyExchange_failed hup hok ha), rfl, State.keepsFields_setF s _ (by simp), rfl, rfl⟩
  · have hdrop {u : State} (h : s.laserDrop = u) : AnswersThen .laserInterlockDrop s u :=
      core_answersThen (exec_laserInterlockDrop s) hs h
    have hrise {u : State} (h : s.laserRise = u) : AnswersThen .laserInterlockRise s u :=
      core_answersThen (exec_laserInterlockRise s) hs h
    have hen : (s.setF F.TST_PINS_LSR_EN 1).fld F.TST_PINS_LSR_EN = 1 := State.fld_setF_same _ _ _ _
    refine ⟨fun h => hdrop (State.laserDrop_low h), fun h => hrise (State.laserRise_high h), fun h => ?_, fun h hz => ?_, fun h hz => ?_⟩
    · have hr : RoutesOnly s s.laserOff := ((RoutesOnly.setF _ _ _ _).trans (.setF _ _ _ _)).trans (.logErr _ _)
      exact ⟨_, hdrop (State.laserDrop_falls h), s.laserOff_lsrEn, s.laserOff_counted, hr.dom, State.logErr_fab _ _, hr.mem⟩
    · exact ⟨_, hrise (State.laserRise_alone h hz), hen, State.keepsFields_setF s _ (by simp), rfl⟩
    · exact ⟨_, hrise (State.laserRise_trains h hz), hen, rfl⟩

end Sys2Proof.Machine
end

section
/-! Contexts enabled and disabled through the journal, and a spare's query (R112, R132, R137). -/

namespace Sys2Proof.Machine

variable {s t u : State} {ch : ChanId} {n c : Nat} {x : SeatId}

/-! ### Requests that go out -/

/-- What is asked of another member stays asked while packets go to the fabric, unless it may be combined with others. -/
theorem Traffic.asks {Q : Packet → Prop} (h : Traffic s u) (hQ : ∀ p, Q p → p.op ≠ opLOAD ∧ p.op ≠ opATOMIC) (ha : s.asks Q) : u.asks Q := by
  obtain ⟨r, hr, hq⟩ := ha
  obtain ⟨r', hr', -, hsame⟩ := h.reqs r hr
  obtain ⟨hl, hat⟩ := hQ _ hq
  exact ⟨r', hr', by rwa [hsame hl hat]⟩

/-- A request that is launched is outstanding, or waits at its source. -/
theorem State.launch_asks {Q : Packet → Prop} (s : State) (p : Packet) (w : Waiter) (hQ : ∀ p, Q p → p.op ≠ opLOAD ∧ p.op ≠ opATOMIC) (hq : Q p) :
    (s.launch p w).asks Q := by
  unfold State.launch
  dsimp only
  split
  · exact ⟨⟨p, w, s.now, s.now, 0, s.pathOf p⟩, by simp, hq⟩
  · refine ((Traffic.noteUse _ _ _ _).trans (.send _ _)).asks hQ ?_
    exact ⟨⟨p, w, s.now, s.now, 1, s.pathOf p⟩, by simp, hq⟩

theorem State.issue_asks {Q : Packet → Prop} (s : State) (p : Packet) (w : Waiter) (hQ : ∀ p, Q p → p.op ≠ opLOAD ∧ p.op ≠ opATOMIC)
    (hq : ∀ src tag epoch, Q { p with src := src, tag := tag, epoch := epoch }) : (s.issue p w).asks Q :=
  State.launch_asks _ _ w hQ (hq _ _ _)

/-- Of a list of requests that are sent one after another, each is asked. -/
theorem State.foldl_asks {α : Type} {Q : Packet → Prop} {g : State → α → State} {l : List α} {a : α}
    (hQ : ∀ p, Q p → p.op ≠ opLOAD ∧ p.op ≠ opATOMIC) (ht : ∀ t b, Traffic t (g t b)) (ha : ∀ t, (g t a).asks Q) (hm : a ∈ l) (s : State) :
    (l.foldl g s).asks Q := by
  obtain ⟨l₁, l₂, rfl⟩ := List.append_of_mem hm
  rw [List.foldl_append, List.foldl_cons]
  exact (Traffic.foldl l₂ (fun t b _ => ht t b) _).asks hQ (ha _)

/-! ### The query of a spare -/

theorem Traffic.registrationServe (s : State) (p : Packet) (d : Nat) : Traffic s (s.registrationServe p d) := by
  unfold State.registrationServe
  exact (Traffic.finish _ _ _ _ _).trans (.foldl _ (fun t _ _ => .xltSend t _ _ _ _) _)

theorem State.registrationServe_asks (s : State) (p : Packet) {d : Nat} {e : Extent} (he : e ∈ s.xlt.extents) (hd : dgaDev e.dga = d) :
    (s.registrationServe p d).asks (fun q => q.op = opXLT_CTRL ∧ q.dst = p.src ∧ q.aux = xcMAP) := by
  have hQ (q : Packet) (h : q.op = opXLT_CTRL ∧ q.dst = p.src ∧ q.aux = xcMAP) : q.op ≠ opLOAD ∧ q.op ≠ opATOMIC := by
    rw [h.1]; decide
  unfold State.registrationServe
  refine State.foldl_asks (a := e) hQ (fun t b => .xltSend t _ _ _ _) (fun t => ?_) ?_ _
  · exact State.issue_asks _ _ _ hQ fun _ _ _ => ⟨rfl, rfl, rfl⟩
  · cases h : e.alias_ <;> simp [he, hd, h]

theorem State.serving_serves {p : Packet} {kind : Bool} (hk : kind = true) (hf : s.dom.selfFailed = false) (f : State → State) :
    s.serving p kind f = f (s.take p) := by
  have hf' : (s.take p).dom.selfFailed = false := hf
  rw [State.serving, if_pos hk, State.unlessFailed, hf', Bool.false_and, if_neg (by decide)]

/-! ### An entry in the journal -/

/-- The entry as it stands in the ring. -/
def State.stamped (s : State) (e : JEntry) : JEntry := { e with jseq := s.fld F.JNL_HEAD_JSEQ, single := s.noMirror && singleKind e }

/-- The journal with a new entry at its head, before it is sent to the mirror. -/
def State.entered (s : State) (e : JEntry) : State :=
  (({ s with jnl.ring := s.jnl.ring.put (s.fld F.JNL_HEAD_JSEQ) (s.stamped e), jnl.toEffect := s.jnl.toEffect ++ [s.fld F.JNL_HEAD_JSEQ],
             jnl.retentionJseq := s.fld F.JNL_HEAD_JSEQ } : State).bumpSeq F.JNL_HEAD_JSEQ).refreshRing

theorem State.entered_ring (s : State) (e : JEntry) : (s.entered e).jnl.ring = s.jnl.ring.put (s.fld F.JNL_HEAD_JSEQ) (s.stamped e) := by
  rw [State.entered, State.refreshRing_frame]
  rfl

/-- A new entry goes to the mirror or not; the ring holds it. -/
theorem State.journalWrite_cases (s : State) (e : JEntry) :
    s.journalWrite e = s.entered e ∨ s.journalWrite e = (s.entered e).mirrorEntry (s.stamped e) ∨
      s.journalWrite e = { (s.entered e).mirrorEntry (s.stamped e) with jnl.gap := false } := by
  have h : s.journalWrite e = if ((s.entered e).noMirror && !(s.entered e).copying) = true then s.entered e
      else if (s.entered e).noMirror = true then (s.entered e).mirrorEntry (s.stamped e)
      else { (s.entered e).mirrorEntry (s.stamped e) with jnl.gap := false } := rfl
  rw [h]
  split
  · exact .inl rfl
  · split
    · exact .inr (.inl rfl)
    · exact .inr (.inr rfl)

theorem Traffic.mirrorEntry (s : State) (e : JEntry) : Traffic s (s.mirrorEntry e) := .issue s _ _

theorem State.journalWrite_ring (s : State) (e : JEntry) :
    (s.journalWrite e).jnl.ring = s.jnl.ring.put (s.fld F.JNL_HEAD_JSEQ) (s.stamped e) := by
  have hm : ((s.entered e).mirrorEntry (s.stamped e)).jnl.ring = (s.entered e).jnl.ring := by rw [(Traffic.mirrorEntry _ _).jnl]
  rcases s.journalWrite_cases e with h | h | h <;> rw [h, ← State.entered_ring]
  · exact hm
  · exact hm

theorem State.journalWrite_ctl (s : State) (e : JEntry) : (s.journalWrite e).ctl = s.ctl := by
  have he : (s.entered e).ctl = s.ctl := by rw [State.entered, State.refreshRing_frame]; rfl
  have hm : ((s.entered e).mirrorEntry (s.stamped e)).ctl = s.ctl := (Traffic.mirrorEntry _ _).ctl.trans he
  rcases s.journalWrite_cases e with h | h | h <;> rw [h]
  · exact he
  · exact hm
  · exact hm

theorem State.journalWrite_entry (s : State) (e : JEntry) : (s.journalWrite e).jnl.ring.get? (s.fld F.JNL_HEAD_JSEQ) = some (s.stamped e) := by
  rw [s.journalWrite_ring e]
  exact Tbl.get?_put_same _ _ _

/-- The registers of the journal's ring. -/
def ringPlaces : List Nat :=
  [F.JNL_HEAD_JSEQ.place, F.JNL_LOSS_HOLDS.place, F.JNL_STATE_RING_FULL.place, F.JNL_TAIL_JSEQ.place]

theorem State.refreshRing_places (s : State) : s.keepsPlaces s.refreshRing ringPlaces := by
  unfold State.refreshRing
  dsimp only
  split
  · exact ((s.keepsPlaces_setF _ _ (by simp [ringPlaces])).trans (State.keepsPlaces_setF _ _ _ (by simp [ringPlaces]))).trans
      (State.keepsPlaces_setF _ _ _ (by simp [ringPlaces]))
  · exact (State.keepsPlaces_setF _ _ _ (by simp [ringPlaces])).trans (State.keepsPlaces_setF _ _ _ (by simp [ringPlaces]))

theorem State.entered_places (s : State) (e : JEntry) : s.keepsPlaces (s.entered e) ringPlaces :=
  ((State.keepsPlaces_of_regs (s := s) rfl).trans (State.keepsPlaces_setF _ _ _ (by simp [ringPlaces]))).trans (State.refreshRing_places _)

theorem State.journalWrite_places (s : State) (e : JEntry) : s.keepsPlaces (s.journalWrite e) (ringPlaces ++ trafficPlaces) := by
  have he : s.keepsPlaces (s.entered e) (ringPlaces ++ trafficPlaces) := (s.entered_places e).mono (List.subset_append_left _ _)
  have hm : s.keepsPlaces ((s.entered e).mirrorEntry (s.stamped e)) (ringPlaces ++ trafficPlaces) :=
    he.trans ((Traffic.mirrorEntry _ _).places.mono (List.subset_append_right _ _))
  rcases s.journalWrite_cases e with h | h | h <;> rw [h]
  · exact he
  · exact hm
  · exact hm.trans (State.keepsPlaces_of_regs rfl)

/-! ### The configuration of a context -/

/-- A context's configuration written as it stands. -/
def State.cfgKept (s : State) (c : Nat) : State :=
  (s.setF F.XLT_CTX_CFG_MODE (s.fld F.XLT_CTX_CFG_MODE c) c).setF F.XLT_CTX_CFG_LOG2_CAP (s.fld F.XLT_CTX_CFG_LOG2_CAP c) c

/-- The bounds of the two fields, which their widths give. -/
def State.cfgInWidth (s : State) (c : Nat) : Prop := s.fld F.XLT_CTX_CFG_MODE c < 2 ∧ s.fld F.XLT_CTX_CFG_LOG2_CAP c < 32

theorem State.cfgKept_fld (s : State) (c : Nat) {g : Fld} (h : g.place ∉ [F.XLT_CTX_CFG_MODE.place, F.XLT_CTX_CFG_LOG2_CAP.place]) (b : Nat) :
    (s.cfgKept c).fld g b = s.fld g b :=
  ((s.keepsPlaces_setF (l := [F.XLT_CTX_CFG_MODE.place, F.XLT_CTX_CFG_LOG2_CAP.place]) _ c (by simp)).trans
    (State.keepsPlaces_setF _ _ c (by simp))) g b h

theorem State.cfgKept_mode (h : s.cfgInWidth c) : (s.cfgKept c).fld F.XLT_CTX_CFG_MODE c = s.fld F.XLT_CTX_CFG_MODE c := by
  rw [State.cfgKept, State.fld_setF_place _ _ (by decide), State.fld_setF_same]
  exact Nat.mod_eq_of_lt h.1
theorem State.cfgKept_cap (h : s.cfgInWidth c) : (s.cfgKept c).fld F.XLT_CTX_CFG_LOG2_CAP c = s.fld F.XLT_CTX_CFG_LOG2_CAP c := by
  rw [State.cfgKept, State.fld_setF_same]
  exact Nat.mod_eq_of_lt h.2

theorem State.cfgKept_enableFault (h : s.cfgInWidth c) : (s.cfgKept c).enableFault c = s.enableFault c := by
  have hf {g : Fld} (hg : g.place ∉ [F.XLT_CTX_CFG_MODE.place, F.XLT_CTX_CFG_LOG2_CAP.place]) := s.cfgKept_fld c hg c
  have hslice : (s.cfgKept c).sliceOfCtx c = s.sliceOfCtx c := rfl
  have hrun (g : Nat) : (s.cfgKept c).runOf 1 g = s.runOf 1 g := rfl
  unfold State.enableFault
  simp only [State.tableArea, State.compat, State.ctxLimit, State.hostBase, State.devBase, hslice, hrun, State.cfgKept_cap h, State.cfgKept_mode h,
    hf (g := F.XLT_CTX_TABLE_AREA) (by decide), hf (g := F.XLT_CTX_LIMIT_PAGES) (by decide),
    hf (g := F.XLT_CTX_HOST_BASE_HOST_BASE) (by decide), hf (g := F.XLT_CTX_DEV_BASE_DEV_BASE) (by decide)]
  <;> rfl

theorem State.cfgKept_ctxEnabled (s : State) (c : Nat) : (s.cfgKept c).ctxEnabled c = s.ctxEnabled c := by
  rw [State.ctxEnabled, s.cfgKept_fld c (by decide)]; rfl

@[simp] theorem State.asked_jnl (s : State) (ch : ChanId) : (s.asked ch).jnl = s.jnl := by obtain ⟨a, b, h⟩ := s.asked_eq ch; rw [h]
@[simp] theorem State.asked_xlt (s : State) (ch : ChanId) : (s.asked ch).xlt = s.xlt := by obtain ⟨a, b, h⟩ := s.asked_eq ch; rw [h]
@[simp] theorem State.asked_contextChanging (s : State) (ch : ChanId) (c : Nat) : (s.asked ch).contextChanging c = s.contextChanging c := by
  simp [State.contextChanging]
@[simp] theorem State.asked_extentsOf (s : State) (ch : ChanId) (c : Nat) : (s.asked ch).extentsOf c = s.extentsOf c := by simp [State.extentsOf]
@[simp] theorem State.asked_mapOutstanding (s : State) (ch : ChanId) (c : Nat) : (s.asked ch).mapOutstanding c = s.mapOutstanding c := by
  simp [State.mapOutstanding]
@[simp] theorem State.asked_enableFault (s : State) (ch : ChanId) (c : Nat) : (s.asked ch).enableFault c = s.enableFault c := by
  obtain ⟨a, b, h⟩ := s.asked_eq ch; rw [h]; rfl

/-! ### Writes of ENABLE -/

section Write
variable {entry : Nat} (hx : s.fld F.XLT_CTX_SEL_CTX x.idx = c) (hw : s.cfgInWidth c) (hch : s.contextChanging c = false)
include hx hw hch

omit hch in
/-- What a write of ENABLE alone comes to. -/
theorem State.ctxEnableWrite_eq (en : Bool) : s.ctxEnableWrite x entry en.toNat =
    if (if en then (s.cfgKept c).contextEnable x entry else (s.cfgKept c).contextDisable x entry).ctl.refused = true
    then if en then (s.cfgKept c).contextEnable x entry else (s.cfgKept c).contextDisable x entry
    else (if en then (s.cfgKept c).contextEnable x entry else (s.cfgKept c).contextDisable x entry).noteWrite x (c * 2 ^ 24 + offCtxCfg) := by
  obtain ⟨hm, hk⟩ := hw
  have hv (e : Nat) (he : e < 2) (m k : Nat) (hm : m < 2) (hk : k < 32) :
      bitsOf (e + 2 * m + 16 * k) 1 1 = m ∧ bitsOf (e + 2 * m + 16 * k) 4 5 = k ∧ (e + 2 * m + 16 * k) % 2 = e := by
    unfold bitsOf
    omega
  obtain ⟨hmode, hcap, hen⟩ := hv en.toNat (by cases en <;> decide) _ _ hm hk
  unfold State.ctxEnableWrite State.ctxCfgWrite
  simp only [hx, hmode, hcap, hen]
  rw [if_neg (by simp)]
  cases en <;> rfl

theorem State.enable_fault {st : Status} (hen : s.ctxEnabled c = false) (hf : s.enableFault c = some st) :
    s.ctxEnableWrite x entry 1 = (s.cfgKept c).seatErr x entry offCtxCfg st := by
  have hgo : (s.cfgKept c).contextEnable x entry = (s.cfgKept c).seatErr x entry offCtxCfg st := by
    have hch' : (s.cfgKept c).contextChanging c = false := hch
    simp only [State.contextEnable, s.cfgKept_fld c (g := F.XLT_CTX_SEL_CTX) (by decide), hx, State.cfgKept_ctxEnabled, hen, hch', Bool.or_self,
      State.cfgKept_enableFault hw, hf]
    rfl
  have := State.ctxEnableWrite_eq (entry := entry) hx hw true
  simp only [if_true, hgo, State.seatErr_refused] at this
  exact this

/-- A context whose checks pass is journalled as enabled. -/
theorem State.enable_journals (hr : s.ctl.refused = false) (hen : s.ctxEnabled c = false) (hf : s.enableFault c = none) :
    s.ctxEnableWrite x entry 1 = ((s.cfgKept c).journalWrite ((s.cfgKept c).contextCfg c 1)).noteWrite x (c * 2 ^ 24 + offCtxCfg) := by
  have hgo : (s.cfgKept c).contextEnable x entry = (s.cfgKept c).journalWrite ((s.cfgKept c).contextCfg c 1) := by
    have hch' : (s.cfgKept c).contextChanging c = false := hch
    simp only [State.contextEnable, s.cfgKept_fld c (g := F.XLT_CTX_SEL_CTX) (by decide), hx, State.cfgKept_ctxEnabled, hen, hch', Bool.or_self,
      State.cfgKept_enableFault hw, hf]
    rfl
  have := State.ctxEnableWrite_eq (entry := entry) hx hw true
  have hnot : ((s.cfgKept c).journalWrite ((s.cfgKept c).contextCfg c 1)).ctl.refused = false := by rw [State.journalWrite_ctl]; exact hr
  simp only [if_true, hgo, hnot] at this
  exact this

theorem State.disable_refused (hen : s.ctxEnabled c = true) (hb : s.extentsOf c ≠ [] ∨ s.mapOutstanding c = true) :
    s.ctxEnableWrite x entry 0 = (s.cfgKept c).seatErr x entry offCtxCfg .stateConflict := by
  have hgo : (s.cfgKept c).contextDisable x entry = (s.cfgKept c).seatErr x entry offCtxCfg .stateConflict := by
    have hch' : (s.cfgKept c).contextChanging c = false := hch
    have hb' : (!((s.cfgKept c).extentsOf c).isEmpty || (s.cfgKept c).mapOutstanding c) = true := by
      have : (!(s.extentsOf c).isEmpty || s.mapOutstanding c) = true := by simpa using hb
      exact this
    simp only [State.contextDisable, s.cfgKept_fld c (g := F.XLT_CTX_SEL_CTX) (by decide), hx, State.cfgKept_ctxEnabled, hen, hch', hb']
    rfl
  have := State.ctxEnableWrite_eq (entry := entry) hx hw false
  simp only [Bool.false_eq_true, if_false, hgo, State.seatErr_refused] at this
  exact this

theorem State.disable_journals (hr : s.ctl.refused = false) (hen : s.ctxEnabled c = true) (he : s.extentsOf c = []) (hm : s.mapOutstanding c = false) :
    s.ctxEnableWrite x entry 0 = ((s.cfgKept c).journalWrite ((s.cfgKept c).contextCfg c 0)).noteWrite x (c * 2 ^ 24 + offCtxCfg) := by
  have hgo : (s.cfgKept c).contextDisable x entry = (s.cfgKept c).journalWrite ((s.cfgKept c).contextCfg c 0) := by
    have hch' : (s.cfgKept c).contextChanging c = false := hch
    have he' : (s.cfgKept c).extentsOf c = [] := he
    have hm' : (s.cfgKept c).mapOutstanding c = false := hm
    simp only [State.contextDisable, s.cfgKept_fld c (g := F.XLT_CTX_SEL_CTX) (by decide), hx, State.cfgKept_ctxEnabled, hen, hch', he', hm']
    rfl
  have := State.ctxEnableWrite_eq (entry := entry) hx hw false
  have hnot : ((s.cfgKept c).journalWrite ((s.cfgKept c).contextCfg c 0)).ctl.refused = false := by rw [State.journalWrite_ctl]; exact hr
  simp only [Bool.false_eq_true, if_false, hgo, hnot] at this
  exact this

end Write

/-- The body of a context's entry begins with its configuration, ENABLE in bit 0. -/
theorem State.contextCfg_enable (s : State) (c : Nat) {en : Nat} (h : en < 2) : field (s.contextCfg c en).body 0 8 % 2 = en := by
  have hle (v : Nat) (bs : List Byte) : field (natLe 8 v ++ bs) 0 8 % 2 = v % 2 := by
    simp only [field, slice, List.drop_zero, natLe, List.cons_append, List.nil_append, List.take_succ_cons, leNat, BitVec.toNat_ofNat]
    omega
  unfold State.contextCfg
  simp only [List.append_assoc, hle]
  omega

/-- What the journalled entry of a context says, and what its writing leaves alone. -/
theorem State.journalCfg_spec (s : State) (x : SeatId) (c off : Nat) {en : Nat} (h : en < 2) :
    (((s.cfgKept c).journalWrite ((s.cfgKept c).contextCfg c en)).noteWrite x off).ctxEnabled c = s.ctxEnabled c ∧
    ∃ e, (((s.cfgKept c).journalWrite ((s.cfgKept c).contextCfg c en)).noteWrite x off).jnl.ring.get? (s.fld F.JNL_HEAD_JSEQ) = some e ∧
      e.kind = jkCONTEXT_CFG ∧ e.queue = c ∧ field e.body 0 8 % 2 = en := by
  refine ⟨?_, (s.cfgKept c).stamped ((s.cfgKept c).contextCfg c en), ?_, rfl, rfl, State.contextCfg_enable _ c h⟩
  · have hk : ((s.cfgKept c).journalWrite ((s.cfgKept c).contextCfg c en)).keepsPlaces _ _ := (State.noteWrite_keepsFields _ x off).keepsPlaces
    rw [State.ctxEnabled, hk _ _ (by decide), State.journalWrite_places _ _ _ _ (by decide)]
    exact s.cfgKept_ctxEnabled c
  · rw [State.noteWrite_frame, ← s.cfgKept_fld c (g := F.JNL_HEAD_JSEQ) (by decide)]
    exact State.journalWrite_entry _ _

/-- A refused write of ENABLE: the status is latched, the context and the journal stay as they were. -/
theorem State.cfgRefused_spec (s : State) (x : SeatId) (n c : Nat) (st : Status) :
    ((s.cfgKept c).seatErr x n offCtxCfg st).ctxEnabled c = s.ctxEnabled c ∧ ((s.cfgKept c).seatErr x n offCtxCfg st).jnl.ring = s.jnl.ring ∧
      (s.fld F.CTL_SEAT_ERR_COUNT x.idx = 0 → ((s.cfgKept c).seatErr x n offCtxCfg st).fld F.CTL_SEAT_ERR_STATUS x.idx = st.code) := by
  refine ⟨?_, ?_, fun h => ?_⟩
  · have hk : (s.cfgKept c).keepsPlaces ((s.cfgKept c).seatErr x n offCtxCfg st) _ := (State.seatErr_keepsFields _ x n offCtxCfg st).keepsPlaces
    rw [State.ctxEnabled, hk _ _ (by cases x <;> decide)]
    exact s.cfgKept_ctxEnabled c
  · have := congrArg (fun t : State => t.jnl.ring) (State.seatErr_frame (s.cfgKept c) x n offCtxCfg st)
    exact this
  · exact (State.seatErr_latches _ x n _ st (by rw [s.cfgKept_fld c (by decide)]; exact h)).1

/-- Settles O22: ENABLE by the lemmas on `ctxEnableWrite`, the query by `registrationServe_asks`. -/
theorem contexts : Obligations.Contexts := by
  intro s ch n c x p hc hm hk hch
  refine ⟨fun hcmd => ?_, fun hs hop haux hf => ?_⟩
  · have hx : (s.asked ch).fld F.XLT_CTX_SEL_CTX x.idx = c := by rw [State.asked_fld, hc]
    have hw : (s.asked ch).cfgInWidth c := by simp only [State.cfgInWidth, State.asked_fld]; exact ⟨hm, hk⟩
    have hch' : (s.asked ch).contextChanging c = false := by rw [State.asked_contextChanging, hch]
    have hen {u : State} (h : (s.asked ch).ctxEnableWrite x n 1 = u) : AnswersThen (.contextEnable ch) s u :=
      seat_answersThen (exec_contextEnable s ch) hcmd h
    have hdis {u : State} (h : (s.asked ch).ctxEnableWrite x n 0 = u) : AnswersThen (.contextDisable ch) s u :=
      seat_answersThen (exec_contextDisable s ch) hcmd h
    have hrefused (st : Status) := (s.asked ch).cfgRefused_spec x n c st
    have hentry {en : Nat} (h : en < 2) := (s.asked ch).journalCfg_spec x c (c * 2 ^ 24 + offCtxCfg) h
    simp only [State.asked_ctxEnabled, State.asked_jnl, State.asked_fld] at hrefused hentry
    refine ⟨fun hoff => ⟨fun hgo => ?_, fun st hst => ?_⟩, fun hon => ⟨fun he hmap => ?_, fun hb => ?_⟩⟩
    · obtain ⟨hctx, e, he⟩ := hentry (en := 1) (by decide)
      exact ⟨_, hen (State.enable_journals hx hw hch' rfl (by simpa using hoff) (by simpa using hgo)), by rw [hctx, hoff], e, he⟩
    · obtain ⟨hctx, hj, hlatch⟩ := hrefused st
      exact ⟨_, hen (State.enable_fault hx hw hch' (by simpa using hoff) (by simpa using hst)), by rw [hctx, hoff], hj, hlatch⟩
    · obtain ⟨-, e, he'⟩ := hentry (en := 0) (by decide)
      exact ⟨_, hdis (State.disable_journals hx hw hch' rfl (by simpa using hon) (by simpa using he) (by simpa using hmap)), e, he'⟩
    · obtain ⟨hctx, hj, hlatch⟩ := hrefused .stateConflict
      exact ⟨_, hdis (State.disable_refused hx hw hch' (by simpa using hon) (by simpa using hb)), by rw [hctx, hon], hj, hlatch⟩
  · have hserve : s.serving p (isXlt p xcQUERY) (fun s => s.registrationServe p (XltMsg.decode p.payload).member) =
        (s.take p).registrationServe p (XltMsg.decode p.payload).member := State.serving_serves (by simp [isXlt, hop, haux]) hf _
    have ht := Traffic.registrationServe (s.take p) p (XltMsg.decode p.payload).member
    exact ⟨_, core_answersThen (exec_registrationQuery s p) hs hserve, ht.xlt, ht.mem,
      fun e he hd => State.registrationServe_asks (s.take p) p he hd⟩

end Sys2Proof.Machine
end

section
/-! The structure image loader: its commands, and the verdicts on an image (R53, R65, R66, R71, R75, R76). -/

namespace Sys2Proof.Machine

variable {s t u : State} {ch : ChanId} {n sem off : Nat} {x : SeatId} {st : Status} {c : Instr} {f : SeatId → Nat → State → State}

/-! ### Commands that are noted -/

/-- The state, with or without the note of a write. -/
def State.Noted (t u : State) (x : SeatId) (off : Nat) : Prop := u = t ∨ u = t.noteWrite x off

theorem State.Noted.keepsFields (h : t.Noted u x off) : t.keepsFields u collideKeys := by
  rcases h with rfl | rfl
  · exact State.keepsFields_of_regs rfl
  · exact t.noteWrite_keepsFields x off
theorem State.Noted.mem (h : t.Noted u x off) : u.mem = t.mem := by
  rcases h with rfl | rfl
  · rfl
  · exact t.noteWrite_mem x off
theorem State.Noted.sil (h : t.Noted u x off) : u.sil = t.sil := by
  rcases h with rfl | rfl
  · rfl
  · rw [State.noteWrite_frame]
theorem State.Noted.silState (h : t.Noted u x off) : u.silState = t.silState := by
  rw [State.silState, h.keepsFields _ _ (by decide)]; rfl
theorem State.Noted.loadShows {reason : Nat} (h : t.Noted u x off) (ht : t.loadShows st reason) : u.loadShows st reason := by
  rw [State.loadShows, h.keepsFields _ _ (by decide), h.keepsFields _ _ (by decide)]; exact ht

theorem State.asHolder_noted (h : s.guardedBy ch n x sem) (hf : f x n (s.asked ch) = t) : t.Noted (s.asHolder ch off sem f) x off := by
  rw [State.asHolder_guarded h, hf]
  split
  · exact .inl rfl
  · exact .inr rfl

theorem holder_notedNow (hc : exec c s = s.run [] (fun s => s.asHolder ch off sem f)) (h : s.guardedBy ch n x sem) (hf : f x n (s.asked ch) = t) :
    ∃ u, Answers c s u ∧ t.Noted u x off := ⟨_, answers_of_run hc h.1.1, State.asHolder_noted h hf⟩

theorem holder_noted (hc : exec c s = s.runOn [] (fun s => s.asHolder ch off sem f)) (h : s.guardedBy ch n x sem) (hf : f x n (s.asked ch) = t) :
    ∃ u, AnswersThen c s u ∧ t.Noted u x off := ⟨_, answersThen_of_runOn hc h.1.1, State.asHolder_noted h hf⟩

/-- A refused command is not noted. -/
theorem State.asHolder_refused (h : s.guardedBy ch n x sem) (hf : f x n (s.asked ch) = t) (hr : t.ctl.refused = true) :
    s.asHolder ch off sem f = t := by
  rw [State.asHolder_guarded h, hf, if_pos (by simp [hr])]

/-- What a seat that does not hold the semaphore is told. -/
theorem State.asHolder_denied (h : s.unguarded ch n x sem) : (s.touch ch).reports (s.asHolder ch off sem f) x n off .semNotHeld := by
  rw [State.asHolder_unguarded h, State.seatErr_asked]
  exact State.seatErr_reports _ _ _ _ _

/-! ### The loader's state and outcome -/

@[simp] theorem State.setSil_silState (s : State) (st : SilState) : (s.setSil st).silState = st := by
  rw [State.silState, State.setSil, State.fld_setF_same]
  cases st <;> rfl

@[simp] theorem State.asked_silState (s : State) (ch : ChanId) : (s.asked ch).silState = s.silState := by simp [State.silState]
@[simp] theorem State.asked_atRest (s : State) (ch : ChanId) : (s.asked ch).atRest = s.atRest := by simp [State.atRest]

theorem State.setSil_keepsFields (s : State) (st : SilState) : s.keepsFields (s.setSil st) [F.SIL_STATE_STATE.key 0] :=
  s.keepsFields_setF _ (by simp)

theorem State.withSil_keepsFields (s : State) (l : Sil) (st : SilState) :
    s.keepsFields (({ s with sil := l } : State).setSil st) [F.SIL_STATE_STATE.key 0] :=
  State.keepsFields.trans (State.keepsFields_of_regs rfl) (State.setSil_keepsFields _ st)

theorem State.silRest_eq (s : State) : s.silRest = s.setSil s.atRest := rfl

theorem State.silRest_loadShows {reason : Nat} (h : s.loadShows st reason) : s.silRest.loadShows st reason := by
  rw [State.loadShows, State.silRest_eq, s.setSil_keepsFields _ _ _ (by decide), s.setSil_keepsFields _ _ _ (by decide)]
  exact h

/-- The registers of a load's outcome. -/
def loadPlaces : List Nat := [F.SIL_LOAD_STATUS_STATUS.place, F.SIL_LOAD_STATUS_REASON.place, F.SIL_LOAD_STATUS_SECTION.place,
  F.SIL_LOAD_STATUS_OFFSET.place, F.SIL_LOAD_STATUS_SEQ.place]

theorem State.loadOutcome_keepsPlaces (s : State) (st : Status) (reason sec o : Nat) : s.keepsPlaces (s.loadOutcome st reason sec o) loadPlaces := by
  have h (t : State) {f : Fld} (v : Nat) (hf : f.place ∈ loadPlaces) : t.keepsPlaces (t.setF f v) loadPlaces := t.keepsPlaces_setF v 0 hf
  exact (((h s _ (by simp [loadPlaces])).trans (h _ _ (by simp [loadPlaces]))).trans
    ((h _ _ (by simp [loadPlaces])).trans (h _ _ (by simp [loadPlaces])))).trans (h _ _ (by simp [loadPlaces]))

theorem State.loadOutcome_loadShows (s : State) (st : Status) (reason sec o : Nat) : (s.loadOutcome st reason sec o).loadShows st reason := by
  constructor
  · rw [State.loadOutcome, State.bumpSeq, State.fld_setF_place _ _ (by decide), State.fld_setF_place _ _ (by decide), State.fld_setF_place _ _ (by decide),
      State.fld_setF_place _ _ (by decide), State.fld_setF_same]
    exact Nat.mod_eq_of_lt st.code_lt
  · rw [State.loadOutcome, State.bumpSeq, State.fld_setF_place _ _ (by decide), State.fld_setF_place _ _ (by decide), State.fld_setF_place _ _ (by decide),
      State.fld_setF_same]

theorem State.loadOutcome_silState (s : State) (st : Status) (reason sec o : Nat) : (s.loadOutcome st reason sec o).silState = s.silState := by
  rw [State.silState, s.loadOutcome_keepsPlaces st reason sec o _ _ (by decide)]; rfl
theorem State.loadOutcome_atRest (s : State) (st : Status) (reason sec o : Nat) : (s.loadOutcome st reason sec o).atRest = s.atRest := by
  rw [State.atRest, s.loadOutcome_keepsPlaces st reason sec o _ _ (by decide)]; rfl
theorem State.loadOutcome_sil (s : State) (st : Status) (reason sec o : Nat) : (s.loadOutcome st reason sec o).sil = s.sil := rfl

/-- A refused image: the loader is at rest, shows the fault, and has counted it. -/
theorem State.refuseLoad_spec (s : State) (f : ImgFault) : (s.refuseLoad f).silState = s.atRest ∧ (s.refuseLoad f).loadShows f.status f.reason ∧
    s.counted (s.refuseLoad f) F.SIL_COUNT_REFUSED ∧ (s.refuseLoad f).sil = s.sil := by
  have hcount (t : State) {g : Fld} (hg : F.SIL_COUNT_REFUSED.place ≠ g.place) : (t.count F.SIL_COUNT_REFUSED).fld g = t.fld g :=
    t.fld_count_place _ _ _ _ _ hg
  refine ⟨?_, State.silRest_loadShows ?_, ?_, rfl⟩
  · rw [State.refuseLoad, State.silRest_eq, State.setSil_silState, State.atRest, hcount _ (by decide)]
    exact s.loadOutcome_atRest _ _ _ _
  · rw [State.loadShows, hcount _ (by decide), hcount _ (by decide)]
    exact s.loadOutcome_loadShows _ _ _ _
  · rw [State.counted, State.refuseLoad, State.silRest_eq, State.setSil_keepsFields _ _ _ _ (by decide), State.fld_count_same, State.fld_count_same,
      s.loadOutcome_keepsPlaces _ _ _ _ _ _ (by decide)]

/-! ### Commands of the holder of semaphore 0 -/

theorem State.silBegin_listed {entry : Nat} {whence : SilState} (h : s.silState = whence) :
    s.silBegin x entry whence = ({ s with sil.staging := [] } : State).setSil .staging := if_pos h
theorem State.silBegin_unlisted {entry : Nat} {whence : SilState} (h : s.silState ≠ whence) : s.silBegin x entry whence = s.silUnlisted x entry := if_neg h

theorem State.silCommit_staged {entry : Nat} (h : s.silState = .staging) (ha : s.membersIn .admitting = []) : s.silCommit x entry =
    ({ s with sil.latched := s.fld F.SIL_STAGE_LEN_LEN_64B, sil.committer := some x, sil.fromNor := false } : State).setSil .verifying := by
  rw [State.silCommit, if_neg (not_not.mpr h), if_neg (by simp [ha])]
theorem State.silCommit_unlisted {entry : Nat} (h : s.silState ≠ .staging) : s.silCommit x entry = s.silUnlisted x entry := if_pos h

theorem State.silAbort_staging {entry : Nat} (h : s.silState = .staging) : s.silAbort x entry = ({ s with sil.staging := [] } : State).silRest :=
  if_pos h
theorem State.silAbort_draining {entry : Nat} (h : s.silState = .draining) : s.silAbort x entry = s.silReopen.loadOutcome .done 0x41 0xFF noOffset := by
  rw [State.silAbort, if_neg (by simp [h]), if_pos h]
theorem State.silAbort_unlisted {entry : Nat} (h : s.silState ≠ .staging) (h' : s.silState ≠ .draining) :
    s.silAbort x entry = s.silUnlisted x entry := by
  rw [State.silAbort, if_neg h, if_neg h']

/-- Slices that reopen leave the loader RUNNING, with no slice affected. -/
theorem State.silReopen_spec (s : State) : s.silReopen.silState = .running ∧ s.silReopen.sil.affected = 0 := ⟨State.setSil_silState _ _, rfl⟩

theorem State.silUnlisted_reports (s : State) (x : SeatId) (entry : Nat) :
    ∃ v, s.reports v x entry 0x10008 .stateConflict ∧ s.silUnlisted x entry = v.count F.SIL_COUNT_CMD_REFUSED :=
  ⟨_, s.seatErr_reports x entry _ _, rfl⟩

/-- A command that the table does not list for the state. -/
theorem holder_unlistedNow (hc : exec c s = s.run [] (fun s => s.asHolder ch off sem f)) (h : s.guardedBy ch n x sem)
    (hf : f x n (s.asked ch) = (s.asked ch).silUnlisted x n) :
    ∃ u v, Answers c s u ∧ (s.asked ch).reports v x n 0x10008 .stateConflict ∧ u = v.count F.SIL_COUNT_CMD_REFUSED := by
  obtain ⟨v, hv, he⟩ := (s.asked ch).silUnlisted_reports x n
  refine ⟨_, v, answers_of_run hc h.1.1, hv, ?_⟩
  rw [State.asHolder_refused h hf rfl, he]

theorem holder_unlisted (hc : exec c s = s.runOn [] (fun s => s.asHolder ch off sem f)) (h : s.guardedBy ch n x sem)
    (hf : f x n (s.asked ch) = (s.asked ch).silUnlisted x n) :
    ∃ u v, AnswersThen c s u ∧ (s.asked ch).reports v x n 0x10008 .stateConflict ∧ u = v.count F.SIL_COUNT_CMD_REFUSED := by
  obtain ⟨v, hv, he⟩ := (s.asked ch).silUnlisted_reports x n
  refine ⟨_, v, answersThen_of_runOn hc h.1.1, hv, ?_⟩
  rw [State.asHolder_refused h hf rfl, he]

/-! ### The verdicts -/

section Verify
variable (h : s.silState = .verifying)
include h

theorem State.imageVerifyDone_internal : s.imageVerifyDone true = s.refuseLoad ⟨.internal, 0xFF, 0xFF, noOffset⟩ := by
  rw [State.imageVerifyDone, if_neg (not_not.mpr h), if_pos rfl]

theorem State.imageVerifyDone_passes (hf : formFault s.stagedImage s.sil.latched = none) (hk : s.kindFault s.stagedImage = none)
    (hs : s.sigFault s.stagedImage = none) : s.imageVerifyDone false = s.setSil .checking := by
  rw [State.imageVerifyDone, if_neg (not_not.mpr h), if_neg (by decide)]
  simp only [hf, hk, hs, Option.or_none]

theorem State.imageVerifyDone_refuses {f : ImgFault} (hf : formFault s.stagedImage s.sil.latched = some f)
    (hk : f.reason = 0x01 ∨ s.kindFault s.stagedImage = none) : s.imageVerifyDone false = s.refuseLoad f := by
  have hfault : (if f.reason = 0x01 then some f else (s.kindFault s.stagedImage).or (some f)) = some f := by
    split
    · rfl
    · rw [hk.resolve_left ‹_›]; rfl
  rw [State.imageVerifyDone, if_neg (not_not.mpr h), if_neg (by decide)]
  simp only [hf, hfault]

end Verify

section Check
variable (h : s.silState = .checking)
include h

theorem State.imageCheckDone_internal : s.imageCheckDone true = s.refuseLoad ⟨.internal, 0xFF, 0xFF, noOffset⟩ := by
  rw [State.imageCheckDone, if_neg (not_not.mpr h), if_pos rfl]

theorem State.imageCheckDone_refuses {f : ImgFault} (hf : s.contentFault s.stagedImage = some f) : s.imageCheckDone false = s.refuseLoad f := by
  rw [State.imageCheckDone, if_neg (not_not.mpr h), if_neg (by decide)]
  simp only [hf]

/-- An image that passes its checks: a partial one drains its slices, a full one applies while its committer holds semaphore 0. -/
theorem State.imageCheckDone_passes (hf : s.contentFault s.stagedImage = none) : s.imageCheckDone false =
    if imgPartial s.stagedImage then s.drainBegin s.stagedImage else if s.committerHolds then s.applyFull s.stagedImage
    else (s.loadOutcome .semNotHeld 0x51 0xFF noOffset).silRest := by
  rw [State.imageCheckDone, if_neg (not_not.mpr h), if_neg (by decide)]
  simp only [hf]

end Check

theorem State.drainBegin_spec (s : State) (img : List Byte) :
    (s.drainBegin img).silState = .draining ∧ (s.drainBegin img).sil.affected = maskOf (imgAffected img) := ⟨State.setSil_silState _ _, rfl⟩

theorem State.sliceDrained_journals (h : s.silState = .draining) (hl : s.sil.lastChunk = none) (hd : s.slicesDrained = true) :
    s.sliceDrained.sil.lastChunk = some (s.sliceDrained.fld F.JNL_HEAD_JSEQ - 1) := by
  rw [State.sliceDrained, if_neg (by simp [h, hl, hd])]
  rfl

theorem State.sliceDrained_waits (hd : s.slicesDrained = false) : s.sliceDrained = s := by rw [State.sliceDrained, if_pos (by simp [hd])]

theorem State.drainTimeout_spec (h : s.silState = .draining) :
    s.drainTimeout.silState = .running ∧ s.drainTimeout.loadShows .timeout 0x50 ∧ s.drainTimeout.sil.affected = 0 := by
  rw [State.drainTimeout, if_neg (not_not.mpr h)]
  refine ⟨?_, State.loadOutcome_loadShows _ _ _ _ _, rfl⟩
  rw [State.loadOutcome_silState, State.silState, State.fld_count_place _ _ _ _ _ _ (by decide)]
  exact (State.silReopen_spec _).1

/-! ### The obligation -/

theorem imageVerdicts (f : ImgFault) (hs : s.serves [] = true) :
    (s.silState = .verifying →
      (formFault s.stagedImage s.sil.latched = none → s.kindFault s.stagedImage = none → s.sigFault s.stagedImage = none →
        ∃ u, Answers (.imageVerifyDone false) s u ∧ u.silState = .checking ∧ s.onlyFields u [F.SIL_STATE_STATE.key 0]) ∧
      (formFault s.stagedImage s.sil.latched = some f → f.reason = 0x01 ∨ s.kindFault s.stagedImage = none →
        ∃ u, Answers (.imageVerifyDone false) s u ∧ u.silState = s.atRest ∧ u.loadShows f.status f.reason ∧ s.counted u F.SIL_COUNT_REFUSED) ∧
      (∃ u, Answers (.imageVerifyDone true) s u ∧ u.silState = s.atRest ∧ u.loadShows .internal 0xFF ∧ s.counted u F.SIL_COUNT_REFUSED)) ∧
    (s.silState = .checking →
      (s.contentFault s.stagedImage = some f →
        ∃ u, AnswersThen (.imageCheckDone false) s u ∧ u.silState = s.atRest ∧ u.loadShows f.status f.reason ∧ s.counted u F.SIL_COUNT_REFUSED ∧ u.sil = s.sil) ∧
      (∃ u, AnswersThen (.imageCheckDone true) s u ∧ u.silState = s.atRest ∧ u.loadShows .internal 0xFF ∧ u.sil = s.sil) ∧
      (s.contentFault s.stagedImage = none → imgPartial s.stagedImage = true →
        ∃ u, AnswersThen (.imageCheckDone false) s u ∧ u.silState = .draining ∧ u.sil.affected = maskOf (imgAffected s.stagedImage)) ∧
      (s.contentFault s.stagedImage = none → imgPartial s.stagedImage = false →
        (s.committerHolds = true → AnswersThen (.imageCheckDone false) s (s.applyFull s.stagedImage)) ∧
        (s.committerHolds = false → ∃ u, AnswersThen (.imageCheckDone false) s u ∧ u.silState = s.atRest ∧ u.loadShows .semNotHeld 0x51 ∧ u.sil = s.sil))) ∧
    (s.silState = .draining →
      (s.sil.lastChunk = none → s.slicesDrained = true → ∃ u, AnswersThen .sliceDrained s u ∧ u.sil.lastChunk = some (u.fld F.JNL_HEAD_JSEQ - 1)) ∧
      (s.slicesDrained = false → AnswersThen .sliceDrained s s) ∧
      (∃ u, AnswersThen .drainTimeout s u ∧ u.silState = .running ∧ u.loadShows .timeout 0x50 ∧ u.sil.affected = 0)) := by
  have hverify {b : Bool} {u : State} (h : s.imageVerifyDone b = u) : Answers (.imageVerifyDone b) s u := core_answers (exec_imageVerifyDone s b) hs h
  have hcheck {b : Bool} {u : State} (h : s.imageCheckDone b = u) : AnswersThen (.imageCheckDone b) s u :=
    core_answersThen (exec_imageCheckDone s b) hs h
  have hdrained {u : State} (h : s.sliceDrained = u) : AnswersThen .sliceDrained s u := core_answersThen (exec_sliceDrained s) hs h
  obtain ⟨hrest, hshows, hcount, hsil⟩ := s.refuseLoad_spec f
  obtain ⟨hrest', hshows', hcount', hsil'⟩ := s.refuseLoad_spec ⟨.internal, 0xFF, 0xFF, noOffset⟩
  refine ⟨fun h => ⟨fun hf hk hg => ?_, fun hf hk => ?_, ?_⟩, fun h => ⟨fun hf => ?_, ?_, fun hf hp => ?_, fun hf hp => ⟨fun hh => ?_, fun hh => ?_⟩⟩,
    fun h => ⟨fun hl hd => ⟨_, hdrained rfl, State.sliceDrained_journals h hl hd⟩, fun hd => hdrained (State.sliceDrained_waits hd),
      ⟨_, core_answersThen (exec_drainTimeout s) hs rfl, State.drainTimeout_spec h⟩⟩⟩
  · exact ⟨_, hverify (State.imageVerifyDone_passes h hf hk hg), State.setSil_silState _ _, rfl, s.setSil_keepsFields _⟩
  · exact ⟨_, hverify (State.imageVerifyDone_refuses h hf hk), hrest, hshows, hcount⟩
  · exact ⟨_, hverify (State.imageVerifyDone_internal h), hrest', hshows', hcount'⟩
  · exact ⟨_, hcheck (State.imageCheckDone_refuses h hf), hrest, hshows, hcount, hsil⟩
  · exact ⟨_, hcheck (State.imageCheckDone_internal h), hrest', hshows', hsil'⟩
  · exact ⟨_, hcheck ((State.imageCheckDone_passes h hf).trans (if_pos hp)), s.drainBegin_spec _⟩
  · exact hcheck ((State.imageCheckDone_passes h hf).trans (by rw [if_neg (by simp [hp]), if_pos hh]))
  · refine ⟨_, hcheck ((State.imageCheckDone_passes h hf).trans (by rw [if_neg (by simp [hp]), if_neg (by simp [hh])])), ?_,
      State.silRest_loadShows (s.loadOutcome_loadShows _ _ _ _), rfl⟩
    rw [State.silRest_eq, State.setSil_silState, State.loadOutcome_atRest]

theorem imageCommands_listed {word value : Nat} (hg : s.guardedBy ch n x 0) (hw : word < 4096) (hv : value < 2 ^ 64) :
    (s.silState = .noImage → ∃ u, Answers (.silBeginFull ch) s u ∧ u.silState = .staging ∧ u.sil.staging = [] ∧ u.mem = s.mem ∧
      s.keepsFields u (F.SIL_STATE_STATE.key 0 :: collideKeys)) ∧
    (s.silState = .running → ∃ u, Answers (.silBeginPartial ch) s u ∧ u.silState = .staging ∧ u.sil.staging = [] ∧ u.mem = s.mem ∧
      s.keepsFields u (F.SIL_STATE_STATE.key 0 :: collideKeys)) ∧
    (s.silState = .staging →
      (s.membersIn .admitting = [] → ∃ u, Answers (.silCommit ch) s u ∧ u.silState = .verifying ∧
        u.sil.latched = s.fld F.SIL_STAGE_LEN_LEN_64B ∧ u.sil.committer = some x ∧ u.sil.staging = s.sil.staging ∧ u.mem = s.mem ∧
        s.keepsFields u (F.SIL_STATE_STATE.key 0 :: collideKeys)) ∧
      (∃ u, AnswersThen (.silAbort ch) s u ∧ u.silState = s.atRest ∧ u.sil.staging = [] ∧ s.keepsFields u (F.SIL_STATE_STATE.key 0 :: collideKeys)) ∧
      (∃ u, Answers (.silApertureWrite ch word value) s u ∧ u.sil.staging.getD (s.fld F.SIL_STAGE_PAGE_PAGE * 4096 + word) 0 = value ∧
        (∀ w, w ≠ s.fld F.SIL_STAGE_PAGE_PAGE * 4096 + word → u.sil.staging.getD w 0 = s.sil.staging.getD w 0) ∧ s.keepsFields u collideKeys)) ∧
    (s.silState = .draining → ∃ u, AnswersThen (.silAbort ch) s u ∧ u.silState = .running ∧ u.loadShows .done 0x41) := by
  have hst {v : SilState} (h : s.silState = v) : (s.asked ch).silState = v := by rw [State.asked_silState, h]
  have hsame (l : List Nat) : s.keepsFields (s.asked ch) l := s.asked_keepsFields ch l
  have hkeep {t u : State} {o : Nat} (ht : (s.asked ch).keepsFields t [F.SIL_STATE_STATE.key 0]) (hu : t.Noted u x o) :
      s.keepsFields u (F.SIL_STATE_STATE.key 0 :: collideKeys) :=
    ((hsame _).trans (ht.mono (by simp))).trans (hu.keepsFields.mono (by simp))
  have hset (l : Sil) (st : SilState) := (s.asked ch).withSil_keepsFields l st
  refine ⟨fun h => ?_, fun h => ?_, fun h => ⟨fun ha => ?_, ?_, ?_⟩, fun h => ?_⟩
  · obtain ⟨u, hu, hn⟩ := holder_notedNow (exec_silBeginFull s ch) hg (State.silBegin_listed (hst h))
    exact ⟨u, hu, hn.silState.trans (State.setSil_silState _ _), by rw [hn.sil]; rfl, hn.mem.trans (s.asked_mem ch), hkeep (hset _ _) hn⟩
  · obtain ⟨u, hu, hn⟩ := holder_notedNow (exec_silBeginPartial s ch) hg (State.silBegin_listed (hst h))
    exact ⟨u, hu, hn.silState.trans (State.setSil_silState _ _), by rw [hn.sil]; rfl, hn.mem.trans (s.asked_mem ch), hkeep (hset _ _) hn⟩
  · obtain ⟨u, hu, hn⟩ := holder_notedNow (exec_silCommit s ch) hg (State.silCommit_staged (hst h) (by simpa using ha))
    exact ⟨u, hu, hn.silState.trans (State.setSil_silState _ _), by rw [hn.sil]; exact s.asked_fld ch _ _, by rw [hn.sil]; rfl,
      by rw [hn.sil]; exact (show _ = (s.asked ch).sil.staging from rfl).trans (by rw [s.asked_sil ch]), hn.mem.trans (s.asked_mem ch), hkeep (hset _ _) hn⟩
  · obtain ⟨u, hu, hn⟩ := holder_noted (exec_silAbort s ch) hg (State.silAbort_staging (hst h))
    refine ⟨u, hu, hn.silState.trans ?_, by rw [hn.sil]; rfl, hkeep (hset _ _) hn⟩
    exact (State.setSil_silState _ _).trans (s.asked_atRest ch)
  · have hap : (s.asked ch).apertureWrite x n (word % 4096) (value % 2 ^ 64) = { s.asked ch with
        sil.staging := (s.asked ch).sil.staging.store (s.fld F.SIL_STAGE_PAGE_PAGE * 4096 + word) value 0 } := by
      rw [State.apertureWrite, if_neg (not_not.mpr (hst h)), Nat.mod_eq_of_lt hw, Nat.mod_eq_of_lt hv, State.asked_fld]
    obtain ⟨u, hu, hn⟩ := holder_notedNow (exec_silApertureWrite s ch word value) hg hap
    refine ⟨u, hu, ?_, fun w hne => ?_, ((hsame _).trans (State.keepsFields_of_regs rfl)).trans hn.keepsFields⟩
    · rw [hn.sil]; exact Tbl.getD_store_same _ _ _ _
    · rw [hn.sil, ← s.asked_sil ch]; exact Tbl.getD_store_ne _ _ _ _ hne.symm
  · obtain ⟨u, hu, hn⟩ := holder_noted (exec_silAbort s ch) hg (State.silAbort_draining (hst h))
    refine ⟨u, hu, ?_, hn.loadShows (State.loadOutcome_loadShows _ _ _ _ _)⟩
    rw [hn.silState, State.loadOutcome_silState]
    exact (State.silReopen_spec _).1

theorem imageCommands_refused {word : Nat} (value : Nat) (hw : word < 4096) :
    (s.guardedBy ch n x 0 →
      (s.silState ≠ .noImage → ∃ u v, Answers (.silBeginFull ch) s u ∧ (s.asked ch).reports v x n 0x10008 .stateConflict ∧ u = v.count F.SIL_COUNT_CMD_REFUSED) ∧
      (s.silState ≠ .running → ∃ u v, Answers (.silBeginPartial ch) s u ∧ (s.asked ch).reports v x n 0x10008 .stateConflict ∧ u = v.count F.SIL_COUNT_CMD_REFUSED) ∧
      (s.silState ≠ .staging → ∃ u v, Answers (.silCommit ch) s u ∧ (s.asked ch).reports v x n 0x10008 .stateConflict ∧ u = v.count F.SIL_COUNT_CMD_REFUSED) ∧
      (s.silState ≠ .staging → s.silState ≠ .draining →
        ∃ u v, AnswersThen (.silAbort ch) s u ∧ (s.asked ch).reports v x n 0x10008 .stateConflict ∧ u = v.count F.SIL_COUNT_CMD_REFUSED) ∧
      (s.silState ≠ .staging → ∃ u, Answers (.silApertureWrite ch word value) s u ∧ (s.asked ch).reports u x n (0x18000 + 8 * word) .stateConflict)) ∧
    (s.unguarded ch n x 0 →
      (∀ c ∈ [Instr.silBeginFull ch, .silBeginPartial ch, .silCommit ch], ∃ u, Answers c s u ∧ (s.touch ch).reports u x n 0x10008 .semNotHeld) ∧
      (∃ u, AnswersThen (.silAbort ch) s u ∧ (s.touch ch).reports u x n 0x10008 .semNotHeld)) := by
  refine ⟨fun hg => ?_, fun hu => ⟨fun c hc => ?_, _, answersThen_of_runOn (exec_silAbort s ch) hu.1.1, State.asHolder_denied hu⟩⟩
  · have hst {v : SilState} (h : s.silState ≠ v) : (s.asked ch).silState ≠ v := by rwa [State.asked_silState]
    refine ⟨fun h => holder_unlistedNow (exec_silBeginFull s ch) hg (State.silBegin_unlisted (hst h)),
      fun h => holder_unlistedNow (exec_silBeginPartial s ch) hg (State.silBegin_unlisted (hst h)),
      fun h => holder_unlistedNow (exec_silCommit s ch) hg (State.silCommit_unlisted (hst h)),
      fun h h' => holder_unlisted (exec_silAbort s ch) hg (State.silAbort_unlisted (hst h) (hst h')), fun h => ?_⟩
    have hap := holder_refusedNow (st := .stateConflict) (exec_silApertureWrite s ch word value) hg
      (show (s.asked ch).apertureWrite x n (word % 4096) (value % 2 ^ 64) = _ from if_pos (hst h))
    rwa [Nat.mod_eq_of_lt hw] at hap
  · have hden := fun f : SeatId → Nat → State → State => State.asHolder_denied (off := 0x10008) (f := f) hu
    simp only [List.mem_cons, List.not_mem_nil, or_false] at hc
    rcases hc with rfl | rfl | rfl
    · exact ⟨_, answers_of_run (exec_silBeginFull s ch) hu.1.1, hden _⟩
    · exact ⟨_, answers_of_run (exec_silBeginPartial s ch) hu.1.1, hden _⟩
    · exact ⟨_, answers_of_run (exec_silCommit s ch) hu.1.1, hden _⟩

/-- Settles O17: the listed commands, the refused ones, and the verdicts. -/
theorem imageCommands : Obligations.ImageCommands :=
  ⟨fun _ _ _ _ _ _ hg hw hv => imageCommands_listed hg hw hv, fun _ _ _ _ _ value hw => imageCommands_refused value hw,
    fun _ f hs => imageVerdicts f hs⟩

end Sys2Proof.Machine
end

section
/-! Launches of kernels, the states of a core and the units of `ATTEND` (R211, R213 to R217, R219, R224). -/

namespace Sys2Proof.Machine

variable {s t u : State} {n tag : Nat}

/-! ### What is done on each of a list of cores -/

/-- Where each step of a fold settles one core and leaves the others, every core that is named is settled. -/
theorem foldl_core_settled {α : Type} {g : State → α → State} {key : α → Nat} {P : Core → Prop} (hsame : ∀ t a, P ((g t a).core (key a)))
    (hne : ∀ t a j, j ≠ key a → (g t a).core j = t.core j) (l : List α) (h : ∃ a ∈ l, key a = n) (s : State) : P ((l.foldl g s).core n) := by
  induction l using List.reverseRecOn with
  | nil => simp at h
  | append_singleton l a ih =>
    rw [List.foldl_append, List.foldl_cons, List.foldl_nil]
    by_cases ha : key a = n
    · subst ha; exact hsame _ a
    · rw [hne _ a n (Ne.symm ha)]
      refine ih ?_
      obtain ⟨b, hb, hk⟩ := h
      rcases List.mem_append.mp hb with hb | hb
      · exact ⟨b, hb, hk⟩
      · rw [List.mem_singleton] at hb; exact absurd (hb ▸ hk) ha

/-- A core that no step names is as it was. -/
theorem foldl_core_other {α : Type} {g : State → α → State} {key : α → Nat} (hne : ∀ t a j, j ≠ key a → (g t a).core j = t.core j) (l : List α)
    (h : ∀ a ∈ l, key a ≠ n) (s : State) : (l.foldl g s).core n = s.core n :=
  List.foldlRecOn (motive := fun t => t.core n = s.core n) l g rfl fun t ht a ha => (hne t a n (h a ha).symm).trans ht

/-! ### A kernel starts -/

/-- A write of a core's memory changes its memories and its reservation. -/
theorem Core.write_frame (k : Core) (a : Nat) (bs : List MByte) : ∃ t w m v, k.write a bs = { k with tile := t, kwin := w, near := m, resv := v } := by
  have hmem (m : Mem) (r : LocalRegion) : ∃ t w x, k.setMem m r = { k with tile := t, kwin := w, near := x } := by
    cases r <;> exact ⟨_, _, _, rfl⟩
  unfold Core.write
  split
  · rename_i r _
    dsimp only
    generalize (if bs.length = 0 then [] else _) = secs
    generalize List.foldl _ _ secs = m
    obtain ⟨t, w, x, h⟩ := hmem m r
    rw [h]
    split
    · split <;> exact ⟨_, _, _, _, rfl⟩
    · exact ⟨_, _, _, _, rfl⟩
  · exact ⟨_, _, _, _, rfl⟩

/-- A core that has just started a kernel. -/
def Core.startsAt (k : Core) (pc : Nat) : Prop := k.state = .kernel ∧ k.pc = pc ∧ k.ticket = 0

theorem Core.startsAt_write {k : Core} {pc : Nat} (h : k.startsAt pc) (a : Nat) (bs : List MByte) : (k.write a bs).startsAt pc := by
  obtain ⟨t, w, m, v, hk⟩ := k.write_frame a bs
  rw [hk]
  exact h
theorem Core.startsAt_setReg {k : Core} {pc : Nat} (h : k.startsAt pc) (i v : Nat) : (k.setReg i v).startsAt pc := by
  rw [Core.setReg_eq]
  exact h

/-- One core of a launch starts its kernel. -/
def State.startOn (l : Launch) (s : State) (c : Nat × Nat) : State :=
  let b := l.image
  let k := s.core c.1
  let (d, s) := s.draw
  let (e, s) := s.draw
  let k := { k with state := .kernel, kwin := blankMem, codeLen := imgCode b, pc := kwinBase + imgEntry b, ticket := 0, statuses := [],
                    matrix := [], vector := [], dma := [], run := none, resv := none, rank := c.2, exiting := none, ended := none,
                    cycle := w64 (Config.freeValue d), instret := w64 (Config.freeValue e),
                    regs := [] }
  let k := (k.write 0 l.args).write kwinBase (unmarked (slice b 64 (imgCode b + imgData b)))
  let k := (((k.setReg 10 0).setReg 11 l.args.length).setReg 12 c.2).setReg 13 l.cores.length
  s.setCore c.1 (k.setReg 2 kwinEnd)

theorem State.startOn_same (l : Launch) (s : State) (c : Nat × Nat) : ((s.startOn l c).core c.1).startsAt (kwinBase + imgEntry l.image) := by
  unfold State.startOn
  dsimp only
  rw [State.core_setCore_same]
  refine Core.startsAt_setReg (Core.startsAt_setReg (Core.startsAt_setReg (Core.startsAt_setReg (Core.startsAt_setReg
    (Core.startsAt_write (Core.startsAt_write ?_ _ _) _ _) _ _) _ _) _ _) _ _) _ _
  exact ⟨rfl, rfl, rfl⟩

theorem State.startOn_other (l : Launch) (s : State) (c : Nat × Nat) {j : Nat} (h : j ≠ c.1) : (s.startOn l c).core j = s.core j :=
  State.core_setCore_ne _ _ h

theorem State.startOn_frame (l : Launch) (s : State) (c : Nat × Nat) :
    ∃ f k, s.startOn l c = { s with free := f, qnc.cores := k } := ⟨_, _, rfl⟩

/-- The cores of a launch that have not stopped since it was granted them. -/
def State.ready (s : State) (l : Launch) : List (Nat × Nat) :=
  (l.cores.zipIdx).filter (fun c => (s.core c.1).state == .idle && (s.core c.1).ended.isNone)

theorem State.launchStart_eq (s : State) (l : Launch) : ∃ ls, s.launchStart l = { (s.ready l).foldl (State.startOn l) s with qnc.launches := ls } :=
  ⟨_, rfl⟩

theorem State.launchStart_frame (s : State) (l : Launch) : (s.launchStart l).mem = s.mem ∧ (s.launchStart l).qnc.digests = s.qnc.digests := by
  obtain ⟨ls, h⟩ := s.launchStart_eq l
  have hf : ((s.ready l).foldl (State.startOn l) s).mem = s.mem ∧ ((s.ready l).foldl (State.startOn l) s).qnc.digests = s.qnc.digests :=
    List.foldlRecOn (motive := fun t : State => t.mem = s.mem ∧ t.qnc.digests = s.qnc.digests) _ _ ⟨rfl, rfl⟩ fun t ht c _ => by
      obtain ⟨f, k, hk⟩ := State.startOn_frame l t c
      rw [hk]; exact ht
  rw [h]
  exact hf

theorem State.launchStart_core (s : State) (l : Launch) (hm : n ∈ l.cores) (hi : (s.core n).state = .idle) (he : (s.core n).ended = none) :
    ((s.launchStart l).core n).startsAt (kwinBase + imgEntry l.image) := by
  obtain ⟨ls, h⟩ := s.launchStart_eq l
  rw [h]
  refine foldl_core_settled (P := fun k => k.startsAt (kwinBase + imgEntry l.image)) (key := Prod.fst) (State.startOn_same l)
    (fun t c j hj => State.startOn_other l t c hj) (s.ready l) ?_ s
  obtain ⟨i, hi', hn⟩ := List.getElem_of_mem hm
  exact ⟨(n, i), List.mem_filter.mpr ⟨by rw [List.mem_zipIdx_iff_getElem?]; simp [hi', hn], by simp [hi, he]⟩, rfl⟩

/-! ### Verdicts on an image, and its budget -/

theorem State.extendMr_mem (s : State) (r k : Nat) (e : List Byte) : (s.extendMr r k e).mem = s.mem := by rw [State.extendMr_frame]
theorem State.extendMr_qnc (s : State) (r k : Nat) (e : List Byte) : (s.extendMr r k e).qnc = s.qnc := by rw [State.extendMr_frame]

section Verify
variable {l : Launch} (hl : s.qnc.launches.find? (fun l => l.tag == tag && l.verifying) = some l)
include hl

/-- The digest table with a new entry: the last 256. -/
def Qnc.withDigest (q : Qnc) (d : List Byte) : List (List Byte) := (q.digests ++ [d]).drop ((q.digests ++ [d]).length - 256)

omit hl in
theorem Qnc.mem_withDigest (q : Qnc) (d : List Byte) : d ∈ q.withDigest d := by
  unfold Qnc.withDigest
  rw [List.drop_append_of_le_length (by simp)]
  simp

/-- The digest of an image that verifies is entered in the table and in MR5. -/
def State.digested (s : State) (d : List Byte) : State :=
  (({ s with qnc.digests := s.qnc.withDigest d } : State).extendMr 5 5 d).setF F.QNC_KCACHE_ENTRIES (s.qnc.withDigest d).length

omit hl in
theorem State.digested_frame (s : State) (d : List Byte) :
    (s.digested d).mem = s.mem ∧ (s.digested d).qnc.cores = s.qnc.cores ∧ (s.digested d).qnc.digests = s.qnc.withDigest d := by
  have hmem := State.extendMr_mem { s with qnc.digests := s.qnc.withDigest d } 5 5 d
  have hqnc := State.extendMr_qnc { s with qnc.digests := s.qnc.withDigest d } 5 5 d
  unfold State.digested
  generalize ({ s with qnc.digests := s.qnc.withDigest d } : State).extendMr 5 5 d = v at hmem hqnc ⊢
  generalize (s.qnc.withDigest d).length = k
  refine ⟨hmem, ?_, ?_⟩
  · change v.qnc.cores = _; rw [hqnc]
  · change v.qnc.digests = _; rw [hqnc]

theorem State.kernelVerifyDone_signed (hs : s.imageSigned l.image = true) :
    s.kernelVerifyDone tag = (s.digested (Config.sha384 l.image)).launchStart l := by
  unfold State.kernelVerifyDone
  simp only [hl, hs, if_true]
  rfl

theorem State.kernelVerifyDone_unsigned (hs : s.imageSigned l.image = false) : s.kernelVerifyDone tag =
    (s.logErr { unit := .qnc, status := .authFail, opcode := dKERNEL_LAUNCH, ctx := (s.workOf tag).map (fun w => w.ctx), tag := tag }).launchEnd
      tag .authFail 0 := by
  unfold State.kernelVerifyDone
  simp only [hl, hs, Bool.false_eq_true, if_false]

end Verify

/-- A core of the launch whose budget is spent leaves, if it still executes. -/
def State.budgetTrap (s : State) (n : Nat) : State := if s.scalarRuns n then s.coreTrap n cBudget else s

theorem State.budgetTrap_other (s : State) {j n : Nat} (h : j ≠ n) : (s.budgetTrap n).core j = s.core j := by
  obtain ⟨-, -, -, -, hother⟩ := s.coreTrap_quiet n (c := cBudget) (by decide)
  unfold State.budgetTrap
  split
  · exact hother j h
  · rfl

theorem State.budgetTrap_frame (s : State) (n : Nat) : (s.budgetTrap n).mem = s.mem ∧ (s.budgetTrap n).now = s.now := by
  obtain ⟨r, q, h, -⟩ := s.coreTrap_quiet n (c := cBudget) (by decide)
  unfold State.budgetTrap
  split
  · rw [h]; exact ⟨rfl, rfl⟩
  · exact ⟨rfl, rfl⟩

/-- Cores that are told of the budget one after another: one that executed leaves with its status. -/
theorem State.budgetTraps_core (l : List Nat) (s : State) (hm : n ∈ l) (hr : s.scalarRuns n = true) :
    ∃ off, ((l.foldl State.budgetTrap s).core n).exiting = some ((causeStatus cBudget).code, off) := by
  induction l generalizing s with
  | nil => simp at hm
  | cons m l ih =>
    rw [List.foldl_cons]
    by_cases h : n = m
    · subst h
      have hex : ((s.budgetTrap n).core n).exiting = some ((causeStatus cBudget).code, (s.core n).pcOff) := by
        rw [State.budgetTrap, if_pos hr, State.coreTrap_core hr]
      refine ⟨(s.core n).pcOff, ?_⟩
      refine List.foldlRecOn (motive := fun t : State => (t.core n).exiting = some ((causeStatus cBudget).code, (s.core n).pcOff)) l _ hex ?_
      intro t ht j _
      by_cases hj : n = j
      · subst hj
        rw [State.budgetTrap, if_neg (by simp [State.scalarRuns, ht])]; exact ht
      · rw [t.budgetTrap_other hj]; exact ht
    · have hsame : (s.budgetTrap m).core n = s.core n := s.budgetTrap_other h
      refine ih (s.budgetTrap m) ((List.mem_cons.mp hm).resolve_left h) ?_
      rw [State.scalarRuns, hsame]; exact hr

theorem State.budgetExpiry_eq {l : Launch} (hl : s.qnc.launches.find? (fun l => l.tag == tag && l.started.isSome) = some l) :
    s.budgetExpiry tag = l.cores.foldl State.budgetTrap (s.reach (l.started.getD 0 + l.budgetUs * nsPerUs)) := by
  unfold State.budgetExpiry
  simp only [hl]
  rfl

theorem State.budgetExpiry_spec {l : Launch} (hl : s.qnc.launches.find? (fun l => l.tag == tag && l.started.isSome) = some l) :
    l.started.getD 0 + l.budgetUs * 1000 ≤ (s.budgetExpiry tag).now ∧ (s.budgetExpiry tag).mem = s.mem ∧
      (∀ n ∈ l.cores, s.scalarRuns n = true → ∃ off, ((s.budgetExpiry tag).core n).exiting = some ((causeStatus cBudget).code, off)) ∧
      ∀ n, n ∉ l.cores → (s.budgetExpiry tag).core n = s.core n := by
  rw [State.budgetExpiry_eq hl]
  generalize hv : s.reach (l.started.getD 0 + l.budgetUs * nsPerUs) = v
  have hnow : l.started.getD 0 + l.budgetUs * 1000 ≤ v.now := by rw [← hv]; exact Nat.le_max_right _ _
  have hcore (n : Nat) : v.core n = s.core n := by rw [← hv]; rfl
  have hmem : v.mem = s.mem := by rw [← hv]; rfl
  have hframe : (l.cores.foldl State.budgetTrap v).mem = v.mem ∧ (l.cores.foldl State.budgetTrap v).now = v.now :=
    List.foldlRecOn (motive := fun t : State => t.mem = v.mem ∧ t.now = v.now) _ _ ⟨rfl, rfl⟩ fun t ht n _ =>
      ⟨(t.budgetTrap_frame n).1.trans ht.1, (t.budgetTrap_frame n).2.trans ht.2⟩
  refine ⟨hframe.2.symm ▸ hnow, hframe.1.trans hmem, fun n hn hr => State.budgetTraps_core l.cores v hn (by rw [State.scalarRuns, hcore]; exact hr),
    fun n hn => ?_⟩
  exact (foldl_core_other (n := n) (key := id) (fun t a j hj => t.budgetTrap_other hj) l.cores (fun a ha (he : a = n) => hn (he ▸ ha)) v).trans (hcore n)

theorem State.kcacheFlush_spec (s : State) : s.kcacheFlush.qnc.digests = [] ∧ s.kcacheFlush.fld F.QNC_KCACHE_ENTRIES = 0 ∧
    s.keepsFields s.kcacheFlush [F.QNC_KCACHE_ENTRIES.key 0] :=
  ⟨rfl, State.fld_setF_same _ _ _ _, State.keepsFields.trans (State.keepsFields_of_regs rfl) (State.keepsFields_setF _ _ (by simp))⟩

/-! ### Wakes and idle cores -/

theorem State.coreWakeDone_spec (hn : n < 16) (hw : s.islandState (n + 1) = isWAKING) : (s.coreWakeDone n).islandState (n + 1) = isON ∧
    s.pwr.wakeAt.getD (n + 1) 0 + 30000 ≤ (s.coreWakeDone n).now ∧ ((s.core n).state = .waking → ((s.coreWakeDone n).core n).state = .idle) ∧
      (s.coreWakeDone n).mem = s.mem := by
  unfold State.coreWakeDone
  rw [if_neg (by omega)]
  dsimp only
  generalize hv : (s.reach (s.pwr.wakeAt.getD (n + 1) 0 + 30 * nsPerUs)).setIsland (n + 1) isON = v
  have hisl : v.islandState (n + 1) = isON := by rw [← hv]; exact State.islandState_setIsland_same _ (by omega) (by decide)
  rw [State.setIsland, if_neg (by omega)] at hv
  have hnow : s.pwr.wakeAt.getD (n + 1) 0 + 30000 ≤ v.now := by rw [← hv]; exact Nat.le_max_right _ _
  have hcore : v.core n = s.core n := by rw [← hv]; rfl
  have hmem : v.mem = s.mem := by rw [← hv]; rfl
  rw [hcore]
  split
  · exact ⟨hisl, hnow, fun _ => by rw [State.core_setCore_same], hmem⟩
  · exact ⟨hisl, hnow, fun h => absurd h ‹_›, hmem⟩

/-- A core that powers down. -/
def State.poweredDown (s : State) (n : Nat) : State :=
  ((s.reach ((s.core n).since + s.fld (F.QNC_IDLE_GATE_US.core n) * nsPerUs)).setCore n { s.core n with state := .off }).loseTile n

theorem State.coreIdleGate_gates (hn : n < 16) (hi : (s.core n).state = .idle) (hl : (s.core n).launch = none) (hs : (s.core n).isolation = 0)
    (hq : s.fld F.RAS_QUAR_STATE ≠ 1) : s.coreIdleGate n = (s.poweredDown n).setIsland (n + 1) isOFF := by
  unfold State.coreIdleGate
  dsimp only
  rw [if_neg (by simp [hi, hl, hs, hq, hn])]
  rfl

theorem State.poweredDown_core (s : State) (n : Nat) : ((s.poweredDown n).core n).state = .off ∧ ((s.poweredDown n).core n).tile = blankMem ∧
    (∀ j, j ≠ n → (s.poweredDown n).core j = s.core j) ∧ (s.poweredDown n).mem = s.mem ∧
    (s.core n).since + s.fld (F.QNC_IDLE_GATE_US.core n) * 1000 ≤ (s.poweredDown n).now := by
  unfold State.poweredDown State.loseTile
  dsimp only
  rw [State.core_setCore_same]
  refine ⟨?_, rfl, fun j hj => ?_, rfl, Nat.le_max_right _ _⟩
  · change ((State.setCore _ n _).core n).state = _
    rw [State.core_setCore_same]
  · rw [State.core_setCore_ne _ _ hj]
    exact State.core_setCore_ne _ _ hj

theorem State.coreIdleGate_stays (h : (s.core n).state ≠ .idle) : s.coreIdleGate n = s := by
  unfold State.coreIdleGate
  exact if_pos (.inr (.inl h))

/-! ### Units of `ATTEND` -/

/-- What a unit's product leaves of the core's counters. -/
theorem csum_apart : ∀ n < 16, (F.QNC_CSUM_TRANSIENT.core n).place ≠ (F.QNC_WORK_UNITS.core n).place ∧
    (F.QNC_CSUM_TRANSIENT.core n).place ≠ (F.QNC_CSUM_PERSISTENT.core n).place := by decide

theorem csumFault_apart : ∀ n < 16, (F.QNC_CSUM_PERSISTENT.core n).place ∉ upkeepPlaces ∧ (F.QNC_CSUM_PERSISTENT.core n).place ∉ trapPlaces n ∧
    (F.QNC_CSUM_PERSISTENT.core n).place ∉ logKeys.map (· % 2 ^ 30) := by decide

theorem State.csumCount_passed (s : State) (n k : Nat) : s.csumCount n k false = s.count (F.QNC_CSUM_TRANSIENT.core n) k := rfl

/-- A persistent mismatch is counted and stops the core. -/
theorem State.csumCount_failed (s : State) (hn : n < 16) (k : Nat) : ((s.csumCount n k true).core n).state = .faulted ∧
    ((s.csumCount n k true).core n).matrix = [] ∧ s.counted (s.csumCount n k true) (F.QNC_CSUM_PERSISTENT.core n) ∧ (s.csumCount n k true).mem = s.mem := by
  obtain ⟨hup, htrap, hlog⟩ := csumFault_apart n hn
  have hc : s.csumCount n k true = (((s.count (F.QNC_CSUM_TRANSIENT.core n) k).count (F.QNC_CSUM_PERSISTENT.core n)).logErr
    { unit := .qnc, status := .internal, index := n }).faultCore n cCsum := rfl
  rw [hc]
  generalize hv : (s.count (F.QNC_CSUM_TRANSIENT.core n) k).count (F.QNC_CSUM_PERSISTENT.core n) = v
  have hstop := Stops.faultCore (v.logErr { unit := .qnc, status := .internal, index := n }) n (c := cCsum) (by decide)
  obtain ⟨hst, hmat, -⟩ := (v.logErr { unit := .qnc, status := .internal, index := n }).stopCore_core n cCsum .faulted
  refine ⟨hst, hmat, ?_, hstop.mem.trans ((State.logErr_mem _ _).trans (by rw [← hv]; rfl))⟩
  rw [State.counted, hstop.fld hup htrap, (v.logErr_keepsFields _).keepsPlaces _ _ hlog, ← hv, State.fld_count_same, State.fld_count_same,
    State.fld_count_place _ _ _ _ _ _ (csum_apart n hn).2]

section Unit
variable {sq h c : Nat} {u0 : AttUnit} {w : Work} {fs : List ArrayFault} (ha : (s.core n).attend = some (tag, sq, h, c))
  (hst : (s.core n).state = .attend) (hu : s.chunkOf tag sq h c = some u0) (hw : s.workOf tag = some w)
  (hdue : (s.ras.sentinelDue.contains (2 * n) || s.ras.sentinelDue.contains (2 * n + 1)) = false)

/-- What the chunk on a core has come to. -/
def State.chunkDone (s : State) (n : Nat) (u0 : AttUnit) (w : Work) (fs : List ArrayFault) : AttState :=
  chunkResult w.desc u0 (s.fld (F.QNC_CSUM_TOL_TOL.core n)) s.free fs

/-- The free values that the computation of a chunk takes. -/
def State.unitDrawn (s : State) (u0 : AttUnit) (w : Work) : State := { s with free := s.free + 1 + u0.blocks.length * attBlockFree w.desc }

/-- A chunk that has been computed. -/
def AttUnit.computed (u0 : AttUnit) (w : Work) (r : AttState) : AttUnit :=
  { u0 with stage := 6, core := none, q := [], table := [], blocks := [], bad := chunkPoisoned w.desc u0, part := r.rows.map AttAcc.codes }

/-- A chunk is computed and its core is free. -/
def State.unitComputed (s : State) (n tag sq h c : Nat) (u0 : AttUnit) (w : Work) (r : AttState) : State :=
  let x : Suspect := ⟨w.ctx, tag, u0.name, true⟩
  let s := ((s.unitDrawn u0 w).csumCount n r.transient false).modChunk tag sq h c (fun v => { v with
    stage := 6, core := none, q := [], table := [], blocks := [], bad := chunkPoisoned w.desc u0, part := r.rows.map AttAcc.codes })
  ((((s.count (F.QNC_WORK_UNITS.core n)).ranOn n 0 x).ranOn n 1 x).ranOn n 2 x).unitCoreFree u0

section Done
include ha hu hw

theorem State.attendUnitDone_waits (hstage : u0.stage ≠ 3) : s.attendUnitDone n fs = s := by
  unfold State.attendUnitDone
  simp only [ha, hu, hw]
  exact if_pos (.inr (.inl hstage))

include hst hdue

theorem State.attendUnitDone_failed (hstage : u0.stage = 3) (hf : (s.chunkDone n u0 w fs).failed = true) :
    s.attendUnitDone n fs = (s.unitDrawn u0 w).csumCount n (s.chunkDone n u0 w fs).transient true := by
  unfold State.attendUnitDone
  simp only [ha, hu, hw]
  rw [if_neg (by simp [hst, hstage]; simpa using hdue)]
  exact (if_pos hf).trans (by rw [← hf]; rfl)

theorem State.attendUnitDone_computed (hstage : u0.stage = 3) (hf : (s.chunkDone n u0 w fs).failed = false) :
    s.attendUnitDone n fs = if ((s.unitComputed n tag sq h c u0 w (s.chunkDone n u0 w fs)).qnc.units.filter (fun x => x.of tag sq h)).all
      (fun x => x.stage == 6) then (s.unitComputed n tag sq h c u0 w (s.chunkDone n u0 w fs)).unitWritten w sq h
      else s.unitComputed n tag sq h c u0 w (s.chunkDone n u0 w fs) := by
  unfold State.attendUnitDone
  simp only [ha, hu, hw]
  rw [if_neg (by simp [hst, hstage]; simpa using hdue)]
  refine (if_neg ?_).trans ?_
  · exact fun e => absurd (hf.symm.trans e) (by decide)
  · unfold State.unitComputed
    rw [← hf]
    rfl

end Done

include hst hu in
theorem State.unitComputed_spec (hn : n < 16) (hcore : u0.core = some n) (r : AttState) :
    ((s.unitComputed n tag sq h c u0 w r).core n).state = .idle ∧ ((s.unitComputed n tag sq h c u0 w r).core n).attend = none ∧
    s.counted (s.unitComputed n tag sq h c u0 w r) (F.QNC_WORK_UNITS.core n) ∧ (s.unitComputed n tag sq h c u0 w r).mem = s.mem ∧
    (s.unitComputed n tag sq h c u0 w r).chunkOf tag sq h c = some (u0.computed w r) := by
  unfold State.unitComputed
  extract_lets x v
  generalize hz : (((v.count (F.QNC_WORK_UNITS.core n)).ranOn n 0 x).ranOn n 1 x).ranOn n 2 x = z
  have hzc : z.core n = s.core n := by rw [← hz]; rfl
  have hfree : z.unitCoreFree u0 = z.setCore n { s.core n with state := .idle, attend := none, since := z.now } := by
    unfold State.unitCoreFree
    simp only [hcore, hzc, hst, if_true]
  have hfld : z.fld (F.QNC_WORK_UNITS.core n) = (v.count (F.QNC_WORK_UNITS.core n)).fld (F.QNC_WORK_UNITS.core n) := by rw [← hz]; rfl
  have hunits : z.qnc.units = v.qnc.units := by rw [← hz]; rfl
  have hmem : z.mem = s.mem := by rw [← hz]; rfl
  rw [hfree]
  refine ⟨by rw [State.core_setCore_same], by rw [State.core_setCore_same], ?_, hmem, ?_⟩
  · refine Eq.trans (show _ = z.fld (F.QNC_WORK_UNITS.core n) from rfl) (hfld.trans ?_)
    rw [State.fld_count_same, State.fld_count_same]
    have hv : v.fld (F.QNC_WORK_UNITS.core n) = s.fld (F.QNC_WORK_UNITS.core n) := by
      refine Eq.trans (show _ = ((s.unitDrawn u0 w).count (F.QNC_CSUM_TRANSIENT.core n) r.transient).fld (F.QNC_WORK_UNITS.core n) from rfl) ?_
      rw [State.fld_count_place _ _ _ _ _ _ (csum_apart n hn).1]; rfl
    rw [hv]
  · refine Eq.trans (show _ = z.qnc.units.find? (fun u => u.of tag sq h && u.chunk == c) from rfl) ?_
    rw [hunits]
    have hmap : v.qnc.units = s.qnc.units.map (fun u => if u.of tag sq h && u.chunk == c then { u with
        stage := 6, core := none, q := [], table := [], blocks := [], bad := chunkPoisoned w.desc u0, part := r.rows.map AttAcc.codes } else u) := rfl
    rw [hmap, List.find?_map]
    have hcomp : ((fun u : AttUnit => u.of tag sq h && u.chunk == c) ∘ fun u => if u.of tag sq h && u.chunk == c then { u with
        stage := 6, core := none, q := [], table := [], blocks := [], bad := chunkPoisoned w.desc u0, part := r.rows.map AttAcc.codes } else u) =
        fun u => u.of tag sq h && u.chunk == c := by
      funext u
      simp only [Function.comp_apply]
      split <;> simp_all [AttUnit.of]
    have hfind : s.qnc.units.find? (fun u => u.of tag sq h && u.chunk == c) = some u0 := hu
    rw [hcomp, hfind]
    have hof := List.find?_some hfind
    simp only [Option.map_some, hof, if_true]
    rfl

end Unit

/-! ### The obligation -/

/-- The clauses on the images of launches, their budget and the digest table. -/
theorem launches_verified (l : Launch) (hs : s.serves [] = true) :
    (s.qnc.launches.find? (fun l => l.tag == tag && l.verifying) = some l →
      (s.imageSigned l.image = true → ∃ u, AnswersThen (.kernelVerifyDone tag) s u ∧ Config.sha384 l.image ∈ u.qnc.digests ∧
        (∀ n ∈ l.cores, n < 16 → (s.core n).state = .idle → (s.core n).ended = none →
          (u.core n).state = .kernel ∧ (u.core n).pc = kwinBase + imgEntry l.image ∧ (u.core n).ticket = 0) ∧ u.mem = s.mem) ∧
      (s.imageSigned l.image = false → ∃ v : State, AnswersThen (.kernelVerifyDone tag) s (v.launchEnd tag .authFail 0) ∧ v.qnc = s.qnc ∧ v.works = s.works)) ∧
    (s.qnc.launches.find? (fun l => l.tag == tag && l.started.isSome) = some l →
      ∃ u, AnswersThen (.launchBudgetExpiry tag) s u ∧ l.started.getD 0 + l.budgetUs * 1000 ≤ u.now ∧ u.mem = s.mem ∧
        (∀ n ∈ l.cores, s.scalarRuns n = true → ∃ off, (u.core n).exiting = some ((causeStatus cBudget).code, off)) ∧
        (∀ n, n ∉ l.cores → u.core n = s.core n)) := by
  have hverify {u : State} (h : s.kernelVerifyDone tag = u) : AnswersThen (.kernelVerifyDone tag) s u :=
    core_answersThen (exec_kernelVerifyDone s tag) hs h
  refine ⟨fun hl => ⟨fun hsig => ?_, fun hsig => ?_⟩, fun hl => ?_⟩
  · obtain ⟨hmem, hcores, hdigests⟩ := s.digested_frame (Config.sha384 l.image)
    have hcore (n : Nat) : (s.digested (Config.sha384 l.image)).core n = s.core n := by rw [State.core, hcores, State.core]
    obtain ⟨hm, hd⟩ := (s.digested (Config.sha384 l.image)).launchStart_frame l
    refine ⟨_, hverify (State.kernelVerifyDone_signed hl hsig), ?_,
      fun n hn _ hi he => State.launchStart_core _ l hn (by rw [hcore]; exact hi) (by rw [hcore]; exact he), hm.trans hmem⟩
    rw [hd, hdigests]
    exact Qnc.mem_withDigest _ _
  · refine ⟨_, hverify (State.kernelVerifyDone_unsigned hl hsig), ?_, ?_⟩
    · rw [State.logErr_frame]
    · rw [State.logErr_frame]
  · exact ⟨_, core_answersThen (exec_launchBudgetExpiry s tag) hs rfl, State.budgetExpiry_spec hl⟩

/-- The clauses on wakes and idle cores. -/
theorem cores_wake (hn : n < 16) (hs : s.serves [] = true) :
    (s.islandState (n + 1) = isWAKING → ∃ u, AnswersThen (.coreWakeDone n) s u ∧ u.islandState (n + 1) = isON ∧
      (s.pwr.wakeAt.getD (n + 1) 0 + 30000 ≤ u.now) ∧ ((s.core n).state = .waking → (u.core n).state = .idle) ∧ u.mem = s.mem) ∧
    ((s.core n).state = .idle → (s.core n).launch = none → (s.core n).isolation = 0 → s.fld F.RAS_QUAR_STATE ≠ 1 →
      ∃ u, Answers (.coreIdleGate n) s u ∧ (u.core n).state = .off ∧ u.islandState (n + 1) = isOFF ∧ (u.core n).tile = blankMem ∧
        (s.core n).since + s.fld (F.QNC_IDLE_GATE_US.core n) * 1000 ≤ u.now ∧ u.mem = s.mem ∧ ∀ j, j ≠ n → u.core j = s.core j) ∧
    ((s.core n).state ≠ .idle → Answers (.coreIdleGate n) s s) := by
  have hwake : exec (.coreWakeDone n) s = s.runOn [] (fun s => s.coreWakeDone n) :=
    exec_core (f := fun n s => s.runOn [] (fun s => s.coreWakeDone n)) hn (exec_coreWakeDone s n)
  have hgate : exec (.coreIdleGate n) s = s.run [] (fun s => s.coreIdleGate n) :=
    exec_core (f := fun n s => s.run [] (fun s => s.coreIdleGate n)) hn (exec_coreIdleGate s n)
  refine ⟨fun hw => ⟨_, core_answersThen hwake hs rfl, State.coreWakeDone_spec hn hw⟩, fun hi hl hiso hq => ?_,
    fun h => core_answers hgate hs (State.coreIdleGate_stays h)⟩
  obtain ⟨hoff, htile, hother, hmem, hnow⟩ := s.poweredDown_core n
  have hset : (s.poweredDown n).setIsland (n + 1) isOFF = (s.poweredDown n).setF (F.PWR_ISLAND_STATE.at (n + 1 - 1)) isOFF := by
    rw [State.setIsland, if_neg (by omega)]
  refine ⟨_, core_answers hgate hs (State.coreIdleGate_gates hn hi hl hiso hq), ?_, State.islandState_setIsland_same _ (by omega) (by decide), ?_, ?_, ?_,
    fun j hj => ?_⟩ <;> rw [hset]
  · exact hoff
  · exact htile
  · exact hnow
  · exact hmem
  · exact hother j hj

/-- The clauses on units of `ATTEND`. -/
theorem attendUnits_done {sq h c : Nat} {u0 : AttUnit} {w : Work} (fs : List ArrayFault) (hn : n < 16) (hs : s.serves [] = true)
    (hon : s.islandOn (n + 1) = true) (ha : (s.core n).attend = some (tag, sq, h, c)) (hst : (s.core n).state = .attend)
    (hu : s.chunkOf tag sq h c = some u0) (hw : s.workOf tag = some w)
    (hdue : (s.ras.sentinelDue.contains (2 * n) || s.ras.sentinelDue.contains (2 * n + 1)) = false) :
    (u0.stage ≠ 3 → AnswersThen (.attendUnitDone n fs) s s) ∧
    (∀ res, u0.stage = 3 → u0.core = some n → res = chunkResult w.desc u0 (s.fld (F.QNC_CSUM_TOL_TOL.core n)) s.free fs →
      (res.failed = false → ∃ v : State, AnswersThen (.attendUnitDone n fs) s
          (if (v.qnc.units.filter (fun x => x.of tag sq h)).all (fun x => x.stage == 6) then v.unitWritten w sq h else v) ∧
        (v.core n).state = .idle ∧ (v.core n).attend = none ∧ s.counted v (F.QNC_WORK_UNITS.core n) ∧ v.mem = s.mem ∧
        v.chunkOf tag sq h c = some { u0 with stage := 6, core := none, q := [], table := [], blocks := [], bad := chunkPoisoned w.desc u0,
                                              part := res.rows.map AttAcc.codes }) ∧
      (res.failed = true → ∃ u, AnswersThen (.attendUnitDone n fs) s u ∧ (u.core n).state = .faulted ∧
        s.counted u (F.QNC_CSUM_PERSISTENT.core n) ∧ u.mem = s.mem)) := by
  have hserve : s.serves [n + 1] = true := by
    simp only [State.serves, List.all_nil, Bool.and_true] at hs
    simp [State.serves, hs, hon]
  have hrun {u : State} (h : s.attendUnitDone n fs = u) : AnswersThen (.attendUnitDone n fs) s u :=
    core_answersThen (exec_core (f := fun n s => s.runOn [n + 1] (fun s => s.attendUnitDone n fs)) hn (exec_attendUnitDone s n fs)) hserve h
  refine ⟨fun hstage => hrun (State.attendUnitDone_waits ha hu hw hstage), fun res hstage hcore hres => ?_⟩
  subst hres
  refine ⟨fun hf => ⟨_, hrun (State.attendUnitDone_computed ha hst hu hw hdue hstage hf), State.unitComputed_spec hst hu hn hcore _⟩, fun hf => ?_⟩
  obtain ⟨hfault, -, hcount, hmem⟩ := (s.unitDrawn u0 w).csumCount_failed hn (s.chunkDone n u0 w fs).transient
  exact ⟨_, hrun (State.attendUnitDone_failed ha hst hu hw hdue hstage hf), hfault, hcount, hmem⟩

/-- Settles O29: images and budgets, the digest table, cores that wake and power down, and units of `ATTEND`. -/
theorem launches : Obligations.Launches := by
  refine ⟨fun s tag l ch m x hs => ?_, fun s n tag sq h c u0 w fs hn hs => ?_⟩
  · obtain ⟨hverify, hbudget⟩ := launches_verified (tag := tag) l hs
    refine ⟨hverify, hbudget, fun hg => ?_, fun hu => ⟨_, answers_of_run (exec_kcacheFlush s ch) hu.1.1, State.asHolder_denied hu⟩⟩
    obtain ⟨u, hu, hn⟩ := holder_notedNow (exec_kcacheFlush s ch) hg rfl
    obtain ⟨hd, hz, hk⟩ := (s.asked ch).kcacheFlush_spec
    refine ⟨u, hu, ?_, (hn.keepsFields _ _ (by decide)).trans hz,
      ((s.asked_keepsFields ch _).trans (hk.mono (by simp))).trans (hn.keepsFields.mono (by simp))⟩
    rcases hn with rfl | rfl
    · exact hd
    · rw [State.noteWrite_frame]; exact hd
  · obtain ⟨hwake, hgate, hstay⟩ := cores_wake hn hs
    exact ⟨hwake, hgate, hstay, fun hon ha hst hu hw hdue => attendUnits_done fs hn hs hon ha hst hu hw hdue⟩

end Sys2Proof.Machine
end

section
/-! Commands of the matrix, vector and DMA engines (R194, R200 to R205, R398). -/

namespace Sys2Proof.Machine

variable {s t u : State} {n : Nat} {c : EngCmd}

/-! ### A command leaves its queue -/

theorem Core.endCommand_statuses (k : Core) (e : Nat) (c : EngCmd) (st : Status) :
    (k.endCommand e c st).statuses = k.statuses.map (fun x => if x.1 == c.ticket then (c.ticket, some st) else x) := by
  unfold Core.endCommand Core.setQueue
  repeat' split
  all_goals rfl
theorem Core.endCommand_tile (k : Core) (e : Nat) (c : EngCmd) (st : Status) : (k.endCommand e c st).tile = k.tile := by
  unfold Core.endCommand Core.setQueue
  repeat' split
  all_goals rfl

/-- The queues and tickets of a core are as they were. -/
def Core.SameQueues (k k' : Core) : Prop := k'.statuses = k.statuses ∧ k'.matrix = k.matrix ∧ k'.vector = k.vector ∧ k'.dma = k.dma

theorem Core.sameQueues_writes (l : List (Nat × List MByte)) (k : Core) : k.SameQueues (l.foldl (fun (k : Core) o => k.write o.1 o.2) k) :=
  List.foldlRecOn (motive := fun k' => k.SameQueues k') l _ ⟨rfl, rfl, rfl, rfl⟩ fun k' hk o _ => by
    obtain ⟨t, w, m, v, h⟩ := k'.write_frame o.1 o.2
    rw [h]; exact hk

/-- A command's status is posted whatever its results have changed in the core's memories. -/
theorem Core.SameQueues.endCommand {k k' : Core} (h : k.SameQueues k') (e : Nat) (c : EngCmd) (st : Status) :
    (k'.endCommand e c st).statuses = (k.endCommand e c st).statuses ∧ (k'.endCommand 0 c st).matrix = (k.endCommand 0 c st).matrix ∧
      (k'.endCommand 1 c st).vector = (k.endCommand 1 c st).vector ∧ (k'.endCommand 2 c st).dma = (k.endCommand 2 c st).dma := by
  obtain ⟨hs, hm, hv, hd⟩ := h
  refine ⟨by rw [Core.endCommand_statuses, Core.endCommand_statuses, hs], ?_, ?_, ?_⟩
  · exact congrArg (fun q => q.filter (fun x => x.ticket != c.ticket)) hm
  · exact congrArg (fun q => q.filter (fun x => x.ticket != c.ticket)) hv
  · exact congrArg (fun q => q.filter (fun x => x.ticket != c.ticket)) hd

/-- A command that computes ends done, or with what poisoned its operands. -/
theorem doneOrPoison (b : Prop) [Decidable b] : (if b then Status.poison else .done) = .done ∨ (if b then Status.poison else .done) = .poison := by
  split
  · exact .inr rfl
  · exact .inl rfl

/-! ### The matrix engine -/

section Matrix
variable {fs : List ArrayFault} (hc : s.engineHead n 0 = some c)
include hc

theorem State.mma_refused {st : Status} (hf : (Mma.of c.bytes).fault = some st) : s.mma n fs = s.setCore n ((s.core n).endCommand 0 c st) := by
  unfold State.mma
  simp only [hc, hf]

/-- The free values that a product takes. -/
def State.mmaDrawn (s : State) (r : Mma) : State := { s with free := s.free + productFree r.m r.n r.k r.kpass }

/-- C as a matrix command writes it. -/
def State.mmaRowsOut (s : State) (n : Nat) (r : Mma) (p : ArrayProduct) : List (List MElem) :=
  (s.core n).mmaResult r p (s.free + productFree r.m r.n r.k r.kpass - r.m * r.n)

/-- The core after a matrix command has written C. -/
def State.mmaWritten (s : State) (n : Nat) (r : Mma) (p : ArrayProduct) : Core :=
  ((s.mmaRowsOut n r p).zipIdx).foldl (fun (k : Core) row => k.write (r.c + row.2 * r.dc) (packMarked r.ec row.1)) (s.core n)

omit hc in
theorem State.mmaWritten_sameQueues (s : State) (n : Nat) (r : Mma) (p : ArrayProduct) : (s.core n).SameQueues (s.mmaWritten n r p) :=
  List.foldlRecOn (motive := fun k' => (s.core n).SameQueues k') _ _ ⟨rfl, rfl, rfl, rfl⟩ fun k' hk row _ => by
    obtain ⟨t, w, m, v, h⟩ := k'.write_frame (r.c + row.2 * r.dc) (packMarked r.ec row.1)
    rw [h]; exact hk

theorem State.mma_computes {p : ArrayProduct} (hf : (Mma.of c.bytes).fault = none)
    (hp : p = (s.core n).mmaProduct (Mma.of c.bytes) (s.fld (F.QNC_CSUM_TOL_TOL.core n)) s.free fs) (hok : p.failed = false) :
    ∃ v st j, s.mma n fs = (v : State).setCore n (({ s.mmaWritten n (Mma.of c.bytes) p with matCycles := j } : Core).endCommand 0 c st) ∧
      (st = .done ∨ st = .poison) ∧ v.mem = s.mem := by
  unfold State.mma
  simp only [hc, hf, ← hp]
  rw [if_neg (by simp [hok]), hok, State.csumCount_passed]
  generalize hz : State.count _ (F.QNC_CSUM_TRANSIENT.core n) _ = z
  have hcore : z.core n = s.core n := by rw [← hz]; rfl
  have hmem : z.mem = s.mem := by rw [← hz]; rfl
  rw [hcore]
  exact ⟨_, _, _, rfl, doneOrPoison _, hmem⟩

theorem State.mma_fails {p : ArrayProduct} (hf : (Mma.of c.bytes).fault = none)
    (hp : p = (s.core n).mmaProduct (Mma.of c.bytes) (s.fld (F.QNC_CSUM_TOL_TOL.core n)) s.free fs) (hbad : p.failed = true) :
    s.mma n fs = (s.mmaDrawn (Mma.of c.bytes)).csumCount n p.transient true := by
  unfold State.mma
  simp only [hc, hf, ← hp]
  rw [if_pos hbad, hbad]
  rfl

end Matrix

/-! ### The vector engine -/

theorem exec_vectorRows (n : Nat) (s : State) : ∀ r ∈ vectorRows n, exec r.1 s = s.runOn [n % 16 + 1] (fun s => s.vectorOp (n % 16) r.2) := by
  intro r hr
  simp only [vectorRows, List.mem_cons, List.not_mem_nil, or_false] at hr
  rcases hr with rfl | rfl | rfl | rfl | rfl | rfl | rfl | rfl | rfl | rfl | rfl | rfl | rfl | rfl | rfl | rfl | rfl
  all_goals rfl

theorem State.vectorOp_idle {op : Nat} (h : s.engineHead n 1 = none) : s.vectorOp n op = s := by
  unfold State.vectorOp
  simp only [h]

section Vector
variable {op : Nat} (hc : s.engineHead n 1 = some c)
include hc

theorem State.vectorOp_other (h : (Vec.of c.bytes).op ≠ op) : s.vectorOp n op = s := by
  unfold State.vectorOp
  simp only [hc]
  exact if_pos h

theorem State.vectorOp_refused {st : Status} (h : (Vec.of c.bytes).op = op) (hf : (Vec.of c.bytes).fault = some st) :
    s.vectorOp n op = s.setCore n ((s.core n).endCommand 1 c st) := by
  unfold State.vectorOp
  simp only [hc, hf]
  exact if_neg (not_not.mpr h)

/-- What a vector command writes. -/
def State.vecOuts (s : State) (n op : Nat) (c : EngCmd) : VecOut :=
  if rowOp op then (s.core n).vecRows (Vec.of c.bytes) s.free else (s.core n).vecElems (Vec.of c.bytes) s.free

theorem State.vectorOp_computes (h : (Vec.of c.bytes).op = op) (hf : (Vec.of c.bytes).fault = none) :
    ∃ v st j, s.vectorOp n op = (v : State).setCore n (({ (s.vecOuts n op c).foldl (fun (k : Core) o => k.write o.1 o.2) (s.core n) with
      vecCycles := j } : Core).endCommand 1 c st) ∧ (st = .done ∨ st = .poison) ∧ v.mem = s.mem := by
  unfold State.vectorOp
  simp only [hc, hf]
  rw [if_neg (not_not.mpr h)]
  exact ⟨_, _, _, rfl, doneOrPoison _, rfl⟩

end Vector

/-! ### The DMA engine -/

theorem State.dmaStart_other {op : Nat} (hc : s.engineHead n 2 = some c) (h : field c.bytes 1 1 ≠ op) : s.dmaStart n op = s := by
  unfold State.dmaStart
  simp only [hc]
  exact if_pos h
theorem State.localCopy_other (hc : s.engineHead n 2 = some c) (h : field c.bytes 1 1 ≠ 4) : s.localCopy n = s := by
  unfold State.localCopy
  simp only [hc]
  exact if_pos h

theorem State.dmaStart_refused {op : Nat} {st : Status} (hc : s.engineHead n 2 = some c) (h : field c.bytes 1 1 = op)
    (hf : dmaFault c.bytes = some st) : s.dmaStart n op = s.setCore n ((s.core n).endCommand 2 c st) := by
  unfold State.dmaStart
  simp only [hc, hf]
  exact if_neg (not_not.mpr h)
theorem State.localCopy_refused {st : Status} (hc : s.engineHead n 2 = some c) (h : field c.bytes 1 1 = 4)
    (hf : dmaFault c.bytes = some st) : s.localCopy n = s.setCore n ((s.core n).endCommand 2 c st) := by
  unfold State.localCopy
  simp only [hc, hf]
  exact if_neg (not_not.mpr h)

section Dma
variable {op : Nat} (hc : s.engineHead n 2 = some c) (h : field c.bytes 1 1 = op) (hf : dmaFault c.bytes = none)
include hc h hf

/-- A command whose launch has too few tags left. -/
theorem State.dmaStart_short (hop : op = 3 ∨ op = 5) (ht : s.launchTagsLeft ((s.core n).launch.getD 0) < dmaCount c.bytes) :
    s.dmaStart n op = s.setCore n ((s.core n).endCommand 2 c .bounds) := by
  unfold State.dmaStart
  simp only [hc, hf]
  rw [if_neg (not_not.mpr h), if_pos ⟨hop, ht⟩]

/-- A command that starts: its tags are taken, and it runs from its first tile or entry. -/
theorem State.dmaStart_runs (ht : ¬ ((op = 3 ∨ op = 5) ∧ s.launchTagsLeft ((s.core n).launch.getD 0) < dmaCount c.bytes)) :
    ∃ v : State, s.dmaStart n op = (if op = 5 then v.dmaEntries n c (dmaCount c.bytes + 1) 0 else v.dmaTile n c 0) ∧
      (∃ q, (v.core n).run = some q ∧ q.cmd = c ∧ q.tile = 0) ∧ v.mem = s.mem ∧ v.regs = s.regs := by
  unfold State.dmaStart
  simp only [hc, hf]
  rw [if_neg (not_not.mpr h), if_neg ht]
  have htakes (b : Prop) [Decidable b] (t k : Nat) : (if b then s.launchTakes t k else s).mem = s.mem ∧ (if b then s.launchTakes t k else s).regs = s.regs := by
    split <;> exact ⟨rfl, rfl⟩
  obtain ⟨hmem, hregs⟩ := htakes (op = 3 ∨ op = 5) ((s.core n).launch.getD 0) (dmaCount c.bytes)
  exact ⟨_, rfl, ⟨_, by rw [State.core_setCore_same], rfl, rfl⟩, hmem, hregs⟩

omit h in
theorem State.localCopy_copies (h : field c.bytes 1 1 = 4) :
    ∃ v st k, s.localCopy n = (v : State).setCore n ((k : Core).endCommand 2 c st) ∧ (s.core n).SameQueues k ∧ (st = .done ∨ st = .poison) ∧
      v.mem = s.mem ∧ v.regs = s.regs := by
  unfold State.localCopy
  simp only [hc, hf]
  rw [if_neg (not_not.mpr h)]
  refine ⟨_, _, _, rfl, ?_, doneOrPoison _, rfl, rfl⟩
  · refine List.foldlRecOn (motive := fun k' => (s.core n).SameQueues k') _ _ ⟨rfl, rfl, rfl, rfl⟩ fun k' hk x _ => ?_
    obtain ⟨t, w, m, v, hw⟩ := k'.write_frame (field c.bytes 16 4 + x.2 * (dmaDst c.bytes).size) (packTile (dmaDst c.bytes) (dmaDst c.bytes)
      (unpackTile (dmaSrc c.bytes) (dmaDst c.bytes) x.1).1 (unpackTile (dmaSrc c.bytes) (dmaDst c.bytes) x.1).2)
    rw [hw]; exact hk

end Dma

/-- What a row of the DMA engine does where the engine is sound. -/
def State.dmaRow (s : State) (n op : Nat) : State := if op = 4 then s.localCopy n else s.dmaStart n op

theorem exec_dmaRows (n : Nat) (parity : Bool) (s : State) : ∀ r ∈ dmaRows n parity,
    exec r.1 s = s.runOn [n % 16 + 1] (fun s => if parity then s.parityFault (n % 16) else s.dmaRow (n % 16) r.2) := by
  intro r hr
  simp only [dmaRows, List.mem_cons, List.not_mem_nil, or_false] at hr
  rcases hr with rfl | rfl | rfl | rfl | rfl
  all_goals rfl

theorem State.parityFault_spec (s : State) (n : Nat) : ((s.parityFault n).core n).state = .faulted ∧ ((s.parityFault n).core n).dma = [] ∧
    ((s.parityFault n).core n).run = none := by
  obtain ⟨hst, -, -, hd, hr⟩ := (s.logErr { unit := .qnc, status := .internal, index := n }).stopCore_core n cPersistent .faulted
  exact ⟨hst, hd, hr⟩

/-! ### The obligation -/

theorem matrixCommands (hn : n < 16) (hs : s.serves [n + 1] = true) (hc : s.engineHead n 0 = some c) :
    (∀ st fs, (Mma.of c.bytes).fault = some st → ∃ u, AnswersThen (.mma n fs) s u ∧ u.core n = (s.core n).endCommand 0 c st ∧ u.mem = s.mem ∧ u.regs = s.regs) ∧
    (∀ r fs p, r = Mma.of c.bytes → r.fault = none → p = (s.core n).mmaProduct r (s.fld (F.QNC_CSUM_TOL_TOL.core n)) s.free fs →
      (p.failed = false → ∃ u st, AnswersThen (.mma n fs) s u ∧ (st = .done ∨ st = .poison) ∧
        (u.core n).statuses = ((s.core n).endCommand 0 c st).statuses ∧ (u.core n).matrix = ((s.core n).endCommand 0 c st).matrix ∧
        (u.core n).tile = ((((s.core n).mmaResult r p (s.free + productFree r.m r.n r.k r.kpass - r.m * r.n)).zipIdx).foldl
          (fun (k : Core) row => k.write (r.c + row.2 * r.dc) (packMarked r.ec row.1)) (s.core n)).tile ∧ u.mem = s.mem) ∧
      (p.failed = true → ∃ u, AnswersThen (.mma n fs) s u ∧ (u.core n).state = .faulted ∧ (u.core n).matrix = [] ∧
        s.counted u (F.QNC_CSUM_PERSISTENT.core n) ∧ u.mem = s.mem)) := by
  have hrun {fs : List ArrayFault} {u : State} (h : s.mma n fs = u) : AnswersThen (.mma n fs) s u :=
    core_answersThen (exec_core (f := fun n s => s.runOn [n + 1] (fun s => s.mma n fs)) hn (exec_mma s n fs)) hs h
  refine ⟨fun st fs hf => ⟨_, hrun (State.mma_refused hc hf), State.core_setCore_same _ _ _, rfl, rfl⟩, fun r fs p hr hf hp => ?_⟩
  subst hr
  refine ⟨fun hok => ?_, fun hbad => ?_⟩
  · obtain ⟨v, st, j, hgo, hst, hmem⟩ := State.mma_computes hc hf hp hok
    have hq : (s.core n).SameQueues { s.mmaWritten n (Mma.of c.bytes) p with matCycles := j } := s.mmaWritten_sameQueues n _ p
    obtain ⟨hstat, hmat, -⟩ := hq.endCommand 0 c st
    refine ⟨_, st, hrun hgo, hst, ?_, ?_, ?_, hmem⟩ <;> rw [State.core_setCore_same]
    · exact hstat
    · exact hmat
    · rw [Core.endCommand_tile]; rfl
  · obtain ⟨hst, hmat, hcount, hmem⟩ := (s.mmaDrawn (Mma.of c.bytes)).csumCount_failed hn p.transient
    exact ⟨_, hrun (State.mma_fails hc hf hp hbad), hst, hmat, hcount, hmem⟩

theorem vectorCommands (hn : n < 16) (hs : s.serves [n + 1] = true) :
    (s.engineHead n 1 = some c → ∀ r ∈ vectorRows n,
      ((Vec.of c.bytes).op ≠ r.2 → AnswersThen r.1 s s) ∧
      ((Vec.of c.bytes).op = r.2 →
        (∀ st, (Vec.of c.bytes).fault = some st → ∃ u, AnswersThen r.1 s u ∧ u.core n = (s.core n).endCommand 1 c st ∧ u.mem = s.mem ∧ u.regs = s.regs) ∧
        ((Vec.of c.bytes).fault = none → ∃ u st, AnswersThen r.1 s u ∧ (st = .done ∨ st = .poison) ∧
          (u.core n).statuses = ((s.core n).endCommand 1 c st).statuses ∧ (u.core n).vector = ((s.core n).endCommand 1 c st).vector ∧
          (u.core n).tile = ((if rowOp r.2 then (s.core n).vecRows (Vec.of c.bytes) s.free else (s.core n).vecElems (Vec.of c.bytes) s.free).foldl
            (fun (k : Core) o => k.write o.1 o.2) (s.core n)).tile ∧ u.mem = s.mem))) ∧
    (s.engineHead n 1 = none → ∀ r ∈ vectorRows n, AnswersThen r.1 s s) := by
  have hrun {r : Instr × Nat} (hr : r ∈ vectorRows n) {u : State} (h : s.vectorOp n r.2 = u) : AnswersThen r.1 s u := by
    have := exec_vectorRows n s r hr
    rw [Nat.mod_eq_of_lt hn] at this
    exact core_answersThen this hs h
  refine ⟨fun hc r hr => ⟨fun h => hrun hr (State.vectorOp_other hc h), fun h => ⟨fun st hf => ?_, fun hf => ?_⟩⟩,
    fun h r hr => hrun hr (State.vectorOp_idle h)⟩
  · exact ⟨_, hrun hr (State.vectorOp_refused hc h hf), State.core_setCore_same _ _ _, rfl, rfl⟩
  · obtain ⟨v, st, j, hgo, hst, hmem⟩ := State.vectorOp_computes hc h hf
    have hq : (s.core n).SameQueues { (s.vecOuts n r.2 c).foldl (fun (k : Core) o => k.write o.1 o.2) (s.core n) with vecCycles := j } :=
      Core.sameQueues_writes _ _
    obtain ⟨hstat, -, hvec, -⟩ := hq.endCommand 1 c st
    refine ⟨_, st, hrun hr hgo, hst, ?_, ?_, ?_, hmem⟩ <;> rw [State.core_setCore_same]
    · exact hstat
    · exact hvec
    · rw [Core.endCommand_tile]; rfl

theorem dmaCommands (hn : n < 16) (hs : s.serves [n + 1] = true) :
    (s.engineHead n 2 = some c → ∀ r ∈ dmaRows n false,
      (field c.bytes 1 1 ≠ r.2 → AnswersThen r.1 s s) ∧
      (field c.bytes 1 1 = r.2 → ∀ st, dmaFault c.bytes = some st → ∃ u, AnswersThen r.1 s u ∧ u.core n = (s.core n).endCommand 2 c st ∧ u.mem = s.mem) ∧
      (field c.bytes 1 1 = r.2 → dmaFault c.bytes = none →
        (r.2 = 3 ∨ r.2 = 5 → s.launchTagsLeft ((s.core n).launch.getD 0) < dmaCount c.bytes →
          ∃ u, AnswersThen r.1 s u ∧ u.core n = (s.core n).endCommand 2 c .bounds ∧ u.mem = s.mem) ∧
        (r.2 = 1 ∨ r.2 = 2 ∨ r.2 = 3 → r.2 ≠ 3 ∨ dmaCount c.bytes ≤ s.launchTagsLeft ((s.core n).launch.getD 0) →
          ∃ v : State, AnswersThen r.1 s (v.dmaTile n c 0) ∧ (∃ q, (v.core n).run = some q ∧ q.cmd = c ∧ q.tile = 0) ∧ v.mem = s.mem ∧ v.regs = s.regs) ∧
        (r.2 = 4 → ∃ u st, AnswersThen r.1 s u ∧ (st = .done ∨ st = .poison) ∧ (u.core n).statuses = ((s.core n).endCommand 2 c st).statuses ∧
          (u.core n).dma = ((s.core n).endCommand 2 c st).dma ∧ u.mem = s.mem ∧ u.regs = s.regs) ∧
        (r.2 = 5 → dmaCount c.bytes ≤ s.launchTagsLeft ((s.core n).launch.getD 0) →
          ∃ v : State, AnswersThen r.1 s (v.dmaEntries n c (dmaCount c.bytes + 1) 0) ∧ (∃ q, (v.core n).run = some q ∧ q.cmd = c ∧ q.tile = 0) ∧ v.mem = s.mem))) ∧
    (∀ r ∈ dmaRows n true, ∃ u, AnswersThen r.1 s u ∧ (u.core n).state = .faulted ∧ (u.core n).dma = [] ∧ (u.core n).run = none) := by
  have hexec (p : Bool) {r : Instr × Nat} (hr : r ∈ dmaRows n p) :
      exec r.1 s = s.runOn [n + 1] (fun s => if p then s.parityFault n else s.dmaRow n r.2) := by
    have := exec_dmaRows n p s r hr
    rwa [Nat.mod_eq_of_lt hn] at this
  have hrun {r : Instr × Nat} (hr : r ∈ dmaRows n false) {u : State} (h : s.dmaRow n r.2 = u) : AnswersThen r.1 s u :=
    core_answersThen (hexec false hr) hs h
  have hcopy {op : Nat} (h : op = 4) : s.dmaRow n op = s.localCopy n := if_pos h
  have hstart {op : Nat} (h : op ≠ 4) : s.dmaRow n op = s.dmaStart n op := if_neg h
  refine ⟨fun hc r hr => ⟨fun h => ?_, fun h st hf => ?_, fun h hf => ⟨fun hop ht => ?_, fun hop ht => ?_, fun hop => ?_, fun hop ht => ?_⟩⟩,
    fun r hr => ⟨_, core_answersThen (hexec true hr) hs rfl, s.parityFault_spec n⟩⟩
  · by_cases h4 : r.2 = 4
    · exact hrun hr ((hcopy h4).trans (State.localCopy_other hc (h4 ▸ h)))
    · exact hrun hr ((hstart h4).trans (State.dmaStart_other hc h))
  · by_cases h4 : r.2 = 4
    · exact ⟨_, hrun hr ((hcopy h4).trans (State.localCopy_refused hc (h.trans h4) hf)), State.core_setCore_same _ _ _, rfl⟩
    · exact ⟨_, hrun hr ((hstart h4).trans (State.dmaStart_refused hc h hf)), State.core_setCore_same _ _ _, rfl⟩
  · exact ⟨_, hrun hr ((hstart (by omega)).trans (State.dmaStart_short hc h hf hop ht)), State.core_setCore_same _ _ _, rfl⟩
  · obtain ⟨v, hgo, hv⟩ := State.dmaStart_runs hc h hf (by omega)
    rw [if_neg (by omega)] at hgo
    exact ⟨v, hrun hr ((hstart (by omega)).trans hgo), hv⟩
  · obtain ⟨v, st, k, hgo, hq, hst, hmem, hregs⟩ := State.localCopy_copies hc hf (h.trans hop)
    obtain ⟨hstat, -, -, hdma⟩ := hq.endCommand 2 c st
    refine ⟨_, st, hrun hr ((hcopy hop).trans hgo), hst, ?_, ?_, hmem, hregs⟩ <;> rw [State.core_setCore_same]
    · exact hstat
    · exact hdma
  · obtain ⟨v, hgo, hq, hmem, -⟩ := State.dmaStart_runs hc h hf (by omega)
    rw [if_pos hop] at hgo
    exact ⟨v, hrun hr ((hstart (by omega)).trans hgo), hq, hmem⟩

/-- Settles O28: the three engines, one after another. -/
theorem engineCommands : Obligations.EngineCommands := by
  refine ⟨fun s n c hn hs => ⟨fun hc => matrixCommands hn hs hc, vectorCommands hn hs⟩, fun s n c hn hs => dmaCommands hn hs⟩

end Sys2Proof.Machine
end

section
/-! Starts: the ROM, the keys, the straps, the memory found and the self-test (R423 to R428, R451 to R455). -/

namespace Sys2Proof.Machine

variable {s t u : State}

/-! ### Wakes -/

/-- Registers that a request to wake islands 1 to 24 changes. -/
def wakePlaces : List Nat :=
  [F.PWR_GOV_PENDING.place, F.PWR_GOV_WINDOW_CA.place] ++ (List.range 24).map (fun n => (F.PWR_ISLAND_STATE.at n).place)

/-- `u` differs from `s` in registers at these places and in the list of what waits for its grant. -/
structure Wakes (s u : State) : Prop where
  eq : ∃ r l, u = { s with regs := r, pwr.pending := l }
  places : s.keepsPlaces u wakePlaces

theorem Wakes.refl (s : State) : Wakes s s := ⟨⟨_, _, rfl⟩, State.keepsPlaces_of_regs rfl⟩

theorem Wakes.trans (h : Wakes s t) (h' : Wakes t u) : Wakes s u := by
  obtain ⟨⟨_, _, rfl⟩, hp⟩ := h
  obtain ⟨⟨r, l, rfl⟩, hp'⟩ := h'
  exact ⟨⟨r, l, rfl⟩, hp.trans hp'⟩

theorem Wakes.foldl {α : Type} {f : State → α → State} (l : List α) (hf : ∀ t, ∀ a ∈ l, Wakes t (f t a)) (s : State) : Wakes s (l.foldl f s) :=
  List.foldlRecOn (motive := Wakes s) l f (.refl s) fun t ht a ha => ht.trans (hf t a ha)

theorem Wakes.showGov (s : State) : Wakes s s.showGov :=
  ⟨⟨_, s.pwr.pending, rfl⟩, (s.keepsPlaces_setF _ _ (by decide)).trans (State.keepsPlaces_setF _ _ _ (by decide))⟩

theorem Wakes.setIsland (s : State) {n : Nat} (h1 : 1 ≤ n) (h : n ≤ 24) (st : Nat) : Wakes s (s.setIsland n st) := by
  rw [State.setIsland, if_neg (by omega)]
  exact ⟨⟨_, s.pwr.pending, rfl⟩, s.keepsPlaces_setF _ _ (List.mem_append_right _ (List.mem_map.mpr ⟨n - 1, List.mem_range.mpr (by omega), rfl⟩))⟩

theorem Wakes.withPending (s : State) (l : List Wake) : Wakes s { s with pwr.pending := l } := ⟨⟨_, _, rfl⟩, State.keepsPlaces_of_regs rfl⟩

theorem Wakes.askWake (s : State) {n : Nat} (h1 : 1 ≤ n) (h : n ≤ 24) (comp inst : Nat) : Wakes s (s.askWake n comp inst) := by
  unfold State.askWake
  extract_lets _ st _ w x
  have hx : Wakes s x := by
    show Wakes s (if comp = 0 ∧ st = isOFF then s.setIsland n isPENDING else s)
    split
    · exact .setIsland s h1 h _
    · exact .refl s
  split
  · exact .refl s
  · exact (hx.trans (.withPending _ _)).trans (.showGov _)

theorem Wakes.wakeIslands (s : State) : Wakes s s.wakeIslands :=
  .foldl (f := fun s n => s.askWake n 0 0) [23, 17, 18, 20, 21, 19, 22, 24] (fun t n hn => .askWake t
    (by simp only [List.mem_cons, List.not_mem_nil, or_false] at hn; omega) (by simp only [List.mem_cons, List.not_mem_nil, or_false] at hn; omega) 0 0) s

theorem quarterOf_pos {q n : Nat} (h : n ∈ quarterOf q) : 1 ≤ n := by
  simp only [quarterOf, List.mem_cons, List.not_mem_nil, or_false] at h; omega

/-! ### The self-test -/

/-- A start's self-test before any island is woken for it. -/
def State.selfTestBegun (s : State) : State :=
  let serving := (List.range 8).map (fun k => k + 17)
  let quince := (quarterOf (s.fld F.PWR_BIST_NEXT)).filter (fun n => decide (n ≤ 16))
  let tested := (serving ++ quince).filter (fun n => s.islandState n != isHELD)
  let held := (List.range 24).any (fun k => s.islandState (k + 1) == isHELD)
  (({ s with pwr.testing := tested, pwr.failed := [] } : State).setF F.PWR_BIST_NEXT ((s.fld F.PWR_BIST_NEXT + 1) % 4)).setF F.PWR_START_PHASE
    (if held then 8 else 3)

theorem State.selfTest_eq (s : State) : s.selfTest =
    ((quarterOf (s.fld F.PWR_BIST_NEXT)).filter (fun n => decide (n ≤ 16))).foldl (fun s n => s.askWake n 0 0) s.selfTestBegun.wakeIslands := rfl

theorem Wakes.selfTest (s : State) : Wakes s.selfTestBegun s.selfTest := by
  rw [s.selfTest_eq]
  refine (Wakes.wakeIslands _).trans (.foldl (f := fun s n => s.askWake n 0 0) _ (fun t n hn => ?_) _)
  obtain ⟨hq, hn16⟩ := List.mem_filter.mp hn
  exact .askWake t (quarterOf_pos hq) (by have := of_decide_eq_true hn16; omega) 0 0

theorem State.selfTest_fld (s : State) {f : Fld} (hw : f.place ∉ wakePlaces) (hn : F.PWR_BIST_NEXT.place ≠ f.place) (hp : F.PWR_START_PHASE.place ≠ f.place)
    (b : Nat) : s.selfTest.fld f b = s.fld f b := by
  rw [(Wakes.selfTest s).places f b hw]
  exact (State.fld_setF_place _ _ hp).trans (State.fld_setF_place _ _ hn)

/-- The self-test begins unless an island is HELD. -/
theorem State.selfTest_phase (s : State) : s.selfTest.fld F.PWR_START_PHASE = if (List.range 24).any (fun k => s.islandState (k + 1) == isHELD) then 8 else 3 := by
  rw [(Wakes.selfTest s).places _ _ (by decide)]
  refine (State.fld_setF_same _ _ _ _).trans (Nat.mod_eq_of_lt ?_)
  split <;> decide

theorem State.noneHeld (h : ∀ k, 1 ≤ k → k ≤ 24 → s.islandState k ≠ isHELD) : (List.range 24).any (fun k => s.islandState (k + 1) == isHELD) = false := by
  simp only [List.any_eq_false, List.mem_range, beq_iff_eq]
  intro k hk
  exact h (k + 1) (by omega) (by omega)

theorem State.selfTest_phase3 (h : ∀ k, 1 ≤ k → k ≤ 24 → s.islandState k ≠ isHELD) : s.selfTest.fld F.PWR_START_PHASE = 3 := by
  rw [s.selfTest_phase, State.noneHeld h]; rfl

/-- Beside registers a self-test changes the pending wakes, what is under test and what has failed. -/
theorem State.selfTest_frame (s : State) : ∃ r a b c, s.selfTest = { s with regs := r, pwr.pending := a, pwr.testing := b, pwr.failed := c } := by
  obtain ⟨⟨r, l, h⟩, -⟩ := Wakes.selfTest s
  exact ⟨r, l, _, _, h⟩

/-! ### The ROM and the keys -/

/-- Registers that the ROM's choice changes. -/
def romPlaces : List Nat :=
  [F.SEC_STATE_FW.place, F.SEC_STATE_FW_SLOT.place, F.SEC_FW_VERSION_VERSION.place, F.SEC_EVLOG_PTR_OVERFLOW.place, F.SEC_EVLOG_COUNT_ENTRIES.place,
    F.TST_STATE_ACCESS.place]

/-- Registers of the event log. -/
def eventPlaces : List Nat := [F.SEC_EVLOG_PTR_OVERFLOW.place, F.SEC_EVLOG_COUNT_ENTRIES.place]

/-- Extending measurements changes the event log, the measurements and nothing else. -/
structure Measures (s u : State) : Prop where
  eq : ∃ r m l, u = { s with regs := r, sec.mrs := m, sec.evlog := l }
  places : s.keepsPlaces u eventPlaces

theorem Measures.refl (s : State) : Measures s s := ⟨⟨_, _, _, rfl⟩, State.keepsPlaces_of_regs rfl⟩

theorem Measures.trans (h : Measures s t) (h' : Measures t u) : Measures s u := by
  obtain ⟨⟨_, _, _, rfl⟩, hp⟩ := h
  obtain ⟨⟨r, m, l, rfl⟩, hp'⟩ := h'
  exact ⟨⟨r, m, l, rfl⟩, hp.trans hp'⟩

theorem Measures.extendMr (s : State) (r k : Nat) (e : List Byte) : Measures s (s.extendMr r k e) := by
  unfold State.extendMr
  dsimp only
  split
  · exact ⟨⟨_, _, s.sec.evlog, rfl⟩, (State.keepsPlaces_of_regs (s := s) rfl).trans (State.keepsPlaces_setF _ _ _ (by decide))⟩
  · exact ⟨⟨_, _, _, rfl⟩, (State.keepsPlaces_of_regs (s := s) rfl).trans (State.keepsPlaces_setF _ _ _ (by decide))⟩

theorem Measures.foldl {α : Type} {f : State → α → State} (hf : ∀ t a, Measures t (f t a)) (l : List α) (s : State) : Measures s (l.foldl f s) :=
  List.foldlRecOn (motive := Measures s) l f (.refl s) fun t ht a _ => ht.trans (hf t a)

/-- The image of the slot that the ROM chose. -/
def State.bootImage (s : State) (k : Nat) : List Byte := if k = 0 then s.sec.slot0 else s.sec.slot1

/-- The ROM's choice shown. -/
def State.romShown (s : State) (k : Nat) : State :=
  ((s.setF F.SEC_STATE_FW 1).setF F.SEC_STATE_FW_SLOT k).setF F.SEC_FW_VERSION_VERSION (field (s.bootImage k) 8 8)

/-- The ROM's choice measured. -/
def State.romMeasured (s : State) (k : Nat) : State :=
  (fwAnchors (s.bootImage k)).foldl (fun s a => s.extendMr 1 1 (Config.sha384 a)) (((s.romShown k).extendMr 0 0 Config.romDigest).extendMr 0 0
    (Config.sha384 ((s.bootImage k).take (fwSigned (s.bootImage k) + 3392))))

theorem Measures.romMeasured (s : State) (k : Nat) : Measures (s.romShown k) (s.romMeasured k) :=
  ((Measures.extendMr _ _ _ _).trans (.extendMr _ _ _ _)).trans (.foldl (fun t a => .extendMr t 1 1 (Config.sha384 a)) _ _)

theorem State.romBoot_boots {k : Nat} (h : s.bootSlot = some k) :
    s.romBoot = ({ s.romMeasured k with sec.anchors := fwAnchors (s.bootImage k) } : State).setF F.TST_STATE_ACCESS 0 := by
  unfold State.romBoot
  rw [h]
  rfl

/-- What the ROM leaves when it boots slot `k`. -/
theorem State.romBoot_spec {k : Nat} (h : s.bootSlot = some k) (hk : k < 2) : s.romBoot.fld F.SEC_STATE_FW = 1 ∧ s.romBoot.fld F.SEC_STATE_FW_SLOT = k ∧
    s.romBoot.fld F.TST_STATE_ACCESS = 0 ∧ s.keepsPlaces s.romBoot romPlaces ∧
    ∃ r m l, s.romBoot = { s with regs := r, sec.mrs := m, sec.evlog := l, sec.anchors := fwAnchors (s.bootImage k) } := by
  have hm := Measures.romMeasured s k
  have hfld {f : Fld} (ha : F.TST_STATE_ACCESS.place ≠ f.place) (he : f.place ∉ eventPlaces) : s.romBoot.fld f = (s.romShown k).fld f := by
    rw [State.romBoot_boots h, State.fld_setF_place _ _ ha]
    exact hm.places _ _ he
  refine ⟨?_, ?_, ?_, ?_, ?_⟩
  · rw [hfld (by decide) (by decide), State.romShown, State.fld_setF_place _ _ (by decide), State.fld_setF_place _ _ (by decide), State.fld_setF_same]; rfl
  · rw [hfld (by decide) (by decide), State.romShown, State.fld_setF_place _ _ (by decide), State.fld_setF_same]
    exact Nat.mod_eq_of_lt hk
  · rw [State.romBoot_boots h, State.fld_setF_same]; rfl
  · have hshow : s.keepsPlaces (s.romShown k) romPlaces :=
      ((s.keepsPlaces_setF _ _ (by decide)).trans (State.keepsPlaces_setF _ _ _ (by decide))).trans (State.keepsPlaces_setF _ _ _ (by decide))
    rw [State.romBoot_boots h]
    exact ((hshow.trans (hm.places.mono (by decide))).trans (State.keepsPlaces_of_regs rfl)).trans (State.keepsPlaces_setF _ _ _ (by decide))
  · obtain ⟨⟨r, m, l, hr⟩, -⟩ := hm
    rw [State.romBoot_boots h, hr]
    exact ⟨_, _, _, rfl⟩

/-- Registers that key derivation changes. -/
def keyPlaces : List Nat := [F.SEC_STATE_PUF.place, F.SEC_STATE_ENROLLED.place] ++ logKeys.map (· % 2 ^ 30)

theorem State.deriveKeys_spec (h : s.fld F.SEC_STATE_FW = 1) (ok : Bool) : (s.deriveKeys ok).fld F.SEC_STATE_PUF = (if ok then 1 else 2) ∧
    s.keepsPlaces (s.deriveKeys ok) keyPlaces ∧ ∃ r x f a, s.deriveKeys ok = { s with regs := r, sec.helper := x, free := f, ras := a } := by
  unfold State.deriveKeys
  rw [if_neg (by simp [h])]
  cases ok with
  | false =>
    refine ⟨?_, ?_, ?_⟩
    · exact (State.fld_logErr _ _ (by decide)).trans (State.fld_setF_same _ _ _ _)
    · exact (s.keepsPlaces_setF _ _ (by decide)).trans ((State.logErr_keepsFields _ _).keepsPlaces.mono (by decide))
    · exact ⟨_, s.sec.helper, s.free, _, State.logErr_frame _ _⟩
  | true =>
    rw [if_neg (by decide)]
    split
    · exact ⟨State.fld_setF_same _ _ _ _, ((State.keepsPlaces_of_regs (s := s) rfl).trans (State.keepsPlaces_setF _ _ _ (by decide))).trans
        (State.keepsPlaces_setF _ _ _ (by decide)), _, _, _, s.ras, rfl⟩
    · exact ⟨State.fld_setF_same _ _ _ _, s.keepsPlaces_setF _ _ (by decide), _, s.sec.helper, s.free, s.ras, rfl⟩

/-! ### Straps, references and the memory found -/

/-- Registers that the straps, the references and the memory found set, and those of the log. -/
def foundPlaces : List Nat :=
  [F.TST_PINS_POS.place, F.TST_PINS_LSR_EN.place, F.TIER_T2_CFG_CH_POPULATED.place, F.TIER_T2_CFG_CH_GIB.place, F.TIER_T2_CFG_GRANULES.place,
    F.TIER_T2_CFG_CH_FAILED.place, F.TIER_T3_CFG_CH_POPULATED.place, F.TIER_T3_CFG_DIES.place, F.TIER_T3_GRANULES_GRANULES.place,
    F.TIER_T3_CFG_CH_FAILED.place, F.TIER_T1_CFG_STACK_FAILED.place, F.TIER_T1_CFG_STACK_PRESENT.place] ++ logKeys.map (· % 2 ^ 30)

/-- `u` differs from `s` in registers at these places and in the error log. -/
structure Finds (s u : State) : Prop where
  eq : ∃ r a, u = { s with regs := r, ras := a }
  places : s.keepsPlaces u foundPlaces

theorem Finds.refl (s : State) : Finds s s := ⟨⟨_, _, rfl⟩, State.keepsPlaces_of_regs rfl⟩

theorem Finds.trans (h : Finds s t) (h' : Finds t u) : Finds s u := by
  obtain ⟨⟨_, _, rfl⟩, hp⟩ := h
  obtain ⟨⟨r, a, rfl⟩, hp'⟩ := h'
  exact ⟨⟨r, a, rfl⟩, hp.trans hp'⟩

theorem Finds.setF (s : State) {f : Fld} (hf : f.place ∈ foundPlaces) (v b : Nat) : Finds s (s.setF f v b) := ⟨⟨_, s.ras, rfl⟩, s.keepsPlaces_setF _ _ hf⟩

theorem Finds.logErr (s : State) (r : ErrRec) : Finds s (s.logErr r) :=
  ⟨⟨_, _, s.logErr_frame r⟩, (s.logErr_keepsFields r).keepsPlaces.mono (by decide)⟩

theorem Finds.trainT2 (s : State) (l : List Dimm) : Finds s (s.trainT2 l) := by
  have hl (l : List Dimm) : Finds s (l.foldl (fun s d => s.logErr { unit := .tier, status := .stateConflict, index := d.channel }) s) :=
    List.foldlRecOn (motive := Finds s) l _ (.refl s) fun t ht d _ => ht.trans (.logErr t _)
  exact ((((hl _).trans (.setF _ (by decide) _ _)).trans (.setF _ (by decide) _ _)).trans (.setF _ (by decide) _ _)).trans (.setF _ (by decide) _ _)

theorem Finds.scanT3 (s : State) (l : List (Nat × Nat)) : Finds s (s.scanT3 l) :=
  (((Finds.setF s (by decide) _ _).trans (.setF _ (by decide) _ _)).trans (.setF _ (by decide) _ _)).trans (.setF _ (by decide) _ _)

theorem Finds.findMemory (s : State) {i : StartInfo} (h : i.stacksFailed = []) : Finds s (s.findMemory i) := by
  unfold State.findMemory
  dsimp only
  rw [h]
  exact (((Finds.trainT2 s _).trans (.scanT3 _ _)).trans (.setF _ (by decide) _ _)).trans (.setF _ (by decide) _ _)

/-- A signal as a field shows it. -/
def shownBit (b : Bool) : Nat := if b then 1 else 0

/-- The position of the straps, with the number of a start. -/
def State.strapped (s : State) (i : StartInfo) : State :=
  (((s.setF F.PWR_START_PHASE 2).setF F.CTL_ID_POSITION i.straps).setF F.TST_PINS_POS i.straps).startNumbers

/-- The references and the memory, as a start finds them. -/
def State.refsFound (s : State) (i : StartInfo) : State :=
  (((s.setF F.PWR_REFCLK_CORE_OK (shownBit i.coreRef)).setF F.PWR_REFCLK_SERDES_OK (shownBit i.serdesRef)).setF F.TST_PINS_LSR_EN
    (shownBit i.lsrEn)).findMemory i

/-- Registers of the member table's positions. -/
def positionPlaces : List Nat := (List.range 64).map (fun n => (F.FAB_MEMBER_POSITION.at n).place)

theorem State.memberPositions_places (s : State) :
    s.keepsPlaces ((List.range 64).foldl (fun s n => s.setF (F.FAB_MEMBER_POSITION.at n) n) s) positionPlaces :=
  List.foldlRecOn (motive := fun t => s.keepsPlaces t positionPlaces) _ _ (fun _ _ _ => rfl) fun t ht _ hn =>
    ht.trans (t.keepsPlaces_setF _ _ (List.mem_map_of_mem hn))

theorem State.memberPositions_regs (l : List Nat) (s : State) : ∃ r, l.foldl (fun s n => s.setF (F.FAB_MEMBER_POSITION.at n) n) s = { s with regs := r } :=
  List.foldlRecOn (motive := fun t => ∃ r, t = { s with regs := r }) l _ ⟨_, rfl⟩ fun t ht n _ => by obtain ⟨r, rfl⟩ := ht; exact ⟨_, rfl⟩

theorem State.startNumbers_regs (s : State) : ∃ r, s.startNumbers = { s with regs := r } := by
  unfold State.startNumbers
  dsimp only
  obtain ⟨r, h⟩ := State.memberPositions_regs (List.range 64) s
  rw [h]
  exact ⟨_, rfl⟩

/-- A start takes the number of its position and the custody of its journal (R23). -/
theorem State.startNumbers_spec (s : State) (hlt : s.position < 64) : s.startNumbers.devnum = s.position ∧ s.startNumbers.position = s.position ∧
    s.startNumbers.fldBit F.JNL_CUSTODY_DEVICES s.position = true ∧
    s.keepsPlaces s.startNumbers ([F.CTL_ID_DEVNUM.place, F.JNL_CUSTODY_DEVICES.place] ++ positionPlaces) := by
  have hp := s.memberPositions_places
  unfold State.startNumbers
  dsimp only
  generalize List.foldl _ s _ = t at hp ⊢
  have hpos : t.position = s.position := hp _ _ (by decide)
  rw [hpos]
  refine ⟨?_, ?_, State.fldBit_setFldBit_same _ _ _ hlt, ?_⟩
  · refine (State.fld_setF_place _ _ (by decide)).trans ((State.fld_setF_same _ _ _ _).trans (Nat.mod_eq_of_lt hlt))
  · exact (State.fld_setF_place _ _ (by decide)).trans ((State.fld_setF_place _ _ (by decide)).trans hpos)
  · exact ((hp.mono (List.subset_append_right _ _)).trans (State.keepsPlaces_setF _ _ _ (by decide))).trans (State.keepsPlaces_setF _ _ _ (by decide))

theorem State.strapped_spec (s : State) {i : StartInfo} (h : i.straps < 64) : (s.strapped i).devnum = i.straps ∧ (s.strapped i).position = i.straps ∧
    (s.strapped i).fldBit F.JNL_CUSTODY_DEVICES i.straps = true ∧ (s.strapped i).fld F.PWR_START_PHASE = 2 ∧
    s.keepsPlaces (s.strapped i) ([F.PWR_START_PHASE.place, F.CTL_ID_POSITION.place, F.TST_PINS_POS.place, F.CTL_ID_DEVNUM.place,
      F.JNL_CUSTODY_DEVICES.place] ++ positionPlaces) ∧ ∃ r, s.strapped i = { s with regs := r } := by
  have hpos : (((s.setF F.PWR_START_PHASE 2).setF F.CTL_ID_POSITION i.straps).setF F.TST_PINS_POS i.straps).position = i.straps :=
    (State.fld_setF_place _ _ (by decide)).trans ((State.fld_setF_same _ _ _ _).trans (Nat.mod_eq_of_lt h))
  have hphase : (((s.setF F.PWR_START_PHASE 2).setF F.CTL_ID_POSITION i.straps).setF F.TST_PINS_POS i.straps).fld F.PWR_START_PHASE = 2 :=
    (State.fld_setF_place _ _ (by decide)).trans ((State.fld_setF_place _ _ (by decide)).trans (State.fld_setF_same _ _ _ _))
  have hstart := State.startNumbers_spec _ (hpos.trans_lt h)
  rw [hpos] at hstart
  obtain ⟨hdev, hpos', hbit, hplaces⟩ := hstart
  refine ⟨hdev, hpos', hbit, (hplaces _ _ (by decide)).trans hphase, ?_, ?_⟩
  · exact (((s.keepsPlaces_setF _ _ (by simp)).trans (State.keepsPlaces_setF _ _ _ (by simp))).trans (State.keepsPlaces_setF _ _ _ (by simp))).trans
      (hplaces.mono (by decide))
  · obtain ⟨r, hr⟩ := State.startNumbers_regs (((s.setF F.PWR_START_PHASE 2).setF F.CTL_ID_POSITION i.straps).setF F.TST_PINS_POS i.straps)
    exact ⟨r, hr⟩

theorem State.refsFound_spec (s : State) {i : StartInfo} (h : i.stacksFailed = []) :
    (s.refsFound i).fld F.PWR_REFCLK_CORE_OK = shownBit i.coreRef ∧ (s.refsFound i).fld F.PWR_REFCLK_SERDES_OK = shownBit i.serdesRef ∧
    s.keepsPlaces (s.refsFound i) ([F.PWR_REFCLK_CORE_OK.place, F.PWR_REFCLK_SERDES_OK.place] ++ foundPlaces) ∧
    ∃ r a, s.refsFound i = { s with regs := r, ras := a } := by
  have hbit (b : Bool) : shownBit b % 2 ^ 1 = shownBit b := by cases b <;> rfl
  obtain ⟨⟨r, a, heq⟩, hplaces⟩ := Finds.findMemory (((s.setF F.PWR_REFCLK_CORE_OK (shownBit i.coreRef)).setF F.PWR_REFCLK_SERDES_OK
    (shownBit i.serdesRef)).setF F.TST_PINS_LSR_EN (shownBit i.lsrEn)) h
  refine ⟨?_, ?_, ?_, r, a, heq⟩
  · refine (hplaces _ _ (by decide)).trans ?_
    rw [State.fld_setF_place _ _ (by decide), State.fld_setF_place _ _ (by decide), State.fld_setF_same]
    exact hbit _
  · refine (hplaces _ _ (by decide)).trans ?_
    rw [State.fld_setF_place _ _ (by decide), State.fld_setF_same]
    exact hbit _
  · exact (((s.keepsPlaces_setF _ _ (by simp)).trans (State.keepsPlaces_setF _ _ _ (by simp))).trans (State.keepsPlaces_setF _ _ _ (by decide))).trans
      (hplaces.mono (List.subset_append_right _ _))

/-! ### A start from the ROM on -/

/-- The slots, the helper data and the image that a start finds. -/
def State.bootFound (s : State) (i : StartInfo) : State :=
  ({ s with sec.slot0 := i.slot0, sec.slot1 := i.slot1, sec.helper := i.helper, sil.nor := i.image, pwr.startAt := s.now } : State).setF F.PWR_START_PHASE 0

/-- The keys of a start whose ROM has booted an image. -/
def State.bootKeys (s : State) (i : StartInfo) : State := ((s.bootFound i).romBoot.setF F.PWR_START_PHASE 1).deriveKeys i.pufOk

/-- A start before its self-test. -/
def State.bootMemory (s : State) (i : StartInfo) (fresh : Bool) : State :=
  let s := ((s.bootKeys i).strapped i).refsFound i
  { s with pwr.memInit := if fresh then (if s.fld F.TIER_T2_CFG_GRANULES = 0 then 1 else 3) else 0 }

theorem State.boot_accepted (s : State) {i : StartInfo} (fresh : Bool) (h : (s.bootFound i).romBoot.fld F.SEC_STATE_FW = 1) :
    s.boot i fresh = if (s.bootKeys i).fld F.SEC_STATE_PUF ≠ 1 then s.bootKeys i else (s.bootMemory i fresh).selfTestWait := by
  have hb : s.boot i fresh = if (s.bootFound i).romBoot.fld F.SEC_STATE_FW ≠ 1 then (s.bootFound i).romBoot
      else if (s.bootKeys i).fld F.SEC_STATE_PUF ≠ 1 then s.bootKeys i else (s.bootMemory i fresh).selfTestWait := rfl
  rw [hb, if_neg (not_not.mpr h)]

/-- The slot that the ROM boots (R425): the accepted one, of two the one of the higher version. -/
theorem State.bootSlot_accepted (s : State) {i : StartInfo} (h : fwAccepted i.slot0 = true ∨ fwAccepted i.slot1 = true) :
    ∃ k, (s.bootFound i).bootSlot = some k ∧ k < 2 ∧ (fwAccepted i.slot1 = false → k = 0) ∧ (fwAccepted i.slot0 = false → k = 1) ∧
      (fwAccepted i.slot0 = true → fwAccepted i.slot1 = true → k = if field i.slot1 8 8 ≤ field i.slot0 8 8 then 0 else 1) := by
  have hslot : (s.bootFound i).bootSlot = if fwAccepted i.slot0 = true ∧ ((!fwAccepted i.slot1) = true ∨ field i.slot1 8 8 ≤ field i.slot0 8 8) then some 0
      else if fwAccepted i.slot1 = true then some 1 else none := rfl
  rw [hslot]
  cases h0 : fwAccepted i.slot0 <;> cases h1 : fwAccepted i.slot1
  · simp [h0, h1] at h
  · exact ⟨1, rfl, by decide, by simp, by simp, by simp⟩
  · exact ⟨0, rfl, by decide, by simp, by simp, by simp⟩
  · by_cases hv : field i.slot1 8 8 ≤ field i.slot0 8 8
    · exact ⟨0, by simp [hv], by decide, by simp, by simp, by simp [hv]⟩
    · exact ⟨1, by simp [hv], by decide, by simp, by simp, by simp [hv]⟩

/-- Registers that a start changes before it reads the straps. -/
def bootPlaces : List Nat := romPlaces ++ keyPlaces ++ [F.PWR_START_PHASE.place]

/-- What the firmware `k` of a start leaves: the images found, the anchors and the fields of its state. -/
structure Booted (s : State) (i : StartInfo) (k : Nat) (u : State) : Prop where
  slot0 : u.sec.slot0 = i.slot0
  slot1 : u.sec.slot1 = i.slot1
  nor : u.sil.nor = i.image
  anchors : u.sec.anchors = fwAnchors (if k = 0 then i.slot0 else i.slot1)
  refWait : u.pwr.refWait = s.pwr.refWait
  fw : u.fld F.SEC_STATE_FW = 1
  slot : u.fld F.SEC_STATE_FW_SLOT = k
  access : u.fld F.TST_STATE_ACCESS = 0
  puf : u.fld F.SEC_STATE_PUF = if i.pufOk then 1 else 2
  islands : ∀ n, 1 ≤ n → n ≤ 24 → u.islandState n = s.islandState n

theorem island_places : ∀ n < 24, (F.PWR_ISLAND_STATE.at n).place ∉ bootPlaces ∧ (F.PWR_ISLAND_STATE.at n).place ∉ ([F.PWR_START_PHASE.place,
    F.CTL_ID_POSITION.place, F.TST_PINS_POS.place, F.CTL_ID_DEVNUM.place, F.JNL_CUSTODY_DEVICES.place] ++ positionPlaces) ∧
    (F.PWR_ISLAND_STATE.at n).place ∉ ([F.PWR_REFCLK_CORE_OK.place, F.PWR_REFCLK_SERDES_OK.place] ++ foundPlaces) := by decide

/-- The states of the islands are kept by what keeps their registers. -/
theorem State.keepsPlaces.islandState {ps : List Nat} (h : s.keepsPlaces u ps) (hp : ∀ n < 24, (F.PWR_ISLAND_STATE.at n).place ∉ ps) {n : Nat} (h1 : 1 ≤ n)
    (hn : n ≤ 24) : u.islandState n = s.islandState n := by
  obtain ⟨m, rfl⟩ := Nat.exists_eq_add_of_le' h1
  rw [State.islandState_at _ (by omega), State.islandState_at _ (by omega)]
  exact h _ _ (hp m (by omega))

section Keys
variable {i : StartInfo} {k : Nat} (hk : (s.bootFound i).bootSlot = some k) (hk2 : k < 2)
include hk hk2

theorem State.bootKeys_spec : Booted s i k (s.bootKeys i) ∧ (s.bootKeys i).fld F.PWR_START_PHASE = 1 := by
  obtain ⟨hfw, hslot, hacc, hplaces, r, m, l, heq⟩ := State.romBoot_spec hk hk2
  have hfw1 : ((s.bootFound i).romBoot.setF F.PWR_START_PHASE 1).fld F.SEC_STATE_FW = 1 := (State.fld_setF_place _ _ (by decide)).trans hfw
  obtain ⟨hpuf, hkplaces, r', x, f, a, hkeq⟩ := State.deriveKeys_spec hfw1 i.pufOk
  have hfld {f : Fld} (h : f.place ∉ keyPlaces) (hp : F.PWR_START_PHASE.place ≠ f.place) :
      (s.bootKeys i).fld f = (s.bootFound i).romBoot.fld f := (hkplaces _ _ h).trans (State.fld_setF_place _ _ hp)
  have hframe : s.bootKeys i = { s with
      regs := r', ras := a, free := f, sil.nor := i.image, pwr.startAt := s.now
      sec := { s.sec with slot0 := i.slot0, slot1 := i.slot1, helper := x, mrs := m, evlog := l, anchors := fwAnchors (if k = 0 then i.slot0 else i.slot1) } } := by
    refine hkeq.trans ?_
    rw [heq]
    rfl
  have hkept : s.keepsPlaces (s.bootKeys i) bootPlaces :=
    (((State.keepsPlaces_of_regs (s := s) rfl).trans (State.keepsPlaces_setF _ _ _ (by decide))).trans (hplaces.mono (by decide))).trans
      ((State.keepsPlaces_setF _ _ _ (by decide)).trans (hkplaces.mono (by decide)))
  refine ⟨⟨?_, ?_, ?_, ?_, ?_, ?_, ?_, ?_, hpuf, fun n h1 hn => hkept.islandState (fun m hm => (island_places m hm).1) h1 hn⟩, ?_⟩
  · rw [hframe]
  · rw [hframe]
  · rw [hframe]
  · rw [hframe]
  · rw [hframe]
  · rw [hfld (by decide) (by decide), hfw]
  · rw [hfld (by decide) (by decide), hslot]
  · rw [hfld (by decide) (by decide), hacc]
  · exact (hkplaces _ _ (by decide)).trans (State.fld_setF_same _ _ _ _)

/-- What a start finds is there before its self-test, with its number and its references. -/
theorem State.bootMemory_spec (fresh : Bool) (hst : i.straps < 64) (hf : i.stacksFailed = []) : Booted s i k (s.bootMemory i fresh) ∧
    (s.bootMemory i fresh).position = i.straps ∧ (s.bootMemory i fresh).devnum = i.straps ∧
    (s.bootMemory i fresh).fldBit F.JNL_CUSTODY_DEVICES i.straps = true ∧ (s.bootMemory i fresh).fld F.PWR_START_PHASE = 2 ∧
    (s.bootMemory i fresh).fld F.PWR_REFCLK_CORE_OK = shownBit i.coreRef ∧ (s.bootMemory i fresh).fld F.PWR_REFCLK_SERDES_OK = shownBit i.serdesRef := by
  obtain ⟨hb, -⟩ := State.bootKeys_spec hk hk2
  obtain ⟨hdev, hpos, hcust, hphase, hsplaces, r, hseq⟩ := (s.bootKeys i).strapped_spec hst
  obtain ⟨hcore, hserdes, hrplaces, r', a, hreq⟩ := ((s.bootKeys i).strapped i).refsFound_spec hf
  have hrefs {f : Fld} (h : f.place ∉ [F.PWR_REFCLK_CORE_OK.place, F.PWR_REFCLK_SERDES_OK.place] ++ foundPlaces) :
      (s.bootMemory i fresh).fld f = ((s.bootKeys i).strapped i).fld f := hrplaces f 0 h
  have hkeys {f : Fld} (h : f.place ∉ [F.PWR_REFCLK_CORE_OK.place, F.PWR_REFCLK_SERDES_OK.place] ++ foundPlaces) (h' : f.place ∉ [F.PWR_START_PHASE.place,
      F.CTL_ID_POSITION.place, F.TST_PINS_POS.place, F.CTL_ID_DEVNUM.place, F.JNL_CUSTODY_DEVICES.place] ++ positionPlaces) :
      (s.bootMemory i fresh).fld f = (s.bootKeys i).fld f := (hrefs h).trans (hsplaces f 0 h')
  have hframe : ∃ r a p, s.bootMemory i fresh = { s.bootKeys i with regs := r, ras := a, pwr := p } ∧ p.refWait = (s.bootKeys i).pwr.refWait := by
    refine ⟨r', a, { (s.bootKeys i).pwr with
      memInit := if fresh then (if (((s.bootKeys i).strapped i).refsFound i).fld F.TIER_T2_CFG_GRANULES = 0 then 1 else 3) else 0 }, ?_, rfl⟩
    unfold State.bootMemory
    dsimp only
    rw [hreq, hseq]
  obtain ⟨r₀, a₀, p, hframe, hp⟩ := hframe
  refine ⟨⟨?_, ?_, ?_, ?_, ?_, ?_, ?_, ?_, ?_, fun n h1 hn => ?_⟩, (hrefs (by decide)).trans hpos, (hrefs (by decide)).trans hdev, ?_,
    (hrefs (by decide)).trans hphase, hcore, hserdes⟩
  · rw [hframe]; exact hb.slot0
  · rw [hframe]; exact hb.slot1
  · rw [hframe]; exact hb.nor
  · rw [hframe]; exact hb.anchors
  · rw [hframe]; exact hp.trans hb.refWait
  · exact (hkeys (by decide) (by decide)).trans hb.fw
  · exact (hkeys (by decide) (by decide)).trans hb.slot
  · exact (hkeys (by decide) (by decide)).trans hb.access
  · exact (hkeys (by decide) (by decide)).trans hb.puf
  · have hr : ((s.bootKeys i).strapped i).keepsPlaces (s.bootMemory i fresh) ([F.PWR_REFCLK_CORE_OK.place, F.PWR_REFCLK_SERDES_OK.place] ++ foundPlaces) :=
      hrplaces
    rw [hr.islandState (fun m hm => (island_places m hm).2.2) h1 hn, hsplaces.islandState (fun m hm => (island_places m hm).2.1) h1 hn]
    exact hb.islands n h1 hn
  · rw [State.fldBit, hrefs (by decide)]; exact hcust

end Keys

end Sys2Proof.Machine
end

section
/-! COLD_START, MEM_INIT_DONE and the reference clocks (R440, R451, R453, R455). -/

namespace Sys2Proof.Machine

variable {s t u : State}

/-! ### The start -/

/-- A self-test changes no field of what has booted. -/
theorem Booted.selfTest {i : StartInfo} {k : Nat} (h : Booted s i k t) : t.selfTest.sec = t.sec ∧ t.selfTest.sil = t.sil ∧
    t.selfTest.pwr.refWait = s.pwr.refWait ∧ t.selfTest.fld F.SEC_STATE_FW = 1 ∧ t.selfTest.fld F.SEC_STATE_FW_SLOT = k ∧
    t.selfTest.fld F.TST_STATE_ACCESS = 0 ∧ t.selfTest.fld F.SEC_STATE_PUF = t.fld F.SEC_STATE_PUF := by
  obtain ⟨r, a, b, c, hr⟩ := t.selfTest_frame
  refine ⟨by rw [hr], by rw [hr], by rw [hr]; exact h.refWait, ?_, ?_, ?_, ?_⟩
  · rw [t.selfTest_fld (by decide) (by decide) (by decide), h.fw]
  · rw [t.selfTest_fld (by decide) (by decide) (by decide), h.slot]
  · rw [t.selfTest_fld (by decide) (by decide) (by decide), h.access]
  · rw [t.selfTest_fld (by decide) (by decide) (by decide)]

/-- What a start leaves of the firmware it has booted. -/
structure Runs (i : StartInfo) (k : Nat) (u : State) : Prop where
  fw : u.fld F.SEC_STATE_FW = 1
  access : u.fld F.TST_STATE_ACCESS = 0
  slot0 : u.sec.slot0 = i.slot0
  slot1 : u.sec.slot1 = i.slot1
  nor : u.sil.nor = i.image
  slot : u.fld F.SEC_STATE_FW_SLOT = k
  anchors : u.sec.anchors = fwAnchors (if k = 0 then i.slot0 else i.slot1)

theorem Booted.runs {i : StartInfo} {k : Nat} (h : Booted s i k u) : Runs i k u := ⟨h.fw, h.access, h.slot0, h.slot1, h.nor, h.slot, h.anchors⟩

theorem Booted.runs_selfTest {i : StartInfo} {k : Nat} (h : Booted s i k u) : Runs i k u.selfTest := by
  obtain ⟨hsec, hsil, -, hfw, hslot, hacc, -⟩ := h.selfTest
  exact ⟨hfw, hacc, by rw [hsec, h.slot0], by rw [hsec, h.slot1], by rw [hsil, h.nor], hslot, by rw [hsec, h.anchors]⟩

/-- A state that waits for a reference differs in that mark alone. -/
theorem Booted.runs_waiting {i : StartInfo} {k : Nat} (h : Booted s i k u) (b : Bool) : Runs i k { u with pwr.refWait := b } :=
  ⟨h.fw, h.access, h.slot0, h.slot1, h.nor, h.slot, h.anchors⟩

theorem shownBit_eq_one {b : Bool} : shownBit b = 1 ↔ b = true := by cases b <;> simp [shownBit]

section Boot
variable {i : StartInfo} {k : Nat} (hk : (s.bootFound i).bootSlot = some k) (hk2 : k < 2)
include hk hk2

/-- A start whose keys cannot be reconstructed stops there. -/
theorem State.boot_noKeys (fresh : Bool) (hp : i.pufOk = false) :
    Runs i k (s.boot i fresh) ∧ (s.boot i fresh).fld F.SEC_STATE_PUF = 2 ∧ (s.boot i fresh).fld F.PWR_START_PHASE = 1 := by
  obtain ⟨hb, hphase⟩ := State.bootKeys_spec hk hk2
  have hpuf : (s.bootKeys i).fld F.SEC_STATE_PUF = 2 := by rw [hb.puf, hp]; rfl
  rw [s.boot_accepted fresh (State.romBoot_spec hk hk2).1, if_pos (by rw [hpuf]; decide)]
  exact ⟨hb.runs, hpuf, hphase⟩

theorem State.boot_keys (fresh : Bool) (hp : i.pufOk = true) : s.boot i fresh = (s.bootMemory i fresh).selfTestWait := by
  obtain ⟨hb, -⟩ := State.bootKeys_spec hk hk2
  rw [s.boot_accepted fresh (State.romBoot_spec hk hk2).1, if_neg]
  rw [hb.puf, hp]
  exact fun h => h rfl

/-- A start with its keys takes its number and begins its self-test, or waits for a reference. -/
theorem State.boot_starts (fresh : Bool) (hp : i.pufOk = true) (hst : i.straps < 64) (hf : i.stacksFailed = []) :
    Runs i k (s.boot i fresh) ∧ (s.boot i fresh).fld F.SEC_STATE_PUF = 1 ∧ (s.boot i fresh).position = i.straps ∧ (s.boot i fresh).devnum = i.straps ∧
    (s.boot i fresh).fldBit F.JNL_CUSTODY_DEVICES i.straps = true ∧
    (i.coreRef = true → i.serdesRef = true → (s.boot i fresh).pwr.refWait = s.pwr.refWait ∧
      ((∀ k, 1 ≤ k → k ≤ 24 → s.islandState k ≠ isHELD) → (s.boot i fresh).fld F.PWR_START_PHASE = 3)) ∧
    (i.coreRef = false ∨ i.serdesRef = false → (s.boot i fresh).fld F.PWR_START_PHASE = 2 ∧ (s.boot i fresh).pwr.refWait = true) := by
  obtain ⟨hb, hpos, hdev, hcust, hphase, hcore, hserdes⟩ := State.bootMemory_spec hk hk2 fresh hst hf
  rw [State.boot_keys hk hk2 fresh hp]
  have hpuf : (s.bootMemory i fresh).fld F.SEC_STATE_PUF = 1 := by rw [hb.puf, hp]; rfl
  unfold State.selfTestWait
  rw [hcore, hserdes]
  simp only [shownBit_eq_one]
  by_cases hr : i.coreRef = true ∧ i.serdesRef = true
  · rw [if_pos hr]
    obtain ⟨-, -, hwait, -, -, -, hpuf'⟩ := hb.selfTest
    refine ⟨hb.runs_selfTest, hpuf'.trans hpuf, ?_, ?_, ?_, fun _ _ => ⟨hwait, fun h => State.selfTest_phase3 fun n h1 hn => ?_⟩, fun h => ?_⟩
    · exact (State.selfTest_fld _ (by decide) (by decide) (by decide) _).trans hpos
    · exact (State.selfTest_fld _ (by decide) (by decide) (by decide) _).trans hdev
    · rw [State.fldBit, State.selfTest_fld _ (by decide) (by decide) (by decide)]; exact hcust
    · rw [hb.islands n h1 hn]; exact h n h1 hn
    · rcases h with h | h <;> simp [h] at hr
  · rw [if_neg hr]
    exact ⟨hb.runs_waiting true, hpuf, hpos, hdev, hcust, fun h h' => absurd ⟨h, h'⟩ hr, fun _ => ⟨hphase, rfl⟩⟩

end Boot

/-! ### The input applied -/

/-- The input is applied and the start has its cause. -/
def State.inputApplied (s : State) : State := ({ s with pwr.on := true } : State).startCause 4 true

theorem State.startCause_fields (s : State) {c : Nat} (hc : c < 2 ^ F.RAS_RESET_CAUSE_CAUSE.width) (lost : Bool) : (s.startCause c lost).fld F.RAS_RESET_CAUSE_CAUSE = c ∧
    (s.startCause c lost).fld F.RAS_RESET_CAUSE_DEDUP_LOST = (if lost then 1 else 0) := by
  refine ⟨?_, ?_⟩
  · refine (State.fld_setF_place (f := F.RAS_RESET_CAUSE_DEDUP_LOST) (s.setF F.RAS_RESET_CAUSE_CAUSE c) _ (by decide)).trans ?_
    exact (State.fld_setF_same _ _ _ _).trans (Nat.mod_eq_of_lt hc)
  · refine (State.fld_setF_same _ _ _ _).trans ?_
    cases lost <;> rfl

theorem State.inputApplied_spec (s : State) : s.inputApplied.pwr.on = true ∧ s.inputApplied.fld F.RAS_RESET_CAUSE_CAUSE = 4 ∧
    s.inputApplied.fld F.RAS_RESET_CAUSE_DEDUP_LOST = 1 ∧ s.inputApplied.fab.dedup = [] ∧ s.inputApplied.fab.dedupCopy = [] ∧
    s.inputApplied.mem = s.mem := by
  obtain ⟨hcause, hlost⟩ := ({ s with pwr.on := true } : State).startCause_fields (c := 4) (by decide) true
  exact ⟨rfl, hcause, hlost, rfl, rfl, rfl⟩

theorem island_cause : ∀ n < 24, (F.PWR_ISLAND_STATE.at n).place ∉ [F.RAS_RESET_CAUSE_CAUSE.place, F.RAS_RESET_CAUSE_DEDUP_LOST.place] := by decide

theorem State.inputApplied_island (s : State) {n : Nat} (h1 : 1 ≤ n) (h : n ≤ 24) : s.inputApplied.islandState n = s.islandState n := by
  have hp : s.keepsPlaces s.inputApplied [F.RAS_RESET_CAUSE_CAUSE.place, F.RAS_RESET_CAUSE_DEDUP_LOST.place] :=
    ((s.keepsPlaces_setF (f := F.RAS_RESET_CAUSE_CAUSE) 4 0 (by simp)).trans
      (State.keepsPlaces_setF _ (f := F.RAS_RESET_CAUSE_DEDUP_LOST) 1 0 (by simp))).trans (State.keepsPlaces_of_regs rfl)
  exact hp.islandState island_cause h1 h

theorem coldStart_answers (s : State) (i : StartInfo) (h : s.pwr.on = false ∨ (s.fld F.SEC_STATE_FW = 0 ∧ s.fld F.PWR_START_PHASE = 0)) :
    Answers (.coldStart i) s (s.inputApplied.boot i true) := by
  refine where_answers (exec_coldStart s i) rfl (if_neg ?_)
  rcases h with h | ⟨hfw, hph⟩
  · simp [h]
  · simp [hfw, hph]

/-- The branches of a start that the input begins. -/
theorem coldStarts (s : State) (i : StartInfo) :
    (s.pwr.on = true → s.fld F.SEC_STATE_FW ≠ 0 ∨ s.fld F.PWR_START_PHASE ≠ 0 → Answers (.coldStart i) s s) ∧
    (s.pwr.on = false ∨ (s.fld F.SEC_STATE_FW = 0 ∧ s.fld F.PWR_START_PHASE = 0) →
      (∃ v, Answers (.coldStart i) s ((v : State).boot i true) ∧ v.pwr.on = true ∧ v.fld F.RAS_RESET_CAUSE_CAUSE = 4 ∧
        v.fld F.RAS_RESET_CAUSE_DEDUP_LOST = 1 ∧ v.fab.dedup = [] ∧ v.fab.dedupCopy = [] ∧ v.mem = s.mem) ∧
      (fwAccepted i.slot0 = false → fwAccepted i.slot1 = false → ∃ u, Answers (.coldStart i) s u ∧ u.fld F.SEC_STATE_FW = 2 ∧
        u.fld F.TST_STATE_ACCESS = 3 ∧ u.fld F.PWR_START_PHASE = 0 ∧ u.sil.nor = i.image) ∧
      (fwAccepted i.slot0 = true ∨ fwAccepted i.slot1 = true → i.straps < 64 → i.stacksFailed = [] → ∃ u, Answers (.coldStart i) s u ∧
        u.fld F.SEC_STATE_FW = 1 ∧ u.fld F.TST_STATE_ACCESS = 0 ∧ u.sec.slot0 = i.slot0 ∧ u.sec.slot1 = i.slot1 ∧ u.sil.nor = i.image ∧
        (fwAccepted i.slot1 = false → u.fld F.SEC_STATE_FW_SLOT = 0 ∧ u.sec.anchors = fwAnchors i.slot0) ∧
        (fwAccepted i.slot0 = false → u.fld F.SEC_STATE_FW_SLOT = 1 ∧ u.sec.anchors = fwAnchors i.slot1) ∧
        (fwAccepted i.slot0 = true → fwAccepted i.slot1 = true →
          u.fld F.SEC_STATE_FW_SLOT = if field i.slot1 8 8 ≤ field i.slot0 8 8 then 0 else 1) ∧
        (i.pufOk = false → u.fld F.SEC_STATE_PUF = 2 ∧ u.fld F.PWR_START_PHASE = 1) ∧
        (i.pufOk = true → u.fld F.SEC_STATE_PUF = 1 ∧ u.position = i.straps ∧ u.devnum = i.straps ∧ u.fldBit F.JNL_CUSTODY_DEVICES i.straps = true ∧
          (i.coreRef = true → i.serdesRef = true → u.pwr.refWait = s.pwr.refWait ∧
            ((∀ k, 1 ≤ k → k ≤ 24 → s.islandState k ≠ isHELD) → u.fld F.PWR_START_PHASE = 3)) ∧
          (i.coreRef = false ∨ i.serdesRef = false → u.fld F.PWR_START_PHASE = 2 ∧ u.pwr.refWait = true)))) := by
  refine ⟨fun hon h => where_answers (exec_coldStart s i) rfl (if_pos ⟨hon, h⟩), fun h =>
    ⟨⟨_, coldStart_answers s i h, s.inputApplied_spec⟩, fun h0 h1 => ?_, fun hacc hst hf => ?_⟩⟩
  · obtain ⟨hfw, hacc, hphase, hnor, -⟩ := s.inputApplied.boot_rejected_fields true h0 h1
    exact ⟨_, coldStart_answers s i h, hfw, hacc, hphase, hnor⟩
  · obtain ⟨k, hk, hk2, h0, h1, hv⟩ := s.inputApplied.bootSlot_accepted hacc
    have hruns : Runs i k (s.inputApplied.boot i true) := by
      cases hp : i.pufOk
      · exact (State.boot_noKeys hk hk2 true hp).1
      · exact (State.boot_starts hk hk2 true hp hst hf).1
    refine ⟨_, coldStart_answers s i h, hruns.fw, hruns.access, hruns.slot0, hruns.slot1, hruns.nor, fun ha => ?_, fun ha => ?_,
      fun ha hb => hruns.slot.trans (hv ha hb), fun hp => (State.boot_noKeys hk hk2 true hp).2, fun hp => ?_⟩
    · have := h0 ha
      exact ⟨hruns.slot.trans this, by rw [hruns.anchors, if_pos this]⟩
    · have := h1 ha
      exact ⟨hruns.slot.trans this, by rw [hruns.anchors, if_neg (by omega)]⟩
    · obtain ⟨-, hpuf, hpos, hdev, hcust, hrefs, hwait⟩ := State.boot_starts hk hk2 true hp hst hf
      refine ⟨hpuf, hpos, hdev, hcust, fun hc hs => ⟨(hrefs hc hs).1, fun hheld => (hrefs hc hs).2 fun n h1 hn => ?_⟩, hwait⟩
      rw [s.inputApplied_island h1 hn]; exact hheld n h1 hn

/-! ### The test of memory -/

/-- The test of a tier ends. -/
def State.memTested (s : State) (tier : Nat) : State := { s with pwr.memInit := setBit s.pwr.memInit (tier - 1) false }

section Test
variable {tier : Nat} (h1 : 1 ≤ tier) (h2 : tier ≤ 2) (hb : bitAt s.pwr.memInit (tier - 1) = true) (hp : 4 ≤ s.fld F.PWR_START_PHASE)
  (hp' : s.fld F.PWR_START_PHASE ≤ 7) (failed : List Nat)
include h1 h2 hb hp hp'

/-- What follows the test of a tier that was under way. -/
theorem State.memInitDone_ends : s.memInitDone tier failed =
    if tier = 1 ∧ (failed.foldl (fun s i => s.partFailure tier i) (s.memTested tier)).fld F.PWR_START_PHASE = 4 then
      ((failed.foldl (fun s i => s.partFailure tier i) (s.memTested tier)).setF F.PWR_START_PHASE 5).norStart
    else if (failed.foldl (fun s i => s.partFailure tier i) (s.memTested tier)).fld F.PWR_START_PHASE = 5 ∧
        (failed.foldl (fun s i => s.partFailure tier i) (s.memTested tier)).silState = .running ∧
        (!(failed.foldl (fun s i => s.partFailure tier i) (s.memTested tier)).ringAwaited) = true then
      (failed.foldl (fun s i => s.partFailure tier i) (s.memTested tier)).joinBegin
    else failed.foldl (fun s i => s.partFailure tier i) (s.memTested tier) := by
  unfold State.memInitDone
  rw [if_neg (by rw [hb]; simp only [Bool.not_true, Bool.false_eq_true, false_or]; omega)]
  rfl

end Test

/-- The ranges with redundancy are read from the claims, the image and these registers. -/
theorem State.guardedRanges_congr {ps : List Nat} (hx : u.xlt.claims = s.xlt.claims) (hsil : u.sil = s.sil) (h : s.keepsPlaces u ps)
    (hps : ∀ f ∈ [F.CTL_ID_DEVNUM, F.XLT_CTX_CFG_ENABLE, F.XLT_CTX_TABLE_AREA, F.XLT_CTX_CFG_LOG2_CAP], f.place ∉ ps) :
    u.guardedRanges = s.guardedRanges := by
  have hdev : u.devnum = s.devnum := h _ _ (hps _ (by simp))
  have hen : u.ctxEnabled = s.ctxEnabled := funext fun c => by rw [State.ctxEnabled, State.ctxEnabled, h _ _ (hps _ (by simp))]
  have harea : u.tableArea = s.tableArea := funext fun c => by rw [State.tableArea, State.tableArea, h _ _ (hps _ (by simp))]
  have hcap (c : Nat) : u.fld F.XLT_CTX_CFG_LOG2_CAP c = s.fld F.XLT_CTX_CFG_LOG2_CAP c := h _ _ (hps _ (by simp))
  simp only [State.guardedRanges, State.tableRanges, hx, hsil, hdev, hen, harea, hcap]

/-- A stack is marked as failed. -/
def State.stackMarked (s : State) (i : Nat) : State :=
  (s.setFldBit F.TIER_T1_CFG_STACK_FAILED i true).logErr
    { unit := .tier, status := .internal, index := i, addr := mkDga s.devnum 0 0, syndrome := 0 }

theorem State.stackMarked_places (s : State) (i : Nat) :
    s.keepsPlaces (s.stackMarked i) (F.TIER_T1_CFG_STACK_FAILED.place :: logKeys.map (· % 2 ^ 30)) :=
  (s.keepsPlaces_setF _ _ (by simp)).trans ((State.logErr_keepsFields _ _).keepsPlaces.mono (List.subset_cons_self _ _))

theorem State.stackMarked_guarded (s : State) (i : Nat) : (s.stackMarked i).guardedRanges = s.guardedRanges := by
  refine State.guardedRanges_congr ?_ ?_ (s.stackMarked_places i) (by decide)
  · unfold State.stackMarked; rw [State.logErr_frame]; rfl
  · unfold State.stackMarked; rw [State.logErr_frame]; rfl

/-- A stack that fails while nothing has redundancy is marked, and nothing else comes of it. -/
theorem State.partFailure_stack (s : State) (hg : s.guardedRanges = []) {i : Nat} (hi : i < 8) :
    (s.partFailure 1 i).fldBit F.TIER_T1_CFG_STACK_FAILED i = true ∧ (s.partFailure 1 i).fld F.PWR_START_PHASE = s.fld F.PWR_START_PHASE := by
  have h : s.partFailure 1 i = if 1 = 0 ∨ 3 < 1 ∨ 8 ≤ i ∨ s.fldBit F.TIER_T1_CFG_STACK_FAILED i = true then s
      else ((s.stackMarked i).guardedRanges.filter (fun k => cellTier k.cell == 1)).foldl (fun t k => (granulesOf k.cell k.bytes).foldl
        (fun t g => t.ownCopyLost k g (fun c => (s.stackMarked i).partOf c == i && (1 != 3 || (s.stackMarked i).dieOf c == i % 64))) t)
        (s.stackMarked i) := rfl
  rw [h]
  split
  next hknown => exact ⟨by simpa [Nat.not_le.mpr hi] using hknown, rfl⟩
  next =>
    rw [s.stackMarked_guarded, hg]
    refine ⟨?_, s.stackMarked_places i _ _ (by decide)⟩
    have hbit := s.fldBit_setFldBit_same (f := F.TIER_T1_CFG_STACK_FAILED) true 0 hi
    rw [State.fldBit] at hbit ⊢
    exact (congrArg (bitAt · i) (State.fld_logErr _ _ (by decide))).trans hbit

theorem State.memTested_bit (s : State) {tier : Nat} : bitAt (s.memTested tier).pwr.memInit (tier - 1) = false := bitAt_setBit_same _ _ _

theorem memInit_answers {tier : Nat} {failed : List Nat} (hs : s.serves [] = true) (h : s.memInitDone tier failed = t) :
    AnswersThen (.memInitDone tier failed) s t := core_answersThen (exec_memInitDone s tier failed) hs h

/-- The tests of memory. -/
theorem memTests (s : State) (tier : Nat) (failed : List Nat) (hs : s.serves [] = true) :
    (tier = 0 ∨ 2 < tier ∨ bitAt s.pwr.memInit (tier - 1) = false ∨ s.fld F.PWR_START_PHASE < 4 ∨ 7 < s.fld F.PWR_START_PHASE →
      AnswersThen (.memInitDone tier failed) s s) ∧
    (bitAt s.pwr.memInit 0 = true → s.fld F.PWR_START_PHASE = 4 → ∃ v, AnswersThen (.memInitDone 1 []) s (v : State).norStart ∧
      bitAt v.pwr.memInit 0 = false ∧ v.fld F.PWR_START_PHASE = 5 ∧ v.mem = s.mem ∧ v.xlt = s.xlt) ∧
    (bitAt s.pwr.memInit 0 = true → s.fld F.PWR_START_PHASE = 4 → s.guardedRanges = [] → ∀ i, i < 8 → ∃ v,
      AnswersThen (.memInitDone 1 [i]) s (v : State).norStart ∧ v.fldBit F.TIER_T1_CFG_STACK_FAILED i = true ∧ v.fld F.PWR_START_PHASE = 5) ∧
    (bitAt s.pwr.memInit 1 = true → s.fld F.PWR_START_PHASE = 5 → s.silState ≠ .running → ∃ u, AnswersThen (.memInitDone 2 []) s u ∧
      bitAt u.pwr.memInit 1 = false ∧ u.regs = s.regs ∧ u.mem = s.mem) ∧
    (bitAt s.pwr.memInit 1 = true → s.fld F.PWR_START_PHASE = 5 → s.silState = .running → s.ringAwaited = false → ∃ v,
      AnswersThen (.memInitDone 2 []) s (v : State).joinBegin ∧ bitAt v.pwr.memInit 1 = false ∧ v.regs = s.regs ∧ v.mem = s.mem) := by
  have hfive (v : State) : (v.setF F.PWR_START_PHASE 5).fld F.PWR_START_PHASE = 5 := State.fld_setF_same _ _ _ _
  refine ⟨fun h => memInit_answers hs ?_, fun hb hp => ⟨(s.memTested 1).setF F.PWR_START_PHASE 5, memInit_answers hs ?_,
      s.memTested_bit (tier := 1), hfive _, rfl, rfl⟩, fun hb hp hg i hi => ?_,
    fun hb hp hn => ⟨s.memTested 2, memInit_answers hs ?_, s.memTested_bit (tier := 2), rfl, rfl⟩,
    fun hb hp hr ha => ⟨s.memTested 2, memInit_answers hs ?_, s.memTested_bit (tier := 2), rfl, rfl⟩⟩
  · refine if_pos ?_
    rcases h with h | h | h | h
    · exact .inl h
    · exact .inr (.inl h)
    · exact .inr (.inr (.inl (by rw [h]; rfl)))
    · exact .inr (.inr (.inr h))
  · rw [State.memInitDone_ends (by decide) (by decide) hb (by omega) (by omega), if_pos ⟨rfl, hp⟩]
    rfl
  · obtain ⟨hbit, hphase⟩ := (s.memTested 1).partFailure_stack hg hi
    refine ⟨((s.memTested 1).partFailure 1 i).setF F.PWR_START_PHASE 5, memInit_answers hs ?_, ?_, hfive _⟩
    · rw [State.memInitDone_ends (by decide) (by decide) hb (by omega) (by omega), if_pos ⟨rfl, hphase.trans hp⟩]
      rfl
    · rw [State.fldBit, State.fld_setF_place _ _ (by decide)]; exact hbit
  · rw [State.memInitDone_ends (by decide) (by decide) hb (by omega) (by omega), if_neg (by simp), if_neg (fun h => hn h.2.1)]
    rfl
  · rw [State.memInitDone_ends (by decide) (by decide) hb (by omega) (by omega), if_neg (by simp), if_pos]
    · rfl
    · exact ⟨hp, hr, by rw [show (List.foldl _ (s.memTested 2) []).ringAwaited = s.ringAwaited from rfl, ha]; rfl⟩

/-! ### The reference clocks -/

/-- The field of a reference clock that is present and stable. -/
def refOkF (serdes : Bool) : Fld := if serdes then F.PWR_REFCLK_SERDES_OK else F.PWR_REFCLK_CORE_OK

/-- A reference is stable. -/
def State.refOk (s : State) (serdes : Bool) : State := s.setF (refOkF serdes) 1

theorem State.refOk_same (s : State) (serdes : Bool) : (s.refOk serdes).fld (refOkF serdes) = 1 := by
  rw [State.refOk, State.fld_setF_same]; cases serdes <;> rfl

theorem State.refOk_other (s : State) (serdes : Bool) : (s.refOk serdes).fld (refOkF !serdes) = s.fld (refOkF !serdes) :=
  State.fld_setF_place _ _ (by cases serdes <;> decide)

theorem State.refStable_eq (s : State) (serdes : Bool) : s.refStable serdes =
    if s.pwr.refWait = true ∧ s.fld (refOkF !serdes) = 1 then ({ s.refOk serdes with pwr.refWait := false } : State).selfTest else s.refOk serdes := by
  have hown := s.refOk_same serdes
  have hother := s.refOk_other serdes
  have h : s.refStable serdes = if (s.refOk serdes).pwr.refWait = true ∧ (s.refOk serdes).fld F.PWR_REFCLK_SERDES_OK = 1 ∧
      (s.refOk serdes).fld F.PWR_REFCLK_CORE_OK = 1 then ({ s.refOk serdes with pwr.refWait := false } : State).selfTest else s.refOk serdes := by
    cases serdes <;> rfl
  have hwait : (s.refOk serdes).pwr.refWait = s.pwr.refWait := rfl
  rw [h, hwait]
  refine if_congr ?_ rfl rfl
  cases serdes
  · simp only [refOkF, Bool.not_false, if_true] at hown hother ⊢
    rw [hother]
    simp only [Bool.false_eq_true, if_false] at hown
    simp [hown]
  · simp only [refOkF, Bool.not_true, if_true, Bool.false_eq_true, if_false] at hown hother ⊢
    rw [hother]
    simp [hown]

theorem refOkF_not (serdes : Bool) : refOkF (!serdes) = if serdes then F.PWR_REFCLK_CORE_OK else F.PWR_REFCLK_SERDES_OK := by cases serdes <;> rfl

theorem island_ref : ∀ n < 24, ∀ serdes, (F.PWR_ISLAND_STATE.at n).place ∉ [(refOkF serdes).place] := by decide

theorem phase_ref : ∀ serdes, (refOkF serdes).place ≠ F.PWR_START_PHASE.place := by decide

/-- Settles O55: the start by `coldStarts`, the tests by `memTests`, the references by `refStable_eq`. -/
theorem starts : Obligations.Starts := by
  refine ⟨coldStarts, memTests, fun s serdes hs => ⟨fun h => ?_, fun h => ?_, fun h => ?_, fun h h1 hheld => ?_, fun h h0 => ?_⟩⟩
  · exact core_answers (exec_refclkWaitTimeout s) hs (if_neg (by simp [h]))
  · obtain ⟨e, he, hunit, hstatus, -⟩ := s.logErr_record { unit := .pwr, status := .timeout }
    exact ⟨_, core_answers (exec_refclkWaitTimeout s) hs (if_pos h), State.logErr_mem _ _, by rw [State.logErr_frame], e, he, hunit, hstatus⟩
  · refine ⟨_, core_answersThen (exec_refclkStable s serdes) hs ((s.refStable_eq serdes).trans (if_neg (by simp [h]))), ⟨rfl, ?_⟩, s.refOk_same serdes⟩
    have hk : (refOkF serdes).key 0 = if serdes then F.PWR_REFCLK_SERDES_OK.key 0 else F.PWR_REFCLK_CORE_OK.key 0 := by cases serdes <;> rfl
    rw [← hk]
    exact s.keepsFields_setF _ (by simp)
  · rw [← refOkF_not] at h1
    refine ⟨_, core_answersThen (exec_refclkStable s serdes) hs ((s.refStable_eq serdes).trans (if_pos ⟨h, h1⟩)), ?_,
      State.selfTest_phase3 fun n hn1 hn => ?_⟩
    · obtain ⟨r, a, b, c, hr⟩ := State.selfTest_frame ({ s.refOk serdes with pwr.refWait := false } : State)
      rw [hr]
    · have hk : s.keepsPlaces ({ s.refOk serdes with pwr.refWait := false } : State) [(refOkF serdes).place] :=
        (s.keepsPlaces_setF (f := refOkF serdes) 1 0 (by simp)).trans (State.keepsPlaces_of_regs rfl)
      rw [hk.islandState (fun m hm => island_ref m hm serdes) hn1 hn]
      exact hheld n hn1 hn
  · rw [← refOkF_not] at h0
    exact ⟨_, core_answersThen (exec_refclkStable s serdes) hs ((s.refStable_eq serdes).trans (if_neg (by simp [h0]))), h,
      State.fld_setF_place _ _ (phase_ref serdes)⟩

end Sys2Proof.Machine
end

section
/-! Peers that join, the ring fetched from the mirror, and accesses that are not answered (R25, R41, R69, R70, R125). -/

namespace Sys2Proof.Machine

variable {s t u : State}

/-! ### Identity exchange -/

theorem memberKey_ne {d e : Nat} (h : e ≠ d) : (F.FAB_MEMBER_STATE.at e).key 0 ≠ (F.FAB_MEMBER_STATE.at d).key 0 := by
  simp only [Fld.key, Fld.at, F.FAB_MEMBER_STATE]
  omega

/-- A change of another number's state leaves the state of this one. -/
theorem State.setMember_other (s : State) {d e : Nat} (hd : d < 64) (h : e ≠ d) (m : MemberState) (st : Status) :
    (s.setMember e m st).memberState d = s.memberState d := by
  unfold State.setMember State.memberState
  rw [State.fld_logErr _ _ (memberKey_not_logKey hd), State.fld_setF_ne _ _ (memberKey_ne h)]

/-- No number's state lies where the class-P2 layout does. -/
theorem State.setMember_layout (s : State) (e : Nat) (m : MemberState) (st : Status) :
    (s.setMember e m st).fld F.TIER_P2_LAYOUT_P2_ENABLED = s.fld F.TIER_P2_LAYOUT_P2_ENABLED := by
  unfold State.setMember
  rw [State.fld_logErr _ _ (by decide), State.fld_setF_ne]
  simp only [Fld.key, Fld.at, F.FAB_MEMBER_STATE, F.TIER_P2_LAYOUT_P2_ENABLED]
  omega

/-- `u` differs from `s` in nothing that tells who the peers are and how they stand, `d` among them. -/
structure KeepsPeer (d : Nat) (s u : State) : Prop where
  member : u.memberState d = s.memberState d
  peers : u.dom.peers = s.dom.peers
  layout : u.fld F.TIER_P2_LAYOUT_P2_ENABLED = s.fld F.TIER_P2_LAYOUT_P2_ENABLED

theorem KeepsPeer.refl (d : Nat) (s : State) : KeepsPeer d s s := ⟨rfl, rfl, rfl⟩
theorem KeepsPeer.trans {d : Nat} (h : KeepsPeer d s t) (h' : KeepsPeer d t u) : KeepsPeer d s u :=
  ⟨h'.member.trans h.member, h'.peers.trans h.peers, h'.layout.trans h.layout⟩

theorem member_apart {d : Nat} (h : d < 64) : ∀ f ∈ [F.PWR_START_PHASE, F.PWR_START_LAST_MS, F.JNL_STATE_MIRROR_DEV, F.JNL_STATE_MIRROR_VALID,
    F.JNL_STATE_NO_MIRROR], f.place ≠ (F.FAB_MEMBER_STATE.at d).place ∧ f.place ≠ F.TIER_P2_LAYOUT_P2_ENABLED.place := by
  revert d; decide

theorem member_notTraffic : ∀ d < 64, (F.FAB_MEMBER_STATE.at d).place ∉ trafficPlaces := by decide

theorem KeepsPeer.setF {d : Nat} (h : d < 64) (s : State) {f : Fld} (hf : f ∈ [F.PWR_START_PHASE, F.PWR_START_LAST_MS, F.JNL_STATE_MIRROR_DEV,
    F.JNL_STATE_MIRROR_VALID, F.JNL_STATE_NO_MIRROR]) (v : Nat) : KeepsPeer d s (s.setF f v) :=
  ⟨congrArg MemberState.ofCode (State.fld_setF_place _ _ (member_apart h f hf).1), rfl, State.fld_setF_place _ _ (member_apart h f hf).2⟩

theorem KeepsPeer.ofTraffic {d : Nat} (hd : d < 64) (h : Traffic s u) : KeepsPeer d s u :=
  ⟨congrArg MemberState.ofCode (h.fld (member_notTraffic d hd) 0), by rw [h.dom], h.fld (by decide) 0⟩

theorem KeepsPeer.enterDomain {d : Nat} (hd : d < 64) (s : State) (hne : s.devnum ≠ d) : KeepsPeer d s s.enterDomain := by
  unfold State.enterDomain
  split
  · exact .refl d s
  · dsimp only
    refine KeepsPeer.trans (KeepsPeer.trans ⟨?_, ?_, ?_⟩ (.setF hd _ (by simp) _)) (.setF hd _ (by simp) _)
    · rw [State.setMember_other _ hd hne]; rfl
    · rw [State.setMember_frame]
    · exact State.setMember_layout _ _ _ _

theorem KeepsPeer.mirrorReady {d : Nat} (hd : d < 64) (s : State) : KeepsPeer d s s.mirrorReady := by
  unfold State.mirrorReady
  dsimp only
  split
  · unfold State.mirrorTaken
    split
    · exact .refl d s
    · have hdev (p : Nat) := KeepsPeer.setF hd s (f := F.JNL_STATE_MIRROR_DEV) (by simp) p
      dsimp only
      split
      · have hv := (hdev (s.partner s.devnum)).trans ((KeepsPeer.setF hd _ (f := F.JNL_STATE_MIRROR_VALID) (by simp) 1).trans
          (KeepsPeer.setF hd _ (f := F.JNL_STATE_NO_MIRROR) (by simp) 0))
        exact ⟨hv.member, hv.peers, hv.layout⟩
      · exact (hdev _).trans (.ofTraffic hd (.foldl _ (fun t e _ => .mirrorEntry t e) _))
  · exact .refl d s

theorem State.heldJoining_spec (s : State) {d : Nat} (hd : d < 64) (st : Status) : (s.heldJoining d st).memberState d = s.memberState d ∧
    (s.heldJoining d st).dom = s.dom ∧ (s.heldJoining d st).mem = s.mem ∧
    (s.heldJoining d st).fld F.TIER_P2_LAYOUT_P2_ENABLED = s.fld F.TIER_P2_LAYOUT_P2_ENABLED := by
  unfold State.heldJoining
  exact ⟨congrArg MemberState.ofCode (State.fld_logErr _ _ (memberKey_not_logKey hd)), by rw [State.logErr_frame], State.logErr_mem _ _,
    State.fld_logErr _ _ (by decide)⟩

/-- What a peer reported is kept, with what this member reports of itself. -/
def State.exchanged (s : State) (d : Nat) (i : PeerInfo) : State :=
  { s with dom.reported := s.dom.reported.put d s.ownInfo, dom.peers := s.dom.peers.put d i }

theorem State.exchanged_peer (s : State) (d : Nat) (i : PeerInfo) : (s.exchanged d i).dom.peers.get? d = some i := Tbl.get?_put_same _ _ _

/-- A peer that joins has its state, is told to reset its tags, and this member goes on with it. -/
def State.peerJoined (s : State) (d : Nat) (m : MemberState) : State :=
  let s := s.setMember d m .done
  ({ s with dom.heard := s.dom.heard.put d ⟨0, 0, false, s.now⟩ } : State).issue
    { op := opTAG_RESET, vc := vcMGMT, dst := d, aux := if s.dom.allTags then 1 else 0 } .none

theorem State.peerJoined_spec (s : State) {d : Nat} (hd : d < 64) (m : MemberState) :
    (s.peerJoined d m).memberState d = m ∧ (s.peerJoined d m).dom.peers = s.dom.peers ∧ (s.peerJoined d m).devnum = s.devnum ∧
    (s.peerJoined d m).fld F.TIER_P2_LAYOUT_P2_ENABLED = s.fld F.TIER_P2_LAYOUT_P2_ENABLED := by
  have hset := s.setMember_memberState hd m .done
  have hlay := s.setMember_layout d m .done
  have hdom : (s.setMember d m .done).dom.peers = s.dom.peers := by rw [State.setMember_frame]
  have hdev : (s.setMember d m .done).devnum = s.devnum := s.setMember_fld hd m .done (.inl (by decide)) (by decide)
  unfold State.peerJoined
  dsimp only
  generalize s.setMember d m .done = t at hset hdom hdev hlay ⊢
  have htr := Traffic.issue ({ t with dom.heard := t.dom.heard.put d ⟨0, 0, false, t.now⟩ } : State)
    { op := opTAG_RESET, vc := vcMGMT, dst := d, aux := if t.dom.allTags then 1 else 0 } .none
  have hk := KeepsPeer.ofTraffic hd htr
  exact ⟨hk.member.trans hset, hk.peers.trans hdom, (htr.fld (by decide) 0).trans hdev, hk.layout.trans hlay⟩

section Peer
variable {d : Nat} {i : PeerInfo} (hd : d < 64) (hself : s.isSelf d = false) (hj : s.memberState d = .joining)
  (hfull : s.fld F.SIL_FULL_SERIAL_SERIAL ≠ 0)
include hd hself hj hfull

omit hd in
theorem State.identityExchange_other (h : s.dom.identities.getD (s.fld (F.FAB_MEMBER_POSITION.at d)) [] ≠ i.identity) (hd : d < 64) :
    s.identityExchange d i =
      (({ s with dom.reported := s.dom.reported.put d s.ownInfo } : State).heldJoining d .authFail).holdPort (s.pportTo d) := by
  unfold State.identityExchange
  rw [if_neg (by simp [hself, hj, hfull, hd])]
  exact (if_pos h).trans (if_pos hj)

/-- A peer whose identity agrees joins as what it reports allows (no class P2 in the domain). -/
theorem State.identityExchange_same (h : s.dom.identities.getD (s.fld (F.FAB_MEMBER_POSITION.at d)) [] = i.identity)
    (hp : ((s.exchanged d i).joinPeer d).fld F.TIER_P2_LAYOUT_P2_ENABLED = 0) : s.identityExchange d i = (s.exchanged d i).joinPeer d := by
  have hgo : s.identityExchange d i = if d % 8 = 0 ∧ (if s.memberState d = .joining then (s.exchanged d i).joinPeer d else
        if i.windowsLost then (s.exchanged d i).windowsGone d else s.exchanged d i).fld F.TIER_P2_LAYOUT_P2_ENABLED = 1
      then (if s.memberState d = .joining then (s.exchanged d i).joinPeer d else
        if i.windowsLost then (s.exchanged d i).windowsGone d else s.exchanged d i).layoutKnown d
      else if s.memberState d = .joining then (s.exchanged d i).joinPeer d else
        if i.windowsLost then (s.exchanged d i).windowsGone d else s.exchanged d i := by
    unfold State.identityExchange
    rw [if_neg (by simp [hself, hj, hfull]; omega)]
    exact if_neg (not_not.mpr h)
  rw [hgo, if_pos hj, if_neg]
  rw [hp]
  exact fun h => absurd h.2 (by decide)

end Peer

section Judged
variable {d : Nat} {i : PeerInfo} (hi : s.dom.peers.get? d = some i) (hj : s.memberState d = .joining)
  (hp2 : s.fld F.TIER_P2_LAYOUT_P2_ENABLED = 0)
include hi

omit hp2 in
theorem State.joinPeer_awaits (h : s.ringAwaited = true) : s.joinPeer d = s := by
  unfold State.joinPeer
  rw [hi]
  exact if_pos (.inr h)

include hj

theorem State.joinPeer_conflict (ha : s.ringAwaited = false)
    (h : i.serial ≠ s.fld F.SIL_FULL_SERIAL_SERIAL ∨ i.domainId ≠ s.fld F.SIL_DOMAIN_ID_DOMAIN_ID) : s.joinPeer d = s.heldJoining d .stateConflict := by
  unfold State.joinPeer
  rw [hi]
  dsimp only
  rw [if_neg (by simp [hj, ha]), if_pos (h.imp id .inl)]

include hp2

theorem State.joinPeer_joins (ha : s.ringAwaited = false) (hs : i.serial = s.fld F.SIL_FULL_SERIAL_SERIAL)
    (hdom : i.domainId = s.fld F.SIL_DOMAIN_ID_DOMAIN_ID) (hup : s.portUp (s.pportTo d) = true) (hw : i.windowsLost = false) :
    s.joinPeer d = (s.peerJoined d (if s.dom.spareRole.getD d false then .spare else .active)).enterDomain.mirrorReady := by
  have hfit : s.layoutFits d = some true := if_pos hp2
  unfold State.joinPeer
  rw [hi]
  dsimp only
  rw [if_neg (by simp [hj, ha]), if_neg (by simp [hs, hdom, hfit]), if_neg (by simp [hfit, hup]), hw]
  rfl

end Judged

/-- Identity exchanges with a JOINING peer. -/
theorem identityExchanges (s : State) (d : Nat) (i : PeerInfo) (hs : s.serves [] = true) (hd : d < 64) (hself : s.isSelf d = false)
    (hj : s.memberState d = .joining) (hfull : s.fld F.SIL_FULL_SERIAL_SERIAL ≠ 0) :
    (s.dom.identities.getD (s.fld (F.FAB_MEMBER_POSITION.at d)) [] ≠ i.identity →
      ∃ v : State, AnswersThen (.identityExchange d i) s (v.holdPort (s.pportTo d)) ∧ v.memberState d = .joining ∧ v.dom.peers = s.dom.peers ∧
        v.dom.reported.get? d = some s.ownInfo) ∧
    (s.dom.identities.getD (s.fld (F.FAB_MEMBER_POSITION.at d)) [] = i.identity → s.fld F.TIER_P2_LAYOUT_P2_ENABLED = 0 →
      (s.ringAwaited = false → i.serial ≠ s.fld F.SIL_FULL_SERIAL_SERIAL ∨ i.domainId ≠ s.fld F.SIL_DOMAIN_ID_DOMAIN_ID →
        ∃ u, AnswersThen (.identityExchange d i) s u ∧ u.memberState d = .joining ∧ u.dom.peers.get? d = some i ∧ u.mem = s.mem) ∧
      (s.ringAwaited = true → ∃ u, AnswersThen (.identityExchange d i) s u ∧ u.memberState d = .joining ∧ u.dom.peers.get? d = some i ∧
        u.dom.reported.get? d = some s.ownInfo ∧ u.regs = s.regs ∧ u.mem = s.mem) ∧
      (s.ringAwaited = false → i.serial = s.fld F.SIL_FULL_SERIAL_SERIAL → i.domainId = s.fld F.SIL_DOMAIN_ID_DOMAIN_ID →
        s.portUp (s.pportTo d) = true → i.windowsLost = false → s.noMirror = false →
        ∃ u, AnswersThen (.identityExchange d i) s u ∧
          u.memberState d = (if s.dom.spareRole.getD d false then .spare else .active) ∧ u.dom.peers.get? d = some i)) := by
  have hrun {u : State} (h : s.identityExchange d i = u) : AnswersThen (.identityExchange d i) s u :=
    core_answersThen (exec_identityExchange s d i) hs h
  have hpeer := s.exchanged_peer d i
  refine ⟨fun h => ?_, fun h hp2 => ⟨fun ha hc => ?_, fun ha => ?_, fun ha hser hdom hup hw _ => ?_⟩⟩
  · obtain ⟨hm, hdom, -⟩ := State.heldJoining_spec { s with dom.reported := s.dom.reported.put d s.ownInfo } hd .authFail
    exact ⟨_, hrun (State.identityExchange_other hself hj hfull h hd), hm.trans hj, by rw [hdom], by rw [hdom]; exact Tbl.get?_put_same _ _ _⟩
  · have hgo := State.joinPeer_conflict (s := s.exchanged d i) hpeer hj ha hc
    obtain ⟨hm, hdom, hmem, hlay⟩ := (s.exchanged d i).heldJoining_spec hd .stateConflict
    refine ⟨_, hrun ((State.identityExchange_same hd hself hj hfull h (by rw [hgo]; exact hlay.trans hp2)).trans hgo), hm.trans hj, ?_, hmem⟩
    rw [hdom]; exact hpeer
  · have hgo := State.joinPeer_awaits (s := s.exchanged d i) hpeer ha
    exact ⟨_, hrun ((State.identityExchange_same hd hself hj hfull h (by rw [hgo]; exact hp2)).trans hgo), hj, hpeer, Tbl.get?_put_same _ _ _, rfl, rfl⟩
  · have hgo := State.joinPeer_joins (s := s.exchanged d i) hpeer hj hp2 ha hser hdom hup hw
    obtain ⟨hm, hpeers, hdev, hlay⟩ := (s.exchanged d i).peerJoined_spec hd (if s.dom.spareRole.getD d false then .spare else .active)
    have hne : s.devnum ≠ d := fun e => by rw [State.isSelf, e, beq_self_eq_true] at hself; cases hself
    have hk := (KeepsPeer.enterDomain hd _ (hdev.trans_ne hne)).trans (.mirrorReady hd _)
    refine ⟨_, hrun ((State.identityExchange_same hd hself hj hfull h ?_).trans hgo), hk.member.trans hm, ?_⟩
    · rw [hgo]; exact (hk.layout.trans hlay).trans hp2
    · exact (congrArg (fun t => Tbl.get? t d) (hk.peers.trans hpeers)).trans hpeer

end Sys2Proof.Machine
end

section
/-! The ring fetched from the mirror, the wait for JOINING numbers, and remote accesses without a response (R41, R69, R125). -/

namespace Sys2Proof.Machine

variable {s t u : State}

/-! ### The ring as a table of entries -/

theorem get?_foldl_put_notMem {es : List JEntry} {t : Tbl JEntry} {j : Nat} (h : ∀ e ∈ es, e.jseq ≠ j) :
    Tbl.get? (es.foldl (fun (t : Tbl JEntry) e => t.put e.jseq e) t) j = t.get? j := by
  induction es generalizing t with
  | nil => rfl
  | cons e es ih =>
    rw [List.foldl_cons, ih fun f hf => h f (List.mem_cons_of_mem _ hf), Tbl.get?_put_ne _ _ (h e List.mem_cons_self)]

/-- Each entry of a list without repeated JSEQ is found under its own. -/
theorem get?_foldl_put {es : List JEntry} {t : Tbl JEntry} (h : (es.map (fun e => e.jseq)).Nodup) {e : JEntry} (he : e ∈ es) :
    Tbl.get? (es.foldl (fun (t : Tbl JEntry) e => t.put e.jseq e) t) e.jseq = some e := by
  induction es generalizing t with
  | nil => cases he
  | cons f es ih =>
    rw [List.map_cons, List.nodup_cons] at h
    rw [List.foldl_cons]
    rcases List.mem_cons.mp he with rfl | he
    · rw [get?_foldl_put_notMem fun f hf hj => h.1 (List.mem_map.mpr ⟨f, hf, hj⟩), Tbl.get?_put_same]
    · exact ih h.2 he

/-! ### What the mirror holds -/

/-- The own ring is what the mirror holds of it. -/
def State.ringFetched (s : State) (es : List JEntry) : State :=
  let top := es.foldl (fun n e => max n (e.jseq + 1)) 0
  let head := max top (if s.jnl.retentionJseq = 0 then 0 else s.jnl.retentionJseq + 1)
  let tags := es.foldl (fun n e => max n (max e.tag (e.tagBase + e.tagCount))) 0
  let s : State := { s with jnl.ring := es.foldl (fun (t : Tbl JEntry) e => t.put e.jseq e) [], jnl.toEffect := [], sil.ringLost := false,
                            jnl.confirm := false, fab.jnlTag := max (max tags s.jnl.retentionTag % jnlTagLast + 1) 1 }
  ((s.setF F.JNL_HEAD_JSEQ head).setF F.JNL_ACKED_JSEQ (head - 1)).refreshRing

theorem State.ringFetched_frame (s : State) (es : List JEntry) : ∃ r j f, s.ringFetched es = { s with
    regs := r, jnl := j, fab := f, sil.ringLost := false } ∧ j.ring = es.foldl (fun (t : Tbl JEntry) e => t.put e.jseq e) [] := by
  unfold State.ringFetched
  dsimp only
  rw [State.refreshRing_frame]
  exact ⟨_, _, _, rfl, rfl⟩

theorem State.ringFetchDone_lost (hl : s.sil.ringLost = true) (hfull : s.fld F.SIL_FULL_SERIAL_SERIAL ≠ 0) (es : List JEntry) (high : Nat) :
    s.ringFetchDone es high = (s.ringFetched es).afterRing := by
  have ha : s.ringAwaited = true := by rw [State.ringAwaited, hl]; rfl
  unfold State.ringFetchDone
  rw [if_neg (by simp [ha, hfull]), if_neg (by simp [hl])]
  rfl

/-! ### A ring that was kept -/

/-- An entry that cannot be read is the mirror's. -/
def State.entryMended (es : List JEntry) (s : State) (e : Nat × JEntry) : State :=
  match es.find? (fun f => f.jseq == e.1) with
  | some f => { s with jnl.ring := s.jnl.ring.put e.1 f, mem := s.mem.store deviceKey (entryCell false e.1) f.bytes 0 }
  | none => s

/-- What the mirror does not hold is discarded, but for entries written with SINGLE. -/
def State.ringTrimmed (s : State) (high : Nat) : State :=
  { s with jnl.ring := s.jnl.ring.filter (fun e => decide (e.1 ≤ high) || e.2.single), jnl.confirm := false }

def State.ringMended (s : State) (es : List JEntry) (high : Nat) : State :=
  ((s.ringTrimmed high).jnl.ring.filter (fun e => !(s.ringTrimmed high).entryReadable false e.1)).foldl (State.entryMended es) (s.ringTrimmed high)

theorem State.ringFetchDone_kept (hl : s.sil.ringLost = false) (hc : s.jnl.confirm = true) (hfull : s.fld F.SIL_FULL_SERIAL_SERIAL ≠ 0)
    (es : List JEntry) (high : Nat) : s.ringFetchDone es high = ((s.ringMended es high).trackMax F.JNL_ACKED_JSEQ high).refreshRing.afterRing := by
  have ha : s.ringAwaited = true := by rw [State.ringAwaited, hl, hc]; rfl
  unfold State.ringFetchDone
  rw [if_neg (by simp [ha, hfull]), if_pos (by simp [hl])]
  rfl

/-- Mending adds no entry that was not there. -/
theorem State.foldl_entryMended (es : List JEntry) (l : Tbl JEntry) (t : State) : ∃ m r, l.foldl (State.entryMended es) t = { t with mem := m, jnl.ring := r } ∧
    ∀ j, (∀ e ∈ l, e.1 ≠ j) → r.get? j = t.jnl.ring.get? j := by
  induction l generalizing t with
  | nil => exact ⟨t.mem, t.jnl.ring, rfl, fun _ _ => rfl⟩
  | cons e l ih =>
    obtain ⟨m, r, heq, hr⟩ := ih (t.entryMended es e)
    have hone : ∃ m r, t.entryMended es e = { t with mem := m, jnl.ring := r } ∧ ∀ j, e.1 ≠ j → r.get? j = t.jnl.ring.get? j := by
      unfold State.entryMended
      split
      · exact ⟨_, _, rfl, fun j hj => Tbl.get?_put_ne _ _ hj⟩
      · exact ⟨t.mem, t.jnl.ring, rfl, fun _ _ => rfl⟩
    obtain ⟨m₁, r₁, heq₁, hr₁⟩ := hone
    refine ⟨m, r, ?_, fun j hj => ?_⟩
    · rw [List.foldl_cons, heq, heq₁]
    · rw [hr j fun f hf => hj f (List.mem_cons_of_mem _ hf), heq₁]
      exact hr₁ j (hj e List.mem_cons_self)

/-- What of the ring the mirror does not hold is not there any more. -/
theorem State.ringMended_spec (s : State) (es : List JEntry) (high : Nat) : (s.ringMended es high).jnl.confirm = false ∧
    (s.ringMended es high).sil = s.sil ∧ ∀ j, high < j → (∀ e ∈ s.jnl.ring, e.1 = j → e.2.single = false) →
      (s.ringMended es high).jnl.ring.get? j = none := by
  obtain ⟨m, r, heq, hr⟩ := State.foldl_entryMended es
    ((s.ringTrimmed high).jnl.ring.filter (fun e => !(s.ringTrimmed high).entryReadable false e.1)) (s.ringTrimmed high)
  refine ⟨?_, ?_, fun j hj hs => ?_⟩
  · rw [State.ringMended, heq]; rfl
  · rw [State.ringMended, heq]; rfl
  · have hgone : ∀ e ∈ (s.ringTrimmed high).jnl.ring, e.1 ≠ j := fun e he hje => by
      obtain ⟨hmem, hkeep⟩ := List.mem_filter.mp he
      rw [hs e hmem hje, Bool.or_false, decide_eq_true_eq] at hkeep
      omega
    rw [State.ringMended, heq]
    exact (hr j fun e he => hgone e (List.mem_filter.mp he).1).trans (Tbl.get?_eq_none hgone)

theorem State.trackMax_regs (s : State) (f : Fld) (v b : Nat) : ∃ r, s.trackMax f v b = { s with regs := r } := by
  unfold State.trackMax
  split
  · exact ⟨_, rfl⟩
  · exact ⟨s.regs, rfl⟩

/-! ### A new journal -/

/-- A journal that begins, before the ACTIVE members are told. -/
def State.newRing (s : State) : State :=
  let s : State := { s with jnl.ring := [], jnl.toEffect := [], jnl.carrying := none, jnl.confirm := false,
                            works := s.works.filter (fun w => !s.isSelf w.origin), fab.jnlTag := 1, jnl.retentionTag := 0, dom.allTags := true }
  let s := (s.setF F.JNL_HEAD_JSEQ 0).setF F.JNL_TAIL_JSEQ 0
  let s := (s.setF F.JNL_ACKED_JSEQ 0).count F.JNL_LOSS_DOUBLE_LOSS
  s.logErr { unit := .jnl, status := .doubleLoss, index := s.devnum, syndrome := s.partner s.devnum }

theorem State.newRing_spec (s : State) : s.newRing.jnl.ring = [] ∧ s.newRing.jnl.confirm = false ∧ s.newRing.sil = s.sil ∧
    s.newRing.mem = s.mem ∧ s.newRing.xlt = s.xlt := by
  unfold State.newRing
  dsimp only
  rw [State.logErr_frame]
  exact ⟨rfl, rfl, rfl, rfl, rfl⟩

theorem State.newJournal_spec (s : State) : s.newJournal.jnl.ring = [] ∧ s.newJournal.jnl.confirm = false ∧ s.newJournal.sil = s.sil ∧
    s.newJournal.mem = s.mem ∧ s.newJournal.xlt = s.xlt := by
  have ht : Traffic s.newRing s.newJournal :=
    .foldl (g := fun s d => s.issue { op := opTAG_RESET, vc := vcMGMT, dst := d, aux := 1 } .none) (s.newRing.membersIn .active)
      (fun t _ _ => .issue t _ _) s.newRing
  obtain ⟨hr, hc, hs, hm, hx⟩ := s.newRing_spec
  exact ⟨by rw [ht.jnl, hr], by rw [ht.jnl, hc], by rw [ht.sil, hs], by rw [ht.mem, hm], by rw [ht.xlt, hx]⟩

theorem State.ringFetchTimeout_ends (ha : s.ringAwaited = true) (hfull : s.fld F.SIL_FULL_SERIAL_SERIAL ≠ 0) :
    s.ringFetchTimeout = ({ s with sil.ringLost := false } : State).newJournal.afterRing := if_neg (by simp [ha, hfull])

/-- The three ends of the wait for the own ring. -/
theorem ringFetches (s : State) (es : List JEntry) (high : Nat) (hs : s.serves [] = true) (hfull : s.fld F.SIL_FULL_SERIAL_SERIAL ≠ 0) :
    (s.sil.ringLost = true → (es.map (fun e => e.jseq)).Nodup →
      ∃ v : State, AnswersThen (.ringFetchDone es high) s v.afterRing.joinRecorded ∧ v.sil.ringLost = false ∧
        (∀ e ∈ es, v.jnl.ring.get? e.jseq = some e) ∧ v.mem = s.mem ∧ v.xlt = s.xlt) ∧
    (s.sil.ringLost = false → s.jnl.confirm = true →
      ∃ v : State, AnswersThen (.ringFetchDone es high) s v.afterRing.joinRecorded ∧ v.jnl.confirm = false ∧ v.sil = s.sil ∧
        ∀ j, high < j → (∀ e ∈ s.jnl.ring, e.1 = j → e.2.single = false) → v.jnl.ring.get? j = none) ∧
    (s.ringAwaited = true →
      ∃ v : State, AnswersThen .ringFetchTimeout s v.afterRing.joinRecorded ∧ v.ringAwaited = false ∧ v.jnl.ring = [] ∧ v.mem = s.mem ∧ v.xlt = s.xlt) := by
  refine ⟨fun hl hn => ?_, fun hl hc => ?_, fun ha => ?_⟩
  · obtain ⟨r, j, f, heq, hring⟩ := s.ringFetched_frame es
    refine ⟨s.ringFetched es, core_answersThen (exec_ringFetchDone s es high) hs (by rw [State.ringFetchDone_lost hl hfull]), ?_, fun e he => ?_, ?_, ?_⟩
    · rw [heq]
    · rw [heq, hring]; exact get?_foldl_put hn he
    · rw [heq]
    · rw [heq]
  · obtain ⟨hconf, hsil, hgone⟩ := s.ringMended_spec es high
    obtain ⟨r, hr⟩ := (s.ringMended es high).trackMax_regs F.JNL_ACKED_JSEQ high 0
    have hframe : ((s.ringMended es high).trackMax F.JNL_ACKED_JSEQ high).refreshRing = { s.ringMended es high with
        regs := ((s.ringMended es high).trackMax F.JNL_ACKED_JSEQ high).refreshRing.regs } := by
      rw [State.refreshRing_frame, hr]
    refine ⟨_, core_answersThen (exec_ringFetchDone s es high) hs (by rw [State.ringFetchDone_kept hl hc hfull]), ?_, ?_, fun j hj h => ?_⟩
    · rw [hframe]; exact hconf
    · rw [hframe]; exact hsil
    · rw [hframe]; exact hgone j hj h
  · obtain ⟨hring, hconf, hsil, hmem, hxlt⟩ := State.newJournal_spec { s with sil.ringLost := false }
    refine ⟨_, core_answersThen (exec_ringFetchTimeout s) hs (by rw [State.ringFetchTimeout_ends ha hfull]), ?_, hring, hmem, hxlt⟩
    rw [State.ringAwaited, hsil, hconf]
    rfl

/-! ### Waits -/

theorem State.joiningWaitTimeout_over (h : s.memberState s.devnum = .active) (d : Nat) :
    (s.reach (s.dom.activeAt + s.dom.lossUs * 1000)).memberState d ≠ .joining ∨
      (s.reach (s.dom.activeAt + s.dom.lossUs * 1000)).joinHeld d = false := by
  have hm (e : Nat) : (s.reach (s.dom.activeAt + s.dom.lossUs * 1000)).memberState e = s.memberState e := rfl
  have hdev : (s.reach (s.dom.activeAt + s.dom.lossUs * 1000)).devnum = s.devnum := rfl
  have hdom : (s.reach (s.dom.activeAt + s.dom.lossUs * 1000)).dom = s.dom := rfl
  have hnow : s.dom.activeAt + s.dom.lossUs * nsPerUs ≤ (s.reach (s.dom.activeAt + s.dom.lossUs * 1000)).now := le_max_right _ _
  right
  rw [State.joinHeld, hdev, hm, hm, h, hdom]
  simp only [bne_self_eq_false, Bool.false_or, Bool.and_eq_false_iff, decide_eq_false_iff_not, not_lt]
  exact .inr hnow

/-- The request is forgotten at its time. -/
def State.accessGone (s : State) (tag issued : Nat) : State :=
  { s.reach (issued + s.dom.mgmtUs * 1000) with
    fab.reqs := s.fab.reqs.filter (fun q => q.pkt.tag != tag), fab.waiting := s.fab.waiting.filter (fun q => q.pkt.tag != tag) }

theorem State.mgmtAccessTimeout_ends {p : Packet} {ch : ChanId} {tag off id issued sent copies : Nat} {path : Path}
    (h : (s.fab.reqs ++ s.fab.waiting).find? (fun r => r.pkt.tag == tag && (match r.waiter with | .window .. => true | _ => false))
      = some ⟨p, .window ch off id, issued, sent, copies, path⟩) :
    s.mgmtAccessTimeout tag = ((s.accessGone tag issued).refuse ch off .timeout).xferAnswer id off p
      { p with op := p.op + 0x80, status := Status.timeout.code } := by
  unfold State.mgmtAccessTimeout
  generalize hf : List.find? _ (s.fab.reqs ++ s.fab.waiting) = o
  obtain rfl : o = some _ := hf.symm.trans h
  rfl

theorem State.seatErr_regs (s : State) (x : SeatId) (n off : Nat) (st : Status) :
    s.seatErr x n off st = { s with regs := (s.seatErr x n off st).regs, ctl.refused := true } := by
  by_cases h : s.fld F.CTL_SEAT_ERR_COUNT x.idx = 0
  · rw [s.seatErr_first x n off st h]; rfl
  · rw [s.seatErr_later x n off st h]; rfl

/-- What is refused over a channel is shown to it, in its claim's outcome or in its seat's register. -/
theorem State.refuse_spec (s : State) (ch : ChanId) (off : Nat) (st : Status) : (s.refuse ch off st).now = s.now ∧ (s.refuse ch off st).fab = s.fab ∧
    (s.refuse ch off st).mem = s.mem ∧ (s.ctl.entryOf ch = none → (s.refuse ch off st).claimShows ch st 0x0D) ∧
    (∀ n e, s.ctl.entryOf ch = some (n, e) → s.fld F.CTL_SEAT_ERR_COUNT e.seat.idx = 0 →
      (s.refuse ch off st).fld F.CTL_SEAT_ERR_STATUS e.seat.idx = st.code) := by
  unfold State.refuse
  cases h : s.ctl.entryOf ch with
  | none =>
    refine ⟨?_, ?_, ?_, fun _ => State.claimOutcome_shows _ _ _ _, fun n e he => by cases he⟩
    · show (s.claimOutcome _ _ _).now = _; rw [State.claimOutcome_frame]
    · show (s.claimOutcome _ _ _).fab = _; rw [State.claimOutcome_frame]
    · show (s.claimOutcome _ _ _).mem = _; rw [State.claimOutcome_frame]
  | some ne =>
    obtain ⟨n, e⟩ := ne
    have hframe := s.seatErr_regs e.seat n off st
    dsimp only
    refine ⟨by rw [hframe], by rw [hframe], by rw [hframe], (fun h => by cases h), fun n' e' he hc => ?_⟩
    cases he
    exact (s.seatErr_latches e.seat n off st hc).1

/-- Settles O15: identity exchanges, the ring, and the two waits. -/
theorem joining : Obligations.Joining := by
  refine ⟨identityExchanges, ringFetches, fun s tag p ch off id issued sent copies path hs => ⟨fun h => ⟨_, core_answersThen
    (exec_joiningWaitTimeout s) hs (if_neg (not_not.mpr h)), rfl, State.joiningWaitTimeout_over h⟩, fun h => ?_⟩⟩
  obtain ⟨hnow, hfab, hmem, hclaim, hseat⟩ := (s.accessGone tag issued).refuse_spec ch off .timeout
  refine ⟨_, core_answersThen (exec_mgmtAccessTimeout s tag) hs (State.mgmtAccessTimeout_ends h), ?_, fun r hr => ?_, hmem, hclaim, hseat⟩
  · rw [hnow]; exact le_max_right _ _
  · rw [hfab] at hr
    rcases List.mem_append.mp hr with hr | hr
    · simpa using (List.mem_filter.mp hr).2
    · simpa using (List.mem_filter.mp hr).2

end Sys2Proof.Machine
end

section
/-! A request at a home where nothing else goes on (R245, R276, R474): it is taken up, served and over. -/

namespace Sys2Proof.Machine

variable {s t u : State}

/-! ### What taking a request up changes -/

/-- The registers of the home's and of the window's occupancy. -/
def homePlaces : List Nat := [F.HOME_FILTER_BUSY.place, F.FAB_DEDUP_IN_USE.place]

/-- `u` is `s` with a request taken up: the windows, the switch core's deliveries and two counts of occupancy differ. -/
structure Taken (s u : State) : Prop where
  eq : ∃ r d w n, u = { s with regs := r, fab.dedup := d, sws := w, home.nextEv := n }
  places : s.keepsPlaces u homePlaces

theorem Taken.refl (s : State) : Taken s s := ⟨⟨_, _, _, _, rfl⟩, State.keepsPlaces_of_regs rfl⟩

theorem Taken.trans (h : Taken s t) (h' : Taken t u) : Taken s u := by
  obtain ⟨⟨_, _, _, _, rfl⟩, hp⟩ := h
  obtain ⟨⟨r, d, w, n, rfl⟩, hp'⟩ := h'
  exact ⟨⟨r, d, w, n, rfl⟩, hp.trans hp'⟩

theorem Taken.take (s : State) (p : Packet) : Taken s (s.take p) := ⟨⟨s.regs, s.fab.dedup, _, s.home.nextEv, rfl⟩, State.keepsPlaces_of_regs rfl⟩

theorem Taken.dedupEnter (s : State) (src tag : Nat) : Taken s (s.dedupEnter src tag) :=
  ⟨⟨_, _, s.sws, s.home.nextEv, rfl⟩, (State.keepsPlaces_of_regs (s := s) rfl).trans (State.keepsPlaces_setF _ _ _ (by decide))⟩

/-- The event of a request has begun and is over. -/
def State.homeTaken (s : State) (n : Nat) : State :=
  (({ s with home.nextEv := s.home.nextEv + 1 } : State).setF F.HOME_FILTER_BUSY n).setF F.HOME_FILTER_BUSY 0

theorem Taken.homeTaken (s : State) (n : Nat) : Taken s (s.homeTaken n) :=
  ⟨⟨_, s.fab.dedup, s.sws, _, rfl⟩, ((State.keepsPlaces_of_regs (s := s) rfl).trans (State.keepsPlaces_setF _ _ _ (by decide))).trans
    (State.keepsPlaces_setF _ _ _ (by decide))⟩

theorem Taken.mem (h : Taken s u) : u.mem = s.mem := by obtain ⟨⟨_, _, _, _, rfl⟩, -⟩ := h; rfl
theorem Taken.sil (h : Taken s u) : u.sil = s.sil := by obtain ⟨⟨_, _, _, _, rfl⟩, -⟩ := h; rfl
theorem Taken.sec (h : Taken s u) : u.sec = s.sec := by obtain ⟨⟨_, _, _, _, rfl⟩, -⟩ := h; rfl
theorem Taken.dom (h : Taken s u) : u.dom = s.dom := by obtain ⟨⟨_, _, _, _, rfl⟩, -⟩ := h; rfl
theorem Taken.tier (h : Taken s u) : u.tier = s.tier := by obtain ⟨⟨_, _, _, _, rfl⟩, -⟩ := h; rfl
theorem Taken.xlt (h : Taken s u) : u.xlt = s.xlt := by obtain ⟨⟨_, _, _, _, rfl⟩, -⟩ := h; rfl
theorem Taken.jnl (h : Taken s u) : u.jnl = s.jnl := by obtain ⟨⟨_, _, _, _, rfl⟩, -⟩ := h; rfl
theorem Taken.works (h : Taken s u) : u.works = s.works := by obtain ⟨⟨_, _, _, _, rfl⟩, -⟩ := h; rfl
theorem Taken.qx (h : Taken s u) : u.qx = s.qx := by obtain ⟨⟨_, _, _, _, rfl⟩, -⟩ := h; rfl
theorem Taken.now (h : Taken s u) : u.now = s.now := by obtain ⟨⟨_, _, _, _, rfl⟩, -⟩ := h; rfl
theorem Taken.reqs (h : Taken s u) : u.fab.reqs = s.fab.reqs := by obtain ⟨⟨_, _, _, _, rfl⟩, -⟩ := h; rfl
theorem Taken.waiting (h : Taken s u) : u.fab.waiting = s.fab.waiting := by obtain ⟨⟨_, _, _, _, rfl⟩, -⟩ := h; rfl
theorem Taken.blocks (h : Taken s u) : u.fab.blocks = s.fab.blocks := by obtain ⟨⟨_, _, _, _, rfl⟩, -⟩ := h; rfl
theorem Taken.filter (h : Taken s u) : u.home.filter = s.home.filter := by obtain ⟨⟨_, _, _, _, rfl⟩, -⟩ := h; rfl
theorem Taken.events (h : Taken s u) : u.home.events = s.home.events := by obtain ⟨⟨_, _, _, _, rfl⟩, -⟩ := h; rfl
theorem Taken.fld (h : Taken s u) {f : Fld} (hf : f.place ∉ homePlaces) (b : Nat) : u.fld f b = s.fld f b := h.places f b hf

theorem Taken.servedOnly (h : Taken s u) : s.servedOnly u := ⟨h.reqs, h.works, h.jnl, h.xlt, h.filter⟩

theorem State.servedOnly.trans (h : s.servedOnly t) (h' : t.servedOnly u) : s.servedOnly u := by
  obtain ⟨hr, hw, hj, hx, hf⟩ := h
  obtain ⟨hr', hw', hj', hx', hf'⟩ := h'
  exact ⟨hr'.trans hr, hw'.trans hw, hj'.trans hj, hx'.trans hx, hf'.trans hf⟩

/-! ### What the tiers' geometry is read from -/

/-- Fields from which the tiers' geometry is read: they lie below the per-class counters of bytes, or at another bit. -/
def tierFields : List Fld :=
  [F.CTL_ID_DEVNUM, F.XLT_CTX_CFG_ENABLE, F.XLT_CTX_TABLE_AREA, F.XLT_CTX_CFG_LOG2_CAP, F.WQ_Q_STATUS_STATE, F.TIER_T1_CFG_STACK_FAILED,
    F.TIER_T2_CFG_CH_FAILED, F.TIER_T2_CFG_CH_GIB, F.TIER_T3_CFG_CH_POPULATED, F.TIER_T3_CFG_DIES, F.TIER_P2_LAYOUT_T2_DATA,
    F.TIER_REBUILD_STATUS_STATE]

/-- `u` reads the tiers' geometry, the image and the keys as `s` does. -/
structure SameTiers (s u : State) : Prop where
  sil : u.sil = s.sil
  sec : u.sec = s.sec
  dom : u.dom = s.dom
  claims : u.xlt.claims = s.xlt.claims
  dies : u.tier.dies = s.tier.dies
  front : u.rebuildFront = s.rebuildFront
  qx : u.qx = s.qx
  flds : ∀ f ∈ tierFields, ∀ b, u.fld f b = s.fld f b
  populated : u.fld F.TIER_T2_CFG_CH_POPULATED = s.fld F.TIER_T2_CFG_CH_POPULATED
  layout : u.fld F.TIER_P2_LAYOUT_T3_DATA = s.fld F.TIER_P2_LAYOUT_T3_DATA

theorem SameTiers.trans (h : SameTiers s t) (h' : SameTiers t u) : SameTiers s u :=
  ⟨h'.sil.trans h.sil, h'.sec.trans h.sec, h'.dom.trans h.dom, h'.claims.trans h.claims, h'.dies.trans h.dies, h'.front.trans h.front,
    h'.qx.trans h.qx, fun f hf b => (h'.flds f hf b).trans (h.flds f hf b), h'.populated.trans h.populated, h'.layout.trans h.layout⟩

theorem State.rebuildFront_congr (h : u.tier.runs = s.tier.runs) : u.rebuildFront = s.rebuildFront :=
  funext fun tier => by rw [State.rebuildFront, State.rebuildFront, h]

theorem Taken.sameTiers (h : Taken s u) : SameTiers s u :=
  ⟨h.sil, h.sec, h.dom, by rw [h.xlt], by rw [h.tier], State.rebuildFront_congr (by rw [h.tier]), h.qx,
    fun f hf b => h.fld (by revert f; decide) b, h.fld (by decide) 0, h.fld (by decide) 0⟩

section Same
variable (h : SameTiers s u)
include h

theorem SameTiers.devnum : u.devnum = s.devnum := h.flds _ (by decide) 0
theorem SameTiers.isSelf (d : Nat) : u.isSelf d = s.isSelf d := by rw [State.isSelf, State.isSelf, h.devnum]
theorem SameTiers.partOfCell (c : Nat) : u.partOfCell c = s.partOfCell c := by
  simp only [State.partOfCell, State.runOfCell, State.runOf, h.sil]
theorem SameTiers.dataKeyAs (p d : Nat) : u.dataKeyAs p d = s.dataKeyAs p d := by rw [State.dataKeyAs, State.dataKeyAs, h.sec]
theorem SameTiers.keyFor (c : Nat) : u.keyFor c = s.keyFor c := by
  simp only [State.keyFor, State.dataKey, h.partOfCell, h.dataKeyAs, h.devnum]
theorem SameTiers.accessKey (p : Packet) : u.accessKey p = s.accessKey p := by
  simp only [State.accessKey, State.accessKey?, State.partOfKey, h.sil, State.dataKeyAs, h.sec]
theorem SameTiers.claimAt (c : Nat) : u.claimAt c = s.claimAt c := by rw [State.claimAt, State.claimAt, h.claims]
theorem SameTiers.meetsTable (c n : Nat) : u.meetsTable c n = s.meetsTable c n := by
  have he : u.ctxEnabled = s.ctxEnabled := funext fun c => by rw [State.ctxEnabled, State.ctxEnabled, h.flds _ (by decide)]
  have ha : u.tableArea = s.tableArea := funext fun c => by rw [State.tableArea, State.tableArea, h.flds _ (by decide)]
  have hl (c : Nat) : u.fld F.XLT_CTX_CFG_LOG2_CAP c = s.fld F.XLT_CTX_CFG_LOG2_CAP c := h.flds _ (by decide) c
  simp only [State.meetsTable, h.sil, he, ha, hl]
theorem SameTiers.protection (c : Nat) : u.protection c = s.protection c := by
  simp only [State.protection, h.claimAt, State.runOfCell, State.runOf, h.sil, h.meetsTable]
theorem SameTiers.partFailed (c : Nat) : u.partFailed c = s.partFailed c := by
  have hd (c : Nat) : u.dieOf c = s.dieOf c := by
    simp only [State.dieOf, h.flds _ (show F.TIER_T3_CFG_DIES ∈ tierFields by decide)]
  have hp (c : Nat) : u.partOf c = s.partOf c := by
    simp only [State.partOf, h.populated, h.flds _ (show F.TIER_T2_CFG_CH_GIB ∈ tierFields by decide),
      h.flds _ (show F.TIER_T3_CFG_CH_POPULATED ∈ tierFields by decide), h.flds _ (show F.TIER_T3_CFG_DIES ∈ tierFields by decide)]
  simp only [State.partFailed, h.dies, hd, hp, State.fldBit]
  split
  · rfl
  · split
    · rw [h.flds _ (by decide)]
    · rw [h.flds _ (by decide)]
theorem SameTiers.notServed (c : Nat) : u.notServed c = s.notServed c := by
  simp only [State.notServed, h.partFailed, h.front, h.flds _ (show F.TIER_REBUILD_STATUS_STATE ∈ tierFields by decide)]
theorem SameTiers.headerAt (c n : Nat) : u.headerAt c n = s.headerAt c n := by
  simp only [State.headerAt, h.qx, State.queueState, h.flds _ (show F.WQ_Q_STATUS_STATE ∈ tierFields by decide)]
theorem SameTiers.holderOf (a c : Nat) : u.holderOf a c = s.holderOf a c := by simp only [State.holderOf, State.partner, h.dom]
theorem SameTiers.parityCell (a : Nat) : u.parityCell a = s.parityCell a := by
  simp only [State.parityCell, State.parityGranule, State.p2Data, h.layout, h.flds _ (show F.TIER_P2_LAYOUT_T2_DATA ∈ tierFields by decide)]

end Same

/-! ### Bytes served -/

theorem State.serveBytes_frame (s : State) (c n : Nat) : ∃ r v, s.serveBytes c n = { s with regs := r, tier.served := v } := by
  unfold State.serveBytes
  dsimp only
  split
  · exact ⟨_, _, rfl⟩
  · exact ⟨s.regs, _, rfl⟩

/-- The counters of bytes lie at bit 32 of their registers. -/
theorem State.serveBytes_fld (s : State) (c n : Nat) {f : Fld} {b : Nat} (h : f.lo < 64 ∧ f.lo ≠ 32 ∨ f.lo < 64 ∧ f.off < 0x60200 ∧ b = 0) :
    (s.serveBytes c n).fld f b = s.fld f b := by
  unfold State.serveBytes
  dsimp only
  split
  · refine (State.fld_count_ne _ _ ?_).trans rfl
    simp only [Fld.key, Fld.at, F.TIER_BWC_MIB]
    omega
  · rfl

theorem SameTiers.serveBytes (s : State) (c n : Nat) : SameTiers s (s.serveBytes c n) := by
  obtain ⟨r, v, h⟩ := s.serveBytes_frame c n
  refine ⟨by rw [h], by rw [h], by rw [h], by rw [h], by rw [h], State.rebuildFront_congr (by rw [h]), by rw [h],
    fun f hf b => s.serveBytes_fld c n (.inl ?_), s.serveBytes_fld c n (.inr ?_), s.serveBytes_fld c n (.inr ?_)⟩
  · revert f; decide
  · decide
  · decide

theorem State.serveBytes_servedOnly (s : State) (c n : Nat) : s.servedOnly (s.serveBytes c n) := by
  obtain ⟨r, v, h⟩ := s.serveBytes_frame c n
  rw [h]
  exact ⟨rfl, rfl, rfl, rfl, rfl⟩

/-! ### The home with one request -/

theorem Taken.unitsFree (h : Taken s u) (hs : s.unitsFree) : u.unitsFree := by
  obtain ⟨hruns, hreqs⟩ := hs
  exact ⟨by rw [h.tier, hruns], by rw [h.reqs, h.waiting]; exact hreqs⟩

/-- Where no unit is copied, armed or recomputed, no range is held. -/
theorem State.unitHeld_free (h : s.unitsFree) (w : Bool) (cell n : Nat) : s.unitHeld w cell n = false := by
  obtain ⟨hruns, hreqs⟩ := h
  unfold State.unitHeld
  rw [hruns]
  simp only [List.any_nil, Bool.false_or, Bool.and_eq_false_iff, List.any_eq_false]
  refine .inr fun r hr => ?_
  cases hw : r.waiter <;> simp
  case resync c m => exact absurd hw (hreqs r hr c m)

theorem State.unitWaits_free (h : s.unitsFree) (ev : HomeEv) (hp : ev.pkt.op = opPARITY → s.tier.inFlight = []) : s.unitWaits ev = false := by
  unfold State.unitWaits
  dsimp only
  split
  · rfl
  · split
    next hop => rw [hp hop]; simp
    next => simp [State.unitHeld_free h]

/-- The requests that a home serves uncached. -/
def uncached (p : Packet) : Prop :=
  ((p.op = opLOAD ∨ p.op = opSTORE) ∧ cohKind p = 0) ∨ p.op = opATOMIC ∨ p.op = opTILE_COMMIT ∨ p.op = opMIRROR ∨ p.op = opPARITY

theorem uncached.cohKind {p : Packet} (h : uncached p) : cohKind p = 0 := by
  rcases h with ⟨-, h⟩ | h | h | h | h
  · exact h
  all_goals exact if_neg fun hc => absurd hc.1 (by rw [h]; decide)

/-- The service of an uncached request. -/
def State.homeServe (s : State) (p : Packet) (ecc : Nat) : State :=
  if p.op = opLOAD then s.serveLoad p ecc
  else if p.op = opSTORE then s.serveStore p
  else if p.op = opATOMIC then s.serveAtomic p
  else if p.op = opTILE_COMMIT then s.commitTile p
  else if p.op = opMIRROR then s.mirrorApply p
  else s.parityApply p

/-- The event of a request that nothing holds up. -/
def homeEvent (id : Nat) (p : Packet) (ecc : Nat) (lines : List Nat) (begun : Bool) : HomeEv := ⟨id, p, ecc, none, lines, begun, [], none, false⟩

section Free
variable {p : Packet} {ecc : Nat} {lines : List Nat} (hfree : s.homeFree lines) (hop : uncached p) (hunits : s.unitsFree)
  (hpar : p.op = opPARITY → s.tier.inFlight = [])
include hfree

/-- Lines that the filter does not list have no copies to snoop. -/
theorem State.snoopsFor_free (hop : uncached p) (hf : t.home.filter = s.home.filter) (id : Nat) : t.snoopsFor (homeEvent id p ecc lines false) = [] := by
  obtain ⟨-, -, -, hlines⟩ := hfree
  have hes : lines.flatMap t.home.entriesAt = [] := by
    rw [List.flatMap_eq_nil_iff]
    intro l hl
    rw [Home.entriesAt, hf, List.filter_eq_nil_iff]
    intro e he hel
    exact hlines e he ((beq_iff_eq.mp hel) ▸ hl)
  have hk := hop.cohKind
  unfold State.snoopsFor homeEvent
  dsimp only
  rw [hes]
  simp only [List.filter_nil, List.map_nil, List.append_nil, List.find?_nil]
  repeat' split
  all_goals rfl

/-- The event of a request that has entered. -/
def State.homeEntered (s : State) (p : Packet) (ecc : Nat) (lines : List Nat) : State :=
  { s with home.nextEv := s.home.nextEv + 1, home.events := [homeEvent s.home.nextEv p ecc lines false] }

/-- It has begun. -/
def State.homeBegun (s : State) (p : Packet) (ecc : Nat) (lines : List Nat) : State :=
  ((s.homeEntered p ecc lines).modEv s.home.nextEv (fun e => { e with begun := true })).showBusy

omit hfree in
theorem State.homeBegun_eq (s : State) (p : Packet) (ecc : Nat) (lines : List Nat) : s.homeBegun p ecc lines =
    ({ s with home.nextEv := s.home.nextEv + 1, home.events := [homeEvent s.home.nextEv p ecc lines true] } : State).setF F.HOME_FILTER_BUSY
      lines.length := by
  simp [State.homeBegun, State.homeEntered, State.modEv, State.showBusy, homeEvent]

theorem State.endEv_homeBegun : (s.homeBegun p ecc lines).endEv s.home.nextEv = s.homeTaken lines.length := by
  obtain ⟨hevents, -, -, -⟩ := hfree
  rw [State.homeBegun_eq]
  simp only [State.endEv, State.showBusy, State.homeTaken, homeEvent, State.setF, List.filter_cons, beq_self_eq_true, Bool.not_true, Bool.false_eq_true,
    if_false, List.filter_nil, List.flatMap_nil, List.length_nil, hevents]

include hop hunits hpar

omit hfree in
theorem State.evBlocked_free : (s.homeEntered p ecc lines).evBlocked (homeEvent s.home.nextEv p ecc lines false) = false := by
  have hu : (s.homeEntered p ecc lines).unitWaits (homeEvent s.home.nextEv p ecc lines false) = false := State.unitWaits_free hunits _ hpar
  have hk := hop.cohKind
  rw [State.evBlocked, hu]
  simp [State.needsWay, homeEvent, State.homeEntered, hk]

/-- The event that has begun is performed. -/
theorem State.homePerform_free : (s.homeBegun p ecc lines).homePerform (homeEvent s.home.nextEv p ecc lines true) =
    (s.homeTaken lines.length).homeServe p ecc := by
  have hu : (s.homeBegun p ecc lines).unitWaits (homeEvent s.home.nextEv p ecc lines true) = false := by
    rw [State.homeBegun_eq]
    refine State.unitWaits_free ?_ _ ?_
    · exact hunits
    · exact hpar
  have hk := hop.cohKind
  have hend := State.endEv_homeBegun (p := p) (ecc := ecc) hfree
  unfold State.homePerform
  have hrec : (homeEvent s.home.nextEv p ecc lines true).recallOf = none := rfl
  have hpkt : (homeEvent s.home.nextEv p ecc lines true).pkt = p := rfl
  have hid : (homeEvent s.home.nextEv p ecc lines true).id = s.home.nextEv := rfl
  have hecc : (homeEvent s.home.nextEv p ecc lines true).ecc = ecc := rfl
  dsimp only
  rw [hrec, hpkt, hid, hecc]
  dsimp only
  rw [if_neg (by rw [hu]; simp), if_pos (.inl hk), hend]
  rfl

/-- A request at a home where nothing else goes on is served at once, and then nothing goes on again. -/
theorem State.homeEnter_free (hend : ((s.homeTaken lines.length).homeServe p ecc).home.events = []) :
    s.homeEnter p ecc lines = (s.homeTaken lines.length).homeServe p ecc := by
  obtain ⟨hevents, hbusy, hlen, -⟩ := id hfree
  have hblocked := State.evBlocked_free (ecc := ecc) (lines := lines) hop hunits hpar
  have hbegin : (s.homeEntered p ecc lines).homeBegin (homeEvent s.home.nextEv p ecc lines false) = (s.homeTaken lines.length).homeServe p ecc := by
    rw [← State.homePerform_free (ecc := ecc) hfree hop hunits hpar]
    unfold State.homeBegin
    rw [State.snoopsFor_free (t := s.homeEntered p ecc lines) hfree hop rfl]
    rfl
  have henter : s.homeEnter p ecc lines = (s.homeEntered p ecc lines).homePump 2 := by
    unfold State.homeEnter State.pump State.homeEntered
    simp only [hevents, List.any_nil, Bool.false_eq_true, if_false, List.nil_append, List.length_singleton]
    rfl
  have hfind : (s.homeEntered p ecc lines).home.events.find? (fun e => !e.begun && !(s.homeEntered p ecc lines).evBlocked e &&
      decide ((s.homeEntered p ecc lines).fld F.HOME_FILTER_BUSY + e.lines.length ≤ 4096)) = some (homeEvent s.home.nextEv p ecc lines false) := by
    have hb : (s.homeEntered p ecc lines).fld F.HOME_FILTER_BUSY = 0 := hbusy
    refine List.find?_cons_of_pos ?_
    rw [hblocked, hb]
    simpa [homeEvent] using hlen
  rw [henter, State.homePump, hfind]
  dsimp only
  rw [hbegin, State.homePump, hend]
  rfl

end Free

/-! ### The owner's window -/

/-- A request that is new to its source's window is entered there. -/
def State.windowTaken (s : State) (p : Packet) : State := if p.tagged then s.dedupEnter p.src p.tag else s

theorem Taken.windowTaken (s : State) (p : Packet) : Taken s (s.windowTaken p) := by
  unfold State.windowTaken
  split
  · exact .dedupEnter s _ _
  · exact .refl s

theorem State.dedup_fresh {p : Packet} (h : s.fresh p) (f : State → State) : s.dedup p f = f (s.windowTaken p) := by
  unfold State.dedup State.windowTaken
  cases ht : p.tagged with
  | false => rfl
  | true =>
    obtain ⟨hnone, hroom⟩ := h.resolve_left (by simp [ht])
    simp only [Bool.not_true, Bool.false_eq_true, if_false, if_true]
    rw [hnone]
    dsimp only
    rw [if_neg (by omega)]

/-- The lines that a request keeps while it is served. -/
def State.arrivalLines (s : State) (p : Packet) : List Nat :=
  if p.op = opTILE_COMMIT then
    (match s.stagedFor p with
      | some t => (t.pieces.vals.flatMap (fun e => linesOf e.1 (e.2.length - 1))).dedup
      | none => [p.addr / 64])
  else linesOf p.addr p.size

theorem uncached.homeFault {p : Packet} (h : uncached p) (s : State) : s.homeFault p = none := by
  have hk := h.cohKind
  unfold State.homeFault
  rw [hk]
  rw [if_neg (by simp [kREAD_OWN, kUPGRADE]), if_neg (by simp [kWRITEBACK])]

/-- A request that passes its owner's checks is entered in its window and goes to the home. -/
theorem State.homeArrive_own {p : Packet} {ecc : Nat} (h : s.ownServes p) (hop : uncached p) (hm : p.op ≠ opMIRROR) (hp : p.op ≠ opPARITY) :
    s.homeArrive p ecc = (s.windowTaken p).homeEnter p ecc (s.arrivalLines p) := by
  obtain ⟨hmal, hself, hfault, hwin, hfresh, hstaging, -⟩ := h
  have hk := hop.cohKind
  have hhf := hop.homeFault s
  have hdev : (p.op == opMIRROR || p.op == opPARITY) = false := by simp [hm, hp]
  unfold State.homeArrive
  rw [if_neg (by simp [hmal])]
  dsimp only
  rw [hdev, hself, hfault]
  simp only [Bool.false_eq_true, if_false, if_true]
  rw [hstaging, hhf, hk]
  simp only [Bool.false_eq_true, if_false]
  rw [if_neg (by simp [kWRITEBACK]), State.dedup_fresh hfresh, if_neg (by omega), if_neg (by simp [kWRITEBACK])]
  rfl

/-- A MIRROR or PARITY goes to the home of its holder. -/
theorem State.homeArrive_device {p : Packet} {ecc : Nat} (hmal : p.malformed = false) (hf : s.dom.selfFailed = false) (hop : p.op = opMIRROR ∨ p.op = opPARITY) :
    s.homeArrive p ecc = s.homeEnter p ecc (linesOf p.addr p.size) := by
  have hdev : (p.op == opMIRROR || p.op == opPARITY) = true := by simpa using hop
  have htile : p.op ≠ opTILE_COMMIT := by rcases hop with h | h <;> rw [h] <;> decide
  unfold State.homeArrive
  rw [if_neg (by simp [hmal])]
  dsimp only
  rw [hdev, hf, if_neg htile]
  rfl

/-- A request taken up at its owner. -/
def State.requestTaken (s : State) (p : Packet) (n : Nat) : State := ((s.take p).windowTaken p).homeTaken n

theorem Taken.requestTaken (s : State) (p : Packet) (n : Nat) : Taken s (s.requestTaken p n) :=
  ((Taken.take s p).trans (.windowTaken _ p)).trans (.homeTaken _ n)

theorem State.ownServes_failed {p : Packet} (h : s.ownServes p) : s.dom.selfFailed = false := by
  obtain ⟨-, -, hfault, -⟩ := h
  cases hf : s.dom.selfFailed with
  | false => rfl
  | true => rw [State.ownerFault, hf] at hfault; cases hfault

theorem State.windowTaken_busy (s : State) (p : Packet) : (s.windowTaken p).fld F.HOME_FILTER_BUSY = s.fld F.HOME_FILTER_BUSY := by
  unfold State.windowTaken
  split
  · exact (State.fld_setF_place _ _ (by decide)).trans rfl
  · rfl

theorem State.homeFree.windowTaken {lines : List Nat} (h : s.homeFree lines) (p : Packet) : ((s.take p).windowTaken p).homeFree lines := by
  obtain ⟨hevents, hbusy, hlen, hfilter⟩ := h
  have ht := (Taken.take s p).trans (.windowTaken _ p)
  exact ⟨ht.events.trans hevents, ((s.take p).windowTaken_busy p).trans hbusy, hlen, by rw [ht.filter]; exact hfilter⟩

/-- A request that its owner serves is answered by its service. -/
theorem own_answersThen {c : Instr} {p : Packet} {ecc : Nat} {kind : Bool} {lines : List Nat} (hs : s.serves (s.homeIslands p) = true)
    (hc : exec c s = s.runOn (s.homeIslands p) (fun s => s.serving p kind (fun s => s.homeArrive p ecc))) (hkind : kind = true) (h : s.ownServes p)
    (hop : uncached p) (hm : p.op ≠ opMIRROR) (hp : p.op ≠ opPARITY) (hlines : s.arrivalLines p = lines) (hfree : s.homeFree lines)
    (hend : ((s.requestTaken p lines.length).homeServe p ecc).home.events = []) :
    AnswersThen c s ((s.requestTaken p lines.length).homeServe p ecc) := by
  obtain ⟨-, -, -, -, -, -, -, -, hunits⟩ := id h
  have ht := (Taken.take s p).trans (.windowTaken _ p)
  have hown : (s.take p).ownServes p := h
  have hl : (s.take p).arrivalLines p = lines := hlines
  refine core_answersThen hc hs ?_
  rw [State.serving_serves hkind (State.ownServes_failed h), State.homeArrive_own hown hop hm hp, hl]
  exact State.homeEnter_free (hfree.windowTaken p) hop (ht.unitsFree hunits) (fun e => absurd e hp) hend

/-- A MIRROR or a PARITY that its holder serves is answered by its service. -/
theorem device_answersThen {c : Instr} {p : Packet} {kind : Bool} (hs : s.serves (s.homeIslands p) = true)
    (hc : exec c s = s.runOn (s.homeIslands p) (fun s => s.serving p kind (fun s => s.homeArrive p 0))) (hkind : kind = true)
    (hmal : p.malformed = false) (hfail : s.dom.selfFailed = false) (hop : p.op = opMIRROR ∨ p.op = opPARITY)
    (hfree : s.homeFree (linesOf p.addr p.size)) (hunits : s.unitsFree) (hpar : p.op = opPARITY → s.tier.inFlight = [])
    (hend : (((s.take p).homeTaken (linesOf p.addr p.size).length).homeServe p 0).home.events = []) :
    AnswersThen c s (((s.take p).homeTaken (linesOf p.addr p.size).length).homeServe p 0) := by
  refine core_answersThen hc hs ?_
  rw [State.serving_serves hkind hfail, State.homeArrive_device (s := s.take p) hmal hfail hop]
  exact State.homeEnter_free (s := s.take p) hfree (hop.elim (fun h => .inr (.inr (.inr (.inl h)))) fun h => .inr (.inr (.inr (.inr h)))) hunits hpar hend

end Sys2Proof.Machine
end

section
/-! Writes of protected cells at their owner, and their redundancy at its holder (R178, R182, R245). -/

namespace Sys2Proof.Machine

variable {s t u : State}

/-! ### At the owner -/

/-- The one write whose redundancy may go sends it to its holder. -/
theorem State.sendMirrors_one {w : InFlight} {m : Packet} (hw : w.todo = [m]) (hact : t.memberState m.dst = .active) :
    ({ t with tier.inFlight := [w] } : State).sendMirrors =
      (({ t with tier.inFlight := [{ w with todo := [] }] } : State).noteForward w.pkt.src w.pkt.tag m.dst).issue m (.mirrored w.pkt) := by
  have hready : ({ t with tier.inFlight := [w] } : State).mirrorReady_ w = true := by simp [State.mirrorReady_, hw]
  have hact' : ({ t with tier.inFlight := [{ w with todo := [] }] } : State).memberState m.dst = .active := hact
  unfold State.sendMirrors
  simp only [List.filter_cons, hready, List.filter_nil, if_true, List.foldl_cons, List.foldl_nil, List.map_cons, List.map_nil, beq_self_eq_true, hw]
  rw [if_pos hact']

/-- The packet that protects a write, where its holder is ACTIVE. -/
theorem State.protectPacket_active {p : Packet} {before : Mem} {cell n h : Nat} {result : List Byte}
    (hh : t.holderOf (mkDga t.devnum 0 0 + cell) (t.protection cell) = some h) (hact : t.memberState h = .active) :
    ∃ m, t.protectPacket p before cell n result = some m ∧ m.dst = h ∧ m.addr = mkDga t.devnum 0 0 + cell ∧
      m.op = (if t.protection cell = 1 then opMIRROR else opPARITY) := by
  unfold State.protectPacket
  dsimp only
  rw [hh]
  dsimp only
  rw [if_neg (by simp [hact])]
  exact ⟨_, rfl, rfl, rfl, rfl⟩

/-- A write waits for its redundancy, which is asked of its holder. -/
theorem State.protectWrite_asks {p : Packet} {before : Mem} {cell n h : Nat} {lines : List Nat}
    (hh : t.holderOf (mkDga t.devnum 0 0 + cell) (t.protection cell) = some h) (hact : t.memberState h = .active) (hin : t.tier.inFlight = []) :
    (t.protectWrite p before lines [(cell, n)] [] false).mem = t.mem ∧
    (t.protectWrite p before lines [(cell, n)] [] false).home = t.home ∧
    ⟨p, lines, [], [], 1, .done⟩ ∈ (t.protectWrite p before lines [(cell, n)] [] false).tier.inFlight ∧
    (t.protectWrite p before lines [(cell, n)] [] false).asks
      (fun q => q.op = (if t.protection cell = 1 then opMIRROR else opPARITY) ∧ q.dst = h ∧ q.addr = mkDga t.devnum 0 0 + cell) := by
  obtain ⟨m, hm, hdst, haddr, hop⟩ := State.protectPacket_active (p := p) (before := before) (n := n) (result := []) hh hact
  have heq : t.protectWrite p before lines [(cell, n)] [] false =
      (({ t with tier.inFlight := [⟨p, lines, [], [], 1, .done⟩] } : State).noteForward p.src p.tag m.dst).issue m (.mirrored p) := by
    rw [← State.sendMirrors_one (t := t) (w := ⟨p, lines, [], [m], 1, .done⟩) rfl (by rw [hdst]; exact hact)]
    unfold State.protectWrite
    simp [hm, hin]
  have htr := Traffic.issue (({ t with tier.inFlight := [⟨p, lines, [], [], 1, .done⟩] } : State).noteForward p.src p.tag m.dst) m (.mirrored p)
  rw [heq]
  refine ⟨htr.mem, htr.home, by rw [htr.tier]; exact List.mem_singleton_self _, State.issue_asks _ _ _ (fun q hq => ?_) fun _ _ _ => ⟨hop, hdst, haddr⟩⟩
  rw [hq.1]
  split <;> decide

/-- A store to bytes of this member that are there, and no ring header, is written at its owner. -/
theorem State.serveStore_own {p : Packet} (hcross : crosses256 p.addr p.size = false) (hself : t.isSelf (dgaDev p.addr) = true)
    (hserved : t.notServed (dgaCell p.addr) = false) (hheader : t.headerAt (dgaCell p.addr) (p.size + 1) = none) :
    t.serveStore p = t.ownerWrite p (dgaCell p.addr) (accessBytes p) p.poison [] false := by
  unfold State.serveStore
  dsimp only
  rw [if_neg (by simp [hcross]), if_neg (by simp [hself]), if_neg (by simp [hserved]), hheader]

/-- A written range, with its bytes counted. -/
def State.ownerWritten (t : State) (p : Packet) (cell : Nat) (new : List Byte) (pmask : Nat) : State :=
  ({ t with mem := t.mem.store (t.keyFor cell) cell new pmask } : State).serveBytes (t.bwClass p.pkey) new.length

theorem SameTiers.ownerWritten (t : State) (p : Packet) (cell : Nat) (new : List Byte) (pmask : Nat) : SameTiers t (t.ownerWritten p cell new pmask) :=
  SameTiers.trans (t := ({ t with mem := t.mem.store (t.keyFor cell) cell new pmask } : State))
    ⟨rfl, rfl, rfl, rfl, rfl, rfl, rfl, fun _ _ _ => rfl, rfl, rfl⟩ (.serveBytes _ _ _)

theorem State.ownerWritten_memberState (t : State) (p : Packet) (cell : Nat) (new : List Byte) (pmask d : Nat) :
    (t.ownerWritten p cell new pmask).memberState d = t.memberState d := by
  rw [State.memberState, State.ownerWritten, State.serveBytes_fld _ _ _ (.inl ⟨show (0 : Nat) < 64 by decide, show (0 : Nat) ≠ 32 by decide⟩)]
  rfl

/-- A holder of redundancy has a number of a domain, or the next. -/
theorem State.holderOf_le {a c d : Nat} (h : t.holderOf a c = some d) : d ≤ 64 := by
  have hdev : dgaDev a < 2 ^ 6 := Nat.mod_lt _ (by decide)
  have hx : dgaDev a ^^^ 1 < 2 ^ 6 := Nat.xor_lt_two_pow hdev (by decide)
  unfold State.holderOf State.partner partnerOf parityHolder parityIndex at h
  split at h
  · obtain rfl := Option.some.inj h
    split_ifs <;> omega
  · split at h
    · obtain rfl := Option.some.inj h
      omega
    · cases h

theorem Taken.memberState (h : Taken s u) {d : Nat} (hd : d ≤ 64) : u.memberState d = s.memberState d := by
  rw [State.memberState, State.memberState, h.places _ _ ?_]
  simp only [homePlaces, Fld.place, Fld.at, F.HOME_FILTER_BUSY, F.FAB_DEDUP_IN_USE, F.FAB_MEMBER_STATE, List.mem_cons, List.not_mem_nil, or_false]
  omega

theorem State.ownerWritten_mem (t : State) (p : Packet) (cell : Nat) (new : List Byte) (pmask : Nat) :
    (t.ownerWritten p cell new pmask).mem = t.mem.store (t.keyFor cell) cell new pmask := by
  obtain ⟨r, v, h⟩ := State.serveBytes_frame ({ t with mem := t.mem.store (t.keyFor cell) cell new pmask } : State) (t.bwClass p.pkey) new.length
  rw [State.ownerWritten, h]

theorem State.ownerWritten_home (t : State) (p : Packet) (cell : Nat) (new : List Byte) (pmask : Nat) :
    (t.ownerWritten p cell new pmask).home = t.home := by
  obtain ⟨r, v, h⟩ := State.serveBytes_frame ({ t with mem := t.mem.store (t.keyFor cell) cell new pmask } : State) (t.bwClass p.pkey) new.length
  rw [State.ownerWritten, h]

theorem State.ownerWritten_inFlight (t : State) (p : Packet) (cell : Nat) (new : List Byte) (pmask : Nat) :
    (t.ownerWritten p cell new pmask).tier.inFlight = t.tier.inFlight := by
  obtain ⟨r, v, h⟩ := State.serveBytes_frame ({ t with mem := t.mem.store (t.keyFor cell) cell new pmask } : State) (t.bwClass p.pkey) new.length
  rw [State.ownerWritten, h]

/-- A store to a protected cell whose holder is ACTIVE is written and sent to the holder. -/
theorem store_protected {p : Packet} {h : Nat} (hs : s.serves (s.homeIslands p) = true) (hfree : s.homeFree (linesOf p.addr p.size))
    (hserves : s.ownServes p) (hop : p.op = opSTORE) (hk : cohKind p = 0) (hcross : crosses256 p.addr p.size = false)
    (hheader : s.headerAt (dgaCell p.addr) (p.size + 1) = none)
    (hh : s.holderOf (mkDga s.devnum 0 0 + dgaCell p.addr) (s.protection (dgaCell p.addr)) = some h) (hact : s.memberState h = .active) :
    ∃ u, AnswersThen (.store p 0) s u ∧ u.mem = s.mem.store (s.keyFor (dgaCell p.addr)) (dgaCell p.addr) (accessBytes p) p.poison ∧
      ⟨p, linesOf p.addr p.size, [], [], 1, .done⟩ ∈ u.tier.inFlight ∧
      u.asks (fun q => q.op = (if s.protection (dgaCell p.addr) = 1 then opMIRROR else opPARITY) ∧ q.dst = h ∧
        q.addr = mkDga s.devnum 0 0 + dgaCell p.addr) := by
  obtain ⟨-, hself, -, -, -, -, hnot, hin, -⟩ := id hserves
  have hlines : s.arrivalLines p = linesOf p.addr p.size := if_neg (by rw [hop]; decide)
  have ht := Taken.requestTaken s p (linesOf p.addr p.size).length
  generalize hu : s.requestTaken p (linesOf p.addr p.size).length = t at ht
  have hsame := ht.sameTiers
  have hw := hsame.trans (SameTiers.ownerWritten t p (dgaCell p.addr) (accessBytes p) p.poison)
  obtain ⟨hmem, hhome, hfly, hasks⟩ := State.protectWrite_asks (t := t.ownerWritten p (dgaCell p.addr) (accessBytes p) p.poison) (p := p)
    (before := t.mem) (n := (accessBytes p).length) (lines := linesOf p.addr p.size) (cell := dgaCell p.addr) (h := h)
    (by rw [hw.devnum, hw.protection, hw.holderOf]; exact hh) (by rw [State.ownerWritten_memberState, ht.memberState (State.holderOf_le hh)]; exact hact)
    (by rw [State.ownerWritten_inFlight, ht.tier, hin])
  have heq : t.homeServe p 0 = (t.ownerWritten p (dgaCell p.addr) (accessBytes p) p.poison).protectWrite p t.mem (linesOf p.addr p.size)
      [(dgaCell p.addr, (accessBytes p).length)] [] false := by
    rw [State.homeServe, if_neg (by rw [hop]; decide), if_pos hop]
    exact State.serveStore_own hcross (by rw [hsame.isSelf, hself]) (by rw [hsame.notServed, hnot]) (by rw [hsame.headerAt, hheader])
  refine ⟨_, own_answersThen hs (exec_store s p 0) (by simp [hop, hk]) hserves (.inl ⟨.inr hop, hk⟩) (by rw [hop]; decide) (by rw [hop]; decide) hlines
    hfree ?_, ?_⟩
  · obtain ⟨hevents, -, -, -⟩ := hfree
    rw [hu, heq, hhome, State.ownerWritten_home, ht.events, hevents]
  · rw [hu, heq]
    rw [hw.protection, hw.devnum] at hasks
    exact ⟨by rw [hmem, State.ownerWritten_mem, ht.mem, hsame.keyFor], hfly, hasks⟩

/-! ### At the holder -/

theorem State.serveBytes_mem (s : State) (c n : Nat) : (s.serveBytes c n).mem = s.mem := by
  obtain ⟨r, v, h⟩ := s.serveBytes_frame c n
  rw [h]

theorem State.serveBytes_fab (s : State) (c n : Nat) : (s.serveBytes c n).fab = s.fab := by
  obtain ⟨r, v, h⟩ := s.serveBytes_frame c n
  rw [h]

theorem State.serveBytes_home (s : State) (c n : Nat) : (s.serveBytes c n).home = s.home := by
  obtain ⟨r, v, h⟩ := s.serveBytes_frame c n
  rw [h]

/-- A tag that the window does not hold is recorded at its end. -/
theorem State.dedupRecord_new {src tag : Nat} (h : t.fab.dedupOf src tag = none) (st : Status) (res : List Byte) (ps : List Nat) :
    ∃ r, t.dedupRecord src tag st res ps =
      { t with fab.dedup := t.fab.dedup ++ [Dedup.mk src tag false st.code res [] [] ps], regs := r } := by
  unfold State.dedupRecord
  rw [h]
  exact ⟨_, rfl⟩

/-- A MIRROR or PARITY whose tag is new here is applied, recorded and answered. -/
theorem State.applyOnce_new {p : Packet} {f : State → State} (hnew : t.fab.dedupOf (auxSource p.aux) p.tag = none) (hfab : (f t).fab = t.fab) :
    ∃ v, t.applyOnce p f = (v : State).respond p .done ∧ v.mem = (f t).mem ∧ (v.fab.dedupOf (auxSource p.aux) p.tag).isSome = true ∧
      (f t).servedOnly v ∧ v.home = (f t).home := by
  have hsb := State.serveBytes_servedOnly (f t) (t.auxClass p.aux) (carried p).length
  have hm := State.serveBytes_mem (f t) (t.auxClass p.aux) (carried p).length
  have hf := State.serveBytes_fab (f t) (t.auxClass p.aux) (carried p).length
  have hh := State.serveBytes_home (f t) (t.auxClass p.aux) (carried p).length
  have heq : t.applyOnce p f = (((f t).serveBytes (t.auxClass p.aux) (carried p).length).dedupRecord (auxSource p.aux) p.tag .done (carriedResult p)
      [p.addr]).respond p .done := by
    unfold State.applyOnce
    dsimp only
    rw [hnew]
  generalize (f t).serveBytes (t.auxClass p.aux) (carried p).length = u at hsb hm hf hh heq
  obtain ⟨r, hr⟩ := State.dedupRecord_new (t := u) (by rw [hf, hfab]; exact hnew) .done (carriedResult p) [p.addr]
  refine ⟨_, heq, by rw [hr]; exact hm, ?_, ?_, by rw [hr]; exact hh⟩
  · rw [hr]
    simp [Fab.dedupOf]
  · refine hsb.trans ?_
    rw [hr]
    exact ⟨rfl, rfl, rfl, rfl, rfl⟩

/-- One that was applied already is counted and answered. -/
theorem State.applyOnce_hit {p : Packet} {f : State → State} {e : Dedup} (h : t.fab.dedupOf (auxSource p.aux) p.tag = some e)
    (hp : e.pieces.contains p.addr = true) : t.applyOnce p f = (t.count F.FAB_DEDUP_HITS).respond p .done := by
  unfold State.applyOnce
  dsimp only
  rw [h]
  exact if_pos (.inl hp)

/-- A MIRROR or PARITY taken up at its holder. -/
def State.deviceTaken (s : State) (p : Packet) : State := (s.take p).homeTaken (linesOf p.addr p.size).length

theorem Taken.deviceTaken (s : State) (p : Packet) : Taken s (s.deviceTaken p) := (Taken.take s p).trans (.homeTaken _ _)

section Holder
variable {p : Packet} (hs : s.serves (s.homeIslands p) = true) (hfree : s.homeFree (linesOf p.addr p.size)) (hunits : s.unitsFree)
  (hmal : p.malformed = false) (hfail : s.dom.selfFailed = false)
include hs hfree hunits hmal hfail

/-- What a holder answers when a packet has been served. -/
theorem device_responds {c : Instr} {kind : Bool} {v : State} {st : Status} {bs : List Byte} {poison : Nat}
    (hc : exec c s = s.runOn (s.homeIslands p) (fun s => s.serving p kind (fun s => s.homeArrive p 0))) (hkind : kind = true)
    (hop : p.op = opMIRROR ∨ p.op = opPARITY) (hpar : p.op = opPARITY → s.tier.inFlight = [])
    (hserve : (s.deviceTaken p).homeServe p 0 = v.respond p st bs poison) (hhome : v.home = (s.deviceTaken p).home) :
    AnswersThen c s (v.respond p st bs poison) := by
  obtain ⟨hevents, -, -, -⟩ := id hfree
  rw [← hserve]
  refine device_answersThen hs hc hkind hmal hfail hop hfree hunits hpar ?_
  rw [← State.deviceTaken, hserve, (Traffic.respond _ _ _ _ _).home, hhome]
  exact hevents

section Mirror
variable (hop : p.op = opMIRROR) (haux : p.aux % 2 = 0)
include hop haux

omit hs hfree hunits hmal hfail haux in
theorem State.homeServe_mirror (t : State) (ecc : Nat) : t.homeServe p ecc = t.mirrorApply p := by
  rw [State.homeServe, if_neg (by rw [hop]; decide), if_neg (by rw [hop]; decide), if_neg (by rw [hop]; decide), if_neg (by rw [hop]; decide), if_pos hop]

/-- A MIRROR whose tag is new to the holder is written there. -/
theorem mirror_new (hnew : s.fab.dedupOf (auxSource p.aux) p.tag = none) :
    ∃ v, AnswersThen (.mirror p) s ((v : State).respond p .done) ∧ v.mem = s.mem.store 0 (dgaCell p.addr / 64 * 64) (carried p) p.poison ∧
      (v.fab.dedupOf (auxSource p.aux) p.tag).isSome = true ∧ s.servedOnly v := by
  have ht := Taken.deviceTaken s p
  obtain ⟨v, heq, hmem, hsome, honly, hhome⟩ := State.applyOnce_new (t := s.deviceTaken p) (p := p)
    (f := fun s => { s with mem := s.mem.store 0 (dgaCell p.addr / 64 * 64) (carried p) p.poison }) hnew rfl
  refine ⟨v, device_responds hs hfree hunits hmal hfail (exec_mirror s p) (by simp [hop, haux]) (.inl hop) (fun h => absurd h (by rw [hop]; decide)) ?_
    hhome, by rw [hmem, ← ht.mem], hsome, (ht.servedOnly.trans ⟨rfl, rfl, rfl, rfl, rfl⟩).trans honly⟩
  rw [State.homeServe_mirror hop, ← heq]
  rfl

/-- One that the holder applied before is answered again. -/
theorem mirror_hit {e : Dedup} (hhit : s.fab.dedupOf (auxSource p.aux) p.tag = some e) (hp : e.pieces.contains p.addr = true) :
    ∃ v, AnswersThen (.mirror p) s ((v : State).respond p .done) ∧ v.mem = s.mem ∧ s.counted v F.FAB_DEDUP_HITS := by
  have ht := Taken.deviceTaken s p
  refine ⟨(s.deviceTaken p).count F.FAB_DEDUP_HITS, device_responds hs hfree hunits hmal hfail (exec_mirror s p) (by simp [hop, haux]) (.inl hop)
    (fun h => absurd h (by rw [hop]; decide)) ?_ rfl, ht.mem, ?_⟩
  · rw [State.homeServe_mirror hop]
    exact State.applyOnce_hit (t := s.deviceTaken p) hhit hp
  · rw [State.counted, State.fld_count_same, State.fld_count_same, ht.fld (by decide)]

end Mirror

/-! ### PARITY -/

section Parity
variable (hop : p.op = opPARITY) (hin : s.tier.inFlight = [])
include hop hin

omit hs hfree hunits hmal hfail hin in
theorem State.homeServe_parity (t : State) (ecc : Nat) : t.homeServe p ecc = t.parityApply p := by
  rw [State.homeServe, if_neg (by rw [hop]; decide), if_neg (by rw [hop]; decide), if_neg (by rw [hop]; decide), if_neg (by rw [hop]; decide),
    if_neg (by rw [hop]; decide)]

/-- A parity change, with the page it arms or disarms. -/
def State.parityChange (p : Packet) (s : State) : State :=
  let poison := (List.range (sectorsOf p.addr p.size)).map (bitAt p.poison)
  let s := s.changeParity p.addr (carried p) (if auxDisarm p.aux then poison.map (fun _ => false) else poison)
  let page := (dgaDev p.addr, dgaCell p.addr / 4096, auxPartition p.aux)
  if auxArm p.aux ∧ (p.addr + p.size + 1) % 4096 = 0 then { s with tier.armedFor := s.tier.armedFor ++ [page] }
  else if auxDisarm p.aux then { s with tier.armedFor := s.tier.armedFor.filter (· != page) } else s

/-- Memory with a change of the parity at a cell. -/
def State.parityChangedMem (s : State) (c : Nat) (p : Packet) : Mem :=
  s.mem.store 0 c (xorBytes (s.mem.readN 0 c (carried p).length) (carried p)) (s.mem.poisonMask c (carried p).length)

omit hs hfree hunits hmal hfail hop hin in
theorem State.parityChange_frame (p : Packet) (t : State) :
    ∃ tr, t.parityChange p = { t with mem := t.parityChangedMem (t.parityCell (p.addr / 64 * 64)) p, tier := tr } := by
  unfold State.parityChange State.changeParity State.markParity
  dsimp only
  split
  · exact ⟨_, rfl⟩
  · split
    · exact ⟨_, rfl⟩
    · exact ⟨_, rfl⟩

/-- A change of parity whose tag is new to the holder is applied there. -/
theorem parity_new (hread : auxRead p.aux = false) (hrel : auxRelease p.aux = false) (hnew : s.fab.dedupOf (auxSource p.aux) p.tag = none) :
    ∃ v, AnswersThen (.parity p) s ((v : State).respond p .done) ∧ v.mem = s.mem.store 0 (s.parityCell (p.addr / 64 * 64))
        (xorBytes (s.mem.readN 0 (s.parityCell (p.addr / 64 * 64)) (carried p).length) (carried p))
        (s.mem.poisonMask (s.parityCell (p.addr / 64 * 64)) (carried p).length) ∧
      (v.fab.dedupOf (auxSource p.aux) p.tag).isSome = true ∧ s.servedOnly v := by
  have ht := Taken.deviceTaken s p
  obtain ⟨tr, hch⟩ := State.parityChange_frame p (s.deviceTaken p)
  obtain ⟨v, heq, hmem, hsome, honly, hhome⟩ := State.applyOnce_new (t := s.deviceTaken p) (p := p) (f := State.parityChange p) hnew (by rw [hch])
  refine ⟨v, device_responds hs hfree hunits hmal hfail (exec_parity s p) (by simp [hop]) (.inr hop) (fun _ => hin) ?_
    (by rw [hhome, hch]), ?_, hsome, (ht.servedOnly.trans ?_).trans honly⟩
  · rw [State.homeServe_parity hop, ← heq]
    unfold State.parityApply
    rw [if_neg (by simp [hread]), if_neg (by simp [hrel])]
    rfl
  · rw [hmem, hch]
    dsimp only
    rw [State.parityChangedMem, ht.mem, ht.sameTiers.parityCell]
  · rw [hch]
    exact ⟨rfl, rfl, rfl, rfl, rfl⟩

/-- The run of a unit's recomputation has begun. -/
def State.withParityRun (s : State) (c : Nat) : State := { s with tier.runs := s.tier.runs ++ [⟨runPARITY, c, c + unitBytes, true⟩] }

/-- What a PARITY that reads finds: the recomputation it may begin, and its bytes counted. -/
def State.parityReading (s : State) (p : Packet) : State :=
  let s := if auxRecompute p.aux then s.unitRecomputing (dgaCell p.addr) else s
  s.serveBytes (s.auxClass p.aux) (64 * sectorsOf p.addr p.size)

omit hs hfree hunits hmal hfail hop hin in
theorem State.parityReading_spec (t : State) (p : Packet) :
    (t.parityReading p).mem = t.mem ∧ (t.parityReading p).home = t.home ∧ SameTiers t (t.parityReading p) := by
  have hsame (u : State) (hu : SameTiers t u) (hm : u.mem = t.mem) (hh : u.home = t.home) (c n : Nat) :
      (u.serveBytes c n).mem = t.mem ∧ (u.serveBytes c n).home = t.home ∧ SameTiers t (u.serveBytes c n) :=
    ⟨(u.serveBytes_mem c n).trans hm, (u.serveBytes_home c n).trans hh, hu.trans (.serveBytes u c n)⟩
  have hrefl : SameTiers t t := (Taken.refl t).sameTiers
  unfold State.parityReading
  split
  · unfold State.unitRecomputing
    dsimp only
    split
    · exact hsame t hrefl rfl rfl _ _
    · refine hsame (t.withParityRun (dgaCell p.addr / unitBytes * unitBytes)) ⟨rfl, rfl, rfl, rfl, rfl, ?_, rfl, fun _ _ _ => rfl, rfl, rfl⟩ rfl rfl _ _
      funext tier
      simp [State.withParityRun, State.rebuildFront, List.find?_append, runPARITY, runREBUILD]
  · exact hsame t hrefl rfl rfl _ _

/-- A PARITY that reads what is not there is answered with `POISON`. -/
theorem parity_unserved (hread : auxRead p.aux = true) (hreb : auxRebuilt p.aux = false) (hnot : s.notServed (dgaCell p.addr / 64 * 64) = true) :
    ∃ v, AnswersThen (.parity p) s ((v : State).respond p .poison) ∧ v.mem = s.mem := by
  have ht := Taken.deviceTaken s p
  obtain ⟨hmem, hhome, hsame⟩ := State.parityReading_spec (s.deviceTaken p) p
  refine ⟨_, device_responds hs hfree hunits hmal hfail (exec_parity s p) (by simp [hop]) (.inr hop) (fun _ => hin) ?_ hhome, hmem.trans ht.mem⟩
  have hns : ((s.deviceTaken p).parityReading p).notServed (dgaCell p.addr / 64 * 64) = true := by
    rw [hsame.notServed, ht.sameTiers.notServed, hnot]
  rw [State.homeServe_parity hop]
  unfold State.parityApply
  rw [if_pos hread]
  unfold State.parityAnswer
  dsimp only
  rw [if_neg (by simp [hreb])]
  exact if_pos hns

/-- One that reads what is stored is answered with it. -/
theorem parity_stored (hread : auxRead p.aux = true) (hreb : auxRebuilt p.aux = false) (hnot : s.notServed (dgaCell p.addr / 64 * 64) = false)
    (hst : auxStored p.aux = true) :
    ∃ v, AnswersThen (.parity p) s ((v : State).respond p .done (s.mem.readN 0 (dgaCell p.addr / 64 * 64) (64 * sectorsOf p.addr p.size))
      (s.mem.poisonMask (dgaCell p.addr / 64 * 64) (64 * sectorsOf p.addr p.size))) ∧ v.mem = s.mem := by
  have ht := Taken.deviceTaken s p
  obtain ⟨hmem, hhome, hsame⟩ := State.parityReading_spec (s.deviceTaken p) p
  refine ⟨(s.deviceTaken p).parityReading p, device_responds hs hfree hunits hmal hfail (exec_parity s p) (by simp [hop]) (.inr hop) (fun _ => hin) ?_
    hhome, hmem.trans ht.mem⟩
  have hns : ((s.deviceTaken p).parityReading p).notServed (dgaCell p.addr / 64 * 64) = false := by
    rw [hsame.notServed, ht.sameTiers.notServed, hnot]
  rw [State.homeServe_parity hop, ← hmem.trans ht.mem]
  unfold State.parityApply
  rw [if_pos hread]
  unfold State.parityAnswer
  dsimp only
  rw [if_neg (by simp [hreb])]
  exact (if_neg (by rw [← State.parityReading, hns]; decide)).trans (if_pos hst)

omit hs hfree hunits hmal hfail hop hin in
theorem State.unitRecomputed_frame (t : State) (cell : Nat) (whole : Bool) :
    ∃ r tr, t.unitRecomputed cell whole = { t with regs := r, tier := tr } := by
  unfold State.unitRecomputed State.undegrade
  dsimp only
  split
  · split
    · exact ⟨_, _, rfl⟩
    · exact ⟨_, _, rfl⟩
  · exact ⟨_, _, rfl⟩

/-- One that ends a recomputation is answered with no bytes. -/
theorem parity_released (hread : auxRead p.aux = false) (hrel : auxRelease p.aux = true) :
    ∃ v, AnswersThen (.parity p) s ((v : State).respond p .done) ∧ v.mem = s.mem := by
  have ht := Taken.deviceTaken s p
  obtain ⟨r, tr, heq⟩ := (s.deviceTaken p).unitRecomputed_frame (dgaCell p.addr) (auxRecompute p.aux)
  refine ⟨_, device_responds hs hfree hunits hmal hfail (exec_parity s p) (by simp [hop]) (.inr hop) (fun _ => hin)
    (v := (s.deviceTaken p).unitRecomputed (dgaCell p.addr) (auxRecompute p.aux)) ?_ (by rw [heq]), by rw [heq]; exact ht.mem⟩
  rw [State.homeServe_parity hop]
  unfold State.parityApply
  rw [if_neg (by simp [hread]), if_pos hrel]

end Parity
end Holder

/-- Settles O34: at the owner by `store_protected`, at the holder by `applyOnce` and the reads of parity. -/
theorem protectedWrites : Obligations.ProtectedWrites := by
  unfold Obligations.ProtectedWrites
  rintro s p h cell sector hs hfree rfl rfl hunits
  refine ⟨fun hserves hop hk hcross hheader hh hact => store_protected hs hfree hserves hop hk hcross hheader hh hact, fun hmal hfail =>
    ⟨fun hop haux => ⟨mirror_new hs hfree hunits hmal hfail hop haux, fun e => mirror_hit hs hfree hunits hmal hfail hop haux⟩, fun hop hin =>
      ⟨parity_new hs hfree hunits hmal hfail hop hin, fun hread hreb => ⟨parity_unserved hs hfree hunits hmal hfail hop hin hread hreb,
        parity_stored hs hfree hunits hmal hfail hop hin hread hreb⟩, parity_released hs hfree hunits hmal hfail hop hin⟩⟩⟩

end Sys2Proof.Machine
end

section
/-! Packets that arrive at a port, and the order in which they leave one (R231, R232, R262, R311, R316, R317). -/

namespace Sys2Proof.Machine

variable {s t u : State}

/-! ### Arrival -/

/-- A packet on a link goes to the switch core; one whose tail is right asks for no retry. -/
theorem State.packetIn_link {port lane crc stomp fault : Nat} {p : Packet} (hport : port < 64)
    (hcrc : stomp = 0 → crc = ({ p with vc := p.vc % 8 } : Packet).crc) :
    s.packetIn port lane p crc stomp fault = s.packetForward port lane p crc stomp fault := by
  have hno : s.agentAnswers port p crc stomp fault = false := by
    have h : isAport port = false := by
      rw [isAport, decide_eq_false_iff_not]
      omega
    rw [State.agentAnswers, h]
    rfl
  rw [State.packetIn, if_neg (by rw [hno]; decide), State.packetArrives]
  exact if_neg fun h => h.2.2 (hcrc h.1)

/-- Only the credits of a link differ. -/
theorem State.returnCredits_frame (s : State) (port vc n : Nat) : ∃ l, s.returnCredits port vc n = { s with fab.links := l } := by
  unfold State.returnCredits
  split
  · dsimp only
    split <;> exact ⟨_, rfl⟩
  · exact ⟨_, rfl⟩

/-- A packet that is whole and goes no further through the switch core: it is answered, counted, or reaches its endpoint. -/
def State.endHere (s : State) (port e : Nat) (relayed : Bool) (q : Packet) : State :=
  if q.malformed then (if q.isRequest then s.respond q .badDescriptor else s.count F.FAB_DROP_MALFORMED)
  else if port = portSecond ∧ !q.onSecond then s.count F.FAB_DROP_MALFORMED
  else if !s.portKeyOk port q then
    (if q.isRequest then (s.keyError port q.pkey).respond q .keyMismatch else s.keyError port q.pkey)
  else if relayed then s.linkSend e { q with relayed := true } 0
  else if q.op % 0x80 = opHEARTBEAT ∨ q.op % 0x80 = opMEMBER_DECLARE then s.deliver portMgmt q
  else s.deliver e q

section Arrive
variable {port lane crc stomp fault : Nat} {p q : Packet} (hvc : p.vc < 8) (hq : q = { p with excess := false })
include hvc hq

theorem State.packetForward_stomped (h : stomp ≠ 0) : s.packetForward port lane p crc stomp fault =
    ((s.count F.FAB_PORT_ERR_STOMPED 1 port).count F.FAB_DROP_CRC).returnCredits port q.vc q.credits := by
  subst hq
  unfold State.packetForward
  rw [Nat.mod_eq_of_lt hvc]
  exact if_pos h

theorem State.packetForward_damaged (h : crc ≠ q.crc) (hself : s.isSelf (s.answeredAt q) = true) :
    s.packetForward port lane p crc 0 0 = s.count F.FAB_DROP_CRC := by
  subst hq
  unfold State.packetForward
  rw [Nat.mod_eq_of_lt hvc]
  dsimp only
  rw [if_neg (by decide), if_pos (.inr h), if_neg (by rw [hself]; simp), if_pos rfl]

section Whole
variable (hcrc : crc = q.crc) (hport : port < 64) (hsrc : s.memberState p.src ≠ .absent)
include hcrc hport hsrc

theorem State.packetForward_relayed {e : Nat} (hself : s.isSelf (s.answeredAt q) = false)
    (he : e = s.pathPort (s.answeredAt q) (s.pathTo (s.answeredAt q))) (hmal : q.malformed = false) (hsecond : port ≠ portSecond)
    (hkey : s.portKeyOk port q = true) (hhb : p.op % 0x80 ≠ opHEARTBEAT) (hmd : p.op % 0x80 ≠ opMEMBER_DECLARE) :
    s.packetForward port lane p crc 0 0 = s.enqueue port e { q with relayed := true } := by
  subst hq he hcrc
  have ha : isAport port = false := by rw [isAport, decide_eq_false_iff_not]; omega
  unfold State.packetForward
  rw [Nat.mod_eq_of_lt hvc]
  dsimp only
  rw [hself, if_neg (by decide), if_neg (by simp), if_neg (by simp [ha]), if_neg (fun h => hsrc h.1)]
  exact if_pos ⟨rfl, by rw [hmal]; rfl, .inl hsecond, hkey, hhb, hmd⟩

theorem State.packetForward_ended {e : Nat} (he : s.isSelf (s.answeredAt q) = true → e = s.homePort q)
    (h : s.isSelf (s.answeredAt q) = true ∨ q.malformed = true ∨ s.portKeyOk port q = false) :
    s.packetForward port lane p crc 0 0 = (s.returnCredits port q.vc q.credits).endHere port
      (if s.isSelf (s.answeredAt q) then e else s.pathPort (s.answeredAt q) (s.pathTo (s.answeredAt q))) (!s.isSelf (s.answeredAt q)) q := by
  subst hq hcrc
  have ha : isAport port = false := by rw [isAport, decide_eq_false_iff_not]; omega
  unfold State.packetForward
  rw [Nat.mod_eq_of_lt hvc]
  dsimp only
  rw [if_neg (by decide), if_neg (by simp), if_neg (by simp [ha]), if_neg (fun h => hsrc h.1), if_neg]
  · cases hself : s.isSelf (s.answeredAt { p with excess := false }) with
    | true => rw [he hself]; rfl
    | false => rfl
  · rintro ⟨hr, hm, -, hk, -⟩
    rcases h with h | h | h
    · rw [h] at hr; cases hr
    · rw [h] at hm; cases hm
    · rw [h] at hk; cases hk

end Whole

end Arrive

/-! ### What becomes of it -/

/-- A packet with an error of its key is counted, and the first shown. -/
theorem State.keyError_spec (s : State) (port key : Nat) :
    (s.keyError port key).sws = s.sws ∧ (s.keyError port key).mem = s.mem ∧ s.counted (s.keyError port key) F.FAB_KEY_ERR_COUNT ∧
      (s.fld F.FAB_KEY_ERR_COUNT = 0 →
        (s.keyError port key).fld F.FAB_KEY_ERR_PORT = port % 2 ^ 8 ∧ (s.keyError port key).fld F.FAB_KEY_ERR_KEY = key % 2 ^ 16) := by
  unfold State.keyError
  split
  next h =>
    refine ⟨rfl, rfl, ?_, fun _ => ⟨?_, ?_⟩⟩
    · rw [State.counted, State.fld_count_same, State.fld_count_same, State.fld_setF_place _ _ (by decide), State.fld_setF_place _ _ (by decide)]
    · rw [State.fld_count_ne _ _ (by decide), State.fld_setF_same]; rfl
    · rw [State.fld_count_ne _ _ (by decide), State.fld_setF_place _ _ (by decide), State.fld_setF_same]; rfl
  next h => exact ⟨rfl, rfl, by rw [State.counted], fun h' => absurd h' h⟩

/-- A packet that enters from a link is combined with no other. -/
theorem combinable_link {port : Nat} (h : port < 64) (p : Packet) : combinable port p = false := by
  have ha : isAport port = false := by rw [isAport, decide_eq_false_iff_not]; omega
  have h100 : ¬100 ≤ port := by omega
  have h64 : ¬64 ≤ port := by omega
  simp [combinable, ha, h100, h64]

/-- It enters its VOQ where its buffer has room and none waits before it. -/
theorem State.enqueue_enters {port e : Nat} {p : Packet} (hport : port < 64) (hnone : s.sws.entering = []) (hroom : s.roomFor port p.vc p.bytes = true) :
    (s.enqueue port e p).sws.voq = s.sws.voq ++ [⟨port, e, p, s.now, p.excess, false⟩] ∧
      (s.enqueue port e p).sws.delivered = s.sws.delivered ∧ (s.enqueue port e p).mem = s.mem := by
  have hcomb : s.combineWith port p = none := if_pos (.inl (by rw [combinable_link hport]; rfl))
  have henter : s.enqueue port e p = s.enterVoq port e p := if_neg (by rw [hnone, hroom]; simp)
  rw [henter]
  unfold State.enterVoq
  rw [hcomb, if_neg (by omega)]
  dsimp only
  rw [State.trackMax_sws, State.trackMax_mem]
  exact ⟨rfl, rfl, rfl⟩

/-- It waits where its buffer has none. -/
theorem State.enqueue_waits {port e : Nat} {p : Packet} (hroom : s.roomFor port p.vc p.bytes = false) :
    s.enqueue port e p = { s with sws.entering := s.sws.entering ++ [⟨port, e, p, s.now, p.excess, false⟩] } :=
  if_pos (.inr (by rw [hroom]; rfl))

/-! ### Departure -/

theorem State.guardHolds_ungated (h : s.gated = false) (q : Queued) : s.guardHolds q = false := by
  rw [State.guardHolds, h]
  rfl

/-- Where no gate list is in force no guard holds a packet. -/
theorem State.countGuards_ungated (h : s.gated = false) (e : Nat) : s.countGuards e = s := by
  unfold State.countGuards
  dsimp only
  rw [if_pos]
  rw [List.length_eq_zero_iff, List.filter_eq_nil_iff]
  intro q _
  rw [State.guardHolds_ungated h]
  simp

theorem State.refreshDrr_frame (s : State) : ∃ d, s.refreshDrr = { s with sws.drr := d } := ⟨_, rfl⟩

/-- The heads that may leave through a port. -/
def State.readyHeads (s : State) (e : Nat) : List Queued := (voqHeads s.sws.voq []).filter (fun q => q.egress == e && s.linkReady e q.pkt)

theorem State.drrPick_nil (s : State) (fuel : Nat) (list : List DrrQ) : s.drrPick [] fuel list = none := by
  induction fuel generalizing list with
  | zero => rfl
  | succ n ih =>
    cases list with
    | nil => rfl
    | cons d rest => exact ih rest

theorem State.serveLevel_nil (s : State) (e level : Nat) : s.serveLevel e level [] = none := by
  rw [State.serveLevel]
  dsimp only
  rw [State.drrPick_nil]

/-- With no gate list in force the arbiter chooses among the ready heads. -/
theorem State.arbitrate_heads {e : Nat} (hg : s.gated = false) :
    (voqHeads s.refreshDrr.sws.voq []).filter (fun q => q.egress == e && s.refreshDrr.linkReady e q.pkt && !s.refreshDrr.guardHolds q) =
      s.readyHeads e := by
  have hg' : s.refreshDrr.gated = false := hg
  refine List.filter_congr fun q _ => ?_
  rw [State.guardHolds_ungated hg', Bool.not_false, Bool.and_true]
  rfl

/-- Where no head is ready nothing leaves. -/
theorem State.arbitrate_none {e : Nat} (hg : s.gated = false) (h : s.readyHeads e = []) : s.arbitrate e = s.refreshDrr := by
  unfold State.arbitrate
  rw [State.countGuards_ungated hg]
  dsimp only
  rw [State.arbitrate_heads hg, h]
  simp only [List.find?_nil, State.serveLevel_nil]

/-- The packet that leaves first. -/
theorem State.arbitrate_first {e : Nat} {q : Queued} (hg : s.gated = false)
    (h : ((s.readyHeads e).find? (fun q => q.pkt.vc == vcMGMT)).or (((s.readyHeads e).find? (fun q => q.pkt.vc == vcRSP)).or
      ((s.readyHeads e).find? (fun q => q.pkt.vc == vcSNOOP))) = some q) :
    s.arbitrate e = (s.refreshDrr.transmit q).refreshDrr ∧ q.egress = e ∧ shapedVc q.pkt.vc = false := by
  have hin (vc : Nat) (hv : shapedVc vc = false) (hf : (s.readyHeads e).find? (fun q => q.pkt.vc == vc) = some q) :
      q.egress = e ∧ shapedVc q.pkt.vc = false := by
    have hvc : q.pkt.vc = vc := by simpa using List.find?_some hf
    obtain ⟨-, hq⟩ := List.mem_filter.mp (List.mem_of_find?_eq_some hf)
    simp only [Bool.and_eq_true, beq_iff_eq] at hq
    exact ⟨hq.1, hvc ▸ hv⟩
  unfold State.arbitrate
  rw [State.countGuards_ungated hg]
  dsimp only
  rw [State.arbitrate_heads hg]
  cases hm : (s.readyHeads e).find? (fun q => q.pkt.vc == vcMGMT) with
  | some q' =>
    rw [hm] at h
    obtain rfl := Option.some.inj h
    exact ⟨rfl, hin vcMGMT (by decide) hm⟩
  | none =>
    rw [hm] at h
    cases hr : (s.readyHeads e).find? (fun q => q.pkt.vc == vcRSP) with
    | some q' =>
      rw [hr] at h
      obtain rfl := Option.some.inj h
      exact ⟨rfl, hin vcRSP (by decide) hr⟩
    | none =>
      rw [hr] at h
      have hsn : (s.readyHeads e).find? (fun q => q.pkt.vc == vcSNOOP) = some q := h
      rw [hsn]
      exact ⟨rfl, hin vcSNOOP (by decide) hsn⟩

/-- A packet of a VC without a shaper leaves its VOQ, and then its port. -/
theorem State.transmit_departs {q : Queued} (h : shapedVc q.pkt.vc = false) :
    ∃ v : State, s.transmit q = (if isFabric q.egress then v.linkSend q.egress q.pkt 0 else v.deliver q.egress q.pkt) ∧ v.mem = s.mem ∧
      v.sws.voq = dropQueued q s.sws.voq ∧ v.sws.sent = s.sws.sent ∧ v.sws.delivered = s.sws.delivered := by
  have hreturn (t : State) : (t.returnCredits q.ingress q.pkt.vc q.pkt.credits).sws = t.sws ∧
      (t.returnCredits q.ingress q.pkt.vc q.pkt.credits).mem = t.mem := by
    obtain ⟨l, hl⟩ := t.returnCredits_frame q.ingress q.pkt.vc q.pkt.credits
    rw [hl]
    exact ⟨rfl, rfl⟩
  obtain ⟨hsws, hmem⟩ := hreturn ((({ s with sws.voq := dropQueued q s.sws.voq } : State).subF F.SWS_VOQ_BYTES q.pkt.bytes q.ingress).trackMax
    F.SWS_PORT_WAIT_MAX_NS (s.now - q.at_) q.egress)
  rw [State.trackMax_sws] at hsws
  rw [State.trackMax_mem] at hmem
  unfold State.transmit
  dsimp only
  rw [if_neg (c := shapedVc q.pkt.vc = true ∧ ((s.shaper (shaperIndex q.ingress q.pkt.vc)).fillTo s.now).mode = 1) (by rw [h]; simp)]
  refine ⟨_, rfl, ?_⟩
  have hvoq := congrArg Sws.voq hsws
  have hsent := congrArg Sws.sent hsws
  have hdel := congrArg Sws.delivered hsws
  split
  · exact ⟨hmem, hvoq, hsent, hdel⟩
  · exact ⟨hmem, hvoq, hsent, hdel⟩

section Arrival
variable {port lane crc stomp fault : Nat} {p q : Packet} (hs : s.serves [17] = true) (hvc : p.vc < 8) (hq : q = { p with excess := false })
include hs hvc hq

/-- A command by what the switch core makes of the packet. -/
theorem packetForward_answers (hport : port < 64) (hcrc : stomp = 0 → crc = q.crc) (h : s.packetForward port lane p crc stomp fault = t) :
    AnswersThen (.packetForward port lane p crc stomp fault) s t := by
  refine core_answersThen (exec_packetForward s port lane p crc stomp fault) hs ((State.packetIn_link hport fun h0 => ?_).trans h)
  rw [hcrc h0, hq, Nat.mod_eq_of_lt hvc]
  rfl

omit hs hvc hq in
theorem State.frameBad_crc (hretries : (s.link port).rxRetries < 7) (hfails : (s.link port).gcmFails = []) :
    s.frameBad port lane 3 = (s.count F.FAB_PORT_ERR_RETRIES 1 port).setLink port { s.link port with rxRetries := (s.link port).rxRetries + 1 } := by
  have hl : (s.count F.FAB_PORT_ERR_RETRIES 1 port).link port = s.link port := rfl
  unfold State.frameBad
  simp only [Nat.reduceEqDiff, if_false, hl, hfails, List.filter_nil, List.length_nil]
  rw [if_neg (by decide), if_neg (by omega)]

/-- A packet whose CRC fails at its last link. -/
theorem packetForward_crc (hport : port < 64) (hcrc : crc ≠ q.crc) (hself : s.isSelf (s.answeredAt q) = true)
    (hretries : (s.link port).rxRetries < 7) (hfails : (s.link port).gcmFails = []) :
    ∃ u, AnswersThen (.packetForward port lane p crc 0 0) s u ∧ s.counted u F.FAB_DROP_CRC ∧ s.counted u F.FAB_PORT_ERR_RETRIES port ∧
      u.sws = s.sws ∧ u.mem = s.mem := by
  have hno : s.agentAnswers port p crc 0 0 = false := by
    have h : isAport port = false := by
      rw [isAport, decide_eq_false_iff_not]
      omega
    rw [State.agentAnswers, h]
    rfl
  have hcrc' : crc ≠ ({ p with vc := p.vc % 8 } : Packet).crc := by
    rw [Nat.mod_eq_of_lt hvc]
    intro h
    exact hcrc (h.trans (by rw [hq]; rfl))
  refine ⟨((s.count F.FAB_DROP_CRC).count F.FAB_PORT_ERR_RETRIES 1 port).setLink port { s.link port with rxRetries := (s.link port).rxRetries + 1 },
    core_answersThen (exec_packetForward s port lane p crc 0 0) hs ?_, ?_⟩
  · rw [State.packetIn, if_neg (by rw [hno]; decide), State.packetArrives, State.packetForward_damaged hvc hq hcrc hself, if_pos ⟨rfl, rfl, hcrc'⟩]
    exact State.frameBad_crc (s := s.count F.FAB_DROP_CRC) hretries hfails
  · refine ⟨?_, ?_, rfl, rfl⟩
    · rw [State.counted, State.fld_setLink, State.fld_count_ne _ _ (Fld.key_ne_of_place (by decide))]
    · rw [State.counted, State.fld_setLink, State.fld_count_same, State.fld_count_same,
        State.fld_count_ne _ _ (Fld.key_ne_of_place (by decide))]

/-- A packet that an upstream switch core stomped. -/
theorem packetForward_stomp (hport : port < 64) (h : stomp ≠ 0) :
    ∃ u, AnswersThen (.packetForward port lane p crc stomp fault) s u ∧ s.counted u F.FAB_PORT_ERR_STOMPED port ∧ s.counted u F.FAB_DROP_CRC ∧
      u.sws = s.sws ∧ u.mem = s.mem := by
  have heq := State.packetForward_stomped (s := s) (port := port) (lane := lane) (crc := crc) (fault := fault) hvc hq h
  obtain ⟨l, hl⟩ := ((s.count F.FAB_PORT_ERR_STOMPED 1 port).count F.FAB_DROP_CRC).returnCredits_frame port q.vc q.credits
  rw [hl] at heq
  refine ⟨_, packetForward_answers hs hvc hq hport (fun h0 => absurd h0 h) heq, ?_, ?_, rfl, rfl⟩
  · refine (State.fld_congr (s := (s.count F.FAB_PORT_ERR_STOMPED 1 port).count F.FAB_DROP_CRC) rfl _ _).trans ?_
    exact State.fld_count_ne _ _ (Fld.key_ne_of_place (by decide))
  · refine (State.fld_congr (s := (s.count F.FAB_PORT_ERR_STOMPED 1 port).count F.FAB_DROP_CRC) rfl _ _).trans ?_
    rw [State.fld_count_same, State.fld_count_same, State.fld_count_ne _ _ (Fld.key_ne_of_place (by decide))]

end Arrival

/-- Settles O30: arrival by `packetForward_stomped` to `packetForward_ended`, departure by `arbitrate_first` and `transmit_departs`. -/
theorem packetsForwarded : Obligations.PacketsForwarded := by
  unfold Obligations.PacketsForwarded
  refine ⟨fun s port lane crc stomp fault p q hs hport hvc hq => ?_, fun s e heads q hs he hg hheads => ?_⟩
  · have hmal : q.malformed = p.malformed := by rw [hq]; rfl
    have hreq : q.isRequest = p.isRequest := by rw [hq]; rfl
    have hop : q.op = p.op := by rw [hq]
    have hsecond : q.onSecond = p.onSecond := by rw [hq]; rfl
    have hkeys (i : Nat) (t : State) : t.portKeyOk i q = t.portKeyOk i p := by rw [hq]; rfl
    have hne : port ≠ portSecond := by unfold portSecond; omega
    obtain ⟨l, hl⟩ := s.returnCredits_frame port q.vc q.credits
    refine ⟨packetForward_stomp hs hvc hq (by omega), fun hcrc => packetForward_crc hs hvc hq (by omega) hcrc, fun hcrc hsrc => ?_,
      fun hcrc hsrc hm hsec hself => ?_⟩
    · have hended := State.packetForward_ended (s := s) (port := port) (lane := lane) hvc hq hcrc (by omega) hsrc (fun _ => rfl)
      rw [hl] at hended
      have hanswers {t : State} := packetForward_answers (s := s) (t := t) (port := port) (lane := lane) (stomp := 0) (fault := 0) hs hvc hq (by omega)
        fun _ => hcrc
      refine ⟨fun hm hr => ?_, fun hm hr => ?_, fun hm => ⟨fun hk => ?_, fun hk hhb hmd => ⟨fun hself => ?_, fun e hself he =>
        ⟨fun hnone hroom => ?_, fun hroom => ?_⟩⟩⟩⟩
      · refine ⟨({ s with fab.links := l } : State).count F.FAB_DROP_MALFORMED, hanswers ((hended (.inr (.inl (hmal.trans hm)))).trans ?_), ?_, rfl, rfl⟩
        · rw [State.endHere, hmal, hm, hreq, hr]; rfl
        · rw [State.counted, State.fld_count_same, State.fld_count_same]; rfl
      · refine ⟨{ s with fab.links := l }, hanswers ((hended (.inr (.inl (hmal.trans hm)))).trans ?_), rfl, rfl, rfl⟩
        rw [State.endHere, hmal, hm, hreq, hr]; rfl
      · obtain ⟨hsws, hmem, hcount, hshow⟩ := State.keyError_spec { s with fab.links := l } port p.pkey
        refine ⟨({ s with fab.links := l } : State).keyError port p.pkey, hsws, hmem, hcount, hshow,
          hanswers ((hended (.inr (.inr ((hkeys port s).trans hk)))).trans ?_)⟩
        have hk' : ({ s with fab.links := l } : State).portKeyOk port q = false := (hkeys port s).trans hk
        rw [State.endHere, hmal, hm, hk', hreq, if_neg (by decide), if_neg (fun h => hne h.1)]
        rw [hq]
        rfl
      · refine ⟨({ s with fab.links := l } : State).deliver (s.homePort q) q, hanswers ((hended (.inl hself)).trans ?_), rfl, rfl, rfl⟩
        have hk' : ({ s with fab.links := l } : State).portKeyOk port q = true := (hkeys port s).trans hk
        rw [State.endHere, hmal, hm, hk', hself, hop, if_neg (by decide), if_neg (fun h => hne h.1), if_neg (by decide), if_neg (by decide),
          if_neg (by simp [hhb, hmd]), if_pos rfl]
      · have hforward := State.packetForward_relayed (port := port) (lane := lane) hvc hq hcrc (by omega) hsrc hself he (hmal.trans hm) hne
          ((hkeys port s).trans hk) hhb hmd
        obtain ⟨hvoq, hdel, hmem⟩ := State.enqueue_enters (e := e) (p := { q with relayed := true }) (show port < 64 by omega) hnone (by rw [hq]; rw [hq] at hroom; exact hroom)
        refine ⟨_, hanswers hforward, ?_, hdel, hmem⟩
        rw [hvoq, hq]
      · have hforward := State.packetForward_relayed (port := port) (lane := lane) hvc hq hcrc (by omega) hsrc hself he (hmal.trans hm) hne
          ((hkeys port s).trans hk) hhb hmd
        rw [State.enqueue_waits (by rw [hq]; rw [hq] at hroom; exact hroom)] at hforward
        refine ⟨_, hanswers hforward, rfl, ?_, rfl⟩
        rw [hq]
    · obtain ⟨l, hl⟩ := s.returnCredits_frame portSecond q.vc q.credits
      have hended := State.packetForward_ended (s := s) (port := portSecond) (lane := lane) hvc hq hcrc (by decide) hsrc (fun _ => rfl) (.inl hself)
      rw [hl] at hended
      refine ⟨({ s with fab.links := l } : State).count F.FAB_DROP_MALFORMED, packetForward_answers hs hvc hq (by decide) (fun _ => hcrc) (hended.trans ?_), ?_,
        rfl, rfl⟩
      · rw [State.endHere, hmal, hm, hsecond, hsec, if_neg (by decide), if_pos ⟨rfl, rfl⟩]
      · rw [State.counted, State.fld_count_same, State.fld_count_same]; rfl
  · have hrun : exec (.egressArbitration e) s = s.runOn [17] (fun s => s.arbitrate e) := by
      rw [exec_egressArbitration, execEgressArbitration]
      simp only [he, if_false]
    subst hheads
    refine ⟨fun hnone => ⟨_, core_answersThen hrun hs (State.arbitrate_none hg hnone), rfl, rfl, rfl, rfl⟩, fun hfirst => ?_⟩
    obtain ⟨harb, hegress, hshape⟩ := State.arbitrate_first hg hfirst
    obtain ⟨v, hv, hmem, hvoq, hsent, hdel⟩ := State.transmit_departs (s := s.refreshDrr) hshape
    refine ⟨_, core_answersThen hrun hs harb, ?_⟩
    rw [hv, hegress]
    cases hf : isFabric e with
    | true => exact ⟨hvoq, fun _ => ⟨congrArg (· ++ _) hsent, hdel⟩, fun h => absurd h (by decide), hmem⟩
    | false => exact ⟨hvoq, fun h => absurd h (by decide), fun _ => ⟨congrArg (· ++ _) hdel, hsent⟩, hmem⟩

end Sys2Proof.Machine
end

section
/-! Snoops and their ends at a home and at an attach device (R274, R277, R280, R282, R283, R285). -/

namespace Sys2Proof.Machine

variable {s t u : State}

/-! ### The request that an answer ends -/

/-- The registers that the end of a request may change. -/
def endPlaces : List Nat := F.FAB_DROP_UNKNOWN_RSP.place :: F.FAB_FENCE_MARKERS.place :: trafficPlaces

/-- A request has ended: the sources' part, the switch core and their registers differ. -/
structure Ends (s u : State) : Prop where
  eq : ∃ r f w, u = { s with regs := r, fab := f, sws := w }
  places : s.keepsPlaces u endPlaces

theorem Ends.refl (s : State) : Ends s s := ⟨⟨_, _, _, rfl⟩, fun _ _ _ => rfl⟩

theorem Ends.trans (h : Ends s t) (h' : Ends t u) : Ends s u := by
  obtain ⟨⟨_, _, _, rfl⟩, hp⟩ := h
  obtain ⟨⟨r, f, w, rfl⟩, hp'⟩ := h'
  exact ⟨⟨r, f, w, rfl⟩, hp.trans hp'⟩

theorem Ends.withFab (s : State) (f : Fab) : Ends s { s with fab := f } := ⟨⟨s.regs, f, s.sws, rfl⟩, State.keepsPlaces_of_regs rfl⟩
theorem Ends.count (s : State) {f : Fld} (n b : Nat) (h : f.place ∈ endPlaces) : Ends s (s.count f n b) :=
  ⟨⟨_, s.fab, s.sws, rfl⟩, s.keepsPlaces_setF _ b h⟩
theorem Ends.foldl {α : Type} {g : State → α → State} (l : List α) (h : ∀ t a, Ends t (g t a)) (s : State) : Ends s (l.foldl g s) :=
  List.foldlRecOn (motive := fun t => Ends s t) l g (.refl s) fun t ht a _ => ht.trans (h t a)

theorem Traffic.ends (h : Traffic s u) : Ends s u := by
  obtain ⟨⟨r, f, w, rfl⟩, hp, -⟩ := h
  exact ⟨⟨r, f, w, rfl⟩, hp.mono fun a ha => List.mem_cons_of_mem _ (List.mem_cons_of_mem _ ha)⟩

theorem Ends.mem (h : Ends s u) : u.mem = s.mem := by obtain ⟨⟨_, _, _, rfl⟩, -⟩ := h; rfl
theorem Ends.home (h : Ends s u) : u.home = s.home := by obtain ⟨⟨_, _, _, rfl⟩, -⟩ := h; rfl
theorem Ends.tier (h : Ends s u) : u.tier = s.tier := by obtain ⟨⟨_, _, _, rfl⟩, -⟩ := h; rfl

theorem Ends.sameTiers (h : Ends s u) : SameTiers s u := by
  obtain ⟨⟨r, f, w, rfl⟩, hp⟩ := h
  exact ⟨rfl, rfl, rfl, rfl, rfl, rfl, rfl, fun g hg b => hp g b (by revert g; decide), hp _ 0 (by decide), hp _ 0 (by decide)⟩

theorem Ends.sendMarker (s : State) (d vc : Nat) (path : Path) : Ends s (s.sendMarker d vc path) :=
  ((Ends.withFab s _).trans (.count _ _ _ (by decide))).trans (Traffic.enqueue _ _ _ _).ends

theorem Ends.releaseWaiting (s : State) : Ends s s.releaseWaiting := by
  refine (Ends.withFab s _).trans (.foldl _ (fun t r => ?_) _)
  dsimp only
  split
  · exact .withFab t _
  · exact ((Ends.withFab t _).trans (Traffic.noteUse _ _ _ _).ends).trans (Traffic.send _ _).ends

theorem Ends.endRequest (s : State) (p : Packet) : Ends s (s.endRequest p).2 := by
  unfold State.endRequest
  split
  · exact .count s _ _ (by decide)
  next r _ =>
    split
    · exact .refl s
    · dsimp only
      refine Ends.trans ?_ (.releaseWaiting _)
      have hmark (t : State) : Ends t (if r.copies > 1 ∧ r.pkt.tagged then t.sendMarker r.pkt.dst r.pkt.vc (t.pathTo r.pkt.dst) else t) := by
        split
        · exact .sendMarker t _ _ _
        · exact .refl t
      have hretire (t : State) : Ends t (if r.pkt.tagged ∧ txTagFirst ≤ r.pkt.tag ∧ !r.lentTag then
          t.retireTag r.pkt.dst r.pkt.tag (decide (r.copies > 1)) else t) := by
        split
        · exact .withFab t _
        · exact .refl t
      exact ((Ends.withFab s _).trans (hmark _)).trans (hretire _)

/-! ### The filter -/

theorem Home.entryFor_filtered (l : List FilterEntry) (h : Home) (a line : Nat) :
    ({ h with filter := l.filter (fun e => !(e.agent == a && e.line == line)) } : Home).entryFor a line = none := by
  rw [Home.entryFor, List.find?_eq_none]
  intro e he h
  have hkept := (List.mem_filter.mp he).2
  rw [h] at hkept
  cases hkept

theorem State.dropEntry_entryFor (s : State) (a line : Nat) : (s.dropEntry a line).home.entryFor a line = none :=
  Home.entryFor_filtered _ _ _ _

theorem State.dropEntry_frame (s : State) (a line : Nat) : ∃ r l, s.dropEntry a line = { s with regs := r, home.filter := l } := ⟨_, _, rfl⟩

/-! ### A line that an answer brings -/

/-- An unprotected line is written at its owner, and nobody is answered. -/
theorem State.ownerWrite_line {p : Packet} {cell : Nat} {new : List Byte} (hop : p.op = 0) (hcls : t.protection cell = 0) :
    t.ownerWrite p cell new p.poison [] false = t.ownerWritten p cell new p.poison := by
  have hw := SameTiers.ownerWritten t p cell new p.poison
  have hprot : (t.ownerWritten p cell new p.poison).protection cell = 0 := by rw [hw.protection, hcls]
  have hnone : (t.ownerWritten p cell new p.poison).protectPacket p t.mem cell new.length [] = none := by
    unfold State.protectPacket
    dsimp only
    rw [hprot]
    rfl
  have heq : t.ownerWrite p cell new p.poison [] false =
      (t.ownerWritten p cell new p.poison).protectWrite p t.mem (linesOf p.addr p.size) [(cell, new.length)] [] false := rfl
  rw [heq]
  unfold State.protectWrite
  simp [hnone, hprot, State.answerSafe, State.finish, hop]

/-- The home's own write of a line that an answer brought. -/
def State.linePacket (s : State) (line : Nat) (p : Packet) : Packet :=
  { p with op := 0, addr := line * 64, size := 63, tagged := false, dst := s.devnum, src := s.devnum, vc := vcREQ, aux := 0, sectors := 1 }

/-- The line of an answer to a snoop is written where it is not a ring header. -/
theorem State.writeLine_mem {line : Nat} {p : Packet} (hheader : t.headerLine (line * 64) = false) (hserved : t.notServed (dgaCell (line * 64)) = false)
    (hcls : t.protection (dgaCell (line * 64)) = 0) : (t.writeLine line p).mem = t.mem.store (t.keyFor (dgaCell (line * 64))) (dgaCell (line * 64))
        (padTo 64 (slice p.payload 0 64)) p.poison ∧ (t.writeLine line p).home = t.home := by
  have heq : t.writeLine line p = t.ownerWritten (t.linePacket line p) (dgaCell (line * 64)) (padTo 64 (slice p.payload 0 64)) p.poison := by
    unfold State.writeLine State.takeLine
    dsimp only
    rw [if_neg (by rw [hheader]; decide), if_neg (by rw [hserved]; decide), Nat.mul_mod_left]
    exact State.ownerWrite_line (p := t.linePacket line p) rfl hcls
  rw [heq]
  exact ⟨State.ownerWritten_mem _ _ _ _ _, State.ownerWritten_home _ _ _ _ _⟩

/-! ### At the attach device -/

section Attach
variable {p : Packet} {c : Instr} {o : Nat} (hs : s.serves [18] = true) (hfail : s.dom.selfFailed = false)
  (hc : exec c s = s.runOn [18] (fun s => s.serving p (p.op == o) (fun s => s.attachSnoop p))) (hop : p.op = o)
include hs hfail hc hop

theorem attachSnoop_answers (h : (s.take p).attachSnoop p = t) : AnswersThen c s t := by
  refine core_answersThen hc hs ?_
  rw [State.serving_serves (by simp [hop]) hfail, h]

theorem attachSnoop_passed :
    (∀ x, s.home.answered.find? (fun x => x.1 == p.src && x.2.1 == p.tag) = some x → AnswersThen c s ((s.take p).send x.2.2)) ∧
    (s.home.answered.find? (fun x => x.1 == p.src && x.2.1 == p.tag) = none →
      (s.home.snoopsIn.any (fun x => x.pkt.src == p.src && x.pkt.tag == p.tag) = false →
        ∃ v, AnswersThen c s ((v : State).toAgent (p.aux % 32) { p with addr := s.reported p.ctx p.addr }) ∧
          v.home.snoopsIn = s.home.snoopsIn ++ [⟨p, p.aux % 32⟩] ∧ v.mem = s.mem ∧ v.fab = s.fab) ∧
      (s.home.snoopsIn.any (fun x => x.pkt.src == p.src && x.pkt.tag == p.tag) = true → AnswersThen c s (s.take p))) := by
  have hsame : (s.take p).attachSnoop p = match s.home.answered.find? (fun x => x.1 == p.src && x.2.1 == p.tag) with
      | some x => (s.take p).send x.2.2
      | none => if s.home.snoopsIn.any (fun x => x.pkt.src == p.src && x.pkt.tag == p.tag) then s.take p
          else ({ s.take p with home.snoopsIn := s.home.snoopsIn ++ [⟨p, p.aux % 32⟩] } : State).toAgent (p.aux % 32)
            { p with addr := s.reported p.ctx p.addr } := rfl
  refine ⟨fun x hx => ?_, fun hnone => ⟨fun hnew => ⟨{ s.take p with home.snoopsIn := s.home.snoopsIn ++ [⟨p, p.aux % 32⟩] },
    attachSnoop_answers hs hfail hc hop ?_, rfl, rfl, rfl⟩, fun hold => ?_⟩⟩
  · exact attachSnoop_answers hs hfail hc hop (by rw [hsame, hx])
  · rw [hsame, hnone]
    exact if_neg (by rw [hnew]; decide)
  · refine attachSnoop_answers hs hfail hc hop ?_
    rw [hsame, hnone]
    exact if_pos hold

end Attach

/-! ### At the home -/

/-- A packet that asks for no answer reaches its function even where the member holds itself FAILED. -/
theorem State.serving_silent {p : Packet} {kind : Bool} (hk : kind = true) (ha : p.asks = false) (f : State → State) :
    s.serving p kind f = f (s.take p) := by
  rw [State.serving, if_pos hk, State.unlessFailed, ha, Bool.and_false, if_neg (by decide)]

section Answer
variable {p : Packet} {ev : HomeEv} {n : Snoop} (hs : s.serves [18] = true) (h₁ : 0x90 ≤ p.op) (h₂ : p.op ≤ 0x92)

/-- The state in which the request of an answer has ended. -/
def State.answered (s : State) (p : Packet) : State := ((s.take p).endRequest p).2

theorem State.answered_ends (s : State) (p : Packet) : Ends s (s.answered p) := (Traffic.withSws s _).ends.trans (.endRequest _ p)

section Command
include hs h₁ h₂

theorem snoopAnswer_answers (h : (s.take p).snoopAnswer p = t) : AnswersThen (.snoopAnswer p) s t := by
  refine core_answersThen (exec_snoopAnswer s p) hs ?_
  have hasks : p.asks = false := by
    have : p.isRequest = false := by rw [Packet.isRequest, decide_eq_false_iff_not]; omega
    rw [Packet.asks, this]
    rfl
  rw [State.serving_silent (by simp [h₁, h₂]) hasks, h]

end Command

theorem State.snoopAnswer_unknown (hev : s.evOfSnoop p.tag = none) : (s.take p).snoopAnswer p = s.answered p := by
  have hends := s.answered_ends p
  have hev' : (s.answered p).evOfSnoop p.tag = none := by rw [State.evOfSnoop, hends.home]; exact hev
  unfold State.snoopAnswer
  dsimp only
  rw [← State.answered, hev']

/-- The line of an answer, where it brings one, is written. -/
def State.lineTaken (s : State) (n : Snoop) (p : Packet) : State := if p.sectors = 1 ∧ p.aux % 8 = 4 then s.writeLine n.line p else s

theorem State.snoopAnswer_invalidated (hev : s.evOfSnoop p.tag = some (ev, n)) (hwb : bitAt p.aux 3 = false) (hop : n.op = 0x10) :
    (s.take p).snoopAnswer p = (((s.answered p).lineTaken n p).dropEntry n.agent n.line).snoopSettled ev.id p.tag := by
  have hev' : (s.answered p).evOfSnoop p.tag = some (ev, n) := by rw [State.evOfSnoop, (s.answered_ends p).home]; exact hev
  unfold State.snoopAnswer
  dsimp only
  rw [← State.answered, hev']
  dsimp only
  rw [hwb, if_neg (by simp), if_pos hop]
  rfl

theorem State.snoopAnswer_shared (hev : s.evOfSnoop p.tag = some (ev, n)) (hwb : bitAt p.aux 3 = false) (hop : n.op = 0x11) :
    (s.take p).snoopAnswer p = (((s.answered p).lineTaken n p).setEntryState n.agent n.line .f).snoopSettled ev.id p.tag := by
  have hev' : (s.answered p).evOfSnoop p.tag = some (ev, n) := by rw [State.evOfSnoop, (s.answered_ends p).home]; exact hev
  unfold State.snoopAnswer
  dsimp only
  rw [← State.answered, hev']
  dsimp only
  rw [hwb, if_neg (by simp), if_neg (by rw [hop]; decide), if_pos hop]
  rfl

theorem State.setEntryState_states (s : State) (a line : Nat) (st : LineState) :
    ∀ e ∈ (s.setEntryState a line st).home.filter, e.agent = a → e.line = line → e.state = st := by
  intro e he ha hl
  obtain ⟨e', -, rfl⟩ := List.mem_map.mp he
  split at ha <;> split
  · rfl
  · contradiction
  · contradiction
  next hne _ =>
    rw [if_neg hne] at hl
    exact absurd (by simp [ha, hl]) hne

include hs h₁ h₂

/-- What an answer to a snoop does. -/
theorem snoopAnswers :
    (s.evOfSnoop p.tag = none → ∃ u, AnswersThen (.snoopAnswer p) s u ∧ u.home = s.home ∧ u.mem = s.mem) ∧
    (s.evOfSnoop p.tag = some (ev, n) → bitAt p.aux 3 = false →
      (n.op = 0x10 → p.sectors ≠ 1 → ∃ v, AnswersThen (.snoopAnswer p) s ((v : State).snoopSettled ev.id p.tag) ∧
        v.home.entryFor n.agent n.line = none ∧ v.mem = s.mem) ∧
      (n.op = 0x10 → p.sectors = 1 → p.aux % 8 = 4 → s.headerLine (n.line * 64) = false → s.notServed (dgaCell (n.line * 64)) = false →
        s.protection (dgaCell (n.line * 64)) = 0 → ∃ v, AnswersThen (.snoopAnswer p) s ((v : State).snoopSettled ev.id p.tag) ∧
        v.home.entryFor n.agent n.line = none ∧
        v.mem = s.mem.store (s.keyFor (dgaCell (n.line * 64))) (dgaCell (n.line * 64)) (padTo 64 (slice p.payload 0 64)) p.poison) ∧
      (n.op = 0x11 → p.sectors ≠ 1 → p.aux % 8 ≠ 0 → ∃ v, AnswersThen (.snoopAnswer p) s ((v : State).snoopSettled ev.id p.tag) ∧ v.mem = s.mem ∧
        ∀ e ∈ v.home.filter, e.agent = n.agent → e.line = n.line → e.state = .f)) := by
  have hends := s.answered_ends p
  have hsame := hends.sameTiers
  refine ⟨fun hev => ⟨_, snoopAnswer_answers hs h₁ h₂ (State.snoopAnswer_unknown hev), hends.home, hends.mem⟩, fun hev hwb =>
    ⟨fun hop hsec => ?_, fun hop hsec hheld hheader hserved hcls => ?_, fun hop hsec _ => ?_⟩⟩
  · refine ⟨_, snoopAnswer_answers hs h₁ h₂ (State.snoopAnswer_invalidated hev hwb hop), State.dropEntry_entryFor _ _ _, ?_⟩
    rw [State.lineTaken, if_neg fun h => hsec h.1]
    exact hends.mem
  · refine ⟨_, snoopAnswer_answers hs h₁ h₂ (State.snoopAnswer_invalidated hev hwb hop), State.dropEntry_entryFor _ _ _, ?_⟩
    rw [State.lineTaken, if_pos ⟨hsec, hheld⟩]
    have hheader' : (s.answered p).headerLine (n.line * 64) = false := by
      rw [State.headerLine, hsame.isSelf, hsame.headerAt]; exact hheader
    obtain ⟨hmem, -⟩ := State.writeLine_mem (p := p) hheader' (by rw [hsame.notServed]; exact hserved) (by rw [hsame.protection]; exact hcls)
    refine Eq.trans rfl (hmem.trans ?_)
    rw [hends.mem, hsame.keyFor]
  · refine ⟨_, snoopAnswer_answers hs h₁ h₂ (State.snoopAnswer_shared hev hwb hop), ?_, State.setEntryState_states _ _ _ _⟩
    rw [State.lineTaken, if_neg fun h => hsec h.1]
    exact hends.mem

end Answer

/-! ### GRANT_ACK, silence and scans -/

theorem grantAck_ends {p : Packet} {ev : HomeEv} (hs : s.serves [18] = true) (hop : p.op = 0x16) :
    (s.home.events.find? (fun e => e.grant.isSome && e.pkt.tag == p.tag && e.pkt.src == p.src) = some ev →
      ∃ v, AnswersThen (.grantAck p) s (v : State).pump ∧ (∀ e ∈ v.home.events, e.id ≠ ev.id) ∧ v.mem = s.mem ∧ v.home.filter = s.home.filter) ∧
    (s.home.events.find? (fun e => e.grant.isSome && e.pkt.tag == p.tag && e.pkt.src == p.src) = none → AnswersThen (.grantAck p) s (s.take p)) := by
  have hasks : p.asks = false := by rw [Packet.asks, hop]; simp
  have hanswers {t : State} (h : (s.take p).grantAck p = t) : AnswersThen (.grantAck p) s t := by
    refine core_answersThen (exec_grantAck s p) hs ?_
    rw [State.serving_silent (by simp [hop]) hasks, h]
  have heq : (s.take p).grantAck p = match s.home.events.find? (fun e => e.grant.isSome && e.pkt.tag == p.tag && e.pkt.src == p.src) with
      | some ev => ((s.take p).endEv ev.id).pump
      | none => s.take p := rfl
  refine ⟨fun hev => ⟨(s.take p).endEv ev.id, hanswers (by rw [heq, hev]), fun e he hid => ?_, rfl, rfl⟩, fun hev => hanswers (by rw [heq, hev])⟩
  have hkept : e ∈ s.home.events.filter (fun e => !(e.id == ev.id)) := he
  simp [hid] at hkept

/-- An agent's silence is counted and recorded. -/
def State.silenceNoted (s : State) (agent line : Nat) : State :=
  ((if s.fld F.HOME_TIMEOUT_ERR_COUNT = 0 then s.setF F.HOME_TIMEOUT_ERR_AGENT agent else s).count F.HOME_TIMEOUT_ERR_COUNT).logErr
    { unit := .home, status := .timeout, syndrome := agent, addr := line * 64 }

/-- A line that a silent agent held in E is poisoned. -/
def State.silencePoisons (s : State) (agent line : Nat) : State :=
  let wasX : Bool := match s.home.entryFor agent line with | some e => e.state == .x | none => false
  if wasX then s.poisonLine line else s

/-- The home timeout of an agent on a line has passed: its entry is gone, with its line where it held it in E, and it is recorded. -/
def State.agentSilent (s : State) (agent line since : Nat) : State :=
  (((s.reach (since + s.fld F.HOME_TMO_SNOOP_US * nsPerUs)).silencePoisons agent line).dropEntry agent line).silenceNoted agent line

theorem State.poisonLine_spec (s : State) (line : Nat) : ∃ r, s.poisonLine line = { s with regs := r, mem := s.mem.setPoison (dgaCell (line * 64)) true } ∧
    (s.poisonLine line).fld F.HOME_TIMEOUT_ERR_COUNT = s.fld F.HOME_TIMEOUT_ERR_COUNT := by
  unfold State.poisonLine
  dsimp only
  split
  · exact ⟨_, rfl, (State.fld_count_ne _ _ (by decide)).trans ((State.fld_setF_place _ _ (by decide)).trans rfl)⟩
  · exact ⟨_, rfl, (State.fld_count_ne _ _ (by decide)).trans rfl⟩

theorem Mem.poisoned_setPoison_same (m : Mem) (a : Nat) : (m.setPoison a true).poisoned a = true := by
  rw [Mem.poisoned, Mem.setPoison, Tbl.getD_store_same]

theorem State.silenceNoted_spec (s : State) (agent line : Nat) :
    (s.silenceNoted agent line).home = s.home ∧ s.counted (s.silenceNoted agent line) F.HOME_TIMEOUT_ERR_COUNT ∧
    (s.silenceNoted agent line).now = s.now ∧ (s.silenceNoted agent line).fab = s.fab ∧ (s.silenceNoted agent line).mem = s.mem := by
  unfold State.silenceNoted
  refine ⟨?_, ?_, ?_, ?_, ?_⟩
  · rw [State.logErr_frame]; split <;> rfl
  · rw [State.counted, State.fld_logErr _ _ (by decide), State.fld_count_same, State.fld_count_same]
    split
    · rw [State.fld_setF_place _ _ (by decide)]
    · rfl
  · rw [State.logErr_frame]; split <;> rfl
  · rw [State.logErr_frame]; split <;> rfl
  · rw [State.logErr_frame]; split <;> rfl

theorem State.silencePoisons_spec (s : State) (agent line : Nat) :
    (s.silencePoisons agent line).home = s.home ∧ (s.silencePoisons agent line).fld F.HOME_TIMEOUT_ERR_COUNT = s.fld F.HOME_TIMEOUT_ERR_COUNT ∧
    (s.silencePoisons agent line).now = s.now ∧ (s.silencePoisons agent line).fab = s.fab ∧
    (∀ e, s.home.entryFor agent line = some e → e.state = .x → (s.silencePoisons agent line).mem.poisoned (dgaCell (line * 64)) = true) ∧
    (s.home.entryFor agent line = none → (s.silencePoisons agent line).mem = s.mem) := by
  obtain ⟨r, hp, hfld⟩ := s.poisonLine_spec line
  unfold State.silencePoisons
  cases he : s.home.entryFor agent line with
  | none => exact ⟨rfl, rfl, rfl, rfl, fun _ h => (nomatch h), fun _ => rfl⟩
  | some e =>
    dsimp only
    split
    next hx =>
      refine ⟨by rw [hp], hfld, by rw [hp], by rw [hp], fun _ _ _ => ?_, fun h => by cases h⟩
      rw [hp]
      exact Mem.poisoned_setPoison_same _ _
    next hx =>
      refine ⟨rfl, rfl, rfl, rfl, fun e' h hst => ?_, fun h => by cases h⟩
      obtain rfl := Option.some.inj h
      exact absurd (by simp [hst]) hx

/-- What the silence of an agent leaves. -/
theorem State.agentSilent_spec (s : State) (agent line since : Nat) :
    (s.agentSilent agent line since).home.entryFor agent line = none ∧ (s.agentSilent agent line since).home.events = s.home.events ∧
    s.counted (s.agentSilent agent line since) F.HOME_TIMEOUT_ERR_COUNT ∧
    since + s.fld F.HOME_TMO_SNOOP_US * 1000 ≤ (s.agentSilent agent line since).now ∧ (s.agentSilent agent line since).fab = s.fab ∧
    (∀ e, s.home.entryFor agent line = some e → e.state = .x → (s.agentSilent agent line since).mem.poisoned (dgaCell (line * 64)) = true) ∧
    (s.home.entryFor agent line = none → (s.agentSilent agent line since).mem = s.mem) := by
  obtain ⟨hhome, hcount, hnow, hfab, hpoison, hmem⟩ := (s.reach (since + s.fld F.HOME_TMO_SNOOP_US * nsPerUs)).silencePoisons_spec agent line
  unfold State.agentSilent
  generalize (s.reach (since + s.fld F.HOME_TMO_SNOOP_US * nsPerUs)).silencePoisons agent line = t at hhome hcount hnow hfab hpoison hmem
  obtain ⟨hhome', hcount', hnow', hfab', hmem'⟩ := (t.dropEntry agent line).silenceNoted_spec agent line
  refine ⟨by rw [hhome']; exact t.dropEntry_entryFor _ _, by rw [hhome']; exact (congrArg Home.events hhome : t.home.events = s.home.events), ?_, ?_, by rw [hfab']; exact hfab, ?_, ?_⟩
  · rw [State.counted, hcount', State.fld_count_same, State.fld_count_same]
    have hdrop : (t.dropEntry agent line).fld F.HOME_TIMEOUT_ERR_COUNT = t.fld F.HOME_TIMEOUT_ERR_COUNT :=
      (State.fld_setF_place _ _ (by decide)).trans rfl
    rw [hdrop, hcount]
    rfl
  · rw [hnow']
    exact le_trans (le_max_right _ _) (le_of_eq hnow.symm)
  · intro e he hx
    rw [hmem']
    exact hpoison e he hx
  · intro he
    rw [hmem']
    exact hmem he

/-- The request to expel an agent is out, under the next tag. -/
theorem State.sendExpel_asks (s : State) (agent line : Nat) :
    (s.sendExpel agent line).asks (fun q => q.op = 0x15 ∧ q.dst = agent / 32 ∧ q.tag = s.fab.txTag % 2 ^ 48) :=
  State.launch_asks _ _ _ (fun q hq => by rw [hq.1]; decide) ⟨rfl, rfl, rfl⟩

theorem Traffic.sendExpel (s : State) (agent line : Nat) : Traffic s (s.sendExpel agent line) := by
  unfold State.sendExpel
  exact .issue s _ _

theorem homeTimeout_expels {ev : HomeEv} {n : Snoop} (hs : s.serves [18] = true) (hdrops : s.home.drops = []) (hev : s.home.events = [ev])
    (hn : ev.snoops = [n]) (htag : n.tag ≠ s.fab.txTag % 2 ^ 48) :
    ∃ v, AnswersThen (.homeTimeout n.agent n.line) s ((v : State).snoopSettled ev.id n.tag) ∧ v.home.entryFor n.agent n.line = none ∧
      s.counted v F.HOME_TIMEOUT_ERR_COUNT ∧ n.since + s.fld F.HOME_TMO_SNOOP_US * 1000 ≤ v.now ∧ v.asks (fun q => q.op = 0x15 ∧ q.dst = n.agent / 32) ∧
      (∀ e, s.home.entryFor n.agent n.line = some e → e.state = .x → v.mem.poisoned (dgaCell (n.line * 64)) = true) ∧
      (s.home.entryFor n.agent n.line = none → v.mem = s.mem) := by
  obtain ⟨hentry, hevents, hcount, hnow, hfab, hpoison, hmem⟩ := s.agentSilent_spec n.agent n.line n.since
  have hask := (s.agentSilent n.agent n.line n.since).sendExpel_asks n.agent n.line
  have htraffic : Traffic (s.agentSilent n.agent n.line n.since) ((s.agentSilent n.agent n.line n.since).sendExpel n.agent n.line) :=
    Traffic.sendExpel _ _ _
  have hcommand : s.homeTimer n.agent n.line =
      (({ (s.agentSilent n.agent n.line n.since).sendExpel n.agent n.line with
        fab.reqs := ((s.agentSilent n.agent n.line n.since).sendExpel n.agent n.line).fab.reqs.filter (fun r => !(r.pkt.tag == n.tag)) } :
          State).retireTag (n.agent / 32) n.tag true).snoopSettled ev.id n.tag := by
    unfold State.homeTimer State.homeTimedOut
    dsimp only
    rw [hdrops, hev]
    simp only [List.find?_nil, List.findSome?_cons, hn, List.find?_cons, beq_self_eq_true, Bool.and_self]
    rfl
  generalize s.agentSilent n.agent n.line n.since = t at *
  generalize t.sendExpel n.agent n.line = w at *
  refine ⟨_, core_answersThen (exec_homeTimeout s n.agent n.line) hs hcommand, ?_, ?_, ?_, ?_, ?_, ?_⟩
  · rw [← hentry]; exact congrArg (Home.entryFor · _ _) htraffic.home
  · exact (htraffic.fld (by decide) 0).trans hcount
  · exact le_trans hnow (le_of_eq htraffic.now.symm)
  · obtain ⟨r, hr, hop, hdst, htag'⟩ := hask
    refine ⟨r, ?_, hop, hdst⟩
    rw [hfab] at htag'
    rcases List.mem_append.mp hr with hr | hr
    · exact List.mem_append_left _ (List.mem_filter.mpr ⟨hr, by rw [htag', Bool.not_eq_true', beq_eq_false_iff_ne]; exact Ne.symm htag⟩)
    · exact List.mem_append_right _ hr
  · exact fun e he hx => (congrArg (Mem.poisoned · _) htraffic.mem).trans (hpoison e he hx)
  · exact fun he => htraffic.mem.trans (hmem he)

/-- Settles O38: at the attach device by `attachSnoop_passed`, at the home by `snoopAnswers`, `grantAck_ends` and `homeTimeout_expels`. -/
theorem snoopsEnd : Obligations.SnoopsEnd := by
  unfold Obligations.SnoopsEnd
  refine ⟨fun s p ev n hs => ⟨fun hfail o ho hop => ?_, fun h₁ h₂ _ => snoopAnswers hs h₁ h₂⟩, fun s p ev n c va hs =>
    ⟨grantAck_ends hs, homeTimeout_expels hs, fun hev => ?_⟩⟩
  · simp only [List.mem_cons, List.not_mem_nil, or_false] at ho
    rcases ho with rfl | rfl | rfl
    · exact attachSnoop_passed hs hfail (exec_snpInv s p) hop
    · exact attachSnoop_passed hs hfail (exec_snpShare s p) hop
    · exact attachSnoop_passed hs hfail (exec_snpFwd s p) hop
  · have heq : s.recallScanDone c va = ({ s with
        home.rangeScans := s.home.rangeScans.filter (fun e => !(e == ev)),
        home.nextEv := s.home.nextEv + 1,
        home.events := s.home.events ++ [{ ev with lines := s.recallLines ev.pkt.src c ev.pkt.addr ev.pkt.aux, id := s.home.nextEv }] } :
          State).pump := by
      unfold State.recallScanDone
      rw [hev]
      rfl
    refine ⟨_, core_answersThen (exec_recallScanDone s c va) hs heq, rfl, fun h => ?_, ⟨_, List.mem_append_right _ (List.mem_singleton_self _), rfl, rfl⟩⟩
    have hkept : ev ∈ s.home.rangeScans.filter (fun e => !(e == ev)) := h
    simp at hkept

end Sys2Proof.Machine
end

section
/-! Requests of agents, their flush and their expulsion (R257, R261, R265, R281, R285, R287, R320). -/

namespace Sys2Proof.Machine

variable {s t u : State}

/-! ### Requests of an agent -/

theorem exec_agentRequest_lt {a : Nat} (ha : a < 32) (p : Packet) :
    exec (.agentRequest a p) s = s.runOn [17] (fun s => s.agentRequest a p) := by
  rw [exec_agentRequest, execAgentRequest, Nat.mod_eq_of_lt ha]

/-- Where an agent's request is not refused before its translation, it goes past the policer unless a shaper polices its channel. -/
theorem State.agentRequest_served {a : Nat} {p : Packet} (hf : s.agentFault a p = none) (hmode : (s.shaper (shaperIndex (aportCode a) p.vc)).mode ≠ 2) :
    s.agentRequest a p = s.agentServe a { p with excess := false } := by
  have hfill : ((s.shaper (shaperIndex (aportCode a) p.vc)).fillTo s.now).mode ≠ 2 := by
    rw [Shaper.fillTo]
    split <;> exact hmode
  have hpolice : s.police (aportCode a) p.vc p.bytes = (some false, s) := by
    unfold State.police
    exact if_pos hfill
  unfold State.agentRequest
  rw [hf, hpolice]
  split <;> rfl

/-- What stays of a request that is asked when others go out, combined or not. -/
theorem Traffic.asks_combined {Q : Packet → Prop} (h : Traffic s u) (hQ : ∀ p b l, Q p → Q { p with combined := b, payload := l }) (ha : s.asks Q) :
    u.asks Q := by
  obtain ⟨r, hr, hq⟩ := ha
  obtain ⟨r', hr', hkin, -⟩ := h.reqs r hr
  refine ⟨r', hr', ?_⟩
  rw [hkin]
  exact hQ _ _ _ hq

theorem State.issue_asks_combined {Q : Packet → Prop} (s : State) (p : Packet) (w : Waiter)
    (hQ : ∀ p b l, Q p → Q { p with combined := b, payload := l }) (hq : ∀ src tag epoch, Q { p with src := src, tag := tag, epoch := epoch }) :
    (s.issue p w).asks Q := by
  unfold State.issue
  generalize (if p.tag = 0 then s.drawTag else (p.tag, s)) = d
  obtain ⟨t, v⟩ := d
  dsimp only
  unfold State.launch
  dsimp only
  split
  · exact ⟨_, List.mem_append_right _ (List.mem_append_right _ (List.mem_singleton_self _)), hq _ _ _⟩
  · refine ((Traffic.noteUse _ _ _ _).trans (.send _ _)).asks_combined (Q := Q) hQ ?_
    exact ⟨_, List.mem_append_left _ (List.mem_append_right _ (List.mem_singleton_self _)), hq _ _ _⟩

theorem State.noteFault_frame (s : State) (c : Nat) (st : Status) (addr : Nat) :
    (s.noteFault c st addr).fab = s.fab ∧ (s.noteFault c st addr).mem = s.mem := by
  unfold State.noteFault
  split <;> dsimp only <;> split <;> exact ⟨rfl, rfl⟩

section Serve
variable {a : Nat} {p q : Packet} (hq : q = { p with excess := false }) (hf : s.agentFault a p = none) (hop : p.op ≠ opAGENT_FENCE)
include hq hf hop

theorem State.agentServe_held (hheld : s.agentHeld a q = true) :
    s.agentServe a q = { s with xlt.heldLookups := s.xlt.heldLookups ++ [(a, q)] } := by
  subst hq
  have hf' : s.agentFault a { p with excess := false } = none := hf
  unfold State.agentServe
  rw [hf']
  exact (if_neg hop).trans (if_pos hheld)

theorem State.agentServe_untranslated {st : Status} {addr : Nat} (hheld : s.agentHeld a q = false)
    (ht : s.translate p.ctx p.addr (p.size + 1) (agentRight p) = .error (st, addr)) :
    s.agentServe a q = (s.noteFault p.ctx st addr).refuseAgent a q st := by
  subst hq
  have hf' : s.agentFault a { p with excess := false } = none := hf
  have ht' : s.translate p.ctx p.addr (p.size + 1) (agentRight { p with excess := false }) = .error (st, addr) := ht
  unfold State.agentServe
  rw [hf']
  dsimp only
  rw [if_neg hop, if_neg (by rw [hheld]; decide), ht']

/-- A reference of the extent is taken, and the ETC is looked up. -/
def State.lookedUp (s : State) (p : Packet) (x : Xlated) : State := (s.takeRef p.ctx x.ext.va).etcLook p.ctx p.addr

omit hq hf hop in
theorem State.lookedUp_mem (s : State) (p : Packet) (x : Xlated) : (s.lookedUp p x).mem = s.mem := by
  have hfill (t : State) (c va : Nat) : (t.etcFill c va).mem = t.mem := by
    have hput (v : State) (k i : Nat) : (v.etcPut c k i).mem = v.mem := by
      unfold State.etcPut
      dsimp only
      split
      · rfl
      · split
        · rfl
        · rfl
    unfold State.etcFill
    dsimp only
    split
    · rfl
    · split
      · rfl
      · split
        · rfl
        · exact hput _ _ _
  have hlook (t : State) (c va : Nat) : (t.etcLook c va).mem = t.mem := by
    unfold State.etcLook
    dsimp only
    split
    · split
      · rfl
      · exact hfill t c va
    · split
      · rfl
      · exact hfill t c va
  have href : (s.takeRef p.ctx x.ext.va).mem = s.mem := by
    unfold State.takeRef State.recounted
    split <;> rfl
  exact (hlook _ _ _).trans href

/-- A request that is translated goes to the member that serves its address. -/
theorem State.agentServe_forwarded {x : Xlated} {d : Nat} (hheld : s.agentHeld a q = false)
    (ht : s.translate p.ctx p.addr (p.size + 1) (agentRight p) = .ok x) (hr : s.route x.dga x.ext.cls = .ok d) :
    (s.agentServe a q).mem = s.mem ∧ (s.agentServe a q).asks (fun q => q.op = p.op ∧ q.dst = d ∧ q.addr = x.dga) := by
  subst hq
  have hf' : s.agentFault a { p with excess := false } = none := hf
  have ht' : s.translate p.ctx p.addr (p.size + 1) (agentRight { p with excess := false }) = .ok x := ht
  unfold State.agentServe
  rw [hf']
  dsimp only
  rw [if_neg hop, if_neg (by rw [hheld]; decide), ht']
  dsimp only
  rw [hr]
  dsimp only
  refine ⟨((Traffic.issue _ _ _).mem).trans (s.lookedUp_mem p x), ?_⟩
  exact State.issue_asks_combined (Q := fun q => q.op = p.op ∧ q.dst = d ∧ q.addr = x.dga) (s.lookedUp p x) _ _ (fun _ _ _ h => h)
    fun _ _ _ => ⟨rfl, rfl, rfl⟩

end Serve

/-! ### Fences -/

theorem State.epochOf_bump_same (s : State) (d : Nat) : (s.bumpEpoch d).epochOf d = (s.epochOf d + 1) % 65536 :=
  State.fld_bumpSeq_same _ _ _

theorem State.epochOf_bump_ne (s : State) {d m : Nat} (h : d ≠ m) : (s.bumpEpoch d).epochOf m = s.epochOf m := by
  refine State.fld_bumpSeq_ne _ ?_
  simp only [Fld.key, Fld.at, F.FAB_MEMBER_EPOCH]
  omega

/-- The epochs of several members advance, each once. -/
theorem State.epochOf_bumps {l : List Nat} (hl : l.Nodup) (s : State) (m : Nat) :
    (l.foldl State.bumpEpoch s).epochOf m = if m ∈ l then (s.epochOf m + 1) % 65536 else s.epochOf m := by
  induction l generalizing s with
  | nil => rfl
  | cons d l ih =>
    obtain ⟨hd, hl⟩ := List.nodup_cons.mp hl
    rw [List.foldl_cons, ih hl]
    by_cases hm : m = d
    · subst hm
      rw [if_neg hd, if_pos List.mem_cons_self, State.epochOf_bump_same]
    · rw [State.epochOf_bump_ne s (Ne.symm hm)]
      simp [hm]

/-- Advancing epochs changes registers alone, and no fence counter. -/
theorem State.bumps_frame (l : List Nat) (hl : ∀ d ∈ l, d < 64) (s : State) :
    (∃ r, l.foldl State.bumpEpoch s = { s with regs := r }) ∧ (l.foldl State.bumpEpoch s).fld F.FAB_FENCE_COMPLETED = s.fld F.FAB_FENCE_COMPLETED := by
  induction l generalizing s with
  | nil => exact ⟨⟨s.regs, rfl⟩, rfl⟩
  | cons d l ih =>
    obtain ⟨⟨r, hr⟩, hf⟩ := ih (fun e he => hl e (List.mem_cons_of_mem _ he)) (s.bumpEpoch d)
    refine ⟨⟨r, by rw [List.foldl_cons, hr]; rfl⟩, ?_⟩
    rw [List.foldl_cons, hf]
    refine State.fld_bumpSeq_ne _ ?_
    have := hl d List.mem_cons_self
    simp only [Fld.key, Fld.at, F.FAB_MEMBER_EPOCH, F.FAB_FENCE_COMPLETED]
    omega

/-- A packet that may not be combined enters the switch core without a change to the requests. -/
theorem State.enqueue_uncombined {i e : Nat} {p : Packet} (h : combinable i p = false) : (s.enqueue i e p).fab = s.fab := by
  have hnone : s.combineWith i p = none := if_pos (.inl (by rw [h]; rfl))
  have hmax (t : State) (f : Fld) (v b : Nat) : (t.trackMax f v b).fab = t.fab := by
    obtain ⟨r, hr⟩ := t.trackMax_regs f v b
    rw [hr]
  unfold State.enqueue
  split
  · rfl
  · unfold State.enterVoq
    rw [hnone]
    dsimp only
    rw [hmax]
    split <;> rfl

/-- The answer to a fence of an agent. -/
def fenceAnswer (ident : Nat) : Packet := { op := opAGENT_FENCE + 0x80, vc := vcRSP, tag := ident }

/-- Fences have been answered: the switch core and the counters of fences and of the switch core differ. -/
structure FencesAnswered (s u : State) : Prop where
  eq : ∃ r w, u = { s with regs := r, sws := w }
  places : s.keepsPlaces u (F.FAB_FENCE_COMPLETED.place :: trafficPlaces)

theorem FencesAnswered.refl (s : State) : FencesAnswered s s := ⟨⟨_, _, rfl⟩, fun _ _ _ => rfl⟩

theorem FencesAnswered.trans (h : FencesAnswered s t) (h' : FencesAnswered t u) : FencesAnswered s u := by
  obtain ⟨⟨_, _, rfl⟩, hp⟩ := h
  obtain ⟨⟨r, w, rfl⟩, hp'⟩ := h'
  exact ⟨⟨r, w, rfl⟩, hp.trans hp'⟩

theorem FencesAnswered.answer (s : State) (a ident : Nat) : FencesAnswered s ((s.count F.FAB_FENCE_COMPLETED).toAgent a (fenceAnswer ident)) := by
  have htraffic : Traffic (s.count F.FAB_FENCE_COMPLETED) ((s.count F.FAB_FENCE_COMPLETED).toAgent a (fenceAnswer ident)) := .enqueue _ _ _ _
  have hfab : ((s.count F.FAB_FENCE_COMPLETED).toAgent a (fenceAnswer ident)).fab = s.fab :=
    State.enqueue_uncombined (by simp [combinable, fenceAnswer, opAGENT_FENCE, opLOAD, opATOMIC])
  obtain ⟨⟨r, f, w, heq⟩, hp, -⟩ := htraffic
  refine ⟨⟨r, w, ?_⟩, (s.keepsPlaces_setF _ _ List.mem_cons_self).trans (hp.mono (List.subset_cons_self _ _))⟩
  rw [heq] at hfab ⊢
  obtain rfl : f = s.fab := hfab
  rfl

theorem FencesAnswered.epochOf (h : FencesAnswered s u) {m : Nat} (hm : m < 64) : u.epochOf m = s.epochOf m := by
  refine h.places _ _ ?_
  simp only [trafficPlaces, Fld.place, Fld.at, F.FAB_MEMBER_EPOCH, F.FAB_FENCE_COMPLETED, F.SWS_VOQ_BYTES, F.SWS_VOQ_PEAK_BYTES,
    F.FAB_COMBINE_READS, F.FAB_COMBINE_ATOMICS, List.mem_cons, List.not_mem_nil, or_false]
  omega

/-- The fences of agents that are still open. -/
def State.openFences (s : State) : List Fence := s.fab.fences.filter (fun f => !(f.agent.isSome && s.fenceDone f))

theorem State.settleFences_answered (s : State) : FencesAnswered { s with fab.fences := s.openFences } s.settleFences := by
  unfold State.settleFences
  refine List.foldlRecOn (motive := fun t => FencesAnswered { s with fab.fences := s.openFences } t) _ _ (.refl _) fun t ht f _ => ht.trans ?_
  split
  · exact .answer t _ _
  · exact .refl t

section Fences
variable {a : Nat} {p : Packet} (hs : s.serves [17] = true) (ha : a < 32) (hop : p.op = opAGENT_FENCE)
include hs ha hop

theorem agentFence_answers (h : s.agentFence a p = t) : AnswersThen (.agentFence a p) s t := by
  refine core_answersThen (exec_agentFence s a p) hs ?_
  rw [if_pos hop, Nat.mod_eq_of_lt ha, h]

omit hs ha hop in
/-- The fences of an A-port. -/
def State.fencesOf (s : State) (a : Nat) : List Fence :=
  s.fab.fences.filter (fun f => match f.agent with | some (q, _) => q == aportCode a | none => false)

/-- A seventeenth fence is refused. -/
theorem agentFence_busy (h : 16 ≤ (s.fencesOf a).length) :
    AnswersThen (.agentFence a p) s (s.toAgent a { p with op := opAGENT_FENCE + 0x80, vc := vcRSP, status := Status.busy.code }) :=
  agentFence_answers hs ha hop (if_pos h)

omit hs ha hop in
/-- The fence of an agent over its requests and the markers that are out. -/
def State.fenceFor (s : State) (a : Nat) (p : Packet) : Fence :=
  ⟨some (aportCode a, p.tag % 65536), none, (s.aportReqs a).map (fun r => r.pkt.tag), s.fab.markers.map (fun m => m.number), 0⟩

/-- A fence advances the epochs, and waits for the requests before it. -/
theorem agentFence_waits (h : (s.fencesOf a).length < 16) :
    ∃ u, AnswersThen (.agentFence a p) s u ∧ u.mem = s.mem ∧
      (∀ m, m < 64 → s.memberState m = .active → u.epochOf m = (s.epochOf m + 1) % 65536) ∧
      (s.aportReqs a ≠ [] → ∃ f ∈ u.fab.fences, f.agent = some (aportCode a, p.tag % 65536) ∧ f.tags = (s.aportReqs a).map (fun r => r.pkt.tag)) ∧
      (s.aportReqs a = [] → s.fab.markers = [] → s.fab.fences = [] → s.counted u F.FAB_FENCE_COMPLETED ∧ u.fab.fences = []) := by
  have hmembers : ∀ d ∈ s.membersIn .active, d < 64 := fun d hd => List.mem_range.mp (List.mem_of_mem_filter hd)
  have hnodup : (s.membersIn .active).Nodup := List.nodup_range.filter _
  have hepoch := fun m => State.epochOf_bumps hnodup s m
  obtain ⟨⟨r, hr⟩, hcompleted⟩ := State.bumps_frame _ hmembers s
  rw [hr] at hepoch hcompleted
  have heq : s.agentFence a p =
      ({ s with regs := r, fab.fences := s.fab.fences ++ [s.fenceFor a p] } : State).settleFences := by
    have hunfold : s.agentFence a p = if (s.fencesOf a).length ≥ 16 then _ else
        ({ (s.membersIn .active).foldl State.bumpEpoch s with
          fab.fences := ((s.membersIn .active).foldl State.bumpEpoch s).fab.fences ++ [⟨some (aportCode a, p.tag % 65536), none,
            (s.aportReqs a).map (fun r => r.pkt.tag), ((s.membersIn .active).foldl State.bumpEpoch s).fab.markers.map (fun m => m.number), 0⟩] } :
              State).settleFences := rfl
    rw [hunfold, if_neg (by omega), hr]
    rfl
  have hans := State.settleFences_answered ({ s with regs := r, fab.fences := s.fab.fences ++ [s.fenceFor a p] } : State)
  refine ⟨_, agentFence_answers hs ha hop heq, ?_, fun m hm hact => ?_, fun hreqs => ?_, fun hreqs hmarkers hfences => ?_⟩
  · obtain ⟨⟨r', w, hu⟩, -⟩ := hans
    rw [hu]
  · rw [hans.epochOf hm]
    exact (hepoch m).trans (if_pos (List.mem_filter.mpr ⟨List.mem_range.mpr hm, by simp [hact]⟩))
  · obtain ⟨⟨r', w, hu⟩, -⟩ := hans
    refine ⟨s.fenceFor a p, ?_, rfl, rfl⟩
    rw [hu]
    refine List.mem_filter.mpr ⟨List.mem_append_right _ (List.mem_singleton_self _), ?_⟩
    obtain ⟨q, hq⟩ := List.exists_mem_of_ne_nil _ hreqs
    have hopen : ({ s with regs := r, fab.fences := s.fab.fences ++ [s.fenceFor a p] } : State).fenceDone (s.fenceFor a p) = false := by
      have hany : (s.fab.reqs ++ s.fab.waiting).any (fun r => (s.fenceFor a p).tags.contains r.pkt.tag) = true :=
        List.any_eq_true.mpr ⟨q, List.mem_of_mem_filter hq, by
          rw [List.contains_iff_mem]
          exact List.mem_map_of_mem hq⟩
      unfold State.fenceDone
      dsimp only
      rw [hany]
      rfl
    rw [hopen]
    rfl
  · have hdone : ({ s with regs := r, fab.fences := s.fab.fences ++ [s.fenceFor a p] } : State).fenceDone (s.fenceFor a p) = true := by
      simp [State.fenceDone, State.fenceFor, hreqs, hmarkers]
    have hnone : ({ s with regs := r, fab.fences := s.fab.fences ++ [s.fenceFor a p] } : State).openFences = [] := by
      unfold State.openFences
      rw [List.filter_eq_nil_iff]
      intro f hf
      have hmem : f ∈ s.fab.fences ++ [s.fenceFor a p] := hf
      rw [hfences, List.nil_append, List.mem_singleton] at hmem
      rw [hmem, hdone]
      simp [State.fenceFor]
    have hsettle : ({ s with regs := r, fab.fences := s.fab.fences ++ [s.fenceFor a p] } : State).settleFences =
        (({ s with regs := r, fab.fences := [] } : State).count F.FAB_FENCE_COMPLETED).toAgent (aportCode a - 0x40) (fenceAnswer (p.tag % 65536)) := by
      have hgo : (s.fab.fences ++ [s.fenceFor a p]).filter (fun f => f.agent.isSome &&
          ({ s with regs := r, fab.fences := s.fab.fences ++ [s.fenceFor a p] } : State).fenceDone f) = [s.fenceFor a p] := by
        rw [hfences] at hdone ⊢
        exact List.filter_cons_of_pos (by rw [List.nil_append] at hdone; rw [List.nil_append, hdone]; rfl)
      unfold State.settleFences
      dsimp only
      rw [hgo]
      rw [State.openFences] at hnone
      dsimp only at hnone
      rw [hnone]
      rfl
    have htraffic : Traffic (({ s with regs := r, fab.fences := [] } : State).count F.FAB_FENCE_COMPLETED)
        ((({ s with regs := r, fab.fences := [] } : State).count F.FAB_FENCE_COMPLETED).toAgent (aportCode a - 0x40) (fenceAnswer (p.tag % 65536))) :=
      .enqueue _ _ _ _
    refine ⟨?_, ?_⟩
    · rw [State.counted, hsettle, htraffic.fld (by decide), State.fld_count_same, State.fld_count_same, ← hcompleted]
      rfl
    · obtain ⟨⟨r', w, hu⟩, -⟩ := hans
      rw [hu]
      exact hnone

end Fences

/-! ### Flush, drop and expulsion -/

/-- FLUSH of an agent: the A-port is FLUSHING, and the agent is told to write everything back. -/
theorem State.flushAport_tells (s : State) (a : Nat) (byCommand : Bool) :
    ∃ v q, s.flushAport a byCommand = (v : State).toAgent a q ∧ q.op = 0x13 ∧ q.aux = 64 ∧ v.aportState a = apFLUSHING ∧
      (⟨a, false, false, false, [], byCommand, s.now⟩ ∈ v.home.drops) ∧ v.mem = s.mem :=
  ⟨_, _, rfl, rfl, rfl, State.fld_setF_same _ _ _ _, List.mem_append_right _ (List.mem_singleton_self _), rfl⟩

/-- Poisoning lines poisons each of them. -/
theorem State.poisonLines_poisoned (l : List Nat) (s : State) :
    (∀ a, s.mem.poisoned a = true → (l.foldl State.poisonLine s).mem.poisoned a = true) ∧
      ∀ line ∈ l, (l.foldl State.poisonLine s).mem.poisoned (dgaCell (line * 64)) = true := by
  have hkeep (t : State) (line a : Nat) (h : t.mem.poisoned a = true) : (t.poisonLine line).mem.poisoned a = true := by
    obtain ⟨r, hp, -⟩ := t.poisonLine_spec line
    rw [hp]
    dsimp only
    rw [Mem.poisoned, Mem.setPoison]
    by_cases hk : dgaCell (line * 64) / 64 = a / 64
    · rw [hk, Tbl.getD_store_same]
    · rw [Tbl.getD_store_ne _ _ _ _ hk]
      exact h
  induction l generalizing s with
  | nil => exact ⟨fun _ h => h, fun _ h => by cases h⟩
  | cons x l ih =>
    obtain ⟨hall, hline⟩ := ih (s.poisonLine x)
    refine ⟨fun a h => hall a (hkeep s x a h), fun line hl => ?_⟩
    rcases List.mem_cons.mp hl with rfl | hl
    · obtain ⟨r, hp, -⟩ := s.poisonLine_spec line
      refine hall _ ?_
      rw [hp]
      exact Mem.poisoned_setPoison_same _ _
    · exact hline line hl

theorem State.poisonLines_frame (l : List Nat) (s : State) : ∃ r m, l.foldl State.poisonLine s = { s with regs := r, mem := m } := by
  induction l generalizing s with
  | nil => exact ⟨s.regs, s.mem, rfl⟩
  | cons x l ih =>
    obtain ⟨r, m, h⟩ := ih (s.poisonLine x)
    obtain ⟨r', hp, -⟩ := s.poisonLine_spec x
    exact ⟨r, m, by rw [List.foldl_cons, h, hp]⟩

/-- The entries of an agent are gone, and the lines it held in E are poisoned where that is asked for. -/
theorem State.dropAgents_spec (s : State) (agent : Nat) (poison : Bool) :
    (∀ e, e ∈ (s.dropAgents (· == agent) poison).2.2.home.filter ↔ e ∈ s.home.filter ∧ e.agent ≠ agent) ∧
    (s.dropAgents (· == agent) poison).2.2.home.scans = s.home.scans ∧
    (poison = false → (s.dropAgents (· == agent) poison).2.2.mem = s.mem) ∧
    (poison = true → ∀ e ∈ s.home.filter, e.agent = agent → e.state = .x →
      (s.dropAgents (· == agent) poison).2.2.mem.poisoned (dgaCell (e.line * 64)) = true) := by
  unfold State.dropAgents
  cases poison with
  | false =>
    refine ⟨fun e => ?_, rfl, fun _ => rfl, fun h => (nomatch h)⟩
    exact List.mem_filter.trans (by simp)
  | true =>
    dsimp only
    obtain ⟨r, m, hframe⟩ := State.poisonLines_frame ((s.home.filter.filter (fun e => e.agent == agent && e.state == .x)).map (fun e => e.line)) s
    obtain ⟨-, hline⟩ := State.poisonLines_poisoned ((s.home.filter.filter (fun e => e.agent == agent && e.state == .x)).map (fun e => e.line)) s
    rw [if_pos rfl]
    rw [hframe] at hline ⊢
    refine ⟨fun e => ?_, rfl, fun h => (nomatch h), fun _ e he hag hx => ?_⟩
    · exact List.mem_filter.trans (by simp)
    · exact hline e.line (List.mem_map.mpr ⟨e, List.mem_filter.mpr ⟨he, by simp [hag, hx]⟩, rfl⟩)

theorem State.windowTaken_home (s : State) (p : Packet) : (s.windowTaken p).home = s.home := by
  unfold State.windowTaken
  split <;> rfl

section Homes
variable {a : Nat} {p : Packet} (hs : s.serves [18] = true)
include hs

theorem agentFlush_answers (ha : a < 32) {owner : Nat} {every : Bool} (h : s.agentFlush a owner every = t) :
    AnswersThen (.agentFlush a owner every) s t := by
  refine core_answersThen (exec_agentFlush s a owner every) hs ?_
  rw [Nat.mod_eq_of_lt ha, h]

theorem agentDrop_scans (hfail : s.dom.selfFailed = false) (hfresh : s.fresh p) (hop : p.op = 0x14) :
    ∃ u, AnswersThen (.agentDrop p) s u ∧ u.home.scans = s.home.scans ++ [⟨p, p.aux % 2048, bitAt p.aux 11⟩] ∧ u.mem = s.mem ∧
      u.home.filter = s.home.filter := by
  have ht := (Taken.take s p).trans (.windowTaken _ p)
  have hfresh' : (s.take p).fresh p := hfresh
  have hscans : ((s.take p).windowTaken p).home.scans = s.home.scans := congrArg Home.scans (State.windowTaken_home (s.take p) p)
  refine ⟨{ (s.take p).windowTaken p with
      home.scans := ((s.take p).windowTaken p).home.scans ++ [⟨p, p.aux % 2048, bitAt p.aux 11⟩] },
    core_answersThen (exec_agentDrop s p) hs ?_, congrArg (· ++ _) hscans, ht.mem, ht.filter⟩
  rw [State.serving_serves (by simp [hop]) hfail, State.agentDrop, State.dedup_fresh hfresh']

theorem agentExpel_expels (hfail : s.dom.selfFailed = false) (hfresh : s.fresh p) (hop : p.op = 0x15) (ha : p.aux % 32 = a) :
    (∃ v, AnswersThen (.agentExpel p) s (((v : State).expelAport a false (fun s => s.holdPort (0x40 + a))).finish p .done) ∧ v.home = s.home ∧
      v.mem = s.mem ∧ v.dom = s.dom) ∧
    (s.aportState a ≠ apATTACHED → s.aportState a ≠ apFLUSHING →
      ∃ v, AnswersThen (.agentExpel p) s ((v : State).finish p .done) ∧ v.home = s.home ∧ v.mem = s.mem) := by
  have ht := (Taken.take s p).trans (.windowTaken _ p)
  have hfresh' : (s.take p).fresh p := hfresh
  have hans : AnswersThen (.agentExpel p) s
      ((((s.take p).windowTaken p).expelAport a false (fun s => s.holdPort (0x40 + a))).finish p .done) := by
    refine core_answersThen (exec_agentExpel s p) hs ?_
    rw [State.serving_serves (by simp [hop]) hfail, State.dedup_fresh hfresh', ha]
  refine ⟨⟨_, hans, State.windowTaken_home (s.take p) p, ht.mem, ht.dom⟩,
    fun h₁ h₂ => ⟨(s.take p).windowTaken p, ?_, State.windowTaken_home (s.take p) p, ht.mem⟩⟩
  have hst : ((s.take p).windowTaken p).aportState a = s.aportState a := by
    refine ht.fld ?_ 0
    have : a < 32 := ha ▸ Nat.mod_lt _ (by decide)
    simp only [homePlaces, Fld.place, Fld.at, F.HOME_FILTER_BUSY, F.FAB_DEDUP_IN_USE, F.HOME_APORT_STATE, List.mem_cons, List.not_mem_nil, or_false]
    omega
  rw [State.expelAport, if_neg (by rw [hst]; exact fun h => h.elim h₁ h₂)] at hans
  exact hans

theorem agentDropScan_ends {d : DropScan} (hd : s.home.scans.find? (fun d => d.pkt.src == p.src && d.pkt.tag == p.tag) = some d) :
    ∃ v, AnswersThen (.agentDropScanDone p.src p.tag) s ((v : State).finish d.pkt .done) ∧ d ∉ v.home.scans ∧
      (∀ e, e ∈ v.home.filter ↔ e ∈ s.home.filter ∧ e.agent ≠ d.agent) ∧ (d.poison = false → v.mem = s.mem) ∧
      (d.poison = true → ∀ e ∈ s.home.filter, e.agent = d.agent → e.state = .x → v.mem.poisoned (dgaCell (e.line * 64)) = true) := by
  have heq : s.dropScanDone p.src p.tag =
      (({ s with home.scans := s.home.scans.filter (fun e => !(e == d)) } : State).dropAgents (· == d.agent) d.poison).2.2.finish d.pkt .done := by
    unfold State.dropScanDone
    rw [hd]
  obtain ⟨hfilter, hscans, hmem, hpoison⟩ :=
    State.dropAgents_spec ({ s with home.scans := s.home.scans.filter (fun e => !(e == d)) } : State) d.agent d.poison
  refine ⟨_, core_answersThen (exec_agentDropScanDone s p.src p.tag) hs heq, ?_, hfilter, hmem, hpoison⟩
  rw [hscans]
  simp

end Homes

/-! ### A seat's FLUSH and EXPEL -/

section Seat
variable {ch : ChanId} {m a : Nat} {x : SeatId} (h : s.commandedBy ch m x) (ha : a < 32)
include h ha

theorem aportFlush_answers (hcmd : (s.asked ch).aportCmd x m 1 a = t) : AnswersThen (.aportFlush ch a) s t := by
  refine seat_answersThen (exec_aportFlush s ch a) h ?_
  rw [Nat.mod_eq_of_lt ha, hcmd]

theorem aportExpel_answers (hcmd : (s.asked ch).aportCmd x m 2 a = t) : AnswersThen (.aportExpel ch a) s t := by
  refine seat_answersThen (exec_aportExpel s ch a) h ?_
  rw [Nat.mod_eq_of_lt ha, hcmd]

theorem aportCommands :
    (s.aportState a = apATTACHED → ∃ v q, AnswersThen (.aportFlush ch a) s ((v : State).toAgent a q) ∧ q.op = 0x13 ∧ q.aux = 64 ∧
      v.aportState a = apFLUSHING ∧ (∃ e ∈ v.home.drops, e.aport = a ∧ e.byCommand = true) ∧ v.mem = s.mem) ∧
    (s.aportState a ≠ apATTACHED → ∃ u, AnswersThen (.aportFlush ch a) s u ∧ (s.asked ch).reports u x m 0x100200 .stateConflict) ∧
    (s.aportState a = apATTACHED ∨ s.aportState a = apFLUSHING →
      AnswersThen (.aportExpel ch a) s ((s.asked ch).expelAport a true (fun s => s.holdPort (0x40 + a)))) ∧
    (s.aportState a ≠ apATTACHED → s.aportState a ≠ apFLUSHING →
      ∃ u, AnswersThen (.aportExpel ch a) s u ∧ (s.asked ch).reports u x m 0x100200 .stateConflict) := by
  have hst : (s.asked ch).aportState a = s.aportState a := s.asked_fld ch _ _
  have hcmd (op : Nat) (h0 : op ≠ 0) (h3 : op ≠ 3) : (s.asked ch).aportCmd x m op a =
      if (op = 1 ∧ s.aportState a ≠ apATTACHED) ∨ (s.aportState a ≠ apATTACHED ∧ s.aportState a ≠ apFLUSHING) then
        (s.asked ch).seatErr x m 0x100200 .stateConflict
      else if op = 1 then (s.asked ch).flushAport a true
      else (s.asked ch).expelAport a true (fun s => s.holdPort (0x40 + a)) := by
    rw [State.aportCmd]
    rw [if_neg h0, if_neg h3, hst]
  refine ⟨fun hat => ?_, fun hat => ?_, fun hat => ?_, fun h₁ h₂ => ?_⟩
  · obtain ⟨v, q, hv, hop, haux, hflush, hdrop, hmem⟩ := (s.asked ch).flushAport_tells a true
    refine ⟨v, q, aportFlush_answers h ha ?_, hop, haux, hflush, ⟨_, hdrop, rfl, rfl⟩, hmem.trans (s.asked_mem ch)⟩
    rw [hcmd 1 (by decide) (by decide), if_neg (by simp [hat]), if_pos rfl, hv]
  · exact ⟨_, aportFlush_answers h ha ((hcmd 1 (by decide) (by decide)).trans (if_pos (.inl ⟨rfl, hat⟩))), State.seatErr_reports _ _ _ _ _⟩
  · refine aportExpel_answers h ha ?_
    rw [hcmd 2 (by decide) (by decide), if_neg, if_neg (by decide)]
    rintro (⟨h2, -⟩ | ⟨h₁, h₂⟩)
    · cases h2
    · exact hat.elim h₁ h₂
  · exact ⟨_, aportExpel_answers h ha ((hcmd 2 (by decide) (by decide)).trans (if_pos (.inr ⟨h₁, h₂⟩))), State.seatErr_reports _ _ _ _ _⟩

end Seat

/-- Settles O39: requests by the lemmas on `agentServe`, fences by `agentFence_waits`, drops by `dropAgents_spec`, a seat's commands by
`aportCommands`. -/
theorem agents : Obligations.Agents := by
  unfold Obligations.Agents
  refine ⟨fun s a d p q x hs ha hq => ⟨fun st hf => ?_, fun hf hvc hpol => ?_, fun hf hop hmode => ?_, fun hop => ⟨agentFence_busy hs ha hop,
    agentFence_waits hs ha hop⟩⟩, fun s ch m a owner x p d ha => ⟨fun hs => ⟨fun hst every => ?_, fun hst => ⟨?_, ?_⟩, fun hfail hfresh =>
      ⟨agentDrop_scans hs hfail hfresh, agentExpel_expels hs hfail hfresh⟩, agentDropScan_ends hs⟩, fun h => aportCommands h ha⟩⟩
  · have hf' : s.agentFault a q = some st := by rw [hq]; exact hf
    refine core_answersThen (exec_agentRequest_lt ha p) hs ?_
    rw [State.agentRequest, hf, if_pos (.inl rfl), ← hq, State.agentServe, hf']
  · refine core_answersThen (exec_agentRequest_lt ha p) hs ?_
    rw [State.agentRequest, hf, if_neg (by simp [hvc])]
    generalize s.police (aportCode a) p.vc p.bytes = r at hpol ⊢
    obtain ⟨o, v⟩ := r
    obtain rfl : o = none := hpol
    rfl
  · have hserve : s.agentRequest a p = s.agentServe a q := by rw [State.agentRequest_served hf hmode, hq]
    refine ⟨fun hheld => ?_, fun hheld => ⟨fun st addr ht => ?_, fun ht hr => ?_⟩⟩
    · exact ⟨_, core_answersThen (exec_agentRequest_lt ha p) hs (hserve.trans (State.agentServe_held hq hf hop hheld)), rfl, rfl, rfl⟩
    · refine ⟨_, core_answersThen (exec_agentRequest_lt ha p) hs (hserve.trans (State.agentServe_untranslated hq hf hop hheld ht)),
        State.noteFault_frame _ _ _ _⟩
    · obtain ⟨hmem, hasks⟩ := State.agentServe_forwarded hq hf hop hheld ht hr
      exact ⟨_, core_answersThen (exec_agentRequest_lt ha p) hs hserve, hmem, hasks⟩
  · exact agentFlush_answers hs ha (if_pos hst)
  · obtain ⟨v, q, hv, hop, haux, hflush, hdrop, hmem⟩ := s.flushAport_tells a false
    refine ⟨v, q, agentFlush_answers hs ha ?_, hop, haux, hflush, ⟨_, hdrop, rfl, rfl⟩, hmem⟩
    rw [State.agentFlush, if_neg (by simp [hst]), if_pos rfl, hv]
  · refine ⟨{ op := 0x13, vc := vcSNOOP, addr := mkDga owner 0 0, aux := owner % 64, tag := owner % 64,
              pkey := (match s.sliceOfAport a with | some (_, sl) => s.keyOf sl.partition | none => 0) }, agentFlush_answers hs ha ?_, rfl, rfl⟩
    exact (if_neg (fun h => h hst)).trans (if_neg (by decide))

end Sys2Proof.Machine
end

section
/-! Collectives of this member: arriving REDUCE packets, held and not, their timeout, and the kept statuses (spec/11 R336 to R345). -/

namespace Sys2Proof.Machine
variable {s t u : State}

theorem Taken.coll (h : Taken s u) : u.coll = s.coll := by obtain ⟨⟨_, _, _, _, rfl⟩, -⟩ := h; rfl

/-! ### Runs, changed in place -/

theorem State.collRun_mem {tag : Nat} {r : CollRun} (h : s.collRun tag = some r) : r ∈ s.coll.runs := List.mem_of_find?_eq_some h

theorem State.collRun_tag {tag : Nat} {r : CollRun} (h : s.collRun tag = some r) : r.tag = tag := by
  unfold State.collRun at h
  simpa using List.find?_some h

theorem State.collRun_modColl {tag : Nat} {r : CollRun} (h : s.collRun tag = some r) (f : CollRun → CollRun) (hf : ∀ q, (f q).tag = q.tag) :
    (s.modColl tag f).collRun tag = some (f r) := by
  have htag : (r.tag == tag) = true := by simp [State.collRun_tag h]
  have hcomp : ((fun q : CollRun => q.tag == tag) ∘ fun q => if q.tag == tag then f q else q) = fun q => q.tag == tag := by
    funext q
    simp only [Function.comp]
    split <;> simp [hf]
  unfold State.collRun State.modColl at *
  rw [List.find?_map, hcomp, h, Option.map_some, if_pos htag]

theorem State.mem_modColl {tag : Nat} {r : CollRun} (h : s.collRun tag = some r) (f : CollRun → CollRun) : f r ∈ (s.modColl tag f).coll.runs :=
  List.mem_map.mpr ⟨r, State.collRun_mem h, if_pos (by simp [State.collRun_tag h])⟩

/-! ### Contributions -/

/-- The elements of a packet, put one after another from a position on. -/
theorem Tbl.get?_putAll {α : Type} (base : Nat) : ∀ (l : List (α × Nat)), (l.map Prod.snd).Nodup → ∀ (t : Tbl α), ∀ e ∈ l,
    (l.foldl (fun t e => Tbl.put t (base + e.2) e.1) t).get? (base + e.2) = some e.1 := by
  intro l
  induction l using List.reverseRecOn with
  | nil => intro _ _ e he; cases he
  | append_singleton l x ih =>
    intro hn t e he
    rw [List.foldl_append, List.foldl_cons, List.foldl_nil]
    rw [List.map_append, List.nodup_append] at hn
    obtain ⟨hl, -, hx⟩ := hn
    rcases List.mem_append.mp he with he | he
    · have hne : e.2 ≠ x.2 := hx e.2 (List.mem_map_of_mem he) x.2 (by simp)
      rw [Tbl.get?_put_ne _ _ (by omega), ih hl t e he]
    · rw [List.mem_singleton.mp he, Tbl.get?_put_same]

theorem State.collAccumulate_holds {tag rank c pos : Nat} {r : CollRun} {w : Work} {xs : List MElem} (hr : s.collRun tag = some r)
    (hw : s.workOf tag = some w) :
    (s.collAccumulate tag rank c pos xs).mem = s.mem ∧ (s.collAccumulate tag rank c pos xs).works = s.works ∧
      ∃ q ∈ (s.collAccumulate tag rank c pos xs).coll.runs, q.tag = r.tag ∧ ((q.reduced.get? c).isSome = true ∨
        ∀ e ∈ xs.zipIdx, (q.slots.getD c []).get? (rank * 1024 + pos + e.2) = some e.1) := by
  have hput := Tbl.get?_putAll (rank * 1024 + pos) xs.zipIdx (by rw [List.zipIdx_map_snd]; exact List.nodup_range') (r.slots.getD c [])
  unfold State.collAccumulate
  rw [hr, hw]
  dsimp only
  generalize xs.zipIdx.foldl (fun t e => Tbl.put t (rank * 1024 + pos + e.2) e.1) (r.slots.getD c []) = slot at hput ⊢
  split
  · refine ⟨rfl, rfl, _, State.mem_modColl (s := { s with free := _ }) hr _, rfl, .inl ?_⟩
    rw [Tbl.get?_put_same]; rfl
  · refine ⟨rfl, rfl, _, State.mem_modColl hr _, rfl, .inr ?_⟩
    have hslot : (r.slots.put c slot).getD c [] = slot := by rw [Tbl.getD, Tbl.get?_put_same]; rfl
    dsimp only
    rw [hslot]
    exact hput

/-! ### A packet of a collective arrives -/

/-- The state in which an arriving REDUCE packet is served. -/
def State.reduceTaken (s : State) (p : Packet) : State := (s.take p).windowTaken p

theorem Taken.reduceTaken (s : State) (p : Packet) : Taken s (s.reduceTaken p) := (Taken.take s p).trans (.windowTaken _ p)

/-- The participant has heard of its collective. -/
def State.collHeard (s : State) (tag : Nat) : State := s.modColl tag (fun r => { r with lastHeard := s.now })

theorem Taken.collFor (h : Taken s u) (key id : Nat) : u.collFor key id = s.collFor key id := by rw [State.collFor, State.collFor, h.coll]

theorem Taken.collRun (h : Taken s u) (tag : Nat) : u.collRun tag = s.collRun tag := by rw [State.collRun, State.collRun, h.coll]

theorem Taken.workOf (h : Taken s u) (tag : Nat) : u.workOf tag = s.workOf tag := by rw [State.workOf, State.workOf, h.works]

theorem State.collHeard_run {r : CollRun} (hr : s.collRun r.tag = some r) (p : Packet) :
    ((s.reduceTaken p).collHeard r.tag).collRun r.tag = some { r with lastHeard := (s.reduceTaken p).now } :=
  State.collRun_modColl (((Taken.reduceTaken s p).collRun r.tag).trans hr) _ (fun _ => rfl)

section Arriving
variable {p : Packet} (hfresh : s.fresh p)
include hfresh

theorem State.reduce_dedup (f : State → State) : (s.take p).dedup p f = f (s.reduceTaken p) :=
  State.dedup_fresh (s := s.take p) hfresh f

theorem State.collServe_notHeld (h : s.collFor p.pkey (p.addr / 2 ^ 32) = none) (f : State → CollRun → Work → State) :
    (s.take p).collServe p f = (s.reduceTaken p).finish p .stateConflict := by
  rw [State.collServe, State.reduce_dedup hfresh, (Taken.reduceTaken s p).collFor, h]

theorem State.collServe_held {r : CollRun} {w : Work} (h : s.collFor p.pkey (p.addr / 2 ^ 32) = some r) (hw : s.workOf r.tag = some w)
    (f : State → CollRun → Work → State) : (s.take p).collServe p f = f ((s.reduceTaken p).collHeard r.tag) r w := by
  rw [State.collServe, State.reduce_dedup hfresh, (Taken.reduceTaken s p).collFor, h]
  dsimp only
  rw [(Taken.reduceTaken s p).workOf, hw]
  rfl

end Arriving

theorem State.reduceIn_contrib {p : Packet} (h : p.aux % 8 = 0) : s.reduceIn p = s.contribIn p := by rw [State.reduceIn, h]; rfl
theorem State.reduceIn_result {p : Packet} (h : p.aux % 8 = 1) : s.reduceIn p = s.resultIn p := by rw [State.reduceIn, h]; rfl
theorem State.reduceIn_digest {p : Packet} (h : p.aux % 8 = 2) : s.reduceIn p = s.digestIn p := by rw [State.reduceIn, h]; rfl

/-- The service of a collective's packet by its own instruction, of island 17. -/
theorem collPacket_answersThen {i : Instr} {p : Packet} {k : Nat} {g : State → State} (hs : s.serves [17] = true) (hf : s.dom.selfFailed = false)
    (hop : p.op = opREDUCE) (haux : p.aux % 8 = k) (hi : exec i s = s.runOn [17] (fun s => s.serving p (isReduce p k) g))
    (hg : g (s.take p) = t) : AnswersThen i s t :=
  core_answersThen hi hs ((State.serving_serves (by simp [isReduce, hop, haux]) hf g).trans hg)

/-- The service of a collective's packet by REDUCE, which serves each subkind alike. -/
theorem reduce_answersThen {p : Packet} (hs : s.serves [17] = true) (hf : s.dom.selfFailed = false) (hop : p.op = opREDUCE) (haux : p.aux % 8 < 5)
    (hg : (s.take p).reduceIn p = t) : AnswersThen (.reduce p) s t := by
  have hisl : reduceIsland p = 17 := if_neg (by omega)
  refine core_answersThen (g := fun s => s.serving p (p.op == opREDUCE) (fun s => s.reduceIn p)) ((exec_reduce s p).trans ?_) hs
    ((State.serving_serves (kind := p.op == opREDUCE) (by simp [hop]) hf (fun s => s.reduceIn p)).trans hg)
  rw [execReduce, hisl]

section Served
variable {p : Packet} (hs : s.serves [17] = true) (hf : s.dom.selfFailed = false) (hop : p.op = opREDUCE)
include hs hf hop

theorem contrib_answersThen {i : Instr} (hi : i ∈ [Instr.contrib p, .reduce p]) (haux : p.aux % 8 = 0) (h : (s.take p).contribIn p = t) :
    AnswersThen i s t := by
  simp only [List.mem_cons, List.not_mem_nil, or_false] at hi
  rcases hi with rfl | rfl
  · exact collPacket_answersThen hs hf hop haux (exec_contrib s p) h
  · exact reduce_answersThen hs hf hop (by omega) ((State.reduceIn_contrib haux).trans h)

theorem result_answersThen {i : Instr} (hi : i ∈ [Instr.result p, .reduce p]) (haux : p.aux % 8 = 1) (h : (s.take p).resultIn p = t) :
    AnswersThen i s t := by
  simp only [List.mem_cons, List.not_mem_nil, or_false] at hi
  rcases hi with rfl | rfl
  · exact collPacket_answersThen hs hf hop haux (exec_result s p) h
  · exact reduce_answersThen hs hf hop (by omega) ((State.reduceIn_result haux).trans h)

theorem digest_answersThen {i : Instr} (hi : i ∈ [Instr.digest p, .reduce p]) (haux : p.aux % 8 = 2) (h : (s.take p).digestIn p = t) :
    AnswersThen i s t := by
  simp only [List.mem_cons, List.not_mem_nil, or_false] at hi
  rcases hi with rfl | rfl
  · exact collPacket_answersThen hs hf hop haux (exec_digest s p) h
  · exact reduce_answersThen hs hf hop (by omega) ((State.reduceIn_digest haux).trans h)

variable (hfresh : s.fresh p)
include hfresh

/-! ### A packet of a collective that is not held here -/

section NotHeld
variable (hnone : s.collFor p.pkey (p.addr / 2 ^ 32) = none)
include hnone

theorem notHeld_conflicts {c : Instr × Nat} (hc : c ∈ [(Instr.contrib p, 0), (.result p, 1), (.digest p, 2)]) (haux : p.aux % 8 = c.2) {i : Instr}
    (hi : i ∈ [c.1, .reduce p]) :
    ∃ v, AnswersThen i s ((v : State).finish p .stateConflict) ∧ v.coll = s.coll ∧ v.mem = s.mem := by
  have ht := Taken.reduceTaken s p
  refine ⟨s.reduceTaken p, ?_, ht.coll, ht.mem⟩
  simp only [List.mem_cons, List.not_mem_nil, or_false] at hc
  rcases hc with rfl | rfl | rfl
  · exact contrib_answersThen hs hf hop hi haux (State.collServe_notHeld hfresh hnone _)
  · exact result_answersThen hs hf hop hi haux (State.collServe_notHeld hfresh hnone _)
  · exact digest_answersThen hs hf hop hi haux (State.collServe_notHeld hfresh hnone _)

theorem notHeld_grant (haux : p.aux % 8 = 3) :
    ∃ v, AnswersThen (.grant p) s ((v : State).finish p .done) ∧ v.coll.runs = s.coll.runs ∧
      (⟨p.pkey, p.addr / 2 ^ 32, p.src, p.addr % 2 ^ 32, field p.payload 0 4⟩ : EarlyGrant) ∈ v.coll.early := by
  have ht := Taken.reduceTaken s p
  have hruns : (s.reduceTaken p).coll.runs = s.coll.runs := congrArg Coll.runs ht.coll
  refine ⟨{ s.reduceTaken p with
      coll.early := (s.reduceTaken p).coll.early.filter (fun g => !(g.key == p.pkey && g.id == p.addr / 2 ^ 32 && g.src == p.src)) ++
        [⟨p.pkey, p.addr / 2 ^ 32, p.src, p.addr % 2 ^ 32, field p.payload 0 4⟩] },
    collPacket_answersThen hs hf hop haux (exec_grant s p) ?_, hruns, List.mem_append_right _ (List.mem_singleton_self _)⟩
  rw [State.grantIn, State.reduce_dedup hfresh]
  dsimp only
  rw [ht.collFor, hnone]

theorem notHeld_abort (haux : p.aux % 8 = 4) :
    ∃ u, AnswersThen (.collectiveAbort p) s u ∧ u.coll.runs = s.coll.runs ∧ u.mem = s.mem ∧
      u.coll.aborts = s.coll.aborts ++ [⟨p.pkey, p.addr / 2 ^ 32, .ofCode (bitsOf p.aux 8 8), s.now⟩] := by
  have ht := Taken.reduceTaken s p
  have hfin := Traffic.finish (s.reduceTaken p) p .done [] 0
  have hfor : ((s.reduceTaken p).finish p .done).collFor p.pkey (p.addr / 2 ^ 32) = none := by
    rw [State.collFor, hfin.coll]
    exact (ht.collFor _ _).trans hnone
  have hans : AnswersThen (.collectiveAbort p) s { (s.reduceTaken p).finish p .done with
      coll.aborts := ((s.reduceTaken p).finish p .done).coll.aborts ++
        [⟨p.pkey, p.addr / 2 ^ 32, .ofCode (bitsOf p.aux 8 8), ((s.reduceTaken p).finish p .done).now⟩] } := by
    refine collPacket_answersThen hs hf hop haux (exec_collectiveAbort s p) ?_
    rw [State.collAbortIn, State.reduce_dedup hfresh]
    dsimp only
    rw [hfor]
  have hruns : ((s.reduceTaken p).finish p .done).coll.runs = s.coll.runs := congrArg Coll.runs (hfin.coll.trans ht.coll)
  refine ⟨_, hans, hruns, hfin.mem.trans ht.mem, ?_⟩
  dsimp only
  rw [hfin.coll, hfin.now, ht.coll, ht.now]

end NotHeld

/-! ### A packet of a collective that is held here -/

section Held
variable {r : CollRun} {w : Work} (hfor : s.collFor p.pkey (p.addr / 2 ^ 32) = some r) (hw : s.workOf r.tag = some w)
include hfor hw

theorem held_notOpened (haux : p.aux % 8 = 0) (ho : r.opened = false) :
    ∃ v, AnswersThen (.contrib p) s ((v : State).finish p .stateConflict) ∧ v.mem = s.mem := by
  refine ⟨(s.reduceTaken p).collHeard r.tag, contrib_answersThen hs hf hop (by simp) haux ?_, (Taken.reduceTaken s p).mem⟩
  rw [State.contribIn, State.collServe_held hfresh hfor hw, if_pos (by simp [ho])]

variable (hr : s.collRun r.tag = some r)
include hr

theorem held_contribution (haux : p.aux % 8 = 0) (ho : r.opened = true) {i : Instr} (hi : i ∈ [Instr.contrib p, .reduce p]) :
    ∃ v, AnswersThen i s ((v : State).finish p .done) ∧ v.mem = s.mem ∧ v.works = s.works ∧
      ∀ j, j = p.addr % 2 ^ 32 - shardFirst w.desc (collRank w.desc s.devnum) →
        ∃ q ∈ v.coll.runs, q.tag = r.tag ∧ ((q.reduced.get? (j / 1024)).isSome = true ∨ ∀ e ∈ (packetElems (collElem w.desc) p).zipIdx,
          (q.slots.getD (j / 1024) []).get? (collRank w.desc p.src * 1024 + j % 1024 + e.2) = some e.1) := by
  have ht := Taken.reduceTaken s p
  have hdev : ((s.reduceTaken p).collHeard r.tag).devnum = s.devnum := ht.sameTiers.devnum
  have hrun : (((s.reduceTaken p).collHeard r.tag).collIn (p.size + 1)).collRun r.tag = some { r with lastHeard := (s.reduceTaken p).now } :=
    State.collHeard_run hr p
  have hwork : (((s.reduceTaken p).collHeard r.tag).collIn (p.size + 1)).workOf r.tag = some w := (ht.workOf r.tag).trans hw
  generalize hj : p.addr % 2 ^ 32 - shardFirst w.desc (collRank w.desc s.devnum) = j₀
  obtain ⟨hmem, hworks, hruns⟩ := State.collAccumulate_holds (rank := collRank w.desc p.src) (c := j₀ / 1024) (pos := j₀ % 1024)
    (xs := packetElems (collElem w.desc) p) hrun hwork
  refine ⟨_, contrib_answersThen hs hf hop hi haux ?_, hmem.trans ht.mem, hworks.trans ht.works, ?_⟩
  · rw [State.contribIn, State.collServe_held hfresh hfor hw, if_neg (by simp [ho])]
    dsimp only
    rw [hdev, hj]
  · rintro j rfl
    exact hruns

theorem held_result (haux : p.aux % 8 = 1) :
    ∃ v, AnswersThen (.result p) s ((v : State).collStoreResult r.tag (p.addr % 2 ^ 32) (packetElems (collElem w.desc) p) (some p)) ∧
      v.mem = s.mem ∧ v.works = s.works ∧ ∃ q ∈ v.coll.runs, q.tag = r.tag ∧ q.recv = r.recv ∧ q.stores = r.stores := by
  have ht := Taken.reduceTaken s p
  exact ⟨(s.reduceTaken p).collHeard r.tag, result_answersThen hs hf hop (by simp) haux (State.collServe_held hfresh hfor hw _), ht.mem, ht.works, _,
    State.collRun_mem (State.collHeard_run hr p), rfl, rfl, rfl⟩

theorem held_digest (haux : p.aux % 8 = 2) :
    ∃ v, AnswersThen (.digest p) s ((v : State).finish p .done) ∧ v.mem = s.mem ∧ ∃ q ∈ v.coll.runs, q.tag = r.tag ∧
      (bitAt (field (p.payload.take 64) 37 1) 4 = false → q.records.get? (collRank w.desc p.src) = some (p.payload.take 64, false)) ∧
      (bitAt (field (p.payload.take 64) 37 1) 4 = true → q.recvRecords.get? (p.addr % 2 ^ 32) = some (p.payload.take 64, false)) := by
  have ht := Taken.reduceTaken s p
  have hrun := State.collHeard_run hr p
  cases hb : bitAt (field (p.payload.take 64) 37 1) 4 with
  | true =>
    refine ⟨((s.reduceTaken p).collHeard r.tag).modColl r.tag
        (fun r => { r with recvRecords := r.recvRecords.put (p.addr % 2 ^ 32) (p.payload.take 64, false) }),
      digest_answersThen hs hf hop (by simp) haux ?_, ht.mem, _, State.mem_modColl hrun _, rfl, (nomatch ·), fun _ => Tbl.get?_put_same _ _ _⟩
    rw [State.digestIn, State.collServe_held hfresh hfor hw]
    dsimp only
    rw [hb, if_pos rfl]
  | false =>
    refine ⟨((s.reduceTaken p).collHeard r.tag).modColl r.tag
        (fun r => { r with records := r.records.put (collRank w.desc p.src) (p.payload.take 64, false) }),
      digest_answersThen hs hf hop (by simp) haux ?_, ht.mem, _, State.mem_modColl hrun _, rfl, fun _ => Tbl.get?_put_same _ _ _, (nomatch ·)⟩
    rw [State.digestIn, State.collServe_held hfresh hfor hw]
    dsimp only
    rw [hb, if_neg (by decide)]

theorem held_grant (haux : p.aux % 8 = 3) (hg : r.granters.contains p.src = true ∨ field p.payload 0 4 = r.dcrc) :
    ∃ u, AnswersThen (.grant p) s u ∧ u.mem = s.mem ∧
      ∃ q ∈ u.coll.runs, q.tag = r.tag ∧ q.limits.get? (collRank w.desc p.src) = some (p.addr % 2 ^ 32) := by
  have ht := Taken.reduceTaken s p
  have hfin := Traffic.finish (s.reduceTaken p) p .done [] 0
  have hrun : ((s.reduceTaken p).finish p .done).collRun r.tag = some r := by
    rw [State.collRun, hfin.coll]
    exact (ht.collRun r.tag).trans hr
  have hans : AnswersThen (.grant p) s (((s.reduceTaken p).finish p .done).modColl r.tag (fun r => { r with
      limits := r.limits.put (collRank w.desc p.src) (p.addr % 2 ^ 32),
      granters := if r.granters.contains p.src then r.granters else r.granters ++ [p.src],
      lastHeard := ((s.reduceTaken p).finish p .done).now })) := by
    refine collPacket_answersThen hs hf hop haux (exec_grant s p) ?_
    rw [State.grantIn, State.reduce_dedup hfresh]
    dsimp only
    rw [ht.collFor, hfor]
    dsimp only
    rw [ht.workOf, hw]
    dsimp only
    rw [if_neg]
    rintro ⟨hnot, hdcrc⟩
    exact hg.elim (fun h => by rw [h] at hnot; cases hnot) hdcrc
  exact ⟨_, hans, hfin.mem.trans ht.mem, _, State.mem_modColl hrun _, rfl, Tbl.get?_put_same _ _ _⟩

omit hw hr in
theorem held_abort (haux : p.aux % 8 = 4) :
    ∃ v, AnswersThen (.collectiveAbort p) s ((v : State).collEnd r.tag (.ofCode (bitsOf p.aux 8 8))) ∧ v.coll = s.coll ∧ v.mem = s.mem := by
  have ht := Taken.reduceTaken s p
  have hfin := Traffic.finish (s.reduceTaken p) p .done [] 0
  refine ⟨_, collPacket_answersThen hs hf hop haux (exec_collectiveAbort s p) ?_, hfin.coll.trans ht.coll, hfin.mem.trans ht.mem⟩
  rw [State.collAbortIn, State.reduce_dedup hfresh]
  dsimp only
  rw [State.collFor, hfin.coll, ← State.collFor, ht.collFor, hfor]

end Held
end Served

/-! ### Silence, and statuses kept too long -/

theorem collTimeout_answers {key id : Nat} (hs : s.serves [17] = true) :
    (∀ r, s.collFor key id = some r → AnswersThen (.collectiveTimeout key id) s
      ((s.reach (r.lastHeard + s.fld F.COLL_TMO_MS * 1000000)).collAbort r.tag .timeout true)) ∧
    (s.collFor key id = none → AnswersThen (.collectiveTimeout key id) s s) := by
  refine ⟨fun r h => core_answersThen (exec_collectiveTimeout s key id) hs ?_, fun h => core_answersThen (exec_collectiveTimeout s key id) hs ?_⟩
  all_goals
    rw [State.collTimeout, h]
  rfl

theorem abortStatus_expires {key id : Nat} {a : EarlyAbort} (hs : s.serves [17] = true)
    (h : s.coll.aborts.find? (fun a => a.key == key && a.id == id) = some a) :
    ∃ u, AnswersThen (.abortStatusExpiry key id) s u ∧ a ∉ u.coll.aborts ∧ a.at_ + 2 * s.fld F.COLL_TMO_MS * 1000000 ≤ u.now ∧
      u.coll.runs = s.coll.runs := by
  have heq : s.abortExpiry key id = { s.reach (a.at_ + 2 * s.fld F.COLL_TMO_MS * nsPerMs) with
      coll.aborts := s.coll.aborts.filter (fun x => !(x == a)) } := by
    rw [State.abortExpiry, h]
    rfl
  exact ⟨_, core_answersThen (exec_abortStatusExpiry s key id) hs heq, by simp, le_max_right _ _, rfl⟩

/-- Settles O40: packets of a collective not held by `notHeld_…`, of one that is held by `held_…`, and the two expiries. -/
theorem collectives : Obligations.Collectives := by
  unfold Obligations.Collectives
  rintro s p r w id low key hs hf rfl rfl
  refine ⟨fun hop hfresh => ⟨fun hnone => ⟨fun c hc haux i hi => notHeld_conflicts hs hf hop hfresh hnone hc haux hi,
      notHeld_grant hs hf hop hfresh hnone, notHeld_abort hs hf hop hfresh hnone⟩,
    fun hfor hw hr => ⟨fun haux ho i hi => held_contribution hs hf hop hfresh hfor hw hr haux ho hi, held_notOpened hs hf hop hfresh hfor hw,
      held_result hs hf hop hfresh hfor hw hr, held_digest hs hf hop hfresh hfor hw hr, held_grant hs hf hop hfresh hfor hw hr,
      held_abort hs hf hop hfresh hfor⟩⟩,
    (collTimeout_answers hs).1 r, (collTimeout_answers hs).2, fun a => abortStatus_expires hs⟩

end Sys2Proof.Machine
end

section
/-! Requests of a host at a queue pair (spec/14 R381 to R383, R322). -/

namespace Sys2Proof.Machine
variable {s t u v : State}

/-! ### Parts of the state that a request changes on its way -/

theorem State.police_frame (s : State) (ingress vc n : Nat) : ∃ r w, (s.police ingress vc n).2 = { s with regs := r, sws := w } := by
  unfold State.police
  dsimp only
  split
  · exact ⟨_, _, rfl⟩
  · split
    · exact ⟨_, _, rfl⟩
    · dsimp only
      split <;> exact ⟨_, _, rfl⟩

theorem State.policeAll_frame (s : State) (ingress vc : Nat) (l : List Nat) : ∃ r w, (s.policeAll ingress vc l).2 = { s with regs := r, sws := w } := by
  unfold State.policeAll
  induction l using List.reverseRecOn with
  | nil => exact ⟨_, _, rfl⟩
  | append_singleton l n ih =>
    rw [List.foldl_append]
    obtain ⟨r, w, hl⟩ := ih
    obtain ⟨r', w', hn⟩ := State.police_frame (List.foldl (fun r n => _) (some false, s) l).2 ingress vc n
    refine ⟨r', w', hn.trans ?_⟩
    rw [hl]

theorem State.takeRef_frame (s : State) (c va : Nat) : ∃ x, s.takeRef c va = { s with xlt := x } := by
  unfold State.takeRef State.recounted
  split <;> exact ⟨_, rfl⟩

theorem State.ethIngress_frame (s : State) (port prio n : Nat) (enter : Bool) :
    ∃ r e, s.ethIngress port prio n enter = { s with regs := r, eth := e } ∧ e.qps = s.eth.qps := by
  unfold State.ethIngress
  dsimp only
  generalize (if enter = true then s.eth.ingress.getD (prioKey port prio) 0 + n else s.eth.ingress.getD (prioKey port prio) 0 - n) = b
  split
  · exact ⟨_, _, rfl, rfl⟩
  · split
    · exact ⟨_, _, rfl, rfl⟩
    · split <;> exact ⟨_, _, rfl, rfl⟩

theorem State.ethEmit_frame (s : State) (qp : Nat) (bulk : Bool) (n : Nat) (m : EthMsg) :
    ∃ r q, s.ethEmit qp bulk n m = { s with regs := r, eth.queue := q } := by
  unfold State.ethEmit
  dsimp only
  split
  · exact ⟨_, _, rfl⟩
  · split <;> exact ⟨_, _, rfl⟩

/-! ### A request at its queue pair -/

section Silent
variable {qp : Nat} (h : s.qpAccepts qp = false)
include h

theorem State.rdmaMarked_silent (n : Nat) (ce : Bool) (f : State → State) : s.rdmaMarked qp n ce f = f s := if_pos (by simp [h])

theorem State.rdmaIn_silent (psn n : Nat) (r : HostReq) (go onDup : State → State) : s.rdmaIn qp psn n r go onDup = s := if_pos (by simp [h])

end Silent

theorem State.rdmaMarked_discarded {qp n : Nat} (h : s.qpAccepts qp = true)
    (hp : s.policeAll (portEth (s.qpPort qp)) vcREQ (s.frameLens qp n) = (none, v)) (ce : Bool) (f : State → State) :
    s.rdmaMarked qp n ce f = v := by
  rw [State.rdmaMarked, if_neg (by simp [h])]
  dsimp only
  rw [hp]

/-- The queue pair has taken a request's PSNs. -/
def State.psnTaken (s : State) (qp psn n : Nat) : State := s.setQpx qp { s.qpx qp with expected := (psn + n) % 2 ^ 24 }

section Admitted
variable {qp psn n : Nat} (h : s.hostAdmits v qp psn n)
include h

theorem State.hostAdmits_frame : ∃ r w, v = { s with regs := r, sws := w } := by
  obtain ⟨-, hp, -⟩ := h
  have hv := State.policeAll_frame s (portEth (s.qpPort qp)) vcREQ (s.frameLens qp n)
  rwa [hp] at hv

theorem State.hostAdmits_fab : v.fab = s.fab := by obtain ⟨r, w, rfl⟩ := State.hostAdmits_frame h; rfl

theorem State.hostAdmits_mem : v.mem = s.mem := by obtain ⟨r, w, rfl⟩ := State.hostAdmits_frame h; rfl

theorem State.rdmaMarked_admitted {k : Nat} {r : HostReq} {go onDup f : State → State} (hf : f v = v.rdmaIn qp psn k r go onDup) :
    s.rdmaMarked qp n false f = (v.psnTaken qp psn k).hostTake qp r go := by
  obtain ⟨ha, hp, hv, hd⟩ := h
  rw [State.rdmaMarked, if_neg (by simp [ha])]
  dsimp only
  rw [hp]
  dsimp only
  rw [State.sendCnp]
  rw [if_neg (by decide), if_neg (by simp), hf, State.rdmaIn, if_neg (by simp [hv])]
  dsimp only
  rw [if_pos hd]
  rfl

theorem State.psnTaken_admitted (k : Nat) : (v.psnTaken qp psn k).fab = s.fab ∧ (v.psnTaken qp psn k).mem = s.mem := by
  have hfab := State.hostAdmits_fab h
  have hmem := State.hostAdmits_mem h
  exact ⟨hfab, hmem⟩

end Admitted

theorem State.rdmaMarked_turn {qp psn n k : Nat} (h : s.hostTurn v qp psn n) {r : HostReq} {go onDup f : State → State}
    (hf : f v = v.rdmaIn qp psn k r go onDup) : s.rdmaMarked qp n false f = go (v.psnTaken qp psn k) := by
  obtain ⟨hadmit, hbusy, hwait⟩ := h
  have hbusy' : (v.psnTaken qp psn k).qpBusy qp = false := hbusy
  have hwait' : ((v.psnTaken qp psn k).qpx qp).waiting = [] := by rw [State.psnTaken, State.qpx_setQpx, hwait]
  rw [State.rdmaMarked_admitted hadmit hf, State.hostTake]
  rw [if_neg]
  simp [hbusy', hwait']

theorem State.psnTaken_expected (s : State) (qp psn n : Nat) : ((s.psnTaken qp psn n).qpx qp).expected = (psn + n) % 2 ^ 24 := by
  rw [State.psnTaken, State.qpx_setQpx]

theorem State.psnTaken_regionCheck (s : State) (qp psn n c va rkey len right : Nat) :
    (s.psnTaken qp psn n).regionCheck c va rkey len right = s.regionCheck c va rkey len right := rfl

/-! ### What a request does in its turn -/

section Kinds
variable {qp psn va rkey len : Nat} {bs : List Byte} {env : WriteEnv}

theorem State.rdmaWriteIn_partner (h : qp < windowQp) : s.rdmaWriteIn qp psn va rkey bs env = s.rdmaIn qp psn (s.psnsOf qp bs.length)
    (.write psn va rkey bs env) (fun s => s.hostWrite qp psn va rkey bs) (fun s => s.ethEmit qp false 0 (.ack psn)) := if_pos h

theorem State.rdmaWriteIn_window (h : ¬qp < windowQp) : s.rdmaWriteIn qp psn va rkey bs env = s.rdmaIn qp psn (s.psnsOf qp bs.length)
    (.write psn va rkey bs env) (fun s => s.windowServe qp psn va rkey (some bs) bs.length env) (fun s => s.ethEmit qp false 0 (.ack psn)) :=
  if_neg h

theorem State.rdmaReadIn_partner (h : qp < windowQp) : s.rdmaReadIn qp psn va rkey len env = s.rdmaIn qp psn (s.psnsOf qp len)
    (.read psn va rkey len env) (fun s => s.hostRead qp psn va rkey len)
    (fun s => s.hostTake qp (.read psn va rkey len env) (fun s => s.hostRead qp psn va rkey len)) := if_pos h

theorem State.rdmaReadIn_window (h : ¬qp < windowQp) : s.rdmaReadIn qp psn va rkey len env = s.rdmaIn qp psn (s.psnsOf qp len)
    (.read psn va rkey len env) (fun s => s.windowServe qp psn va rkey none len env)
    (fun s => s.hostTake qp (.read psn va rkey len env) (fun s => s.windowServe qp psn va rkey none len env)) := if_neg h

end Kinds

theorem State.regionFail_fails (s : State) (qp psn : Nat) (f : Status × Option Nat) :
    ∃ w, s.regionFail qp psn f = State.rdmaFail w qp psn f.1 ∧ w.fab = s.fab ∧ w.mem = s.mem := by
  obtain ⟨st, a⟩ := f
  cases a with
  | none => exact ⟨s, rfl, rfl, rfl⟩
  | some a => exact ⟨s.noteFault qp st a, rfl, State.noteFault_frame s qp st a⟩

section Region
variable {qp psn va rkey len : Nat} {x : Xlated} {e : Status × Option Nat} {bs : List Byte}

theorem State.hostWrite_stores (hbs : bs ≠ []) (h : s.regionCheck qp va rkey bs.length rWRITE = .ok x) :
    ∃ w, s.hostWrite qp psn va rkey bs =
        State.storeFor w (.rdmaWrite qp psn va bs.length) qp x.ext.cls x.dga (unmarked bs) vcREQ (fun _ => 0) ∧
      w.qpx qp = s.qpx qp ∧ w.fab = s.fab ∧ w.mem = s.mem := by
  obtain ⟨y, hx⟩ := State.takeRef_frame s qp x.ext.va
  obtain ⟨r, e, hi, hq⟩ := State.ethIngress_frame { s with xlt := y } (s.qpPort qp) (s.fld F.ETH_QP_CFG_PCP qp) bs.length true
  refine ⟨{ s with xlt := y, regs := r, eth := e }, ?_, congrArg (fun t => Tbl.getD t qp freshQp) hq, rfl, rfl⟩
  rw [State.hostWrite, if_neg (by simpa using hbs), h]
  dsimp only
  rw [hx, hi]

theorem State.hostWrite_fails (hbs : bs ≠ []) (h : s.regionCheck qp va rkey bs.length rWRITE = .error e) :
    s.hostWrite qp psn va rkey bs = s.regionFail qp psn e := by
  rw [State.hostWrite, if_neg (by simpa using hbs), h]

theorem State.hostRead_loads (hlen : len ≠ 0) (h : s.regionCheck qp va rkey len rREAD = .ok x) :
    ∃ w, s.hostRead qp psn va rkey len = State.loadFor w (.rdmaRead qp psn va len) qp x.ext.cls x.dga len vcREQ ∧
      w.qpx qp = s.qpx qp ∧ w.fab = s.fab ∧ w.mem = s.mem := by
  obtain ⟨y, hx⟩ := State.takeRef_frame s qp x.ext.va
  refine ⟨{ s with xlt := y }, ?_, rfl, rfl, rfl⟩
  rw [State.hostRead, if_neg hlen, h]
  dsimp only
  rw [hx]

theorem State.hostRead_fails (hlen : len ≠ 0) (h : s.regionCheck qp va rkey len rREAD = .error e) :
    s.hostRead qp psn va rkey len = s.regionFail qp psn e := by
  rw [State.hostRead, if_neg hlen, h]

theorem State.hostAtomic_issues {d atype operand swap : Nat} (hqp : qp < windowQp) (h : s.regionCheck qp va rkey 8 rATOMIC = .ok x)
    (hal : x.dga % 8 = 0) (hr : s.route x.dga x.ext.cls = .ok d) :
    ∃ w p k, s.hostAtomic qp psn va rkey atype operand swap = State.issue w p (.xfer k 0) ∧ p.op = opATOMIC ∧ p.dst = d ∧ p.addr = x.dga ∧
      p.atype = atype ∧ p.size = 7 ∧ p.ctx = qp ∧ w.qpx qp = s.qpx qp ∧ w.mem = s.mem := by
  obtain ⟨y, hx⟩ := State.takeRef_frame s qp x.ext.va
  have hr' : (({ s with xlt := y } : State).newXfer (.rdmaAtomic qp psn va) 1).2.route x.dga x.ext.cls = .ok d := hr
  refine ⟨(({ s with xlt := y } : State).newXfer (.rdmaAtomic qp psn va) 1).2,
    { op := opATOMIC, vc := vcREQ, tagged := true, pkey := (({ s with xlt := y } : State).newXfer (.rdmaAtomic qp psn va) 1).2.ctxKey qp, ctx := qp,
      addr := x.dga, size := 7, sectors := 1, atype := atype, payload := padTo 64 (natLe 8 operand ++ zeros 8 ++ natLe 8 swap), dst := d },
    s.fab.nextXfer, ?_, rfl, rfl, rfl, rfl, rfl, rfl, rfl, rfl⟩
  rw [State.hostAtomic, if_neg (by omega), h]
  dsimp only
  rw [if_neg (by omega), hx]
  rw [hr']
  rfl

theorem State.hostAtomic_fails {atype operand swap : Nat} (hqp : qp < windowQp) (h : s.regionCheck qp va rkey 8 rATOMIC = .error e) :
    s.hostAtomic qp psn va rkey atype operand swap = s.regionFail qp psn e := by
  rw [State.hostAtomic, if_neg (by omega), h]

theorem State.hostSend_malformed (h : s.fld F.ETH_QP_CFG_SEND_EN qp = 0 ∨ bs.length % 64 ≠ 0 ∨ bs = [] ∨ 4096 < bs.length) :
    s.hostSend qp psn bs = s.rdmaFail qp psn .badDescriptor := by
  refine if_pos (.inr ?_)
  simpa using h

section Send
variable (hqp : qp < windowQp) (hen : s.fld F.ETH_QP_CFG_SEND_EN qp ≠ 0) (hal : bs.length % 64 = 0) (hbs : bs ≠ []) (hle : bs.length ≤ 4096)
include hqp hen hal hbs hle

theorem hostSend_wellFormed :
    ¬(qp ≥ windowQp ∨ s.fld F.ETH_QP_CFG_SEND_EN qp = 0 ∨ bs.length % 64 ≠ 0 ∨ bs.length = 0 ∨ bs.length > 4096) := by
  rintro (h | h | h | h | h)
  · omega
  · exact hen h
  · exact h hal
  · exact hbs (List.length_eq_zero_iff.mp h)
  · omega

variable {q : Nat} (hq : q = s.fld F.ETH_QP_CFG_SEND_QUEUE qp)
include hq

theorem State.hostSend_noRoom (h : 2 ^ s.queueK q < diff32 (mod32 (s.sendTail q + bs.length / 64)) (s.queueHead q)) :
    s.hostSend qp psn bs = (s.setQpx qp { s.qpx qp with expected := psn, waiting := [] }).ethEmit qp false 0 (.rnrNak psn) := by
  subst hq
  rw [State.hostSend, if_neg (hostSend_wellFormed hqp hen hal hbs hle), if_pos h]

theorem State.hostSend_writes (h : diff32 (mod32 (s.sendTail q + bs.length / 64)) (s.queueHead q) ≤ 2 ^ s.queueK q) {base : Nat}
    (hb : s.ringBase q = .ok base) :
    s.hostSend qp psn bs = (List.range (bs.length / 64)).foldl
      (fun (w : State) i => w.addStore s.fab.nextXfer qp 0 (base + 64 * ((s.sendTail q + i) % 2 ^ s.queueK q + 1)) (unmarked (slice bs (64 * i) 64)) vcREQ
        true (fun _ => 0)) (s.newXfer (.sendSlots q qp psn (mod32 (s.sendTail q + bs.length / 64))) 0).2 := by
  subst hq
  rw [State.hostSend, if_neg (hostSend_wellFormed hqp hen hal hbs hle), if_neg (by omega), hb]
  rfl

end Send

/-- A read on a window queue pair that names no window offset, or too much, fails. -/
theorem State.windowServe_malformed {data : Option (List Byte)} {env : WriteEnv} (h : rkey ≠ 0 ∨ dgaWin va ≠ 3 ∨ len = 0 ∨ 4096 < len) :
    s.windowServe qp psn va rkey data len env = s.rdmaFail qp psn .badDescriptor := if_pos h

end Region

/-! ### The commands of a host's requests -/

section Requests
variable {qp psn va rkey len a b : Nat} {bs : List Byte} {ce : Bool} {env : WriteEnv} (hs : s.serves [24] = true)
include hs

theorem rdmaWrite_answers (h : s.rdmaMarked qp bs.length ce (fun s => s.rdmaWriteIn qp psn va rkey bs env) = t) :
    AnswersThen (.rdmaWrite qp psn va rkey bs ce env) s t := core_answersThen (exec_rdmaWrite s qp psn va rkey bs ce env) hs h

theorem rdmaRead_answers (h : s.rdmaMarked qp 0 ce (fun s => s.rdmaReadIn qp psn va rkey len env) = t) :
    AnswersThen (.rdmaRead qp psn va rkey len ce env) s t := core_answersThen (exec_rdmaRead s qp psn va rkey len ce env) hs h

theorem fetchAdd_answers (h : s.rdmaMarked qp 8 ce (fun s => s.rdmaAtomic qp psn va rkey 0x21 (a % 2 ^ 64) 0) = t) :
    AnswersThen (.fetchAdd qp psn va rkey a ce) s t := core_answersThen (exec_fetchAdd s qp psn va rkey a ce) hs h

theorem cmpSwap_answers (h : s.rdmaMarked qp 16 ce (fun s => s.rdmaAtomic qp psn va rkey 0x24 (a % 2 ^ 64) (b % 2 ^ 64)) = t) :
    AnswersThen (.cmpSwap qp psn va rkey a b ce) s t := core_answersThen (exec_cmpSwap s qp psn va rkey a b ce) hs h

theorem send_answers (h : s.rdmaMarked qp bs.length ce (fun s => s.sendIn qp psn bs) = t) : AnswersThen (.send qp psn bs ce) s t :=
  core_answersThen (exec_send s qp psn bs ce) hs h

theorem hostRequest_silent (h : s.qpAccepts qp = false) : ∀ c ∈ [Instr.rdmaWrite qp psn va rkey bs ce env, .rdmaRead qp psn va rkey len ce env,
    .fetchAdd qp psn va rkey a ce, .cmpSwap qp psn va rkey a b ce, .send qp psn bs ce], AnswersThen c s s := by
  intro c hc
  simp only [List.mem_cons, List.not_mem_nil, or_false] at hc
  rcases hc with rfl | rfl | rfl | rfl | rfl
  · refine rdmaWrite_answers hs ((State.rdmaMarked_silent h _ _ _).trans ?_)
    by_cases hqp : qp < windowQp
    · exact (State.rdmaWriteIn_partner hqp).trans (State.rdmaIn_silent h _ _ _ _ _)
    · exact (State.rdmaWriteIn_window hqp).trans (State.rdmaIn_silent h _ _ _ _ _)
  · refine rdmaRead_answers hs ((State.rdmaMarked_silent h _ _ _).trans ?_)
    by_cases hqp : qp < windowQp
    · exact (State.rdmaReadIn_partner hqp).trans (State.rdmaIn_silent h _ _ _ _ _)
    · exact (State.rdmaReadIn_window hqp).trans (State.rdmaIn_silent h _ _ _ _ _)
  · exact fetchAdd_answers hs ((State.rdmaMarked_silent h _ _ _).trans (State.rdmaIn_silent h _ _ _ _ _))
  · exact cmpSwap_answers hs ((State.rdmaMarked_silent h _ _ _).trans (State.rdmaIn_silent h _ _ _ _ _))
  · exact send_answers hs ((State.rdmaMarked_silent h _ _ _).trans (State.rdmaIn_silent h _ _ _ _ _))

theorem hostRequest_discarded (h : s.qpAccepts qp = true) : ∀ c ∈ [(Instr.rdmaWrite qp psn va rkey bs ce env, bs.length),
    (.rdmaRead qp psn va rkey len ce env, 0), (.fetchAdd qp psn va rkey a ce, 8), (.cmpSwap qp psn va rkey a b ce, 16),
    (.send qp psn bs ce, bs.length)],
    s.policeAll (portEth (s.qpPort qp)) vcREQ (s.frameLens qp c.2) = (none, v) → AnswersThen c.1 s v := by
  intro c hc hp
  simp only [List.mem_cons, List.not_mem_nil, or_false] at hc
  rcases hc with rfl | rfl | rfl | rfl | rfl
  · exact rdmaWrite_answers hs (State.rdmaMarked_discarded h hp _ _)
  · exact rdmaRead_answers hs (State.rdmaMarked_discarded h hp _ _)
  · exact fetchAdd_answers hs (State.rdmaMarked_discarded h hp _ _)
  · exact cmpSwap_answers hs (State.rdmaMarked_discarded h hp _ _)
  · exact send_answers hs (State.rdmaMarked_discarded h hp _ _)

theorem fetchAdd_waits (h : s.hostAdmits v qp psn 8) (hw : v.qpBusy qp = true ∨ (v.qpx qp).waiting ≠ []) :
    ∃ u, AnswersThen (.fetchAdd qp psn va rkey a false) s u ∧
      (u.qpx qp).waiting = (v.qpx qp).waiting ++ [(.atomic psn va rkey 0x21 (a % 2 ^ 64) 0, false)] ∧ u.mem = s.mem ∧ u.fab = s.fab := by
  have hwaiting : ((v.psnTaken qp psn 1).qpx qp).waiting = (v.qpx qp).waiting := by rw [State.psnTaken, State.qpx_setQpx]
  have hcond : (v.psnTaken qp psn 1).qpBusy qp = true ∨ (!((v.psnTaken qp psn 1).qpx qp).waiting.isEmpty) = true :=
    hw.imp id (fun h => by simpa [hwaiting] using h)
  obtain ⟨hfab, hmem⟩ := State.psnTaken_admitted h 1
  refine ⟨_, fetchAdd_answers hs ((State.rdmaMarked_admitted h rfl).trans (if_pos hcond)), ?_, hmem, hfab⟩
  rw [State.qpx_setQpx, hwaiting]

section Write
variable (h : s.hostTurn v qp psn bs.length) (hqp : qp < windowQp)
include h hqp

theorem rdmaWrite_turn : AnswersThen (.rdmaWrite qp psn va rkey bs false env) s
    ((v.psnTaken qp psn (v.psnsOf qp bs.length)).hostWrite qp psn va rkey bs) :=
  rdmaWrite_answers hs (State.rdmaMarked_turn h (go := fun s => s.hostWrite qp psn va rkey bs) (State.rdmaWriteIn_partner hqp))

theorem rdmaWrite_inTurn (hbs : bs ≠ []) :
    (∀ x, v.regionCheck qp va rkey bs.length rWRITE = .ok x → ∃ w, AnswersThen (.rdmaWrite qp psn va rkey bs false env) s
        ((w : State).storeFor (.rdmaWrite qp psn va bs.length) qp x.ext.cls x.dga (unmarked bs) vcREQ (fun _ => 0)) ∧
      (w.qpx qp).expected = (psn + v.psnsOf qp bs.length) % 2 ^ 24 ∧ w.fab = s.fab ∧ w.mem = s.mem) ∧
    (∀ e, v.regionCheck qp va rkey bs.length rWRITE = .error e →
      ∃ w, AnswersThen (.rdmaWrite qp psn va rkey bs false env) s ((w : State).rdmaFail qp psn e.1) ∧ w.fab = s.fab ∧ w.mem = s.mem) := by
  have hans := rdmaWrite_turn (va := va) (rkey := rkey) (env := env) hs h hqp
  obtain ⟨hfab, hmem⟩ := State.psnTaken_admitted h.1 (v.psnsOf qp bs.length)
  refine ⟨fun x hx => ?_, fun e he => ?_⟩
  · obtain ⟨w, hw, hqpx, hwf, hwm⟩ := State.hostWrite_stores (s := v.psnTaken qp psn (v.psnsOf qp bs.length)) (psn := psn) hbs hx
    exact ⟨w, hw ▸ hans, hqpx ▸ State.psnTaken_expected v qp psn _, hwf.trans hfab, hwm.trans hmem⟩
  · obtain ⟨w, hw, hwf, hwm⟩ := State.regionFail_fails (v.psnTaken qp psn (v.psnsOf qp bs.length)) qp psn e
    rw [State.hostWrite_fails (s := v.psnTaken qp psn (v.psnsOf qp bs.length)) hbs he, hw] at hans
    exact ⟨w, hans, hwf.trans hfab, hwm.trans hmem⟩

end Write

section Read
variable (h : s.hostTurn v qp psn 0)
include h

theorem rdmaRead_turn (hqp : qp < windowQp) : AnswersThen (.rdmaRead qp psn va rkey len false env) s
    ((v.psnTaken qp psn (v.psnsOf qp len)).hostRead qp psn va rkey len) :=
  rdmaRead_answers hs (State.rdmaMarked_turn h (go := fun s => s.hostRead qp psn va rkey len) (State.rdmaReadIn_partner hqp))

theorem rdmaRead_inTurn (hqp : qp < windowQp) (hlen : len ≠ 0) :
    (∀ x, v.regionCheck qp va rkey len rREAD = .ok x → ∃ w, AnswersThen (.rdmaRead qp psn va rkey len false env) s
        ((w : State).loadFor (.rdmaRead qp psn va len) qp x.ext.cls x.dga len vcREQ) ∧
      (w.qpx qp).expected = (psn + v.psnsOf qp len) % 2 ^ 24 ∧ w.fab = s.fab ∧ w.mem = s.mem) ∧
    (∀ e, v.regionCheck qp va rkey len rREAD = .error e →
      ∃ w, AnswersThen (.rdmaRead qp psn va rkey len false env) s ((w : State).rdmaFail qp psn e.1) ∧ w.fab = s.fab ∧ w.mem = s.mem) := by
  have hans := rdmaRead_turn (va := va) (rkey := rkey) (env := env) (len := len) hs h hqp
  obtain ⟨hfab, hmem⟩ := State.psnTaken_admitted h.1 (v.psnsOf qp len)
  refine ⟨fun x hx => ?_, fun e he => ?_⟩
  · obtain ⟨w, hw, hqpx, hwf, hwm⟩ := State.hostRead_loads (s := v.psnTaken qp psn (v.psnsOf qp len)) (psn := psn) hlen hx
    exact ⟨w, hw ▸ hans, hqpx ▸ State.psnTaken_expected v qp psn _, hwf.trans hfab, hwm.trans hmem⟩
  · obtain ⟨w, hw, hwf, hwm⟩ := State.regionFail_fails (v.psnTaken qp psn (v.psnsOf qp len)) qp psn e
    rw [State.hostRead_fails (s := v.psnTaken qp psn (v.psnsOf qp len)) hlen he, hw] at hans
    exact ⟨w, hans, hwf.trans hfab, hwm.trans hmem⟩

theorem rdmaRead_window (hqp : windowQp ≤ qp) (hbad : rkey ≠ 0 ∨ dgaWin va ≠ 3 ∨ len = 0 ∨ 4096 < len) :
    ∃ w, AnswersThen (.rdmaRead qp psn va rkey len false env) s ((w : State).rdmaFail qp psn .badDescriptor) ∧ w.fab = s.fab ∧ w.mem = s.mem :=
  ⟨v.psnTaken qp psn (v.psnsOf qp len), rdmaRead_answers hs
    ((State.rdmaMarked_turn h (State.rdmaReadIn_window (by omega))).trans (State.windowServe_malformed hbad)), State.psnTaken_admitted h.1 _⟩

end Read

omit hs in
/-- What an atomic does in its turn, whichever it is. -/
theorem atomic_inTurn {c : Instr} {n atype operand swap : Nat} (h : s.hostTurn v qp psn n) (hqp : qp < windowQp)
    (hc : ∀ t, s.rdmaMarked qp n false (fun s => s.rdmaAtomic qp psn va rkey atype operand swap) = t → AnswersThen c s t) :
    (∀ x d, v.regionCheck qp va rkey 8 rATOMIC = .ok x → x.dga % 8 = 0 → v.route x.dga x.ext.cls = .ok d →
      ∃ w p k, AnswersThen c s ((w : State).issue p (.xfer k 0)) ∧ p.op = opATOMIC ∧ p.dst = d ∧ p.addr = x.dga ∧ p.atype = atype ∧ p.size = 7 ∧
        p.ctx = qp ∧ (w.qpx qp).expected = (psn + 1) % 2 ^ 24 ∧ w.mem = s.mem) ∧
    (∀ e, v.regionCheck qp va rkey 8 rATOMIC = .error e → ∃ w, AnswersThen c s ((w : State).rdmaFail qp psn e.1) ∧ w.fab = s.fab ∧ w.mem = s.mem) := by
  have hans := hc _ (State.rdmaMarked_turn h (go := fun s => s.hostAtomic qp psn va rkey atype operand swap) rfl)
  obtain ⟨hfab, hmem⟩ := State.psnTaken_admitted h.1 1
  refine ⟨fun x d hx hal hr => ?_, fun e he => ?_⟩
  · obtain ⟨w, p, k, hw, hop, hdst, haddr, htype, hsize, hctx, hqpx, hwm⟩ :=
      State.hostAtomic_issues (s := v.psnTaken qp psn 1) (psn := psn) (atype := atype) (operand := operand) (swap := swap) hqp hx hal hr
    exact ⟨w, p, k, hw ▸ hans, hop, hdst, haddr, htype, hsize, hctx, hqpx ▸ State.psnTaken_expected v qp psn 1, hwm.trans hmem⟩
  · obtain ⟨w, hw, hwf, hwm⟩ := State.regionFail_fails (v.psnTaken qp psn 1) qp psn e
    rw [State.hostAtomic_fails (s := v.psnTaken qp psn 1) hqp he, hw] at hans
    exact ⟨w, hans, hwf.trans hfab, hwm.trans hmem⟩

section Send
variable (h : s.hostTurn v qp psn bs.length)
include h

theorem send_turn : AnswersThen (.send qp psn bs false) s ((v.psnTaken qp psn (v.psnsOf qp bs.length)).hostSend qp psn bs) :=
  send_answers hs (State.rdmaMarked_turn h (go := fun s => s.hostSend qp psn bs) rfl)

theorem send_malformed (hbad : v.fld F.ETH_QP_CFG_SEND_EN qp = 0 ∨ bs.length % 64 ≠ 0 ∨ bs = [] ∨ 4096 < bs.length) :
    ∃ w, AnswersThen (.send qp psn bs false) s ((w : State).rdmaFail qp psn .badDescriptor) ∧ w.fab = s.fab ∧ w.mem = s.mem :=
  ⟨v.psnTaken qp psn (v.psnsOf qp bs.length),
    State.hostSend_malformed (s := v.psnTaken qp psn (v.psnsOf qp bs.length)) (psn := psn) hbad ▸ send_turn hs h,
    State.psnTaken_admitted h.1 _⟩

theorem send_inTurn (hqp : qp < windowQp) (hen : v.fld F.ETH_QP_CFG_SEND_EN qp ≠ 0) (hal : bs.length % 64 = 0) (hbs : bs ≠ []) (hle : bs.length ≤ 4096)
    {q : Nat} (hq : q = v.fld F.ETH_QP_CFG_SEND_QUEUE qp) :
    (2 ^ v.queueK q < diff32 (mod32 (v.sendTail q + bs.length / 64)) (v.queueHead q) →
      ∃ w, AnswersThen (.send qp psn bs false) s ((w : State).ethEmit qp false 0 (.rnrNak psn)) ∧
        (w.qpx qp).expected = psn ∧ w.fab = s.fab ∧ w.mem = s.mem) ∧
    (diff32 (mod32 (v.sendTail q + bs.length / 64)) (v.queueHead q) ≤ 2 ^ v.queueK q → ∀ base, v.ringBase q = .ok base →
      ∃ w x, AnswersThen (.send qp psn bs false) s
          ((List.range (bs.length / 64)).foldl (fun (w : State) i => w.addStore x qp 0 (base + 64 * ((v.sendTail q + i) % 2 ^ v.queueK q + 1))
            (unmarked (slice bs (64 * i) 64)) vcREQ true (fun _ => 0)) w) ∧
        (w.qpx qp).expected = (psn + v.psnsOf qp bs.length) % 2 ^ 24 ∧ w.mem = s.mem) := by
  have hans := send_turn hs h
  obtain ⟨hfab, hmem⟩ := State.psnTaken_admitted h.1 (v.psnsOf qp bs.length)
  refine ⟨fun hroom => ?_, fun hroom base hb => ?_⟩
  · rw [State.hostSend_noRoom (s := v.psnTaken qp psn (v.psnsOf qp bs.length)) hqp hen hal hbs hle hq hroom] at hans
    exact ⟨_, hans, by rw [State.qpx_setQpx], hfab, hmem⟩
  · rw [State.hostSend_writes (s := v.psnTaken qp psn (v.psnsOf qp bs.length)) hqp hen hal hbs hle hq hroom hb] at hans
    exact ⟨_, _, hans, State.psnTaken_expected v qp psn _, hmem⟩

end Send
end Requests

end Sys2Proof.Machine
end

section
/-! Acknowledgements of a queue pair's own requests, sending again, and its rate (spec/14 R380, R390). -/

namespace Sys2Proof.Machine
variable {s t u v : State} {qp psn : Nat} {bs : List Byte} {r : EthReq}

/-! ### Acknowledgements -/

section Acks
variable (hs : s.serves [24] = true)
include hs

theorem roceAck_silent (h : s.qpState qp ≠ .rts) (code : Nat) : AnswersThen (.roceAck qp psn code bs) s s :=
  core_answersThen (exec_roceAck s qp psn code bs) hs (if_pos h)

section Rts
variable (h : s.qpState qp = .rts)
include h

theorem roceAck_covers {done : List EthReq} (hd : done = covered psn (!bs.isEmpty) (s.qpx qp).outstanding) :
    ∃ v, AnswersThen (.roceAck qp psn 0 bs) s (done.foldl (fun (s : State) r => s.ethReqDone r bs) v) ∧ v.mem = s.mem ∧ v.regs = s.regs ∧
      (v.qpx qp).outstanding = (s.qpx qp).outstanding.drop done.length := by
  subst hd
  refine ⟨_, core_answersThen (exec_roceAck s qp psn 0 bs) hs ((if_neg (not_not.mpr h)).trans (if_pos rfl)), rfl, rfl, ?_⟩
  rw [State.qpx_setQpx]

theorem roceAck_sequenceNak : AnswersThen (.roceAck qp psn 2 bs) s (s.qpRetry qp) :=
  core_answersThen (exec_roceAck s qp psn 2 bs) hs ((if_neg (not_not.mpr h)).trans ((if_neg (by decide)).trans (if_pos rfl)))

theorem roceAck_nak {code : Nat} (h0 : code ≠ 0) (h2 : code ≠ 2) (hr : (s.qpx qp).outstanding.find? (fun r => r.psn == psn) = some r) :
    ∃ v st, AnswersThen (.roceAck qp psn code bs) s (((v : State).ethReqFailed r.owner st).qpFail qp st) ∧ (st = .access ↔ code = 1) ∧
      v.mem = s.mem ∧ v.regs = s.regs ∧ r ∉ (v.qpx qp).outstanding := by
  refine ⟨s.setQpx qp { s.qpx qp with outstanding := (s.qpx qp).outstanding.filter (fun y => !(y == r)) }, if code = 1 then Status.access else .timeout,
    core_answersThen (exec_roceAck s qp psn code bs) hs ?_, ?_, rfl, rfl, ?_⟩
  · rw [State.roceAck]
    dsimp only
    rw [if_neg (not_not.mpr h), if_neg h0, if_neg h2, hr]
  · by_cases h1 : code = 1 <;> simp [h1]
  · rw [State.qpx_setQpx]
    simp

end Rts

/-! ### Silence -/

theorem qpAckTimeout_nothing (h : (s.qpx qp).outstanding = []) : AnswersThen (.qpAckTimeout qp) s s := by
  refine core_answersThen (exec_qpAckTimeout s qp) hs ?_
  rw [State.qpAckTimeout, h]

end Acks

/-- A queue pair's requests as they are after they have been sent again. -/
def Qp.sentAgain (x : Qp) (now : Nat) : Qp :=
  { x with outstanding := x.outstanding.map (fun (r : EthReq) => { r with tries := r.tries + 1, sent := now }) }

theorem State.emitAll_frame (l : List EthReq) (b : EthReq → Bool) (n : EthReq → Nat) (s : State) :
    ∃ r q, l.foldl (fun (s : State) (r : EthReq) => s.ethEmit qp (b r) (n r) r.msg) s = { s with regs := r, eth.queue := q } := by
  induction l generalizing s with
  | nil => exact ⟨_, _, rfl⟩
  | cons r l ih =>
    obtain ⟨r₁, q₁, h₁⟩ := State.ethEmit_frame s qp (b r) (n r) r.msg
    obtain ⟨r₂, q₂, h₂⟩ := ih (s.ethEmit qp (b r) (n r) r.msg)
    refine ⟨r₂, q₂, h₂.trans ?_⟩
    rw [h₁]

section Retry
variable {rest : List EthReq} (h : (s.qpx qp).outstanding = r :: rest)
include h

theorem State.qpRetry_sendsAgain (ht : r.tries < s.fld F.ETH_QP_CFG_RETRY qp) :
    ∃ e q, s.qpRetry qp = { s.setQpx qp ((s.qpx qp).sentAgain s.now) with regs := e, eth.queue := q } := by
  obtain ⟨e, q, hf⟩ := State.emitAll_frame (qp := qp) ((s.qpx qp).sentAgain s.now).outstanding
    (fun r => match r.owner with | .seatLoad _ | .seatStore _ => true | _ => false) (fun r => match r.msg with | .write _ _ _ d => d.length | _ => 0)
    (s.setQpx qp ((s.qpx qp).sentAgain s.now))
  refine ⟨e, q, ?_⟩
  rw [← hf, State.qpRetry]
  generalize s.qpx qp = x at h ⊢
  obtain ⟨_, _, _, out, _, _, _⟩ := x
  obtain rfl : out = r :: rest := h
  exact if_neg (by omega)

theorem State.qpRetry_fails (ht : s.fld F.ETH_QP_CFG_RETRY qp ≤ r.tries) :
    s.qpRetry qp = ((s.setQpx qp { s.qpx qp with outstanding := rest }).ethReqFailed r.owner .timeout).qpFail qp .timeout := by
  rw [State.qpRetry]
  dsimp only
  rw [h]
  exact if_pos ht

theorem State.qpAckTimeout_retries : s.qpAckTimeout qp = (s.reach (r.sent + 4096 * 2 ^ s.fld F.ETH_QP_CFG_TIMEOUT qp)).qpRetry qp := by
  rw [State.qpAckTimeout, h]

variable (hs : s.serves [24] = true)
include hs

theorem qpAckTimeout_sendsAgain (ht : r.tries < s.fld F.ETH_QP_CFG_RETRY qp) :
    ∃ u, AnswersThen (.qpAckTimeout qp) s u ∧ r.sent + 4096 * 2 ^ s.fld F.ETH_QP_CFG_TIMEOUT qp ≤ u.now ∧
      (u.qpx qp).outstanding = (r :: rest).map (fun e => { e with tries := e.tries + 1, sent := u.now }) ∧ u.mem = s.mem := by
  generalize hr : s.reach (r.sent + 4096 * 2 ^ s.fld F.ETH_QP_CFG_TIMEOUT qp) = v
  have hnow : r.sent + 4096 * 2 ^ s.fld F.ETH_QP_CFG_TIMEOUT qp ≤ v.now := hr ▸ le_max_right _ _
  have hmem : v.mem = s.mem := hr ▸ rfl
  have hout : (v.qpx qp).outstanding = r :: rest := hr ▸ h
  have htries : r.tries < v.fld F.ETH_QP_CFG_RETRY qp := hr ▸ ht
  obtain ⟨e, q, heq⟩ := State.qpRetry_sendsAgain hout htries
  have hretry : s.qpAckTimeout qp = v.qpRetry qp := by rw [State.qpAckTimeout_retries h, hr]
  have hqpx : ((v.setQpx qp ((v.qpx qp).sentAgain v.now)).qpx qp).outstanding =
      (r :: rest).map (fun e => { e with tries := e.tries + 1, sent := v.now }) := by
    rw [State.qpx_setQpx, Qp.sentAgain, hout]
  exact ⟨_, core_answersThen (exec_qpAckTimeout s qp) hs (hretry.trans heq), hnow, hqpx, hmem⟩

theorem qpAckTimeout_fails (ht : s.fld F.ETH_QP_CFG_RETRY qp ≤ r.tries) :
    ∃ v, AnswersThen (.qpAckTimeout qp) s (((v : State).ethReqFailed r.owner .timeout).qpFail qp .timeout) ∧
      (v.qpx qp).outstanding = rest ∧ v.regs = s.regs ∧ v.mem = s.mem := by
  generalize hr : s.reach (r.sent + 4096 * 2 ^ s.fld F.ETH_QP_CFG_TIMEOUT qp) = v
  have hmem : v.mem = s.mem := hr ▸ rfl
  have hregs : v.regs = s.regs := hr ▸ rfl
  have hout : (v.qpx qp).outstanding = r :: rest := hr ▸ h
  have htries : v.fld F.ETH_QP_CFG_RETRY qp ≤ r.tries := hr ▸ ht
  have hretry : s.qpAckTimeout qp = v.qpRetry qp := by rw [State.qpAckTimeout_retries h, hr]
  refine ⟨v.setQpx qp { v.qpx qp with outstanding := rest }, core_answersThen (exec_qpAckTimeout s qp) hs
    (hretry.trans (State.qpRetry_fails hout htries)), ?_, hregs, hmem⟩
  rw [State.qpx_setQpx]

end Retry

/-! ### The rate -/

theorem cnp_cuts (hs : s.serves [24] = true) :
    ∃ u c, Answers (.cnp qp) s u ∧ (c = s.fld F.ETH_QP_STATUS_RATE qp * (512 - s.fld F.ETH_CC_ALPHA) / 512 ∨
        (c = s.fld F.ETH_QP_STATUS_RATE qp * (512 - s.fld F.ETH_CC_ALPHA) / 512 + 1 ∧ s.fld F.ETH_QP_STATUS_RATE qp * (512 - s.fld F.ETH_CC_ALPHA) % 512 ≠ 0)) ∧
      u.fld F.ETH_QP_STATUS_RATE qp = max c (s.fld F.ETH_CC_MIN_RATE) % 2 ^ F.ETH_QP_STATUS_RATE.width ∧ (u.qpx qp).lastCut = s.now ∧
      s.keepsFields u [F.ETH_QP_STATUS_RATE.key qp] := by
  refine ⟨s.cnpIn qp, s.fld F.ETH_QP_STATUS_RATE qp * (512 - s.fld F.ETH_CC_ALPHA) / 512 +
      (if s.fld F.ETH_QP_STATUS_RATE qp * (512 - s.fld F.ETH_CC_ALPHA) % 512 = 0 then 0 else Config.freeValue s.free % 2),
    core_answers (exec_cnp s qp) hs rfl, ?_, ?_, ?_, ?_⟩
  · split
    · exact .inl rfl
    · rename_i hne
      rcases Nat.mod_two_eq_zero_or_one (Config.freeValue s.free) with h | h
      · exact .inl (by rw [h, Nat.add_zero])
      · exact .inr ⟨by rw [h], hne⟩
  · exact State.fld_setF_same (s := s.draw.2) _ _ _
  · rw [State.cnpIn, State.qpx_setQpx]
    rfl
  · exact (State.keepsFields_of_regs (t := s.draw.2) rfl).trans ((s.draw.2.keepsFields_setF _ (by simp)).trans (State.setQpx_keepsFields _ _ _ _))

/-- The rates of queue pairs that had no cut in the interval have risen. -/
def State.raiseRates (s : State) (gap : Nat) (l : List (Nat × Qp)) : State :=
  l.foldl (fun s e =>
    if e.2.lastCut + gap ≤ s.now then
      s.setF F.ETH_QP_STATUS_RATE (min 4000 (s.fld F.ETH_QP_STATUS_RATE e.1 + s.fld F.ETH_CC_AI_RATE)) e.1
    else s) s

theorem State.raiseRates_frame (gap : Nat) (l : List (Nat × Qp)) (s : State) : ∃ r, s.raiseRates gap l = { s with regs := r } := by
  unfold State.raiseRates
  induction l generalizing s with
  | nil => exact ⟨_, rfl⟩
  | cons e l ih =>
    rw [List.foldl_cons]
    split
    · exact ih _
    · exact ih s

theorem ccRecover_raises (hs : s.serves [24] = true) :
    ∃ u, Answers .ccRecoverTimer s u ∧ s.eth.recoverAt + s.fld F.ETH_CC_RECOVER_US * 1000 ≤ u.now ∧ u.eth.recoverAt = u.now ∧ u.mem = s.mem ∧
      ∀ x, s.eth.qps = [(qp, x)] → x.lastCut ≤ s.eth.recoverAt →
        u.fld F.ETH_QP_STATUS_RATE qp = min 4000 (s.fld F.ETH_QP_STATUS_RATE qp + s.fld F.ETH_CC_AI_RATE) := by
  have hgap : s.fld F.ETH_CC_RECOVER_US * nsPerUs = s.fld F.ETH_CC_RECOVER_US * 1000 := rfl
  generalize hg : s.fld F.ETH_CC_RECOVER_US * nsPerUs = gap at hgap
  generalize hr : s.reach (s.eth.recoverAt + gap) = v
  have hnow : s.eth.recoverAt + gap ≤ v.now := hr ▸ le_max_right _ _
  have hmem : v.mem = s.mem := hr ▸ rfl
  have hrecover : s.ccRecover = ({ v with eth.recoverAt := v.now } : State).raiseRates gap s.eth.qps := by
    rw [← hr, ← hg]
    rfl
  have hregs : v.regs = s.regs := hr ▸ rfl
  obtain ⟨e, he⟩ := State.raiseRates_frame gap s.eth.qps ({ v with eth.recoverAt := v.now } : State)
  refine ⟨_, core_answers (exec_ccRecoverTimer s) hs hrecover, ?_, ?_, ?_, fun x hx hcut => ?_⟩
  · rw [he, ← hgap]
    exact hnow
  · rw [he]
  · rw [he]
    exact hmem
  · have hle : x.lastCut + gap ≤ ({ v with eth.recoverAt := v.now } : State).now := le_trans (Nat.add_le_add_right hcut gap) hnow
    have hfld (f : Fld) (b : Nat) : ({ v with eth.recoverAt := v.now } : State).fld f b = s.fld f b := State.fld_congr hregs f b
    rw [State.raiseRates, hx, List.foldl_cons, List.foldl_nil, if_pos hle, State.fld_setF_same, hfld, hfld]
    exact Nat.mod_eq_of_lt (lt_of_le_of_lt (min_le_left _ _) (by decide))

/-- Settles O44: a request by its queue pair's turn (`…_inTurn`), acknowledgements by `roceAck_…`, silence by `qpAckTimeout_…`. -/
theorem hostRequests : Obligations.HostRequests := by
  unfold Obligations.HostRequests
  refine ⟨fun s v qp psn va rkey len a b bs ce env t d hs => ⟨hostRequest_silent hs, hostRequest_discarded hs, fetchAdd_waits hs,
    fun h hqp hbs => ?_, fun h hqp hlen => ?_, rdmaRead_window hs, fun c hc h hqp => ?_,
    fun h hqp => ⟨send_malformed hs h, fun hen hal hbs hle q m k hq hm hk => ?_⟩⟩,
    fun s qp psn code bs r hs => ⟨fun h => roceAck_silent hs h code, fun h => ⟨fun done hd => roceAck_covers hs h hd, roceAck_sequenceNak hs h,
      roceAck_nak hs h⟩, qpAckTimeout_nothing hs, fun rest h => ⟨qpAckTimeout_sendsAgain h hs, qpAckTimeout_fails h hs⟩, cnp_cuts hs,
      ccRecover_raises hs⟩⟩
  · obtain ⟨hok, herr⟩ := rdmaWrite_inTurn (va := va) (rkey := rkey) (env := env) hs h hqp hbs
    exact ⟨hok t, herr⟩
  · obtain ⟨hok, herr⟩ := rdmaRead_inTurn (va := va) (rkey := rkey) (env := env) hs h hqp hlen
    exact ⟨hok t, herr⟩
  · simp only [List.mem_cons, List.not_mem_nil, or_false] at hc
    rcases hc with rfl | rfl
    · obtain ⟨hok, herr⟩ := atomic_inTurn (va := va) (rkey := rkey) h hqp (fun _ => fetchAdd_answers hs (a := a))
      exact ⟨hok t d, herr⟩
    · obtain ⟨hok, herr⟩ := atomic_inTurn (va := va) (rkey := rkey) h hqp (fun _ => cmpSwap_answers hs (a := a) (b := b))
      exact ⟨hok t d, herr⟩
  · subst hm hk
    exact send_inTurn hs h hqp hen hal hbs hle hq

end Sys2Proof.Machine
end

section
/-! Stores of a table and a put at another key: what is put after them can be there before them, in any table, sorted or not. -/

namespace Sys2Proof.Machine

/-! ### Stores of a table -/

/-- A table after stores: key, value and default of each. -/
def Tbl.storeAll (t : Tbl Nat) (l : List (Nat × Nat × Nat)) : Tbl Nat := l.foldl (fun t e => Tbl.store t e.1 e.2.1 e.2.2) t

theorem Tbl.storeAll_append (t : Tbl Nat) (l l' : List (Nat × Nat × Nat)) : Tbl.storeAll t (l ++ l') = Tbl.storeAll (Tbl.storeAll t l) l' :=
  List.foldl_append

/-- What lies before an entry has a lower key than `k` at its end, what lies behind begins with a higher one: the place to which `put` brings a
new entry at `k`. -/
def Tbl.Place (k : Nat) (x y : Tbl Nat) : Prop := (∀ e, x.getLast? = some e → e.1 < k) ∧ ∀ e, y.head? = some e → k < e.1

/-- `put` replaces the entry at its key or inserts one at its place; all that it passes has a lower key. -/
theorem Tbl.put_cases (t : Tbl Nat) (k v : Nat) : ∃ x y, Tbl.put t k v = x ++ (k, v) :: y ∧ (∀ e ∈ x, e.1 < k) ∧
    ((∃ o, t = x ++ (k, o) :: y) ∨ (t = x ++ y ∧ ∀ e, y.head? = some e → k < e.1)) := by
  induction t with
  | nil => exact ⟨[], [], rfl, by simp, .inr ⟨rfl, by simp⟩⟩
  | cons e t ih =>
    obtain ⟨j, w⟩ := e
    unfold Tbl.put
    split
    next h => exact ⟨[], (j, w) :: t, rfl, by simp, .inr ⟨rfl, by simpa using h⟩⟩
    next h =>
      split
      next h' =>
        subst h'
        exact ⟨[], t, rfl, by simp, .inl ⟨w, rfl⟩⟩
      next h' =>
        obtain ⟨x, y, hput, hx, ht⟩ := ih
        refine ⟨(j, w) :: x, y, by rw [hput]; rfl, ?_, ?_⟩
        · intro e he
          rcases List.mem_cons.mp he with rfl | he
          · exact (Nat.lt_or_ge j k).resolve_right (fun hge => by omega)
          · exact hx e he
        · exact ht.imp (fun ⟨o, ho⟩ => ⟨o, by rw [ho]; rfl⟩) (fun ⟨ho, hy⟩ => ⟨by rw [ho]; rfl, hy⟩)

/-- Conversely, `put` is determined by that. -/
theorem Tbl.put_replaces {x y : Tbl Nat} {k o : Nat} (v : Nat) (hx : ∀ e ∈ x, e.1 < k) : Tbl.put (x ++ (k, o) :: y) k v = x ++ (k, v) :: y := by
  induction x with
  | nil => simp [Tbl.put]
  | cons e x ih =>
    have he := hx e (by simp)
    have ih := ih (fun a ha => hx a (by simp [ha]))
    simp only [List.cons_append, Tbl.put]
    rw [if_neg (by omega), if_neg (by omega), ih]

theorem Tbl.put_inserts {x y : Tbl Nat} {k : Nat} (v : Nat) (hx : ∀ e ∈ x, e.1 < k) (hy : ∀ e, y.head? = some e → k < e.1) :
    Tbl.put (x ++ y) k v = x ++ (k, v) :: y := by
  induction x with
  | nil =>
    cases y with
    | nil => rfl
    | cons e y =>
      have he := hy e rfl
      simp only [List.nil_append, Tbl.put]
      rw [if_pos he]
  | cons e x ih =>
    have he := hx e (by simp)
    have ih := ih (fun a ha => hx a (by simp [ha]))
    simp only [List.cons_append, Tbl.put]
    rw [if_neg (by omega), if_neg (by omega), ih]

theorem Tbl.get?_middle (x y : Tbl Nat) {k j : Nat} (a : Nat) (h : k ≠ j) : Tbl.get? (x ++ (k, a) :: y) j = Tbl.get? (x ++ y) j := by
  induction x with
  | nil => exact if_neg h
  | cons e x ih => simp only [List.cons_append, Tbl.get?, ih]

theorem Tbl.del_append (x y : Tbl Nat) (j : Nat) : Tbl.del (x ++ y) j = Tbl.del x j ++ Tbl.del y j := List.filter_append ..

theorem Tbl.del_cons_ne {e : Nat × Nat} {j : Nat} (h : e.1 ≠ j) (y : Tbl Nat) : Tbl.del (e :: y) j = e :: Tbl.del y j :=
  List.filter_cons_of_pos (by simpa using h)

/-! ### The entry at another key goes with the stores -/

section Replaced
variable {t x y : Tbl Nat} {j k o : Nat} (hjk : j ≠ k) (a : Nat)
include hjk

theorem Tbl.put_replacing {w : Nat} (h : Tbl.put t j w = x ++ (k, o) :: y) :
    ∃ x' y', t = x' ++ (k, o) :: y' ∧ Tbl.put (x' ++ (k, a) :: y') j w = x ++ (k, a) :: y := by
  obtain ⟨u, v, hput, hu, ht⟩ := Tbl.put_cases t j w
  rw [hput] at h
  rcases List.append_eq_append_iff.mp h with ⟨z, rfl, hz⟩ | ⟨z, rfl, hz⟩
  · cases z with
    | nil => simp at hz; exact absurd hz.1.1 hjk
    | cons e z =>
      obtain ⟨rfl, rfl⟩ : (j, w) = e ∧ v = z ++ (k, o) :: y := by simpa using hz
      rcases ht with ⟨p, rfl⟩ | ⟨rfl, hv⟩
      · refine ⟨u ++ (j, p) :: z, y, by simp, ?_⟩
        simpa using Tbl.put_replaces (y := z ++ (k, a) :: y) w hu
      · refine ⟨u ++ z, y, by simp, ?_⟩
        have hv' : ∀ e, (z ++ (k, a) :: y).head? = some e → j < e.1 := by
          cases z with
          | nil => intro e he; cases he; exact hv (k, o) rfl
          | cons e z => exact hv
        simpa using Tbl.put_inserts w hu hv'
  · cases z with
    | nil => simp at hz; exact absurd hz.1.1.symm hjk
    | cons e z =>
      obtain ⟨rfl, rfl⟩ : (k, o) = e ∧ y = z ++ (j, w) :: v := by simpa using hz
      have hu' : ∀ e ∈ x ++ (k, a) :: z, e.1 < j := by
        intro e he
        rcases List.mem_append.mp he with he | he
        · exact hu e (by simp [he])
        · rcases List.mem_cons.mp he with rfl | he
          · exact hu (k, o) (by simp)
          · exact hu e (by simp [he])
      rcases ht with ⟨p, rfl⟩ | ⟨rfl, hv⟩
      · exact ⟨x, z ++ (j, p) :: v, by simp, by simpa using Tbl.put_replaces (y := v) w hu'⟩
      · exact ⟨x, z ++ v, by simp, by simpa using Tbl.put_inserts w hu' hv⟩

theorem Tbl.del_replacing (h : Tbl.del t j = x ++ (k, o) :: y) :
    ∃ x' y', t = x' ++ (k, o) :: y' ∧ Tbl.del (x' ++ (k, a) :: y') j = x ++ (k, a) :: y := by
  obtain ⟨u, v, rfl, hu, hv⟩ := List.filter_eq_append_iff.mp h
  obtain ⟨z, y', rfl, hz, -, hy⟩ := List.filter_eq_cons_iff.mp hv
  refine ⟨u ++ z, y', by simp, ?_⟩
  have hz' : Tbl.del z j = [] := List.filter_eq_nil_iff.mpr hz
  have hu' : Tbl.del u j = x := hu
  have hy' : Tbl.del y' j = y := hy
  rw [Tbl.del_append, Tbl.del_append, Tbl.del_cons_ne (e := (k, a)) hjk.symm, hz', hu', hy', List.append_nil]

theorem Tbl.store_replacing {w d : Nat} (h : Tbl.store t j w d = x ++ (k, o) :: y) :
    ∃ x' y', t = x' ++ (k, o) :: y' ∧ Tbl.store (x' ++ (k, a) :: y') j w d = x ++ (k, a) :: y := by
  unfold Tbl.store at h ⊢
  split at h
  next hw => simpa only [if_pos hw] using Tbl.del_replacing hjk a h
  next hw => simpa only [if_neg hw] using Tbl.put_replacing hjk a h

end Replaced

section Inserted
variable {t x y : Tbl Nat} {j k : Nat} (hjk : j ≠ k) (a : Nat) (hp : Tbl.Place k x y)
include hjk hp

omit hjk in
theorem Tbl.put_inserting {w : Nat} (h : Tbl.put t j w = x ++ y) :
    ∃ x' y', t = x' ++ y' ∧ Tbl.Place k x' y' ∧ Tbl.put (x' ++ (k, a) :: y') j w = x ++ (k, a) :: y := by
  obtain ⟨u, v, hput, hu, ht⟩ := Tbl.put_cases t j w
  obtain ⟨hlast, hhead⟩ := hp
  rw [hput] at h
  rcases List.append_eq_append_iff.mp h with ⟨z, rfl, hz⟩ | ⟨z, rfl, hz⟩
  · cases z with
    | nil =>
      obtain rfl : y = (j, w) :: v := by simpa using hz.symm
      have hkj : k < j := hhead (j, w) rfl
      have hu' : ∀ e ∈ u ++ [(k, a)], e.1 < j := by
        intro e he
        rcases List.mem_append.mp he with he | he
        · exact hu e he
        · rw [List.mem_singleton.mp he]; exact hkj
      rw [List.append_nil] at hlast
      rcases ht with ⟨p, rfl⟩ | ⟨rfl, hv⟩
      · refine ⟨u, (j, p) :: v, rfl, ⟨hlast, by simpa using hkj⟩, ?_⟩
        simpa using Tbl.put_replaces (y := v) w hu'
      · refine ⟨u, v, rfl, ⟨hlast, fun e he => hkj.trans (hv e he)⟩, ?_⟩
        simpa using Tbl.put_inserts w hu' hv
    | cons e z =>
      obtain ⟨rfl, rfl⟩ : (j, w) = e ∧ v = z ++ y := by simpa using hz
      rcases ht with ⟨p, rfl⟩ | ⟨rfl, hv⟩
      · refine ⟨u ++ (j, p) :: z, y, by simp, ⟨?_, hhead⟩, ?_⟩
        · cases z using List.reverseRecOn with
          | nil => simpa using hlast
          | append_singleton z e =>
            rw [← List.cons_append, ← List.append_assoc, List.getLast?_concat] at hlast ⊢
            exact hlast
        · simpa using Tbl.put_replaces (y := z ++ (k, a) :: y) w hu
      · have hv' : ∀ e, (z ++ (k, a) :: y).head? = some e → j < e.1 := by
          cases z with
          | nil => intro e he; cases he; exact hlast (j, w) (by simp)
          | cons e z => exact hv
        refine ⟨u ++ z, y, by simp, ⟨?_, hhead⟩, by simpa using Tbl.put_inserts w hu hv'⟩
        cases z using List.reverseRecOn with
        | nil =>
          have hjk' : j < k := by simpa using hlast
          intro e he
          exact (hu e (List.mem_of_getLast? (by simpa using he))).trans hjk'
        | append_singleton z e =>
          rw [← List.cons_append, ← List.append_assoc, List.getLast?_concat] at hlast
          rw [← List.append_assoc, List.getLast?_concat]
          exact hlast
  · cases z with
    | nil =>
      obtain rfl : y = (j, w) :: v := by simpa using hz
      have hkj : k < j := hhead (j, w) rfl
      have hu' : ∀ e ∈ x ++ [(k, a)], e.1 < j := by
        intro e he
        rcases List.mem_append.mp he with he | he
        · exact hu e (by simpa using he)
        · rw [List.mem_singleton.mp he]; exact hkj
      rcases ht with ⟨p, rfl⟩ | ⟨rfl, hv⟩
      · refine ⟨x, (j, p) :: v, by simp, ⟨hlast, by simpa using hkj⟩, ?_⟩
        simpa using Tbl.put_replaces (y := v) w hu'
      · refine ⟨x, v, by simp, ⟨hlast, fun e he => hkj.trans (hv e he)⟩, ?_⟩
        simpa using Tbl.put_inserts w hu' hv
    | cons e z =>
      subst hz
      have hke : k < e.1 := hhead e rfl
      have hkj : k < j := hke.trans (hu e (by simp))
      have hu' : ∀ f ∈ x ++ (k, a) :: e :: z, f.1 < j := by
        intro f hf
        rcases List.mem_append.mp hf with hf | hf
        · exact hu f (by simp [hf])
        · rcases List.mem_cons.mp hf with rfl | hf
          · exact hkj
          · exact hu f (List.mem_append_right _ hf)
      rcases ht with ⟨p, rfl⟩ | ⟨rfl, hv⟩
      · refine ⟨x, e :: z ++ (j, p) :: v, by simp, ⟨hlast, by simpa using hke⟩, ?_⟩
        simpa using Tbl.put_replaces (y := v) w hu'
      · refine ⟨x, e :: z ++ v, by simp, ⟨hlast, by simpa using hke⟩, ?_⟩
        simpa using Tbl.put_inserts w hu' hv

theorem Tbl.del_inserting (h : Tbl.del t j = x ++ y) : ∃ x' y', t = x' ++ y' ∧ Tbl.Place k x' y' ∧ Tbl.del x' j = x ∧ Tbl.del y' j = y := by
  induction t generalizing x with
  | nil =>
    obtain ⟨rfl, rfl⟩ : x = [] ∧ y = [] := by simpa [Tbl.del] using h
    exact ⟨[], [], rfl, hp, rfl, rfl⟩
  | cons e t ih =>
    obtain ⟨hlast, hhead⟩ := hp
    by_cases he : e.1 = j
    · have hdel (z : Tbl Nat) : Tbl.del (e :: z) j = Tbl.del z j := List.filter_cons_of_neg (by simpa using he)
      rw [hdel] at h
      obtain ⟨x', y', rfl, ⟨hlast', hhead'⟩, hx, hy⟩ := ih ⟨hlast, hhead⟩ h
      by_cases hjk' : j < k
      · refine ⟨e :: x', y', rfl, ⟨?_, hhead'⟩, (hdel x').trans hx, hy⟩
        cases x' with
        | nil =>
          intro f hf
          obtain rfl : e = f := by simpa using hf
          omega
        | cons f x' => simpa using hlast'
      · cases x' with
        | nil => exact ⟨[], e :: y', rfl, ⟨hlast', fun f hf => by cases hf; omega⟩, hx, (hdel y').trans hy⟩
        | cons f x' => exact ⟨e :: f :: x', y', rfl, ⟨by simpa using hlast', hhead'⟩, (hdel _).trans hx, hy⟩
    · rw [Tbl.del_cons_ne he] at h
      cases x with
      | nil =>
        obtain rfl : y = e :: Tbl.del t j := h.symm
        exact ⟨[], e :: t, rfl, ⟨hlast, fun f hf => hhead f hf⟩, rfl, Tbl.del_cons_ne he t⟩
      | cons f x =>
        obtain ⟨rfl, ht⟩ : e = f ∧ Tbl.del t j = x ++ y := by simpa using h
        have hlast' : ∀ f, x.getLast? = some f → f.1 < k := by
          cases x with
          | nil => intro f hf; cases hf
          | cons f x => simpa using hlast
        obtain ⟨x', y', rfl, ⟨hlast'', hhead'⟩, hx, hy⟩ := ih ⟨hlast', hhead⟩ ht
        refine ⟨e :: x', y', rfl, ⟨?_, hhead'⟩, by rw [Tbl.del_cons_ne he, hx], hy⟩
        cases x' with
        | nil =>
          obtain rfl : x = [] := hx.symm
          exact hlast
        | cons f x' => simpa using hlast''

theorem Tbl.store_inserting {w d : Nat} (h : Tbl.store t j w d = x ++ y) :
    ∃ x' y', t = x' ++ y' ∧ Tbl.Place k x' y' ∧ Tbl.store (x' ++ (k, a) :: y') j w d = x ++ (k, a) :: y := by
  unfold Tbl.store at h ⊢
  split at h
  next hw =>
    obtain ⟨x', y', ht, hp', hx, hy⟩ := Tbl.del_inserting hjk hp h
    refine ⟨x', y', ht, hp', ?_⟩
    rw [if_pos hw, Tbl.del_append, Tbl.del_cons_ne (e := (k, a)) hjk.symm, hx, hy]
  next hw => simpa only [if_neg hw] using Tbl.put_inserting a hp h

end Inserted

/-- What is put at a key after stores at others can be there before them. -/
theorem Tbl.storeAll_put (k a : Nat) : ∀ (l : List (Nat × Nat × Nat)), (∀ e ∈ l, e.1 ≠ k) → ∀ t : Tbl Nat,
    ∃ t', (∀ j, k ≠ j → Tbl.get? t' j = Tbl.get? t j) ∧ Tbl.storeAll t' l = Tbl.put (Tbl.storeAll t l) k a := by
  intro l hl t
  have hreplace : ∀ (l : List (Nat × Nat × Nat)), (∀ e ∈ l, e.1 ≠ k) → ∀ (t x y : Tbl Nat) (o : Nat), Tbl.storeAll t l = x ++ (k, o) :: y →
      ∃ x' y', t = x' ++ (k, o) :: y' ∧ Tbl.storeAll (x' ++ (k, a) :: y') l = x ++ (k, a) :: y := by
    intro l
    induction l with
    | nil => exact fun _ t x y o h => ⟨x, y, h, rfl⟩
    | cons e l ih =>
      intro hl t x y o h
      obtain ⟨x₁, y₁, h₁, h₂⟩ := ih (fun f hf => hl f (List.mem_cons_of_mem _ hf)) _ x y o h
      obtain ⟨x', y', ht, h₃⟩ := Tbl.store_replacing (hl e List.mem_cons_self) a h₁
      exact ⟨x', y', ht, (congrArg (Tbl.storeAll · l) h₃).trans h₂⟩
  have hinsert : ∀ (l : List (Nat × Nat × Nat)), (∀ e ∈ l, e.1 ≠ k) → ∀ (t x y : Tbl Nat), Tbl.storeAll t l = x ++ y → Tbl.Place k x y →
      ∃ x' y', t = x' ++ y' ∧ Tbl.Place k x' y' ∧ Tbl.storeAll (x' ++ (k, a) :: y') l = x ++ (k, a) :: y := by
    intro l
    induction l with
    | nil => exact fun _ t x y h hp => ⟨x, y, h, hp, rfl⟩
    | cons e l ih =>
      intro hl t x y h hp
      obtain ⟨x₁, y₁, h₁, hp₁, h₂⟩ := ih (fun f hf => hl f (List.mem_cons_of_mem _ hf)) _ x y h hp
      obtain ⟨x', y', ht, hp', h₃⟩ := Tbl.store_inserting (hl e List.mem_cons_self) a hp₁ h₁
      exact ⟨x', y', ht, hp', (congrArg (Tbl.storeAll · l) h₃).trans h₂⟩
  obtain ⟨x, y, hput, hx, ⟨o, ho⟩ | ⟨ho, hy⟩⟩ := Tbl.put_cases (Tbl.storeAll t l) k a
  · obtain ⟨x', y', rfl, h⟩ := hreplace l hl t x y o ho
    exact ⟨_, fun j hj => (Tbl.get?_middle _ _ _ hj).trans (Tbl.get?_middle _ _ _ hj).symm, h.trans hput.symm⟩
  · obtain ⟨x', y', rfl, -, h⟩ := hinsert l hl t x y ho ⟨fun e he => hx e (List.mem_of_getLast? he), hy⟩
    exact ⟨_, fun j hj => Tbl.get?_middle _ _ _ hj, h.trans hput.symm⟩

end Sys2Proof.Machine
end

section
/-! Operations that neither read nor write `CTL_COLLIDE`: what they store does not depend on it, so noting a write after them (R91) is the same as
noting it before. -/

namespace Sys2Proof.Machine

variable {s t u : State} {r : Tbl Nat} {c : Ctl}

/-- The keys of `CTL_COLLIDE`. -/
def collideKey (k : Nat) : Prop := k = F.CTL_COLLIDE_OFFSET.key 0 ∨ k = F.CTL_COLLIDE_COUNT.key 0

/-- Register files that agree but for `CTL_COLLIDE`. -/
def RegsAgree (r r' : Tbl Nat) : Prop := ∀ k, ¬collideKey k → Tbl.get? r' k = Tbl.get? r k

/-- The state with another register file and another control part. -/
def State.rebased (s : State) (r : Tbl Nat) (c : Ctl) : State := { s with regs := r, ctl := c }

/-- An operation whose stores are the same over every register file that agrees but for `CTL_COLLIDE`, and that leaves the control part alone. -/
def Uniform (f : State → State) : Prop := ∀ s, ∃ l, (∀ e ∈ l, ¬collideKey e.1) ∧
  ∀ r c, RegsAgree s.regs r → f (s.rebased r c) = (f s).rebased (Tbl.storeAll r l) c

/-- What is read without `CTL_COLLIDE` and the control part. -/
def Blind {α : Type} (g : State → α) : Prop := ∀ s r c, RegsAgree s.regs r → g (s.rebased r c) = g s

/-- A field behind `CTL_COLLIDE`, in every bank. -/
theorem Fld.clear {f : Fld} (h : 0x38 < f.off) (b : Nat) : ¬collideKey (f.key b) := by
  have ho : F.CTL_COLLIDE_OFFSET.key 0 < 0x39 * 64 := by decide
  have hc : F.CTL_COLLIDE_COUNT.key 0 < 0x39 * 64 := by decide
  have hk : 0x39 * 64 ≤ f.key b := by unfold Fld.key; omega
  rintro (e | e) <;> omega

theorem RegsAgree.storeAll {r r' : Tbl Nat} (h : RegsAgree r r') : ∀ (l : List (Nat × Nat × Nat)), (∀ e ∈ l, ¬collideKey e.1) →
    RegsAgree (Tbl.storeAll r l) (Tbl.storeAll r' l) := by
  intro l
  induction l generalizing r r' with
  | nil => exact fun _ => h
  | cons e l ih =>
    intro hl
    refine ih (fun k hk => ?_) (fun f hf => hl f (List.mem_cons_of_mem _ hf))
    unfold Tbl.store
    dsimp only
    by_cases hke : e.1 = k
    · subst hke
      split <;> simp
    · split
      · rw [Tbl.get?_del_ne _ hke, Tbl.get?_del_ne _ hke, h k hk]
      · rw [Tbl.get?_put_ne _ _ hke, Tbl.get?_put_ne _ _ hke, h k hk]

/-! ### How uniform operations are made up -/

section Compose
variable {f g : State → State}

theorem Uniform.regs (hf : Uniform f) (s : State) : ∃ l, (∀ e ∈ l, ¬collideKey e.1) ∧ (f s).regs = Tbl.storeAll s.regs l ∧ (f s).ctl = s.ctl ∧
    ∀ r c, RegsAgree s.regs r → f (s.rebased r c) = (f s).rebased (Tbl.storeAll r l) c := by
  obtain ⟨l, hl, h⟩ := hf s
  have hself : f s = (f s).rebased (Tbl.storeAll s.regs l) s.ctl := h s.regs s.ctl (fun _ _ => rfl)
  have hctl : (f s).ctl = ((f s).rebased (Tbl.storeAll s.regs l) s.ctl).ctl := congrArg State.ctl hself
  exact ⟨l, hl, congrArg State.regs hself, hctl, h⟩

theorem Uniform.bind (hf : Uniform f) (hg : Uniform g) : Uniform (fun s => g (f s)) := by
  intro s
  obtain ⟨l, hl, hregs, -, h⟩ := hf.regs s
  obtain ⟨l', hl', h'⟩ := hg (f s)
  refine ⟨l ++ l', fun e he => (List.mem_append.mp he).elim (hl e) (hl' e), fun r c hr => ?_⟩
  have hr' : RegsAgree (f s).regs (Tbl.storeAll r l) := by rw [hregs]; exact hr.storeAll l hl
  rw [Tbl.storeAll_append]
  exact (congrArg g (h r c hr)).trans (h' _ c hr')

/-- An operation on the other parts of the state alone. -/
theorem Uniform.of_rebased (h : ∀ s r c, RegsAgree s.regs r → f (s.rebased r c) = (f s).rebased r c) : Uniform f :=
  fun s => ⟨[], by simp, fun r c hr => h s r c hr⟩

theorem Uniform.id : Uniform (fun s => s) := .of_rebased fun _ _ _ _ => rfl

theorem Uniform.dep {α : Type} {p : State → α} (hp : Blind p) {h : α → State → State} (hh : ∀ a, Uniform (h a)) : Uniform (fun s => h (p s) s) := by
  intro s
  obtain ⟨l, hl, hs⟩ := hh (p s) s
  refine ⟨l, hl, fun r c hr => ?_⟩
  dsimp only
  rw [hp s r c hr]
  exact hs r c hr

theorem Uniform.ite {p : State → Prop} [∀ s, Decidable (p s)] (hp : Blind p) (hf : Uniform f) (hg : Uniform g) :
    Uniform (fun s => if p s then f s else g s) := by
  intro s
  by_cases h : p s
  · obtain ⟨l, hl, hs⟩ := hf s
    refine ⟨l, hl, fun r c hr => ?_⟩
    dsimp only
    rw [if_pos h, if_pos (show p (s.rebased r c) from (hp s r c hr).symm ▸ h)]
    exact hs r c hr
  · obtain ⟨l, hl, hs⟩ := hg s
    refine ⟨l, hl, fun r c hr => ?_⟩
    dsimp only
    rw [if_neg h, if_neg (show ¬p (s.rebased r c) from (hp s r c hr).symm ▸ h)]
    exact hs r c hr

theorem Uniform.foldl {α : Type} {g : State → α → State} (h : ∀ a, Uniform (fun s => g s a)) : ∀ l : List α, Uniform (fun s => l.foldl g s)
  | [] => .id
  | a :: l => (h a).bind (.foldl h l)

end Compose

/-! ### Fields -/

section Rebased
variable (h : RegsAgree s.regs r)
include h

theorem State.fld_rebased {f : Fld} {b : Nat} (hf : ¬collideKey (f.key b)) : (s.rebased r c).fld f b = s.fld f b := by
  unfold State.fld Tbl.getD
  rw [show (s.rebased r c).regs = r from rfl, h _ hf]

theorem State.fld_rebased_behind {f : Fld} (hf : 0x38 < f.off) (b : Nat) : (s.rebased r c).fld f b = s.fld f b := State.fld_rebased h (Fld.clear hf b)

theorem State.devnum_rebased : (s.rebased r c).devnum = s.devnum := State.fld_rebased h (by rintro (e | e) <;> exact absurd e (by decide))

theorem State.isSelf_rebased (d : Nat) : (s.rebased r c).isSelf d = s.isSelf d := by rw [State.isSelf, State.devnum_rebased h]; rfl

end Rebased

theorem Uniform.setF {f : Fld} {b : Nat} (hf : ¬collideKey (f.key b)) {v : State → Nat} (hv : Blind v) : Uniform (fun s => s.setF f (v s) b) := by
  intro s
  refine ⟨[(f.key b, v s % 2 ^ f.width, f.reset)], by simpa using hf, fun r c hr => ?_⟩
  dsimp only
  rw [hv s r c hr]
  rfl

theorem Uniform.setF_const {f : Fld} (hf : 0x38 < f.off) (b v : Nat) : Uniform (fun s => s.setF f v b) := .setF (Fld.clear hf b) fun _ _ _ _ => rfl

theorem Uniform.count {f : Fld} (hf : 0x38 < f.off) (n b : Nat) : Uniform (fun s => s.count f n b) :=
  .setF (Fld.clear hf b) fun s r c h => by rw [State.fld_rebased_behind h hf]

theorem Uniform.addF {f : Fld} (hf : 0x38 < f.off) (n b : Nat) : Uniform (fun s => s.addF f n b) :=
  .setF (Fld.clear hf b) fun s r c h => by rw [State.fld_rebased_behind h hf]

theorem Uniform.bumpSeq {f : Fld} (hf : 0x38 < f.off) (b : Nat) : Uniform (fun s => s.bumpSeq f b) :=
  .setF (Fld.clear hf b) fun s r c h => by rw [State.fld_rebased_behind h hf]

theorem Uniform.trackMax {f : Fld} (hf : 0x38 < f.off) (v b : Nat) : Uniform (fun s => s.trackMax f v b) :=
  .ite (fun s r c h => by rw [State.fld_rebased_behind h hf]) (.setF_const hf b _) .id

/-! ### A write is noted before or after -/

theorem State.noteWrite_rebased (s : State) (x : SeatId) {off : Nat} (hoff : off % 2 ^ 24 ≠ 0) :
    ∃ (l : List (Nat × Nat)) (c : Ctl), (∀ e ∈ l, collideKey e.1) ∧ s.noteWrite x off = s.rebased (l.foldl (fun t (e : Nat × Nat) => Tbl.put t e.1 e.2) s.regs) c := by
  have hcount (v : State) : ∃ a, v.count F.CTL_COLLIDE_COUNT = { v with regs := Tbl.put v.regs (F.CTL_COLLIDE_COUNT.key 0) a } := by
    refine ⟨satAdd 16 (v.fld F.CTL_COLLIDE_COUNT) 1 % 2 ^ 16, ?_⟩
    have hne : satAdd 16 (v.fld F.CTL_COLLIDE_COUNT) 1 % 2 ^ 16 ≠ 0 := by unfold satAdd; omega
    unfold State.count State.setF Tbl.store
    exact congrArg (fun t => { v with regs := t }) (if_neg hne)
  have hset (v : State) : v.setF F.CTL_COLLIDE_OFFSET off = { v with regs := Tbl.put v.regs (F.CTL_COLLIDE_OFFSET.key 0) (off % 2 ^ 24) } := by
    unfold State.setF Tbl.store
    exact congrArg (fun t => { v with regs := t }) (if_neg hoff)
  have hno : ∃ (l : List (Nat × Nat)) (c : Ctl), (∀ e ∈ l, collideKey e.1) ∧ ({ s with ctl.lastWrite := s.ctl.lastWrite.put (2 * off + x.idx) s.now } : State) =
      s.rebased (l.foldl (fun t (e : Nat × Nat) => Tbl.put t e.1 e.2) s.regs) c := ⟨[], _, by simp, rfl⟩
  unfold State.noteWrite
  split
  · split
    · dsimp only
      split
      · obtain ⟨a, ha⟩ := hcount (s.setF F.CTL_COLLIDE_OFFSET off)
        refine ⟨[(F.CTL_COLLIDE_OFFSET.key 0, off % 2 ^ 24), (F.CTL_COLLIDE_COUNT.key 0, a)],
          { s.ctl with lastWrite := s.ctl.lastWrite.put (2 * off + x.idx) s.now }, by simp [collideKey], ?_⟩
        rw [ha, hset]
        rfl
      · obtain ⟨a, ha⟩ := hcount s
        refine ⟨[(F.CTL_COLLIDE_COUNT.key 0, a)], { s.ctl with lastWrite := s.ctl.lastWrite.put (2 * off + x.idx) s.now }, by simp [collideKey], ?_⟩
        rw [ha]
        rfl
    · exact hno
  · exact hno

/-- What is noted after a uniform operation can be there before it. -/
theorem Uniform.noteWrite {f : State → State} (hf : Uniform f) (s : State) (x : SeatId) {off : Nat} (hoff : off % 2 ^ 24 ≠ 0) :
    ∃ r c, RegsAgree s.regs r ∧ (f s).noteWrite x off = f (s.rebased r c) := by
  obtain ⟨l, c, hl, hnote⟩ := State.noteWrite_rebased (f s) x hoff
  obtain ⟨l', hl', hregs, -, h⟩ := hf.regs s
  have hputs : ∀ (l : List (Nat × Nat)), (∀ e ∈ l, collideKey e.1) → ∀ r, ∃ r', RegsAgree r r' ∧
      Tbl.storeAll r' l' = l.foldl (fun t (e : Nat × Nat) => Tbl.put t e.1 e.2) (Tbl.storeAll r l') := by
    intro l
    induction l using List.reverseRecOn with
    | nil => exact fun _ r => ⟨r, fun _ _ => rfl, rfl⟩
    | append_singleton l e ih =>
      intro hl r
      obtain ⟨r₁, hr₁, h₁⟩ := ih (fun f hf => hl f (List.mem_append_left _ hf)) r
      have he : collideKey e.1 := hl e (by simp)
      obtain ⟨r₂, hr₂, h₂⟩ := Tbl.storeAll_put e.1 e.2 l' (fun f hf hfe => hl' f hf (hfe ▸ he)) r₁
      refine ⟨r₂, fun k hk => (hr₂ k (fun hek => hk (hek ▸ he))).trans (hr₁ k hk), ?_⟩
      rw [h₂, h₁, List.foldl_append]
      rfl
  obtain ⟨r, hr, hstores⟩ := hputs l hl s.regs
  refine ⟨r, c, hr, ?_⟩
  rw [hnote, h r c hr, hstores, hregs]

end Sys2Proof.Machine
end

section
/-! Reading and sending without `CTL_COLLIDE`: the paths of packets, the switch core and requests of this member (spec/08, spec/11). -/

namespace Sys2Proof.Machine

variable {s t u : State} {r : Tbl Nat} {c : Ctl}

/-! ### What is read on the way -/

section Reads
variable (h : RegsAgree s.regs r)
include h

theorem State.fld_rebased_at {f : Fld} (hf : 0x38 < f.off) (i b : Nat) : (s.rebased r c).fld (f.at i) b = s.fld (f.at i) b :=
  State.fld_rebased_behind h (Nat.lt_add_right (8 * i) hf) b

theorem State.memberState_rebased (d : Nat) : (s.rebased r c).memberState d = s.memberState d := by
  rw [State.memberState, State.fld_rebased_at h (by decide)]
  rfl

theorem State.pportTo_rebased (d : Nat) : (s.rebased r c).pportTo d = s.pportTo d := State.fld_rebased_at h (by decide) d 0

theorem State.epochOf_rebased (d : Nat) : (s.rebased r c).epochOf d = s.epochOf d := State.fld_rebased_at h (by decide) d 0

theorem State.portUp_rebased (p : Nat) : (s.rebased r c).portUp p = s.portUp p := by
  rw [State.portUp, State.fld_rebased_behind h (by decide)]
  rfl

theorem State.portWidth_rebased (p : Nat) : (s.rebased r c).portWidth p = s.portWidth p := State.fld_rebased_behind h (by decide) p

theorem State.pathPort_rebased (d : Nat) (p : Path) : (s.rebased r c).pathPort d p = s.pathPort d p := by
  cases p
  · exact State.pportTo_rebased h d
  · rfl
  · exact State.pportTo_rebased h _

theorem State.pathTo_rebased (d : Nat) : (s.rebased r c).pathTo d = s.pathTo d := by
  rw [State.pathTo, State.fld_rebased_at h (by decide), State.fld_rebased_at h (by decide)]
  rfl

theorem State.position_rebased : (s.rebased r c).position = s.position :=
  State.fld_rebased h (by rintro (e | e) <;> exact absurd e (by decide))

theorem State.pathOf_rebased (p : Packet) : (s.rebased r c).pathOf p = s.pathOf p := by
  rw [State.pathOf, State.fld_rebased_at h (by decide), State.position_rebased h, State.pportTo_rebased h, State.portUp_rebased h,
    State.portUp_rebased h, State.pathTo_rebased h]
  rfl

theorem State.answeredAt_rebased (p : Packet) : (s.rebased r c).answeredAt p = s.answeredAt p := by
  rw [State.answeredAt, State.memberState_rebased h, State.isSelf_rebased h]
  rfl

theorem State.functionPort_rebased (w : Waiter) : (s.rebased r c).functionPort w = s.functionPort w := by
  unfold State.functionPort
  simp only [State.fld_rebased_behind h (f := F.ETH_QP_CFG_PORT) (by decide)]
  rfl

theorem State.homePort_rebased (p : Packet) : (s.rebased r c).homePort p = s.homePort p := by
  unfold State.homePort
  simp only [State.functionPort_rebased h]
  rfl

theorem State.sourcePort_rebased (p : Packet) : (s.rebased r c).sourcePort p = s.sourcePort p := by
  unfold State.sourcePort
  simp only [State.functionPort_rebased h]
  rfl

theorem State.egressOf_rebased (p : Packet) : (s.rebased r c).egressOf p = s.egressOf p := by
  simp only [State.egressOf, State.answeredAt_rebased h, State.isSelf_rebased h, State.homePort_rebased h, State.pathOf_rebased h,
    State.pathPort_rebased h]

theorem State.gated_rebased : (s.rebased r c).gated = s.gated := by
  rw [State.gated, State.fld_rebased_behind h (by decide)]
  rfl

theorem State.gateMask_rebased (i : Nat) : (s.rebased r c).gateMask i = s.gateMask i := State.fld_rebased_at h (by decide) i 0

theorem State.gateLen_rebased : (s.rebased r c).gateLen = s.gateLen := State.fld_rebased_behind h (by decide) 0

theorem State.vcReserve_rebased (port vc : Nat) : (s.rebased r c).vcReserve port vc = s.vcReserve port vc := by
  simp only [State.vcReserve, State.gateLen_rebased h, State.gateMask_rebased h, State.portWidth_rebased h]

theorem State.roomFor_rebased (port vc n : Nat) : (s.rebased r c).roomFor port vc n = s.roomFor port vc n := by
  simp only [State.roomFor, State.bufferBytes, State.vcReserve_rebased h, State.portWidth_rebased h, State.gated_rebased h]
  rfl

theorem State.combineWith_rebased (i : Nat) (p : Packet) : (s.rebased r c).combineWith i p = s.combineWith i p := by
  simp only [State.combineWith, State.functionPort_rebased h, State.fld_rebased_behind h (f := F.FAB_COMBINE_DISABLE) (by decide)]
  rfl

theorem State.innerTag_rebased (src tag : Nat) : (s.rebased r c).innerTag src tag = s.innerTag src tag := by
  rw [State.innerTag, State.isSelf_rebased h]
  rfl

theorem State.mustWait_rebased (p : Packet) : (s.rebased r c).mustWait p = s.mustWait p := by
  simp only [State.mustWait, State.unretired, State.innerTag_rebased h, State.fld_rebased_behind h (f := F.FAB_E2E_WINDOW) (by decide)]
  rfl

theorem State.tagSource_rebased (n : Nat) : (s.rebased r c).tagSource n = s.tagSource n := by
  rw [State.tagSource, State.devnum_rebased h]
  rfl

theorem State.route_rebased (dga cls : Nat) : (s.rebased r c).route dga cls = s.route dga cls := by
  simp only [State.route, State.targetOf, State.memberState_rebased h]
  rfl

theorem State.membersIn_rebased (m : MemberState) : (s.rebased r c).membersIn m = s.membersIn m := by
  simp only [State.membersIn, State.memberState_rebased h]

end Reads

theorem State.ctxKey_rebased (s : State) (r : Tbl Nat) (c : Ctl) (x : Nat) : (s.rebased r c).ctxKey x = s.ctxKey x := rfl

/-! ### Into the switch core -/

theorem Uniform.combine (d : Combine) (p : Packet) : Uniform (fun s => s.combine d p) := by
  have hfold : Uniform (fun s => ({ s with
      fab.reqs := s.fab.reqs.map (fun r => if r.pkt.tag == d.leader.tag && r.pkt.op == p.op then
        { r with pkt := (if p.op = opATOMIC then { r.pkt with combined := true, payload := padTo 64 (natLe (p.size + 1)
          ((atomicNew p.atype (leNat (r.pkt.payload.take (p.size + 1))) (leNat (p.payload.take (p.size + 1))) 0).getD 0)) }
          else { r.pkt with combined := true }) } else r),
      sws.combining := s.sws.combining.map (fun e => if e == d then { e with members := e.members ++ [p] } else e),
      sws.voq := s.sws.voq.map (fun q => if q.pkt.tag == d.leader.tag && q.pkt.op == p.op then
        { q with pkt := (if p.op = opATOMIC then { q.pkt with combined := true, payload := padTo 64 (natLe (p.size + 1)
          ((atomicNew p.atype (leNat (q.pkt.payload.take (p.size + 1))) (leNat (p.payload.take (p.size + 1))) 0).getD 0)) }
          else { q.pkt with combined := true }) } else q) } : State)) := .of_rebased fun _ _ _ _ => rfl
  unfold State.combine
  dsimp only
  split
  · exact hfold.bind (.count (by decide) 1 0)
  · exact hfold.bind (.count (by decide) 1 0)

/-- A request of a function behind a port is seen there. -/
def State.voqSeen (s : State) (i : Nat) (p : Packet) : State :=
  if 64 ≤ i ∧ p.op < 0x80 then { s with sws.lastSeen := s.sws.lastSeen.put i s.now } else s

/-- A packet stands in its VOQ. -/
def State.voqAdded (s : State) (i e : Nat) (p : Packet) (live : List Combine) : State :=
  { s with sws.voq := s.sws.voq ++ [⟨i, e, p, s.now, p.excess, false⟩],
           sws.combining := if combinable i p then live ++ [⟨p, [], s.now⟩] else live }

/-- The bytes of a VOQ, as they are counted. -/
def State.voqCounted (s : State) (i n : Nat) : State :=
  (s.addF F.SWS_VOQ_BYTES n i).trackMax F.SWS_VOQ_PEAK_BYTES ((s.addF F.SWS_VOQ_BYTES n i).fld F.SWS_VOQ_BYTES i) i

/-- The packets that others can still join. -/
def State.voqLive (s : State) : List Combine := s.sws.combining.filter (fun c => !c.members.isEmpty || decide (s.now < c.first + 64))

theorem State.enterVoq_eq (s : State) (i e : Nat) (p : Packet) : s.enterVoq i e p = match s.combineWith i p with
    | some d => (s.voqSeen i p).combine d p
    | none => ((s.voqSeen i p).voqAdded i e p (s.voqSeen i p).voqLive).voqCounted i p.bytes := rfl

theorem Uniform.enterVoq (i e : Nat) (p : Packet) : Uniform (fun s => s.enterVoq i e p) := by
  have hseen : Uniform (fun s => s.voqSeen i p) := by
    refine .of_rebased fun s r c h => ?_
    unfold State.voqSeen
    split <;> rfl
  have hadded : Uniform (fun s => s.voqAdded i e p s.voqLive) := .of_rebased fun _ _ _ _ => rfl
  have hpeak : Uniform (fun s => s.trackMax F.SWS_VOQ_PEAK_BYTES (s.fld F.SWS_VOQ_BYTES i) i) :=
    .dep (h := fun v s => s.trackMax F.SWS_VOQ_PEAK_BYTES v i) (fun s r c h => State.fld_rebased_behind h (by decide) i)
      fun v => .trackMax (by decide) v i
  have hcounted : Uniform (fun s => s.voqCounted i p.bytes) := (Uniform.addF (by decide) p.bytes i).bind hpeak
  refine .dep (h := fun o s => match o with
    | some d => (s.voqSeen i p).combine d p
    | none => ((s.voqSeen i p).voqAdded i e p (s.voqSeen i p).voqLive).voqCounted i p.bytes)
    (p := fun s => s.combineWith i p) (fun s r c h => State.combineWith_rebased h i p) fun o => ?_
  cases o with
  | some d => exact hseen.bind (.combine d p)
  | none => exact (hseen.bind hadded).bind hcounted

theorem Uniform.enqueue (i e : Nat) (p : Packet) : Uniform (fun s => s.enqueue i e p) := by
  refine .ite (fun s r c h => ?_) (.of_rebased fun _ _ _ _ => rfl) (.enterVoq i e p)
  rw [State.roomFor_rebased h]
  rfl

theorem Uniform.send (p : Packet) : Uniform (fun s => s.send p) := by
  refine .ite (fun s r c h => ?_) ?_ ?_
  · rw [State.isSelf_rebased h, State.answeredAt_rebased h, State.sourcePort_rebased h, State.egressOf_rebased h]
  · refine .of_rebased fun s r c h => ?_
    rw [State.egressOf_rebased h]
    rfl
  · exact .dep (h := fun (a : Nat × Nat) s => s.enqueue a.1 a.2 p) (p := fun s => (s.sourcePort p, s.egressOf p))
      (fun s r c h => by simp only [State.sourcePort_rebased h, State.egressOf_rebased h]) fun a => .enqueue a.1 a.2 p

/-! ### Requests -/

theorem Uniform.noteUse (d vc : Nat) (path : Path) : Uniform (fun s => s.noteUse d vc path) := by
  refine .ite (fun s r c h => ?_) (.of_rebased fun _ _ _ _ => rfl) .id
  rw [State.isSelf_rebased h]
  rfl

/-- A request is under way. -/
def State.flying (s : State) (p : Packet) (w : Waiter) (path : Path) : State := { s with fab.reqs := s.fab.reqs ++ [Request.mk p w s.now s.now 1 path] }

/-- A request waits for its turn. -/
def State.held (s : State) (p : Packet) (w : Waiter) (path : Path) : State := { s with fab.waiting := s.fab.waiting ++ [⟨p, w, s.now, s.now, 0, path⟩] }

theorem Uniform.launch (p : Packet) (w : Waiter) : Uniform (fun s => s.launch p w) := by
  refine .dep (h := fun path s => if s.mustWait p then s.held p w path else ((s.flying p w path).noteUse p.dst p.vc path).send p)
    (p := fun s => s.pathOf p) (fun s r c h => State.pathOf_rebased h p) fun path => ?_
  have hflying : Uniform (fun s => s.flying p w path) := .of_rebased fun _ _ _ _ => rfl
  refine .ite (fun s r c h => ?_) (.of_rebased fun _ _ _ _ => rfl) ((hflying.bind (.noteUse _ _ path)).bind (.send p))
  rw [State.mustWait_rebased h]

theorem Uniform.issue (p : Packet) (w : Waiter) : Uniform (fun s => s.issue p w) := by
  have hlaunch (n : Nat) : Uniform (fun s => s.launch { p with src := s.tagSource n, tag := n % 2 ^ 48, epoch := s.epochOf p.dst } w) :=
    .dep (h := fun (a : Nat × Nat) s => s.launch { p with src := a.1, tag := n % 2 ^ 48, epoch := a.2 } w)
      (p := fun s => (s.tagSource n, s.epochOf p.dst)) (fun s r c h => by simp only [State.tagSource_rebased h, State.epochOf_rebased h])
      fun a => .launch _ w
  have hdraw : Uniform (fun s => s.drawTag.2) := .of_rebased fun _ _ _ _ => rfl
  by_cases hp : p.tag = 0
  · have heq (s : State) : s.issue p w =
        s.drawTag.2.launch { p with src := s.drawTag.2.tagSource s.drawTag.1, tag := s.drawTag.1 % 2 ^ 48, epoch := s.drawTag.2.epochOf p.dst } w := by
      unfold State.issue
      rw [if_pos hp]
    rw [funext heq]
    exact .dep (h := fun n s => s.drawTag.2.launch { p with src := s.drawTag.2.tagSource n, tag := n % 2 ^ 48, epoch := s.drawTag.2.epochOf p.dst } w)
      (p := fun s => s.drawTag.1) (fun _ _ _ _ => rfl) fun n => hdraw.bind (hlaunch n)
  · have heq (s : State) : s.issue p w = s.launch { p with src := s.tagSource p.tag, tag := p.tag % 2 ^ 48, epoch := s.epochOf p.dst } w := by
      unfold State.issue
      rw [if_neg hp]
    rw [funext heq]
    exact hlaunch p.tag

/-! ### Transfers -/

theorem Uniform.xferWait (id n : Nat) : Uniform (fun s => s.xferWait id n) := .of_rebased fun _ _ _ _ => rfl

theorem Uniform.xferEnd (id off : Nat) (p : Packet) (st : Status) : Uniform (fun s => s.xferEnd id off p st) := .of_rebased fun _ _ _ _ => rfl

theorem Uniform.addLoad (id off ctx cls dga n vc : Nat) : Uniform (fun s => s.addLoad id off ctx cls dga n vc) := by
  refine .dep (p := fun s => (s.ctxKey ctx, s.route dga cls)) (h := fun (a : Nat × Except Status Nat) s =>
    if n = 0 then s
    else if partBlocks dga n then (s.xferWait id 1).xferEnd id off { op := opLOAD, vc := vc, pkey := a.1, ctx := ctx, addr := dga, size := n - 1 } .access
    else match a.2 with
      | .error st => (s.xferWait id 1).xferEnd id off { op := opLOAD, vc := vc, pkey := a.1, ctx := ctx, addr := dga, size := n - 1 } st
      | .ok d =>
        if dgaWin dga = 2 then
          (List.range (ceilDiv n 4096)).foldl (fun s k =>
            (s.xferWait id 16).issue { op := opBLOCK_READ, vc := if vc = vcBULK then vcBULK else vcREQ, pkey := a.1, ctx := ctx, dst := d,
                                       addr := dga + 4096 * k, size := 255 } (.xfer id (off + 4096 * k))) s
        else
          (cut256 dga (n / 256 + 2) n).foldl (fun s c =>
            (s.xferWait id 1).issue { op := opLOAD, vc := vc, pkey := a.1, ctx := ctx, dst := d, addr := c.1, size := c.2 - 1 }
              (.xfer id (off + (c.1 - dga)))) s)
    (fun s r c h => by simp only [State.route_rebased h, State.ctxKey_rebased]) fun a => ?_
  obtain ⟨key, o⟩ := a
  dsimp only
  split
  · exact .id
  · split
    · exact (Uniform.xferWait _ _).bind (.xferEnd _ _ _ _)
    · cases o with
      | error st => exact (Uniform.xferWait _ _).bind (.xferEnd _ _ _ _)
      | ok d =>
        dsimp only
        split
        · exact .foldl (fun k => (Uniform.xferWait _ _).bind (.issue _ _)) _
        · exact .foldl (fun k => (Uniform.xferWait _ _).bind (.issue _ _)) _

end Sys2Proof.Machine
end

section
/-! The event log, lanes and ports without `CTL_COLLIDE` (spec/08 R255 to R258, spec/15 R399). -/

namespace Sys2Proof.Machine

variable {s t u : State} {r : Tbl Nat} {c : Ctl}

/-! ### The event log -/

theorem Uniform.noteLoss (e : ErrRec) : Uniform (fun s => s.noteLoss e) := by
  refine .ite (fun _ _ _ _ => rfl) .id (.bind ?_ (.count (by decide) 1 0))
  exact .ite (fun s r c h => by rw [State.fld_rebased_behind h (by decide)])
    ((Uniform.setF_const (by decide) 0 _).bind (.setF_const (by decide) 0 _)) .id

/-- A record as it is written. -/
def State.recordNow (s : State) (e : ErrRec) : ErrRec :=
  { e with time := s.domainTime, temp := s.fld F.PWR_THERM_TEMP, device := s.devnum, step := s.fld F.RAS_STEP_COUNT, seq := s.fld F.RAS_LOG_PTR_HEAD,
           count := 1 }

theorem State.recordNow_rebased (h : RegsAgree s.regs r) (e : ErrRec) : (s.rebased r c).recordNow e = s.recordNow e := by
  rw [State.recordNow, State.fld_rebased_behind h (by decide), State.devnum_rebased h, State.fld_rebased_behind h (by decide),
    State.fld_rebased_behind h (by decide)]
  rfl

/-- The log has room for a record. -/
def State.logRoom (s : State) : State :=
  if decide (s.fld F.RAS_LOG_STAT_HELD = 16384) then
    (({ s with ras.log := s.ras.log.del (s.fld F.RAS_LOG_PTR_TAIL) } : State).bumpSeq F.RAS_LOG_PTR_TAIL).count F.RAS_LOG_STAT_LOST
  else s.addF F.RAS_LOG_STAT_HELD 1

/-- A record stands in the log. -/
def State.logPut (s : State) (q : Nat) (e : ErrRec) : State :=
  { s with ras.log := s.ras.log.put q e, ras.recent := ((q, s.now) :: s.ras.recent).take 16 }

/-- A record counts a further event. -/
def State.logMerge (s : State) (q : Nat) : State :=
  { s with ras.log := s.ras.log.modify q (fun r' => { r' with count := min (r'.count + 1) 0xFFFFFFFF }) }

theorem State.logErr_eq (s : State) (e : ErrRec) : s.logErr e = match s.mergeSeq e with
    | some q => s.logMerge q
    | none => ((s.noteLoss e).logRoom.logPut ((s.noteLoss e).fld F.RAS_LOG_PTR_HEAD) ((s.noteLoss e).recordNow e)).bumpSeq F.RAS_LOG_PTR_HEAD := rfl

theorem Uniform.logRoom : Uniform State.logRoom := by
  have hdel : Uniform (fun s => { s with ras.log := s.ras.log.del (s.fld F.RAS_LOG_PTR_TAIL) }) := by
    refine .of_rebased fun s r c h => ?_
    rw [State.fld_rebased_behind h (by decide)]
    rfl
  refine .ite (fun s r c h => ?_) ((hdel.bind (.bumpSeq (by decide) 0)).bind (.count (by decide) 1 0)) (.addF (by decide) 1 0)
  rw [State.fld_rebased_behind h (by decide)]

theorem Uniform.logErr (e : ErrRec) : Uniform (fun s => s.logErr e) := by
  have hput : Uniform (fun s => (s.logRoom.logPut (s.fld F.RAS_LOG_PTR_HEAD) (s.recordNow e)).bumpSeq F.RAS_LOG_PTR_HEAD) := by
    refine .dep (p := fun s => (s.fld F.RAS_LOG_PTR_HEAD, s.recordNow e))
      (h := fun (a : Nat × ErrRec) s => (s.logRoom.logPut a.1 a.2).bumpSeq F.RAS_LOG_PTR_HEAD)
      (fun s r c h => by simp only [State.fld_rebased_behind h (f := F.RAS_LOG_PTR_HEAD) (by decide), State.recordNow_rebased h]) fun a => ?_
    have hlog : Uniform (fun s => s.logPut a.1 a.2) := .of_rebased fun _ _ _ _ => rfl
    exact (Uniform.logRoom.bind hlog).bind (.bumpSeq (by decide) 0)
  refine .dep (p := fun s => s.mergeSeq e) (h := fun o s => match o with
    | some q => s.logMerge q
    | none => ((s.noteLoss e).logRoom.logPut ((s.noteLoss e).fld F.RAS_LOG_PTR_HEAD) ((s.noteLoss e).recordNow e)).bumpSeq F.RAS_LOG_PTR_HEAD)
    (fun _ _ _ _ => rfl) fun o => ?_
  cases o with
  | some q => exact .of_rebased fun _ _ _ _ => rfl
  | none => exact (Uniform.noteLoss e).bind hput

theorem Uniform.linkRecord (port lane event : Nat) (st : Status) : Uniform (fun s => s.linkRecord port lane event st) :=
  .dep (p := fun s => s.fld F.FAB_PORT_STATUS_PEER port)
    (h := fun v s => s.logErr { unit := .fab, status := st, index := port, syndrome := event + lane * 256 + v * 65536 })
    (fun s r c h => State.fld_rebased_behind h (by decide) port) fun v => .logErr _

/-! ### Paths -/

theorem Uniform.resend (q : Request) : Uniform (fun s => s.resend q) := by
  have hsent (path : Path) : Uniform (fun s => { s with fab.reqs := s.fab.reqs.map (fun p =>
      if p.pkt.tag == q.pkt.tag && p.pkt.src == q.pkt.src then { p with sent := s.now, copies := p.copies + 1, path := path } else p) }) :=
    .of_rebased fun _ _ _ _ => rfl
  refine .ite (fun _ _ _ _ => rfl) .id ?_
  exact .dep (p := fun s => s.pathOf q.pkt) (h := fun path s => (({ s with fab.reqs := s.fab.reqs.map (fun p =>
      if p.pkt.tag == q.pkt.tag && p.pkt.src == q.pkt.src then { p with sent := s.now, copies := p.copies + 1, path := path } else p) } :
      State).noteUse q.pkt.dst q.pkt.vc path).send q.pkt) (fun s r c h => State.pathOf_rebased h q.pkt)
    fun path => ((hsent path).bind (.noteUse _ _ path)).bind (.send q.pkt)

theorem Uniform.pathDead (d : Nat) (path : Path) : Uniform (fun s => s.pathDead d path) := by
  have hforget : Uniform (fun s => { s with fab.markers := s.fab.markers.filter (fun m => !(m.dst == d && m.path == path)),
                                            fab.used := s.fab.used.filter (fun u => !(u.1 == d && u.2.2 == path)) }) := .of_rebased fun _ _ _ _ => rfl
  have hresend : Uniform (fun s => (s.fab.reqs.filter (fun r => r.pkt.dst == d)).foldl State.resend s) :=
    .dep (p := fun s => s.fab.reqs.filter (fun r => r.pkt.dst == d)) (h := fun l s => l.foldl State.resend s) (fun _ _ _ _ => rfl)
      fun l => .foldl .resend l
  exact ((Uniform.count (by decide) 1 0).bind hforget).bind hresend

theorem Uniform.sendMarker (d vc : Nat) (path : Path) : Uniform (fun s => s.sendMarker d vc path) := by
  have hmark (n : Nat) : Uniform (fun s => { s with fab.nextMarker := n + 1, fab.markers := s.fab.markers ++ [⟨n, d, vc, path⟩],
                                                    fab.used := s.fab.used.filter (· != (d, vc, path)) }) := .of_rebased fun _ _ _ _ => rfl
  have hgo (p : Packet) : Uniform (fun s => (s.count F.FAB_FENCE_MARKERS).enqueue portQueue (s.pathPort d path) p) :=
    .dep (p := fun s => s.pathPort d path) (h := fun e s => (s.count F.FAB_FENCE_MARKERS).enqueue portQueue e p)
      (fun s r c h => State.pathPort_rebased h d path) fun e => (Uniform.count (by decide) 1 0).bind (.enqueue _ e p)
  refine .dep (p := fun s => (s.fab.nextMarker, s.devnum, s.epochOf d)) (h := fun (a : Nat × Nat × Nat) s =>
    (({ s with fab.nextMarker := a.1 + 1, fab.markers := s.fab.markers ++ [⟨a.1, d, vc, path⟩],
               fab.used := s.fab.used.filter (· != (d, vc, path)) } : State).count F.FAB_FENCE_MARKERS).enqueue portQueue
      (({ s with fab.nextMarker := a.1 + 1, fab.markers := s.fab.markers ++ [⟨a.1, d, vc, path⟩],
                 fab.used := s.fab.used.filter (· != (d, vc, path)) } : State).pathPort d path)
      { op := opFENCE_MARK, vc := vc, src := a.2.1, dst := d, epoch := a.2.2, aux := a.1, tag := a.1 })
    (fun s r c h => by simp only [State.devnum_rebased h, State.epochOf_rebased h]; rfl) fun a => ?_
  exact (hmark a.1).bind (hgo { op := opFENCE_MARK, vc := vc, src := a.2.1, dst := d, epoch := a.2.2, aux := a.1, tag := a.1 })

theorem State.relayFor_rebased (h : RegsAgree s.regs r) (d : Nat) : (s.rebased r c).relayFor d = s.relayFor d := by
  simp only [State.relayFor, State.isSelf_rebased h, State.memberState_rebased h, State.portUp_rebased h, State.pportTo_rebased h]
  rfl

/-- The path that is to be taken to a member now. -/
def State.bestPath (s : State) (d : Nat) : Path :=
  if s.portUp (s.pportTo d) then .direct else match s.relayFor d with | some r => .relay r | none => s.pathTo d

/-- The fence markers of a path that is left. -/
def State.markLeft (s : State) (d : Nat) (old : Path) : State :=
  if s.portUp (s.pathPort d old) then (s.vcsOn d old).foldl (fun s vc => s.sendMarker d vc old) s else s

/-- A path to a member is in force. -/
def State.showPath (s : State) (d : Nat) (new : Path) : State :=
  match new with
  | .relay r => (s.setF (F.FAB_MEMBER_RELAYED.at d) 1).setF (F.FAB_MEMBER_RELAY.at d) r
  | _ => (s.setF (F.FAB_MEMBER_RELAYED.at d) 0).setF (F.FAB_MEMBER_RELAY.at d) 0

/-- What was under way on a dead path. -/
def State.leaveDead (s : State) (d : Nat) (old : Path) : State :=
  match old with
  | .relay r => s.issue { op := opRELAY_DRAIN, vc := vcMGMT, dst := r, aux := d } (.control opRELAY_DRAIN (d + 64 * r))
  | _ => s.pathDead d old

theorem State.reroute_eq (s : State) (d : Nat) : s.reroute d = if s.bestPath d = s.pathTo d then s else
    if !(s.markLeft d (s.pathTo d)).portUp ((s.markLeft d (s.pathTo d)).pathPort d (s.pathTo d)) then
      (((s.markLeft d (s.pathTo d)).showPath d (s.bestPath d)).bumpEpoch d).leaveDead d (s.pathTo d)
    else ((s.markLeft d (s.pathTo d)).showPath d (s.bestPath d)).bumpEpoch d := rfl

theorem Uniform.setF_at {f : Fld} (hf : 0x38 < f.off) (i v : Nat) : Uniform (fun s => s.setF (f.at i) v) := .setF_const (Nat.lt_add_right (8 * i) hf) 0 v

theorem Uniform.reroute (d : Nat) : Uniform (fun s => s.reroute d) := by
  have hmark (old : Path) : Uniform (fun s => s.markLeft d old) := by
    refine .ite (fun s r c h => by rw [State.portUp_rebased h, State.pathPort_rebased h]) ?_ .id
    exact .dep (p := fun s => s.vcsOn d old) (h := fun l s => l.foldl (fun s vc => s.sendMarker d vc old) s) (fun _ _ _ _ => rfl)
      fun l => .foldl (fun vc => .sendMarker d vc old) l
  have hshow (new : Path) : Uniform (fun s => (s.showPath d new).bumpEpoch d) := by
    refine Uniform.bind ?_ (.bumpSeq (Nat.lt_add_right (8 * d) (by decide)) 0)
    cases new <;> exact (Uniform.setF_at (by decide) d _).bind (.setF_at (by decide) d _)
  have hdead (old : Path) : Uniform (fun s => s.leaveDead d old) := by
    cases old with
    | relay r => exact .issue { op := opRELAY_DRAIN, vc := vcMGMT, dst := r, aux := d } (.control opRELAY_DRAIN (d + 64 * r))
    | direct => exact .pathDead d .direct
    | second => exact .pathDead d .second
  have hmove (old new : Path) : Uniform (fun s => if !s.portUp (s.pathPort d old) then ((s.showPath d new).bumpEpoch d).leaveDead d old
      else (s.showPath d new).bumpEpoch d) :=
    .ite (fun s r c h => by rw [State.portUp_rebased h, State.pathPort_rebased h]) ((hshow new).bind (hdead old)) (hshow new)
  refine .dep (p := fun s => (s.pathTo d, s.bestPath d)) (h := fun (a : Path × Path) s => if a.2 = a.1 then s else
    if !(s.markLeft d a.1).portUp ((s.markLeft d a.1).pathPort d a.1) then (((s.markLeft d a.1).showPath d a.2).bumpEpoch d).leaveDead d a.1
    else ((s.markLeft d a.1).showPath d a.2).bumpEpoch d) (fun s r c h => ?_) fun a => ?_
  · simp only [State.bestPath, State.pathTo_rebased h, State.portUp_rebased h, State.pportTo_rebased h, State.relayFor_rebased h]
  · exact .ite (fun _ _ _ _ => rfl) .id ((hmark a.1).bind (hmove a.1 a.2))

end Sys2Proof.Machine
end

section
/-! Lanes that go dark, without `CTL_COLLIDE` (spec/08 R255, R287; spec/17 R444). -/

namespace Sys2Proof.Machine

variable {s t u : State} {r : Tbl Nat} {c : Ctl}

/-! ### Lanes -/

/-- The lanes of a port that are up, as `FAB_PORT_STATUS` shows them. -/
def State.lanesShown (s : State) (port : Nat) : Nat := maskOf ((List.range (s.portWidth port)).filter (fun k => s.laneState port k == .up))

/-- The state of a port, as `FAB_PORT_STATUS` shows it. -/
def State.portShown (s : State) (port : Nat) : Nat :=
  let w := s.portWidth port
  let lanes := (List.range w).map (fun k => s.laneState port k)
  if w = 0 then 0
  else if lanes.all (· == .up) then 2
  else if lanes.any (· == .up) then 3
  else if lanes.any (· == .training) then 1
  else if lanes.all (· == .held) then 5
  else if lanes.all (· == .unused) then 0
  else 4

theorem Uniform.showPort (port : Nat) : Uniform (fun s => s.showPort port) := by
  refine .dep (p := fun s => (s.lanesShown port, s.portShown port))
    (h := fun (a : Nat × Nat) s => (s.setF F.FAB_PORT_STATUS_LANES_UP a.1 port).setF F.FAB_PORT_STATUS_STATE a.2 port) (fun s r c h => ?_)
    fun a => (Uniform.setF_const (by decide) port a.1).bind (.setF_const (by decide) port a.2)
  simp only [State.lanesShown, State.portShown, State.portWidth_rebased h]
  rfl

theorem State.peerOf_rebased (h : RegsAgree s.regs r) (port : Nat) : (s.rebased r c).peerOf port = s.peerOf port := by
  simp only [State.peerOf, State.memberState_rebased h, State.pportTo_rebased h]

/-- The lanes up to a port's peer. -/
def State.showPeerLanes (s : State) (port : Nat) : State :=
  match s.peerOf port with
  | some d => s.setF (F.FAB_MEMBER_LANES_UP.at d) (s.fld F.FAB_PORT_STATUS_LANES_UP port)
  | none => s

theorem Uniform.showPeerLanes (port : Nat) : Uniform (fun s => s.showPeerLanes port) := by
  refine .dep (p := fun s => (s.peerOf port, s.fld F.FAB_PORT_STATUS_LANES_UP port)) (h := fun (a : Option Nat × Nat) s => match a.1 with
    | some d => s.setF (F.FAB_MEMBER_LANES_UP.at d) a.2
    | none => s) (fun s r c h => ?_) fun a => ?_
  · simp only [State.peerOf_rebased h, State.fld_rebased_behind h (f := F.FAB_PORT_STATUS_LANES_UP) (by decide)]
  · obtain ⟨o, v⟩ := a
    cases o with
    | none => exact .id
    | some d => exact .setF_at (by decide) d v

theorem Uniform.setLane (port lane : Nat) (l : LaneState) : Uniform (fun s => s.setLane port lane l) := by
  have hput : Uniform (fun s => { s with dom.lanes := s.dom.lanes.put (laneKey port lane) l }) := .of_rebased fun _ _ _ _ => rfl
  exact (hput.bind (.showPort port)).bind (.showPeerLanes port)

/-! ### A port goes down -/

/-- What has been agreed over a link is forgotten. -/
def State.linkForgotten (s : State) (port : Nat) : State :=
  s.setLink port { s.link port with credits := [], returned := [], withheld := [], retryBuf := [], txSeq := 0, rxSeq := 0, keyed := 0, frames := 0 }

/-- A member whose path went over a port that is down is reached by another. -/
def State.pathsMoved (port : Nat) (s : State) (d : Nat) : State :=
  if !s.isSelf d ∧ s.memberState d ≠ .absent ∧ s.pathPort d (s.pathTo d) = port then
    if (s.reroute d).pathTo d = s.pathTo d then (s.reroute d).pathDead d (s.pathTo d) else s.reroute d
  else if port = portSecond ∧ s.fab.reqs.any (fun r => r.pkt.dst == d && r.path == .second) then s.pathDead d .second
  else s

theorem State.portDown_eq (s : State) (port : Nat) :
    s.portDown port = (List.range 64).foldl (State.pathsMoved port) ((s.linkRecord port 0 2).linkForgotten port) := rfl

theorem Uniform.pathsMoved (port d : Nat) : Uniform (fun s => State.pathsMoved port s d) := by
  have hmove (old : Path) : Uniform (fun s => if s.pathTo d = old then s.pathDead d old else s) :=
    .ite (fun s r c h => by rw [State.pathTo_rebased h]) (.pathDead d old) .id
  refine .ite (fun s r c h => ?_) ?_ (.ite (fun _ _ _ _ => rfl) (.pathDead d .second) .id)
  · rw [State.isSelf_rebased h, State.memberState_rebased h, State.pathTo_rebased h, State.pathPort_rebased h]
  · exact .dep (p := fun s => s.pathTo d) (h := fun old s => if (s.reroute d).pathTo d = old then (s.reroute d).pathDead d old else s.reroute d)
      (fun s r c h => State.pathTo_rebased h d) fun old => (Uniform.reroute d).bind (hmove old)

theorem Uniform.portDown (port : Nat) : Uniform (fun s => s.portDown port) := by
  have hlink : Uniform (fun s => s.linkForgotten port) := .of_rebased fun _ _ _ _ => rfl
  have hmoves (l : List Nat) : Uniform (fun s => l.foldl (State.pathsMoved port) s) := .foldl (fun d => .pathsMoved port d) l
  rw [funext (fun s => State.portDown_eq s port)]
  generalize List.range 64 = l
  exact ((Uniform.linkRecord port 0 2 .timeout).bind hlink).bind (hmoves l)

/-- A port without a lane is down. -/
def State.downIfDark (s : State) (port : Nat) : State := if s.portUp port then s else s.portDown port

/-- A lane that was up has gone. -/
def State.laneGone (s : State) (port lane : Nat) : State := (s.linkRecord port lane 1).downIfDark port

theorem State.laneOut_eq (s : State) (port lane : Nat) (l : LaneState) : s.laneOut port lane l =
    if lane < s.portWidth port ∧ s.laneState port lane ≠ l then
      if s.laneState port lane = .up then (s.setLane port lane l).laneGone port lane else s.setLane port lane l
    else s := rfl

theorem Uniform.laneOut (port lane : Nat) (l : LaneState) : Uniform (fun s => s.laneOut port lane l) := by
  have hdown : Uniform (fun s => s.downIfDark port) :=
    .ite (fun s r c h => by rw [State.portUp_rebased h]) .id (Uniform.portDown port)
  have hgone : Uniform (fun s => s.laneGone port lane) :=
    Uniform.bind (f := fun s => s.linkRecord port lane 1) (g := fun s => s.downIfDark port) (Uniform.linkRecord port lane 1 .timeout) hdown
  have hset : Uniform (fun s => (s.setLane port lane l).laneGone port lane) :=
    Uniform.bind (f := fun s => s.setLane port lane l) (g := fun s => s.laneGone port lane) (.setLane port lane l) hgone
  have hup : Uniform (fun s => if s.laneState port lane = .up then (s.setLane port lane l).laneGone port lane else s.setLane port lane l) :=
    .ite (fun _ _ _ _ => rfl) hset (.setLane port lane l)
  rw [funext (fun s => State.laneOut_eq s port lane l)]
  refine .ite (fun s r c h => ?_) hup .id
  rw [State.portWidth_rebased h]
  rfl

/-- Every lane of a port is taken out of service. -/
theorem Uniform.lanesOut (port : Nat) {p : State → LaneState} (hp : Blind p) :
    Uniform (fun s => (List.range (s.portWidth port)).foldl (fun s k => s.laneOut port k (p s)) s) := by
  refine .dep (p := fun s => s.portWidth port) (h := fun w s => (List.range w).foldl (fun s k => s.laneOut port k (p s)) s)
    (fun s r c h => State.portWidth_rebased h port) fun w => .foldl (fun k => ?_) _
  exact .dep (h := fun l s => s.laneOut port k l) hp fun l => .laneOut port k l

/-! ### The port of an agent -/

theorem State.aportState_rebased (h : RegsAgree s.regs r) (a : Nat) : (s.rebased r c).aportState a = s.aportState a :=
  State.fld_rebased_at h (by decide) a 0

theorem Uniform.setAport (a v : Nat) : Uniform (fun s => s.setAport a v) := .setF_at (by decide) a v

/-- The homes that an agent's lines are dropped at, and the key of its slice. -/
def State.dropAsks (s : State) (a : Nat) : List Nat × Nat × Nat :=
  (s.membersIn .active, (match s.sliceOfAport a with | some (_, sl) => s.keyOf sl.partition | none => 0), s.devnum)

/-- A drop begins. -/
def State.dropStarted (s : State) (d : AgentDrop) (ms : List Nat) : State :=
  { s with home.drops := s.home.drops.map (fun e => if e == d then { d with started := true, awaiting := ms } else e) }

/-- The homes are asked. -/
def State.dropAsked (s : State) (a : Nat) (d : AgentDrop) (x : List Nat × Nat × Nat) : State :=
  x.1.foldl (fun s m =>
      s.issue { op := 0x14, vc := vcSNOOP, tagged := true, pkey := x.2.1, dst := m,
                aux := 32 * x.2.2 + a + (if d.poison then 2048 else 0) } (.control 0x14 a))
    (s.dropStarted d x.1)

/-- The port of an agent that was flushed is clean. -/
def State.flushedClean (s : State) (a : Nat) : State := if s.aportState a = apFLUSHING then s.setAport a apCLEAN else s

/-- The first drop of a port that has not started. -/
def State.dropWaiting (s : State) (a : Nat) : Option AgentDrop := s.home.drops.find? (fun d => d.aport == a && !d.started)

theorem State.tryDrop_eq (s : State) (a : Nat) : s.tryDrop a = match s.dropWaiting a with
    | some d => if (s.aportState a = apFLUSHING ∧ !d.flushed) ∨ !(s.aportReqs a).isEmpty then s
      else (s.flushedClean a).dropAsked a d ((s.flushedClean a).dropAsks a)
    | none => s := rfl

theorem Uniform.tryDrop (a : Nat) : Uniform (fun s => s.tryDrop a) := by
  have hclean : Uniform (fun s => s.flushedClean a) := .ite (fun s r c h => by rw [State.aportState_rebased h]) (.setAport a apCLEAN) .id
  have hasked (d : AgentDrop) : Uniform (fun s => s.dropAsked a d (s.dropAsks a)) := by
    refine .dep (p := fun s => s.dropAsks a) (h := fun x s => s.dropAsked a d x) (fun s r c h => ?_) fun x => ?_
    · simp only [State.dropAsks, State.membersIn_rebased h, State.devnum_rebased h]
      rfl
    · have hstart : Uniform (fun s => s.dropStarted d x.1) := .of_rebased fun _ _ _ _ => rfl
      exact hstart.bind (.foldl (fun m => .issue _ _) x.1)
  rw [funext (fun s => State.tryDrop_eq s a)]
  refine .dep (p := fun s => s.dropWaiting a) (h := fun o s => match o with
    | some d => if (s.aportState a = apFLUSHING ∧ !d.flushed) ∨ !(s.aportReqs a).isEmpty then s
      else (s.flushedClean a).dropAsked a d ((s.flushedClean a).dropAsks a)
    | none => s) (fun _ _ _ _ => rfl) fun o => ?_
  cases o with
  | none => exact .id
  | some d =>
    refine .ite (fun s r c h => ?_) .id (hclean.bind (hasked d))
    rw [State.aportState_rebased h]
    rfl

/-- An agent is to be dropped without a flush. -/
def State.dropNow (s : State) (a : Nat) (byCommand : Bool) : State :=
  { s with home.drops := s.home.drops.filter (fun d => !(d.aport == a)) ++ [⟨a, true, true, false, [], byCommand, s.now⟩] }

theorem Uniform.expelAport (a : Nat) (byCommand : Bool) {hold : State → State} (hh : Uniform hold) : Uniform (fun s => s.expelAport a byCommand hold) := by
  have hnow : Uniform (fun s => s.dropNow a byCommand) := .of_rebased fun _ _ _ _ => rfl
  have hdrop : Uniform (fun s => (hold ((s.dropNow a byCommand).setAport a apPOISON)).tryDrop a) :=
    ((hnow.bind (.setAport a apPOISON)).bind hh).bind (.tryDrop a)
  exact .ite (fun s r c h => by rw [State.aportState_rebased h]) hdrop .id

theorem Uniform.aportLost (port : Nat) : Uniform (fun s => s.aportLost port) := by
  have hhold : Uniform (fun s => s.holdPort port) := .lanesOut port (p := fun _ => .held) fun _ _ _ _ => rfl
  exact .ite (fun s r c h => by rw [State.portUp_rebased h]) (.expelAport (port - 0x40) false hhold) .id

/-! ### Every lane goes dark -/

/-- A lane goes dark, unless it is held down. -/
def State.laneDark (port : Nat) (s : State) (lane : Nat) : State := if s.laneState port lane = .held then s else s.laneOut port lane .down

/-- The lanes of a port go dark. -/
def State.portDark (s : State) (port : Nat) : State := ((List.range (s.portWidth port)).foldl (State.laneDark port) s).aportLost port

theorem State.linksDark_eq (s : State) : s.linksDark = s.ports.foldl State.portDark s := rfl

theorem Uniform.linksDark : Uniform State.linksDark := by
  have hlane (port lane : Nat) : Uniform (fun s => State.laneDark port s lane) := .ite (fun _ _ _ _ => rfl) .id (.laneOut port lane .down)
  have hport (port : Nat) : Uniform (fun s => s.portDark port) := by
    refine Uniform.bind (g := fun s => s.aportLost port) ?_ (.aportLost port)
    exact .dep (p := fun s => s.portWidth port) (h := fun w s => (List.range w).foldl (State.laneDark port) s)
      (fun s r c h => State.portWidth_rebased h port) fun w => .foldl (fun k => hlane port k) _
  refine .dep (p := fun s => s.ports) (h := fun l s => l.foldl State.portDark s) (fun s r c h => ?_) fun l => .foldl (fun p => hport p) l
  have hused : (s.rebased r c).portUsed = s.portUsed := funext fun p => by rw [State.portUsed, State.portWidth_rebased h, State.portUsed]
  exact congrArg (fun p => (List.range 0x60).filter p) hused

end Sys2Proof.Machine
end

section
/-! Test access: LOCK, UNLOCK, HOLD and the instructions of the TAP (R466 to R468). -/

namespace Sys2Proof.Machine

variable {s t u : State} {r : Tbl Nat} {c : Ctl} {ch : ChanId} {n : Nat} {x : SeatId}

/-! ### Islands held -/

/-- Islands 1 to 24 stop. -/
def State.islandsHeld (s : State) : State := (List.range 24).foldl (fun s k => s.holdIsland (k + 1)) s

theorem Wakes.withdrawWake (s : State) {n : Nat} (h1 : 1 ≤ n) (h : n ≤ 24) : Wakes s (s.withdrawWake n) := by
  have hgov (v : State) : Wakes v ({ v with pwr.pending := v.pwr.pending.filter (fun w => w.island != n) } : State).showGov :=
    (Wakes.withPending v _).trans (.showGov _)
  unfold State.withdrawWake
  dsimp only
  split
  · exact (Wakes.setIsland s h1 h isOFF).trans (hgov _)
  · exact hgov s

theorem Wakes.holdIsland (s : State) {n : Nat} (h1 : 1 ≤ n) (h : n ≤ 24) : Wakes s (s.holdIsland n) := by
  unfold State.holdIsland
  split
  · exact .refl s
  · exact (Wakes.withdrawWake s h1 h).trans (.setIsland _ h1 h _)

theorem Wakes.islandsHeld (s : State) : Wakes s s.islandsHeld :=
  .foldl (f := fun s k => s.holdIsland (k + 1)) (List.range 24)
    (fun t k hk => .holdIsland t (Nat.le_add_left 1 k) (Nat.succ_le_of_lt (List.mem_range.mp hk))) s

theorem State.islandState_holdIsland_same (s : State) {m : Nat} (h : m < 24) :
    (s.holdIsland (m + 1)).islandState (m + 1) = if s.islandState (m + 1) = isOFF then isOFF else isHELD := by
  by_cases hoff : s.islandState (m + 1) = isOFF
  · rw [State.holdIsland, if_pos (.inl hoff), if_pos hoff, hoff]
  · rw [State.holdIsland, if_neg (by omega), if_neg hoff, State.islandState_setIsland_same _ h (by decide)]

theorem State.islandState_holdIsland_ne (s : State) {k m : Nat} (hk : k < 24) (h : m < 24) (hne : k ≠ m) :
    (s.holdIsland (k + 1)).islandState (m + 1) = s.islandState (m + 1) := by
  unfold State.holdIsland
  split
  · rfl
  · rw [State.islandState_setIsland_ne _ h hk hne, State.islandState_withdrawWake _ h hk hne]

/-- After the islands below a number are held, each of them is HELD or OFF, and the others are as they were. -/
theorem State.islandsHeld_below (s : State) {k m : Nat} (hk : k ≤ 24) (hm : m < 24) :
    ((List.range k).foldl (fun s k => s.holdIsland (k + 1)) s).islandState (m + 1) =
      if m < k then (if s.islandState (m + 1) = isOFF then isOFF else isHELD) else s.islandState (m + 1) := by
  induction k with
  | zero => rfl
  | succ k ih =>
    have ih := ih (by omega)
    rw [List.range_succ, List.foldl_append]
    simp only [List.foldl_cons, List.foldl_nil]
    by_cases he : k = m
    · subst he
      rw [State.islandState_holdIsland_same _ hm, ih, if_neg (Nat.lt_irrefl k), if_pos (Nat.lt_succ_self k)]
    · rw [State.islandState_holdIsland_ne _ (by omega) hm he, ih]
      by_cases hlt : m < k
      · rw [if_pos hlt, if_pos (Nat.lt_succ_of_lt hlt)]
      · rw [if_neg hlt, if_neg (show ¬m < k + 1 by omega)]

theorem State.islandsHeld_state (s : State) {k : Nat} (h1 : 1 ≤ k) (h : k ≤ 24) :
    s.islandsHeld.islandState k = if s.islandState k = isOFF then isOFF else isHELD := by
  obtain ⟨m, rfl⟩ := Nat.exists_eq_add_of_le' h1
  exact (s.islandsHeld_below (le_refl 24) (by omega)).trans (if_pos (by omega))

theorem State.islandState_rebased (h : RegsAgree s.regs r) {n : Nat} : (s.rebased r c).islandState n = s.islandState n := by
  rw [State.islandState, State.fld_rebased_at h (by decide)]
  rfl

/-! ### HOLD -/

/-- What HOLD does once the islands stand: every laser is off, the state is shown, and one record is written. -/
def State.holdShown (s : State) : State :=
  ((s.linksDark.setF F.PWR_START_PHASE 8).setF F.TST_STATE_ACCESS taHOLD).logErr { unit := .tst, status := .done, index := 0xFF }

theorem State.enterHold_eq (s : State) : s.enterHold = s.islandsHeld.holdShown := rfl

theorem Uniform.holdShown : Uniform State.holdShown :=
  ((Uniform.linksDark.bind (.setF_const (by decide) 0 8)).bind (.setF_const (by decide) 0 taHOLD)).bind (.logErr _)

/-- What keeps a member out of HOLD. -/
def State.holdRefused (s : State) : Prop :=
  s.testAccess = taOPENROM ∨ (bitsSet 64 (s.fld F.JNL_CUSTODY_DEVICES)).any (fun d => !s.isSelf d) = true ∨ s.membersIn .admitting ≠ []

@[simp] theorem State.asked_testAccess (s : State) (ch : ChanId) : (s.asked ch).testAccess = s.testAccess := by simp [State.testAccess]
@[simp] theorem State.asked_isSelf (s : State) (ch : ChanId) (d : Nat) : (s.asked ch).isSelf d = s.isSelf d := by simp [State.isSelf, State.devnum]

theorem State.asked_holdRefused (s : State) (ch : ChanId) : (s.asked ch).holdRefused ↔ s.holdRefused := by simp [State.holdRefused]

theorem State.testHold_refused (h : s.holdRefused) (x : SeatId) (n : Nat) : s.testHold x n = s.seatErr x n offTstCtrl .stateConflict :=
  if_pos (by
    obtain h | h | h := h
    · exact .inl h
    · exact .inr (.inl h)
    · exact .inr (.inr (by simpa using h)))

theorem State.testHold_holds (h : ¬s.holdRefused) (x : SeatId) (n : Nat) : s.testHold x n = s.islandsHeld.holdShown :=
  (if_neg (by
    rintro (h' | h' | h')
    · exact h (.inl h')
    · exact h (.inr (.inl h'))
    · exact h (.inr (.inr (by simpa using h'))))).trans s.enterHold_eq

/-- Custody of another member's number. -/
theorem custody_other (s : State) : (bitsSet 64 (s.fld F.JNL_CUSTODY_DEVICES)).any (fun d => !s.isSelf d) = true ↔
    ∃ d, d < 64 ∧ s.fldBit F.JNL_CUSTODY_DEVICES d = true ∧ s.isSelf d = false := by
  simp [bitsSet, State.fldBit]

theorem testHold_answers (hg : s.guardedBy ch n x 0) (h : ¬s.holdRefused) :
    ∃ v : State, Answers (.testHold ch) s v.holdShown ∧ v.fld F.TST_PINS_THERMTRIP_N = s.fld F.TST_PINS_THERMTRIP_N ∧ v.mem = s.mem ∧
      v.dom = s.dom ∧ ∀ k, 1 ≤ k → k ≤ 24 → v.islandState k = if s.islandState k = isOFF then isOFF else isHELD := by
  obtain ⟨⟨r₁, l₁, hheld⟩, hplaces⟩ := Wakes.islandsHeld (s.asked ch)
  have hctl : ((s.asked ch).islandsHeld.holdShown).ctl.refused = false := by
    obtain ⟨_, _, _, hctl, _⟩ := Uniform.holdShown.regs (s.asked ch).islandsHeld
    rw [hctl, hheld]
    rfl
  obtain ⟨r, c, hr, hnote⟩ := Uniform.holdShown.noteWrite (s.asked ch).islandsHeld x (off := 0x1E0010) (by decide)
  refine ⟨(s.asked ch).islandsHeld.rebased r c, ?_, ?_, ?_, ?_, fun k h1 hk => ?_⟩
  · have := holder_performsNow (exec_testHold s ch) hg (State.testHold_holds (fun h' => h ((s.asked_holdRefused ch).mp h')) x n) hctl (by decide)
    rwa [hnote] at this
  · rw [State.fld_rebased_behind hr (by decide), hplaces _ _ (by decide), State.asked_fld]
  · rw [State.rebased, hheld]; exact s.asked_mem ch
  · rw [State.rebased, hheld]; exact s.asked_dom ch
  · rw [State.islandState_rebased hr, State.islandsHeld_state _ h1 hk, State.islandState_congr (s.asked_regs ch)]

/-! ### The TAP -/

theorem State.tapLoad_shows (s : State) {code : Nat} (hcode : code < 256) (dr drive : Nat) : s.tapShows (s.tapLoad code dr drive) code dr drive := by
  have hframe (v : State) (hv : s.keepsFields v [F.TST_ABUS_VALUE_VALID.key 0]) (hrest : ({ v with regs := s.regs, tst := s.tst } : State) = s) :
      s.tapShows { v.setF F.TST_STATE_TAP_INSTR code with tst.dr := dr, tst.drive := drive, tst.probe := none } code dr drive := by
    have hset : v.keepsFields (v.setF F.TST_STATE_TAP_INSTR code) [F.TST_STATE_TAP_INSTR.key 0, F.TST_ABUS_VALUE_VALID.key 0] :=
      v.keepsFields_setF _ (by simp)
    refine ⟨(v.fld_setF_same _ _ _).trans (Nat.mod_eq_of_lt hcode), rfl, rfl, rfl, ?_, hrest⟩
    exact (hv.mono (by simp)).trans (hset.trans (State.keepsFields_of_regs rfl))
  unfold State.tapLoad
  dsimp only
  split
  · exact hframe _ (s.keepsFields_setF _ (by simp)) rfl
  · exact hframe s (State.keepsFields_of_regs rfl) rfl

theorem State.tapShows.withPins {code dr drive : Nat} (h : s.tapShows u code dr drive) (pins pre : Nat) :
    s.tapShows { u with tst.captured := pins, tst.preload := pre } code dr drive := h

/-- A TAP instruction that selects the bypass register. -/
theorem tapBypass_answers {i : Instr} {f : State → State} (hc : exec i s = s.run [] f) (hs : s.serves [] = true) (hf : f s = s.tapBypass) :
    ∃ u, Answers i s u ∧ s.tapShows u tapBYPASS 0 0 :=
  ⟨_, answers_of_run hc hs, hf ▸ s.tapLoad_shows (by decide) 0 0⟩

theorem tapLoad_answers {i : Instr} {f : State → State} {code dr drive : Nat} (hc : exec i s = s.run [] f) (hs : s.serves [] = true)
    (hf : f s = s.tapLoad code dr drive) (hcode : code < 256) : ∃ u, Answers i s u ∧ s.tapShows u code dr drive :=
  ⟨_, answers_of_run hc hs, hf ▸ s.tapLoad_shows hcode dr drive⟩

/-- What TSTWIN captures at an offset. -/
theorem tstwin_answers (hs : s.serves [] = true) (h : s.testAccess ≠ taLOCKED) (off : Nat) :
    ∃ u, Answers (.tstwin off) s u ∧ s.tapShows u tapTSTWIN u.tst.dr 0 ∧
      (breaksR12 off 8 = true → u.tst.dr = off % 2 ^ 24 * 2 ^ 64) ∧
      ∀ r, regDefAt off = some r → breaksR12 off 8 = false →
        (r.scope = .member → u.tst.dr = off % 2 ^ 24 * 2 ^ 64 + (s.readWord .a .i3c off + 2 ^ 88)) ∧ (r.scope ≠ .member → u.tst.dr = off % 2 ^ 24 * 2 ^ 64) := by
  refine ⟨_, answers_of_run (exec_tstwin s off) hs, ?_⟩
  unfold State.tapTstwin
  rw [if_neg h]
  refine ⟨s.tapLoad_shows (by decide) _ _, fun hb => ?_, fun r hr hb => ⟨fun hm => ?_, fun hm => ?_⟩⟩
  · simp [State.tapLoad, hb]
  · simp [State.tapLoad, hb, hr, hm]
  · simp [State.tapLoad, hb, hr, hm]

/-! ### The statement -/

/-- LOCK and UNLOCK where they are taken. -/
theorem testAccess_moves {i : Instr} {f : SeatId → Nat → State → State} {ta : Nat} (hc : exec i s = s.run [] (fun s => s.asHolder ch 0x1E0010 0 f))
    (hg : s.guardedBy ch n x 0) (hf : f x n (s.asked ch) = (s.asked ch).setF F.TST_STATE_ACCESS ta) (hta : ta < 4) :
    ∃ u, Answers i s u ∧ u.testAccess = ta ∧ s.keepsFields u (F.TST_STATE_ACCESS.key 0 :: collideKeys) ∧ u.mem = s.mem := by
  refine ⟨_, holder_performsNow hc hg hf rfl (by decide), ?_, ?_, ?_⟩
  · rw [State.testAccess, State.noteWrite_keepsFields _ _ _ _ _ (by decide), State.fld_setF_same]
    exact Nat.mod_eq_of_lt hta
  · have hset : (s.asked ch).keepsFields ((s.asked ch).setF F.TST_STATE_ACCESS ta) (F.TST_STATE_ACCESS.key 0 :: collideKeys) :=
      State.keepsFields_setF _ _ (by simp)
    exact ((s.asked_keepsFields ch _).trans hset).trans ((State.noteWrite_keepsFields _ _ _).mono (by simp))
  · rw [State.noteWrite_mem]
    exact s.asked_mem ch

/-- Settles O59: the islands that HOLD stops stand before the rest of it runs, and the rest does not read what the note of the write changes. -/
theorem testAccess : Obligations.TestAccess := by
  refine ⟨fun s ch n x hg => ⟨fun hacc i hi => ?_, fun hacc i hi => ?_, fun hacc => ?_, fun hrom hadm hcus => ?_⟩,
    fun s pins pre passed off mode node rd hs => ⟨fun i hi => ?_, ?_, ?_, ?_, fun hfull i hi => ?_, fun hfull => ⟨?_, ?_, ?_⟩, fun hlock i hi => ?_,
      fun hlock => tstwin_answers hs hlock off⟩⟩
  · have hacc : (s.asked ch).testAccess = taOPENROM ∨ (s.asked ch).testAccess = taHOLD := by simpa using hacc
    simp only [List.mem_cons, List.not_mem_nil, or_false] at hi
    obtain rfl | rfl := hi
    · exact holder_refusedNow (exec_testUnlock s ch) hg (if_pos hacc)
    · exact holder_refusedNow (exec_testLock s ch) hg (if_pos hacc)
  · have hno : ¬((s.asked ch).testAccess = taOPENROM ∨ (s.asked ch).testAccess = taHOLD) := by
      rw [State.asked_testAccess]
      rcases hacc with h | h <;> rw [h] <;> decide
    simp only [List.mem_cons, List.not_mem_nil, or_false] at hi
    obtain rfl | rfl := hi
    · exact testAccess_moves (exec_testUnlock s ch) hg (if_neg hno) (show taUNLOCKED < 4 by decide)
    · exact testAccess_moves (exec_testLock s ch) hg (if_neg hno) (show taLOCKED < 4 by decide)
  · refine holder_refusedNow (exec_testHold s ch) hg (State.testHold_refused ((s.asked_holdRefused ch).mpr ?_) x n)
    obtain h | h | h := hacc
    · exact .inl h
    · exact .inr (.inr h)
    · exact .inr (.inl ((custody_other s).mpr h))
  · refine testHold_answers hg ?_
    rintro (h | h | h)
    · exact hrom h
    · obtain ⟨d, hd, hbit, hself⟩ := (custody_other s).mp h
      rw [hcus d hd hbit] at hself
      exact absurd hself (by decide)
    · exact h hadm
  · simp only [List.mem_cons, List.not_mem_nil, or_false] at hi
    obtain rfl | rfl := hi
    · exact tapLoad_answers (exec_tapReset s) hs rfl (by decide)
    · exact tapLoad_answers (exec_idcode s) hs rfl (by decide)
  · exact tapBypass_answers (exec_bypass s) hs rfl
  · exact ⟨_, answers_of_run (exec_samplePreload s pins pre) hs, (s.tapLoad_shows (by decide) _ _).withPins _ _, rfl, rfl⟩
  · exact ⟨_, answers_of_run (exec_extest s pins pre) hs, (s.tapLoad_shows (by decide) _ _).withPins _ _, rfl, rfl⟩
  · have hno : ¬s.tapFull = true := by simp [hfull]
    simp only [List.mem_cons, List.not_mem_nil, or_false] at hi
    obtain rfl | rfl | rfl := hi
    · exact tapBypass_answers (exec_highz s) hs (if_neg hno)
    · exact tapBypass_answers (exec_clamp s) hs (if_neg hno)
    · exact tapBypass_answers (exec_runbist s passed) hs (if_neg hno)
  · exact tapLoad_answers (exec_highz s) hs (if_pos hfull) (by decide)
  · exact tapLoad_answers (exec_clamp s) hs (if_pos hfull) (by decide)
  · exact tapLoad_answers (exec_runbist s passed) hs (if_pos hfull) (by decide)
  · simp only [List.mem_cons, List.not_mem_nil, or_false] at hi
    obtain rfl | rfl := hi
    · exact tapBypass_answers (exec_probe s mode node rd) hs (if_pos hlock)
    · exact tapBypass_answers (exec_tstwin s off) hs (if_pos hlock)

end Sys2Proof.Machine
end

section
/-! The analogue buses and unit test access (R469 to R471). -/

namespace Sys2Proof.Machine

variable {s t u : State} {r : Tbl Nat} {c : Ctl} {ch : ChanId} {n k mode node rd tests : Nat} {x : SeatId}

/-! ### A Sloe's next segment -/

/-- A segment is read from now on. -/
def State.segmentBegun (s : State) (g : Segment) : State :=
  { s with vs.segments := s.vs.segments.map (fun x => if x.tag == g.tag && x.num == g.num then { x with begun := some s.now } else x) }

/-- The loads of a segment and of its tombstones. -/
def State.segmentLoads (s : State) (g : Segment) (r : SearchRun) (w : Work) (id : Nat) : State :=
  let s := s.addLoad id 0 w.ctx g.cls g.dga (segBytes r.header g.count) vcREQ
  if g.hasTomb then s.addLoad id (2 ^ 50) w.ctx g.tombCls g.tombDga (ceilDiv g.count 8) vcREQ else s

/-- A Sloe scans a segment. -/
def State.sloeScans (s : State) (n : Nat) (g : Segment) (r : SearchRun) (w : Work) : State :=
  let x := ((s.setSloe n slSCAN).segmentBegun g).newXfer (.search g.tag 5 g.num) 0
  x.2.segmentLoads g r w x.1

/-- A Sloe that has no segment to read stands idle. -/
def State.sloeRests (s : State) (n : Nat) : State := if s.sloeState n = slSCAN then s.setSloe n slIDLE else s

theorem State.sloeBegin_eq (s : State) (n : Nat) : s.sloeBegin n = match s.vs.segments.find? (fun g => g.unit == n) with
    | none => s.sloeRests n
    | some g => if g.begun.isSome ∨ s.sloeState n = slFAULTED then s else if s.sloeTested n then s.sloeRests n else
      match s.searchRun g.tag, s.workOf g.tag with
      | some r, some w => s.sloeScans n g r w
      | _, _ => s := rfl

theorem State.sloeState_rebased (h : RegsAgree s.regs r) : (s.rebased r c).sloeState n = s.sloeState n :=
  State.fld_rebased_behind h (Nat.lt_add_right (0x800 * n) (by decide)) 0

theorem State.sloeTested_rebased (h : RegsAgree s.regs r) : (s.rebased r c).sloeTested n = s.sloeTested n := by
  rw [State.sloeTested, State.fld_rebased_behind h (by decide), State.fld_rebased_behind h (by decide)]
  rfl

theorem Uniform.setSloe (n st : Nat) : Uniform (fun s => s.setSloe n st) := .setF_const (Nat.lt_add_right (0x800 * n) (by decide)) 0 st

theorem Uniform.sloeRests (n : Nat) : Uniform (fun s => s.sloeRests n) :=
  .ite (fun s r c h => by rw [State.sloeState_rebased h]) (.setSloe n slIDLE) .id

theorem Uniform.segmentLoads (g : Segment) (r : SearchRun) (w : Work) (id : Nat) : Uniform (fun s => s.segmentLoads g r w id) := by
  have hseg : Uniform (fun s => s.addLoad id 0 w.ctx g.cls g.dga (segBytes r.header g.count) vcREQ) := .addLoad _ _ _ _ _ _ _
  have htomb : Uniform (fun s => if g.hasTomb then s.addLoad id (2 ^ 50) w.ctx g.tombCls g.tombDga (ceilDiv g.count 8) vcREQ else s) :=
    .ite (fun _ _ _ _ => rfl) (.addLoad _ _ _ _ _ _ _) .id
  exact hseg.bind htomb

theorem Uniform.sloeScans (n : Nat) (g : Segment) (r : SearchRun) (w : Work) : Uniform (fun s => s.sloeScans n g r w) := by
  have hbegun : Uniform (fun s => (s.setSloe n slSCAN).segmentBegun g) :=
    (Uniform.setSloe n slSCAN).bind (g := fun s => s.segmentBegun g) (.of_rebased fun _ _ _ _ => rfl)
  have hxfer : Uniform (fun s => (s.newXfer (.search g.tag 5 g.num) 0).2) := .of_rebased fun _ _ _ _ => rfl
  have hloads : Uniform (fun s => (s.newXfer (.search g.tag 5 g.num) 0).2.segmentLoads g r w (s.newXfer (.search g.tag 5 g.num) 0).1) :=
    .dep (p := fun s => (s.newXfer (.search g.tag 5 g.num) 0).1)
      (h := fun id s => (s.newXfer (.search g.tag 5 g.num) 0).2.segmentLoads g r w id) (fun _ _ _ _ => rfl)
      fun id => hxfer.bind (.segmentLoads g r w id)
  exact hbegun.bind hloads

theorem Uniform.sloeBegin (n : Nat) : Uniform (fun s => s.sloeBegin n) := by
  rw [funext (fun s => State.sloeBegin_eq s n)]
  refine .dep (p := fun s => s.vs.segments.find? (fun g => g.unit == n)) (h := fun o s => match o with
    | none => s.sloeRests n
    | some g => if g.begun.isSome ∨ s.sloeState n = slFAULTED then s else if s.sloeTested n then s.sloeRests n else
      match s.searchRun g.tag, s.workOf g.tag with
      | some r, some w => s.sloeScans n g r w
      | _, _ => s) (fun _ _ _ _ => rfl) fun o => ?_
  cases o with
  | none => exact .sloeRests n
  | some g =>
    refine .ite (fun s r c h => by rw [State.sloeState_rebased h]) .id (.ite (fun s r c h => by rw [State.sloeTested_rebased h]) (.sloeRests n) ?_)
    refine .dep (p := fun s => (s.searchRun g.tag, s.workOf g.tag)) (h := fun (a : Option SearchRun × Option Work) s => match a.1, a.2 with
      | some r, some w => s.sloeScans n g r w
      | _, _ => s) (fun _ _ _ _ => rfl) fun a => ?_
    obtain ⟨o₁, o₂⟩ := a
    cases o₁ with
    | none => exact .id
    | some r =>
      cases o₂ with
      | none => exact .id
      | some w => exact .sloeScans n g r w

/-! ### The analogue buses -/

theorem State.asked_tapFull (s : State) (ch : ChanId) : (s.asked ch).tapFull = s.tapFull := by simp [State.tapFull]
theorem State.asked_abusFault (s : State) (ch : ChanId) (mode node : Nat) : (s.asked ch).abusFault mode node = s.abusFault mode node := by
  simp [State.abusFault, State.asked_tapFull]

theorem State.abusFault_busy (h : s.fld F.TST_STATE_TAP_INSTR = tapPROBE) : s.abusFault mode node = some .busy := if_pos h

theorem State.abusFault_locked (h : s.fld F.TST_STATE_TAP_INSTR ≠ tapPROBE) (hl : s.testAccess = taLOCKED) : s.abusFault mode node = some .access :=
  (if_neg h).trans (if_pos hl)

/-- Outside HOLD and OPEN_ROM a seat gives no stimulus. -/
theorem State.abusFault_stimulus (h : s.fld F.TST_STATE_TAP_INSTR ≠ tapPROBE) (hl : s.testAccess = taUNLOCKED) (hn : nodeKnown node = true) :
    s.abusFault 2 node = some .stateConflict := by
  simp [State.abusFault, State.tapFull, h, hl, hn, taUNLOCKED, taLOCKED, taHOLD, taOPENROM]

/-- What a connected and a disconnected node show. -/
theorem State.abusShow_spec (s : State) (b : Bool) (rd : Nat) :
    s.keepsFields (s.abusShow b rd) [F.TST_ABUS_VALUE_VALID.key 0, F.TST_ABUS_VALUE_VALUE.key 0] ∧
      (s.abusShow b rd).fld F.TST_ABUS_VALUE_VALID = (if b then 1 else 0) ∧
      (b = true → (s.abusShow b rd).fld F.TST_ABUS_VALUE_VALUE = min rd 12000) := by
  cases b with
  | false => exact ⟨s.keepsFields_setF _ (by simp), s.fld_setF_same _ _ _, fun h => absurd h (by decide)⟩
  | true =>
    refine ⟨(s.keepsFields_setF _ (by simp)).trans (State.keepsFields_setF _ _ (by simp)), ?_, fun _ => ?_⟩
    · exact (State.fld_setF_place _ _ (by decide)).trans (s.fld_setF_same _ _ _)
    · exact (State.fld_setF_same _ _ _ _).trans (Nat.mod_eq_of_lt (lt_of_le_of_lt (Nat.min_le_right rd 12000) (by decide)))

theorem State.abusShow_regs (s : State) (b : Bool) (rd : Nat) : ∃ r, s.abusShow b rd = { s with regs := r } := by cases b <;> exact ⟨_, rfl⟩

theorem abusSelect_refuses {st : Status} (hm : mode < 4) (hn : node < 1024) (hc : s.commandedBy ch n x) (h : s.abusFault mode node = some st) :
    ∃ u, Answers (.abusSelect ch mode node rd) s u ∧ (s.asked ch).reports u x n 0x1E0028 st := by
  refine seat_refusedNow (exec_abusSelect s ch mode node rd) hc ?_
  rw [Nat.mod_eq_of_lt hm, Nat.mod_eq_of_lt hn, State.abusSelect, s.asked_abusFault ch, h]
  rfl

/-- A node selected by a seat. -/
def State.abusSelected (s : State) (mode node : Nat) : State := (s.setF F.TST_ABUS_CTRL_MODE mode).setF F.TST_ABUS_CTRL_NODE node

theorem abusSelect_connects (hm : mode < 4) (hn : node < 1024) (hc : s.commandedBy ch n x) (h : s.abusFault mode node = none) :
    ∃ u, Answers (.abusSelect ch mode node rd) s u ∧ u.fld F.TST_ABUS_CTRL_MODE = mode ∧
      u.fld F.TST_ABUS_CTRL_NODE = node ∧ (mode = 0 → u.fld F.TST_ABUS_VALUE_VALID = 0) ∧
      (mode ≠ 0 → u.fld F.TST_ABUS_VALUE_VALID = 1 ∧ u.fld F.TST_ABUS_VALUE_VALUE = min rd 12000) ∧
      s.keepsFields u ([F.TST_ABUS_CTRL_MODE.key 0, F.TST_ABUS_CTRL_NODE.key 0, F.TST_ABUS_VALUE_VALID.key 0, F.TST_ABUS_VALUE_VALUE.key 0] ++ collideKeys) ∧
      u.mem = s.mem := by
  have hrun : (s.asked ch).abusSelect x n (mode % 4) (node % 1024) rd =
      (((s.asked ch).abusSelected mode node).abusShow (decide (mode ≠ 0)) rd).noteWrite x offAbus := by
    rw [Nat.mod_eq_of_lt hm, Nat.mod_eq_of_lt hn, State.abusSelect, s.asked_abusFault ch, h]
    rfl
  obtain ⟨hkeep, hvalid, hvalue⟩ := ((s.asked ch).abusSelected mode node).abusShow_spec (decide (mode ≠ 0)) rd
  have hnote (f : Fld) (hf : f.key 0 ∉ collideKeys) : ((((s.asked ch).abusSelected mode node).abusShow (decide (mode ≠ 0)) rd).noteWrite x offAbus).fld f =
      (((s.asked ch).abusSelected mode node).abusShow (decide (mode ≠ 0)) rd).fld f := State.noteWrite_keepsFields _ _ _ _ _ hf
  have hsel : s.keepsFields ((s.asked ch).abusSelected mode node) [F.TST_ABUS_CTRL_MODE.key 0, F.TST_ABUS_CTRL_NODE.key 0] :=
    (s.asked_keepsFields ch _).trans ((State.keepsFields_setF _ _ (by simp)).trans (State.keepsFields_setF _ _ (by simp)))
  refine ⟨_, seat_answersNow (exec_abusSelect s ch mode node rd) hc hrun, ?_, ?_, fun h0 => ?_, fun h0 => ⟨?_, ?_⟩, ?_, ?_⟩
  · rw [hnote _ (by decide), hkeep _ _ (by decide)]
    exact (State.fld_setF_place _ _ (by decide)).trans ((State.fld_setF_same _ _ _ _).trans (Nat.mod_eq_of_lt hm))
  · rw [hnote _ (by decide), hkeep _ _ (by decide)]
    exact (State.fld_setF_same _ _ _ _).trans (Nat.mod_eq_of_lt hn)
  · rw [hnote _ (by decide), hvalid]
    simp [h0]
  · rw [hnote _ (by decide), hvalid]
    simp [h0]
  · rw [hnote _ (by decide)]
    exact hvalue (by simp [h0])
  · exact ((hsel.mono (by simp)).trans (hkeep.mono (by simp))).trans ((State.noteWrite_keepsFields _ _ _).mono (List.subset_append_right _ _))
  · obtain ⟨r, hr⟩ := ((s.asked ch).abusSelected mode node).abusShow_regs (decide (mode ≠ 0)) rd
    rw [State.noteWrite_mem, hr]
    exact s.asked_mem ch

/-! ### PROBE -/

/-- The TAP takes the buses. -/
def State.probeTakes (s : State) : State := (s.tapLoad tapPROBE s.tst.captured 0).setF F.TST_ABUS_CTRL_MODE 0

/-- The mode in which the TAP connects its node. -/
def State.probeMode (s : State) (mode : Nat) : Nat := if mode = 2 ∧ s.tapFull = false then 1 else mode

theorem State.probeTakes_spec (s : State) : s.probeTakes.fld F.TST_STATE_TAP_INSTR = tapPROBE ∧ s.probeTakes.fld F.TST_ABUS_CTRL_MODE = 0 ∧
    s.probeTakes.tst.probe = none ∧ s.probeTakes.tapFull = s.tapFull := by
  obtain ⟨hinstr, -, -, hprobe, hkeep, -⟩ := s.tapLoad_shows (code := tapPROBE) (by decide) s.tst.captured 0
  refine ⟨(State.fld_setF_place _ _ (by decide)).trans hinstr, State.fld_setF_same _ _ _ _, hprobe, ?_⟩
  rw [State.tapFull, State.testAccess, State.probeTakes, State.fld_setF_place _ _ (by decide), hkeep _ _ (by decide)]
  rfl

theorem State.tapProbe_eq (h : s.testAccess ≠ taLOCKED) (mode node rd : Nat) : s.tapProbe mode node rd =
    if s.probeMode mode = 0 ∨ s.probeMode mode > 2 ∨ nodeKnown node = false then s.probeTakes.abusShow false 0
    else ({ s.probeTakes with tst.probe := some (s.probeMode mode, node) } : State).abusShow true rd := by
  obtain ⟨-, -, -, hfull⟩ := s.probeTakes_spec
  rw [State.tapProbe, if_neg h, State.probeMode, ← hfull]
  simp only [Bool.not_eq_true', State.probeTakes]
  rfl

/-- A node that is asked for is connected, as sense where stimulus is not permitted. -/
theorem State.probeMode_connects (s : State) (h : mode = 1 ∨ mode = 2) : s.probeMode mode = 1 ∨ s.probeMode mode = 2 := by
  unfold State.probeMode
  split
  · exact .inl rfl
  · exact h

theorem State.probeMode_none (s : State) (h : mode ≠ 2) : s.probeMode mode = mode := if_neg fun h' => h h'.1

theorem State.abusShow_keeps (s : State) (b : Bool) (rd : Nat) : (s.abusShow b rd).fld F.TST_STATE_TAP_INSTR = s.fld F.TST_STATE_TAP_INSTR ∧
    (s.abusShow b rd).fld F.TST_ABUS_CTRL_MODE = s.fld F.TST_ABUS_CTRL_MODE ∧ (s.abusShow b rd).tst = s.tst := by
  obtain ⟨hkeep, -, -⟩ := s.abusShow_spec b rd
  obtain ⟨r, hr⟩ := s.abusShow_regs b rd
  exact ⟨hkeep _ _ (by decide), hkeep _ _ (by decide), by rw [hr]⟩

theorem probe_answers (hm : mode < 4) (hs : s.serves [] = true) (h : s.testAccess ≠ taLOCKED) :
    ∃ u, Answers (.probe mode node rd) s u ∧ u.fld F.TST_STATE_TAP_INSTR = tapPROBE ∧ u.fld F.TST_ABUS_CTRL_MODE = 0 ∧
      (mode = 1 ∨ mode = 2 → nodeKnown node = true →
        u.tst.probe = some (if mode = 2 ∧ s.tapFull = false then 1 else mode, node) ∧ u.fld F.TST_ABUS_VALUE_VALID = 1) ∧
      (mode = 0 ∨ mode = 3 ∨ nodeKnown node = false → u.tst.probe = none ∧ u.fld F.TST_ABUS_VALUE_VALID = 0) := by
  obtain ⟨hinstr, hmode, hprobe, -⟩ := s.probeTakes_spec
  have hans : Answers (.probe mode node rd) s (s.tapProbe mode node rd) := answers_of_run (exec_probe s mode node rd) hs
  rw [State.tapProbe_eq h] at hans
  by_cases hnone : s.probeMode mode = 0 ∨ s.probeMode mode > 2 ∨ nodeKnown node = false
  · rw [if_pos hnone] at hans
    obtain ⟨hi, hc, ht⟩ := s.probeTakes.abusShow_keeps false 0
    obtain ⟨-, hvalid, -⟩ := s.probeTakes.abusShow_spec false 0
    refine ⟨_, hans, hi.trans hinstr, hc.trans hmode, fun hm hn => ?_, fun _ => ⟨?_, hvalid⟩⟩
    · have hcon := s.probeMode_connects hm
      rw [hn] at hnone
      exact absurd hnone (by rcases hcon with h | h <;> rw [h] <;> decide)
    · rw [ht]
      exact hprobe
  · rw [if_neg hnone] at hans
    obtain ⟨hi, hc, ht⟩ := State.abusShow_keeps { s.probeTakes with tst.probe := some (s.probeMode mode, node) } true rd
    obtain ⟨-, hvalid, -⟩ := State.abusShow_spec { s.probeTakes with tst.probe := some (s.probeMode mode, node) } true rd
    refine ⟨_, hans, hi.trans hinstr, hc.trans hmode, fun _ _ => ⟨?_, hvalid⟩, fun hm => absurd ?_ hnone⟩
    · rw [ht]
      rfl
    · rcases hm with rfl | rfl | hn
      · exact .inl (s.probeMode_none (by decide))
      · exact .inr (.inl (by rw [s.probeMode_none (by decide)]; decide))
      · exact .inr (.inr hn)

end Sys2Proof.Machine
end

section
/-! Unit test access (R471). -/

namespace Sys2Proof.Machine

variable {s t u : State} {r : Tbl Nat} {c : Ctl} {ch : ChanId} {n k tests : Nat} {x : SeatId}

/-! ### The rules of the unit's registers -/

theorem State.setIsolation_frame (s : State) (k v : Nat) : s.setIsolation k v = { s with qnc := (s.setIsolation k v).qnc } := by
  unfold State.setIsolation
  split <;> rfl

@[simp] theorem State.setIsolation_fld (s : State) (k v : Nat) (f : Fld) (b : Nat) : (s.setIsolation k v).fld f b = s.fld f b := by
  rw [State.setIsolation_frame]; rfl

theorem State.setIsolation_keepsFields (s : State) (k v : Nat) (l : List Nat) : s.keepsFields (s.setIsolation k v) l :=
  fun f b _ => s.setIsolation_fld k v f b

theorem State.setIsolation_core (s : State) (v : Nat) (h : k < 16) : (s.setIsolation k v).core k = { s.core k with isolation := v } := by
  rw [State.setIsolation, if_pos h, State.core_setCore_same]

@[simp] theorem State.asked_qnc (s : State) (ch : ChanId) : (s.asked ch).qnc = s.qnc := by obtain ⟨a, b, h⟩ := s.asked_eq ch; rw [h]
@[simp] theorem State.asked_vs (s : State) (ch : ChanId) : (s.asked ch).vs = s.vs := by obtain ⟨a, b, h⟩ := s.asked_eq ch; rw [h]
@[simp] theorem State.asked_core (s : State) (ch : ChanId) (k : Nat) : (s.asked ch).core k = s.core k := by simp [State.core]
@[simp] theorem State.asked_unitState (s : State) (ch : ChanId) : (s.asked ch).unitState = s.unitState := by simp [State.unitState]
@[simp] theorem State.asked_unitTested (s : State) (ch : ChanId) : (s.asked ch).unitTested = s.unitTested := by simp [State.unitTested]
@[simp] theorem State.asked_unitInSlice (s : State) (ch : ChanId) (k : Nat) : (s.asked ch).unitInSlice k = s.unitInSlice k := by
  simp [State.unitInSlice, State.sliceOfCore, State.sliceOfFlash]
@[simp] theorem State.asked_isQuarCore (s : State) (ch : ChanId) (k : Nat) : (s.asked ch).isQuarCore k = s.isQuarCore k := by
  simp [State.isQuarCore, State.quarCore]

/-- A write noted at the unit's command register changes none of its fields. -/
theorem State.noteWrite_unit (s : State) (x : SeatId) {f : Fld} (hf : f.key 0 ∉ collideKeys) : (s.noteWrite x 0x1E0018).fld f = s.fld f :=
  State.noteWrite_keepsFields _ _ _ _ _ hf

theorem State.noteWrite_core (s : State) (x : SeatId) (off k : Nat) : (s.noteWrite x off).core k = s.core k := by
  rw [State.noteWrite_frame]; rfl

/-! ### ISOLATE -/

/-- A unit that is being isolated. -/
def State.unitIsolating (s : State) (k : Nat) : State :=
  (((s.setF F.TST_UNIT_CMD_UNIT k).setF F.TST_UNIT_STATUS_UNIT k).setF F.TST_UNIT_STATUS_STATE utISOLATING).setIsolation k 1

theorem State.unitIsolate_bounds (h : 0x28 ≤ k) (s : State) (x : SeatId) (n : Nat) : s.unitIsolate x n k = s.seatErr x n offUnitCmd .bounds := if_pos h

theorem State.unitIsolate_busy (hk : k < 0x28) (h : s.unitState ≠ utNONE) (ht : s.unitTested ≠ k) (x : SeatId) (n : Nat) :
    s.unitIsolate x n k = s.seatErr x n offUnitCmd .busy := (if_neg (Nat.not_le.mpr hk)).trans (if_pos ⟨h, ht⟩)

theorem State.unitIsolate_conflict (hk : k < 0x28) (h : s.unitState = utNONE) (ho : s.unitInSlice k = false ∨ s.isQuarCore k = true) (x : SeatId) (n : Nat) :
    s.unitIsolate x n k = s.seatErr x n offUnitCmd .stateConflict := by
  refine (if_neg (Nat.not_le.mpr hk)).trans ((if_neg fun h' => h'.1 h).trans (if_pos (.inr ?_)))
  simpa using ho

theorem State.unitIsolate_isolates (hk : k < 0x28) (h : s.unitState = utNONE) (hs : s.unitInSlice k = true) (hq : s.isQuarCore k = false) (x : SeatId)
    (n : Nat) : s.unitIsolate x n k = s.unitIsolating k := by
  refine (if_neg (Nat.not_le.mpr hk)).trans ((if_neg fun h' => h'.1 h).trans (if_neg ?_))
  simp [h, hs, hq]

theorem unitIsolate_answers (hg : s.guardedBy ch n x 0) (hk : k < 0x28) (h : s.unitState = utNONE) (hs : s.unitInSlice k = true)
    (hq : s.isQuarCore k = false) : ∃ u, Answers (.unitIsolate ch k) s u ∧
      u.unitState = utISOLATING ∧ u.unitTested = k ∧ (k < 16 → (u.core k).isolation = 1) ∧
      s.keepsFields u ([F.TST_UNIT_STATUS_STATE.key 0, F.TST_UNIT_STATUS_UNIT.key 0, F.TST_UNIT_CMD_UNIT.key 0] ++ collideKeys) ∧ u.mem = s.mem := by
  have hk64 : k % 64 = k := Nat.mod_eq_of_lt (by omega)
  have hrun : (s.asked ch).unitIsolate x n (k % 64) = (s.asked ch).unitIsolating k := by
    rw [hk64]
    exact State.unitIsolate_isolates hk (by simpa using h) (by simpa using hs) (by simpa using hq) x n
  have hrefused : ((s.asked ch).unitIsolating k).ctl.refused = false := by rw [State.unitIsolating, State.setIsolation_frame]; rfl
  refine ⟨_, holder_performsNow (exec_unitIsolate s ch k) hg hrun hrefused (by decide), ?_, ?_, fun hc => ?_, ?_, ?_⟩
  · rw [State.unitState, State.noteWrite_unit _ _ (by decide), State.unitIsolating, State.setIsolation_fld]
    exact State.fld_setF_same _ _ _ _
  · rw [State.unitTested, State.noteWrite_unit _ _ (by decide), State.unitIsolating, State.setIsolation_fld, State.fld_setF_place _ _ (by decide),
      State.fld_setF_same]
    exact hk64
  · rw [State.noteWrite_core, State.unitIsolating, State.setIsolation_core _ _ hc]
  · have hset : (s.asked ch).keepsFields ((s.asked ch).unitIsolating k)
        [F.TST_UNIT_STATUS_STATE.key 0, F.TST_UNIT_STATUS_UNIT.key 0, F.TST_UNIT_CMD_UNIT.key 0] :=
      (((State.keepsFields_setF _ _ (by simp)).trans (State.keepsFields_setF _ _ (by simp))).trans (State.keepsFields_setF _ _ (by simp))).trans
        (State.setIsolation_keepsFields _ _ _ _)
    exact ((s.asked_keepsFields ch _).trans (hset.mono (List.subset_append_left _ _))).trans
      ((State.noteWrite_keepsFields _ _ _).mono (List.subset_append_right _ _))
  · rw [State.noteWrite_mem, State.unitIsolating, State.setIsolation_frame]
    exact s.asked_mem ch

/-! ### TEST -/

theorem State.unitTest_bounds (h : 0x28 ≤ k) (s : State) (x : SeatId) (n tests : Nat) : s.unitTest x n k tests = s.seatErr x n offUnitCmd .bounds := if_pos h

theorem State.unitTest_conflict (hk : k < 0x28) (h : s.unitState ≠ utISOLATED ∨ s.unitTested ≠ k) (x : SeatId) (n tests : Nat) :
    s.unitTest x n k tests = s.seatErr x n offUnitCmd .stateConflict := (if_neg (Nat.not_le.mpr hk)).trans (if_pos h)

/-- The selections of tests that a unit does not take: none, and the sentinel of a Sloe. -/
theorem testsRefused_iff (h : tests < 8) : (tests % 8 = 0 ∨ (16 ≤ k ∧ bitAt tests 2)) ↔ tests = 0 ∨ (16 ≤ k ∧ 4 ≤ tests) := by
  simp only [bitAt, decide_eq_true_eq]
  omega

theorem State.unitTest_malformed (hk : k < 0x28) (h : s.unitState = utISOLATED) (ht : s.unitTested = k) (h8 : tests < 8)
    (hb : tests = 0 ∨ (16 ≤ k ∧ 4 ≤ tests)) (x : SeatId) (n : Nat) : s.unitTest x n k tests = s.seatErr x n offUnitCmd .badDescriptor :=
  (if_neg (Nat.not_le.mpr hk)).trans ((if_neg fun h' => h'.elim (· h) (· ht)).trans (if_pos ((testsRefused_iff h8).mpr hb)))

/-- A unit whose tests run. -/
def State.unitTesting (s : State) (k tests : Nat) : State :=
  { ((s.keepUnitCmd k tests).setF F.TST_UNIT_STATUS_STATE utTESTING).setF F.TST_UNIT_STATUS_RESULT 0 with tst.tests := tests }

theorem State.unitTesting_fld (s : State) (k tests : Nat) (f : Fld) (b : Nat) : (s.unitTesting k tests).fld f b =
    (((s.keepUnitCmd k tests).setF F.TST_UNIT_STATUS_STATE utTESTING).setF F.TST_UNIT_STATUS_RESULT 0).fld f b := rfl

theorem State.unitTest_tests (hk : k < 0x28) (h : s.unitState = utISOLATED) (ht : s.unitTested = k) (h8 : tests < 8)
    (hb : ¬(tests = 0 ∨ (16 ≤ k ∧ 4 ≤ tests))) (x : SeatId) (n : Nat) : s.unitTest x n k tests = s.unitTesting k tests := by
  refine (if_neg (Nat.not_le.mpr hk)).trans ((if_neg fun h' => h'.elim (· h) (· ht)).trans ((if_neg fun h' => hb ((testsRefused_iff h8).mp h')).trans ?_))
  rw [Nat.mod_eq_of_lt h8]
  rfl

theorem unitTest_answers (hg : s.guardedBy ch n x 0) (hk : k < 0x28) (h : s.unitState = utISOLATED) (ht : s.unitTested = k) (h8 : tests < 8)
    (hb : ¬(tests = 0 ∨ (16 ≤ k ∧ 4 ≤ tests))) :
    ∃ u, Answers (.unitTest ch k tests) s u ∧ u.unitState = utTESTING ∧ u.tst.tests = tests ∧ u.fld F.TST_UNIT_STATUS_RESULT = 0 := by
  have hrun : (s.asked ch).unitTest x n (k % 64) (tests % 8) = (s.asked ch).unitTesting k tests := by
    rw [Nat.mod_eq_of_lt (show k < 64 by omega), Nat.mod_eq_of_lt h8]
    exact State.unitTest_tests hk (by simpa using h) (by simpa using ht) h8 hb x n
  refine ⟨_, holder_performsNow (exec_unitTest s ch k tests) hg hrun rfl (by decide), ?_, ?_, ?_⟩
  · rw [State.unitState, State.noteWrite_unit _ _ (by decide), State.unitTesting_fld, State.fld_setF_place _ _ (by decide), State.fld_setF_same]
    rfl
  · rw [State.noteWrite_frame]
    rfl
  · rw [State.noteWrite_unit _ _ (by decide), State.unitTesting_fld, State.fld_setF_same]
    rfl

/-! ### RELEASE -/

theorem State.unitRelease_bounds (h : 0x28 ≤ k) (s : State) (x : SeatId) (n : Nat) : s.unitRelease x n k = s.seatErr x n offUnitCmd .bounds := if_pos h

theorem State.unitRelease_conflict (hk : k < 0x28) (h : s.unitState = utTESTING ∨ s.unitState = utNONE ∨ s.unitTested ≠ k) (x : SeatId) (n : Nat) :
    s.unitRelease x n k = s.seatErr x n offUnitCmd .stateConflict := by
  refine (if_neg (Nat.not_le.mpr hk)).trans (if_pos ?_)
  obtain h | h | h := h
  · exact .inl (by rw [h]; decide)
  · exact .inl (by rw [h]; decide)
  · exact .inr h

/-- A unit that is in grants again. -/
def State.unitFreed (s : State) (k : Nat) : State := ((s.setIsolation k 0).setF F.TST_UNIT_CMD_UNIT k).setF F.TST_UNIT_STATUS_STATE utNONE

theorem State.unitFreed_frame (s : State) (k : Nat) : s.unitFreed k = { s with regs := (s.unitFreed k).regs, qnc := (s.setIsolation k 0).qnc } := by
  rw [State.unitFreed, State.setIsolation_frame]
  rfl

theorem State.unitFreed_state (s : State) (k : Nat) : (s.unitFreed k).unitState = utNONE := State.fld_setF_same _ _ _ _

theorem State.unitRelease_frees (hk : k < 0x28) (h : s.unitState = utISOLATING ∨ s.unitState = utISOLATED) (ht : s.unitTested = k) (x : SeatId)
    (n : Nat) : s.unitRelease x n k =
      if k < 16 then (s.unitFreed k).setCore k { (s.unitFreed k).core k with since := (s.unitFreed k).now } else (s.unitFreed k).sloeBegin (k - 16) := by
  refine (if_neg (Nat.not_le.mpr hk)).trans (if_neg ?_)
  rintro (⟨h1, h2⟩ | h')
  · exact h.elim h1 h2
  · exact h' ht

theorem unitRelease_core (hg : s.guardedBy ch n x 0) (hk : k < 16) (h : s.unitState = utISOLATING ∨ s.unitState = utISOLATED) (ht : s.unitTested = k) :
    ∃ u, AnswersThen (.unitRelease ch k) s u ∧ u.unitState = utNONE ∧ (u.core k).isolation = 0 ∧ (u.core k).state = (s.core k).state := by
  have hrun : (s.asked ch).unitRelease x n (k % 64) = ((s.asked ch).unitFreed k).setCore k
      { ((s.asked ch).unitFreed k).core k with since := ((s.asked ch).unitFreed k).now } := by
    rw [Nat.mod_eq_of_lt (show k < 64 by omega), State.unitRelease_frees (by omega) (by simpa using h) (by simpa using ht), if_pos hk]
  have hrefused : ((s.asked ch).unitRelease x n (k % 64)).ctl.refused = false := by
    rw [hrun, State.unitFreed_frame]
    rfl
  have hcore : ((s.asked ch).unitFreed k).core k = { s.core k with isolation := 0 } :=
    ((s.asked ch).setIsolation_core 0 hk).trans (by rw [State.asked_core])
  have hans := holder_performs (exec_unitRelease s ch k) hg hrefused (by decide)
  rw [hrun] at hans
  refine ⟨_, hans, ?_, ?_, ?_⟩
  · exact (State.noteWrite_unit _ _ (by decide)).trans ((s.asked ch).unitFreed_state k)
  · rw [State.noteWrite_core, State.core_setCore_same, hcore]
  · rw [State.noteWrite_core, State.core_setCore_same, hcore]

theorem unitRelease_sloe (hg : s.guardedBy ch n x 0) (h16 : 16 ≤ k) (hk : k < 0x28) (h : s.unitState = utISOLATING ∨ s.unitState = utISOLATED)
    (ht : s.unitTested = k) :
    ∃ v, AnswersThen (.unitRelease ch k) s ((v : State).sloeBegin (k - 16)) ∧ v.unitState = utNONE ∧ v.mem = s.mem ∧ v.vs = s.vs := by
  have hrun : (s.asked ch).unitRelease x n (k % 64) = ((s.asked ch).unitFreed k).sloeBegin (k - 16) := by
    rw [Nat.mod_eq_of_lt (show k < 64 by omega), State.unitRelease_frees hk (by simpa using h) (by simpa using ht), if_neg (Nat.not_lt.mpr h16)]
  have hrefused : ((s.asked ch).unitRelease x n (k % 64)).ctl.refused = false := by
    obtain ⟨_, _, _, hctl, _⟩ := (Uniform.sloeBegin (k - 16)).regs ((s.asked ch).unitFreed k)
    rw [hrun, hctl, State.unitFreed_frame]
    rfl
  obtain ⟨r, c, hr, hnote⟩ := (Uniform.sloeBegin (k - 16)).noteWrite ((s.asked ch).unitFreed k) x (off := 0x1E0018) (by decide)
  have hans := holder_performs (exec_unitRelease s ch k) hg hrefused (by decide)
  rw [hrun, hnote] at hans
  refine ⟨_, hans, ?_, ?_, ?_⟩
  · exact (State.fld_rebased_behind hr (by decide) 0).trans ((s.asked ch).unitFreed_state k)
  · rw [State.rebased, State.unitFreed_frame]
    exact s.asked_mem ch
  · rw [State.rebased, State.unitFreed_frame]
    exact s.asked_vs ch

/-! ### A unit becomes idle -/

/-- Waking a unit changes registers of wakes alone, and neither memory. -/
theorem State.unitWake_spec (s : State) (k : Nat) : s.keepsPlaces (s.unitWake k) wakePlaces ∧ (s.unitWake k).mem = s.mem := by
  have hwake (v : State) (hv : s.keepsPlaces v wakePlaces) (hm : v.mem = s.mem) {n : Nat} (h1 : 1 ≤ n) (h : n ≤ 24) (comp inst : Nat) :
      s.keepsPlaces (v.askWake n comp inst) wakePlaces ∧ (v.askWake n comp inst).mem = s.mem := by
    obtain ⟨⟨r, l, heq⟩, hplaces⟩ := Wakes.askWake v h1 h comp inst
    exact ⟨hv.trans hplaces, by rw [heq]; exact hm⟩
  have hself : s.keepsPlaces s wakePlaces ∧ s.mem = s.mem := ⟨State.keepsPlaces_of_regs rfl, rfl⟩
  unfold State.unitWake
  split
  · unfold State.wakeCore
    dsimp only
    split
    · exact hwake (s.setCore k { s.core k with state := .waking }) (State.keepsPlaces_of_regs rfl) rfl (Nat.le_add_left 1 k) (by omega) 0 0
    · exact hself
  · split
    · exact hwake s hself.1 rfl (by decide) (by decide) 4 (k - 16)
    · exact hself

/-- A unit that has become idle is ISOLATED. -/
theorem State.unitIdle_isolates (h : s.unitState = utISOLATING) (hi : s.unitIsIdle s.unitTested = true) :
    s.unitIdle = ((s.setIsolation s.unitTested 2).unitWake s.unitTested).setF F.TST_UNIT_STATUS_STATE utISOLATED :=
  if_neg (by simp [h, hi])

theorem unitIdle_answers (hs : s.serves [] = true) (h : s.unitState = utISOLATING) (hi : s.unitIsIdle s.unitTested = true) :
    ∃ u, Answers .unitIdle s u ∧ u.unitState = utISOLATED ∧ u.unitTested = s.unitTested ∧ u.mem = s.mem := by
  obtain ⟨hplaces, hmem⟩ := (s.setIsolation s.unitTested 2).unitWake_spec s.unitTested
  have hans : Answers .unitIdle s s.unitIdle := answers_of_run (exec_unitIdle s) hs
  rw [State.unitIdle_isolates h hi] at hans
  refine ⟨_, hans, State.fld_setF_same _ _ _ _, ?_, ?_⟩
  · rw [State.unitTested, State.fld_setF_place _ _ (by decide), hplaces _ _ (by decide), State.setIsolation_fld]
    rfl
  · refine hmem.trans ?_
    rw [State.setIsolation_frame]

theorem unitIdle_waits (hs : s.serves [] = true) (h : s.unitState ≠ utISOLATING ∨ s.unitIsIdle s.unitTested = false) : Answers .unitIdle s s := by
  have hans : Answers .unitIdle s s.unitIdle := answers_of_run (exec_unitIdle s) hs
  rwa [State.unitIdle, if_pos (by simpa using h)] at hans

/-! ### The tests end -/

/-- The tests of a unit are over, with those that passed; an LBIST that ran has left a core's stores undefined. -/
def State.testsOver (s : State) (stop passed : Nat) : State :=
  (({ (if s.unitTested < 16 ∧ bitAt s.tst.tests 1 ∧ 1 ≤ stop then (s.loseTile s.unitTested).loseNear s.unitTested else s) with
    tst.tests := 0 } : State).setF F.TST_UNIT_STATUS_RESULT passed).setF F.TST_UNIT_STATUS_STATE utISOLATED

theorem State.testsOver_state (s : State) (stop passed : Nat) : (s.testsOver stop passed).unitState = utISOLATED := State.fld_setF_same _ _ _ _

theorem State.testsOver_result (s : State) (stop : Nat) {passed : Nat} (h : passed < 8) :
    (s.testsOver stop passed).fld F.TST_UNIT_STATUS_RESULT = passed := by
  rw [State.testsOver, State.fld_setF_place _ _ (by decide), State.fld_setF_same]
  exact Nat.mod_eq_of_lt h

theorem State.unitOutcome_spec (s : State) (st : Status) : (s.unitOutcome st).unitState = s.unitState ∧
    (s.unitOutcome st).fld F.TST_UNIT_STATUS_STATUS = st.code ∧
    (s.unitOutcome st).fld F.TST_UNIT_STATUS_RESULT = s.fld F.TST_UNIT_STATUS_RESULT := by
  refine ⟨?_, ?_, ?_⟩
  · exact (State.fld_bumpSeq_ne _ (by decide)).trans (State.fld_setF_place _ _ (by decide))
  · exact (State.fld_bumpSeq_ne _ (by decide)).trans ((State.fld_setF_same _ _ _ _).trans (Nat.mod_eq_of_lt st.code_lt))
  · exact (State.fld_bumpSeq_ne _ (by decide)).trans (State.fld_setF_place _ _ (by decide))

/-- The tests selected, as a mask, and those before one of them. -/
theorem testsBefore : ∀ ran < 8, ∀ stop < 4, maskOf ((bitsSet 3 ran).filter (fun t => t < stop)) = ran % 2 ^ stop := by decide

theorem State.unitTestDone_passes (h : s.unitState = utTESTING) (h8 : s.tst.tests < 8) :
    s.unitTestDone none = (s.testsOver 3 s.tst.tests).unitOutcome .done := by
  have hall : maskOf ((bitsSet 3 s.tst.tests).filter (fun t => t < 3)) = s.tst.tests :=
    (testsBefore _ h8 3 (by decide)).trans (Nat.mod_eq_of_lt h8)
  rw [State.unitTestDone, if_neg (not_not.mpr h)]
  simp only [Option.filter_none, Option.getD_none, hall]
  rfl

theorem State.unitTestDone_fails (h : s.unitState = utTESTING) (h8 : s.tst.tests < 8) {t : Nat} (ht : t < 3) (hb : bitAt s.tst.tests t = true) :
    s.unitTestDone (some t) = (((s.testsOver t (s.tst.tests % 2 ^ t)).unitOutcome .internal).faultUnit s.unitTested).logErr
      { unit := .tst, status := .internal, index := s.unitTested } := by
  have hfail : (some t).filter (fun t => decide (t < 3) && bitAt s.tst.tests t) = some t := by simp [Option.filter, ht, hb]
  rw [State.unitTestDone, if_neg (not_not.mpr h)]
  simp only [hfail, Option.getD_some, testsBefore _ h8 t (by omega)]
  rfl

theorem unitTestDone_idle (hs : s.serves [] = true) (h : s.unitState ≠ utTESTING) (f : Option Nat) : AnswersThen (.unitTestDone f) s s := by
  have hans : AnswersThen (.unitTestDone f) s (s.unitTestDone f) := answersThen_of_runOn (g := fun s => s.unitTestDone f) (exec_unitTestDone s f) hs
  rwa [State.unitTestDone, if_pos h] at hans

theorem unitTestDone_done (hs : s.serves [] = true) (h : s.unitState = utTESTING) (h8 : s.tst.tests < 8) :
    ∃ u, AnswersThen (.unitTestDone none) s u ∧ u.unitState = utISOLATED ∧ u.fld F.TST_UNIT_STATUS_STATUS = Status.done.code ∧
      u.fld F.TST_UNIT_STATUS_RESULT = s.tst.tests := by
  have hans : AnswersThen (.unitTestDone none) s (s.unitTestDone none) := answersThen_of_runOn (g := fun s => s.unitTestDone none) (exec_unitTestDone s none) hs
  rw [State.unitTestDone_passes h h8] at hans
  obtain ⟨hstate, hstatus, hresult⟩ := (s.testsOver 3 s.tst.tests).unitOutcome_spec .done
  exact ⟨_, hans, hstate.trans (s.testsOver_state _ _), hstatus, hresult.trans (s.testsOver_result 3 h8)⟩

theorem unitTestDone_failed (hs : s.serves [] = true) (h : s.unitState = utTESTING) (h8 : s.tst.tests < 8) {t : Nat} (ht : t < 3)
    (hb : bitAt s.tst.tests t = true) (hk : s.unitTested < 16) :
    ∃ u, AnswersThen (.unitTestDone (some t)) s u ∧ u.unitState = utISOLATED ∧
      u.fld F.TST_UNIT_STATUS_STATUS = Status.internal.code ∧ u.fld F.TST_UNIT_STATUS_RESULT = s.tst.tests % 2 ^ t ∧
      (u.core s.unitTested).state = .faulted := by
  have hans : AnswersThen (.unitTestDone (some t)) s (s.unitTestDone (some t)) := answersThen_of_runOn (g := fun s => s.unitTestDone (some t)) (exec_unitTestDone s (some t)) hs
  rw [State.unitTestDone_fails h h8 ht hb, State.faultUnit, if_pos hk] at hans
  obtain ⟨hstate, hstatus, hresult⟩ := (s.testsOver t (s.tst.tests % 2 ^ t)).unitOutcome_spec .internal
  refine ⟨_, hans, ?_, ?_, ?_, ?_⟩
  · exact (State.fld_logErr _ _ (by decide)).trans (hstate.trans (s.testsOver_state _ _))
  · exact (State.fld_logErr _ _ (by decide)).trans hstatus
  · exact (State.fld_logErr _ _ (by decide)).trans (hresult.trans (s.testsOver_result t (lt_of_le_of_lt (Nat.mod_le _ _) h8)))
  · rw [State.logErr_core, State.core_setCore_same]

/-! ### The statement -/

/-- Settles O60: each command by the state of the buses and of the unit under test. -/
theorem analogueAndUnits : Obligations.AnalogueAndUnits := by
  refine ⟨fun s ch n mode node rd x hm hn => ⟨fun hc => ⟨fun st h => abusSelect_refuses hm hn hc h, State.abusFault_busy, State.abusFault_locked,
      State.abusFault_stimulus, abusSelect_connects hm hn hc⟩, probe_answers hm⟩, fun s ch n k tests x hk64 h8 => ⟨fun hg => ?_, fun hs =>
    ⟨unitIdle_waits hs, unitIdle_answers hs, unitTestDone_idle hs, fun h ht => ⟨unitTestDone_done hs h ht, fun t ht3 hb => unitTestDone_failed hs h ht ht3 hb⟩⟩⟩⟩
  have hk : k % 64 = k := Nat.mod_eq_of_lt hk64
  have ht8 : tests % 8 = tests := Nat.mod_eq_of_lt h8
  refine ⟨fun hb => ⟨fun i hi => ?_, ?_⟩, fun hb h ht => ?_, fun hb h hs hq => unitIsolate_answers hg hb h hs hq, fun hb h ho => ?_, fun hb h => ?_,
    fun hb h ht => ⟨fun hbad => ?_, fun h0 hsel => unitTest_answers hg hb h ht h8 (by omega)⟩, fun hb h => ?_,
    fun hb h ht => unitRelease_core hg hb h ht, fun h16 hb h ht => unitRelease_sloe hg h16 hb h ht⟩
  · simp only [List.mem_cons, List.not_mem_nil, or_false] at hi
    obtain rfl | rfl := hi
    · exact holder_refusedNow (exec_unitIsolate s ch k) hg (hk.symm ▸ State.unitIsolate_bounds hb _ x n)
    · exact holder_refusedNow (exec_unitTest s ch k tests) hg (hk.symm ▸ State.unitTest_bounds hb _ x n _)
  · exact holder_refused (exec_unitRelease s ch k) hg (hk.symm ▸ State.unitRelease_bounds hb _ x n)
  · exact holder_refusedNow (exec_unitIsolate s ch k) hg (hk.symm ▸ State.unitIsolate_busy hb (by simpa using h) (by simpa using ht) x n)
  · exact holder_refusedNow (exec_unitIsolate s ch k) hg (hk.symm ▸ State.unitIsolate_conflict hb (by simpa using h) (by simpa using ho) x n)
  · exact holder_refusedNow (exec_unitTest s ch k tests) hg (hk.symm ▸ State.unitTest_conflict hb (by simpa using h) x n _)
  · exact holder_refusedNow (exec_unitTest s ch k tests) hg
      (hk.symm ▸ ht8.symm ▸ State.unitTest_malformed hb (by simpa using h) (by simpa using ht) h8 hbad x n)
  · exact holder_refused (exec_unitRelease s ch k) hg (hk.symm ▸ State.unitRelease_conflict hb (by simpa using h) x n)

end Sys2Proof.Machine
end

section
/-! What settling leaves of the control seats (R77 to R93): the clock, the log, packets and ports. -/

namespace Sys2Proof.Machine

@[simp] theorem State.foldl_ctl {α : Type} (f : State → α → State) (h : ∀ s a, (f s a).ctl = s.ctl) (l : List α) (s : State) :
    (l.foldl f s).ctl = s.ctl := by
  induction l generalizing s with
  | nil => rfl
  | cons a l ih => exact (ih (f s a)).trans (h s a)

@[simp] theorem State.draw_ctl (s : State) : (s.draw).2.ctl = s.ctl := rfl

@[simp] theorem State.noteLoss_ctl (s : State) (r : ErrRec) : (s.noteLoss r).ctl = s.ctl := by
  unfold State.noteLoss
  repeat' split
  all_goals simp

@[simp] theorem State.combine_ctl (s : State) (c : Combine) (p : Packet) : (s.combine c p).ctl = s.ctl := by
  unfold State.combine
  dsimp only
  split <;> simp

@[simp] theorem State.enterVoq_ctl (s : State) (ingress egress : Nat) (p : Packet) : (s.enterVoq ingress egress p).ctl = s.ctl := by
  unfold State.enterVoq
  dsimp only
  repeat' split
  all_goals simp

@[simp] theorem State.enqueue_ctl (s : State) (ingress egress : Nat) (p : Packet) : (s.enqueue ingress egress p).ctl = s.ctl := by
  unfold State.enqueue
  split <;> simp

@[simp] theorem State.deliver_ctl (s : State) (port : Nat) (p : Packet) : (s.deliver port p).ctl = s.ctl := rfl

@[simp] theorem State.send_ctl (s : State) (p : Packet) : (s.send p).ctl = s.ctl := by
  unfold State.send
  dsimp only
  split <;> simp

@[simp] theorem State.bumpEpoch_ctl (s : State) (d : Nat) : (s.bumpEpoch d).ctl = s.ctl := rfl
@[simp] theorem State.drawTag_ctl (s : State) : (s.drawTag).2.ctl = s.ctl := rfl
@[simp] theorem State.drawJnlTags_ctl (s : State) (n : Nat) : (s.drawJnlTags n).2.ctl = s.ctl := rfl

@[simp] theorem State.noteUse_ctl (s : State) (d vc : Nat) (path : Path) : (s.noteUse d vc path).ctl = s.ctl := by
  unfold State.noteUse
  split <;> rfl

@[simp] theorem State.launch_ctl (s : State) (p : Packet) (w : Waiter) : (s.launch p w).ctl = s.ctl := by
  unfold State.launch
  split <;> simp

@[simp] theorem State.issue_ctl (s : State) (p : Packet) (w : Waiter) : (s.issue p w).ctl = s.ctl := by
  unfold State.issue
  dsimp only
  split <;> simp

@[simp] theorem State.answerNow_ctl (s : State) (w : Waiter) (p : Packet) (st : Status) : (s.answerNow w p st).ctl = s.ctl := rfl
@[simp] theorem State.releaseWaiting_ctl (s : State) : (s.releaseWaiting).ctl = s.ctl := by simp [State.releaseWaiting, apply_ite State.ctl]

@[simp] theorem State.respond_ctl (s : State) (p : Packet) (st : Status) (payload : List Byte) (poison : Nat) :
    (s.respond p st payload poison).ctl = s.ctl := by
  simp [State.respond]

@[simp] theorem State.dedupEnter_ctl (s : State) (src tag : Nat) : (s.dedupEnter src tag).ctl = s.ctl := rfl

@[simp] theorem State.dedup_ctl (s : State) (p : Packet) (apply : State → State) (happly : ∀ s, (apply s).ctl = s.ctl) :
    (s.dedup p apply).ctl = s.ctl := by
  unfold State.dedup
  repeat' split
  all_goals simp [happly]

@[simp] theorem State.finish_ctl (s : State) (p : Packet) (st : Status) (payload : List Byte) (poison : Nat) :
    (s.finish p st payload poison).ctl = s.ctl := by
  unfold State.finish
  repeat' split
  all_goals simp

@[simp] theorem State.dedupRecord_ctl (s : State) (src tag : Nat) (st : Status) (result : List Byte) (pieces : List Nat) :
    (s.dedupRecord src tag st result pieces).ctl = s.ctl := by
  unfold State.dedupRecord
  split <;> rfl

@[simp] theorem State.noteForward_ctl (s : State) (src tag dst : Nat) : (s.noteForward src tag dst).ctl = s.ctl := rfl
@[simp] theorem State.retireTag_ctl (s : State) (dst tag : Nat) (drain : Bool) : (s.retireTag dst tag drain).ctl = s.ctl := rfl

@[simp] theorem State.sendRetirements_ctl (s : State) (dst : Nat) : (s.sendRetirements dst).ctl = s.ctl := by
  unfold State.sendRetirements
  dsimp only
  split <;> simp

@[simp] theorem State.sendMarker_ctl (s : State) (d vc : Nat) (path : Path) : (s.sendMarker d vc path).ctl = s.ctl := by simp [State.sendMarker]

@[simp] theorem State.resend_ctl (s : State) (r : Request) : (s.resend r).ctl = s.ctl := by
  unfold State.resend
  split <;> simp

@[simp] theorem State.pathDead_ctl (s : State) (d : Nat) (path : Path) : (s.pathDead d path).ctl = s.ctl := by simp [State.pathDead]

@[simp] theorem State.reroute_ctl (s : State) (d : Nat) : (s.reroute d).ctl = s.ctl := by
  unfold State.reroute
  dsimp only
  repeat' split
  all_goals simp

@[simp] theorem State.keyError_ctl (s : State) (port key : Nat) : (s.keyError port key).ctl = s.ctl := by
  unfold State.keyError
  split <;> rfl

end Sys2Proof.Machine
end

section
/-! What settling leaves of the control seats (R77 to R93): contexts, extents, the journal and its queues. -/

namespace Sys2Proof.Machine

@[simp] theorem State.noteFault_ctl (s : State) (c : Nat) (st : Status) (addr : Nat) : (s.noteFault c st addr).ctl = s.ctl := by
  unfold State.noteFault
  repeat' split
  all_goals simp

@[simp] theorem State.modExtent_ctl (s : State) (c va : Nat) (f : Extent → Extent) : (s.modExtent c va f).ctl = s.ctl := rfl

@[simp] theorem State.recounted_ctl (s : State) (c va : Nat) : (s.recounted c va).ctl = s.ctl := by
  unfold State.recounted
  split <;> rfl

@[simp] theorem State.takeRef_ctl (s : State) (c va : Nat) : (s.takeRef c va).ctl = s.ctl := by simp [State.takeRef]
@[simp] theorem State.showTable_ctl (s : State) (c : Nat) : (s.showTable c).ctl = s.ctl := rfl
@[simp] theorem State.refreshTable_ctl (s : State) (c va gone : Nat) : (s.refreshTable c va gone).ctl = s.ctl := rfl
@[simp] theorem State.loadTable_ctl (s : State) (c : Nat) : (s.loadTable c).ctl = s.ctl := rfl
@[simp] theorem State.bumpGen_ctl (s : State) (c : Nat) : (s.bumpGen c).ctl = s.ctl := rfl
@[simp] theorem State.refreshClaims_ctl (s : State) : (s.refreshClaims).ctl = s.ctl := rfl

@[simp] theorem State.addClaim_ctl (s : State) (k : Claim) : (s.addClaim k).ctl = s.ctl := by
  unfold State.addClaim
  repeat' split
  all_goals simp

@[simp] theorem State.recordClaim_ctl (s : State) (k : Claim) : (s.recordClaim k).ctl = s.ctl := by
  unfold State.recordClaim
  split <;> simp

@[simp] theorem State.dropClaims_ctl (s : State) (f : Claim → Bool) : (s.dropClaims f).ctl = s.ctl := by
  unfold State.dropClaims
  simp only [State.refreshClaims_ctl, State.addF_ctl, State.subF_ctl]
  refine State.foldl_ctl _ (fun s k => ?_) _ _
  split <;> simp

@[simp] theorem State.xltSend_ctl (s : State) (dst kind : Nat) (m : XltMsg) (w : Waiter) : (s.xltSend dst kind m w).ctl = s.ctl := by
  simp [State.xltSend]

@[simp] theorem State.setMapJob_ctl (s : State) (x : SeatId) (j : Option MapJob) : (s.setMapJob x j).ctl = s.ctl := by
  unfold State.setMapJob
  split <;> rfl

@[simp] theorem State.mapOutcome_ctl (s : State) (x : SeatId) (st : Status) (detail : Nat) : (s.mapOutcome x st detail).ctl = s.ctl := by
  simp [State.mapOutcome]

@[simp] theorem State.mapFinish_ctl (s : State) (x : SeatId) (e : Extent) (undo : State → State) (hundo : ∀ s, (undo s).ctl = s.ctl) :
    (s.mapFinish x e undo).ctl = s.ctl := by
  unfold State.mapFinish
  repeat' split
  all_goals simp [hundo]

@[simp] theorem State.releaseClaim_ctl (s : State) (e : Extent) : (s.releaseClaim e).ctl = s.ctl := by simp [State.releaseClaim, apply_ite State.ctl]

@[simp] theorem State.mapAnswer_ctl (s : State) (x : SeatId) (tag : Nat) (st : Status) (cls : Nat) : (s.mapAnswer x tag st cls).ctl = s.ctl := by
  unfold State.mapAnswer
  repeat' split
  all_goals simp

@[simp] theorem State.beginChange_ctl (s : State) (c va : Nat) (next : ExtState) : (s.beginChange c va next).ctl = s.ctl := rfl

@[simp] theorem State.setShootJob_ctl (s : State) (x : SeatId) (j : Option ShootJob) : (s.setShootJob x j).ctl = s.ctl := by
  unfold State.setShootJob
  split <;> rfl

@[simp] theorem State.shootRefuse_ctl (s : State) (x : SeatId) (st : Status) : (s.shootRefuse x st).ctl = s.ctl := rfl
@[simp] theorem State.shootDone_ctl (s : State) (x : SeatId) (detail : Nat) : (s.shootDone x detail).ctl = s.ctl := by simp [State.shootDone]

@[simp] theorem State.shootSettle_ctl (s : State) (x : SeatId) : (s.shootSettle x).ctl = s.ctl := by
  unfold State.shootSettle
  repeat' split
  all_goals simp

@[simp] theorem State.revSettle_ctl (s : State) (r : Revocation) : (s.revSettle r).ctl = s.ctl := by
  unfold State.revSettle
  extract_lets _ _ s₁ owner kept mine s₂ _ s₃ msg
  have hmsg (d t c : Nat) (s : State) : (msg d t c s).ctl = s.ctl := by
    simp only [msg]
    split <;> simp
  have h₃ : s₃.ctl = s.ctl := by
    simp only [s₃]
    split
    · exact s₁.dropClaims_ctl _
    · rfl
  split
  · rfl
  · split
    · rfl
    · exact (State.foldl_ctl _ (fun s j => hmsg _ _ _ s) _ _).trans ((hmsg _ _ _ _).trans h₃)

@[simp] theorem State.sweepExtents_ctl (s : State) : (s.sweepExtents).ctl = s.ctl := by
  unfold State.sweepExtents
  dsimp only
  split <;> simp

@[simp] theorem State.dropRef_ctl (s : State) (c va : Nat) : (s.dropRef c va).ctl = s.ctl := by simp [State.dropRef]
@[simp] theorem State.dropPin_ctl (s : State) (c va : Nat) : (s.dropPin c va).ctl = s.ctl := by simp [State.dropPin]
@[simp] theorem State.aliasesAnswered_ctl (s : State) (dga n : Nat) : (s.aliasesAnswered dga n).ctl = s.ctl := rfl
@[simp] theorem State.aliasesUsed_ctl (s : State) (e : Extent) : (s.aliasesUsed e).ctl = s.ctl := rfl

@[simp] theorem State.shootBegin_ctl (s : State) (x : SeatId) (c started : Nat) (late : Bool) (es : List Extent) :
    (s.shootBegin x c started late es).ctl = s.ctl := by
  unfold State.shootBegin
  refine (State.shootSettle_ctl _ _).trans ((State.setShootJob_ctl _ _ _).trans ?_)
  exact State.foldl_ctl _ (fun s e => by simp) es s

@[simp] theorem State.shootCheck_ctl (s : State) (x : SeatId) : (s.shootCheck x).ctl = s.ctl := by
  unfold State.shootCheck
  dsimp only
  repeat' split
  · rfl
  · simp only [State.shootRefuse_ctl, State.setF_ctl, State.setShootJob_ctl]
    exact State.foldl_ctl _ (fun s e => s.aliasesUsed_ctl e) _ _
  · simp
  · rfl

@[simp] theorem State.etcPut_ctl (s : State) (c log2 span : Nat) : (s.etcPut c log2 span).ctl = s.ctl := by
  unfold State.etcPut
  dsimp only
  repeat' split
  all_goals simp

@[simp] theorem State.etcFill_ctl (s : State) (c va : Nat) : (s.etcFill c va).ctl = s.ctl := by
  unfold State.etcFill
  dsimp only
  repeat' split
  all_goals simp

@[simp] theorem State.etcLook_ctl (s : State) (c va : Nat) : (s.etcLook c va).ctl = s.ctl := by simp [State.etcLook, apply_ite State.ctl]

@[simp] theorem State.refreshRing_ctl (s : State) : (s.refreshRing).ctl = s.ctl := by
  unfold State.refreshRing
  dsimp only
  split <;> simp

@[simp] theorem State.mirrorEntry_ctl (s : State) (e : JEntry) : (s.mirrorEntry e).ctl = s.ctl := by simp [State.mirrorEntry]
@[simp] theorem State.journalWrite_keepsCtl (s : State) (e : JEntry) : (s.journalWrite e).ctl = s.ctl := State.journalWrite_ctl s e
@[simp] theorem State.pruneRing_ctl (s : State) : (s.pruneRing).ctl = s.ctl := by simp [State.pruneRing]

@[simp] theorem State.carryForward_ctl (s : State) : (s.carryForward).ctl = s.ctl := by
  unfold State.carryForward
  repeat' split
  all_goals simp

@[simp] theorem State.carriedEffect_ctl (s : State) (e : JEntry) : (s.carriedEffect e).ctl = s.ctl := by
  unfold State.carriedEffect
  repeat' split
  all_goals simp

@[simp] theorem State.setQueue_ctl (s : State) (q : Nat) (x : QueueX) : (s.setQueue q x).ctl = s.ctl := rfl

@[simp] theorem State.setQueueState_ctl (s : State) (q : Nat) (st : QueueState) : (s.setQueueState q st).ctl = s.ctl := by
  simp [State.setQueueState, apply_ite State.ctl]

@[simp] theorem State.modWork_ctl (s : State) (t : Nat) (f : Work → Work) : (s.modWork t f).ctl = s.ctl := rfl

@[simp] theorem State.notePoison_ctl (s : State) (t order : Nat) (dga : Option Nat) : (s.notePoison t order dga).ctl = s.ctl := by
  unfold State.notePoison
  split <;> rfl

@[simp] theorem State.queueError_ctl (s : State) (q reason : Nat) (st : Status) : (s.queueError q reason st).ctl = s.ctl := by
  simp [State.queueError, apply_ite State.ctl]

@[simp] theorem State.writeHeader_ctl (s : State) (q : Nat) : (s.writeHeader q).ctl = s.ctl := rfl

@[simp] theorem State.doorbell_ctl (s : State) (q word : Nat) : (s.doorbell q word).ctl = s.ctl := by
  unfold State.doorbell
  repeat' split
  all_goals simp [apply_ite State.ctl]

@[simp] theorem State.actHeldBell_ctl (s : State) (q : Nat) : (s.actHeldBell q).ctl = s.ctl := by
  unfold State.actHeldBell
  dsimp only
  split <;> simp

@[simp] theorem State.queueDrains_ctl (s : State) (q : Nat) : (s.queueDrains q).ctl = s.ctl := by simp [State.queueDrains]

@[simp] theorem State.queueReady_ctl (s : State) (q : Nat) : (s.queueReady q).ctl = s.ctl := by
  unfold State.queueReady
  repeat' split
  all_goals simp

@[simp] theorem State.cqHeadStore_ctl (s : State) (q word : Nat) : (s.cqHeadStore q word).ctl = s.ctl := by
  simp [State.cqHeadStore, apply_ite State.ctl]

@[simp] theorem State.newXfer_ctl (s : State) (o : XOwner) (left : Nat) : (s.newXfer o left).2.ctl = s.ctl := rfl

@[simp] theorem State.issueStore_ctl (s : State) (dst dga pkey ctx tag vc : Nat) (bs : List Byte) (poison : Nat) (w : Waiter) :
    (s.issueStore dst dga pkey ctx tag vc bs poison w).ctl = s.ctl := by
  simp [State.issueStore]

@[simp] theorem State.setQpx_ctl (s : State) (qp : Nat) (x : Qp) : (s.setQpx qp x).ctl = s.ctl := rfl

@[simp] theorem State.ethEmit_ctl (s : State) (qp : Nat) (bulk : Bool) (bytes : Nat) (m : EthMsg) : (s.ethEmit qp bulk bytes m).ctl = s.ctl := by
  simp [State.ethEmit, apply_ite State.ctl]

@[simp] theorem State.ethWrite_ctl (s : State) (qp va rkey : Nat) (bs : List Byte) (o : XOwner) : (s.ethWrite qp va rkey bs o).ctl = s.ctl := by
  simp [State.ethWrite]

@[simp] theorem State.postCompletion_ctl (s : State) (q index : Nat) (bs : List Byte) (final : Bool) :
    (s.postCompletion q index bs final).ctl = s.ctl := by
  unfold State.postCompletion
  split <;> simp

@[simp] theorem State.completionWritten_ctl (s : State) (q : Nat) (st : Status) : (s.completionWritten q st).ctl = s.ctl := by
  unfold State.completionWritten
  split <;> simp

@[simp] theorem State.advanceHead_ctl (s : State) (q : Nat) (fuel : Nat) : (s.advanceHead q fuel).ctl = s.ctl := by
  induction fuel generalizing s with
  | zero => rfl
  | succ fuel ih =>
    rw [State.advanceHead]
    repeat' split
    all_goals simp [ih]

@[simp] theorem State.postFinal_ctl (s : State) (q index : Nat) (bs : List Byte) : (s.postFinal q index bs).ctl = s.ctl := by simp [State.postFinal]
@[simp] theorem State.postRefusal_ctl (s : State) (w : Work) : (s.postRefusal w).ctl = s.ctl := by simp [State.postRefusal]

@[simp] theorem State.unpinQueue_ctl (s : State) (q : Nat) : (s.unpinQueue q).ctl = s.ctl := by
  unfold State.unpinQueue
  dsimp only
  repeat' split
  all_goals simp

@[simp] theorem State.stopIfDrained_ctl (s : State) (q : Nat) : (s.stopIfDrained q).ctl = s.ctl := by
  unfold State.stopIfDrained
  split <;> simp

@[simp] theorem State.queueCfgEffect_ctl (s : State) (e : JEntry) : (s.queueCfgEffect e).ctl = s.ctl := by
  simp [State.queueCfgEffect, apply_ite State.ctl]

@[simp] theorem State.drainQueues_ctl (s : State) (sl : Slice) (drain : Bool) : (s.drainQueues sl drain).ctl = s.ctl := by
  unfold State.drainQueues
  refine State.foldl_ctl _ (fun s q => ?_) _ _
  split <;> simp

@[simp] theorem State.accept_ctl (s : State) (t : Nat) : (s.accept t).ctl = s.ctl := by
  unfold State.accept
  repeat' split
  all_goals simp

end Sys2Proof.Machine
end

section
/-! What settling leaves of the control seats (R77 to R93): protection classes and requests at their owner. -/

namespace Sys2Proof.Machine

@[simp] theorem State.degrade_ctl (s : State) (cell : Nat) : (s.degrade cell).ctl = s.ctl := by
  unfold State.degrade
  dsimp only
  split <;> simp

@[simp] theorem State.granuleLost_ctl (s : State) (dev tier g : Nat) : (s.granuleLost dev tier g).ctl = s.ctl := by
  unfold State.granuleLost
  split <;> rfl

@[simp] theorem State.tellLoss_ctl (s : State) (dga other : Nat) : (s.tellLoss dga other).ctl = s.ctl := by
  unfold State.tellLoss
  split <;> simp

@[simp] theorem State.lossReport_ctl (s : State) (cell n : Nat) : (s.lossReport cell n).ctl = s.ctl := by simp [State.lossReport]
@[simp] theorem State.doubleLoss_ctl (s : State) (cell n : Nat) : (s.doubleLoss cell n).ctl = s.ctl := by simp [State.doubleLoss]

@[simp] theorem State.ownCopyLost_ctl (s : State) (k : Claim) (g : Nat) (gone : Nat → Bool) : (s.ownCopyLost k g gone).ctl = s.ctl := by
  simp [State.ownCopyLost, apply_ite State.ctl]

@[simp] theorem State.partFailure_ctl (s : State) (tier part : Nat) : (s.partFailure tier part).ctl = s.ctl := by
  simp [State.partFailure, apply_ite State.ctl]

@[simp] theorem State.noteEcc_ctl (s : State) (cells : List Nat) : (s.noteEcc cells).ctl = s.ctl := by simp [State.noteEcc, apply_ite State.ctl]
@[simp] theorem State.modXfer_ctl (s : State) (id : Nat) (f : Xfer → Xfer) : (s.modXfer id f).ctl = s.ctl := rfl
@[simp] theorem State.xferWait_ctl (s : State) (id n : Nat) : (s.xferWait id n).ctl = s.ctl := rfl
@[simp] theorem State.xferEnd_ctl (s : State) (id off : Nat) (p : Packet) (st : Status) : (s.xferEnd id off p st).ctl = s.ctl := rfl

@[simp] theorem State.addLoad_ctl (s : State) (id off ctx cls dga n vc : Nat) : (s.addLoad id off ctx cls dga n vc).ctl = s.ctl := by
  unfold State.addLoad
  repeat' split
  all_goals simp

@[simp] theorem State.addStore_ctl (s : State) (id ctx cls dga : Nat) (bs : List MByte) (vc : Nat) (tagged : Bool) (tag : Nat → Nat) :
    (s.addStore id ctx cls dga bs vc tagged tag).ctl = s.ctl := by
  unfold State.addStore
  dsimp only
  split
  · rfl
  · split
    · simp
    · split
      · simp
      · split
        · refine State.foldl_ctl _ (fun s k => ?_) _ _
          refine (State.foldl_ctl _ (fun s j => ?_) _ _).trans ?_
          · split <;> simp
          · split <;> simp
        · exact State.foldl_ctl _ (fun s c => by simp) _ _

@[simp] theorem State.loadFor_ctl (s : State) (o : XOwner) (ctx cls dga n vc : Nat) : (s.loadFor o ctx cls dga n vc).ctl = s.ctl := by
  simp [State.loadFor]

@[simp] theorem State.storeFor_ctl (s : State) (o : XOwner) (ctx cls dga : Nat) (bs : List MByte) (vc : Nat) (tag : Nat → Nat) :
    (s.storeFor o ctx cls dga bs vc tag).ctl = s.ctl := by
  simp [State.storeFor]

@[simp] theorem State.notePage_ctl (s : State) (req rsp : Packet) : (s.notePage req rsp).ctl = s.ctl := by
  unfold State.notePage
  dsimp only
  split <;> simp

@[simp] theorem State.xferAnswer_ctl (s : State) (id off : Nat) (req rsp : Packet) : (s.xferAnswer id off req rsp).ctl = s.ctl :=
  (State.modXfer_ctl _ _ _).trans (State.notePage_ctl _ _ _)

@[simp] theorem State.serveBytes_ctl (s : State) (cls n : Nat) : (s.serveBytes cls n).ctl = s.ctl := by
  unfold State.serveBytes
  dsimp only
  split <;> simp

@[simp] theorem State.answerSafe_ctl (s : State) (lines : List Nat) (p : Packet) (st : Status) (data : List Byte) (poison : Nat) :
    (s.answerSafe lines p st data poison).ctl = s.ctl := by
  unfold State.answerSafe
  split <;> simp

@[simp] theorem State.releaseAnswers_ctl (s : State) : (s.releaseAnswers).ctl = s.ctl := by simp [State.releaseAnswers]

@[simp] theorem State.protected_ctl (s : State) (p : Packet) (st : Status) : (s.protected_ p st).ctl = s.ctl := by
  unfold State.protected_
  repeat' split
  all_goals simp [apply_ite State.ctl]

@[simp] theorem State.unprotected_ctl (s : State) (p : Packet) : (s.unprotected p).ctl = s.ctl := by simp [State.unprotected]
@[simp] theorem State.sendMirrors_ctl (s : State) : (s.sendMirrors).ctl = s.ctl := by simp [State.sendMirrors, apply_ite State.ctl]

@[simp] theorem State.protectWrite_ctl (s : State) (p : Packet) (before : Mem) (lines : List Nat) (parts : List (Nat × Nat)) (result : List Byte) (atomic : Bool) :
    (s.protectWrite p before lines parts result atomic).ctl = s.ctl := by
  simp [State.protectWrite, apply_ite State.ctl]

@[simp] theorem State.ownerWrite_ctl (s : State) (p : Packet) (cell : Nat) (new : List Byte) (pmask : Nat) (result : List Byte) (atomic : Bool) :
    (s.ownerWrite p cell new pmask result atomic).ctl = s.ctl := by
  simp [State.ownerWrite]

@[simp] theorem State.deviceWrite_ctl (s : State) (cell : Nat) (bs : List Byte) : (s.deviceWrite cell bs).ctl = s.ctl := by simp [State.deviceWrite]

@[simp] theorem State.writeTables_ctl (s : State) : s.writeTables.ctl = s.ctl := by
  unfold State.writeTables
  extract_lets dirty counted before _ s₁ s₂
  have h₂ : s₂.ctl = s.ctl := State.foldl_ctl _ (fun s d => by simp) _ _
  refine (State.foldl_ctl _ (fun s c => ?_) _ _).trans h₂
  split <;> rfl

@[simp] theorem State.forwardTo_ctl (s : State) (p : Packet) (h : Nat) : (s.forwardTo p h).ctl = s.ctl := by simp [State.forwardTo]
@[simp] theorem State.forwardLine_ctl (s : State) (p : Packet) (h : Nat) : (s.forwardLine p h).ctl = s.ctl := by simp [State.forwardLine]

@[simp] theorem State.takeLine_ctl (s : State) (p : Packet) : (s.takeLine p).ctl = s.ctl := by
  unfold State.takeLine
  dsimp only
  repeat' split
  all_goals simp

@[simp] theorem State.askPart_ctl (s : State) (id off : Nat) (p : Packet) : (s.askPart id off p).ctl = s.ctl := by
  unfold State.askPart
  split <;> simp

@[simp] theorem State.askStripe_ctl (s : State) (o : XOwner) (runs : List (Nat × Nat)) : (s.askStripe o runs).ctl = s.ctl := by simp [State.askStripe]
@[simp] theorem State.markParity_ctl (s : State) (dev cell : Nat) (poison : List Bool) : (s.markParity dev cell poison).ctl = s.ctl := rfl

@[simp] theorem State.changeParity_ctl (s : State) (dga : Nat) (delta : List Byte) (poison : List Bool) :
    (s.changeParity dga delta poison).ctl = s.ctl := rfl

@[simp] theorem State.poisonRecord_ctl (s : State) (cell : Nat) : (s.poisonRecord cell).ctl = s.ctl := by simp [State.poisonRecord]

@[simp] theorem State.eccPoison_ctl (s : State) (cell : Nat) (sectors : List Nat) : (s.eccPoison cell sectors).ctl = s.ctl := by
  simp [State.eccPoison]

@[simp] theorem State.blockAnswer_ctl (s : State) (p : Packet) (bs : List Byte) (mask : Nat) : (s.blockAnswer p bs mask).ctl = s.ctl := by
  simp [State.blockAnswer]

@[simp] theorem State.readOwn_ctl (s : State) (p : Packet) (key cell : Nat) : (s.readOwn_ p key cell).ctl = s.ctl := by simp [State.readOwn_]

@[simp] theorem State.serveLoad_ctl (s : State) (p : Packet) (ecc : Nat) : (s.serveLoad p ecc).ctl = s.ctl := by
  unfold State.serveLoad
  dsimp only
  repeat' split
  all_goals simp

@[simp] theorem State.repaired_ctl (s : State) (p : Packet) (ecc : Nat) (x : Xfer) : (s.repaired p ecc x).ctl = s.ctl := by
  unfold State.repaired
  extract_lets cell bs good fix note bad s₁ s₂ s₃ bad' s₄
  have hfix (s : State) (l : List Nat) : (l.foldl fix s).ctl = s.ctl := State.foldl_ctl fix (fun _ _ => rfl) l s
  have hnote (s : State) (c : Nat) : (note s c).ctl = s.ctl := by simp [note]
  have h₁ : s₁.ctl = s.ctl := by
    simp only [s₁]
    split <;> simp [hfix, hnote]
  have h₂ : s₂.ctl = s.ctl := by
    simp only [s₂]
    split <;> simp [h₁]
  have h₄ : s₄.ctl = s.ctl := by
    refine State.foldl_ctl _ (fun s k => ?_) _ _
    split
    · exact hnote _ _
    · simp
  split
  · simp [s₃, h₂]
  · simp [h₄]

@[simp] theorem State.mirrorWrite_ctl (s : State) (p : Packet) (new : List Byte) (result : List Byte) : (s.mirrorWrite p new result).ctl = s.ctl := by
  simp [State.mirrorWrite]

@[simp] theorem State.serveStore_ctl (s : State) (p : Packet) : (s.serveStore p).ctl = s.ctl := by
  unfold State.serveStore
  dsimp only
  repeat' split
  all_goals simp

@[simp] theorem State.serveAtomic_ctl (s : State) (p : Packet) : (s.serveAtomic p).ctl = s.ctl := by
  unfold State.serveAtomic
  dsimp only
  repeat' split
  all_goals simp

@[simp] theorem State.doubleLossAnswer_ctl (s : State) (p : Packet) (pieces : List (Nat × List Byte)) (st : Status) :
    (s.doubleLossAnswer p pieces st).ctl = s.ctl := by
  unfold State.doubleLossAnswer
  split
  · simp
  · refine (State.finish_ctl _ _ _ _ _).trans ((State.foldl_ctl _ (fun s r => by simp) _ _).trans (by simp))

@[simp] theorem State.serveReconstructed_ctl (s : State) (p : Packet) (pieces : List (Nat × List Byte)) (x : Xfer) :
    (s.serveReconstructed p pieces x).ctl = s.ctl := by
  unfold State.serveReconstructed
  extract_lets runs m cell key n change
  have hchange (m' : Mem) (len : Nat) (result : List Byte) : (change s m' len result).ctl = s.ctl := by
    simp only [change, State.finish_ctl, State.serveBytes_ctl]
    exact State.foldl_ctl _ (fun s r => by simp) _ _
  repeat' split
  all_goals simp [hchange]

@[simp] theorem State.applyOnce_ctl (s : State) (p : Packet) (apply : State → State) (happly : ∀ s, (apply s).ctl = s.ctl) :
    (s.applyOnce p apply).ctl = s.ctl := by
  unfold State.applyOnce
  dsimp only
  repeat' split
  all_goals simp [happly]

@[simp] theorem State.mirrorApply_ctl (s : State) (p : Packet) : (s.mirrorApply p).ctl = s.ctl := by simp [State.mirrorApply]

@[simp] theorem State.parityAnswer_ctl (s : State) (p : Packet) : (s.parityAnswer p).ctl = s.ctl := by
  unfold State.parityAnswer
  dsimp only
  repeat' split
  all_goals simp

@[simp] theorem State.rebuiltAnswer_ctl (s : State) (p : Packet) (x : Xfer) : (s.rebuiltAnswer p x).ctl = s.ctl := by
  unfold State.rebuiltAnswer
  split <;> simp

@[simp] theorem State.undegrade_ctl (s : State) (tier g : Nat) : (s.undegrade tier g).ctl = s.ctl := by
  unfold State.undegrade
  split <;> rfl

@[simp] theorem State.unitRecomputing_ctl (s : State) (cell : Nat) : (s.unitRecomputing cell).ctl = s.ctl := by
  unfold State.unitRecomputing
  dsimp only
  split <;> simp

@[simp] theorem State.unitRecomputed_ctl (s : State) (cell : Nat) (whole : Bool) : (s.unitRecomputed cell whole).ctl = s.ctl := by
  unfold State.unitRecomputed
  dsimp only
  split <;> simp

@[simp] theorem State.parityApply_ctl (s : State) (p : Packet) : (s.parityApply p).ctl = s.ctl := by
  unfold State.parityApply
  by_cases hr : auxRead p.aux = true
  · rw [if_pos hr]
    split <;> simp
  · rw [if_neg hr]
    by_cases hl : auxRelease p.aux = true
    · rw [if_pos hl]; simp
    · rw [if_neg hl]
      refine State.applyOnce_ctl _ _ _ fun s => ?_
      dsimp only
      repeat' split
      all_goals simp

@[simp] theorem State.writeWhole_ctl (s : State) (p : Packet) (pieces : List (Nat × List Byte)) (put : Nat × List Byte → Packet) :
    (s.writeWhole p pieces put).ctl = s.ctl := by
  unfold State.writeWhole
  dsimp only
  repeat' split
  all_goals simp

@[simp] theorem State.commitTile_ctl (s : State) (p : Packet) : (s.commitTile p).ctl = s.ctl := by
  unfold State.commitTile
  repeat' split
  all_goals simp [apply_ite State.ctl]

@[simp] theorem State.blockRead_ctl (s : State) (p : Packet) (ecc : Nat) : (s.blockRead p ecc).ctl = s.ctl := by
  unfold State.blockRead
  dsimp only
  repeat' split
  all_goals simp

@[simp] theorem State.blockWrite_ctl (s : State) (p : Packet) : (s.blockWrite p).ctl = s.ctl := by
  unfold State.blockWrite
  extract_lets k put open_
  have hput (s : State) : (put s).ctl = s.ctl := by
    simp only [put]
    repeat' split
    all_goals simp
  repeat' split
  all_goals simp [hput]

end Sys2Proof.Machine
end

section
/-! What settling leaves of the control seats (R77 to R93): the home agent and the end of requests. -/

namespace Sys2Proof.Machine

@[simp] theorem State.consumePoison_ctl (s : State) (ctx opcode dga : Nat) : (s.consumePoison ctx opcode dga).ctl = s.ctl := by
  unfold State.consumePoison
  dsimp only
  split <;> simp

@[simp] theorem State.showFilter_ctl (s : State) : (s.showFilter).ctl = s.ctl := rfl
@[simp] theorem State.dropEntry_ctl (s : State) (agent line : Nat) : (s.dropEntry agent line).ctl = s.ctl := rfl
@[simp] theorem State.putEntry_ctl (s : State) (e : FilterEntry) : (s.putEntry e).ctl = s.ctl := rfl
@[simp] theorem State.modEv_ctl (s : State) (id : Nat) (f : HomeEv → HomeEv) : (s.modEv id f).ctl = s.ctl := rfl
@[simp] theorem State.showBusy_ctl (s : State) : (s.showBusy).ctl = s.ctl := rfl
@[simp] theorem State.endEv_ctl (s : State) (id : Nat) : (s.endEv id).ctl = s.ctl := rfl

@[simp] theorem State.sendSnoop_ctl (s : State) (id : Nat) (e : FilterEntry) (op : Nat) (p : Packet) : (s.sendSnoop id e op p).ctl = s.ctl := by
  simp [State.sendSnoop]

@[simp] theorem State.grantKept_ctl (s : State) (ev : HomeEv) (st : Nat) : (s.grantKept ev st).ctl = s.ctl := by
  unfold State.grantKept
  split <;> rfl

@[simp] theorem State.grantWith_ctl (s : State) (ev : HomeEv) (st : Nat) (bs : List Byte) (poison : Nat) :
    (s.grantWith ev st bs poison).ctl = s.ctl := by
  simp [State.grantWith]

@[simp] theorem State.grantRefused_ctl (s : State) (ev : HomeEv) (status : Status) : (s.grantRefused ev status).ctl = s.ctl := by
  simp [State.grantRefused]

@[simp] theorem State.grant_ctl (s : State) (ev : HomeEv) (st : Nat) (withData : Bool) : (s.grant ev st withData).ctl = s.ctl := by
  unfold State.grant
  dsimp only
  repeat' split
  all_goals simp

@[simp] theorem State.lineFetched_ctl (s : State) (id st : Nat) (x : Xfer) : (s.lineFetched id st x).ctl = s.ctl := by
  unfold State.lineFetched
  repeat' split
  all_goals simp

@[simp] theorem State.recallDone_ctl (s : State) (ev : HomeEv) (c va : Nat) : (s.recallDone ev c va).ctl = s.ctl := by
  unfold State.recallDone
  repeat' split
  all_goals simp

theorem State.evictFor_keepsCtl {s t : State} {ev : HomeEv} (h : s.evictFor ev = some t) : t.ctl = s.ctl := by
  unfold State.evictFor at h
  dsimp only [State.draw] at h
  repeat' split at h
  · cases h; simp
  · cases h; simp
  · cases h

@[simp] theorem State.homePerform_ctl (s : State) (ev : HomeEv) : (s.homePerform ev).ctl = s.ctl := by
  unfold State.homePerform
  extract_lets p line me s₁ others
  have h₁ : s₁.ctl = s.ctl := s.endEv_ctl _
  split
  · simp
  · split
    · simp
    · split
      · repeat' split
        all_goals simp [h₁]
      · split
        · repeat' split
          all_goals simp
        · split
          · simp
          · split
            · rename_i t ht
              exact State.evictFor_keepsCtl ht
            · repeat' split
              all_goals simp

@[simp] theorem State.homeBegin_ctl (s : State) (ev : HomeEv) : (s.homeBegin ev).ctl = s.ctl := by
  unfold State.homeBegin
  dsimp only
  split <;> simp

@[simp] theorem State.homePump_ctl (s : State) (fuel : Nat) : (s.homePump fuel).ctl = s.ctl := by
  induction fuel generalizing s with
  | zero => rfl
  | succ fuel ih =>
    rw [State.homePump]
    repeat' split
    all_goals simp [ih]

@[simp] theorem State.pump_ctl (s : State) : (s.pump).ctl = s.ctl := by simp [State.pump]
@[simp] theorem State.setAport_ctl (s : State) (a st : Nat) : (s.setAport a st).ctl = s.ctl := rfl
@[simp] theorem State.toAgent_ctl (s : State) (a : Nat) (p : Packet) : (s.toAgent a p).ctl = s.ctl := by simp [State.toAgent]

@[simp] theorem State.answerAgent_ctl (s : State) (port ident va : Nat) (rsp : Packet) : (s.answerAgent port ident va rsp).ctl = s.ctl := by
  unfold State.answerAgent
  dsimp only
  split <;> simp

@[simp] theorem State.releaseAt_ctl (s : State) (c va : Nat) : (s.releaseAt c va).ctl = s.ctl := by
  unfold State.releaseAt
  repeat' split
  all_goals simp

@[simp] theorem State.showOutstanding_ctl (s : State) (a : Nat) : (s.showOutstanding a).ctl = s.ctl := rfl

@[simp] theorem State.tryDrop_ctl (s : State) (a : Nat) : (s.tryDrop a).ctl = s.ctl := by
  unfold State.tryDrop
  repeat' split
  all_goals simp

@[simp] theorem State.aportOutcome_ctl (s : State) (a : Nat) : (s.aportOutcome a).ctl = s.ctl := rfl

@[simp] theorem State.dropSettle_ctl (s : State) (a : Nat) : (s.dropSettle a).ctl = s.ctl := by
  unfold State.dropSettle
  repeat' split
  all_goals simp

@[simp] theorem State.dropAnswered_ctl (s : State) (a m : Nat) : (s.dropAnswered a m).ctl = s.ctl := by simp [State.dropAnswered]

@[simp] theorem State.settleFences_ctl (s : State) : s.settleFences.ctl = s.ctl := by
  unfold State.settleFences
  refine State.foldl_ctl _ (fun s f => ?_) _ _
  split <;> simp

@[simp] theorem State.agentFence_ctl (s : State) (a : Nat) (p : Packet) : (s.agentFence a p).ctl = s.ctl := by
  unfold State.agentFence
  dsimp only
  split
  · simp
  · exact (State.settleFences_ctl _).trans (State.foldl_ctl _ (fun s d => s.bumpEpoch_ctl d) _ _)

@[simp] theorem State.refuseAgent_ctl (s : State) (a : Nat) (p : Packet) (st : Status) : (s.refuseAgent a p st).ctl = s.ctl := by
  unfold State.refuseAgent
  split <;> simp

@[simp] theorem State.agentServe_ctl (s : State) (a : Nat) (p : Packet) : (s.agentServe a p).ctl = s.ctl := by
  unfold State.agentServe
  repeat' split
  all_goals simp

@[simp] theorem State.retryHeld_ctl (s : State) : (s.retryHeld).ctl = s.ctl := by simp [State.retryHeld]

@[simp] theorem State.takeIndex_ctl (s : State) (w : Work) : (s.takeIndex w).ctl = s.ctl := by
  unfold State.takeIndex
  split <;> rfl

@[simp] theorem State.tryRetire_ctl (s : State) (w : Work) : (s.tryRetire w).ctl = s.ctl := by simp [State.tryRetire, apply_ite State.ctl]

@[simp] theorem State.retireQueue_ctl (s : State) (q : Nat) (fuel : Nat) : (s.retireQueue q fuel).ctl = s.ctl := by
  induction fuel generalizing s with
  | zero => rfl
  | succ fuel ih =>
    rw [State.retireQueue]
    repeat' split
    all_goals simp [ih]

@[simp] theorem State.jnlCtrl_ctl (s : State) (dst kind t phase : Nat) (left : Nat) : (s.jnlCtrl dst kind t phase left).ctl = s.ctl := by
  simp [State.jnlCtrl]

@[simp] theorem State.dropHeld_ctl (s : State) (custodian t : Nat) : (s.dropHeld custodian t).ctl = s.ctl := rfl

@[simp] theorem State.guestDone_ctl (s : State) (w : Work) (custodian left : Nat) : (s.guestDone w custodian left).ctl = s.ctl := by
  simp [State.guestDone]

@[simp] theorem State.outcome_ctl (s : State) (t : Nat) (st : Status) (result : Nat) : (s.outcome t st result).ctl = s.ctl := by
  unfold State.outcome
  repeat' split
  all_goals simp

@[simp] theorem State.phaseOver_ctl (s : State) (t : Nat) : (s.phaseOver t).ctl = s.ctl := by
  unfold State.phaseOver
  split <;> simp

@[simp] theorem State.retireTags_ctl (s : State) (w : Work) (all : Bool) : (s.retireTags w all).ctl = s.ctl := by
  unfold State.retireTags
  refine (State.modWork_ctl _ _ _).trans (State.foldl_ctl _ (fun s t => ?_) _ _)
  refine State.foldl_ctl _ (fun s d => ?_) _ _
  exact State.foldl_ctl _ (fun s k => by simp) _ _

@[simp] theorem State.commitPhase_ctl (s : State) (t n : Nat) (body : List Byte) : (s.commitPhase t n body).ctl = s.ctl := by
  unfold State.commitPhase
  dsimp only
  repeat' split
  all_goals simp

@[simp] theorem State.phaseTag_ctl (s : State) (t d : Nat) : (s.phaseTag t d).2.ctl = s.ctl := by
  unfold State.phaseTag
  split <;> rfl

@[simp] theorem State.phaseStore_ctl (s : State) (t id ctx cls dga : Nat) (bs : List MByte) (vc : Nat) :
    (s.phaseStore t id ctx cls dga bs vc).ctl = s.ctl := by
  unfold State.phaseStore
  split <;> simp

@[simp] theorem State.adoptedWritten_ctl (s : State) (tag queue origin : Nat) (st : Status) : (s.adoptedWritten tag queue origin st).ctl = s.ctl := by
  unfold State.adoptedWritten
  dsimp only
  repeat' split
  all_goals simp

@[simp] theorem State.postAdopted_ctl (s : State) (w : Work) (index : Nat) (bs : List Byte) : (s.postAdopted w index bs).ctl = s.ctl := by
  unfold State.postAdopted
  repeat' split
  all_goals simp

@[simp] theorem State.retireEffect_ctl (s : State) (e : JEntry) : (s.retireEffect e).ctl = s.ctl := by
  unfold State.retireEffect
  repeat' split
  all_goals simp [apply_ite State.ctl]

@[simp] theorem State.recoverSettle_ctl (s : State) : (s.recoverSettle).ctl = s.ctl := by
  unfold State.recoverSettle
  split <;> rfl

end Sys2Proof.Machine
end

section
/-! What settling leaves of the control seats (R77 to R93): the switch core, host queue pairs and collectives. -/

namespace Sys2Proof.Machine

@[simp] theorem State.setShaper_ctl (s : State) (n : Nat) (x : Shaper) : (s.setShaper n x).ctl = s.ctl := rfl
@[simp] theorem State.fillShapers_ctl (s : State) : (s.fillShapers).ctl = s.ctl := rfl

@[simp] theorem State.gateStart_ctl (s : State) : (s.gateStart).ctl = s.ctl := by
  unfold State.gateStart
  dsimp only
  split <;> simp

@[simp] theorem State.gateInstall_ctl (s : State) (entries : List (Nat × Nat × Bool × Bool)) : (s.gateInstall entries).ctl = s.ctl := by
  unfold State.gateInstall
  extract_lets s₁ s₂ s₃
  have h₁ : s₁.ctl = s.ctl := State.foldl_ctl _ (fun s i => by simp only [State.clearF_ctl]) _ _
  have h₂ : s₂.ctl = s.ctl := (State.foldl_ctl _ (fun s e => by simp only [State.setF_ctl]) _ _).trans h₁
  have h₃ : s₃.ctl = s.ctl := h₂
  repeat' split
  all_goals simp [h₃]

@[simp] theorem State.setLink_ctl (s : State) (port : Nat) (l : Link) : (s.setLink port l).ctl = s.ctl := rfl
@[simp] theorem State.refreshDrr_ctl (s : State) : (s.refreshDrr).ctl = s.ctl := rfl

@[simp] theorem State.stallCheck_ctl (s : State) (port : Nat) : (s.stallCheck port).ctl = s.ctl := by
  unfold State.stallCheck
  dsimp only
  repeat' split
  all_goals simp

@[simp] theorem State.enterWaiting_ctl (s : State) : s.enterWaiting.ctl = s.ctl := by
  unfold State.enterWaiting
  refine (State.foldl_ctl _ (fun s i => s.stallCheck_ctl i) _ _).trans (State.foldl_ctl _ (fun s q => ?_) _ _)
  dsimp only
  split <;> simp

@[simp] theorem State.showPort_ctl (s : State) (port : Nat) : (s.showPort port).ctl = s.ctl := rfl

@[simp] theorem State.setLane_ctl (s : State) (port lane : Nat) (l : LaneState) : (s.setLane port lane l).ctl = s.ctl := by
  unfold State.setLane
  dsimp only
  split <;> simp

@[simp] theorem State.linkRecord_ctl (s : State) (port lane event : Nat) (st : Status) : (s.linkRecord port lane event st).ctl = s.ctl := by
  simp [State.linkRecord]

@[simp] theorem State.portDown_ctl (s : State) (port : Nat) : (s.portDown port).ctl = s.ctl := by
  unfold State.portDown
  refine (State.foldl_ctl _ (fun s d => ?_) _ _).trans (by simp)
  dsimp only
  repeat' split
  all_goals simp

@[simp] theorem State.laneOut_ctl (s : State) (port lane : Nat) (l : LaneState) : (s.laneOut port lane l).ctl = s.ctl := by
  simp [State.laneOut, apply_ite State.ctl]

@[simp] theorem State.setQpState_ctl (s : State) (qp : Nat) (st : QpState) : (s.setQpState qp st).ctl = s.ctl := rfl

@[simp] theorem State.ethRecord_ctl (s : State) (qp : Nat) (st : Status) : (s.ethRecord qp st).ctl = s.ctl := by
  unfold State.ethRecord
  split <;> simp

@[simp] theorem State.ethIngress_ctl (s : State) (port prio bytes : Nat) (enter : Bool) : (s.ethIngress port prio bytes enter).ctl = s.ctl := by
  simp [State.ethIngress, apply_ite State.ctl]

@[simp] theorem State.xferPost_ctl (s : State) (x : SeatId) (st : Status) : (s.xferPost x st).ctl = s.ctl := rfl
@[simp] theorem State.doorbellStore_ctl (s : State) (q base word : Nat) : (s.doorbellStore q base word).ctl = s.ctl := by simp [State.doorbellStore]
@[simp] theorem State.markExcess_ctl (s : State) (port voq waiting : Nat) : (s.markExcess port voq waiting).ctl = s.ctl := rfl

@[simp] theorem State.hostNext_ctl (s : State) (qp : Nat) (f : State → HostReq → State) (hf : ∀ s a, (f s a).ctl = s.ctl) :
    (s.hostNext qp f).ctl = s.ctl := by
  unfold State.hostNext
  dsimp only
  repeat' split
  all_goals simp [hf]

@[simp] theorem State.ethRead_ctl (s : State) (qp va rkey len : Nat) (o : XOwner) : (s.ethRead qp va rkey len o).ctl = s.ctl := by
  simp [State.ethRead]

@[simp] theorem State.modColl_ctl (s : State) (tag : Nat) (f : CollRun → CollRun) : (s.modColl tag f).ctl = s.ctl := rfl

@[simp] theorem State.collOpen_ctl (s : State) : s.collOpen.ctl = s.ctl := by
  refine State.foldl_ctl _ (fun s r => ?_) _ _
  dsimp only
  repeat' split
  all_goals simp

@[simp] theorem State.collClose_ctl (s : State) (tag : Nat) : (s.collClose tag).ctl = s.ctl := by
  unfold State.collClose
  repeat' split
  all_goals simp

@[simp] theorem State.collNoteAbort_ctl (s : State) (id : Nat) (st : Status) : (s.collNoteAbort id st).ctl = s.ctl := by
  unfold State.collNoteAbort
  split <;> rfl

@[simp] theorem State.collSendAborts_ctl (s : State) (d : List Byte) (key ctx : Nat) (st : Status) : (s.collSendAborts d key ctx st).ctl = s.ctl := by
  simp [State.collSendAborts]

@[simp] theorem State.collEnd_ctl (s : State) (tag : Nat) (st : Status) : (s.collEnd tag st).ctl = s.ctl := by
  unfold State.collEnd
  split <;> simp

@[simp] theorem State.collAbort_ctl (s : State) (tag : Nat) (st : Status) (record : Bool) : (s.collAbort tag st record).ctl = s.ctl := by
  unfold State.collAbort
  repeat' split
  all_goals simp

@[simp] theorem State.collAccumulate_ctl (s : State) (tag rank c pos : Nat) (xs : List MElem) : (s.collAccumulate tag rank c pos xs).ctl = s.ctl := by
  unfold State.collAccumulate
  repeat' split
  all_goals simp [apply_ite State.ctl]

@[simp] theorem State.collOut_ctl (s : State) (n : Nat) : (s.collOut n).ctl = s.ctl := rfl

@[simp] theorem State.collStoreResult_ctl (s : State) (tag first : Nat) (xs : List MElem) (request : Option Packet) :
    (s.collStoreResult tag first xs request).ctl = s.ctl := by
  unfold State.collStoreResult
  dsimp only
  repeat' split
  all_goals simp

@[simp] theorem State.collNoteMismatch_ctl (s : State) (tag id k : Nat) : (s.collNoteMismatch tag id k).ctl = s.ctl := by
  unfold State.collNoteMismatch
  split <;> rfl

@[simp] theorem State.collMismatchRecord_ctl (s : State) (w : Work) (k : Nat) : (s.collMismatchRecord w k).ctl = s.ctl := by
  simp [State.collMismatchRecord]

@[simp] theorem State.collStoreRecord_ctl (s : State) (w : Work) (k : Nat) (rec_ : List Byte) : (s.collStoreRecord w k rec_).ctl = s.ctl := by
  unfold State.collStoreRecord
  dsimp only
  repeat' split
  all_goals simp

@[simp] theorem State.collCheckShards_ctl (s : State) (tag : Nat) : (s.collCheckShards tag).ctl = s.ctl := by
  unfold State.collCheckShards
  repeat' split
  all_goals simp (disch := (intros; (repeat' split) <;> simp))

@[simp] theorem State.collSend_ctl (s : State) (tag : Nat) (p : Packet) : (s.collSend tag p).ctl = s.ctl := by simp [State.collSend]

@[simp] theorem State.collSendElems_ctl (s : State) (tag : Nat) (w : Work) (sub dst base first : Nat) (xs : List MElem) :
    (s.collSendElems tag w sub dst base first xs).ctl = s.ctl := by
  simp [State.collSendElems]

@[simp] theorem State.collFree_ctl (s : State) (tag : Nat) (fuel : Nat) : (s.collFree tag fuel).ctl = s.ctl := by
  induction fuel generalizing s with
  | zero => rfl
  | succ fuel ih =>
    rw [State.collFree]
    repeat' split
    all_goals simp [ih]

theorem State.collItem_keepsCtl {s t : State} {w : Work} {r : CollRun} {it : CollItem} (h : s.collItem w r it = some t) : t.ctl = s.ctl := by
  unfold State.collItem at h
  extract_lets d me rank tag key first rec_ first' dests n xs rec' fl s₁ dests' s₂ s₃ s₄ s₅ at h
  have h₁ : s₁.ctl = s.ctl := by
    simp only [s₁]
    split <;> simp
  have h₂ : s₂.ctl = s.ctl := (State.foldl_ctl _ (fun s e => s.collSend_ctl _ _) _ _).trans h₁
  have h₃ : s₃.ctl = s.ctl := (s₂.modColl_ctl _ _).trans h₂
  clear_value s₃
  have h₄ : s₄.ctl = s.ctl := by
    simp only [s₄]
    split <;> simp [h₃]
  clear_value s₄
  have h₅ : s₅.ctl = s.ctl := by
    simp only [s₅]
    repeat' split
    all_goals simp [h₄, h₃]
  clear_value s₅
  split at h
  · cases h; simp
  · split at h
    · split at h
      · cases h
      · split at h
        · cases h; simp
        · cases h; simp
    · split at h
      · split at h
        · cases h
        · split at h
          · cases h; simp
          · cases h; simp
      · split at h
        · split at h
          · cases h
          · cases h
            rw [State.collOut_ctl]
            split <;> simp
        · split at h
          · cases h
          · cases h
            exact h₅

@[simp] theorem State.collPump_ctl (s : State) (tag fuel : Nat) : (s.collPump tag fuel).ctl = s.ctl := by
  induction fuel generalizing s with
  | zero => rfl
  | succ fuel ih =>
    rw [State.collPump]
    split
    · split
      · rfl
      · dsimp only
        split
        · rfl
        · rename_i hstep
          obtain ⟨x, -, hx⟩ := List.exists_of_findSome?_eq_some hstep
          obtain ⟨t', ht', heq⟩ := Option.map_eq_some_iff.mp hx
          cases heq
          rw [ih, State.modColl_ctl]
          exact State.collItem_keepsCtl ht'
    · rfl

@[simp] theorem State.collFinish_ctl (s : State) (w : Work) (r : CollRun) : (s.collFinish w r).ctl = s.ctl := by
  unfold State.collFinish
  split <;> simp

@[simp] theorem State.collNext_ctl (s : State) (tag : Nat) : (s.collNext tag).ctl = s.ctl := by
  unfold State.collNext
  dsimp only
  repeat' split
  all_goals simp

@[simp] theorem State.collStart_ctl (s : State) (w : Work) : (s.collStart w).ctl = s.ctl := by
  unfold State.collStart
  dsimp only
  repeat' split
  all_goals simp

@[simp] theorem State.collPhase_ctl (s : State) (tag : Nat) : (s.collPhase tag).ctl = s.ctl := by
  unfold State.collPhase
  repeat' split
  all_goals simp (disch := (intros; split <;> simp))

@[simp] theorem State.collSettle_ctl (s : State) (tag : Nat) : (s.collSettle tag).ctl = s.ctl := by
  unfold State.collSettle
  dsimp only
  repeat' split
  all_goals simp

@[simp] theorem State.collSourceDone_ctl (s : State) (tag k c : Nat) (data : List MByte) (st : Status) :
    (s.collSourceDone tag k c data st).ctl = s.ctl := by
  unfold State.collSourceDone
  repeat' split
  all_goals simp

@[simp] theorem State.collStored_ctl (s : State) (tag : Nat) (request : Option Packet) (st : Status) : (s.collStored tag request st).ctl = s.ctl := by
  unfold State.collStored
  repeat' split
  all_goals simp

@[simp] theorem State.collAnswered_ctl (s : State) (tag : Nat) (req : Packet) (st : Status) : (s.collAnswered tag req st).ctl = s.ctl := by
  unfold State.collAnswered
  repeat' split
  all_goals simp

end Sys2Proof.Machine
end

section
/-! What settling leaves of the control seats (R77 to R93): pools, islands, tiles and phases. -/

namespace Sys2Proof.Machine

@[simp] theorem State.refreshTblState_ctl (s : State) (t : Nat) : (s.refreshTblState t).ctl = s.ctl := rfl

@[simp] theorem State.freeSlot_ctl (s : State) (t n : Nat) : (s.freeSlot t n).ctl = s.ctl := by
  unfold State.freeSlot
  split <;> simp

@[simp] theorem State.sweepSlot_ctl (s : State) (t n : Nat) : (s.sweepSlot t n).ctl = s.ctl := by simp [State.sweepSlot, apply_ite State.ctl]
@[simp] theorem State.sweepSlots_ctl (s : State) : (s.sweepSlots).ctl = s.ctl := by simp [State.sweepSlots, apply_ite State.ctl]

@[simp] theorem State.poolRowsDone_ctl (s : State) (src phase : Nat) (x : Xfer) : (s.poolRowsDone src phase x).ctl = s.ctl := by
  unfold State.poolRowsDone
  split <;> simp

@[simp] theorem State.modPool_ctl (s : State) (tag : Nat) (f : PoolRun → PoolRun) : (s.modPool tag f).ctl = s.ctl := rfl

@[simp] theorem State.poolEnd_ctl (s : State) (tag : Nat) (st : Status) (result : Nat) : (s.poolEnd tag st result).ctl = s.ctl := by
  simp [State.poolEnd]

@[simp] theorem State.poolCommit_ctl (s : State) (w : Work) (r : PoolRun) : (s.poolCommit w r).ctl = s.ctl := by simp [State.poolCommit]

@[simp] theorem State.poolStart_ctl (s : State) (w : Work) : (s.poolStart w).ctl = s.ctl := by
  unfold State.poolStart
  dsimp only
  split <;> simp

@[simp] theorem State.poolSend_ctl (s : State) (w : Work) (r : PoolRun) : (s.poolSend w r).ctl = s.ctl := by
  unfold State.poolSend
  refine (State.foldl_ctl _ (fun s d => ?_) _ _).trans (State.modPool_ctl _ _ _)
  dsimp only
  split
  · rfl
  · split
    · simp
    · exact (State.foldl_ctl _ (fun s j => (State.issue_ctl _ _ _).trans (State.phaseTag_ctl _ _ _)) _ _).trans (State.modPool_ctl _ _ _)

@[simp] theorem State.poolPhase_ctl (s : State) (tag : Nat) : (s.poolPhase tag).ctl = s.ctl := by
  unfold State.poolPhase
  dsimp only
  repeat' split
  all_goals simp

@[simp] theorem State.poolIndexDone_ctl (s : State) (tag : Nat) (x : Xfer) : (s.poolIndexDone tag x).ctl = s.ctl := by
  unfold State.poolIndexDone
  dsimp only
  repeat' split
  all_goals simp

@[simp] theorem State.poolAnswered_ctl (s : State) (tag : Nat) (st : Status) : (s.poolAnswered tag st).ctl = s.ctl := rfl

@[simp] theorem State.poolStore_ctl (s : State) (w : Work) (r : PoolRun) : (s.poolStore w r).ctl = s.ctl := by
  unfold State.poolStore
  extract_lets stop bytes s₁
  split
  · rfl
  · refine (State.foldl_ctl _ (fun s k => ?_) _ _).trans rfl
    dsimp only
    split <;> simp

@[simp] theorem State.poolOutDone_ctl (s : State) (tag : Nat) (st : Status) : (s.poolOutDone tag st).ctl = s.ctl := rfl

@[simp] theorem State.poolSettle_ctl (s : State) (tag : Nat) : (s.poolSettle tag).ctl = s.ctl := by
  unfold State.poolSettle
  repeat' split
  all_goals simp

@[simp] theorem State.poolRelease_ctl (s : State) : s.poolRelease.ctl = s.ctl := by
  unfold State.poolRelease
  refine State.foldl_ctl _ (fun s r => ?_) _ _
  split <;> simp

@[simp] theorem State.setIsland_ctl (s : State) (n st : Nat) : (s.setIsland n st).ctl = s.ctl := by
  unfold State.setIsland
  split <;> rfl

@[simp] theorem State.showGov_ctl (s : State) : (s.showGov).ctl = s.ctl := rfl

@[simp] theorem State.askWake_ctl (s : State) (island comp inst : Nat) : (s.askWake island comp inst).ctl = s.ctl := by
  simp [State.askWake, apply_ite State.ctl]

@[simp] theorem State.withdrawWake_ctl (s : State) (island : Nat) : (s.withdrawWake island).ctl = s.ctl := by
  unfold State.withdrawWake
  split <;> simp

@[simp] theorem State.loadTile_ctl (s : State) (id ctx cls dga scls sdga : Nat) (t : TileShape) (stride sstride : Nat) :
    (s.loadTile id ctx cls dga scls sdga t stride sstride).ctl = s.ctl := by
  unfold State.loadTile
  repeat' split
  all_goals simp

@[simp] theorem State.tilePlan_ctl (s : State) (w : Work) : (s.tilePlan w).ctl = s.ctl := by simp [State.tilePlan]

@[simp] theorem State.tileRead_ctl (s : State) (w : Work) (i : Nat) : (s.tileRead w i).ctl = s.ctl := by
  unfold State.tileRead
  dsimp only
  split <;> simp

@[simp] theorem State.tileNext_ctl (s : State) (w : Work) (i : Nat) : (s.tileNext w i).ctl = s.ctl := by
  unfold State.tileNext
  repeat' split
  all_goals simp

@[simp] theorem State.tilePhase_ctl (s : State) (tag : Nat) : (s.tilePhase tag).ctl = s.ctl := by
  unfold State.tilePhase
  split <;> simp

@[simp] theorem State.stageTile_ctl (s : State) (id ctx pkey dst commit : Nat) (pieces : List (Nat × List Byte)) (tagged : Bool) (draw : State → Nat × State) (hdraw : ∀ s, (draw s).2.ctl = s.ctl) :
    (s.stageTile id ctx pkey dst commit pieces tagged draw).ctl = s.ctl := by
  simp [State.stageTile, hdraw]

@[simp] theorem State.tileLoaded_ctl (s : State) (tag i : Nat) (x : Xfer) : (s.tileLoaded tag i x).ctl = s.ctl := by
  unfold State.tileLoaded
  dsimp only
  repeat' split
  all_goals simp

@[simp] theorem State.tileStaged_ctl (s : State) (tag i commit : Nat) (st : Status) : (s.tileStaged tag i commit st).ctl = s.ctl := by
  unfold State.tileStaged
  dsimp only
  repeat' split
  all_goals simp

@[simp] theorem State.tileCommitted_ctl (s : State) (tag i : Nat) (st : Status) : (s.tileCommitted tag i st).ctl = s.ctl := by
  unfold State.tileCommitted
  repeat' split
  all_goals simp

@[simp] theorem State.dataPlan_ctl (s : State) (w : Work) : (s.dataPlan w).ctl = s.ctl := by
  unfold State.dataPlan
  dsimp only
  split <;> simp

@[simp] theorem State.dataStore_ctl (s : State) (w : Work) (bs : List MByte) : (s.dataStore w bs).ctl = s.ctl := by
  unfold State.dataStore
  split <;> simp

@[simp] theorem State.dataPhase_ctl (s : State) (tag : Nat) : (s.dataPhase tag).ctl = s.ctl := by
  unfold State.dataPhase
  dsimp only
  repeat' split
  all_goals simp

@[simp] theorem State.dataOver_ctl (s : State) (w : Work) (result : Nat) : (s.dataOver w result).ctl = s.ctl := by
  unfold State.dataOver
  split <;> simp

@[simp] theorem State.dataLoaded_ctl (s : State) (tag : Nat) (x : Xfer) : (s.dataLoaded tag x).ctl = s.ctl := by
  unfold State.dataLoaded
  dsimp only
  repeat' split
  all_goals simp

@[simp] theorem State.dataStored_ctl (s : State) (tag : Nat) (st : Status) : (s.dataStored tag st).ctl = s.ctl := by
  unfold State.dataStored
  repeat' split
  all_goals simp

@[simp] theorem State.modBatch_ctl (s : State) (tag : Nat) (f : BatchRun → BatchRun) : (s.modBatch tag f).ctl = s.ctl := rfl

@[simp] theorem State.batchOpen_ctl (s : State) (tag : Nat) : (s.batchOpen tag).ctl = s.ctl := by
  unfold State.batchOpen
  split <;> rfl

@[simp] theorem State.batchDrop_ctl (s : State) (w : Work) (f : Nat → Bool) : (s.batchDrop w f).ctl = s.ctl := by
  unfold State.batchDrop
  split <;> simp

@[simp] theorem State.batchLoad_ctl (s : State) (w : Work) (o : XOwner) : (s.batchLoad w o).ctl = s.ctl := by
  unfold State.batchLoad
  split <;> simp

@[simp] theorem State.entryStore_ctl (s : State) (w : Work) (id index off : Nat) (bs : List Byte) : (s.entryStore w id index off bs).ctl = s.ctl := by
  unfold State.entryStore
  split <;> simp

@[simp] theorem State.batchPlan_ctl (s : State) (w : Work) : (s.batchPlan w).ctl = s.ctl := by simp [State.batchPlan]

@[simp] theorem State.batchPrepared_ctl (s : State) (tag : Nat) (x : Xfer) : (s.batchPrepared tag x).ctl = s.ctl := by
  unfold State.batchPrepared
  repeat' split
  all_goals simp (disch := (intros; (repeat' split) <;> simp))

@[simp] theorem State.batchCommit_ctl (s : State) (tag : Nat) : (s.batchCommit tag).ctl = s.ctl := by
  unfold State.batchCommit
  split <;> simp

@[simp] theorem State.batchPhase_ctl (s : State) (tag : Nat) : (s.batchPhase tag).ctl = s.ctl := by
  unfold State.batchPhase
  split <;> simp

@[simp] theorem State.batchIssue_ctl (s : State) (w : Work) (b : BatchRun) : (s.batchIssue w b).ctl = s.ctl := by
  unfold State.batchIssue
  refine State.foldl_ctl _ (fun s e => ?_) _ _
  simp only [State.newXfer]
  repeat' split
  all_goals simp

@[simp] theorem State.batchLoaded_ctl (s : State) (tag : Nat) (x : Xfer) : (s.batchLoaded tag x).ctl = s.ctl := by
  unfold State.batchLoaded
  split
  · rfl
  · extract_lets first es s₁ s₂
    have h₂ : s₂.ctl = s.ctl := by
      refine (State.foldl_ctl _ (fun s e => ?_) _ _).trans (s.modBatch_ctl _ _)
      split <;> simp
    split <;> simp [h₂]

@[simp] theorem State.batchAnswered_ctl (s : State) (tag index : Nat) (x : Xfer) : (s.batchAnswered tag index x).ctl = s.ctl := by
  unfold State.batchAnswered
  dsimp only
  repeat' split
  all_goals simp

@[simp] theorem State.batchStored_ctl (s : State) (tag : Nat) : (s.batchStored tag).ctl = s.ctl := by
  unfold State.batchStored
  repeat' split
  all_goals simp

@[simp] theorem State.batchSettle_ctl (s : State) (tag : Nat) : (s.batchSettle tag).ctl = s.ctl := by
  unfold State.batchSettle
  dsimp only
  repeat' split
  all_goals simp

@[simp] theorem State.fencePhase_ctl (s : State) (w : Work) : (s.fencePhase w).ctl = s.ctl := by
  unfold State.fencePhase
  exact State.foldl_ctl _ (fun s d => s.bumpEpoch_ctl d) _ _

@[simp] theorem State.admitSwap_ctl (s : State) : (s.admitSwap).ctl = s.ctl := by
  unfold State.admitSwap
  split <;> simp

@[simp] theorem State.sentinelDue_ctl (s : State) (c : Nat) : (s.sentinelDue c).ctl = s.ctl := by simp [State.sentinelDue, apply_ite State.ctl]

@[simp] theorem State.stepDone_ctl (s : State) (w : Work) : (s.stepDone w).ctl = s.ctl := by
  unfold State.stepDone
  split <;> simp

@[simp] theorem State.stepOutcome_ctl (s : State) (w : Work) : (s.stepOutcome w).ctl = s.ctl := by
  unfold State.stepOutcome
  split <;> simp

@[simp] theorem State.fenceOrStep_ctl (s : State) (tag : Nat) : (s.fenceOrStep tag).ctl = s.ctl := by
  unfold State.fenceOrStep
  repeat' split
  all_goals simp

@[simp] theorem State.settleWorkFences_ctl (s : State) : (s.settleWorkFences).ctl = s.ctl := by
  refine State.foldl_ctl _ (fun s a => ?_) _ _
  repeat' split
  all_goals simp

@[simp] theorem State.modRevoke_ctl (s : State) (tag : Nat) (f : RevokeRun → RevokeRun) : (s.modRevoke tag f).ctl = s.ctl := rfl
@[simp] theorem State.revokeTell_ctl (s : State) (w : Work) (range : Nat × Nat) : (s.revokeTell w range).ctl = s.ctl := by simp [State.revokeTell]

@[simp] theorem State.revokeOrphan_ctl (s : State) (w : Work) (r : RevokeRun) : (s.revokeOrphan w r).ctl = s.ctl := by
  unfold State.revokeOrphan
  repeat' split
  all_goals simp

@[simp] theorem State.revokeAsk_ctl (s : State) (w : Work) (r : RevokeRun) : (s.revokeAsk w r).ctl = s.ctl := by
  unfold State.revokeAsk
  dsimp only
  split <;> simp

@[simp] theorem State.revokePhase0_ctl (s : State) (w : Work) : (s.revokePhase0 w).ctl = s.ctl := by
  unfold State.revokePhase0
  dsimp only
  repeat' split
  all_goals simp

@[simp] theorem State.revokeAgain_ctl (s : State) (w : Work) : (s.revokeAgain w).ctl = s.ctl := by
  unfold State.revokeAgain
  split <;> simp

@[simp] theorem State.revokePhase_ctl (s : State) (tag : Nat) : (s.revokePhase tag).ctl = s.ctl := by
  unfold State.revokePhase
  repeat' split
  all_goals simp

@[simp] theorem State.revokeAnswered_ctl (s : State) (tag : Nat) (st : Status) (bs : List Byte) : (s.revokeAnswered tag st bs).ctl = s.ctl := by
  unfold State.revokeAnswered
  repeat' split
  all_goals simp

@[simp] theorem State.revokeReported_ctl (s : State) (src tag n : Nat) : (s.revokeReported src tag n).ctl = s.ctl := rfl

@[simp] theorem State.revokeQueried_ctl (s : State) (src tag : Nat) (bs : List Byte) : (s.revokeQueried src tag bs).ctl = s.ctl := by
  unfold State.revokeQueried
  repeat' split
  all_goals simp [apply_ite State.ctl]

@[simp] theorem State.revokeSettle_ctl (s : State) (tag : Nat) : (s.revokeSettle tag).ctl = s.ctl := by
  unfold State.revokeSettle
  dsimp only
  repeat' split
  all_goals simp

@[simp] theorem State.setCore_ctl (s : State) (n : Nat) (k : Core) : (s.setCore n k).ctl = s.ctl := rfl

end Sys2Proof.Machine
end

section
/-! What settling leaves of the control seats (R77 to R93): engines, launches and attention units. -/

namespace Sys2Proof.Machine

@[simp] theorem State.ranOn_ctl (s : State) (n e : Nat) (x : Suspect) : (s.ranOn n e x).ctl = s.ctl := rfl
@[simp] theorem State.dmaBytes_ctl (s : State) (n rd wr : Nat) : (s.dmaBytes n rd wr).ctl = s.ctl := rfl

@[simp] theorem State.dmaEnd_ctl (s : State) (n : Nat) (st : Status) : (s.dmaEnd n st).ctl = s.ctl := by
  unfold State.dmaEnd
  dsimp only
  split <;> simp

@[simp] theorem State.dmaNote_ctl (s : State) (n : Nat) (st : Status) : (s.dmaNote n st).ctl = s.ctl := rfl

@[simp] theorem State.dmaFail_ctl (s : State) (n : Nat) (f : Status × Option Nat) : (s.dmaFail n f).ctl = s.ctl := by
  unfold State.dmaFail
  split <;> simp

@[simp] theorem State.dmaRefs_ctl (s : State) (n : Nat) (b : List Byte) (i : Nat) (take : Bool) : (s.dmaRefs n b i take).ctl = s.ctl := by
  unfold State.dmaRefs
  dsimp only
  repeat' split
  all_goals simp

@[simp] theorem State.storeTile_ctl (s : State) (id ctx : Nat) (t : TileShape) (stride sstride : Nat) (x : Xlated) (y : Option Xlated) (ls scales : List (List MByte)) :
    (s.storeTile id ctx t stride sstride x y ls scales).ctl = s.ctl := by
  unfold State.storeTile
  repeat' split
  all_goals simp

@[simp] theorem State.launchTag_ctl (s : State) (n i dst : Nat) : (s.launchTag n i dst).2.ctl = s.ctl := rfl
@[simp] theorem State.dmaPlace_ctl (s : State) (n : Nat) (x : Xlated) : (s.dmaPlace n x).ctl = s.ctl := rfl

@[simp] theorem State.dmaEntry_ctl (s : State) (n : Nat) (c : EngCmd) (i : Nat) : (s.dmaEntry n c i).ctl = s.ctl := by
  unfold State.dmaEntry
  dsimp only
  repeat' split
  all_goals simp

@[simp] theorem State.dmaAt_ctl (s : State) (n i : Nat) (held : Bool) : (s.dmaAt n i held).ctl = s.ctl := rfl

@[simp] theorem State.dmaEntries_ctl (s : State) (n : Nat) (c : EngCmd) (fuel i : Nat) : (s.dmaEntries n c fuel i).ctl = s.ctl := by
  induction fuel generalizing s i with
  | zero => rfl
  | succ fuel ih =>
    rw [State.dmaEntries]
    dsimp only
    repeat' split
    all_goals simp [ih]

@[simp] theorem State.dmaTile_ctl (s : State) (n : Nat) (c : EngCmd) (i : Nat) : (s.dmaTile n c i).ctl = s.ctl := by
  have hstage (s : State) (id ctx pkey dst commit : Nat) (l : List (Nat × List Byte)) :
      (s.stageTile id ctx pkey dst commit l false State.drawTag).ctl = s.ctl := State.stageTile_ctl _ _ _ _ _ _ _ _ _ State.drawTag_ctl
  unfold State.dmaTile
  dsimp only [State.newXfer]
  repeat' split
  all_goals simp [hstage]

@[simp] theorem State.dmaResume_ctl (s : State) (n : Nat) : (s.dmaResume n).ctl = s.ctl := by
  unfold State.dmaResume
  repeat' split
  all_goals simp

@[simp] theorem State.dmaLoaded_ctl (s : State) (n ticket : Nat) (x : Xfer) : (s.dmaLoaded n ticket x).ctl = s.ctl := by
  unfold State.dmaLoaded
  repeat' split
  all_goals simp [apply_ite State.ctl]

@[simp] theorem State.dmaStored_ctl (s : State) (n ticket : Nat) (st : Status) : (s.dmaStored n ticket st).ctl = s.ctl := by
  unfold State.dmaStored
  repeat' split
  all_goals simp

@[simp] theorem State.dmaStaged_ctl (s : State) (n ticket i commit : Nat) (st : Status) : (s.dmaStaged n ticket i commit st).ctl = s.ctl := by
  unfold State.dmaStaged
  dsimp only
  repeat' split
  all_goals simp

@[simp] theorem State.dmaCommitted_ctl (s : State) (n ticket i : Nat) (st : Status) : (s.dmaCommitted n ticket i st).ctl = s.ctl := by
  unfold State.dmaCommitted
  repeat' split
  all_goals simp

@[simp] theorem State.dmaAtomicDone_ctl (s : State) (n ticket i : Nat) (x : Xfer) : (s.dmaAtomicDone n ticket i x).ctl = s.ctl := by
  unfold State.dmaAtomicDone
  repeat' split
  all_goals simp

@[simp] theorem State.launchPlan_ctl (s : State) (w : Work) : (s.launchPlan w).ctl = s.ctl := by simp [State.launchPlan]

@[simp] theorem State.launchPhase_ctl (s : State) (tag : Nat) : (s.launchPhase tag).ctl = s.ctl := by
  unfold State.launchPhase
  split <;> rfl

@[simp] theorem State.modLaunch_ctl (s : State) (tag : Nat) (f : Launch → Launch) : (s.modLaunch tag f).ctl = s.ctl := rfl

@[simp] theorem State.launchEnd_ctl (s : State) (tag : Nat) (st : Status) (result : Nat) : (s.launchEnd tag st result).ctl = s.ctl := by
  simp [State.launchEnd, apply_ite State.ctl]

@[simp] theorem State.launchStart_ctl (s : State) (l : Launch) : (s.launchStart l).ctl = s.ctl := by
  unfold State.launchStart
  refine (State.modLaunch_ctl _ _ _).trans (State.foldl_ctl _ (fun s c => ?_) _ _)
  exact State.setCore_ctl _ _ _

@[simp] theorem State.launchCheck_ctl (s : State) (l : Launch) : (s.launchCheck l).ctl = s.ctl := by
  unfold State.launchCheck
  repeat' split
  all_goals simp

@[simp] theorem State.launchLoad_ctl (s : State) (tag : Nat) (o : XOwner) (voff loff : Nat) : (s.launchLoad tag o voff loff).ctl = s.ctl := by
  unfold State.launchLoad
  repeat' split
  all_goals simp

@[simp] theorem State.launchImage_ctl (s : State) (tag : Nat) (x : Xfer) : (s.launchImage tag x).ctl = s.ctl := by
  unfold State.launchImage
  repeat' split
  all_goals simp

@[simp] theorem State.launchArgs_ctl (s : State) (tag : Nat) (x : Xfer) : (s.launchArgs tag x).ctl = s.ctl := by
  unfold State.launchArgs
  dsimp only
  repeat' split
  all_goals simp

@[simp] theorem State.coreEnds_ctl (s : State) (n : Nat) : (s.coreEnds n).ctl = s.ctl := by
  unfold State.coreEnds
  dsimp only
  repeat' split
  all_goals simp

@[simp] theorem State.settleLaunches_ctl (s : State) : (s.settleLaunches).ctl = s.ctl := by simp [State.settleLaunches, apply_ite State.ctl]

@[simp] theorem State.wakeCore_ctl (s : State) (n : Nat) : (s.wakeCore n).ctl = s.ctl := by
  unfold State.wakeCore
  dsimp only
  split <;> simp

@[simp] theorem State.grantLaunch_ctl (s : State) (l : Launch) : (s.grantLaunch l).ctl = s.ctl := by
  unfold State.grantLaunch
  simp only [State.launchLoad_ctl, State.modLaunch_ctl]
  exact State.foldl_ctl _ (fun s n => s.setCore_ctl _ _) _ _

@[simp] theorem State.attendPlan_ctl (s : State) (w : Work) : (s.attendPlan w).ctl = s.ctl := by simp [State.attendPlan]
@[simp] theorem State.modAtt_ctl (s : State) (tag : Nat) (f : AttRun → AttRun) : (s.modAtt tag f).ctl = s.ctl := rfl
@[simp] theorem State.modChunk_ctl (s : State) (tag sq h c : Nat) (f : AttUnit → AttUnit) : (s.modChunk tag sq h c f).ctl = s.ctl := rfl

@[simp] theorem State.attendEnd_ctl (s : State) (tag : Nat) (st : Status) (result : Nat) : (s.attendEnd tag st result).ctl = s.ctl := by
  simp [State.attendEnd]

@[simp] theorem State.attendPhase_ctl (s : State) (tag : Nat) : (s.attendPhase tag).ctl = s.ctl := by
  unfold State.attendPhase
  dsimp only
  repeat' split
  all_goals simp

@[simp] theorem State.attNoteFail_ctl (s : State) (tag sq h : Nat) (st : Status) (va : Nat) : (s.attNoteFail tag sq h st va).ctl = s.ctl := rfl

@[simp] theorem State.attTable_ctl (s : State) (tag : Nat) (x : Xfer) : (s.attTable tag x).ctl = s.ctl := by
  unfold State.attTable
  repeat' split
  · rfl
  · simp
  · refine (State.foldl_ctl _ (fun s i => ?_) _ _).trans (State.modAtt_ctl _ _ _)
    refine (State.foldl_ctl _ (fun s h => ?_) _ _).trans (State.notePoison_ctl _ _ _ _)
    dsimp only
    split <;> simp
  · rfl

@[simp] theorem State.unitCoreFree_ctl (s : State) (u : AttUnit) : (s.unitCoreFree u).ctl = s.ctl := by
  unfold State.unitCoreFree
  repeat' split
  all_goals simp [apply_ite State.ctl]

@[simp] theorem State.unitFails_ctl (s : State) (u : AttUnit) (st : Status) (va : Nat) : (s.unitFails u st va).ctl = s.ctl := by
  simp [State.unitFails]

@[simp] theorem State.unitStart_ctl (s : State) (u : AttUnit) (n : Nat) : (s.unitStart u n).ctl = s.ctl := by
  unfold State.unitStart
  dsimp only
  repeat' split
  all_goals simp

@[simp] theorem State.attQ_ctl (s : State) (u : AttUnit) (x : Xfer) : (s.attQ u x).ctl = s.ctl := by
  unfold State.attQ
  dsimp only [State.newXfer]
  split
  · rfl
  · split
    · simp
    · split
      · simp
      · refine (State.foldl_ctl _ (fun s b => ?_) _ _).trans (by simp)
        split <;> simp

@[simp] theorem State.attBlocks_ctl (s : State) (u : AttUnit) (x : Xfer) : (s.attBlocks u x).ctl = s.ctl := by
  unfold State.attBlocks
  repeat' split
  all_goals simp [apply_ite State.ctl]

@[simp] theorem State.attLoaded_ctl (s : State) (tag sq h chunk stage : Nat) (x : Xfer) : (s.attLoaded tag sq h chunk stage x).ctl = s.ctl := by
  unfold State.attLoaded
  repeat' split
  all_goals simp

@[simp] theorem State.attStored_ctl (s : State) (tag sq h : Nat) (st : Status) : (s.attStored tag sq h st).ctl = s.ctl := by
  unfold State.attStored
  split <;> rfl

@[simp] theorem State.settleAttend_ctl (s : State) (tag : Nat) : (s.settleAttend tag).ctl = s.ctl := by
  unfold State.settleAttend
  repeat' split
  all_goals simp

theorem GrantPass.launch_keepsCtl (g : GrantPass) (l : Launch) : (g.launch l).state.ctl = g.state.ctl := by
  unfold GrantPass.launch
  dsimp only
  split
  · simp
  · refine State.foldl_ctl _ (fun s n => ?_) _ _
    split <;> simp

theorem GrantPass.unit_keepsCtl (g : GrantPass) (u : AttUnit) : (g.unit u).state.ctl = g.state.ctl := by
  unfold GrantPass.unit
  dsimp only
  repeat' split
  all_goals simp

@[simp] theorem State.grantCores_ctl (s : State) : s.grantCores.ctl = s.ctl := by
  unfold State.grantCores
  extract_lets ls us all
  refine List.foldlRecOn (motive := fun g : GrantPass => g.state.ctl = s.ctl) all _ rfl fun g hg x _ => ?_
  split
  · exact (GrantPass.launch_keepsCtl g _).trans hg
  · exact (GrantPass.unit_keepsCtl g _).trans hg
  · exact hg

end Sys2Proof.Machine
end

section
/-! What settling leaves of the control seats (R77 to R93): searches and structure images. -/

namespace Sys2Proof.Machine

@[simp] theorem State.searchPlan_ctl (s : State) (w : Work) : (s.searchPlan w).ctl = s.ctl := by simp [State.searchPlan]
@[simp] theorem State.modSearch_ctl (s : State) (tag : Nat) (f : SearchRun → SearchRun) : (s.modSearch tag f).ctl = s.ctl := rfl

@[simp] theorem State.searchPhase_ctl (s : State) (tag : Nat) : (s.searchPhase tag).ctl = s.ctl := by
  unfold State.searchPhase
  dsimp only
  repeat' split
  all_goals simp

@[simp] theorem State.searchRef_ctl (s : State) (tag c : Nat) (x : Xlated) : (s.searchRef tag c x).ctl = s.ctl := by simp [State.searchRef]
@[simp] theorem State.searchFailAll_ctl (s : State) (tag : Nat) (st : Status) (addr : Nat) : (s.searchFailAll tag st addr).ctl = s.ctl := rfl

@[simp] theorem State.searchHeader_ctl (s : State) (w : Work) (r : SearchRun) (x : Xfer) : (s.searchHeader w r x).ctl = s.ctl := by
  unfold State.searchHeader
  dsimp only
  split
  · simp
  · split
    · simp
    · split
      · simp
      · split
        · simp
        · refine (State.modSearch_ctl _ _ _).trans ((State.foldl_ctl _ (fun s i => ?_) _ _).trans ((State.foldl_ctl _ (fun s r => ?_) _ _).trans ?_))
          · split <;> simp
          · split
            · split <;> simp
            · rfl
          · simp [State.newXfer]

@[simp] theorem State.searchLoaded1_ctl (s : State) (w : Work) (x : Xfer) : (s.searchLoaded1 w x).ctl = s.ctl := by
  simp [State.searchLoaded1, apply_ite State.ctl]

@[simp] theorem State.searchWake_ctl (s : State) : (s.searchWake).ctl = s.ctl := by
  refine State.foldl_ctl _ (fun s a => ?_) _ _
  dsimp only
  repeat' split
  all_goals simp

@[simp] theorem State.searchDirs_ctl (s : State) (w : Work) (x : Xfer) : (s.searchDirs w x).ctl = s.ctl := by
  unfold State.searchDirs
  dsimp only [State.newXfer]
  split
  · rfl
  · refine (State.foldl_ctl _ (fun s l => ?_) _ _).trans (by simp)
    repeat' split
    all_goals simp

@[simp] theorem State.setSloe_ctl (s : State) (n st : Nat) : (s.setSloe n st).ctl = s.ctl := rfl
@[simp] theorem State.showSegments_ctl (s : State) (n : Nat) : (s.showSegments n).ctl = s.ctl := rfl

@[simp] theorem State.sloeErr_ctl (s : State) (n dga : Nat) (st : Status) : (s.sloeErr n dga st).ctl = s.ctl := by
  unfold State.sloeErr
  split <;> rfl

@[simp] theorem State.sloeBegin_ctl (s : State) (n : Nat) : (s.sloeBegin n).ctl = s.ctl := by
  unfold State.sloeBegin
  repeat' split
  all_goals simp

@[simp] theorem State.segmentFails_ctl (s : State) (g : Segment) (st : Status) : (s.segmentFails g st).ctl = s.ctl := by simp [State.segmentFails]

@[simp] theorem State.searchAdvance_ctl (s : State) (tag : Nat) : (s.searchAdvance tag).ctl = s.ctl := by
  unfold State.searchAdvance
  split <;> rfl

@[simp] theorem State.assign_ctl (s : State) (w : Work) (h : List Byte) (l : Nat) (m : List MByte) : (s.assign w h l m).ctl = s.ctl := by
  unfold State.assign
  dsimp only
  repeat' split
  all_goals simp

@[simp] theorem State.searchSegs_ctl (s : State) (w : Work) (x : Xfer) : (s.searchSegs w x).ctl = s.ctl := by
  unfold State.searchSegs
  repeat' split
  all_goals simp

@[simp] theorem State.showSlots_ctl (s : State) : (s.showSlots).ctl = s.ctl := rfl

@[simp] theorem State.segmentRead_ctl (s : State) (tag num : Nat) (x : Xfer) : (s.segmentRead tag num x).ctl = s.ctl := by
  unfold State.segmentRead
  repeat' split
  all_goals simp

@[simp] theorem State.sloeEndAll_ctl (s : State) (n : Nat) (st : Status) : (s.sloeEndAll n st).ctl = s.ctl := by simp [State.sloeEndAll]

@[simp] theorem State.searchLoaded_ctl (s : State) (tag stage q : Nat) (x : Xfer) : (s.searchLoaded tag stage q x).ctl = s.ctl := by
  unfold State.searchLoaded
  repeat' split
  all_goals simp

@[simp] theorem State.searchStored_ctl (s : State) (tag : Nat) (st : Status) : (s.searchStored tag st).ctl = s.ctl := by
  unfold State.searchStored
  repeat' split
  all_goals simp

@[simp] theorem State.trainPort_ctl (s : State) (port : Nat) : (s.trainPort port).ctl = s.ctl := by simp [State.trainPort, apply_ite State.ctl]
@[simp] theorem State.setSil_ctl (s : State) (st : SilState) : (s.setSil st).ctl = s.ctl := rfl
@[simp] theorem State.silRest_ctl (s : State) : (s.silRest).ctl = s.ctl := rfl
@[simp] theorem State.loadOutcome_ctl (s : State) (st : Status) (reason sec off : Nat) : (s.loadOutcome st reason sec off).ctl = s.ctl := rfl
@[simp] theorem State.dropChunks_ctl (s : State) : (s.dropChunks).ctl = s.ctl := by simp [State.dropChunks]
@[simp] theorem State.silReopen_ctl (s : State) : (s.silReopen).ctl = s.ctl := by simp [State.silReopen, apply_ite State.ctl]
@[simp] theorem State.silSemLost_ctl (s : State) : (s.silSemLost).ctl = s.ctl := by simp [State.silSemLost]

@[simp] theorem State.showSlices_ctl (s : State) : s.showSlices.ctl = s.ctl := by
  unfold State.showSlices
  exact (State.foldl_ctl _ (fun s n => by simp only [State.setF_ctl]) _ _).trans (s.setF_ctl _ _ _)

@[simp] theorem State.clearBanks_ctl (s : State) (f : Fld) : (s.clearBanks f).ctl = s.ctl := rfl

@[simp] theorem State.applyQuotas_ctl (s : State) (img : List Byte) (pos : Nat) : (s.applyQuotas img pos).ctl = s.ctl := by
  unfold State.applyQuotas
  exact State.foldl_ctl _ (fun s e => s.setF_ctl _ _ _) _ _

@[simp] theorem State.applySchedule_ctl (s : State) (img : List Byte) (pos : Nat) : (s.applySchedule img pos).ctl = s.ctl := by
  simp [State.applySchedule, apply_ite State.ctl]

@[simp] theorem State.moveCores_ctl (s : State) (old new : Composition) : (s.moveCores old new).ctl = s.ctl := by
  unfold State.moveCores
  extract_lets at_
  refine State.foldl_ctl _ (fun s n => ?_) _ _
  dsimp only
  repeat' split
  all_goals simp

@[simp] theorem State.moveChannels_ctl (s : State) : (s.moveChannels).ctl = s.ctl := by simp [State.moveChannels, apply_ite State.ctl]

@[simp] theorem State.moveAports_ctl (s : State) (oldMask : Nat) : (s.moveAports oldMask).ctl = s.ctl := by
  simp [State.moveAports, apply_ite State.ctl]

@[simp] theorem State.noteRuns_ctl (s : State) : (s.noteRuns).ctl = s.ctl := rfl
@[simp] theorem State.closeStrayQueues_ctl (s : State) : (s.closeStrayQueues).ctl = s.ctl := by simp [State.closeStrayQueues, apply_ite State.ctl]

@[simp] theorem State.testAborted_ctl (s : State) : (s.testAborted).ctl = s.ctl := by
  unfold State.testAborted
  dsimp only
  split <;> simp

@[simp] theorem State.endTestAccess_ctl (s : State) : (s.endTestAccess).ctl = s.ctl := by simp [State.endTestAccess, apply_ite State.ctl]

@[simp] theorem State.applyPartial_ctl (s : State) (img : List Byte) : (s.applyPartial img).ctl = s.ctl := by
  simp [State.applyPartial, apply_ite State.ctl]

@[simp] theorem State.partialCommitted_ctl (s : State) : (s.partialCommitted).ctl = s.ctl := by
  unfold State.partialCommitted
  repeat' split
  all_goals simp

@[simp] theorem State.placeNumbers_ctl (s : State) (posOf : Nat → Nat) : (s.placeNumbers posOf).ctl = s.ctl := by
  unfold State.placeNumbers
  exact State.foldl_ctl _ (fun s d => by simp only [State.setF_ctl]) _ _

@[simp] theorem State.takeNumber_ctl (s : State) (d : Nat) : (s.takeNumber d).ctl = s.ctl := rfl

@[simp] theorem State.exchangeNumbers_ctl (s : State) (failed spare : Nat) : (s.exchangeNumbers failed spare).ctl = s.ctl := by
  unfold State.exchangeNumbers
  repeat' split
  all_goals simp

@[simp] theorem State.takeComposition_ctl (s : State) (img : List Byte) : (s.takeComposition img).ctl = s.ctl := by
  unfold State.takeComposition
  simp only [State.moveChannels_ctl, State.gateInstall_ctl, State.fillShapers_ctl, State.applySchedule_ctl]
  refine (State.foldl_ctl _ (fun s i => s.clearF_ctl _ _) _ _).trans ((State.foldl_ctl _ (fun s f => s.clearBanks_ctl f) _ _).trans ?_)
  simp only [State.showSlices_ctl, State.applyQuotas_ctl]
  exact State.foldl_ctl _ (fun s t => s.clearBanks_ctl _) _ _

@[simp] theorem State.restoreContexts_ctl (s : State) : s.restoreContexts.ctl = s.ctl := by
  unfold State.restoreContexts
  exact State.foldl_ctl _ (fun s e => by simp) _ _

@[simp] theorem State.restoreQueues_ctl (s : State) : s.restoreQueues.ctl = s.ctl := by
  unfold State.restoreQueues
  refine State.foldl_ctl _ (fun s e => ?_) _ _
  dsimp only
  split <;> simp

@[simp] theorem State.recountExtents_ctl (s : State) : (s.recountExtents).ctl = s.ctl := rfl

end Sys2Proof.Machine
end

section
/-! What settling leaves of the control seats (R77 to R93): tiers, links, resets, admission and settling. -/

namespace Sys2Proof.Machine

@[simp] theorem State.parityRelease_ctl (s : State) (cell : Nat) (whole : Bool) : (s.parityRelease cell whole).ctl = s.ctl := by
  simp [State.parityRelease, apply_ite State.ctl]

@[simp] theorem State.showFrontier_ctl (s : State) (tier off : Nat) : (s.showFrontier tier off).ctl = s.ctl := rfl

@[simp] theorem State.rebuildAdvance_ctl (s : State) (tier : Nat) : (s.rebuildAdvance tier).ctl = s.ctl := by
  unfold State.rebuildAdvance
  repeat' split
  all_goals simp [apply_ite State.ctl]

@[simp] theorem State.rebuildLoss_ctl (s : State) : (s.rebuildLoss).ctl = s.ctl := rfl

@[simp] theorem State.parityUnitDone_ctl (s : State) (cell n : Nat) (x : Xfer) : (s.parityUnitDone cell n x).ctl = s.ctl := by
  unfold State.parityUnitDone
  extract_lets whole mine s₁ s₂ _ s₃
  have h₁ : s₁.ctl = s.ctl := by
    simp only [s₁]
    split
    · refine (State.foldl_ctl _ (fun s e => ?_) _ _).trans (State.serveBytes_ctl _ _ _)
      exact State.foldl_ctl _ (fun s c => by simp) _ _
    · split <;> simp
  have h₃ : s₃.ctl = s.ctl := (s₁.parityRelease_ctl _ _).trans h₁
  split <;> simp [h₃]

@[simp] theorem State.resyncAnswered_ctl (s : State) (cell : Nat) (st : Status) : (s.resyncAnswered cell st).ctl = s.ctl := by
  simp [State.resyncAnswered, apply_ite State.ctl]

@[simp] theorem State.putContent_ctl (s : State) (c : Nat × List Byte × Nat) : (s.putContent c).ctl = s.ctl := by simp [State.putContent]

@[simp] theorem State.admitted_ctl (s : State) : s.admitted.ctl = s.ctl := by
  unfold State.admitted
  extract_lets s₁ ctxs s₂ own s₃ bare s₄ s₅ runs _ s₆
  have h₂ : s₂.ctl = s.ctl := by
    simp only [s₂, s₁, State.recountExtents_ctl, State.restoreQueues_ctl, State.foldl_ctl _ State.loadTable_ctl, State.restoreContexts_ctl]
  have h₃ : s₃.ctl = s.ctl := (State.foldl_ctl _ (fun s e => s.recordClaim_ctl _) _ _).trans h₂
  have h₄ : s₄.ctl = s.ctl := by
    refine (State.foldl_ctl _ (fun s k => ?_) _ _).trans h₃
    extract_lets
    split <;> rfl
  clear_value s₄
  split
  · exact (s₆.setF_ctl _ _ _).trans h₄
  · exact h₄

@[simp] theorem State.unitCopied_ctl (s : State) (tier : Nat) (x : Xfer) : (s.unitCopied tier x).ctl = s.ctl := by
  unfold State.unitCopied
  repeat' split
  all_goals simp [apply_ite State.ctl]

@[simp] theorem State.mirrorTaken_ctl (s : State) (m : Nat) : (s.mirrorTaken m).ctl = s.ctl := by simp [State.mirrorTaken, apply_ite State.ctl]

@[simp] theorem State.becomeMember_ctl (s : State) : s.becomeMember.ctl = s.ctl := by
  have hmirror (s : State) : (if s.memberState (s.partner s.devnum) = .active then s.mirrorTaken (s.partner s.devnum) else s).ctl = s.ctl := by
    split <;> simp
  have hadmitted (s : State) (n : Nat) : ((s.admitted.setF F.JNL_STATE_NO_MIRROR 1).setF F.JNL_CUSTODY_DEVICES n).ctl = s.ctl := by
    rw [State.setF_ctl, State.setF_ctl, State.admitted_ctl]
  unfold State.becomeMember
  extract_lets s₁ s₂ top s₃ _ _ s₄ s₅ s₆
  have h₂ : s₂.ctl = s.ctl := (State.foldl_ctl _ (fun s q => s.applyPartial_ctl _) _ _).trans (s.takeComposition_ctl _)
  have h₃ : s₃.ctl = s.ctl := s₂.noteRuns_ctl.trans h₂
  clear_value s₃
  have h₄ : s₄.ctl = s.ctl := h₃
  have h₅ : s₅.ctl = s.ctl := by
    refine (State.foldl_ctl _ (fun s m => ?_) _ _).trans h₄
    split <;> simp
  exact (hmirror s₆).trans ((hadmitted s₅ _).trans h₅)

@[simp] theorem State.rebindNow_ctl (s : State) (p : Packet) : (s.rebindNow p).ctl = s.ctl := by
  unfold State.rebindNow
  extract_lets d sp mine _ s₁ s₂ s₃ s₄ shift shiftP move _ _ s₅ s₆ s₇ _
  have h₁ : s₁.ctl = s.ctl := rfl
  clear_value s₁
  have h₄ : s₄.ctl = s.ctl := by
    simp only [s₄, s₃, s₂, State.extendMr_ctl, State.count_ctl, State.setF_ctl, State.setMember_ctl, State.exchangeNumbers_ctl, h₁]
  clear_value s₄
  have h₅ : s₅.ctl = s.ctl := h₄
  clear_value s₅
  have h₆ : s₆.ctl = s.ctl := by
    simp only [s₆]
    split
    · exact h₅
    · exact h₅
  clear_value s₆
  have h₇ : s₇.ctl = s.ctl := by
    simp only [s₇]
    split
    · exact s₆.becomeMember_ctl.trans h₆
    · exact h₆
  clear_value s₇
  split
  · exact h₇
  · exact (s₇.respond_ctl _ _ _ _).trans h₇

@[simp] theorem State.rebindSettle_ctl (s : State) : (s.rebindSettle).ctl = s.ctl := by
  unfold State.rebindSettle
  repeat' split
  all_goals simp

@[simp] theorem State.rebindEffect_ctl (s : State) (e : JEntry) : (s.rebindEffect e).ctl = s.ctl := by
  unfold State.rebindEffect
  split <;> simp

@[simp] theorem State.rebindAnswered_ctl (s : State) (m : Nat) : (s.rebindAnswered m).ctl = s.ctl := rfl

@[simp] theorem State.admitSettle_ctl (s : State) : (s.admitSettle).ctl = s.ctl := by
  unfold State.admitSettle
  split <;> rfl

@[simp] theorem State.copyWindows_ctl (s : State) : (s.copyWindows).ctl = s.ctl := rfl

@[simp] theorem State.homeResetSettle_ctl (s : State) : (s.homeResetSettle).ctl = s.ctl := by
  unfold State.homeResetSettle
  split <;> rfl

@[simp] theorem State.settleRetirements_ctl (s : State) : (s.settleRetirements).ctl = s.ctl := by simp [State.settleRetirements]

@[simp] theorem State.contextEffect_ctl (s : State) (e : JEntry) : (s.contextEffect e).ctl = s.ctl := by
  unfold State.contextEffect
  split <;> rfl

@[simp] theorem State.agentAnswered_ctl (s : State) (port ident va : Nat) (req rsp : Packet) :
    (s.agentAnswered port ident va req rsp).ctl = s.ctl := by
  unfold State.agentAnswered
  dsimp only
  split <;> simp

@[simp] theorem State.controlAnswered_ctl (s : State) (kind tag : Nat) (rsp : Packet) : (s.controlAnswered kind tag rsp).ctl = s.ctl := by
  unfold State.controlAnswered
  repeat' split
  all_goals simp

@[simp] theorem State.windowDone_ctl (s : State) (qp psn : Nat) (data : List Byte) (write : Bool) : (s.windowDone qp psn data write).ctl = s.ctl := by
  unfold State.windowDone
  split <;> simp

@[simp] theorem State.phaseEffect_ctl (s : State) (e : JEntry) : (s.phaseEffect e).ctl = s.ctl := by
  unfold State.phaseEffect
  repeat' split
  all_goals simp [apply_ite State.ctl]

@[simp] theorem State.entryEffect_ctl (s : State) (e : JEntry) : (s.entryEffect e).ctl = s.ctl := by
  unfold State.entryEffect
  repeat' split
  all_goals simp

@[simp] theorem State.journalEffects_ctl (s : State) (fuel : Nat) : (s.journalEffects fuel).ctl = s.ctl := by
  induction fuel generalizing s with
  | zero => rfl
  | succ fuel ih =>
    rw [State.journalEffects]
    split
    · rfl
    · refine (ih _).trans ?_
      split <;> simp

@[simp] theorem State.revokePlan_ctl (s : State) (w : Work) : (s.revokePlan w).ctl = s.ctl := by
  unfold State.revokePlan
  dsimp only
  split <;> simp

@[simp] theorem State.planWork_ctl (s : State) (w : Work) : (s.planWork w).ctl = s.ctl := by simp [State.planWork, apply_ite State.ctl]
@[simp] theorem State.runPhase_ctl (s : State) (w : Work) : (s.runPhase w).ctl = s.ctl := by simp [State.runPhase, apply_ite State.ctl]

@[simp] theorem State.advanceWorks_ctl (s : State) : (s.advanceWorks).ctl = s.ctl := by
  refine State.foldl_ctl _ (fun s a => ?_) _ _
  repeat' split
  all_goals simp

@[simp] theorem State.settleEngines_ctl (s : State) : (s.settleEngines).ctl = s.ctl := by
  unfold State.settleEngines
  dsimp only
  split <;> simp

@[simp] theorem State.clearRead_ctl (s : State) (x : SeatId) (off : Nat) : (s.clearRead x off).ctl = s.ctl := by
  unfold State.clearRead
  repeat' split
  all_goals simp [apply_ite State.ctl]

end Sys2Proof.Machine
end

section
/-!
What settling leaves of the control seats (R77 to R93): settling itself. It reaches the seats only through the management
windows that hosts and members write over RDMA, and a channel that is not bound changes neither the bindings nor the record of
the writes (R14, R83).
-/

namespace Sys2Proof.Machine

/-- No channel is bound, and `lw` is the record of the writes of seats. -/
structure Unbound (lw : Tbl Nat) (s : State) : Prop where
  entries : s.ctl.entries = []
  lastWrite : s.ctl.lastWrite = lw

variable {lw : Tbl Nat} {s t : State}

theorem Unbound.of_ctl (h : Unbound lw s) (hc : t.ctl = s.ctl) : Unbound lw t := ⟨hc ▸ h.entries, hc ▸ h.lastWrite⟩

theorem Unbound.entryOf (h : Unbound lw s) (ch : ChanId) : s.ctl.entryOf ch = none := by rw [Ctl.entryOf, h.entries]; rfl

theorem Unbound.seatOf (h : Unbound lw s) (ch : ChanId) : s.seatOf ch = none := by rw [State.seatOf, h.entryOf]; rfl

theorem Unbound.foldl {α : Type} {f : State → α → State} (hf : ∀ s a, Unbound lw s → Unbound lw (f s a)) (l : List α) (h : Unbound lw s) :
    Unbound lw (l.foldl f s) := by
  induction l generalizing s with
  | nil => exact h
  | cons a l ih => exact ih (hf s a h)

/-! ### Seats and claims of an unbound channel -/

theorem Unbound.touch (h : Unbound lw s) (ch : ChanId) : s.touch ch = s := by rw [State.touch, h.seatOf]

theorem Unbound.claimOutcome (h : Unbound lw s) (ch : ChanId) (st : Status) (reason : Nat) : Unbound lw (s.claimOutcome ch st reason) := by
  unfold State.claimOutcome
  split <;> exact ⟨h.entries, h.lastWrite⟩

theorem Unbound.refuse (h : Unbound lw s) (ch : ChanId) (off : Nat) (st : Status) (reason : Nat) : Unbound lw (s.refuse ch off st reason) := by
  rw [State.refuse, h.entryOf]
  exact h.claimOutcome ch st reason

theorem Unbound.closeChannel (h : Unbound lw s) (ch : ChanId) : Unbound lw (s.closeChannel ch) := by
  unfold State.closeChannel
  rw [h.seatOf]
  exact ⟨by simp [h.entries], h.lastWrite⟩

theorem Unbound.claimWrite (h : Unbound lw s) (ch : ChanId) (word v : Nat) : Unbound lw (s.claimWrite ch word v) := by
  unfold State.claimWrite
  split
  · split
    · exact h.claimOutcome ch _ _
    · exact ⟨h.entries, h.lastWrite⟩
  · exact h.claimOutcome ch _ _

theorem Unbound.claimBegin (h : Unbound lw s) (ch : ChanId) : Unbound lw (s.claimBegin ch) := by
  unfold State.claimBegin
  split
  · exact h.claimOutcome ch _ _
  · split
    rename_i i s' hd
    have h' : Unbound lw s' := h.of_ctl (by rw [← State.draw_ctl s, hd])
    split
    · exact ⟨h'.entries, h'.lastWrite⟩
    · split
      · exact ⟨h'.entries, h'.lastWrite⟩
      · exact h.claimOutcome ch _ _

theorem Unbound.claimSubmit (h : Unbound lw s) (ch : ChanId) : Unbound lw (s.claimSubmit ch) := by
  unfold State.claimSubmit
  split
  · exact h.claimOutcome ch _ _
  · split
    · exact ⟨h.entries, h.lastWrite⟩
    · exact h.claimOutcome ch _ _

theorem Unbound.asSeat (h : Unbound lw s) (ch : ChanId) (f : SeatId → Nat → State → State) : Unbound lw (s.asSeat ch f) := by
  rw [State.asSeat, h.entryOf]
  exact h.claimOutcome ch _ _

theorem Unbound.seatCmd (h : Unbound lw s) (ch : ChanId) (op : Nat) : Unbound lw (s.seatCmd ch op) := by
  unfold State.seatCmd
  simp only [h.touch]
  repeat' split
  · exact h.claimBegin ch
  · exact h.claimSubmit ch
  · exact h.asSeat ch _
  · exact h.asSeat ch _
  · exact h
  · exact h.refuse ch _ _ _

/-! ### The management window over an unbound channel -/

theorem Unbound.windowReadWord (h : Unbound lw s) (ch : ChanId) (off : Nat) : Unbound lw (s.windowReadWord ch off).2 := by
  unfold State.windowReadWord
  rw [h.entryOf]
  dsimp only
  split
  · exact h
  · exact h.claimOutcome ch _ _

theorem Unbound.windowRead (h : Unbound lw s) (ch : ChanId) (off len : Nat) : Unbound lw (s.windowRead ch off len).2 := by
  unfold State.windowRead
  split
  · rw [h.touch]
    exact h.refuse ch _ _ _
  · generalize List.range (len / 8) = l
    generalize ([] : List Byte) = bs
    induction l generalizing s bs with
    | nil => exact h
    | cons k l ih => exact ih (h.windowReadWord ch _) _

theorem Unbound.windowWriteWord (h : Unbound lw s) (ch : ChanId) (off v : Nat) (env : WriteEnv) : Unbound lw (s.windowWriteWord ch off v env) := by
  unfold State.windowWriteWord
  rw [h.touch, h.entryOf]
  dsimp only
  split
  · exact h.claimWrite ch _ _
  · split
    · exact h.seatCmd ch _
    · split
      · exact h
      · exact h.claimOutcome ch _ _

theorem Unbound.windowWrite (h : Unbound lw s) (ch : ChanId) (off : Nat) (bs : List Byte) (env : WriteEnv) : Unbound lw (s.windowWrite ch off bs env) := by
  unfold State.windowWrite
  split
  · rw [h.touch]
    exact h.refuse ch _ _ _
  · exact h.foldl (fun s k hs => hs.windowWriteWord ch _ _ env) _

theorem Unbound.windowFailed (h : Unbound lw s) (ch : ChanId) (off : Nat) (st : Status) : Unbound lw (s.windowFailed ch off st) := h.refuse ch off st _

theorem Unbound.windowAnswered (h : Unbound lw s) (ch : ChanId) (off id : Nat) (req rsp : Packet) : Unbound lw (s.windowAnswered ch off id req rsp) := by
  unfold State.windowAnswered
  extract_lets st s' bs
  have h' : Unbound lw s' := by
    simp only [s']
    split
    · exact h
    · exact h.windowFailed ch _ _
  exact h'.of_ctl (s'.modXfer_ctl _ _)

/-! ### The seats' transfers (R385) -/

@[simp] theorem State.setSeatXfer_ctl (s : State) (x : SeatId) (j : Option SeatXfer) : (s.setSeatXfer x j).ctl = s.ctl := by
  cases x <;> rfl

@[simp] theorem State.xferFinish_ctl (s : State) (x : SeatId) (st : Status) (record : Bool) : (s.xferFinish x st record).ctl = s.ctl := by
  unfold State.xferFinish
  dsimp only
  repeat' split
  all_goals simp

@[simp] theorem State.ethReqFailed_ctl (s : State) (o : XOwner) (st : Status) : (s.ethReqFailed o st).ctl = s.ctl := by
  unfold State.ethReqFailed
  split <;> simp

@[simp] theorem State.xferStep_ctl (s : State) (x : SeatId) : (s.xferStep x).ctl = s.ctl := by
  unfold State.xferStep
  dsimp only
  repeat' split
  all_goals simp

@[simp] theorem State.xferAdvance_ctl (s : State) (x : SeatId) (n : Nat) : (s.xferAdvance x n).ctl = s.ctl := by
  unfold State.xferAdvance
  split <;> simp

@[simp] theorem State.xferLoaded_ctl (s : State) (x : SeatId) (data : List MByte) (st : Status) : (s.xferLoaded x data st).ctl = s.ctl := by
  unfold State.xferLoaded
  dsimp only
  repeat' split
  all_goals simp

@[simp] theorem State.xferStored_ctl (s : State) (x : SeatId) (st : Status) : (s.xferStored x st).ctl = s.ctl := by
  unfold State.xferStored
  repeat' split
  all_goals simp

/-! ### Queue pairs and the requests of hosts (R377 to R384) -/

@[simp] theorem State.qpEnd_ctl (s : State) (qp : Nat) (st : Status) : (s.qpEnd qp st).ctl = s.ctl := by
  unfold State.qpEnd
  extract_lets x s₁ s₂ own
  have hown (y : SeatId) (s : State) : (own y s).ctl = s.ctl := by
    simp only [own]
    repeat' split
    all_goals simp
  rw [hown, hown]
  exact (State.foldl_ctl _ (fun s r => s.ethReqFailed_ctl _ _) _ _).trans (s.setQpx_ctl _ _)

theorem Unbound.qpLeave (h : Unbound lw s) (qp : Nat) (next : QpState) : Unbound lw (s.qpLeave qp next) := by
  unfold State.qpLeave
  extract_lets old s₁ s₂
  have h₁ : Unbound lw s₁ := h.of_ctl (by simp [s₁])
  have h₂ : Unbound lw s₂ := by
    simp only [s₂]
    split
    · exact h₁.of_ctl (State.foldl_ctl _ (fun s q => by simp) _ _)
    · exact h₁
  split
  · exact h₂.closeChannel _
  · exact h₂

theorem Unbound.qpFail (h : Unbound lw s) (qp : Nat) (st : Status) : Unbound lw (s.qpFail qp st) :=
  Unbound.qpLeave (h.of_ctl (by simp)) qp .error

theorem Unbound.rdmaFail (h : Unbound lw s) (qp psn : Nat) (st : Status) : Unbound lw (s.rdmaFail qp psn st) :=
  Unbound.qpFail (h.of_ctl (by simp)) qp st

theorem Unbound.regionFail (h : Unbound lw s) (qp psn : Nat) (f : Status × Option Nat) : Unbound lw (s.regionFail qp psn f) := by
  unfold State.regionFail
  refine Unbound.rdmaFail ?_ qp psn f.1
  split
  · exact h.of_ctl (by simp)
  · exact h

theorem Unbound.hostWrite (h : Unbound lw s) (qp psn va rkey : Nat) (bs : List Byte) : Unbound lw (s.hostWrite qp psn va rkey bs) := by
  unfold State.hostWrite
  split
  · exact h.of_ctl (by simp)
  · split
    · exact h.regionFail qp psn _
    · exact h.of_ctl (by simp)

theorem Unbound.hostRead (h : Unbound lw s) (qp psn va rkey len : Nat) : Unbound lw (s.hostRead qp psn va rkey len) := by
  unfold State.hostRead
  split
  · exact h.of_ctl (by simp)
  · split
    · exact h.regionFail qp psn _
    · exact h.of_ctl (by simp)

theorem Unbound.hostAtomic (h : Unbound lw s) (qp psn va rkey atype operand swap : Nat) :
    Unbound lw (s.hostAtomic qp psn va rkey atype operand swap) := by
  unfold State.hostAtomic
  split
  · exact h.rdmaFail qp psn _
  · split
    · exact h.regionFail qp psn _
    · split
      · exact h.rdmaFail qp psn _
      · dsimp only [State.newXfer]
        split
        all_goals exact h.of_ctl (by simp)

theorem Unbound.hostSend (h : Unbound lw s) (qp psn : Nat) (bs : List Byte) : Unbound lw (s.hostSend qp psn bs) := by
  unfold State.hostSend
  dsimp only [State.newXfer]
  split
  · exact h.rdmaFail qp psn _
  · split
    · exact h.of_ctl (by simp)
    · split
      · exact h.rdmaFail qp psn _
      · exact h.of_ctl (State.foldl_ctl _ (fun s i => by simp) _ _)

theorem Unbound.hostPerform (h : Unbound lw s) (qp : Nat) (r : HostReq) : Unbound lw (s.hostPerform qp r) := by
  cases r with
  | write => exact h.hostWrite ..
  | read => exact h.hostRead ..
  | atomic => exact h.hostAtomic ..
  | send => exact h.hostSend ..

theorem Unbound.hostNext (h : Unbound lw s) (qp : Nat) {f : State → HostReq → State} (hf : ∀ s r, Unbound lw s → Unbound lw (f s r)) :
    Unbound lw (s.hostNext qp f) := by
  unfold State.hostNext
  dsimp only
  split
  · exact h
  · rename_i r excess rest _
    have h' : Unbound lw (f (s.setQpx qp { s.qpx qp with waiting := rest }) r) := hf _ r (h.of_ctl (by simp))
    repeat' split
    · exact h
    · exact h'.of_ctl (by simp)
    · exact h'

theorem Unbound.hostPump (h : Unbound lw s) : Unbound lw s.hostPump :=
  h.foldl (fun _ q hs => hs.hostNext q fun _ r h => h.hostPerform q r) _

theorem Unbound.rdmaWriteDone (h : Unbound lw s) (qp psn va len : Nat) (st : Status) : Unbound lw (s.rdmaWriteDone qp psn va len st) := by
  unfold State.rdmaWriteDone
  extract_lets s₁ s₂
  have h₂ : Unbound lw s₂ := h.of_ctl (by simp [s₂, s₁])
  split
  · exact h₂.of_ctl (by simp)
  · exact h₂.rdmaFail qp psn st

theorem Unbound.rdmaReadDone (h : Unbound lw s) (qp psn va len : Nat) (x : Xfer) : Unbound lw (s.rdmaReadDone qp psn va len x) := by
  unfold State.rdmaReadDone
  extract_lets s₁ st data m packets good s₂ s₃
  have h₁ : Unbound lw s₁ := h.of_ctl (by simp [s₁])
  have h₂ : Unbound lw s₂ := h₁.of_ctl (State.foldl_ctl _ (fun s p => by simp) _ _)
  repeat' split
  · exact h₁.rdmaFail qp psn _
  · exact h₂
  · exact Unbound.rdmaFail (h₂.of_ctl (by simp [s₃])) qp _ _

theorem Unbound.rdmaAtomicDone (h : Unbound lw s) (qp psn va : Nat) (old : List Byte) (st : Status) : Unbound lw (s.rdmaAtomicDone qp psn va old st) := by
  unfold State.rdmaAtomicDone
  extract_lets s₁ x
  have h₁ : Unbound lw s₁ := h.of_ctl (by simp [s₁])
  split
  · exact h₁.rdmaFail qp psn st
  · exact h₁.of_ctl (by simp)

theorem Unbound.sendDone (h : Unbound lw s) (q qp psn tail : Nat) (st : Status) : Unbound lw (s.sendDone q qp psn tail st) := by
  unfold State.sendDone
  split
  · exact h.rdmaFail qp psn st
  · split
    · exact h.rdmaFail qp psn _
    · exact h.of_ctl (by simp)

/-! ### Requests of hosts to the management window (R384) -/

theorem Unbound.windowForward (h : Unbound lw s) (ch : ChanId) (qp psn va : Nat) (data : Option (List Byte)) (len : Nat) :
    Unbound lw (s.windowForward ch qp psn va data len) := by
  unfold State.windowForward
  dsimp only [State.newXfer]
  split
  · exact (h.windowFailed ch _ _).of_ctl (State.windowDone_ctl _ _ _ _ _)
  · exact h.rdmaFail qp psn _
  · exact h.of_ctl (State.foldl_ctl _ (fun s c => by simp) _ _)

theorem Unbound.windowServe (h : Unbound lw s) (qp psn va rkey : Nat) (data : Option (List Byte)) (len : Nat) (env : WriteEnv) :
    Unbound lw (s.windowServe qp psn va rkey data len env) := by
  unfold State.windowServe
  extract_lets ch
  rw [h.touch]
  repeat' split
  · exact h.rdmaFail qp psn _
  · exact (h.refuse ch _ _ _).of_ctl (State.windowDone_ctl _ _ _ _ _)
  · exact h.windowForward ch qp psn va data len
  · exact (h.windowWrite ch _ _ env).of_ctl (State.windowDone_ctl _ _ _ _ _)
  · exact (h.windowRead ch _ len).of_ctl (by rename_i hr; rw [hr]; exact State.windowDone_ctl _ _ _ _ _)

theorem Unbound.windowPerform (h : Unbound lw s) (qp : Nat) (r : HostReq) : Unbound lw (s.windowPerform qp r) := by
  cases r with
  | write psn va rkey bs env => exact h.windowServe qp psn va rkey _ _ env
  | read psn va rkey len env => exact h.windowServe qp psn va rkey _ _ env
  | atomic psn => exact h.rdmaFail qp psn _
  | send psn => exact h.rdmaFail qp psn _

/-! ### Settling (spec/95) -/

theorem Unbound.answerWaiter (h : Unbound lw s) (w : Waiter) (req rsp : Packet) : Unbound lw (s.answerWaiter w req rsp) := by
  cases w with
  | window ch off id => exact h.windowAnswered ch off id req rsp
  | none => exact h
  | journal => exact h
  | forwarded p =>
    refine h.of_ctl ?_
    dsimp only [State.answerWaiter]
    split <;> simp
  | reduce tag =>
    refine h.of_ctl ?_
    dsimp only [State.answerWaiter]
    split <;> simp
  | _ => exact h.of_ctl (by simp [State.answerWaiter])

theorem Unbound.deliverAnswers (h : Unbound lw s) : Unbound lw s.deliverAnswers :=
  Unbound.foldl (fun _ a hs => hs.answerWaiter a.1 _ a.2) _ (h.of_ctl rfl)

theorem Unbound.xferDone (h : Unbound lw s) (x : Xfer) : Unbound lw (s.xferDone x) := by
  have hctl (hc : (s.xferDone x).ctl = s.ctl) : Unbound lw (s.xferDone x) := h.of_ctl hc
  unfold State.xferDone at hctl ⊢
  cases hx : x.owner with
  | sendSlots => exact h.sendDone ..
  | rdmaRead => exact h.rdmaReadDone ..
  | rdmaWrite => exact h.rdmaWriteDone ..
  | rdmaAtomic => exact h.rdmaAtomicDone ..
  | _ =>
    rw [hx] at hctl
    refine hctl ?_
    dsimp only
    repeat' split
    all_goals simp

theorem Unbound.finishXfers (h : Unbound lw s) (fuel : Nat) : Unbound lw (s.finishXfers fuel) := by
  induction fuel generalizing s with
  | zero => exact h
  | succ fuel ih =>
    rw [State.finishXfers]
    split
    · exact h
    · refine ih (Unbound.xferDone ?_ _)
      exact h.of_ctl rfl

theorem Unbound.settleWaits (h : Unbound lw s) : Unbound lw s.settleWaits := by
  unfold State.settleWaits
  extract_lets s₁ s₂ s₃ s₄ s₅ s₆ isBlock blocks _
  have h₁ : Unbound lw s₁ := h.of_ctl (by simp [s₁])
  clear_value s₁
  have h₂ : Unbound lw s₂ := Unbound.hostPump (h₁.of_ctl (by simp))
  clear_value s₂
  have h₃ : Unbound lw s₃ := h₂.of_ctl ((State.foldl_ctl _ (fun s n => s.dmaResume_ctl n) _ _).trans (by simp))
  clear_value s₃
  have h₅ : Unbound lw s₅ := h₃.of_ctl (by simp [s₅, s₄])
  clear_value s₅
  have h₆ : Unbound lw s₆ := by
    simp only [s₆]
    split
    · exact h₅.of_ctl (by simp)
    · exact h₅
  clear_value s₆ blocks
  refine Unbound.foldl (fun s p hs => ?_) _ (h₆.of_ctl rfl)
  split
  · exact hs.of_ctl (by simp)
  · exact hs.of_ctl (by simp)

theorem Unbound.settlePass (h : Unbound lw s) : Unbound lw s.settlePass := by
  unfold State.settlePass
  extract_lets s₁ s₂ s₃ s₄
  have h₂ : Unbound lw s₂ := h.deliverAnswers.finishXfers _
  clear_value s₂
  have h₄ : Unbound lw s₄ := h₂.of_ctl (by simp [s₄, s₃])
  clear_value s₄
  exact Unbound.settleWaits (h₄.of_ctl (by simp))

theorem Unbound.settleLoop (h : Unbound lw s) (fuel : Nat) : Unbound lw (s.settleLoop fuel) := by
  induction fuel generalizing s with
  | zero => exact h
  | succ fuel ih =>
    rw [State.settleLoop]
    split
    · exact ih h.settlePass
    · exact h.settlePass

theorem Unbound.settle (h : Unbound lw s) : Unbound lw s.settle := by
  unfold State.settle
  split
  · exact h.of_ctl (by simp)
  · exact (h.settleLoop 64).of_ctl (by simp)

theorem Unbound.windowPump (h : Unbound lw s) (fuel : Nat) : Unbound lw (s.windowPump fuel) := by
  induction fuel generalizing s with
  | zero => exact h
  | succ fuel ih =>
    rw [State.windowPump]
    split
    · exact ih (Unbound.settle (h.hostNext _ fun _ r h => h.windowPerform _ r))
    · exact h

/-- Settling a state in which no channel is bound binds none and notes no write of a seat. -/
theorem Unbound.settleAll (h : Unbound lw s) : Unbound lw s.settleAll := h.settle.windowPump _

end Sys2Proof.Machine
end

section
/-! A seat's reset of island 25 (R413): it clears the seats (R93), the record of their writes with them. -/

namespace Sys2Proof.Machine

variable {lw : Tbl Nat} {s : State} {ch : ChanId} {n : Nat} {x : SeatId} {puf : Bool}

@[simp] theorem State.romBoot_ctl (s : State) : s.romBoot.ctl = s.ctl := by
  unfold State.romBoot
  split
  · simp
  · dsimp only
    rw [State.setF_ctl]
    exact (State.foldl_ctl _ (fun s a => s.extendMr_ctl _ _ _) _ _).trans (by simp)

@[simp] theorem State.deriveKeys_ctl (s : State) (puf : Bool) : (s.deriveKeys puf).ctl = s.ctl := by
  unfold State.deriveKeys
  dsimp only [State.draw]
  repeat' split
  all_goals simp

@[simp] theorem State.secReset_ctl (s : State) : s.secReset.ctl = s.ctl := rfl

@[simp] theorem State.showKeys_ctl (s : State) : s.showKeys.ctl = s.ctl := s.setF_ctl _ _ _

theorem State.resetIsland25_ctl (s : State) (puf : Bool) : (s.resetIsland25 puf).ctl = s.clearSeats.ctl := by
  unfold State.resetIsland25
  dsimp only
  split <;> simp

/-- The reset of island 25 leaves no channel bound and no write of a seat on record. -/
theorem State.islandReset25_unbound (s : State) (puf : Bool) : Unbound [] (s.islandReset 25 puf) := by
  have hclear : Unbound [] s.clearSeats := ⟨s.clearSeats_entries, by unfold State.clearSeats; rfl⟩
  rw [State.islandReset, if_pos rfl]
  exact hclear.of_ctl (s.resetIsland25_ctl puf)

/-- A write of one register by one seat is what is on record after it. -/
theorem Unbound.noteWrite (h : Unbound [] s) (x : SeatId) (off : Nat) : Unbound [(2 * off + x.idx, s.now)] (s.noteWrite x off) := by
  have hw : s.noteWrite x off = { s with ctl.lastWrite := [(2 * off + x.idx, s.now)] } := by simp [State.noteWrite, h.lastWrite, Tbl.get?, Tbl.put]
  rw [hw]
  exact ⟨h.entries, rfl⟩

theorem State.resetL3_orders25 (h : s.ras.running.any (fun q => q.covers ⟨3, 25, true⟩) = false) (x : SeatId) (n : Nat) (puf : Bool) :
    s.resetL3 x n 25 puf = ((s.resetBegin ⟨3, 25, true⟩).setF F.RAS_RESET_DEEP_ISLAND 25).islandReset 25 puf := by
  rw [State.resetL3, if_neg (by decide), State.resetOrder, if_neg (by rw [h]; decide)]

/-- Refutes O51: a seat's `RESET_L3` of island 25 is noted as a write of `RAS_RESET_DEEP` (R91) after the reset has cleared all such notes, so the
state that it answers is not what the reset of island 25 of any `v` settles to: there no write is noted. `coreFiveResets` is such a device. -/
theorem not_resets : ¬ Obligations.Resets := by
  intro h
  obtain ⟨-, -, hdeep⟩ := h
  obtain ⟨hguarded, -⟩ := hdeep coreFiveResets .i3c 0 25 .a true noFirmware (by decide)
  obtain ⟨-, hL3, -⟩ := hguarded coreFiveResets_guarded
  obtain ⟨⟨v, hv, -⟩, -⟩ := hL3 (by decide) (by decide) (by decide)
  have hrun : (coreFiveResets.asked .i3c).ras.running.any (fun q => q.covers ⟨3, 25, true⟩) = false := by rw [State.asked_ras]; decide
  have hx := holder_performs (c := .resetL3 .i3c 25 true) (ch := .i3c) (off := 0x180208) (sem := 0) (n := 0) (x := .a)
    (f := fun x n s => s.resetL3 x n 25 true) rfl coreFiveResets_guarded
    (by rw [State.resetL3_orders25 hrun]; decide +kernel) (by decide)
  rw [State.resetL3_orders25 hrun] at hx
  rw [AnswersThen, hx] at hv
  have hlast := congrArg (fun t => t.ctl.lastWrite) (Host.Outcome.next.inj hv)
  simp only [State.after_ctl] at hlast
  rw [(((State.islandReset25_unbound _ true).noteWrite _ _).settleAll).lastWrite, ((v.islandReset25_unbound true).settleAll).lastWrite] at hlast
  cases hlast

end Sys2Proof.Machine
end
